-- ==== Sys2Proof/Word.lean ====
section
/-! DEFINITION. The word types of the part: the 32-bit register word (R17), the byte, and the 64-bit timeline value (R52). -/

namespace Sys2Proof

/-- A register word: every register is 32 bits wide (R17). -/
abbrev Word := BitVec 32

/-- A byte of memory. -/
abbrev Byte := BitVec 8

/-- A timeline value: an unsigned 64-bit count of ticks of 25.6 ps (R51, R52). -/
abbrev Tlv := BitVec 64

end Sys2Proof
end

