-- ==== Sys2Proof/Syntax.lean ====
section
/-! DEFINITION. The commands of the part: one constructor of `Instr` per row of spec/opcode_table.json, with the
operands the row's rule gives it. A command that is a register access carries its master (R35); a command that
states a happening carries what the hardware measures there. -/

namespace Sys2Proof

/-- The masters of the register fabric (R35). -/
inductive Master where
  | ncp | mi2c | jtag | boot | core (k : Fin 16) | pair | inject
  deriving DecidableEq, Repr

/-- A lane number (R9). -/
abbrev Lane := Fin 64
/-- An octant number. -/
abbrev Oct := Fin 8
/-- A frame engine number. -/
abbrev Eng := Fin 4
/-- A memory channel number. -/
abbrev Chan := Fin 6
/-- A core: lane cores 0 to 15, S0 16, S1 17 (R43). -/
abbrev CoreId := Fin 18

/-- A stretch of a lane's converter output (R82, R87): the sub-converter of its first code, the codes, and how many
symbols at its start only precede what the command states. In a 2.0 mode the first sample is at a symbol's centre (R88).
`k0` is the symbol of the stretch at which the cross-fade of R110 starts, where one does. -/
structure RxStretch where
  sub : Nat
  codes : List (BitVec 8)
  lead : Nat
  k0 : Option Nat
  deriving DecidableEq, Repr

/-- The outputs of the three phase detectors over one CCLK (R97), 2^-20 UI: the spectral line of the squared signal, the
two-sample-per-symbol detector, and the Mueller–Müller detector. -/
structure PdOut where
  line : Int
  two : Int
  mm : Int
  deriving DecidableEq, Repr

/-- What a base interval of a watch chain brings to its tap (R277): the lane's converter output; the phase detectors'
outputs; a reading of the peak detector, or the bit errors that the pattern checker found; the housekeeping result held;
or nothing, where the tap was not available throughout. -/
inductive TapIn where
  | line (x : RxStretch)
  | phase (es : List PdOut)
  | reading (v : Nat)
  | held
  | gap
  deriving DecidableEq, Repr

/-- A load detector of the bias island (R179). -/
inductive Detector where
  | compl | openLoad | vbOvl
  deriving DecidableEq, Repr

/-- What a read of the safety OTP finds changed (R185): a slot whose check bits mismatch, bits set in one copy of a
lane's deny mask, or one copy of the lock bit. -/
inductive OtpUpset where
  | slot (n : Lane) (i : Fin 4)
  | deny (n : Lane) (second : Bool) (mask : BitVec 64)
  | lock (second : Bool)
  deriving DecidableEq, Repr


/-- What a Scout dwell measured on one candidate (R198, R200): the line's share of the squared signal times 256, its
offset in 0.25 ppm, whether the histogram has the candidate's peaks, the framing found (inverted, precoded), and
whether 4 expected markers or 16 sync headers in a row were bad. -/
structure CandMeas where
  share : Nat
  freq : Int
  levels : Bool
  framing : Option (Bool × Bool)
  lost : Bool
  deriving DecidableEq, Repr

/-- What a burst context measured over the 64 symbols after its first hit (R213): their RMS in LSB, the level of their mean
square in 0.25 dB, and the phase of the correlation peak in 1/16 UI. -/
structure CtxMeas where
  rms : Nat
  level : BitVec 8
  phase : BitVec 4
  deriving DecidableEq, Repr

/-- What a lane stage finds where a marker is due (R205, R226): on a P4-212 lane the 257-bit block that stands there; on
the other links whether the standard's marker or sync header is valid, and the identity it carries. -/
inductive MarkerIn where
  | block (w : BitVec 257)
  | std (valid : Bool) (id : BitVec 6)
  deriving DecidableEq, Repr

/-- A codeword as a link without the inner code receives it (R224): which of those interleaved on the stream it is, its
symbols, and the reliability of its 2,720 line symbols. -/
structure RsWord where
  c : Nat
  syms : List (BitVec 10)
  rel : List Nat
  deriving DecidableEq, Repr

/-- The page that a capture plot completes: the next one of its records; one lane's soft words or samples with the TLV
of the first, `burst` where an owner starts it (R311); or a lane's page whose rest a full buffer discarded (R313). -/
inductive PageIn where
  | records
  | lane (l : Lane) (t : BitVec 64) (burst : Bool) (data : List (BitVec 8))
  | lost (l : Lane)
  deriving DecidableEq, Repr

/-- What a page read finds (R302): the codeword bits that it corrects (bit 0 is the coefficient of x^0), none for a clean
page; or an uncorrectable page. -/
inductive PageRes where
  | bits (l : List Nat)
  | unc
  deriving DecidableEq, Repr


/-- What a round measured on one sub-converter (R91), exactly: the sums over the round's samples of x, of abs x, and of
x times the difference of its neighbours, x in units of 2^-15 LSB. -/
abbrev RoundSum := Int × Nat × Int

/-- A lane's measured distribution delay (R60), in ticks. -/
structure LaneDly where
  lane : Lane
  ticks : BitVec 16
  deriving DecidableEq, Repr

/-- The filter whose cross-fade ends (R110, R146, R345). -/
inductive FadePath where
  | eq | tx | haze
  deriving DecidableEq, Repr

/-- A switched domain's code (R443). -/
abbrev Dom := Fin 84

/-- Where a host's datagram comes from (R399): its IP address (4 or 16 bytes) and UDP port. -/
structure NcpPeer where
  ip : List (BitVec 8)
  port : BitVec 16
  deriving DecidableEq, Repr

/-- An address and data pair of a WRITE or TIMED_BATCH (R391). -/
structure WritePair where
  addr : BitVec 32
  data : BitVec 32
  deriving DecidableEq, Repr

/-- A unit's logic self-test signature at boot (R489). -/
structure BootSig where
  unit : Fin 169
  sig : BitVec 32
  deriving DecidableEq, Repr

/-- What the part meets during a boot (R413 to R417, R489): SYS_XI within 1 % of the IRO, the PLLs locked in time, the
lane dies and stacks trained (bit per die and per stack), the flash devices still busy after 2.0 s, the rows that memory
self-test replaced and the memories that it could not repair, in order, and the logic self-test signatures. -/
structure BootIn where
  sysXi : Bool
  corePll : Bool
  memPll : Bool
  dies : BitVec 4
  stks : BitVec 6
  busyA : Bool
  busyB : Bool
  rows : BitVec 16
  badRams : List (BitVec 8)
  sigs : List BootSig
  deriving DecidableEq, Repr

/-- What a calibration run measured (R479): the 4,096 raw codes of the converter, after the input gain of HKIN; the IRO and LPO edges over 10,000,000 CAL_CLK cycles with the trims that null the errors; the sums of 64 raw
readings of the sensors; or nothing. -/
inductive CalMeas where
  | hkref (raws : List (BitVec 12))
  | osc (iro lpo : Nat) (iroTrim lpoTrim : BitVec 8)
  | temp (sums : List Int)
  | none
  deriving DecidableEq, Repr


/-- One constructor per row of spec/opcode_table.json. -/
inductive Instr where
  /-- REGISTER_WRITE [R19]: A master writes a register or memory word that has no row of its own; the fabric serialises it and applies each field's access code. -/
  | registerWrite (m : Master) (addr : Word) (w : Word)
  /-- ACCESS_TIMEOUT [R38]: An access not completed within 65,536 PCLK is ended, with read data 0 and EV_GLB_ACCESS_TIMEOUT. -/
  | accessTimeout
  /-- GLB_RESET [R46]: A write of CHIP = 1 with KEY 0xA5C3 schedules a chip reset 2.0 µs later. -/
  | glbReset (m : Master) (w : Word)
  /-- CHIP_RESET_BEGIN [R46]: A scheduled chip reset begins: accesses in flight are abandoned, sessions are lost and CHIP fields reset. -/
  | chipResetBegin
  /-- CHIP_RESET_RELEASE [R46]: After 10 µs the chip reset is released and boot step 1 begins. -/
  | chipResetRelease
  /-- GLB_INJ_TIMEOUT [R47]: GLB.INJECT.TIMEOUT raises an injected access-timeout event as if master 0x3F had read 0xFFFF_FFFC. -/
  | glbInjTimeout (m : Master) (w : Word)
  /-- GLB_INJ_DECODE [R47]: GLB.INJECT.DECODE raises an injected decode-error event as if master 0x3F had read 0xFFFF_FFFC. -/
  | glbInjDecode (m : Master) (w : Word)
  /-- TL_ENABLE_ON [R55]: ENABLE is written 0 to 1: TLV is loaded from EPOCH, and the timeline enters FREE, SEEK or COAST. -/
  | tlEnableOn (m : Master) (w : Word)
  /-- TL_ENABLE_OFF [R56]: ENABLE is written 1 to 0: the timeline stops at once, holds TLV and drops any pending step. -/
  | tlEnableOff (m : Master) (w : Word)
  /-- TL_MODE_WRITE [R56]: A write of TL.CTRL.MODE moves the timeline between FREE and SEEK, or changes how a coast will be resolved. -/
  | tlModeWrite (m : Master) (w : Word)
  /-- SYNC_PULSE [R57]: A TL_SYNC pulse is sampled and handled: it loads TLV in SEEK, resolves a coast, or is classified as match, mismatch or spurious. -/
  | syncPulse (cycles : BitVec 40)
  /-- SYNC_MISS [R57]: No pulse arrives by E + WINDOW: the miss is counted, E advances, and LOSS_N misses move LOCKED to HOLDOVER. -/
  | syncMiss
  /-- TIMELINE_STEP [R58]: A pending timeline step takes effect 16,384 ticks after its pulse, in the timeline unit and every lane at once. -/
  | timelineStep
  /-- COASTED_CLEAR [R65]: A write of 1 to TL.STATUS.COASTED outside COAST clears COASTED and UNC. -/
  | coastedClear (m : Master) (w : Word)
  /-- EMBER_RATE_WINDOW [R63]: A 2^24-cycle measurement window ends, and the LPO rate is written to EMBER_RATE. -/
  | emberRateWindow (rate : Word)
  /-- TL_CAL [R60]: A write of TL.CTRL.CAL starts a background remeasurement of the lane distribution delays. -/
  | tlCal (m : Master) (w : Word)
  /-- LANE_DLY_MEASURED [R60]: The delay measurement completes, and CAL_BUSY clears. -/
  | laneDlyMeasured (dly : List LaneDly)
  /-- REPLICA_CORRECTION [R60]: Every 1,024 TL_CLK cycles each lane's TLV replica is corrected from the timeline unit. -/
  | replicaCorrection
  /-- ACT_READ [R72]: ACT_CMD OP 0 copies an entry into W0–W3 and ACT_STATUS. -/
  | actRead (m : Master) (w : Word)
  /-- ACT_WRITE_ARM [R69]: ACT_CMD OP 1 checks the words, writes them to the entry and arms it. -/
  | actWriteArm (m : Master) (w : Word)
  /-- ACT_WRITE [R69]: ACT_CMD OP 2 checks the words and writes them to the entry as IDLE. -/
  | actWrite (m : Master) (w : Word)
  /-- ACT_ARM [R69]: ACT_CMD OP 3 checks the entry's words against the issuing master and arms the entry. -/
  | actArm (m : Master) (w : Word)
  /-- ACT_DISARM [R72]: ACT_CMD OP 4 returns the entry to IDLE. -/
  | actDisarm (m : Master) (w : Word)
  /-- ACT_CLEAR [R72]: ACT_CMD OP 5 empties the entry. -/
  | actClear (m : Master) (w : Word)
  /-- ACTION_DISPATCH [R70]: An armed entry becomes due 256,000 ticks ahead of TIME and is dispatched to its target. -/
  | actionDispatch
  /-- ACTION_EXECUTE [R70]: A dispatched action executes at X as a commit, register write, capture trigger or mailbox signal, and a periodic entry re-arms. -/
  | actionExecute (i : Fin 1024)
  /-- GLB_COMMIT [R75]: A write of GLB.COMMIT requests an immediate commit at its arrival TLV + 16,384 ticks. -/
  | glbCommit (m : Master) (w : Word)
  /-- COMMIT_EXECUTE [R74]: At the commit instant each named group checks its agreement rules and copies its shadows into the active fields. -/
  | commitExecute
  /-- TL_INJ_TLCLK_LOSS [R78]: INJ_TLCLK_LOSS makes the monitor declare TL_CLK lost until the next pulse or 2^24 cycles. -/
  | tlInjTlclkLoss (m : Master) (w : Word)
  /-- TL_INJ_TLCLK_LOSS_END [R78]: The injected loss ends at a pulse or after 2^24 cycles and acts as a declaration of good. -/
  | tlInjTlclkLossEnd
  /-- TL_INJ_REJECT [R78]: INJ_REJECT makes the next commit reject every group it names, with cause 0xF. -/
  | tlInjReject (m : Master) (w : Word)
  /-- TL_INJ_LATE [R78]: INJ_LATE makes the next dispatched action execute late. -/
  | tlInjLate (m : Master) (w : Word)
  /-- TL_INJ_SYNC_MISS [R78]: INJ_SYNC_MISS treats the next expected pulse as missed. -/
  | tlInjSyncMiss (m : Master) (w : Word)
  /-- TL_INJ_SYNC_ERR [R78]: INJ_SYNC_ERR classifies the next pulse as a mismatch of +1 cycle. -/
  | tlInjSyncErr (m : Master) (w : Word)
  /-- LEGACY_FIELD_WRITE [R77]: A write to an ST field of a legacy class takes effect at once, opens or closes a pair window, or, for TX, is held as in R525. -/
  | legacyFieldWrite (m : Master) (addr : Word) (w : Word)
  /-- LEGACY_WINDOW_END [R77]: A pair window expires: the group's rules are rechecked, and the shadows either take effect or are reloaded with a mismatch count. -/
  | legacyWindowEnd (cls : Fin 14) (inst : Lane)
  /-- RX_ENABLE [R101]: A write of RX.CTRL.ENABLE moves the receive path between OFF and NOCLK. -/
  | rxEnable (m : Master) (n : Lane) (w : Word)
  /-- LANE_RST [R105]: LANE_RST resets the BLOCK fields of the lane outside the BIAS sub-range. -/
  | laneRst (m : Master) (n : Lane) (w : Word)
  /-- AGC_EVAL [R83]: At the end of each AGC period the gain code steps down, steps up or holds. -/
  | agcEval (n : Lane) (codes : List (BitVec 8))
  /-- LOS_ASSERT [R85]: The swing stays below the assert level for ASSERT_TIME: LOS asserts, and the lane leaves FREQ, PHASE or LOCKED for SIGWAIT. -/
  | losAssert (n : Lane) (swing : BitVec 8)
  /-- LOS_DEASSERT [R85]: The swing stays above the deassert level for DEASSERT_TIME: LOS deasserts, and SIGWAIT moves to FREQ. -/
  | losDeassert (n : Lane) (swing : BitVec 8)
  /-- CAL_ROUND_END [R91]: A background calibration round ends and updates the interleave trims; the 256th round in CAL moves the lane to SIGWAIT. -/
  | calRoundEnd (n : Lane) (sums : List RoundSum)
  /-- TRIM_DATA_WRITE [R94]: A write of RX.TRIM_DATA replaces a sub-converter's trims at the next round boundary. -/
  | trimDataWrite (m : Master) (n : Lane) (w : Word)
  /-- TR_WINDOW_END [R101]: A 1,024-CCLK timing-recovery window ends, and the frequency, phase, lock and unlock conditions are evaluated. -/
  | trWindowEnd (n : Lane) (pd : List PdOut)
  /-- RX_INJ_LOS [R104]: INJ_LOS treats LOS as asserted at once. -/
  | rxInjLos (m : Master) (n : Lane) (w : Word)
  /-- RX_INJ_UNLOCK [R104]: INJ_UNLOCK makes a LOCKED lane leave LOCKED with cause 6. -/
  | rxInjUnlock (m : Master) (n : Lane) (w : Word)
  /-- RX_INJ_CAL [R104]: INJ_CAL sets an injected calibration limit. -/
  | rxInjCal (m : Master) (n : Lane) (w : Word)
  /-- EQ_COEF_WRITE [R109]: A write of EQ.COEF_DATA writes a bank coefficient, or is refused if the bank is active, fading out or loading. -/
  | eqCoefWrite (m : Master) (n : Lane) (w : Word)
  /-- EQ_LOAD_START [R128]: EQ.LOAD START begins copying a bank image from core data memory. -/
  | eqLoadStart (m : Master) (n : Lane) (w : Word)
  /-- EQ_LOAD_DONE [R128]: The bank load completes, and LOAD_BUSY clears. -/
  | eqLoadDone (n : Lane)
  /-- CROSSFADE_END [R110]: A cross-fade reaches its last symbol: XF_BUSY clears, FADES counts, and a deferred AGC step is made. -/
  | crossfadeEnd (n : Lane) (path : FadePath)
  /-- STAT_START [R127]: A write of STAT_CTRL.START starts a statistics block once no fade or load is busy. -/
  | statStart (m : Master) (n : Lane) (w : Word)
  /-- STAT_BLOCK_END [R125]: A statistics block of N symbols ends, and its push to core data memory begins. -/
  | statBlockEnd (n : Lane) (x : RxStretch)
  /-- STAT_PUSH_DONE [R126]: The push completes: the header is written, SEQ copied and the core's push interrupt raised. -/
  | statPushDone (n : Lane)
  /-- MSE_WINDOW_END [R131]: A 65,536-symbol MSE window ends, and MSE_HIGH is updated with its event. -/
  | mseWindowEnd (n : Lane) (x : RxStretch)
  /-- TRELLIS_MODE_CHANGE [R118]: Trellis moves between full and reduced mode at a CCLK within 1.0 µs of the request. -/
  | trellisModeChange (n : Lane)
  /-- EQ_INJ_MSE [R136]: INJ_MSE takes the next MSE window as above MSE_HI. -/
  | eqInjMse (m : Master) (n : Lane) (w : Word)
  /-- EQ_INJ_ALARM [R136]: INJ_ALARM sets ALARM with cause 3. -/
  | eqInjAlarm (m : Master) (n : Lane) (w : Word)
  /-- TX_ENABLE [R156]: A write of TX.CTRL.ENABLE moves the transmit path between OFF, NOCLK and ACTIVE. -/
  | txEnable (m : Master) (n : Lane) (w : Word)
  /-- TX_UNDERRUN [R140]: A link slot arrives empty when a symbol is due: the DAC outputs FILL, and the underrun is counted. -/
  | txUnderrun (n : Lane)
  /-- TX_COEF_WRITE [R145]: A write of TX.COEF_DATA writes a tap, or is refused by the bank rules. -/
  | txCoefWrite (m : Master) (n : Lane) (w : Word)
  /-- TX_HELD_RELEASE [R159]: When the synthesiser locks, held TX commits are released at Z + 16,384 ticks, checked, and their slip is recorded. -/
  | txHeldRelease (o : Oct)
  /-- TX_HELD_TIMEOUT [R160]: A held commit not released within 2 ms, or at a synthesiser failure, is rejected with cause 0x4. -/
  | txHeldTimeout (n : Lane)
  /-- TX_INJ_ALARM [R163]: TX.INJECT.INJ_ALARM sets ALARM with cause 7. -/
  | txInjAlarm (m : Master) (n : Lane) (w : Word)
  /-- SYN_ENABLE [R154]: A write of SYN_CTRL.ENABLE starts the synthesiser in CAL, or turns it OFF. -/
  | synEnable (m : Master) (o : Oct) (w : Word)
  /-- RECAL [R154]: SYN_CTRL.RECAL returns the synthesiser to CAL with ATTEMPT 0. -/
  | recal (m : Master) (o : Oct) (w : Word)
  /-- OCT_RST [R164]: OCT_RST resets the octant's BLOCK fields, sparing its bias island. -/
  | octRst (m : Master) (o : Oct) (w : Word)
  /-- SYN_BAND_FOUND [R154]: The VCO band search completes, and the synthesiser moves to ACQ. -/
  | synBandFound (o : Oct) (band : BitVec 8)
  /-- SYN_CAL_TIMEOUT [R154]: No band is found within 180 µs: the attempt is retried, or the synthesiser fails after the third. -/
  | synCalTimeout (o : Oct)
  /-- SYN_LOCK_ACQUIRED [R154]: The lock criterion is met: the synthesiser enters LOCKED, and its lanes may leave NOCLK. -/
  | synLockAcquired (o : Oct)
  /-- SYN_ACQ_TIMEOUT [R154]: No lock within 100 µs: the attempt is retried, or the synthesiser fails after the third. -/
  | synAcqTimeout (o : Oct)
  /-- SYN_LOSS_OF_LOCK [R154]: The phase error or a slip ends LOCKED: the synthesiser returns to ACQ, and its lanes go to NOCLK. -/
  | synLossOfLock (o : Oct)
  /-- OCT_INJ_LOL [R163]: INJ_LOL forces LOCKED to ACQ as a loss of lock. -/
  | octInjLol (m : Master) (o : Oct) (w : Word)
  /-- OCT_INJ_FAIL [R163]: INJ_FAIL makes the current CAL or ACQ attempt fail as the third. -/
  | octInjFail (m : Master) (o : Oct) (w : Word)
  /-- SLEW_UPDATE [R171]: At each slew interval, each bias output moves towards its target by at most STEP codes. -/
  | slewUpdate (n : Lane) (vb : Bool)
  /-- RANGE_HOLD_END [R172]: The 10 µs range hold ends, and the output ramps to its new target. -/
  | rangeHoldEnd (n : Lane) (vb : Bool)
  /-- BURST_GATE_EDGE [R173]: A transmit burst gate edge steps the IB output between DARK and CODE. -/
  | burstGateEdge (n : Lane)
  /-- BIAS_CLEAR_WRITE [R175]: A write of BIAS.CLEAR stores the clear codes and, before the lane's first BIAS commit, loads them as the target. -/
  | biasClearWrite (m : Master) (n : Lane) (w : Word)
  /-- BIAS_CLR_ASSERT [R177]: The filtered BIAS_CLR_N asserts: every output clears to its clear code, and EV_SAFE_CLEAR is raised. -/
  | biasClrAssert
  /-- BIAS_CLR_RELEASE [R178]: Both clearing sources go inactive, and each output returns to its target. -/
  | biasClrRelease
  /-- SW_CLR_WRITE [R177]: A write of SAFE.CLR.SW_CLR starts or ends software clearing of every output. -/
  | swClrWrite (m : Master) (w : Word)
  /-- DETECTOR_DECLARE [R179]: A load detector's condition holds for DET_TIME: the detection is counted, reported and possibly clears the output. -/
  | detectorDeclare (n : Lane) (d : Detector)
  /-- DETECTOR_RELEASE [R179]: A detector's condition has been absent for DET_TIME, and the detector releases. -/
  | detectorRelease (n : Lane) (d : Detector)
  /-- BIAS_STATUS_CLEAR [R180]: A W1C write to a detection bit clears it, and ends clearing once the detector has released. -/
  | biasStatusClear (m : Master) (n : Lane) (w : Word)
  /-- APC_CODE_WRITE [R181]: A write of APC_CODE is clamped, becomes the IB target and restarts the APC watchdog. -/
  | apcCodeWrite (m : Master) (n : Lane) (w : Word)
  /-- APC_WATCHDOG_EXPIRE [R183]: No APC_CODE write within WDOG × 1.024 ms: WDOG is set, and the output holds or clears. -/
  | apcWatchdogExpire (n : Lane)
  /-- OTP_REREAD [R185]: Every 2^20 LPO cycles the safety OTP is re-read, and the effective limits are updated. -/
  | otpReread (found : List OtpUpset)
  /-- DUTY_SPENT [R190]: The emission count reaches the budget: the lane is clamped to the emission code for the rest of the window. -/
  | dutySpent (n : Lane)
  /-- DUTY_WINDOW_END [R190]: A 2^18-PCLK duty window ends: the count restarts, and the clamp releases. -/
  | dutyWindowEnd
  /-- OTP_PROG_LIMIT [R192]: PROG_CMD OP 1 programs a limit slot of the named lane. -/
  | otpProgLimit (m : Master) (w : Word)
  /-- OTP_PROG_DENY [R192]: PROG_CMD OP 2 sets deny bits of the named lane in both copies. -/
  | otpProgDeny (m : Master) (w : Word)
  /-- OTP_PROG_LOCK [R192]: PROG_CMD OP 3 sets the safety lock bit. -/
  | otpProgLock (m : Master) (w : Word)
  /-- OTP_PROG_DONE [R193]: An OTP operation ends: PROG_RESULT is written, and EV_SAFE_PROG is raised. -/
  | otpProgDone (verified : Bool)
  /-- BIAS_INJ_OPEN [R195]: INJ_OPEN sets an open-load detection for one DET_TIME. -/
  | biasInjOpen (m : Master) (n : Lane) (w : Word)
  /-- BIAS_INJ_COMPL [R195]: INJ_COMPL sets a compliance detection for one DET_TIME. -/
  | biasInjCompl (m : Master) (n : Lane) (w : Word)
  /-- BIAS_INJ_VBOVL [R195]: INJ_VBOVL sets a VB overload detection for one DET_TIME. -/
  | biasInjVbovl (m : Master) (n : Lane) (w : Word)
  /-- BIAS_INJ_WDOG [R195]: INJ_WDOG sets the APC watchdog detection. -/
  | biasInjWdog (m : Master) (n : Lane) (w : Word)
  /-- SAFE_INJ_LIMIT [R195]: INJ_LIMIT treats lane INJ_LANE as clamped by IB_MAX = 0 until the next re-read. -/
  | safeInjLimit (m : Master) (w : Word)
  /-- SAFE_INJ_DUTY [R195]: INJ_DUTY spends the duty budget of lane INJ_LANE at once. -/
  | safeInjDuty (m : Master) (w : Word)
  /-- SAFE_INJ_CHANNEL [R195]: INJ_CHANNEL treats the active channel of lane INJ_LANE as denied. -/
  | safeInjChannel (m : Master) (w : Word)
  /-- SAFE_INJ_OTP [R195]: INJ_OTP sets OTP_ERR. -/
  | safeInjOtp (m : Master) (w : Word)
  /-- SAFE_INJ_PROG [R195]: INJ_PROG makes the next programming operation end with result 6. -/
  | safeInjProg (m : Master) (w : Word)
  /-- SCOUT_START [R199]: A write of SCOUT_CTRL.EN = 1 starts Scout passes. -/
  | scoutStart (m : Master) (n : Lane) (w : Word)
  /-- SCOUT_DWELL_END [R199]: A Scout dwell ends: candidate stages and BEST are updated, and AUTO may request a commit. -/
  | scoutDwellEnd (n : Lane) (res : List CandMeas)
  /-- SCOUT_FRAME_TIMEOUT [R200]: A LEVELS candidate finds no framing within FRAME_TO, and falls back. -/
  | scoutFrameTimeout (n : Lane) (j : Fin 4)
  /-- MARKER_RECEIVED [R205]: A lane stage receives an expected alignment marker or block, updates marker lock and stamps it. -/
  | markerReceived (n : Lane) (x : MarkerIn)
  /-- MARKER_ROUND [R207]: A marker round completes: skews are computed, and the group state moves among DOWN, SEARCH and ALIGNED. -/
  | markerRound (e : Eng) (g : Fin 16)
  /-- BURST_MODE_WRITE [R209]: A write of RX.CTRL.BURST on a Glint lane hands the front end to, or returns it from, the burst controller. -/
  | burstModeWrite (m : Master) (n : Lane) (w : Word)
  /-- ENERGY_WINDOW_END [R210]: An energy window ends: the detector asserts or deasserts, which opens a context or ends an owner. -/
  | energyWindowEnd (n : Lane) (sym : Nat) (mean : Nat)
  /-- CORRELATOR_HIT [R211]: The start correlator hits: the hit is adopted by a context, opens a free context, or is dropped. -/
  | correlatorHit (n : Lane) (sym : Nat) (corr : Nat)
  /-- DELIMITER_QUALIFY [R213]: A context's delimiter correlation reaches QUAL_TH: it becomes OWNER or is decided by the capture policy. -/
  | delimiterQualify (n : Lane) (c : Fin 2) (corr : Nat) (meas : CtxMeas) (both : Option CtxMeas)
  /-- CONTEXT_QUAL_TIMEOUT [R212]: No delimiter within QUAL_WIN × 64 symbols releases the context as false. -/
  | contextQualTimeout (n : Lane) (c : Fin 2)
  /-- BURST_WINDOW_OPEN [R217]: A scheduled burst window opens at its resolved symbol, or is late or missed. -/
  | burstWindowOpen (n : Lane) (j : Fin 4)
  /-- BURST_WINDOW_CLOSE [R218]: A burst window closes: a context in ACQ is released, and the transmit gate shuts. -/
  | burstWindowClose (n : Lane) (j : Fin 4)
  /-- GUARD_EXPIRE [R218]: An owner still running GUARD × 256 ticks past a close is released with cause 6. -/
  | guardExpire (n : Lane)
  /-- BURST_RECORD_RECEIVED [R263]: FE3 takes a burst record and counts it as one frame of the lane's burst flow. -/
  | burstRecordReceived (bits : Nat)
  /-- ACQ_INJ_SCOUT [R222]: INJ_SCOUT sets SCOUT as for a change of BEST. -/
  | acqInjScout (m : Master) (n : Lane) (w : Word)
  /-- ACQ_INJ_START [R222]: INJ_START makes a start at the next symbol in BURST. -/
  | acqInjStart (m : Master) (n : Lane) (w : Word)
  /-- ACQ_INJ_WINDOW [R222]: INJ_WINDOW makes the next window missed. -/
  | acqInjWindow (m : Master) (n : Lane) (w : Word)
  /-- FE_INJ_SKEW [R222]: INJ_SKEW makes the next round of group INJ_GRP exceed DESKEW_MAX. -/
  | feInjSkew (m : Master) (e : Eng) (w : Word)
  /-- FE_INJ_AMLOSS [R222]: INJ_AMLOSS makes lane INJ_LANE leave marker lock. -/
  | feInjAmloss (m : Master) (e : Eng) (w : Word)
  /-- INNER_BLOCK [R230]: An inner interleave block is taken whole: alignment is tested, and its 17 codewords are decoded. -/
  | innerBlock (n : Lane) (words : List (BitVec 4))
  /-- RS_CODEWORD_DECODED [R233]: An RS codeword is decoded, its corrections attributed to lanes and counted, and forensic triggers checked. -/
  | rsCodewordDecoded (n : Lane) (cw : RsWord)
  /-- FORENSIC_RECORD_DONE [R237]: The last slot of a record is written: RECORDS counts, and EV_FE_FORENSIC is raised. -/
  | forensicRecordDone (e : Eng)
  /-- FEC_SNAP [R234]: A write of FEC.CTRL.SNAP requests a snapshot of the live counters. -/
  | fecSnap (m : Master) (n : Lane) (w : Word)
  /-- FEC_SNAP_TAKEN [R234]: At the next codeword boundary the live counters are copied and cleared, and SNAP_SEQ advances. -/
  | fecSnapTaken (n : Lane)
  /-- TX_CODEWORD_CORRUPT [R244]: Every 2^EVERY-th codeword the transmit stage XORs MASK into WEIGHT symbols. -/
  | txCodewordCorrupt (n : Lane)
  /-- PC_LOCK_ACQUIRED [R241]: LOCK_N consecutive symbols match, and the pattern checker enters LOCKED. -/
  | pcLockAcquired (n : Lane) (words : List (BitVec 2))
  /-- PC_LOSS_WINDOW [R241]: A 4,096-symbol window with more than LOSS_TH errors returns the checker to SEARCH. -/
  | pcLossWindow (n : Lane) (words : List (BitVec 2))
  /-- PG_INJECT_ONE [R240]: A write of PG_ERR.ONE in MODE 1 errs the next symbol. -/
  | pgInjectOne (m : Master) (n : Lane) (w : Word)
  /-- PG_INJECT_PERIODIC [R240]: Every 2^EXP symbols the generator errs one symbol or a burst. -/
  | pgInjectPeriodic (n : Lane)
  /-- PATTERN_MEM_WRITE [R242]: A write of FEC.UP_DATA stores 16 pattern symbols, or is refused while type 11 is active. -/
  | patternMemWrite (m : Master) (n : Lane) (w : Word)
  /-- FEC_INJ_UNCORR [R246]: INJ_UNCORR makes the next codeword uncorrectable. -/
  | fecInjUncorr (m : Master) (n : Lane) (w : Word)
  /-- FEC_INJ_PCLOSS [R246]: INJ_PCLOSS makes the checker leave LOCKED. -/
  | fecInjPcloss (m : Master) (n : Lane) (w : Word)
  /-- FEC_INJ_INNER [R246]: INJ_INNER drops inner lock. -/
  | fecInjInner (m : Master) (n : Lane) (w : Word)
  /-- FOR_INJ_DROP [R246]: INJ_DROP drops the next forensic trigger with cause 4. -/
  | forInjDrop (m : Master) (e : Eng) (w : Word)
  /-- FRAME_RECEIVED [R256]: The parser takes a frame whole, classifies it, reads its tag and updates its flow context. -/
  | frameReceived (e : Eng) (g : Fin 16) (err : Bool) (bytes : List Byte)
  /-- RATE_INTERVAL_END [R262]: A rate interval ends, and each flow's RATE_FRAMES and RATE_BYTES are latched. -/
  | rateIntervalEnd (e : Eng)
  /-- STREAM_START_REACHED [R269]: A stream in WAIT reaches START and enters RUN. -/
  | streamStartReached (e : Eng) (i : Fin 1024)
  /-- STREAM_FRAME_START [R266]: The scheduler starts a due stream frame at the first free position, builds it and counts it. -/
  | streamFrameStart (e : Eng) (g : Fin 16)
  /-- FLOW_READ [R270]: FLOW_CMD OP 1 copies the live flow context to the buffer. -/
  | flowRead (m : Master) (e : Eng) (w : Word)
  /-- FLOW_READ_CLR [R270]: FLOW_CMD OP 2 copies the flow context and clears its counters. -/
  | flowReadClr (m : Master) (e : Eng) (w : Word)
  /-- FLOW_READ_SNAP [R270]: FLOW_CMD OP 3 copies the flow's snapshot copy to the buffer. -/
  | flowReadSnap (m : Master) (e : Eng) (w : Word)
  /-- FLOW_LOAD_CFG [R270]: FLOW_CMD OP 4 loads configuration words 0–3 into the flow's shadow. -/
  | flowLoadCfg (m : Master) (e : Eng) (w : Word)
  /-- FLOW_CLEAR [R270]: FLOW_CMD OP 5 clears the flow's counters. -/
  | flowClear (m : Master) (e : Eng) (w : Word)
  /-- STRM_READ [R270]: STRM_CMD OP 1 copies the live stream context to the buffer. -/
  | strmRead (m : Master) (e : Eng) (w : Word)
  /-- STRM_READ_CLR [R270]: STRM_CMD OP 2 copies the stream context and clears its counters. -/
  | strmReadClr (m : Master) (e : Eng) (w : Word)
  /-- STRM_READ_SNAP [R270]: STRM_CMD OP 3 copies the stream's snapshot copy. -/
  | strmReadSnap (m : Master) (e : Eng) (w : Word)
  /-- STRM_LOAD_CFG [R270]: STRM_CMD OP 4 loads configuration words 0–15 into the stream's shadow. -/
  | strmLoadCfg (m : Master) (e : Eng) (w : Word)
  /-- STRM_CLEAR [R270]: STRM_CMD OP 5 clears the stream's counters. -/
  | strmClear (m : Master) (e : Eng) (w : Word)
  /-- STRM_STOP [R269]: STRM_CMD OP 6 ends a running stream after its frame in progress. -/
  | strmStop (m : Master) (e : Eng) (w : Word)
  /-- SNAP_ARM [R273]: A write of SNAP_CTRL.ARM arms a snapshot at SNAP_AT, or takes it at once if the boundary has passed. -/
  | snapArm (m : Master) (e : Eng) (w : Word)
  /-- SNAP_AT_REACHED [R273]: The snapshot boundary is reached: every context is copied to the snapshot bank, and EV_FE_SNAP is raised. -/
  | snapAtReached (e : Eng)
  /-- TEMPLATE_WRITE [R276]: A template write stores bytes, or is refused while an enabled stream names the template. -/
  | templateWrite (m : Master) (e : Eng) (t : Fin 128) (j : Fin 64) (w : Word)
  /-- FS_INJ_REFUSE [R275]: INJ_REFUSE refuses the next context command with RESULT 3. -/
  | fsInjRefuse (m : Master) (e : Eng) (w : Word)
  /-- FS_INJ_SKIP [R275]: INJ_SKIP skips the next due frame of the engine. -/
  | fsInjSkip (m : Master) (e : Eng) (w : Word)
  /-- FS_INJ_LATE [R275]: INJ_LATE counts the next sent frame as late. -/
  | fsInjLate (m : Master) (e : Eng) (w : Word)
  /-- FS_INJ_RESYNC [R275]: INJ_RESYNC makes the next sequence-checked frame a resync. -/
  | fsInjResync (m : Master) (e : Eng) (w : Word)
  /-- WATCH_SAMPLE [R280]: A watch channel completes a sample: it is stamped, output, pushed and compared with the thresholds. -/
  | watchSample (n : Lane) (c : Fin 4) (taps : List (Nat × TapIn))
  /-- LQF_SAMPLE [R292]: The LQF chain completes a sample, and LQF and VALID are written. -/
  | lqfSample (n : Lane) (taps : List (Nat × TapIn))
  /-- WATCH_RESTART [R282]: A write of WATCH.CTRL.RESTART schedules a synchronising reset of the named channels. -/
  | watchRestart (m : Master) (n : Lane) (w : Word)
  /-- WATCH_SYNC_RESET [R282]: At instant R a chain's filter, counts and unsettled count are reset. -/
  | watchSyncReset (n : Lane) (c : Fin 5)
  /-- WATCH_OUT_READ [R287]: A read of OUT_VAL clears NEW and latches the rest of the sample. -/
  | watchOutRead (m : Master) (n : Lane) (c : Fin 4)
  /-- WATCH_INJ_CROSS [R294]: INJ_CROSS makes the next settled sample of channel INJ_CH change HI. -/
  | watchInjCross (m : Master) (n : Lane) (w : Word)
  /-- PLOT_START [R306]: PLOT_CMD START moves an IDLE or FROZEN plot to RUN, unless it is a replay source. -/
  | plotStart (m : Master) (w : Word)
  /-- PLOT_STOP [R306]: PLOT_CMD STOP freezes a running plot and flushes its partial pages. -/
  | plotStop (m : Master) (w : Word)
  /-- PLOT_RESET [R306]: PLOT_CMD RESET clears WPTR, WRAPPED and the plot's written bits, except in RUN. -/
  | plotReset (m : Master) (w : Word)
  /-- PAGE_COMPLETE [R307]: A capture page is complete and written with its tail: WPTR advances, wraps or fills, and POST counts advance. -/
  | pageComplete (p : Fin 256) (x : PageIn)
  /-- TRIGGER_FIRE [R315]: A fire reaches its trigger: it is recorded, and it moves the trigger and plot states. -/
  | triggerFire (t : Lane)
  /-- TRIG_FIRE_CMD [R314]: TRIG_CMD.FIRE fires the selected trigger. -/
  | trigFireCmd (m : Master) (w : Word)
  /-- TRIG_REARM [R315]: TRIG_CMD.REARM returns a DONE or OFF trigger with EN = 1 to WAIT. -/
  | trigRearm (m : Master) (w : Word)
  /-- REPLAY_PREFETCH_DONE [R318]: A replay context's prefetch completes, and it waits for START or runs. -/
  | replayPrefetchDone (r : Lane)
  /-- REPLAY_START [R318]: A replay context reaches START and enters RUN, late if START had passed. -/
  | replayStart (r : Lane)
  /-- REPLAY_STOP [R318]: RP_CMD.STOP ends a running replay context. -/
  | replayStop (m : Master) (w : Word)
  /-- REPLAY_FRAME_SEND [R319]: A replay context sends its next frame record or symbol page, and advances through its segments and loops. -/
  | replayFrameSend (r : Lane) (reads : List PageRes)
  /-- REPLAY_UNDERRUN [R321]: Replay data is not available when needed, and the underrun is counted and raised. -/
  | replayUnderrun (r : Lane)
  /-- PAGE_READ [R302]: A page frame is read and its page code decoded; corrections are logged, and a frame may be retired. -/
  | pageRead (m : Chan) (f : Nat) (res : PageRes)
  /-- PAGE_REWRITE [R328]: A frame whose REPEAT reached the limit is rewritten with its corrected page. -/
  | pageRewrite (m : Chan) (f : Nat)
  /-- SCRUB_READ [R332]: Every INTERVAL µs the scrubber reads the next written frame. -/
  | scrubRead (m : Chan) (res : PageRes)
  /-- RMW_WRITE [R326]: A partial-page write reads, merges, re-encodes and writes the page, or is refused if it is uncorrectable. -/
  | rmwWrite (p : Fin 256) (ofs : Nat) (data : List (BitVec 8)) (res : PageRes)
  /-- MC_REPAIR_SOFT [R333]: MC.REPAIR OP 1 starts a soft post-package repair of the named row. -/
  | mcRepairSoft (m : Master) (c : Chan) (w : Word)
  /-- MC_REPAIR_HARD [R333]: MC.REPAIR OP 2 starts a hard post-package repair of the named row. -/
  | mcRepairHard (m : Master) (c : Chan) (w : Word)
  /-- MC_REPAIR_DONE [R333]: A repair ends, frames are copied back, and EV_MC_REPAIR is raised. -/
  | mcRepairDone (c : Chan) (fail : Bool)
  /-- MC_RST [R338]: MC_RST resets the channel's BLOCK fields, keeping its contents and log. -/
  | mcRst (m : Master) (c : Chan) (w : Word)
  /-- LOG_CLEAR [R338]: LOG_SEL.CLEAR empties the selected error-log entry. -/
  | logClear (m : Master) (c : Chan) (w : Word)
  /-- HBM_PARITY_ERROR [R337]: An HBM3 parity error retries the access once, and a second failure marks the page bad or lost. -/
  | hbmParityError (c : Chan) (f : Nat) (write : Bool) (second : Bool)
  /-- MC_INJ_COR [R337]: INJ_COR makes the next read correct one extra bit. -/
  | mcInjCor (m : Master) (c : Chan) (w : Word)
  /-- MC_INJ_UNC [R337]: INJ_UNC makes the next read uncorrectable. -/
  | mcInjUnc (m : Master) (c : Chan) (w : Word)
  /-- MC_INJ_SPARE [R337]: INJ_SPARE raises the spare-low event. -/
  | mcInjSpare (m : Master) (c : Chan) (w : Word)
  /-- MC_INJ_REPAIR [R337]: INJ_REPAIR ends the next repair with RESULT 5. -/
  | mcInjRepair (m : Master) (c : Chan) (w : Word)
  /-- MC_INJ_IF [R337]: INJ_IF injects an interface parity error. -/
  | mcInjIf (m : Master) (c : Chan) (w : Word)
  /-- MDW_INJ_ADMIT [R337]: INJ_ADMIT rejects the next MDW commit with cause 0x5. -/
  | mdwInjAdmit (m : Master) (w : Word)
  /-- MDW_INJ_OVF [R337]: INJ_OVF discards the next record or page of the selected plot. -/
  | mdwInjOvf (m : Master) (w : Word)
  /-- MDW_INJ_UNDER [R337]: INJ_UNDER makes the next symbol or frame of context INJ_RP unavailable. -/
  | mdwInjUnder (m : Master) (w : Word)
  /-- HAZE_HOLD [R340]: A hold cause appears on a cut-through path, which clears the buffer and enters HOLD. -/
  | hazeHold (n : Lane)
  /-- HAZE_PRIME [R340]: The hold cause ends, or DEPTH or the source changes, and the path clears and primes. -/
  | hazePrime (n : Lane) (words : List (BitVec 2)) (sent : Nat)
  /-- HAZE_PRIME_FILLED [R340]: The buffer fill reaches DEPTH, and the path enters PASS. -/
  | hazePrimeFilled (n : Lane) (words : List (BitVec 2))
  /-- HAZE_SLIP [R341]: The fill leaves DEPTH ± SLIP_WIN, and one symbol is dropped or repeated. -/
  | hazeSlip (n : Lane) (words : List (BitVec 2)) (sent : Nat)
  /-- HAZE_BURST_START [R343]: A burst of symbol errors starts on the source lane by the configured mode. -/
  | hazeBurstStart (n : Lane) (words : List (BitVec 2))
  /-- NOISE_WINDOW_END [R347]: A 65,536-sample power window ends, and PWR and σ are updated. -/
  | noiseWindowEnd (n : Lane) (words : List (BitVec 2))
  /-- HAZE_COEF_WRITE [R345]: A write of HAZE.COEF_DATA writes an ISI tap, or is refused. -/
  | hazeCoefWrite (m : Master) (n : Lane) (w : Word)
  /-- HAZE_RELEASE [R353]: A delayed frame's release instant arrives, and it is sent to the transmit group. -/
  | hazeRelease (e : Eng)
  /-- HAZE_REORDER_TIMEOUT [R351]: A frame held for reorder is released after 100 µs. -/
  | hazeReorderTimeout (e : Eng)
  /-- HZ_RULE_CLEAR [R356]: HZ_CMD.CLEAR clears the counters of the selected rule. -/
  | hzRuleClear (m : Master) (e : Eng) (w : Word)
  /-- HAZE_INJ_HOLD [R355]: INJ_HOLD forces HOLD with cause 4 for 64 CCLK. -/
  | hazeInjHold (m : Master) (n : Lane) (w : Word)
  /-- HZ_INJ_LOST [R355]: INJ_LOST discards the next forwarded frame as FWD_LOST. -/
  | hzInjLost (m : Master) (e : Eng) (w : Word)
  /-- ADD [R368]: ADD writes the sum of ra and rb to rd. -/
  | addR (k : CoreId) (rd ra rb : Fin 32)
  /-- SUB [R368]: SUB writes ra minus rb to rd. -/
  | subR (k : CoreId) (rd ra rb : Fin 32)
  /-- AND [R368]: AND writes the bitwise AND of ra and rb to rd. -/
  | andR (k : CoreId) (rd ra rb : Fin 32)
  /-- OR [R368]: OR writes the bitwise OR of ra and rb to rd. -/
  | orR (k : CoreId) (rd ra rb : Fin 32)
  /-- XOR [R368]: XOR writes the bitwise XOR of ra and rb to rd. -/
  | xorR (k : CoreId) (rd ra rb : Fin 32)
  /-- SLL [R368]: SLL shifts ra left by rb. -/
  | sll (k : CoreId) (rd ra rb : Fin 32)
  /-- SRL [R368]: SRL shifts ra right logically by rb. -/
  | srl (k : CoreId) (rd ra rb : Fin 32)
  /-- SRA [R368]: SRA shifts ra right arithmetically by rb. -/
  | sra (k : CoreId) (rd ra rb : Fin 32)
  /-- SLT [R368]: SLT sets rd to the signed comparison ra < rb. -/
  | slt (k : CoreId) (rd ra rb : Fin 32)
  /-- SLTU [R368]: SLTU sets rd to the unsigned comparison ra < rb. -/
  | sltu (k : CoreId) (rd ra rb : Fin 32)
  /-- MUL [R368]: MUL writes the low word of the product of ra and rb. -/
  | mulR (k : CoreId) (rd ra rb : Fin 32)
  /-- MULH [R368]: MULH writes the high word of the signed product. -/
  | mulh (k : CoreId) (rd ra rb : Fin 32)
  /-- MULHU [R368]: MULHU writes the high word of the unsigned product. -/
  | mulhu (k : CoreId) (rd ra rb : Fin 32)
  /-- DIV [R368]: DIV writes the signed quotient; division by zero gives all ones. -/
  | divR (k : CoreId) (rd ra rb : Fin 32)
  /-- DIVU [R368]: DIVU writes the unsigned quotient. -/
  | divu (k : CoreId) (rd ra rb : Fin 32)
  /-- REM [R368]: REM writes the signed remainder; by zero it gives the dividend. -/
  | rem (k : CoreId) (rd ra rb : Fin 32)
  /-- REMU [R368]: REMU writes the unsigned remainder. -/
  | remu (k : CoreId) (rd ra rb : Fin 32)
  /-- MIN [R368]: MIN writes the lesser of ra and rb. -/
  | minI (k : CoreId) (rd ra rb : Fin 32)
  /-- MAX [R368]: MAX writes the greater of ra and rb. -/
  | maxI (k : CoreId) (rd ra rb : Fin 32)
  /-- CLZ [R368]: CLZ writes the count of leading zeros of ra. -/
  | clz (k : CoreId) (rd ra rb : Fin 32)
  /-- SATADD [R368]: SATADD writes the signed saturating sum of ra and rb. -/
  | satadd (k : CoreId) (rd ra rb : Fin 32)
  /-- ADDI [R368]: ADDI adds a sign-extended immediate to ra. -/
  | addi (k : CoreId) (rd ra : Fin 32) (imm : BitVec 16)
  /-- ANDI [R368]: ANDI ANDs ra with a zero-extended immediate. -/
  | andi (k : CoreId) (rd ra : Fin 32) (imm : BitVec 16)
  /-- ORI [R368]: ORI ORs ra with a zero-extended immediate. -/
  | ori (k : CoreId) (rd ra : Fin 32) (imm : BitVec 16)
  /-- XORI [R368]: XORI XORs ra with a zero-extended immediate. -/
  | xori (k : CoreId) (rd ra : Fin 32) (imm : BitVec 16)
  /-- SLTI [R368]: SLTI sets rd to ra < immediate, signed. -/
  | slti (k : CoreId) (rd ra : Fin 32) (imm : BitVec 16)
  /-- SLLI [R368]: SLLI shifts ra left by an immediate. -/
  | slli (k : CoreId) (rd ra : Fin 32) (sh : Fin 32)
  /-- SRLI [R368]: SRLI shifts ra right logically by an immediate. -/
  | srli (k : CoreId) (rd ra : Fin 32) (sh : Fin 32)
  /-- SRAI [R368]: SRAI shifts ra right arithmetically by an immediate. -/
  | srai (k : CoreId) (rd ra : Fin 32) (sh : Fin 32)
  /-- LUI [R368]: LUI loads the immediate into the upper half of rd. -/
  | lui (k : CoreId) (rd : Fin 32) (imm : BitVec 16)
  /-- LW [R368]: LW loads a word from ra + immediate through memory or the register window. -/
  | lw (k : CoreId) (rd ra : Fin 32) (imm : BitVec 16)
  /-- LH [R368]: LH loads a sign-extended halfword. -/
  | lh (k : CoreId) (rd ra : Fin 32) (imm : BitVec 16)
  /-- LHU [R368]: LHU loads a zero-extended halfword. -/
  | lhu (k : CoreId) (rd ra : Fin 32) (imm : BitVec 16)
  /-- LB [R368]: LB loads a sign-extended byte. -/
  | lb (k : CoreId) (rd ra : Fin 32) (imm : BitVec 16)
  /-- LBU [R368]: LBU loads a zero-extended byte. -/
  | lbu (k : CoreId) (rd ra : Fin 32) (imm : BitVec 16)
  /-- SW [R368]: SW stores a word to memory, or posts it to the register window. -/
  | sw (k : CoreId) (rd ra : Fin 32) (imm : BitVec 16)
  /-- SH [R368]: SH stores a halfword. -/
  | sh (k : CoreId) (rd ra : Fin 32) (imm : BitVec 16)
  /-- SB [R368]: SB stores a byte. -/
  | sb (k : CoreId) (rd ra : Fin 32) (imm : BitVec 16)
  /-- BEQ [R368]: BEQ branches if ra equals rb. -/
  | beq (k : CoreId) (ra rb : Fin 32) (imm : BitVec 16)
  /-- BNE [R368]: BNE branches if ra differs from rb. -/
  | bne (k : CoreId) (ra rb : Fin 32) (imm : BitVec 16)
  /-- BLT [R368]: BLT branches if ra < rb, signed. -/
  | blt (k : CoreId) (ra rb : Fin 32) (imm : BitVec 16)
  /-- BGE [R368]: BGE branches if ra ≥ rb, signed. -/
  | bge (k : CoreId) (ra rb : Fin 32) (imm : BitVec 16)
  /-- BLTU [R368]: BLTU branches if ra < rb, unsigned. -/
  | bltu (k : CoreId) (ra rb : Fin 32) (imm : BitVec 16)
  /-- BGEU [R368]: BGEU branches if ra ≥ rb, unsigned. -/
  | bgeu (k : CoreId) (ra rb : Fin 32) (imm : BitVec 16)
  /-- JAL [R368]: JAL jumps by a word offset and links PC + 4 in rd. -/
  | jal (k : CoreId) (rd : Fin 32) (imm : BitVec 21)
  /-- JALR [R368]: JALR jumps to ra + immediate and links PC + 4 in rd. -/
  | jalr (k : CoreId) (rd ra : Fin 32) (imm : BitVec 16)
  /-- AMO_SWAP [R368]: AMO SWAP atomically exchanges a shared-memory word with rb. -/
  | amoSwap (k : CoreId) (rd ra rb : Fin 32)
  /-- AMO_ADD [R368]: AMO ADD atomically adds rb to a shared-memory word. -/
  | amoAdd (k : CoreId) (rd ra rb : Fin 32)
  /-- AMO_AND [R368]: AMO AND atomically ANDs rb into a shared-memory word. -/
  | amoAnd (k : CoreId) (rd ra rb : Fin 32)
  /-- AMO_OR [R368]: AMO OR atomically ORs rb into a shared-memory word. -/
  | amoOr (k : CoreId) (rd ra rb : Fin 32)
  /-- AMO_CAS [R368]: AMO CAS stores rb if the word equals rd, and returns the old value. -/
  | amoCas (k : CoreId) (rd ra rb : Fin 32)
  /-- CRD [R370]: CRD reads a CSR into rd, with CSR-specific effects such as a mailbox pop. -/
  | crd (k : CoreId) (rd ra : Fin 32) (csr : BitVec 12)
  /-- CWR [R370]: CWR writes ra to a CSR. -/
  | cwr (k : CoreId) (rd ra : Fin 32) (csr : BitVec 12)
  /-- CSET [R370]: CSET sets the bits of ra in a CSR and returns the old value. -/
  | cset (k : CoreId) (rd ra : Fin 32) (csr : BitVec 12)
  /-- CCLR [R370]: CCLR clears the bits of ra in a CSR and returns the old value. -/
  | cclr (k : CoreId) (rd ra : Fin 32) (csr : BitVec 12)
  /-- SCALL [R371]: SCALL traps with cause 7 or 8. -/
  | scall (k : CoreId)
  /-- BREAK [R371]: BREAK traps with cause 9. -/
  | brk (k : CoreId)
  /-- TRET [R372]: TRET restores the mode, sets GIE, clears INTRAP and returns to TRAP_PC. -/
  | tret (k : CoreId)
  /-- NRET [R374]: NRET clears INNMT and resumes at NTRAP_PC. -/
  | nret (k : CoreId)
  /-- IDLE [R373]: IDLE stops issue until an enabled interrupt line is pending or an NMT arrives. -/
  | idle (k : CoreId)
  /-- DRAIN [R363]: DRAIN waits until the posted window store has completed. -/
  | drain (k : CoreId)
  /-- INTERRUPT_TAKEN [R373]: A pending enabled line is taken at an instruction boundary. -/
  | interruptTaken (k : CoreId)
  /-- NMT_TAKEN [R374]: The supervisor pair takes the non-maskable trap requested by the fault collector. -/
  | nmtTaken
  /-- TIMER_MATCH [R373]: CYCLE reaches TIMER_CMP, and interrupt line 11 becomes pending. -/
  | timerMatch (k : CoreId)
  /-- COUNTER_WRAP [R381]: A programmable counter wraps: OVF is set, and a sampler reloads and samples. -/
  | counterWrap (k : CoreId) (i : Fin 8) (n : BitVec 48)
  /-- CORE_WDOG_EXPIRE [R377]: A core watchdog expires without a kick: the event is raised, and a lane core may be reset. -/
  | coreWdogExpire (k : CoreId)
  /-- CORE_RUN [R378]: SQ.CORE CTRL.RUN = 1 runs a core from RESET or resumes it from HALTED. -/
  | coreRun (m : Master) (k : CoreId) (w : Word)
  /-- CORE_HALT [R378]: RUN = 0 halts the core at the next instruction boundary. -/
  | coreHalt (m : Master) (k : CoreId) (w : Word)
  /-- CORE_STEP [R378]: STEP = 1 executes one instruction of a halted core. -/
  | coreStep (m : Master) (k : CoreId) (w : Word)
  /-- CORE_RST [R378]: CORE_RST returns a core to RESET with PC 0. -/
  | coreRst (m : Master) (k : CoreId) (w : Word)
  /-- DOORBELL [R373]: CTRL.DOORBELL raises interrupt line 10 of the core. -/
  | doorbell (m : Master) (k : CoreId) (w : Word)
  /-- SQ_RST [R378]: SQ_RST resets every core and the SQ BLOCK fields, and restarts cores with RUN = 1. -/
  | sqRst (m : Master) (w : Word)
  /-- SEM_READ [R364]: A read of SQ.SEM acquires a free semaphore for the reader, or reports its owner. -/
  | semRead (m : Master) (i : Fin 2)
  /-- SEM_RELEASE [R364]: A RELEASE write by the owner frees the semaphore. -/
  | semRelease (m : Master) (i : Fin 2) (w : Word)
  /-- SEM_HOLD_TIMEOUT [R365]: A semaphore held for 10 ms is freed without release and counted. -/
  | semHoldTimeout (i : Fin 2)
  /-- SQ_INJ_SEM [R384]: INJ_SEM frees a held SEM[0] as if it had timed out. -/
  | sqInjSem (m : Master) (w : Word)
  /-- SQ_INJ_WDOG [R384]: INJ_WDOG expires the watchdog of core INJ_CORE. -/
  | sqInjWdog (m : Master) (w : Word)
  /-- SQ_INJ_MEM [R384]: INJ_MEM makes the next selected memory read a double error. -/
  | sqInjMem (m : Master) (w : Word)
  /-- SQ_INJ_LOCKSTEP [R384]: INJ_LOCKSTEP makes S1's next retired PC differ. -/
  | sqInjLockstep (m : Master) (w : Word)
  /-- SQ_INJ_NMT [R384]: INJ_NMT makes the pair take the NMT with event 0x7FF. -/
  | sqInjNmt (m : Master) (w : Word)
  /-- PORT_ENABLE [R387]: A write of NCP.PORT.ENABLE starts or stops the management port. -/
  | portEnable (m : Master) (w : Word)
  /-- PORT_UP [R387]: Training and lock complete, and the port enters UP, raising EV_NCP_LINK. -/
  | portUp
  /-- PORT_LINK_LOSS [R387]: The port loses block or marker lock, returns to DOWN and restarts. -/
  | portLinkLoss
  /-- PORT_RST [R403]: PORT_RST restarts the port and closes sessions with reason 6. -/
  | portRst (m : Master) (w : Word)
  /-- ARP_REQUEST [R388]: The port answers an ARP request for its IPv4 address. -/
  | arpRequest (frame : List (BitVec 8))
  /-- NEIGHBOUR_SOLICITATION [R388]: The port answers IPv6 neighbour solicitation for its addresses. -/
  | neighbourSolicitation (frame : List (BitVec 8))
  /-- ECHO_REQUEST [R388]: The port answers an ICMP or ICMPv6 echo request. -/
  | echoRequest (frame : List (BitVec 8))
  /-- FOREIGN_FRAME [R388]: A frame that the port does not accept is discarded and counted. -/
  | foreignFrame (frame : List (BitVec 8))
  /-- DATAGRAM_RECEIVED [R400]: An NCP datagram is validated, sequenced and acknowledged, and its messages run in order. -/
  | datagramReceived (peer : NcpPeer) (bytes : List (BitVec 8))
  /-- OPEN [R399]: OPEN takes a free session slot in observe or control mode, with takeover if asked. -/
  | ncpOpen (peer : NcpPeer) (tag : Word) (flags seq credit : Word)
  /-- CLOSE [R399]: CLOSE from the host closes the session with reason 1. -/
  | ncpClose (slot : Fin 4) (tag : Word) (reason : Word)
  /-- RESYNC [R402]: RESYNC discards unacknowledged datagrams, adopts the host SEQ and restarts the part's stream with a DIGEST. -/
  | ncpResync (slot : Fin 4) (tag : Word) (seq : Word)
  /-- KEEPALIVE [R391]: KEEPALIVE keeps the session alive. -/
  | ncpKeepalive (slot : Fin 4) (tag : Word)
  /-- READ [R391]: READ reads 1 to 256 register addresses. -/
  | ncpRead (slot : Fin 4) (tag : Word) (addrs : List Word)
  /-- READ_SEQ [R391]: READ_SEQ reads consecutive register words. -/
  | ncpReadSeq (slot : Fin 4) (tag : Word) (addr : Word) (count : Word)
  /-- WRITE [R393]: WRITE writes register pairs in order, stopping at the first failure unless CONTINUE. -/
  | ncpWrite (slot : Fin 4) (tag : Word) (cont : Bool) (pairs : List WritePair)
  /-- COMMIT [R394]: The COMMIT message writes GLB.COMMIT, or arms a timed commit under SEM[0]. -/
  | ncpCommit (slot : Fin 4) (tag : Word) (w : Word) (time : BitVec 64)
  /-- TIMED_BATCH [R395]: TIMED_BATCH stores a batch of writes for dispatch near TIME. -/
  | ncpTimedBatch (slot : Fin 4) (tag : Word) (cont : Bool) (time : BitVec 64) (id : Word) (pairs : List WritePair)
  /-- CANCEL [R395]: CANCEL removes an undispatched batch. -/
  | ncpCancel (slot : Fin 4) (tag : Word) (id : Word)
  /-- BULK_READ [R396]: BULK_READ starts a background read of plot pages. -/
  | ncpBulkRead (slot : Fin 4) (tag : Word) (plot first count : Word)
  /-- BULK_WRITE [R396]: BULK_WRITE writes a whole page or merges a span by read-modify-write. -/
  | ncpBulkWrite (slot : Fin 4) (tag : Word) (plot page span meta_ : Word) (data : List (BitVec 8)) (res : PageRes)
  /-- DIGEST [R398]: DIGEST returns a gathered state digest. -/
  | ncpDigest (slot : Fin 4) (tag : Word)
  /-- BULK_DATA [R396]: The engine reads and sends the next page of a bulk read when credit allows. -/
  | ncpBulkData (slot : Fin 4) (res : PageRes)
  /-- EVENT [R397]: Pending event records go out in an EVENT message when credit allows. -/
  | ncpEvent (slot : Fin 4)
  /-- EVENT_HOLDOFF_END [R397]: A holdoff ends, and merged raises become one record. -/
  | eventHoldoffEnd (slot : Fin 4) (id : BitVec 11)
  /-- BATCH_DISPATCH [R395]: A timed batch is dispatched, and its writes run from X, with a late report if needed. -/
  | batchDispatch
  /-- NCP_SEM_RETRY [R394]: The engine retries SEM[0] every 1 µs, and fails the COMMIT after 2 ms. -/
  | ncpSemRetry
  /-- RTO_EXPIRE [R401]: An unacknowledged datagram's RTO expires: go-back-N retransmission, or close after RETRY_MAX. -/
  | rtoExpire (slot : Fin 4)
  /-- SESSION_IDLE_TIMEOUT [R399]: No host datagram for IDLE_TO closes the session with reason 3. -/
  | sessionIdleTimeout (slot : Fin 4)
  /-- SESS_CLOSE [R399]: A write of SESS[s].CLOSE closes the session with reason 5. -/
  | sessClose (m : Master) (slot : Fin 4) (w : Word)
  /-- NCP_INJ_BAD [R404]: INJ_BAD treats the next datagram as malformed. -/
  | ncpInjBad (m : Master) (w : Word)
  /-- NCP_INJ_LINK [R404]: INJ_LINK takes the port from UP to DOWN. -/
  | ncpInjLink (m : Master) (w : Word)
  /-- NCP_INJ_LOSS [R404]: INJ_LOSS stores the next datagram without sending it. -/
  | ncpInjLoss (m : Master) (w : Word)
  /-- NCP_INJ_EVT [R404]: INJ_EVT drops the next event record of the session. -/
  | ncpInjEvt (m : Master) (w : Word)
  /-- NCP_INJ_LATE [R404]: INJ_LATE makes the next timed batch late. -/
  | ncpInjLate (m : Master) (w : Word)
  /-- BOOT_SEQUENCE [R413]: After reset release the boot engine reads, verifies and applies an image, runs self-test and starts the cores. -/
  | bootSequence (x : BootIn)
  /-- KEY_CMD [R412]: KEY_CMD with its key programs the OTP key hash in FAIL. -/
  | keyCmd (m : Master) (w : Word)
  /-- KEY_PROG_DONE [R412]: Key hash programming ends and is verified. -/
  | keyProgDone (verified : Bool)
  /-- QSPI_READ [R423]: QSPI_CMD OP 0 reads 64 flash bytes into the buffer. -/
  | qspiRead (m : Master) (w : Word)
  /-- QSPI_PROGRAM [R423]: QSPI_CMD OP 1 programs 64 bytes. -/
  | qspiProgram (m : Master) (w : Word)
  /-- QSPI_ERASE [R423]: QSPI_CMD OP 2 erases a 64 KiB sector. -/
  | qspiErase (m : Master) (w : Word)
  /-- QSPI_READ_STATUS [R423]: QSPI_CMD OP 3 reads flash status into BUF[0]. -/
  | qspiReadStatus (m : Master) (w : Word)
  /-- QSPI_DONE [R423]: A QSPI operation completes or times out after 2.0 s. -/
  | qspiDone (busy : Bool) (status : BitVec 8)
  /-- MI2C_WRITE [R419]: An MI2C WRITE transaction performs a register write as master 0x01. -/
  | mi2cWrite (bytes : List (BitVec 8))
  /-- MI2C_READ [R419]: An MI2C READ transaction performs a register read and returns data and status. -/
  | mi2cRead (bytes : List (BitVec 8))
  /-- MI2C_STATUS [R419]: An MI2C STATUS transaction returns the status of the last WRITE. -/
  | mi2cStatus (bytes : List (BitVec 8))
  /-- MI2C_TIMEOUT [R514]: SCL held low by the controller for over 25 ms releases SDA and idles the target. -/
  | mi2cTimeout
  /-- BOOT_INJ_IMAGE [R422]: INJ_IMAGE makes image A fail with code 8 at the next boot. -/
  | bootInjImage (m : Master) (w : Word)
  /-- BOOT_INJ_TRAIN [R422]: INJ_TRAIN treats LD3 as untrained at the next boot. -/
  | bootInjTrain (m : Master) (w : Word)
  /-- BOOT_INJ_LBIST [R422]: INJ_LBIST makes the boot LBIST compare mismatch. -/
  | bootInjLbist (m : Master) (w : Word)
  /-- BOOT_INJ_MI2C [R422]: INJ_MI2C treats the next MI2C transaction as malformed. -/
  | bootInjMi2c (m : Master) (w : Word)
  /-- MONITOR_WINDOW_END [R428]: A clock monitor window ends, and the clock is declared lost or good after N_BAD or N_GOOD windows. -/
  | monitorWindowEnd (j : Fin 4) (count : BitVec 16)
  /-- PLL_LOCK_LOSS [R429]: The core or memory PLL lock detector trips and is acted on at once. -/
  | pllLockLoss (mem : Bool)
  /-- IRO_READY [R430]: The IRO becomes ready: SCLK and PCLK run from it, and the part enters SAFE with EV_CLK_FAIL. -/
  | iroReady
  /-- IRO_FAIL_TIMEOUT [R430]: No IRO_RDY by 50 µs: the clocks stay gated, and EV_CLK_IRO_FAIL makes the part FATAL. -/
  | iroFailTimeout
  /-- CLK_RESUME [R432]: A RESUME write, or an auto-resume, starts the core PLL relock to leave SAFE. -/
  | clkResume (m : Master) (w : Word)
  /-- CORE_PLL_RELOCKED [R432]: The core PLL locks, the clocks return, the state is NORMAL, and EV_CLK_RESTORE is raised. -/
  | corePllRelocked
  /-- RESUME_TIMEOUT [R432]: No relock within 200 µs, and the part returns to SAFE with EV_CLK_FAIL. -/
  | resumeTimeout
  /-- MEM_PLL_RELOCKED [R433]: After SYS_XI returns, the memory PLL relocks and the channels leave self-refresh. -/
  | memPllRelocked
  /-- IRO_STBY_WRITE [R435]: A write of IRO_STBY stops or restarts the IRO and changes the SYS_XI monitor reference. -/
  | iroStbyWrite (m : Master) (w : Word)
  /-- GATE_REQUEST [R436]: A write of CLK.GATE requests closing or opening of block clock gates. -/
  | gateRequest (m : Master) (w : Word)
  /-- GATE_CLOSE [R436]: The block signals bus-idle, and its gate closes. -/
  | gateClose (g : Fin 14)
  /-- GATE_REFUSE_TIMEOUT [R436]: No bus-idle within 10 µs, and the gate request is refused. -/
  | gateRefuseTimeout (g : Fin 14) (mid : BitVec 8)
  /-- CLK_INJ_LREF [R441]: INJ_LREF makes the LREF monitor take N_BAD bad windows. -/
  | clkInjLref (m : Master) (w : Word)
  /-- CLK_INJ_SYSXI [R441]: INJ_SYSXI makes the SYS_XI monitor take N_BAD bad windows. -/
  | clkInjSysxi (m : Master) (w : Word)
  /-- CLK_INJ_GATE [R441]: INJ_GATE refuses the next gate request at 10 µs. -/
  | clkInjGate (m : Master) (w : Word)
  /-- CLK_INJ_IRO [R441]: INJ_IRO withholds IRO_RDY at the next SAFE entry. -/
  | clkInjIro (m : Master) (w : Word)
  /-- DOM_POWER_DOWN_REQ [R448]: Writing 0 to a DOM_REQ bit asks the domain to power down, and it answers ACK, DELAY or REFUSE. -/
  | domPowerDownReq (m : Master) (i : Fin 3) (w : Word)
  /-- DOM_POWER_UP_REQ [R448]: Writing 1 to a DOM_REQ bit queues the domain for power-up. -/
  | domPowerUpReq (m : Master) (i : Fin 3) (w : Word)
  /-- DOM_DRAINED [R448]: The last transfer drains, and a delayed domain answers ACK and quiesces. -/
  | domDrained (d : Dom)
  /-- DOM_DRAIN_TIMEOUT [R448]: A delayed domain has not drained within 2 ms and refuses with cause 1. -/
  | domDrainTimeout (d : Dom)
  /-- DOM_ADMIT [R454]: A queued domain receives its wake tokens and starts to ramp. -/
  | domAdmit
  /-- TOKEN_RETURN [R454]: A token returns to its rail HOLD µs after admission. -/
  | tokenReturn
  /-- DOM_DIG_RDY [R447]: A ramping domain reaches DIG_RDY and is ON, and its machines restart. -/
  | domDigRdy (d : Dom)
  /-- DOM_RAMP_FAIL [R447]: No DIG_RDY within 40 µs: the domain returns to OFF with EV_PWR_DOM_FAIL. -/
  | domRampFail (d : Dom)
  /-- DOM_ANA_RDY [R447]: A domain's analogue supplies settle, and ANA_RDY is set. -/
  | domAnaRdy (d : Dom)
  /-- DOM_OFF [R447]: A quiescing domain's switch opens, and it is OFF. -/
  | domOff (d : Dom)
  /-- REST_REQ [R452]: A write of REST_REQ starts REST entry and asks every domain to power down. -/
  | restReq (m : Master) (w : Word)
  /-- SQ_ANSWER [R452]: The supervisors write their REST answer ACK, DELAY or REFUSE. -/
  | sqAnswer (m : Master) (w : Word)
  /-- REST_SQ_TIMEOUT [R452]: No SQ ACK within 2 ms is taken as REFUSE with cause 3. -/
  | restSqTimeout
  /-- REST_COMMIT [R452]: Every domain has answered ACK: the TLV is anchored, cores stop, domains quiesce, and the part enters REST. -/
  | restCommit
  /-- WAKE_N_ASSERT [R456]: The filtered WAKE_N goes low, which is a wake source in REST. -/
  | wakeNAssert (back : Bool)
  /-- MI2C_ADDRESS_MATCH [R456]: An MI2C address match in REST wakes the part while SCL is stretched. -/
  | mi2cAddressMatch
  /-- EMBER_ALARM [R67]: The ember counter reaches the alarm count and wakes the part. -/
  | emberAlarm
  /-- WAKE [R456]: A wake source starts the wake: the IRO starts, BB is restored, the PLLs lock and TLV is reconstructed. -/
  | wake (us : BitVec 16) (coreLocked memLocked : Bool)
  /-- WAKE_COMPLETE [R456]: Every due domain is ready or failed: the state returns to RUN or DIM, and EV_PWR_WAKE and held events are raised. -/
  | wakeComplete
  /-- PWR_INJ_REFUSE [R458]: INJ_REFUSE makes the next answer of domain INJ_DOM REFUSE. -/
  | pwrInjRefuse (m : Master) (w : Word)
  /-- PWR_INJ_TOKEN [R458]: INJ_TOKEN delays the next admission of INJ_DOM by one HOLD. -/
  | pwrInjToken (m : Master) (w : Word)
  /-- PWR_INJ_DOMFAIL [R458]: INJ_DOMFAIL makes the next RAMP of INJ_DOM fail. -/
  | pwrInjDomfail (m : Master) (w : Word)
  /-- HK_ROUND_START [R463]: A housekeeping slow round starts once its period has passed. -/
  | hkRoundStart
  /-- HK_DWELL_END [R462]: A channel dwell ends: the mean is written, distributed to lanes and cores, and windows are checked. -/
  | hkDwellEnd (raws : List (BitVec 12))
  /-- SELFCAL [R466]: A write of HK.CTRL.SELFCAL starts a converter self-calibration. -/
  | selfcal (m : Master) (w : Word)
  /-- SELFCAL_DONE [R466]: A self-calibration ends, and its factors apply or SC_LIMIT is raised. -/
  | selfcalDone (zeroA refA zeroB refB : Nat)
  /-- TRK_CLR [R482]: HK.CTRL.TRK_CLR clears every min/max tracker. -/
  | trkClr (m : Master) (w : Word)
  /-- LEGACY_CMD [R468]: LEGACY_CMD START inserts a single conversion at the next dwell boundary. -/
  | legacyCmd (m : Master) (w : Word)
  /-- LEGACY_CONVERSION_DONE [R468]: The legacy conversion completes, and its code is written to LEGACY_RES. -/
  | legacyConversionDone (raw : BitVec 12)
  /-- THERMAL_READING [R469]: Each sensor delivers a reading: validity, HOT and the WARN, THROTTLE and SHUTDOWN levels are updated. -/
  | thermalReading (raws : List (BitVec 16))
  /-- SHUT_CLR [R474]: SHUT_CLR with its key marks shutdown records cleared. -/
  | shutClr (m : Master) (w : Word)
  /-- CAL_HKREF [R479]: CAL OP 1 measures the absolute converter gain on CAL_REF. -/
  | calHkref (m : Master) (w : Word)
  /-- CAL_OSC [R479]: CAL OP 2 measures the IRO and LPO against CAL_CLK. -/
  | calOsc (m : Master) (w : Word)
  /-- CAL_TEMP [R479]: CAL OP 3 measures the sensor offsets at the given temperature. -/
  | calTemp (m : Master) (w : Word)
  /-- CAL_APPLY [R479]: CAL OP 4 re-applies one or all calibration sets. -/
  | calApply (m : Master) (w : Word)
  /-- CAL_RUN_DONE [R480]: A calibration run ends, and its results apply all or nothing with EV_CAL_DONE or EV_CAL_FAIL. -/
  | calRunDone (x : CalMeas)
  /-- HK_INJ_TEMP [R481]: INJ_TEMP makes sensor INJ_TS read INJ_DEG for 4 readings. -/
  | hkInjTemp (m : Master) (w : Word)
  /-- HK_INJ_FAIL [R481]: INJ_FAIL gives sensor INJ_TS 3 invalid readings. -/
  | hkInjFail (m : Master) (w : Word)
  /-- HK_INJ_SC [R481]: INJ_SC puts the next self-calibration out of limit. -/
  | hkInjSc (m : Master) (w : Word)
  /-- HK_INJ_WIN [R481]: INJ_WIN treats window INJ_WJ's next result as out of window. -/
  | hkInjWin (m : Master) (w : Word)
  /-- CAL_INJ_FAIL [R481]: CAL INJ_FAIL ends the next run with RESULT 5. -/
  | calInjFail (m : Master) (w : Word)
  /-- CAL_INJ_RANGE [R481]: INJ_RANGE makes the next application of set SET_SEL clamp. -/
  | calInjRange (m : Master) (w : Word)
  /-- ROTATION_STEP [R485]: Every ROT_PER × 16 ms a unit starts a rotation step and powers its shade. -/
  | rotationStep (u : Fin 8)
  /-- SHADE_LBIST_DONE [R485]: The shade's LBIST ends: it is compared, and on a pass it copies the target element's state. -/
  | shadeLbistDone (u : Fin 8) (sig : Word)
  /-- ROTATION_COMPARE_DONE [R488]: The compare period ends: a mismatch repeats LBIST, otherwise the swap instant S is chosen. -/
  | rotationCompareDone (u : Fin 8) (differs : Bool)
  /-- ROTATION_SWAP [R485]: At S the crossbar moves the lane to the shade, and the relieved element becomes the new shade. -/
  | rotationSwap (u : Fin 8)
  /-- LOOP_NEAR_END [R493]: LOOP_CMD OP 1 runs a near-end loopback check of the named lane. -/
  | loopNearEnd (m : Master) (w : Word)
  /-- LOOP_REFERENCE [R493]: LOOP_CMD OP 2 runs a reference and supply check. -/
  | loopReference (m : Master) (w : Word)
  /-- LOOP_CHECK_DONE [R493]: An analogue check ends with its RESULT, raising EV_BIST_LOOP on failure. -/
  | loopCheckDone (errors : Nat) (rms : BitVec 8) (failing : Option (BitVec 8))
  /-- FUSE_CMD [R492]: FUSE_CMD with its key programs a fuse repair entry. -/
  | fuseCmd (m : Master) (w : Word)
  /-- FUSE_PROG_DONE [R492]: Fuse programming ends and is verified. -/
  | fuseProgDone (verified : Bool)
  /-- BIST_INJ_SHADE [R503]: INJ_SHADE makes the next step-2 LBIST of INJ_UNIT mismatch. -/
  | bistInjShade (m : Master) (w : Word)
  /-- BIST_INJ_CMP [R503]: INJ_CMP makes the next compare of INJ_UNIT mismatch. -/
  | bistInjCmp (m : Master) (w : Word)
  /-- BIST_INJ_LOOP [R503]: INJ_LOOP ends the next check with RESULT 5. -/
  | bistInjLoop (m : Master) (w : Word)
  /-- BIST_INJ_MBIST [R503]: INJ_MBIST makes RAM 0 unrepairable at the next boot. -/
  | bistInjMbist (m : Master) (w : Word)
  /-- ALIVE_TOGGLE [R501]: Every ALIVE_HALF × 128 LPO cycles ALIVE toggles while its conditions hold. -/
  | aliveToggle
  /-- ALIVE_KICK [R501]: A write of ALIVE_KICK by the pair starts a new kick window. -/
  | aliveKick (m : Master) (w : Word)
  /-- KICK_TIMEOUT [R501]: No kick within KICK_TO stops ALIVE and raises EV_FLT_ALIVE. -/
  | kickTimeout
  /-- CLR_TOP [R504]: FLT.CTRL.CLR_TOP clears TOP_CLASS. -/
  | clrTop (m : Master) (w : Word)
  /-- REC_CLR [R504]: FLT.CTRL.REC_CLR invalidates every first-error record. -/
  | recClr (m : Master) (w : Word)
  /-- CLR_TROUBLE [R504]: SRC_CFG.CLR_TROUBLE clears the selected source's TROUBLE count. -/
  | clrTrouble (m : Master) (w : Word)
  /-- FLT_INJ_LW [R503]: INJ_LW raises an injected locked-write refusal. -/
  | fltInjLw (m : Master) (w : Word)
  /-- FLT_INJ_FULL [R503]: INJ_FULL makes the next record find the store full. -/
  | fltInjFull (m : Master) (w : Word)
  /-- FLT_INJ_KICK [R503]: INJ_KICK counts the current kick window as missed. -/
  | fltInjKick (m : Master) (w : Word)
  /-- POR_RELEASE [R511]: The last monitored rail is up for 2.0 ms; POR is released, TEST_MODE is sampled and boot begins. -/
  | porRelease (testMode : Bool)
  /-- RAIL_BROWNOUT [R512]: A monitored rail falls below 85 % for over 2.0 µs and asserts POR. -/
  | railBrownout
  /-- BIAS_UNDERVOLTAGE [R512]: VDD_BIAS below 3.0 V for over 2.0 µs zeroes the bias outputs and sets BIAS_UV. -/
  | biasUndervoltage
  /-- BIAS_UV_RECOVER [R512]: VDD_BIAS back above 3.1 V for 100 µs returns the outputs to their targets. -/
  | biasUvRecover
  /-- RESET_N_ASSERT [R516]: The filtered RESET_N assertion begins a chip reset, waking the part first in REST. -/
  | resetNAssert
  /-- RESET_N_RELEASE [R516]: The filtered RESET_N release ends the chip reset and starts boot. -/
  | resetNRelease (long : Bool)
  /-- WAKE_STUCK [R514]: WAKE_N low for WAKE_TO outside REST is flagged and ignored as a wake source. -/
  | wakeStuck
  /-- CLR_LONG [R514]: BIAS_CLR_N low beyond CLR_LONG sets the CLR_LONG flag. -/
  | clrLong
  /-- SYNC_STUCK [R514]: TL_SYNC high for over 1,024 cycles is flagged, and pulses are ignored until it is low again. -/
  | syncStuck
  /-- REGISTER_READ [R19]: A master reads a register or memory word that has no row of its own; the fabric serialises it, applies RC clearing and the R25 upper-word latch, wakes a sleeping domain, or ends it with a decode error. -/
  | registerRead (m : Master) (addr : Word)
  /-- JTAG_RESET [R46]: The JTAG reset instruction starts a chip reset that holds the part for 10 µs and sets RESET_CAUSE.JTAG. -/
  | jtagReset
  /-- STREAM_FRAME_DUE [R265]: A stream's scheduled instant T_k is reached: the frame becomes due, and it may be skipped for backlog, TX_UP = 0 or replay, with COUNT instants taking the stream to DONE. -/
  | streamFrameDue (e : Eng) (i : Fin 1024)
  /-- TX_FFE_SATURATION [R144]: A transmit FFE output saturates at −128 or +127, which counts CLIP and sets ALARM with cause 6, raising EV_LANE_TX_ALARM. -/
  | txFfeSaturation (n : Lane) (words : List (BitVec 2))
  /-- HAZE_DELAY_CLAMPED [R346]: A symbol's jitter delay is clamped at ±4.0 UI, which counts JCLAMP and sets EVT.JCLAMP, raising EV_LANE_HAZE. -/
  | hazeDelayClamped (n : Lane)
  /-- SHUT_CLR_DONE [R474]: Clearing of the shutdown records ends after 1.0 ms per slot, and BUSY clears. -/
  | shutClrDone
  deriving DecidableEq, Repr

end Sys2Proof
end

