-- ==== Sys2Proof/Decode.lean ====
section
/-! DEFINITION. The part decodes no instruction words: no row of spec/opcode_table.json has bits, so a command arrives as
itself and no word spells one. -/

namespace Sys2Proof

/-- The command that a word spells by the table's bits: no row gives any. -/
def decodeTableWord (_nbits _w : Nat) : Option Instr := none

end Sys2Proof
end

