-- ==== Sys2Proof/Config.lean ====
section
/-! DEFINITION. What one part's manufacture fixes, and the free values: constants with no body, so that no proof can
see what they are and a statement about one holds whatever it is. -/

namespace Sys2Proof

/-- The free value drawn the n-th time the model needs one (a value the spec leaves open). -/
opaque Config.freeWord : Nat → BitVec 64

/-- GLB.REV as the fuses hold it (reserved bits are masked away where it is read). -/
opaque Config.fuseRev : Word

/-- GLB.CONFIG bits 5:0 (GRADE and MEM_SIZE) as the fuses hold them. -/
opaque Config.fuseConfig : BitVec 6

/-- The unit serial number (GLB.SERIAL), the reset value of NCP.MAC_LO too. -/
opaque Config.serial : BitVec 64

/-- The factory IRO trim and LPO trim of CLK.COMP (R438). -/
opaque Config.iroTrim : BitVec 8
/-- The factory LPO trim of CLK.COMP (R438). -/
opaque Config.lpoTrim : BitVec 8

/-- The LPO cycles that the ember counter has counted after a number of ticks of true time: the LPO runs at
1.000 MHz within 3 percent (02, the ember counter), so the count is left open. -/
opaque Config.lpoCycles : Nat → Nat

/-- The cycles of the IRO over a number of ticks of true time: 200 MHz within its tolerance (R424). -/
opaque Config.iroCycles : Nat → Nat

/-- The ticks of TLV that the core timebase counts in COAST over a number of ticks of true time, at a ratio that the
part measured before the loss (R64). -/
opaque Config.coastTicks : Nat → Nat

/-- The ticks of true time in which the core timebase counts a number of ticks of TLV in COAST (R64). -/
opaque Config.coastReal : Nat → Nat

/-- The true time at which the LPO's count reaches a number of cycles (R67). -/
opaque Config.lpoInstant : Nat → Nat

/-- The low bits that pseudo-random generators of the impairment path draw (R348): the n-th draw of a seed. -/
opaque Config.prng : Word → Nat → Word

/-- 2^16 times the sine of a cycles out of b, as the jitter stage forms it (R346: the spec gives no precision). -/
opaque Config.sine : Nat → Nat → Int

/-- The n-th Gaussian draw of a seed, of RMS 2^16, before it is truncated (R346 to R348). -/
opaque Config.gauss : BitVec 32 → Nat → Int

/-- The jitter stage's interpolation (R346): two samples per symbol or one, the samples oldest first, the one that the
delay is counted from, and the delay in 1/256 UI. The spec gives no interpolator. -/
opaque Config.interp : Bool → List Int → Nat → Int → Int

/-- Symbol k of SSPRQ, which IEEE 802.3 Clause 120 gives and the spec does not repeat (R238). -/
opaque Config.ssprq : Nat → BitVec 2

/-- The register from which the PRBS31 payload of a stream starts (R264): the spec does not state it. -/
opaque Config.fillSeed : Nat → BitVec 31

/-- Whether the first bit of that sequence is the most significant of its byte (R264): the spec does not state it. -/
opaque Config.fillMsb : Bool

/-- LOG_W2's location of a bit of a page frame: pseudo-channel, bank and row (R298: the mapping is fixed, and nothing
else shows it). Arguments: channel, frame (spare k is frame 2^24 + k), bit of the page. -/
opaque Config.dramLoc : Nat → Nat → Nat → Word

/-- The frames that hold a piece in a DRAM row: channel, pseudo-channel, bank, row (R298: at most 8 frames). -/
opaque Config.rowFrames : Nat → Nat → Nat → Nat → List Nat

end Sys2Proof
end

