-- ==== Sys2Proof/Machine/State.lean ====
section
/-! DEFINITION. The state of the part as plain data: every register (sparse, by address), and every piece of state of
its blocks that no register shows, chapter by chapter. -/

namespace Sys2Proof.Machine

/-- Why the machine stops with a fault. No command of this part does: every happening the spec describes has an effect. -/
inductive Fault where
  /-- Raised by nothing; kept so that the type has a value. Safe: a fault only stops the model. -/
  | unreachable
  deriving DecidableEq, Repr

/-- Why a command is refused. -/
inductive Refusal where
  /-- The command has no meaning yet. Raised by an arm of `exec` only. Safe: the model stops where the part goes on. -/
  | notModelled (mnemonic : String)
  deriving DecidableEq, Repr

/-- How an access field of a register behaves (R19). -/
inductive Acc where
  | ro | rw | w1c | w1s | rc | wo | st | rwlk
  deriving DecidableEq, Repr

/-- The reset source in a register's header (R23). -/
inductive Src where
  | por | chip | block
  deriving DecidableEq, Repr

/-- One field of a register table: offset of its register in the block window (of element 0 where the register is an
array), its bits, its access code and its reset value. -/
structure Fld where
  off : Nat
  hi : Nat
  lo : Nat
  acc : Acc
  rst : Nat
  deriving DecidableEq, Repr

/-- One register header: offset of element 0, number of elements, stride, reset source and fields. -/
structure RegD where
  off : Nat
  count : Nat
  stride : Nat
  src : Src
  flds : List Fld
  deriving DecidableEq, Repr

/-- The blocks of the address map (R39). -/
inductive Blk where
  | glb | boot | clk | pwr | tl | hk | cal | flt | bist | safe | ncp | evt | mdw | sq
  | oct (o : Nat) | fe (e : Nat) | mc (m : Nat) | lane (n : Nat)
  deriving DecidableEq, Repr

/-- What an address decodes to (R39, R40, R43). -/
inductive Place where
  | reg (b : Blk) (off : Nat)
  | core (k : Nat) (data : Bool) (off : Nat)
  | shared (off : Nat)
  | unmapped
  deriving DecidableEq, Repr

/-- How the fabric ends an access: the status the master is told (R22, R38, R40, R361, R392). -/
inductive AccSt where
  | done | decodeErr | timeout | locked | dropped | waiting | blocked
  deriving DecidableEq, Repr

/-- What a master was last told: the access it made, the data read and the status. -/
structure Resp where
  master : Master
  addr : Nat
  write : Bool
  data : Word
  st : AccSt
  deriving DecidableEq, Repr

/-- A register access that waits at the fabric for a domain to wake (R455) or for the wake of the part (R456). -/
structure Access where
  master : Master
  addr : Nat
  write : Bool
  data : Word
  /-- The domain it waits for; 84 for the part. For a load of a core, `data` holds the number of rd (R363). -/
  dom : Nat
  /-- The count of PCLK cycles at which it entered the fabric (R36, R38). -/
  enter : Nat
  deriving DecidableEq, Repr

/-- A raise of an event, as the fault collector took it, waiting for its reactions and its event record (R494, R397). -/
structure Raise where
  id : Nat
  cls : Nat
  host : Bool
  nmt : Bool
  blockRst : Bool
  chipRst : Bool
  tlv : Tlv
  tq : Nat
  seq : Nat
  recIdx : Nat
  deriving DecidableEq, Repr


/-- Why the timeline coasts (R64). -/
inductive CoastCause where
  | none | tlclkLost | restRated | restUnrated
  deriving DecidableEq, Repr

/-- A step of TLV that is due (R58, R65): true time at which it takes effect, its size in ticks, and whether it
resolves a coast. -/
structure StepDue where
  at_ : Nat
  size : Int
  coast : Bool
  deriving DecidableEq, Repr

/-- What the timeline unit holds beside its registers. -/
structure TlSt where
  /-- The timeline value (R51). -/
  tlv : Tlv
  /-- The next expected pulse instant E (R55, R57). -/
  expect : Nat
  /-- SYNC_ERR of the first mismatch of a pair (R58). -/
  firstErr : Option Int
  /-- Misses in a row (R59). -/
  misses : Nat
  step : Option StepDue
  coast : CoastCause
  /-- UNC held when its growth last began (R64). -/
  uncBase : Nat
  /-- TLV when UNC's growth last began. -/
  uncFrom : Nat
  /-- TLV has been realigned to TL_CLK since the coast began (R65). -/
  realigned : Bool
  /-- The TL_CLK monitor, or an injection, has declared TL_CLK lost and not yet good (R434, R78). -/
  lost : Bool
  /-- True time at which an injected loss ends (R78). -/
  injLoss : Option Nat
  injReject : Bool
  injLate : Bool
  injMiss : Bool
  injErr : Bool
  /-- True time at which the running EMBER_RATE window began (R63). -/
  rateFrom : Option Nat
  /-- Ember count held with ANCHOR (R64). -/
  anchorEmber : Nat
  /-- A CAL write's measurement is running (R60). -/
  calRun : Bool
  /-- Lane delays measured by CAL and waiting for the next match (R60), lane and ticks. -/
  newDly : List (Nat × Nat)
  /-- True time of the last correction of the lanes' replicas, and the TLV sent with it (R60). -/
  corrAt : Nat
  repTlv : Tlv
  /-- True time at which ENABLE last went from 0 to 1 (R56). -/
  startAt : Nat
  /-- The ember count at which the alarm wakes the part, converted at REST entry (R67). -/
  alarmAt : Option Nat
  /-- True time from which the next entry may be dispatched: one a PCLK (R70). -/
  dispAt : Nat
  deriving DecidableEq, Repr

/-- The timeline unit at reset. -/
def TlSt.reset : TlSt where
  tlv := 0
  expect := 0
  firstErr := none
  misses := 0
  step := none
  coast := .none
  uncBase := 0
  uncFrom := 0
  realigned := false
  lost := false
  injLoss := none
  injReject := false
  injLate := false
  injMiss := false
  injErr := false
  rateFrom := some 0
  anchorEmber := 0
  calRun := false
  newDly := []
  corrAt := 0
  repTlv := 0
  startAt := 0
  alarmAt := none
  dispAt := 0

/-- What a timed-action entry holds beside its words and status (R69, R70): the arming master, and for a dispatched
entry X, the true time of X, the lanes of scope 2 sampled at dispatch, whether a target domain was not ready, whether
the timeline has stopped since, so that the true time counts (R56), and whether its target's queue was full and has not
taken it yet. -/
structure ActSt where
  master : Nat
  x : Nat
  due : Nat
  mask : Nat
  wait : Bool
  held : Bool
  full : Bool
  deriving DecidableEq, Repr

/-- An entry that nothing has armed. -/
def ActSt.idle : ActSt := ⟨0, 0, 0, 0, false, false, false⟩

/-- An immediate commit that awaits its instant (R75): the lanes of scope 2 are sampled at the write. -/
structure PendCommit where
  cls : Nat
  scope : Nat
  index : Nat
  mask : Nat
  x : Nat
  due : Nat
  deriving DecidableEq, Repr


/-- What a lane's receive front end holds beside its registers (03). -/
structure RxSt where
  /-- Trims written and waiting for the next round boundary (R94): sub-converter and word. -/
  pendTrim : List (Nat × Word)
  /-- Rounds done in CAL (R92). -/
  calRounds : Nat
  /-- Consecutive windows with a stable frequency estimate (R101). -/
  stable : Nat
  /-- Consecutive windows below LOCK_TH. -/
  lockN : Nat
  /-- Consecutive windows above UNLOCK_TH. -/
  unlockN : Nat
  /-- Windows spent in PHASE. -/
  phaseN : Nat
  /-- An AGC step deferred to the end of a cross-fade (R83). -/
  agcDefer : Int
  /-- The timing loop's integrator (R97), 2^-36 UI per CCLK. -/
  freq : Int
  /-- The sample clock rotator's phase (R97), 2^-36 UI. -/
  phi : Int
  deriving DecidableEq, Repr

/-- A receive front end with nothing in progress. -/
def RxSt.idle : RxSt := ⟨[], 0, 0, 0, 0, 0, 0, 0, 0⟩


/-- A path of the Trellis detector (R116, R117): its state â_(k-1), â_(k-2) as symbol numbers, its 14-bit metric, and its
decisions, newest first, each with the least metric difference met so far to a discarded path that differs there (R122). -/
structure Path where
  a1 : Nat
  a2 : Nat
  metric : Nat
  decs : List (Nat × Option Nat)
  deriving DecidableEq, Repr

/-- The Trellis detector: its mode (R118) and the surviving path of each state, by state index. -/
structure Trellis where
  reduced : Bool
  paths : List Path
  deriving DecidableEq, Repr

/-- What a lane's equaliser holds beside its registers and banks (04). -/
structure EqSt where
  /-- Statistics engine: 0 idle, 1 waiting for fades and loads (R127), 2 running, 3 pushing. -/
  stat : Nat
  /-- Conditions met during the block, bit r for reason r (R126). -/
  reasons : Nat
  /-- KIND of the running block. -/
  kind : Nat
  /-- SEQ of the block that is pushed. -/
  seq : Nat
  /-- Data of a header still to be written at the end of the push (R126). -/
  header : Word
  /-- Outgoing bank of the cross-fade in progress (R109). -/
  outBank : Nat
  /-- Bank that a load is filling (R109). -/
  loadBank : Nat
  /-- INJ_MSE armed (R136). -/
  injMse : Bool
  /-- SRC and PARTS of the load in progress (R128). -/
  loadSrc : Nat
  loadParts : Nat
  /-- DEST of the block that is pushed (R125). -/
  dest : Nat
  /-- The Trellis detector, with no path while it has not run (R117). -/
  det : Trellis
  deriving DecidableEq, Repr

/-- An equaliser with nothing in progress. -/
def EqSt.idle : EqSt := ⟨0, 0, 0, 0, 0, 0, 0, false, 0, 0, 0, ⟨false, []⟩⟩


/-- A TX commit held while the synthesiser acquires (R157): X, the true time of X, and the timed-action entry whose
REJECT a time-out sets. -/
structure TxHeld where
  x : Nat
  since : Nat
  entry : Option Nat
  deriving DecidableEq, Repr

/-- What a lane's transmit path holds beside its registers and banks (05). -/
structure TxSt where
  held : Option TxHeld
  /-- Outgoing bank of the cross-fade in progress (R146). -/
  outBank : Nat
  /-- The interpolator's last followed offset, 2^-6 ppm (R151). -/
  offset : Int
  /-- The FFE's delay line (R144): levels sent, newest first. -/
  line : List Int
  /-- T of the precoder's last symbol (R143). -/
  lastT : Nat
  /-- FFE outputs delivered since the fade in progress began (R146). -/
  fadeAt : Nat
  /-- The FFE's last output (R147). -/
  lastV : Int
  /-- The same before rounding, 2^-24 code (R344). -/
  lastX : Int
  /-- The DAC samples of the symbols sent last (R147). -/
  dac : List Int
  /-- The applied phase when PHASE was last committed, 1/256 UI, and the true time of that (R152). -/
  phaseFrom : Int
  phaseAt : Nat
  deriving DecidableEq, Repr

/-- A transmit path with nothing in progress. -/
def TxSt.idle : TxSt := ⟨none, 0, 0, [], 0, 0, 0, 0, [], 0, 0⟩


/-- One bias output beside its registers: the 10 µs range hold, the range sequence (0 none, 1 before its switch,
2 after, R172), and a return by steps to the target (R176). -/
structure BiasCh where
  hold : Bool
  seq : Nat
  snap : Bool
  deriving DecidableEq, Repr

/-- What a lane's bias outputs hold beside their registers (06). -/
structure BiasSt where
  ib : BiasCh
  vb : BiasCh
  /-- The burst gate as the island holds it (R173). -/
  gate : Bool
  /-- Detectors declared and not released (R179): bit 0 compliance, 1 open load, 2 VB overload. -/
  det : Nat
  /-- Detections that clear an output (R180, R183): bits as `det`, bit 3 the watchdog. -/
  clr : Nat
  /-- INJ_LIMIT in force (R195). -/
  injLim : Bool
  /-- INJ_CHANNEL in force. -/
  injCh : Bool
  /-- The APC watchdog runs (R183). -/
  apcRun : Bool
  deriving DecidableEq, Repr

/-- Bias outputs with nothing in progress. -/
def BiasSt.idle : BiasSt := ⟨⟨false, 0, false⟩, ⟨false, 0, false⟩, false, 0, 0, false, false, false⟩

/-- A limit slot of the safety OTP (R184). -/
structure Slot where
  valid : Bool
  /-- Its check bits mismatch (R185). -/
  bad : Bool
  used : Bool
  lim : Word
  duty : Nat
  deriving DecidableEq, Repr

/-- A slot that has not been programmed. -/
def Slot.blank : Slot := ⟨false, false, false, 0, 0⟩

/-- A lane's safety OTP (R184): both copies of the deny mask, and four slots. -/
structure OtpLane where
  denyA : BitVec 64
  denyB : BitVec 64
  slots : List Slot
  deriving DecidableEq, Repr

/-- Safety OTP with nothing programmed. -/
def OtpLane.blank : OtpLane := ⟨0, 0, [.blank, .blank, .blank, .blank]⟩

/-- A safety OTP operation in progress (R192). -/
structure SafeOp where
  op : Nat
  lane : Nat
  lim : Word
  duty : Nat
  deny : BitVec 64
  inj : Bool
  deriving DecidableEq, Repr


/-- A burst context beside its state and cause (R212, R213): the symbol at which it opened, whether energy opened it,
the symbol of its last hit, its digital gain, phase (1/16 UI) and level. -/
structure BurstCtx where
  openedAt : Nat
  byEnergy : Bool
  lastHit : Option Nat
  gain : Nat
  phase : Nat
  level : Nat
  deriving DecidableEq, Repr

/-- A context that is free. -/
def BurstCtx.blank : BurstCtx := ⟨0, false, none, 0, 0, 0⟩

/-- A burst window that is open (R217): its number, whether it is a transmit window, and the TLV of its close. -/
structure OpenWin where
  j : Nat
  tx : Bool
  close : Nat
  deriving DecidableEq, Repr

/-- What a lane's acquisition holds beside its registers (07). -/
structure AcqSt where
  /-- A pass is due after a write of EN = 1 (R199). -/
  armed : Bool
  /-- Candidates that search for framing, bit j (R200). -/
  search : Nat
  /-- Dwells left before Scout may request another commit (R202). -/
  autoHold : Nat
  /-- The energy detector has asserted (R210). -/
  energy : Bool
  /-- Consecutive windows below the deassert level. -/
  lowN : Nat
  ctx0 : BurstCtx
  ctx1 : BurstCtx
  /-- Next instance of windows 0 to 3; none where no instance is left (R217). -/
  next : List (Option Nat)
  /-- Windows that are open. -/
  wins : List OpenWin
  /-- TLV of the close past which an owner runs (R218). -/
  guardAt : Option Nat
  /-- INJ_WINDOW armed (R222). -/
  injWin : Bool
  /-- Symbols counted in BURST, as the detectors stated them last (R210, R211). -/
  sym : Nat
  deriving DecidableEq, Repr

/-- Acquisition with nothing in progress. -/
def AcqSt.idle : AcqSt := ⟨false, 0, 0, false, 0, .blank, .blank, [none, none, none, none], [], none, false, 0⟩

/-- What a lane's frame engine lane stage holds beside LSTAT (R205 to R208): valid markers or headers in a row, bad ones,
headers in the loss window, the stamp of this round's marker (TLV, TQ, STEP_SEQ), and the aligned skew. -/
structure AmSt where
  good : Nat
  bad : Nat
  blk : Nat
  stamp : Option (Nat × Nat × Nat)
  aligned : Nat
  deriving DecidableEq, Repr

/-- A lane stage with nothing found. -/
def AmSt.idle : AmSt := ⟨0, 0, 0, none, 0⟩

/-- A burst record on its way to FE3 (R214): lane, stamp, TQ, STEP_SEQ, context and level. -/
structure BurstRec where
  lane : Nat
  t : Nat
  tq : Nat
  seq : Nat
  ctx : Nat
  level : Nat
  deriving DecidableEq, Repr


/-- Live FEC counters of a lane, which only a snapshot shows (R233, R234). -/
structure FecLive where
  cw : Nat
  sym : Nat
  bit : Nat
  uncorr : Nat
  innerCor : Nat
  innerDet : Nat
  /-- HIST[0] to HIST[16]. -/
  hist : List Nat
  deriving DecidableEq, Repr

/-- Live counters just after a snapshot. -/
def FecLive.zero : FecLive := ⟨0, 0, 0, 0, 0, 0, List.replicate 17 0⟩

/-- A 66-bit block (R224): its sync header, 1 for data and 2 for control, and its payload, bit 0 first. -/
structure Blk66 where
  hdr : BitVec 2
  pay : BitVec 64
  deriving DecidableEq, Repr

/-- A decoded interleave block (R229, R231): its 2,176 bits, the reliability of its 1,088 symbols, which of its codewords
were detected as bad, and how many were corrected. -/
structure InnerOut where
  bits : List Nat
  rel : List Nat
  det : List Bool
  cor : Nat
  deriving DecidableEq, Repr

/-- A received codeword (R229, R232): which of those interleaved on the stream it is, its symbols, the reliability of its
2,720 PAM4 symbols, the symbols marked as erasures, and the inner codewords corrected and detected within it. -/
structure RsIn where
  c : Nat
  syms : List Nat
  rel : List Nat
  erased : List Nat
  cor : Nat
  det : Nat
  deriving DecidableEq, Repr

/-- A decoded codeword as forensics and capture keep it (R235, R236, R310): the stamp of its first symbol with the tags of
that instant, its number in the stream, symbols and reliabilities as received, whether it is uncorrectable, the symbols
corrected and those that were erasures, and the inner codewords corrected and detected within it. -/
structure RsCw where
  t : Nat
  tq : Nat
  stepSeq : Nat
  seq : Nat
  syms : List Nat
  rel : List Nat
  unc : Bool
  fixed : List Nat
  erased : List Nat
  innerCor : Nat
  innerDet : Nat
  deriving DecidableEq, Repr

/-- The coding of a group's links (R224, R225). Transmit: blocks that wait, the scrambler's register, the member whose block
is next, coded blocks that wait with their lane, and the blocks of a 10GbE or 25GbE frame as sent last. Receive: the
descrambler's register, the member whose block is next, blocks that wait with their lane and whether their codeword was
uncorrectable, and the 66-bit blocks handed to the parser last. -/
structure PcsSt where
  q : List Blk66
  scr : Nat
  next : Nat
  out : List (Nat × BitVec 257)
  line : List Blk66
  dscr : Nat
  rxNext : Nat
  rxQ : List (Nat × Bool × BitVec 257)
  rx : List Blk66
  deriving DecidableEq, Repr

/-- A group that has coded nothing. DESIGN CHOICE: the spec gives the scrambler no start; every bit is 1. -/
def PcsSt.idle : PcsSt := ⟨[], 2 ^ 58 - 1, 0, [], [], 2 ^ 58 - 1, 0, [], []⟩

/-- What a lane's FEC, generator and checker hold beside their registers (08). -/
structure FecSt where
  live : FecLive
  /-- HIST_SRC in force since the last snapshot (R234). -/
  histSrc : Bool
  /-- Passing blocks in a row during the search for inner alignment (R230). -/
  innerGood : Nat
  /-- Failing (true) or passing blocks, the last 63, newest first. -/
  innerLast : List Bool
  /-- TLV at which the generator last started (R239). -/
  pgStart : Nat
  /-- Symbols that the generator has sent since (R239). -/
  pgSent : Nat
  /-- The symbols of the pattern that an injection flips: the first, and how many (R240). -/
  flipAt : Nat
  flipN : Nat
  /-- Where the checker stands in LOCKED: its register, or the phase of the next symbol (R241). -/
  pcPos : Nat
  /-- Codewords that carried symbols since the last corrupted one (R244). -/
  txCount : Nat
  /-- INJ_UNCORR armed (R246). -/
  injUncorr : Bool
  /-- Soft words received that no interleave block has taken, the symbol offset under test, and the blocks decoded of the
  codeword pair under way (R229, R230). -/
  innerBuf : List (BitVec 4)
  innerOfs : Nat
  innerBlks : List InnerOut
  /-- Codewords that wait for the RS decoder (R229), and those decoded since the last marker (R226). -/
  rsIn : List RsIn
  rxCwN : Nat
  /-- Codewords sent, which place the marker (R226), and the first of a pair under way (R225). -/
  txCwN : Nat
  txHalf : List Nat
  deriving DecidableEq, Repr

/-- A lane with nothing decoded. -/
def FecSt.idle : FecSt := ⟨.zero, false, 0, [], 0, 0, 0, 0, 0, 0, false, [], 0, [], [], 0, 0, []⟩

/-- A forensic record in flight (R235 to R237): engine, plot, and the bytes that must leave the plot's buffer for its last
slot to be written. -/
structure ForRec where
  eng : Nat
  plot : Nat
  left : Nat
  deriving DecidableEq, Repr


/-- A flow context (R271): configuration words 0 and 1 active and staged, counters, and the sequence state. -/
structure FlowCtx where
  (cfg0 cfg1 sh0 sh1 : Word := 0)
  (frames bytes lost dup reorder stale resync fcsErr : Nat := 0)
  /-- Latency results (R258): invalid samples, least, greatest, sum and count. -/
  (latInvalid latMax latSum latCnt : Nat := 0)
  latMin : Nat := 0xFFFFFFFF
  /-- Delay variation (R259, R260): greatest, the running estimate, sum and count. -/
  (dvMax j16 dvSum dvCnt : Nat := 0)
  (first last rateFrames rateBytes : Nat := 0)
  /-- Expected number X, its validity, and the map of the 64 numbers below it: bit k is X - 1 - k, 1 received (R257). -/
  x : Nat := 0
  xv : Bool := false
  map : Nat := 2 ^ 64 - 1
  lastLat : Nat := 0
  lastLatV : Bool := false
  hist : List Nat := List.replicate 32 0
  /-- FIRST_TLV is still to be taken. -/
  fresh : Bool := true
  /-- Frames and bytes of the rate interval that runs (R262). -/
  (curFrames curBytes : Nat := 0)
  deriving DecidableEq, Repr

/-- A flow that nothing has configured: every field at the value its declaration gives. -/
def FlowCtx.blank : FlowCtx := {}

/-- A stream context (R272): configuration words 0 to 15 active and staged, counters, and the schedule. -/
structure StrmCtx where
  (cfg sh : List Word := List.replicate 16 0)
  (txFrames txBytes nextSeq late maxSlip skipped : Nat := 0)
  /-- Next scheduled instant, 1/256 tick (R265). -/
  due : Nat := 0
  /-- First instant of the burst that runs, and frames of it scheduled. -/
  (burst0 burstN : Nat := 0)
  /-- The same three as they stood at the last scheduled instant, once there is one (R269). -/
  last : Option (Nat × Nat × Nat) := none
  /-- Instants passed (R269). -/
  count : Nat := 0
  state : Nat := 0
  /-- Due frames not yet started, oldest first, by instant (R267). -/
  backlog : List Nat := []
  /-- The next length of LEN_MODE 1, and what the modifier has added (R264). -/
  (len mod : Nat := 0)
  /-- Payload bytes that FILL_MODE 2 has drawn. -/
  fillPos : Nat := 0
  deriving DecidableEq, Repr

/-- A stream that nothing has configured: every field at the value its declaration gives. -/
def StrmCtx.blank : StrmCtx := {}


/-- A cross-fade of a watch channel's filter (R291): the outgoing stage's K and y, the new one's S1, the fade's length,
and the stage-1 outputs since the commit. -/
structure WFade where
  kOld : Nat
  yOld : Nat
  s1 : Nat
  len : Nat
  i : Nat
  deriving DecidableEq, Repr

/-- A watch chain (R279 to R286). -/
structure ChainSt where
  /-- R, the instant of the last synchronising reset, and base intervals since. -/
  r : Nat
  m : Nat
  /-- Base intervals and sum in the stage-1 block that runs. -/
  nb : Nat
  acc : Nat
  /-- Recursive state, 2^-16 of the tap unit. -/
  y : Nat
  /-- Stage-1 outputs since the reset (R283), and since stage 3 last restarted. -/
  o1 : Nat
  c3 : Nat
  /-- Last available tap value since the reset (R285). -/
  last : Option Nat
  /-- An unavailable interval, or a new accumulator result, since the last sample. -/
  gap : Bool
  newHk : Bool
  /-- SEQ of the housekeeping result taken last since the reset (R278). -/
  hkSeq : Option Nat
  fade : Option WFade
  /-- Resets due: the instant in TLV, and in true time where the timeline is STOPPED. -/
  due : List (Nat × Nat)
  /-- INJ_CROSS armed (R294). -/
  inj : Bool
  deriving DecidableEq, Repr

/-- A chain that has not run. -/
def ChainSt.idle : ChainSt := ⟨0, 0, 0, 0, 0, 0, 0, none, false, false, none, none, [], false⟩


/-- A page as a frame holds it (R299, R300): its data, stamp, the flags of byte 8, STEP_SEQ, plot, byte 11, FIRST, FILL,
and the strength of its page code (R301). -/
structure Page where
  data : List Byte
  stamp : Nat
  flags : Nat
  stepSeq : Nat
  plot : Nat
  src : Nat
  first : Nat
  fill : Nat
  t : Nat
  deriving DecidableEq, Repr

/-- The start of a record in a page buffer: its offset, stamp, TQ and STEP_SEQ. -/
structure RecHead where
  off : Nat
  t : Nat
  tq : Nat
  seq : Nat
  deriving DecidableEq, Repr

/-- What a plot holds beside its registers (R306, R307, R313). -/
structure PlotSt where
  /-- Record bytes not yet written as pages, and the records that start in them. -/
  buf : List Byte
  heads : List RecHead
  /-- The record that runs through the start of `buf`. -/
  cur : RecHead
  /-- Pages written since the last START (R315). -/
  since : Nat
  /-- Sources whose next page carries GAP (R313): lanes, or 64 for the engine. -/
  gaps : List Nat
  /-- Engine lanes whose part-filled page is still in a buffer after a freeze (R307). -/
  flush : Nat
  /-- INJ_OVF armed (R337). -/
  inj : Bool
  deriving DecidableEq, Repr

/-- A plot with nothing in its buffers. -/
def PlotSt.idle : PlotSt := ⟨[], [], ⟨0, 0, 0, 0⟩, 0, [], 0, false⟩

/-- A fire on its way to its trigger (R314): trigger, stamp, TQ, STEP_SEQ. -/
structure Fire where
  trig : Nat
  t : Nat
  tq : Nat
  seq : Nat
  deriving DecidableEq, Repr

/-- What a replay context holds beside its registers (R317 to R320). -/
structure RpSt where
  /-- Plays of the current segment and of the segment list that have ended. -/
  loops : Nat
  seqs : Nat
  /-- Next record (KIND 0) or page (KIND 1) of the segment. -/
  idx : Nat
  /-- T_pass, and stamp, TQ and STEP_SEQ of the first frame of the pass. -/
  tPass : Nat
  s0 : Option (Nat × Nat × Nat)
  /-- End of the last frame with its minimum gap. -/
  lastEnd : Nat
  /-- Pages below this one have been read in this play, and the uncorrectable ones among them (R321). -/
  seen : Nat
  bad : List Nat
  /-- Symbols sent since START (R320). -/
  sent : Nat
  /-- Stop at the end of the frame in progress (R318). -/
  stop : Bool
  /-- INJ_UNDER armed (R337). -/
  inj : Bool
  deriving DecidableEq, Repr

/-- A context that has played nothing. -/
def RpSt.idle : RpSt := ⟨0, 0, 0, 0, none, 0, 0, [], 0, false, false⟩

/-- A codeword stream (R235): its codeword number, and the last 7 codewords, oldest first. -/
structure StreamSt where
  count : Nat
  last : List RsCw
  deriving DecidableEq, Repr

/-- A stream before its first codeword. -/
def StreamSt.idle : StreamSt := ⟨0, []⟩


/-- What a lane's Haze stages hold beside their registers and banks (12). -/
structure HazeSt where
  /-- The cut-through buffer, oldest first (R339), and the symbol it gave last (R341). -/
  buf : List (BitVec 2)
  lastOut : BitVec 2
  /-- True time at which an injected hold ends (R340). -/
  injUntil : Nat
  /-- Outgoing bank of the cross-fade in progress (R345). -/
  outBank : Nat
  /-- Draws made of the error generator since it restarted (R343, R348). -/
  errIdx : Nat
  /-- True time before which no slip falls (R341). -/
  slipAt : Nat
  /-- True time of the commit that set ERR_MODE, and bursts of ERR_MODE 2 since (R343). -/
  errFrom : Nat
  errN : Nat
  /-- The symbols of the last burst as the decision stage passed them on (R343). -/
  errOut : List (BitVec 2)
  /-- The waveform stage: samples before and after the ISI filter, newest first (R344), and symbols since its cross-fade
  began (R345). -/
  vs : List Int
  ws : List Int
  fadeAt : Nat
  /-- Phase of the sinusoid, the last delay in 1/256 UI, symbols since JIT_EN fell, and draws of the jitter and noise
  generators (R346 to R348). -/
  phi : Nat
  dly : Int
  slew : Nat
  jitIdx : Nat
  noiseIdx : Nat
  deriving DecidableEq, Repr

/-- A lane whose Haze stages have done nothing. -/
def HazeSt.idle : HazeSt := ⟨[], 0, 0, 0, 0, 0, 0, 0, [], [], [], 0, 0, 0, 0, 0, 0⟩

/-- A frame on its way through frame-level impairment (R350, R351): engine, forwarded group slot (16 for a stream's),
rule (2,048 for none), transmit slot, priority, its instant T_k, its bytes (whole where `raw`, else without FCS), the
corruption still to be applied (kind and offset), the tag to be stamped as it starts, its fix-up, how often it is sent,
and whether it directly follows the frame just sent. -/
structure HzFrame where
  eng : Nat
  path : Nat
  rule : Nat
  tg : Nat
  prio : Nat
  t : Nat
  bytes : List Byte
  raw : Bool
  corr : Option (Nat × Nat)
  tag : Option (Nat × Nat × Nat)
  fix : Bool
  copies : Nat
  next : Bool
  deriving DecidableEq, Repr

/-- A frame held for reorder (R351): later releases still to come, TLV at which it is released anyway, and whether a
delay follows. -/
structure HzHeld where
  f : HzFrame
  left : Nat
  until_ : Nat
  delayed : Bool
  deriving DecidableEq, Repr


/-- What a Fjot core holds (13). The supervisor pair is core 16; S1 runs the same program (R366). -/
structure CoreSt where
  /-- General registers by number; an unlisted register, and g0, hold 0 (R367). -/
  g : List (Nat × Word)
  pc : Word
  /-- P mode; false is A mode. -/
  priv : Bool
  /-- CSRs by number; an unlisted one holds 0 (R370). -/
  csr : List (Nat × Word)
  /-- The mode held before the non-maskable trap (R374). -/
  nmtMode : Bool
  /-- Timeline mailbox: code and stamp, oldest first (R376). -/
  mbox : List (Word × Word)
  /-- CYCLE when true time was `cycleAt` (R380). -/
  cycle : Nat
  cycleAt : Nat
  /-- Upper word of CYCLE latched by a read of CYCLE_LO. -/
  cycleHi : Option Word
  /-- True time at which the watchdog's count began, or the ticks that it has counted while it stops (R377). -/
  wdogAt : Nat
  /-- Sample buffer: word i of entry e at 4e + i (R382). -/
  samples : List (Nat × Word)
  /-- A sample awaits its instruction (R382). -/
  sampleWait : Bool
  /-- Word selected by SAMPLE_RD. -/
  sampleSel : Nat
  /-- A request of the non-maskable trap held while INNMT = 1 (R374): event, class and record. -/
  nmtHeld : Option (Nat × Nat × Nat)
  /-- Address of the last store posted to the window (R363). -/
  post : Word
  deriving DecidableEq, Repr

/-- A core in RESET: P mode, PC 0, CSRs at reset. -/
def CoreSt.reset : CoreSt := ⟨[], 0, true, [], true, [], 0, 0, none, 0, [], false, 0, none, 0⟩


/-- An event record of an NCP session (R397): TLV, ID, byte 10 (TQ and class), STEP_SEQ and REPEAT. -/
structure EvRec where
  t : Nat
  id : Nat
  tqCls : Nat
  seq : Nat
  rep : Nat
  deriving DecidableEq, Repr

/-- Raises of one ID under holdoff (R397): the true time of the last record, and the record that merges the raises since. -/
structure HoldOff where
  at_ : Nat
  merged : Option EvRec
  deriving DecidableEq, Repr

/-- A datagram of the part's stream (R400, R401): SEQ, its messages, the host SEQ that it answers, the event records in
it, how often it was sent, and the true time of the last sending. -/
structure Dgram where
  seq : Nat
  msgs : List Byte
  answers : Option Nat
  recs : Nat
  sent : Nat
  at_ : Nat
  deriving DecidableEq, Repr

/-- A message that waits for credit (R401): its bytes, the host SEQ that it answers, the event records in it. -/
structure NcpMsg where
  bytes : List Byte
  answers : Option Nat
  recs : Nat
  deriving DecidableEq, Repr

/-- A bulk read that runs (R396): tag, plot, next page, pages left, pages sent. -/
structure BulkRd where
  tag : Word
  plot : Nat
  page : Nat
  left : Nat
  done : Nat
  /-- The host SEQ that it answers. -/
  seq : Nat
  deriving DecidableEq, Repr

/-- A session slot of the NCP engine (R399). What a session holds beside its registers. -/
structure SessSt where
  /-- Sessions that the slot has held (the generation of SESSION). -/
  gen : Nat
  ip : List Byte
  /-- Expected host SEQ, own next SEQ, and the highest SEQ that the host accepts. -/
  expect : Nat
  seq : Nat
  credit : Nat
  /-- Datagrams not acknowledged, oldest first. -/
  store : List Dgram
  /-- Messages that wait for credit or store. -/
  waitq : List NcpMsg
  /-- Event records not yet sent. -/
  evq : List EvRec
  /-- Records dropped since the last EVENT message, and since OPEN or RESYNC. -/
  lostEv : Nat
  lostAll : Nat
  /-- A run of drops has raised EV_NCP_EVT_LOST. -/
  lostRun : Bool
  /-- Holdoff by event ID. -/
  hold : List (Nat × HoldOff)
  bulks : List BulkRd
  /-- True time of the last host datagram, and plus 1 of the last NAK sent and taken. -/
  lastRx : Nat
  nakTx : Nat
  nakRx : Nat
  /-- INJ_LOSS and INJ_EVT armed (R404). -/
  injLoss : Bool
  injEvt : Bool
  /-- The messages of the last datagram sent. -/
  lastMsgs : List Byte
  deriving DecidableEq, Repr

/-- A slot that no session has used. -/
def SessSt.free : SessSt where
  gen := 0
  ip := []
  expect := 0
  seq := 0
  credit := 0
  store := []
  waitq := []
  evq := []
  lostEv := 0
  lostAll := 0
  lostRun := false
  hold := []
  bulks := []
  lastRx := 0
  nakTx := 0
  nakRx := 0
  injLoss := false
  injEvt := false
  lastMsgs := []

/-- A timed batch (R395): slot and generation of its session, tag, BATCH_ID, CONTINUE, TIME and pairs. -/
structure Batch where
  slot : Nat
  gen : Nat
  tag : Word
  id : Word
  cont : Bool
  time : Nat
  pairs : List WritePair
  /-- The host SEQ that it answers. -/
  seq : Nat
  deriving DecidableEq, Repr

/-- A COMMIT message in progress (R394): slot, generation, tag, word, TIME, the true time at which it started; the
timed-action entry that it armed, or none while it waits for SQ.SEM[0], and for an immediate commit. -/
structure NcpCommit where
  slot : Nat
  gen : Nat
  tag : Word
  w : Word
  time : Nat
  since : Nat
  entry : Option Nat
  /-- Immediate commits still to execute until this one has, itself included; 0 for a timed commit. -/
  left : Nat
  /-- The host SEQ that it answers. -/
  seq : Nat
  deriving DecidableEq, Repr

/-- A host message as the engine executes it (R391), or the writes of a dispatched batch (R395) with their X. -/
inductive NcpReq where
  | read (addrs : List Word)
  | write (cont : Bool) (pairs : List WritePair)
  | commit (w : Word) (time : Nat)
  | batch (cont : Bool) (time : Nat) (id : Word) (pairs : List WritePair)
  | cancel (id : Word)
  | bulkRead (plot first count : Nat)
  | bulkWrite (plot page span meta_ : Word) (data : List Byte) (res : PageRes)
  | digest | keepalive
  | resync (seq : Nat)
  | close (reason : Nat)
  | run (b : Batch) (x : Nat)
  | malformed
  deriving DecidableEq, Repr

/-- A message that the engine executes or that waits its turn (R393): its session, tag, type and the SEQ of the host's
datagram; the accesses done, the words read, the status of the first failure, its index, and the writes executed. -/
structure NcpJob where
  slot : Nat
  gen : Nat
  tag : Word
  typ : Nat
  seq : Nat
  req : NcpReq
  done : Nat
  got : List Word
  status : Nat
  fail : Option Nat
  count : Nat
  deriving DecidableEq, Repr


/-- A QSPI operation in progress (R423): device, OP, address and the buffer's bytes. -/
structure QspiOp where
  dev : Nat
  op : Nat
  addr : Nat
  data : List Byte
  deriving DecidableEq, Repr


/-- A closure request of a clock gate that waits for bus-idle (R436): its true time, and whether it is to be refused. -/
structure GateReq where
  at_ : Nat
  inj : Bool
  deriving DecidableEq, Repr

/-- What the clock block holds beside its registers (16). -/
structure ClkSt where
  /-- Consecutive good and bad windows of monitor j (R428). -/
  good : List (Nat × Nat)
  bad : List (Nat × Nat)
  /-- The last declaration of monitor j: 0 none, 1 good, 2 lost. -/
  decl : List (Nat × Nat)
  /-- Injected bad windows left of monitor j (R441). -/
  inj : List (Nat × Nat)
  /-- True time of the detection that began the entry to SAFE in progress (R430), or of the resume (R432). -/
  at_ : Nat
  /-- IRO_RDY is withheld in this entry (R441). -/
  withheld : Bool
  injIro : Bool
  injGate : Bool
  /-- True time plus 1 of the last trip of the LREF monitor (R428). -/
  lrefTrip : Nat
  /-- A loss of SYS_XI, or of the memory PLL's lock, has been raised and not restored (R433). -/
  sysxiLoss : Bool
  /-- PLL_CFG as the core PLL and the memory PLL use it (R425). -/
  coreCfg : Word
  memCfg : Word
  /-- Gate requests by block (R436). -/
  gates : List (Nat × GateReq)
  /-- True time until which an output is driven low after a change of EN or SEL (R439). -/
  ckLow : List (Nat × Nat)
  /-- True time plus 1 at which an output's modulation last started from zero offset (R439). -/
  ckMod : List (Nat × Nat)
  deriving DecidableEq, Repr

/-- The clock block at reset. -/
def ClkSt.reset : ClkSt where
  good := []
  bad := []
  decl := []
  inj := []
  at_ := 0
  withheld := false
  injIro := false
  injGate := false
  lrefTrip := 0
  sysxiLoss := false
  coreCfg := 0x0055040D
  memCfg := 0x0055040D
  gates := []
  ckLow := []
  ckMod := []


/-- What a switched domain holds beside DOM_STAT (17). -/
structure DomSt where
  /-- True time of the power-down request that DELAY answered, plus 1 (R448). -/
  delayAt : Nat
  /-- Master of the transfer in flight that the answer names. -/
  master : Nat
  /-- A power-down was requested while QUEUED or RAMP (R457). -/
  down : Bool
  /-- A power-up was requested while QUIESCE (R457). -/
  up : Bool
  /-- Its power-up was requested by an access or a timed action (R454), and no return to OFF has been asked yet (R455). -/
  byAccess : Bool
  /-- True time of the request in the queue, and of the admission. -/
  queuedAt : Nat
  admitAt : Nat
  /-- INJ_REFUSE, INJ_TOKEN, INJ_DOMFAIL armed; the RAMP in progress is to fail (R458). -/
  injRefuse : Bool
  injToken : Bool
  injFail : Bool
  failing : Bool
  /-- Its last handshake answer in this REST entry was ACK (R452). -/
  ack : Bool
  deriving DecidableEq, Repr

/-- A domain with nothing in progress. -/
def DomSt.idle : DomSt := ⟨0, 0xFF, false, false, false, 0, 0, false, false, false, false, false⟩

/-- A refuser log entry (R457). -/
structure RefLog where
  w0 : Word
  t : Nat
  deriving DecidableEq, Repr

/-- What the power controller holds beside its registers (17). -/
structure PwrSt where
  /-- First class of the queue, in order of request (R454). -/
  first : List Nat
  /-- Tokens out: rail, count and the true time of their return. -/
  out : List (Nat × Nat × Nat)
  /-- Refuser log, newest first. -/
  log : List RefLog
  /-- True time of REST_REQ (R452). -/
  restAt : Nat
  /-- A wake source that has asserted in REST, or during steps 3 to 5 of the entry, and its true time. -/
  wakeSrc : Option (Nat × Nat)
  /-- True time of the wake source of the wake in progress. -/
  wakeAt : Nat
  /-- The wake source of the wake in progress. -/
  waking : Nat
  /-- WAKE_N is stuck (R514): no wake source until high. -/
  wakeBad : Bool
  /-- Timed actions whose target domain wakes for them: domains. -/
  acts : List Nat
  deriving DecidableEq, Repr

/-- The power controller at reset. -/
def PwrSt.reset : PwrSt := ⟨[], [], [], 0, none, 0, 0, false, []⟩


/-- A thermal sensor (R469): invalid and valid readings in a row, its last valid reading, and injected readings left. -/
structure TsSt where
  bad : Nat
  good : Nat
  last : Int
  injTemp : Nat
  injDeg : Nat
  injFail : Nat
  /-- It has given a valid reading. -/
  has : Bool
  deriving DecidableEq, Repr

/-- A sensor that has given no reading. -/
def TsSt.idle : TsSt := ⟨0, 0, 0, 0, 0, 0, false⟩

/-- A thermal level (R470): its state, and consecutive readings that would change it. -/
structure LvlSt where
  on : Bool
  n : Nat
  deriving DecidableEq, Repr

/-- A calibration set (R476): its points' temperatures, 1/8 °C, the values at each point, and its size in bytes. -/
structure CalSet where
  pts : List Int
  vals : List (List Int)
  size : Nat
  /-- The last application clamped (R478). -/
  clamped : Bool
  deriving DecidableEq, Repr

/-- No set. -/
def CalSet.none : CalSet := ⟨[], [], 0, false⟩

/-- A calibration run in progress (R479). -/
structure CalRun where
  op : Nat
  arg : Nat
  inj : Bool
  /-- CAL_CLK has been declared lost during the run. -/
  clkBad : Bool
  /-- True time of its start. -/
  at_ : Nat
  deriving DecidableEq, Repr

/-- What housekeeping holds beside its registers (18). -/
structure HkSt where
  /-- True time plus 1 at which the legacy conversion was asked for (R468). -/
  legAt : Nat
  /-- True time plus 1 at which the last round started (R463). -/
  roundAt : Nat
  /-- SETTLE and ACC of the dwell in progress (R464). -/
  settle : Nat
  acc : Nat
  /-- True time at which the dwell in progress started. -/
  dwellAt : Nat
  /-- A self-calibration is due when the calibration run ends (R467). -/
  scHeld : Bool
  injSc : Bool
  /-- True time at which the self-calibration in progress started. -/
  scAt : Nat
  /-- Reading of TS30 at the last self-calibration. -/
  scTemp : Int
  /-- Windows out of range, and INJ_WIN armed, a bit each (R465, R481). -/
  winOut : Nat
  injWin : Nat
  /-- Sensors by number. -/
  ts : List (Nat × TsSt)
  warn : LvlSt
  thr : LvlSt
  shut : LvlSt
  /-- The sensors have given readings since the last release of reset (R473), and the true time of the last. -/
  hotKnown : Bool
  thAt : Nat
  /-- The part has been in OFF, and boot step 1 has not ended since (R473). -/
  offWait : Bool
  /-- Shutdown records that SHUT_CLR clears, a bit each, 16 for the AON copy (R474). -/
  clearing : Nat
  /-- The calibration run in progress. -/
  run : Option CalRun
  injCal : Bool
  /-- INJ_RANGE armed: the set plus 1. -/
  injRange : Nat
  /-- Applied values of the kinds that no register shows: BIAS by lane, HKIN (R475). -/
  biasCal : List (Nat × List Int)
  hkin : List Int
  deriving DecidableEq, Repr

/-- Housekeeping at reset. -/
def HkSt.reset : HkSt where
  legAt := 0
  roundAt := 0
  settle := 0
  acc := 0
  dwellAt := 0
  scHeld := false
  injSc := false
  scAt := 0
  scTemp := 0
  winOut := 0
  injWin := 0
  ts := []
  warn := ⟨false, 0⟩
  thr := ⟨false, 0⟩
  shut := ⟨false, 0⟩
  hotKnown := false
  thAt := 0
  offWait := false
  clearing := 0
  run := none
  injCal := false
  injRange := 0
  biasCal := []
  hkin := []


/-- What a rotation unit holds beside its registers (19). -/
structure RotSt where
  /-- True time plus 1 of the last step's start (R485). -/
  startAt : Nat
  /-- True time at which its step 2 or 4 started. -/
  at_ : Nat
  /-- The LBIST in progress repeats step 2 after a mismatch (R488). -/
  redo : Bool
  /-- The relieved element runs step 2 before it is powered down (R488). -/
  relieved : Option Nat
  /-- Swap instant S, as TLV and true time. -/
  swap : Option (Nat × Nat)
  injShade : Bool
  injCmp : Bool
  deriving DecidableEq, Repr

/-- A unit that does not rotate. -/
def RotSt.idle : RotSt := ⟨0, 0, false, none, none, false, false⟩

/-- An analogue check in progress (R493): OP, lane, and whether it ends with RESULT 5. -/
structure LoopRun where
  op : Nat
  lane : Nat
  inj : Bool
  deriving DecidableEq, Repr




set_option maxRecDepth 2000 in
/-- The whole state of the part. -/
structure State where
  /-- The commands that wait, first in, first out. -/
  pending : List Instr := []
  /-- True time since reset, in ticks of 25.6 ps (the model's own clock). -/
  now : Nat
  /-- How many free values have been drawn (the model's own field, not the spec's). -/
  free : Nat
  /-- Active register values by host address, and by object key above 2^32; an unlisted key holds its reset value. -/
  regs : List (Nat × Word) := []
  /-- Shadow copies of the registers with ST fields (R19, R74); an unlisted key holds its reset value. -/
  shadow : List (Nat × Word) := []
  /-- Upper words latched by a read of the lower word (R25), by the address of the upper word. -/
  latch : List (Nat × Word) := []
  /-- The sequencer memories (R43), one byte per host address; an unlisted byte reads 0. -/
  mem : List Host.Cell := []
  /-- PCLK cycles counted up to the true time `pclkAt`: none pass while PCLK is stopped (R38). -/
  pclkBase : Nat
  /-- True time up to which PCLK cycles have been counted. -/
  pclkAt : Nat
  /-- The last answer the fabric gave a master. -/
  resp : Option Resp
  /-- Accesses that wait for a domain (R455) or for the part (R456), oldest first. -/
  waiting : List Access := []
  /-- Raises whose reactions have not been taken yet. -/
  raised : List Raise := []
  /-- The lock conditions that boot completion sets have been met (R418). -/
  locksSet : Bool
  /-- True time at which a scheduled chip reset begins (R46). -/
  chipRstAt : Option Nat
  /-- The bit of GLB.RESET_CAUSE that the scheduled chip reset sets (R46, R47). -/
  rstCause : Nat
  /-- The part is held in chip reset (R46). -/
  inReset : Bool
  /-- EV_FLT_REC_FULL has been raised since REC_CLR (R499). -/
  recFull : Bool
  /-- INJ_FULL armed (R503). -/
  injFull : Bool
  /-- The timeline unit (02). -/
  tl : TlSt
  /-- Timed-action entries beside their words (R69, R70); an unlisted entry has master 0 and X 0. -/
  acts : List (Nat × ActSt) := []
  /-- Immediate commits that await their instant (R75), oldest first. -/
  commits : List PendCommit := []
  /-- Registers whose shadow has been written in the PCLK cycle numbered here, with the shadow before: a copy in that cycle takes the old one (R74). -/
  lateSh : List (Nat × Word × Nat) := []
  /-- The instant of the last commit, as true time, and the groups (64 times the class plus the instance) that have met a commit at it (R75). -/
  commitAt : Nat × List Nat
  /-- Open pair windows (R77): 64 times the class plus the group's number, and the true time of opening plus 1. -/
  legacy : List (Nat × Nat) := []
  /-- TQ and STEP_SEQ as they stood from a TLV on (R66), the last 64 changes, newest first. -/
  tagHist : List (Nat × (Nat × Nat)) := []
  /-- Receive front ends by lane (03); an unlisted lane is idle. -/
  rx : List (Nat × RxSt) := []
  /-- Equalisers by lane (04); an unlisted lane is idle. -/
  eq : List (Nat × EqSt) := []
  /-- Bank words written in the last PCLK cycle that had one (R109): key, the word before, and that PCLK cycle. -/
  lateCoef : List (Nat × Word × Nat) := []
  /-- Transmit paths by lane (05); an unlisted lane is idle. -/
  tx : List (Nat × TxSt) := []
  /-- The family that an octant had before the commit that changed it last, and the true time of that commit and 1 (R103); (0, 0) where unlisted. -/
  famWas : List (Nat × (Nat × Nat)) := []
  /-- True time at which the spread of an octant last started from zero (R155); 0 where unlisted. -/
  sscStart : List (Nat × Nat) := []
  /-- TLV and true time at which an octant's synthesiser entered LOCKED (R159); (0, 0) where unlisted. -/
  synLock : List (Nat × (Nat × Nat)) := []
  /-- Bias outputs by lane (06); an unlisted lane has nothing in progress. -/
  bias : List (Nat × BiasSt) := []
  /-- Safety OTP by lane; an unlisted lane has nothing programmed. -/
  otp : List (Nat × OtpLane) := []
  /-- First copy of the safety lock bit (R191). -/
  otpLockA : Bool
  /-- Second copy of the safety lock bit. -/
  otpLockB : Bool
  /-- Safety OTP operation in progress. -/
  safeOp : Option SafeOp
  /-- INJ_PROG armed (R195). -/
  injProg : Bool
  /-- VDD_BIAS is below its level: the outputs are held at zero (R512). -/
  biasUv : Bool
  /-- The part is in FATAL (R497). -/
  fatal : Bool
  /-- The part is in OFF after a thermal shutdown (R451). -/
  off : Bool
  /-- Events of detections made in REST, raised at wake (R168, R456). -/
  heldEvents : List Nat := []
  /-- Acquisition by lane (07). -/
  acq : List (Nat × AcqSt) := []
  /-- Lane stages by lane (07); an unlisted one has found nothing. -/
  am : List (Nat × AmSt) := []
  /-- INJ_SKEW armed (R222): 1 at 16 × engine + group slot. -/
  injSkew : List (Nat × Nat) := []
  /-- Burst records that FE3 has not taken yet (R214, R263). -/
  burstRecs : List BurstRec := []
  /-- FEC, generator and checker by lane (08). -/
  fec : List (Nat × FecSt) := []
  /-- Forensic records in flight, oldest first (R237). -/
  forRecs : List ForRec := []
  /-- FOR_INJECT.INJ_DROP armed, 1 by engine (R246). -/
  injForDrop : List (Nat × Nat) := []
  /-- The codeword that a stream sent last (R225, R244), by the lane that names the stream. -/
  txCw : List (Nat × List Nat) := []
  /-- The line symbols of the codeword pair that a P4-212 lane sent last (R229). -/
  txPair : List (Nat × List (BitVec 2)) := []
  /-- The coding of group slot g of engine e at 16e + g (R224, R225). -/
  pcs : List (Nat × PcsSt) := []
  /-- Flow contexts at 1024e + i (09). -/
  flows : List (Nat × FlowCtx) := []
  /-- Their copies in the snapshot bank (R273). -/
  flowSnap : List (Nat × FlowCtx) := []
  /-- Stream contexts at 1024e + i (09). -/
  strms : List (Nat × StrmCtx) := []
  /-- Their copies in the snapshot bank. -/
  strmSnap : List (Nat × StrmCtx) := []
  /-- 1 for an engine that has completed a snapshot (R273). -/
  snapped : List (Nat × Nat) := []
  /-- FS_INJECT armed by engine: bits REFUSE, SKIP, RESYNC, LATE (R275). -/
  feInj : List (Nat × Nat) := []
  /-- The last frame that an engine started (R264). -/
  txFrame : List (Nat × List Byte) := []
  /-- True time up to which the link of group slot g of engine e carries a frame that has started, at 16e + g (R265). -/
  feFree : List (Nat × Nat) := []
  /-- Watch chains at 8n + c, c = 4 for the LQF chain (10); an unlisted chain has not run. -/
  watch : List (Nat × ChainSt) := []
  /-- Written frames at 2^24 m + F (R303); an unlisted frame is unwritten. -/
  pages : List (Nat × Page) := []
  /-- Frames whose next whole-page write goes to a spare (R330). -/
  uncPend : List (Nat × Nat) := []
  /-- INJ_ADMIT armed (R337). -/
  injAdmit : Bool
  /-- Spare number plus 1 of a retired frame (R329). -/
  remap : List (Nat × Nat) := []
  /-- Spares taken, by channel (R329). -/
  spares : List (Nat × Nat) := []
  /-- Spares lent to a running repair, by channel (R333). -/
  repairTmp : List (Nat × Nat) := []
  /-- Injections armed, by channel: bit 0 INJ_COR, 1 INJ_UNC, 2 INJ_REPAIR (R337). -/
  mcInj : List (Nat × Nat) := []
  /-- Plots beside their registers (11); an unlisted plot has empty buffers. -/
  plots : List (Nat × PlotSt) := []
  /-- Fires on their way, oldest first (R314). -/
  fires : List Fire := []
  /-- Pages that a FIRED trigger still waits for (R315). -/
  trigPost : List (Nat × Nat) := []
  /-- Replay contexts beside their registers (11). -/
  rps : List (Nat × RpSt) := []
  /-- Symbols of the last page that a context of KIND 1 played on its lane (R320). -/
  rpSym : List (Nat × List Nat) := []
  /-- Codeword streams by lane (R235). -/
  streams : List (Nat × StreamSt) := []
  /-- True time plus 1 of a channel's last scrub read (R332). -/
  scrubAt : List (Nat × Nat) := []
  /-- Haze stages by lane (12); an unlisted lane has done nothing. -/
  haze : List (Nat × HazeSt) := []
  /-- Frames that wait for their transmit group (R350), oldest first. -/
  hzQ : List HzFrame := []
  /-- Frames in a delay plot, and the plot (R353). -/
  hzDly : List (HzFrame × Nat) := []
  /-- Frames held for reorder (R351), oldest first. -/
  hzHeld : List HzHeld := []
  /-- Frames of rule 2048e + f since the commit that last changed it (R351). -/
  hzCnt : List (Nat × Nat) := []
  /-- HZ_INJECT.INJ_LOST armed, 1 by engine (R355). -/
  hzInj : List (Nat × Nat) := []
  /-- Fjot cores by index, the pair at 16 (13); an unlisted core is in reset. -/
  cores : List (Nat × CoreSt) := []
  /-- Cores of which a write of STEP = 1 asks one instruction (R378), oldest first. -/
  coreSteps : List Nat := []
  /-- True time plus 1 at which a semaphore was acquired (R365). -/
  semSince : List (Nat × Nat) := []
  /-- Requests of the non-maskable trap queued by the fault collector (R495): event, class, record. -/
  nmtQ : List (Nat × Nat × Nat) := []
  /-- INJ_MEM armed: core, or 18 for shared memory (R384). -/
  injMem : Option Nat
  /-- INJ_LOCKSTEP armed (R384). -/
  injLockstep : Bool
  /-- Session slots of the NCP engine (14); an unlisted slot has not been used. -/
  sess : List (Nat × SessSt) := []
  /-- Timed batches not yet dispatched (R395), oldest first. -/
  batches : List Batch := []
  /-- COMMIT messages that have not been answered (R394), oldest first. -/
  ncpCommits : List NcpCommit := []
  /-- NCP INJ_BAD armed (R404). -/
  injBad : Bool
  /-- NCP INJ_LATE armed (R404). -/
  injBatch : Bool
  /-- What the port sent during the last command, frames or NCP datagrams, in order. -/
  portTx : List (List Byte) := []
  /-- The message whose access waits for a domain (R393). -/
  ncpJob : Option NcpJob
  /-- Messages that wait for it, oldest first. -/
  ncpQ : List NcpJob := []
  /-- Bytes of the two flash devices (R405), device 1 from 2^32; an unlisted byte is erased, 0xFF. -/
  flash : List (Nat × Byte) := []
  /-- The key hash in OTP (R411, R412), 12 words; none while unprogrammed. -/
  keyOtp : Option (List Word)
  /-- A key hash programming operation runs (R412). -/
  keyOp : Bool
  /-- QSPI operation in progress (R423). -/
  qspiOp : Option QspiOp
  /-- Lane dies refused since step 4 of the boot (R414), a bit each. -/
  dieBad : Nat
  /-- Stacks refused since step 4 of the boot (R414), a bit each. -/
  stackBad : Nat
  /-- BOOT.INJECT bits armed (R422): 0 IMAGE, 1 TRAIN, 2 LBIST, 3 MI2C. -/
  bootInj : Nat
  /-- True time of the reset release that the boot runs from. -/
  bootFrom : Nat
  /-- Status of the last MI2C WRITE (R419). -/
  mi2cLast : Nat
  /-- The MI2C address in force (R420). -/
  mi2cAddr : Nat
  /-- The status byte that the last MI2C transaction sent. -/
  mi2cByte : Option Nat
  /-- The clock block (16). -/
  clk : ClkSt
  /-- Switched domains beside DOM_STAT (17); 84 + u is the shade of rotation unit u in the queue (R485). -/
  doms : List (Nat × DomSt) := []
  /-- The power controller (17). -/
  pwr : PwrSt
  /-- Housekeeping, thermal management and calibration (18). -/
  hk : HkSt
  /-- Calibration sets by KIND × 256 + instance (R475). -/
  calSets : List (Nat × CalSet) := []
  /-- Rotation units (19). -/
  rot : List (Nat × RotSt) := []
  /-- BIST_SIG entries (R490): unit ID and signature, in image order. -/
  sigs : List (Nat × Word) := []
  /-- Lanes (bits 0 to 63) and engine lane stages (bits 64 to 127) that no element serves (R490). -/
  unserved : Nat
  /-- Fuse repair entries (R492), oldest first. -/
  fuses : List (Word × Word) := []
  /-- The fuse entry that is being programmed. -/
  fuseOp : Option (Word × Word)
  /-- Analogue check in progress (R493). -/
  loop : Option LoopRun
  /-- BIST INJ_LOOP armed (R503). -/
  injLoop : Bool
  /-- BIST INJ_MBIST armed (R503). -/
  injMbist : Bool
  /-- Level of ALIVE (R501). -/
  alive : Bool
  /-- True time of the last toggle of ALIVE. -/
  aliveAt : Nat
  /-- True time at which the running kick window began (R501). -/
  kickAt : Option Nat
  /-- ALIVE has stopped for a missed kick (R501). -/
  kickMissed : Bool
  /-- POR is asserted (R511, R512). -/
  por : Bool
  /-- RESET_N is held low (R516). -/
  resetLow : Bool
  /-- True time of the filtered assertion of RESET_N. -/
  resetAt : Nat
  /-- True time at which TL_SYNC was found stuck high (R514). -/
  syncBad : Option Nat
  deriving DecidableEq, Repr

/-- The part right after power-on reset, before the boot engine's first step: no register listed, so that each holds
its reset value, and every engine and queue empty: the lists not named here are empty, as their declarations say. -/
def State.reset : State where
  now := 0
  free := 0
  pclkBase := 0
  pclkAt := 0
  resp := none
  locksSet := false
  chipRstAt := none
  rstCause := 0
  inReset := false
  recFull := false
  injFull := false
  tl := TlSt.reset
  commitAt := (0, [])
  otpLockA := false
  otpLockB := false
  safeOp := none
  injProg := false
  biasUv := false
  fatal := false
  off := false
  injAdmit := false
  injMem := none
  injLockstep := false
  injBad := false
  injBatch := false
  ncpJob := none
  keyOtp := none
  keyOp := false
  qspiOp := none
  dieBad := 0
  stackBad := 0
  bootInj := 0
  bootFrom := 0
  mi2cLast := 0
  mi2cAddr := 0x5A
  mi2cByte := none
  clk := ClkSt.reset
  pwr := PwrSt.reset
  hk := HkSt.reset
  unserved := 0
  fuseOp := none
  loop := none
  injLoop := false
  injMbist := false
  alive := false
  aliveAt := 0
  kickAt := none
  kickMissed := false
  por := false
  resetLow := false
  resetAt := 0
  syncBad := none

end Sys2Proof.Machine
end

