-- ==== Sys2Proof/Machine/Ops.lean ====
section
/-! DEFINITION. The named operations over state: bit fields, sparse maps, block bases, object keys. -/

namespace Sys2Proof.Machine

/-! Bit fields. -/

/-- Ones at bits hi:lo. -/
def bitMask (hi lo : Nat) : Word := BitVec.ofNat 32 ((2 ^ (hi + 1 - lo) - 1) * 2 ^ lo)

/-- Bits hi:lo of a word, as a number. -/
def fget (w : Word) (hi lo : Nat) : Nat := w.toNat / 2 ^ lo % 2 ^ (hi + 1 - lo)

/-- The word with bits hi:lo replaced by the low bits of v. -/
def fset (w : Word) (hi lo v : Nat) : Word :=
  (w &&& ~~~ bitMask hi lo) ||| (BitVec.ofNat 32 (v * 2 ^ lo) &&& bitMask hi lo)

/-- A field of width wd read as two's complement. -/
def sext (wd v : Nat) : Int := if v % 2 ^ wd < 2 ^ (wd - 1) then (v % 2 ^ wd : Nat) else ((v % 2 ^ wd : Nat) : Int) - (2 ^ wd : Nat)

/-- The low wd bits of an integer, two's complement. -/
def trunc (wd : Nat) (x : Int) : Nat := (x % (2 ^ wd : Nat)).toNat

/-- An integer held between two bounds. -/
def clampI (lo hi x : Int) : Int := if x < lo then lo else if hi < x then hi else x

/-- A counter of wd bits that saturates at all ones (R24). -/
def satAdd (wd a b : Nat) : Nat := if a + b < 2 ^ wd then a + b else 2 ^ wd - 1

/-- A truth value as a bit. -/
def b2n (b : Bool) : Nat := if b then 1 else 0

/-- The instant that follows t by d ticks, without wrap (R70). -/
def tlvAdd (t : Tlv) (d : Nat) : Tlv := BitVec.ofNat 64 (t.toNat + d)

/-! Sparse maps: association lists in one canonical form, keys strictly rising, no entry equal to the default. -/

/-- The value at a key; d where the key is not listed. -/
def look {α : Type} (d : α) : List (Nat × α) → Nat → α
  | [], _ => d
  | (k, v) :: m, i => if i = k then v else if i < k then d else look d m i

/-- Put v at key i; an entry equal to the default d is not listed. -/
def put {α : Type} [DecidableEq α] (d : α) : List (Nat × α) → Nat → α → List (Nat × α)
  | [], i, v => if v = d then [] else [(i, v)]
  | (k, x) :: m, i, v =>
    if i < k then (if v = d then (k, x) :: m else (i, v) :: (k, x) :: m)
    else if i = k then (if v = d then m else (i, v) :: m)
    else (k, x) :: put d m i v

/-- Take out the keys that p names. -/
def dropKeys {α : Type} (p : Nat → Bool) (m : List (Nat × α)) : List (Nat × α) := m.filter (fun e => !p e.1)

/-- Change every listed value; what becomes the default is not listed. -/
def mapVals {α : Type} [DecidableEq α] (d : α) (f : Nat → α → α) (m : List (Nat × α)) : List (Nat × α) :=
  (m.map (fun e => (e.1, f e.1 e.2))).filter (fun e => e.2 ≠ d)

/-- Take out one key. -/
def eraseKey {α : Type} (m : List (Nat × α)) (i : Nat) : List (Nat × α) := dropKeys (fun k => k == i) m

/-! Where blocks lie (R39). -/

def glbB : Nat := 0x00000000
def bootB : Nat := 0x00010000
def clkB : Nat := 0x00020000
def pwrB : Nat := 0x00030000
def tlB : Nat := 0x00040000
def hkB : Nat := 0x00050000
def calB : Nat := 0x00060000
def fltB : Nat := 0x00070000
def bistB : Nat := 0x00080000
def safeB : Nat := 0x00090000
def ncpB : Nat := 0x000A0000
def evtB : Nat := 0x000B0000
def octB (o : Nat) : Nat := 0x00100000 + o * 0x10000
def feB (e : Nat) : Nat := 0x00200000 + e * 0x40000
def mcB (m : Nat) : Nat := 0x00300000 + m * 0x10000
def mdwB : Nat := 0x00380000
def sqB : Nat := 0x00400000
def laneB (n : Nat) : Nat := 0x01000000 + n * 0x10000

/-- The base address of a block's window (R39). -/
def Blk.base : Blk → Nat
  | .glb => glbB | .boot => bootB | .clk => clkB | .pwr => pwrB | .tl => tlB | .hk => hkB | .cal => calB
  | .flt => fltB | .bist => bistB | .safe => safeB | .ncp => ncpB | .evt => evtB | .mdw => mdwB | .sq => sqB
  | .oct o => octB o | .fe e => feB e | .mc m => mcB m | .lane n => laneB n

/-- The blocks of the first twelve 64 KiB windows, in address order (R39). -/
def lowBlks : List Blk := [.glb, .boot, .clk, .pwr, .tl, .hk, .cal, .flt, .bist, .safe, .ncp, .evt]

/-- The address map (R39, R40, R43). -/
def place (a : Nat) : Place :=
  if a < 0x000C0000 then .reg ((lowBlks[a / 0x10000]?).getD .glb) (a % 0x10000)
  else if a < 0x00100000 then .unmapped
  else if a < 0x00180000 then .reg (.oct ((a - 0x00100000) / 0x10000)) (a % 0x10000)
  else if a < 0x00200000 then .unmapped
  else if a < 0x00300000 then .reg (.fe ((a - 0x00200000) / 0x40000)) (a % 0x40000)
  else if a < 0x00360000 then .reg (.mc ((a - 0x00300000) / 0x10000)) (a % 0x10000)
  else if a < 0x00380000 then .unmapped
  else if a < 0x00390000 then .reg .mdw (a % 0x10000)
  else if a < 0x00400000 then .unmapped
  else if a < 0x00410000 then .reg .sq (a % 0x10000)
  else if a < 0x00800000 then .unmapped
  else if a < 0x00A40000 then .core ((a - 0x00800000) / 0x20000) (decide (0x10000 ≤ a % 0x20000)) (a % 0x10000)
  else if a < 0x00C00000 then .unmapped
  else if a < 0x01000000 then .shared (a - 0x00C00000)
  else if a < 0x01400000 then .reg (.lane ((a - 0x01000000) / 0x10000)) (a % 0x10000)
  else .unmapped

/-! Objects behind a selector register: each has its own copy of the registers that show it, under a key above 2^32,
at the same offset. -/

/-- The objects that a selector register names. -/
inductive Obj where
  | plot (p : Nat) | trig (t : Nat) | rp (r : Nat) | mcLog (m i : Nat) | dom (d : Nat) | pwrLog (i : Nat)
  | src (id : Nat) | errRec (i : Nat) | shut (i : Nat) | calSet (i : Nat) | hzRule (e i : Nat)
  | swing (n i : Nat) | trim (n i : Nat) | eqCoef (n bank set i : Nat) | txCoef (n bank i : Nat)
  | hazeCoef (n bank i : Nat) | pattern (n i : Nat) | act (i : Nat)
  deriving DecidableEq, Repr

/-- The key of an object's offset 0 from its kind and index. -/
def objKey (kind idx : Nat) : Nat := kind * 2 ^ 44 + idx * 2 ^ 20

/-- The key base of an object. -/
def Obj.base : Obj → Nat
  | .plot p => objKey 1 p
  | .trig t => objKey 2 t
  | .rp r => objKey 3 r
  | .mcLog m i => objKey 4 (m * 64 + i)
  | .dom d => objKey 5 d
  | .pwrLog i => objKey 6 i
  | .src id => objKey 7 id
  | .errRec i => objKey 8 i
  | .shut i => objKey 9 i
  | .calSet i => objKey 10 i
  | .hzRule e i => objKey 11 (e * 2048 + i)
  | .swing n i => objKey 12 (n * 32 + i)
  | .trim n i => objKey 13 (n * 128 + i)
  | .eqCoef n b set i => objKey 14 (n * 512 + b * 256 + set * 64 + i)
  | .txCoef n b i => objKey 15 (n * 32 + b * 16 + i)
  | .hazeCoef n b i => objKey 16 (n * 64 + b * 32 + i)
  | .pattern n i => objKey 17 (n * 512 + i)
  | .act i => objKey 18 i

/-- The master IDs (R35). -/
def Master.id : Master → Nat
  | .ncp => 0x00 | .mi2c => 0x01 | .jtag => 0x02 | .boot => 0x03 | .core k => 0x10 + k.val | .pair => 0x20 | .inject => 0x3F

end Sys2Proof.Machine
end

