-- ==== Sys2Proof/Machine/RegsBlock.lean ====
section
/-! DEFINITION. The register descriptions of the blocks OCT, FE, MC, MDW, SQ, NCP, HK, CAL, FLT, BIST, SAFE, as the register tables of the spec give them:
one field definition per row of a table (reserved bits left out: they read 0, R18), and one row per register header. -/

namespace Sys2Proof.Machine

/-! OCT_SYN_CTRL (spec/05_transmit_path.md): OCT[o].SYN_CTRL — offset 0x0000, reset BLOCK, domain OCo -/
def R.OCT_SYN_CTRL_OCT_RST : Fld := ⟨0x0000, 31, 31, .wo, 0x0⟩
def R.OCT_SYN_CTRL_RECAL : Fld := ⟨0x0000, 1, 1, .wo, 0x0⟩
def R.OCT_SYN_CTRL_ENABLE : Fld := ⟨0x0000, 0, 0, .rw, 0x0⟩
/-! OCT_SYN_CFG (spec/05_transmit_path.md): OCT[o].SYN_CFG — offset 0x0004, reset BLOCK, domain OCo -/
def R.OCT_SYN_CFG_SSC_DEPTH : Fld := ⟨0x0004, 24, 16, .st, 0x0⟩
def R.OCT_SYN_CFG_SSC_RATE : Fld := ⟨0x0004, 13, 8, .st, 0x21⟩
def R.OCT_SYN_CFG_FAMILY : Fld := ⟨0x0004, 1, 0, .st, 0x0⟩
/-! OCT_SYN_STATUS (spec/05_transmit_path.md): OCT[o].SYN_STATUS — offset 0x0008, reset BLOCK, domain OCo -/
def R.OCT_SYN_STATUS_BAND : Fld := ⟨0x0008, 23, 16, .ro, 0x0⟩
def R.OCT_SYN_STATUS_ATTEMPT : Fld := ⟨0x0008, 13, 12, .ro, 0x0⟩
def R.OCT_SYN_STATUS_LREF_LOST : Fld := ⟨0x0008, 9, 9, .ro, 0x0⟩
def R.OCT_SYN_STATUS_FAIL : Fld := ⟨0x0008, 8, 8, .w1c, 0x0⟩
def R.OCT_SYN_STATUS_FAMILY_ACT : Fld := ⟨0x0008, 4, 4, .ro, 0x0⟩
def R.OCT_SYN_STATUS_STATE : Fld := ⟨0x0008, 1, 0, .ro, 0x0⟩
/-! OCT_SYN_CNT (spec/05_transmit_path.md): OCT[o].SYN_CNT — offset 0x000C, reset BLOCK, domain OCo -/
def R.OCT_SYN_CNT_LOL : Fld := ⟨0x000C, 31, 16, .rc, 0x0⟩
def R.OCT_SYN_CNT_FAIL : Fld := ⟨0x000C, 15, 0, .rc, 0x0⟩
/-! OCT_SYN_INJECT (spec/05_transmit_path.md): OCT[o].SYN_INJECT — offset 0x0010, reset BLOCK, domain OCo -/
def R.OCT_SYN_INJECT_INJ_FAIL : Fld := ⟨0x0010, 1, 1, .wo, 0x0⟩
def R.OCT_SYN_INJECT_INJ_LOL : Fld := ⟨0x0010, 0, 0, .wo, 0x0⟩
/-- The registers of OCT. -/
def regsOCT : List RegD := [
  ⟨0x0000, 1, 4, .block, [R.OCT_SYN_CTRL_OCT_RST, R.OCT_SYN_CTRL_RECAL, R.OCT_SYN_CTRL_ENABLE]⟩,
  ⟨0x0004, 1, 4, .block, [R.OCT_SYN_CFG_SSC_DEPTH, R.OCT_SYN_CFG_SSC_RATE, R.OCT_SYN_CFG_FAMILY]⟩,
  ⟨0x0008, 1, 4, .block, [R.OCT_SYN_STATUS_BAND, R.OCT_SYN_STATUS_ATTEMPT, R.OCT_SYN_STATUS_LREF_LOST, R.OCT_SYN_STATUS_FAIL, R.OCT_SYN_STATUS_FAMILY_ACT, R.OCT_SYN_STATUS_STATE]⟩,
  ⟨0x000C, 1, 4, .block, [R.OCT_SYN_CNT_LOL, R.OCT_SYN_CNT_FAIL]⟩,
  ⟨0x0010, 1, 4, .block, [R.OCT_SYN_INJECT_INJ_FAIL, R.OCT_SYN_INJECT_INJ_LOL]⟩]

/-! FE_GRP_CFG (spec/07_acquisition_and_burst.md): FE[e].GRP_CFG[g], g = 0–15 — offset 0x0800 + 4 × g, reset BLOCK, domain FEe -/
def R.FE_GRP_CFG_EN : Fld := ⟨0x0800, 31, 31, .st, 0x0⟩
def R.FE_GRP_CFG_FIRST : Fld := ⟨0x0800, 27, 24, .st, 0x0⟩
def R.FE_GRP_CFG_LINK : Fld := ⟨0x0800, 19, 16, .st, 0x0⟩
def R.FE_GRP_CFG_WIDTH : Fld := ⟨0x0800, 1, 0, .st, 0x0⟩
/-! FE_GRP_STAT (spec/07_acquisition_and_burst.md): FE[e].GRP_STAT[g], g = 0–15 — offset 0x0840 + 4 × g, reset BLOCK, domain FEe -/
def R.FE_GRP_STAT_REALIGN : Fld := ⟨0x0840, 31, 24, .rc, 0x0⟩
def R.FE_GRP_STAT_CAUSE : Fld := ⟨0x0840, 23, 20, .ro, 0x0⟩
def R.FE_GRP_STAT_STATE : Fld := ⟨0x0840, 17, 16, .ro, 0x0⟩
def R.FE_GRP_STAT_MAX_SKEW : Fld := ⟨0x0840, 15, 0, .ro, 0x0⟩
/-! FE_LSTAT (spec/07_acquisition_and_burst.md): FE[e].LSTAT[i], i = 0–15 — offset 0x0880 + 4 × i, reset BLOCK, domain FEe -/
def R.FE_LSTAT_AM_STATE : Fld := ⟨0x0880, 31, 30, .ro, 0x0⟩
def R.FE_LSTAT_LANE_ID : Fld := ⟨0x0880, 29, 24, .ro, 0x0⟩
def R.FE_LSTAT_BAD_AM : Fld := ⟨0x0880, 23, 16, .rc, 0x0⟩
def R.FE_LSTAT_SKEW : Fld := ⟨0x0880, 15, 0, .ro, 0x0⟩
/-! FE_ACQ_CFG (spec/07_acquisition_and_burst.md): FE[e].ACQ_CFG — offset 0x08C0, reset BLOCK, domain FEe -/
def R.FE_ACQ_CFG_DESKEW_MAX : Fld := ⟨0x08C0, 31, 16, .rw, 0x3D09⟩
def R.FE_ACQ_CFG_AM_LOSS_N : Fld := ⟨0x08C0, 11, 8, .rw, 0x3⟩
def R.FE_ACQ_CFG_DRIFT : Fld := ⟨0x08C0, 3, 0, .rw, 0x2⟩
/-! FE_ACQ_INJECT (spec/07_acquisition_and_burst.md): FE[e].ACQ_INJECT — offset 0x08C4, reset BLOCK, domain FEe -/
def R.FE_ACQ_INJECT_INJ_GRP : Fld := ⟨0x08C4, 11, 8, .rw, 0x0⟩
def R.FE_ACQ_INJECT_INJ_LANE : Fld := ⟨0x08C4, 7, 4, .rw, 0x0⟩
def R.FE_ACQ_INJECT_INJ_SKEW : Fld := ⟨0x08C4, 1, 1, .wo, 0x0⟩
def R.FE_ACQ_INJECT_INJ_AMLOSS : Fld := ⟨0x08C4, 0, 0, .wo, 0x0⟩
/-! FE_FOR_CTRL (spec/08_fec_pcs_patterns.md): FE[e].FOR_CTRL — offset 0x0900, reset BLOCK, domain FEe -/
def R.FE_FOR_CTRL_GRP_EN : Fld := ⟨0x0900, 31, 16, .rw, 0x0⟩
def R.FE_FOR_CTRL_WEIGHT : Fld := ⟨0x0900, 11, 8, .rw, 0xC⟩
def R.FE_FOR_CTRL_PRE : Fld := ⟨0x0900, 5, 4, .rw, 0x1⟩
def R.FE_FOR_CTRL_WEIGHT_EN : Fld := ⟨0x0900, 2, 2, .rw, 0x0⟩
def R.FE_FOR_CTRL_UNCORR_EN : Fld := ⟨0x0900, 1, 1, .rw, 0x1⟩
def R.FE_FOR_CTRL_EN : Fld := ⟨0x0900, 0, 0, .rw, 0x0⟩
/-! FE_FOR_PLOT (spec/08_fec_pcs_patterns.md): FE[e].FOR_PLOT — offset 0x0904, reset BLOCK, domain FEe -/
def R.FE_FOR_PLOT_PLOT : Fld := ⟨0x0904, 7, 0, .rw, 0x0⟩
/-! FE_FOR_STAT (spec/08_fec_pcs_patterns.md): FE[e].FOR_STAT — offset 0x0908, reset BLOCK, domain FEe -/
def R.FE_FOR_STAT_RECORDS : Fld := ⟨0x0908, 31, 16, .rc, 0x0⟩
def R.FE_FOR_STAT_DROPS : Fld := ⟨0x0908, 15, 8, .rc, 0x0⟩
def R.FE_FOR_STAT_DROP_CAUSE : Fld := ⟨0x0908, 4, 2, .ro, 0x0⟩
/-! FE_FOR_INJECT (spec/08_fec_pcs_patterns.md): FE[e].FOR_INJECT — offset 0x090C, reset BLOCK, domain FEe -/
def R.FE_FOR_INJECT_INJ_DROP : Fld := ⟨0x090C, 0, 0, .wo, 0x0⟩
/-! FE_FLOW_CFG (spec/09_flows_and_streams.md): FE[e].FLOW_CFG — offset 0x0A00, reset BLOCK, domain FEe -/
def R.FE_FLOW_CFG_TAG_BASE : Fld := ⟨0x0A00, 31, 16, .rw, 0x0⟩
def R.FE_FLOW_CFG_PART_ID : Fld := ⟨0x0A00, 15, 12, .rw, 0x0⟩
def R.FE_FLOW_CFG_RATE_EXP : Fld := ⟨0x0A00, 11, 8, .rw, 0x5⟩
def R.FE_FLOW_CFG_KEY_OFS : Fld := ⟨0x0A00, 7, 0, .st, 0xC⟩
/-! FE_TAG_CFG (spec/09_flows_and_streams.md): FE[e].TAG_CFG — offset 0x0A04, reset BLOCK, domain FEe -/
def R.FE_TAG_CFG_SIG : Fld := ⟨0x0A04, 31, 16, .st, 0xE2A5⟩
def R.FE_TAG_CFG_FROM_END : Fld := ⟨0x0A04, 15, 15, .st, 0x0⟩
def R.FE_TAG_CFG_TAG_FIRST : Fld := ⟨0x0A04, 14, 14, .st, 0x1⟩
def R.FE_TAG_CFG_OFS : Fld := ⟨0x0A04, 12, 0, .st, 0x2A⟩
/-! FE_SNAP_AT_LO (spec/09_flows_and_streams.md): FE[e].SNAP_AT_LO — offset 0x0A08; FE[e].SNAP_AT_HI — offset 0x0A0C; reset BLOCK, domain FEe -/
def R.FE_SNAP_AT_LO_AT : Fld := ⟨0x0A08, 31, 0, .rw, 0x0⟩
def R.FE_SNAP_AT_HI_AT : Fld := ⟨0x0A0C, 31, 0, .rw, 0x0⟩
/-! FE_SNAP_CTRL (spec/09_flows_and_streams.md): FE[e].SNAP_CTRL — offset 0x0A10, reset BLOCK, domain FEe -/
def R.FE_SNAP_CTRL_SEQ : Fld := ⟨0x0A10, 31, 24, .ro, 0x0⟩
def R.FE_SNAP_CTRL_LATE : Fld := ⟨0x0A10, 2, 2, .ro, 0x0⟩
def R.FE_SNAP_CTRL_DONE : Fld := ⟨0x0A10, 1, 1, .w1c, 0x0⟩
def R.FE_SNAP_CTRL_ARM : Fld := ⟨0x0A10, 0, 0, .rw, 0x0⟩
/-! FE_BURST_CFG (spec/09_flows_and_streams.md): FE[e].BURST_CFG — offset 0x0A14, reset BLOCK, domain FEe -/
def R.FE_BURST_CFG_BASE : Fld := ⟨0x0A14, 25, 16, .rw, 0x0⟩
def R.FE_BURST_CFG_LANE_EN : Fld := ⟨0x0A14, 7, 0, .rw, 0x0⟩
/-! FE_FS_EVT (spec/09_flows_and_streams.md): FE[e].FS_EVT — offset 0x0A18, reset BLOCK, domain FEe -/
def R.FE_FS_EVT_RESYNC : Fld := ⟨0x0A18, 4, 4, .w1c, 0x0⟩
def R.FE_FS_EVT_LATE : Fld := ⟨0x0A18, 3, 3, .w1c, 0x0⟩
def R.FE_FS_EVT_SKIP : Fld := ⟨0x0A18, 2, 2, .w1c, 0x0⟩
def R.FE_FS_EVT_TMPL_REF : Fld := ⟨0x0A18, 1, 1, .w1c, 0x0⟩
def R.FE_FS_EVT_CMD_REF : Fld := ⟨0x0A18, 0, 0, .w1c, 0x0⟩
/-! FE_FS_INJECT (spec/09_flows_and_streams.md): FE[e].FS_INJECT — offset 0x0A1C, reset BLOCK, domain FEe -/
def R.FE_FS_INJECT_INJ_LATE : Fld := ⟨0x0A1C, 3, 3, .wo, 0x0⟩
def R.FE_FS_INJECT_INJ_RESYNC : Fld := ⟨0x0A1C, 2, 2, .wo, 0x0⟩
def R.FE_FS_INJECT_INJ_SKIP : Fld := ⟨0x0A1C, 1, 1, .wo, 0x0⟩
def R.FE_FS_INJECT_INJ_REFUSE : Fld := ⟨0x0A1C, 0, 0, .wo, 0x0⟩
/-! FE_GRP_CNT (spec/09_flows_and_streams.md): FE[e].GRP_CNT[g], g = 0–15 — offset 0x0A40 + 4 × g, reset BLOCK, domain FEe -/
def R.FE_GRP_CNT_TX_UP : Fld := ⟨0x0A40, 31, 31, .ro, 0x0⟩
def R.FE_GRP_CNT_UNCLASS : Fld := ⟨0x0A40, 30, 16, .rc, 0x0⟩
def R.FE_GRP_CNT_TAG_BAD : Fld := ⟨0x0A40, 15, 8, .rc, 0x0⟩
def R.FE_GRP_CNT_TAG_RANGE : Fld := ⟨0x0A40, 7, 0, .rc, 0x0⟩
/-! FE_CLS_W0 (spec/09_flows_and_streams.md): FE[e].CLS[i].W[w], i = 0–1,023, w = 0–15 — window offset 0x1_0000 + 64 × i + 4 × w, reset BLOCK, domain FEe -/
def R.FE_CLS_W0_VALUE : Fld := ⟨0x10000, 31, 0, .st, 0x0⟩
def R.FE_CLS_W1_VALUE : Fld := ⟨0x10004, 31, 0, .st, 0x0⟩
def R.FE_CLS_W2_VALUE : Fld := ⟨0x10008, 31, 0, .st, 0x0⟩
def R.FE_CLS_W3_VALUE : Fld := ⟨0x1000C, 31, 0, .st, 0x0⟩
def R.FE_CLS_W4_VALUE : Fld := ⟨0x10010, 31, 0, .st, 0x0⟩
def R.FE_CLS_W5_VALUE : Fld := ⟨0x10014, 31, 0, .st, 0x0⟩
def R.FE_CLS_W6_MASK : Fld := ⟨0x10018, 31, 0, .st, 0x0⟩
def R.FE_CLS_W7_MASK : Fld := ⟨0x1001C, 31, 0, .st, 0x0⟩
def R.FE_CLS_W8_MASK : Fld := ⟨0x10020, 31, 0, .st, 0x0⟩
def R.FE_CLS_W9_MASK : Fld := ⟨0x10024, 31, 0, .st, 0x0⟩
def R.FE_CLS_W10_MASK : Fld := ⟨0x10028, 31, 0, .st, 0x0⟩
def R.FE_CLS_W11_MASK : Fld := ⟨0x1002C, 31, 0, .st, 0x0⟩
def R.FE_CLS_W12_VALID : Fld := ⟨0x10030, 31, 31, .st, 0x0⟩
def R.FE_CLS_W12_FLOW_EN : Fld := ⟨0x10030, 30, 30, .st, 0x0⟩
def R.FE_CLS_W12_CAP_CLASS : Fld := ⟨0x10030, 29, 26, .st, 0x0⟩
def R.FE_CLS_W12_FLOW : Fld := ⟨0x10030, 9, 0, .st, 0x0⟩
def R.FE_CLS_W13_HITS : Fld := ⟨0x10034, 31, 0, .ro, 0x0⟩
/-! FE_FLOW_CMD (spec/09_flows_and_streams.md): FE[e].FLOW_CMD — window offset 0x2_0000; FE[e].STRM_CMD — window offset 0x3_0000; reset BLOCK, domain FEe -/
def R.FE_FLOW_CMD_OP : Fld := ⟨0x20000, 26, 24, .wo, 0x0⟩
def R.FE_FLOW_CMD_INDEX : Fld := ⟨0x20000, 9, 0, .rw, 0x0⟩
def R.FE_STRM_CMD_OP : Fld := ⟨0x30000, 26, 24, .wo, 0x0⟩
def R.FE_STRM_CMD_INDEX : Fld := ⟨0x30000, 9, 0, .rw, 0x0⟩
/-! FE_FLOW_STAT (spec/09_flows_and_streams.md): FE[e].FLOW_STAT — window offset 0x2_0004; FE[e].STRM_STAT — window offset 0x3_0004; reset BLOCK, domain FEe -/
def R.FE_FLOW_STAT_RESULT : Fld := ⟨0x20004, 2, 1, .ro, 0x0⟩
def R.FE_FLOW_STAT_BUSY : Fld := ⟨0x20004, 0, 0, .ro, 0x0⟩
def R.FE_STRM_STAT_RESULT : Fld := ⟨0x30004, 2, 1, .ro, 0x0⟩
def R.FE_STRM_STAT_BUSY : Fld := ⟨0x30004, 0, 0, .ro, 0x0⟩
/-! FE_FLOW_BUF (spec/09_flows_and_streams.md): FE[e].FLOW_BUF[w], w = 0–79 — window offset 0x2_0200 + 4 × w; FE[e].STRM_BUF[w], w = 0–31 — window offset 0x3_0200 + 4 × w; reset BLOCK, domain FEe -/
def R.FE_FLOW_BUF_WORD : Fld := ⟨0x20200, 31, 0, .rw, 0x0⟩
def R.FE_STRM_BUF_WORD : Fld := ⟨0x30200, 31, 0, .rw, 0x0⟩
/-! FE_TMPL_W (spec/09_flows_and_streams.md): FE[e].TMPL[t].W[j], t = 0–127, j = 0–63 — window offset 0x3_8000 + 256 × t + 4 × j, reset CHIP, domain FEe -/
def R.FE_TMPL_W_BYTES : Fld := ⟨0x38000, 31, 0, .rw, 0x0⟩
/-! FE_HZ_FWD (spec/12_haze_impairment.md): FE[e].HZ_FWD[g], g = 0–15 — offset 0x0C00 + 4 × g, reset BLOCK, domain FEe -/
def R.FE_HZ_FWD_EN : Fld := ⟨0x0C00, 31, 31, .st, 0x0⟩
def R.FE_HZ_FWD_ERRF : Fld := ⟨0x0C00, 30, 30, .st, 0x0⟩
def R.FE_HZ_FWD_TG : Fld := ⟨0x0C00, 19, 16, .st, 0x0⟩
def R.FE_HZ_FWD_PRIO : Fld := ⟨0x0C00, 10, 8, .st, 0x0⟩
/-! FE_HZ_SEL (spec/12_haze_impairment.md): FE[e].HZ_SEL — 0x0C40; HZ_W0–W3 — 0x0C44–0x0C50; HZ_C0–C3 — 0x0C54–0x0C60; reset BLOCK, domain FEe. W0–W3 read the active value of rule INDEX and writ -/
def R.FE_HZ_SEL_INDEX : Fld := ⟨0x0C40, 10, 0, .rw, 0x0⟩
def R.FE_HZ_W0_EN : Fld := ⟨0x0C44, 31, 31, .st, 0x0⟩
def R.FE_HZ_W0_PERIODIC : Fld := ⟨0x0C44, 30, 30, .st, 0x0⟩
def R.FE_HZ_W0_P_DROP : Fld := ⟨0x0C44, 27, 16, .st, 0x0⟩
def R.FE_HZ_W0_P_DUP : Fld := ⟨0x0C44, 11, 0, .st, 0x0⟩
def R.FE_HZ_W1_P_REORD : Fld := ⟨0x0C48, 31, 20, .st, 0x0⟩
def R.FE_HZ_W1_REORD_DEPTH : Fld := ⟨0x0C48, 19, 16, .st, 0x1⟩
def R.FE_HZ_W1_P_CORR : Fld := ⟨0x0C48, 15, 4, .st, 0x0⟩
def R.FE_HZ_W1_CORR_KIND : Fld := ⟨0x0C48, 1, 0, .st, 0x0⟩
def R.FE_HZ_W2_DLY_PLOT : Fld := ⟨0x0C4C, 31, 24, .st, 0x0⟩
def R.FE_HZ_W2_DELAY : Fld := ⟨0x0C4C, 20, 0, .st, 0x0⟩
def R.FE_HZ_W3_CORR_OFS : Fld := ⟨0x0C50, 31, 16, .st, 0x0⟩
def R.FE_HZ_W3_DVAR : Fld := ⟨0x0C50, 15, 0, .st, 0x0⟩
def R.FE_HZ_C_COUNT : Fld := ⟨0x0C54, 31, 0, .ro, 0x0⟩
/-! FE_HZ_CMD (spec/12_haze_impairment.md): FE[e].HZ_CMD — 0x0C64; HZ_STAT — 0x0C68; HZ_INJECT — 0x0C6C; reset BLOCK, domain FEe -/
def R.FE_HZ_CMD_CLEAR : Fld := ⟨0x0C64, 0, 0, .wo, 0x0⟩
def R.FE_HZ_STAT_FWD_LOST : Fld := ⟨0x0C68, 31, 16, .rc, 0x0⟩
def R.FE_HZ_STAT_DLY_LOST : Fld := ⟨0x0C68, 15, 8, .rc, 0x0⟩
def R.FE_HZ_STAT_LATE : Fld := ⟨0x0C68, 7, 0, .rc, 0x0⟩
def R.FE_HZ_INJECT_INJ_LOST : Fld := ⟨0x0C6C, 0, 0, .wo, 0x0⟩
/-- The registers of FE. -/
def regsFE : List RegD := [
  ⟨0x0800, 16, 4, .block, [R.FE_GRP_CFG_EN, R.FE_GRP_CFG_FIRST, R.FE_GRP_CFG_LINK, R.FE_GRP_CFG_WIDTH]⟩,
  ⟨0x0840, 16, 4, .block, [R.FE_GRP_STAT_REALIGN, R.FE_GRP_STAT_CAUSE, R.FE_GRP_STAT_STATE, R.FE_GRP_STAT_MAX_SKEW]⟩,
  ⟨0x0880, 16, 4, .block, [R.FE_LSTAT_AM_STATE, R.FE_LSTAT_LANE_ID, R.FE_LSTAT_BAD_AM, R.FE_LSTAT_SKEW]⟩,
  ⟨0x08C0, 1, 4, .block, [R.FE_ACQ_CFG_DESKEW_MAX, R.FE_ACQ_CFG_AM_LOSS_N, R.FE_ACQ_CFG_DRIFT]⟩,
  ⟨0x08C4, 1, 4, .block, [R.FE_ACQ_INJECT_INJ_GRP, R.FE_ACQ_INJECT_INJ_LANE, R.FE_ACQ_INJECT_INJ_SKEW, R.FE_ACQ_INJECT_INJ_AMLOSS]⟩,
  ⟨0x0900, 1, 4, .block, [R.FE_FOR_CTRL_GRP_EN, R.FE_FOR_CTRL_WEIGHT, R.FE_FOR_CTRL_PRE, R.FE_FOR_CTRL_WEIGHT_EN, R.FE_FOR_CTRL_UNCORR_EN, R.FE_FOR_CTRL_EN]⟩,
  ⟨0x0904, 1, 4, .block, [R.FE_FOR_PLOT_PLOT]⟩,
  ⟨0x0908, 1, 4, .block, [R.FE_FOR_STAT_RECORDS, R.FE_FOR_STAT_DROPS, R.FE_FOR_STAT_DROP_CAUSE]⟩,
  ⟨0x090C, 1, 4, .block, [R.FE_FOR_INJECT_INJ_DROP]⟩,
  ⟨0x0A00, 1, 4, .block, [R.FE_FLOW_CFG_TAG_BASE, R.FE_FLOW_CFG_PART_ID, R.FE_FLOW_CFG_RATE_EXP, R.FE_FLOW_CFG_KEY_OFS]⟩,
  ⟨0x0A04, 1, 4, .block, [R.FE_TAG_CFG_SIG, R.FE_TAG_CFG_FROM_END, R.FE_TAG_CFG_TAG_FIRST, R.FE_TAG_CFG_OFS]⟩,
  ⟨0x0A08, 1, 4, .block, [R.FE_SNAP_AT_LO_AT]⟩,
  ⟨0x0A0C, 1, 4, .block, [R.FE_SNAP_AT_HI_AT]⟩,
  ⟨0x0A10, 1, 4, .block, [R.FE_SNAP_CTRL_SEQ, R.FE_SNAP_CTRL_LATE, R.FE_SNAP_CTRL_DONE, R.FE_SNAP_CTRL_ARM]⟩,
  ⟨0x0A14, 1, 4, .block, [R.FE_BURST_CFG_BASE, R.FE_BURST_CFG_LANE_EN]⟩,
  ⟨0x0A18, 1, 4, .block, [R.FE_FS_EVT_RESYNC, R.FE_FS_EVT_LATE, R.FE_FS_EVT_SKIP, R.FE_FS_EVT_TMPL_REF, R.FE_FS_EVT_CMD_REF]⟩,
  ⟨0x0A1C, 1, 4, .block, [R.FE_FS_INJECT_INJ_LATE, R.FE_FS_INJECT_INJ_RESYNC, R.FE_FS_INJECT_INJ_SKIP, R.FE_FS_INJECT_INJ_REFUSE]⟩,
  ⟨0x0A40, 16, 4, .block, [R.FE_GRP_CNT_TX_UP, R.FE_GRP_CNT_UNCLASS, R.FE_GRP_CNT_TAG_BAD, R.FE_GRP_CNT_TAG_RANGE]⟩,
  ⟨0x10000, 1024, 64, .block, [R.FE_CLS_W0_VALUE]⟩,
  ⟨0x10004, 1024, 64, .block, [R.FE_CLS_W1_VALUE]⟩,
  ⟨0x10008, 1024, 64, .block, [R.FE_CLS_W2_VALUE]⟩,
  ⟨0x1000C, 1024, 64, .block, [R.FE_CLS_W3_VALUE]⟩,
  ⟨0x10010, 1024, 64, .block, [R.FE_CLS_W4_VALUE]⟩,
  ⟨0x10014, 1024, 64, .block, [R.FE_CLS_W5_VALUE]⟩,
  ⟨0x10018, 1024, 64, .block, [R.FE_CLS_W6_MASK]⟩,
  ⟨0x1001C, 1024, 64, .block, [R.FE_CLS_W7_MASK]⟩,
  ⟨0x10020, 1024, 64, .block, [R.FE_CLS_W8_MASK]⟩,
  ⟨0x10024, 1024, 64, .block, [R.FE_CLS_W9_MASK]⟩,
  ⟨0x10028, 1024, 64, .block, [R.FE_CLS_W10_MASK]⟩,
  ⟨0x1002C, 1024, 64, .block, [R.FE_CLS_W11_MASK]⟩,
  ⟨0x10030, 1024, 64, .block, [R.FE_CLS_W12_VALID, R.FE_CLS_W12_FLOW_EN, R.FE_CLS_W12_CAP_CLASS, R.FE_CLS_W12_FLOW]⟩,
  ⟨0x10034, 1024, 64, .block, [R.FE_CLS_W13_HITS]⟩,
  ⟨0x20000, 1, 4, .block, [R.FE_FLOW_CMD_OP, R.FE_FLOW_CMD_INDEX]⟩,
  ⟨0x30000, 1, 4, .block, [R.FE_STRM_CMD_OP, R.FE_STRM_CMD_INDEX]⟩,
  ⟨0x20004, 1, 4, .block, [R.FE_FLOW_STAT_RESULT, R.FE_FLOW_STAT_BUSY]⟩,
  ⟨0x30004, 1, 4, .block, [R.FE_STRM_STAT_RESULT, R.FE_STRM_STAT_BUSY]⟩,
  ⟨0x20200, 80, 4, .block, [R.FE_FLOW_BUF_WORD]⟩,
  ⟨0x30200, 32, 4, .block, [R.FE_STRM_BUF_WORD]⟩,
  ⟨0x38000, 8192, 4, .chip, [R.FE_TMPL_W_BYTES]⟩,
  ⟨0x0C00, 16, 4, .block, [R.FE_HZ_FWD_EN, R.FE_HZ_FWD_ERRF, R.FE_HZ_FWD_TG, R.FE_HZ_FWD_PRIO]⟩,
  ⟨0x0C40, 1, 4, .block, [R.FE_HZ_SEL_INDEX]⟩,
  ⟨0x0C44, 1, 4, .block, [R.FE_HZ_W0_EN, R.FE_HZ_W0_PERIODIC, R.FE_HZ_W0_P_DROP, R.FE_HZ_W0_P_DUP]⟩,
  ⟨0x0C48, 1, 4, .block, [R.FE_HZ_W1_P_REORD, R.FE_HZ_W1_REORD_DEPTH, R.FE_HZ_W1_P_CORR, R.FE_HZ_W1_CORR_KIND]⟩,
  ⟨0x0C4C, 1, 4, .block, [R.FE_HZ_W2_DLY_PLOT, R.FE_HZ_W2_DELAY]⟩,
  ⟨0x0C50, 1, 4, .block, [R.FE_HZ_W3_CORR_OFS, R.FE_HZ_W3_DVAR]⟩,
  ⟨0x0C54, 4, 4, .block, [R.FE_HZ_C_COUNT]⟩,
  ⟨0x0C64, 1, 4, .block, [R.FE_HZ_CMD_CLEAR]⟩,
  ⟨0x0C68, 1, 4, .block, [R.FE_HZ_STAT_FWD_LOST, R.FE_HZ_STAT_DLY_LOST, R.FE_HZ_STAT_LATE]⟩,
  ⟨0x0C6C, 1, 4, .block, [R.FE_HZ_INJECT_INJ_LOST]⟩]

/-! MC_CTRL (spec/11_meadow_store.md): MC[m].CTRL — 0x0000; MC[m].SCRUB — 0x0004; reset BLOCK, domain MCm -/
def R.MC_CTRL_MC_RST : Fld := ⟨0x0000, 31, 31, .wo, 0x0⟩
def R.MC_CTRL_SCRUB_EN : Fld := ⟨0x0000, 16, 16, .st, 0x1⟩
def R.MC_CTRL_REPEAT_LIMIT : Fld := ⟨0x0000, 11, 8, .st, 0x4⟩
def R.MC_SCRUB_INTERVAL : Fld := ⟨0x0004, 19, 0, .st, 0x24E0⟩
/-! MC_STATUS (spec/11_meadow_store.md): MC[m].STATUS — 0x0008; SPARE — 0x000C; SCRUB_STAT — 0x0010; reset BLOCK, domain MCm -/
def R.MC_STATUS_SPARE_FREE : Fld := ⟨0x0008, 26, 16, .ro, 0x400⟩
def R.MC_STATUS_REPAIR_BUSY : Fld := ⟨0x0008, 8, 8, .ro, 0x0⟩
def R.MC_STATUS_SCRUB_DIM : Fld := ⟨0x0008, 7, 7, .ro, 0x0⟩
def R.MC_STATUS_READY : Fld := ⟨0x0008, 0, 0, .ro, 0x0⟩
def R.MC_SPARE_LOW_TH : Fld := ⟨0x000C, 10, 0, .rw, 0x40⟩
def R.MC_SCRUB_STAT_PASSES : Fld := ⟨0x0010, 31, 24, .ro, 0x0⟩
def R.MC_SCRUB_STAT_POS : Fld := ⟨0x0010, 23, 0, .ro, 0x0⟩
/-! MC_LOG_SEL (spec/11_meadow_store.md): MC[m].LOG_SEL — 0x0014; LOG_W0 — 0x0018; LOG_W1 — 0x001C; LOG_W2 — 0x0020; reset BLOCK (SEL) and CHIP (W0–W2), domain MCm -/
def R.MC_LOG_SEL_CLEAR : Fld := ⟨0x0014, 31, 31, .wo, 0x0⟩
def R.MC_LOG_SEL_INDEX : Fld := ⟨0x0014, 5, 0, .rw, 0x0⟩
def R.MC_LOG_W0_VALID : Fld := ⟨0x0018, 31, 31, .ro, 0x0⟩
def R.MC_LOG_W0_REWRITTEN : Fld := ⟨0x0018, 30, 30, .ro, 0x0⟩
def R.MC_LOG_W0_RETIRED : Fld := ⟨0x0018, 29, 29, .ro, 0x0⟩
def R.MC_LOG_W0_UNCORR : Fld := ⟨0x0018, 28, 28, .ro, 0x0⟩
def R.MC_LOG_W0_NOSPARE : Fld := ⟨0x0018, 27, 27, .ro, 0x0⟩
def R.MC_LOG_W0_FRAME : Fld := ⟨0x0018, 23, 0, .ro, 0x0⟩
def R.MC_LOG_W1_MAX_ERR : Fld := ⟨0x001C, 31, 24, .ro, 0x0⟩
def R.MC_LOG_W1_REPEAT : Fld := ⟨0x001C, 23, 16, .ro, 0x0⟩
def R.MC_LOG_W1_HITS : Fld := ⟨0x001C, 15, 0, .ro, 0x0⟩
def R.MC_LOG_W2_PC : Fld := ⟨0x0020, 31, 27, .ro, 0x0⟩
def R.MC_LOG_W2_BANK : Fld := ⟨0x0020, 26, 22, .ro, 0x0⟩
def R.MC_LOG_W2_ROW : Fld := ⟨0x0020, 21, 6, .ro, 0x0⟩
/-! MC_LOG_W3 (spec/11_meadow_store.md): MC[m].LOG_W3 — 0x0024; LOG_W4 — 0x0028; CNT_COR — 0x002C; CNT_BITS — 0x0030; CNT_UNC — 0x0034; CNT_REP — 0x0038; reset CHIP (log words) and BLOCK (cou -/
def R.MC_LOG_W3_LAST : Fld := ⟨0x0024, 31, 0, .ro, 0x0⟩
def R.MC_LOG_W4_LAST : Fld := ⟨0x0028, 31, 0, .ro, 0x0⟩
def R.MC_CNT_COR_PAGES : Fld := ⟨0x002C, 31, 0, .rc, 0x0⟩
def R.MC_CNT_BITS_BITS : Fld := ⟨0x0030, 31, 0, .rc, 0x0⟩
def R.MC_CNT_UNC_UNCORR : Fld := ⟨0x0034, 31, 16, .rc, 0x0⟩
def R.MC_CNT_UNC_RMW_FAIL : Fld := ⟨0x0034, 15, 0, .rc, 0x0⟩
def R.MC_CNT_REP_LOG_OVF : Fld := ⟨0x0038, 31, 24, .rc, 0x0⟩
def R.MC_CNT_REP_RETIRES : Fld := ⟨0x0038, 23, 16, .rc, 0x0⟩
def R.MC_CNT_REP_REWRITES : Fld := ⟨0x0038, 15, 0, .rc, 0x0⟩
/-! MC_REPAIR (spec/11_meadow_store.md): MC[m].REPAIR — 0x003C; REPAIR_STAT — 0x0040; INJECT — 0x0044; reset BLOCK, domain MCm -/
def R.MC_REPAIR_OP : Fld := ⟨0x003C, 31, 30, .wo, 0x0⟩
def R.MC_REPAIR_PC : Fld := ⟨0x003C, 27, 23, .rw, 0x0⟩
def R.MC_REPAIR_BANK : Fld := ⟨0x003C, 22, 18, .rw, 0x0⟩
def R.MC_REPAIR_ROW : Fld := ⟨0x003C, 17, 2, .rw, 0x0⟩
def R.MC_REPAIR_STAT_BUSY : Fld := ⟨0x0040, 3, 3, .ro, 0x0⟩
def R.MC_REPAIR_STAT_RESULT : Fld := ⟨0x0040, 2, 0, .ro, 0x0⟩
def R.MC_INJECT_INJ_REPAIR : Fld := ⟨0x0044, 4, 4, .wo, 0x0⟩
def R.MC_INJECT_INJ_IF : Fld := ⟨0x0044, 3, 3, .wo, 0x0⟩
def R.MC_INJECT_INJ_SPARE : Fld := ⟨0x0044, 2, 2, .wo, 0x0⟩
def R.MC_INJECT_INJ_UNC : Fld := ⟨0x0044, 1, 1, .wo, 0x0⟩
def R.MC_INJECT_INJ_COR : Fld := ⟨0x0044, 0, 0, .wo, 0x0⟩
/-- The registers of MC. -/
def regsMC : List RegD := [
  ⟨0x0000, 1, 4, .block, [R.MC_CTRL_MC_RST, R.MC_CTRL_SCRUB_EN, R.MC_CTRL_REPEAT_LIMIT]⟩,
  ⟨0x0004, 1, 4, .block, [R.MC_SCRUB_INTERVAL]⟩,
  ⟨0x0008, 1, 4, .block, [R.MC_STATUS_SPARE_FREE, R.MC_STATUS_REPAIR_BUSY, R.MC_STATUS_SCRUB_DIM, R.MC_STATUS_READY]⟩,
  ⟨0x000C, 1, 4, .block, [R.MC_SPARE_LOW_TH]⟩,
  ⟨0x0010, 1, 4, .block, [R.MC_SCRUB_STAT_PASSES, R.MC_SCRUB_STAT_POS]⟩,
  ⟨0x0014, 1, 4, .block, [R.MC_LOG_SEL_CLEAR, R.MC_LOG_SEL_INDEX]⟩,
  ⟨0x0018, 1, 4, .chip, [R.MC_LOG_W0_VALID, R.MC_LOG_W0_REWRITTEN, R.MC_LOG_W0_RETIRED, R.MC_LOG_W0_UNCORR, R.MC_LOG_W0_NOSPARE, R.MC_LOG_W0_FRAME]⟩,
  ⟨0x001C, 1, 4, .chip, [R.MC_LOG_W1_MAX_ERR, R.MC_LOG_W1_REPEAT, R.MC_LOG_W1_HITS]⟩,
  ⟨0x0020, 1, 4, .chip, [R.MC_LOG_W2_PC, R.MC_LOG_W2_BANK, R.MC_LOG_W2_ROW]⟩,
  ⟨0x0024, 1, 4, .chip, [R.MC_LOG_W3_LAST]⟩,
  ⟨0x0028, 1, 4, .chip, [R.MC_LOG_W4_LAST]⟩,
  ⟨0x002C, 1, 4, .block, [R.MC_CNT_COR_PAGES]⟩,
  ⟨0x0030, 1, 4, .block, [R.MC_CNT_BITS_BITS]⟩,
  ⟨0x0034, 1, 4, .block, [R.MC_CNT_UNC_UNCORR, R.MC_CNT_UNC_RMW_FAIL]⟩,
  ⟨0x0038, 1, 4, .block, [R.MC_CNT_REP_LOG_OVF, R.MC_CNT_REP_RETIRES, R.MC_CNT_REP_REWRITES]⟩,
  ⟨0x003C, 1, 4, .block, [R.MC_REPAIR_OP, R.MC_REPAIR_PC, R.MC_REPAIR_BANK, R.MC_REPAIR_ROW]⟩,
  ⟨0x0040, 1, 4, .block, [R.MC_REPAIR_STAT_BUSY, R.MC_REPAIR_STAT_RESULT]⟩,
  ⟨0x0044, 1, 4, .block, [R.MC_INJECT_INJ_REPAIR, R.MC_INJECT_INJ_IF, R.MC_INJECT_INJ_SPARE, R.MC_INJECT_INJ_UNC, R.MC_INJECT_INJ_COR]⟩]

/-! MDW_PLOT_SEL (spec/11_meadow_store.md): MDW.PLOT_SEL — offset 0x0000; MDW.TRIG_SEL — offset 0x0040; MDW.RP_SEL — offset 0x0080; reset CHIP, domain BB -/
def R.MDW_PLOT_SEL_INDEX : Fld := ⟨0x0000, 7, 0, .rw, 0x0⟩
def R.MDW_TRIG_SEL_INDEX : Fld := ⟨0x0040, 5, 0, .rw, 0x0⟩
def R.MDW_RP_SEL_INDEX : Fld := ⟨0x0080, 5, 0, .rw, 0x0⟩
/-! MDW_PLOT_W0 (spec/11_meadow_store.md): MDW.PLOT_W0 — offset 0x0004, reset CHIP, domain BB -/
def R.MDW_PLOT_W0_EN : Fld := ⟨0x0004, 31, 31, .st, 0x0⟩
def R.MDW_PLOT_W0_TYPE : Fld := ⟨0x0004, 30, 28, .st, 0x0⟩
def R.MDW_PLOT_W0_CMODE : Fld := ⟨0x0004, 27, 26, .st, 0x0⟩
def R.MDW_PLOT_W0_RING : Fld := ⟨0x0004, 25, 25, .st, 0x0⟩
def R.MDW_PLOT_W0_ERRF : Fld := ⟨0x0004, 24, 24, .st, 0x0⟩
def R.MDW_PLOT_W0_TSEL : Fld := ⟨0x0004, 23, 21, .st, 0x2⟩
def R.MDW_PLOT_W0_SRC : Fld := ⟨0x0004, 19, 18, .st, 0x0⟩
def R.MDW_PLOT_W0_SNAP : Fld := ⟨0x0004, 13, 0, .st, 0x0⟩
/-! MDW_PLOT_W1 (spec/11_meadow_store.md): MDW.PLOT_W1 — 0x0008; PLOT_W2 — 0x000C; PLOT_W3 — 0x0010; PLOT_W4 — 0x0014; reset CHIP, domain BB -/
def R.MDW_PLOT_W1_CH_MASK : Fld := ⟨0x0008, 29, 24, .st, 0x0⟩
def R.MDW_PLOT_W1_BASE : Fld := ⟨0x0008, 23, 0, .st, 0x0⟩
def R.MDW_PLOT_W2_FRAMES : Fld := ⟨0x000C, 23, 0, .st, 0x0⟩
def R.MDW_PLOT_W3_SRC_MASK : Fld := ⟨0x0010, 31, 16, .st, 0x0⟩
def R.MDW_PLOT_W3_CLASS_MASK : Fld := ⟨0x0010, 15, 0, .st, 0xFFFF⟩
def R.MDW_PLOT_W4_RATE : Fld := ⟨0x0014, 15, 0, .st, 0x0⟩
/-! MDW_PLOT_STAT (spec/11_meadow_store.md): MDW.PLOT_STAT — 0x0018; PLOT_LOST — 0x001C; PLOT_CMD — 0x0020; reset CHIP, domain BB -/
def R.MDW_PLOT_STAT_STATE : Fld := ⟨0x0018, 31, 29, .ro, 0x0⟩
def R.MDW_PLOT_STAT_WRAPPED : Fld := ⟨0x0018, 28, 28, .ro, 0x0⟩
def R.MDW_PLOT_STAT_WPTR : Fld := ⟨0x0018, 25, 0, .ro, 0x0⟩
def R.MDW_PLOT_LOST_LOST : Fld := ⟨0x001C, 31, 0, .rc, 0x0⟩
def R.MDW_PLOT_CMD_RESULT : Fld := ⟨0x0020, 9, 8, .ro, 0x0⟩
def R.MDW_PLOT_CMD_OP : Fld := ⟨0x0020, 1, 0, .wo, 0x0⟩
/-! MDW_TRIG_CFG0 (spec/11_meadow_store.md): MDW.TRIG_CFG0 — offset 0x0044, reset CHIP, domain BB -/
def R.MDW_TRIG_CFG0_EN : Fld := ⟨0x0044, 31, 31, .st, 0x0⟩
def R.MDW_TRIG_CFG0_KIND : Fld := ⟨0x0044, 30, 28, .st, 0x0⟩
def R.MDW_TRIG_CFG0_ACTION : Fld := ⟨0x0044, 27, 26, .st, 0x0⟩
def R.MDW_TRIG_CFG0_PLOT : Fld := ⟨0x0044, 23, 16, .st, 0x0⟩
def R.MDW_TRIG_CFG0_ARG : Fld := ⟨0x0044, 15, 0, .st, 0x0⟩
/-! MDW_TRIG_CFG1 (spec/11_meadow_store.md): MDW.TRIG_CFG1 — 0x0048; TRIG_CFG2 — 0x004C; TRIG_PAGE — 0x005C; reset CHIP, domain BB -/
def R.MDW_TRIG_CFG1_POST : Fld := ⟨0x0048, 25, 0, .st, 0x0⟩
def R.MDW_TRIG_CFG2_PRE : Fld := ⟨0x004C, 25, 0, .st, 0x0⟩
def R.MDW_TRIG_PAGE_PAGE : Fld := ⟨0x005C, 25, 0, .ro, 0x0⟩
/-! MDW_TRIG_STAT (spec/11_meadow_store.md): MDW.TRIG_STAT — offset 0x0050, reset CHIP, domain BB -/
def R.MDW_TRIG_STAT_FIRES : Fld := ⟨0x0050, 31, 24, .rc, 0x0⟩
def R.MDW_TRIG_STAT_STEP_SEQ : Fld := ⟨0x0050, 23, 16, .ro, 0x0⟩
def R.MDW_TRIG_STAT_SHORT_POST : Fld := ⟨0x0050, 7, 7, .ro, 0x0⟩
def R.MDW_TRIG_STAT_PREEMPT : Fld := ⟨0x0050, 6, 6, .ro, 0x0⟩
def R.MDW_TRIG_STAT_SHORT : Fld := ⟨0x0050, 5, 5, .ro, 0x0⟩
def R.MDW_TRIG_STAT_TQ : Fld := ⟨0x0050, 4, 3, .ro, 0x0⟩
def R.MDW_TRIG_STAT_STATE : Fld := ⟨0x0050, 2, 0, .ro, 0x0⟩
/-! MDW_TRIG_T_LO (spec/11_meadow_store.md): MDW.TRIG_T_LO — 0x0054; TRIG_T_HI — 0x0058; RP_START_LO — 0x0088; RP_START_HI — 0x008C; RP_PERIOD — 0x0090; RP_SLIP — 0x00D8; reset CHIP, domain BB -/
def R.MDW_TRIG_T_LO_T : Fld := ⟨0x0054, 31, 0, .ro, 0x0⟩
def R.MDW_TRIG_T_HI_T : Fld := ⟨0x0058, 31, 0, .ro, 0x0⟩
def R.MDW_RP_START_LO_START : Fld := ⟨0x0088, 31, 0, .st, 0x0⟩
def R.MDW_RP_START_HI_START : Fld := ⟨0x008C, 31, 0, .st, 0x0⟩
def R.MDW_RP_PERIOD_PERIOD : Fld := ⟨0x0090, 31, 0, .st, 0x0⟩
def R.MDW_RP_SLIP_SLIP : Fld := ⟨0x00D8, 31, 0, .ro, 0x0⟩
/-! MDW_TRIG_CMD (spec/11_meadow_store.md): MDW.TRIG_CMD — 0x0060; MDW.RP_CMD — 0x00E0; reset CHIP, domain BB -/
def R.MDW_TRIG_CMD_FIRE : Fld := ⟨0x0060, 31, 31, .wo, 0x0⟩
def R.MDW_TRIG_CMD_REARM : Fld := ⟨0x0060, 30, 30, .wo, 0x0⟩
def R.MDW_TRIG_CMD_INDEX : Fld := ⟨0x0060, 5, 0, .rw, 0x0⟩
def R.MDW_RP_CMD_STOP : Fld := ⟨0x00E0, 31, 31, .wo, 0x0⟩
def R.MDW_RP_CMD_INDEX : Fld := ⟨0x00E0, 5, 0, .rw, 0x0⟩
/-! MDW_RP_CFG (spec/11_meadow_store.md): MDW.RP_CFG — offset 0x0084, reset CHIP, domain BB -/
def R.MDW_RP_CFG_EN : Fld := ⟨0x0084, 31, 31, .st, 0x0⟩
def R.MDW_RP_CFG_KIND : Fld := ⟨0x0084, 30, 30, .st, 0x0⟩
def R.MDW_RP_CFG_TIMED : Fld := ⟨0x0084, 29, 29, .st, 0x0⟩
def R.MDW_RP_CFG_ERRF : Fld := ⟨0x0084, 28, 28, .st, 0x0⟩
def R.MDW_RP_CFG_SEQ_LOOPS : Fld := ⟨0x0084, 23, 16, .st, 0x1⟩
def R.MDW_RP_CFG_SRC_LANE : Fld := ⟨0x0084, 15, 8, .st, 0x0⟩
def R.MDW_RP_CFG_NSEG : Fld := ⟨0x0084, 1, 0, .st, 0x0⟩
/-! MDW_RP_SEG_A (spec/11_meadow_store.md): MDW.RP_SEG[s].A — 0x00A0 + 12 × s; .B — 0x00A4 + 12 × s; .C — 0x00A8 + 12 × s; s = 0–3; reset CHIP, domain BB -/
def R.MDW_RP_SEG_A_LOOPS : Fld := ⟨0x00A0, 31, 16, .st, 0x1⟩
def R.MDW_RP_SEG_A_PLOT : Fld := ⟨0x00A0, 7, 0, .st, 0x0⟩
def R.MDW_RP_SEG_B_FIRST : Fld := ⟨0x00A4, 25, 0, .st, 0x0⟩
def R.MDW_RP_SEG_C_PAGES : Fld := ⟨0x00A8, 25, 0, .st, 0x0⟩
/-! MDW_RP_STAT (spec/11_meadow_store.md): MDW.RP_STAT — 0x00D0; RP_CNT — 0x00D4; RP_CNT2 — 0x00DC; reset CHIP, domain BB -/
def R.MDW_RP_STAT_STATE : Fld := ⟨0x00D0, 31, 29, .ro, 0x0⟩
def R.MDW_RP_STAT_LATE : Fld := ⟨0x00D0, 28, 28, .ro, 0x0⟩
def R.MDW_RP_STAT_SEG : Fld := ⟨0x00D0, 27, 26, .ro, 0x0⟩
def R.MDW_RP_STAT_PAGE : Fld := ⟨0x00D0, 25, 0, .ro, 0x0⟩
def R.MDW_RP_CNT_UNDER : Fld := ⟨0x00D4, 31, 24, .rc, 0x0⟩
def R.MDW_RP_CNT_BADPAGE : Fld := ⟨0x00D4, 23, 16, .rc, 0x0⟩
def R.MDW_RP_CNT_SKIPPED : Fld := ⟨0x00D4, 15, 0, .rc, 0x0⟩
def R.MDW_RP_CNT2_UNTIMED : Fld := ⟨0x00DC, 15, 0, .rc, 0x0⟩
/-! MDW_ADM (spec/11_meadow_store.md): MDW.ADM — 0x0100; ADM_CH[m] — 0x0104 + 4 × m; ADM_FE[e] — 0x0120 + 4 × e; ADM_REJECT — 0x0130; reset CHIP, domain BB -/
def R.MDW_ADM_ADM_LIMIT : Fld := ⟨0x0100, 15, 0, .rwlk, 0x44C0⟩
def R.MDW_ADM_CH_LOAD : Fld := ⟨0x0104, 15, 0, .ro, 0x0⟩
def R.MDW_ADM_FE_REPLAY : Fld := ⟨0x0120, 31, 16, .ro, 0x0⟩
def R.MDW_ADM_FE_CAPTURE : Fld := ⟨0x0120, 15, 0, .ro, 0x0⟩
def R.MDW_ADM_REJECT_VALID : Fld := ⟨0x0130, 31, 31, .w1c, 0x0⟩
def R.MDW_ADM_REJECT_CAUSE : Fld := ⟨0x0130, 27, 24, .ro, 0x0⟩
def R.MDW_ADM_REJECT_UNIT : Fld := ⟨0x0130, 23, 16, .ro, 0x0⟩
def R.MDW_ADM_REJECT_LOAD : Fld := ⟨0x0130, 15, 0, .ro, 0x0⟩
/-! MDW_INJECT (spec/11_meadow_store.md): MDW.INJECT — offset 0x0144, reset CHIP, domain BB -/
def R.MDW_INJECT_INJ_RP : Fld := ⟨0x0144, 13, 8, .rw, 0x0⟩
def R.MDW_INJECT_INJ_UNDER : Fld := ⟨0x0144, 2, 2, .wo, 0x0⟩
def R.MDW_INJECT_INJ_OVF : Fld := ⟨0x0144, 1, 1, .wo, 0x0⟩
def R.MDW_INJECT_INJ_ADMIT : Fld := ⟨0x0144, 0, 0, .wo, 0x0⟩
/-- The registers of MDW. -/
def regsMDW : List RegD := [
  ⟨0x0000, 1, 4, .chip, [R.MDW_PLOT_SEL_INDEX]⟩,
  ⟨0x0040, 1, 4, .chip, [R.MDW_TRIG_SEL_INDEX]⟩,
  ⟨0x0080, 1, 4, .chip, [R.MDW_RP_SEL_INDEX]⟩,
  ⟨0x0004, 1, 4, .chip, [R.MDW_PLOT_W0_EN, R.MDW_PLOT_W0_TYPE, R.MDW_PLOT_W0_CMODE, R.MDW_PLOT_W0_RING, R.MDW_PLOT_W0_ERRF, R.MDW_PLOT_W0_TSEL, R.MDW_PLOT_W0_SRC, R.MDW_PLOT_W0_SNAP]⟩,
  ⟨0x0008, 1, 4, .chip, [R.MDW_PLOT_W1_CH_MASK, R.MDW_PLOT_W1_BASE]⟩,
  ⟨0x000C, 1, 4, .chip, [R.MDW_PLOT_W2_FRAMES]⟩,
  ⟨0x0010, 1, 4, .chip, [R.MDW_PLOT_W3_SRC_MASK, R.MDW_PLOT_W3_CLASS_MASK]⟩,
  ⟨0x0014, 1, 4, .chip, [R.MDW_PLOT_W4_RATE]⟩,
  ⟨0x0018, 1, 4, .chip, [R.MDW_PLOT_STAT_STATE, R.MDW_PLOT_STAT_WRAPPED, R.MDW_PLOT_STAT_WPTR]⟩,
  ⟨0x001C, 1, 4, .chip, [R.MDW_PLOT_LOST_LOST]⟩,
  ⟨0x0020, 1, 4, .chip, [R.MDW_PLOT_CMD_RESULT, R.MDW_PLOT_CMD_OP]⟩,
  ⟨0x0044, 1, 4, .chip, [R.MDW_TRIG_CFG0_EN, R.MDW_TRIG_CFG0_KIND, R.MDW_TRIG_CFG0_ACTION, R.MDW_TRIG_CFG0_PLOT, R.MDW_TRIG_CFG0_ARG]⟩,
  ⟨0x0048, 1, 4, .chip, [R.MDW_TRIG_CFG1_POST]⟩,
  ⟨0x004C, 1, 4, .chip, [R.MDW_TRIG_CFG2_PRE]⟩,
  ⟨0x005C, 1, 4, .chip, [R.MDW_TRIG_PAGE_PAGE]⟩,
  ⟨0x0050, 1, 4, .chip, [R.MDW_TRIG_STAT_FIRES, R.MDW_TRIG_STAT_STEP_SEQ, R.MDW_TRIG_STAT_SHORT_POST, R.MDW_TRIG_STAT_PREEMPT, R.MDW_TRIG_STAT_SHORT, R.MDW_TRIG_STAT_TQ, R.MDW_TRIG_STAT_STATE]⟩,
  ⟨0x0054, 1, 4, .chip, [R.MDW_TRIG_T_LO_T]⟩,
  ⟨0x0058, 1, 4, .chip, [R.MDW_TRIG_T_HI_T]⟩,
  ⟨0x0088, 1, 4, .chip, [R.MDW_RP_START_LO_START]⟩,
  ⟨0x008C, 1, 4, .chip, [R.MDW_RP_START_HI_START]⟩,
  ⟨0x0090, 1, 4, .chip, [R.MDW_RP_PERIOD_PERIOD]⟩,
  ⟨0x00D8, 1, 4, .chip, [R.MDW_RP_SLIP_SLIP]⟩,
  ⟨0x0060, 1, 4, .chip, [R.MDW_TRIG_CMD_FIRE, R.MDW_TRIG_CMD_REARM, R.MDW_TRIG_CMD_INDEX]⟩,
  ⟨0x00E0, 1, 4, .chip, [R.MDW_RP_CMD_STOP, R.MDW_RP_CMD_INDEX]⟩,
  ⟨0x0084, 1, 4, .chip, [R.MDW_RP_CFG_EN, R.MDW_RP_CFG_KIND, R.MDW_RP_CFG_TIMED, R.MDW_RP_CFG_ERRF, R.MDW_RP_CFG_SEQ_LOOPS, R.MDW_RP_CFG_SRC_LANE, R.MDW_RP_CFG_NSEG]⟩,
  ⟨0x00A0, 4, 12, .chip, [R.MDW_RP_SEG_A_LOOPS, R.MDW_RP_SEG_A_PLOT]⟩,
  ⟨0x00A4, 4, 12, .chip, [R.MDW_RP_SEG_B_FIRST]⟩,
  ⟨0x00A8, 4, 12, .chip, [R.MDW_RP_SEG_C_PAGES]⟩,
  ⟨0x00D0, 1, 4, .chip, [R.MDW_RP_STAT_STATE, R.MDW_RP_STAT_LATE, R.MDW_RP_STAT_SEG, R.MDW_RP_STAT_PAGE]⟩,
  ⟨0x00D4, 1, 4, .chip, [R.MDW_RP_CNT_UNDER, R.MDW_RP_CNT_BADPAGE, R.MDW_RP_CNT_SKIPPED]⟩,
  ⟨0x00DC, 1, 4, .chip, [R.MDW_RP_CNT2_UNTIMED]⟩,
  ⟨0x0100, 1, 4, .chip, [R.MDW_ADM_ADM_LIMIT]⟩,
  ⟨0x0104, 6, 4, .chip, [R.MDW_ADM_CH_LOAD]⟩,
  ⟨0x0120, 4, 4, .chip, [R.MDW_ADM_FE_REPLAY, R.MDW_ADM_FE_CAPTURE]⟩,
  ⟨0x0130, 1, 4, .chip, [R.MDW_ADM_REJECT_VALID, R.MDW_ADM_REJECT_CAUSE, R.MDW_ADM_REJECT_UNIT, R.MDW_ADM_REJECT_LOAD]⟩,
  ⟨0x0144, 1, 4, .chip, [R.MDW_INJECT_INJ_RP, R.MDW_INJECT_INJ_UNDER, R.MDW_INJECT_INJ_OVF, R.MDW_INJECT_INJ_ADMIT]⟩]

/-! SQ_CTRL (spec/13_fjot_sequencers.md): SQ.CTRL — offset 0x0000, reset CHIP, domain SQ -/
def R.SQ_CTRL_SQ_RST : Fld := ⟨0x0000, 31, 31, .wo, 0x0⟩
def R.SQ_CTRL_LS_CMP : Fld := ⟨0x0000, 0, 0, .rwlk, 0x1⟩
/-! SQ_STATUS (spec/13_fjot_sequencers.md): SQ.STATUS — offset 0x0004, reset BLOCK, domain SQ -/
def R.SQ_STATUS_HALTED : Fld := ⟨0x0004, 17, 0, .ro, 0x0⟩
/-! SQ_LOCK_STAT (spec/13_fjot_sequencers.md): SQ.LOCK_STAT — offset 0x0008, reset BLOCK, domain SQ -/
def R.SQ_LOCK_STAT_MISMATCH : Fld := ⟨0x0008, 31, 16, .rc, 0x0⟩
def R.SQ_LOCK_STAT_S1_WR_REF : Fld := ⟨0x0008, 15, 8, .rc, 0x0⟩
def R.SQ_LOCK_STAT_SEM_FORCED : Fld := ⟨0x0008, 7, 4, .rc, 0x0⟩
def R.SQ_LOCK_STAT_PAIR_HALT : Fld := ⟨0x0008, 0, 0, .ro, 0x0⟩
/-! SQ_NMT_CAUSE (spec/13_fjot_sequencers.md): SQ.NMT_CAUSE — offset 0x000C, reset BLOCK, domain SQ -/
def R.SQ_NMT_CAUSE_PEND : Fld := ⟨0x000C, 31, 31, .ro, 0x0⟩
def R.SQ_NMT_CAUSE_CLASS : Fld := ⟨0x000C, 13, 12, .ro, 0x0⟩
def R.SQ_NMT_CAUSE_SRC : Fld := ⟨0x000C, 10, 0, .ro, 0x0⟩
/-! SQ_INJECT (spec/13_fjot_sequencers.md): SQ.INJECT — offset 0x0010, reset BLOCK, domain SQ -/
def R.SQ_INJECT_INJ_CORE : Fld := ⟨0x0010, 12, 8, .rw, 0x0⟩
def R.SQ_INJECT_INJ_SEM : Fld := ⟨0x0010, 4, 4, .wo, 0x0⟩
def R.SQ_INJECT_INJ_WDOG : Fld := ⟨0x0010, 3, 3, .wo, 0x0⟩
def R.SQ_INJECT_INJ_MEM : Fld := ⟨0x0010, 2, 2, .wo, 0x0⟩
def R.SQ_INJECT_INJ_LOCKSTEP : Fld := ⟨0x0010, 1, 1, .wo, 0x0⟩
def R.SQ_INJECT_INJ_NMT : Fld := ⟨0x0010, 0, 0, .wo, 0x0⟩
/-! SQ_PERF_SEL (spec/13_fjot_sequencers.md): SQ.PERF_SEL — offset 0x0014, reset BLOCK, domain SQ -/
def R.SQ_PERF_SEL_CORE : Fld := ⟨0x0014, 28, 24, .rw, 0x0⟩
def R.SQ_PERF_SEL_ITEM : Fld := ⟨0x0014, 11, 0, .rw, 0x0⟩
/-! SQ_PERF_LO (spec/13_fjot_sequencers.md): SQ.PERF_LO — offset 0x0018; SQ.PERF_HI — offset 0x001C; reset BLOCK, domain SQ -/
def R.SQ_PERF_LO_DATA : Fld := ⟨0x0018, 31, 0, .rw, 0x0⟩
def R.SQ_PERF_HI_DATA : Fld := ⟨0x001C, 31, 0, .rw, 0x0⟩
/-! SQ_SEM (spec/13_fjot_sequencers.md): SQ.SEM[i], i = 0–1 — offset 0x0020 + 4 × i, reset BLOCK, domain SQ -/
def R.SQ_SEM_HELD : Fld := ⟨0x0020, 31, 31, .ro, 0x0⟩
def R.SQ_SEM_GOT : Fld := ⟨0x0020, 30, 30, .ro, 0x0⟩
def R.SQ_SEM_OWNER : Fld := ⟨0x0020, 15, 8, .ro, 0x0⟩
def R.SQ_SEM_RELEASE : Fld := ⟨0x0020, 0, 0, .wo, 0x0⟩
/-! SQ_CORE_CTRL (spec/13_fjot_sequencers.md): SQ.CORE[k].CTRL, k = 0–17 — offset 0x0100 + 0x10 × k, reset CHIP, domain SQ -/
def R.SQ_CORE_CTRL_CORE_RST : Fld := ⟨0x0100, 31, 31, .wo, 0x0⟩
def R.SQ_CORE_CTRL_DOORBELL : Fld := ⟨0x0100, 2, 2, .wo, 0x0⟩
def R.SQ_CORE_CTRL_STEP : Fld := ⟨0x0100, 1, 1, .wo, 0x0⟩
def R.SQ_CORE_CTRL_RUN : Fld := ⟨0x0100, 0, 0, .rw, 0x0⟩
/-! SQ_CORE_STATUS (spec/13_fjot_sequencers.md): SQ.CORE[k].STATUS — offset 0x0104 + 0x10 × k, reset BLOCK, domain SQ -/
def R.SQ_CORE_STATUS_MBOX_LOST : Fld := ⟨0x0104, 31, 24, .rc, 0x0⟩
def R.SQ_CORE_STATUS_LAST_CAUSE : Fld := ⟨0x0104, 19, 16, .ro, 0x0⟩
def R.SQ_CORE_STATUS_ECC_COR : Fld := ⟨0x0104, 15, 8, .rc, 0x0⟩
def R.SQ_CORE_STATUS_STATE : Fld := ⟨0x0104, 2, 0, .ro, 0x0⟩
/-! SQ_CORE_PC (spec/13_fjot_sequencers.md): SQ.CORE[k].PC — offset 0x0108 + 0x10 × k, reset BLOCK, domain SQ -/
def R.SQ_CORE_PC_PC : Fld := ⟨0x0108, 31, 0, .ro, 0x0⟩
/-- The registers of SQ. -/
def regsSQ : List RegD := [
  ⟨0x0000, 1, 4, .chip, [R.SQ_CTRL_SQ_RST, R.SQ_CTRL_LS_CMP]⟩,
  ⟨0x0004, 1, 4, .block, [R.SQ_STATUS_HALTED]⟩,
  ⟨0x0008, 1, 4, .block, [R.SQ_LOCK_STAT_MISMATCH, R.SQ_LOCK_STAT_S1_WR_REF, R.SQ_LOCK_STAT_SEM_FORCED, R.SQ_LOCK_STAT_PAIR_HALT]⟩,
  ⟨0x000C, 1, 4, .block, [R.SQ_NMT_CAUSE_PEND, R.SQ_NMT_CAUSE_CLASS, R.SQ_NMT_CAUSE_SRC]⟩,
  ⟨0x0010, 1, 4, .block, [R.SQ_INJECT_INJ_CORE, R.SQ_INJECT_INJ_SEM, R.SQ_INJECT_INJ_WDOG, R.SQ_INJECT_INJ_MEM, R.SQ_INJECT_INJ_LOCKSTEP, R.SQ_INJECT_INJ_NMT]⟩,
  ⟨0x0014, 1, 4, .block, [R.SQ_PERF_SEL_CORE, R.SQ_PERF_SEL_ITEM]⟩,
  ⟨0x0018, 1, 4, .block, [R.SQ_PERF_LO_DATA]⟩,
  ⟨0x001C, 1, 4, .block, [R.SQ_PERF_HI_DATA]⟩,
  ⟨0x0020, 2, 4, .block, [R.SQ_SEM_HELD, R.SQ_SEM_GOT, R.SQ_SEM_OWNER, R.SQ_SEM_RELEASE]⟩,
  ⟨0x0100, 18, 16, .chip, [R.SQ_CORE_CTRL_CORE_RST, R.SQ_CORE_CTRL_DOORBELL, R.SQ_CORE_CTRL_STEP, R.SQ_CORE_CTRL_RUN]⟩,
  ⟨0x0104, 18, 16, .block, [R.SQ_CORE_STATUS_MBOX_LOST, R.SQ_CORE_STATUS_LAST_CAUSE, R.SQ_CORE_STATUS_ECC_COR, R.SQ_CORE_STATUS_STATE]⟩,
  ⟨0x0108, 18, 16, .block, [R.SQ_CORE_PC_PC]⟩]

/-! NCP_PORT (spec/14_ncp_host_link.md): NCP.PORT — offset 0x0000, reset CHIP, domain ME -/
def R.NCP_PORT_PORT_RST : Fld := ⟨0x0000, 31, 31, .wo, 0x0⟩
def R.NCP_PORT_TRAIN_EN : Fld := ⟨0x0000, 5, 5, .rw, 0x1⟩
def R.NCP_PORT_ENABLE : Fld := ⟨0x0000, 2, 2, .rw, 0x1⟩
def R.NCP_PORT_FORM : Fld := ⟨0x0000, 1, 0, .rwlk, 0x0⟩
/-! NCP_PORT_STATUS (spec/14_ncp_host_link.md): NCP.PORT_STATUS — offset 0x0004; NCP.FEC_CNT — offset 0x0008; reset CHIP, domain ME -/
def R.NCP_PORT_STATUS_LINK_DOWNS : Fld := ⟨0x0004, 31, 16, .rc, 0x0⟩
def R.NCP_PORT_STATUS_STATE : Fld := ⟨0x0004, 1, 0, .ro, 0x0⟩
def R.NCP_FEC_CNT_UNCORR : Fld := ⟨0x0008, 31, 16, .rc, 0x0⟩
def R.NCP_FEC_CNT_CORR : Fld := ⟨0x0008, 15, 0, .rc, 0x0⟩
/-! NCP_MAC_LO (spec/14_ncp_host_link.md): NCP.MAC_LO — offset 0x000C; NCP.MAC_HI — offset 0x0010; reset CHIP, domain ME -/
def R.NCP_MAC_LO_MAC : Fld := ⟨0x000C, 31, 0, .rwlk, 0x0⟩
def R.NCP_MAC_HI_MAC : Fld := ⟨0x0010, 15, 0, .rwlk, 0x248⟩
/-! NCP_IP4 (spec/14_ncp_host_link.md): NCP.IP4 — offset 0x0014; NCP.IP6[i], i = 0–3 — offset 0x0018 + 4 × i; reset CHIP, domain ME -/
def R.NCP_IP4_ADDR : Fld := ⟨0x0014, 31, 0, .rwlk, 0x0⟩
def R.NCP_IP6_ADDR : Fld := ⟨0x0018, 31, 0, .rwlk, 0x0⟩
/-! NCP_NET_CFG (spec/14_ncp_host_link.md): NCP.NET_CFG — offset 0x0028, reset CHIP, domain ME -/
def R.NCP_NET_CFG_VLAN_EN : Fld := ⟨0x0028, 31, 31, .rwlk, 0x0⟩
def R.NCP_NET_CFG_VID : Fld := ⟨0x0028, 27, 16, .rwlk, 0x0⟩
def R.NCP_NET_CFG_MTU : Fld := ⟨0x0028, 13, 0, .rw, 0x2328⟩
/-! NCP_SESS_CFG (spec/14_ncp_host_link.md): NCP.SESS_CFG — offset 0x002C; NCP.ACT_CFG — offset 0x0030; reset CHIP, domain ME -/
def R.NCP_SESS_CFG_HOLDOFF : Fld := ⟨0x002C, 31, 24, .rw, 0xA⟩
def R.NCP_SESS_CFG_IDLE_TO : Fld := ⟨0x002C, 23, 16, .rw, 0x14⟩
def R.NCP_SESS_CFG_RETRY_MAX : Fld := ⟨0x002C, 11, 8, .rw, 0x8⟩
def R.NCP_SESS_CFG_RTO : Fld := ⟨0x002C, 7, 0, .rw, 0x64⟩
def R.NCP_ACT_CFG_ACT_BASE : Fld := ⟨0x0030, 9, 0, .rwlk, 0x3F0⟩
/-! NCP_SESS_STAT (spec/14_ncp_host_link.md): NCP.SESS[s].STAT — offset 0x0040 + 0x10 × s; NCP.SESS[s].PEER — offset 0x0044 + 0x10 × s; NCP.SESS[s].CNT — offset 0x0048 + 0x10 × s; s = 0–3, reset C -/
def R.NCP_SESS_STAT_SESSION : Fld := ⟨0x0040, 31, 16, .ro, 0x0⟩
def R.NCP_SESS_STAT_CLOSE : Fld := ⟨0x0040, 15, 15, .wo, 0x0⟩
def R.NCP_SESS_STAT_REASON : Fld := ⟨0x0040, 11, 8, .ro, 0x0⟩
def R.NCP_SESS_STAT_EVT_SUB : Fld := ⟨0x0040, 3, 3, .ro, 0x0⟩
def R.NCP_SESS_STAT_MODE : Fld := ⟨0x0040, 2, 2, .ro, 0x0⟩
def R.NCP_SESS_STAT_STATE : Fld := ⟨0x0040, 1, 0, .ro, 0x0⟩
def R.NCP_SESS_PEER_PORT : Fld := ⟨0x0044, 31, 16, .ro, 0x0⟩
def R.NCP_SESS_CNT_RETX : Fld := ⟨0x0048, 31, 16, .rc, 0x0⟩
def R.NCP_SESS_CNT_EVT_LOST : Fld := ⟨0x0048, 15, 0, .rc, 0x0⟩
/-! NCP_CNT_DROP (spec/14_ncp_host_link.md): NCP.CNT_DROP — offset 0x0080; NCP.CNT_SEQ — offset 0x0084; reset CHIP, domain ME -/
def R.NCP_CNT_DROP_BAD : Fld := ⟨0x0080, 31, 16, .rc, 0x0⟩
def R.NCP_CNT_DROP_FOREIGN : Fld := ⟨0x0080, 15, 0, .rc, 0x0⟩
def R.NCP_CNT_SEQ_OUT_OF_ORDER : Fld := ⟨0x0084, 31, 16, .rc, 0x0⟩
def R.NCP_CNT_SEQ_DUPLICATE : Fld := ⟨0x0084, 15, 0, .rc, 0x0⟩
/-! NCP_INJECT (spec/14_ncp_host_link.md): NCP.INJECT — offset 0x0090, reset CHIP, domain ME -/
def R.NCP_INJECT_INJ_SESS : Fld := ⟨0x0090, 9, 8, .rw, 0x0⟩
def R.NCP_INJECT_INJ_BAD : Fld := ⟨0x0090, 4, 4, .wo, 0x0⟩
def R.NCP_INJECT_INJ_LINK : Fld := ⟨0x0090, 3, 3, .wo, 0x0⟩
def R.NCP_INJECT_INJ_LOSS : Fld := ⟨0x0090, 2, 2, .wo, 0x0⟩
def R.NCP_INJECT_INJ_EVT : Fld := ⟨0x0090, 1, 1, .wo, 0x0⟩
def R.NCP_INJECT_INJ_LATE : Fld := ⟨0x0090, 0, 0, .wo, 0x0⟩
/-- The registers of NCP. -/
def regsNCP : List RegD := [
  ⟨0x0000, 1, 4, .chip, [R.NCP_PORT_PORT_RST, R.NCP_PORT_TRAIN_EN, R.NCP_PORT_ENABLE, R.NCP_PORT_FORM]⟩,
  ⟨0x0004, 1, 4, .chip, [R.NCP_PORT_STATUS_LINK_DOWNS, R.NCP_PORT_STATUS_STATE]⟩,
  ⟨0x0008, 1, 4, .chip, [R.NCP_FEC_CNT_UNCORR, R.NCP_FEC_CNT_CORR]⟩,
  ⟨0x000C, 1, 4, .chip, [R.NCP_MAC_LO_MAC]⟩,
  ⟨0x0010, 1, 4, .chip, [R.NCP_MAC_HI_MAC]⟩,
  ⟨0x0014, 1, 4, .chip, [R.NCP_IP4_ADDR]⟩,
  ⟨0x0018, 4, 4, .chip, [R.NCP_IP6_ADDR]⟩,
  ⟨0x0028, 1, 4, .chip, [R.NCP_NET_CFG_VLAN_EN, R.NCP_NET_CFG_VID, R.NCP_NET_CFG_MTU]⟩,
  ⟨0x002C, 1, 4, .chip, [R.NCP_SESS_CFG_HOLDOFF, R.NCP_SESS_CFG_IDLE_TO, R.NCP_SESS_CFG_RETRY_MAX, R.NCP_SESS_CFG_RTO]⟩,
  ⟨0x0030, 1, 4, .chip, [R.NCP_ACT_CFG_ACT_BASE]⟩,
  ⟨0x0040, 4, 16, .chip, [R.NCP_SESS_STAT_SESSION, R.NCP_SESS_STAT_CLOSE, R.NCP_SESS_STAT_REASON, R.NCP_SESS_STAT_EVT_SUB, R.NCP_SESS_STAT_MODE, R.NCP_SESS_STAT_STATE]⟩,
  ⟨0x0044, 4, 16, .chip, [R.NCP_SESS_PEER_PORT]⟩,
  ⟨0x0048, 4, 16, .chip, [R.NCP_SESS_CNT_RETX, R.NCP_SESS_CNT_EVT_LOST]⟩,
  ⟨0x0080, 1, 4, .chip, [R.NCP_CNT_DROP_BAD, R.NCP_CNT_DROP_FOREIGN]⟩,
  ⟨0x0084, 1, 4, .chip, [R.NCP_CNT_SEQ_OUT_OF_ORDER, R.NCP_CNT_SEQ_DUPLICATE]⟩,
  ⟨0x0090, 1, 4, .chip, [R.NCP_INJECT_INJ_SESS, R.NCP_INJECT_INJ_BAD, R.NCP_INJECT_INJ_LINK, R.NCP_INJECT_INJ_LOSS, R.NCP_INJECT_INJ_EVT, R.NCP_INJECT_INJ_LATE]⟩]

/-! HK_CTRL (spec/18_housekeeping_thermal_calibration.md): HK.CTRL — 0x0000; HK.STATUS — 0x0004; reset CHIP, domain BB -/
def R.HK_CTRL_SELFCAL : Fld := ⟨0x0000, 31, 31, .wo, 0x0⟩
def R.HK_CTRL_TRK_CLR : Fld := ⟨0x0000, 30, 30, .wo, 0x0⟩
def R.HK_CTRL_LEGACY_EN : Fld := ⟨0x0000, 1, 1, .rwlk, 0x0⟩
def R.HK_CTRL_RUN : Fld := ⟨0x0000, 0, 0, .rw, 0x1⟩
def R.HK_STATUS_ROUNDS : Fld := ⟨0x0004, 31, 24, .ro, 0x0⟩
def R.HK_STATUS_SC_LIMIT : Fld := ⟨0x0004, 16, 16, .w1c, 0x0⟩
def R.HK_STATUS_SC_BUSY : Fld := ⟨0x0004, 15, 15, .ro, 0x0⟩
def R.HK_STATUS_RUNNING : Fld := ⟨0x0004, 14, 14, .ro, 0x0⟩
def R.HK_STATUS_CHAN : Fld := ⟨0x0004, 6, 0, .ro, 0x0⟩
/-! HK_CFG (spec/18_housekeeping_thermal_calibration.md): HK.CFG — 0x0008; HK.CH_EN[i], i = 0–2 — 0x0010 + 4 × i; HK.MPD_RANGE[i], i = 0–3 — 0x0020 + 4 × i; reset CHIP, domain BB -/
def R.HK_CFG_ROUND_PER : Fld := ⟨0x0008, 31, 24, .st, 0x0⟩
def R.HK_CFG_ACC_INT : Fld := ⟨0x0008, 19, 16, .st, 0x6⟩
def R.HK_CFG_ACC_AUX : Fld := ⟨0x0008, 15, 12, .st, 0x4⟩
def R.HK_CFG_ACC_MPD : Fld := ⟨0x0008, 11, 8, .st, 0x4⟩
def R.HK_CFG_SC_DT : Fld := ⟨0x0008, 7, 4, .rw, 0xA⟩
def R.HK_CFG_SETTLE : Fld := ⟨0x0008, 3, 0, .st, 0x4⟩
def R.HK_CH_EN_EN : Fld := ⟨0x0010, 31, 0, .st, 0xFFFFFFFF⟩
def R.HK_MPD_RANGE_RANGE : Fld := ⟨0x0020, 31, 0, .st, 0x55555555⟩
/-! HK_SC_FACT_A (spec/18_housekeeping_thermal_calibration.md): HK.SC_FACT_A — 0x0030; HK.SC_FACT_B — 0x0034; HK.LEGACY_CMD — 0x0038; HK.LEGACY_RES — 0x003C; reset CHIP, domain BB -/
def R.HK_SC_FACT_A_OFS : Fld := ⟨0x0030, 25, 16, .ro, 0x0⟩
def R.HK_SC_FACT_A_GAIN : Fld := ⟨0x0030, 10, 0, .ro, 0x0⟩
def R.HK_SC_FACT_B_OFS : Fld := ⟨0x0034, 25, 16, .ro, 0x0⟩
def R.HK_SC_FACT_B_GAIN : Fld := ⟨0x0034, 10, 0, .ro, 0x0⟩
def R.HK_LEGACY_CMD_START : Fld := ⟨0x0038, 31, 31, .wo, 0x0⟩
def R.HK_LEGACY_CMD_BUSY : Fld := ⟨0x0038, 30, 30, .ro, 0x0⟩
def R.HK_LEGACY_CMD_CH : Fld := ⟨0x0038, 6, 0, .rw, 0x0⟩
def R.HK_LEGACY_RES_VALID : Fld := ⟨0x003C, 31, 31, .rc, 0x0⟩
def R.HK_LEGACY_RES_CODE : Fld := ⟨0x003C, 11, 0, .ro, 0x0⟩
/-! HK_WIN (spec/18_housekeeping_thermal_calibration.md): HK.WIN[j], j = 0–7 — 0x0040 + 4 × j; HK.WIN_STAT — 0x0060; HK.INJECT — 0x0064; reset CHIP, domain BB -/
def R.HK_WIN_EN : Fld := ⟨0x0040, 31, 31, .rw, 0x0⟩
def R.HK_WIN_CH : Fld := ⟨0x0040, 30, 24, .rw, 0x0⟩
def R.HK_WIN_HI : Fld := ⟨0x0040, 23, 12, .rw, 0xFFF⟩
def R.HK_WIN_LO : Fld := ⟨0x0040, 11, 0, .rw, 0x0⟩
def R.HK_WIN_STAT_OUT : Fld := ⟨0x0060, 7, 0, .w1c, 0x0⟩
def R.HK_INJECT_INJ_WJ : Fld := ⟨0x0064, 26, 24, .rw, 0x0⟩
def R.HK_INJECT_INJ_DEG : Fld := ⟨0x0064, 23, 16, .rw, 0x0⟩
def R.HK_INJECT_INJ_TS : Fld := ⟨0x0064, 12, 8, .rw, 0x0⟩
def R.HK_INJECT_INJ_WIN : Fld := ⟨0x0064, 3, 3, .wo, 0x0⟩
def R.HK_INJECT_INJ_SC : Fld := ⟨0x0064, 2, 2, .wo, 0x0⟩
def R.HK_INJECT_INJ_FAIL : Fld := ⟨0x0064, 1, 1, .wo, 0x0⟩
def R.HK_INJECT_INJ_TEMP : Fld := ⟨0x0064, 0, 0, .wo, 0x0⟩
/-! HK_RES (spec/18_housekeeping_thermal_calibration.md): HK.RES[c] — 0x0100 + 8 × c; HK.TRK[c] — 0x0104 + 8 × c; c = 0–95; reset CHIP, domain BB -/
def R.HK_RES_SEQ : Fld := ⟨0x0100, 31, 24, .ro, 0x0⟩
def R.HK_RES_MEAN : Fld := ⟨0x0100, 15, 0, .ro, 0x0⟩
def R.HK_TRK_MAX : Fld := ⟨0x0104, 27, 16, .rc, 0x0⟩
def R.HK_TRK_MIN : Fld := ⟨0x0104, 11, 0, .rc, 0xFFF⟩
/-! HK_TH_CFG (spec/18_housekeeping_thermal_calibration.md): HK.TH_CFG — 0x0400; HK.TH_STATUS — 0x0404; HK.TH_FAIL — 0x0408; HK.TH_CNT — 0x040C; reset POR, domain BB -/
def R.HK_TH_CFG_FORCE : Fld := ⟨0x0400, 31, 31, .rw, 0x0⟩
def R.HK_TH_CFG_DIM_SCLK : Fld := ⟨0x0400, 23, 20, .rw, 0x6⟩
def R.HK_TH_CFG_DIM_ACT : Fld := ⟨0x0400, 19, 16, .rw, 0xF⟩
def R.HK_TH_CFG_H_WARN : Fld := ⟨0x0400, 11, 8, .rw, 0x5⟩
def R.HK_TH_CFG_H_THR : Fld := ⟨0x0400, 7, 4, .rw, 0x5⟩
def R.HK_TH_CFG_H_SHUT : Fld := ⟨0x0400, 3, 0, .rw, 0x5⟩
def R.HK_TH_STATUS_HOT : Fld := ⟨0x0404, 31, 16, .ro, 0x0⟩
def R.HK_TH_STATUS_HOT_TS : Fld := ⟨0x0404, 15, 11, .ro, 0x0⟩
def R.HK_TH_STATUS_DIM_STAT : Fld := ⟨0x0404, 10, 8, .ro, 0x0⟩
def R.HK_TH_STATUS_SCRUB_DIM : Fld := ⟨0x0404, 7, 7, .ro, 0x0⟩
def R.HK_TH_STATUS_DIE_BLIND : Fld := ⟨0x0404, 6, 6, .ro, 0x0⟩
def R.HK_TH_STATUS_SHUT_FULL : Fld := ⟨0x0404, 5, 5, .ro, 0x0⟩
def R.HK_TH_STATUS_DIM : Fld := ⟨0x0404, 4, 4, .ro, 0x0⟩
def R.HK_TH_STATUS_THROTTLE : Fld := ⟨0x0404, 2, 2, .ro, 0x0⟩
def R.HK_TH_STATUS_WARN : Fld := ⟨0x0404, 1, 1, .ro, 0x0⟩
def R.HK_TH_FAIL_FAILED : Fld := ⟨0x0408, 30, 0, .ro, 0x0⟩
def R.HK_TH_CNT_WARNS : Fld := ⟨0x040C, 31, 24, .rc, 0x0⟩
def R.HK_TH_CNT_THROTTLES : Fld := ⟨0x040C, 23, 16, .rc, 0x0⟩
def R.HK_TH_CNT_FAILS : Fld := ⟨0x040C, 15, 8, .rc, 0x0⟩
/-! HK_TS (spec/18_housekeeping_thermal_calibration.md): HK.TS[i], i = 0–15 — 0x0410 + 4 × i; reset POR, domain BB -/
def R.HK_TS_ODD : Fld := ⟨0x0410, 31, 16, .ro, 0x0⟩
def R.HK_TS_EVEN : Fld := ⟨0x0410, 15, 0, .ro, 0x0⟩
/-! HK_SHUT_SEL (spec/18_housekeeping_thermal_calibration.md): HK.SHUT_SEL — 0x0450; HK.SHUT_REC0–2 — 0x0454–0x045C; HK.SHUT_CLR — 0x0460; reset POR, domain BB -/
def R.HK_SHUT_SEL_SLOT : Fld := ⟨0x0450, 4, 0, .rw, 0x0⟩
def R.HK_SHUT_REC0_T : Fld := ⟨0x0454, 31, 0, .ro, 0x0⟩
def R.HK_SHUT_REC1_T : Fld := ⟨0x0458, 31, 0, .ro, 0x0⟩
def R.HK_SHUT_REC2_VALID : Fld := ⟨0x045C, 31, 31, .ro, 0x0⟩
def R.HK_SHUT_REC2_CLEARED : Fld := ⟨0x045C, 30, 30, .ro, 0x0⟩
def R.HK_SHUT_REC2_TQ : Fld := ⟨0x045C, 29, 28, .ro, 0x0⟩
def R.HK_SHUT_REC2_SENSOR : Fld := ⟨0x045C, 20, 16, .ro, 0x0⟩
def R.HK_SHUT_REC2_READING : Fld := ⟨0x045C, 15, 0, .ro, 0x0⟩
def R.HK_SHUT_CLR_KEY : Fld := ⟨0x0460, 31, 16, .wo, 0x0⟩
def R.HK_SHUT_CLR_PENDING : Fld := ⟨0x0460, 12, 8, .ro, 0x0⟩
def R.HK_SHUT_CLR_BUSY : Fld := ⟨0x0460, 2, 2, .ro, 0x0⟩
def R.HK_SHUT_CLR_RESULT : Fld := ⟨0x0460, 1, 0, .ro, 0x0⟩
/-- The registers of HK. -/
def regsHK : List RegD := [
  ⟨0x0000, 1, 4, .chip, [R.HK_CTRL_SELFCAL, R.HK_CTRL_TRK_CLR, R.HK_CTRL_LEGACY_EN, R.HK_CTRL_RUN]⟩,
  ⟨0x0004, 1, 4, .chip, [R.HK_STATUS_ROUNDS, R.HK_STATUS_SC_LIMIT, R.HK_STATUS_SC_BUSY, R.HK_STATUS_RUNNING, R.HK_STATUS_CHAN]⟩,
  ⟨0x0008, 1, 4, .chip, [R.HK_CFG_ROUND_PER, R.HK_CFG_ACC_INT, R.HK_CFG_ACC_AUX, R.HK_CFG_ACC_MPD, R.HK_CFG_SC_DT, R.HK_CFG_SETTLE]⟩,
  ⟨0x0010, 3, 4, .chip, [R.HK_CH_EN_EN]⟩,
  ⟨0x0020, 4, 4, .chip, [R.HK_MPD_RANGE_RANGE]⟩,
  ⟨0x0030, 1, 4, .chip, [R.HK_SC_FACT_A_OFS, R.HK_SC_FACT_A_GAIN]⟩,
  ⟨0x0034, 1, 4, .chip, [R.HK_SC_FACT_B_OFS, R.HK_SC_FACT_B_GAIN]⟩,
  ⟨0x0038, 1, 4, .chip, [R.HK_LEGACY_CMD_START, R.HK_LEGACY_CMD_BUSY, R.HK_LEGACY_CMD_CH]⟩,
  ⟨0x003C, 1, 4, .chip, [R.HK_LEGACY_RES_VALID, R.HK_LEGACY_RES_CODE]⟩,
  ⟨0x0040, 8, 4, .chip, [R.HK_WIN_EN, R.HK_WIN_CH, R.HK_WIN_HI, R.HK_WIN_LO]⟩,
  ⟨0x0060, 1, 4, .chip, [R.HK_WIN_STAT_OUT]⟩,
  ⟨0x0064, 1, 4, .chip, [R.HK_INJECT_INJ_WJ, R.HK_INJECT_INJ_DEG, R.HK_INJECT_INJ_TS, R.HK_INJECT_INJ_WIN, R.HK_INJECT_INJ_SC, R.HK_INJECT_INJ_FAIL, R.HK_INJECT_INJ_TEMP]⟩,
  ⟨0x0100, 96, 8, .chip, [R.HK_RES_SEQ, R.HK_RES_MEAN]⟩,
  ⟨0x0104, 96, 8, .chip, [R.HK_TRK_MAX, R.HK_TRK_MIN]⟩,
  ⟨0x0400, 1, 4, .por, [R.HK_TH_CFG_FORCE, R.HK_TH_CFG_DIM_SCLK, R.HK_TH_CFG_DIM_ACT, R.HK_TH_CFG_H_WARN, R.HK_TH_CFG_H_THR, R.HK_TH_CFG_H_SHUT]⟩,
  ⟨0x0404, 1, 4, .por, [R.HK_TH_STATUS_HOT, R.HK_TH_STATUS_HOT_TS, R.HK_TH_STATUS_DIM_STAT, R.HK_TH_STATUS_SCRUB_DIM, R.HK_TH_STATUS_DIE_BLIND, R.HK_TH_STATUS_SHUT_FULL, R.HK_TH_STATUS_DIM, R.HK_TH_STATUS_THROTTLE, R.HK_TH_STATUS_WARN]⟩,
  ⟨0x0408, 1, 4, .por, [R.HK_TH_FAIL_FAILED]⟩,
  ⟨0x040C, 1, 4, .por, [R.HK_TH_CNT_WARNS, R.HK_TH_CNT_THROTTLES, R.HK_TH_CNT_FAILS]⟩,
  ⟨0x0410, 16, 4, .por, [R.HK_TS_ODD, R.HK_TS_EVEN]⟩,
  ⟨0x0450, 1, 4, .por, [R.HK_SHUT_SEL_SLOT]⟩,
  ⟨0x0454, 1, 4, .por, [R.HK_SHUT_REC0_T]⟩,
  ⟨0x0458, 1, 4, .por, [R.HK_SHUT_REC1_T]⟩,
  ⟨0x045C, 1, 4, .por, [R.HK_SHUT_REC2_VALID, R.HK_SHUT_REC2_CLEARED, R.HK_SHUT_REC2_TQ, R.HK_SHUT_REC2_SENSOR, R.HK_SHUT_REC2_READING]⟩,
  ⟨0x0460, 1, 4, .por, [R.HK_SHUT_CLR_KEY, R.HK_SHUT_CLR_PENDING, R.HK_SHUT_CLR_BUSY, R.HK_SHUT_CLR_RESULT]⟩]

/-! CAL_CMD (spec/18_housekeeping_thermal_calibration.md): CAL.CMD — 0x0000; CAL.STATUS — 0x0004; CAL.ABS — 0x0008; CAL.OSC_RES — 0x000C; reset CHIP, domain BB -/
def R.CAL_CMD_START : Fld := ⟨0x0000, 31, 31, .wo, 0x0⟩
def R.CAL_CMD_OP : Fld := ⟨0x0000, 19, 16, .rw, 0x0⟩
def R.CAL_CMD_ARG : Fld := ⟨0x0000, 15, 0, .rw, 0x0⟩
def R.CAL_STATUS_BUSY : Fld := ⟨0x0004, 31, 31, .ro, 0x0⟩
def R.CAL_STATUS_RESULT : Fld := ⟨0x0004, 30, 28, .ro, 0x0⟩
def R.CAL_STATUS_LAST_OP : Fld := ⟨0x0004, 27, 24, .ro, 0x0⟩
def R.CAL_ABS_ABS : Fld := ⟨0x0008, 10, 0, .ro, 0x0⟩
def R.CAL_OSC_RES_IRO_ERR : Fld := ⟨0x000C, 31, 16, .ro, 0x0⟩
def R.CAL_OSC_RES_LPO_ERR : Fld := ⟨0x000C, 15, 0, .ro, 0x0⟩
/-! CAL_TS_OFS (spec/18_housekeeping_thermal_calibration.md): CAL.TS_OFS[i], i = 0–15 — 0x0010 + 4 × i; CAL.SET_SEL — 0x0050; CAL.SET_STAT — 0x0054; CAL.INJECT — 0x0058; reset CHIP, domain BB -/
def R.CAL_TS_OFS_ODD : Fld := ⟨0x0010, 31, 16, .ro, 0x0⟩
def R.CAL_TS_OFS_EVEN : Fld := ⟨0x0010, 15, 0, .ro, 0x0⟩
def R.CAL_SET_SEL_SET : Fld := ⟨0x0050, 15, 0, .rw, 0x0⟩
def R.CAL_SET_STAT_VALID : Fld := ⟨0x0054, 31, 31, .ro, 0x0⟩
def R.CAL_SET_STAT_FAIL : Fld := ⟨0x0054, 30, 30, .ro, 0x0⟩
def R.CAL_SET_STAT_CLAMPED : Fld := ⟨0x0054, 29, 29, .ro, 0x0⟩
def R.CAL_SET_STAT_CAUSE : Fld := ⟨0x0054, 26, 24, .ro, 0x0⟩
def R.CAL_SET_STAT_NPTS : Fld := ⟨0x0054, 3, 0, .ro, 0x0⟩
def R.CAL_INJECT_INJ_RANGE : Fld := ⟨0x0058, 1, 1, .wo, 0x0⟩
def R.CAL_INJECT_INJ_FAIL : Fld := ⟨0x0058, 0, 0, .wo, 0x0⟩
/-- The registers of CAL. -/
def regsCAL : List RegD := [
  ⟨0x0000, 1, 4, .chip, [R.CAL_CMD_START, R.CAL_CMD_OP, R.CAL_CMD_ARG]⟩,
  ⟨0x0004, 1, 4, .chip, [R.CAL_STATUS_BUSY, R.CAL_STATUS_RESULT, R.CAL_STATUS_LAST_OP]⟩,
  ⟨0x0008, 1, 4, .chip, [R.CAL_ABS_ABS]⟩,
  ⟨0x000C, 1, 4, .chip, [R.CAL_OSC_RES_IRO_ERR, R.CAL_OSC_RES_LPO_ERR]⟩,
  ⟨0x0010, 16, 4, .chip, [R.CAL_TS_OFS_ODD, R.CAL_TS_OFS_EVEN]⟩,
  ⟨0x0050, 1, 4, .chip, [R.CAL_SET_SEL_SET]⟩,
  ⟨0x0054, 1, 4, .chip, [R.CAL_SET_STAT_VALID, R.CAL_SET_STAT_FAIL, R.CAL_SET_STAT_CLAMPED, R.CAL_SET_STAT_CAUSE, R.CAL_SET_STAT_NPTS]⟩,
  ⟨0x0058, 1, 4, .chip, [R.CAL_INJECT_INJ_RANGE, R.CAL_INJECT_INJ_FAIL]⟩]

/-! FLT_STATUS (spec/19_self_test_and_faults.md): FLT.STATUS — 0x0000; FLT.CTRL — 0x0004; FLT.ALIVE_KICK — 0x0008; reset POR (STATUS) and CHIP (CTRL, KICK), domain AON -/
def R.FLT_STATUS_REC_USED : Fld := ⟨0x0000, 15, 12, .ro, 0x0⟩
def R.FLT_STATUS_TOP_CLASS : Fld := ⟨0x0000, 9, 8, .ro, 0x0⟩
def R.FLT_STATUS_FATAL : Fld := ⟨0x0000, 7, 7, .ro, 0x0⟩
def R.FLT_STATUS_ALIVE_ON : Fld := ⟨0x0000, 6, 6, .ro, 0x0⟩
def R.FLT_STATUS_INT_ASSERT : Fld := ⟨0x0000, 5, 5, .ro, 0x0⟩
def R.FLT_STATUS_FAULT_ASSERT : Fld := ⟨0x0000, 4, 4, .ro, 0x0⟩
def R.FLT_STATUS_PIN : Fld := ⟨0x0000, 0, 0, .w1c, 0x0⟩
def R.FLT_CTRL_CLR_TOP : Fld := ⟨0x0004, 31, 31, .wo, 0x0⟩
def R.FLT_CTRL_REC_CLR : Fld := ⟨0x0004, 30, 30, .wo, 0x0⟩
def R.FLT_CTRL_ALIVE_HALF : Fld := ⟨0x0004, 15, 8, .rw, 0x8⟩
def R.FLT_CTRL_KICK_TO : Fld := ⟨0x0004, 7, 5, .rw, 0x4⟩
def R.FLT_CTRL_KICK_EN : Fld := ⟨0x0004, 4, 4, .rw, 0x0⟩
def R.FLT_ALIVE_KICK_KICK : Fld := ⟨0x0008, 31, 0, .wo, 0x0⟩
/-! FLT_SRC_SEL (spec/19_self_test_and_faults.md): FLT.SRC_SEL — 0x0010; FLT.SRC_CFG — 0x0014; reset CHIP, domain AON -/
def R.FLT_SRC_SEL_ID : Fld := ⟨0x0010, 10, 0, .rw, 0x0⟩
def R.FLT_SRC_CFG_FIXED : Fld := ⟨0x0014, 31, 31, .ro, 0x0⟩
def R.FLT_SRC_CFG_TROUBLE : Fld := ⟨0x0014, 23, 16, .ro, 0x0⟩
def R.FLT_SRC_CFG_CLR_TROUBLE : Fld := ⟨0x0014, 15, 15, .wo, 0x0⟩
def R.FLT_SRC_CFG_CLASS : Fld := ⟨0x0014, 6, 5, .rw, 0x0⟩
def R.FLT_SRC_CFG_HOST : Fld := ⟨0x0014, 4, 4, .rw, 0x0⟩
def R.FLT_SRC_CFG_NMT : Fld := ⟨0x0014, 3, 3, .rw, 0x0⟩
def R.FLT_SRC_CFG_BLOCK_RST : Fld := ⟨0x0014, 2, 2, .rw, 0x0⟩
def R.FLT_SRC_CFG_CHIP_RST : Fld := ⟨0x0014, 1, 1, .rw, 0x0⟩
def R.FLT_SRC_CFG_PIN : Fld := ⟨0x0014, 0, 0, .rw, 0x0⟩
/-! FLT_REC_SEL (spec/19_self_test_and_faults.md): FLT.REC_SEL — 0x0020; FLT.REC_W0–W4 — 0x0024–0x0034; reset POR, domain AON -/
def R.FLT_REC_SEL_INDEX : Fld := ⟨0x0020, 2, 0, .rw, 0x0⟩
def R.FLT_REC_W0_VALID : Fld := ⟨0x0024, 31, 31, .ro, 0x0⟩
def R.FLT_REC_W0_CLASS : Fld := ⟨0x0024, 30, 29, .ro, 0x0⟩
def R.FLT_REC_W0_TQ : Fld := ⟨0x0024, 28, 27, .ro, 0x0⟩
def R.FLT_REC_W0_ACCESS : Fld := ⟨0x0024, 26, 24, .ro, 0x0⟩
def R.FLT_REC_W0_MASTER : Fld := ⟨0x0024, 23, 16, .ro, 0x0⟩
def R.FLT_REC_W0_EVENT : Fld := ⟨0x0024, 10, 0, .ro, 0x0⟩
def R.FLT_REC_W1_ADDR : Fld := ⟨0x0028, 31, 0, .ro, 0x0⟩
def R.FLT_REC_W2_T : Fld := ⟨0x002C, 31, 0, .ro, 0x0⟩
def R.FLT_REC_W3_T : Fld := ⟨0x0030, 31, 0, .ro, 0x0⟩
def R.FLT_REC_W4_REACT : Fld := ⟨0x0034, 12, 8, .ro, 0x0⟩
def R.FLT_REC_W4_STEP_SEQ : Fld := ⟨0x0034, 7, 0, .ro, 0x0⟩
/-! FLT_CNT_OVF (spec/19_self_test_and_faults.md): FLT.CNT_OVF — 0x0038; FLT.CNT_CLASS[c], c = 0–3 — 0x0040 + 4 × c; FLT.INJECT — 0x0050; reset POR (counters) and CHIP (INJECT), domain AON -/
def R.FLT_CNT_OVF_NMT_LOST : Fld := ⟨0x0038, 15, 8, .rc, 0x0⟩
def R.FLT_CNT_OVF_REC : Fld := ⟨0x0038, 7, 0, .rc, 0x0⟩
def R.FLT_CNT_CLASS_COUNT : Fld := ⟨0x0040, 31, 0, .rc, 0x0⟩
def R.FLT_INJECT_INJ_KICK : Fld := ⟨0x0050, 2, 2, .wo, 0x0⟩
def R.FLT_INJECT_INJ_FULL : Fld := ⟨0x0050, 1, 1, .wo, 0x0⟩
def R.FLT_INJECT_INJ_LW : Fld := ⟨0x0050, 0, 0, .wo, 0x0⟩
/-- The registers of FLT. -/
def regsFLT : List RegD := [
  ⟨0x0000, 1, 4, .por, [R.FLT_STATUS_REC_USED, R.FLT_STATUS_TOP_CLASS, R.FLT_STATUS_FATAL, R.FLT_STATUS_ALIVE_ON, R.FLT_STATUS_INT_ASSERT, R.FLT_STATUS_FAULT_ASSERT, R.FLT_STATUS_PIN]⟩,
  ⟨0x0004, 1, 4, .chip, [R.FLT_CTRL_CLR_TOP, R.FLT_CTRL_REC_CLR, R.FLT_CTRL_ALIVE_HALF, R.FLT_CTRL_KICK_TO, R.FLT_CTRL_KICK_EN]⟩,
  ⟨0x0008, 1, 4, .chip, [R.FLT_ALIVE_KICK_KICK]⟩,
  ⟨0x0010, 1, 4, .chip, [R.FLT_SRC_SEL_ID]⟩,
  ⟨0x0014, 1, 4, .chip, [R.FLT_SRC_CFG_FIXED, R.FLT_SRC_CFG_TROUBLE, R.FLT_SRC_CFG_CLR_TROUBLE, R.FLT_SRC_CFG_CLASS, R.FLT_SRC_CFG_HOST, R.FLT_SRC_CFG_NMT, R.FLT_SRC_CFG_BLOCK_RST, R.FLT_SRC_CFG_CHIP_RST, R.FLT_SRC_CFG_PIN]⟩,
  ⟨0x0020, 1, 4, .por, [R.FLT_REC_SEL_INDEX]⟩,
  ⟨0x0024, 1, 4, .por, [R.FLT_REC_W0_VALID, R.FLT_REC_W0_CLASS, R.FLT_REC_W0_TQ, R.FLT_REC_W0_ACCESS, R.FLT_REC_W0_MASTER, R.FLT_REC_W0_EVENT]⟩,
  ⟨0x0028, 1, 4, .por, [R.FLT_REC_W1_ADDR]⟩,
  ⟨0x002C, 1, 4, .por, [R.FLT_REC_W2_T]⟩,
  ⟨0x0030, 1, 4, .por, [R.FLT_REC_W3_T]⟩,
  ⟨0x0034, 1, 4, .por, [R.FLT_REC_W4_REACT, R.FLT_REC_W4_STEP_SEQ]⟩,
  ⟨0x0038, 1, 4, .por, [R.FLT_CNT_OVF_NMT_LOST, R.FLT_CNT_OVF_REC]⟩,
  ⟨0x0040, 4, 4, .por, [R.FLT_CNT_CLASS_COUNT]⟩,
  ⟨0x0050, 1, 4, .chip, [R.FLT_INJECT_INJ_KICK, R.FLT_INJECT_INJ_FULL, R.FLT_INJECT_INJ_LW]⟩]

/-! BIST_ROT_CFG (spec/19_self_test_and_faults.md): BIST.ROT_CFG — 0x0000; BIST.ROT_STAT[u] — 0x0010 + 4 × u; BIST.ROT_CNT[u] — 0x0030 + 4 × u; u = 0–7 -/
def R.BIST_ROT_CFG_ROT_PER : Fld := ⟨0x0000, 31, 24, .rw, 0x3F⟩
def R.BIST_ROT_CFG_GRID : Fld := ⟨0x0000, 23, 20, .rw, 0x4⟩
def R.BIST_ROT_CFG_CMP : Fld := ⟨0x0000, 19, 16, .rw, 0x6⟩
def R.BIST_ROT_CFG_EN : Fld := ⟨0x0000, 7, 0, .rw, 0x0⟩
def R.BIST_ROT_STAT_STEP : Fld := ⟨0x0010, 31, 29, .ro, 0x0⟩
def R.BIST_ROT_STAT_NOSPARE : Fld := ⟨0x0010, 28, 28, .ro, 0x0⟩
def R.BIST_ROT_STAT_SUSPECT : Fld := ⟨0x0010, 27, 27, .w1c, 0x0⟩
def R.BIST_ROT_STAT_SHADE : Fld := ⟨0x0010, 26, 22, .ro, 0x10⟩
def R.BIST_ROT_STAT_FAILED : Fld := ⟨0x0010, 16, 0, .ro, 0x0⟩
def R.BIST_ROT_CNT_SWAPS : Fld := ⟨0x0030, 31, 16, .rc, 0x0⟩
def R.BIST_ROT_CNT_MISMATCH : Fld := ⟨0x0030, 15, 8, .rc, 0x0⟩
def R.BIST_ROT_CNT_TARGET : Fld := ⟨0x0030, 3, 0, .ro, 0x0⟩
/-! BIST_MAP (spec/19_self_test_and_faults.md): BIST.MAP[u][w], u = 0–7, w = 0–2 — 0x0050 + 12 × u + 4 × w -/
def R.BIST_MAP_ELEM : Fld := ⟨0x0050, 29, 0, .ro, 0x0⟩
/-! BIST_BOOT_UNIT (spec/19_self_test_and_faults.md): BIST.BOOT_UNIT[i], i = 0–5 — 0x0100 + 4 × i; BIST.MBIST — 0x0120 -/
def R.BIST_BOOT_UNIT_FAIL : Fld := ⟨0x0100, 31, 0, .ro, 0x0⟩
def R.BIST_MBIST_REPAIRED : Fld := ⟨0x0120, 31, 16, .ro, 0x0⟩
def R.BIST_MBIST_FAILED : Fld := ⟨0x0120, 15, 8, .ro, 0x0⟩
def R.BIST_MBIST_LAST : Fld := ⟨0x0120, 7, 0, .ro, 0x0⟩
/-! BIST_LOOP_CMD (spec/19_self_test_and_faults.md): BIST.LOOP_CMD — 0x0130; BIST.LOOP_RES — 0x0134; BIST.LOOP_LIM — 0x0138 -/
def R.BIST_LOOP_CMD_START : Fld := ⟨0x0130, 31, 31, .wo, 0x0⟩
def R.BIST_LOOP_CMD_BUSY : Fld := ⟨0x0130, 30, 30, .ro, 0x0⟩
def R.BIST_LOOP_CMD_RESULT : Fld := ⟨0x0130, 29, 27, .ro, 0x0⟩
def R.BIST_LOOP_CMD_LANE : Fld := ⟨0x0130, 13, 8, .rw, 0x0⟩
def R.BIST_LOOP_CMD_OP : Fld := ⟨0x0130, 1, 0, .rw, 0x0⟩
def R.BIST_LOOP_RES_ERRORS : Fld := ⟨0x0134, 31, 16, .ro, 0x0⟩
def R.BIST_LOOP_RES_RMS : Fld := ⟨0x0134, 7, 0, .ro, 0x0⟩
def R.BIST_LOOP_LIM_RMS_HI : Fld := ⟨0x0138, 15, 8, .rw, 0x40⟩
def R.BIST_LOOP_LIM_RMS_LO : Fld := ⟨0x0138, 7, 0, .rw, 0x10⟩
/-! BIST_FUSE_CMD (spec/19_self_test_and_faults.md): BIST.FUSE_CMD — 0x0140; BIST.FUSE_W0 — 0x0144; BIST.FUSE_W1 — 0x0148; BIST.INJECT — 0x0150 -/
def R.BIST_FUSE_CMD_KEY : Fld := ⟨0x0140, 31, 16, .wo, 0x0⟩
def R.BIST_FUSE_CMD_BUSY : Fld := ⟨0x0140, 15, 15, .ro, 0x0⟩
def R.BIST_FUSE_CMD_RESULT : Fld := ⟨0x0140, 14, 13, .ro, 0x0⟩
def R.BIST_FUSE_CMD_USED : Fld := ⟨0x0140, 6, 0, .ro, 0x0⟩
def R.BIST_FUSE_W0_ENTRY : Fld := ⟨0x0144, 31, 0, .rw, 0x0⟩
def R.BIST_FUSE_W1_ENTRY : Fld := ⟨0x0148, 31, 0, .rw, 0x0⟩
def R.BIST_INJECT_INJ_UNIT : Fld := ⟨0x0150, 10, 8, .rw, 0x0⟩
def R.BIST_INJECT_INJ_MBIST : Fld := ⟨0x0150, 3, 3, .wo, 0x0⟩
def R.BIST_INJECT_INJ_LOOP : Fld := ⟨0x0150, 2, 2, .wo, 0x0⟩
def R.BIST_INJECT_INJ_CMP : Fld := ⟨0x0150, 1, 1, .wo, 0x0⟩
def R.BIST_INJECT_INJ_SHADE : Fld := ⟨0x0150, 0, 0, .wo, 0x0⟩
/-- The registers of BIST. -/
def regsBIST : List RegD := [
  ⟨0x0000, 1, 4, .chip, [R.BIST_ROT_CFG_ROT_PER, R.BIST_ROT_CFG_GRID, R.BIST_ROT_CFG_CMP, R.BIST_ROT_CFG_EN]⟩,
  ⟨0x0010, 8, 4, .chip, [R.BIST_ROT_STAT_STEP, R.BIST_ROT_STAT_NOSPARE, R.BIST_ROT_STAT_SUSPECT, R.BIST_ROT_STAT_SHADE, R.BIST_ROT_STAT_FAILED]⟩,
  ⟨0x0030, 8, 4, .chip, [R.BIST_ROT_CNT_SWAPS, R.BIST_ROT_CNT_MISMATCH, R.BIST_ROT_CNT_TARGET]⟩,
  ⟨0x0050, 24, 4, .chip, [R.BIST_MAP_ELEM]⟩,
  ⟨0x0100, 6, 4, .chip, [R.BIST_BOOT_UNIT_FAIL]⟩,
  ⟨0x0120, 1, 4, .chip, [R.BIST_MBIST_REPAIRED, R.BIST_MBIST_FAILED, R.BIST_MBIST_LAST]⟩,
  ⟨0x0130, 1, 4, .chip, [R.BIST_LOOP_CMD_START, R.BIST_LOOP_CMD_BUSY, R.BIST_LOOP_CMD_RESULT, R.BIST_LOOP_CMD_LANE, R.BIST_LOOP_CMD_OP]⟩,
  ⟨0x0134, 1, 4, .chip, [R.BIST_LOOP_RES_ERRORS, R.BIST_LOOP_RES_RMS]⟩,
  ⟨0x0138, 1, 4, .chip, [R.BIST_LOOP_LIM_RMS_HI, R.BIST_LOOP_LIM_RMS_LO]⟩,
  ⟨0x0140, 1, 4, .chip, [R.BIST_FUSE_CMD_KEY, R.BIST_FUSE_CMD_BUSY, R.BIST_FUSE_CMD_RESULT, R.BIST_FUSE_CMD_USED]⟩,
  ⟨0x0144, 1, 4, .chip, [R.BIST_FUSE_W0_ENTRY]⟩,
  ⟨0x0148, 1, 4, .chip, [R.BIST_FUSE_W1_ENTRY]⟩,
  ⟨0x0150, 1, 4, .chip, [R.BIST_INJECT_INJ_UNIT, R.BIST_INJECT_INJ_MBIST, R.BIST_INJECT_INJ_LOOP, R.BIST_INJECT_INJ_CMP, R.BIST_INJECT_INJ_SHADE]⟩]

/-! SAFE_CTRL (spec/06_optical_head_control.md): SAFE.CTRL — offset 0x0000, reset POR, domain AON -/
def R.SAFE_CTRL_CHECK_EN : Fld := ⟨0x0000, 0, 0, .rwlk, 0x1⟩
/-! SAFE_STATUS (spec/06_optical_head_control.md): SAFE.STATUS — offset 0x0004, reset POR, domain AON -/
def R.SAFE_STATUS_PROG_RESULT : Fld := ⟨0x0004, 10, 8, .ro, 0x0⟩
def R.SAFE_STATUS_PIN_CLR : Fld := ⟨0x0004, 5, 5, .ro, 0x0⟩
def R.SAFE_STATUS_PROG_BUSY : Fld := ⟨0x0004, 4, 4, .ro, 0x0⟩
def R.SAFE_STATUS_OTP_ERR : Fld := ⟨0x0004, 3, 3, .w1c, 0x0⟩
def R.SAFE_STATUS_OTP_READY : Fld := ⟨0x0004, 2, 2, .ro, 0x0⟩
def R.SAFE_STATUS_LOCKED : Fld := ⟨0x0004, 0, 0, .ro, 0x0⟩
/-! SAFE_PROG_CMD (spec/06_optical_head_control.md): SAFE.PROG_CMD — offset 0x0008, reset POR, domain AON -/
def R.SAFE_PROG_CMD_KEY : Fld := ⟨0x0008, 31, 16, .wo, 0x0⟩
def R.SAFE_PROG_CMD_LANE : Fld := ⟨0x0008, 13, 8, .wo, 0x0⟩
def R.SAFE_PROG_CMD_OP : Fld := ⟨0x0008, 2, 0, .wo, 0x0⟩
/-! SAFE_PROG_LIM (spec/06_optical_head_control.md): SAFE.PROG_LIM — offset 0x000C; SAFE.PROG_DUTY — offset 0x0010; reset POR, domain AON -/
def R.SAFE_PROG_LIM_EMIT_TH : Fld := ⟨0x000C, 29, 16, .rw, 0x3FFF⟩
def R.SAFE_PROG_LIM_IB_MAX : Fld := ⟨0x000C, 13, 0, .rw, 0x3FFF⟩
def R.SAFE_PROG_DUTY_DUTY : Fld := ⟨0x0010, 7, 0, .rw, 0xFF⟩
/-! SAFE_PROG_DENY_LO (spec/06_optical_head_control.md): SAFE.PROG_DENY_LO — offset 0x0014; SAFE.PROG_DENY_HI — offset 0x0018; reset POR, domain AON -/
def R.SAFE_PROG_DENY_LO_DENY : Fld := ⟨0x0014, 31, 0, .rw, 0x0⟩
def R.SAFE_PROG_DENY_HI_DENY : Fld := ⟨0x0018, 31, 0, .rw, 0x0⟩
/-! SAFE_RD_SEL (spec/06_optical_head_control.md): SAFE.RD_SEL — offset 0x001C; SAFE.RD_DATA — offset 0x0020; reset POR, domain AON -/
def R.SAFE_RD_SEL_LANE : Fld := ⟨0x001C, 13, 8, .rw, 0x0⟩
def R.SAFE_RD_SEL_ITEM : Fld := ⟨0x001C, 3, 0, .rw, 0x0⟩
def R.SAFE_RD_DATA_DATA : Fld := ⟨0x0020, 31, 0, .ro, 0x0⟩
/-! SAFE_CLR (spec/06_optical_head_control.md): SAFE.CLR — offset 0x0024, reset POR, domain AON -/
def R.SAFE_CLR_SW_CLR : Fld := ⟨0x0024, 0, 0, .rw, 0x0⟩
/-! SAFE_CNT (spec/06_optical_head_control.md): SAFE.CNT — offset 0x0028, reset POR, domain AON -/
def R.SAFE_CNT_DUTY_HITS : Fld := ⟨0x0028, 31, 16, .rc, 0x0⟩
def R.SAFE_CNT_LIMITS : Fld := ⟨0x0028, 15, 8, .rc, 0x0⟩
def R.SAFE_CNT_CLEARS : Fld := ⟨0x0028, 7, 0, .rc, 0x0⟩
/-! SAFE_INJECT (spec/06_optical_head_control.md): SAFE.INJECT — offset 0x002C, reset POR, domain AON -/
def R.SAFE_INJECT_INJ_LANE : Fld := ⟨0x002C, 13, 8, .rw, 0x0⟩
def R.SAFE_INJECT_INJ_PROG : Fld := ⟨0x002C, 4, 4, .wo, 0x0⟩
def R.SAFE_INJECT_INJ_OTP : Fld := ⟨0x002C, 3, 3, .wo, 0x0⟩
def R.SAFE_INJECT_INJ_CHANNEL : Fld := ⟨0x002C, 2, 2, .wo, 0x0⟩
def R.SAFE_INJECT_INJ_DUTY : Fld := ⟨0x002C, 1, 1, .wo, 0x0⟩
def R.SAFE_INJECT_INJ_LIMIT : Fld := ⟨0x002C, 0, 0, .wo, 0x0⟩
/-! SAFE_LIM (spec/06_optical_head_control.md): SAFE.LIM[n], n = 0–63 — offset 0x0100 + 4 × n, reset POR, domain AON -/
def R.SAFE_LIM_EMIT_TH : Fld := ⟨0x0100, 29, 16, .ro, 0x3FFF⟩
def R.SAFE_LIM_IB_MAX : Fld := ⟨0x0100, 13, 0, .ro, 0x3FFF⟩
/-! SAFE_LANE (spec/06_optical_head_control.md): SAFE.LANE[n], n = 0–63 — offset 0x0200 + 4 × n, reset POR, domain AON -/
def R.SAFE_LANE_CLAMP_CH : Fld := ⟨0x0200, 14, 14, .ro, 0x0⟩
def R.SAFE_LANE_CLAMP_DUTY : Fld := ⟨0x0200, 13, 13, .ro, 0x0⟩
def R.SAFE_LANE_CLAMP_LIM : Fld := ⟨0x0200, 12, 12, .ro, 0x0⟩
def R.SAFE_LANE_SLOTS : Fld := ⟨0x0200, 10, 8, .ro, 0x0⟩
def R.SAFE_LANE_DUTY : Fld := ⟨0x0200, 7, 0, .ro, 0xFF⟩
/-- The registers of SAFE. -/
def regsSAFE : List RegD := [
  ⟨0x0000, 1, 4, .por, [R.SAFE_CTRL_CHECK_EN]⟩,
  ⟨0x0004, 1, 4, .por, [R.SAFE_STATUS_PROG_RESULT, R.SAFE_STATUS_PIN_CLR, R.SAFE_STATUS_PROG_BUSY, R.SAFE_STATUS_OTP_ERR, R.SAFE_STATUS_OTP_READY, R.SAFE_STATUS_LOCKED]⟩,
  ⟨0x0008, 1, 4, .por, [R.SAFE_PROG_CMD_KEY, R.SAFE_PROG_CMD_LANE, R.SAFE_PROG_CMD_OP]⟩,
  ⟨0x000C, 1, 4, .por, [R.SAFE_PROG_LIM_EMIT_TH, R.SAFE_PROG_LIM_IB_MAX]⟩,
  ⟨0x0010, 1, 4, .por, [R.SAFE_PROG_DUTY_DUTY]⟩,
  ⟨0x0014, 1, 4, .por, [R.SAFE_PROG_DENY_LO_DENY]⟩,
  ⟨0x0018, 1, 4, .por, [R.SAFE_PROG_DENY_HI_DENY]⟩,
  ⟨0x001C, 1, 4, .por, [R.SAFE_RD_SEL_LANE, R.SAFE_RD_SEL_ITEM]⟩,
  ⟨0x0020, 1, 4, .por, [R.SAFE_RD_DATA_DATA]⟩,
  ⟨0x0024, 1, 4, .por, [R.SAFE_CLR_SW_CLR]⟩,
  ⟨0x0028, 1, 4, .por, [R.SAFE_CNT_DUTY_HITS, R.SAFE_CNT_LIMITS, R.SAFE_CNT_CLEARS]⟩,
  ⟨0x002C, 1, 4, .por, [R.SAFE_INJECT_INJ_LANE, R.SAFE_INJECT_INJ_PROG, R.SAFE_INJECT_INJ_OTP, R.SAFE_INJECT_INJ_CHANNEL, R.SAFE_INJECT_INJ_DUTY, R.SAFE_INJECT_INJ_LIMIT]⟩,
  ⟨0x0100, 64, 4, .por, [R.SAFE_LIM_EMIT_TH, R.SAFE_LIM_IB_MAX]⟩,
  ⟨0x0200, 64, 4, .por, [R.SAFE_LANE_CLAMP_CH, R.SAFE_LANE_CLAMP_DUTY, R.SAFE_LANE_CLAMP_LIM, R.SAFE_LANE_SLOTS, R.SAFE_LANE_DUTY]⟩]

end Sys2Proof.Machine
end

