-- ==== Sys2Proof/Machine/RegsCommon.lean ====
section
/-! DEFINITION. The register descriptions of the blocks GLB, EVT, TL, BOOT, CLK, PWR, as the register tables of the spec give them:
one field definition per row of a table (reserved bits left out: they read 0, R18), and one row per register header. -/

namespace Sys2Proof.Machine

/-! GLB_ID (spec/01_architecture.md): GLB.ID — offset 0x0000, reset POR, domain BB -/
def R.GLB_ID_PART : Fld := ⟨0x0000, 31, 16, .ro, 0x6425⟩
def R.GLB_ID_FAMILY : Fld := ⟨0x0000, 15, 8, .ro, 0xE⟩
def R.GLB_ID_VENDOR : Fld := ⟨0x0000, 7, 0, .ro, 0x48⟩
/-! GLB_REV (spec/01_architecture.md): GLB.REV — offset 0x0004, reset POR, domain BB -/
def R.GLB_REV_LD3_REV : Fld := ⟨0x0004, 23, 20, .ro, 0x0⟩
def R.GLB_REV_LD2_REV : Fld := ⟨0x0004, 19, 16, .ro, 0x0⟩
def R.GLB_REV_LD1_REV : Fld := ⟨0x0004, 15, 12, .ro, 0x0⟩
def R.GLB_REV_LD0_REV : Fld := ⟨0x0004, 11, 8, .ro, 0x0⟩
def R.GLB_REV_CORE_REV : Fld := ⟨0x0004, 7, 4, .ro, 0x0⟩
def R.GLB_REV_PKG_REV : Fld := ⟨0x0004, 3, 0, .ro, 0x0⟩
/-! GLB_CONFIG (spec/01_architecture.md): GLB.CONFIG — offset 0x0008, reset POR, domain BB -/
def R.GLB_CONFIG_LD_OK : Fld := ⟨0x0008, 19, 16, .ro, 0x0⟩
def R.GLB_CONFIG_MS_OK : Fld := ⟨0x0008, 13, 8, .ro, 0x0⟩
def R.GLB_CONFIG_GRADE : Fld := ⟨0x0008, 5, 4, .ro, 0x0⟩
def R.GLB_CONFIG_MEM_SIZE : Fld := ⟨0x0008, 3, 0, .ro, 0x0⟩
/-! GLB_SERIAL_LO (spec/01_architecture.md): GLB.SERIAL_LO — offset 0x000C, reset POR, domain BB -/
def R.GLB_SERIAL_LO_SERIAL : Fld := ⟨0x000C, 31, 0, .ro, 0x0⟩
/-! GLB_SERIAL_HI (spec/01_architecture.md): GLB.SERIAL_HI — offset 0x0010, reset POR, domain BB -/
def R.GLB_SERIAL_HI_SERIAL : Fld := ⟨0x0010, 31, 0, .ro, 0x0⟩
/-! GLB_RESET (spec/01_architecture.md): GLB.RESET — offset 0x0020, reset CHIP, domain BB -/
def R.GLB_RESET_KEY : Fld := ⟨0x0020, 31, 16, .wo, 0x0⟩
def R.GLB_RESET_CHIP : Fld := ⟨0x0020, 0, 0, .wo, 0x0⟩
/-! GLB_RESET_CAUSE (spec/01_architecture.md): GLB.RESET_CAUSE — offset 0x0024, reset POR, domain AON -/
def R.GLB_RESET_CAUSE_JTAG : Fld := ⟨0x0024, 4, 4, .w1c, 0x0⟩
def R.GLB_RESET_CAUSE_FAULT : Fld := ⟨0x0024, 3, 3, .w1c, 0x0⟩
def R.GLB_RESET_CAUSE_SOFT : Fld := ⟨0x0024, 2, 2, .w1c, 0x0⟩
def R.GLB_RESET_CAUSE_PIN : Fld := ⟨0x0024, 1, 1, .w1c, 0x0⟩
def R.GLB_RESET_CAUSE_POR : Fld := ⟨0x0024, 0, 0, .w1c, 0x1⟩
/-! GLB_INJECT (spec/01_architecture.md): GLB.INJECT — offset 0x0028, reset CHIP, domain BB -/
def R.GLB_INJECT_TIMEOUT : Fld := ⟨0x0028, 1, 1, .wo, 0x0⟩
def R.GLB_INJECT_DECODE : Fld := ⟨0x0028, 0, 0, .wo, 0x0⟩
/-! GLB_COMMIT (spec/02_timeline.md): GLB.COMMIT — offset 0x0100, reset CHIP, domain BB -/
def R.GLB_COMMIT_INDEX : Fld := ⟨0x0100, 13, 8, .wo, 0x0⟩
def R.GLB_COMMIT_SCOPE : Fld := ⟨0x0100, 5, 4, .wo, 0x0⟩
def R.GLB_COMMIT_CLASS : Fld := ⟨0x0100, 3, 0, .wo, 0x0⟩
/-! GLB_COMMIT_STAT (spec/02_timeline.md): GLB.COMMIT_STAT — offset 0x0104, reset CHIP, domain BB -/
def R.GLB_COMMIT_STAT_DONE : Fld := ⟨0x0104, 31, 16, .ro, 0x0⟩
def R.GLB_COMMIT_STAT_BUSY : Fld := ⟨0x0104, 0, 0, .ro, 0x0⟩
/-! GLB_COMMIT_REJECT (spec/02_timeline.md): GLB.COMMIT_REJECT — offset 0x0108, reset CHIP, domain BB -/
def R.GLB_COMMIT_REJECT_VALID : Fld := ⟨0x0108, 31, 31, .w1c, 0x0⟩
def R.GLB_COMMIT_REJECT_CAUSE : Fld := ⟨0x0108, 15, 12, .ro, 0x0⟩
def R.GLB_COMMIT_REJECT_INDEX : Fld := ⟨0x0108, 9, 4, .ro, 0x0⟩
def R.GLB_COMMIT_REJECT_CLASS : Fld := ⟨0x0108, 3, 0, .ro, 0x0⟩
/-! GLB_LEGACY (spec/02_timeline.md): GLB.LEGACY — offset 0x010C, reset CHIP, domain BB -/
def R.GLB_LEGACY_WINDOW : Fld := ⟨0x010C, 25, 16, .rwlk, 0x40⟩
def R.GLB_LEGACY_CLASS_EN : Fld := ⟨0x010C, 15, 0, .rwlk, 0x0⟩
/-! GLB_LEGACY_CNT (spec/02_timeline.md): GLB.LEGACY_CNT — offset 0x0110, reset CHIP, domain BB -/
def R.GLB_LEGACY_CNT_MISMATCH : Fld := ⟨0x0110, 15, 0, .rc, 0x0⟩
/-! GLB_MASK_LO (spec/02_timeline.md): GLB.MASK_LO[j], GLB.MASK_HI[j], j = 0–7 — offsets 0x0140 + 8 × j and 0x0144 + 8 × j, reset CHIP, domain BB -/
def R.GLB_MASK_LO_LANES : Fld := ⟨0x0140, 31, 0, .rw, 0x0⟩
def R.GLB_MASK_HI_LANES : Fld := ⟨0x0144, 31, 0, .rw, 0x0⟩
/-! GLB_PIN_STAT (spec/20_pins_package_electrical.md): GLB.PIN_STAT — offset 0x0030, reset POR, domain AON -/
def R.GLB_PIN_STAT_TEST_HI : Fld := ⟨0x0030, 11, 11, .ro, 0x0⟩
def R.GLB_PIN_STAT_LVL_CLR : Fld := ⟨0x0030, 10, 10, .ro, 0x1⟩
def R.GLB_PIN_STAT_LVL_WAKE : Fld := ⟨0x0030, 9, 9, .ro, 0x1⟩
def R.GLB_PIN_STAT_BIAS_UV : Fld := ⟨0x0030, 5, 5, .w1c, 0x0⟩
def R.GLB_PIN_STAT_MI2C_TO : Fld := ⟨0x0030, 4, 4, .w1c, 0x0⟩
def R.GLB_PIN_STAT_SYNC_STUCK : Fld := ⟨0x0030, 3, 3, .w1c, 0x0⟩
def R.GLB_PIN_STAT_CLR_LONG : Fld := ⟨0x0030, 2, 2, .w1c, 0x0⟩
def R.GLB_PIN_STAT_WAKE_STUCK : Fld := ⟨0x0030, 1, 1, .w1c, 0x0⟩
def R.GLB_PIN_STAT_RST_LONG : Fld := ⟨0x0030, 0, 0, .w1c, 0x0⟩
/-! GLB_PIN_CNT (spec/20_pins_package_electrical.md): GLB.PIN_CNT — offset 0x0034, reset POR, domain AON -/
def R.GLB_PIN_CNT_MI2C_TO : Fld := ⟨0x0034, 31, 24, .rc, 0x0⟩
def R.GLB_PIN_CNT_SYNC_STUCK : Fld := ⟨0x0034, 23, 16, .rc, 0x0⟩
def R.GLB_PIN_CNT_WAKE_STUCK : Fld := ⟨0x0034, 15, 8, .rc, 0x0⟩
def R.GLB_PIN_CNT_BIAS_UV : Fld := ⟨0x0034, 7, 0, .rc, 0x0⟩
/-! GLB_PIN_CFG (spec/20_pins_package_electrical.md): GLB.PIN_CFG — offset 0x0038, reset POR, domain AON -/
def R.GLB_PIN_CFG_CLR_LONG : Fld := ⟨0x0038, 15, 8, .rw, 0xA⟩
def R.GLB_PIN_CFG_WAKE_TO : Fld := ⟨0x0038, 7, 0, .rw, 0xA⟩
/-- The registers of GLB. -/
def regsGLB : List RegD := [
  ⟨0x0000, 1, 4, .por, [R.GLB_ID_PART, R.GLB_ID_FAMILY, R.GLB_ID_VENDOR]⟩,
  ⟨0x0004, 1, 4, .por, [R.GLB_REV_LD3_REV, R.GLB_REV_LD2_REV, R.GLB_REV_LD1_REV, R.GLB_REV_LD0_REV, R.GLB_REV_CORE_REV, R.GLB_REV_PKG_REV]⟩,
  ⟨0x0008, 1, 4, .por, [R.GLB_CONFIG_LD_OK, R.GLB_CONFIG_MS_OK, R.GLB_CONFIG_GRADE, R.GLB_CONFIG_MEM_SIZE]⟩,
  ⟨0x000C, 1, 4, .por, [R.GLB_SERIAL_LO_SERIAL]⟩,
  ⟨0x0010, 1, 4, .por, [R.GLB_SERIAL_HI_SERIAL]⟩,
  ⟨0x0020, 1, 4, .chip, [R.GLB_RESET_KEY, R.GLB_RESET_CHIP]⟩,
  ⟨0x0024, 1, 4, .por, [R.GLB_RESET_CAUSE_JTAG, R.GLB_RESET_CAUSE_FAULT, R.GLB_RESET_CAUSE_SOFT, R.GLB_RESET_CAUSE_PIN, R.GLB_RESET_CAUSE_POR]⟩,
  ⟨0x0028, 1, 4, .chip, [R.GLB_INJECT_TIMEOUT, R.GLB_INJECT_DECODE]⟩,
  ⟨0x0100, 1, 4, .chip, [R.GLB_COMMIT_INDEX, R.GLB_COMMIT_SCOPE, R.GLB_COMMIT_CLASS]⟩,
  ⟨0x0104, 1, 4, .chip, [R.GLB_COMMIT_STAT_DONE, R.GLB_COMMIT_STAT_BUSY]⟩,
  ⟨0x0108, 1, 4, .chip, [R.GLB_COMMIT_REJECT_VALID, R.GLB_COMMIT_REJECT_CAUSE, R.GLB_COMMIT_REJECT_INDEX, R.GLB_COMMIT_REJECT_CLASS]⟩,
  ⟨0x010C, 1, 4, .chip, [R.GLB_LEGACY_WINDOW, R.GLB_LEGACY_CLASS_EN]⟩,
  ⟨0x0110, 1, 4, .chip, [R.GLB_LEGACY_CNT_MISMATCH]⟩,
  ⟨0x0140, 8, 8, .chip, [R.GLB_MASK_LO_LANES]⟩,
  ⟨0x0144, 8, 8, .chip, [R.GLB_MASK_HI_LANES]⟩,
  ⟨0x0030, 1, 4, .por, [R.GLB_PIN_STAT_TEST_HI, R.GLB_PIN_STAT_LVL_CLR, R.GLB_PIN_STAT_LVL_WAKE, R.GLB_PIN_STAT_BIAS_UV, R.GLB_PIN_STAT_MI2C_TO, R.GLB_PIN_STAT_SYNC_STUCK, R.GLB_PIN_STAT_CLR_LONG, R.GLB_PIN_STAT_WAKE_STUCK, R.GLB_PIN_STAT_RST_LONG]⟩,
  ⟨0x0034, 1, 4, .por, [R.GLB_PIN_CNT_MI2C_TO, R.GLB_PIN_CNT_SYNC_STUCK, R.GLB_PIN_CNT_WAKE_STUCK, R.GLB_PIN_CNT_BIAS_UV]⟩,
  ⟨0x0038, 1, 4, .por, [R.GLB_PIN_CFG_CLR_LONG, R.GLB_PIN_CFG_WAKE_TO]⟩]

/-! EVT_STAT (spec/01_architecture.md): EVT.STAT[i], i = 0–35 — offset 0x0000 + 4 × i, reset CHIP, domain BB -/
def R.EVT_STAT_EV : Fld := ⟨0x0000, 31, 0, .w1c, 0x0⟩
/-! EVT_EN (spec/01_architecture.md): EVT.EN[i], i = 0–35 — offset 0x0100 + 4 × i, reset CHIP, domain BB -/
def R.EVT_EN_EN : Fld := ⟨0x0100, 31, 0, .rw, 0x0⟩
/-- The registers of EVT. -/
def regsEVT : List RegD := [
  ⟨0x0000, 36, 4, .chip, [R.EVT_STAT_EV]⟩,
  ⟨0x0100, 36, 4, .chip, [R.EVT_EN_EN]⟩]

/-! TL_CTRL (spec/02_timeline.md): TL.CTRL — offset 0x0000, reset CHIP, domain BB -/
def R.TL_CTRL_INJ_TLCLK_LOSS : Fld := ⟨0x0000, 31, 31, .wo, 0x0⟩
def R.TL_CTRL_INJ_REJECT : Fld := ⟨0x0000, 30, 30, .wo, 0x0⟩
def R.TL_CTRL_INJ_LATE : Fld := ⟨0x0000, 29, 29, .wo, 0x0⟩
def R.TL_CTRL_INJ_SYNC_MISS : Fld := ⟨0x0000, 28, 28, .wo, 0x0⟩
def R.TL_CTRL_INJ_SYNC_ERR : Fld := ⟨0x0000, 27, 27, .wo, 0x0⟩
def R.TL_CTRL_CAL : Fld := ⟨0x0000, 2, 2, .wo, 0x0⟩
def R.TL_CTRL_MODE : Fld := ⟨0x0000, 1, 1, .rw, 0x0⟩
def R.TL_CTRL_ENABLE : Fld := ⟨0x0000, 0, 0, .rw, 0x0⟩
/-! TL_STATUS (spec/02_timeline.md): TL.STATUS — offset 0x0004, reset CHIP, domain BB -/
def R.TL_STATUS_STEP_SEQ : Fld := ⟨0x0004, 23, 16, .ro, 0x0⟩
def R.TL_STATUS_CAL_BUSY : Fld := ⟨0x0004, 9, 9, .ro, 0x0⟩
def R.TL_STATUS_RATE_VALID : Fld := ⟨0x0004, 8, 8, .ro, 0x0⟩
def R.TL_STATUS_BOUND_EXCEEDED : Fld := ⟨0x0004, 7, 7, .w1c, 0x0⟩
def R.TL_STATUS_AMBIG : Fld := ⟨0x0004, 6, 6, .ro, 0x0⟩
def R.TL_STATUS_TQ : Fld := ⟨0x0004, 5, 4, .ro, 0x3⟩
def R.TL_STATUS_COASTED : Fld := ⟨0x0004, 3, 3, .w1c, 0x0⟩
def R.TL_STATUS_STATE : Fld := ⟨0x0004, 2, 0, .ro, 0x5⟩
/-! TL_NOW_LO (spec/02_timeline.md): TL.NOW_LO — offset 0x0008; TL.NOW_HI — offset 0x000C; reset CHIP, domain BB -/
def R.TL_NOW_LO_TLV : Fld := ⟨0x0008, 31, 0, .ro, 0x0⟩
def R.TL_NOW_HI_TLV : Fld := ⟨0x000C, 31, 0, .ro, 0x0⟩
/-! TL_EPOCH_LO (spec/02_timeline.md): TL.EPOCH_LO — offset 0x0010; TL.EPOCH_HI — offset 0x0014; reset CHIP, domain BB -/
def R.TL_EPOCH_LO_EPOCH : Fld := ⟨0x0010, 31, 0, .rw, 0x0⟩
def R.TL_EPOCH_HI_EPOCH : Fld := ⟨0x0014, 31, 0, .rw, 0x0⟩
/-! TL_SYNC_INTERVAL (spec/02_timeline.md): TL.SYNC_INTERVAL — offset 0x0018, reset CHIP, domain BB -/
def R.TL_SYNC_INTERVAL_INTERVAL : Fld := ⟨0x0018, 31, 0, .rw, 0x9502F90⟩
/-! TL_SYNC_CFG (spec/02_timeline.md): TL.SYNC_CFG — offset 0x001C, reset CHIP, domain BB -/
def R.TL_SYNC_CFG_LOSS_N : Fld := ⟨0x001C, 11, 8, .rw, 0x3⟩
def R.TL_SYNC_CFG_WINDOW : Fld := ⟨0x001C, 7, 0, .rw, 0x2⟩
/-! TL_SYNC_ERR (spec/02_timeline.md): TL.SYNC_ERR — offset 0x0020, reset CHIP, domain BB -/
def R.TL_SYNC_ERR_ERR : Fld := ⟨0x0020, 31, 0, .ro, 0x0⟩
/-! TL_SYNC_CNT (spec/02_timeline.md): TL.SYNC_CNT — offset 0x0024; TL.SYNC_BAD — offset 0x0028; reset CHIP, domain BB -/
def R.TL_SYNC_CNT_MISS : Fld := ⟨0x0024, 31, 16, .rc, 0x0⟩
def R.TL_SYNC_CNT_OK : Fld := ⟨0x0024, 15, 0, .rc, 0x0⟩
def R.TL_SYNC_BAD_SPURIOUS : Fld := ⟨0x0028, 31, 16, .rc, 0x0⟩
def R.TL_SYNC_BAD_MISMATCH : Fld := ⟨0x0028, 15, 0, .rc, 0x0⟩
/-! TL_UNC (spec/02_timeline.md): TL.UNC — offset 0x002C, reset CHIP, domain BB -/
def R.TL_UNC_UNC : Fld := ⟨0x002C, 31, 0, .ro, 0x0⟩
/-! TL_LATE_CNT (spec/02_timeline.md): TL.LATE_CNT — offset 0x0030; TL.LATE_IDX — offset 0x0034; TL.LATE_SLIP — offset 0x0038; reset CHIP, domain BB -/
def R.TL_LATE_CNT_COUNT : Fld := ⟨0x0030, 31, 0, .rc, 0x0⟩
def R.TL_LATE_IDX_INDEX : Fld := ⟨0x0034, 9, 0, .ro, 0x0⟩
def R.TL_LATE_SLIP_SLIP : Fld := ⟨0x0038, 31, 0, .ro, 0x0⟩
/-! TL_STEP_LO (spec/02_timeline.md): TL.STEP_LO — offset 0x003C; TL.STEP_HI — offset 0x0040; reset CHIP, domain BB -/
def R.TL_STEP_LO_STEP : Fld := ⟨0x003C, 31, 0, .ro, 0x0⟩
def R.TL_STEP_HI_STEP : Fld := ⟨0x0040, 31, 0, .ro, 0x0⟩
/-! TL_ACT_CMD (spec/02_timeline.md): TL.ACT_CMD — offset 0x0080, reset CHIP, domain BB -/
def R.TL_ACT_CMD_OP : Fld := ⟨0x0080, 14, 12, .wo, 0x0⟩
def R.TL_ACT_CMD_INDEX : Fld := ⟨0x0080, 9, 0, .rw, 0x0⟩
/-! TL_ACT_W (spec/02_timeline.md): TL.ACT_W0–W3 — offsets 0x0084, 0x0088, 0x008C, 0x0090; reset CHIP, domain BB -/
def R.TL_ACT_W_WORD : Fld := ⟨0x0084, 31, 0, .rw, 0x0⟩
/-! TL_ACT_STATUS (spec/02_timeline.md): TL.ACT_STATUS — offset 0x0094, reset CHIP, domain BB -/
def R.TL_ACT_STATUS_SLIP_TC : Fld := ⟨0x0094, 31, 8, .ro, 0x0⟩
def R.TL_ACT_STATUS_RESULT : Fld := ⟨0x0094, 6, 5, .ro, 0x0⟩
def R.TL_ACT_STATUS_REJECT : Fld := ⟨0x0094, 4, 4, .ro, 0x0⟩
def R.TL_ACT_STATUS_LATE : Fld := ⟨0x0094, 3, 3, .ro, 0x0⟩
def R.TL_ACT_STATUS_STATE : Fld := ⟨0x0094, 2, 0, .ro, 0x0⟩
/-! TL_ACT_FREE (spec/02_timeline.md): TL.ACT_FREE — offset 0x0098, reset CHIP, domain BB -/
def R.TL_ACT_FREE_FREE : Fld := ⟨0x0098, 10, 0, .ro, 0x400⟩
/-! TL_LANE_DLY (spec/02_timeline.md): TL.LANE_DLY[i], i = 0–31 — offset 0x0100 + 4 × i, reset CHIP, domain BB -/
def R.TL_LANE_DLY_DLY_ODD : Fld := ⟨0x0100, 31, 16, .ro, 0x0⟩
def R.TL_LANE_DLY_DLY_EVEN : Fld := ⟨0x0100, 15, 0, .ro, 0x0⟩
/-! TL_EMBER_CTRL (spec/02_timeline.md): TL.EMBER_CTRL — offset 0xF000, reset POR, domain AON -/
def R.TL_EMBER_CTRL_ALARM_EN : Fld := ⟨0xF000, 20, 20, .rw, 0x0⟩
def R.TL_EMBER_CTRL_HOLD_PPM : Fld := ⟨0xF000, 19, 10, .rw, 0x14⟩
def R.TL_EMBER_CTRL_EMBER_PPM : Fld := ⟨0xF000, 9, 0, .rw, 0x96⟩
/-! TL_EMBER_CNT_LO (spec/02_timeline.md): TL.EMBER_CNT_LO — offset 0xF004; TL.EMBER_CNT_HI — offset 0xF008; reset POR, domain AON -/
def R.TL_EMBER_CNT_LO_CNT : Fld := ⟨0xF004, 31, 0, .ro, 0x0⟩
def R.TL_EMBER_CNT_HI_CNT : Fld := ⟨0xF008, 15, 0, .ro, 0x0⟩
/-! TL_EMBER_RATE (spec/02_timeline.md): TL.EMBER_RATE — offset 0xF00C, reset POR, domain AON -/
def R.TL_EMBER_RATE_RATE : Fld := ⟨0xF00C, 31, 0, .ro, 0x989680⟩
/-! TL_EMBER_ANCHOR_LO (spec/02_timeline.md): TL.EMBER_ANCHOR_LO — offset 0xF010; TL.EMBER_ANCHOR_HI — offset 0xF014; TL.EMBER_ALARM_LO — offset 0xF018; TL.EMBER_ALARM_HI — offset 0xF01C; reset PO -/
def R.TL_EMBER_ANCHOR_LO_ANCHOR : Fld := ⟨0xF010, 31, 0, .ro, 0x0⟩
def R.TL_EMBER_ANCHOR_HI_ANCHOR : Fld := ⟨0xF014, 31, 0, .ro, 0x0⟩
def R.TL_EMBER_ALARM_LO_ALARM : Fld := ⟨0xF018, 31, 0, .rw, 0x0⟩
def R.TL_EMBER_ALARM_HI_ALARM : Fld := ⟨0xF01C, 31, 0, .rw, 0x0⟩
/-- The registers of TL. -/
def regsTL : List RegD := [
  ⟨0x0000, 1, 4, .chip, [R.TL_CTRL_INJ_TLCLK_LOSS, R.TL_CTRL_INJ_REJECT, R.TL_CTRL_INJ_LATE, R.TL_CTRL_INJ_SYNC_MISS, R.TL_CTRL_INJ_SYNC_ERR, R.TL_CTRL_CAL, R.TL_CTRL_MODE, R.TL_CTRL_ENABLE]⟩,
  ⟨0x0004, 1, 4, .chip, [R.TL_STATUS_STEP_SEQ, R.TL_STATUS_CAL_BUSY, R.TL_STATUS_RATE_VALID, R.TL_STATUS_BOUND_EXCEEDED, R.TL_STATUS_AMBIG, R.TL_STATUS_TQ, R.TL_STATUS_COASTED, R.TL_STATUS_STATE]⟩,
  ⟨0x0008, 1, 4, .chip, [R.TL_NOW_LO_TLV]⟩,
  ⟨0x000C, 1, 4, .chip, [R.TL_NOW_HI_TLV]⟩,
  ⟨0x0010, 1, 4, .chip, [R.TL_EPOCH_LO_EPOCH]⟩,
  ⟨0x0014, 1, 4, .chip, [R.TL_EPOCH_HI_EPOCH]⟩,
  ⟨0x0018, 1, 4, .chip, [R.TL_SYNC_INTERVAL_INTERVAL]⟩,
  ⟨0x001C, 1, 4, .chip, [R.TL_SYNC_CFG_LOSS_N, R.TL_SYNC_CFG_WINDOW]⟩,
  ⟨0x0020, 1, 4, .chip, [R.TL_SYNC_ERR_ERR]⟩,
  ⟨0x0024, 1, 4, .chip, [R.TL_SYNC_CNT_MISS, R.TL_SYNC_CNT_OK]⟩,
  ⟨0x0028, 1, 4, .chip, [R.TL_SYNC_BAD_SPURIOUS, R.TL_SYNC_BAD_MISMATCH]⟩,
  ⟨0x002C, 1, 4, .chip, [R.TL_UNC_UNC]⟩,
  ⟨0x0030, 1, 4, .chip, [R.TL_LATE_CNT_COUNT]⟩,
  ⟨0x0034, 1, 4, .chip, [R.TL_LATE_IDX_INDEX]⟩,
  ⟨0x0038, 1, 4, .chip, [R.TL_LATE_SLIP_SLIP]⟩,
  ⟨0x003C, 1, 4, .chip, [R.TL_STEP_LO_STEP]⟩,
  ⟨0x0040, 1, 4, .chip, [R.TL_STEP_HI_STEP]⟩,
  ⟨0x0080, 1, 4, .chip, [R.TL_ACT_CMD_OP, R.TL_ACT_CMD_INDEX]⟩,
  ⟨0x0084, 4, 4, .chip, [R.TL_ACT_W_WORD]⟩,
  ⟨0x0094, 1, 4, .chip, [R.TL_ACT_STATUS_SLIP_TC, R.TL_ACT_STATUS_RESULT, R.TL_ACT_STATUS_REJECT, R.TL_ACT_STATUS_LATE, R.TL_ACT_STATUS_STATE]⟩,
  ⟨0x0098, 1, 4, .chip, [R.TL_ACT_FREE_FREE]⟩,
  ⟨0x0100, 32, 4, .chip, [R.TL_LANE_DLY_DLY_ODD, R.TL_LANE_DLY_DLY_EVEN]⟩,
  ⟨0xF000, 1, 4, .por, [R.TL_EMBER_CTRL_ALARM_EN, R.TL_EMBER_CTRL_HOLD_PPM, R.TL_EMBER_CTRL_EMBER_PPM]⟩,
  ⟨0xF004, 1, 4, .por, [R.TL_EMBER_CNT_LO_CNT]⟩,
  ⟨0xF008, 1, 4, .por, [R.TL_EMBER_CNT_HI_CNT]⟩,
  ⟨0xF00C, 1, 4, .por, [R.TL_EMBER_RATE_RATE]⟩,
  ⟨0xF010, 1, 4, .por, [R.TL_EMBER_ANCHOR_LO_ANCHOR]⟩,
  ⟨0xF014, 1, 4, .por, [R.TL_EMBER_ANCHOR_HI_ANCHOR]⟩,
  ⟨0xF018, 1, 4, .por, [R.TL_EMBER_ALARM_LO_ALARM]⟩,
  ⟨0xF01C, 1, 4, .por, [R.TL_EMBER_ALARM_HI_ALARM]⟩]

/-! BOOT_STATUS (spec/15_boot_image.md): BOOT.STATUS — offset 0x0000, reset CHIP, domain BB -/
def R.BOOT_STATUS_FAIL_CAUSE : Fld := ⟨0x0000, 15, 12, .ro, 0x0⟩
def R.BOOT_STATUS_KEY_SET : Fld := ⟨0x0000, 8, 8, .ro, 0x0⟩
def R.BOOT_STATUS_LBIST_ERR : Fld := ⟨0x0000, 7, 7, .ro, 0x0⟩
def R.BOOT_STATUS_TRAIN_ERR : Fld := ⟨0x0000, 6, 6, .ro, 0x0⟩
def R.BOOT_STATUS_FALLBACK : Fld := ⟨0x0000, 5, 5, .ro, 0x0⟩
def R.BOOT_STATUS_IMAGE : Fld := ⟨0x0000, 4, 4, .ro, 0x0⟩
def R.BOOT_STATUS_STATE : Fld := ⟨0x0000, 2, 0, .ro, 0x0⟩
/-! BOOT_ERR (spec/15_boot_image.md): BOOT.ERR — 0x0004; BOOT.CTRL — 0x0008; BOOT.TIME — 0x000C; BOOT.IMAGE — 0x0010; BOOT.SKIPPED — 0x0014 -/
def R.BOOT_ERR_ERR_B : Fld := ⟨0x0004, 31, 28, .ro, 0x0⟩
def R.BOOT_ERR_ERR_A : Fld := ⟨0x0004, 27, 24, .ro, 0x0⟩
def R.BOOT_ERR_INDEX : Fld := ⟨0x0004, 19, 0, .ro, 0x0⟩
def R.BOOT_CTRL_B_FIRST : Fld := ⟨0x0008, 0, 0, .rw, 0x0⟩
def R.BOOT_TIME_US : Fld := ⟨0x000C, 31, 0, .ro, 0x0⟩
def R.BOOT_IMAGE_BUILD_ID : Fld := ⟨0x0010, 31, 0, .ro, 0x0⟩
def R.BOOT_SKIPPED_COUNT : Fld := ⟨0x0014, 31, 0, .ro, 0x0⟩
/-! BOOT_MI2C_CFG (spec/15_boot_image.md): BOOT.MI2C_CFG — 0x0018; BOOT.MI2C_CNT — 0x001C; reset POR, domain BB -/
def R.BOOT_MI2C_CFG_ADDR : Fld := ⟨0x0018, 6, 0, .rwlk, 0x5A⟩
def R.BOOT_MI2C_CNT_ACCESSES : Fld := ⟨0x001C, 31, 16, .rc, 0x0⟩
def R.BOOT_MI2C_CNT_PROTO : Fld := ⟨0x001C, 15, 0, .rc, 0x0⟩
/-! BOOT_QSPI_CMD (spec/15_boot_image.md): BOOT.QSPI_CMD — 0x0020; BOOT.QSPI_ADDR — 0x0024; reset CHIP, domain BB -/
def R.BOOT_QSPI_CMD_START : Fld := ⟨0x0020, 31, 31, .wo, 0x0⟩
def R.BOOT_QSPI_CMD_BUSY : Fld := ⟨0x0020, 30, 30, .ro, 0x0⟩
def R.BOOT_QSPI_CMD_RESULT : Fld := ⟨0x0020, 29, 28, .ro, 0x0⟩
def R.BOOT_QSPI_CMD_DEV : Fld := ⟨0x0020, 8, 8, .rw, 0x0⟩
def R.BOOT_QSPI_CMD_OP : Fld := ⟨0x0020, 1, 0, .rw, 0x0⟩
def R.BOOT_QSPI_ADDR_ADDR : Fld := ⟨0x0024, 31, 0, .rw, 0x0⟩
/-! BOOT_QSPI_BUF (spec/15_boot_image.md): BOOT.QSPI_BUF[i], i = 0–15 — 0x0040 + 4 × i; BOOT.KEY_HASH[i], i = 0–11 — 0x0080 + 4 × i; BOOT.STEP_T[i], i = 0–7 — 0x00C0 + 4 × i; reset CHIP, domain -/
def R.BOOT_QSPI_BUF_DATA : Fld := ⟨0x0040, 31, 0, .rw, 0x0⟩
def R.BOOT_KEY_HASH_HASH : Fld := ⟨0x0080, 31, 0, .rw, 0x0⟩
def R.BOOT_STEP_T_US : Fld := ⟨0x00C0, 31, 0, .ro, 0x0⟩
/-! BOOT_KEY_CMD (spec/15_boot_image.md): BOOT.KEY_CMD — 0x00B0; BOOT.INJECT — 0x00B4; reset POR, domain BB -/
def R.BOOT_KEY_CMD_KEY : Fld := ⟨0x00B0, 31, 16, .wo, 0x0⟩
def R.BOOT_KEY_CMD_BUSY : Fld := ⟨0x00B0, 2, 2, .ro, 0x0⟩
def R.BOOT_KEY_CMD_RESULT : Fld := ⟨0x00B0, 1, 0, .ro, 0x0⟩
def R.BOOT_INJECT_INJ_MI2C : Fld := ⟨0x00B4, 3, 3, .wo, 0x0⟩
def R.BOOT_INJECT_INJ_LBIST : Fld := ⟨0x00B4, 2, 2, .wo, 0x0⟩
def R.BOOT_INJECT_INJ_TRAIN : Fld := ⟨0x00B4, 1, 1, .wo, 0x0⟩
def R.BOOT_INJECT_INJ_IMAGE : Fld := ⟨0x00B4, 0, 0, .wo, 0x0⟩
/-- The registers of BOOT. -/
def regsBOOT : List RegD := [
  ⟨0x0000, 1, 4, .chip, [R.BOOT_STATUS_FAIL_CAUSE, R.BOOT_STATUS_KEY_SET, R.BOOT_STATUS_LBIST_ERR, R.BOOT_STATUS_TRAIN_ERR, R.BOOT_STATUS_FALLBACK, R.BOOT_STATUS_IMAGE, R.BOOT_STATUS_STATE]⟩,
  ⟨0x0004, 1, 4, .chip, [R.BOOT_ERR_ERR_B, R.BOOT_ERR_ERR_A, R.BOOT_ERR_INDEX]⟩,
  ⟨0x0008, 1, 4, .por, [R.BOOT_CTRL_B_FIRST]⟩,
  ⟨0x000C, 1, 4, .chip, [R.BOOT_TIME_US]⟩,
  ⟨0x0010, 1, 4, .chip, [R.BOOT_IMAGE_BUILD_ID]⟩,
  ⟨0x0014, 1, 4, .chip, [R.BOOT_SKIPPED_COUNT]⟩,
  ⟨0x0018, 1, 4, .por, [R.BOOT_MI2C_CFG_ADDR]⟩,
  ⟨0x001C, 1, 4, .por, [R.BOOT_MI2C_CNT_ACCESSES, R.BOOT_MI2C_CNT_PROTO]⟩,
  ⟨0x0020, 1, 4, .chip, [R.BOOT_QSPI_CMD_START, R.BOOT_QSPI_CMD_BUSY, R.BOOT_QSPI_CMD_RESULT, R.BOOT_QSPI_CMD_DEV, R.BOOT_QSPI_CMD_OP]⟩,
  ⟨0x0024, 1, 4, .chip, [R.BOOT_QSPI_ADDR_ADDR]⟩,
  ⟨0x0040, 16, 4, .chip, [R.BOOT_QSPI_BUF_DATA]⟩,
  ⟨0x0080, 12, 4, .chip, [R.BOOT_KEY_HASH_HASH]⟩,
  ⟨0x00C0, 8, 4, .chip, [R.BOOT_STEP_T_US]⟩,
  ⟨0x00B0, 1, 4, .por, [R.BOOT_KEY_CMD_KEY, R.BOOT_KEY_CMD_BUSY, R.BOOT_KEY_CMD_RESULT]⟩,
  ⟨0x00B4, 1, 4, .por, [R.BOOT_INJECT_INJ_MI2C, R.BOOT_INJECT_INJ_LBIST, R.BOOT_INJECT_INJ_TRAIN, R.BOOT_INJECT_INJ_IMAGE]⟩]

/-! CLK_CTRL (spec/16_clocks.md): CLK.CTRL — offset 0x0000, reset CHIP, domain BB -/
def R.CLK_CTRL_RESUME : Fld := ⟨0x0000, 31, 31, .wo, 0x0⟩
def R.CLK_CTRL_COMP_EN : Fld := ⟨0x0000, 2, 2, .rw, 0x1⟩
def R.CLK_CTRL_AUTO_RESUME : Fld := ⟨0x0000, 1, 1, .rw, 0x0⟩
def R.CLK_CTRL_IRO_STBY : Fld := ⟨0x0000, 0, 0, .rw, 0x0⟩
/-! CLK_STATUS (spec/16_clocks.md): CLK.STATUS — offset 0x0004, reset CHIP, domain BB -/
def R.CLK_STATUS_CAUSE : Fld := ⟨0x0004, 19, 16, .ro, 0x0⟩
def R.CLK_STATUS_IRO_RDY : Fld := ⟨0x0004, 15, 15, .ro, 0x1⟩
def R.CLK_STATUS_CORE_LOCK : Fld := ⟨0x0004, 14, 14, .ro, 0x0⟩
def R.CLK_STATUS_MEM_LOCK : Fld := ⟨0x0004, 13, 13, .ro, 0x0⟩
def R.CLK_STATUS_LREF_OK : Fld := ⟨0x0004, 12, 12, .ro, 0x0⟩
def R.CLK_STATUS_SYSXI_OK : Fld := ⟨0x0004, 11, 11, .ro, 0x0⟩
def R.CLK_STATUS_TLCLK_OK : Fld := ⟨0x0004, 10, 10, .ro, 0x0⟩
def R.CLK_STATUS_CALCLK_OK : Fld := ⟨0x0004, 9, 9, .ro, 0x0⟩
def R.CLK_STATUS_IRO_FAIL : Fld := ⟨0x0004, 8, 8, .ro, 0x0⟩
def R.CLK_STATUS_STATE : Fld := ⟨0x0004, 1, 0, .ro, 0x0⟩
/-! CLK_PLL_CFG (spec/16_clocks.md): CLK.PLL_CFG — offset 0x0008; CLK.DIV — offset 0x000C; reset CHIP, domain BB -/
def R.CLK_PLL_CFG_CORE_N : Fld := ⟨0x0008, 23, 16, .rw, 0x55⟩
def R.CLK_PLL_CFG_CORE_M : Fld := ⟨0x0008, 11, 8, .rw, 0x4⟩
def R.CLK_PLL_CFG_MEM_N : Fld := ⟨0x0008, 4, 0, .rw, 0xD⟩
def R.CLK_DIV_SCLK_ACT : Fld := ⟨0x000C, 19, 16, .ro, 0x3⟩
def R.CLK_DIV_PCLK_DIV : Fld := ⟨0x000C, 11, 8, .st, 0x8⟩
def R.CLK_DIV_SCLK_DIV : Fld := ⟨0x000C, 7, 4, .st, 0x3⟩
def R.CLK_DIV_FCLK_DIV : Fld := ⟨0x000C, 3, 0, .st, 0x2⟩
/-! CLK_MON_LIM (spec/16_clocks.md): CLK.MON_LIM[j] — 0x0010 + 4 × j; CLK.MON_CNT[j] — 0x0020 + 4 × j; j = 0–3; CLK.MON_CFG — 0x0030; reset CHIP, domain BB -/
def R.CLK_MON_LIM_HI : Fld := ⟨0x0010, 31, 16, .rw, 0x0⟩
def R.CLK_MON_LIM_LO : Fld := ⟨0x0010, 15, 0, .rw, 0x0⟩
def R.CLK_MON_CNT_COUNT : Fld := ⟨0x0020, 15, 0, .ro, 0x0⟩
def R.CLK_MON_CFG_EN : Fld := ⟨0x0030, 18, 16, .rw, 0x7⟩
def R.CLK_MON_CFG_N_GOOD : Fld := ⟨0x0030, 15, 8, .rw, 0x10⟩
def R.CLK_MON_CFG_N_BAD : Fld := ⟨0x0030, 3, 0, .rw, 0x2⟩
/-! CLK_CNT (spec/16_clocks.md): CLK.CNT — 0x0034; CLK.GATE — 0x0040; CLK.GATE_STAT — 0x0044; CLK.GATE_REF — 0x0048; CLK.GATE_CNT — 0x004C; reset CHIP, domain BB -/
def R.CLK_CNT_FAILS : Fld := ⟨0x0034, 31, 24, .rc, 0x0⟩
def R.CLK_CNT_SYSXI_LOSS : Fld := ⟨0x0034, 23, 16, .rc, 0x0⟩
def R.CLK_CNT_TLCLK_LOSS : Fld := ⟨0x0034, 15, 8, .rc, 0x0⟩
def R.CLK_CNT_GATE_REFUSED : Fld := ⟨0x0034, 7, 0, .rc, 0x0⟩
def R.CLK_GATE_CLOSE : Fld := ⟨0x0040, 13, 0, .rw, 0x0⟩
def R.CLK_GATE_STAT_CLOSED : Fld := ⟨0x0044, 13, 0, .ro, 0x0⟩
def R.CLK_GATE_REF_VALID : Fld := ⟨0x0048, 31, 31, .w1c, 0x0⟩
def R.CLK_GATE_REF_BLOCK : Fld := ⟨0x0048, 19, 16, .ro, 0x0⟩
def R.CLK_GATE_REF_MASTER : Fld := ⟨0x0048, 7, 0, .ro, 0x0⟩
def R.CLK_GATE_CNT_WAKES : Fld := ⟨0x004C, 31, 16, .rc, 0x0⟩
/-! CLK_COMP (spec/16_clocks.md): CLK.COMP — 0x0050; CLK.CKOUT[i], i = 0–1 — 0x0060 + 4 × i; CLK.INJECT — 0x0070; reset CHIP, domain BB -/
def R.CLK_COMP_LPO_TRIM : Fld := ⟨0x0050, 23, 16, .ro, 0x0⟩
def R.CLK_COMP_IRO_TRIM : Fld := ⟨0x0050, 7, 0, .ro, 0x0⟩
def R.CLK_CKOUT_EN : Fld := ⟨0x0060, 31, 31, .st, 0x0⟩
def R.CLK_CKOUT_SEL : Fld := ⟨0x0060, 30, 29, .st, 0x0⟩
def R.CLK_CKOUT_MODE : Fld := ⟨0x0060, 28, 28, .st, 0x0⟩
def R.CLK_CKOUT_DEPTH : Fld := ⟨0x0060, 24, 16, .st, 0x0⟩
def R.CLK_CKOUT_RATE : Fld := ⟨0x0060, 13, 8, .st, 0x21⟩
def R.CLK_INJECT_INJ_GATE : Fld := ⟨0x0070, 3, 3, .wo, 0x0⟩
def R.CLK_INJECT_INJ_IRO : Fld := ⟨0x0070, 2, 2, .wo, 0x0⟩
def R.CLK_INJECT_INJ_SYSXI : Fld := ⟨0x0070, 1, 1, .wo, 0x0⟩
def R.CLK_INJECT_INJ_LREF : Fld := ⟨0x0070, 0, 0, .wo, 0x0⟩
/-- The registers of CLK. -/
def regsCLK : List RegD := [
  ⟨0x0000, 1, 4, .chip, [R.CLK_CTRL_RESUME, R.CLK_CTRL_COMP_EN, R.CLK_CTRL_AUTO_RESUME, R.CLK_CTRL_IRO_STBY]⟩,
  ⟨0x0004, 1, 4, .chip, [R.CLK_STATUS_CAUSE, R.CLK_STATUS_IRO_RDY, R.CLK_STATUS_CORE_LOCK, R.CLK_STATUS_MEM_LOCK, R.CLK_STATUS_LREF_OK, R.CLK_STATUS_SYSXI_OK, R.CLK_STATUS_TLCLK_OK, R.CLK_STATUS_CALCLK_OK, R.CLK_STATUS_IRO_FAIL, R.CLK_STATUS_STATE]⟩,
  ⟨0x0008, 1, 4, .chip, [R.CLK_PLL_CFG_CORE_N, R.CLK_PLL_CFG_CORE_M, R.CLK_PLL_CFG_MEM_N]⟩,
  ⟨0x000C, 1, 4, .chip, [R.CLK_DIV_SCLK_ACT, R.CLK_DIV_PCLK_DIV, R.CLK_DIV_SCLK_DIV, R.CLK_DIV_FCLK_DIV]⟩,
  ⟨0x0010, 4, 4, .chip, [R.CLK_MON_LIM_HI, R.CLK_MON_LIM_LO]⟩,
  ⟨0x0020, 4, 4, .chip, [R.CLK_MON_CNT_COUNT]⟩,
  ⟨0x0030, 1, 4, .chip, [R.CLK_MON_CFG_EN, R.CLK_MON_CFG_N_GOOD, R.CLK_MON_CFG_N_BAD]⟩,
  ⟨0x0034, 1, 4, .chip, [R.CLK_CNT_FAILS, R.CLK_CNT_SYSXI_LOSS, R.CLK_CNT_TLCLK_LOSS, R.CLK_CNT_GATE_REFUSED]⟩,
  ⟨0x0040, 1, 4, .chip, [R.CLK_GATE_CLOSE]⟩,
  ⟨0x0044, 1, 4, .chip, [R.CLK_GATE_STAT_CLOSED]⟩,
  ⟨0x0048, 1, 4, .chip, [R.CLK_GATE_REF_VALID, R.CLK_GATE_REF_BLOCK, R.CLK_GATE_REF_MASTER]⟩,
  ⟨0x004C, 1, 4, .chip, [R.CLK_GATE_CNT_WAKES]⟩,
  ⟨0x0050, 1, 4, .chip, [R.CLK_COMP_LPO_TRIM, R.CLK_COMP_IRO_TRIM]⟩,
  ⟨0x0060, 2, 4, .chip, [R.CLK_CKOUT_EN, R.CLK_CKOUT_SEL, R.CLK_CKOUT_MODE, R.CLK_CKOUT_DEPTH, R.CLK_CKOUT_RATE]⟩,
  ⟨0x0070, 1, 4, .chip, [R.CLK_INJECT_INJ_GATE, R.CLK_INJECT_INJ_IRO, R.CLK_INJECT_INJ_SYSXI, R.CLK_INJECT_INJ_LREF]⟩]

/-! PWR_STATUS (spec/17_power_states.md): PWR.STATUS — 0x0000; PWR.CTRL — 0x0004; reset CHIP, domain AON -/
def R.PWR_STATUS_SAFE_WAKE : Fld := ⟨0x0000, 3, 3, .ro, 0x0⟩
def R.PWR_STATUS_STATE : Fld := ⟨0x0000, 2, 0, .ro, 0x0⟩
def R.PWR_CTRL_REST_REQ : Fld := ⟨0x0004, 31, 31, .wo, 0x0⟩
def R.PWR_CTRL_FORCE : Fld := ⟨0x0004, 30, 30, .rw, 0x0⟩
def R.PWR_CTRL_WAKE_N_EN : Fld := ⟨0x0004, 1, 1, .rw, 0x1⟩
def R.PWR_CTRL_MI2C_WAKE_EN : Fld := ⟨0x0004, 0, 0, .rw, 0x1⟩
/-! PWR_DOM_REQ (spec/17_power_states.md): PWR.DOM_REQ[i] — 0x0010 + 4 × i; PWR.DOM_ON[i] — 0x0020 + 4 × i; i = 0–2; reset CHIP, domain AON -/
def R.PWR_DOM_REQ_REQ : Fld := ⟨0x0010, 31, 0, .rw, 0x0⟩
def R.PWR_DOM_ON_ON : Fld := ⟨0x0020, 31, 0, .ro, 0x0⟩
/-! PWR_DOM_SEL (spec/17_power_states.md): PWR.DOM_SEL — 0x0030; PWR.DOM_STAT — 0x0034; reset CHIP, domain AON -/
def R.PWR_DOM_SEL_INDEX : Fld := ⟨0x0030, 6, 0, .rw, 0x0⟩
def R.PWR_DOM_STAT_QWAIT : Fld := ⟨0x0034, 31, 16, .ro, 0x0⟩
def R.PWR_DOM_STAT_STATE : Fld := ⟨0x0034, 10, 8, .ro, 0x3⟩
def R.PWR_DOM_STAT_ANA_RDY : Fld := ⟨0x0034, 7, 7, .ro, 0x1⟩
def R.PWR_DOM_STAT_DIG_RDY : Fld := ⟨0x0034, 6, 6, .ro, 0x1⟩
def R.PWR_DOM_STAT_ANSWER : Fld := ⟨0x0034, 5, 4, .ro, 0x0⟩
def R.PWR_DOM_STAT_CAUSE : Fld := ⟨0x0034, 3, 0, .ro, 0x0⟩
/-! PWR_TOK (spec/17_power_states.md): PWR.TOK[r], r = 0–3 (VDD_CORE, VDD_AN, VDD_TX, VDD_MEM) — 0x0040 + 4 × r; PWR.QWAIT — 0x0050; reset CHIP, domain AON -/
def R.PWR_TOK_HOLD : Fld := ⟨0x0040, 23, 16, .rw, 0x14⟩
def R.PWR_TOK_AVAIL : Fld := ⟨0x0040, 15, 8, .ro, 0x0⟩
def R.PWR_TOK_POOL : Fld := ⟨0x0040, 7, 0, .rw, 0x0⟩
def R.PWR_QWAIT_MAX : Fld := ⟨0x0050, 31, 16, .rc, 0x0⟩
def R.PWR_QWAIT_TH : Fld := ⟨0x0050, 15, 0, .rw, 0xFA⟩
/-! PWR_SQ_ANSWER (spec/17_power_states.md): PWR.SQ_ANSWER — 0x0054; PWR.CNT — 0x0058; PWR.WAKE — 0x005C; reset CHIP, domain AON -/
def R.PWR_SQ_ANSWER_ANSWER : Fld := ⟨0x0054, 1, 0, .wo, 0x0⟩
def R.PWR_CNT_ABORTS : Fld := ⟨0x0058, 31, 24, .rc, 0x0⟩
def R.PWR_CNT_REFUSALS : Fld := ⟨0x0058, 23, 16, .rc, 0x0⟩
def R.PWR_CNT_RESTS : Fld := ⟨0x0058, 15, 0, .rc, 0x0⟩
def R.PWR_WAKE_US : Fld := ⟨0x005C, 31, 16, .ro, 0x0⟩
def R.PWR_WAKE_SOURCE : Fld := ⟨0x005C, 2, 0, .ro, 0x0⟩
/-! PWR_LOG_SEL (spec/17_power_states.md): PWR.LOG_SEL — 0x0060; PWR.LOG_W0 — 0x0064; LOG_W1 — 0x0068; LOG_W2 — 0x006C; PWR.INJECT — 0x0070; reset CHIP, domain AON -/
def R.PWR_LOG_SEL_INDEX : Fld := ⟨0x0060, 3, 0, .rw, 0x0⟩
def R.PWR_LOG_W0_VALID : Fld := ⟨0x0064, 31, 31, .ro, 0x0⟩
def R.PWR_LOG_W0_DOMAIN : Fld := ⟨0x0064, 30, 24, .ro, 0x0⟩
def R.PWR_LOG_W0_CAUSE : Fld := ⟨0x0064, 23, 20, .ro, 0x0⟩
def R.PWR_LOG_W0_KIND : Fld := ⟨0x0064, 19, 18, .ro, 0x0⟩
def R.PWR_LOG_W0_MASTER : Fld := ⟨0x0064, 7, 0, .ro, 0x0⟩
def R.PWR_LOG_W1_T : Fld := ⟨0x0068, 31, 0, .ro, 0x0⟩
def R.PWR_LOG_W2_T : Fld := ⟨0x006C, 31, 0, .ro, 0x0⟩
def R.PWR_INJECT_INJ_DOM : Fld := ⟨0x0070, 22, 16, .rw, 0x0⟩
def R.PWR_INJECT_INJ_TOKEN : Fld := ⟨0x0070, 2, 2, .wo, 0x0⟩
def R.PWR_INJECT_INJ_DOMFAIL : Fld := ⟨0x0070, 1, 1, .wo, 0x0⟩
def R.PWR_INJECT_INJ_REFUSE : Fld := ⟨0x0070, 0, 0, .wo, 0x0⟩
/-- The registers of PWR. -/
def regsPWR : List RegD := [
  ⟨0x0000, 1, 4, .chip, [R.PWR_STATUS_SAFE_WAKE, R.PWR_STATUS_STATE]⟩,
  ⟨0x0004, 1, 4, .chip, [R.PWR_CTRL_REST_REQ, R.PWR_CTRL_FORCE, R.PWR_CTRL_WAKE_N_EN, R.PWR_CTRL_MI2C_WAKE_EN]⟩,
  ⟨0x0010, 3, 4, .chip, [R.PWR_DOM_REQ_REQ]⟩,
  ⟨0x0020, 3, 4, .chip, [R.PWR_DOM_ON_ON]⟩,
  ⟨0x0030, 1, 4, .chip, [R.PWR_DOM_SEL_INDEX]⟩,
  ⟨0x0034, 1, 4, .chip, [R.PWR_DOM_STAT_QWAIT, R.PWR_DOM_STAT_STATE, R.PWR_DOM_STAT_ANA_RDY, R.PWR_DOM_STAT_DIG_RDY, R.PWR_DOM_STAT_ANSWER, R.PWR_DOM_STAT_CAUSE]⟩,
  ⟨0x0040, 4, 4, .chip, [R.PWR_TOK_HOLD, R.PWR_TOK_AVAIL, R.PWR_TOK_POOL]⟩,
  ⟨0x0050, 1, 4, .chip, [R.PWR_QWAIT_MAX, R.PWR_QWAIT_TH]⟩,
  ⟨0x0054, 1, 4, .chip, [R.PWR_SQ_ANSWER_ANSWER]⟩,
  ⟨0x0058, 1, 4, .chip, [R.PWR_CNT_ABORTS, R.PWR_CNT_REFUSALS, R.PWR_CNT_RESTS]⟩,
  ⟨0x005C, 1, 4, .chip, [R.PWR_WAKE_US, R.PWR_WAKE_SOURCE]⟩,
  ⟨0x0060, 1, 4, .chip, [R.PWR_LOG_SEL_INDEX]⟩,
  ⟨0x0064, 1, 4, .chip, [R.PWR_LOG_W0_VALID, R.PWR_LOG_W0_DOMAIN, R.PWR_LOG_W0_CAUSE, R.PWR_LOG_W0_KIND, R.PWR_LOG_W0_MASTER]⟩,
  ⟨0x0068, 1, 4, .chip, [R.PWR_LOG_W1_T]⟩,
  ⟨0x006C, 1, 4, .chip, [R.PWR_LOG_W2_T]⟩,
  ⟨0x0070, 1, 4, .chip, [R.PWR_INJECT_INJ_DOM, R.PWR_INJECT_INJ_TOKEN, R.PWR_INJECT_INJ_DOMFAIL, R.PWR_INJECT_INJ_REFUSE]⟩]

end Sys2Proof.Machine
end

