-- ==== Sys2Proof/Machine/RegsLane.lean ====
section
/-! DEFINITION. The register descriptions of the blocks LANE_RX, LANE_EQ, LANE_TX, LANE_ACQ, LANE_FEC, LANE_WATCH, LANE_HAZE, LANE_BIAS, as the register tables of the spec give them:
one field definition per row of a table (reserved bits left out: they read 0, R18), and one row per register header. -/

namespace Sys2Proof.Machine

/-! RX_CTRL (spec/03_receive_front_end.md): LANE[n].RX.CTRL — offset 0x0000, reset BLOCK, domain LSnn -/
def R.RX_CTRL_LANE_RST : Fld := ⟨0x0000, 31, 31, .wo, 0x0⟩
def R.RX_CTRL_BURST : Fld := ⟨0x0000, 7, 7, .rw, 0x0⟩
def R.RX_CTRL_POLARITY : Fld := ⟨0x0000, 6, 6, .st, 0x0⟩
def R.RX_CTRL_MODE : Fld := ⟨0x0000, 5, 3, .st, 0x0⟩
def R.RX_CTRL_ENABLE : Fld := ⟨0x0000, 0, 0, .rw, 0x0⟩
/-! RX_STATUS (spec/03_receive_front_end.md): LANE[n].RX.STATUS — offset 0x0004, reset BLOCK, domain LSnn -/
def R.RX_STATUS_UNLOCK_CAUSE : Fld := ⟨0x0004, 18, 16, .ro, 0x0⟩
def R.RX_STATUS_MODE_ACT : Fld := ⟨0x0004, 15, 13, .ro, 0x0⟩
def R.RX_STATUS_LIMIT : Fld := ⟨0x0004, 10, 10, .ro, 0x0⟩
def R.RX_STATUS_LOS : Fld := ⟨0x0004, 9, 9, .ro, 0x1⟩
def R.RX_STATUS_LOCKED : Fld := ⟨0x0004, 8, 8, .ro, 0x0⟩
def R.RX_STATUS_STATE : Fld := ⟨0x0004, 2, 0, .ro, 0x0⟩
/-! RX_TERM (spec/03_receive_front_end.md): LANE[n].RX.TERM — offset 0x0008, reset BLOCK, domain LSnn -/
def R.RX_TERM_TMODE : Fld := ⟨0x0008, 5, 4, .rw, 0x0⟩
def R.RX_TERM_TRIM : Fld := ⟨0x0008, 3, 0, .rw, 0x8⟩
/-! RX_GAIN (spec/03_receive_front_end.md): LANE[n].RX.GAIN — offset 0x000C, reset BLOCK, domain LSnn -/
def R.RX_GAIN_GAIN_ACT : Fld := ⟨0x000C, 21, 16, .ro, 0xC⟩
def R.RX_GAIN_GAIN_CODE : Fld := ⟨0x000C, 13, 8, .st, 0xC⟩
def R.RX_GAIN_AGC_EN : Fld := ⟨0x000C, 0, 0, .rw, 0x1⟩
/-! RX_AGC_CFG (spec/03_receive_front_end.md): LANE[n].RX.AGC_CFG — offset 0x0010, reset BLOCK, domain LSnn -/
def R.RX_AGC_CFG_CLIP_TH : Fld := ⟨0x0010, 31, 24, .rw, 0x10⟩
def R.RX_AGC_CFG_TARGET : Fld := ⟨0x0010, 15, 8, .rw, 0x30⟩
def R.RX_AGC_CFG_DEADBAND : Fld := ⟨0x0010, 7, 4, .rw, 0x3⟩
def R.RX_AGC_CFG_PERIOD : Fld := ⟨0x0010, 3, 0, .rw, 0x6⟩
/-! RX_LOS_CFG (spec/03_receive_front_end.md): LANE[n].RX.LOS_CFG — offset 0x0014, reset BLOCK, domain LSnn -/
def R.RX_LOS_CFG_ASSERT_TH : Fld := ⟨0x0014, 31, 24, .rw, 0xC⟩
def R.RX_LOS_CFG_DEASSERT_TH : Fld := ⟨0x0014, 23, 16, .rw, 0x14⟩
def R.RX_LOS_CFG_ASSERT_TIME : Fld := ⟨0x0014, 15, 8, .rw, 0xD⟩
def R.RX_LOS_CFG_DEASSERT_TIME : Fld := ⟨0x0014, 7, 0, .rw, 0x41⟩
/-! RX_PF_CTRL (spec/03_receive_front_end.md): LANE[n].RX.PF_CTRL — offset 0x0018, reset BLOCK, domain LSnn -/
def R.RX_PF_CTRL_CUSTOM : Fld := ⟨0x0018, 8, 8, .st, 0x0⟩
def R.RX_PF_CTRL_PRESET : Fld := ⟨0x0018, 3, 0, .st, 0x0⟩
/-! RX_PF_COEF (spec/03_receive_front_end.md): LANE[n].RX.PF_COEF[j], j = 0–3 — offset 0x001C + 4 × j, reset BLOCK, domain LSnn -/
def R.RX_PF_COEF_TAP_ODD : Fld := ⟨0x001C, 27, 16, .st, 0x0⟩
def R.RX_PF_COEF_TAP_EVEN : Fld := ⟨0x001C, 11, 0, .st, 0x0⟩
/-! RX_TR_CFG (spec/03_receive_front_end.md): LANE[n].RX.TR_CFG — offset 0x002C, reset BLOCK, domain LSnn -/
def R.RX_TR_CFG_PHASE_OFS : Fld := ⟨0x002C, 31, 24, .st, 0x0⟩
def R.RX_TR_CFG_KP : Fld := ⟨0x002C, 19, 16, .rw, 0x6⟩
def R.RX_TR_CFG_KI : Fld := ⟨0x002C, 11, 8, .rw, 0xE⟩
def R.RX_TR_CFG_PD_SEL : Fld := ⟨0x002C, 0, 0, .rw, 0x0⟩
/-! RX_TR_FREQ (spec/03_receive_front_end.md): LANE[n].RX.TR_FREQ — offset 0x0030, reset BLOCK, domain LSnn -/
def R.RX_TR_FREQ_FREQ : Fld := ⟨0x0030, 19, 0, .ro, 0x0⟩
/-! RX_TR_PHASE (spec/03_receive_front_end.md): LANE[n].RX.TR_PHASE — offset 0x0034, reset BLOCK, domain LSnn -/
def R.RX_TR_PHASE_ERR_RMS : Fld := ⟨0x0034, 11, 0, .ro, 0x0⟩
/-! RX_LOCK_CFG (spec/03_receive_front_end.md): LANE[n].RX.LOCK_CFG — offset 0x0038, reset BLOCK, domain LSnn -/
def R.RX_LOCK_CFG_UNLOCK_TH : Fld := ⟨0x0038, 31, 24, .rw, 0x80⟩
def R.RX_LOCK_CFG_LOCK_TH : Fld := ⟨0x0038, 23, 16, .rw, 0x40⟩
def R.RX_LOCK_CFG_LOCK_TIME : Fld := ⟨0x0038, 15, 8, .rw, 0x10⟩
def R.RX_LOCK_CFG_UNLOCK_TIME : Fld := ⟨0x0038, 7, 0, .rw, 0x4⟩
/-! RX_CAL_CTRL (spec/03_receive_front_end.md): LANE[n].RX.CAL_CTRL — offset 0x003C, reset BLOCK, domain LSnn -/
def R.RX_CAL_CTRL_CAL_LEN : Fld := ⟨0x003C, 19, 16, .rw, 0x8⟩
def R.RX_CAL_CTRL_OFS_MU : Fld := ⟨0x003C, 13, 12, .rw, 0x2⟩
def R.RX_CAL_CTRL_GAIN_MU : Fld := ⟨0x003C, 9, 8, .rw, 0x2⟩
def R.RX_CAL_CTRL_BG_EN : Fld := ⟨0x003C, 3, 3, .rw, 0x1⟩
def R.RX_CAL_CTRL_FREEZE_SKEW : Fld := ⟨0x003C, 2, 2, .rw, 0x0⟩
def R.RX_CAL_CTRL_FREEZE_GAIN : Fld := ⟨0x003C, 1, 1, .rw, 0x0⟩
def R.RX_CAL_CTRL_FREEZE_OFS : Fld := ⟨0x003C, 0, 0, .rw, 0x0⟩
/-! RX_CAL_STATUS (spec/03_receive_front_end.md): LANE[n].RX.CAL_STATUS — offset 0x0040, reset BLOCK, domain LSnn -/
def R.RX_CAL_STATUS_LIMIT_IDX : Fld := ⟨0x0040, 23, 16, .ro, 0x0⟩
def R.RX_CAL_STATUS_LIMIT_KIND : Fld := ⟨0x0040, 15, 14, .ro, 0x0⟩
def R.RX_CAL_STATUS_LIMIT : Fld := ⟨0x0040, 8, 8, .w1c, 0x0⟩
def R.RX_CAL_STATUS_ROUNDS : Fld := ⟨0x0040, 7, 0, .ro, 0x0⟩
/-! RX_TRIM_SEL (spec/03_receive_front_end.md): LANE[n].RX.TRIM_SEL — offset 0x0044, reset BLOCK, domain LSnn -/
def R.RX_TRIM_SEL_INDEX : Fld := ⟨0x0044, 6, 0, .rw, 0x0⟩
/-! RX_TRIM_DATA (spec/03_receive_front_end.md): LANE[n].RX.TRIM_DATA — offset 0x0048, reset CHIP, domain LSnn -/
def R.RX_TRIM_DATA_OFS : Fld := ⟨0x0048, 29, 20, .rw, 0x0⟩
def R.RX_TRIM_DATA_GAIN : Fld := ⟨0x0048, 19, 10, .rw, 0x0⟩
def R.RX_TRIM_DATA_SKEW : Fld := ⟨0x0048, 7, 0, .rw, 0x0⟩
/-! RX_LEVEL (spec/03_receive_front_end.md): LANE[n].RX.LEVEL — offset 0x004C, reset BLOCK, domain LSnn -/
def R.RX_LEVEL_SWING : Fld := ⟨0x004C, 23, 16, .ro, 0x0⟩
def R.RX_LEVEL_RMS : Fld := ⟨0x004C, 7, 0, .ro, 0x0⟩
/-! RX_CNT (spec/03_receive_front_end.md): LANE[n].RX.CNT — offset 0x0050, reset BLOCK, domain LSnn -/
def R.RX_CNT_LOS : Fld := ⟨0x0050, 31, 16, .rc, 0x0⟩
def R.RX_CNT_UNLOCK : Fld := ⟨0x0050, 15, 0, .rc, 0x0⟩
/-! RX_CNT_CLIP (spec/03_receive_front_end.md): LANE[n].RX.CNT_CLIP — offset 0x0054, reset BLOCK, domain LSnn -/
def R.RX_CNT_CLIP_CLIP : Fld := ⟨0x0054, 31, 0, .rc, 0x0⟩
/-! RX_INJECT (spec/03_receive_front_end.md): LANE[n].RX.INJECT — offset 0x0058, reset BLOCK, domain LSnn -/
def R.RX_INJECT_INJ_CAL : Fld := ⟨0x0058, 2, 2, .wo, 0x0⟩
def R.RX_INJECT_INJ_UNLOCK : Fld := ⟨0x0058, 1, 1, .wo, 0x0⟩
def R.RX_INJECT_INJ_LOS : Fld := ⟨0x0058, 0, 0, .wo, 0x0⟩
/-- The registers of LANE_RX. -/
def regsLaneRX : List RegD := [
  ⟨0x0000, 1, 4, .block, [R.RX_CTRL_LANE_RST, R.RX_CTRL_BURST, R.RX_CTRL_POLARITY, R.RX_CTRL_MODE, R.RX_CTRL_ENABLE]⟩,
  ⟨0x0004, 1, 4, .block, [R.RX_STATUS_UNLOCK_CAUSE, R.RX_STATUS_MODE_ACT, R.RX_STATUS_LIMIT, R.RX_STATUS_LOS, R.RX_STATUS_LOCKED, R.RX_STATUS_STATE]⟩,
  ⟨0x0008, 1, 4, .block, [R.RX_TERM_TMODE, R.RX_TERM_TRIM]⟩,
  ⟨0x000C, 1, 4, .block, [R.RX_GAIN_GAIN_ACT, R.RX_GAIN_GAIN_CODE, R.RX_GAIN_AGC_EN]⟩,
  ⟨0x0010, 1, 4, .block, [R.RX_AGC_CFG_CLIP_TH, R.RX_AGC_CFG_TARGET, R.RX_AGC_CFG_DEADBAND, R.RX_AGC_CFG_PERIOD]⟩,
  ⟨0x0014, 1, 4, .block, [R.RX_LOS_CFG_ASSERT_TH, R.RX_LOS_CFG_DEASSERT_TH, R.RX_LOS_CFG_ASSERT_TIME, R.RX_LOS_CFG_DEASSERT_TIME]⟩,
  ⟨0x0018, 1, 4, .block, [R.RX_PF_CTRL_CUSTOM, R.RX_PF_CTRL_PRESET]⟩,
  ⟨0x001C, 4, 4, .block, [R.RX_PF_COEF_TAP_ODD, R.RX_PF_COEF_TAP_EVEN]⟩,
  ⟨0x002C, 1, 4, .block, [R.RX_TR_CFG_PHASE_OFS, R.RX_TR_CFG_KP, R.RX_TR_CFG_KI, R.RX_TR_CFG_PD_SEL]⟩,
  ⟨0x0030, 1, 4, .block, [R.RX_TR_FREQ_FREQ]⟩,
  ⟨0x0034, 1, 4, .block, [R.RX_TR_PHASE_ERR_RMS]⟩,
  ⟨0x0038, 1, 4, .block, [R.RX_LOCK_CFG_UNLOCK_TH, R.RX_LOCK_CFG_LOCK_TH, R.RX_LOCK_CFG_LOCK_TIME, R.RX_LOCK_CFG_UNLOCK_TIME]⟩,
  ⟨0x003C, 1, 4, .block, [R.RX_CAL_CTRL_CAL_LEN, R.RX_CAL_CTRL_OFS_MU, R.RX_CAL_CTRL_GAIN_MU, R.RX_CAL_CTRL_BG_EN, R.RX_CAL_CTRL_FREEZE_SKEW, R.RX_CAL_CTRL_FREEZE_GAIN, R.RX_CAL_CTRL_FREEZE_OFS]⟩,
  ⟨0x0040, 1, 4, .block, [R.RX_CAL_STATUS_LIMIT_IDX, R.RX_CAL_STATUS_LIMIT_KIND, R.RX_CAL_STATUS_LIMIT, R.RX_CAL_STATUS_ROUNDS]⟩,
  ⟨0x0044, 1, 4, .block, [R.RX_TRIM_SEL_INDEX]⟩,
  ⟨0x0048, 1, 4, .chip, [R.RX_TRIM_DATA_OFS, R.RX_TRIM_DATA_GAIN, R.RX_TRIM_DATA_SKEW]⟩,
  ⟨0x004C, 1, 4, .block, [R.RX_LEVEL_SWING, R.RX_LEVEL_RMS]⟩,
  ⟨0x0050, 1, 4, .block, [R.RX_CNT_LOS, R.RX_CNT_UNLOCK]⟩,
  ⟨0x0054, 1, 4, .block, [R.RX_CNT_CLIP_CLIP]⟩,
  ⟨0x0058, 1, 4, .block, [R.RX_INJECT_INJ_CAL, R.RX_INJECT_INJ_UNLOCK, R.RX_INJECT_INJ_LOS]⟩]

/-! EQ_CTRL (spec/04_equalisation.md): LANE[n].EQ.CTRL — offset 0x1000, reset BLOCK, domain LSnn -/
def R.EQ_CTRL_FREEZE : Fld := ⟨0x1000, 31, 31, .rw, 0x0⟩
def R.EQ_CTRL_MIRROR_EN : Fld := ⟨0x1000, 30, 28, .st, 0x0⟩
def R.EQ_CTRL_ACT_BANK : Fld := ⟨0x1000, 24, 24, .st, 0x0⟩
def R.EQ_CTRL_XF_LEN : Fld := ⟨0x1000, 23, 20, .st, 0x6⟩
def R.EQ_CTRL_CURSOR : Fld := ⟨0x1000, 13, 8, .st, 0x8⟩
def R.EQ_CTRL_PRECODE : Fld := ⟨0x1000, 2, 2, .st, 0x0⟩
def R.EQ_CTRL_TRELLIS_EN : Fld := ⟨0x1000, 1, 1, .st, 0x0⟩
def R.EQ_CTRL_DFE_EN : Fld := ⟨0x1000, 0, 0, .st, 0x1⟩
/-! EQ_STATUS (spec/04_equalisation.md): LANE[n].EQ.STATUS — offset 0x1004, reset BLOCK, domain LSnn -/
def R.EQ_STATUS_ALARM_CAUSE : Fld := ⟨0x1004, 12, 10, .ro, 0x0⟩
def R.EQ_STATUS_ALARM : Fld := ⟨0x1004, 9, 9, .w1c, 0x0⟩
def R.EQ_STATUS_MSE_HIGH : Fld := ⟨0x1004, 8, 8, .ro, 0x0⟩
def R.EQ_STATUS_THROTTLED : Fld := ⟨0x1004, 5, 5, .ro, 0x0⟩
def R.EQ_STATUS_STATES_ACT : Fld := ⟨0x1004, 4, 4, .ro, 0x0⟩
def R.EQ_STATUS_LOAD_BUSY : Fld := ⟨0x1004, 3, 3, .ro, 0x0⟩
def R.EQ_STATUS_XF_BUSY : Fld := ⟨0x1004, 2, 2, .ro, 0x0⟩
def R.EQ_STATUS_STAT_BUSY : Fld := ⟨0x1004, 1, 1, .ro, 0x0⟩
def R.EQ_STATUS_BANK_ACT : Fld := ⟨0x1004, 0, 0, .ro, 0x0⟩
/-! EQ_SLICER (spec/04_equalisation.md): LANE[n].EQ.SLICER — offset 0x1008, reset BLOCK, domain LSnn -/
def R.EQ_SLICER_AMP : Fld := ⟨0x1008, 11, 0, .st, 0x160⟩
/-! EQ_FB (spec/04_equalisation.md): LANE[n].EQ.FB — offset 0x100C, reset BLOCK, domain LSnn -/
def R.EQ_FB_H2 : Fld := ⟨0x100C, 31, 24, .st, 0x0⟩
def R.EQ_FB_H1 : Fld := ⟨0x100C, 23, 16, .st, 0x0⟩
def R.EQ_FB_D1 : Fld := ⟨0x100C, 9, 0, .st, 0x0⟩
/-! EQ_TRELLIS (spec/04_equalisation.md): LANE[n].EQ.TRELLIS — offset 0x1010, reset BLOCK, domain LSnn -/
def R.EQ_TRELLIS_SOFT_SCALE : Fld := ⟨0x1010, 15, 8, .rw, 0x10⟩
def R.EQ_TRELLIS_TB : Fld := ⟨0x1010, 1, 1, .st, 0x1⟩
def R.EQ_TRELLIS_FORCE4 : Fld := ⟨0x1010, 0, 0, .st, 0x0⟩
/-! EQ_COEF_SEL (spec/04_equalisation.md): LANE[n].EQ.COEF_SEL — offset 0x1014, reset BLOCK, domain LSnn -/
def R.EQ_COEF_SEL_AUTO_INC : Fld := ⟨0x1014, 9, 9, .rw, 0x1⟩
def R.EQ_COEF_SEL_BANK : Fld := ⟨0x1014, 8, 8, .rw, 0x0⟩
def R.EQ_COEF_SEL_SET : Fld := ⟨0x1014, 7, 6, .rw, 0x0⟩
def R.EQ_COEF_SEL_INDEX : Fld := ⟨0x1014, 5, 0, .rw, 0x0⟩
/-! EQ_COEF_DATA (spec/04_equalisation.md): LANE[n].EQ.COEF_DATA — offset 0x1018, reset BLOCK, domain LSnn -/
def R.EQ_COEF_DATA_HIGH : Fld := ⟨0x1018, 27, 16, .rw, 0x0⟩
def R.EQ_COEF_DATA_LOW : Fld := ⟨0x1018, 14, 0, .rw, 0x0⟩
/-! EQ_LOAD (spec/04_equalisation.md): LANE[n].EQ.LOAD — offset 0x101C, reset BLOCK, domain LSnn -/
def R.EQ_LOAD_START : Fld := ⟨0x101C, 31, 31, .wo, 0x0⟩
def R.EQ_LOAD_BUSY : Fld := ⟨0x101C, 30, 30, .ro, 0x0⟩
def R.EQ_LOAD_PARTS : Fld := ⟨0x101C, 17, 16, .rw, 0x3⟩
def R.EQ_LOAD_SRC : Fld := ⟨0x101C, 15, 9, .rw, 0x0⟩
def R.EQ_LOAD_BANK : Fld := ⟨0x101C, 8, 8, .rw, 0x0⟩
/-! EQ_STAT_CTRL (spec/04_equalisation.md): LANE[n].EQ.STAT_CTRL — offset 0x1020, reset BLOCK, domain LSnn -/
def R.EQ_STAT_CTRL_START : Fld := ⟨0x1020, 31, 31, .wo, 0x0⟩
def R.EQ_STAT_CTRL_CONT : Fld := ⟨0x1020, 30, 30, .rw, 0x0⟩
def R.EQ_STAT_CTRL_KIND : Fld := ⟨0x1020, 29, 28, .rw, 0x0⟩
def R.EQ_STAT_CTRL_BLK : Fld := ⟨0x1020, 23, 20, .rw, 0x6⟩
def R.EQ_STAT_CTRL_DEST : Fld := ⟨0x1020, 15, 11, .rw, 0x0⟩
def R.EQ_STAT_CTRL_SEQ : Fld := ⟨0x1020, 7, 0, .ro, 0x0⟩
/-! EQ_SCAN (spec/04_equalisation.md): LANE[n].EQ.SCAN — offset 0x1024, reset BLOCK, domain LSnn -/
def R.EQ_SCAN_START_DLY : Fld := ⟨0x1024, 14, 0, .rw, 0x40⟩
/-! EQ_MSE (spec/04_equalisation.md): LANE[n].EQ.MSE — offset 0x1028, reset BLOCK, domain LSnn -/
def R.EQ_MSE_MSE : Fld := ⟨0x1028, 15, 0, .ro, 0x0⟩
/-! EQ_MSE_CFG (spec/04_equalisation.md): LANE[n].EQ.MSE_CFG — offset 0x102C, reset BLOCK, domain LSnn -/
def R.EQ_MSE_CFG_MSE_HI : Fld := ⟨0x102C, 31, 16, .rw, 0x640⟩
def R.EQ_MSE_CFG_MSE_LO : Fld := ⟨0x102C, 15, 0, .rw, 0x400⟩
/-! EQ_CNT (spec/04_equalisation.md): LANE[n].EQ.CNT — offset 0x1030, reset BLOCK, domain LSnn -/
def R.EQ_CNT_REFUSED : Fld := ⟨0x1030, 31, 16, .rc, 0x0⟩
def R.EQ_CNT_FADES : Fld := ⟨0x1030, 15, 0, .rc, 0x0⟩
/-! EQ_INJECT (spec/04_equalisation.md): LANE[n].EQ.INJECT — offset 0x1034, reset BLOCK, domain LSnn -/
def R.EQ_INJECT_INJ_ALARM : Fld := ⟨0x1034, 1, 1, .wo, 0x0⟩
def R.EQ_INJECT_INJ_MSE : Fld := ⟨0x1034, 0, 0, .wo, 0x0⟩
/-! EQ_THR (spec/04_equalisation.md): LANE[n].EQ.THR — offset 0x1038, reset BLOCK, domain LSnn -/
def R.EQ_THR_THR_HI : Fld := ⟨0x1038, 23, 16, .st, 0x0⟩
def R.EQ_THR_THR_MID : Fld := ⟨0x1038, 15, 8, .st, 0x0⟩
def R.EQ_THR_THR_LO : Fld := ⟨0x1038, 7, 0, .st, 0x0⟩
/-- The registers of LANE_EQ. -/
def regsLaneEQ : List RegD := [
  ⟨0x1000, 1, 4, .block, [R.EQ_CTRL_FREEZE, R.EQ_CTRL_MIRROR_EN, R.EQ_CTRL_ACT_BANK, R.EQ_CTRL_XF_LEN, R.EQ_CTRL_CURSOR, R.EQ_CTRL_PRECODE, R.EQ_CTRL_TRELLIS_EN, R.EQ_CTRL_DFE_EN]⟩,
  ⟨0x1004, 1, 4, .block, [R.EQ_STATUS_ALARM_CAUSE, R.EQ_STATUS_ALARM, R.EQ_STATUS_MSE_HIGH, R.EQ_STATUS_THROTTLED, R.EQ_STATUS_STATES_ACT, R.EQ_STATUS_LOAD_BUSY, R.EQ_STATUS_XF_BUSY, R.EQ_STATUS_STAT_BUSY, R.EQ_STATUS_BANK_ACT]⟩,
  ⟨0x1008, 1, 4, .block, [R.EQ_SLICER_AMP]⟩,
  ⟨0x100C, 1, 4, .block, [R.EQ_FB_H2, R.EQ_FB_H1, R.EQ_FB_D1]⟩,
  ⟨0x1010, 1, 4, .block, [R.EQ_TRELLIS_SOFT_SCALE, R.EQ_TRELLIS_TB, R.EQ_TRELLIS_FORCE4]⟩,
  ⟨0x1014, 1, 4, .block, [R.EQ_COEF_SEL_AUTO_INC, R.EQ_COEF_SEL_BANK, R.EQ_COEF_SEL_SET, R.EQ_COEF_SEL_INDEX]⟩,
  ⟨0x1018, 1, 4, .block, [R.EQ_COEF_DATA_HIGH, R.EQ_COEF_DATA_LOW]⟩,
  ⟨0x101C, 1, 4, .block, [R.EQ_LOAD_START, R.EQ_LOAD_BUSY, R.EQ_LOAD_PARTS, R.EQ_LOAD_SRC, R.EQ_LOAD_BANK]⟩,
  ⟨0x1020, 1, 4, .block, [R.EQ_STAT_CTRL_START, R.EQ_STAT_CTRL_CONT, R.EQ_STAT_CTRL_KIND, R.EQ_STAT_CTRL_BLK, R.EQ_STAT_CTRL_DEST, R.EQ_STAT_CTRL_SEQ]⟩,
  ⟨0x1024, 1, 4, .block, [R.EQ_SCAN_START_DLY]⟩,
  ⟨0x1028, 1, 4, .block, [R.EQ_MSE_MSE]⟩,
  ⟨0x102C, 1, 4, .block, [R.EQ_MSE_CFG_MSE_HI, R.EQ_MSE_CFG_MSE_LO]⟩,
  ⟨0x1030, 1, 4, .block, [R.EQ_CNT_REFUSED, R.EQ_CNT_FADES]⟩,
  ⟨0x1034, 1, 4, .block, [R.EQ_INJECT_INJ_ALARM, R.EQ_INJECT_INJ_MSE]⟩,
  ⟨0x1038, 1, 4, .block, [R.EQ_THR_THR_HI, R.EQ_THR_THR_MID, R.EQ_THR_THR_LO]⟩]

/-! TX_CTRL (spec/05_transmit_path.md): LANE[n].TX.CTRL — offset 0x2000, reset BLOCK, domain LSnn -/
def R.TX_CTRL_ACT_BANK : Fld := ⟨0x2000, 24, 24, .st, 0x0⟩
def R.TX_CTRL_XF_LEN : Fld := ⟨0x2000, 23, 20, .st, 0x6⟩
def R.TX_CTRL_CURSOR : Fld := ⟨0x2000, 15, 12, .st, 0x2⟩
def R.TX_CTRL_EDGE : Fld := ⟨0x2000, 8, 8, .st, 0x0⟩
def R.TX_CTRL_PRECODE : Fld := ⟨0x2000, 7, 7, .st, 0x0⟩
def R.TX_CTRL_POLARITY : Fld := ⟨0x2000, 6, 6, .st, 0x0⟩
def R.TX_CTRL_MODE : Fld := ⟨0x2000, 5, 3, .st, 0x0⟩
def R.TX_CTRL_ENABLE : Fld := ⟨0x2000, 0, 0, .rw, 0x0⟩
/-! TX_STATUS (spec/05_transmit_path.md): LANE[n].TX.STATUS — offset 0x2004, reset BLOCK, domain LSnn -/
def R.TX_STATUS_SRC_ACT : Fld := ⟨0x2004, 21, 19, .ro, 0x0⟩
def R.TX_STATUS_MODE_ACT : Fld := ⟨0x2004, 18, 16, .ro, 0x0⟩
def R.TX_STATUS_ALARM_CAUSE : Fld := ⟨0x2004, 15, 13, .ro, 0x0⟩
def R.TX_STATUS_ALARM : Fld := ⟨0x2004, 12, 12, .w1c, 0x0⟩
def R.TX_STATUS_LOOP_HOLD : Fld := ⟨0x2004, 11, 11, .ro, 0x0⟩
def R.TX_STATUS_PEND : Fld := ⟨0x2004, 10, 10, .ro, 0x0⟩
def R.TX_STATUS_XF_BUSY : Fld := ⟨0x2004, 9, 9, .ro, 0x0⟩
def R.TX_STATUS_BANK_ACT : Fld := ⟨0x2004, 8, 8, .ro, 0x0⟩
def R.TX_STATUS_STATE : Fld := ⟨0x2004, 1, 0, .ro, 0x0⟩
/-! TX_SRC (spec/05_transmit_path.md): LANE[n].TX.SRC — offset 0x2008, reset BLOCK, domain LSnn -/
def R.TX_SRC_FILL : Fld := ⟨0x2008, 31, 24, .st, 0x0⟩
def R.TX_SRC_HAZE_LANE : Fld := ⟨0x2008, 13, 8, .st, 0x0⟩
def R.TX_SRC_SRC : Fld := ⟨0x2008, 2, 0, .st, 0x0⟩
/-! TX_LEVEL (spec/05_transmit_path.md): LANE[n].TX.LEVEL — offset 0x200C, reset BLOCK, domain LSnn -/
def R.TX_LEVEL_LVL3 : Fld := ⟨0x200C, 31, 24, .st, 0x78⟩
def R.TX_LEVEL_LVL2 : Fld := ⟨0x200C, 23, 16, .st, 0x28⟩
def R.TX_LEVEL_LVL1 : Fld := ⟨0x200C, 15, 8, .st, 0xD8⟩
def R.TX_LEVEL_LVL0 : Fld := ⟨0x200C, 7, 0, .st, 0x88⟩
/-! TX_SWING (spec/05_transmit_path.md): LANE[n].TX.SWING — offset 0x2010, reset BLOCK, domain LSnn -/
def R.TX_SWING_STEP : Fld := ⟨0x2010, 4, 0, .st, 0x8⟩
/-! TX_SWING_SEL (spec/05_transmit_path.md): LANE[n].TX.SWING_SEL — offset 0x2014, reset BLOCK, domain LSnn -/
def R.TX_SWING_SEL_INDEX : Fld := ⟨0x2014, 4, 0, .rw, 0x0⟩
/-! TX_SWING_DATA (spec/05_transmit_path.md): LANE[n].TX.SWING_DATA — offset 0x2018, reset CHIP, domain LSnn -/
def R.TX_SWING_DATA_FS : Fld := ⟨0x2018, 25, 16, .rw, 0x0⟩
def R.TX_SWING_DATA_PREDRV : Fld := ⟨0x2018, 11, 8, .rw, 0x8⟩
def R.TX_SWING_DATA_CMTRIM : Fld := ⟨0x2018, 5, 0, .rw, 0x0⟩
/-! TX_COEF_SEL (spec/05_transmit_path.md): LANE[n].TX.COEF_SEL — offset 0x201C, reset BLOCK, domain LSnn -/
def R.TX_COEF_SEL_AUTO_INC : Fld := ⟨0x201C, 9, 9, .rw, 0x1⟩
def R.TX_COEF_SEL_BANK : Fld := ⟨0x201C, 8, 8, .rw, 0x0⟩
def R.TX_COEF_SEL_INDEX : Fld := ⟨0x201C, 3, 0, .rw, 0x0⟩
/-! TX_COEF_DATA (spec/05_transmit_path.md): LANE[n].TX.COEF_DATA — offset 0x2020, reset BLOCK, domain LSnn -/
def R.TX_COEF_DATA_TAP : Fld := ⟨0x2020, 9, 0, .rw, 0x0⟩
/-! TX_PI (spec/05_transmit_path.md): LANE[n].TX.PI — offset 0x2024, reset BLOCK, domain LSnn -/
def R.TX_PI_PHASE : Fld := ⟨0x2024, 31, 24, .st, 0x0⟩
def R.TX_PI_LOOP_LANE : Fld := ⟨0x2024, 13, 8, .st, 0x0⟩
def R.TX_PI_TIMING : Fld := ⟨0x2024, 1, 0, .st, 0x0⟩
/-! TX_PI_PPM (spec/05_transmit_path.md): LANE[n].TX.PI_PPM — offset 0x2028, reset BLOCK, domain LSnn -/
def R.TX_PI_PPM_PPM : Fld := ⟨0x2028, 19, 0, .st, 0x0⟩
/-! TX_PI_FREQ (spec/05_transmit_path.md): LANE[n].TX.PI_FREQ — offset 0x202C, reset BLOCK, domain LSnn -/
def R.TX_PI_FREQ_FREQ : Fld := ⟨0x202C, 19, 0, .ro, 0x0⟩
/-! TX_PEND_SLIP (spec/05_transmit_path.md): LANE[n].TX.PEND_SLIP — offset 0x2030, reset BLOCK, domain LSnn -/
def R.TX_PEND_SLIP_SLIP : Fld := ⟨0x2030, 31, 0, .ro, 0x0⟩
/-! TX_CNT (spec/05_transmit_path.md): LANE[n].TX.CNT — offset 0x2034, reset BLOCK, domain LSnn -/
def R.TX_CNT_SLIPPED : Fld := ⟨0x2034, 31, 16, .rc, 0x0⟩
def R.TX_CNT_TIMEOUT : Fld := ⟨0x2034, 15, 8, .rc, 0x0⟩
def R.TX_CNT_MERGED : Fld := ⟨0x2034, 7, 0, .rc, 0x0⟩
/-! TX_CNT_UNDER (spec/05_transmit_path.md): LANE[n].TX.CNT_UNDER — offset 0x2038, reset BLOCK, domain LSnn -/
def R.TX_CNT_UNDER_UNDER : Fld := ⟨0x2038, 31, 0, .rc, 0x0⟩
/-! TX_CNT_CLIP (spec/05_transmit_path.md): LANE[n].TX.CNT_CLIP — offset 0x203C, reset BLOCK, domain LSnn -/
def R.TX_CNT_CLIP_REFUSED : Fld := ⟨0x203C, 31, 24, .rc, 0x0⟩
def R.TX_CNT_CLIP_NRZ_BAD : Fld := ⟨0x203C, 23, 16, .rc, 0x0⟩
def R.TX_CNT_CLIP_CLIP : Fld := ⟨0x203C, 15, 0, .rc, 0x0⟩
/-! TX_INJECT (spec/05_transmit_path.md): LANE[n].TX.INJECT — offset 0x2040, reset BLOCK, domain LSnn -/
def R.TX_INJECT_INJ_ALARM : Fld := ⟨0x2040, 0, 0, .wo, 0x0⟩
/-- The registers of LANE_TX. -/
def regsLaneTX : List RegD := [
  ⟨0x2000, 1, 4, .block, [R.TX_CTRL_ACT_BANK, R.TX_CTRL_XF_LEN, R.TX_CTRL_CURSOR, R.TX_CTRL_EDGE, R.TX_CTRL_PRECODE, R.TX_CTRL_POLARITY, R.TX_CTRL_MODE, R.TX_CTRL_ENABLE]⟩,
  ⟨0x2004, 1, 4, .block, [R.TX_STATUS_SRC_ACT, R.TX_STATUS_MODE_ACT, R.TX_STATUS_ALARM_CAUSE, R.TX_STATUS_ALARM, R.TX_STATUS_LOOP_HOLD, R.TX_STATUS_PEND, R.TX_STATUS_XF_BUSY, R.TX_STATUS_BANK_ACT, R.TX_STATUS_STATE]⟩,
  ⟨0x2008, 1, 4, .block, [R.TX_SRC_FILL, R.TX_SRC_HAZE_LANE, R.TX_SRC_SRC]⟩,
  ⟨0x200C, 1, 4, .block, [R.TX_LEVEL_LVL3, R.TX_LEVEL_LVL2, R.TX_LEVEL_LVL1, R.TX_LEVEL_LVL0]⟩,
  ⟨0x2010, 1, 4, .block, [R.TX_SWING_STEP]⟩,
  ⟨0x2014, 1, 4, .block, [R.TX_SWING_SEL_INDEX]⟩,
  ⟨0x2018, 1, 4, .chip, [R.TX_SWING_DATA_FS, R.TX_SWING_DATA_PREDRV, R.TX_SWING_DATA_CMTRIM]⟩,
  ⟨0x201C, 1, 4, .block, [R.TX_COEF_SEL_AUTO_INC, R.TX_COEF_SEL_BANK, R.TX_COEF_SEL_INDEX]⟩,
  ⟨0x2020, 1, 4, .block, [R.TX_COEF_DATA_TAP]⟩,
  ⟨0x2024, 1, 4, .block, [R.TX_PI_PHASE, R.TX_PI_LOOP_LANE, R.TX_PI_TIMING]⟩,
  ⟨0x2028, 1, 4, .block, [R.TX_PI_PPM_PPM]⟩,
  ⟨0x202C, 1, 4, .block, [R.TX_PI_FREQ_FREQ]⟩,
  ⟨0x2030, 1, 4, .block, [R.TX_PEND_SLIP_SLIP]⟩,
  ⟨0x2034, 1, 4, .block, [R.TX_CNT_SLIPPED, R.TX_CNT_TIMEOUT, R.TX_CNT_MERGED]⟩,
  ⟨0x2038, 1, 4, .block, [R.TX_CNT_UNDER_UNDER]⟩,
  ⟨0x203C, 1, 4, .block, [R.TX_CNT_CLIP_REFUSED, R.TX_CNT_CLIP_NRZ_BAD, R.TX_CNT_CLIP_CLIP]⟩,
  ⟨0x2040, 1, 4, .block, [R.TX_INJECT_INJ_ALARM]⟩]

/-! ACQ_SCOUT_CTRL (spec/07_acquisition_and_burst.md): LANE[n].ACQ.SCOUT_CTRL — offset 0x3000, reset BLOCK, domain LSnn -/
def R.ACQ_SCOUT_CTRL_RATE_TH : Fld := ⟨0x3000, 31, 24, .rw, 0x10⟩
def R.ACQ_SCOUT_CTRL_FRAME_TO : Fld := ⟨0x3000, 19, 16, .rw, 0x8⟩
def R.ACQ_SCOUT_CTRL_DWELL : Fld := ⟨0x3000, 11, 8, .rw, 0x6⟩
def R.ACQ_SCOUT_CTRL_AUTO_RAW : Fld := ⟨0x3000, 3, 3, .rw, 0x0⟩
def R.ACQ_SCOUT_CTRL_AUTO : Fld := ⟨0x3000, 2, 2, .rw, 0x0⟩
def R.ACQ_SCOUT_CTRL_CONT : Fld := ⟨0x3000, 1, 1, .rw, 0x1⟩
def R.ACQ_SCOUT_CTRL_EN : Fld := ⟨0x3000, 0, 0, .rw, 0x1⟩
/-! ACQ_CAND (spec/07_acquisition_and_burst.md): LANE[n].ACQ.CAND — offset 0x3004, reset BLOCK, domain LSnn -/
def R.ACQ_CAND_EN3 : Fld := ⟨0x3004, 27, 27, .rw, 0x1⟩
def R.ACQ_CAND_MODE3 : Fld := ⟨0x3004, 26, 24, .rw, 0x3⟩
def R.ACQ_CAND_EN2 : Fld := ⟨0x3004, 19, 19, .rw, 0x1⟩
def R.ACQ_CAND_MODE2 : Fld := ⟨0x3004, 18, 16, .rw, 0x2⟩
def R.ACQ_CAND_EN1 : Fld := ⟨0x3004, 11, 11, .rw, 0x1⟩
def R.ACQ_CAND_MODE1 : Fld := ⟨0x3004, 10, 8, .rw, 0x1⟩
def R.ACQ_CAND_EN0 : Fld := ⟨0x3004, 3, 3, .rw, 0x1⟩
def R.ACQ_CAND_MODE0 : Fld := ⟨0x3004, 2, 0, .rw, 0x0⟩
/-! ACQ_SCOUT_RES (spec/07_acquisition_and_burst.md): LANE[n].ACQ.SCOUT_RES[j], j = 0–3 — offset 0x3008 + 4 × j, reset BLOCK, domain LSnn -/
def R.ACQ_SCOUT_RES_FREQ : Fld := ⟨0x3008, 31, 16, .ro, 0x0⟩
def R.ACQ_SCOUT_RES_SCORE : Fld := ⟨0x3008, 15, 8, .ro, 0x0⟩
def R.ACQ_SCOUT_RES_PRECODE : Fld := ⟨0x3008, 6, 6, .ro, 0x0⟩
def R.ACQ_SCOUT_RES_POL : Fld := ⟨0x3008, 5, 5, .ro, 0x0⟩
def R.ACQ_SCOUT_RES_CODING : Fld := ⟨0x3008, 4, 3, .ro, 0x0⟩
def R.ACQ_SCOUT_RES_STAGE : Fld := ⟨0x3008, 2, 0, .ro, 0x0⟩
/-! ACQ_SCOUT_STATUS (spec/07_acquisition_and_burst.md): LANE[n].ACQ.SCOUT_STATUS — offset 0x3018, reset BLOCK, domain LSnn -/
def R.ACQ_SCOUT_STATUS_PASSES : Fld := ⟨0x3018, 31, 16, .ro, 0x0⟩
def R.ACQ_SCOUT_STATUS_AUTO_CNT : Fld := ⟨0x3018, 15, 8, .rc, 0x0⟩
def R.ACQ_SCOUT_STATUS_MISMATCH : Fld := ⟨0x3018, 4, 4, .ro, 0x0⟩
def R.ACQ_SCOUT_STATUS_BEST_VALID : Fld := ⟨0x3018, 3, 3, .ro, 0x0⟩
def R.ACQ_SCOUT_STATUS_BEST : Fld := ⟨0x3018, 1, 0, .ro, 0x0⟩
/-! ACQ_EVT (spec/07_acquisition_and_burst.md): LANE[n].ACQ.EVT — offset 0x301C, reset BLOCK, domain LSnn -/
def R.ACQ_EVT_WINDOW : Fld := ⟨0x301C, 5, 5, .w1c, 0x0⟩
def R.ACQ_EVT_DROP : Fld := ⟨0x301C, 4, 4, .w1c, 0x0⟩
def R.ACQ_EVT_CAPTURE : Fld := ⟨0x301C, 3, 3, .w1c, 0x0⟩
def R.ACQ_EVT_FALSE : Fld := ⟨0x301C, 2, 2, .w1c, 0x0⟩
def R.ACQ_EVT_MISMATCH : Fld := ⟨0x301C, 1, 1, .w1c, 0x0⟩
def R.ACQ_EVT_SCOUT : Fld := ⟨0x301C, 0, 0, .w1c, 0x0⟩
/-! ACQ_INJECT (spec/07_acquisition_and_burst.md): LANE[n].ACQ.INJECT — offset 0x3020, reset BLOCK, domain LSnn -/
def R.ACQ_INJECT_INJ_WINDOW : Fld := ⟨0x3020, 2, 2, .wo, 0x0⟩
def R.ACQ_INJECT_INJ_START : Fld := ⟨0x3020, 1, 1, .wo, 0x0⟩
def R.ACQ_INJECT_INJ_SCOUT : Fld := ⟨0x3020, 0, 0, .wo, 0x0⟩
/-! ACQ_BURST_CFG (spec/07_acquisition_and_burst.md): LANE[n].ACQ.BURST_CFG — offset 0x3040, reset BLOCK, domain LSnn -/
def R.ACQ_BURST_CFG_POLICY : Fld := ⟨0x3040, 24, 24, .rw, 0x0⟩
def R.ACQ_BURST_CFG_MARGIN : Fld := ⟨0x3040, 21, 16, .rw, 0x18⟩
def R.ACQ_BURST_CFG_BURST_GAIN : Fld := ⟨0x3040, 13, 8, .rw, 0xC⟩
def R.ACQ_BURST_CFG_GUARD : Fld := ⟨0x3040, 7, 0, .rw, 0x10⟩
/-! ACQ_BURST_DET (spec/07_acquisition_and_burst.md): LANE[n].ACQ.BURST_DET — offset 0x3044, reset BLOCK, domain LSnn -/
def R.ACQ_BURST_DET_ENERGY_TH : Fld := ⟨0x3044, 31, 24, .rw, 0x10⟩
def R.ACQ_BURST_DET_EWIN : Fld := ⟨0x3044, 19, 16, .rw, 0x2⟩
def R.ACQ_BURST_DET_START_TH : Fld := ⟨0x3044, 15, 8, .rw, 0xA0⟩
def R.ACQ_BURST_DET_END_WIN : Fld := ⟨0x3044, 7, 4, .rw, 0x4⟩
/-! ACQ_BURST_QUAL (spec/07_acquisition_and_burst.md): LANE[n].ACQ.BURST_QUAL — offset 0x3048, reset BLOCK, domain LSnn -/
def R.ACQ_BURST_QUAL_QUAL_TH : Fld := ⟨0x3048, 31, 24, .rw, 0xC8⟩
def R.ACQ_BURST_QUAL_QUAL_WIN : Fld := ⟨0x3048, 23, 16, .rw, 0x20⟩
/-! ACQ_PRE (spec/07_acquisition_and_burst.md): LANE[n].ACQ.PRE[j], j = 0–3 — offset 0x3050 + 4 × j; LANE[n].ACQ.DELIM[j], j = 0–1 — offset 0x3060 + 4 × j; reset BLOCK, domain LSnn -/
def R.ACQ_PRE_SYM : Fld := ⟨0x3050, 31, 0, .st, 0xCCCCCCCC⟩
def R.ACQ_DELIM_SYM : Fld := ⟨0x3060, 31, 0, .st, 0xF0F0F0F⟩
/-! ACQ_BURST_STAT (spec/07_acquisition_and_burst.md): LANE[n].ACQ.BURST_STAT — offset 0x3068, reset BLOCK, domain LSnn -/
def R.ACQ_BURST_STAT_UNSUPP : Fld := ⟨0x3068, 31, 31, .ro, 0x0⟩
def R.ACQ_BURST_STAT_LEVEL : Fld := ⟨0x3068, 23, 16, .ro, 0x0⟩
def R.ACQ_BURST_STAT_CAUSE1 : Fld := ⟨0x3068, 13, 11, .ro, 0x0⟩
def R.ACQ_BURST_STAT_CTX1 : Fld := ⟨0x3068, 10, 9, .ro, 0x0⟩
def R.ACQ_BURST_STAT_CAUSE0 : Fld := ⟨0x3068, 5, 3, .ro, 0x0⟩
def R.ACQ_BURST_STAT_CTX0 : Fld := ⟨0x3068, 2, 1, .ro, 0x0⟩
/-! ACQ_BURST_CNT (spec/07_acquisition_and_burst.md): LANE[n].ACQ.BURST_CNT — offset 0x306C; LANE[n].ACQ.BURST_CNT2 — offset 0x3070; reset BLOCK, domain LSnn -/
def R.ACQ_BURST_CNT_BURSTS : Fld := ⟨0x306C, 31, 16, .rc, 0x0⟩
def R.ACQ_BURST_CNT_FALSE : Fld := ⟨0x306C, 15, 8, .rc, 0x0⟩
def R.ACQ_BURST_CNT_DROP : Fld := ⟨0x306C, 7, 0, .rc, 0x0⟩
def R.ACQ_BURST_CNT2_WIN_MISS : Fld := ⟨0x3070, 23, 16, .rc, 0x0⟩
def R.ACQ_BURST_CNT2_CAP_KEPT : Fld := ⟨0x3070, 15, 8, .rc, 0x0⟩
def R.ACQ_BURST_CNT2_CAP_SW : Fld := ⟨0x3070, 7, 0, .rc, 0x0⟩
/-! ACQ_BURST_T_LO (spec/07_acquisition_and_burst.md): LANE[n].ACQ.BURST_T_LO — offset 0x3074; LANE[n].ACQ.BURST_T_HI — offset 0x3078; reset BLOCK, domain LSnn -/
def R.ACQ_BURST_T_LO_T : Fld := ⟨0x3074, 31, 0, .ro, 0x0⟩
def R.ACQ_BURST_T_HI_T : Fld := ⟨0x3078, 31, 0, .ro, 0x0⟩
/-! ACQ_BW_CTRL (spec/07_acquisition_and_burst.md): LANE[n].ACQ.BW_CTRL — offset 0x3080, reset BLOCK, domain LSnn -/
def R.ACQ_BW_CTRL_LEAD : Fld := ⟨0x3080, 31, 16, .st, 0x0⟩
def R.ACQ_BW_CTRL_TX_GATE : Fld := ⟨0x3080, 5, 5, .st, 0x0⟩
def R.ACQ_BW_CTRL_RX_GATE : Fld := ⟨0x3080, 4, 4, .st, 0x0⟩
def R.ACQ_BW_CTRL_WIN_EN : Fld := ⟨0x3080, 3, 0, .st, 0x0⟩
/-! ACQ_BW_BASE_LO (spec/07_acquisition_and_burst.md): LANE[n].ACQ.BW_BASE_LO — offset 0x3084; LANE[n].ACQ.BW_BASE_HI — offset 0x3088; LANE[n].ACQ.BW_PERIOD — offset 0x308C; reset BLOCK, domain LSnn -/
def R.ACQ_BW_BASE_LO_BASE : Fld := ⟨0x3084, 31, 0, .st, 0x0⟩
def R.ACQ_BW_BASE_HI_BASE : Fld := ⟨0x3088, 31, 0, .st, 0x0⟩
def R.ACQ_BW_PERIOD_PERIOD : Fld := ⟨0x308C, 31, 0, .st, 0x0⟩
/-! ACQ_BW_OFS (spec/07_acquisition_and_burst.md): LANE[n].ACQ.BW_OFS[j] — offset 0x3090 + 8 × j; LANE[n].ACQ.BW_LEN[j] — offset 0x3094 + 8 × j; j = 0–3; reset BLOCK, domain LSnn -/
def R.ACQ_BW_OFS_OFS : Fld := ⟨0x3090, 31, 0, .st, 0x0⟩
def R.ACQ_BW_LEN_DIR : Fld := ⟨0x3094, 31, 31, .st, 0x0⟩
def R.ACQ_BW_LEN_LEN : Fld := ⟨0x3094, 30, 0, .st, 0x0⟩
/-- The registers of LANE_ACQ. -/
def regsLaneACQ : List RegD := [
  ⟨0x3000, 1, 4, .block, [R.ACQ_SCOUT_CTRL_RATE_TH, R.ACQ_SCOUT_CTRL_FRAME_TO, R.ACQ_SCOUT_CTRL_DWELL, R.ACQ_SCOUT_CTRL_AUTO_RAW, R.ACQ_SCOUT_CTRL_AUTO, R.ACQ_SCOUT_CTRL_CONT, R.ACQ_SCOUT_CTRL_EN]⟩,
  ⟨0x3004, 1, 4, .block, [R.ACQ_CAND_EN3, R.ACQ_CAND_MODE3, R.ACQ_CAND_EN2, R.ACQ_CAND_MODE2, R.ACQ_CAND_EN1, R.ACQ_CAND_MODE1, R.ACQ_CAND_EN0, R.ACQ_CAND_MODE0]⟩,
  ⟨0x3008, 4, 4, .block, [R.ACQ_SCOUT_RES_FREQ, R.ACQ_SCOUT_RES_SCORE, R.ACQ_SCOUT_RES_PRECODE, R.ACQ_SCOUT_RES_POL, R.ACQ_SCOUT_RES_CODING, R.ACQ_SCOUT_RES_STAGE]⟩,
  ⟨0x3018, 1, 4, .block, [R.ACQ_SCOUT_STATUS_PASSES, R.ACQ_SCOUT_STATUS_AUTO_CNT, R.ACQ_SCOUT_STATUS_MISMATCH, R.ACQ_SCOUT_STATUS_BEST_VALID, R.ACQ_SCOUT_STATUS_BEST]⟩,
  ⟨0x301C, 1, 4, .block, [R.ACQ_EVT_WINDOW, R.ACQ_EVT_DROP, R.ACQ_EVT_CAPTURE, R.ACQ_EVT_FALSE, R.ACQ_EVT_MISMATCH, R.ACQ_EVT_SCOUT]⟩,
  ⟨0x3020, 1, 4, .block, [R.ACQ_INJECT_INJ_WINDOW, R.ACQ_INJECT_INJ_START, R.ACQ_INJECT_INJ_SCOUT]⟩,
  ⟨0x3040, 1, 4, .block, [R.ACQ_BURST_CFG_POLICY, R.ACQ_BURST_CFG_MARGIN, R.ACQ_BURST_CFG_BURST_GAIN, R.ACQ_BURST_CFG_GUARD]⟩,
  ⟨0x3044, 1, 4, .block, [R.ACQ_BURST_DET_ENERGY_TH, R.ACQ_BURST_DET_EWIN, R.ACQ_BURST_DET_START_TH, R.ACQ_BURST_DET_END_WIN]⟩,
  ⟨0x3048, 1, 4, .block, [R.ACQ_BURST_QUAL_QUAL_TH, R.ACQ_BURST_QUAL_QUAL_WIN]⟩,
  ⟨0x3050, 4, 4, .block, [R.ACQ_PRE_SYM]⟩,
  ⟨0x3060, 2, 4, .block, [R.ACQ_DELIM_SYM]⟩,
  ⟨0x3068, 1, 4, .block, [R.ACQ_BURST_STAT_UNSUPP, R.ACQ_BURST_STAT_LEVEL, R.ACQ_BURST_STAT_CAUSE1, R.ACQ_BURST_STAT_CTX1, R.ACQ_BURST_STAT_CAUSE0, R.ACQ_BURST_STAT_CTX0]⟩,
  ⟨0x306C, 1, 4, .block, [R.ACQ_BURST_CNT_BURSTS, R.ACQ_BURST_CNT_FALSE, R.ACQ_BURST_CNT_DROP]⟩,
  ⟨0x3070, 1, 4, .block, [R.ACQ_BURST_CNT2_WIN_MISS, R.ACQ_BURST_CNT2_CAP_KEPT, R.ACQ_BURST_CNT2_CAP_SW]⟩,
  ⟨0x3074, 1, 4, .block, [R.ACQ_BURST_T_LO_T]⟩,
  ⟨0x3078, 1, 4, .block, [R.ACQ_BURST_T_HI_T]⟩,
  ⟨0x3080, 1, 4, .block, [R.ACQ_BW_CTRL_LEAD, R.ACQ_BW_CTRL_TX_GATE, R.ACQ_BW_CTRL_RX_GATE, R.ACQ_BW_CTRL_WIN_EN]⟩,
  ⟨0x3084, 1, 4, .block, [R.ACQ_BW_BASE_LO_BASE]⟩,
  ⟨0x3088, 1, 4, .block, [R.ACQ_BW_BASE_HI_BASE]⟩,
  ⟨0x308C, 1, 4, .block, [R.ACQ_BW_PERIOD_PERIOD]⟩,
  ⟨0x3090, 4, 8, .block, [R.ACQ_BW_OFS_OFS]⟩,
  ⟨0x3094, 4, 8, .block, [R.ACQ_BW_LEN_DIR, R.ACQ_BW_LEN_LEN]⟩]

/-! FEC_CTRL (spec/08_fec_pcs_patterns.md): LANE[n].FEC.CTRL — offset 0x4000, reset BLOCK, domain LSnn -/
def R.FEC_CTRL_SNAP : Fld := ⟨0x4000, 31, 31, .wo, 0x0⟩
def R.FEC_CTRL_HIST_SRC : Fld := ⟨0x4000, 8, 8, .rw, 0x0⟩
def R.FEC_CTRL_RS_ERASE : Fld := ⟨0x4000, 4, 4, .st, 0x1⟩
def R.FEC_CTRL_INNER_L : Fld := ⟨0x4000, 1, 0, .st, 0x2⟩
/-! FEC_STATUS (spec/08_fec_pcs_patterns.md): LANE[n].FEC.STATUS — offset 0x4004, reset BLOCK, domain LSnn -/
def R.FEC_STATUS_SNAP_SEQ : Fld := ⟨0x4004, 31, 24, .ro, 0x0⟩
def R.FEC_STATUS_SNAP_BUSY : Fld := ⟨0x4004, 2, 2, .ro, 0x0⟩
def R.FEC_STATUS_INNER_LOCK : Fld := ⟨0x4004, 1, 1, .ro, 0x0⟩
def R.FEC_STATUS_IN_GROUP : Fld := ⟨0x4004, 0, 0, .ro, 0x0⟩
/-! FEC_CW_LO (spec/08_fec_pcs_patterns.md): LANE[n].FEC.CW_LO — offset 0x4008; LANE[n].FEC.CW_HI — offset 0x400C; reset BLOCK, domain LSnn -/
def R.FEC_CW_LO_CW : Fld := ⟨0x4008, 31, 0, .ro, 0x0⟩
def R.FEC_CW_HI_CW : Fld := ⟨0x400C, 15, 0, .ro, 0x0⟩
/-! FEC_SYM (spec/08_fec_pcs_patterns.md): LANE[n].FEC.SYM — offset 0x4010; FEC.BIT — offset 0x4014; FEC.UNCORR — offset 0x4018; FEC.INNER — offset 0x401C; reset BLOCK, domain LSnn -/
def R.FEC_SYM_SYM : Fld := ⟨0x4010, 31, 0, .ro, 0x0⟩
def R.FEC_BIT_BIT : Fld := ⟨0x4014, 31, 0, .ro, 0x0⟩
def R.FEC_UNCORR_UNCORR : Fld := ⟨0x4018, 31, 0, .ro, 0x0⟩
def R.FEC_INNER_INNER_DET : Fld := ⟨0x401C, 31, 16, .ro, 0x0⟩
def R.FEC_INNER_INNER_COR : Fld := ⟨0x401C, 15, 0, .ro, 0x0⟩
/-! FEC_HIST (spec/08_fec_pcs_patterns.md): LANE[n].FEC.HIST[b], b = 0–16 — offset 0x4020 + 4 × b, reset BLOCK, domain LSnn -/
def R.FEC_HIST_COUNT : Fld := ⟨0x4020, 31, 0, .ro, 0x0⟩
/-! FEC_TX_INJ (spec/08_fec_pcs_patterns.md): LANE[n].FEC.TX_INJ — offset 0x4064, reset BLOCK, domain LSnn -/
def R.FEC_TX_INJ_MASK : Fld := ⟨0x4064, 31, 22, .rw, 0x0⟩
def R.FEC_TX_INJ_EVERY : Fld := ⟨0x4064, 21, 16, .rw, 0x0⟩
def R.FEC_TX_INJ_POS : Fld := ⟨0x4064, 15, 5, .rw, 0x0⟩
def R.FEC_TX_INJ_WEIGHT : Fld := ⟨0x4064, 4, 0, .rw, 0x0⟩
/-! FEC_EVT (spec/08_fec_pcs_patterns.md): LANE[n].FEC.EVT — offset 0x4068, reset BLOCK, domain LSnn -/
def R.FEC_EVT_REFUSED : Fld := ⟨0x4068, 3, 3, .w1c, 0x0⟩
def R.FEC_EVT_PC_LOCK : Fld := ⟨0x4068, 2, 2, .w1c, 0x0⟩
def R.FEC_EVT_INNER : Fld := ⟨0x4068, 1, 1, .w1c, 0x0⟩
def R.FEC_EVT_UNCORR : Fld := ⟨0x4068, 0, 0, .w1c, 0x0⟩
/-! FEC_INJECT (spec/08_fec_pcs_patterns.md): LANE[n].FEC.INJECT — offset 0x406C, reset BLOCK, domain LSnn -/
def R.FEC_INJECT_INJ_INNER : Fld := ⟨0x406C, 2, 2, .wo, 0x0⟩
def R.FEC_INJECT_INJ_PCLOSS : Fld := ⟨0x406C, 1, 1, .wo, 0x0⟩
def R.FEC_INJECT_INJ_UNCORR : Fld := ⟨0x406C, 0, 0, .wo, 0x0⟩
/-! FEC_PG (spec/08_fec_pcs_patterns.md): LANE[n].FEC.PG — offset 0x4080, reset BLOCK, domain LSnn -/
def R.FEC_PG_USER_LEN : Fld := ⟨0x4080, 29, 16, .st, 0x0⟩
def R.FEC_PG_RUN : Fld := ⟨0x4080, 13, 8, .st, 0x1⟩
def R.FEC_PG_PG_INV : Fld := ⟨0x4080, 4, 4, .st, 0x0⟩
def R.FEC_PG_PG_TYPE : Fld := ⟨0x4080, 3, 0, .st, 0x0⟩
/-! FEC_PG_SEED (spec/08_fec_pcs_patterns.md): LANE[n].FEC.PG_SEED — offset 0x4084, reset BLOCK, domain LSnn -/
def R.FEC_PG_SEED_SEED : Fld := ⟨0x4084, 31, 0, .st, 0xFFFFFFFF⟩
/-! FEC_PG_ERR (spec/08_fec_pcs_patterns.md): LANE[n].FEC.PG_ERR — offset 0x4088, reset BLOCK, domain LSnn -/
def R.FEC_PG_ERR_ONE : Fld := ⟨0x4088, 31, 31, .wo, 0x0⟩
def R.FEC_PG_ERR_EXP : Fld := ⟨0x4088, 21, 16, .rw, 0x10⟩
def R.FEC_PG_ERR_BURST : Fld := ⟨0x4088, 15, 8, .rw, 0x1⟩
def R.FEC_PG_ERR_MODE : Fld := ⟨0x4088, 1, 0, .rw, 0x0⟩
/-! FEC_PG_CNT (spec/08_fec_pcs_patterns.md): LANE[n].FEC.PG_CNT — offset 0x408C, reset BLOCK, domain LSnn -/
def R.FEC_PG_CNT_INJ_CNT : Fld := ⟨0x408C, 31, 0, .rc, 0x0⟩
/-! FEC_PC (spec/08_fec_pcs_patterns.md): LANE[n].FEC.PC — offset 0x4090, reset BLOCK, domain LSnn -/
def R.FEC_PC_LOSS_TH : Fld := ⟨0x4090, 31, 16, .st, 0x80⟩
def R.FEC_PC_LOCK_N : Fld := ⟨0x4090, 15, 8, .st, 0x40⟩
def R.FEC_PC_PC_INV : Fld := ⟨0x4090, 4, 4, .st, 0x0⟩
def R.FEC_PC_PC_TYPE : Fld := ⟨0x4090, 3, 0, .st, 0x0⟩
/-! FEC_PC_STATUS (spec/08_fec_pcs_patterns.md): LANE[n].FEC.PC_STATUS — offset 0x4094, reset BLOCK, domain LSnn -/
def R.FEC_PC_STATUS_LOSS : Fld := ⟨0x4094, 31, 16, .rc, 0x0⟩
def R.FEC_PC_STATUS_STATE : Fld := ⟨0x4094, 1, 0, .ro, 0x0⟩
/-! FEC_PC_BITS_LO (spec/08_fec_pcs_patterns.md): LANE[n].FEC.PC_BITS_LO — offset 0x4098; FEC.PC_BITS_HI — offset 0x409C; FEC.PC_ERR_BITS — offset 0x40A0; FEC.PC_ERR_SYM — offset 0x40A4; reset BLOCK,  -/
def R.FEC_PC_BITS_LO_BITS : Fld := ⟨0x4098, 31, 0, .rc, 0x0⟩
def R.FEC_PC_BITS_HI_BITS : Fld := ⟨0x409C, 15, 0, .rc, 0x0⟩
def R.FEC_PC_ERR_BITS_ERR_BITS : Fld := ⟨0x40A0, 31, 0, .rc, 0x0⟩
def R.FEC_PC_ERR_SYM_ERR_SYM : Fld := ⟨0x40A4, 31, 0, .rc, 0x0⟩
/-! FEC_UP_SEL (spec/08_fec_pcs_patterns.md): LANE[n].FEC.UP_SEL — offset 0x40A8; FEC.UP_DATA — offset 0x40AC; reset BLOCK (SEL) and CHIP (DATA), domain LSnn -/
def R.FEC_UP_SEL_AUTO_INC : Fld := ⟨0x40A8, 9, 9, .rw, 0x1⟩
def R.FEC_UP_SEL_INDEX : Fld := ⟨0x40A8, 8, 0, .rw, 0x0⟩
def R.FEC_UP_DATA_SYM : Fld := ⟨0x40AC, 31, 0, .rw, 0x0⟩
/-- The registers of LANE_FEC. -/
def regsLaneFEC : List RegD := [
  ⟨0x4000, 1, 4, .block, [R.FEC_CTRL_SNAP, R.FEC_CTRL_HIST_SRC, R.FEC_CTRL_RS_ERASE, R.FEC_CTRL_INNER_L]⟩,
  ⟨0x4004, 1, 4, .block, [R.FEC_STATUS_SNAP_SEQ, R.FEC_STATUS_SNAP_BUSY, R.FEC_STATUS_INNER_LOCK, R.FEC_STATUS_IN_GROUP]⟩,
  ⟨0x4008, 1, 4, .block, [R.FEC_CW_LO_CW]⟩,
  ⟨0x400C, 1, 4, .block, [R.FEC_CW_HI_CW]⟩,
  ⟨0x4010, 1, 4, .block, [R.FEC_SYM_SYM]⟩,
  ⟨0x4014, 1, 4, .block, [R.FEC_BIT_BIT]⟩,
  ⟨0x4018, 1, 4, .block, [R.FEC_UNCORR_UNCORR]⟩,
  ⟨0x401C, 1, 4, .block, [R.FEC_INNER_INNER_DET, R.FEC_INNER_INNER_COR]⟩,
  ⟨0x4020, 17, 4, .block, [R.FEC_HIST_COUNT]⟩,
  ⟨0x4064, 1, 4, .block, [R.FEC_TX_INJ_MASK, R.FEC_TX_INJ_EVERY, R.FEC_TX_INJ_POS, R.FEC_TX_INJ_WEIGHT]⟩,
  ⟨0x4068, 1, 4, .block, [R.FEC_EVT_REFUSED, R.FEC_EVT_PC_LOCK, R.FEC_EVT_INNER, R.FEC_EVT_UNCORR]⟩,
  ⟨0x406C, 1, 4, .block, [R.FEC_INJECT_INJ_INNER, R.FEC_INJECT_INJ_PCLOSS, R.FEC_INJECT_INJ_UNCORR]⟩,
  ⟨0x4080, 1, 4, .block, [R.FEC_PG_USER_LEN, R.FEC_PG_RUN, R.FEC_PG_PG_INV, R.FEC_PG_PG_TYPE]⟩,
  ⟨0x4084, 1, 4, .block, [R.FEC_PG_SEED_SEED]⟩,
  ⟨0x4088, 1, 4, .block, [R.FEC_PG_ERR_ONE, R.FEC_PG_ERR_EXP, R.FEC_PG_ERR_BURST, R.FEC_PG_ERR_MODE]⟩,
  ⟨0x408C, 1, 4, .block, [R.FEC_PG_CNT_INJ_CNT]⟩,
  ⟨0x4090, 1, 4, .block, [R.FEC_PC_LOSS_TH, R.FEC_PC_LOCK_N, R.FEC_PC_PC_INV, R.FEC_PC_PC_TYPE]⟩,
  ⟨0x4094, 1, 4, .block, [R.FEC_PC_STATUS_LOSS, R.FEC_PC_STATUS_STATE]⟩,
  ⟨0x4098, 1, 4, .block, [R.FEC_PC_BITS_LO_BITS]⟩,
  ⟨0x409C, 1, 4, .block, [R.FEC_PC_BITS_HI_BITS]⟩,
  ⟨0x40A0, 1, 4, .block, [R.FEC_PC_ERR_BITS_ERR_BITS]⟩,
  ⟨0x40A4, 1, 4, .block, [R.FEC_PC_ERR_SYM_ERR_SYM]⟩,
  ⟨0x40A8, 1, 4, .block, [R.FEC_UP_SEL_AUTO_INC, R.FEC_UP_SEL_INDEX]⟩,
  ⟨0x40AC, 1, 4, .chip, [R.FEC_UP_DATA_SYM]⟩]

/-! WATCH_CTRL (spec/10_watch_chain.md): LANE[n].WATCH.CTRL — offset 0x5000, reset BLOCK, domain LSnn -/
def R.WATCH_CTRL_RESTART : Fld := ⟨0x5000, 11, 8, .wo, 0x0⟩
def R.WATCH_CTRL_SYNC_RST : Fld := ⟨0x5000, 1, 0, .rw, 0x0⟩
/-! WATCH_LQF (spec/10_watch_chain.md): LANE[n].WATCH.LQF — offset 0x5004, reset BLOCK, domain LSnn -/
def R.WATCH_LQF_VALID : Fld := ⟨0x5004, 31, 31, .ro, 0x0⟩
def R.WATCH_LQF_SEQ : Fld := ⟨0x5004, 23, 16, .ro, 0x0⟩
def R.WATCH_LQF_LQF : Fld := ⟨0x5004, 9, 0, .ro, 0x0⟩
/-! WATCH_EVT (spec/10_watch_chain.md): LANE[n].WATCH.EVT — offset 0x5008, reset BLOCK, domain LSnn -/
def R.WATCH_EVT_CHG : Fld := ⟨0x5008, 7, 0, .w1c, 0x0⟩
/-! WATCH_INJECT (spec/10_watch_chain.md): LANE[n].WATCH.INJECT — offset 0x500C, reset BLOCK, domain LSnn -/
def R.WATCH_INJECT_INJ_CROSS : Fld := ⟨0x500C, 2, 2, .wo, 0x0⟩
def R.WATCH_INJECT_INJ_CH : Fld := ⟨0x500C, 1, 0, .rw, 0x0⟩
/-! WATCH_CH_CFG (spec/10_watch_chain.md): LANE[n].WATCH.CH[c].CFG — relative offset 0x00, reset BLOCK, domain LSnn -/
def R.WATCH_CH_CFG_HI_EN : Fld := ⟨0x5100, 31, 31, .st, 0x0⟩
def R.WATCH_CH_CFG_LO_EN : Fld := ⟨0x5100, 30, 30, .st, 0x0⟩
def R.WATCH_CH_CFG_FADE : Fld := ⟨0x5100, 29, 29, .st, 0x0⟩
def R.WATCH_CH_CFG_PUSH : Fld := ⟨0x5100, 28, 28, .st, 0x0⟩
def R.WATCH_CH_CFG_XF : Fld := ⟨0x5100, 27, 24, .st, 0x4⟩
def R.WATCH_CH_CFG_HK_CH : Fld := ⟨0x5100, 22, 16, .st, 0x0⟩
def R.WATCH_CH_CFG_DEST : Fld := ⟨0x5100, 15, 8, .st, 0x0⟩
def R.WATCH_CH_CFG_PRESET : Fld := ⟨0x5100, 6, 4, .st, 0x1⟩
def R.WATCH_CH_CFG_TAP : Fld := ⟨0x5100, 3, 0, .st, 0x0⟩
/-! WATCH_CH_CUST (spec/10_watch_chain.md): LANE[n].WATCH.CH[c].CUST — relative offset 0x04, reset BLOCK, domain LSnn -/
def R.WATCH_CH_CUST_DEC2 : Fld := ⟨0x5104, 11, 8, .st, 0x0⟩
def R.WATCH_CH_CUST_K : Fld := ⟨0x5104, 7, 4, .st, 0x0⟩
def R.WATCH_CH_CUST_DEC1 : Fld := ⟨0x5104, 3, 0, .st, 0x4⟩
/-! WATCH_CH_HI_SET (spec/10_watch_chain.md): LANE[n].WATCH.CH[c].HI_SET — 0x08; HI_CLR — 0x0C; LO_SET — 0x10; LO_CLR — 0x14; reset BLOCK, domain LSnn -/
def R.WATCH_CH_HI_SET_LEVEL : Fld := ⟨0x5108, 31, 0, .rw, 0xFFFFFFFF⟩
def R.WATCH_CH_HI_CLR_LEVEL : Fld := ⟨0x510C, 31, 0, .rw, 0xFFFFFFFE⟩
def R.WATCH_CH_LO_SET_LEVEL : Fld := ⟨0x5110, 31, 0, .rw, 0x0⟩
def R.WATCH_CH_LO_CLR_LEVEL : Fld := ⟨0x5114, 31, 0, .rw, 0x1⟩
/-! WATCH_CH_STATUS (spec/10_watch_chain.md): LANE[n].WATCH.CH[c].STATUS — relative offset 0x18, reset BLOCK, domain LSnn -/
def R.WATCH_CH_STATUS_SEQ : Fld := ⟨0x5118, 15, 8, .ro, 0x0⟩
def R.WATCH_CH_STATUS_FADING : Fld := ⟨0x5118, 4, 4, .ro, 0x0⟩
def R.WATCH_CH_STATUS_UNSETTLED : Fld := ⟨0x5118, 3, 3, .ro, 0x0⟩
def R.WATCH_CH_STATUS_LO : Fld := ⟨0x5118, 2, 2, .ro, 0x0⟩
def R.WATCH_CH_STATUS_HI : Fld := ⟨0x5118, 1, 1, .ro, 0x0⟩
def R.WATCH_CH_STATUS_RUN : Fld := ⟨0x5118, 0, 0, .ro, 0x0⟩
/-! WATCH_CH_OUT_VAL (spec/10_watch_chain.md): LANE[n].WATCH.CH[c].OUT_VAL — 0x1C; OUT_FLAGS — 0x20; OUT_T_LO — 0x24; OUT_T_HI — 0x28; reset BLOCK, domain LSnn -/
def R.WATCH_CH_OUT_VAL_VALUE : Fld := ⟨0x511C, 31, 0, .ro, 0x0⟩
def R.WATCH_CH_OUT_FLAGS_NEW : Fld := ⟨0x5120, 31, 31, .ro, 0x0⟩
def R.WATCH_CH_OUT_FLAGS_UNSETTLED : Fld := ⟨0x5120, 30, 30, .ro, 0x0⟩
def R.WATCH_CH_OUT_FLAGS_GAP : Fld := ⟨0x5120, 29, 29, .ro, 0x0⟩
def R.WATCH_CH_OUT_FLAGS_HELD : Fld := ⟨0x5120, 28, 28, .ro, 0x0⟩
def R.WATCH_CH_OUT_FLAGS_NEWHK : Fld := ⟨0x5120, 27, 27, .ro, 0x0⟩
def R.WATCH_CH_OUT_FLAGS_TQ : Fld := ⟨0x5120, 25, 24, .ro, 0x0⟩
def R.WATCH_CH_OUT_FLAGS_STEP_SEQ : Fld := ⟨0x5120, 23, 16, .ro, 0x0⟩
def R.WATCH_CH_OUT_FLAGS_SEQ : Fld := ⟨0x5120, 7, 0, .ro, 0x0⟩
def R.WATCH_CH_OUT_T_LO_T : Fld := ⟨0x5124, 31, 0, .ro, 0x0⟩
def R.WATCH_CH_OUT_T_HI_T : Fld := ⟨0x5128, 31, 0, .ro, 0x0⟩
/-! WATCH_CH_CNT (spec/10_watch_chain.md): LANE[n].WATCH.CH[c].CNT — relative offset 0x2C, reset BLOCK, domain LSnn -/
def R.WATCH_CH_CNT_RESETS : Fld := ⟨0x512C, 31, 24, .rc, 0x0⟩
def R.WATCH_CH_CNT_LO_SETS : Fld := ⟨0x512C, 15, 8, .rc, 0x0⟩
def R.WATCH_CH_CNT_HI_SETS : Fld := ⟨0x512C, 7, 0, .rc, 0x0⟩
/-- The registers of LANE_WATCH. -/
def regsLaneWATCH : List RegD := [
  ⟨0x5000, 1, 4, .block, [R.WATCH_CTRL_RESTART, R.WATCH_CTRL_SYNC_RST]⟩,
  ⟨0x5004, 1, 4, .block, [R.WATCH_LQF_VALID, R.WATCH_LQF_SEQ, R.WATCH_LQF_LQF]⟩,
  ⟨0x5008, 1, 4, .block, [R.WATCH_EVT_CHG]⟩,
  ⟨0x500C, 1, 4, .block, [R.WATCH_INJECT_INJ_CROSS, R.WATCH_INJECT_INJ_CH]⟩,
  ⟨0x5100, 4, 64, .block, [R.WATCH_CH_CFG_HI_EN, R.WATCH_CH_CFG_LO_EN, R.WATCH_CH_CFG_FADE, R.WATCH_CH_CFG_PUSH, R.WATCH_CH_CFG_XF, R.WATCH_CH_CFG_HK_CH, R.WATCH_CH_CFG_DEST, R.WATCH_CH_CFG_PRESET, R.WATCH_CH_CFG_TAP]⟩,
  ⟨0x5104, 4, 64, .block, [R.WATCH_CH_CUST_DEC2, R.WATCH_CH_CUST_K, R.WATCH_CH_CUST_DEC1]⟩,
  ⟨0x5108, 4, 64, .block, [R.WATCH_CH_HI_SET_LEVEL]⟩,
  ⟨0x510C, 4, 64, .block, [R.WATCH_CH_HI_CLR_LEVEL]⟩,
  ⟨0x5110, 4, 64, .block, [R.WATCH_CH_LO_SET_LEVEL]⟩,
  ⟨0x5114, 4, 64, .block, [R.WATCH_CH_LO_CLR_LEVEL]⟩,
  ⟨0x5118, 4, 64, .block, [R.WATCH_CH_STATUS_SEQ, R.WATCH_CH_STATUS_FADING, R.WATCH_CH_STATUS_UNSETTLED, R.WATCH_CH_STATUS_LO, R.WATCH_CH_STATUS_HI, R.WATCH_CH_STATUS_RUN]⟩,
  ⟨0x511C, 4, 64, .block, [R.WATCH_CH_OUT_VAL_VALUE]⟩,
  ⟨0x5120, 4, 64, .block, [R.WATCH_CH_OUT_FLAGS_NEW, R.WATCH_CH_OUT_FLAGS_UNSETTLED, R.WATCH_CH_OUT_FLAGS_GAP, R.WATCH_CH_OUT_FLAGS_HELD, R.WATCH_CH_OUT_FLAGS_NEWHK, R.WATCH_CH_OUT_FLAGS_TQ, R.WATCH_CH_OUT_FLAGS_STEP_SEQ, R.WATCH_CH_OUT_FLAGS_SEQ]⟩,
  ⟨0x5124, 4, 64, .block, [R.WATCH_CH_OUT_T_LO_T]⟩,
  ⟨0x5128, 4, 64, .block, [R.WATCH_CH_OUT_T_HI_T]⟩,
  ⟨0x512C, 4, 64, .block, [R.WATCH_CH_CNT_RESETS, R.WATCH_CH_CNT_LO_SETS, R.WATCH_CH_CNT_HI_SETS]⟩]

/-! HAZE_CTRL (spec/12_haze_impairment.md): LANE[n].HAZE.CTRL — offset 0x6000, reset BLOCK, domain LSnn -/
def R.HAZE_CTRL_NOISE_EN : Fld := ⟨0x6000, 29, 29, .st, 0x0⟩
def R.HAZE_CTRL_NMODE : Fld := ⟨0x6000, 28, 28, .st, 0x0⟩
def R.HAZE_CTRL_ISI_EN : Fld := ⟨0x6000, 27, 27, .st, 0x0⟩
def R.HAZE_CTRL_JIT_EN : Fld := ⟨0x6000, 26, 26, .st, 0x0⟩
def R.HAZE_CTRL_ACT_BANK : Fld := ⟨0x6000, 24, 24, .st, 0x0⟩
def R.HAZE_CTRL_XF_LEN : Fld := ⟨0x6000, 23, 20, .st, 0x6⟩
/-! HAZE_BUF (spec/12_haze_impairment.md): LANE[n].HAZE.BUF — 0x6004; HAZE.STATUS — 0x6008; HAZE.LAT — 0x600C; reset BLOCK, domain LSnn -/
def R.HAZE_BUF_SLIP_WIN : Fld := ⟨0x6004, 23, 16, .st, 0x20⟩
def R.HAZE_BUF_DEPTH : Fld := ⟨0x6004, 11, 0, .st, 0x100⟩
def R.HAZE_STATUS_FILL : Fld := ⟨0x6008, 27, 16, .ro, 0x0⟩
def R.HAZE_STATUS_HOLD_CAUSE : Fld := ⟨0x6008, 10, 8, .ro, 0x0⟩
def R.HAZE_STATUS_XF_BUSY : Fld := ⟨0x6008, 4, 4, .ro, 0x0⟩
def R.HAZE_STATUS_BANK_ACT : Fld := ⟨0x6008, 3, 3, .ro, 0x0⟩
def R.HAZE_STATUS_STATE : Fld := ⟨0x6008, 1, 0, .ro, 0x0⟩
def R.HAZE_LAT_LAT : Fld := ⟨0x600C, 15, 0, .ro, 0x0⟩
/-! HAZE_ERR (spec/12_haze_impairment.md): LANE[n].HAZE.ERR — offset 0x6010, reset BLOCK, domain LSnn -/
def R.HAZE_ERR_ERR_ARM : Fld := ⟨0x6010, 31, 31, .st, 0x0⟩
def R.HAZE_ERR_ERR_MODE : Fld := ⟨0x6010, 29, 28, .st, 0x0⟩
def R.HAZE_ERR_ERR_KIND : Fld := ⟨0x6010, 27, 26, .st, 0x0⟩
def R.HAZE_ERR_DENS : Fld := ⟨0x6010, 25, 22, .st, 0xF⟩
def R.HAZE_ERR_EXP : Fld := ⟨0x6010, 21, 16, .st, 0x10⟩
def R.HAZE_ERR_BLEN : Fld := ⟨0x6010, 11, 0, .st, 0x1⟩
/-! HAZE_NOISE (spec/12_haze_impairment.md): LANE[n].HAZE.NOISE — 0x6014; HAZE.SJ — 0x6018; HAZE.SJ_FREQ — 0x601C; HAZE.SEED — 0x6020; reset BLOCK, domain LSnn -/
def R.HAZE_NOISE_SNR : Fld := ⟨0x6014, 23, 16, .st, 0x50⟩
def R.HAZE_NOISE_NRMS : Fld := ⟨0x6014, 11, 0, .st, 0x0⟩
def R.HAZE_SJ_SJ_AMP : Fld := ⟨0x6018, 26, 16, .st, 0x0⟩
def R.HAZE_SJ_RJ_RMS : Fld := ⟨0x6018, 6, 0, .st, 0x0⟩
def R.HAZE_SJ_FREQ_FREQ : Fld := ⟨0x601C, 23, 0, .st, 0x0⟩
def R.HAZE_SEED_SEED : Fld := ⟨0x6020, 31, 0, .st, 0x1⟩
/-! HAZE_COEF_SEL (spec/12_haze_impairment.md): LANE[n].HAZE.COEF_SEL — 0x6024; HAZE.COEF_DATA — 0x6028; HAZE.PWR — 0x602C; reset BLOCK, domain LSnn -/
def R.HAZE_COEF_SEL_AUTO_INC : Fld := ⟨0x6024, 9, 9, .rw, 0x1⟩
def R.HAZE_COEF_SEL_BANK : Fld := ⟨0x6024, 8, 8, .rw, 0x0⟩
def R.HAZE_COEF_SEL_INDEX : Fld := ⟨0x6024, 4, 0, .rw, 0x0⟩
def R.HAZE_COEF_DATA_TAP : Fld := ⟨0x6028, 9, 0, .rw, 0x0⟩
def R.HAZE_PWR_PWR : Fld := ⟨0x602C, 15, 0, .ro, 0x0⟩
/-! HAZE_CNT (spec/12_haze_impairment.md): LANE[n].HAZE.CNT — 0x6030; CNT_ERR — 0x6034; CNT_SLIP — 0x6038; EVT — 0x603C; INJECT — 0x6040; reset BLOCK, domain LSnn -/
def R.HAZE_CNT_CLIP : Fld := ⟨0x6030, 31, 16, .rc, 0x0⟩
def R.HAZE_CNT_JCLAMP : Fld := ⟨0x6030, 15, 8, .rc, 0x0⟩
def R.HAZE_CNT_REFUSED : Fld := ⟨0x6030, 7, 0, .rc, 0x0⟩
def R.HAZE_CNT_ERR_ERR : Fld := ⟨0x6034, 31, 0, .rc, 0x0⟩
def R.HAZE_CNT_SLIP_SLIPS : Fld := ⟨0x6038, 31, 0, .rc, 0x0⟩
def R.HAZE_EVT_REFUSED : Fld := ⟨0x603C, 2, 2, .w1c, 0x0⟩
def R.HAZE_EVT_JCLAMP : Fld := ⟨0x603C, 1, 1, .w1c, 0x0⟩
def R.HAZE_EVT_STATE : Fld := ⟨0x603C, 0, 0, .w1c, 0x0⟩
def R.HAZE_INJECT_INJ_HOLD : Fld := ⟨0x6040, 0, 0, .wo, 0x0⟩
/-- The registers of LANE_HAZE. -/
def regsLaneHAZE : List RegD := [
  ⟨0x6000, 1, 4, .block, [R.HAZE_CTRL_NOISE_EN, R.HAZE_CTRL_NMODE, R.HAZE_CTRL_ISI_EN, R.HAZE_CTRL_JIT_EN, R.HAZE_CTRL_ACT_BANK, R.HAZE_CTRL_XF_LEN]⟩,
  ⟨0x6004, 1, 4, .block, [R.HAZE_BUF_SLIP_WIN, R.HAZE_BUF_DEPTH]⟩,
  ⟨0x6008, 1, 4, .block, [R.HAZE_STATUS_FILL, R.HAZE_STATUS_HOLD_CAUSE, R.HAZE_STATUS_XF_BUSY, R.HAZE_STATUS_BANK_ACT, R.HAZE_STATUS_STATE]⟩,
  ⟨0x600C, 1, 4, .block, [R.HAZE_LAT_LAT]⟩,
  ⟨0x6010, 1, 4, .block, [R.HAZE_ERR_ERR_ARM, R.HAZE_ERR_ERR_MODE, R.HAZE_ERR_ERR_KIND, R.HAZE_ERR_DENS, R.HAZE_ERR_EXP, R.HAZE_ERR_BLEN]⟩,
  ⟨0x6014, 1, 4, .block, [R.HAZE_NOISE_SNR, R.HAZE_NOISE_NRMS]⟩,
  ⟨0x6018, 1, 4, .block, [R.HAZE_SJ_SJ_AMP, R.HAZE_SJ_RJ_RMS]⟩,
  ⟨0x601C, 1, 4, .block, [R.HAZE_SJ_FREQ_FREQ]⟩,
  ⟨0x6020, 1, 4, .block, [R.HAZE_SEED_SEED]⟩,
  ⟨0x6024, 1, 4, .block, [R.HAZE_COEF_SEL_AUTO_INC, R.HAZE_COEF_SEL_BANK, R.HAZE_COEF_SEL_INDEX]⟩,
  ⟨0x6028, 1, 4, .block, [R.HAZE_COEF_DATA_TAP]⟩,
  ⟨0x602C, 1, 4, .block, [R.HAZE_PWR_PWR]⟩,
  ⟨0x6030, 1, 4, .block, [R.HAZE_CNT_CLIP, R.HAZE_CNT_JCLAMP, R.HAZE_CNT_REFUSED]⟩,
  ⟨0x6034, 1, 4, .block, [R.HAZE_CNT_ERR_ERR]⟩,
  ⟨0x6038, 1, 4, .block, [R.HAZE_CNT_SLIP_SLIPS]⟩,
  ⟨0x603C, 1, 4, .block, [R.HAZE_EVT_REFUSED, R.HAZE_EVT_JCLAMP, R.HAZE_EVT_STATE]⟩,
  ⟨0x6040, 1, 4, .block, [R.HAZE_INJECT_INJ_HOLD]⟩]

/-! BIAS_CTRL (spec/06_optical_head_control.md): LANE[n].BIAS.CTRL — offset 0x7000, reset CHIP, domain AON -/
def R.BIAS_CTRL_CHANNEL : Fld := ⟨0x7000, 13, 8, .st, 0x0⟩
def R.BIAS_CTRL_GATE_EN : Fld := ⟨0x7000, 4, 4, .st, 0x0⟩
def R.BIAS_CTRL_IB_SRC : Fld := ⟨0x7000, 3, 3, .st, 0x0⟩
def R.BIAS_CTRL_VB_RANGE : Fld := ⟨0x7000, 2, 2, .st, 0x0⟩
def R.BIAS_CTRL_IB_RANGE : Fld := ⟨0x7000, 1, 1, .st, 0x0⟩
/-! BIAS_IB (spec/06_optical_head_control.md): LANE[n].BIAS.IB — offset 0x7004, reset CHIP, domain AON -/
def R.BIAS_IB_DARK : Fld := ⟨0x7004, 29, 16, .st, 0x0⟩
def R.BIAS_IB_CODE : Fld := ⟨0x7004, 13, 0, .st, 0x0⟩
/-! BIAS_VB (spec/06_optical_head_control.md): LANE[n].BIAS.VB — offset 0x7008, reset CHIP, domain AON -/
def R.BIAS_VB_CODE : Fld := ⟨0x7008, 13, 0, .st, 0x0⟩
/-! BIAS_SLEW (spec/06_optical_head_control.md): LANE[n].BIAS.SLEW — offset 0x700C, reset POR, domain AON -/
def R.BIAS_SLEW_VB_DIV : Fld := ⟨0x700C, 31, 28, .rw, 0x4⟩
def R.BIAS_SLEW_VB_STEP : Fld := ⟨0x700C, 23, 16, .rw, 0x1⟩
def R.BIAS_SLEW_IB_DIV : Fld := ⟨0x700C, 15, 12, .rw, 0x4⟩
def R.BIAS_SLEW_IB_STEP : Fld := ⟨0x700C, 7, 0, .rw, 0x1⟩
/-! BIAS_CLEAR (spec/06_optical_head_control.md): LANE[n].BIAS.CLEAR — offset 0x7010, reset POR, domain AON -/
def R.BIAS_CLEAR_VB_CRNG : Fld := ⟨0x7010, 30, 30, .rwlk, 0x0⟩
def R.BIAS_CLEAR_VB_CLR : Fld := ⟨0x7010, 29, 16, .rwlk, 0x0⟩
def R.BIAS_CLEAR_IB_CRNG : Fld := ⟨0x7010, 14, 14, .rwlk, 0x0⟩
def R.BIAS_CLEAR_IB_CLR : Fld := ⟨0x7010, 13, 0, .rwlk, 0x0⟩
/-! BIAS_OUT (spec/06_optical_head_control.md): LANE[n].BIAS.OUT — offset 0x7014, reset POR, domain AON -/
def R.BIAS_OUT_VB_RNG_OUT : Fld := ⟨0x7014, 31, 31, .ro, 0x0⟩
def R.BIAS_OUT_VB_OUT : Fld := ⟨0x7014, 29, 16, .ro, 0x0⟩
def R.BIAS_OUT_IB_RNG_OUT : Fld := ⟨0x7014, 15, 15, .ro, 0x0⟩
def R.BIAS_OUT_IB_OUT : Fld := ⟨0x7014, 13, 0, .ro, 0x0⟩
/-! BIAS_STATUS (spec/06_optical_head_control.md): LANE[n].BIAS.STATUS — offset 0x7018, reset POR, domain AON -/
def R.BIAS_STATUS_CLEARING : Fld := ⟨0x7018, 10, 10, .ro, 0x0⟩
def R.BIAS_STATUS_FOLLOW_CLR : Fld := ⟨0x7018, 9, 9, .ro, 0x1⟩
def R.BIAS_STATUS_APC_SAT : Fld := ⟨0x7018, 8, 8, .ro, 0x0⟩
def R.BIAS_STATUS_VB_RBUSY : Fld := ⟨0x7018, 7, 7, .ro, 0x0⟩
def R.BIAS_STATUS_IB_RBUSY : Fld := ⟨0x7018, 6, 6, .ro, 0x0⟩
def R.BIAS_STATUS_EMITTING : Fld := ⟨0x7018, 5, 5, .ro, 0x0⟩
def R.BIAS_STATUS_WDOG : Fld := ⟨0x7018, 4, 4, .w1c, 0x0⟩
def R.BIAS_STATUS_VB_OVL : Fld := ⟨0x7018, 3, 3, .w1c, 0x0⟩
def R.BIAS_STATUS_OPEN : Fld := ⟨0x7018, 2, 2, .w1c, 0x0⟩
def R.BIAS_STATUS_COMPL : Fld := ⟨0x7018, 1, 1, .w1c, 0x0⟩
/-! BIAS_DET_CFG (spec/06_optical_head_control.md): LANE[n].BIAS.DET_CFG — offset 0x701C, reset POR, domain AON -/
def R.BIAS_DET_CFG_VB_ACT : Fld := ⟨0x701C, 18, 18, .rw, 0x0⟩
def R.BIAS_DET_CFG_COMPL_ACT : Fld := ⟨0x701C, 17, 17, .rw, 0x0⟩
def R.BIAS_DET_CFG_OPEN_ACT : Fld := ⟨0x701C, 16, 16, .rw, 0x1⟩
def R.BIAS_DET_CFG_DET_TIME : Fld := ⟨0x701C, 13, 8, .rw, 0x10⟩
def R.BIAS_DET_CFG_DET_MIN : Fld := ⟨0x701C, 7, 0, .rw, 0x40⟩
/-! BIAS_APC_CFG (spec/06_optical_head_control.md): LANE[n].BIAS.APC_CFG — offset 0x7020, reset POR, domain AON -/
def R.BIAS_APC_CFG_WDOG_ACT : Fld := ⟨0x7020, 28, 28, .rw, 0x0⟩
def R.BIAS_APC_CFG_WDOG : Fld := ⟨0x7020, 27, 24, .rw, 0x0⟩
def R.BIAS_APC_CFG_APC_GAIN : Fld := ⟨0x7020, 23, 16, .rw, 0x10⟩
def R.BIAS_APC_CFG_APC_TARGET : Fld := ⟨0x7020, 11, 0, .rw, 0x0⟩
/-! BIAS_APC_LIM (spec/06_optical_head_control.md): LANE[n].BIAS.APC_LIM — offset 0x7024, reset POR, domain AON -/
def R.BIAS_APC_LIM_APC_MAX : Fld := ⟨0x7024, 29, 16, .rw, 0x0⟩
def R.BIAS_APC_LIM_APC_MIN : Fld := ⟨0x7024, 13, 0, .rw, 0x0⟩
/-! BIAS_APC_CODE (spec/06_optical_head_control.md): LANE[n].BIAS.APC_CODE — offset 0x7028, reset POR, domain AON -/
def R.BIAS_APC_CODE_CODE : Fld := ⟨0x7028, 13, 0, .rw, 0x0⟩
/-! BIAS_CNT (spec/06_optical_head_control.md): LANE[n].BIAS.CNT — offset 0x702C, reset POR, domain AON -/
def R.BIAS_CNT_VB_OVL : Fld := ⟨0x702C, 23, 16, .rc, 0x0⟩
def R.BIAS_CNT_OPEN : Fld := ⟨0x702C, 15, 8, .rc, 0x0⟩
def R.BIAS_CNT_COMPL : Fld := ⟨0x702C, 7, 0, .rc, 0x0⟩
/-! BIAS_INJECT (spec/06_optical_head_control.md): LANE[n].BIAS.INJECT — offset 0x7030, reset POR, domain AON -/
def R.BIAS_INJECT_INJ_WDOG : Fld := ⟨0x7030, 3, 3, .wo, 0x0⟩
def R.BIAS_INJECT_INJ_VBOVL : Fld := ⟨0x7030, 2, 2, .wo, 0x0⟩
def R.BIAS_INJECT_INJ_OPEN : Fld := ⟨0x7030, 1, 1, .wo, 0x0⟩
def R.BIAS_INJECT_INJ_COMPL : Fld := ⟨0x7030, 0, 0, .wo, 0x0⟩
/-- The registers of LANE_BIAS. -/
def regsLaneBIAS : List RegD := [
  ⟨0x7000, 1, 4, .chip, [R.BIAS_CTRL_CHANNEL, R.BIAS_CTRL_GATE_EN, R.BIAS_CTRL_IB_SRC, R.BIAS_CTRL_VB_RANGE, R.BIAS_CTRL_IB_RANGE]⟩,
  ⟨0x7004, 1, 4, .chip, [R.BIAS_IB_DARK, R.BIAS_IB_CODE]⟩,
  ⟨0x7008, 1, 4, .chip, [R.BIAS_VB_CODE]⟩,
  ⟨0x700C, 1, 4, .por, [R.BIAS_SLEW_VB_DIV, R.BIAS_SLEW_VB_STEP, R.BIAS_SLEW_IB_DIV, R.BIAS_SLEW_IB_STEP]⟩,
  ⟨0x7010, 1, 4, .por, [R.BIAS_CLEAR_VB_CRNG, R.BIAS_CLEAR_VB_CLR, R.BIAS_CLEAR_IB_CRNG, R.BIAS_CLEAR_IB_CLR]⟩,
  ⟨0x7014, 1, 4, .por, [R.BIAS_OUT_VB_RNG_OUT, R.BIAS_OUT_VB_OUT, R.BIAS_OUT_IB_RNG_OUT, R.BIAS_OUT_IB_OUT]⟩,
  ⟨0x7018, 1, 4, .por, [R.BIAS_STATUS_CLEARING, R.BIAS_STATUS_FOLLOW_CLR, R.BIAS_STATUS_APC_SAT, R.BIAS_STATUS_VB_RBUSY, R.BIAS_STATUS_IB_RBUSY, R.BIAS_STATUS_EMITTING, R.BIAS_STATUS_WDOG, R.BIAS_STATUS_VB_OVL, R.BIAS_STATUS_OPEN, R.BIAS_STATUS_COMPL]⟩,
  ⟨0x701C, 1, 4, .por, [R.BIAS_DET_CFG_VB_ACT, R.BIAS_DET_CFG_COMPL_ACT, R.BIAS_DET_CFG_OPEN_ACT, R.BIAS_DET_CFG_DET_TIME, R.BIAS_DET_CFG_DET_MIN]⟩,
  ⟨0x7020, 1, 4, .por, [R.BIAS_APC_CFG_WDOG_ACT, R.BIAS_APC_CFG_WDOG, R.BIAS_APC_CFG_APC_GAIN, R.BIAS_APC_CFG_APC_TARGET]⟩,
  ⟨0x7024, 1, 4, .por, [R.BIAS_APC_LIM_APC_MAX, R.BIAS_APC_LIM_APC_MIN]⟩,
  ⟨0x7028, 1, 4, .por, [R.BIAS_APC_CODE_CODE]⟩,
  ⟨0x702C, 1, 4, .por, [R.BIAS_CNT_VB_OVL, R.BIAS_CNT_OPEN, R.BIAS_CNT_COMPL]⟩,
  ⟨0x7030, 1, 4, .por, [R.BIAS_INJECT_INJ_WDOG, R.BIAS_INJECT_INJ_VBOVL, R.BIAS_INJECT_INJ_OPEN, R.BIAS_INJECT_INJ_COMPL]⟩]

end Sys2Proof.Machine
end

