-- ==== Sys2Proof/Machine/Regs.lean ====
section
/-! DEFINITION. The register file: which register an offset names, reset values, and reading and writing of fields. -/

namespace Sys2Proof.Machine

/-- The register descriptions of a lane window, by its 4 KiB page (R42). -/
def lanePages : List (List RegD) :=
  [regsLaneRX, regsLaneEQ, regsLaneTX, regsLaneACQ, regsLaneFEC, regsLaneWATCH, regsLaneHAZE, regsLaneBIAS]

/-- The register descriptions of a block; `off` counts in a lane window only. -/
def Blk.regs (b : Blk) (off : Nat) : List RegD :=
  match b with
  | .lane _ => (lanePages[off / 0x1000]?).getD []
  | .oct _ => regsOCT
  | .fe _ => regsFE
  | .mc _ => regsMC
  | .glb => regsGLB | .boot => regsBOOT | .clk => regsCLK | .pwr => regsPWR | .tl => regsTL | .hk => regsHK
  | .cal => regsCAL | .flt => regsFLT | .bist => regsBIST | .safe => regsSAFE | .ncp => regsNCP | .evt => regsEVT
  | .mdw => regsMDW | .sq => regsSQ

/-- Whether a register header covers the word at an offset. -/
def RegD.covers (r : RegD) (off : Nat) : Bool :=
  decide (r.off ≤ off) && decide ((off - r.off) % r.stride = 0) && decide ((off - r.off) / r.stride < r.count)

/-- The register at an offset of a block, where there is one. -/
def findReg (b : Blk) (off : Nat) : Option RegD :=
  let plain := match b with
    | .lane n => n < 56 && 0x3040 ≤ off && off < 0x4000
    | _ => false
  if plain then none else (b.regs off).find? (fun r => r.covers off)

/-- The reset word that a register's table gives. -/
def RegD.reset (r : RegD) : Word := r.flds.foldl (fun w f => fset w f.hi f.lo f.rst) 0

/-- FS of the swing table at chip reset, round(800 × 10^(−s / 80)) (R148). -/
def swingFs : List Nat :=
  [800, 777, 755, 734, 713, 693, 673, 654, 635, 617, 600, 583, 566, 550, 535, 520, 505, 490, 477, 463, 450, 437, 425, 413,
   401, 390, 379, 368, 357, 347, 337, 328]

/-- The R496 reset configuration of an event source: FIXED, CLASS and the reactions. -/
def srcReset (id : Nat) : Word :=
  let mk (fx cls nmt pin : Nat) : Word := BitVec.ofNat 32 (fx * 2 ^ 31 + cls * 32 + nmt * 8 + pin)
  if id = 0x3F0 ∨ id = 0x3F1 then mk 1 2 1 0
  else if id = 0x3F5 then mk 1 3 0 0
  else if id = 0x442 then mk 1 2 0 1
  else if 0x470 ≤ id ∧ id ≤ 0x472 then mk 0 2 0 1
  else if id = 0x473 ∨ id = 0x418 ∨ id = 0x419 then mk 0 1 1 0
  else if 912 ≤ id ∧ id < 1008 ∧ (id - 912) % 16 = 2 then mk 0 1 1 0
  else if id = 0x407 ∨ id = 0x415 then mk 0 1 1 1
  else 0

/-- Reset words that no register table gives as a constant: fuses, per-element values (R428, R108, R145, R345, R242),
the lane map of the shade rotation and the event sources (R496). -/
def specialReset (key : Nat) : Option Word :=
  if key = glbB + 0x4 then some (Config.fuseRev &&& 0x00FFFFFF)
  else if key = glbB + 0x8 then some (Config.fuseConfig.zeroExtend 32)
  else if key = glbB + 0xC then some (Config.serial.truncate 32)
  else if key = glbB + 0x10 then some ((Config.serial >>> 32).truncate 32)
  else if key = ncpB + 0xC then some (Config.serial.truncate 32)
  else if key = clkB + 0x10 then some 0x07DA07BC
  else if key = clkB + 0x14 then some 0x0566049A
  else if key = clkB + 0x18 then some 0x07D407CC
  else if key = clkB + 0x1C then some 0x0082007E
  else if key = clkB + 0x50 then some (Config.lpoTrim.zeroExtend 32 <<< 16 ||| Config.iroTrim.zeroExtend 32)
  else if key = pwrB + 0x10 ∨ key = pwrB + 0x14 ∨ key = pwrB + 0x20 ∨ key = pwrB + 0x24 then some 0xFFFFFFFF
  else if key = pwrB + 0x18 ∨ key = pwrB + 0x28 then some 0x000FFFFF
  else if key = pwrB + 0x40 ∨ key = pwrB + 0x44 then some 0x00141010
  else if key = pwrB + 0x48 then some 0x00140808
  else if key = pwrB + 0x4C then some 0x00140606
  else if bistB + 0x50 ≤ key ∧ key < bistB + 0xB0 then
    match (key - bistB - 0x50) / 4 % 3 with
    | 0 => some 0x0A418820
    | 1 => some 0x16A4A0E6
    | _ => some 0x0007B9AC
  else if laneB 0 ≤ key ∧ key < laneB 64 ∧ key % 0x10000 = 0x20 then some 0x01000000
  else none

/-- Reset words of objects whose reset is not the register table's. -/
def objReset (kind idx off : Nat) : Option Word :=
  match kind with
  | 7 => if off = 0x14 then some (srcReset idx) else none
  | 12 => if off = 0x2018 then some (BitVec.ofNat 32 (swingFs.getD (idx % 32) 0 * 2 ^ 16 + 0x800)) else none
  | 14 => if off = 0x1018 then
      (if idx % 512 = 4 then some 0x200 else if 128 ≤ idx % 256 ∧ idx % 256 < 131 then some 64 else some 0) else none
  | 15 => if off = 0x2020 then (if idx % 32 = 2 then some 0x100 else some 0) else none
  | 16 => if off = 0x6028 then (if idx % 64 = 0 then some 0x100 else some 0) else none
  | _ => none

/-- The block whose registers show an object kind. -/
def kindBlk : Nat → Blk
  | 1 => .mdw | 2 => .mdw | 3 => .mdw | 4 => .mc 0 | 5 => .pwr | 6 => .pwr | 7 => .flt | 8 => .flt | 9 => .hk | 10 => .cal
  | 11 => .fe 0 | 18 => .tl | _ => .lane 0

/-- The reset value of the register word at a key (R23). -/
def resetWord (key : Nat) : Word :=
  if key < 2 ^ 32 then
    match specialReset key with
    | some w => w
    | none =>
      match place key with
      | .reg b off => match findReg b off with
        | some r => r.reset
        | none => 0
      | _ => 0
  else
    match objReset (key / 2 ^ 44) (key / 2 ^ 20 % 2 ^ 24) (key % 2 ^ 20) with
    | some w => w
    | none => match findReg (kindBlk (key / 2 ^ 44)) (key % 2 ^ 20) with
      | some r => r.reset
      | none => 0

/-- The reset source of the register at a key; none where no register stands there. -/
def keySrc (key : Nat) : Option Src :=
  if key < 2 ^ 32 then
    match place key with
    | .reg b off => (findReg b off).map RegD.src
    | _ => none
  else (findReg (kindBlk (key / 2 ^ 44)) (key % 2 ^ 20)).map RegD.src

/-- The active word of the register at a key. -/
def State.getReg (s : State) (key : Nat) : Word := look (resetWord key) s.regs key

/-- Set the active word of the register at a key. -/
def State.setReg (s : State) (key : Nat) (w : Word) : State := { s with regs := put (resetWord key) s.regs key w }

/-- The shadow word of the register at a key. -/
def State.getShadow (s : State) (key : Nat) : Word := look (resetWord key) s.shadow key

/-- Set the shadow word of the register at a key. -/
def State.setShadow (s : State) (key : Nat) (w : Word) : State := { s with shadow := put (resetWord key) s.shadow key w }

/-- The active value of a field, as a number; base is the block's base, plus the element's distance from element 0. -/
def State.rd (s : State) (base : Nat) (f : Fld) : Nat := fget (s.getReg (base + f.off)) f.hi f.lo

/-- A field as a flag. -/
def State.on (s : State) (base : Nat) (f : Fld) : Bool := s.rd base f != 0

/-- A field read as two's complement. -/
def State.rdI (s : State) (base : Nat) (f : Fld) : Int := sext (f.hi + 1 - f.lo) (s.rd base f)

/-- Set the active value of a field. -/
def State.wr (s : State) (base : Nat) (f : Fld) (v : Nat) : State :=
  s.setReg (base + f.off) (fset (s.getReg (base + f.off)) f.hi f.lo v)

/-- The shadow value of a field. -/
def State.rdSh (s : State) (base : Nat) (f : Fld) : Nat := fget (s.getShadow (base + f.off)) f.hi f.lo

/-- Set the shadow value of a field. -/
def State.wrSh (s : State) (base : Nat) (f : Fld) (v : Nat) : State :=
  s.setShadow (base + f.off) (fset (s.getShadow (base + f.off)) f.hi f.lo v)

/-- Add to a counter field, which saturates (R24). -/
def State.cnt (s : State) (base : Nat) (f : Fld) (n : Nat) : State :=
  s.wr base f (satAdd (f.hi + 1 - f.lo) (s.rd base f) n)

/-- Add to a counter field that wraps. -/
def State.cntW (s : State) (base : Nat) (f : Fld) (n : Nat) : State := s.wr base f (s.rd base f + n)

/-- Set two fields that hold the halves of a 64-bit value. -/
def State.wr64 (s : State) (base : Nat) (lo hi : Fld) (v : Nat) : State :=
  (s.wr base lo v).wr base hi (v / 2 ^ 32)

/-- A 64-bit value held in two registers. -/
def State.rd64 (s : State) (base : Nat) (lo hi : Fld) : Nat := s.rd base lo + s.rd base hi * 2 ^ 32

/-- Draw a free value. -/
def State.draw (s : State) : Nat := (Config.freeWord s.free).toNat

/-- Count a drawn free value. -/
def State.drawn (s : State) : State := { s with free := s.free + 1 }

end Sys2Proof.Machine
end

