-- ==== Sys2Proof/Machine/Events.lean ====
section
/-! DEFINITION. Raising an event (R48, R49, R494 to R499), the timeline's stamp, and the passing of true time. -/

namespace Sys2Proof.Machine

/-- Microseconds as ticks, rounded up. -/
def usT (n : Nat) : Nat := (n * 78125 + 1) / 2

/-- TLV now. -/
def State.tlv (s : State) : Tlv := s.tl.tlv

/-- The time quality carried with a stamp (R54, R66). -/
def State.tq (s : State) : Nat := s.rd tlB R.TL_STATUS_TQ

/-- STEP_SEQ carried with a stamp (R66). -/
def State.stepSeq (s : State) : Nat := s.rd tlB R.TL_STATUS_STEP_SEQ

/-- TQ and STEP_SEQ as they stood at an instant that has passed (R66): `tagHist` holds the changes, newest first. -/
def State.tagAt (s : State) (t : Nat) : Nat × Nat :=
  if s.tlv.toNat ≤ t then (s.tq, s.stepSeq)
  else match s.tagHist.find? (fun h => decide (h.1 ≤ t)) with
    | some h => h.2
    | none => (s.tagHist.getLast?.map (fun h => h.2)).getD (s.tq, s.stepSeq)

/-- The tags as they stand now join the history where they have changed. -/
def State.noteTags (s : State) : State :=
  let c := (s.tq, s.stepSeq)
  if s.tagHist.head?.map (fun h => h.2) == some c then s else { s with tagHist := ((s.tlv.toNat, c) :: s.tagHist).take 64 }

/-- The access that an event reports: master ID, kind (0 none, 1 read, 2 write, 3 injected) and host address (R499). -/
structure EvAcc where
  master : Nat
  kind : Nat
  addr : Nat
  deriving DecidableEq, Repr

/-- An event that no access caused. -/
def EvAcc.none : EvAcc := ⟨0xFF, 0, 0⟩

/-- The lowest first-error record that is free (R499). -/
def State.freeRec (s : State) : Option Nat :=
  (List.range 8).find? (fun i => !s.on (Obj.errRec i).base R.FLT_REC_W0_VALID)

/-- Write a first-error record (R499): the reactions taken are those that R498 leaves. -/
def State.putRec (s : State) (i id : Nat) (cfg : Word) (acc : EvAcc) : State :=
  let b := (Obj.errRec i).base
  let resets := fget cfg 6 5 != 3
  let react := b2n (resets && fget cfg 3 3 == 1) * 16 + b2n (resets && fget cfg 2 2 == 1 && fget cfg 1 1 == 0) * 8 +
    b2n (resets && fget cfg 1 1 == 1) * 4 + fget cfg 0 0 * 2 + fget cfg 4 4
  let s := ((((s.wr b R.FLT_REC_W0_VALID 1).wr b R.FLT_REC_W0_CLASS (fget cfg 6 5)).wr b R.FLT_REC_W0_TQ s.tq).wr b
    R.FLT_REC_W0_ACCESS acc.kind).wr b R.FLT_REC_W0_MASTER acc.master
  let s := (((s.wr b R.FLT_REC_W0_EVENT id).wr b R.FLT_REC_W1_ADDR acc.addr).wr b R.FLT_REC_W2_T s.tlv.toNat).wr b
    R.FLT_REC_W3_T (s.tlv.toNat / 2 ^ 32)
  let s := (s.wr b R.FLT_REC_W4_REACT react).wr b R.FLT_REC_W4_STEP_SEQ s.stepSeq
  s.wr fltB R.FLT_STATUS_REC_USED (s.rd fltB R.FLT_STATUS_REC_USED + 1)

/-- FLT.SRC_CFG of a source: its HOST bit is the source's EVT.EN bit (R495). -/
def State.srcCfg (s : State) (id : Nat) : Word :=
  fset (s.getReg ((Obj.src id).base + 0x14)) 4 4 (fget (s.getReg (evtB + 0x100 + 4 * (id / 32))) (id % 32) (id % 32))

/-- The bit of EVT.STAT is set and the fault collector counts the raise (R49, R494). -/
def State.noteRaise (s : State) (id : Nat) : State :=
  let b := (Obj.src id).base
  let s := s.setReg (evtB + 4 * (id / 32)) (s.getReg (evtB + 4 * (id / 32)) ||| BitVec.ofNat 32 (2 ^ (id % 32)))
  let s := s.cnt b R.FLT_SRC_CFG_TROUBLE 1
  let c := s.rd b R.FLT_SRC_CFG_CLASS
  let s := s.cnt (fltB + 4 * c) R.FLT_CNT_CLASS_COUNT 1
  s.wr fltB R.FLT_STATUS_TOP_CLASS (max (s.rd fltB R.FLT_STATUS_TOP_CLASS) c)

/-- The raise waits for its reactions and its event record. -/
def State.queueRaise (s : State) (id recIdx : Nat) : State :=
  let cfg := s.srcCfg id
  { s with raised := s.raised ++ [⟨id, fget cfg 6 5, fget cfg 4 4 != 0, fget cfg 3 3 != 0, fget cfg 2 2 != 0,
      fget cfg 1 1 != 0, s.tlv, s.tq, s.stepSeq, recIdx⟩] }

/-- PIN reaction (R495): FLT.STATUS.PIN. -/
def State.pinReact (s : State) (id : Nat) : State :=
  if s.on (Obj.src id).base R.FLT_SRC_CFG_PIN then s.wr fltB R.FLT_STATUS_PIN 1 else s

/-- EV_FLT_REC_FULL (0x41D): raised once until REC_CLR when a record finds all 8 in use (R499). -/
def State.recordLost (s : State) : State :=
  let s := s.cnt fltB R.FLT_CNT_OVF_REC 1
  if s.recFull then s
  else
    let s := { s with recFull := true }
    ((s.noteRaise 0x41D).pinReact 0x41D).queueRaise 0x41D 0xFF

/-- The switched domain whose block raises an event (R12, R48): bias outputs lie in AON. -/
def evDom (id : Nat) : Option Nat :=
  if id < 768 then (if id % 12 == 11 then none else some (id / 12))
  else if id < 816 then some (64 + (id - 768) / 6)
  else if id < 912 then some (78 + (id - 816) / 24)
  else if id < 1008 then some (72 + (id - 912) / 16)
  else if 0x430 ≤ id ∧ id < 0x440 then some 83
  else none

/-- The event line of a domain that is not ON is clamped at 0 (R445). -/
def State.evClamped (s : State) (id : Nat) : Bool :=
  match evDom id with
  | some d => s.rd (Obj.dom d).base R.PWR_DOM_STAT_STATE != 3
  | none => false

/-- Raise event `id` (R49, R494 to R499). Its other reactions (trap, block reset, chip reset, FATAL) and its event
record are taken from `raised` when the command that raised it ends. -/
def State.raiseOn (s : State) (id : Nat) (acc : EvAcc) : State :=
  let s := s.noteRaise id
  let cfg := s.srcCfg id
  let keep := decide (1 ≤ fget cfg 6 5) || id == 0x428 || id == 0x429 || id == 0x41C
  let full := s.injFull
  match keep, (if full then none else s.freeRec) with
  | false, _ => (s.pinReact id).queueRaise id 0xFF
  | true, some i => ((s.putRec i id cfg acc).pinReact id).queueRaise id i
  | true, none => ((({ s with injFull := false }).recordLost).pinReact id).queueRaise id 0xFF

/-- An event is raised, unless the line of its block is clamped (R445). -/
def State.raiseA (s : State) (id : Nat) (acc : EvAcc) : State := if s.evClamped id then s else s.raiseOn id acc

/-- Raise an event that no access caused. -/
def State.raise (s : State) (id : Nat) : State := s.raiseA id EvAcc.none

/-- The event IDs of the per-element allocations (R12, R48). -/
def evLane (n k : Nat) : Nat := n * 12 + k
def evOct (o k : Nat) : Nat := 768 + o * 6 + k
def evFe (e k : Nat) : Nat := 816 + e * 24 + k
def evMc (m k : Nat) : Nat := 912 + m * 16 + k

/-! True time. -/

/-- The timeline counts (R54): every state but STOPPED. -/
def State.counting (s : State) : Bool := s.rd tlB R.TL_STATUS_STATE != 5

/-- True time passes by d ticks: TLV counts TL_CLK exactly, the core timebase in COAST, or not at all (R54). -/
def State.advance (s : State) (d : Nat) : State :=
  let s' := { s with now := s.now + d }
  if !s.counting then s'
  else if s.rd tlB R.TL_STATUS_STATE == 4 && !s.tl.realigned then
    { s' with tl := { s.tl with tlv := tlvAdd s.tl.tlv (Config.coastTicks d) } }
  else { s' with tl := { s.tl with tlv := tlvAdd s.tl.tlv d } }

/-- True time passes until instant `t`, unless it has passed. -/
def State.advanceNow (s : State) (t : Nat) : State := s.advance (t - s.now)

/-- TLV counts on the core timebase: in COAST, until it is realigned to TL_CLK (R64, R65). -/
def State.coasting (s : State) : Bool := s.rd tlB R.TL_STATUS_STATE == 4 && !s.tl.realigned

/-- Time passes until TLV reaches X while the timeline counts; the true time `due` where it is STOPPED (R56). -/
def State.advanceTlv (s : State) (x due : Nat) : State :=
  if !s.counting then s.advanceNow due
  else if x ≤ s.tlv.toNat then s
  else if s.coasting then
    { s with now := s.now + Config.coastReal (x - s.tlv.toNat), tl := { s.tl with tlv := BitVec.ofNat 64 x } }
  else s.advance (x - s.tlv.toNat)

/-! CCLK (R32, R425): the core PLL makes CORE_N / CORE_M of LREF's 156.25 MHz, so a cycle takes 250 × CORE_M / CORE_N
ticks, 200 / 17 with the settings of reset. -/

/-- CORE_N and CORE_M as of the core PLL's last lock; 0 acts as 1. -/
def State.coreN (s : State) : Nat := max 1 (fget s.clk.coreCfg 23 16)
def State.coreM (s : State) : Nat := max 1 (fget s.clk.coreCfg 11 8)

/-- Ticks that n CCLK cycles take, rounded down. -/
def State.cclkT (s : State) (n : Nat) : Nat := n * 250 * s.coreM / s.coreN

/-- Ticks that n CCLK cycles take, rounded up. -/
def State.cclkUp (s : State) (n : Nat) : Nat := (n * 250 * s.coreM + s.coreN - 1) / s.coreN

/-- Whole CCLK cycles in d ticks, divided by k. -/
def State.cclks (s : State) (k d : Nat) : Nat := d * s.coreN / (250 * s.coreM * k)

/-! PCLK (R32, R38). -/

/-- PCLK is stopped: in REST until step 3 of the wake, and during the clock switch (R38). -/
def State.pclkStopped (s : State) : Bool := s.rd pwrB R.PWR_STATUS_STATE == 3 || s.rd clkB R.CLK_STATUS_STATE == 1

/-- Ticks of true time that n PCLK cycles take, rounded up: of CCLK / 8, or 100 MHz on the IRO (R32, R430). -/
def State.pclkT (s : State) (n : Nat) : Nat :=
  if s.rd clkB R.CLK_STATUS_STATE == 0 then s.cclkUp (8 * n) else (n * 3125 + 7) / 8

/-- The PCLK cycles counted so far. -/
def State.pclk (s : State) : Nat :=
  let d := s.now - s.pclkAt
  s.pclkBase + (if s.pclkStopped then 0 else if s.rd clkB R.CLK_STATUS_STATE == 0 then s.cclks 8 d else d * 8 / 3125)

/-- They are brought up to date before the rate of PCLK changes. -/
def pclkSync (s : State) : State := { s with pclkBase := s.pclk, pclkAt := s.now }

/-- Time passes until an instant X that was set 16,384 ticks ahead: TLV counts up to X, or true time up to `due` where the
timeline has been STOPPED since X was set (R56). -/
def State.advanceReq (s : State) (x due : Nat) : State :=
  if decide (s.tl.startAt + 16384 < due) then s.advanceTlv x due else s.advanceNow due

end Sys2Proof.Machine
end

