-- ==== Sys2Proof/Machine/AcqBase.lean ====
section
/-! DEFINITION. Requests of immediate commits (R75), Scout's results (R198 to R202) and the lane groups' states
(R203 to R207), as far as they follow the receive states. -/

namespace Sys2Proof.Machine

/-- The lower of two causes, 0 being none. -/
def lowCause (a b : Nat) : Nat := if a == 0 then b else if b == 0 then a else min a b

/-- An immediate commit is requested (R75): it executes at the arrival TLV + 16,384 ticks, its mask sampled now. -/
def commitRequest (cls scope index : Nat) (s : State) : State :=
  let mask := s.rd (glbB + 8 * (index % 8)) R.GLB_MASK_LO_LANES + s.rd (glbB + 8 * (index % 8)) R.GLB_MASK_HI_LANES * 2 ^ 32
  { s.wr glbB R.GLB_COMMIT_STAT_BUSY 1 with
    commits := s.commits ++ [⟨cls, scope, index, mask, s.tlv.toNat + 16384, s.now + 16384⟩] }

/-- The rate family of a lane mode: 0 F1, 1 F2 (R4); modes 6 and 7 belong to none. -/
def modeFamily (m : Nat) : Option Nat := if m ≤ 3 then some 0 else if m ≤ 5 then some 1 else none

/-- The symbol rate of a lane mode in units of 31.25 MBd (R4). -/
def symRate (m : Nat) : Nat :=
  match m with | 0 => 6800 | 1 => 3400 | 2 => 1700 | 3 => 850 | 4 => 825 | 5 => 330 | _ => 0

/-- The converter's sample rate of a lane mode, same units (R87). -/
def sampleRate (m : Nat) : Nat := if m == 0 then symRate 0 else 2 * symRate m

/-- The receive state of a lane (R100). -/
def State.rxState (s : State) (n : Nat) : Nat := s.rd (laneB n) R.RX_STATUS_STATE

/-- The active receive mode. -/
def State.rxMode (s : State) (n : Nat) : Nat := s.rd (laneB n) R.RX_CTRL_MODE

/-- The family in force in an octant. -/
def State.octFamily (s : State) (o : Nat) : Nat := s.rd (octB o) R.OCT_SYN_STATUS_FAMILY_ACT

/-- The family against which a commit of a lane's RX group is checked: one that changes at the same instant is the old one
(R103). -/
def State.octFamilyWas (s : State) (o : Nat) : Nat :=
  let w := look (0, 0) s.famWas o
  if w.2 == s.now + 1 then w.1 else s.octFamily o

/-- What a lane's acquisition holds. -/
def State.acqOf (s : State) (n : Nat) : AcqSt := look AcqSt.idle s.acq n
def State.setAcq (s : State) (n : Nat) (x : AcqSt) : State := { s with acq := put AcqSt.idle s.acq n x }

/-! Scout. -/

/-- A bit of ACQ.EVT is set, and EV_LANE_ACQ (R222). -/
def acqEvt (n : Nat) (f : Fld) (s : State) : State := (s.wr (laneB n) f 1).raise (evLane n 7)

/-- Candidate j is enabled, and its mode (ACQ.CAND). -/
def candEn (n j : Nat) (s : State) : Bool := fget (s.getReg (laneB n + 0x3004)) (8 * j + 3) (8 * j + 3) == 1
def candMode (n j : Nat) (s : State) : Nat := fget (s.getReg (laneB n + 0x3004)) (8 * j + 2) (8 * j)

/-- A candidate is searchable (R198). -/
def searchable (n j : Nat) (s : State) : Bool :=
  let m := candMode n j s
  modeFamily m == some (s.octFamily (n / 8)) && decide (symRate m ≤ sampleRate (s.rxMode n))

/-- Base for the fields of SCOUT_RES[j]. -/
def resB (n j : Nat) : Nat := laneB n + 4 * j

/-- STAGE of candidate j. -/
def candStage (n j : Nat) (s : State) : Nat := s.rd (resB n j) R.ACQ_SCOUT_RES_STAGE

/-- The best candidate: the highest stage among searchable ones, the lower index winning a tie (R201). -/
def bestCand (n : Nat) (s : State) : Nat :=
  (List.range 4).foldl (fun b j => if (if searchable n b s then candStage n b s else 0) <
    (if searchable n j s then candStage n j s else 0) then j else b) 0

/-- BEST, BEST_VALID and MISMATCH as the results stand (R201); `old` is BEST's index and stage before. -/
def scoutBest (n : Nat) (old : Nat × Nat) (s : State) : State :=
  let b := laneB n
  let j := bestCand n s
  let st := candStage n j s
  let s := (s.wr b R.ACQ_SCOUT_STATUS_BEST j).wr b R.ACQ_SCOUT_STATUS_BEST_VALID (b2n (decide (3 ≤ st)))
  let s := if (j, st) == old then s else acqEvt n R.ACQ_EVT_SCOUT s
  let mm := s.rxState n == 6 && st == 5 && candMode n j s != s.rd b R.RX_STATUS_MODE_ACT
  let was := s.on b R.ACQ_SCOUT_STATUS_MISMATCH
  let s := s.wr b R.ACQ_SCOUT_STATUS_MISMATCH (b2n mm)
  if mm && !was then acqEvt n R.ACQ_EVT_MISMATCH s else s

/-- BEST's index and stage as they stand. -/
def scoutNow (n : Nat) (s : State) : Nat × Nat :=
  let j := s.rd (laneB n) R.ACQ_SCOUT_STATUS_BEST
  (j, candStage n j s)

/-- Every result returns to STAGE 0, or 1 where an enabled candidate is unsearchable (R199); `sig` gives a searchable one
NONE. -/
def scoutClear (sig : Bool) (n : Nat) (s : State) : State :=
  let old := scoutNow n s
  let s := (List.range 4).foldl (fun t j => t.setReg (laneB n + 0x3008 + 4 * j)
    (if !candEn n j t then 0 else if !searchable n j t then 1 else if sig then 2 else 0)) s
  scoutBest n old (s.setAcq n { s.acqOf n with search := 0 })

/-- Scout at entry to a receive state from `old` (R199): outside its states the engines stop, in SIGWAIT every searchable
candidate reports NONE. -/
def scoutFollow (n old : Nat) (s : State) : State :=
  let st := s.rxState n
  if st ≤ 2 ∨ st == 7 then scoutClear false n s
  else if st == 3 && old != 3 then scoutClear true n s
  else scoutBest n (scoutNow n s) s

/-! Burst contexts. -/

/-- The context's fields. -/
def fCtx (c : Nat) : Fld := if c == 0 then R.ACQ_BURST_STAT_CTX0 else R.ACQ_BURST_STAT_CTX1
def fCause (c : Nat) : Fld := if c == 0 then R.ACQ_BURST_STAT_CAUSE0 else R.ACQ_BURST_STAT_CAUSE1
def AcqSt.ctx (x : AcqSt) (c : Nat) : BurstCtx := if c == 0 then x.ctx0 else x.ctx1
def AcqSt.setCtx (x : AcqSt) (c : Nat) (v : BurstCtx) : AcqSt := if c == 0 then { x with ctx0 := v } else { x with ctx1 := v }

/-- The state of a context (R212). -/
def ctxState (n c : Nat) (s : State) : Nat := s.rd (laneB n) (fCtx c)

/-- The context that is OWNER. -/
def ownerCtx (n : Nat) (s : State) : Option Nat :=
  if ctxState n 0 s == 2 then some 0 else if ctxState n 1 s == 2 then some 1 else none

/-- A context is released (R212, R213); the guard of an owner ends with it (R218). -/
def ctxRelease (n c cause : Nat) (s : State) : State :=
  let b := laneB n
  let x := (s.acqOf n).setCtx c .blank
  let x := if ctxState n c s == 2 then { x with guardAt := none } else x
  let s := ((s.wr b (fCtx c) 0).wr b (fCause c) cause).setAcq n x
  if cause == 2 || cause == 3 then acqEvt n R.ACQ_EVT_FALSE (s.cnt b R.ACQ_BURST_CNT_FALSE 1) else s

/-- Contexts in a state are released with a cause. -/
def ctxReleaseIn (n st cause : Nat) (s : State) : State :=
  let f (c : Nat) (s : State) : State := if ctxState n c s == st then ctxRelease n c cause s else s
  f 1 (f 0 s)

/-- The burst controller takes the front end (R209): BURST_GAIN, and no context in P4-212. -/
def burstEnter (n : Nat) (s : State) : State :=
  let b := laneB n
  (s.wr b R.RX_GAIN_GAIN_ACT (min 40 (s.rd b R.ACQ_BURST_CFG_BURST_GAIN))).wr b R.ACQ_BURST_STAT_UNSUPP (b2n (s.rxMode n == 0))

/-- The lane leaves BURST: every context ends (R212 cause 7); with AGC_EN = 0 the gain is GAIN_CODE again (R84). -/
def burstLeave (n : Nat) (s : State) : State :=
  let b := laneB n
  let s := ctxReleaseIn n 2 7 (ctxReleaseIn n 1 7 s)
  let s := s.setAcq n { s.acqOf n with energy := false, lowN := 0, guardAt := none }
  let s := s.wr b R.ACQ_BURST_STAT_UNSUPP 0
  if s.on b R.RX_GAIN_AGC_EN then s else s.wr b R.RX_GAIN_GAIN_ACT (min 40 (s.rd b R.RX_GAIN_GAIN_CODE))

/-! Lane groups. -/

/-- Base for the fields of GRP_CFG[g] and GRP_STAT[g]. -/
def grpB (e g : Nat) : Nat := feB e + 4 * g

/-- Base for the fields of LSTAT of a lane's stage. -/
def lstB (n : Nat) : Nat := feB (n / 16) + 4 * (n % 16)

/-- The lanes of a group from FIRST and WIDTH, within the engine (R203). -/
def grpSpan (e first width : Nat) : List Nat :=
  ((List.range (2 ^ width)).filter (fun k => decide (first + k < 16))).map (fun k => 16 * e + first + k)

/-- The member lanes of group slot g (active configuration). -/
def grpLanes (e g : Nat) (s : State) : List Nat :=
  grpSpan e (s.rd (grpB e g) R.FE_GRP_CFG_FIRST) (s.rd (grpB e g) R.FE_GRP_CFG_WIDTH)

/-- The enabled slot that a lane belongs to. -/
def laneGrp (n : Nat) (s : State) : Option Nat :=
  (List.range 16).find? (fun g => s.on (grpB (n / 16) g) R.FE_GRP_CFG_EN && (grpLanes (n / 16) g s).contains n)

/-- Enter a group state (R207); a cause of 0 leaves CAUSE. -/
def grpGo (e g st cause : Nat) (s : State) : State :=
  let s := if cause == 0 then s else s.wr (grpB e g) R.FE_GRP_STAT_CAUSE cause
  if s.rd (grpB e g) R.FE_GRP_STAT_STATE == st then s
  else (s.wr (grpB e g) R.FE_GRP_STAT_STATE st).raise (evFe e 0)

/-- What a lane's stage holds. -/
def State.amOf (s : State) (n : Nat) : AmSt := look AmSt.idle s.am n
def State.setAm (s : State) (n : Nat) (x : AmSt) : State := { s with am := put AmSt.idle s.am n x }

/-- Enter a marker state of a lane's stage (R205): 0 idle, 1 SEARCH, 2 LOCKED. -/
def amGo (n st : Nat) (s : State) : State :=
  (s.wr (lstB n) R.FE_LSTAT_AM_STATE st).setAm n { s.amOf n with good := 0, bad := 0, blk := 0 }

/-- A group goes DOWN, or leaves it, as its slot and its lanes call for (R207). -/
def grpSync (e g : Nat) (s : State) : State :=
  let st := s.rd (grpB e g) R.FE_GRP_STAT_STATE
  let ls := grpLanes e g s
  let up := s.on (grpB e g) R.FE_GRP_CFG_EN && ls.all (fun n => s.rxState n == 6)
  if up then (if st == 0 then ls.foldl (fun t n => amGo n 1 t) (grpGo e g 1 0 s) else s)
  else if st == 0 then s
  else ls.foldl (fun t n => amGo n 0 t) (grpGo e g 0 1 s)

/-- What a group's search works on: its link and its members. -/
def grpShape (e g : Nat) (s : State) : Nat × List Nat := (s.rd (grpB e g) R.FE_GRP_CFG_LINK, grpLanes e g s)

/-- The groups of an engine after a commit (R205, R207): `old` are their shapes before it. DEDUCED: where a commit gives a
group that runs other members or another link, its old members' stages stop, its new ones search, and an ALIGNED group has
lost its markers (cause 4). -/
def grpCommitted (e : Nat) (old : List (Nat × List Nat)) (s : State) : State :=
  let moved (g : Nat) : Bool := old.getD g (0, []) != grpShape e g s && s.rd (grpB e g) R.FE_GRP_STAT_STATE != 0
  let ms := (List.range 16).filter moved
  let s := ms.foldl (fun t g => (old.getD g (0, [])).2.foldl (fun t n => amGo n 0 t) t) s
  (List.range 16).foldl (fun t g =>
    let t := if ms.contains g then
        (grpLanes e g t).foldl (fun t n => amGo n 1 t) (if t.rd (grpB e g) R.FE_GRP_STAT_STATE == 2 then grpGo e g 1 4 t else t)
      else t
    grpSync e g t) s

/-- The group of a lane follows a change of its receive state. -/
def grpLane (n : Nat) (s : State) : State :=
  match laneGrp n s with
  | some g => grpSync (n / 16) g s
  | none => s

/-! The pattern checker. -/

/-- What a lane's FEC, generator and checker hold. -/
def State.fecOf (s : State) (n : Nat) : FecSt := look FecSt.idle s.fec n
def State.setFec (s : State) (n : Nat) (x : FecSt) : State := { s with fec := put FecSt.idle s.fec n x }

/-- A bit of FEC.EVT is set, and EV_LANE_FEC (R246). -/
def fecEvt (n : Nat) (f : Fld) (s : State) : State := (s.wr (laneB n) f 1).raise (evLane n 8)

/-- The checker enters a state (R241): 0 OFF, 1 SEARCH, 2 LOCKED. -/
def pcGo (n st : Nat) (s : State) : State :=
  let old := s.rd (laneB n) R.FEC_PC_STATUS_STATE
  let s := s.wr (laneB n) R.FEC_PC_STATUS_STATE st
  if old == 2 && st != 2 then fecEvt n R.FEC_EVT_PC_LOCK (s.cnt (laneB n) R.FEC_PC_STATUS_LOSS 1)
  else if old != 2 && st == 2 then fecEvt n R.FEC_EVT_PC_LOCK s
  else s

/-! Haze cut-through. -/

/-- What a lane's Haze stages hold. -/
def State.hazeOf (s : State) (n : Nat) : HazeSt := look HazeSt.idle s.haze n
def State.setHaze (s : State) (n : Nat) (x : HazeSt) : State := { s with haze := put HazeSt.idle s.haze n x }

/-- The hold cause present on the cut-through path of lane n, 0 for none (R340). -/
def holdCause (n : Nat) (s : State) : Nat :=
  let m := s.rd (laneB n) R.TX_SRC_HAZE_LANE
  if s.rxState m == 7 then 2
  else if s.rxState m != 6 then 1
  else if s.rd (laneB n) R.TX_CTRL_MODE != s.rd (laneB m) R.RX_STATUS_MODE_ACT then 3
  else if s.now < (s.hazeOf n).injUntil then 4
  else 0

/-- The cut-through buffer holds some symbols (R339). -/
def hazeBuf (n : Nat) (buf : List (BitVec 2)) (s : State) : State :=
  (s.setHaze n { s.hazeOf n with buf := buf }).wr (laneB n) R.HAZE_STATUS_FILL (min buf.length 0xFFF)

/-- Enter a state of the cut-through path with its buffer (R340): 0 OFF, 1 HOLD, 2 PRIME, 3 PASS. -/
def hazeGo (n st : Nat) (buf : List (BitVec 2)) (s : State) : State :=
  let b := laneB n
  let s := hazeBuf n buf s
  if s.rd b R.HAZE_STATUS_STATE == st then s
  else ((s.wr b R.HAZE_STATUS_STATE st).wr b R.HAZE_EVT_STATE 1).raise (evLane n 10)

/-- The cut-through path follows its transmit lane, its source and its hold causes, in the order of R340's table, by
which a hold cause leaves OFF as it is. -/
def hazeEval (n : Nat) (s : State) : State :=
  let b := laneB n
  let st := s.rd b R.HAZE_STATUS_STATE
  if s.rd b R.TX_STATUS_STATE != 2 || s.rd b R.TX_STATUS_SRC_ACT != 4 then (if st == 0 then s else hazeGo n 0 [] s)
  else
    let c := holdCause n s
    if c != 0 then (if st == 0 then s else hazeGo n 1 [] (s.wr b R.HAZE_STATUS_HOLD_CAUSE c))
    else if st ≤ 1 then hazeGo n 2 [] s
    else s

/-- The transmit lanes that take receive lane m as their source (R339). -/
def hazeFollow (m : Nat) (s : State) : State :=
  (List.range 16).foldl (fun s j =>
    let n := m / 16 * 16 + j
    if s.rd (laneB n) R.TX_SRC_HAZE_LANE == m && s.rd (laneB n) R.TX_STATUS_SRC_ACT == 4 then hazeEval n s else s) s

/-! Watch chains, as far as the receive state reaches them. -/

/-- A chain of lane n: channels 0 to 3, and 4 for LQF. -/
def State.chain (s : State) (n c : Nat) : ChainSt := look ChainSt.idle s.watch (8 * n + c)
def State.setChain (s : State) (n c : Nat) (x : ChainSt) : State := { s with watch := put ChainSt.idle s.watch (8 * n + c) x }

/-- Base for the fields of channel c. -/
def chB (n c : Nat) : Nat := laneB n + 0x40 * c

/-- A synchronising reset of a chain now. -/
def chainReset (n c : Nat) (s : State) : State :=
  let x := s.chain n c
  let s := s.setChain n c { ChainSt.idle with r := s.tlv.toNat, due := x.due, inj := x.inj }
  if c == 4 then s.wr (laneB n) R.WATCH_LQF_VALID 0
  else (s.wr (chB n c) R.WATCH_CH_STATUS_FADING 0).cnt (chB n c) R.WATCH_CH_CNT_RESETS 1

/-- Scout, the pattern checker and the lane's group and the Haze paths fed by the lane follow a change of the
receive state from `old` (R199, R201, R202, R207, R241, R340); entry to LOCKED resets the LQF chain (R282). -/
def rxFollow (n old : Nat) (s : State) : State :=
  let st := s.rxState n
  let s := if st == 7 && old != 7 then burstEnter n s else if old == 7 && st != 7 then burstLeave n s else s
  let s := scoutFollow n old s
  let s := if st == 6 && old != 6 then chainReset n 4 (s.setAcq n { s.acqOf n with autoHold := 0 }) else s
  let s := if st != 6 && s.rd (laneB n) R.FEC_PC_STATUS_STATE == 2 then pcGo n 1 s else s
  let s := if (st == 6) != (old == 6) then grpLane n s else s
  if st != old then hazeFollow n s else s

end Sys2Proof.Machine
end

