-- ==== Sys2Proof/Machine/RxDsp.lean ====
section
/-! DEFINITION. The arithmetic of the receive front end (03): converter codes (R82, R83), interleave correction, the
pre-filter (R95), the reduction to one value per symbol (R88) and the timing loop (R97). -/

namespace Sys2Proof.Machine

/-- a / b to the nearest integer. DESIGN CHOICE where the spec writes round() and does not say which way a half goes
(R91): halves go away from zero, as it says of the taps and stages of R95, R106 and R144. -/
def roundDiv (a : Int) (b : Nat) : Int :=
  if 0 ≤ a then (2 * a + b) / (2 * (b : Int)) else -((2 * (-a) + b) / (2 * (b : Int)))

/-- Entry k + c - i of a sequence that begins at entry 0; 0 outside it. -/
def tapAt (x : List Int) (k c i : Nat) : Int := if i ≤ k + c then x.getD (k + c - i) 0 else 0

/-- A filter's full-precision sum for entry k with its main tap at c (R95, R107, R144). -/
def firSum (h x : List Int) (k c : Nat) : Int :=
  ((List.range h.length).map (fun i => h.getD i 0 * tapAt x k c i)).sum

/-! Converter codes (R82, R83). -/

/-- A converter code as a number. -/
def codeVal (c : BitVec 8) : Int := c.toInt

/-- How many codes of a stretch are clipped (R82). -/
def clippedCodes (l : List (BitVec 8)) : Nat := l.countP (fun c => c == 0x80 || c == 0x7F)

/-- The sum of the squares of a stretch of codes. -/
def squareSum (l : List (BitVec 8)) : Nat := (l.map (fun c => (codeVal c).natAbs ^ 2)).sum

/-- The RMS of a stretch as RX.LEVEL shows it. DESIGN CHOICE: the spec gives no rounding; the model truncates. -/
def rmsOf (l : List (BitVec 8)) : Nat := Nat.sqrt (squareSum l / max 1 l.length)

/-- Which way the AGC steps at the end of a period (R83), the RMS compared exactly. -/
def agcStep (clipTh target dead : Nat) (l : List (BitVec 8)) : Int :=
  if clipTh < clippedCodes l then -1
  else if (target + dead) ^ 2 * l.length < squareSum l then -1
  else if squareSum l < (target - dead) ^ 2 * l.length then 1
  else 0

/-! Interleave correction and polarity (R82, R90). -/

/-- One sub-converter's offset and gain trims applied to a code: offset in 1/16 LSB, then the factor 1 + GAIN / 2^11. The
result is a code again. -/
def subCorrect (ofs gain : Int) (c : BitVec 8) : Int :=
  clampI (-128) 127 (roundDiv ((16 * codeVal c - ofs) * (2048 + gain)) 32768)

/-- POLARITY (R82): every sample negated, and -128 becomes +127. -/
def polarity (neg : Bool) (x : Int) : Int := if neg then (if x == -128 then 127 else -x) else x

/-! The pre-filter (R95). -/

/-- m (10^(p/20) - 1) to the nearest integer, exactly: the least t with 10^(p/20) < (2m + 2t + 1) / 2m. -/
def presetPeak (m p : Nat) : Nat :=
  ((List.range 1024).find? (fun t => decide (10 ^ p * (2 * m) ^ 20 < (2 * m + 2 * t + 1) ^ 20))).getD 0

/-- The taps h0 to h7 of preset p, in 1/256: the outer pair lies a symbol from the cursor. -/
def presetTaps (p : Nat) (two : Bool) : List Int :=
  let a : Int := -(presetPeak 64 p : Int)
  let m : Int := 256 + (presetPeak 128 p : Int)
  if two then [0, a, 0, m, 0, a, 0, 0] else [0, 0, a, m, a, 0, 0, 0]

/-- The pre-filter's output at sample k, 12 bits signed in 1/4 LSB (R95, R106). DEDUCED: h3 is the cursor in the sense of
R107, and the output is rounded and held to its format as the equaliser's stages are. -/
def preFilter (h x : List Int) (k : Nat) : Int := clampI (-2048) 2047 (roundDiv (firSum h x k 3) 64)

/-- One value per symbol (R88): every sample of a 1.0 mode, and of each pair the sample at the symbol centre. -/
def symbolValues (h x : List Int) (two : Bool) : List Int :=
  if two then (List.range (x.length / 2)).map (fun j => preFilter h x (2 * j))
  else (List.range x.length).map (fun k => preFilter h x k)

/-! The timing loop (R97). -/

/-- One CCLK of the loop: `e` in 2^-20 UI, `freq` in 2^-36 UI per CCLK and `phi` in 2^-36 UI, all exact. The rotator's
phase is kept modulo one UI. -/
def loopStep (kp ki : Nat) (ofs : Int) (x : Int × Int) (e : Int) : Int × Int :=
  let f := x.1 + e * 2 ^ (16 - ki)
  (f, (x.2 + e * 2 ^ (16 - kp) + f + ofs * 2 ^ 28) % 2 ^ 36)

/-- The loop over a window's phase-detector outputs. -/
def loopRun (kp ki : Nat) (ofs : Int) (es : List Int) (x : Int × Int) : Int × Int := es.foldl (loopStep kp ki ofs) x

/-- The line's offset from nominal that an integrator value stands for, 2^-6 ppm, at a symbol rate in 31.25 MBd (R99).
DEDUCED: a line faster than nominal has a positive estimate; a half rounds away from zero. -/
def loopPpm (freq : Int) (rate : Nat) : Int := roundDiv (freq * (6800 * 1000000)) (2 ^ 36 * max 1 rate)

/-- The sum of the squared errors of a window, 2^-40 UI². -/
def errSquares (es : List Int) : Nat := (es.map (fun e => e.natAbs ^ 2)).sum

/-- A window's RMS error lies below, and above, a threshold in 1/1024 UI (R101). -/
def rmsBelow (es : List Int) (th : Nat) : Bool := decide (errSquares es < (th * 1024) ^ 2 * es.length)
def rmsAbove (es : List Int) (th : Nat) : Bool := decide ((th * 1024) ^ 2 * es.length < errSquares es)

/-- A window's RMS error as RX.TR_PHASE shows it, 1/1024 UI, truncated. -/
def rmsErr (es : List Int) : Nat := Nat.sqrt (errSquares es / max 1 es.length) / 1024

end Sys2Proof.Machine
end

