-- ==== Sys2Proof/Machine/RxOps.lean ====
section
/-! DEFINITION. The receive front end (03): receive states (R100, R101), loss of signal (R85, R86), gain control (R83,
R84), interleave calibration (R91 to R94), timing recovery windows (R99, R101) and the RX commit rules (R103). -/

namespace Sys2Proof.Machine

/-- The active sub-converters of a lane mode (R87). -/
def activeSubs (m : Nat) : Nat := match m with | 0 => 96 | 1 => 96 | 2 => 48 | 3 => 24 | 4 => 24 | _ => 12

/-- A domain is ON (R447). -/
def State.domOn (s : State) (d : Nat) : Bool := s.rd (Obj.dom d).base R.PWR_DOM_STAT_STATE == 3

/-- CCLK and FCLK run (R431). -/
def State.cclk (s : State) : Bool := s.rd clkB R.CLK_STATUS_STATE == 0

/-- The clock gate of a block is closed (R436): 0 to 3 FE, 4 to 9 MC, 10 lane cores, 11 HK, 12 CAL, 13 BIST. -/
def State.gateShut (s : State) (g : Nat) : Bool := s.rd clkB R.CLK_GATE_STAT_CLOSED / 2 ^ g % 2 == 1

/-- The pipeline of lane n runs. -/
def State.laneUp (s : State) (n : Nat) : Bool := s.domOn n && s.cclk

/-- Frame engine e runs (R431, R437). -/
def State.feUp (s : State) (e : Nat) : Bool := s.domOn (78 + e) && s.cclk && !s.gateShut e

/-- Memory channel m serves pages: its stack is out of self-refresh (R431, R433, R445) and not refused (R414). -/
def State.mcUp (s : State) (m : Nat) : Bool :=
  s.domOn (72 + m) && s.cclk && !s.clk.sysxiLoss && !s.gateShut (4 + m) && s.stackBad / 2 ^ m % 2 == 0

/-- A domain's analogue side is ready (R447). -/
def State.anaRdy (s : State) (d : Nat) : Bool := s.on (Obj.dom d).base R.PWR_DOM_STAT_ANA_RDY

/-- The synthesiser of an octant is LOCKED (R154). -/
def State.synLocked (s : State) (o : Nat) : Bool := s.rd (octB o) R.OCT_SYN_STATUS_STATE == 3

/-- What a lane's front end holds. -/
def State.rxOf (s : State) (n : Nat) : RxSt := look RxSt.idle s.rx n
def State.setRx (s : State) (n : Nat) (x : RxSt) : State := { s with rx := put RxSt.idle s.rx n x }

/-- What a lane's equaliser holds. -/
def State.eqOf (s : State) (n : Nat) : EqSt := look EqSt.idle s.eq n
def State.setEq (s : State) (n : Nat) (x : EqSt) : State := { s with eq := put EqSt.idle s.eq n x }

/-- A condition met during a running statistics block (R126): bit r for reason r. -/
def eqMark (n r : Nat) (s : State) : State :=
  let x := s.eqOf n
  if x.stat == 2 && x.reasons / 2 ^ r % 2 == 0 then s.setEq n { x with reasons := x.reasons + 2 ^ r } else s

/-- The Trellis detector of a lane starts anew: its alphabet or its use changes. -/
def eqRestart (n : Nat) (s : State) : State := s.setEq n { s.eqOf n with det := ⟨false, []⟩ }

/-- What a lane's transmit path holds. -/
def State.txOf (s : State) (n : Nat) : TxSt := look TxSt.idle s.tx n
def State.setTx (s : State) (n : Nat) (x : TxSt) : State := { s with tx := put TxSt.idle s.tx n x }

/-- An offset held within the range of R151 for a lane mode, 2^-6 ppm. -/
def txClamp (mode : Nat) (f : Int) : Int := clampI (-5200 * 64) (if mode == 0 then 0 else 200 * 64) f

/-- Receive lane r leaves LOCKED: interpolators that follow it keep the offset they have (R151). -/
def holdLoops (r : Nat) (s : State) : State :=
  (List.range 16).foldl (fun s j =>
    let n := r / 16 * 16 + j
    let b := laneB n
    if s.rd b R.TX_PI_TIMING == 1 && s.rd b R.TX_PI_LOOP_LANE == r then
      s.setTx n { s.txOf n with offset := txClamp (s.rd b R.TX_CTRL_MODE) (s.rdI (laneB r) R.RX_TR_FREQ_FREQ) }
    else s) s

/-- Enter a receive state with an unlock cause for an exit from LOCKED (R100, R101): entry to and exit from LOCKED raise
EV_LANE_RX_LOCK, an exit counts, and OFF, NOCLK and CAL read LOS as 1 (R86). -/
def rxGo (n st cause : Nat) (s : State) : State :=
  let old := s.rxState n
  let b := laneB n
  let s := if old == 6 && st != 6 then holdLoops n s else s
  let s := ((s.wr b R.RX_STATUS_STATE st).wr b R.RX_STATUS_LOCKED (b2n (st == 6)))
  let s := if st ≤ 2 then s.wr b R.RX_STATUS_LOS 1 else s
  let x := s.rxOf n
  let s := s.setRx n { x with calRounds := 0, stable := 0, lockN := 0, unlockN := 0, phaseN := 0 }
  let s := if st == 6 then s else eqMark n 1 s
  let s := if old == 6 && st != 6 then
      ((s.cnt b R.RX_CNT_UNLOCK 1).wr b R.RX_STATUS_UNLOCK_CAUSE cause).raise (evLane n 1)
    else if old != 6 && st == 6 then s.raise (evLane n 1)
    else s
  rxFollow n old s

/-- NOCLK is left for CAL once the synthesiser is LOCKED and the active MODE lies in the octant's family (R101), with
the lane's analogue side ready (R447). -/
def rxTryClk (n : Nat) (s : State) : State :=
  if s.rxState n == 1 && s.synLocked (n / 8) && s.anaRdy n && modeFamily (s.rxMode n) == some (s.octFamily (n / 8)) then
    rxGo n 2 0 s
  else s

/-- The synthesiser leaves LOCKED (R101): the states of its table's row, which BURST is not of. A change of the octant's
family moves every lane, one in BURST too (`fam`, R5, R153). -/
def rxLoseClk (fam : Bool) (n : Nat) (s : State) : State :=
  if 2 ≤ s.rxState n ∧ (fam ∨ s.rxState n ≤ 6) then rxGo n 1 4 s else s

/-- ENABLE as it stands after a write (R101). -/
def rxEnableSync (n : Nat) (s : State) : State :=
  if s.on (laneB n) R.RX_CTRL_ENABLE then
    (if s.rxState n == 0 && s.domOn n then rxTryClk n (rxGo n 1 0 s) else s)
  else if s.rxState n == 0 then s else rxGo n 0 5 s

/-- Lane domain power-down (R101, R444). -/
def rxPowerDown (n : Nat) (s : State) : State := if s.rxState n == 0 then s else rxGo n 0 5 s

/-- BURST as it stands after a write on a Glint lane (R101, R209). -/
def rxBurstSync (n : Nat) (s : State) : State :=
  if s.on (laneB n) R.RX_CTRL_BURST then
    (if 3 ≤ s.rxState n ∧ s.rxState n ≤ 6 then rxGo n 7 5 s else s)
  else if s.rxState n == 7 then (if s.on (laneB n) R.RX_STATUS_LOS then rxGo n 3 0 s else rxGo n 4 0 s)
  else s

/-- LOS reads as a detector has it (R86): a change raises EV_LANE_RX_LOS and an assertion counts. -/
def losChange (n : Nat) (los : Bool) (s : State) : State :=
  let b := laneB n
  if s.on b R.RX_STATUS_LOS == los then s
  else
    let s := s.wr b R.RX_STATUS_LOS (b2n los)
    (if los then s.cnt b R.RX_CNT_LOS 1 else s).raise (evLane n 0)

/-- LOS asserts (R85, R86). -/
def rxLosAssert (n : Nat) (s : State) : State :=
  if s.rxState n < 3 ∨ s.rxState n == 7 ∨ s.on (laneB n) R.RX_STATUS_LOS then s
  else
    let s := losChange n true s
    if 4 ≤ s.rxState n ∧ s.rxState n ≤ 6 then rxGo n 3 1 s else s

/-- The deassert level in units of 4 mVppd (R85). -/
def losOffLevel (n : Nat) (s : State) : Nat :=
  let a := s.rd (laneB n) R.RX_LOS_CFG_ASSERT_TH
  let d := s.rd (laneB n) R.RX_LOS_CFG_DEASSERT_TH
  if d ≤ a then a + 1 else d

/-- LOS deasserts (R85, R86): SIGWAIT moves to FREQ from the last frequency estimate. -/
def rxLosDeassert (n : Nat) (s : State) : State :=
  if s.rxState n < 3 ∨ s.rxState n == 7 ∨ !s.on (laneB n) R.RX_STATUS_LOS then s
  else
    let s := losChange n false s
    if s.rxState n == 3 then rxGo n 4 0 s else s

/-- A gain step in force at once, held within 0 to 40 (R83). -/
def rxGainStep (n : Nat) (d : Int) (s : State) : State :=
  s.wr (laneB n) R.RX_GAIN_GAIN_ACT (clampI 0 40 ((s.rd (laneB n) R.RX_GAIN_GAIN_ACT : Nat) + d)).toNat

/-- The AGC moves the gain: AGC_EN = 1, outside OFF, NOCLK, CAL, SIGWAIT and the burst controller (R83, R84). -/
def agcMoves (n : Nat) (s : State) : Bool :=
  s.on (laneB n) R.RX_GAIN_AGC_EN && decide (4 ≤ s.rxState n ∧ s.rxState n ≤ 6)

/-- The end of an AGC period over the converter codes of that period (R82, R83): the step waits for the end of a cross-fade
in progress. -/
def rxAgc (n : Nat) (codes : List (BitVec 8)) (s : State) : State :=
  let b := laneB n
  let s := (s.wr b R.RX_LEVEL_RMS (min (rmsOf codes) 255)).cnt b R.RX_CNT_CLIP_CLIP (clippedCodes codes)
  if agcMoves n s then
    let d := agcStep (s.rd b R.RX_AGC_CFG_CLIP_TH) (s.rd b R.RX_AGC_CFG_TARGET) (s.rd b R.RX_AGC_CFG_DEADBAND) codes
    if s.on b R.EQ_STATUS_XF_BUSY then s.setRx n { s.rxOf n with agcDefer := d } else rxGainStep n d s
  else s

/-- The deferred AGC step is made at the end of the cross-fade (R83), where the AGC still moves the gain. -/
def rxAgcDeferred (n : Nat) (s : State) : State :=
  let d := (s.rxOf n).agcDefer
  if d == 0 then s
  else
    let s := s.setRx n { s.rxOf n with agcDefer := 0 }
    if agcMoves n s then rxGainStep n d s else s

/-- The frequency estimate returns to 0 (R101). -/
def rxFreqZero (n : Nat) (s : State) : State :=
  (s.setRx n { s.rxOf n with freq := 0 }).wr (laneB n) R.RX_TR_FREQ_FREQ 0

/-! Interleave calibration. -/

/-- Record a trim limit (R93): only the first since LIMIT was cleared. -/
def rxLimit (n idx kind : Nat) (s : State) : State :=
  let b := laneB n
  if s.on b R.RX_CAL_STATUS_LIMIT then s
  else ((((s.wr b R.RX_CAL_STATUS_LIMIT 1).wr b R.RX_STATUS_LIMIT 1).wr b R.RX_CAL_STATUS_LIMIT_IDX idx).wr b
    R.RX_CAL_STATUS_LIMIT_KIND kind).raise (evLane n 2)

/-- Set a trim, held at its range of wd signed bits, with the limit record (R93). -/
def rxTrim (n i kind wd : Nat) (f : Fld) (v : Int) (s : State) : State :=
  let lo : Int := -((2 ^ (wd - 1) : Nat) : Int)
  let hi : Int := ((2 ^ (wd - 1) : Nat) : Int) - 1
  let s := s.wr (Obj.trim n i).base f (trunc wd (clampI lo hi v))
  if v < lo ∨ hi < v then rxLimit n i kind s else s

/-- One sub-converter's update (R91); N samples, `tot` the sum of abs x over all sub-converters, `cntA` of them. Where that
sum is 0 the rule's division has no value: the gain step is a free value of 4 signed bits. -/
def rxRoundOne (n i smp omu gmu tot cntA : Nat) (m : RoundSum) (s : State) : State :=
  let b := laneB n
  let tb := (Obj.trim n i).base
  let s := if s.on b R.RX_CAL_CTRL_FREEZE_OFS then s
    else rxTrim n i 0 10 R.RX_TRIM_DATA_OFS (s.rdI tb R.RX_TRIM_DATA_OFS -
      clampI (-8) 8 (roundDiv (16 * m.1) (smp * 2 ^ 15 * 2 ^ omu))) s
  let s := if s.on b R.RX_CAL_CTRL_FREEZE_GAIN then s
    else
      let st : Int := if tot == 0 then sext 4 s.draw else roundDiv (2048 * ((cntA : Int) * m.2.1 - tot)) (tot * 2 ^ gmu)
      let s' := if tot == 0 then s.drawn else s
      rxTrim n i 1 10 R.RX_TRIM_DATA_GAIN (s.rdI tb R.RX_TRIM_DATA_GAIN - clampI (-8) 8 st) s'
  if s.on b R.RX_CAL_CTRL_FREEZE_SKEW then s
  else if (tot : Int) * tot < (Int.natAbs m.2.2 : Int) * (cntA * cntA * smp * 1024 : Nat) then
    rxTrim n i 2 8 R.RX_TRIM_DATA_SKEW (s.rdI tb R.RX_TRIM_DATA_SKEW - (if m.2.2 < 0 then -1 else 1)) s
  else s

/-- Every active sub-converter's update, less those whose written trims take effect at this boundary (R94). -/
def rxRoundAll (n smp omu gmu tot cntA : Nat) : List RoundSum → Nat → State → State
  | [], _, s => s
  | m :: ms, i, s =>
    let s := if (s.rxOf n).pendTrim.any (fun e => e.1 == i) then s else rxRoundOne n i smp omu gmu tot cntA m s
    rxRoundAll n smp omu gmu tot cntA ms (i + 1) s

/-- The trims written since the last boundary take effect (R94). -/
def rxTakeTrims (n : Nat) : List (Nat × Word) → State → State
  | [], s => s.setRx n { s.rxOf n with pendTrim := [] }
  | (i, w) :: r, s => rxTakeTrims n r (s.setReg ((Obj.trim n i).base + 0x48) w)

/-- The common skew is taken out of every active sub-converter (R91), less those whose written trims have just taken
effect, which start the next round as written (R94). -/
def rxCommonSkew (n cntA : Nat) (kept : List Nat) (s : State) : State :=
  if s.on (laneB n) R.RX_CAL_CTRL_FREEZE_SKEW then s
  else
    let ids := List.range cntA
    let sum := ids.foldl (fun a i => a + s.rdI (Obj.trim n i).base R.RX_TRIM_DATA_SKEW) (0 : Int)
    let c := roundDiv sum cntA
    (ids.filter (fun i => !kept.contains i)).foldl (fun s i => rxTrim n i 2 8 R.RX_TRIM_DATA_SKEW (s.rdI (Obj.trim n i).base R.RX_TRIM_DATA_SKEW - c) s) s

/-- The end of a calibration round (R91): updates, ROUNDS, and the 256th round of CAL (R92, R101). -/
def rxRound (n : Nat) (ms : List RoundSum) (s : State) : State :=
  let b := laneB n
  let st := s.rxState n
  let cal := st == 2
  if !(cal || (s.on b R.RX_CAL_CTRL_BG_EN && decide (3 ≤ st ∧ st ≤ 6))) then s
  else
    let cntA := activeSubs (s.rxMode n)
    let ms := ms.take cntA
    let smp := if cal then 1024 else 2 ^ (min (s.rd b R.RX_CAL_CTRL_CAL_LEN) 12 + 8)
    let omu := if cal then 0 else s.rd b R.RX_CAL_CTRL_OFS_MU
    let gmu := if cal then 0 else s.rd b R.RX_CAL_CTRL_GAIN_MU
    let tot := ms.foldl (fun a m => a + m.2.1) 0
    let s := rxRoundAll n smp omu gmu tot cntA ms 0 s
    let kept := (s.rxOf n).pendTrim.map Prod.fst
    let s := rxTakeTrims n (s.rxOf n).pendTrim s
    let s := rxCommonSkew n cntA kept s
    let s := s.cntW b R.RX_CAL_STATUS_ROUNDS 1
    if !cal then s
    else
      let x := s.rxOf n
      if x.calRounds + 1 < 256 then s.setRx n { x with calRounds := x.calRounds + 1 }
      else rxBurstSync n (rxGo n 3 0 (rxFreqZero n s))

/-- New trims of sub-converter i (R94): frozen kinds take effect at once, the others at the next round boundary. -/
def rxTrimPut (n i : Nat) (w : Word) (s : State) : State :=
  let b := laneB n
  if 96 ≤ i then s
  else
    let t := (Obj.trim n i).base
    let s := if s.on b R.RX_CAL_CTRL_FREEZE_OFS then s.wr t R.RX_TRIM_DATA_OFS (fget w 29 20) else s
    let s := if s.on b R.RX_CAL_CTRL_FREEZE_GAIN then s.wr t R.RX_TRIM_DATA_GAIN (fget w 19 10) else s
    let s := if s.on b R.RX_CAL_CTRL_FREEZE_SKEW then s.wr t R.RX_TRIM_DATA_SKEW (fget w 7 0) else s
    let x := s.rxOf n
    s.setRx n { x with pendTrim := x.pendTrim.filter (fun e => e.1 != i) ++ [(i, w &&& 0x3FFFFCFF)] }

/-- A write of TRIM_DATA (R94). -/
def rxTrimWrite (n : Nat) (w : Word) (s : State) : State := rxTrimPut n (s.rd (laneB n) R.RX_TRIM_SEL_INDEX) w s

/-! Timing recovery. -/

/-- The estimate lies outside −5,600 to +600 ppm (R98); units of 2^-6 ppm. -/
def freqLimited (f : Int) : Bool := decide (f < -5600 * 64) || decide (600 * 64 < f)

/-- The phase detector that steers the loop (R97): the non-data-aided one of the mode in FREQ and with PD_SEL = 1, else
Mueller–Müller. -/
def pdPick (n : Nat) (s : State) (x : PdOut) : Int :=
  if s.rxState n == 4 || s.on (laneB n) R.RX_TR_CFG_PD_SEL then (if s.rxMode n == 0 then x.line else x.two) else x.mm

/-- The end of a 1,024-CCLK timing-recovery window (R97, R99, R101): the loop over the window's detector outputs, the
estimate and the RMS error. Rows of R101 are tried in the order of its table. -/
def rxWindow (n : Nat) (pd : List PdOut) (s : State) : State :=
  let b := laneB n
  let st := s.rxState n
  if !(st == 4 || st == 5 || st == 6) then s
  else
    let es := pd.map (pdPick n s)
    let prev := s.rdI b R.RX_TR_FREQ_FREQ
    let x := s.rxOf n
    let loop := loopRun (s.rd b R.RX_TR_CFG_KP) (s.rd b R.RX_TR_CFG_KI) (s.rdI b R.RX_TR_CFG_PHASE_OFS) es (x.freq, x.phi)
    let freq := loopPpm loop.1 (symRate (s.rxMode n))
    let stable := if Int.natAbs (freq - prev) < 8 * 64 then x.stable + 1 else 0
    let lockN := if rmsBelow es (s.rd b R.RX_LOCK_CFG_LOCK_TH) then x.lockN + 1 else 0
    let unlockN := if rmsAbove es (s.rd b R.RX_LOCK_CFG_UNLOCK_TH) then x.unlockN + 1 else 0
    let lockT := max 1 (s.rd b R.RX_LOCK_CFG_LOCK_TIME)
    let unlockT := max 1 (s.rd b R.RX_LOCK_CFG_UNLOCK_TIME)
    let s := (s.wr b R.RX_TR_FREQ_FREQ (trunc 20 freq)).wr b R.RX_TR_PHASE_ERR_RMS (min (rmsErr es) 4095)
    let s := s.setRx n { x with
      stable := min stable 4, lockN := min lockN lockT, unlockN := min unlockN unlockT, phaseN := x.phaseN + 1,
      freq := loop.1, phi := loop.2 }
    if st == 4 && decide (4 ≤ stable) then
      let s := rxGo n 5 0 s
      s.setRx n { s.rxOf n with stable := 4 }
    else if st == 5 && decide (lockT ≤ lockN) && decide (4 ≤ stable) then rxGo n 6 0 s
    else if st == 5 && decide (16 * lockT ≤ x.phaseN + 1) then rxGo n 4 0 (rxFreqZero n s)
    else if st == 6 && decide (unlockT ≤ unlockN) then rxGo n 5 2 s
    else if freqLimited freq then rxFreqZero n (rxGo n 4 3 s)
    else s

/-- INJ_UNLOCK (R104). -/
def rxInjUnlock (n : Nat) (s : State) : State := if s.rxState n == 6 then rxGo n 5 6 s else s

/-- INJ_CAL (R104). -/
def rxInjCal (n : Nat) (s : State) : State := rxLimit n 0xFF 3 s

/-! The RX commit group (R103). -/

/-- The sum of the shadow pre-filter taps. -/
def pfSum (n : Nat) (s : State) : Int :=
  (List.range 4).foldl (fun a j =>
    a + sext 12 (s.rdSh (laneB n + 4 * j) R.RX_PF_COEF_TAP_EVEN) + sext 12 (s.rdSh (laneB n + 4 * j) R.RX_PF_COEF_TAP_ODD)) 0

/-- The agreement rules of the RX group on its shadows: the lowest failing cause, 0 where every rule holds (R103). -/
def rxRules (n : Nat) (s : State) : Nat :=
  let m := s.rdSh (laneB n) R.RX_CTRL_MODE
  if modeFamily m != some (s.octFamilyWas (n / 8)) then 1
  else if s.rdSh (laneB n) R.RX_PF_CTRL_CUSTOM == 1 && (decide (pfSum n s < 64) || decide (512 < pfSum n s)) then 2
  else if m == 6 || m == 7 then 3
  else 0

/-- What a commit of the RX group does beside the copy (R84, R101); `oldMode` is the active MODE before it, and `changed`
says that some active field changed (R126). A lane in LOCKED leaves it before Scout compares the new mode (R201). -/
def rxCommitted (n oldMode : Nat) (changed : Bool) (s : State) : State :=
  let b := laneB n
  let s := if changed then eqMark n 3 s else s
  let s := s.wr b R.RX_STATUS_MODE_ACT (s.rxMode n)
  let s := if s.rxState n == 7 then s.wr b R.ACQ_BURST_STAT_UNSUPP (b2n (s.rxMode n == 0)) else s
  let s := if s.on b R.RX_GAIN_AGC_EN || s.rxState n == 7 then s else s.wr b R.RX_GAIN_GAIN_ACT (min 40 (s.rd b R.RX_GAIN_GAIN_CODE))
  if s.rxMode n == oldMode then s
  else
  let s := eqRestart n (hazeFollow n s)
  if s.rxState n == 6 then rxGo n 5 5 s
  else if s.rxState n == 4 ∨ s.rxState n == 5 then rxGo n (s.rxState n) 0 s
  else rxTryClk n s

/-! Latencies and reference points (R53, R89, R123, R150). -/

/-- ceil(c / s) CCLK for c symbols in a mode (R87). -/
def cclkOf (mode c : Nat) : Nat := (c * 6800 + 64 * symRate mode - 1) / (64 * symRate mode)

/-- The fixed latencies of a mode: front end (R89) and transmit base (R150), in CCLK. -/
def rxLatency (mode : Nat) : Nat := [26, 26, 28, 32, 32, 40].getD mode 26
def txLatency (mode : Nat) : Nat := [18, 18, 20, 24, 24, 32].getD mode 18

/-- The equaliser's latency in CCLK (R123). -/
def eqLatency (m : Nat) (s : State) : Nat :=
  let b := laneB m
  let mode := s.rxMode m
  let c := cclkOf mode (s.rd b R.EQ_CTRL_CURSOR)
  if s.on b R.EQ_CTRL_TRELLIS_EN then 14 + c + cclkOf mode (if s.on b R.EQ_TRELLIS_TB then 64 else 32) else 10 + c

/-- The transmit FFE's main tap (R144): CURSOR above 8 acts as 8. -/
def txCursor (n : Nat) (s : State) : Nat := min 8 (s.rd (laneB n) R.TX_CTRL_CURSOR)

/-- What lane n takes from its pipeline's TLV for the receive reference point, in ticks (R53, R89, R123): the latency of its
present configuration, less the rotator's phase. DEDUCED: a positive phase samples later; part of a tick is dropped. -/
def rxComp (n : Nat) (s : State) : Int :=
  let r := max 1 (symRate (s.rxMode n))
  let c := rxLatency (s.rxMode n) + eqLatency n s
  ((c * 250 * s.coreM * r * 2 ^ 36 : Nat) - s.coreN * 1250 * (s.rxOf n).phi) / (s.coreN * r * 2 ^ 36 : Nat)

/-- A TLV of lane n's pipeline at the receive reference point. -/
def rxRef (n t : Nat) (s : State) : Nat := ((t : Int) - rxComp n s).toNat

/-- Some part of the waveform stage is on (R342). -/
def waveOn (n : Nat) (s : State) : Bool :=
  let b := laneB n
  s.on b R.HAZE_CTRL_ISI_EN || s.on b R.HAZE_CTRL_JIT_EN || s.on b R.HAZE_CTRL_NOISE_EN

/-- A TLV of lane n's transmit link input at the transmit reference point (R53, R150, R342). -/
def txRef (n t : Nat) (s : State) : Nat :=
  let mode := s.rd (laneB n) R.TX_CTRL_MODE
  let wave := waveOn n s
  t + s.cclkT (txLatency mode + cclkOf mode (txCursor n s) + (if wave then 6 else 0)) +
    (if wave then 4 * 1250 / max 1 (symRate mode) else 0)

end Sys2Proof.Machine
end

