-- ==== Sys2Proof/Machine/CoreOps.lean ====
section
/-! DEFINITION. Sequencer memories as bytes and little-endian words (R43, R358), interrupt lines of the cores (R373),
their mailboxes (R376) and the semaphores (R364, R365). -/

namespace Sys2Proof.Machine

/-! Memories. -/

/-- A byte of the sequencer memories at a host address; a byte that nothing has written reads 0. -/
def State.byte (s : State) (a : Nat) : Byte := look 0 s.mem a

/-- Store a byte. -/
def State.setByte (s : State) (a : Nat) (v : Byte) : State := { s with mem := put 0 s.mem a v }

/-- A little-endian word. -/
def State.word (s : State) (a : Nat) : Word :=
  BitVec.ofNat 32 ((s.byte a).toNat + (s.byte (a + 1)).toNat * 256 + (s.byte (a + 2)).toNat * 65536 +
    (s.byte (a + 3)).toNat * 16777216)

/-- Store a little-endian word. -/
def State.setWord (s : State) (a : Nat) (w : Word) : State :=
  (((s.setByte a (BitVec.ofNat 8 w.toNat)).setByte (a + 1) (BitVec.ofNat 8 (w.toNat / 256))).setByte (a + 2)
    (BitVec.ofNat 8 (w.toNat / 65536))).setByte (a + 3) (BitVec.ofNat 8 (w.toNat / 16777216))

/-- Store words at rising addresses. -/
def State.setWords (s : State) (a : Nat) : List Word → State
  | [] => s
  | w :: ws => (s.setWord a w).setWords (a + 4) ws

/-- Host address of a core's instruction memory and data memory (R43). -/
def imemB (k : Nat) : Nat := 0x00800000 + k * 0x20000
def dmemB (k : Nat) : Nat := 0x00810000 + k * 0x20000
/-- Host address of the shared memory (R43). -/
def sharedB : Nat := 0x00C00000

/-- A store to a core's memory; one to S0 is made in S1 too (R361). -/
def State.coreStore (s : State) (a : Nat) (w : Word) : State :=
  let s := s.setWord a w
  if 0x00A00000 ≤ a ∧ a < 0x00A20000 then s.setWord (a + 0x20000) w else s

/-! Cores. -/

/-- The index under which a core's state is held: S1 shares S0's (R366). -/
def coreIx (k : Nat) : Nat := if k == 17 then 16 else k

/-- What a core holds. -/
def State.coreOf (s : State) (k : Nat) : CoreSt := look CoreSt.reset s.cores (coreIx k)
def State.setCore (s : State) (k : Nat) (c : CoreSt) : State := { s with cores := put CoreSt.reset s.cores (coreIx k) c }

/-- The register base of SQ.CORE[k]. -/
def coreB (k : Nat) : Nat := sqB + 0x10 * k

/-- The run state of a core (SQ.CORE[k].STATUS.STATE). -/
def State.coreState (s : State) (k : Nat) : Nat := s.rd (coreB (coreIx k)) R.SQ_CORE_STATUS_STATE

/-- The run states in which the watchdog stops: RESET, HALTED and LOCKSTEP (R377). -/
def wdogStops (st : Nat) : Bool := st == 0 || st == 3 || st == 5

/-- The watchdog's count restarts (R377): it is held as the instant at which it began, or, while it stops, as the ticks
counted. -/
def wdogRestart (k : Nat) (s : State) : State :=
  s.setCore k { s.coreOf k with wdogAt := if wdogStops (s.coreState k) then 0 else s.now }

/-- Enter a run state; SQ.STATUS.HALTED follows states 3 to 5, and S1 follows S0. -/
def coreGo (k st : Nat) (s : State) : State :=
  let k := coreIx k
  let s := if wdogStops (s.coreState k) == wdogStops st then s
    else s.setCore k { s.coreOf k with wdogAt := s.now - (s.coreOf k).wdogAt }
  let h (s : State) (j : Nat) : State :=
    (s.wr (coreB j) R.SQ_CORE_STATUS_STATE st).setReg (sqB + 4)
      (fset (s.getReg (sqB + 4)) j j (b2n (decide (3 ≤ st))))
  if k == 16 then h (h s 16) 17 else h s k

/-- CSR numbers (R370). -/
def csrSTATUS : Nat := 0x010
def csrINTEN : Nat := 0x011
def csrINTPEND : Nat := 0x012
def csrTRAPBASE : Nat := 0x020
def csrTRAPPC : Nat := 0x021
def csrTRAPCAUSE : Nat := 0x022
def csrTRAPADDR : Nat := 0x023
def csrPERM : Nat := 0x024

/-- The stored word of a CSR. -/
def CoreSt.getCsr (c : CoreSt) (i : Nat) : Word := look 0 c.csr i
def CoreSt.setCsr (c : CoreSt) (i : Nat) (w : Word) : CoreSt := { c with csr := put 0 c.csr i w }

/-- CSRs of the non-maskable trap, the watchdog and the sampling unit (R370). -/
def csrNTRAPBASE : Nat := 0x030
def csrNTRAPPC : Nat := 0x031
def csrNTRAPCAUSE : Nat := 0x032
def csrNTRAPINFO : Nat := 0x033
def csrWDOG : Nat := 0x052
def csrSAMPLECFG : Nat := 0x060
def csrSAMPLEPER : Nat := 0x061
def csrSAMPLESTAT : Nat := 0x062

/-- A field of a CSR. -/
def CoreSt.csrF (c : CoreSt) (i hi lo : Nat) : Nat := fget (c.getCsr i) hi lo
def CoreSt.setCsrF (c : CoreSt) (i hi lo v : Nat) : CoreSt := c.setCsr i (fset (c.getCsr i) hi lo v)

/-- Set an interrupt line of a core pending (R373). -/
def coreIrq (k line : Nat) (s : State) : State := s.setCore k ((s.coreOf k).setCsrF csrINTPEND line line 1)

/-- Line 12's level: a counter overflow with OVF_INT, or a sample flag (R373). -/
def CoreSt.line12 (c : CoreSt) : Bool :=
  (List.range 8).any (fun i => c.csrF (0x040 + i) 28 28 == 1 && c.csrF (0x040 + i) 27 27 == 1) ||
    c.csrF csrSAMPLESTAT 11 10 != 0

/-- INT_PEND as it reads: lines 8 and 12 follow their sources (R373). -/
def CoreSt.pend (c : CoreSt) : Word :=
  fset (fset (c.getCsr csrINTPEND) 8 8 (b2n (!c.mbox.isEmpty))) 12 12 (b2n c.line12)

/-- A SIGNAL's entry arrives at a mailbox (R376). -/
def mboxArrive (k : Nat) (code stamp : Word) (s : State) : State :=
  let c := s.coreOf k
  if 8 ≤ c.mbox.length then
    let s := s.cnt (coreB (coreIx k)) R.SQ_CORE_STATUS_MBOX_LOST 1
    (if coreIx k == 16 then s.cnt (coreB 17) R.SQ_CORE_STATUS_MBOX_LOST 1 else s).raise 0x475
  else s.setCore k { c with mbox := c.mbox ++ [(code, stamp)] }

/-! Semaphores. -/

/-- The register base of SQ.SEM[i]. -/
def semB (i : Nat) : Nat := sqB + 4 * i

/-- A master reads a semaphore (R364): a free one is acquired. The word is what the read returns. -/
def semRead (i mid : Nat) (s : State) : State × Word :=
  let b := semB i
  if s.on b R.SQ_SEM_HELD then
    (s, fset (fset 0 31 31 1) 15 8 (s.rd b R.SQ_SEM_OWNER))
  else
    let s := (s.wr b R.SQ_SEM_HELD 1).wr b R.SQ_SEM_OWNER mid
    ({ s with semSince := put 0 s.semSince i (s.now + 1) }, fset (fset (fset 0 31 31 1) 30 30 1) 15 8 mid)

/-- A semaphore becomes free. -/
def semFree (i : Nat) (s : State) : State :=
  let b := semB i
  let s := (s.wr b R.SQ_SEM_HELD 0).wr b R.SQ_SEM_OWNER 0
  { s with semSince := eraseKey s.semSince i }

/-- A RELEASE write (R364): only the owner's acts. -/
def semRelease (i mid : Nat) (s : State) : State :=
  if s.on (semB i) R.SQ_SEM_HELD && s.rd (semB i) R.SQ_SEM_OWNER == mid then semFree i s else s

/-- A semaphore is freed without a RELEASE write (R365). -/
def semForce (i : Nat) (s : State) : State :=
  if s.on (semB i) R.SQ_SEM_HELD then ((semFree i s).cnt sqB R.SQ_LOCK_STAT_SEM_FORCED 1).raise 0x476 else s

/-- The semaphores that a master holds are freed (R365). -/
def semForceOf (mid : Nat) (s : State) : State :=
  let f (s : State) (i : Nat) : State :=
    if s.on (semB i) R.SQ_SEM_HELD && s.rd (semB i) R.SQ_SEM_OWNER == mid then semForce i s else s
  f (f s 0) 1

/-- The master ID of a core. -/
def coreMid (k : Nat) : Nat := if 16 ≤ k then 0x20 else 0x10 + k

end Sys2Proof.Machine
end

