-- ==== Sys2Proof/Machine/CommitBase.lean ====
section
/-! DEFINITION. Staged registers: copying a group's shadows (R74), reloading them (R77), the record of a rejected group
(R76), and the registers that a block reset returns to their reset values (R23, R46). -/

namespace Sys2Proof.Machine

/-- The fields of the register at a key. -/
def keyFlds (key : Nat) : List Fld :=
  let r :=
    if key < 2 ^ 32 then
      match place key with
      | .reg b off => findReg b off
      | _ => none
    else findReg (kindBlk (key / 2 ^ 44)) (key % 2 ^ 20)
  match r with
  | some d => d.flds
  | none => []

/-- The staged bits of the register at a key. -/
def stMask (key : Nat) : Word :=
  (keyFlds key).foldl (fun m f => if f.acc == .st then m ||| bitMask f.hi f.lo else m) 0

/-- The active word with its staged bits taken from the shadow. -/
def mergeSt (key : Nat) (active shadow : Word) : Word := (active &&& ~~~ stMask key) ||| (shadow &&& stMask key)

/-- The keys of a group that are listed: every other register of it has its shadow equal to its active value. -/
def groupKeys (p : Nat → Bool) (s : State) : List Nat :=
  ((s.shadow.map (·.1)) ++ (s.regs.map (·.1))).filter p

/-- Copy the shadows of a group into its active fields (R74). -/
def copyGroup (p : Nat → Bool) (s : State) : State :=
  (groupKeys p s).foldl (fun t k => t.setReg k (mergeSt k (t.getReg k) (t.getShadow k))) s

/-- Reload the shadows of a group from its active fields (R77). -/
def reloadGroup (p : Nat → Bool) (s : State) : State :=
  (groupKeys p s).foldl (fun t k => t.setShadow k (mergeSt k (t.getShadow k) (t.getReg k))) s

/-- Some staged field of the group differs from its active value. -/
def groupDiffers (p : Nat → Bool) (s : State) : Bool :=
  (groupKeys p s).any (fun k => mergeSt k (s.getReg k) (s.getShadow k) != s.getReg k)

/-- Keys from a block's base, over a span of addresses. -/
def keyIn (base len key : Nat) : Bool := decide (base ≤ key) && decide (key < base + len)

/-- Keys of the registers and objects of lane n that lie in the sub-range at offset `sub` (0x0000 RX ... 0x7000 BIAS). -/
def laneSub (n sub key : Nat) : Bool := keyIn (laneB n + sub) 0x1000 key

/-- The record of a rejected commit, its event, and REJECT of the entry that armed it (R76). -/
def rejectRec (cls inst cause : Nat) (entry : Option Nat) (s : State) : State :=
  let s := (((s.wr glbB R.GLB_COMMIT_REJECT_VALID 1).wr glbB R.GLB_COMMIT_REJECT_CAUSE cause).wr glbB
    R.GLB_COMMIT_REJECT_INDEX inst).wr glbB R.GLB_COMMIT_REJECT_CLASS cls
  let s := match entry with
    | some i => s.wr (Obj.act i).base R.TL_ACT_STATUS_REJECT 1
    | none => s
  s.raise 0x426

/-- A bank word is written in the present PCLK cycle: what it held is kept, for a commit of that cycle (R109). -/
def coefNote (k : Nat) (s : State) : State :=
  { s with lateCoef := s.lateCoef.filter (fun e => e.2.2 == s.pclk) ++ [(k, s.getReg k, s.pclk)] }

/-- A commit makes a bank active whose words lie at some keys: those written in its PCLK cycle were refused (R109). The words
are as before those writes, and `refuse` reports each. -/
def coefUndo (p : Nat → Bool) (refuse : State → State) (s : State) : State :=
  let mine := s.lateCoef.filter (fun e => p e.1 && e.2.2 == s.pclk)
  let s := mine.reverse.foldl (fun t e => refuse (t.setReg e.1 e.2.1)) s
  { s with lateCoef := s.lateCoef.filter (fun e => !p e.1) }

/-- Return the BLOCK registers among some keys to their reset values (R23). -/
def resetKeys (p : Nat → Bool) (s : State) : State :=
  let q := fun k => p k && keySrc k == some .block
  { s with regs := dropKeys q s.regs, shadow := dropKeys q s.shadow, latch := dropKeys p s.latch }

end Sys2Proof.Machine
end

