-- ==== Sys2Proof/Machine/EqDsp.lean ====
section
/-! DEFINITION. The arithmetic of the equaliser (04): FFE and fade (R107, R110), Mirror (R114, R115), DFE (R112), slicer
(R120, R122), Trellis (R116 to R119), the precoding decoder (R113), soft words (R121) and the statistics (R124, R127,
R131). Stage values are in 1/4 LSB, errors in 1/2048 LSB; a decision is its symbol number 0 to 3, NRZ using 0 and 3. -/

namespace Sys2Proof.Machine

/-- The level value of a symbol number (R106). -/
def levelOf (g : Nat) : Int := 2 * (g : Int) - 3

/-- A stage output in 1/4 LSB, held at ±1,023.75 LSB (R106). -/
def stageSat (x : Int) : Int := clampI (-4095) 4095 x

/-- The fields of a lane that its detection reads, with the units of R106. -/
structure EqCfg where
  pam : Bool
  amp : Int
  thr : Int × Int × Int
  d1 : Int
  h1 : Int
  h2 : Int
  dfe : Bool
  trellis : Bool
  depth : Nat
  lat : Nat
  precode : Bool
  scale : Nat
  cursor : Nat
  mirrorEn : Nat
  deriving DecidableEq, Repr

/-- A bank (R108): FFE taps, Mirror taps and delay of each window. -/
structure EqTaps where
  ffe : List Int
  mirror : List (Nat × List Int)
  deriving DecidableEq, Repr

/-! Slicer (R120 to R122). -/

/-- The thresholds, in 1/16 LSB. -/
def thresholds (c : EqCfg) : List Int :=
  if c.pam then [-(2 * c.amp) + 8 * c.thr.1, 8 * c.thr.2.1, 2 * c.amp + 8 * c.thr.2.2] else [8 * c.thr.2.1]

/-- The slicer's decision on a value: a value equal to a threshold takes the higher level. -/
def slice (c : EqCfg) (z : Int) : Nat :=
  let g := (thresholds c).countP (fun t => decide (t ≤ 4 * z))
  if c.pam then g else 3 * g

/-- The distance to the nearest threshold, in 1/16 LSB. -/
def sliceDist (c : EqCfg) (z : Int) : Nat :=
  (thresholds c).foldl (fun m t => min m (4 * z - t).natAbs) (4 * z - c.thr.2.1 * 8).natAbs

/-- The slicer's reliability (R122). -/
def sliceRel (c : EqCfg) (z : Int) : Nat :=
  min 3 (4 * sliceDist c z / max 1 ((if c.pam then c.amp else 3 * c.amp).toNat))

/-- The 2 bits of a symbol number in the Gray mapping (R121), and back. -/
def grayOf (g : Nat) : Nat := match g with | 0 => 0 | 1 => 1 | 2 => 3 | _ => 2
def ungray (b : Nat) : Nat := match b with | 0 => 0 | 1 => 1 | 3 => 2 | _ => 3

/-- The soft-decision word (R121). -/
def softWord (g r : Nat) : BitVec 4 := BitVec.ofNat 4 (grayOf g * 4 + r)

/-! Trellis (R116 to R119). -/

/-- The symbol numbers of a mode. -/
def symbolsOf (pam : Bool) : List Nat := if pam then [0, 1, 2, 3] else [0, 3]

/-- The metric of a branch (R116): `a` now, `b` and `d` the two decisions before it; reduced, h2 is ignored (R118). -/
def modelOf (c : EqCfg) (reduced : Bool) (a b d : Nat) : Int :=
  c.amp * (128 * levelOf a + c.h1 * levelOf b + (if reduced then 0 else c.h2 * levelOf d))

/-- BM = min(1,023, floor((u - û)² / 16)), u and û in LSB. -/
def branchMetric (c : EqCfg) (reduced : Bool) (u : Int) (a b d : Nat) : Nat :=
  min 1023 ((512 * u - modelOf c reduced a b d).natAbs ^ 2 / (2048 ^ 2 * 16))

/-- Metric x is less than y: the sign of their 14-bit difference (R117). -/
def metricLess (x y : Nat) : Bool := decide (2 ^ 13 ≤ (x + 2 ^ 14 - y % 2 ^ 14) % 2 ^ 14)

/-- The path of least metric; the earlier of a tie, which has the smaller state index (R117). -/
def leastPath : List Path → Option Path
  | [] => none
  | p :: r => match leastPath r with
    | none => some p
    | some q => if metricLess q.metric p.metric then some q else some p

/-- What a discarded path tells of the kept path's decisions (R122): where the decisions differ, the difference of the
metrics bounds the reliability. -/
def marginOver (diff : Nat) : List (Nat × Option Nat) → List (Nat × Option Nat) → List (Nat × Option Nat)
  | (g, r) :: k, (g', _) :: l =>
    (g, if g == g' then r else some (match r with | none => diff | some x => min x diff)) :: marginOver diff k l
  | k, _ => k

/-- Add-compare-select at one state reached by decision `a` (R117): the paths that may enter it, extended. -/
def selectPath (c : EqCfg) (reduced : Bool) (u : Int) (a : Nat) (from_ : List Path) : Option Path :=
  let ext := from_.map (fun p =>
    { p with metric := (p.metric + branchMetric c reduced u a p.a1 p.a2) % 2 ^ 14 })
  match leastPath ext with
  | none => none
  | some w =>
    let decs := ext.foldl (fun l p => if p == w then l
      else marginOver ((p.metric + 2 ^ 14 - w.metric) % 2 ^ 14) l p.decs) w.decs
    some ⟨a, if reduced then 0 else w.a1, w.metric, ((a, none) :: decs).take (c.depth + 1)⟩

/-- A detector at its start: every state with metric 0 and no decision. The spec gives no start (DESIGN CHOICE). -/
def trellisStart (pam reduced : Bool) : Trellis :=
  let syms := symbolsOf pam
  ⟨reduced, if reduced then syms.map (fun a => ⟨a, 0, 0, []⟩)
    else syms.flatMap (fun a => syms.map (fun b => ⟨a, b, 0, []⟩))⟩

/-- One symbol of the detector. -/
def trellisStep (c : EqCfg) (u : Int) (t : Trellis) : Trellis :=
  let syms := symbolsOf c.pam
  let ps := if t.reduced then syms.filterMap (fun a => selectPath c true u a t.paths)
    else syms.flatMap (fun a => syms.filterMap (fun b => selectPath c false u a (t.paths.filter (fun p => p.a1 == b))))
  { t with paths := ps }

/-- The decision released after the traceback depth, from the state of least metric (R117), with its reliability (R122). -/
def trellisRelease (c : EqCfg) (t : Trellis) : Option (Nat × Nat) :=
  match leastPath t.paths with
  | none => none
  | some p => (p.decs[c.depth]?).map (fun d => (d.1, match d.2 with | none => 3 | some x => min 3 (x / max 1 c.scale)))

/-- Entering the reduced mode (R118): each state a1 takes the least of the full states (a1, a2). -/
def trellisReduce (pam : Bool) (t : Trellis) : Trellis :=
  ⟨true, (symbolsOf pam).filterMap (fun a =>
    (leastPath (t.paths.filter (fun p => p.a1 == a))).map (fun p => { p with a2 := 0 }))⟩

/-- Leaving it: each full state (a1, a2) takes the metric and survivor of reduced state a1. -/
def trellisExpand (pam : Bool) (t : Trellis) : Trellis :=
  ⟨false, t.paths.flatMap (fun p => (symbolsOf pam).map (fun b => { p with a2 := b }))⟩

/-! The chain of one lane, symbol by symbol. -/

/-- What the chain holds after some symbols: decisions released and tentative (newest first), its inputs to the detector
(newest first), the detector, and for each released decision its error, its reliability and its soft word (newest first). -/
structure EqRun where
  fin : List Nat
  tent : List Nat
  us : List Int
  det : Trellis
  errs : List Int
  rels : List Nat
  soft : List (BitVec 4)
  deriving DecidableEq, Repr

/-- The level value of the entry d symbols before symbol k among n decisions held newest first; 0 before the first. -/
def levelBack (l : List Nat) (k d : Nat) : Int :=
  if d ≤ k ∧ k - d < l.length then levelOf (l.getD (l.length - 1 - (k - d)) 0) else 0

/-- The decision that a Mirror tap of delay d uses at symbol k (R115): final where the delay reaches the decision latency,
else tentative. -/
def mirrorLevel (c : EqCfg) (r : EqRun) (k d : Nat) : Int :=
  if c.lat + (if c.trellis then c.depth else 0) ≤ d then levelBack r.fin k d else levelBack r.tent k d

/-- The enabled windows' taps with their delays. -/
def mirrorTaps (c : EqCfg) (b : EqTaps) : List (Nat × Int) :=
  (List.range 3).flatMap (fun w =>
    if c.mirrorEn / 2 ^ w % 2 == 1 then
      match b.mirror[w]? with
      | some (d, ms) => (List.range 32).map (fun j => (d + j, ms.getD j 0))
      | none => []
    else [])

/-- M_k of a bank in 1/64 LSB, at full precision (R114). -/
def mirrorSum (c : EqCfg) (b : EqTaps) (r : EqRun) (k : Nat) : Int :=
  ((mirrorTaps c b).map (fun m => m.2 * mirrorLevel c r k m.1)).sum

/-- y_k of a bank (R107). -/
def ffeOut (c : EqCfg) (b : EqTaps) (p : List Int) (k : Nat) : Int := stageSat (roundDiv (firSum b.ffe p k c.cursor) 512)

/-- u_k: the bank's FFE output less its Mirror term (R110). -/
def bankOut (c : EqCfg) (b : EqTaps) (p : List Int) (r : EqRun) (k : Nat) : Int :=
  stageSat (roundDiv (16 * ffeOut c b p k - mirrorSum c b r k) 16)

/-- The law of the cross-fade at i symbols after the switch, over len symbols (R110, R146). -/
def fadeMix (old new : Int) (i len : Nat) : Int :=
  if len ≤ i then new else roundDiv (len * old + (i + 1 : Int) * (new - old)) len

/-- The length of a fade in symbols (R110, R146): XF_LEN above 0xA acts as 0xA. -/
def fadeLen (xf : Nat) : Nat := 2 ^ (min xf 10 + 4)

/-- A switch of banks in a stretch: the symbol k0 of it, the outgoing bank and the fade's length. -/
structure EqFade where
  k0 : Nat
  old : EqTaps
  len : Nat
  deriving DecidableEq, Repr

/-- u_k as the detector gets it (R110). -/
def detectorIn (c : EqCfg) (b : EqTaps) (f : Option EqFade) (p : List Int) (r : EqRun) (k : Nat) : Int :=
  let new := bankOut c b p r k
  match f with
  | none => new
  | some f =>
    if k < f.k0 then bankOut c f.old p r k
    else if k < f.k0 + f.len then fadeMix (bankOut c f.old p r k) new (k - f.k0) f.len
    else new

/-- A decision is released: the precoding decoder (R113) and the soft word (R121). -/
def releaseDec (c : EqCfg) (g rel : Nat) (e : Int) (r : EqRun) : EqRun :=
  let word := if c.precode && c.pam then
      softWord ((g + r.fin.head?.getD 0) % 4) (min rel (r.rels.head?.getD rel))
    else softWord g rel
  { r with fin := g :: r.fin, errs := e :: r.errs, rels := rel :: r.rels, soft := word :: r.soft }

/-- Symbol k of the chain: FFE, Mirror, then the slicer after the DFE, or Trellis. -/
def eqSymbol (c : EqCfg) (b : EqTaps) (f : Option EqFade) (p : List Int) (r : EqRun) (k : Nat) : EqRun :=
  let u := detectorIn c b f p r k
  let r := { r with tent := slice c (ffeOut c b p k) :: r.tent, us := u :: r.us }
  if c.trellis then
    let t := trellisStep c u r.det
    let r := { r with det := t }
    match trellisRelease c t with
    | none => r
    | some (g, rel) =>
      let a1 := r.fin.head?.map levelOf |>.getD 0
      let a2 := (r.fin[1]?).map levelOf |>.getD 0
      let m := c.amp * (128 * levelOf g + c.h1 * a1 + (if t.reduced then 0 else c.h2 * a2))
      releaseDec c g rel (512 * r.us.getD c.depth 0 - m) r
  else
    let prev := r.fin.head?.map levelOf |>.getD 0
    let z := if c.dfe then stageSat (roundDiv (4 * u - c.d1 * prev) 4) else u
    let g := slice c z
    releaseDec c g (sliceRel c z) (128 * (4 * z - c.amp * levelOf g)) r

/-- The chain over a stretch of pre-filter outputs. -/
def eqRun (c : EqCfg) (b : EqTaps) (f : Option EqFade) (p : List Int) (det : Trellis) : EqRun :=
  (List.range p.length).foldl (eqSymbol c b f p) ⟨[], [], [], det, [], [], []⟩

/-! Statistics (R124, R127, R131). -/

/-- A mean as the engine pushes it (R125): `sum` over n symbols in units of 2^-u of its unit, in units of 2^-8. DESIGN
CHOICE: the spec gives no rounding of a mean; a half goes away from zero. -/
def statMean (sum : Int) (n u : Nat) : Int := roundDiv (sum * 2 ^ 8) (n * 2 ^ u)

/-- Sums over the n symbols from `lead` of e_k times another quantity. -/
def errSum (errs : List Int) (lead n : Nat) (x : Nat → Int) : Int :=
  ((List.range n).map (fun i => errs.getD (lead + i) 0 * x (lead + i))).sum

/-- The means of a block of kind 0 (R124, R125): E, P, S_A, S_1, S_2, G_0 to G_63, and the 96 H. -/
def eqMeans (c : EqCfg) (b : EqTaps) (p : List Int) (r : EqRun) (lead n : Nat) : List Int :=
  let errs := r.errs.reverse
  let s (x : Nat → Int) := errSum errs lead n x
  [statMean (s (fun k => errs.getD k 0)) n 22,
   statMean (((List.range n).map (fun i => p.getD (lead + i) 0 ^ 2)).sum) n 4,
   statMean (s (fun k => levelBack r.fin k 0)) n 11, statMean (s (fun k => levelBack r.fin k 1)) n 11,
   statMean (s (fun k => levelBack r.fin k 2)) n 11] ++
  (List.range 64).map (fun i => statMean (s (fun k => tapAt p k c.cursor i)) n 13) ++
  (List.range 3).flatMap (fun w => (List.range 32).map (fun j =>
    statMean (s (fun k => mirrorLevel c r k (((b.mirror[w]?).map Prod.fst |>.getD 64) + j))) n 11))

/-- The means Q[0] to Q[255] of a scan block from a first delay (R127), which is held within 64 to 16,160. -/
def scanMeans (c : EqCfg) (r : EqRun) (lead n start : Nat) : List Int :=
  let d := max 64 (min start 16160)
  (List.range 256).map (fun i =>
    statMean (errSum r.errs.reverse lead n (fun k => mirrorLevel c r k (d + i))) n 11)

/-- The mean of e_k² over the symbols of a stretch from `lead`, 1/16 LSB² (R131). -/
def mseMean (r : EqRun) (lead : Nat) : Nat :=
  let es := r.errs.reverse.drop lead
  (es.map (fun e => e.natAbs ^ 2)).sum / (max 1 es.length * 2 ^ 18)

end Sys2Proof.Machine
end

