-- ==== Sys2Proof/Machine/EqOps.lean ====
section
/-! DEFINITION. The equaliser's control (04): bank writes and loads (R109, R128), cross-fades (R110, R111), the statistics
engine (R125 to R127, R129), the MSE monitor (R131), the Trellis mode (R118) and the EQ commit rules (R132). -/

namespace Sys2Proof.Machine

/-- The DIM throttle requests reduced Trellis, or FORCE4 is active (R118). -/
def trellisRequest (n : Nat) (s : State) : Bool :=
  s.on (laneB n) R.EQ_TRELLIS_FORCE4 || s.on (laneB n) R.EQ_STATUS_THROTTLED

/-- ALARM with a cause, and its event (R109, R126, R136). -/
def eqAlarm (n cause : Nat) (s : State) : State :=
  ((s.wr (laneB n) R.EQ_STATUS_ALARM 1).wr (laneB n) R.EQ_STATUS_ALARM_CAUSE cause).raise (evLane n 4)

/-- The active bank. -/
def State.eqBank (s : State) (n : Nat) : Nat := s.rd (laneB n) R.EQ_CTRL_ACT_BANK

/-- A write or load of a bank is refused (R109). -/
def eqBankBusy (n bank : Nat) (s : State) : Bool :=
  bank == s.eqBank n || (s.on (laneB n) R.EQ_STATUS_XF_BUSY && bank == (s.eqOf n).outBank) ||
    (s.on (laneB n) R.EQ_STATUS_LOAD_BUSY && bank == (s.eqOf n).loadBank)

/-- A refused write (cause 1) or load (cause 2) (R109). -/
def eqRefuse (n cause : Nat) (s : State) : State := eqAlarm n cause (s.cnt (laneB n) R.EQ_CNT_REFUSED 1)

/-- How many indices a coefficient set has (EQ.COEF_SEL). -/
def eqSetLen (set : Nat) : Nat := match set with | 0 => 32 | 1 => 48 | 2 => 3 | _ => 0

/-- The bits of COEF_DATA that a set uses. -/
def eqSetMask (set : Nat) : Word := match set with | 0 => 0x0FFF0FFF | 1 => 0x03FF03FF | 2 => 0x00007FFF | _ => 0

/-- AUTO_INC of COEF_SEL after a COEF_DATA access. -/
def eqAutoInc (n : Nat) (s : State) : State :=
  let b := laneB n
  if s.on b R.EQ_COEF_SEL_AUTO_INC then
    let i := s.rd b R.EQ_COEF_SEL_INDEX
    s.wr b R.EQ_COEF_SEL_INDEX (if eqSetLen (s.rd b R.EQ_COEF_SEL_SET) ≤ i + 1 then 0 else i + 1)
  else s

/-- The key of the coefficient word that COEF_SEL names, where it names one. -/
def eqSelKey (n : Nat) (s : State) : Option Nat :=
  let b := laneB n
  let set := s.rd b R.EQ_COEF_SEL_SET
  let i := s.rd b R.EQ_COEF_SEL_INDEX
  if i < eqSetLen set then some ((Obj.eqCoef n (s.rd b R.EQ_COEF_SEL_BANK) set i).base + 0x1018) else none

/-- A write of COEF_DATA (R109). DESIGN CHOICE: a refused write has no effect, so that AUTO_INC does not move INDEX either. -/
def eqCoefWrite (n : Nat) (w : Word) (s : State) : State :=
  match eqSelKey n s with
  | none => eqAutoInc n s
  | some k =>
    if eqBankBusy n (s.rd (laneB n) R.EQ_COEF_SEL_BANK) s then eqRefuse n 1 s
    else eqAutoInc n ((coefNote k s).setReg k (w &&& eqSetMask (s.rd (laneB n) R.EQ_COEF_SEL_SET)))

/-- A statistics block starts, or waits for a fade or load (R127, R129). -/
def eqStatBegin (n : Nat) (s : State) : State :=
  -- DESIGN CHOICE: a START that waits is dropped where FREEZE is 1 when it is tried again, as one written then is.
  let b := laneB n
  if s.on b R.EQ_CTRL_FREEZE then (s.setEq n { s.eqOf n with stat := 0 }).wr b R.EQ_STATUS_STAT_BUSY 0
  else if s.on b R.EQ_STATUS_XF_BUSY || s.on b R.EQ_STATUS_LOAD_BUSY then s.setEq n { s.eqOf n with stat := 1 }
  else
    let s := s.setEq n { s.eqOf n with stat := 2, reasons := 0, kind := if s.rd b R.EQ_STAT_CTRL_KIND == 1 then 1 else 0 }
    let s := s.wr b R.EQ_STATUS_STAT_BUSY 1
    if s.rxState n == 6 then s else eqMark n 1 s

/-- A START of STAT_CTRL (R127): ignored while a block runs and while FREEZE = 1. DESIGN CHOICE: a block runs until its
push has completed, as STAT_BUSY shows it. -/
def eqStatStart (n : Nat) (s : State) : State := if (s.eqOf n).stat ≤ 1 then eqStatBegin n s else s

/-- A waiting START is tried again once a fade or load has ended (R127). -/
def eqStatRetry (n : Nat) (s : State) : State := if (s.eqOf n).stat == 1 then eqStatBegin n s else s

/-- EQ.LOAD START (R128): refused as in R109. -/
def eqLoadStart (n : Nat) (s : State) : State :=
  let b := laneB n
  let bank := s.rd b R.EQ_LOAD_BANK
  if s.on b R.EQ_STATUS_LOAD_BUSY || eqBankBusy n bank s then eqRefuse n 2 s
  else ((s.wr b R.EQ_STATUS_LOAD_BUSY 1).wr b R.EQ_LOAD_BUSY 1).setEq n
    { s.eqOf n with loadBank := bank, loadSrc := s.rd b R.EQ_LOAD_SRC, loadParts := s.rd b R.EQ_LOAD_PARTS }

/-- Copy image words from core data memory into a set of a bank (R128). -/
def eqCopySet (n bank set src : Nat) (s : State) : State :=
  (List.range (eqSetLen set)).foldl
    (fun s' i => s'.setReg ((Obj.eqCoef n bank set i).base + 0x1018) (s.word (src + 4 * i) &&& eqSetMask set)) s

/-- The load completes (R128): the parts copied are those that PARTS named at its start. -/
def eqLoadDone (n : Nat) (s : State) : State :=
  let b := laneB n
  if !s.on b R.EQ_STATUS_LOAD_BUSY then s
  else
    let bank := (s.eqOf n).loadBank
    let parts := (s.eqOf n).loadParts
    let src := dmemB (n / 4) + (s.eqOf n).loadSrc * 512
    let s := if parts % 2 == 1 then eqCopySet n bank 0 src s else s
    let s := if 2 ≤ parts then eqCopySet n bank 2 (src + 320) (eqCopySet n bank 1 (src + 128) s) else s
    eqStatRetry n ((s.wr b R.EQ_STATUS_LOAD_BUSY 0).wr b R.EQ_LOAD_BUSY 0)

/-- The last symbol of the equaliser's cross-fade (R110): FADES counts and a deferred AGC step is made (R83). -/
def eqFadeEnd (n : Nat) (s : State) : State :=
  let b := laneB n
  if !s.on b R.EQ_STATUS_XF_BUSY then s
  else eqStatRetry n (rxAgcDeferred n ((s.wr b R.EQ_STATUS_XF_BUSY 0).cnt b R.EQ_CNT_FADES 1))

/-! The lane's detection (R106 to R124). -/

/-- The trims, polarity and pre-filter of lane n over a stretch: one value p per symbol, 1/4 LSB (R82, R87, R88, R95). -/
def rxSymbols (n : Nat) (x : RxStretch) (s : State) : List Int :=
  let b := laneB n
  let mode := s.rxMode n
  let neg := s.on b R.RX_CTRL_POLARITY
  let xs := x.codes.mapIdx (fun i c =>
    let t := (Obj.trim n ((x.sub + i) % activeSubs mode)).base
    polarity neg (subCorrect (s.rdI t R.RX_TRIM_DATA_OFS) (s.rdI t R.RX_TRIM_DATA_GAIN) c))
  let taps := if s.on b R.RX_PF_CTRL_CUSTOM then
      (List.range 8).map (fun i => s.rdI (b + 4 * (i / 2)) (if i % 2 == 0 then R.RX_PF_COEF_TAP_EVEN else R.RX_PF_COEF_TAP_ODD))
    else presetTaps (s.rd b R.RX_PF_CTRL_PRESET) (mode != 0)
  symbolValues taps xs (mode != 0)

/-- The decision latency of a mode, in symbols (R115). -/
def decisionLatency (mode : Nat) : Nat := [384, 192, 96, 48, 47, 19].getD mode 384

/-- Trellis runs reduced (R118). -/
def State.trellisReduced (s : State) (n : Nat) : Bool := s.on (laneB n) R.EQ_STATUS_STATES_ACT

/-- The fields that lane n's detection reads (R106, R112 to R122). -/
def eqCfg (n : Nat) (s : State) : EqCfg :=
  let b := laneB n
  { pam := modeFamily (s.rxMode n) == some 0
    amp := s.rd b R.EQ_SLICER_AMP
    thr := (s.rdI b R.EQ_THR_THR_LO, s.rdI b R.EQ_THR_THR_MID, s.rdI b R.EQ_THR_THR_HI)
    d1 := s.rdI b R.EQ_FB_D1
    h1 := s.rdI b R.EQ_FB_H1
    h2 := s.rdI b R.EQ_FB_H2
    dfe := s.on b R.EQ_CTRL_DFE_EN
    trellis := s.on b R.EQ_CTRL_TRELLIS_EN
    depth := if s.on b R.EQ_TRELLIS_TB then 64 else 32
    lat := decisionLatency (s.rxMode n)
    precode := s.on b R.EQ_CTRL_PRECODE
    scale := s.rd b R.EQ_TRELLIS_SOFT_SCALE
    cursor := s.rd b R.EQ_CTRL_CURSOR
    mirrorEn := s.rd b R.EQ_CTRL_MIRROR_EN }

/-- A coefficient of a bank: the pair word at an index of a set, its low or high part (EQ.COEF_DATA). -/
def eqCoef (n bank set i : Nat) (high : Bool) (wd : Nat) (s : State) : Int :=
  let w := s.getReg ((Obj.eqCoef n bank set i).base + 0x1018)
  sext wd (if high then fget w 27 16 else fget w 14 0)

/-- The delay D_w of a bank (R108). -/
def eqDelay (n bank w : Nat) (s : State) : Nat := fget (s.getReg ((Obj.eqCoef n bank 2 w).base + 0x1018)) 14 0

/-- A bank's taps and delays (R108). -/
def eqTaps (n bank : Nat) (s : State) : EqTaps :=
  { ffe := (List.range 64).map (fun i => eqCoef n bank 0 (i / 2) (i % 2 == 1) 12 s)
    mirror := (List.range 3).map (fun w => (eqDelay n bank w s,
      (List.range 32).map (fun j => eqCoef n bank 1 (16 * w + j / 2) (j % 2 == 1) 10 s))) }

/-- The fade that starts in a stretch (R110). -/
def eqFadeOf (n : Nat) (x : RxStretch) (s : State) : Option EqFade :=
  x.k0.map (fun k => ⟨k, eqTaps n (s.eqOf n).outBank s, fadeLen (s.rd (laneB n) R.EQ_CTRL_XF_LEN)⟩)

/-- The detector as it stands, or at its start in the mode in force. -/
def eqDet (n : Nat) (s : State) : Trellis :=
  let d := (s.eqOf n).det
  if d.paths.isEmpty then trellisStart (eqCfg n s).pam (s.trellisReduced n) else d

/-- Lane n's detection over a stretch, from its converter codes to soft words. -/
def eqDetect (n : Nat) (x : RxStretch) (s : State) : EqRun :=
  eqRun (eqCfg n s) (eqTaps n (s.eqBank n) s) (eqFadeOf n x s) (rxSymbols n x s) (eqDet n s)

/-- A mean in units of 2^-8, saturated to a signed 32-bit word (R125). -/
def satMean (x : Int) : Word := BitVec.ofNat 32 (trunc 32 (clampI (-(2 ^ 31)) (2 ^ 31 - 1) x))

/-- The first applicable reason of a block (R126). -/
def firstReason (r : Nat) : Nat := ((List.range 6).find? (fun i => r / 2 ^ i % 2 == 1)).getD 0

/-- The symbols of a block (R124): BLK above 0xA acts as 0xA. -/
def blockLen (n : Nat) (s : State) : Nat := 2 ^ (min (s.rd (laneB n) R.EQ_STAT_CTRL_BLK) 10 + 10)

/-- The means of the block whose symbols a stretch gives (R124, R127). -/
def blockMeans (n : Nat) (x : RxStretch) (s : State) : List Int :=
  let c := eqCfg n s
  let r := eqDetect n x s
  if (s.eqOf n).kind == 1 then scanMeans c r x.lead (blockLen n s) (s.rd (laneB n) R.EQ_SCAN_START_DLY)
  else eqMeans c (eqTaps n (s.eqBank n) s) (rxSymbols n x s) r x.lead (blockLen n s)

/-- The end of a statistics block (R125): its means go to the core's data memory, the header last (R126). -/
def eqStatEnd (n : Nat) (y : RxStretch) (s : State) : State :=
  let b := laneB n
  let x := s.eqOf n
  if x.stat != 2 then s
  else
    let ms := blockMeans n y s
    let sat := ms.any (fun m => decide (m < -(2 ^ 31)) || decide ((2 ^ 31 - 1 : Int) < m))
    let s := if sat then eqAlarm n 4 (eqMark n 5 s) else s
    let x := s.eqOf n
    let dest := s.rd b R.EQ_STAT_CTRL_DEST
    let reason := firstReason x.reasons
    let seq := (s.rd b R.EQ_STAT_CTRL_SEQ + 1) % 256
    let hdr := BitVec.ofNat 32 (b2n (x.reasons == 0) * 2 ^ 31 + x.kind * 2 ^ 28 + reason * 2 ^ 24 + seq * 2 ^ 16)
    (s.setWords (dmemB (n / 4) + dest * 2048 + 4) (ms.map satMean)).setEq n
      { x with stat := 3, seq := seq, header := hdr, dest := dest }

/-- The push completes (R126): header, SEQ, the core's push interrupt; with CONT the next block (R127). -/
def eqPushDone (n : Nat) (s : State) : State :=
  let b := laneB n
  let x := s.eqOf n
  if x.stat != 3 then s
  else
    let s := s.setWord (dmemB (n / 4) + x.dest * 2048) x.header
    let s := coreIrq (n / 4) (n % 4) (s.wr b R.EQ_STAT_CTRL_SEQ x.seq)
    let s := (s.setEq n { x with stat := 0, reasons := 0, header := 0 }).wr b R.EQ_STATUS_STAT_BUSY 0
    if s.on b R.EQ_STAT_CTRL_CONT then eqStatBegin n s else s

/-- The falling level of the MSE monitor (R131). -/
def mseLow (n : Nat) (s : State) : Nat :=
  let hi := s.rd (laneB n) R.EQ_MSE_CFG_MSE_HI
  let lo := s.rd (laneB n) R.EQ_MSE_CFG_MSE_LO
  if hi ≤ lo then hi - 1 else lo

/-- The end of a 65,536-symbol MSE window (R131), whose symbols the stretch gives: the mean of e² in 1/16 LSB², truncated.
INJ_MSE takes it as above MSE_HI (R136). These windows follow each other, so the detector goes on from each (R117). -/
def eqMseEnd (n : Nat) (y : RxStretch) (s : State) : State :=
  let b := laneB n
  if s.rxState n != 6 then s
  else
    let r := eqDetect n y s
    let mean := mseMean r y.lead
    let x := s.eqOf n
    let s := (s.wr b R.EQ_MSE_MSE (min mean 0xFFFF)).setEq n
      { x with injMse := false, det := if s.on b R.EQ_CTRL_TRELLIS_EN then r.det else x.det }
    let high := s.on b R.EQ_STATUS_MSE_HIGH
    let up := x.injMse || decide (s.rd b R.EQ_MSE_CFG_MSE_HI < mean)
    if up then (if high then s else (s.wr b R.EQ_STATUS_MSE_HIGH 1).raise (evLane n 3))
    else if high && decide (mean < mseLow n s) then (s.wr b R.EQ_STATUS_MSE_HIGH 0).raise (evLane n 3)
    else s

/-- Trellis changes mode at a CCLK (R118): metrics and survivors pass between the full and the reduced states. -/
def eqTrellisMode (n : Nat) (s : State) : State :=
  let want := trellisRequest n s
  if want == s.on (laneB n) R.EQ_STATUS_STATES_ACT then s
  else
    let x := s.eqOf n
    let pam := (eqCfg n s).pam
    let det := if x.det.paths.isEmpty then x.det else if want then trellisReduce pam x.det else trellisExpand pam x.det
    eqMark n 4 ((s.setEq n { x with det := det }).wr (laneB n) R.EQ_STATUS_STATES_ACT (b2n want))

/-- Rule 0x3 of R132: the enabled windows' delays lie in 64 to 16,384 and their spans do not overlap. -/
def eqMirrorOk (n bank en : Nat) (s : State) : Bool :=
  let ws := (List.range 3).filter (fun w => en / 2 ^ w % 2 == 1)
  ws.all (fun w => decide (64 ≤ eqDelay n bank w s) && decide (eqDelay n bank w s ≤ 16384)) &&
    ws.all (fun v => ws.all (fun w => v == w ||
      decide (eqDelay n bank v s + 32 ≤ eqDelay n bank w s) || decide (eqDelay n bank w s + 32 ≤ eqDelay n bank v s)))

/-- The agreement rules of the EQ group on its shadows: the lowest failing cause (R132). -/
def eqRules (n : Nat) (s : State) : Nat :=
  let b := laneB n
  let bank := s.rdSh b R.EQ_CTRL_ACT_BANK
  let sw := bank != s.eqBank n
  if sw && s.on b R.EQ_STATUS_XF_BUSY then 1
  else if sw && s.on b R.EQ_STATUS_LOAD_BUSY && (s.eqOf n).loadBank == bank then 2
  else if !eqMirrorOk n bank (s.rdSh b R.EQ_CTRL_MIRROR_EN) s then 3
  else if s.rdSh b R.EQ_CTRL_TRELLIS_EN == 1 && s.rdSh b R.EQ_CTRL_DFE_EN == 1 then 4
  else if s.rdSh b R.EQ_SLICER_AMP < 0x040 then 5
  else 0

/-- The keys of a bank of lane n's equaliser. -/
def eqBankKey (n bank : Nat) : Nat → Bool := keyIn (objKey 14 (n * 512 + bank * 256)) (256 * 2 ^ 20)

/-- What a commit of the EQ group does beside the copy (R110, R126): `oldBank` was active, `oldTr` was TRELLIS_EN, `changed`
says that some active field changed. -/
def eqCommitted (n oldBank : Nat) (oldTr changed : Bool) (s : State) : State :=
  let b := laneB n
  let s := if changed then eqMark n 3 s else s
  let s := if s.on b R.EQ_CTRL_TRELLIS_EN == oldTr then s else eqRestart n s
  let s := s.wr b R.EQ_STATUS_BANK_ACT (s.eqBank n)
  if s.eqBank n == oldBank then s
  else
    let s := coefUndo (eqBankKey n (s.eqBank n)) (eqRefuse n 1) s
    eqMark n 2 ((s.wr b R.EQ_STATUS_XF_BUSY 1).setEq n { s.eqOf n with outBank := oldBank })

end Sys2Proof.Machine
end

