-- ==== Sys2Proof/Machine/TxDsp.lean ====
section
/-! DEFINITION. The arithmetic of the transmit path (05): mapper and precoder (R142, R143), FFE and fade (R144, R146), and
the DAC's samples (R147). -/

namespace Sys2Proof.Machine

/-- The fields of a lane that its transmit path reads. -/
structure TxCfg where
  pam : Bool
  two : Bool
  neg : Bool
  precode : Bool
  edge : Bool
  levels : List Int
  taps : List Int
  old : List Int
  fading : Bool
  len : Nat
  deriving DecidableEq, Repr

/-- The symbol number of the 2 bits of a source (R142); none for NRZ bits that map to no symbol. -/
def mapBits (pam : Bool) (b : BitVec 2) : Option Nat :=
  if pam then some (ungray b.toNat) else if b == 0 then some 0 else if b == 2 then some 3 else none

/-- T_k from G_k and T_(k-1) (R143). -/
def precodeSym (on : Bool) (g t : Nat) : Nat := if on then (g + 4 - t % 4) % 4 else g

/-- A bank's full-precision sum over the delay line, newest level first: 256 v_k (R144). -/
def txSum (taps line : List Int) : Int := ((taps.zip line).map (fun p => p.1 * p.2)).sum

/-- v_k of a bank: rounded, and held to a DAC code. -/
def txOut (taps line : List Int) : Int := clampI (-128) 127 (roundDiv (txSum taps line) 256)

/-- The sum rounds to a value outside the codes. -/
def txClips (taps line : List Int) : Bool := roundDiv (txSum taps line) 256 != txOut taps line

/-- A bank's output at full precision, 2^-24 code, as the waveform stage takes it (R344); in a fade both banks'. -/
def txExact (c : TxCfg) (i : Nat) (line : List Int) : Int :=
  let new := txSum c.taps line
  if c.fading && decide (i < c.len) then
    let old := txSum c.old line
    (c.len * old + (i + 1 : Int) * (new - old)) * (2 ^ 16 / c.len : Nat)
  else new * 2 ^ 16

/-- What a run of symbols leaves: the path's memory, the DAC samples, the samples at full precision by symbol, and what is
counted. -/
structure TxRun where
  line : List Int
  lastT : Nat
  fadeAt : Nat
  lastV : Int
  lastX : Int
  dac : List Int
  exact : List (List Int)
  clips : Nat
  bad : Nat
  deriving DecidableEq, Repr

/-- The second sample of the symbol before, where EDGE interpolates it, and the first of this one (R147). In a 2.0 mode the
second sample of a symbol waits for the next symbol's value; with EDGE = 0 it repeats the first. -/
def dacPair (c : TxCfg) (last v : Int) : List Int :=
  if !c.two then [v] else if c.edge then [roundDiv (last + v) 2, v] else [v, v]

/-- The same samples before rounding (R344). -/
def exactPair (c : TxCfg) (last v : Int) : List Int :=
  if !c.two then [v] else if c.edge then [(last + v) / 2, v] else [v, v]

/-- One symbol of the path. -/
def txSymbol (c : TxCfg) (r : TxRun) (b : BitVec 2) : TxRun :=
  let g := (mapBits c.pam b).getD 0
  let g := if c.neg then 3 - g else g
  let t := precodeSym (c.precode && c.pam) g r.lastT
  let line := (c.levels.getD t 0 :: r.line).take 9
  let new := txOut c.taps line
  let v := if c.fading then fadeMix (txOut c.old line) new r.fadeAt c.len else new
  let x := txExact c r.fadeAt line
  let clip := txClips c.taps line || (c.fading && decide (r.fadeAt < c.len) && txClips c.old line)
  { line := line, lastT := t, fadeAt := if c.fading then r.fadeAt + 1 else r.fadeAt, lastV := v,
    lastX := x, exact := r.exact ++ [exactPair c r.lastX x], dac := r.dac ++ dacPair c r.lastV v, clips := r.clips + b2n clip, bad := r.bad + b2n (mapBits c.pam b).isNone }

/-- A run of symbols. -/
def txRun (c : TxCfg) (bs : List (BitVec 2)) (r : TxRun) : TxRun := bs.foldl (txSymbol c) r

end Sys2Proof.Machine
end

