-- ==== Sys2Proof/Machine/HazeDsp.lean ====
section
/-! DEFINITION. The arithmetic of Haze (12): burst errors (R343) and the waveform stage (R344 to R348). Samples before the
stage are in 2^-24 code, within it in 2^-46 code, delays in 1/256 UI. -/

namespace Sys2Proof.Machine

/-- The errored symbol of a Gray symbol g (R343); u is the generator's draw for kind 2. -/
def hazeErrored (kind : Nat) (nrz : Bool) (g u : Nat) : Nat :=
  if nrz then (if g == 0 then 2 else 0)
  else match kind with
    | 0 => if g % 2 == 0 then g + 1 else g - 1
    | 1 => 3 - g
    | _ => (g + 1 + u % 3) % 4

/-- The symbols of a burst, each with the 4-bit draw that decides it and the draw of kind 2. -/
def hazeBurstOut (kind : Nat) (nrz : Bool) (dens : Nat) (l : List (BitVec 2 × Nat × Nat)) : List (BitVec 2) :=
  l.map (fun x => if x.2.1 ≤ dens then BitVec.ofNat 2 (hazeErrored kind nrz x.1.toNat x.2.2) else x.1)

/-- The fields of a lane that its waveform stage reads, with PWR as the last window left it and the symbol rate. -/
structure WaveCfg where
  isi : Bool
  jit : Bool
  noise : Bool
  two : Bool
  rate : Nat
  taps : List Int
  old : List Int
  fading : Bool
  len : Nat
  amp : Nat
  rj : Nat
  freq : Nat
  sigma : Nat
  jitKey : Nat
  noiseKey : Nat
  seed : BitVec 32
  deriving DecidableEq, Repr

/-- The greatest r with r^80 · 10^snr ≤ (pwr · 2^32)^40: the standard deviation of R347 in 2^-16 code. -/
def sigmaOf (pwr snr : Nat) : Nat :=
  ((List.range 25).reverse).foldl (fun r b =>
    if (r + 2 ^ b) ^ 80 * 10 ^ snr ≤ (pwr * 2 ^ 32) ^ 40 then r + 2 ^ b else r) 0

/-- A filtered sample (R344, R345): the ISI sum of the active bank, or in a fade of both; `vs` newest first. -/
def isiOut (c : WaveCfg) (i : Nat) (vs : List Int) : Int :=
  if !c.isi then vs.headD 0 * 2 ^ 22
  else
    let new := txSum c.taps vs
    if c.fading && decide (i < c.len) then
      let old := txSum c.old vs
      (c.len * old + (i + 1 : Int) * (new - old)) * (2 ^ 14 / c.len : Nat)
    else new * 2 ^ 14

/-- The filter over one symbol's samples: samples in (newest first), filtered samples out (newest first), symbols since the
fade began. -/
def isiSymbol (c : WaveCfg) (a : List Int × List Int × Nat) (sym : List Int) : List Int × List Int × Nat :=
  let r := sym.foldl (fun (r : List Int × List Int) v =>
    let vs := (v :: r.1).take 32
    (vs, isiOut c a.2.2 vs :: r.2)) (a.1, a.2.1)
  (r.1, r.2, if c.fading then a.2.2 + 1 else a.2.2)

/-- Whole cycles of the jitter's sine are 6,250,000 times this phase unit's inverse; every symbol rate divides it. -/
def sineUnit : Nat := 6250000 * 224400

/-- The phase that one sample advances (R346). -/
def sineStep (c : WaveCfg) : Nat := (if c.two then 1 else 2) * c.freq * (224400 / max 1 c.rate)

/-- A delay of the jitter stage (R346) and whether it is clamped: SJ at a phase, and the symbol's Gaussian draw. -/
def jitDelay (c : WaveCfg) (phi : Nat) (g : Int) : Int × Bool :=
  let d := roundDiv (c.amp * Config.sine phi sineUnit + c.rj * clampI (-7 * 65536) (7 * 65536) g) 65536
  (clampI (-1024) 1024 d, decide (d < -1024 ∨ 1024 < d))

/-- The delay while it slews to 0 after JIT_EN falls: 4/256 UI per CCLK over some symbols. -/
def jitSlew (rate k : Nat) (d : Int) : Int :=
  let c : Int := (4 * (k * 425 / (4 * max 1 rate)) : Nat)
  if 0 ≤ d then max 0 (d - c) else min 0 (d + c)

/-- What the jitter, noise and rounding of a run hold: phase, the last delay in force with JIT_EN, symbols since it fell,
draws made, and what came out. -/
structure WaveRun where
  phi : Nat
  dly : Int
  slew : Nat
  jitIdx : Nat
  noiseIdx : Nat
  dac : List Int
  clips : Nat
  jclamps : Nat
  deriving DecidableEq, Repr

/-- One sample at a place in the filtered stream: delayed, with noise, rounded and saturated (R344, R347). -/
def waveSample (c : WaveCfg) (ws : List Int) (k : Nat) (d : Int) (r : WaveRun) : WaveRun :=
  let x := if d == 0 then ws.getD k 0 else Config.interp c.two ws k d
  let g := clampI (-6 * 65536) (6 * 65536) (Config.gauss c.seed (c.noiseKey + r.noiseIdx))
  let y := if c.noise then x + g * c.sigma * 2 ^ 14 else x
  let v := roundDiv y (2 ^ 46)
  let o := clampI (-128) 127 v
  { r with noiseIdx := if c.noise then r.noiseIdx + 1 else r.noiseIdx, dac := r.dac ++ [o],
           clips := r.clips + b2n (v != o) }

/-- One symbol of a run: its samples lie at some places of the filtered stream. -/
def waveSymbol (c : WaveCfg) (ws : List Int) (r : WaveRun) (ks : List Nat) : WaveRun :=
  if c.jit then
    let g := Config.gauss c.seed (c.jitKey + r.jitIdx)
    let x := ks.foldl (fun (x : WaveRun × Bool) k =>
      let d := jitDelay c x.1.phi g
      let r := waveSample c ws k d.1 x.1
      ({ r with phi := (r.phi + sineStep c) % sineUnit, dly := d.1, slew := 0 }, x.2 || d.2)) (r, false)
    { x.1 with jitIdx := x.1.jitIdx + 1, jclamps := x.1.jclamps + b2n x.2 }
  else
    let d := jitSlew c.rate r.slew r.dly
    let r := ks.foldl (fun r k => waveSample c ws k d r) r
    { r with slew := r.slew + 1, dly := if d == 0 then 0 else r.dly }

end Sys2Proof.Machine
end

