-- ==== Sys2Proof/Machine/TxOps.lean ====
section
/-! DEFINITION. The transmit path and the octant synthesiser (05): transmit states (R156), alarms, bank writes (R145),
held commits (R157 to R160), the TX and OCT rules (R161, R162) and the synthesiser's states (R154). -/

namespace Sys2Proof.Machine

/-- ALARM with its cause, and EV_LANE_TX_ALARM (R163). -/
def txAlarm (n cause : Nat) (s : State) : State :=
  ((s.wr (laneB n) R.TX_STATUS_ALARM 1).wr (laneB n) R.TX_STATUS_ALARM_CAUSE cause).raise (evLane n 6)

/-- Enter a transmit state (R156); the cut-through path follows (R340). -/
def txGo (n st : Nat) (s : State) : State :=
  if s.rd (laneB n) R.TX_STATUS_STATE == st then s
  else hazeEval n ((s.wr (laneB n) R.TX_STATUS_STATE st).raise (evLane n 5))

/-- The transmit state that ENABLE, the synthesiser, the family and the lane's domain call for (R156, R447). -/
def txWant (n : Nat) (s : State) : Nat :=
  if !(s.on (laneB n) R.TX_CTRL_ENABLE && s.domOn n) then 0
  else if s.synLocked (n / 8) && s.anaRdy n &&
      modeFamily (s.rd (laneB n) R.TX_CTRL_MODE) == some (s.octFamily (n / 8)) then 2
  else 1

/-- Bring the transmit state up to date. -/
def txEval (n : Nat) (s : State) : State := txGo n (txWant n s) s

/-- The offset of the lane's interpolator without spread, 2^-6 ppm (R151). -/
def txOffset (n : Nat) (s : State) : Int :=
  let b := laneB n
  match s.rd b R.TX_PI_TIMING with
  | 0 => 0
  | 2 => s.rdI b R.TX_PI_PPM_PPM
  | _ =>
    let r := s.rd b R.TX_PI_LOOP_LANE
    if s.rxState r == 6 then txClamp (s.rd b R.TX_CTRL_MODE) (s.rdI (laneB r) R.RX_TR_FREQ_FREQ) else (s.txOf n).offset

/-- STATUS.LOOP_HOLD (R151). -/
def txLoopHold (n : Nat) (s : State) : Bool :=
  s.rd (laneB n) R.TX_PI_TIMING == 1 && s.rxState (s.rd (laneB n) R.TX_PI_LOOP_LANE) != 6

/-- The octant's down-spread now, 2^-6 ppm: a triangle from zero down to SSC_DEPTH times 10 ppm and back at SSC_RATE kHz,
which runs in LOCKED from the instant that State holds (R155). -/
def octSpread (o : Nat) (s : State) : Nat :=
  if s.synLocked o then
    let p := (s.now - look 0 s.sscStart o) * s.rd (octB o) R.OCT_SYN_CFG_SSC_RATE % 39062500
    let q := min p (39062500 - p)
    (4 * q * (640 * s.rd (octB o) R.OCT_SYN_CFG_SSC_DEPTH) + 39062500) / 78125000
  else 0

/-- PI_FREQ as it reads (R151): the offset, plus the octant's spread (R155). DESIGN CHOICE: a sum below -8,192 ppm does not
fit the field, of which the spec says nothing: it shows the low 20 bits. -/
def txPiFreq (n : Nat) (s : State) : Nat := trunc 20 (txOffset n s - (octSpread (n / 8) s : Int))

/-- The transmit gate is shut (R219): no underrun counts. -/
def txGateShut (n : Nat) (s : State) : Bool :=
  s.on (laneB n) R.ACQ_BW_CTRL_TX_GATE && !(s.acqOf n).wins.any (fun w => w.tx)

/-- The link can run dry (R140): a replay feed, or a stream whose engine sleeps or has no group on the lane, since else the
lane stage inserts idles. -/
def txCanStarve (n : Nat) (s : State) : Bool :=
  let src := s.rd (laneB n) R.TX_SRC_SRC
  src == 2 || (src == 1 && (!s.domOn (78 + n / 16) || (laneGrp n s).isNone))

/-- The samples of one symbol that all have the code FILL (R140, R147). -/
def fillDac (n : Nat) (s : State) : List Int :=
  let f := s.rdI (laneB n) R.TX_SRC_FILL
  if s.rd (laneB n) R.TX_CTRL_MODE == 0 then [f] else [f, f]

/-- A symbol due finds an empty link slot (R140): the DAC puts out FILL for it. -/
def txUnderrun (n : Nat) (s : State) : State :=
  if s.rd (laneB n) R.TX_STATUS_STATE == 2 && txCanStarve n s && !txGateShut n s then
    txAlarm n 4 ((s.setTx n { s.txOf n with dac := fillDac n s }).cnt (laneB n) R.TX_CNT_UNDER_UNDER 1)
  else s

/-- The key of a tap (R145). -/
def txTap (n bank i : Nat) : Nat := (Obj.txCoef n bank i).base + 0x2020

/-- A bank's nine taps, 2^-8 (R144). -/
def txTaps (n bank : Nat) (s : State) : List Int :=
  (List.range 9).map (fun i => sext 10 (s.getReg (txTap n bank i)).toNat)

/-- The fields that lane n's transmit path reads (R142 to R147). -/
def txCfg (n : Nat) (s : State) : TxCfg :=
  let b := laneB n
  { pam := modeFamily (s.rd b R.TX_CTRL_MODE) == some 0
    two := s.rd b R.TX_CTRL_MODE != 0
    neg := s.on b R.TX_CTRL_POLARITY
    precode := s.on b R.TX_CTRL_PRECODE
    edge := s.on b R.TX_CTRL_EDGE
    levels := [s.rdI b R.TX_LEVEL_LVL0, s.rdI b R.TX_LEVEL_LVL1, s.rdI b R.TX_LEVEL_LVL2, s.rdI b R.TX_LEVEL_LVL3]
    taps := txTaps n (s.rd b R.TX_CTRL_ACT_BANK) s
    old := txTaps n (s.txOf n).outBank s
    fading := s.on b R.TX_STATUS_XF_BUSY
    len := fadeLen (s.rd b R.TX_CTRL_XF_LEN) }

/-- The applied phase, 1/256 UI (R152): it moves to PHASE by 1/256 UI per CCLK. -/
def txPhase (n : Nat) (s : State) : Int :=
  let x := s.txOf n
  let goal := s.rdI (laneB n) R.TX_PI_PHASE
  let c : Int := s.cclks 1 (s.now - x.phaseAt)
  if x.phaseFrom ≤ goal then min goal (x.phaseFrom + c) else max goal (x.phaseFrom - c)

/-- AUTO_INC of COEF_SEL after a COEF_DATA access. -/
def txAutoInc (n : Nat) (s : State) : State :=
  let b := laneB n
  if s.on b R.TX_COEF_SEL_AUTO_INC then
    let i := s.rd b R.TX_COEF_SEL_INDEX
    s.wr b R.TX_COEF_SEL_INDEX (if i == 8 then 0 else i + 1)
  else s

/-- A refused bank write (R145). -/
def txRefuse (n : Nat) (s : State) : State := txAlarm n 1 (s.cnt (laneB n) R.TX_CNT_CLIP_REFUSED 1)

/-- A write of TX.COEF_DATA (R145). DESIGN CHOICE: a refused one has no effect (R109), so that AUTO_INC does not move INDEX
either. -/
def txCoefWrite (n : Nat) (w : Word) (s : State) : State :=
  let b := laneB n
  let bank := s.rd b R.TX_COEF_SEL_BANK
  let i := s.rd b R.TX_COEF_SEL_INDEX
  if 8 < i then txAutoInc n s
  else if bank == s.rd b R.TX_CTRL_ACT_BANK || (s.on b R.TX_STATUS_XF_BUSY && bank == (s.txOf n).outBank) then
    txRefuse n s
  else txAutoInc n ((coefNote (txTap n bank i) s).setReg (txTap n bank i) (w &&& 0x3FF))

/-- The end of a transmit cross-fade (R146). -/
def txFadeEnd (n : Nat) (s : State) : State := s.wr (laneB n) R.TX_STATUS_XF_BUSY 0

/-! The TX commit group. -/

/-- Sum of the magnitudes of a bank's taps (R161 cause 0x5). -/
def txTapSum (n bank : Nat) (s : State) : Nat :=
  ((txTaps n bank s).map Int.natAbs).sum

/-- The PPM shadow lies within the range of R151 for the shadow MODE. -/
def txPpmOk (n : Nat) (s : State) : Bool :=
  let f := sext 20 (s.rdSh (laneB n) R.TX_PI_PPM_PPM)
  txClamp (s.rdSh (laneB n) R.TX_CTRL_MODE) f == f

/-- The agreement rules of R161 on the shadows: the lowest failing cause, 0 where every rule holds. -/
def txRules (n : Nat) (s : State) : Nat :=
  let b := laneB n
  let m := s.rdSh b R.TX_CTRL_MODE
  let src := s.rdSh b R.TX_SRC_SRC
  let tim := s.rdSh b R.TX_PI_TIMING
  let bank := s.rdSh b R.TX_CTRL_ACT_BANK
  let hz := s.rdSh b R.TX_SRC_HAZE_LANE
  let lp := s.rdSh b R.TX_PI_LOOP_LANE
  if modeFamily m != some (s.octFamily (n / 8)) then 1
  else if m == 6 || m == 7 || src == 6 || src == 7 || tim == 3 then 2
  else if bank != s.rd b R.TX_CTRL_ACT_BANK && s.on b R.TX_STATUS_XF_BUSY then 3
  else if !s.synLocked (n / 8) then 4
  else if 256 < txTapSum n bank s then 5
  else if src == 4 && !(hz / 16 == n / 16 && tim == 1 && lp == hz) then 6
  else if (tim == 1 && lp / 16 != n / 16) || (tim == 2 && !txPpmOk n s) then 7
  else 0

/-- The keys of a bank of lane n's transmit FFE. -/
def txBankKey (n bank : Nat) : Nat → Bool := keyIn (objKey 15 (n * 32 + bank * 16)) (16 * 2 ^ 20)

/-- What a commit of the TX group does beside the copy (R146, R150, R156, R340): `oldBank` and `oldHz` were active. -/
def txCommitted (n oldBank oldHz : Nat) (s : State) : State :=
  let b := laneB n
  let s := (s.wr b R.TX_STATUS_MODE_ACT (s.rd b R.TX_CTRL_MODE)).wr b R.TX_STATUS_SRC_ACT (s.rd b R.TX_SRC_SRC)
  let s := s.wr b R.TX_STATUS_BANK_ACT (s.rd b R.TX_CTRL_ACT_BANK)
  let s := if s.rd b R.TX_CTRL_ACT_BANK == oldBank then s
    else
      let s := coefUndo (txBankKey n (s.rd b R.TX_CTRL_ACT_BANK)) (txRefuse n) s
      (s.wr b R.TX_STATUS_XF_BUSY 1).setTx n { s.txOf n with outBank := oldBank, fadeAt := 0 }
  let s := hazeEval n (txEval n s)
  if s.rd b R.TX_SRC_HAZE_LANE != oldHz && s.rd b R.HAZE_STATUS_STATE == 3 then hazeGo n 2 [] s else s

/-- Copy the TX group's shadows into its active fields. The precoder starts from T = 0 at a commit that sets PRECODE (R143),
and the applied phase moves from where it stands (R152). -/
def txCopy (n : Nat) (s : State) : State :=
  let b := laneB n
  let old := s.rd b R.TX_CTRL_ACT_BANK
  let pre := s.on b R.TX_CTRL_PRECODE
  let s := s.setTx n { s.txOf n with offset := txOffset n s, phaseFrom := txPhase n s, phaseAt := s.now }
  let t := copyGroup (laneSub n 0x2000) s
  let t := if !pre && t.on b R.TX_CTRL_PRECODE then t.setTx n { t.txOf n with lastT := 0 } else t
  txCommitted n old (s.rd b R.TX_SRC_HAZE_LANE) t

/-- A TX commit reaches the lane while its synthesiser is in CAL or ACQ, or while a hold lasts (R157, R158). DESIGN CHOICE: a
commit that joins leaves no entry of its own, so a hold that runs out sets REJECT of the first commit's entry only. -/
def txHold (n : Nat) (entry : Option Nat) (s : State) : State :=
  match (s.txOf n).held with
  | some _ => s.cnt (laneB n) R.TX_CNT_MERGED 1
  | none => (s.setTx n { s.txOf n with held := some ⟨s.tlv.toNat, s.now, entry⟩ }).wr (laneB n) R.TX_STATUS_PEND 1

/-- The lane holds TX commits: its octant's synthesiser is in CAL or ACQ (R157), or a hold lasts, which a further commit
joins (R158). -/
def txHolds (n : Nat) (s : State) : Bool :=
  let st := s.rd (octB (n / 8)) R.OCT_SYN_STATUS_STATE
  st == 1 || st == 2 || (s.txOf n).held.isSome

/-- The lanes of an octant. -/
def octLanes (o : Nat) : List Nat := (List.range 8).map (fun j => 8 * o + j)

/-- One lane's held commit is rejected (R76): one commit writes one record, for the first lane of it, and raises
EV_TL_COMMIT_REJECT once; `told` names the commits already reported by their instant and entry. -/
def txTell (n c : Nat) (h : TxHeld) (told : List (Nat × Option Nat)) (s : State) : State × List (Nat × Option Nat) :=
  if told.contains (h.since, h.entry) then (s, told) else (rejectRec 2 n c h.entry s, (h.since, h.entry) :: told)

/-- A held commit of one lane is rejected with cause 0x4 (R160). -/
def txHeldReject1 (n : Nat) (x : State × List (Nat × Option Nat)) : State × List (Nat × Option Nat) :=
  match (x.1.txOf n).held with
  | none => x
  | some h =>
    let y := txTell n 4 h x.2 ((x.1.setTx n { x.1.txOf n with held := none }).wr (laneB n) R.TX_STATUS_PEND 0)
    (txAlarm n 3 (y.1.cnt (laneB n) R.TX_CNT_TIMEOUT 1), y.2)

/-- The held commits of some lanes, ascending, are rejected with cause 0x4 at one instant (R160). -/
def txHeldReject (ns : List Nat) (s : State) : State := (ns.foldl (fun x n => txHeldReject1 n x) (s, [])).1

/-- The 2 ms of a held commit run out (R160), for every lane that holds that commit. -/
def txHeldTimeout (n : Nat) (s : State) : State :=
  match (s.txOf n).held with
  | none => s
  | some h =>
    let same (m : Nat) : Bool := match (s.txOf m).held with
      | some g => g.since == h.since && g.entry == h.entry
      | none => false
    txHeldReject ((List.range 64).filter same) (s.advanceNow (h.since + 78125000))

/-- A held commit of one lane is released at Y (R159): slip, alarm, then the rules. -/
def txRelease1 (n : Nat) (x : State × List (Nat × Option Nat)) : State × List (Nat × Option Nat) :=
  match (x.1.txOf n).held with
  | none => x
  | some h =>
    let b := laneB n
    let s := (x.1.setTx n { x.1.txOf n with held := none }).wr b R.TX_STATUS_PEND 0
    let s := s.wr b R.TX_PEND_SLIP_SLIP (min (s.tlv.toNat - h.x) 0xFFFFFFFF)
    let s := txAlarm n 2 (s.cnt b R.TX_CNT_SLIPPED 1)
    let c := txRules n s
    if c == 0 then (txCopy n s, x.2) else txTell n c h x.2 s

/-- Every commit held in an octant is released at Y = Z + 16,384 ticks (R159). DESIGN CHOICE: where lock is lost again before
Y, the commits stay held until the Y of the next lock. -/
def txRelease (o : Nat) (s : State) : State :=
  if s.synLocked o && (octLanes o).any (fun n => (s.txOf n).held.isSome) then
    let z := look (0, 0) s.synLock o
    ((octLanes o).foldl (fun x n => txRelease1 n x) (s.advanceReq (z.1 + 16384) (z.2 + 16384), [])).1
  else s

/-- A rewritten entry is forgotten by the commits held for it (R160). -/
def txForgetEntry (i : Nat) (s : State) : State :=
  { s with tx := mapVals TxSt.idle (fun _ x => match x.held with
      | some h => if h.entry == some i then { x with held := some { h with entry := none } } else x
      | none => x) s.tx }

/-! The synthesiser. -/

/-- Every lane of the octant loses its clock in receive and transmit (R101, R153, R156); `fam` for a change of family. -/
def octLose (fam : Bool) (o : Nat) (s : State) : State := (octLanes o).foldl (fun t n => txEval n (rxLoseClk fam n t)) s

/-- Every lane of the octant may leave NOCLK (R101, R156). -/
def octGain (o : Nat) (s : State) : State := (octLanes o).foldl (fun t n => txEval n (rxTryClk n t)) s

/-- Enter a synthesiser state (R154). -/
def synGo (o st : Nat) (s : State) : State :=
  let old := s.rd (octB o) R.OCT_SYN_STATUS_STATE
  let s := s.wr (octB o) R.OCT_SYN_STATUS_STATE st
  if old != 3 && st == 3 then
    let s := { s with
      synLock := put (0, 0) s.synLock o (s.tlv.toNat, s.now)
      sscStart := put 0 s.sscStart o s.now }
    octGain o (s.raise (evOct o 0))
  else if old == 3 && st != 3 then octLose false o (s.raise (evOct o 0))
  else s

/-- Enter CAL with ATTEMPT 0. -/
def synCal (o : Nat) (s : State) : State := synGo o 1 (s.wr (octB o) R.OCT_SYN_STATUS_ATTEMPT 0)

/-- ENABLE as it stands after a write, or at power-up (R154, R444); CAL waits for ANA_RDY (R447). -/
def synEnableSync (o : Nat) (s : State) : State :=
  let st := s.rd (octB o) R.OCT_SYN_STATUS_STATE
  if !s.on (octB o) R.OCT_SYN_CTRL_ENABLE then (if st == 0 then s else synGo o 0 s)
  else if st == 0 && s.domOn (64 + o) && s.anaRdy (64 + o) then synCal o s
  else s

/-- RECAL, or an OCT commit that changes FAMILY (R154). -/
def synRecal (o : Nat) (s : State) : State :=
  if s.rd (octB o) R.OCT_SYN_STATUS_STATE == 0 then s else synCal o s

/-- The third attempt has failed (R154, R160). -/
def synFail (o : Nat) (s : State) : State :=
  let s := synGo o 0 (s.wr (octB o) R.OCT_SYN_STATUS_FAIL 1)
  let s := (s.cnt (octB o) R.OCT_SYN_CNT_FAIL 1).raise (evOct o 1)
  txHeldReject (octLanes o) s

/-- An attempt in CAL or ACQ fails (R154). -/
def synAttemptFailed (o : Nat) (s : State) : State :=
  let a := s.rd (octB o) R.OCT_SYN_STATUS_ATTEMPT + 1
  let s := s.wr (octB o) R.OCT_SYN_STATUS_ATTEMPT a
  if 3 ≤ a then synFail o s else synGo o 1 s

/-- LREF is declared lost for the octant (SYN_STATUS.LREF_LOST). -/
def State.lrefLost (s : State) (o : Nat) : Bool := s.on (octB o) R.OCT_SYN_STATUS_LREF_LOST

/-- The band search ends (R154). -/
def synBand (o band : Nat) (s : State) : State :=
  if s.rd (octB o) R.OCT_SYN_STATUS_STATE == 1 && !s.lrefLost o then
    synGo o 2 (s.wr (octB o) R.OCT_SYN_STATUS_BAND band)
  else s

/-- 180 µs of CAL, or 100 µs of ACQ, have run without LREF_LOST (R154). -/
def synTimeout (o st : Nat) (s : State) : State :=
  if s.rd (octB o) R.OCT_SYN_STATUS_STATE == st && !s.lrefLost o then synAttemptFailed o s else s

/-- The lock criterion is met (R154). -/
def synLock (o : Nat) (s : State) : State :=
  if s.rd (octB o) R.OCT_SYN_STATUS_STATE == 2 && !s.lrefLost o then synGo o 3 s else s

/-- Loss of lock, LREF lost, or INJ_LOL (R154). -/
def synLoss (o : Nat) (s : State) : State :=
  if s.rd (octB o) R.OCT_SYN_STATUS_STATE == 3 then (synGo o 2 s).cnt (octB o) R.OCT_SYN_CNT_LOL 1 else s

/-- INJ_FAIL (R163): the current attempt fails as the third. -/
def synInjFail (o : Nat) (s : State) : State :=
  let st := s.rd (octB o) R.OCT_SYN_STATUS_STATE
  if st == 1 || st == 2 then synFail o (s.wr (octB o) R.OCT_SYN_STATUS_ATTEMPT 3) else s

/-- The LREF monitor's declaration reaches the octants (R154). -/
def synLref (lost : Bool) (o : Nat) (s : State) : State :=
  let s := s.wr (octB o) R.OCT_SYN_STATUS_LREF_LOST (b2n lost)
  if lost then synLoss o s else s

/-- Octant block reset (R164): the synthesiser is OFF, and nothing is raised from the octant itself (R498). -/
def octReset (o : Nat) (s : State) : State :=
  let lost := s.lrefLost o
  let s := resetKeys (keyIn (octB o) 0x1000) s
  octLose false o (s.wr (octB o) R.OCT_SYN_STATUS_LREF_LOST (b2n lost))

/-- The agreement rules of R162. -/
def octRules (o : Nat) (s : State) : Nat :=
  let r := s.rdSh (octB o) R.OCT_SYN_CFG_SSC_RATE
  let d := s.rdSh (octB o) R.OCT_SYN_CFG_SSC_DEPTH
  if 2 ≤ s.rdSh (octB o) R.OCT_SYN_CFG_FAMILY then 1
  else if d != 0 && (decide (r < 30) || decide (63 < r)) then 2
  else if 500 < d then 3
  else 0

/-- The active depth and rate of an octant's spread. -/
def octSsc (o : Nat) (s : State) : Nat × Nat := (s.rd (octB o) R.OCT_SYN_CFG_SSC_DEPTH, s.rd (octB o) R.OCT_SYN_CFG_SSC_RATE)

/-- What a commit of the OCT group does beside the copy (R153, R154, R155): `oldFam` and `oldSsc` were active. -/
def octCommitted (o oldFam : Nat) (oldSsc : Nat × Nat) (s : State) : State :=
  let f := s.rd (octB o) R.OCT_SYN_CFG_FAMILY
  let s := s.wr (octB o) R.OCT_SYN_STATUS_FAMILY_ACT f
  let s := if oldSsc == octSsc o s then s else { s with sscStart := put 0 s.sscStart o s.now }
  if f == oldFam then s
  else
    let s := if (look (0, 0) s.famWas o).2 == s.now + 1 then s else { s with famWas := put (0, 0) s.famWas o (oldFam, s.now + 1) }
    octLose true o (synRecal o s)

end Sys2Proof.Machine
end

