-- ==== Sys2Proof/Machine/BiasOps.lean ====
section
/-! DEFINITION. The bias islands and the optical safety lock (06): targets and outputs (R169 to R173), clearing (R177,
R178), load detectors (R179, R180), the APC watchdog (R183), limits (R184 to R190) and the safety OTP (R192, R193). -/

namespace Sys2Proof.Machine

/-- What a lane's bias outputs hold. -/
def State.biasOf (s : State) (n : Nat) : BiasSt := look BiasSt.idle s.bias n
def State.setBias (s : State) (n : Nat) (x : BiasSt) : State := { s with bias := put BiasSt.idle s.bias n x }

/-- A lane's safety OTP. -/
def State.otpOf (s : State) (n : Nat) : OtpLane := look OtpLane.blank s.otp n
def State.setOtp (s : State) (n : Nat) (x : OtpLane) : State := { s with otp := put OtpLane.blank s.otp n x }

/-- One of the two outputs. -/
def BiasSt.ch (x : BiasSt) (vb : Bool) : BiasCh := if vb then x.vb else x.ib
def BiasSt.setCh (x : BiasSt) (vb : Bool) (c : BiasCh) : BiasSt := if vb then { x with vb := c } else { x with ib := c }

/-- The fields of one of the two outputs. -/
def fOut (vb : Bool) : Fld := if vb then R.BIAS_OUT_VB_OUT else R.BIAS_OUT_IB_OUT
def fRngOut (vb : Bool) : Fld := if vb then R.BIAS_OUT_VB_RNG_OUT else R.BIAS_OUT_IB_RNG_OUT
def fRbusy (vb : Bool) : Fld := if vb then R.BIAS_STATUS_VB_RBUSY else R.BIAS_STATUS_IB_RBUSY
def fStep (vb : Bool) : Fld := if vb then R.BIAS_SLEW_VB_STEP else R.BIAS_SLEW_IB_STEP

/-- A code of an output as an integer: IB unsigned, VB two's complement (R165). -/
def codeI (vb : Bool) (v : Nat) : Int := if vb then sext 14 v else (v : Int)

/-- The output code. -/
def biasOut (n : Nat) (vb : Bool) (s : State) : Int := codeI vb (s.rd (laneB n) (fOut vb))

/-- Every output of the part is clearing (R177, R497, R451). -/
def State.allClearing (s : State) : Bool :=
  s.on safeB R.SAFE_STATUS_PIN_CLR || s.on safeB R.SAFE_CLR_SW_CLR || s.fatal || s.off

/-- Detections keep an output clearing (R180, R183). -/
def biasDetClr (n : Nat) (vb : Bool) (s : State) : Bool :=
  let c := (s.biasOf n).clr
  if vb then c / 4 % 2 == 1 else c % 2 == 1 || c / 2 % 2 == 1 || c / 8 % 2 == 1

/-- An output is clearing. -/
def biasClearing (n : Nat) (vb : Bool) (s : State) : Bool := s.allClearing || biasDetClr n vb s

/-- The wanted code and range of an output before the range sequence and the limits (R169). -/
def biasWant (n : Nat) (vb : Bool) (s : State) : Int × Nat :=
  let b := laneB n
  if vb then
    if biasClearing n vb s then (s.rdI b R.BIAS_CLEAR_VB_CLR, s.rd b R.BIAS_CLEAR_VB_CRNG)
    else (s.rdI b R.BIAS_VB_CODE, s.rd b R.BIAS_CTRL_VB_RANGE)
  else if biasClearing n vb s then ((s.rd b R.BIAS_CLEAR_IB_CLR : Int), s.rd b R.BIAS_CLEAR_IB_CRNG)
  else
    let r := s.rd b R.BIAS_CTRL_IB_RANGE
    if s.on b R.BIAS_CTRL_IB_SRC then ((s.rd b R.BIAS_APC_CODE_CODE : Int), r)
    else if s.on b R.BIAS_CTRL_GATE_EN && !(s.biasOf n).gate then ((s.rd b R.BIAS_IB_DARK : Int), r)
    else ((s.rd b R.BIAS_IB_CODE : Int), r)

/-- Base of SAFE.LIM[n] and SAFE.LANE[n] for the fields of element 0. -/
def safeL (n : Nat) : Nat := safeB + 4 * n

/-- A limit in the codes of a range (R187). -/
def inRange (r v : Nat) : Nat := if r == 1 then v else min 16383 (4 * v)

/-- The limit code of a lane in the output range (R187). -/
def limitCode (n : Nat) (s : State) : Nat :=
  inRange (s.rd (laneB n) R.BIAS_OUT_IB_RNG_OUT) (if (s.biasOf n).injLim then 0 else s.rd (safeL n) R.SAFE_LIM_IB_MAX)

/-- The emission code of a lane in the output range (R187). -/
def emitCode (n : Nat) (s : State) : Nat :=
  inRange (s.rd (laneB n) R.BIAS_OUT_IB_RNG_OUT) (s.rd (safeL n) R.SAFE_LIM_EMIT_TH)

/-- A code of a range counts as emitting (R187). -/
def emits (n r code : Nat) (s : State) : Bool :=
  decide (s.rd (safeL n) R.SAFE_LIM_EMIT_TH < (if r == 1 then code else code / 4))

/-- A channel is denied: its bit is set in either copy (R184). -/
def denied (n c : Nat) (s : State) : Bool :=
  ((s.otpOf n).denyA ||| (s.otpOf n).denyB).toNat / 2 ^ c % 2 == 1

/-- The target of an output with the range sequence taken in (R169). -/
def biasT (n : Nat) (vb : Bool) (s : State) : Int :=
  let w := biasWant n vb s
  if w.2 == s.rd (laneB n) (fRngOut vb) then w.1 else 0

/-- The target with the safety lock's lines (R169). -/
def biasT2 (n : Nat) (vb : Bool) (s : State) : Int :=
  let t := biasT n vb s
  if vb || !s.on safeB R.SAFE_CTRL_CHECK_EN then t
  else
    let t := min t (limitCode n s)
    if s.on (safeL n) R.SAFE_LANE_CLAMP_CH || s.on (safeL n) R.SAFE_LANE_CLAMP_DUTY then min t (emitCode n s) else t

/-- Set a clamp bit; its start counts and raises (R188, R189). -/
def clampBit (n : Nat) (f : Fld) (v : Bool) (start : State → State) (s : State) : State :=
  let old := s.on (safeL n) f
  let s := s.wr (safeL n) f (b2n v)
  if v && !old then start s else s

/-- The clamps of a lane as its target and channel stand (R188, R189); that of a channel holds until a commit. -/
def biasClamps (n : Nat) (s : State) : State :=
  let s := clampBit n R.SAFE_LANE_CLAMP_LIM (decide ((limitCode n s : Int) < biasT n false s))
    (fun s => (s.cnt safeB R.SAFE_CNT_LIMITS 1).raise 0x412) s
  clampBit n R.SAFE_LANE_CLAMP_CH (s.on (safeL n) R.SAFE_LANE_CLAMP_CH ||
      denied n (s.rd (laneB n) R.BIAS_CTRL_CHANNEL) s || (s.biasOf n).injCh)
    (fun s => s.raise 0x414) s

/-- Set an output code. -/
def setOut (n : Nat) (vb : Bool) (v : Int) (s : State) : State := s.wr (laneB n) (fOut vb) (trunc 14 v)

/-- The end of a range sequence's ramp to zero switches the range and holds 10 µs (R172); its last ramp ends it. -/
def biasSeq (n : Nat) (vb : Bool) (s : State) : State :=
  let b := laneB n
  let x := s.biasOf n
  let c := x.ch vb
  let w := biasWant n vb s
  let o := biasOut n vb s
  let put (c : BiasCh) (s : State) : State :=
    (s.setBias n ((s.biasOf n).setCh vb c)).wr b (fRbusy vb) (b2n (c.seq != 0))
  if c.hold then s
  else if w.2 != s.rd b (fRngOut vb) then
    if o == 0 then (put { c with hold := true, seq := 2 } s).wr b (fRngOut vb) w.2
    else put { c with seq := 1 } s
  else if c.seq == 1 then put { c with seq := 0 } s
  else if o == biasT2 n vb s then put { c with seq := 0, snap := false } s
  else s

/-- The highest code that the clamps in force leave an IB output (R188 to R190); an output above it steps down. -/
def biasCap (n : Nat) (s : State) : Int :=
  if !s.on safeB R.SAFE_CTRL_CHECK_EN then 16383
  else if s.on (safeL n) R.SAFE_LANE_CLAMP_CH || s.on (safeL n) R.SAFE_LANE_CLAMP_DUTY then min (limitCode n s) (emitCode n s)
  else limitCode n s

/-- A gate edge or duty release steps IB between DARK and CODE (R170): neither the loop, a clearing nor a range sequence has
the target. -/
def biasEdge (n : Nat) (vb : Bool) (s : State) : Bool :=
  !vb && s.on (laneB n) R.BIAS_CTRL_GATE_EN && !s.on (laneB n) R.BIAS_CTRL_IB_SRC && !biasClearing n false s &&
    ((s.biasOf n).ch false).seq == 0 && (biasWant n false s).2 == s.rd (laneB n) (fRngOut false)

/-- An output follows its target at once where R170, R176 and R177 say that it steps; one above a clamp steps to the clamp. -/
def biasStepNow (n : Nat) (vb step : Bool) (s : State) : State :=
  let c := (s.biasOf n).ch vb
  if c.hold then s
  else
    let t := biasT2 n vb s
    let o := biasOut n vb s
    if s.allClearing || (biasDetClr n vb s && decide (t < o)) || c.snap || (step && biasEdge n vb s) ||
        s.rd (laneB n) (fStep vb) == 0 then setOut n vb t s
    else if !vb && decide (biasCap n s < o) then setOut n vb (biasCap n s) s
    else s

/-- Status bits that follow the outputs: CLEARING and EMITTING. -/
def biasFlags (n : Nat) (s : State) : State :=
  let b := laneB n
  let s := s.wr b R.BIAS_STATUS_CLEARING (b2n (biasClearing n false s || biasClearing n true s))
  s.wr b R.BIAS_STATUS_EMITTING (b2n (emits n (s.rd b R.BIAS_OUT_IB_RNG_OUT) (s.rd b R.BIAS_OUT_IB_OUT) s))

/-- The island's update logic runs: PCLK runs, that is, the part is not in REST (R168). -/
def State.islandRuns (s : State) : Bool := s.rd pwrB R.PWR_STATUS_STATE != 3

/-- The island brings a lane's outputs up to date after a change of target, limits or clearing; `step` says that a
gate edge or duty release makes IB step (R170). In REST only the clearing sources reach the outputs (R168, R177). -/
def biasEval (n : Nat) (step : Bool) (s : State) : State :=
  if s.biasUv then biasFlags n (setOut n true 0 (setOut n false 0 s))
  else if s.islandRuns || s.allClearing then
    let s := biasClamps n s
    let s := biasSeq n false (biasStepNow n false step s)
    biasFlags n (biasSeq n true (biasStepNow n true false s))
  else s

/-- Every lane. -/
def lanes : List Nat := List.range 64

/-- The island brings every lane up to date. -/
def biasAll (s : State) : State := lanes.foldl (fun t n => biasEval n false t) s

/-- One slew interval of an output (R171). -/
def biasSlew (n : Nat) (vb : Bool) (s : State) : State :=
  if s.biasUv || !s.islandRuns || ((s.biasOf n).ch vb).hold then s
  else
    let o := biasOut n vb s
    let t := biasT2 n vb s
    let k : Int := s.rd (laneB n) (fStep vb)
    let v := if o < t then min t (o + k) else max t (o - k)
    biasFlags n (biasSeq n vb (setOut n vb (if k == 0 then t else v) s))

/-- The 10 µs range hold ends (R172). -/
def biasHoldEnd (n : Nat) (vb : Bool) (s : State) : State :=
  let x := s.biasOf n
  if (x.ch vb).hold then biasEval n false (s.setBias n (x.setCh vb { x.ch vb with hold := false })) else s

/-- The burst gate reaches the island (R173). -/
def biasGate (n : Nat) (isOpen : Bool) (s : State) : State :=
  let x := s.biasOf n
  if x.gate == isOpen then s
  else biasEval n true (s.setBias n { x with gate := isOpen })

/-- A clear assertion of either source (R177). -/
def clearAsserted (s : State) : State := biasAll ((s.cnt safeB R.SAFE_CNT_CLEARS 1).raise 0x416)

/-- Filtered BIAS_CLR_N falls (R177). -/
def pinClear (s : State) : State :=
  if s.on safeB R.SAFE_STATUS_PIN_CLR then s else clearAsserted (s.wr safeB R.SAFE_STATUS_PIN_CLR 1)

/-- Filtered BIAS_CLR_N rises (R178). -/
def pinRelease (s : State) : State :=
  if s.on safeB R.SAFE_STATUS_PIN_CLR then biasAll (s.wr safeB R.SAFE_STATUS_PIN_CLR 0) else s

/-- SAFE.CLR was written; `old` is SW_CLR before (R177, R178). -/
def swClrSync (old : Bool) (s : State) : State :=
  let v := s.on safeB R.SAFE_CLR_SW_CLR
  if v && !old then clearAsserted s else if !v && old then biasAll s else s

/-- BIAS.CLEAR was written (R175). -/
def biasClearWritten (n : Nat) (s : State) : State :=
  let b := laneB n
  if s.on b R.BIAS_STATUS_FOLLOW_CLR then
    let ld (f g : Fld) (s : State) : State := (s.wr b f (s.rd b g)).wrSh b f (s.rd b g)
    biasEval n false (ld R.BIAS_VB_CODE R.BIAS_CLEAR_VB_CLR (ld R.BIAS_IB_CODE R.BIAS_CLEAR_IB_CLR
      (ld R.BIAS_CTRL_VB_RANGE R.BIAS_CLEAR_VB_CRNG (ld R.BIAS_CTRL_IB_RANGE R.BIAS_CLEAR_IB_CRNG s))))
  else biasEval n false s

/-- Chip reset of a lane's bias group (R176): the CHIP fields take the clear values, and the outputs step to them; no burst window is open (R173). -/
def biasChipReset (n : Nat) (s : State) : State :=
  let x := s.biasOf n
  let s := s.setBias n { x with ib := { x.ib with snap := true }, vb := { x.vb with snap := true }, gate := false }
  biasClearWritten n (s.wr (laneB n) R.BIAS_STATUS_FOLLOW_CLR 1)

/-! Load detectors. -/

/-- Bit number of a detector. -/
def detBit : Detector → Nat | .compl => 0 | .openLoad => 1 | .vbOvl => 2
def detFld : Detector → Fld | .compl => R.BIAS_STATUS_COMPL | .openLoad => R.BIAS_STATUS_OPEN | .vbOvl => R.BIAS_STATUS_VB_OVL
def detCnt : Detector → Fld | .compl => R.BIAS_CNT_COMPL | .openLoad => R.BIAS_CNT_OPEN | .vbOvl => R.BIAS_CNT_VB_OVL
def detAct : Detector → Fld
  | .compl => R.BIAS_DET_CFG_COMPL_ACT | .openLoad => R.BIAS_DET_CFG_OPEN_ACT | .vbOvl => R.BIAS_DET_CFG_VB_ACT

/-- Set bit i of a mask. -/
def setBit (m i : Nat) : Nat := if m / 2 ^ i % 2 == 1 then m else m + 2 ^ i
/-- Clear bit i of a mask. -/
def clrBit (m i : Nat) : Nat := if m / 2 ^ i % 2 == 1 then m - 2 ^ i else m

/-- EV_LANE_BIAS, held until wake in REST (R168, R195). -/
def biasEvent (n : Nat) (s : State) : State :=
  if s.islandRuns then s.raise (evLane n 11) else { s with heldEvents := s.heldEvents ++ [evLane n 11] }

/-- A detector declares (R179, R180). -/
def detDeclare1 (n : Nat) (d : Detector) (s : State) : State :=
  let b := laneB n
  let x := s.biasOf n
  if x.det / 2 ^ detBit d % 2 == 1 then s
  else
    let s := s.setBias n { x with det := setBit x.det (detBit d),
                                  clr := if s.on b (detAct d) then setBit x.clr (detBit d) else x.clr }
    biasEval n false (biasEvent n ((s.wr b (detFld d) 1).cnt b (detCnt d) 1))

/-- A detection, real or injected: an open load also satisfies the compliance condition (R179). -/
def detDeclare (n : Nat) (d : Detector) (s : State) : State :=
  match d with
  | .openLoad => detDeclare1 n .compl (detDeclare1 n .openLoad s)
  | d => detDeclare1 n d s

/-- The island can meet a detector's condition: IB detectors are idle below DET_MIN (R179). -/
def detArmed (n : Nat) (d : Detector) (s : State) : Bool :=
  match d with
  | .vbOvl => true
  | _ => decide (s.rd (laneB n) R.BIAS_DET_CFG_DET_MIN * 64 ≤ s.rd (laneB n) R.BIAS_OUT_IB_OUT)

/-- A detector's condition holds: it declares where it is armed (R179). -/
def detMet (n : Nat) (d : Detector) (s : State) : State := if detArmed n d s then detDeclare n d s else s

/-- A detector releases (R179). -/
def detRelease (n : Nat) (d : Detector) (s : State) : State :=
  let x := s.biasOf n
  s.setBias n { x with det := clrBit x.det (detBit d) }

/-- The bits of a STATUS write that clear: a detection bit stays while its detector has not released (R180). -/
def biasW1c (n : Nat) (w : Word) (s : State) : Word :=
  let keep (d : Detector) (w : Word) : Word :=
    if (s.biasOf n).det / 2 ^ detBit d % 2 == 1 then fset w (detFld d).hi (detFld d).lo 0 else w
  keep .compl (keep .openLoad (keep .vbOvl w))

/-- STATUS was written with the clearing bits `w` (R180, R183). -/
def biasCleared (n : Nat) (w : Word) (s : State) : State :=
  let x := s.biasOf n
  let off (f : Fld) (i m : Nat) : Nat := if fget w f.hi f.lo == 1 then clrBit m i else m
  biasEval n false (s.setBias n { x with clr := off R.BIAS_STATUS_COMPL 0 (off R.BIAS_STATUS_OPEN 1
    (off R.BIAS_STATUS_VB_OVL 2 (off R.BIAS_STATUS_WDOG 3 x.clr))) })

/-! Automatic power control. -/

/-- A write of APC_CODE (R181, R183): clamped, and the watchdog starts. -/
def apcWritten (n : Nat) (s : State) : State :=
  let b := laneB n
  let hi := s.rd b R.BIAS_APC_LIM_APC_MAX
  let lo := min hi (s.rd b R.BIAS_APC_LIM_APC_MIN)
  let s := s.wr b R.BIAS_APC_CODE_CODE (max lo (min hi (s.rd b R.BIAS_APC_CODE_CODE)))
  let s := if s.on b R.BIAS_CTRL_IB_SRC && s.rd b R.BIAS_APC_CFG_WDOG != 0 then s.setBias n { s.biasOf n with apcRun := true }
    else s
  biasEval n false s

/-- STATUS.WDOG sets (R183). -/
def apcWdogSet (n : Nat) (s : State) : State :=
  let x := s.biasOf n
  let s := s.setBias n { x with apcRun := false,
                                clr := if s.on (laneB n) R.BIAS_APC_CFG_WDOG_ACT then setBit x.clr 3 else x.clr }
  biasEval n false ((s.wr (laneB n) R.BIAS_STATUS_WDOG 1).raise (evLane n 11))

/-- WDOG × 1.024 ms pass without a write (R183). -/
def apcExpire (n : Nat) (s : State) : State :=
  if (s.biasOf n).apcRun && s.on (laneB n) R.BIAS_CTRL_IB_SRC && s.rd (laneB n) R.BIAS_APC_CFG_WDOG != 0 &&
      s.islandRuns then apcWdogSet n s
  else s

/-! The safety lock. -/

/-- A slot counts: valid, or with mismatching check bits (R185). -/
def Slot.counts (x : Slot) : Bool := x.valid || x.bad

/-- IB_MAX, EMIT_TH and DUTY of a counting slot (R185). -/
def Slot.vals (x : Slot) : Nat × Nat × Nat := if x.bad then (0, 0, 0) else (fget x.lim 13 0, fget x.lim 29 16, x.duty)

/-- The effective values of a lane (R184). -/
def effective (o : OtpLane) : Nat × Nat × Nat :=
  (o.slots.filter Slot.counts).foldl
    (fun a x => (min a.1 x.vals.1, min a.2.1 x.vals.2.1, min a.2.2 x.vals.2.2)) (0x3FFF, 0x3FFF, 0xFF)

/-- Copy a lane's effective values to SAFE.LIM and SAFE.LANE (R186). -/
def safeCopy (n : Nat) (s : State) : State :=
  let e := effective (s.otpOf n)
  let b := safeL n
  (((s.wr b R.SAFE_LIM_IB_MAX e.1).wr b R.SAFE_LIM_EMIT_TH e.2.1).wr b R.SAFE_LANE_DUTY e.2.2).wr b R.SAFE_LANE_SLOTS
    ((s.otpOf n).slots.filter Slot.counts).length

/-- The effective values and the lock bit as the OTP stands, and the lanes after them (R186, R191). -/
def safeApply (s : State) : State :=
  let s := lanes.foldl (fun t n => safeCopy n t) s
  let s := if s.otpLockA || s.otpLockB then (s.wr safeB R.SAFE_STATUS_LOCKED 1).wr safeB R.SAFE_CTRL_CHECK_EN 1 else s
  biasAll s

/-- An integrity failure (R185). -/
def otpErr (s : State) : State := (s.wr safeB R.SAFE_STATUS_OTP_ERR 1).raise 0x415

/-- The whole OTP is read (R185): mismatches, then the effective values. -/
def otpRead (s : State) : State :=
  let bad := s.otp.any (fun e => e.2.slots.any Slot.bad || e.2.denyA != e.2.denyB)
  let s := if bad then otpErr s else s
  let s := { s with bias := mapVals BiasSt.idle (fun _ x => { x with injLim := false }) s.bias }
  safeApply (s.wr safeB R.SAFE_STATUS_OTP_READY 1)

/-- Put slot i of a list. -/
def setAt {α : Type} (l : List α) (i : Nat) (v : α) : List α := l.set i v

/-- What a read finds changed (R185). -/
def otpUpset (u : OtpUpset) (s : State) : State :=
  match u with
  | .slot n i =>
    let o := s.otpOf n
    s.setOtp n { o with slots := setAt o.slots i.val { (o.slots.getD i.val .blank) with bad := true } }
  | .deny n second m =>
    let o := s.otpOf n
    s.setOtp n (if second then { o with denyB := o.denyB ||| m } else { o with denyA := o.denyA ||| m })
  | .lock second => if second then { s with otpLockB := true } else { s with otpLockA := true }

/-- A duty budget is spent (R190). -/
def dutySpend (n : Nat) (s : State) : State :=
  if s.on (safeL n) R.SAFE_LANE_CLAMP_DUTY then s
  else biasEval n false (((s.wr (safeL n) R.SAFE_LANE_CLAMP_DUTY 1).cnt safeB R.SAFE_CNT_DUTY_HITS 1).raise 0x413)

/-- The emission count of a lane reaches its budget (R190): the output emits in that cycle, and DUTY is not 0xFF. -/
def dutySpent (n : Nat) (s : State) : State :=
  if s.on (laneB n) R.BIAS_STATUS_EMITTING && s.rd (safeL n) R.SAFE_LANE_DUTY != 0xFF && s.islandRuns then dutySpend n s
  else s

/-- A duty window ends: every clamp releases (R190); in REST the monitor stands still (R168). -/
def dutyWindow (s : State) : State :=
  if !s.islandRuns then s
  else lanes.foldl (fun t n =>
    if t.on (safeL n) R.SAFE_LANE_CLAMP_DUTY then
      biasEval n true (t.wr (safeL n) R.SAFE_LANE_CLAMP_DUTY 0)
    else t) s

/-! Programming. -/

/-- An operation ends with a result (R193). -/
def progEnd (res : Nat) (s : State) : State := (s.wr safeB R.SAFE_STATUS_PROG_RESULT res).raise 0x417

/-- The free slot of a lane. -/
def freeSlot (n : Nat) (s : State) : Option Nat :=
  (List.range 4).find? (fun i => !((s.otpOf n).slots.getD i .blank).used && !((s.otpOf n).slots.getD i .blank).counts)

/-- PROG_CMD was written (R192, R193). -/
def progCmd (w : Word) (s : State) : State :=
  let op := fget w 2 0
  let n := fget w 13 8
  if fget w 31 16 != 0x5AFE || op == 0 || decide (3 < op) then progEnd 1 s
  else if s.safeOp.isSome then progEnd 2 s
  else if op == 1 && (freeSlot n s).isNone then progEnd 3 s
  else
    let e := effective (s.otpOf n)
    let im := s.rd safeB R.SAFE_PROG_LIM_IB_MAX
    let et := s.rd safeB R.SAFE_PROG_LIM_EMIT_TH
    let du := s.rd safeB R.SAFE_PROG_DUTY_DUTY
    if op == 1 && (decide (e.1 < im) || decide (e.2.1 < et) || decide (e.2.2 < du)) then progEnd 4 s
    else
      let deny : BitVec 64 := BitVec.ofNat 64 (s.rd64 safeB R.SAFE_PROG_DENY_LO_DENY R.SAFE_PROG_DENY_HI_DENY)
      let lim := fset (fset 0 13 0 im) 29 16 et
      { s.wr safeB R.SAFE_STATUS_PROG_BUSY 1 with safeOp := some ⟨op, n, lim, du, deny, s.injProg⟩, injProg := false }

/-- What a verified operation leaves in the OTP. -/
def progApply (p : SafeOp) (s : State) : State :=
  let o := s.otpOf p.lane
  match p.op with
  | 1 => match freeSlot p.lane s with
    | some i => s.setOtp p.lane { o with slots := setAt o.slots i ⟨true, false, true, p.lim, p.duty⟩ }
    | none => s
  | 2 => s.setOtp p.lane { o with denyA := o.denyA ||| p.deny, denyB := o.denyB ||| p.deny }
  | _ => { s with otpLockA := true, otpLockB := true }

/-- A failed margin read-back: the slot is used up without VALID, its data bits possibly programmed: which of them is
a free value (R193). -/
def progFail (p : SafeOp) (s : State) : State :=
  let o := s.otpOf p.lane
  let f := s.draw
  let s := s.drawn
  match p.op with
  | 1 => match freeSlot p.lane s with
    | some i =>
      let x : Slot := ⟨false, false, true, p.lim &&& BitVec.ofNat 32 f,
        (BitVec.ofNat 8 p.duty &&& BitVec.ofNat 8 (f / 2 ^ 32)).toNat⟩
      s.setOtp p.lane { o with slots := setAt o.slots i x }
    | none => s
  | _ => s

/-- A safety OTP operation ends (R193). -/
def progDone (verified : Bool) (s : State) : State :=
  match s.safeOp with
  | none => s
  | some p =>
    let s := { s.wr safeB R.SAFE_STATUS_PROG_BUSY 0 with safeOp := none }
    if p.inj then progEnd 6 s
    else if verified then safeApply (progEnd 0 (progApply p s))
    else progEnd 5 (otpErr (progFail p s))

/-- SAFE.RD_DATA as it reads. -/
def safeRdData (s : State) : Word :=
  let o := s.otpOf (s.rd safeB R.SAFE_RD_SEL_LANE)
  let i := s.rd safeB R.SAFE_RD_SEL_ITEM
  let d := o.denyA ||| o.denyB
  if i == 0 then d.truncate 32
  else if i == 1 then (d >>> 32).truncate 32
  else if i < 6 then (o.slots.getD (i - 2) .blank).lim
  else if i < 10 then
    let x := o.slots.getD (i - 6) .blank
    BitVec.ofNat 32 (b2n x.valid * 256 + x.duty)
  else 0

/-- The injections of SAFE.INJECT (R195). -/
def safeInject (w : Word) (s : State) : State :=
  let n := s.rd safeB R.SAFE_INJECT_INJ_LANE
  let s := if fget w 0 0 == 1 then biasEval n false (s.setBias n { s.biasOf n with injLim := true }) else s
  let s := if fget w 1 1 == 1 then dutySpend n s else s
  let s := if fget w 2 2 == 1 then biasEval n false (s.setBias n { s.biasOf n with injCh := true }) else s
  let s := if fget w 3 3 == 1 then otpErr s else s
  if fget w 4 4 == 1 then { s with injProg := true } else s

/-- The injections of BIAS.INJECT (R195). -/
def biasInject (n : Nat) (w : Word) (s : State) : State :=
  let s := if fget w 0 0 == 1 then detDeclare n .compl s else s
  let s := if fget w 1 1 == 1 then detDeclare n .openLoad s else s
  let s := if fget w 2 2 == 1 then detDeclare n .vbOvl s else s
  if fget w 3 3 == 1 then apcWdogSet n s else s

/-! The BIAS commit group (R194). -/

/-- The agreement rules of R194. -/
def biasRules (n : Nat) (s : State) : Nat :=
  let b := laneB n
  let chk := s.on safeB R.SAFE_CTRL_CHECK_EN
  let gate := s.rdSh b R.BIAS_CTRL_GATE_EN == 1
  if chk && denied n (s.rdSh b R.BIAS_CTRL_CHANNEL) s then 1
  else if gate && decide (n < 56) then 2
  else if chk && gate && emits n (s.rdSh b R.BIAS_CTRL_IB_RANGE) (s.rdSh b R.BIAS_IB_DARK) s then 3
  else 0

/-- What a commit of the BIAS group does beside the copy (R175, R178, R181, R195); `oldSrc` is IB_SRC before it. -/
def biasCommitted (n oldSrc : Nat) (s : State) : State :=
  let b := laneB n
  let s := s.wr b R.BIAS_STATUS_FOLLOW_CLR 0
  let s := s.setBias n { s.biasOf n with injCh := false }
  let s := if denied n (s.rd b R.BIAS_CTRL_CHANNEL) s then s else s.wr (safeL n) R.SAFE_LANE_CLAMP_CH 0
  let s := if oldSrc == 0 && s.on b R.BIAS_CTRL_IB_SRC then s.wr b R.BIAS_APC_CODE_CODE (s.rd b R.BIAS_OUT_IB_OUT) else s
  biasEval n false s

/-- The REST entry handshake (R168): an emitting IB output with a duty limit below 100 % steps to the emission code. -/
def biasRest (s : State) : State :=
  lanes.foldl (fun t n =>
    let b := laneB n
    if t.rd (safeL n) R.SAFE_LANE_DUTY != 0xFF && t.on b R.BIAS_STATUS_EMITTING then
      biasFlags n (setOut n false (emitCode n t) t)
    else t) s

/-- VDD_BIAS falls below 3.0 V, or has been back above 3.1 V for 100 µs (R512). -/
def biasUvSet (v : Bool) (s : State) : State := biasAll { s with biasUv := v }

end Sys2Proof.Machine
end

