-- ==== Sys2Proof/Machine/PageCode.lean ====
section
/-! DEFINITION. The page code (R301) and the layout of a page frame (R299, R300). -/

namespace Sys2Proof.Machine

/-! GF(2^16) by p(x) = x^16 + x^12 + x^3 + x + 1; an element is a number below 2^16. -/

/-- Times α. -/
def gfX (a : Nat) : Nat := if 2 ^ 15 ≤ a then (2 * a) ^^^ 0x1100B else 2 * a

/-- The product of two elements, over the low k bits of the second. -/
def gfMulN : Nat → Nat → Nat → Nat
  | 0, _, _ => 0
  | k + 1, a, b => (if b % 2 == 1 then a else 0) ^^^ gfMulN k (gfX a) (b / 2)

/-- The product in GF(2^16). -/
def gfMul (a b : Nat) : Nat := gfMulN 16 a b

/-- a squared k times. -/
def gfSq : Nat → Nat → Nat
  | 0, a => a
  | k + 1, a => gfSq k (gfMul a a)

/-- α^e, over the low k bits of e. -/
def gfPowN : Nat → Nat → Nat → Nat
  | 0, _, _ => 1
  | k + 1, a, e => gfMul (if e % 2 == 1 then a else 1) (gfPowN k (gfMul a a) (e / 2))

/-- α^e. -/
def gfAlpha (e : Nat) : Nat := gfPowN 16 2 e

/-- A polynomial over GF(2^16), lowest coefficient first, times (x + r). -/
def gfPolyRoot (p : List Nat) (r : Nat) : List Nat :=
  (List.range (p.length + 1)).map (fun i => (if i = 0 then 0 else p.getD (i - 1) 0) ^^^ gfMul r (p.getD i 0))

/-- The minimal polynomial of α^i, as its bits: the product over the conjugates, of degree 16 (R301). -/
def minPoly (i : Nat) : Nat :=
  let p := (List.range 16).foldl (fun p j => gfPolyRoot p (gfSq j (gfAlpha i))) [1]
  p.foldr (fun c acc => 2 * acc + c) 0

/-- The product of two polynomials over GF(2), over the low k bits of the second. -/
def clMulN : Nat → Nat → Nat → Nat
  | 0, _, _ => 0
  | k + 1, a, b => (if b % 2 == 1 then a else 0) ^^^ clMulN k (2 * a) (b / 2)

/-- The generator for strength t (R301). -/
def pageGen (t : Nat) : Nat := (List.range t).foldl (fun g j => clMulN 17 g (minPoly (2 * j + 1))) 1

/-- Bits of a byte list, bit 7 of the first byte first. -/
def msbBits (bs : List Byte) : List Bool :=
  bs.flatMap (fun (b : Byte) => (List.range 8).map (fun i => b.getLsbD (7 - i)))

/-- m(x) × x^d mod g(x), for g of degree d (R301). -/
def polyRem (d g : Nat) (bits : List Bool) : Nat :=
  bits.foldl (fun r b =>
    let fb := (r / 2 ^ (d - 1) % 2 == 1) != b
    (2 * r % 2 ^ d) ^^^ (if fb then g % 2 ^ d else 0)) 0

/-- The parity bytes of a message of data and metadata (R299, R301). -/
def pageParity (t : Nat) (msg : List Byte) : List Byte :=
  let r := polyRem (16 * t) (pageGen t) (msbBits msg)
  (List.range (2 * t)).map (fun k => BitVec.ofNat 8 (r / 256 ^ (2 * t - 1 - k)))

/-- The strength that TSEL gives (R301). -/
def pageStrength (tsel : Nat) : Nat := 8 * (tsel + 1)

/-- Little-endian bytes of a number. -/
def leBytes (n v : Nat) : List Byte := (List.range n).map (fun k => BitVec.ofNat 8 (v / 256 ^ k))

/-- A number from little-endian bytes. -/
def leNat (bs : List Byte) : Nat := bs.foldr (fun (b : Byte) acc => b.toNat + 256 * acc) 0

/-- The metadata of a page (R300). -/
def Page.metaBytes (p : Page) : List Byte :=
  leBytes 8 p.stamp ++ [BitVec.ofNat 8 p.flags, BitVec.ofNat 8 p.stepSeq, BitVec.ofNat 8 p.plot, BitVec.ofNat 8 p.src] ++
    leBytes 2 p.first ++ leBytes 2 p.fill

/-- The data of a page, 4,096 bytes: what was not filled reads 0 (R307). -/
def Page.bytes (p : Page) : List Byte := (p.data ++ List.replicate (4096 - p.data.length) 0).take 4096

/-- The whole frame as the stack holds it (R299). -/
def Page.frame (p : Page) : List Byte :=
  let msg := p.bytes ++ p.metaBytes
  let par := pageParity p.t msg
  msg ++ par ++ List.replicate (112 - par.length) 0

/-- What a read of an unwritten frame returns (R303). -/
def Page.unwritten : Page := ⟨[], 0, 0, 0, 0, 0, 0, 0, 8⟩

/-- Pack fields of w bits, the first lowest, each byte's bit 0 first. -/
def packBits (w : Nat) (xs : List Nat) (bytes : Nat) : List Byte :=
  leBytes bytes (xs.foldr (fun x acc => x % 2 ^ w + 2 ^ w * acc) 0)

end Sys2Proof.Machine
end

