-- ==== Sys2Proof/Machine/StackOps.lean ====
section
/-! DEFINITION. The stacks of the Meadow store (11): written frames (R303), reads and the error log (R302, R327 to R330),
whole-page writes (R330, R331), the scrubber (R332) and package repair (R333). -/

namespace Sys2Proof.Machine

/-- A frame's number among all stacks. -/
def frameKey' (m f : Nat) : Nat := 2 ^ 24 * m + f

/-- A page as a frame holds it; none where the frame is unwritten (R303). -/
def State.page (s : State) (m f : Nat) : Option Page := (s.pages.find? (fun e => e.1 == frameKey' m f)).map (·.2)

/-- Base for the fields of entry i of channel m's log. -/
def logB (m i : Nat) : Nat := (Obj.mcLog m i).base

/-- The log entry of a frame (R327). -/
def logFind (m f : Nat) (s : State) : Option Nat :=
  (List.range 64).find? (fun i => s.on (logB m i) R.MC_LOG_W0_VALID && s.rd (logB m i) R.MC_LOG_W0_FRAME == f)

/-- LAST of an entry. -/
def logLast (m i : Nat) (s : State) : Nat := s.rd64 (logB m i) R.MC_LOG_W3_LAST R.MC_LOG_W4_LAST

/-- The entry with the oldest LAST among some. -/
def logOldest (m : Nat) (is : List Nat) (s : State) : Option Nat :=
  is.foldl (fun b i => match b with
    | none => some i
    | some j => if logLast m i s < logLast m j s then some i else some j) none

/-- The entry that a frame without one takes (R327), and whether it replaces another. -/
def logChoose (m : Nat) (s : State) : Nat × Bool :=
  match (List.range 64).find? (fun i => !s.on (logB m i) R.MC_LOG_W0_VALID) with
  | some i => (i, false)
  | none =>
    let idle := (List.range 64).filter (fun i =>
      !s.on (logB m i) R.MC_LOG_W0_REWRITTEN && !s.on (logB m i) R.MC_LOG_W0_RETIRED)
    (((logOldest m idle s).or (logOldest m (List.range 64) s)).getD 0, true)

/-- Empty a log entry (R338). -/
def logClear (m i : Nat) (s : State) : State := { s with regs := dropKeys (keyIn (logB m i) 0x1000) s.regs }

/-- The log entry of a frame, allocated where it has none (R327). -/
def logTake (m f : Nat) (s : State) : State × Nat :=
  match logFind m f s with
  | some i => (s, i)
  | none =>
    let c := logChoose m s
    let s := logClear m c.1 s
    let s := (s.wr (logB m c.1) R.MC_LOG_W0_VALID 1).wr (logB m c.1) R.MC_LOG_W0_FRAME f
    (if c.2 then (s.cnt (mcB m) R.MC_CNT_REP_LOG_OVF 1).raise (evMc m 5) else s, c.1)

/-- A spare is taken (R329, R334); none where no spare is free. -/
def spareTake (m : Nat) (s : State) : Option (State × Nat) :=
  let free := s.rd (mcB m) R.MC_STATUS_SPARE_FREE
  if free == 0 then none
  else
    let k := look 0 s.spares m
    let s := ({ s with spares := put 0 s.spares m (k + 1) }).wr (mcB m) R.MC_STATUS_SPARE_FREE (free - 1)
    some (if free - 1 == s.rd (mcB m) R.MC_SPARE_LOW_TH then s.raise (evMc m 3) else s, k)

/-- A frame is retired to a spare, or stays with NOSPARE (R329). -/
def frameRetire (m f : Nat) (s : State) : State :=
  match spareTake m s with
  | some (s, k) =>
    let s := { s with remap := put 0 s.remap (frameKey' m f) (k + 1) }
    let s := match logFind m f s with
      | some i => s.wr (logB m i) R.MC_LOG_W0_RETIRED 1
      | none => s
    (s.cnt (mcB m) R.MC_CNT_REP_RETIRES 1).raise (evMc m 1)
  | none =>
    (match logFind m f s with
      | some i => s.wr (logB m i) R.MC_LOG_W0_NOSPARE 1
      | none => s).raise (evMc m 1)

/-- The physical frame that holds a frame's page. -/
def physFrame (m f : Nat) (s : State) : Nat :=
  match look 0 s.remap (frameKey' m f) with
  | 0 => f
  | k + 1 => 2 ^ 24 + k

/-- A corrected read of w bits, the highest numbered `top` (R327, R329). -/
def readCorrected (m f w top : Nat) (s : State) : State :=
  let loc := Config.dramLoc m (physFrame m f s) top
  let s := (s.cnt (mcB m) R.MC_CNT_COR_PAGES 1).cnt (mcB m) R.MC_CNT_BITS_BITS w
  let r := logTake m f s
  let b := logB m r.2
  let s := (r.1.cnt b R.MC_LOG_W1_HITS 1).cnt b R.MC_LOG_W1_REPEAT 1
  let s := s.wr b R.MC_LOG_W1_MAX_ERR (max (s.rd b R.MC_LOG_W1_MAX_ERR) w)
  let s := s.wr64 b R.MC_LOG_W3_LAST R.MC_LOG_W4_LAST s.tlv.toNat
  let s := ((s.wr b R.MC_LOG_W2_PC (fget loc 31 27)).wr b R.MC_LOG_W2_BANK (fget loc 26 22)).wr b R.MC_LOG_W2_ROW (fget loc 21 6)
  if s.on b R.MC_LOG_W0_REWRITTEN then frameRetire m f s else s

/-- An uncorrectable read (R330). -/
def readUncorr (m f : Nat) (s : State) : State :=
  let s := s.cnt (mcB m) R.MC_CNT_UNC_UNCORR 1
  let r := logTake m f s
  let s := (r.1.wr (logB m r.2) R.MC_LOG_W0_UNCORR 1).raise (evMc m 2)
  { s with uncPend := put 0 s.uncPend (frameKey' m f) 1 }

/-- An injection of a channel is armed, and taking it. -/
def mcArmed (m k : Nat) (s : State) : Bool := look 0 s.mcInj m / 2 ^ k % 2 == 1
def mcDisarm (m k : Nat) (s : State) : State := { s with mcInj := put 0 s.mcInj m (clrBit (look 0 s.mcInj m) k) }

/-- The outcome of a page read: 0 clean, 1 corrected, 2 uncorrectable, 3 unwritten (R302, R303). -/
def pageRead (m f : Nat) (res : PageRes) (s : State) : State × Nat :=
  match s.page m f with
  | none => (s, 3)
  | some p =>
    if mcArmed m 1 s then (readUncorr m f (mcDisarm m 1 s), 2)
    else match res with
      | .unc => (readUncorr m f s, 2)
      | .bits l =>
        let extra := mcArmed m 0 s
        let w := l.length + b2n extra
        if p.t < l.length then (readUncorr m f s, 2)
        else if w == 0 then (s, 0)
        else (readCorrected m f w (l.foldl max 0) (if extra then mcDisarm m 0 s else s), 1)

/-- Free bytes, for a page of whose errors nothing is known. -/
def freeBytes (n : Nat) (s : State) : List Byte × State :=
  ((List.range n).map (fun i => (Config.freeWord (s.free + i)).setWidth 8), { s with free := s.free + n })

/-- Bits of a codeword inverted in its message, for strength t: bit 16t is the coefficient of the message's x^0 (R301). -/
def flipBits (t : Nat) (l : List Nat) (msg : List Byte) : List Byte :=
  l.foldl (fun msg k =>
    if k < 16 * t then msg else msg.modify ((32895 - (k - 16 * t)) / 8) (fun b => b ^^^ BitVec.ofNat 8 (2 ^ ((k - 16 * t) % 8)))) msg

/-- A page read with what it delivers: 4,096 bytes of data, then the metadata. One that is uncorrectable is delivered as
read (R302); where the command does not say how, its bytes are free. -/
def pageDeliver (m f : Nat) (res : PageRes) (s : State) : State × Nat × List Byte :=
  let p := (s.page m f).getD .unwritten
  let msg := p.bytes ++ p.metaBytes
  let inj := mcArmed m 1 s
  let r := pageRead m f res s
  if r.2 != 2 then (r.1, r.2, msg)
  else match res, inj with
    | .bits l, false => (r.1, 2, flipBits p.t l msg)
    | _, _ =>
      let d := freeBytes 4112 r.1
      (d.2, 2, d.1)

/-- A whole-page write of a frame (R303, R330, R331). -/
def pageWrite (m f : Nat) (p : Page) (s : State) : State :=
  let k := frameKey' m f
  let s := if look 0 s.uncPend k == 1 then frameRetire m f { s with uncPend := eraseKey s.uncPend k } else s
  let s := match logFind m f s with
    | some i => (s.wr (logB m i) R.MC_LOG_W0_REWRITTEN 1).wr (logB m i) R.MC_LOG_W1_REPEAT 0
    | none => s
  { s with pages := put Page.unwritten s.pages k p }

/-- A frame becomes unwritten (R303, R337). -/
def pageDrop (m f : Nat) (s : State) : State := { s with pages := eraseKey s.pages (frameKey' m f) }

/-- The rewrite of a frame whose REPEAT reached the limit (R328). -/
def pageRewrite (m f : Nat) (s : State) : State :=
  match logFind m f s with
  | none => s
  | some i =>
    let b := logB m i
    if s.on b R.MC_LOG_W0_REWRITTEN || decide (s.rd b R.MC_LOG_W1_REPEAT < max 1 (s.rd (mcB m) R.MC_CTRL_REPEAT_LIMIT)) ||
        !s.mcUp m then s
    else (((s.wr b R.MC_LOG_W0_REWRITTEN 1).wr b R.MC_LOG_W1_REPEAT 0).cnt (mcB m) R.MC_CNT_REP_REWRITES 1).raise (evMc m 0)

/-- Written frames of a channel, ascending. -/
def writtenFrames (m : Nat) (s : State) : List Nat :=
  (s.pages.filter (fun e => e.1 / 2 ^ 24 == m)).map (fun e => e.1 % 2 ^ 24)

/-- The scrubber's interval as true time: INTERVAL µs, 0 acting as 1, four times as long while the DIM policy asks (R332). -/
def scrubTicks (m : Nat) (s : State) : Nat :=
  usT (max 1 (s.rd (mcB m) R.MC_SCRUB_INTERVAL) * if s.on hkB R.HK_TH_STATUS_SCRUB_DIM then 4 else 1)

/-- The scrubber reads the next written frame, an interval after the read before it (R332). -/
def scrubRead (m : Nat) (res : PageRes) (s : State) : State :=
  let b := mcB m
  if !s.on b R.MC_CTRL_SCRUB_EN || !s.mcUp m then s
  else
    let last := look 0 s.scrubAt m
    let s := if last == 0 then s else s.advanceNow (last - 1 + scrubTicks m s)
    let s := { s with scrubAt := put 0 s.scrubAt m (s.now + 1) }
    let fs := writtenFrames m s
    match fs.find? (fun f => decide (s.rd b R.MC_SCRUB_STAT_POS ≤ f)) with
    | some f => (pageRead m f res (s.wr b R.MC_SCRUB_STAT_POS (f + 1))).1
    | none =>
      let s := s.cntW b R.MC_SCRUB_STAT_PASSES 1
      match fs with
      | [] => s.wr b R.MC_SCRUB_STAT_POS 0
      | f :: _ => (pageRead m f res (s.wr b R.MC_SCRUB_STAT_POS (f + 1))).1

/-- The channel has load under R323. -/
def mcLoaded (m : Nat) (s : State) : Bool := s.rd (mdwB + 4 * m) R.MDW_ADM_CH_LOAD != 0

/-- MC.REPAIR was written with an OP (R333): the frames with data in the row move to spares. -/
def mcRepair (m op : Nat) (s : State) : State :=
  let b := mcB m
  if op == 0 || op == 3 then s
  else if s.on b R.MC_REPAIR_STAT_BUSY then s.wr b R.MC_REPAIR_STAT_RESULT 1
  else if mcLoaded m s then s.wr b R.MC_REPAIR_STAT_RESULT 2
  else if s.rd b R.MC_STATUS_SPARE_FREE < 8 then s.wr b R.MC_REPAIR_STAT_RESULT 3
  else
    let fs := (Config.rowFrames m (s.rd b R.MC_REPAIR_PC) (s.rd b R.MC_REPAIR_BANK) (s.rd b R.MC_REPAIR_ROW)).take 8
    let n := (fs.filter (fun f => (s.page m f).isSome)).length
    let free := s.rd b R.MC_STATUS_SPARE_FREE
    let s := ({ s with repairTmp := put 0 s.repairTmp m n }).wr b R.MC_STATUS_SPARE_FREE (free - n)
    let s := (s.wr b R.MC_REPAIR_STAT_BUSY 1).wr b R.MC_STATUS_REPAIR_BUSY 1
    let th := s.rd b R.MC_SPARE_LOW_TH
    if th < free ∧ free - n ≤ th then s.raise (evMc m 3) else s

/-- The repair ends: the frames return and the spares are free (R333). -/
def mcRepairDone (m : Nat) (fail : Bool) (s : State) : State :=
  let b := mcB m
  if !s.on b R.MC_REPAIR_STAT_BUSY then s
  else
    let inj := mcArmed m 2 s
    let s := if inj then mcDisarm m 2 s else s
    let s := s.wr b R.MC_STATUS_SPARE_FREE (s.rd b R.MC_STATUS_SPARE_FREE + look 0 s.repairTmp m)
    let s := { s with repairTmp := eraseKey s.repairTmp m }
    let s := (s.wr b R.MC_REPAIR_STAT_BUSY 0).wr b R.MC_STATUS_REPAIR_BUSY 0
    (s.wr b R.MC_REPAIR_STAT_RESULT (if inj then 5 else if fail then 4 else 0)).raise (evMc m 4)

/-- MC_RST (R338): the BLOCK fields; the contents, written bits, log and remapping stay. -/
def mcReset (m : Nat) (s : State) : State :=
  let s := resetKeys (keyIn (mcB m) 0x10000) s
  let s := { s with repairTmp := eraseKey s.repairTmp m, mcInj := eraseKey s.mcInj m, scrubAt := eraseKey s.scrubAt m }
  s.wr (mcB m) R.MC_STATUS_SPARE_FREE (1024 - look 0 s.spares m)

/-- The injections of MC.INJECT (R337). -/
def mcInject (m : Nat) (w : Word) (s : State) : State :=
  let arm (s : State) (bit k : Nat) : State :=
    if fget w bit bit == 1 then { s with mcInj := put 0 s.mcInj m (setBit (look 0 s.mcInj m) k) } else s
  let s := arm (arm (arm s 0 0) 1 1) 4 2
  let s := if fget w 2 2 == 1 then s.raise (evMc m 3) else s
  if fget w 3 3 == 1 then s.raise (evMc m 6) else s

end Sys2Proof.Machine
end

