-- ==== Sys2Proof/Machine/PlotOps.lean ====
section
/-! DEFINITION. Plots (R304 to R307), capture records and pages (R308 to R313), triggers (R314 to R316) and plot commands
(R306). -/

namespace Sys2Proof.Machine

/-! Plots. -/

/-- Base for the fields of plot P. -/
def plB (p : Nat) : Nat := (Obj.plot p).base

/-- The channels of a mask, ascending. -/
def maskChans (mask : Nat) : List Nat := (List.range 6).filter (fun m => mask / 2 ^ m % 2 == 1)

/-- The channels of a plot. -/
def plotChans (p : Nat) (s : State) : List Nat := maskChans (s.rd (plB p) R.MDW_PLOT_W1_CH_MASK)

/-- SIZE of a plot (R304). -/
def plotSize (p : Nat) (s : State) : Nat := s.rd (plB p) R.MDW_PLOT_W2_FRAMES * (plotChans p s).length

/-- The channel and frame of page q (R304). -/
def plotFrame (p q : Nat) (s : State) : Nat × Nat :=
  let cs := plotChans p s
  (cs.getD (q % cs.length) 0, s.rd (plB p) R.MDW_PLOT_W1_BASE + q / cs.length)

/-- A frame belongs to an enabled plot. -/
def inPlot (p key : Nat) (s : State) : Bool :=
  let f := key % 2 ^ 24
  let base := s.rd (plB p) R.MDW_PLOT_W1_BASE
  s.on (plB p) R.MDW_PLOT_W0_EN && s.rd (plB p) R.MDW_PLOT_W1_CH_MASK / 2 ^ (key / 2 ^ 24) % 2 == 1 &&
    decide (base ≤ f) && decide (f < base + s.rd (plB p) R.MDW_PLOT_W2_FRAMES)

/-- TYPE and state of a plot (R305, R306). -/
def plotType (p : Nat) (s : State) : Nat := s.rd (plB p) R.MDW_PLOT_W0_TYPE
def plotState (p : Nat) (s : State) : Nat := s.rd (plB p) R.MDW_PLOT_STAT_STATE

/-- What a plot holds. -/
def State.plotOf (s : State) (p : Nat) : PlotSt := look PlotSt.idle s.plots p
def State.setPlot (s : State) (p : Nat) (x : PlotSt) : State := { s with plots := put PlotSt.idle s.plots p x }

/-- Data of a plot is discarded (R312, R313): PLOT_LOST, the source's GAP, and EV_MDW_OVERFLOW. -/
def plotLose (p src k : Nat) (s : State) : State :=
  if k == 0 then s
  else
    let x := s.plotOf p
    let s := s.setPlot p { x with gaps := if x.gaps.contains src then x.gaps else x.gaps ++ [src] }
    (s.cnt (plB p) R.MDW_PLOT_LOST_LOST k).raise 0x42C

/-! Triggers. -/

/-- Base for the fields of trigger t. -/
def trB (t : Nat) : Nat := (Obj.trig t).base

/-- A source fires: every enabled trigger of that KIND whose ARG agrees under a mask takes a fire (R314). -/
def fireSrc (kind arg mask t tq seq : Nat) (s : State) : State :=
  { s with fires := s.fires ++ ((List.range 64).filter (fun i =>
      s.on (trB i) R.MDW_TRIG_CFG0_EN && s.rd (trB i) R.MDW_TRIG_CFG0_KIND == kind &&
        Nat.land (s.rd (trB i) R.MDW_TRIG_CFG0_ARG) mask == Nat.land arg mask)).map (fun i => (⟨i, t, tq, seq⟩ : Fire)) }

/-- A fire from a timed action or the host (R68, R314). -/
def fireOne (i t : Nat) (s : State) : State := { s with fires := s.fires ++ [⟨i, t, (s.tagAt t).1, (s.tagAt t).2⟩] }

/-- Triggers of a plot in WAIT whose PRE pages are written go to ARMED (R315). -/
def trigArm (p : Nat) (s : State) : State :=
  (List.range 64).foldl (fun s t =>
    if s.rd (trB t) R.MDW_TRIG_STAT_STATE == 1 && s.rd (trB t) R.MDW_TRIG_CFG0_PLOT == p && plotState p s == 2 &&
        decide (s.rd (trB t) R.MDW_TRIG_CFG2_PRE ≤ (s.plotOf p).since) then
      s.wr (trB t) R.MDW_TRIG_STAT_STATE 2
    else s) s

/-- The triggers of a plot that are FIRED. -/
def trigFired (p : Nat) (s : State) : List Nat :=
  (List.range 64).filter (fun t => s.rd (trB t) R.MDW_TRIG_STAT_STATE == 3 && s.rd (trB t) R.MDW_TRIG_CFG0_PLOT == p)

/-- A FIRED trigger whose plot stopped before its POST pages were complete (R316). -/
def trigShort (p : Nat) (s : State) : State :=
  (trigFired p s).foldl (fun s t =>
    let s := (s.wr (trB t) R.MDW_TRIG_STAT_STATE 4).wr (trB t) R.MDW_TRIG_STAT_SHORT_POST 1
    { s with trigPost := eraseKey s.trigPost t }) s

/-! Pages. -/

/-- A linear plot is at its end (R306): FULL; data still in its buffers is discarded (R313). -/
def plotFull (p : Nat) (s : State) : State :=
  let s := (s.wr (plB p) R.MDW_PLOT_STAT_STATE 4).raise 0x42E
  let x := s.plotOf p
  let s := s.setPlot p { x with buf := [], heads := [] }
  trigShort p (plotLose p 64 x.heads.length s)

/-- A page enters the plot at WPTR (R306, R307). -/
def plotPut (p : Nat) (pg : Page) (s : State) : State :=
  let b := plB p
  let q := s.rd b R.MDW_PLOT_STAT_WPTR
  let mf := plotFrame p q s
  let s := pageWrite mf.1 mf.2 pg s
  let s := s.setPlot p { s.plotOf p with since := (s.plotOf p).since + 1 }
  if q + 1 < plotSize p s then s.wr b R.MDW_PLOT_STAT_WPTR (q + 1)
  else if s.on b R.MDW_PLOT_W0_RING then (s.wr b R.MDW_PLOT_STAT_WPTR 0).wr b R.MDW_PLOT_STAT_WRAPPED 1
  else plotFull p (s.wr b R.MDW_PLOT_STAT_WPTR (q + 1))

/-- A page is offered to the channel of its frame: a channel that does not serve pages discards it (R313, R445), k records
or pages of source src. -/
def plotOffer (p src k : Nat) (pg : Page) (s : State) : State :=
  if s.mcUp (plotFrame p (s.rd (plB p) R.MDW_PLOT_STAT_WPTR) s).1 then plotPut p pg s else plotLose p src (max 1 k) s

/-- The page that the first n bytes of a plot's records make (R300). -/
def recordPage (p n : Nat) (s : State) : Page :=
  let x := s.plotOf p
  let hs := x.heads.filter (fun h => decide (h.off < n))
  let h0 := hs.headD x.cur
  let all := if hs.isEmpty then [x.cur] else hs
  let flag (b : Bool) (k : Nat) : Nat := if b then 2 ^ k else 0
  let flags := h0.tq + flag (all.any (fun h => h.tq == 2)) 2 + flag (x.gaps.contains 64) 3 +
    flag (all.any (fun h => h.seq != h0.seq)) 4
  ⟨x.buf.take n, h0.t, flags, h0.seq, p, 64 + s.rd (plB p) R.MDW_PLOT_W0_SRC,
    (hs.head?.map (fun h => h.off)).getD 0xFFFF, n, pageStrength (s.rd (plB p) R.MDW_PLOT_W0_TSEL)⟩

/-- The first n bytes of a plot's records leave the buffer as a page. -/
def recordPut (p n : Nat) (s : State) : State :=
  let pg := recordPage p n s
  let x := s.plotOf p
  let gone := x.heads.filter (fun h => decide (h.off < n))
  let s := s.setPlot p { x with
    buf := x.buf.drop n
    heads := (x.heads.filter (fun h => decide (n ≤ h.off))).map (fun h => { h with off := h.off - n })
    cur := gone.getLastD x.cur
    gaps := x.gaps.filter (· != 64) }
  let s := { s with forRecs := s.forRecs.map (fun r => if r.plot == p then { r with left := r.left - n } else r) }
  plotOffer p 64 gone.length pg s

/-- The pages still in the buffer are written (R307). -/
def plotFlushN : Nat → Nat → State → State
  | 0, _, s => s
  | k + 1, p, s =>
    let n := min 4096 (s.plotOf p).buf.length
    if n == 0 || plotState p s != 2 then s else plotFlushN k p (recordPut p n s)

/-- A plot leaves RUN for FROZEN or OFF with its buffered pages written (R307). -/
def plotFreeze (p st : Nat) (s : State) : State :=
  let s := plotFlushN ((s.plotOf p).buf.length / 4096 + 1) p s
  let x := s.plotOf p
  let soft := plotType p s == 1 && decide (2 ≤ s.rd (plB p) R.MDW_PLOT_W0_CMODE)
  let s := s.setPlot p { x with flush := if soft && st == 3 then s.rd (plB p) R.MDW_PLOT_W3_SRC_MASK else 0 }
  if plotState p s == 2 then s.wr (plB p) R.MDW_PLOT_STAT_STATE st else s

/-- POST counts advance after a page (R315); a trigger whose pages are complete stops the plot. -/
def trigCount (p : Nat) (s : State) : State :=
  let s := trigArm p s
  let r := (trigFired p s).foldl (fun (r : State × Bool) t =>
    let left := look 0 r.1.trigPost t - 1
    let s := { r.1 with trigPost := put 0 r.1.trigPost t left }
    if left == 0 then (s.wr (trB t) R.MDW_TRIG_STAT_STATE 4, true) else (s, r.2)) (s, false)
  if r.2 && plotState p r.1 == 2 then plotFreeze p 3 r.1 else r.1

/-- A plot enters RUN (R306). -/
def plotRun (p : Nat) (s : State) : State :=
  let s := (s.wr (plB p) R.MDW_PLOT_STAT_STATE 2).setPlot p { s.plotOf p with since := 0, flush := 0 }
  trigArm p s

/-- The bytes in an engine's capture port buffer (R313). -/
def portFill (e : Nat) (s : State) : Nat :=
  s.plots.foldl (fun n x => if s.rd (plB x.1) R.MDW_PLOT_W0_SRC == e then n + x.2.buf.length else n) 0

/-- A record enters a plot in RUN, or is discarded whole (R309, R313). -/
def recordAdd (p : Nat) (bytes : List Byte) (t tq seq : Nat) (s : State) : State :=
  let x := s.plotOf p
  if x.inj then plotLose p 64 1 (s.setPlot p { x with inj := false })
  else if 2 ^ 20 < portFill (s.rd (plB p) R.MDW_PLOT_W0_SRC) s + bytes.length then plotLose p 64 1 s
  else s.setPlot p { x with buf := x.buf ++ bytes, heads := x.heads ++ [⟨x.buf.length, t, tq, seq⟩] }

/-- Pad with zeros to a multiple of 4 bytes. -/
def pad4 (bs : List Byte) : List Byte := bs ++ List.replicate ((4 - bs.length % 4) % 4) 0

/-- A frame record (R309). -/
def frameRecord (t tq seq lane g cls snap : Nat) (err : Bool) (bytes : List Byte) : List Byte :=
  let body := if snap == 0 then bytes else bytes.take snap
  leBytes 8 t ++ [BitVec.ofNat 8 (tq + b2n err * 4 + b2n (decide (body.length < bytes.length)) * 8 + cls * 16),
    BitVec.ofNat 8 seq, BitVec.ofNat 8 lane, BitVec.ofNat 8 g] ++ leBytes 2 bytes.length ++ leBytes 2 body.length ++ pad4 body

/-- A plot's selection takes a frame (R308). -/
def frameSel (p e g cls : Nat) (err : Bool) (s : State) : Bool :=
  let b := plB p
  plotType p s == 1 && s.rd b R.MDW_PLOT_W0_CMODE == 0 && s.rd b R.MDW_PLOT_W0_SRC == e &&
    s.rd b R.MDW_PLOT_W3_SRC_MASK / 2 ^ g % 2 == 1 && s.rd b R.MDW_PLOT_W3_CLASS_MASK / 2 ^ cls % 2 == 1 &&
    (!err || s.on b R.MDW_PLOT_W0_ERRF)

/-- A frame reaches the capture plots (R308, R312, R313) and the triggers of its class (R314). -/
def frameCapture (e g cls lane t : Nat) (err : Bool) (bytes : List Byte) (s : State) : State :=
  let tag := s.tagAt t
  let r := (List.range 256).foldl (fun (r : State × Nat) p =>
    let s := r.1
    if !frameSel p e g cls err s then r
    else if plotState p s == 4 then (plotLose p 64 1 s, r.2)
    else if plotState p s != 2 then r
    else if 4 ≤ r.2 then (s.cnt (plB p) R.MDW_PLOT_LOST_LOST 1, r.2)
    else (recordAdd p (frameRecord t tag.1 tag.2 lane g cls (s.rd (plB p) R.MDW_PLOT_W0_SNAP) err bytes)
      t tag.1 tag.2 s, r.2 + 1)) (s, 0)
  fireSrc 3 (e * 256 + cls) 0x30F t tag.1 tag.2 r.1

/-- A lane's page is complete (R311). -/
def lanePage (p l t : Nat) (burst : Bool) (data : List Byte) (s : State) : State :=
  let b := plB p
  let soft := s.rd b R.MDW_PLOT_W0_CMODE == 2
  let data := data.take (if soft then 8192 else 4096)
  let bytes : List Byte := if soft then packBits 4 (data.map BitVec.toNat) ((data.length + 1) / 2) else data
  let x := s.plotOf p
  let sel := plotType p s == 1 && decide (2 ≤ s.rd b R.MDW_PLOT_W0_CMODE) && l / 16 == s.rd b R.MDW_PLOT_W0_SRC &&
    s.rd b R.MDW_PLOT_W3_SRC_MASK / 2 ^ (l % 16) % 2 == 1
  let tail := plotState p s == 3 && x.flush / 2 ^ (l % 16) % 2 == 1
  if !sel then s
  else if plotState p s == 4 then plotLose p l 1 s
  else if !(plotState p s == 2 || tail) then s
  else if x.inj then plotLose p l 1 (s.setPlot p { x with inj := false })
  else
    let tag := s.tagAt t
    let flags := tag.1 + b2n (tag.1 == 2) * 4 + b2n (x.gaps.contains l) * 8 + b2n burst * 32
    let pg : Page := ⟨bytes, t, flags, tag.2, p, l, 0, bytes.length, pageStrength (s.rd b R.MDW_PLOT_W0_TSEL)⟩
    let s := s.setPlot p { x with gaps := x.gaps.filter (· != l),
                                  flush := if tail then clrBit x.flush (l % 16) else x.flush }
    plotOffer p l 1 pg s

/-- A page of a source is complete, or lost (R307, R313). -/
def pageIn (p : Nat) (x : PageIn) (s : State) : State :=
  match x with
  | .records => if plotState p s == 2 && decide (4096 ≤ (s.plotOf p).buf.length) then recordPut p 4096 s else s
  | .lane l t burst data => lanePage p l.val t.toNat burst data s
  | .lost l => if plotState p s == 2 then plotLose p l.val 1 s else s

/-- PAGE_COMPLETE: a page that enters the plot counts for its triggers (R315). -/
def pageComplete (p : Nat) (x : PageIn) (s : State) : State :=
  let t := pageIn p x s
  if (t.plotOf p).since == (s.plotOf p).since then t else trigCount p t

/-! Fires. -/

/-- A fire is recorded (R315); it is the source of the triggers that name this one (R314). -/
def trigRecord (f : Fire) (s : State) : State :=
  let b := trB f.trig
  let p := s.rd b R.MDW_TRIG_CFG0_PLOT
  let s := ((s.wr b R.MDW_TRIG_STAT_TQ f.tq).wr b R.MDW_TRIG_STAT_STEP_SEQ f.seq).cnt b R.MDW_TRIG_STAT_FIRES 1
  let s := (s.wr64 b R.MDW_TRIG_T_LO_T R.MDW_TRIG_T_HI_T f.t).wr b R.MDW_TRIG_PAGE_PAGE (s.rd (plB p) R.MDW_PLOT_STAT_WPTR)
  fireSrc 4 f.trig 0x3F f.t f.tq f.seq (s.raise 0x42B)

/-- A trigger is FIRED, or gives way to one that is (R315, R316). -/
def trigStop (t p : Nat) (short : Bool) (s : State) : State :=
  let b := trB t
  let s := if short then s.wr b R.MDW_TRIG_STAT_SHORT 1 else s
  if (trigFired p s).isEmpty then
    { s.wr b R.MDW_TRIG_STAT_STATE 3 with trigPost := put 0 s.trigPost t (s.rd b R.MDW_TRIG_CFG1_POST + 1) }
  else (s.wr b R.MDW_TRIG_STAT_STATE 4).wr b R.MDW_TRIG_STAT_PREEMPT 1

/-- A fire reaches its trigger (R315). -/
def trigFire (f : Fire) (s : State) : State :=
  let b := trB f.trig
  let st := s.rd b R.MDW_TRIG_STAT_STATE
  let p := s.rd b R.MDW_TRIG_CFG0_PLOT
  let act := s.rd b R.MDW_TRIG_CFG0_ACTION
  let pst := plotState p s
  if st == 0 || st == 4 then s
  else
    let s := trigRecord f s
    if act == 2 then
      if (st == 1 || st == 2) && (pst == 1 || pst == 3) && (plotType p s == 1 || plotType p s == 3) then
        plotRun p (s.wr b R.MDW_TRIG_STAT_STATE 4)
      else s
    else if st == 1 && pst == 2 then trigStop f.trig p true s
    else if st == 2 && act == 0 then trigStop f.trig p false s
    else s

/-- The plot of a trigger. -/
def trigPlot (t : Nat) (s : State) : Nat := s.rd (trB t) R.MDW_TRIG_CFG0_PLOT

/-- The oldest fire of a trigger arrives (R314); fires that meet one plot with the same stamp arrive together, the lower
trigger first (R316). -/
def fireArrive (t : Nat) (s : State) : State :=
  match s.fires.find? (fun f => f.trig == t) with
  | none => s
  | some f =>
    let same (g : Fire) : Bool := g.t == f.t && trigPlot g.trig s == trigPlot t s
    let fs := (List.range 64).flatMap (fun i => s.fires.filter (fun g => g.trig == i && same g))
    fs.foldl (fun s g => trigFire g s) { s with fires := s.fires.filter (fun g => !same g) }

/-- REARM (R315). -/
def trigRearm (t : Nat) (s : State) : State :=
  let b := trB t
  let st := s.rd b R.MDW_TRIG_STAT_STATE
  if (st == 4 || st == 0) && s.on b R.MDW_TRIG_CFG0_EN then
    let s := ((s.wr b R.MDW_TRIG_STAT_SHORT 0).wr b R.MDW_TRIG_STAT_PREEMPT 0).wr b R.MDW_TRIG_STAT_SHORT_POST 0
    trigArm (s.rd b R.MDW_TRIG_CFG0_PLOT) (s.wr b R.MDW_TRIG_STAT_STATE 1)
  else s

/-- MDW.TRIG_CMD was written (R314, R315). -/
def trigCmd (w : Word) (s : State) : State :=
  let i := s.rd mdwB R.MDW_TRIG_CMD_INDEX
  let s := if fget w 31 31 == 1 then fireOne i s.tlv.toNat s else s
  if fget w 30 30 == 1 then trigRearm i s else s

/-! Plot commands. -/

/-- A plot is named by a segment of an enabled replay context (R306). -/
def replaySource (p : Nat) (s : State) : Bool :=
  (List.range 64).any (fun r =>
    let b := (Obj.rp r).base
    s.on b R.MDW_RP_CFG_EN && (List.range (s.rd b R.MDW_RP_CFG_NSEG + 1)).any (fun i =>
      s.rd (b + 12 * i) R.MDW_RP_SEG_A_PLOT == p))

/-- RESULT of PLOT_CMD. -/
def plotResult (p r : Nat) (s : State) : State := s.wr (plB p) R.MDW_PLOT_CMD_RESULT r

/-- The written bits of a plot's frames clear (R303, R306). -/
def plotErase (p : Nat) (s : State) : State := { s with pages := dropKeys (fun k => inPlot p k s) s.pages }

/-- MDW.PLOT_CMD was written (R306). -/
def plotCmd (op : Nat) (s : State) : State :=
  let p := s.rd mdwB R.MDW_PLOT_SEL_INDEX
  let st := plotState p s
  let runs := plotType p s == 1 || plotType p s == 3
  match op with
  | 1 =>
    if !(runs && (st == 1 || st == 3)) then plotResult p 1 s
    else if replaySource p s then plotResult p 2 s
    else plotRun p (plotResult p 0 s)
  | 2 =>
    if st != 2 then plotResult p 1 s
    else trigShort p (plotFreeze p 3 (plotResult p 0 s))
  | 3 =>
    if st == 2 then plotResult p 1 s
    else
      let s := ((plotResult p 0 s).wr (plB p) R.MDW_PLOT_STAT_WPTR 0).wr (plB p) R.MDW_PLOT_STAT_WRAPPED 0
      let s := if st == 4 then s.wr (plB p) R.MDW_PLOT_STAT_STATE 1 else s
      plotErase p (s.setPlot p { s.plotOf p with flush := 0 })
  | _ => s

/-- MDW.INJECT was written (R337). -/
def mdwInject (w : Word) (s : State) : State :=
  let s := if fget w 0 0 == 1 then { s with injAdmit := true } else s
  let p := s.rd mdwB R.MDW_PLOT_SEL_INDEX
  let s := if fget w 1 1 == 1 then s.setPlot p { s.plotOf p with inj := true } else s
  if fget w 2 2 == 1 then
    let r := fget w 13 8
    { s with rps := put RpSt.idle s.rps r { look RpSt.idle s.rps r with inj := true } }
  else s

/-- An HBM3 parity error that a retry does or does not clear (R337). -/
def hbmParity (m f : Nat) (write second : Bool) (s : State) : State :=
  let s := s.raise (evMc m 6)
  if !second then s
  else if write then
    let s' := pageDrop m f s
    match (List.range 256).find? (fun p => inPlot p (frameKey' m f) s) with
    | some p => s'.cnt (plB p) R.MDW_PLOT_LOST_LOST 1
    | none => s'
  else if (s.page m f).isSome then readUncorr m f s
  else s

/-! Forensic records (R235 to R237). -/

/-- The weight byte of a codeword: 0xFF where it is uncorrectable (R236, R310). -/
def RsCw.weight (cw : RsCw) : Nat := if cw.unc then 0xFF else cw.fixed.length

/-- One slot of a forensic record (R236). -/
def forSlot (lane g pos cause pre link : Nat) (cw : RsCw) : List Byte :=
  let rel0 (k : Nat) : Bool := (List.range 5).any (fun j => cw.rel.getD (5 * k + j) 3 == 0)
  let map := (List.range 544).map (fun k =>
    if cw.unc then b2n (cw.erased.contains k || rel0 k) else b2n (cw.fixed.contains k))
  leBytes 8 cw.t ++ [BitVec.ofNat 8 (cw.tq + b2n cw.unc * 4), BitVec.ofNat 8 cw.stepSeq, BitVec.ofNat 8 lane, BitVec.ofNat 8 g] ++
    leBytes 4 cw.seq ++ [BitVec.ofNat 8 cw.weight, BitVec.ofNat 8 pos, BitVec.ofNat 8 cause, BitVec.ofNat 8 pre] ++
    leBytes 2 cw.innerCor ++ leBytes 2 cw.innerDet ++ [BitVec.ofNat 8 link] ++ List.replicate 39 0 ++
    packBits 10 cw.syms 680 ++ packBits 1 map 68 ++ packBits 2 cw.rel 680 ++ List.replicate 556 0

/-- A codeword record (R310). -/
def cwRecord (lane g : Nat) (cw : RsCw) : List Byte :=
  let sl := forSlot lane g 0 0 0 0 cw
  sl.take 12 ++ [BitVec.ofNat 8 cw.weight, 0, 0, 0] ++ (sl.drop 64).take 748 ++ leBytes 4 cw.seq

/-- A dropped forensic trigger (R237). -/
def forDrop (e cause : Nat) (s : State) : State :=
  ((s.cnt (feB e) R.FE_FOR_STAT_DROPS 1).wr (feB e) R.FE_FOR_STAT_DROP_CAUSE cause).raise (evFe e 3)

/-- A plot of an engine that takes forensic records. -/
def forPlot (e p : Nat) (s : State) : Bool :=
  plotType p s == 3 && s.rd (plB p) R.MDW_PLOT_W0_SRC == e

/-- A forensic trigger: the record enters the plot's buffer and is in flight, or is dropped (R235, R237). -/
def forTrigger (e lane g cause link : Nat) (cw : RsCw) (s : State) : State :=
  let p := s.rd (feB e) R.FE_FOR_PLOT_PLOT
  let st := look StreamSt.idle s.streams lane
  let pre := 2 ^ s.rd (feB e) R.FE_FOR_CTRL_PRE - 1
  if look 0 s.injForDrop e == 1 then forDrop e 4 { s with injForDrop := eraseKey s.injForDrop e }
  else if decide (4 ≤ s.forRecs.countP (fun r => r.eng == e)) then forDrop e 1 s
  else if forPlot e p s && plotState p s == 4 then forDrop e 2 s
  else if !(forPlot e p s && plotState p s == 2) then forDrop e 3 s
  else
    let ctx := st.last.drop (st.last.length - pre)
    let slots := ((ctx.zipIdx.flatMap (fun x => forSlot lane g x.2 cause pre link x.1)) ++ forSlot lane g pre cause pre link cw)
    let first := ctx.headD cw
    let t := recordAdd p slots first.t first.tq first.stepSeq s
    let n := (t.plotOf p).buf.length
    if n == (s.plotOf p).buf.length then t else { t with forRecs := t.forRecs ++ [⟨e, p, n⟩] }

/-- The oldest forensic record of an engine is complete once its last slot has left the plot's buffer for the store (R237).
One whose plot has stopped with slots still in the buffer, which it then discards, never is. -/
def forDone (e : Nat) (s : State) : State :=
  match s.forRecs.find? (fun r => r.eng == e) with
  | none => s
  | some r =>
    if r.left == 0 then ({ s with forRecs := s.forRecs.erase r }.cnt (feB e) R.FE_FOR_STAT_RECORDS 1).raise (evFe e 2)
    else if plotState r.plot s == 2 then s
    else { s with forRecs := s.forRecs.erase r }

/-- A codeword of a stream is decoded (R235, R310): capture and forensics. -/
def cwCapture (lane : Nat) (inj : Bool) (cw : RsCw) (s : State) : State :=
  let e := lane / 16
  match laneGrp lane s with
  | none => s
  | some g =>
    let b := feB e
    let st := look StreamSt.idle s.streams lane
    let s := (List.range 256).foldl (fun s p =>
      let pb := plB p
      if plotType p s == 1 && s.rd pb R.MDW_PLOT_W0_CMODE == 1 && s.rd pb R.MDW_PLOT_W0_SRC == e &&
          s.rd pb R.MDW_PLOT_W3_SRC_MASK / 2 ^ g % 2 == 1 then
        (if plotState p s == 2 then recordAdd p (cwRecord lane g cw) cw.t cw.tq cw.stepSeq s
        else if plotState p s == 4 then plotLose p 64 1 s
        else s)
      else s) s
    let on := s.on b R.FE_FOR_CTRL_EN && s.rd b R.FE_FOR_CTRL_GRP_EN / 2 ^ g % 2 == 1
    let u := cw.unc && s.on b R.FE_FOR_CTRL_UNCORR_EN
    let w := !cw.unc && s.on b R.FE_FOR_CTRL_WEIGHT_EN && decide (s.rd b R.FE_FOR_CTRL_WEIGHT ≤ cw.fixed.length)
    let s := if on && (u || w) then
        forTrigger e lane g (if inj then 3 else if cw.unc then 1 else 2) (s.rd (grpB e g) R.FE_GRP_CFG_LINK) cw s
      else s
    let st' : StreamSt := ⟨(st.count + 1) % 2 ^ 32, (st.last ++ [cw]).drop ((st.last.length + 1) - 7)⟩
    { s with streams := put StreamSt.idle s.streams lane st' }

end Sys2Proof.Machine
end

