-- ==== Sys2Proof/Machine/InnerCode.lean ====
section
/-! DEFINITION. The extended (136,128) inner code (R228) and its decoder (R231). -/

namespace Sys2Proof.Machine

/-- A received inner codeword (R231): its 136 hard bits, bit i at position i, and the reliability of each. -/
structure InnerCw where
  bits : BitVec 136
  rel : List Nat
  deriving DecidableEq, Repr

/-- The number of ones in the low k bits of v. -/
def ones (k v : Nat) : Nat := (List.range k).foldl (fun a i => a + v / 2 ^ i % 2) 0

/-- The columns of data bits 0 to 127 (R228). -/
def dataCols : List Nat :=
  (List.range 256).filter (fun v => let k := ones 8 v; k == 3 || k == 5 || k == 7) ++
    [0x03, 0x06, 0x0C, 0x18, 0x30, 0x60, 0xC0, 0x81]

/-- The columns of the 136 bits: data bits, then check bits p_j with column 2^j. -/
def innerCols : List Nat := dataCols ++ (List.range 8).map (fun j => 2 ^ j)

/-- The XOR of the columns of the set bits. -/
def innerSyn (w : BitVec 136) : Nat :=
  (innerCols.zipIdx).foldl (fun a c => if w.getLsbD c.2 then a ^^^ c.1 else a) 0

/-- The encoder (R228): the check bits make the syndrome 0. -/
def innerEncode (d : BitVec 128) : BitVec 136 :=
  let w : BitVec 136 := d.zeroExtend 136
  w ||| (BitVec.ofNat 136 (innerSyn w) <<< 128)

/-- The bit whose column a syndrome is. -/
def colOf (syn : Nat) : Option Nat := (innerCols.zipIdx.find? (fun c => c.1 == syn)).map (fun c => c.2)

/-- A codeword fails the alignment test: its syndrome is neither 0 nor a column (R230). -/
def innerFails (w : BitVec 136) : Bool := innerSyn w != 0 && (colOf (innerSyn w)).isNone

/-- The l least reliable positions, ties to the lower index (R231). -/
def leastReliable (rel : List Nat) : Nat → List Nat → List Nat
  | 0, acc => acc.reverse
  | l + 1, acc =>
    let best := (List.range 136).foldl (fun (b : Option Nat) i =>
      if acc.contains i then b
      else match b with
        | none => some i
        | some j => if rel.getD i 0 < rel.getD j 0 then some i else some j) none
    match best with
    | some i => leastReliable rel l (i :: acc)
    | none => acc.reverse

/-- Add a position to a set of flips; a position there already cancels (R231). -/
def toggle (l : List Nat) (i : Nat) : List Nat := if l.contains i then l.erase i else l ++ [i]

/-- Flip positions of a word. -/
def flipAll (w : BitVec 136) (l : List Nat) : BitVec 136 := l.foldl (fun v i => v ^^^ BitVec.ofNat 136 (2 ^ i)) w

/-- The candidate of test pattern t, where it gives one (R231). -/
def candFlips (w : BitVec 136) (u : List Nat) (t : Nat) : Option (List Nat) :=
  let f := (u.zipIdx.filter (fun p => t / 2 ^ p.2 % 2 == 1)).map (fun p => p.1)
  let s := innerSyn (flipAll w f)
  if s == 0 then some f else (colOf s).map (toggle f)

/-- The cost of a candidate. -/
def flipCost (rel : List Nat) (f : List Nat) : Nat := f.foldl (fun a i => a + rel.getD i 0 + 1) 0

/-- The search of R231 over every test pattern: the first of least cost. -/
def innerSearch (w : BitVec 136) (rel : List Nat) (l : Nat) : Option (List Nat) :=
  let u := leastReliable rel l []
  (List.range (2 ^ l)).foldl (fun (b : Option (List Nat)) t =>
    match candFlips w u t, b with
    | none, b => b
    | some f, none => some f
    | some f, some g => if flipCost rel f < flipCost rel g then some f else some g) none

/-- The decoder (R231): the flips, or none where it detects. INNER_L = 0 passes what it cannot correct. -/
def innerDecode (innerL : Nat) (c : InnerCw) : Option (List Nat) :=
  if innerL == 0 then
    let s := innerSyn c.bits
    if s == 0 then some [] else some ((colOf s).map (fun i => [i])).toList.flatten
  else innerSearch c.bits c.rel (innerL + 2)

end Sys2Proof.Machine
end

