-- ==== Sys2Proof/Machine/PcsDsp.lean ====
section
/-! DEFINITION. The coding of the Ethernet links (R224 to R232): 64b/66b blocks, 256b/257b transcoding, the scrambler, the
RS(544,514) code, the P4-212 marker, and the interleave block of the inner code. PRESUMED where the spec names IEEE 802.3
for a step and does not repeat it: the block types, the transcoded layout, the roots and the bit order of the code. -/

namespace Sys2Proof.Machine

/-! 64b/66b. -/

/-- The bytes of a block's payload, byte 0 in the low bits. -/
def blkPay (l : List Byte) : BitVec 64 := BitVec.ofNat 64 ((l.take 8).foldr (fun b a => b.toNat + 256 * a) 0)

/-- An idle block. -/
def idleBlk : Blk66 := ⟨2, blkPay [0x1E]⟩

/-- The block that ends a frame: type by the number of data bytes before the terminate character. -/
def termBlk (l : List Byte) : Blk66 :=
  ⟨2, blkPay (([0x87, 0x99, 0xAA, 0xB4, 0xCC, 0xD2, 0xE1, 0xFF] : List Byte).getD l.length 0xFF :: l)⟩

/-- The data blocks of a frame and its last block. -/
def dataBlks : Nat → List Byte → List Blk66
  | 0, _ => []
  | k + 1, l => if l.length < 8 then [termBlk l] else ⟨1, blkPay l⟩ :: dataBlks k (l.drop 8)

/-- A frame as 66-bit blocks, with its preamble: the start block, data, and the block with the terminate character. -/
def frameBlks (l : List Byte) : List Blk66 :=
  ⟨2, blkPay [0x78, 0x55, 0x55, 0x55, 0x55, 0x55, 0x55, 0xD5]⟩ :: dataBlks (l.length / 8 + 1) l

/-! 256b/257b. -/

/-- Four blocks as one of 257 bits: bit 0 is 1 where all carry data; else bits 4 to 1 say which do, and the first control
block's type gives up its upper four bits. -/
def transcode (l : List Blk66) : BitVec 257 :=
  let ctl := l.findIdx? (fun b => b.hdr != 1)
  match ctl with
  | none => BitVec.ofNat 257 (1 + 2 * (l.zipIdx.foldl (fun a x => a + x.1.pay.toNat * 2 ^ (64 * x.2)) 0))
  | some c =>
    let flags := l.zipIdx.foldl (fun a x => a + (if x.1.hdr == 1 then 2 ^ (x.2 + 1) else 0)) 0
    let pay := l.zipIdx.foldl (fun (a : Nat × Nat) x =>
      let v := x.1.pay.toNat
      if x.2 == c then (a.1 + (v % 16 + v / 256 * 16) * 2 ^ a.2, a.2 + 60) else (a.1 + v * 2 ^ a.2, a.2 + 64)) (0, 0)
    BitVec.ofNat 257 (flags + 32 * pay.1)

/-- The upper four bits of a block type from its lower four. -/
def typeOf (low : Nat) : Nat :=
  (([0x1E, 0x2D, 0x33, 0x4B, 0x55, 0x66, 0x78, 0x87, 0x99, 0xAA, 0xB4, 0xCC, 0xD2, 0xE1, 0xFF] : List Nat).find?
    (fun t => t % 16 == low)).getD low

/-- The four blocks of one of 257 bits; `bad` gives every sync header an invalid value, as an uncorrectable codeword calls
for (R224). -/
def untranscode (bad : Bool) (w : BitVec 257) : List Blk66 :=
  let v := w.toNat
  let hdr (h : BitVec 2) : BitVec 2 := if bad then 0 else h
  if v % 2 == 1 then (List.range 4).map (fun i => ⟨hdr 1, BitVec.ofNat 64 (v / 2 / 2 ^ (64 * i))⟩)
  else
    let data (i : Nat) : Bool := v / 2 ^ (i + 1) % 2 == 1
    let c := ((List.range 4).find? (fun i => !data i)).getD 4
    ((List.range 4).foldl (fun (a : List Blk66 × Nat) i =>
      let x := a.2
      if i == c then
        (a.1 ++ [⟨hdr 2, BitVec.ofNat 64 (typeOf (x % 16) + x / 16 % 2 ^ 56 * 256)⟩], x / 2 ^ 60)
      else (a.1 ++ [⟨hdr (if data i then 1 else 2), BitVec.ofNat 64 x⟩], x / 2 ^ 64)) ([], v / 32)).1

/-! The scrambler x^58 + x^39 + 1. -/

/-- Scramble n bits of v, bit 0 first: the register holds what was sent, bit 0 the last. -/
def scrambleN : Nat → Nat → Nat → Nat × Nat
  | 0, _, r => (0, r)
  | n + 1, v, r =>
    let b := (v + r / 2 ^ 38 + r / 2 ^ 57) % 2
    let x := scrambleN n (v / 2) ((2 * r + b) % 2 ^ 58)
    (b + 2 * x.1, x.2)

/-- Descramble n bits: the register holds what was received. -/
def descrambleN : Nat → Nat → Nat → Nat × Nat
  | 0, _, r => (0, r)
  | n + 1, v, r =>
    let b := (v + r / 2 ^ 38 + r / 2 ^ 57) % 2
    let x := descrambleN n (v / 2) ((2 * r + v % 2) % 2 ^ 58)
    (b + 2 * x.1, x.2)

/-! RS(544,514) over GF(2^10), x^10 + x^3 + 1. -/

/-- Twice an element of the field. -/
def rsTwice (a : Nat) : Nat := if a < 512 then 2 * a else (2 * a - 1024) ^^^ 9

/-- A product. -/
def rsMul (a b : Nat) : Nat :=
  ((List.range 10).foldl (fun (x : Nat × Nat) i => (if b / 2 ^ i % 2 == 1 then x.1 ^^^ x.2 else x.1, rsTwice x.2)) (0, a)).1

/-- An element's power. -/
def rsPow (a n : Nat) : Nat :=
  ((List.range 10).foldl (fun (x : Nat × Nat) i => (if n / 2 ^ i % 2 == 1 then rsMul x.1 x.2 else x.1, rsMul x.2 x.2)) (1, a)).1

/-- The inverse of an element. -/
def rsInv (a : Nat) : Nat := rsPow a 1022

/-- A polynomial's value; coefficients by rising power. -/
def rsEval (p : List Nat) (x : Nat) : Nat := p.foldr (fun c a => c ^^^ rsMul a x) 0

/-- A sum of polynomials. -/
def rsPolyAdd : List Nat → List Nat → List Nat
  | [], q => q
  | p, [] => p
  | a :: p, b :: q => (a ^^^ b) :: rsPolyAdd p q

/-- A product of polynomials. -/
def rsPolyMul (p q : List Nat) : List Nat := p.foldr (fun a r => rsPolyAdd (q.map (rsMul a)) (0 :: r)) []

/-- The generator: 30 roots, the powers 0 to 29 of the primitive element. -/
def rsGen : List Nat := (List.range 30).foldl (fun g i => rsPolyMul g [rsPow 2 i, 1]) [1]

/-- A codeword: 514 message symbols, the first the highest power, and 30 that make it a multiple of the generator. -/
def rsEncode (m : List Nat) : List Nat :=
  let g := ((rsGen.take 30).reverse)
  let rem := m.foldl (fun (r : List Nat) s =>
    let f := s ^^^ r.headD 0
    ((r.drop 1 ++ [0]).zip g).map (fun (x : Nat × Nat) => x.1 ^^^ rsMul f x.2)) (List.replicate 30 0)
  m ++ rem

/-- The syndromes of a received word. -/
def rsSyn (w : List Nat) : List Nat :=
  (List.range 30).map (fun j => let x := rsPow 2 j; w.foldl (fun a c => rsMul a x ^^^ c) 0)

/-- The locator of symbol k of a word. -/
def rsLoc (k : Nat) : Nat := rsPow 2 (543 - k)

/-- The locator polynomial of errors and of erasures `er` (Berlekamp and Massey), and its length. -/
def rsLocator (syn er : List Nat) : List Nat × Nat :=
  let gam := er.foldl (fun g k => rsPolyMul g [1, rsLoc k]) [1]
  let f := er.length
  let r := ((List.range (30 - f)).map (· + f)).foldl (fun (x : List Nat × List Nat × Nat) r =>
    let d := (x.1.zipIdx).foldl (fun a c => if c.2 ≤ r then a ^^^ rsMul c.1 (syn.getD (r - c.2) 0) else a) 0
    if d == 0 then (x.1, 0 :: x.2.1, x.2.2)
    else
      let t := rsPolyAdd x.1 ((0 :: x.2.1).map (rsMul d))
      if 2 * x.2.2 ≤ r + f then (t, x.1.map (rsMul (rsInv d)), r + 1 + f - x.2.2) else (t, 0 :: x.2.1, x.2.2))
    (gam, gam, f)
  (r.1, r.2.2)

/-- The corrections of a word, each a symbol's place and what is XORed to it; none where the word cannot be decoded with
those erasures. -/
def rsTry (w er : List Nat) : Option (List (Nat × Nat)) :=
  let syn := rsSyn w
  if syn.all (· == 0) then some []
  else
    let x := rsLocator syn er
    let at_ := (List.range 544).filter (fun k => rsEval x.1 (rsInv (rsLoc k)) == 0)
    let om := (rsPolyMul syn x.1).take 30
    let der := (x.1.drop 1).zipIdx.map (fun c => if c.2 % 2 == 0 then c.1 else 0)
    let fix := at_.map (fun k =>
      let i := rsInv (rsLoc k)
      (k, rsMul (rsMul (rsLoc k) (rsEval om i)) (rsInv (rsEval der i))))
    let out := w.zipIdx.map (fun c => fix.foldl (fun a p => if p.1 == c.2 then a ^^^ p.2 else a) c.1)
    if at_.length == x.2 && 2 * x.2 ≤ 30 + er.length && (rsSyn out).all (· == 0) then
      some (fix.filter (fun p => p.2 != 0)) else none

/-- The decoder (R232): with the erasures where RS_ERASE lets it and they are at most 30, then without. -/
def rsDecode (erase : Bool) (er : List Nat) (w : List Nat) : Option (List (Nat × Nat)) :=
  if erase && !er.isEmpty && decide (er.length ≤ 30) then
    match rsTry w er with
    | some l => some l
    | none => rsTry w []
  else rsTry w []

/-- The symbols of a word with its corrections made. -/
def rsApply (w : List Nat) (fix : List (Nat × Nat)) : List Nat :=
  w.zipIdx.map (fun c => fix.foldl (fun a p => if p.1 == c.2 then a ^^^ p.2 else a) c.1)

/-- Bits of a list of symbols of wd bits, bit 0 of each first, and back. -/
def symBits (wd : Nat) (l : List Nat) : List Nat := l.flatMap (fun v => (List.range wd).map (fun i => v / 2 ^ i % 2))
def bitsVal (l : List Nat) : Nat := l.foldr (fun b a => b + 2 * a) 0
def bitsSyms (wd : Nat) : Nat → List Nat → List Nat
  | 0, _ => []
  | k + 1, l => bitsVal (l.take wd) :: bitsSyms wd k (l.drop wd)

/-- The 514 message symbols of 20 blocks of 257 bits, and back. -/
def blocksMsg (l : List (BitVec 257)) : List Nat := bitsSyms 10 514 (symBits 257 (l.map BitVec.toNat))
def msgBlocks (m : List Nat) : List (BitVec 257) := (bitsSyms 257 20 (symBits 10 m)).map (BitVec.ofNat 257)

/-! Links. -/

/-- Codewords interleaved on the stream and PCS lanes of a link code (R203, R227). PRESUMED, but for P4-212: 50GbE and
100GbE have one codeword over 2 and 4 lanes, 200GbE and 400GbE two over 8 and 16, faster links four over 16 or 32. -/
def linkShape (p4 : Bool) (link : Nat) : Nat × Nat :=
  if p4 then (2, 1)
  else match link with
    | 2 => (1, 2) | 3 => (1, 4) | 4 => (2, 8) | 5 => (2, 16) | 6 => (4, 32) | _ => (4, 16)

/-- Which of a group's `width` lanes carries symbol k of codeword c (R233). PRESUMED: rows of one symbol per PCS lane turn
by one codeword a row, and PCS lanes lie in order on the group's lanes. -/
def symLane (p4 : Bool) (link width c k : Nat) : Nat :=
  if p4 then 0
  else
    let sh := linkShape p4 link
    let per := sh.2 / sh.1
    (sh.1 * (k % per) + (c + k / per) % sh.1) * width / sh.2

/-! The P4-212 marker (R226). -/

/-- The common marker's 48 bits. -/
def amCommon : Nat := 0x386BD12E4F9A

/-- A marker for a lane position and a link byte. -/
def amBlock (lane link : Nat) : BitVec 257 :=
  let inv (v : Nat) : Nat := 255 - v % 256
  let alt := (List.range 88).foldl (fun a i => a + 4 ^ i) 0
  BitVec.ofNat 257 (1 + 2 * amCommon + lane * 2 ^ 49 + inv lane * 2 ^ 57 + link * 2 ^ 65 + inv link * 2 ^ 73 + alt * 2 ^ 81)

/-- A field of a received block. -/
def amField (w : BitVec 257) (lo n : Nat) : Nat := w.toNat / 2 ^ lo % 2 ^ n

/-- A received block is a valid marker: at most 4 differing common bits, and LANE inverse to its copy. -/
def amValid (w : BitVec 257) : Bool :=
  decide (ones 48 (amField w 1 48 ^^^ amCommon) ≤ 4) && amField w 49 8 + amField w 57 8 == 255

/-! The interleave block (R229). -/

/-- The 1,156 line symbols of 2,176 bits: symbol s is symbol s / 17 of codeword s mod 17. -/
def innerSend (bits : List Nat) : List (BitVec 2) :=
  let cws := (List.range 17).map (fun c =>
    innerEncode (BitVec.ofNat 128 (bitsVal ((bits.drop (128 * c)).take 128))))
  (List.range 1156).map (fun s =>
    let w := (cws.getD (s % 17) 0).toNat / 4 ^ (s / 17)
    BitVec.ofNat 2 (2 * (w % 2) + w / 2 % 2))

/-- The reliabilities of the MSB and the LSB of a soft word (R231). -/
def softRel (w : BitVec 4) : List Nat :=
  let r := w.toNat % 4
  if w.toNat / 4 == 0 || w.toNat / 4 == 2 then [3, r] else [r, r]

/-- The 17 codewords of a block of soft words. -/
def innerTake (l : List (BitVec 4)) : List InnerCw :=
  (List.range 17).map (fun c =>
    let ws := (List.range 68).map (fun k => l.getD (17 * k + c) 0)
    ⟨BitVec.ofNat 136 (bitsVal (ws.flatMap (fun w => [w.toNat / 8, w.toNat / 4 % 2]))), ws.flatMap softRel⟩)

/-- The line symbols of a codeword pair, interleaved symbol by symbol, in five blocks (R225, R229). -/
def pairSend (a b : List Nat) : List (BitVec 2) :=
  let bits := symBits 10 ((a.zip b).flatMap (fun p => [p.1, p.2]))
  (List.range 5).flatMap (fun i => innerSend ((bits.drop (2176 * i)).take 2176))

end Sys2Proof.Machine
end

