-- ==== Sys2Proof/Machine/AcqOps.lean ====
section
/-! DEFINITION. Acquisition (07): Scout dwells (R198 to R202), markers and deskew (R205 to R208), the burst contexts
(R209 to R216) and the burst windows (R217 to R221). -/

namespace Sys2Proof.Machine

/-! Scout. -/

/-- A write of SCOUT_CTRL with EN = 1 (R199). -/
def scoutArm (n : Nat) (s : State) : State :=
  if s.on (laneB n) R.ACQ_SCOUT_CTRL_EN then s.setAcq n { s.acqOf n with armed := true } else s

/-- CODING of a mode in which framing was found (R200). -/
def codingOf (m : Nat) : Nat := if m == 4 || m == 5 then 1 else if m == 0 then 3 else 2

/-- The stage that a dwell gives a candidate (R198, R199, R200); `sig` says that the lane is in SIGWAIT. -/
def candStageOf (en srch sig was5 : Bool) (th : Nat) (m : CandMeas) : Nat :=
  if !en then 0
  else if !srch then 1
  else if sig then 2
  else if was5 && !m.lost then 5
  else if m.share < th ∨ m.share = 0 ∨ m.freq < -5600 * 4 ∨ 600 * 4 < m.freq then 2
  else if !m.levels then 3
  else if m.framing.isSome && !m.lost then 5
  else 4

/-- One candidate's result at the end of a dwell. -/
def candDwell (n j : Nat) (m : CandMeas) (s : State) : State :=
  let b := resB n j
  let was := candStage n j s
  let st := candStageOf (candEn n j s) (searchable n j s) (s.rxState n == 3) (was == 5)
    (s.rd (laneB n) R.ACQ_SCOUT_CTRL_RATE_TH) m
  let s := (s.wr b R.ACQ_SCOUT_RES_STAGE st).wr b R.ACQ_SCOUT_RES_SCORE (min m.share 255)
  let s := s.wr b R.ACQ_SCOUT_RES_FREQ (trunc 16 m.freq)
  let s := if st == 5 then
      let s := s.wr b R.ACQ_SCOUT_RES_CODING (codingOf (candMode n j s))
      match m.framing with
      | some (inv, pre) => if was == 5 then s
        else (s.wr b R.ACQ_SCOUT_RES_POL (b2n inv)).wr b R.ACQ_SCOUT_RES_PRECODE (b2n pre)
      | none => s
    else ((s.wr b R.ACQ_SCOUT_RES_CODING 0).wr b R.ACQ_SCOUT_RES_POL 0).wr b R.ACQ_SCOUT_RES_PRECODE 0
  let x := s.acqOf n
  s.setAcq n { x with search := if st == 4 then setBit x.search j else clrBit x.search j }

/-- AUTO's request of a commit (R202). -/
def scoutAuto (n : Nat) (s : State) : State :=
  let b := laneB n
  let j := s.rd b R.ACQ_SCOUT_STATUS_BEST
  let st := candStage n j s
  let pol := (s.rd b R.RX_CTRL_POLARITY + (if st == 5 then s.rd (resB n j) R.ACQ_SCOUT_RES_POL else 0)) % 2
  let go := st == 5 || (st == 4 && s.on b R.ACQ_SCOUT_CTRL_AUTO_RAW)
  if s.on b R.ACQ_SCOUT_CTRL_AUTO && go && (s.acqOf n).autoHold == 0 &&
      (candMode n j s != s.rxMode n || pol != s.rd b R.RX_CTRL_POLARITY) then
    let s := (s.wrSh b R.RX_CTRL_MODE (candMode n j s)).wrSh b R.RX_CTRL_POLARITY pol
    let s := (s.setAcq n { s.acqOf n with autoHold := 16 }).cnt b R.ACQ_SCOUT_STATUS_AUTO_CNT 1
    commitRequest 0 0 n s
  else s

/-- A dwell ends (R199 to R202). -/
def scoutDwell (n : Nat) (res : List CandMeas) (s : State) : State :=
  let b := laneB n
  let st := s.rxState n
  let x := s.acqOf n
  if s.on b R.ACQ_SCOUT_CTRL_EN && decide (3 ≤ st ∧ st ≤ 6) && (s.on b R.ACQ_SCOUT_CTRL_CONT || x.armed) then
    let old := scoutNow n s
    let s := s.setAcq n { x with armed := false, autoHold := x.autoHold - 1 }
    let s := (List.range 4).foldl (fun t j => candDwell n j (res.getD j ⟨0, 0, false, none, false⟩) t) s
    scoutAuto n (scoutBest n old (s.cntW b R.ACQ_SCOUT_STATUS_PASSES 1))
  else s

/-- A candidate's framing search runs out: it falls back to LEVELS until the next pass (R200). -/
def scoutFrameTo (n j : Nat) (s : State) : State :=
  let x := s.acqOf n
  if x.search / 2 ^ j % 2 == 1 then s.setAcq n { x with search := clrBit x.search j } else s

/-! Markers. -/

/-- A lane stage's group works on blocks, not markers: 10GbE and 25GbE (R205). -/
def blockLink (n g : Nat) (s : State) : Bool := decide (s.rd (grpB (n / 16) g) R.FE_GRP_CFG_LINK ≤ 1)

/-- A lane leaves marker lock (R205), which an ALIGNED group follows (R207). -/
def amLose (n g : Nat) (s : State) : State :=
  let s := amGo n 1 s
  if s.rd (grpB (n / 16) g) R.FE_GRP_STAT_STATE == 2 then grpGo (n / 16) g 1 4 s else s

/-- The stamp of a marker that is found now (R206): its first symbol at the receive reference point, before the latency of
the lane stage (R227). -/
def amStamp (n : Nat) (s : State) : Nat :=
  rxRef n s.tlv.toNat s - (if s.rxMode n == 0 then 1156 * 1250 / 6800 + s.cclkT 24 else 0)

/-- A valid marker or header (R205, R206). -/
def amGood (n g id : Nat) (s : State) : State :=
  let x := s.amOf n
  let t := amStamp n s
  let tag := s.tagAt t
  let blk := blockLink n g s
  let s := if blk then s else s.wr (lstB n) R.FE_LSTAT_LANE_ID id
  if s.rd (lstB n) R.FE_LSTAT_AM_STATE == 2 then
    s.setAm n { x with bad := if blk then (if x.blk + 1 == 64 then 0 else x.bad) else 0, blk := (x.blk + 1) % 64,
                       stamp := some (t, tag) }
  else
    let s := s.setAm n { x with good := x.good + 1, stamp := some (t, tag) }
    if (if blk then 64 else 2) ≤ x.good + 1 then amGo n 2 s else s

/-- An invalid marker or header (R205). -/
def amBad (n g : Nat) (s : State) : State :=
  let x := s.amOf n
  let blk := blockLink n g s
  let s := if blk then s else s.cnt (lstB n) R.FE_LSTAT_BAD_AM 1
  if s.rd (lstB n) R.FE_LSTAT_AM_STATE == 2 then
    let lim := if blk then 16 else max 1 (s.rd (feB (n / 16)) R.FE_ACQ_CFG_AM_LOSS_N)
    if lim ≤ x.bad + 1 then amLose n g s
    else s.setAm n { x with bad := if blk && x.blk + 1 == 64 then 0 else x.bad + 1, blk := (x.blk + 1) % 64 }
  else s.setAm n { x with good := 0 }

/-- Whether what stands where a marker is due is valid, and its identity (R205, R226). -/
def markerOk (x : MarkerIn) : Bool × Nat :=
  match x with
  | .block w => (amValid w, amField w 49 6)
  | .std v id => (v, id.toNat)

/-- A valid P4-212 marker begins a codeword pair (R226): the block decoded last is the pair's first. -/
def markerPair (n : Nat) (x : MarkerIn) (s : State) : State :=
  match x with
  | .block _ =>
    let f := s.fecOf n
    s.setFec n { f with innerBlks := (f.innerBlks.getLast?).toList, rxCwN := 16384 - f.rsIn.length }
  | .std .. => s

/-- A lane stage receives an expected marker or block (R205); in P4-212 only in inner lock (R230). -/
def markerRx (n : Nat) (x : MarkerIn) (s : State) : State :=
  let m := markerOk x
  match laneGrp n s with
  | none => s
  | some g =>
    if s.rd (grpB (n / 16) g) R.FE_GRP_STAT_STATE == 0 || s.rd (lstB n) R.FE_LSTAT_AM_STATE == 0 ||
        (s.rxMode n == 0 && !s.on (laneB n) R.FEC_STATUS_INNER_LOCK) || !s.feUp (n / 16) then s
    else if m.1 then amGood n g m.2 (markerPair n x s) else amBad n g s

/-- The stamps of a round's markers, where every member has one and all lie within 1.28 µs (R206). -/
def roundStamps (ls : List Nat) (s : State) : Option (List Nat) :=
  let ts := ls.filterMap (fun n => (s.amOf n).stamp.map (fun p => p.1))
  let lo := ts.foldl min (2 ^ 64)
  if ts.length == ls.length && ts.all (fun t => decide (t ≤ lo + 50000)) then some (ts.map (fun t => t - lo)) else none

/-- Every expected identity, 0 to W - 1, appears exactly once. -/
def idsOk (ls : List Nat) (s : State) : Bool :=
  (List.range ls.length).all (fun i => ((ls.filter (fun n => s.rd (lstB n) R.FE_LSTAT_LANE_ID == i)).length == 1))

/-- A lane's skew differs from its aligned skew by more than DRIFT symbols (R207). -/
def drifted (e n skew : Nat) (s : State) : Bool :=
  let a := (s.amOf n).aligned
  let d := (skew - a) + (a - skew)
  decide (s.rd (feB e) R.FE_ACQ_CFG_DRIFT * 1250 < d * symRate (s.rxMode n))

/-- The stage holds the skews of a round as the aligned ones (R208). -/
def alignTo (ls sk : List Nat) (s : State) : State :=
  (ls.zip sk).foldl (fun t p => t.setAm p.1 { t.amOf p.1 with aligned := p.2 }) s

/-- A marker round of a group completes (R206, R207). A group of one lane has no skew, and its identity counts too; block
lock carries no identity (R205). -/
def markerRound (e g : Nat) (s : State) : State :=
  let st := s.rd (grpB e g) R.FE_GRP_STAT_STATE
  let ls := grpLanes e g s
  if st == 0 || !s.feUp e then s
  else
    match roundStamps ls s with
    | none => ls.foldl (fun t n => t.setAm n { t.amOf n with stamp := none }) s
    | some sk =>
      let mx := sk.foldl max 0
      let s := (ls.zip sk).foldl (fun t p => t.wr (lstB p.1) R.FE_LSTAT_SKEW (min p.2 0xFFFF)) s
      let s := s.wr (grpB e g) R.FE_GRP_STAT_MAX_SKEW (min mx 0xFFFF)
      let inj := look 0 s.injSkew (16 * e + g) == 1
      let s := { s with injSkew := eraseKey s.injSkew (16 * e + g) }
      let s := ls.foldl (fun t n => t.setAm n { t.amOf n with stamp := none }) s
      let locked := ls.all (fun n => s.rd (lstB n) R.FE_LSTAT_AM_STATE == 2)
      let far := inj || decide (min 15625 (s.rd (feB e) R.FE_ACQ_CFG_DESKEW_MAX) < mx)
      let ids := s.rd (grpB e g) R.FE_GRP_CFG_LINK ≤ 1 || idsOk ls s
      let bad (c : Nat) (s : State) : State := (grpGo e g 1 c s).raise (evFe e 1)
      if st == 1 then
        if locked && ids && !far then grpGo e g 2 0 (alignTo ls sk s)
        else if !ids then bad 2 s
        else if far then bad 3 s
        else s
      else if (ls.zip sk).any (fun p => drifted e p.1 p.2 s) then (grpGo e g 1 5 s).cnt (grpB e g) R.FE_GRP_STAT_REALIGN 1
      else if !ids then bad 2 s
      else if far then bad 3 s
      else alignTo ls sk s

/-- The injections of FE.ACQ_INJECT (R222). -/
def feAcqInject (e : Nat) (w : Word) (s : State) : State :=
  let s := if fget w 1 1 == 1 then { s with injSkew := put 0 s.injSkew (16 * e + s.rd (feB e) R.FE_ACQ_INJECT_INJ_GRP) 1 } else s
  if fget w 0 0 == 1 then
    let n := 16 * e + s.rd (feB e) R.FE_ACQ_INJECT_INJ_LANE
    match laneGrp n s with
    | some g => if s.rd (lstB n) R.FE_LSTAT_AM_STATE == 2 then amLose n g s else s
    | none => s
  else s

/-! The agreement rules of the groups (R204), on the shadows. -/

/-- The lane modes that carry a link, one for each width code from `width` up (R6). -/
def linkModes (width : Nat) (modes : List Nat) (link : Nat) : List (Nat × Nat × Nat) :=
  modes.zipIdx.map (fun x => (link, width + x.2, x.1))

/-- The rows of the link table (R6): link, width code and lane mode. A link on twice the lanes runs each of them in the
next slower mode, so a row of the table is a run of modes. -/
def linkRows : List (Nat × Nat × Nat) :=
  linkModes 0 [5] 0 ++ linkModes 0 [4] 1 ++ linkModes 0 [3] 2 ++ linkModes 0 [2, 3] 3 ++ linkModes 0 [1, 2, 3] 4 ++
  linkModes 0 [0, 1, 2, 3] 5 ++ linkModes 1 [0, 1, 2] 6 ++ linkModes 2 [0, 1] 7 ++ linkModes 3 [0] 8

/-- Shadow members of slot g, and its shadow fields. -/
def grpShLanes (e g : Nat) (s : State) : List Nat :=
  grpSpan e (s.rdSh (grpB e g) R.FE_GRP_CFG_FIRST) (s.rdSh (grpB e g) R.FE_GRP_CFG_WIDTH)

/-- Slots enabled in the shadows. -/
def grpShOn (e : Nat) (s : State) : List Nat :=
  (List.range 16).filter (fun g => s.rdSh (grpB e g) R.FE_GRP_CFG_EN == 1)

/-- The lowest failing cause of R204, 0 where every rule holds. -/
def grpRules (e : Nat) (s : State) : Nat :=
  let on := grpShOn e s
  let r1 := on.all (fun g => (grpShLanes e g s).all (fun n =>
    linkRows.contains (s.rdSh (grpB e g) R.FE_GRP_CFG_LINK, s.rdSh (grpB e g) R.FE_GRP_CFG_WIDTH, s.rxMode n)))
  let r2 := on.all (fun g =>
    let f := s.rdSh (grpB e g) R.FE_GRP_CFG_FIRST
    let w := 2 ^ s.rdSh (grpB e g) R.FE_GRP_CFG_WIDTH
    decide (f + w ≤ 16) && (w == 1 || f % (w / 2) == 0))
  let all := on.flatMap (fun g => grpShLanes e g s)
  let r3 := all.all (fun n => all.count n == 1)
  if !r1 then 1 else if !r2 then 2 else if !r3 then 3 else 0

/-- The groups follow a commit of the engine (R207). -/
def grpAll (e : Nat) (s : State) : State := (List.range 16).foldl (fun t g => grpSync e g t) s

/-- The burst controller works: BURST, in a mode with 2.0 samples per symbol (R209). -/
def burstRuns (n : Nat) (s : State) : Bool := s.rxState n == 7 && s.rxMode n != 0

/-- A receive window is open, or receive is not gated (R211, R218). -/
def rxGateOpen (n : Nat) (s : State) : Bool :=
  !s.on (laneB n) R.ACQ_BW_CTRL_RX_GATE || (s.acqOf n).wins.any (fun w => !w.tx)

/-- The symbols that the lane has counted in BURST so far. -/
def acqSym (n sym : Nat) (s : State) : State := s.setAcq n { s.acqOf n with sym := max sym (s.acqOf n).sym }

/-- A start (R211). -/
def burstStart (n sym : Nat) (energy : Bool) (s : State) : State :=
  if !burstRuns n s || !rxGateOpen n s then s
  else
    let v : BurstCtx := ⟨sym, energy, if energy then none else some sym, 0, 0, 0⟩
    let opn (c : Nat) : State := (s.wr (laneB n) (fCtx c) 1).setAcq n ((s.acqOf n).setCtx c v)
    if ctxState n 0 s == 0 then opn 0
    else if ctxState n 1 s == 0 then opn 1
    else acqEvt n R.ACQ_EVT_DROP (s.cnt (laneB n) R.ACQ_BURST_CNT_DROP 1)

/-- The energy detector's window ends (R210, R213, R215); `mean` is the mean of x² in 1/16 LSB². The detector stands for
LOS (R86, R209), which is asserted while there is no energy. -/
def energyWindow (n sym mean : Nat) (s : State) : State :=
  if s.rxState n != 7 then s
  else
    let s := acqSym n sym s
    let x := s.acqOf n
    let th := s.rd (laneB n) R.ACQ_BURST_DET_ENERGY_TH
    let low := if mean < th * 32 then x.lowN + 1 else 0
    if !x.energy && decide (th * 64 < mean) then
      burstStart n sym true (losChange n false (s.setAcq n { x with energy := true, lowN := 0 }))
    else if decide (th * 64 < mean) then losChange n false (s.setAcq n { x with lowN := low })
    else if max 1 (s.rd (laneB n) R.ACQ_BURST_DET_END_WIN) ≤ low then
      let s := losChange n true (s.setAcq n { x with energy := false, lowN := 0 })
      if x.energy then ctxReleaseIn n 2 1 (ctxReleaseIn n 1 2 s) else s
    else s.setAcq n { x with lowN := low }

/-- A hit belongs to an open context (R211). -/
def ctxAdopts (v : BurstCtx) (sym : Nat) : Bool :=
  match v.lastHit with
  | some h => decide (h + 62 ≤ sym) && decide ((sym - h + 2) % 64 ≤ 4)
  | none => v.byEnergy && decide (sym ≤ v.openedAt + 128)

/-- The start correlator hits (R211); `corr` is 256 × c. -/
def burstHit (n sym corr : Nat) (s : State) : State :=
  if !burstRuns n s || decide (corr < s.rd (laneB n) R.ACQ_BURST_DET_START_TH) then s
  else
    let s := acqSym n sym s
    let x := s.acqOf n
    let a (c : Nat) : Bool := ctxState n c s != 0 && ctxAdopts (x.ctx c) sym
    let take (c : Nat) : State := s.setAcq n (x.setCtx c { x.ctx c with lastHit := some sym })
    if a 0 then take 0 else if a 1 then take 1 else burstStart n sym false s

/-- A context becomes OWNER (R214). -/
def ownerStart (n c : Nat) (s : State) : State :=
  let b := laneB n
  let lv := ((s.acqOf n).ctx c).level
  let s := ((s.wr b (fCtx c) 2).cnt b R.ACQ_BURST_CNT_BURSTS 1).wr b R.ACQ_BURST_STAT_LEVEL lv
  let s := s.wr64 b R.ACQ_BURST_T_LO_T R.ACQ_BURST_T_HI_T s.tlv.toNat
  { s with burstRecs := s.burstRecs ++ [⟨n, s.tlv.toNat, s.tq, s.stepSeq, c, lv⟩] }

/-- The capture-effect policy decides a context that qualifies against an owner (R216). -/
def capture (n a c : Nat) (s : State) : State :=
  let b := laneB n
  let x := s.acqOf n
  let s := if s.on b R.ACQ_BURST_CFG_POLICY &&
      decide ((x.ctx a).level + s.rd b R.ACQ_BURST_CFG_MARGIN ≤ (x.ctx c).level) then
      ownerStart n c ((ctxRelease n a 4 s).cnt b R.ACQ_BURST_CNT2_CAP_SW 1)
    else (ctxRelease n c 5 s).cnt b R.ACQ_BURST_CNT2_CAP_KEPT 1
  acqEvt n R.ACQ_EVT_CAPTURE s

/-- A context takes its gain, phase and level (R213). -/
def ctxMeasure (n c : Nat) (m : CtxMeas) (s : State) : State :=
  let t := s.rd (laneB n) R.RX_AGC_CFG_TARGET
  let g := if m.rms == 0 then 255 else max 16 (min 255 ((128 * t + m.rms) / (2 * m.rms)))
  let x := s.acqOf n
  s.setAcq n (x.setCtx c { x.ctx c with gain := g, phase := m.phase.toNat, level := m.level.toNat })

/-- A context in ACQ qualifies (R213, R214, R216), with what was measured over its own 64 symbols; `both` is what the other
context measured over its own, where it qualifies on the same delimiter. -/
def qualify (n c corr : Nat) (m : CtxMeas) (both : Option CtxMeas) (s : State) : State :=
  if ctxState n c s != 1 || decide (corr < s.rd (laneB n) R.ACQ_BURST_QUAL_QUAL_TH) then s
  else
    let s := ctxMeasure n c m s
    let o := 1 - c
    let x := s.acqOf n
    let twin := both.isSome && ctxState n o s == 1
    let later := if (x.ctx c).openedAt < (x.ctx o).openedAt || ((x.ctx c).openedAt == (x.ctx o).openedAt && c == 0)
      then o else c
    let s := match both with
      | some y => if twin then ctxRelease n (1 - later) 3 (ctxMeasure n o y s) else s
      | none => s
    let c := if twin then later else c
    match ownerCtx n s with
    | none => ownerStart n c s
    | some a => capture n a c s

/-- No delimiter within QUAL_WIN × 64 symbols (R212). -/
def qualTimeout (n c : Nat) (s : State) : State := if ctxState n c s == 1 then ctxRelease n c 2 s else s

/-! Burst windows. -/

/-- A Glint lane (R8). -/
def glint (n : Nat) : Bool := decide (56 ≤ n ∧ n < 64)

/-- The committed schedule of window j (R217). -/
def winBase (n : Nat) (s : State) : Nat := s.rd64 (laneB n) R.ACQ_BW_BASE_LO_BASE R.ACQ_BW_BASE_HI_BASE
def winOfs (n j : Nat) (s : State) : Nat := s.rd (laneB n + 8 * j) R.ACQ_BW_OFS_OFS
def winLen (n j : Nat) (s : State) : Nat := s.rd (laneB n + 8 * j) R.ACQ_BW_LEN_LEN
def winTx (n j : Nat) (s : State) : Bool := s.on (laneB n + 8 * j) R.ACQ_BW_LEN_DIR
def winPeriod (n : Nat) (s : State) : Nat := s.rd (laneB n) R.ACQ_BW_PERIOD_PERIOD
def winOpenAt (n j p : Nat) (s : State) : Nat := winBase n s + p * winPeriod n s + winOfs n j s

/-- LEAD in ticks (R219). -/
def winLead (n : Nat) (s : State) : Nat := s.rd (laneB n) R.ACQ_BW_CTRL_LEAD * 16

/-- A window was late or missed (R220). -/
def winMiss (n : Nat) (s : State) : State := acqEvt n R.ACQ_EVT_WINDOW (s.cnt (laneB n) R.ACQ_BURST_CNT2_WIN_MISS 1)

/-- The transmit burst gate that the bias island sees calls for open (R219). -/
def gateWant (n : Nat) (s : State) : Bool :=
  let x := s.acqOf n
  x.wins.any (fun w => w.tx) || (List.range 4).any (fun j =>
    match x.next.getD j none with
    | some p => winTx n j s && decide (winOpenAt n j p s ≤ s.tlv.toNat + winLead n s) &&
        decide (s.tlv.toNat < winOpenAt n j p s + winLen n j s)
    | none => false)

/-- A window opens now (R217, R219). -/
def winOpen (n j close : Nat) (s : State) : State :=
  let tx := winTx n j s
  let x := s.acqOf n
  let s := s.setAcq n { x with wins := x.wins ++ [⟨j, tx, close⟩] }
  if tx then biasGate n true s else s

/-- The next instance of window j after p. -/
def winAfter (n p : Nat) (s : State) : Option Nat := if winPeriod n s == 0 then none else some (p + 1)

/-- Set the next instance of window j. -/
def setNext (n j : Nat) (v : Option Nat) (s : State) : State :=
  s.setAcq n { s.acqOf n with next := (s.acqOf n).next.set j v }

/-- A scheduled window's opening (R217, R220): opened, missed because its span lies behind, or missed by injection. -/
def winOpening (n j : Nat) (s : State) : State :=
  match (s.acqOf n).next.getD j none with
  | none => s
  | some p =>
    if !s.counting then s
    else
      let t := winOpenAt n j p s
      let c := t + winLen n j s
      let s := setNext n j (winAfter n p s) s
      let x := s.acqOf n
      if x.injWin then winMiss n (s.setAcq n { x with injWin := false })
      else if c ≤ s.tlv.toNat then winMiss n s
      else winOpen n j c (s.advanceTlv t s.now)

/-- A window closes (R218, R219). -/
def winClose (n j : Nat) (s : State) : State :=
  match (s.acqOf n).wins.find? (fun w => w.j == j) with
  | none => s
  | some w =>
    if !s.counting then s
    else
      let s := s.advanceTlv w.close s.now
      let x := s.acqOf n
      let s := s.setAcq n { x with wins := x.wins.erase w }
      let x := s.acqOf n
      if w.tx then (if gateWant n s then s else biasGate n false s)
      else if s.on (laneB n) R.ACQ_BW_CTRL_RX_GATE && !x.wins.any (fun v => !v.tx) then
        let s := ctxReleaseIn n 1 6 s
        if (ownerCtx n s).isSome then s.setAcq n { s.acqOf n with guardAt := some w.close } else s
      else s

/-- An owner has run GUARD × 256 ticks past the close (R218). -/
def guardExpire (n : Nat) (s : State) : State :=
  match (s.acqOf n).guardAt with
  | none => s
  | some t =>
    let s := s.advanceTlv (t + s.rd (laneB n) R.ACQ_BURST_CFG_GUARD * 256) s.now
    ctxReleaseIn n 2 6 (s.setAcq n { s.acqOf n with guardAt := none })

/-- The instant of the next bias gate opening. -/
def gateNext (n : Nat) (s : State) : Option Nat :=
  (List.range 4).foldl (fun a j =>
    match (s.acqOf n).next.getD j none with
    | some p => if winTx n j s then
        let t := winOpenAt n j p s - winLead n s
        (match a with | some u => some (min t u) | none => some t) else a
    | none => a) none

/-- An edge of the bias island's burst gate (R173, R219). -/
def gateEdge (n : Nat) (s : State) : State :=
  if gateWant n s != (s.biasOf n).gate then biasGate n (gateWant n s) s
  else if !(s.biasOf n).gate && s.counting then
    match gateNext n s with
    | some t => let s := s.advanceTlv t s.now
                biasGate n (gateWant n s) s
    | none => s
  else s

/-- Window j of a newly committed schedule (R220). -/
def winSchedule (n j : Nat) (s : State) : State :=
  let now := s.tlv.toNat
  let t := winOpenAt n j 0 s
  let per := winPeriod n s
  if s.rd (laneB n) R.ACQ_BW_CTRL_WIN_EN / 2 ^ j % 2 == 0 then setNext n j none s
  else if now ≤ t then setNext n j (some 0) s
  else if per != 0 then setNext n j (some ((now - t + per - 1) / per)) s
  else if now < t + winLen n j s then winMiss n (winOpen n j (t + winLen n j s) (setNext n j none s))
  else winMiss n (setNext n j none s)

/-- A commit that changed the ACQ group (R220). -/
def acqCommitted (n : Nat) (s : State) : State :=
  if glint n then
    let s := (List.range 4).foldl (fun t j => winSchedule n j t) s
    biasGate n (gateWant n s) s
  else s

/-- The agreement rules of R221. -/
def acqRules (n : Nat) (s : State) : Nat :=
  if !glint n then 0
  else
    let b := laneB n
    let on := (List.range 4).filter (fun j => s.rdSh b R.ACQ_BW_CTRL_WIN_EN / 2 ^ j % 2 == 1)
    let per := s.rdSh b R.ACQ_BW_PERIOD_PERIOD
    let ofs (j : Nat) : Nat := s.rdSh (b + 8 * j) R.ACQ_BW_OFS_OFS
    let len (j : Nat) : Nat := s.rdSh (b + 8 * j) R.ACQ_BW_LEN_LEN
    let tx (j : Nat) : Bool := s.rdSh (b + 8 * j) R.ACQ_BW_LEN_DIR == 1
    let nrz (w : Word) : Bool := (List.range 16).all (fun i => let v := fget w (2 * i + 1) (2 * i); v == 0 || v == 3)
    let words := (List.range 4).map (fun j => s.getShadow (b + 0x3050 + 4 * j)) ++
      (List.range 2).map (fun j => s.getShadow (b + 0x3060 + 4 * j))
    if per != 0 && !on.all (fun j => decide (ofs j + len j ≤ per)) then 1
    else if !on.all (fun j => !tx j || decide (s.rdSh b R.ACQ_BW_CTRL_LEAD * 16 ≤ ofs j)) then 2
    else if modeFamily (s.rxMode n) == some 1 && !words.all nrz then 3
    else 0

/-- The injections of ACQ.INJECT (R222). -/
def acqInject (n : Nat) (w : Word) (s : State) : State :=
  let s := if fget w 0 0 == 1 then acqEvt n R.ACQ_EVT_SCOUT s else s
  let s := if fget w 1 1 == 1 && glint n then burstStart n ((s.acqOf n).sym + 1) false s else s
  if fget w 2 2 == 1 && glint n then s.setAcq n { s.acqOf n with injWin := true } else s

end Sys2Proof.Machine
end

