-- ==== Sys2Proof/Machine/PatDsp.lean ====
section
/-! DEFINITION. The test patterns (R238): PRBS sequences by position, square, user and SSPRQ, and the comparison that the
checker makes of received symbols (R241). -/

namespace Sys2Proof.Machine

/-! PRBS. The register's stages hold the bits that came out last; the bit that goes in at stage 1 is the output. PRESUMED:
the spec gives the polynomials and the stages, not which stage is the output; IEEE 802.3 takes the bit that enters. -/

/-- The taps of a PRBS type: the bits, counted back, whose sum is the next one. The first is the register's length. -/
def prbsTaps (type : Nat) : List Nat :=
  match type with
  | 1 => [7, 6] | 2 => [9, 5] | 3 => [11, 9] | 4 => [13, 12, 2, 1] | 5 => [15, 14] | 6 => [23, 18] | 7 => [31, 28]
  | 8 => [58, 39] | _ => []

/-- The register's length. -/
def prbsLen (type : Nat) : Nat := (prbsTaps type).headD 0

/-- The register that SEED loads: stage i + 1 from bit i, PRBS58's stages 33 to 58 as 1, and all 0 as all 1. -/
def prbsSeed (type seed : Nat) : Nat :=
  let l := prbsLen type
  let r := (if type == 8 then seed + (2 ^ 58 - 2 ^ 32) else seed) % 2 ^ l
  if r == 0 then 2 ^ l - 1 else r

/-- The next bit of a register, and the register after it. -/
def prbsStep (type r : Nat) : Nat × Nat :=
  let b := (prbsTaps type).foldl (fun b t => (b + r / 2 ^ (t - 1)) % 2) 0
  (b, (2 * r + b) % 2 ^ prbsLen type)

/-- The next n bits of a register, first bit first, and the register after them. -/
def prbsRun (type : Nat) : Nat → Nat → List Nat × Nat
  | 0, r => ([], r)
  | n + 1, r =>
    let x := prbsStep type r
    let y := prbsRun type n x.2
    (x.1 :: y.1, y.2)

/-- The next n bytes of a register, and the register after them; `msb` says which bit of a byte comes first. -/
def prbsBytes (type : Nat) (msb : Bool) (n r : Nat) : List (BitVec 8) × Nat :=
  let one (a : List (BitVec 8) × Nat) (_ : Nat) : List (BitVec 8) × Nat :=
    let x := prbsRun type 8 a.2
    let bits := if msb then x.1 else x.1.reverse
    (BitVec.ofNat 8 (bits.foldl (fun v b => 2 * v + b) 0) :: a.1, x.2)
  let r := (List.range n).foldl one ([], r)
  (r.1.reverse, r.2)

/-! The register at any position: x^m modulo the sequence's characteristic polynomial says which of its first bits sum to
bit m. -/

/-- x · a modulo the polynomial of a type. -/
def polyShift (type a : Nat) : Nat :=
  let l := prbsLen type
  let low := (prbsTaps type).foldl (fun m t => m ^^^ 2 ^ (l - t)) 0
  if 2 * a < 2 ^ l then 2 * a else (2 * a - 2 ^ l) ^^^ low

/-- a · b modulo the polynomial. -/
def polyMul (type a b : Nat) : Nat :=
  ((List.range (prbsLen type)).foldl (fun (x : Nat × Nat) i =>
    (if b / 2 ^ i % 2 == 1 then x.1 ^^^ x.2 else x.1, polyShift type x.2)) (0, a)).1

/-- x^m modulo the polynomial, for m below 2^72. -/
def polyPow (type m : Nat) : Nat :=
  ((List.range 72).reverse).foldl (fun a i =>
    let q := polyMul type a a
    if m / 2 ^ i % 2 == 1 then polyShift type q else q) 1

/-- The register after m bits from another: its stage j is the bit that came j - 1 before. -/
def prbsAt (type m r : Nat) : Nat :=
  let l := prbsLen type
  -- bit j of the sequence, from j = 0, is stage l - j of the register it starts from
  let bit (c : Nat) : Nat := (List.range l).foldl (fun b j => (b + c / 2 ^ j * (r / 2 ^ (l - 1 - j))) % 2) 0
  ((List.range l).foldl (fun (x : Nat × Nat) j =>
    (x.1 + bit x.2 * 2 ^ (l - 1 - j), polyShift type x.2)) (0, polyPow type m)).1

/-! Symbols. -/

/-- What a pattern is made from: its type, INV, the register SEED loads, RUN, USER_LEN, the pattern memory's words, and
whether the mode is PAM4. -/
structure PatCfg where
  type : Nat
  inv : Bool
  seed : Nat
  run : Nat
  len : Nat
  mem : List (BitVec 32)
  pam : Bool
  deriving DecidableEq, Repr

/-- Every bit of a symbol inverted: both bits in PAM4, the one bit of an NRZ symbol. -/
def patInv (c : PatCfg) (b : BitVec 2) : BitVec 2 := if !c.inv then b else if c.pam then ~~~b else b ^^^ 2

/-- Symbols from the bits of a sequence: two a symbol in PAM4, the first of them the Gray MSB, and one in NRZ. -/
def patSyms (pam : Bool) : List Nat → List (BitVec 2)
  | [] => []
  | a :: l =>
    if pam then match l with
      | [] => []
      | b :: l => BitVec.ofNat 2 (2 * a + b) :: patSyms pam l
    else BitVec.ofNat 2 (2 * a) :: patSyms pam l

/-- Symbol k of a pattern of types 9 to 11, before INV. -/
def patFixed (c : PatCfg) (k : Nat) : BitVec 2 :=
  match c.type with
  | 9 => Config.ssprq (k % 65535)
  | 10 => if k % (2 * c.run) < c.run then 2 else 0
  | _ =>
    let k := k % max 1 c.len
    ((c.mem.getD (k / 16) 0) >>> (k % 16 * 2)).truncate 2

/-- The period of a pattern of types 9 to 11, in symbols. -/
def patPeriod (c : PatCfg) : Nat := match c.type with | 9 => 65535 | 10 => 2 * c.run | _ => c.len

/-- Bits a symbol of the mode carries. -/
def patBits (c : PatCfg) : Nat := if c.pam then 2 else 1

/-- Symbols k to k + n - 1 of the pattern. -/
def patRun (c : PatCfg) (k n : Nat) : List (BitVec 2) :=
  let raw := if c.type ≤ 8 then
      patSyms c.pam (prbsRun c.type (n * patBits c) (prbsAt c.type (k * patBits c) c.seed)).1
    else (List.range n).map (fun i => patFixed c (k + i))
  raw.map (patInv c)

/-- An injected error (R240): the Gray LSB of a PAM4 symbol, the bit of an NRZ symbol. -/
def patFlip (pam : Bool) (b : BitVec 2) : BitVec 2 := if pam then b ^^^ 1 else b ^^^ 2

/-! The checker. -/

/-- The bits of received symbols, with INV undone. -/
def patRx (c : PatCfg) (l : List (BitVec 2)) : List Nat :=
  l.flatMap (fun b => let b := patInv c b
    if c.pam then [b.toNat / 2, b.toNat % 2] else [b.toNat / 2])

/-- The register that a type's last received bits leave, and whether every bit after the first register's worth agrees with
the sequence (R241). -/
def patLoad (c : PatCfg) (l : List (BitVec 2)) : Nat × Bool :=
  let bits := patRx c l
  let len := prbsLen c.type
  let r := (bits.take len).foldl (fun r b => 2 * r + b) 0
  let x := prbsRun c.type (bits.length - len) r
  (x.2, x.1 == bits.drop len)

/-- The phase at which received symbols agree with a pattern of types 9 to 11. -/
def patPhase (c : PatCfg) (l : List (BitVec 2)) : Option Nat :=
  (List.range (patPeriod c)).find? (fun p =>
    (l.zipIdx).all (fun x => patInv c x.1 == patFixed c (p + x.2)))

/-- Symbols that the checker loads before it compares. -/
def patLead (c : PatCfg) : Nat := if c.type ≤ 8 then (prbsLen c.type + patBits c - 1) / patBits c else 0

/-- Where the checker stands once received symbols match: the register, or the phase of the next symbol. -/
def patLock (c : PatCfg) (l : List (BitVec 2)) : Option Nat :=
  if c.type ≤ 8 then (let x := patLoad c l; if x.2 && 0 < x.1 then some x.1 else none)
  else (patPhase c l).map (fun p => (p + l.length) % max 1 (patPeriod c))

/-- The symbols that the checker expects from where it stands, and where it stands after them. -/
def patExpect (c : PatCfg) (pos n : Nat) : List (BitVec 2) × Nat :=
  if c.type ≤ 8 then
    let x := prbsRun c.type (n * patBits c) pos
    ((patSyms c.pam x.1).map (patInv c), x.2)
  else ((List.range n).map (fun i => patInv c (patFixed c (pos + i))), (pos + n) % max 1 (patPeriod c))

/-- Differing bits of two symbols. -/
def patDiff (pam : Bool) (a b : BitVec 2) : Nat :=
  let x := (a ^^^ b).toNat
  if pam then x / 2 + x % 2 else x / 2

end Sys2Proof.Machine
end

