-- ==== Sys2Proof/Machine/FecOps.lean ====
section
/-! DEFINITION. FEC and test patterns (08): inner alignment and decoding (R229 to R231), error counts and snapshots (R233,
R234), the pattern generator and checker (R238 to R242), the coding of links (R224 to R227) with its error injection
(R244), and the FEC group (R245). -/

namespace Sys2Proof.Machine

/-! Inner code. -/

/-- Inner lock changes (R230). -/
def innerGo (n : Nat) (lock : Bool) (s : State) : State :=
  let x := s.fecOf n
  if s.on (laneB n) R.FEC_STATUS_INNER_LOCK == lock then s
  else fecEvt n R.FEC_EVT_INNER ((s.wr (laneB n) R.FEC_STATUS_INNER_LOCK (b2n lock)).setFec n
    { x with innerGood := 0, innerLast := [], innerBlks := [], rsIn := [] })

/-- A decoded block (R231): each codeword with its flips made, or unchanged where it is detected as bad. -/
def innerOut (l : Nat) (cws : List InnerCw) : InnerOut :=
  let r := cws.map (fun c => (c, innerDecode l c))
  let bits (c : InnerCw) (d : Option (List Nat)) : List Nat :=
    let v := (flipAll c.bits (d.getD [])).toNat
    (List.range 128).map (fun i => v / 2 ^ i % 2)
  ⟨r.flatMap (fun x => bits x.1 x.2), r.flatMap (fun x => (List.range 64).map (fun k => x.1.rel.getD (2 * k + 1) 0)),
    r.map (fun x => x.2.isNone), r.countP (fun x => match x.2 with | some (_ :: _) => true | _ => false)⟩

/-- The two codewords of a pair's five blocks (R225, R229), with their erasures (R232). -/
def pairWords (l : List InnerOut) : List RsIn :=
  let syms := bitsSyms 10 1088 (l.flatMap (fun b => b.bits))
  let rel := l.flatMap (fun b => b.rel)
  let det := l.flatMap (fun b => b.det)
  let cor := l.foldl (fun a b => a + b.cor) 0
  (List.range 2).map (fun c =>
    let ks := (List.range 544).map (fun k => 2 * k + c)
    ⟨c, ks.map (fun i => syms.getD i 0), ks.flatMap (fun i => (List.range 5).map (fun j => rel.getD (5 * i + j) 0)),
      (List.range 544).filter (fun k => let i := 10 * (2 * k + c); det.getD (i / 128) false || det.getD ((i + 9) / 128) false),
      cor, det.count true⟩)

/-- A block is decoded and counted (R231, R233). In marker lock five blocks make a pair; before it only the last is kept,
since a pair begins at a block that holds a marker (R226). -/
def innerDone (n : Nat) (o : InnerOut) (s : State) : State :=
  let x := s.fecOf n
  let v := { x.live with innerCor := satAdd 16 x.live.innerCor o.cor, innerDet := satAdd 16 x.live.innerDet (o.det.count true) }
  let bs := x.innerBlks ++ [o]
  if s.rd (lstB n) R.FE_LSTAT_AM_STATE != 2 then s.setFec n { x with live := v, innerBlks := [o] }
  else if bs.length < 5 then s.setFec n { x with live := v, innerBlks := bs }
  else s.setFec n { x with live := v, innerBlks := [], rsIn := x.rsIn ++ pairWords bs }

/-- An inner interleave block is taken whole (R230): P4-212 lanes of an enabled group only. It is the first 1,156 soft words
not yet taken; after a block that fails in the search the stage slips by one symbol. -/
def innerBlock (n : Nat) (words : List (BitVec 4)) (s : State) : State :=
  if s.rxState n != 6 || s.rxMode n != 0 || (laneGrp n s).isNone || !s.feUp (n / 16) then s
  else
    let x := s.fecOf n
    let buf := x.innerBuf ++ words
    if buf.length < 1156 then s.setFec n { x with innerBuf := buf }
    else
      let cws := innerTake (buf.take 1156)
      let fail := decide (8 < cws.countP (fun c => innerFails c.bits))
      let s := s.setFec n { x with innerBuf := buf.drop 1156 }
      if s.on (laneB n) R.FEC_STATUS_INNER_LOCK then
        let s := innerDone n (innerOut (s.rd (laneB n) R.FEC_CTRL_INNER_L) cws) s
        let x := s.fecOf n
        if fail && decide (15 ≤ x.innerLast.count true) then innerGo n false s
        else s.setFec n { x with innerLast := (fail :: x.innerLast).take 63 }
      else if fail then s.setFec n { x with innerGood := 0, innerOfs := (x.innerOfs + 1) % 1156, innerBuf := buf.drop 1157 }
      else if x.innerGood + 1 < 64 then s.setFec n { x with innerGood := x.innerGood + 1, innerBuf := buf.drop 1156 }
      else innerGo n true s

/-! Error counts. -/

/-- Add 1 to bin b of a histogram of 32-bit bins. -/
def histAdd (h : List Nat) (b : Nat) : List Nat := h.set b (satAdd 32 (h.getD b 0) 1)

/-- One lane's share of a decoded codeword (R233). -/
def fecCount (n : Nat) (uncorr : Bool) (w wl bits : Nat) (s : State) : State :=
  let x := s.fecOf n
  let v := x.live
  let v := { v with cw := satAdd 48 v.cw 1 }
  if uncorr then
    fecEvt n R.FEC_EVT_UNCORR (s.setFec n { x with live := { v with uncorr := satAdd 32 v.uncorr 1, hist := histAdd v.hist 16 } })
  else
    let hw := if x.histSrc then w else wl
    s.setFec n { x with live := { v with sym := satAdd 32 v.sym wl, bit := satAdd 32 v.bit bits,
                                         hist := if hw ≤ 15 then histAdd v.hist hw else v.hist } }

/-- SNAP = 1 (R234). -/
def fecSnap (n : Nat) (s : State) : State := s.wr (laneB n) R.FEC_STATUS_SNAP_BUSY 1

/-- The codeword boundary of a pending snapshot (R234). -/
def fecSnapTake (n : Nat) (s : State) : State :=
  let b := laneB n
  if !s.on b R.FEC_STATUS_SNAP_BUSY then s
  else
    let x := s.fecOf n
    let v := x.live
    let s := (s.wr64 b R.FEC_CW_LO_CW R.FEC_CW_HI_CW v.cw).wr b R.FEC_SYM_SYM v.sym
    let s := ((s.wr b R.FEC_BIT_BIT v.bit).wr b R.FEC_UNCORR_UNCORR v.uncorr).wr b R.FEC_INNER_INNER_DET v.innerDet
    let s := s.wr b R.FEC_INNER_INNER_COR v.innerCor
    let s := (List.range 17).foldl (fun t i => t.wr (b + 4 * i) R.FEC_HIST_COUNT (v.hist.getD i 0)) s
    let s := s.setFec n { x with live := .zero, histSrc := s.on b R.FEC_CTRL_HIST_SRC }
    (s.wr b R.FEC_STATUS_SNAP_BUSY 0).cntW b R.FEC_STATUS_SNAP_SEQ 1

/-! Pattern generator. -/

/-- The words of a lane's pattern memory (R242). -/
def patMem (n : Nat) (s : State) : List (BitVec 32) :=
  (List.range 512).map (fun i => s.getReg ((Obj.pattern n i).base + 0x40AC))

/-- What the generator makes its pattern from (R238). -/
def pgCfg (n : Nat) (s : State) : PatCfg :=
  let b := laneB n
  let t := s.rd b R.FEC_PG_PG_TYPE
  { type := t, inv := s.on b R.FEC_PG_PG_INV, seed := prbsSeed t (s.rd b R.FEC_PG_SEED_SEED), run := s.rd b R.FEC_PG_RUN
    len := s.rd b R.FEC_PG_USER_LEN, mem := if t == 11 then patMem n s else []
    pam := modeFamily (s.rd b R.TX_CTRL_MODE) == some 0 }

/-- The symbol that the generator stands at (R239): it runs from its start at the lane's symbol rate, seen or unseen. -/
def pgPos (n : Nat) (s : State) : Nat :=
  let x := s.fecOf n
  max x.pgSent ((s.tlv.toNat - x.pgStart) * symRate (s.rd (laneB n) R.TX_CTRL_MODE) / 1250)

/-- The next n symbols of the generator, with the errors that are injected in them (R240). -/
def pgTake (n k : Nat) (s : State) : List (BitVec 2) × State :=
  let c := pgCfg n s
  let x := s.fecOf n
  let p := pgPos n s
  let l := (patRun c p k).zipIdx.map (fun a =>
    if decide (x.flipAt ≤ p + a.2) && decide (p + a.2 < x.flipAt + x.flipN) then patFlip c.pam a.1 else a.1)
  (l, s.setFec n { x with pgSent := p + k })

/-- Symbols are injected from the one that the generator stands at (R240). -/
def pgFlip (n k : Nat) (s : State) : State :=
  (s.setFec n { s.fecOf n with flipAt := pgPos n s, flipN := k }).cnt (laneB n) R.FEC_PG_CNT_INJ_CNT k

/-- ONE is written in MODE 1 with the generator on (R240). -/
def pgOne (n : Nat) (s : State) : State :=
  let b := laneB n
  if s.rd b R.FEC_PG_ERR_MODE == 1 && s.rd b R.FEC_PG_PG_TYPE != 0 then pgFlip n 1 s else s

/-- The interval of MODE 2 or 3 ends (R240), at the next symbol whose number is a multiple of 2^EXP, EXP held within 4 to 40.
DESIGN CHOICE: the spec gives no phase of the intervals; they count from the generator's start. -/
def pgPeriodic (n : Nat) (s : State) : State :=
  let b := laneB n
  let m := s.rd b R.FEC_PG_ERR_MODE
  let r := symRate (s.rd b R.TX_CTRL_MODE)
  if s.rd b R.FEC_PG_PG_TYPE == 0 || m ≤ 1 || r == 0 || !s.counting then s
  else
    let e := 2 ^ max 4 (min 40 (s.rd b R.FEC_PG_ERR_EXP))
    let k := (pgPos n s / e + 1) * e
    let s := s.advanceTlv ((s.fecOf n).pgStart + (k * 1250 + r - 1) / r) s.now
    pgFlip n (if m == 2 then 1 else max 1 (s.rd b R.FEC_PG_ERR_BURST)) s

/-- A write of UP_DATA (R242). A refused one has no effect, so that AUTO_INC does not move INDEX either. -/
def upWrite (n : Nat) (w : Word) (s : State) : State :=
  let b := laneB n
  let i := s.rd b R.FEC_UP_SEL_INDEX
  if s.rd b R.FEC_PG_PG_TYPE == 11 || s.rd b R.FEC_PC_PC_TYPE == 11 then fecEvt n R.FEC_EVT_REFUSED s
  else
    let s := s.setReg ((Obj.pattern n i).base + 0x40AC) w
    if s.on b R.FEC_UP_SEL_AUTO_INC then s.wr b R.FEC_UP_SEL_INDEX (i + 1) else s

/-! Pattern checker. -/

/-- What the checker compares with (R238). -/
def pcCfg (n : Nat) (s : State) : PatCfg :=
  let b := laneB n
  let t := s.rd b R.FEC_PC_PC_TYPE
  { type := t, inv := s.on b R.FEC_PC_PC_INV, seed := 0, run := s.rd b R.FEC_PG_RUN, len := s.rd b R.FEC_PG_USER_LEN
    mem := if t == 11 then patMem n s else [], pam := modeFamily (s.rxMode n) == some 0 }

/-- The lane's group is ALIGNED: it carries a link, and its checker stays in SEARCH (R243). -/
def pcLinked (n : Nat) (s : State) : Bool :=
  match laneGrp n s with
  | some g => s.rd (grpB (n / 16) g) R.FE_GRP_STAT_STATE == 2
  | none => false

/-- Received symbols end in SEARCH with LOCK_N of them, after those that load the register, in line with the pattern (R241). -/
def pcLock (n : Nat) (words : List (BitVec 2)) (s : State) : State :=
  let b := laneB n
  let c := pcCfg n s
  let need := patLead c + 4 * max 1 (s.rd b R.FEC_PC_LOCK_N)
  if s.rd b R.FEC_PC_STATUS_STATE != 1 || s.rxState n != 6 || pcLinked n s || words.length < need then s
  else match patLock c (words.drop (words.length - need)) with
    | some p => (pcGo n 2 s).setFec n { s.fecOf n with pcPos := p }
    | none => s

/-- A window of the checker ends (R241): its symbols, at most 4,096, are compared and counted. -/
def pcWindow (n : Nat) (words : List (BitVec 2)) (s : State) : State :=
  let b := laneB n
  if s.rd b R.FEC_PC_STATUS_STATE != 2 then s
  else
    let c := pcCfg n s
    let x := s.fecOf n
    let e := patExpect c x.pcPos words.length
    let ds := (words.zip e.1).map (fun p => patDiff c.pam p.1 p.2)
    let errBits := ds.sum
    let bits := satAdd 48 (s.rd64 b R.FEC_PC_BITS_LO_BITS R.FEC_PC_BITS_HI_BITS) (patBits c * words.length)
    let s := (s.setFec n { x with pcPos := e.2 }).wr64 b R.FEC_PC_BITS_LO_BITS R.FEC_PC_BITS_HI_BITS bits
    let s := (s.cnt b R.FEC_PC_ERR_BITS_ERR_BITS errBits).cnt b R.FEC_PC_ERR_SYM_ERR_SYM (ds.countP (fun d => 0 < d))
    if s.rd b R.FEC_PC_LOSS_TH < errBits then pcGo n 1 s else s

/-! The link's coding (R224, R225). -/

/-- A group's coding. -/
def State.pcsOf (s : State) (k : Nat) : PcsSt := look PcsSt.idle s.pcs k
def State.setPcs (s : State) (k : Nat) (x : PcsSt) : State := { s with pcs := put PcsSt.idle s.pcs k x }

/-- The lane that names the codeword stream of lane n (R235): the lane itself in a P4-212 link, else the group's lowest. -/
def streamLane (n g mode : Nat) (s : State) : Nat :=
  if mode == 0 then n else ((grpLanes (n / 16) g s).head?).getD n

/-- The lanes that carry a stream's codewords. -/
def streamLanes (n g mode : Nat) (s : State) : List Nat := if mode == 0 then [n] else grpLanes (n / 16) g s

/-- A frame enters its group's coding (R224). A 10GbE or 25GbE link scrambles the blocks' payload as they stand; on the
others they wait to be transcoded. -/
def pcsFrame (e g : Nat) (bytes : List Byte) (s : State) : State :=
  let x := s.pcsOf (16 * e + g)
  let bs := frameBlks bytes
  if s.rd (grpB e g) R.FE_GRP_CFG_LINK ≤ 1 then
    let r := bs.foldl (fun (r : List Blk66 × Nat) b =>
      let y := scrambleN 64 b.pay.toNat r.2
      (r.1 ++ [⟨b.hdr, BitVec.ofNat 64 y.1⟩], y.2)) ([], x.scr)
    s.setPcs (16 * e + g) { x with line := r.1, scr := r.2 }
  else s.setPcs (16 * e + g) { x with q := x.q ++ bs }

/-- The next coded block of a group, for the next of its streams in turn; idles fill what no frame gives (R224). -/
def pcsPull (ls : List Nat) (x : PcsSt) : PcsSt :=
  let four := (x.q ++ List.replicate 4 idleBlk).take 4
  let y := scrambleN 257 (transcode four).toNat x.scr
  { x with q := x.q.drop 4, scr := y.2, next := (x.next + 1) % ls.length
           out := x.out ++ [(ls.getD x.next 0, BitVec.ofNat 257 y.1)] }

/-- Blocks are coded until one stream has as many as it needs. -/
def pcsFill (ls : List Nat) (n want : Nat) : Nat → PcsSt → PcsSt
  | 0, x => x
  | k + 1, x => if want ≤ x.out.countP (fun p => p.1 == n) then x else pcsFill ls n want k (pcsPull ls x)

/-- One carrying lane's injection on a codeword (R244). One codeword in every 2^EVERY that carries symbols on the lane has
WEIGHT of those symbols, from the POS-th on, XORed with MASK. -/
def txInjectOn (m : Nat) (ks : List Nat) (x : List Nat × State) : List Nat × State :=
  let b := laneB m
  let s := x.2
  let w := s.rd b R.FEC_TX_INJ_WEIGHT
  let mask := s.rd b R.FEC_TX_INJ_MASK
  let f := s.fecOf m
  if w == 0 || mask == 0 then x
  else if f.txCount + 1 < 2 ^ s.rd b R.FEC_TX_INJ_EVERY then (x.1, s.setFec m { f with txCount := f.txCount + 1 })
  else
    let hit := (ks.drop (s.rd b R.FEC_TX_INJ_POS)).take w
    (x.1.zipIdx.map (fun c => if hit.contains c.2 then c.1 ^^^ mask else c.1), s.setFec m { f with txCount := 0 })

/-- The transmit stage of a lane's stream reaches a codeword boundary (R225, R226, R244): 20 blocks, the first of them the
marker in the first codeword of every 8,192nd pair of a P4-212 lane, are encoded, injected into, and sent. -/
def txCodeword (n : Nat) (s : State) : State :=
  match laneGrp n s with
  | none => s
  | some g =>
    if blockLink n g s || !s.feUp (n / 16) then s
    else
      let e := n / 16
      let mode := s.rd (laneB n) R.TX_CTRL_MODE
      let link := s.rd (grpB e g) R.FE_GRP_CFG_LINK
      let ls := grpLanes e g s
      let top := streamLane n g mode s
      let streams := if mode == 0 then ls else [top]
      let x := s.fecOf top
      let mark := mode == 0 && x.txCwN % 16384 == 0
      let want := if mark then 19 else 20
      let p := pcsFill streams top want (20 * streams.length) (s.pcsOf (16 * e + g))
      let mine := ((p.out.filter (fun q => q.1 == top)).take want).map (fun q => q.2)
      let s := s.setPcs (16 * e + g) { p with out := mine.foldl (fun o b => o.erase (top, b)) p.out }
      let am := amBlock (ls.idxOf n) (link + 16 * s.rd (grpB e g) R.FE_GRP_CFG_WIDTH)
      let cw := rsEncode (blocksMsg (if mark then am :: mine else mine))
      let c := x.txCwN % (linkShape (mode == 0) link).1
      let r := (streamLanes n g mode s).zipIdx.foldl (fun (r : List Nat × State) m =>
        txInjectOn m.1 ((List.range 544).filter (fun k => symLane (mode == 0) link ls.length c k == m.2 || mode == 0)) r) (cw, s)
      let s := { r.2 with txCw := put [] r.2.txCw top r.1 }
      let x := s.fecOf top
      let s := s.setFec top { x with txCwN := x.txCwN + 1, txHalf := if c == 0 then r.1 else [] }
      if mode == 0 && c == 1 then { s with txPair := put [] s.txPair n (pairSend x.txHalf r.1) } else s

/-- Ticks from a codeword's first symbol at the front end to its decoding, beside the deskew delay (R227, R208). -/
def rsDelay (n g : Nat) (s : State) : Nat :=
  let mode := s.rxMode n
  let p4 := mode == 0
  let link := s.rd (grpB (n / 16) g) R.FE_GRP_CFG_LINK
  let wire := if p4 then 2 * symRate 0 else (if mode ≤ 3 then 2 else 1) * symRate mode * (grpLanes (n / 16) g s).length
  let i := (linkShape p4 link).1
  let rs := if p4 then 5440 * i * 1250 * 136 / (wire * 128) else 5440 * i * 1250 / max 1 wire
  rs + s.cclkT 112 + s.rd (grpB (n / 16) g) R.FE_GRP_STAT_MAX_SKEW + (if p4 then 1156 * 1250 / 6800 + s.cclkT 24 else 0)

/-- The stamp of a frame that group slot g hands over now (R255): its first symbol at the receive reference point, before the
latencies of the lane stages. DESIGN CHOICE: on a link of several lanes the compensation is that of the lowest. -/
def feStamp (e g : Nat) (s : State) : Nat :=
  match grpLanes e g s with
  | [] => s.tlv.toNat
  | n :: _ => rxRef n s.tlv.toNat s - (if blockLink n g s then 0 else rsDelay n g s)

/-- Ticks from a frame's start in the engine to its stamp at the transmit reference point (R227, R255). -/
def txLead (e g : Nat) (s : State) : Nat :=
  match grpLanes e g s with
  | [] => 0
  | n :: _ =>
    let p4 := s.rd (laneB n) R.TX_CTRL_MODE == 0
    txRef n 0 s + (if blockLink n g s then 0 else s.cclkT 48) + (if p4 then 1156 * 1250 / 6800 + s.cclkT 16 else 0)

/-- The instant, at the transmit reference point, of what the engine starts now for a group. -/
def feNow (e g : Nat) (s : State) : Nat := s.tlv.toNat + txLead e g s

/-- The blocks of a decoded codeword join their group's, which leave in the order of R225, are descrambled, and become
66-bit blocks for the parser (R224). The block that holds a P4-212 marker is taken out (R226). -/
def pcsMerge : Nat → List Nat → PcsSt → PcsSt
  | 0, _, x => x
  | k + 1, ls, x =>
    let l := ls.getD x.rxNext 0
    match x.rxQ.find? (fun q => q.1 == l) with
    | none => x
    | some q =>
      let d := descrambleN 257 q.2.2.toNat x.dscr
      pcsMerge k ls { x with rxQ := x.rxQ.erase q, dscr := d.2, rxNext := (x.rxNext + 1) % ls.length
                             rx := x.rx ++ untranscode q.2.1 (BitVec.ofNat 257 d.1) }

/-- A decoded codeword of a stream hands its message on (R224, R225). -/
def pcsTake (n g : Nat) (unc : Bool) (syms : List Nat) (s : State) : State :=
  let e := n / 16
  let mode := s.rxMode n
  let f := s.fecOf n
  let bs := (msgBlocks (syms.take 514)).drop (if mode == 0 && f.rxCwN % 16384 == 0 then 1 else 0)
  let s := s.setFec n { f with rxCwN := f.rxCwN + 1 }
  let x := s.pcsOf (16 * e + g)
  let q := x.rxQ ++ bs.map (fun b => (n, unc, b))
  let ls := if mode == 0 then grpLanes e g s else [n]
  s.setPcs (16 * e + g) (pcsMerge q.length ls { x with rxQ := q, rx := [] })

/-! The FEC commit group (R245). -/

/-- The agreement rules of R245. -/
def fecRules (n : Nat) (s : State) : Nat :=
  let b := laneB n
  let pg := s.rdSh b R.FEC_PG_PG_TYPE
  let pc := s.rdSh b R.FEC_PC_PC_TYPE
  let ul := s.rdSh b R.FEC_PG_USER_LEN
  if 12 ≤ pg ∨ 12 ≤ pc then 1
  else if (pg == 9 && !decide (s.rd b R.TX_CTRL_MODE ≤ 3)) || (pc == 9 && !decide (s.rxMode n ≤ 3)) then 2
  else if (pg == 11 || pc == 11) && !decide (1 ≤ ul ∧ ul ≤ 8192) then 3
  else if (pg == 10 || pc == 10) && s.rdSh b R.FEC_PG_RUN == 0 then 4
  else 0

/-- What a commit of the FEC group does beside the copy (R239, R241); the words are PG, PG_SEED and PC before it. -/
def fecCommitted (n : Nat) (pg0 seed0 pc0 : Word) (s : State) : State :=
  let b := laneB n
  let pg := s.getReg (b + 0x4080)
  let genCh := pg != pg0 || s.getReg (b + 0x4084) != seed0
  let chkCh := s.getReg (b + 0x4090) != pc0 ||
    fget pg 13 8 != fget pg0 13 8 || fget pg 29 16 != fget pg0 29 16
  let s := if genCh then s.setFec n { s.fecOf n with pgStart := s.tlv.toNat, pgSent := 0, flipN := 0 } else s
  if s.rd b R.FEC_PC_PC_TYPE == 0 then pcGo n 0 s
  else if s.rd b R.FEC_PC_STATUS_STATE == 0 || chkCh then pcGo n 1 s
  else s

/-- The injections of FEC.INJECT (R246). -/
def fecInject (n : Nat) (w : Word) (s : State) : State :=
  let s := if fget w 0 0 == 1 then s.setFec n { s.fecOf n with injUncorr := true } else s
  let s := if fget w 1 1 == 1 && s.rd (laneB n) R.FEC_PC_STATUS_STATE == 2 then pcGo n 1 s else s
  if fget w 2 2 == 1 then innerGo n false s else s

end Sys2Proof.Machine
end

