-- ==== Sys2Proof/Machine/Frames.lean ====
section
/-! DEFINITION. Ethernet frames as bytes: the frame check sequence, the classification key (R250), the flow tag (R253,
R254) and the length and checksum fix-ups of a transmit stream (R264). A frame runs from the first byte of the
destination address to the last byte of the FCS (R249). -/

namespace Sys2Proof.Machine

/-- Byte i of a frame as a number; 0 beyond its end. -/
def fb (f : List Byte) (i : Nat) : Nat := (f.getD i 0).toNat
/-- Two bytes in network order. -/
def fb16 (f : List Byte) (i : Nat) : Nat := fb f i * 256 + fb f (i + 1)
/-- Four bytes in network order. -/
def fb32 (f : List Byte) (i : Nat) : Nat := fb16 f i * 65536 + fb16 f (i + 2)
/-- Eight bytes in network order. -/
def fb64 (f : List Byte) (i : Nat) : Nat := fb32 f i * 2 ^ 32 + fb32 f (i + 4)

/-- A number as k bytes in network order. -/
def beBytes (k v : Nat) : List Byte := (List.range k).map (fun i => BitVec.ofNat 8 (v / 256 ^ (k - 1 - i)))

/-- Replace bytes from position i on. -/
def splice (f : List Byte) (i : Nat) (v : List Byte) : List Byte := f.take i ++ v ++ f.drop (i + v.length)

/-- The IEEE 802.3 frame check sequence: CRC-32, least significant bit of each byte first. -/
def crc32 (f : List Byte) : Word :=
  ~~~ (f.foldl (fun (c : Word) (b : Byte) =>
    (List.range 8).foldl (fun (c : Word) _ => if c.getLsbD 0 then (c >>> 1) ^^^ 0xEDB88320 else c >>> 1)
      (c ^^^ b.zeroExtend 32)) 0xFFFFFFFF)

/-- The tag's CRC-16: x^16 + x^12 + x^5 + 1 from 0xFFFF, most significant bit first (R253). -/
def crc16 (f : List Byte) : BitVec 16 :=
  f.foldl (fun (c : BitVec 16) (b : Byte) =>
    (List.range 8).foldl (fun (c : BitVec 16) _ => if c.getLsbD 15 then (c <<< 1) ^^^ 0x1021 else c <<< 1)
      (c ^^^ ((b.zeroExtend 16 : BitVec 16) <<< 8))) 0xFFFF

/-- The FCS of a frame checks: its last four bytes, the first holding the CRC's low byte. -/
def fcsOk (f : List Byte) : Bool :=
  let n := f.length
  let c := crc32 (f.take (n - 4))
  fb f (n - 4) + fb f (n - 3) * 256 + fb f (n - 2) * 65536 + fb f (n - 1) * 16777216 == c.toNat

/-- A VLAN EtherType (R250). -/
def isVlan (t : Nat) : Bool := t == 0x8100 || t == 0x88A8

/-- Where the EtherType after up to two VLAN tags lies. -/
def etOfs (f : List Byte) : Nat := if isVlan (fb16 f 12) then (if isVlan (fb16 f 16) then 20 else 16) else 12

/-- What the parser finds of the headers (R250): offsets of layer 3 and 4, IPv4, IPv6, protocol, ports present. -/
structure Hdrs where
  l3 : Nat
  l4 : Nat
  v4 : Bool
  v6 : Bool
  proto : Nat
  ports : Bool
  deriving DecidableEq, Repr

/-- Parse the headers of a frame (R250). -/
def parseHdrs (f : List Byte) : Hdrs :=
  let o := etOfs f
  let v4 := fb16 f o == 0x0800
  let v6 := fb16 f o == 0x86DD
  let l3 := o + 2
  let l4 := if v4 then l3 + fb f l3 % 16 * 4 else l3 + 40
  let proto := if v4 then fb f (l3 + 9) else if v6 then fb f (l3 + 6) else 0
  let l4ok := (proto == 6 || proto == 17) && (v6 || (v4 && fb16 f (l3 + 6) % 8192 == 0)) && decide (l4 + 4 ≤ f.length)
  ⟨l3, l4, v4, v6, proto, l4ok⟩

/-- The six key words of a frame (R250). -/
def frameKey (f : List Byte) (grp keyOfs : Nat) : List Word :=
  let h := parseHdrs f
  let vlan := isVlan (fb16 f 12)
  let k0 := fb16 f (etOfs f) * 65536 + h.proto * 256 + b2n vlan * 16 + b2n h.v4 * 32 + b2n h.v6 * 64 + b2n h.ports * 128 + grp
  let cls := if h.v4 then fb f (h.l3 + 1) else if h.v6 then fb16 f h.l3 / 16 % 256 else 0
  let tci := if vlan then fb16 f 14 else 0
  let k1 := cls * 65536 + tci / 8192 * 4096 + tci % 4096
  let k2 := if h.ports then fb32 f h.l4 else 0
  let dst := if h.v4 then fb32 f (h.l3 + 16) else if h.v6 then fb32 f (h.l3 + 36) else 0
  let src := if h.v4 then fb32 f (h.l3 + 12) else if h.v6 then fb32 f (h.l3 + 20) else 0
  [k0, k1, k2, dst, src, fb32 f keyOfs].map (BitVec.ofNat 32)

/-- A flow tag (R253). -/
structure Tag where
  flowId : Nat
  seq : Nat
  txTlv : Nat
  tq : Nat
  part : Nat
  stepSeq : Nat
  deriving DecidableEq, Repr

/-- Where the tag lies in a frame of a length; none where it does not fit (R254). -/
def tagPos (len ofs : Nat) (fromEnd : Bool) : Option Nat :=
  if fromEnd then (if ofs + 24 ≤ len then some (len - 4 - ofs - 20) else none)
  else if ofs + 24 ≤ len then some ofs else none

/-- What a frame carries at the tag's place: nothing of the signature, a tag whose CRC fails, or a tag (R254). -/
inductive TagRead where
  | absent | bad | tag (t : Tag)
  deriving DecidableEq, Repr

/-- Read the tag of a frame (R253, R254). -/
def readTag (f : List Byte) (sig ofs : Nat) (fromEnd : Bool) : TagRead :=
  match tagPos f.length ofs fromEnd with
  | none => .absent
  | some p =>
    if fb16 f p != sig then .absent
    else if (crc16 ((f.drop p).take 18)).toNat != fb16 f (p + 18) then .bad
    else .tag ⟨fb16 f (p + 2), fb32 f (p + 4), fb64 f (p + 8), fb f (p + 16) % 4, fb f (p + 16) / 4 % 16, fb f (p + 17)⟩

/-- A tag's 20 bytes (R253). -/
def tagBytes (sig : Nat) (t : Tag) : List Byte :=
  let b := beBytes 2 sig ++ beBytes 2 t.flowId ++ beBytes 4 t.seq ++ beBytes 8 t.txTlv ++
    beBytes 1 (t.tq + t.part * 4) ++ beBytes 1 t.stepSeq
  b ++ beBytes 2 (crc16 b).toNat

/-- The ones' complement sum of 16-bit words of a byte list. -/
def sum16 : List Byte → Nat
  | a :: b :: l => a.toNat * 256 + b.toNat + sum16 l
  | [a] => a.toNat * 256
  | [] => 0

/-- The Internet checksum of a sum. -/
def inetSum (v : Nat) : Nat :=
  let f (v : Nat) : Nat := v % 65536 + v / 65536
  65535 - f (f (f v))

/-- Lengths and checksums as sent (R264 FIXUP); `f` is the frame without its FCS. -/
def fixup (f : List Byte) : List Byte :=
  let h := parseHdrs f
  let ipLen := f.length - h.l3
  let f := if h.v4 then
      let f := splice (splice f (h.l3 + 2) (beBytes 2 ipLen)) (h.l3 + 10) [0, 0]
      splice f (h.l3 + 10) (beBytes 2 (inetSum (sum16 ((f.drop h.l3).take (h.l4 - h.l3)))))
    else if h.v6 then splice f (h.l3 + 4) (beBytes 2 (ipLen - 40))
    else f
  if h.ports && h.proto == 17 then
    let ulen := f.length - h.l4
    let f := splice (splice f (h.l4 + 4) (beBytes 2 ulen)) (h.l4 + 6) [0, 0]
    let addrs := if h.v4 then (f.drop (h.l3 + 12)).take 8 else (f.drop (h.l3 + 8)).take 32
    let c := inetSum (sum16 addrs + 17 + ulen + sum16 (f.drop h.l4))
    splice f (h.l4 + 6) (beBytes 2 (if c == 0 then 0xFFFF else c))
  else f

/-- A frame with its FCS. -/
def withFcs (f : List Byte) : List Byte :=
  let c := (crc32 f).toNat
  f ++ (List.range 4).map (fun i => BitVec.ofNat 8 (c / 256 ^ i))

end Sys2Proof.Machine
end

