-- ==== Sys2Proof/Machine/FlowOps.lean ====
section
/-! DEFINITION. Measurement flows (09): classification (R251, R254), counters (R256), the sequence check (R257), latency
(R258, R260), delay variation (R261), rate intervals (R262), burst records (R263) and the flow command (R270). -/

namespace Sys2Proof.Machine

/-- A flow context, live or in the snapshot bank; a stream context. -/
def State.flow (s : State) (e i : Nat) : FlowCtx := look FlowCtx.blank s.flows (1024 * e + i)
def State.setFlow (s : State) (e i : Nat) (f : FlowCtx) : State :=
  { s with flows := put FlowCtx.blank s.flows (1024 * e + i) f }

/-- FS_INJECT bits armed of an engine, and taking bit k. -/
def feArmed (e k : Nat) (s : State) : Bool := look 0 s.feInj e / 2 ^ k % 2 == 1
def feDisarm (e k : Nat) (s : State) : State := { s with feInj := put 0 s.feInj e (clrBit (look 0 s.feInj e) k) }

/-- Configuration fields of a flow (R271). -/
def FlowCtx.en (f : FlowCtx) : Bool := f.cfg0.getLsbD 31
def FlowCtx.seqEn (f : FlowCtx) : Bool := f.cfg0.getLsbD 30
def FlowCtx.latEn (f : FlowCtx) : Bool := f.cfg0.getLsbD 29
def FlowCtx.dvEn (f : FlowCtx) : Bool := f.cfg0.getLsbD 28

/-! Classification. -/

/-- Base for the fields of a table entry. -/
def clsB (e i : Nat) : Nat := feB e + 64 * i

/-- An entry matches a key (R251). -/
def clsMatch (e i : Nat) (key : List Word) (s : State) : Bool :=
  s.on (clsB e i) R.FE_CLS_W12_VALID && (List.range 6).all (fun w =>
    ((key.getD w 0 ^^^ s.getReg (clsB e i + 0x10000 + 4 * w)) &&& s.getReg (clsB e i + 0x10018 + 4 * w)) == 0)

/-- The entries that match, in index order. -/
def clsMatches (e : Nat) (key : List Word) (s : State) : List Nat :=
  (List.range 1024).filter (fun i => clsMatch e i key s)

/-- Each match adds 1 to the entry's HITS (R251). -/
def clsHit (e : Nat) (ms : List Nat) (s : State) : State :=
  ms.foldl (fun t i => t.cnt (clsB e i) R.FE_CLS_W13_HITS 1) s

/-- The flow that the table gives: that of the first matching entry with FLOW_EN (R254). -/
def tableFlow (e : Nat) (ms : List Nat) (s : State) : Option Nat :=
  (ms.find? (fun i => s.on (clsB e i) R.FE_CLS_W12_FLOW_EN)).map (fun i => s.rd (clsB e i) R.FE_CLS_W12_FLOW)

/-- CAP_CLASS of a frame: that of the lowest matching entry, 0 with none (R251). -/
def capClass (e : Nat) (ms : List Nat) (s : State) : Nat :=
  match ms with
  | [] => 0
  | i :: _ => s.rd (clsB e i) R.FE_CLS_W12_CAP_CLASS

/-! Counters. -/

/-- A frame's rate counts (R262). -/
def FlowCtx.rate (f : FlowCtx) (len : Nat) : FlowCtx :=
  { f with curFrames := satAdd 64 f.curFrames 1, curBytes := satAdd 64 f.curBytes len }

/-- What every counted frame updates (R256). -/
def FlowCtx.frame (f : FlowCtx) (len t : Nat) : FlowCtx :=
  { f with frames := satAdd 64 f.frames 1, bytes := satAdd 64 f.bytes len, last := t,
           first := if f.fresh then t else f.first, fresh := false }.rate len

/-- Numbers still missing in the map. -/
def missing (map : Nat) : Nat := 64 - ones 64 map

/-- LOST - 1, held at saturation and never below the missing numbers of the map (R257). -/
def lostDown (lost miss : Nat) : Nat :=
  if lost == 2 ^ 48 - 1 then lost else if miss ≤ lost - 1 ∧ 0 < lost then lost - 1 else lost

/-- The sequence check (R257); true where it is a resync. -/
def FlowCtx.seqCheck (f : FlowCtx) (seq : Nat) (inj : Bool) : FlowCtx × Bool :=
  let all := 2 ^ 64 - 1
  let d := sext 32 (trunc 32 ((seq : Int) - f.x))
  let next := (seq + 1) % 2 ^ 32
  if !f.xv && !inj then ({ f with x := next, xv := true, map := all }, false)
  else if inj || decide (2 ^ 24 ≤ d) || decide (d ≤ -2 ^ 24) then
    ({ f with resync := satAdd 32 f.resync 1, x := next, xv := true, map := all }, true)
  else if d = 0 then ({ f with x := next, map := (f.map * 2 + 1) % 2 ^ 64 }, false)
  else if 0 < d then
    ({ f with lost := satAdd 48 f.lost d.toNat, x := next,
              map := if 64 ≤ d.toNat + 1 then 1 else (f.map * 2 ^ (d.toNat + 1) + 1) % 2 ^ 64 }, false)
  else if -64 ≤ d then
    let k := (-d - 1).toNat
    if f.map / 2 ^ k % 2 == 0 then
      let map := f.map + 2 ^ k
      ({ f with reorder := satAdd 32 f.reorder 1, lost := lostDown f.lost (missing map), map := map }, false)
    else ({ f with dup := satAdd 32 f.dup 1 }, false)
  else ({ f with stale := satAdd 32 f.stale 1 }, false)

/-- A latency sample is valid (R258). -/
def latValid (same : Bool) (rxTq txTq rxSeq txSeq : Nat) (l : Int) : Bool :=
  (if same then decide (rxTq < 2) && decide (txTq < 2) && rxSeq == txSeq else rxTq == 0 && txTq == 0) &&
    decide (0 ≤ l) && decide (l < 2 ^ 32)

/-- The histogram bin of a sample (R260). -/
def latBin (l base exp : Nat) : Nat := if l < base then 0 else min 31 ((l - base) / 2 ^ exp + 1)

/-- A valid sample's latency fields (R258, R260). -/
def FlowCtx.latSample (f : FlowCtx) (l : Nat) : FlowCtx :=
  { f with latMin := min f.latMin l, latMax := max f.latMax l, latSum := satAdd 64 f.latSum l,
           latCnt := satAdd 64 f.latCnt 1, hist := histAdd f.hist (latBin l f.cfg1.toNat (fget f.cfg0 4 0)) }

/-- A valid sample's delay variation, where one comes before it (R261). -/
def FlowCtx.dvSample (f : FlowCtx) (l : Nat) : FlowCtx :=
  let d := (l - f.lastLat) + (f.lastLat - l)
  if f.lastLatV then
    { f with dvMax := max f.dvMax d, dvSum := satAdd 64 f.dvSum d, dvCnt := satAdd 64 f.dvCnt 1,
             j16 := min (2 ^ 32 - 1) (f.j16 + d - f.j16 / 16) }
  else f

/-- Latency and delay variation of a tag-chosen frame, each by its own enable (R256, R258, R261); an invalid sample breaks
the pair. -/
def FlowCtx.latency (f : FlowCtx) (part rxT rxTq rxSeq : Nat) (t : Tag) : FlowCtx :=
  let l : Int := (rxT : Int) - t.txTlv
  if !(f.latEn || f.dvEn) then f
  else if latValid (t.part == part) rxTq t.tq rxSeq t.stepSeq l then
    let f := if f.latEn then f.latSample l.toNat else f
    let f := if f.dvEn then f.dvSample l.toNat else f
    { f with lastLat := l.toNat, lastLatV := true }
  else { f with latInvalid := if f.latEn then satAdd 32 f.latInvalid 1 else f.latInvalid, lastLatV := false }

/-- A flow's bit of FS_EVT and its event (R257, R275). -/
def flowResync (e : Nat) (s : State) : State := (s.wr (feB e) R.FE_FS_EVT_RESYNC 1).raise (evFe e 7)

/-- A tag-chosen frame's updates beside those of any frame (R256). -/
def tagUpdate (e i len rxT : Nat) (t : Tag) (s : State) : State :=
  let f := (s.flow e i).frame len rxT
  let tag := s.tagAt rxT
  let inj := f.seqEn && feArmed e 2 s
  let r := if f.seqEn then f.seqCheck t.seq inj else (f, false)
  let f := r.1.latency (s.rd (feB e) R.FE_FLOW_CFG_PART_ID) rxT tag.1 tag.2 t
  let s := s.setFlow e i f
  let s := if inj then feDisarm e 2 s else s
  if r.2 then flowResync e s else s

/-- The frame is an error frame (R249). -/
def errFrame (err : Bool) (bytes : List Byte) : Bool :=
  err || decide (bytes.length < 64) || decide (16383 < bytes.length) || !fcsOk bytes

/-- The flow tag as the engine's TAG_CFG finds it (R254). -/
def rxTag (e : Nat) (bytes : List Byte) (s : State) : TagRead :=
  readTag bytes (s.rd (feB e) R.FE_TAG_CFG_SIG) (s.rd (feB e) R.FE_TAG_CFG_OFS) (s.on (feB e) R.FE_TAG_CFG_FROM_END)

/-- The flow index of a valid tag, where it lies in range (R254). -/
def tagIndex (e : Nat) (t : Tag) (s : State) : Option Nat :=
  let b := s.rd (feB e) R.FE_FLOW_CFG_TAG_BASE
  if b ≤ t.flowId ∧ t.flowId - b < 1024 then some (t.flowId - b) else none

/-- The flow of a frame, and its tag where the tag chose it (R254). -/
def chooseFlow (tab : Option Nat) (tag : Option (Nat × Tag)) (first : Bool) : Option (Nat × Option Tag) :=
  let byTag := tag.map (fun p => (p.1, some p.2))
  let byTab := tab.map (fun i => (i, (none : Option Tag)))
  if first then byTag.or byTab else byTab.or byTag

/-- TAG_BAD and TAG_RANGE of a frame (R254), and the tag that may choose a flow. -/
def tagCounts (e g : Nat) (r : TagRead) (s : State) : State × Option (Nat × Tag) :=
  match r with
  | .absent => (s, none)
  | .bad => (s.cnt (grpB e g) R.FE_GRP_CNT_TAG_BAD 1, none)
  | .tag t => match tagIndex e t s with
    | none => (s.cnt (grpB e g) R.FE_GRP_CNT_TAG_RANGE 1, none)
    | some i => (s, some (i, t))

/-- The parser takes a frame whole, stamped t (R249 to R258). -/
def frameRx (e g t : Nat) (err : Bool) (bytes : List Byte) (s : State) : State :=
  let b := feB e
  let ms := clsMatches e (frameKey bytes g (s.rd b R.FE_FLOW_CFG_KEY_OFS)) s
  let s := clsHit e ms s
  let r := tagCounts e g (rxTag e bytes s) s
  let s := r.1
  match chooseFlow (tableFlow e ms s) r.2 (s.on b R.FE_TAG_CFG_TAG_FIRST) with
  | none => s.cnt (grpB e g) R.FE_GRP_CNT_UNCLASS 1
  | some (i, tag) =>
    let f := s.flow e i
    if !f.en then s
    else if errFrame err bytes then s.setFlow e i { f with fcsErr := satAdd 32 f.fcsErr 1 }
    else match tag with
      | none => s.setFlow e i (f.frame bytes.length t)
      | some x => tagUpdate e i bytes.length t x s

/-- FE3 takes the oldest burst record (R263); `bits` are the bits that the burst delivered. -/
def burstRecord (bits : Nat) (s : State) : State :=
  match s.burstRecs with
  | [] => s
  | r :: rest =>
    let s := { s with burstRecs := rest }
    let k := r.lane - 56
    let i := s.rd (feB 3) R.FE_BURST_CFG_BASE + k
    if s.rd (feB 3) R.FE_BURST_CFG_LANE_EN / 2 ^ k % 2 == 1 && decide (i < 1024) && (s.flow 3 i).en && s.feUp 3 then
      s.setFlow 3 i ((s.flow 3 i).frame (bits / 8) r.t)
    else s

/-- The ticks of a rate interval (R262). -/
def rateTicks (e : Nat) (s : State) : Nat := 2 ^ (s.rd (feB e) R.FE_FLOW_CFG_RATE_EXP + 12) * 250

/-- A rate interval ends at the next multiple of its length: every flow of the engine latches (R262). -/
def rateEnd (e : Nat) (s : State) : State :=
  if !s.counting || !s.feUp e then s
  else
    let d := rateTicks e s
    let s := s.advanceTlv ((s.tlv.toNat / d + 1) * d) s.now
    { s with flows := mapVals FlowCtx.blank (fun k f =>
        if k / 1024 == e then { f with rateFrames := f.curFrames, rateBytes := f.curBytes, curFrames := 0, curBytes := 0 }
        else f) s.flows }

/-! The command interface. -/

/-- The counters of a flow clear (R272). -/
def FlowCtx.clear (f : FlowCtx) : FlowCtx :=
  { FlowCtx.blank with cfg0 := f.cfg0, cfg1 := f.cfg1, sh0 := f.sh0, sh1 := f.sh1, x := f.x, xv := f.xv, map := f.map,
                       lastLat := f.lastLat, lastLatV := f.lastLatV, rateFrames := f.rateFrames,
                       rateBytes := f.rateBytes, curFrames := f.curFrames, curBytes := f.curBytes }

/-- The lower and upper word of a wide counter. -/
def w2 (v : Nat) : List Nat := [v % 2 ^ 32, v / 2 ^ 32]

/-- A flow context as the buffer shows it (R271). -/
def FlowCtx.words (f : FlowCtx) : List Nat :=
  [f.cfg0.toNat, f.cfg1.toNat, 0, 0] ++ w2 f.frames ++ w2 f.bytes ++ w2 f.lost ++
    [f.dup, f.reorder, f.stale, f.resync, f.fcsErr, f.latInvalid, f.latMin, f.latMax] ++
    w2 f.latSum ++ w2 f.latCnt ++ [f.dvMax, f.j16] ++ w2 f.dvSum ++ w2 f.dvCnt ++ w2 f.first ++ w2 f.last ++
    w2 f.rateFrames ++ w2 f.rateBytes ++ [f.x, f.lastLat, b2n f.xv * 2 ^ 31 + b2n f.lastLatV * 2 ^ 30, 0] ++ f.hist ++
    List.replicate 8 0

/-- Fill a buffer with words. -/
def putBuf (base : Nat) (ws : List Nat) (s : State) : State :=
  ws.zipIdx.foldl (fun t p => t.setReg (base + 4 * p.2) (BitVec.ofNat 32 p.1)) s

/-- A command's refusal (R270). -/
def cmdRefuse (e : Nat) (stat : Fld) (res : Nat) (s : State) : State :=
  ((s.wr (feB e) stat res).wr (feB e) R.FE_FS_EVT_CMD_REF 1).raise (evFe e 4)

/-- A SNAP_AT snapshot is armed and its instant has passed (R270). -/
def snapPending (e : Nat) (s : State) : Bool :=
  s.on (feB e) R.FE_SNAP_CTRL_ARM && decide (s.rd64 (feB e) R.FE_SNAP_AT_LO_AT R.FE_SNAP_AT_HI_AT ≤ s.tlv.toNat)

/-- The checks of a context command (R270): 0 where it runs. -/
def cmdCheck (e op : Nat) (flow : Bool) (s : State) : Nat :=
  if feArmed e 0 s then 3
  else if op == 7 || (op == 6 && flow) then 1
  else if (op == 2 || op == 5) && snapPending e s then 2
  else 0

/-- FLOW_CMD was written (R270). -/
def flowCmd (e op : Nat) (s : State) : State :=
  let b := feB e
  let i := s.rd b R.FE_FLOW_CMD_INDEX
  let f := s.flow e i
  if op == 0 then s
  else
    let c := cmdCheck e op true s
    if c != 0 then cmdRefuse e R.FE_FLOW_STAT_RESULT c (if c == 3 then feDisarm e 0 s else s)
    else
      let s := s.wr b R.FE_FLOW_STAT_RESULT 0
      match op with
      | 1 => putBuf (b + 0x20200) f.words s
      | 2 => (putBuf (b + 0x20200) f.words s).setFlow e i f.clear
      | 3 => putBuf (b + 0x20200)
          (if look 0 s.snapped e == 1 then (look FlowCtx.blank s.flowSnap (1024 * e + i)).words else List.replicate 80 0) s
      | 4 => s.setFlow e i { f with sh0 := s.getReg (b + 0x20200) &&& 0xF000001F, sh1 := s.getReg (b + 0x20204) }
      | _ => s.setFlow e i f.clear

/-- The injections of FS_INJECT (R275). -/
def fsInject (e : Nat) (w : Word) (s : State) : State :=
  { s with feInj := put 0 s.feInj e ((List.range 4).foldl (fun m i => if fget w i i == 1 then setBit m i else m)
      (look 0 s.feInj e)) }

/-- A flow takes its staged configuration at an FE commit (R260, R271). -/
def FlowCtx.commit (f : FlowCtx) : FlowCtx :=
  let g := if f.sh1 != f.cfg1 || fget f.sh0 4 0 != fget f.cfg0 4 0 then { f with hist := List.replicate 32 0 } else f
  let g := if f.sh0.getLsbD 31 && !f.cfg0.getLsbD 31 then { g with xv := false } else g
  { g with cfg0 := f.sh0, cfg1 := f.sh1 }

end Sys2Proof.Machine
end

