-- ==== Sys2Proof/Machine/StrmOps.lean ====
section
/-! DEFINITION. Transmit streams (09): building a frame (R264), the schedule (R265, R266), skips (R267), states (R269),
the stream command (R270), snapshots (R273), templates (R276) and the FE commit group (R252, R274). -/

namespace Sys2Proof.Machine

/-- A stream context. -/
def State.strm (s : State) (e i : Nat) : StrmCtx := look StrmCtx.blank s.strms (1024 * e + i)
def State.setStrm (s : State) (e i : Nat) (x : StrmCtx) : State :=
  { s with strms := put StrmCtx.blank s.strms (1024 * e + i) x }

/-- Bits hi:lo of configuration word k. -/
def cfgF (c : List Word) (k hi lo : Nat) : Nat := fget (c.getD k 0) hi lo

/-- Configuration fields of a stream (R272). -/
def cEn (c : List Word) : Bool := cfgF c 0 31 31 == 1
def cTagEn (c : List Word) : Bool := cfgF c 0 30 30 == 1
def cFromEnd (c : List Word) : Bool := cfgF c 0 29 29 == 1
def cGroup (c : List Word) : Nat := cfgF c 0 27 24
def cPrio (c : List Word) : Nat := cfgF c 0 18 16
def cLenMin (c : List Word) : Nat := cfgF c 1 13 0
def cLenMax (c : List Word) : Nat := cfgF c 1 29 16
def cHdrLen (c : List Word) : Nat := cfgF c 2 24 16
def cTagOfs (c : List Word) : Nat := cfgF c 2 12 0
def cStart (c : List Word) : Nat := (c.getD 4 0).toNat + (c.getD 5 0).toNat * 2 ^ 32
/-- GAP in 1/256 tick. -/
def cGap (c : List Word) : Nat := ((c.getD 6 0).toNat + cfgF c 7 7 0 * 2 ^ 32) * 256 + cfgF c 7 15 8
/-- BINT in 1/256 tick. -/
def cBint (c : List Word) : Nat := ((c.getD 8 0).toNat + cfgF c 9 7 0 * 2 ^ 32) * 256
def cBurstLen (c : List Word) : Nat := max 1 (cfgF c 9 31 16)
def cCount (c : List Word) : Nat := (c.getD 10 0).toNat + cfgF c 11 15 0 * 2 ^ 32

/-! Links. -/

/-- The group's slot is enabled and its members' active TX MODE meets the link row (R267). -/
def txLinkOk (e g : Nat) (s : State) : Bool :=
  s.on (grpB e g) R.FE_GRP_CFG_EN && (grpLanes e g s).all (fun n =>
    linkRows.contains (s.rd (grpB e g) R.FE_GRP_CFG_LINK, s.rd (grpB e g) R.FE_GRP_CFG_WIDTH, s.rd (laneB n) R.TX_CTRL_MODE))

/-- TX_UP of a group (R267). -/
def txUp (e g : Nat) (s : State) : Bool :=
  txLinkOk e g s && (grpLanes e g s).all (fun n =>
    s.rd (laneB n) R.TX_STATUS_STATE == 2 && s.rd (laneB n) R.TX_SRC_SRC == 1)

/-- The group's transmit source is REPLAY: the lowest lane's active SRC is 2 (R267). -/
def txReplay (e g : Nat) (s : State) : Bool :=
  match grpLanes e g s with
  | [] => false
  | n :: _ => s.rd (laneB n) R.TX_SRC_SRC == 2

/-- The rate of a link in Gb/s (R203). -/
def linkRate (link : Nat) : Nat := [10, 25, 50, 100, 200, 400, 800, 1600, 3200].getD link 10

/-- The ticks that a frame with its preamble and minimum gap takes, rounded up. -/
def frameTicks (link len : Nat) : Nat := ((len + 20) * 80000 + linkRate link * 256 - 1) / (linkRate link * 256)

/-- A frame started now ends inside the transmit window of every gated member lane (R268). -/
def fitsGate (e g len : Nat) (s : State) : Bool :=
  (grpLanes e g s).all (fun n => !s.on (laneB n) R.ACQ_BW_CTRL_TX_GATE ||
    (s.acqOf n).wins.any (fun w => w.tx &&
      decide (feNow e g s + frameTicks (s.rd (grpB e g) R.FE_GRP_CFG_LINK) len ≤ w.close)))

/-! The schedule. -/

/-- The instant after the one just scheduled (R265). Where that one stood is kept, since a commit before the next computes
it anew (R269). -/
def StrmCtx.step (x : StrmCtx) : StrmCtx :=
  let x := { x with last := some (x.due, x.burst0, x.burstN) }
  let gap := cGap x.cfg
  let len := cBurstLen x.cfg
  if len ≤ 1 then { x with due := x.due + gap, burst0 := x.due + gap, burstN := 0, count := x.count + 1 }
  else if x.burstN + 1 < len then { x with due := x.due + gap, burstN := x.burstN + 1, count := x.count + 1 }
  else { x with due := x.burst0 + cBint x.cfg, burst0 := x.burst0 + cBint x.cfg, burstN := 0, count := x.count + 1 }

/-- RUN from START (R269). -/
def StrmCtx.run (x : StrmCtx) : StrmCtx :=
  { x with state := 2, due := cStart x.cfg * 256, burst0 := cStart x.cfg * 256, burstN := 0, count := 0, last := none, backlog := [],
           len := cLenMin x.cfg }

/-- COUNT instants, sent or skipped, have passed (R269). -/
def StrmCtx.finish (x : StrmCtx) : StrmCtx :=
  if x.state == 2 && cCount x.cfg != 0 && decide (cCount x.cfg ≤ x.count) && x.backlog.isEmpty then { x with state := 3 }
  else x

/-- A stream in WAIT reaches START (R269). -/
def strmStart (e i : Nat) (s : State) : State :=
  let x := s.strm e i
  if x.state == 1 && s.counting && s.feUp e then
    let s := s.advanceTlv (cStart x.cfg - txLead e (cGroup x.cfg) s) s.now
    s.setStrm e i x.run
  else s

/-- Frames are skipped (R267, R275). -/
def strmSkip (e i k : Nat) (s : State) : State :=
  if k == 0 then s
  else
    let x := s.strm e i
    ((s.setStrm e i { x with skipped := satAdd 32 x.skipped k }).wr (feB e) R.FE_FS_EVT_SKIP 1).raise (evFe e 5)

/-- A scheduled instant is reached (R265, R267, R269). -/
def strmDue (e i : Nat) (s : State) : State :=
  let x := s.strm e i
  if !(x.state == 2 && s.counting && s.feUp e) then s
  else if cCount x.cfg != 0 && decide (cCount x.cfg ≤ x.count) then s
  else
    let s := s.advanceTlv ((x.due + 255) / 256 - txLead e (cGroup x.cfg) s) s.now
    let g := cGroup x.cfg
    let inj := feArmed e 1 s
    let drop := inj || !txUp e g s || txReplay e g s
    let y := x.step
    let y := if drop then y
      else if x.backlog.length == 16 then { y with backlog := x.backlog.drop 1 ++ [x.due] }
      else { y with backlog := x.backlog ++ [x.due] }
    let s := (if inj then feDisarm e 1 s else s).setStrm e i y
    let s := if drop || x.backlog.length == 16 then strmSkip e i 1 s else s
    s.setStrm e i (s.strm e i).finish

/-- The streams of a group with a due frame, best first: PRIO, then the earlier instant, then the index (R266). -/
def strmPick (e g : Nat) (s : State) : Option Nat :=
  (List.range 1024).foldl (fun b i =>
    let x := s.strm e i
    match x.backlog with
    | [] => b
    | t :: _ =>
      if x.state != 2 || cGroup x.cfg != g then b
      else match b with
        | none => some i
        | some j =>
          let y := s.strm e j
          let u := y.backlog.headD 0
          if cPrio y.cfg < cPrio x.cfg || (cPrio y.cfg == cPrio x.cfg && decide (t < u)) then some i else b) none

/-! Building a frame. -/

/-- Byte p of a template. -/
def tmplByte (e t p : Nat) (s : State) : Byte :=
  BitVec.ofNat 8 ((s.getReg (feB e + 0x38000 + 256 * t + p / 4 * 4)).toNat / 256 ^ (p % 4))

/-- The modifier's word at MOD_OFS: its low MOD_BITS bits advance, the others keep the template's value (R264). -/
def modWord (v bits acc : Nat) : Nat := v / 2 ^ bits * 2 ^ bits + (v + acc) % 2 ^ bits

/-- The header of the next frame (R264). -/
def strmHeader (e : Nat) (x : StrmCtx) (s : State) : List Byte :=
  let h := (List.range (cHdrLen x.cfg)).map (fun p => tmplByte e (cfgF x.cfg 0 6 0) p s)
  let bits := cfgF x.cfg 12 13 8
  let o := cfgF x.cfg 12 7 0
  if bits == 0 then h else splice h o (beBytes 4 (modWord (fb32 h o) bits x.mod))

/-- The payload of the next frame (R264); FILL_MODE 2 takes a PRBS31 that runs on (R238), from a register that the spec does
not give. -/
def strmFill (e i : Nat) (x : StrmCtx) (n : Nat) : List Byte :=
  let fill := cfgF x.cfg 0 15 8
  match cfgF x.cfg 0 21 20 with
  | 0 => List.replicate n (BitVec.ofNat 8 fill)
  | 1 => (List.range n).map (fun k => BitVec.ofNat 8 (fill + k))
  | _ =>
    let start := prbsSeed 7 (Config.fillSeed (1024 * e + i)).toNat
    (prbsBytes 7 Config.fillMsb n (prbsAt 7 (8 * x.fillPos % (2 ^ 31 - 1)) start)).1

/-- The next frame of a stream, of a length, without its tag and FCS (R264), and the tag it carries: place, flow, SEQ (R253). -/
def strmFrame (e i len : Nat) (x : StrmCtx) (s : State) : List Byte × Option (Nat × Nat × Nat) :=
  let h := strmHeader e x s
  let f := h ++ strmFill e i x (len - 4 - h.length)
  (f, if cTagEn x.cfg then
      (tagPos len (cTagOfs x.cfg) (cFromEnd x.cfg)).map (fun p => (p, cfgF x.cfg 3 15 0, x.nextSeq))
    else none)

/-- A frame as it starts now: the tag takes its transmit stamp (R253, R255), then the fix-up and the FCS (R264). -/
def frameStart (e g : Nat) (f : List Byte) (tag : Option (Nat × Nat × Nat)) (fix : Bool) (s : State) : List Byte :=
  let f := match tag with
    | some (p, flow, seq) =>
      let now := feNow e g s
      let tag := s.tagAt now
      let t : Tag := ⟨flow, seq, now, tag.1, s.rd (feB e) R.FE_FLOW_CFG_PART_ID, tag.2⟩
      splice f p (tagBytes (s.rd (feB e) R.FE_TAG_CFG_SIG) t)
    | none => f
  withFcs (if fix then fixup f else f)

/-- The length of the next frame: LEN_MODE 2 draws it, and the spec states no mapping, so the draw is free (R264). -/
def strmLen (x : StrmCtx) (s : State) : Nat :=
  let lo := cLenMin x.cfg
  let hi := cLenMax x.cfg
  match cfgF x.cfg 0 23 22 with
  | 0 => lo
  | 1 => max lo (min hi x.len)
  | _ => lo + s.draw % (hi - lo + 1)

/-! The command interface. -/

/-- The counters of a stream clear (R272). -/
def StrmCtx.clear (x : StrmCtx) : StrmCtx := { x with txFrames := 0, txBytes := 0, late := 0, maxSlip := 0, skipped := 0 }

/-- A stream context as the buffer shows it (R272). -/
def StrmCtx.words (x : StrmCtx) : List Nat :=
  (List.range 16).map (fun k => (x.cfg.getD k 0).toNat) ++ w2 x.txFrames ++ w2 x.txBytes ++
    [x.nextSeq, x.late, x.maxSlip, x.skipped] ++ w2 (x.due / 256 % 2 ^ 64) ++ [x.state] ++ List.replicate 5 0

/-- STOP (R269): a running stream is DONE. -/
def StrmCtx.stop (x : StrmCtx) : StrmCtx := if x.state == 2 then { x with state := 3, backlog := [] } else x

/-- The bits of configuration words 0 to 15 that hold a field (R272); the others read 0. -/
def strmMask : List Word :=
  let all : Word := 0xFFFFFFFF
  [0xFFF7FF7F, 0x3FFF3FFF, 0x01FF1FFF] ++ List.replicate 4 all ++ [0x0000FFFF, all, 0xFFFF00FF, all, 0x0000FFFF] ++
    [0xFFFF3FFF, all, 0, 0]

/-- STRM_CMD was written (R270). -/
def strmCmd (e op : Nat) (s : State) : State :=
  let b := feB e
  let i := s.rd b R.FE_STRM_CMD_INDEX
  let x := s.strm e i
  if op == 0 then s
  else
    let c := cmdCheck e op false s
    if c != 0 then cmdRefuse e R.FE_STRM_STAT_RESULT c (if c == 3 then feDisarm e 0 s else s)
    else
      let s := s.wr b R.FE_STRM_STAT_RESULT 0
      match op with
      | 1 => putBuf (b + 0x30200) x.words s
      | 2 => (putBuf (b + 0x30200) x.words s).setStrm e i x.clear
      | 3 => putBuf (b + 0x30200)
          (if look 0 s.snapped e == 1 then (look StrmCtx.blank s.strmSnap (1024 * e + i)).words else List.replicate 32 0) s
      | 4 => s.setStrm e i { x with sh := strmMask.zipIdx.map (fun m => m.1 &&& s.getReg (b + 0x30200 + 4 * m.2)) }
      | 5 => s.setStrm e i x.clear
      | _ => s.setStrm e i x.stop

/-! Due frames of a group that cannot send. -/

/-- The due frames of a stream are skipped: its group's TX_UP is 0, or its source is REPLAY (R267). -/
def strmBlocked (e : Nat) (x : StrmCtx) (s : State) : Bool :=
  !x.backlog.isEmpty && (!txUp e (cGroup x.cfg) s || txReplay e (cGroup x.cfg) s)

/-- Every due frame of such a stream is skipped. -/
def strmBlock (e i : Nat) (s : State) : State :=
  let x := s.strm e i
  if strmBlocked e x s then
    let s := s.setStrm e i { x with backlog := [] }.finish
    (List.range x.backlog.length).foldl (fun s _ => strmSkip e i 1 s) s
  else s

/-- Some stream has such frames. -/
def anyBlocked (s : State) : Bool := s.strms.any (fun p => strmBlocked (p.1 / 1024) p.2 s)

/-- Each of them skips them. -/
def blockAll (s : State) : State := s.strms.foldl (fun s p => strmBlock (p.1 / 1024) (p.1 % 1024) s) s

/-! Snapshots. -/

/-- Take out the entries of an engine from a bank, and put those of another in. -/
def bankCopy {α : Type} (e : Nat) (live snap : List (Nat × α)) : List (Nat × α) :=
  let lo := snap.filter (fun p => decide (p.1 / 1024 < e))
  let hi := snap.filter (fun p => decide (e < p.1 / 1024))
  lo ++ live.filter (fun p => p.1 / 1024 == e) ++ hi

/-- The snapshot is taken (R273). -/
def snapTake (e : Nat) (late : Bool) (s : State) : State :=
  let b := feB e
  let s := { s with flowSnap := bankCopy e s.flows s.flowSnap, strmSnap := bankCopy e s.strms s.strmSnap,
                    snapped := put 0 s.snapped e 1 }
  let s := ((s.wr b R.FE_SNAP_CTRL_ARM 0).wr b R.FE_SNAP_CTRL_DONE 1).wr b R.FE_SNAP_CTRL_LATE (b2n late)
  (s.cntW b R.FE_SNAP_CTRL_SEQ 1).raise (evFe e 6)

/-- SNAP_CTRL was written with ARM = 1 (R273). -/
def snapArm (e : Nat) (s : State) : State := if snapPending e s then snapTake e true s else s

/-- The boundary of an armed snapshot is reached (R273). -/
def snapReached (e : Nat) (s : State) : State :=
  let b := feB e
  if s.on b R.FE_SNAP_CTRL_ARM && s.counting && s.feUp e then
    snapTake e false (s.advanceTlv (s.rd64 b R.FE_SNAP_AT_LO_AT R.FE_SNAP_AT_HI_AT) s.now)
  else s

/-! Templates. -/

/-- A stream with active EN = 1 names the template (R276). -/
def tmplBusy (e t : Nat) (s : State) : Bool :=
  s.strms.any (fun p => p.1 / 1024 == e && cEn p.2.cfg && cfgF p.2.cfg 0 6 0 == t)

/-- A template write is refused (R276). -/
def tmplRefuse (e : Nat) (s : State) : State := (s.wr (feB e) R.FE_FS_EVT_TMPL_REF 1).raise (evFe e 4)

/-! The FE commit group. -/

/-- The rules 0x4 to 0x7 on a staged stream (R274): its lowest failing cause, 0 where all hold. -/
def strmRules (e : Nat) (c : List Word) (s : State) : Nat :=
  let lo := cLenMin c
  let hi := cLenMax c
  let h := cHdrLen c
  let o := cTagOfs c
  let bits := cfgF c 12 13 8
  let len := decide (64 ≤ lo ∧ lo ≤ hi ∧ hi ≤ 16383) && decide (h + 4 ≤ lo)
  let tag := !cTagEn c || (if cFromEnd c then decide (o + 24 + h ≤ lo) else decide (h ≤ o) && decide (o + 24 ≤ lo))
  if !(len && tag) then 4
  else if cfgF c 0 23 22 == 3 || cfgF c 0 21 20 == 3 || decide (32 < bits) ||
      (bits != 0 && decide (h < cfgF c 12 7 0 + 4)) then 5
  else if cGap c == 0 || (decide (1 < cBurstLen c) && decide (cBint c < cBurstLen c * cGap c)) then 6
  else if s.rdSh (grpB e (cGroup c)) R.FE_GRP_CFG_EN == 0 then 7
  else 0

/-- Rule 0x8 on a staged flow (R274). -/
def flowRule (f : FlowCtx) : Nat :=
  if f.sh0.getLsbD 31 && decide (2 ^ 32 < f.sh1.toNat + 30 * 2 ^ fget f.sh0 4 0) then 8 else 0

/-- The agreement rules of the FE group (R204, R274). -/
def feRules (e : Nat) (s : State) : Nat :=
  let g := grpRules e s
  let x := s.strms.foldl (fun c p => if p.1 / 1024 == e && cEn p.2.sh then lowCause c (strmRules e p.2.sh s) else c) 0
  let f := s.flows.foldl (fun c p => if p.1 / 1024 == e then lowCause c (flowRule p.2) else c) 0
  lowCause g (lowCause x f)

/-- The next instant of a running stream, from the last scheduled one with the intervals as they are now (R269). -/
def StrmCtx.replan (x : StrmCtx) : StrmCtx :=
  match x.last with
  | some (d, b, n) => if x.state == 2 then { { x with due := d, burst0 := b, burstN := n }.step with count := x.count } else x
  | none => x

/-- A stream takes its staged configuration at TLV t (R269). -/
def StrmCtx.commit (x : StrmCtx) (t : Nat) : StrmCtx :=
  let was := cEn x.cfg
  let y := { x with cfg := x.sh }
  let startCh := cStart x.cfg != cStart x.sh
  let arm (y : StrmCtx) : StrmCtx := if cStart y.cfg < t then y.run else { y with state := 1, backlog := [] }
  if !cEn x.sh then { y with state := 0, backlog := [] }
  else if !was then arm { y with nextSeq := (x.sh.getD 13 0).toNat }
  else if x.state == 3 && startCh then arm y
  else y.replan

/-- Every flow and stream of the engine takes its staged configuration. -/
def feContexts (e : Nat) (s : State) : State :=
  let t := s.tlv.toNat
  { s with flows := mapVals FlowCtx.blank (fun k f => if k / 1024 == e then f.commit else f) s.flows,
           strms := mapVals StrmCtx.blank (fun k x => if k / 1024 == e then x.commit t else x) s.strms }

/-- Entries of the classification table whose words 0 to 12 a commit changes: their HITS clear (R252). -/
def clsChanged (e : Nat) (s : State) : List Nat :=
  ((groupKeys (keyIn (feB e + 0x10000) 0x10000) s).filter (fun k =>
    mergeSt k (s.getReg k) (s.getShadow k) != s.getReg k)).map (fun k => (k - feB e - 0x10000) / 64)

/-- Keys of an engine's commit group: its registers and its Haze rules (R354). -/
def feKey (e k : Nat) : Bool := keyIn (feB e) 0x40000 k || keyIn (objKey 11 (2048 * e)) (2048 * 2 ^ 20) k

/-- A commit of the engine's group: the copy, HITS, contexts, and the groups' states (R74, R207, R252, R269). -/
def feCopy (e : Nat) (s : State) : State :=
  let ch := clsChanged e s
  let old := (List.range 16).map (fun g => grpShape e g s)
  let s := copyGroup (feKey e) s
  let s := ch.foldl (fun t i => t.wr (clsB e i) R.FE_CLS_W13_HITS 0) s
  grpCommitted e old (feContexts e s)

/-- The shadows of the engine's group are reloaded from its active values (R77). -/
def feReload (e : Nat) (s : State) : State :=
  let s := reloadGroup (feKey e) s
  { s with
    flows := mapVals FlowCtx.blank (fun k f => if k / 1024 == e then { f with sh0 := f.cfg0, sh1 := f.cfg1 } else f) s.flows,
    strms := mapVals StrmCtx.blank (fun k x => if k / 1024 == e then { x with sh := x.cfg } else x) s.strms }

end Sys2Proof.Machine
end

