-- ==== Sys2Proof/Machine/ReplayOps.lean ====
section
/-! DEFINITION. Replay contexts (R317 to R321), read-modify-write (R326), bandwidth admission (R322 to R324) and the MDW
commit group (R335). -/

namespace Sys2Proof.Machine

/-! Replay. -/

/-- Base for the fields of replay context r, and of its segment i. -/
def rpB (r : Nat) : Nat := (Obj.rp r).base
def segB (r i : Nat) : Nat := rpB r + 12 * i

/-- What a replay context holds. -/
def State.rpOf (s : State) (r : Nat) : RpSt := look RpSt.idle s.rps r
def State.setRp (s : State) (r : Nat) (x : RpSt) : State := { s with rps := put RpSt.idle s.rps r x }

/-- A record as a replay context reads it (R309): the pages it begins and ends on, stamp, TQ and STEP_SEQ, its marks, its bytes. -/
structure RepRec where
  page : Nat
  last : Nat
  t : Nat
  tq : Nat
  seq : Nat
  err : Bool
  cut : Bool
  bytes : List Byte
  deriving DecidableEq, Repr

/-- The records in a run of bytes, each byte with the page it lies on; what is not whole is no record. -/
def parseRecs : Nat → List (Nat × Byte) → List RepRec
  | 0, _ => []
  | k + 1, bs =>
    let h := (bs.take 16).map (·.2)
    let n := leNat ((h.drop 14).take 2)
    let len := 16 + (n + 3) / 4 * 4
    if bs.length < 16 ∨ bs.length < len then []
    else
      let b8 := (h.getD 8 0).toNat
      ⟨(bs.headD (0, 0)).1, ((bs.take len).getLastD (0, 0)).1, leNat (h.take 8), b8 % 4, (h.getD 9 0).toNat, b8 / 4 % 2 == 1, b8 / 8 % 2 == 1,
        ((bs.drop 16).take n).map (·.2)⟩ :: parseRecs k (bs.drop len)

/-- Page q of a plot as a read delivers it: an unwritten one has no data (R303). -/
def plotPage (p q : Nat) (s : State) : Page :=
  let mf := plotFrame p q s
  (s.page mf.1 mf.2).getD .unwritten

/-- The bytes of a segment from the first record that starts in it (R300, R319). -/
def segBytes (p : Nat) : List Nat → Bool → State → List (Nat × Byte)
  | [], _, _ => []
  | q :: qs, on, s =>
    let pg := plotPage p q s
    let bs := (pg.bytes.take pg.fill).map (fun b => (q, b))
    if on then bs ++ segBytes p qs true s
    else if pg.first < 4096 then bs.drop pg.first ++ segBytes p qs true s
    else segBytes p qs false s

/-- The pages of a segment. -/
def segPages (r i : Nat) (s : State) : List Nat :=
  (List.range (s.rd (segB r i) R.MDW_RP_SEG_C_PAGES)).map (fun k => s.rd (segB r i) R.MDW_RP_SEG_B_FIRST + k)

/-- The records of a segment. -/
def segRecords (r i : Nat) (s : State) : List RepRec :=
  let bs := segBytes (s.rd (segB r i) R.MDW_RP_SEG_A_PLOT) (segPages r i s) false s
  parseRecs (bs.length / 16 + 1) bs

/-- The pages that a context of KIND 1 plays of a segment (R320). -/
def segSoft (r i : Nat) (s : State) : List Nat :=
  (segPages r i s).filter (fun q =>
    let pg := plotPage (s.rd (segB r i) R.MDW_RP_SEG_A_PLOT) q s
    pg.src / 128 % 2 == 1 || pg.src % 128 == s.rd (rpB r) R.MDW_RP_CFG_SRC_LANE)

/-- Current segment and state. -/
def rpSeg (r : Nat) (s : State) : Nat := s.rd (rpB r) R.MDW_RP_STAT_SEG
def rpState (r : Nat) (s : State) : Nat := s.rd (rpB r) R.MDW_RP_STAT_STATE
def rpGo (r st : Nat) (s : State) : State := s.wr (rpB r) R.MDW_RP_STAT_STATE st

/-- START of a context. -/
def rpStart (r : Nat) (s : State) : Nat := s.rd64 (rpB r) R.MDW_RP_START_LO_START R.MDW_RP_START_HI_START

/-- A context enters RUN at its first segment (R318). -/
def rpRun (r : Nat) (s : State) : State :=
  let s := (((rpGo r 3 s).wr (rpB r) R.MDW_RP_STAT_SEG 0).wr (rpB r) R.MDW_RP_STAT_PAGE (s.rd (segB r 0) R.MDW_RP_SEG_B_FIRST))
  s.setRp r { RpSt.idle with tPass := rpStart r s, inj := (s.rpOf r).inj }

/-- The prefetch completes (R318). -/
def rpPrefetched (r : Nat) (s : State) : State :=
  if rpState r s != 1 then s
  else if rpStart r s < s.tlv.toNat then
    let s := (s.wr (rpB r) R.MDW_RP_STAT_LATE 1).wr (rpB r) R.MDW_RP_SLIP_SLIP (min (s.tlv.toNat - rpStart r s) (2 ^ 32 - 1))
    rpRun r (s.raise 0x42D)
  else rpGo r 2 s

/-- START is reached (R318). -/
def rpReached (r : Nat) (s : State) : State :=
  if rpState r s == 2 && s.counting then rpRun r (s.advanceTlv (rpStart r s) s.now) else s

/-- RP_CMD.STOP (R318): at once, or at the end of the frame in progress. -/
def rpStop (r : Nat) (s : State) : State :=
  if rpState r s != 3 then s
  else if !s.on (rpB r) R.MDW_RP_CFG_KIND && decide (s.tlv.toNat < (s.rpOf r).lastEnd) then
    s.setRp r { s.rpOf r with stop := true }
  else rpGo r 4 s

/-- Replay data is not available (R321). -/
def rpUnder (r : Nat) (s : State) : State :=
  let s := if s.on (rpB r) R.MDW_RP_CFG_KIND then txUnderrun r s else s
  (s.cnt (rpB r) R.MDW_RP_CNT_UNDER 1).raise 0x42D

/-- A play of the current segment ends: again, the next segment, the list again, or DONE (R317, R318). -/
def rpNext (r : Nat) (s : State) : State :=
  let b := rpB r
  let x := s.rpOf r
  let i := rpSeg r s
  let per := s.rd b R.MDW_RP_PERIOD_PERIOD
  let x := { x with idx := 0, s0 := none, seen := 0, bad := [], tPass := if per == 0 then x.lastEnd else x.tPass + per }
  let loops := s.rd (segB r i) R.MDW_RP_SEG_A_LOOPS
  let seqs := s.rd b R.MDW_RP_CFG_SEQ_LOOPS
  if loops == 0 || decide (x.loops + 1 < loops) then s.setRp r { x with loops := x.loops + 1 }
  else if i < s.rd b R.MDW_RP_CFG_NSEG then (s.setRp r { x with loops := 0 }).wr b R.MDW_RP_STAT_SEG (i + 1)
  else if seqs == 0 || decide (x.seqs + 1 < seqs) then
    (s.setRp r { x with loops := 0, seqs := x.seqs + 1 }).wr b R.MDW_RP_STAT_SEG 0
  else rpGo r 4 (s.setRp r { x with loops := 0, seqs := x.seqs + 1 })

/-- An item of the segment is past; the play may end with it. -/
def rpPast (r n : Nat) (s : State) : State :=
  let x := s.rpOf r
  let s := s.setRp r { x with idx := x.idx + 1 }
  if n ≤ x.idx + 1 then rpNext r s else s

/-- An interval of two stamps of this part is valid (R66). -/
def stampsOk (tq1 seq1 tq2 seq2 : Nat) : Bool := decide (tq1 < 2) && decide (tq2 < 2) && seq1 == seq2

/-- A frame record goes out (R319). -/
def rpFrame (r n : Nat) (f : RepRec) (s : State) : State :=
  let b := rpB r
  let e := r / 16
  let g := (laneGrp r s).getD 0
  let x := s.rpOf r
  let s0 := x.s0.getD (f.t, f.tq, f.seq)
  let timed := s.on b R.MDW_RP_CFG_TIMED
  let ok := stampsOk f.tq f.seq s0.2.1 s0.2.2
  let at_ := if timed && ok then max x.lastEnd (x.tPass + (f.t - s0.1)) else x.lastEnd
  let s := s.advanceTlv at_ s.now
  let s := if timed && !ok then s.cnt b R.MDW_RP_CNT2_UNTIMED 1 else s
  let link := s.rd (grpB e g) R.FE_GRP_CFG_LINK
  let long := frameTicks link f.bytes.length
  let s := if txReplay e g s then
      { pcsFrame e g f.bytes s with txFrame := put [] s.txFrame e f.bytes, feFree := put 0 s.feFree (16 * e + g) (s.now + long) }
    else s
  rpPast r n (s.setRp r { x with s0 := some s0, lastEnd := s.tlv.toNat + long })

/-- The channel of page q of segment i serves it (R445). -/
def rpReady (r i q : Nat) (s : State) : Bool := s.mcUp (plotFrame (s.rd (segB r i) R.MDW_RP_SEG_A_PLOT) q s).1

/-- The pages of a record that the play has not read yet are read, each accounted (R302), with what the reads find in turn;
an uncorrectable one is a bad page (R321). -/
def rpReads (r p : Nat) : List Nat → List PageRes → State → State
  | [], _, s => s
  | q :: qs, res, s =>
    let mf := plotFrame p q s
    let o := pageRead mf.1 mf.2 (res.headD (.bits [])) s
    let x := o.1.rpOf r
    let s := o.1.setRp r { x with seen := q + 1, bad := if o.2 == 2 then q :: x.bad else x.bad }
    rpReads r p qs res.tail (if o.2 == 2 then s.cnt (rpB r) R.MDW_RP_CNT_BADPAGE 1 else s)

/-- A symbol page is played (R320): its first symbol at the instant that START and the symbols before it give. -/
def rpSymbols (r p q n : Nat) (res : PageRes) (s : State) : State :=
  let x := s.rpOf r
  let rate := max 1 (symRate (s.rd (laneB r) R.TX_CTRL_MODE))
  let s := s.advanceTlv (rpStart r s + x.sent * 1250 / rate) s.now
  let mf := plotFrame p q s
  let fill := (plotPage p q s).fill
  let d := pageDeliver mf.1 mf.2 res s
  let s := if d.2.1 == 2 then d.1.cnt (rpB r) R.MDW_RP_CNT_BADPAGE 1 else d.1
  let syms := (d.2.2.take fill).flatMap (fun (y : Byte) => [y.toNat / 4 % 4, y.toNat / 64])
  let s := { s with rpSym := put [] s.rpSym r syms }
  rpPast r n (s.setRp r { s.rpOf r with sent := x.sent + syms.length })

/-- A context sends, or skips, its next frame record or symbol page (R319 to R321); `reads` are what its page reads find.
DEDUCED: a record skipped for a bad page is a skip that SKIPPED counts. -/
def rpSend (r : Nat) (reads : List PageRes) (s : State) : State :=
  let b := rpB r
  let x := s.rpOf r
  if rpState r s != 3 then s
  else if x.stop then rpGo r 4 (s.advanceTlv x.lastEnd s.now)
  else
    let s := if x.inj then rpUnder r (s.setRp r { x with inj := false }) else s
    let x := s.rpOf r
    let i := rpSeg r s
    let p := s.rd (segB r i) R.MDW_RP_SEG_A_PLOT
    if s.on b R.MDW_RP_CFG_KIND then
      let qs := segSoft r i s
      match qs[x.idx]? with
      | none => rpNext r s
      | some q =>
        if !rpReady r i q s then rpUnder r s else
        rpSymbols r p q qs.length (reads.headD (.bits [])) (s.wr b R.MDW_RP_STAT_PAGE q)
    else
      let fs := segRecords r i s
      match fs[x.idx]? with
      | none => rpNext r s
      | some f =>
        if !rpReady r i f.page s then rpUnder r s else
        let qs := (List.range (f.last + 1 - f.page)).map (fun k => f.page + k)
        let s := rpReads r p (qs.filter (fun q => decide (x.seen ≤ q))) reads (s.wr b R.MDW_RP_STAT_PAGE f.page)
        if qs.any (fun q => (s.rpOf r).bad.contains q) || f.cut || (f.err && !s.on b R.MDW_RP_CFG_ERRF) then rpPast r fs.length (s.cnt b R.MDW_RP_CNT_SKIPPED 1)
        else rpFrame r fs.length f s

/-! Host writes (R325, R326). -/

/-- The plot's pages may be written by the host (R325). -/
def hostWritable (p : Nat) (s : State) : Bool :=
  s.on (plB p) R.MDW_PLOT_W0_EN && (plotType p s == 2 || (plotType p s == 1 && (plotState p s == 1 || plotState p s == 3)))

/-- A whole page written by the host (R325). -/
def hostPage (p q first fill : Nat) (data : List Byte) (s : State) : State :=
  let mf := plotFrame p q s
  let pg : Page := ⟨data.take 4096, s.tlv.toNat, s.tq + b2n (s.tq == 2) * 4, s.stepSeq, p, 128, first % 65536, fill,
    pageStrength (s.rd (plB p) R.MDW_PLOT_W0_TSEL)⟩
  pageWrite mf.1 mf.2 pg s

/-- A span merged into a page's data. -/
def mergeBytes (page span : List Byte) (ofs : Nat) : List Byte :=
  page.take ofs ++ span ++ page.drop (ofs + span.length)

/-- A read-modify-write of part of page q (R326): false where it is refused. -/
def rmwWrite (p q ofs : Nat) (span : List Byte) (res : PageRes) (s : State) : State × Bool :=
  let mf := plotFrame p q s
  let old := plotPage p q s
  let r := pageRead mf.1 mf.2 res s
  if r.2 == 2 then (r.1.cnt (mcB mf.1) R.MC_CNT_UNC_RMW_FAIL 1, false)
  else
    let data := mergeBytes old.bytes span ofs
    let fill := if r.2 == 3 then ofs + span.length else max old.fill (ofs + span.length)
    (hostPage p q (if r.2 == 3 then 0xFFFF else old.first) fill data r.1, true)

/-- RMW_WRITE: a span of a plot's page data at a byte offset, within one page. -/
def rmwSpan (p ofs : Nat) (span : List Byte) (res : PageRes) (s : State) : State :=
  let q := ofs / 4096
  if hostWritable p s && decide (q < plotSize p s) && s.mcUp (plotFrame p q s).1 &&
      decide (0 < span.length ∧ span.length < 4096 ∧ ofs % 4096 + span.length ≤ 4096) then
    (rmwWrite p q (ofs % 4096) span res s).1
  else s

/-! Admission (R322 to R324). -/

/-- The demand of a lane, units of 62.5 MB/s: use 0 frames, 1 codewords, 2 soft words or symbols, 3 raw samples (R322). -/
def laneDemand (use mode : Nat) : Nat :=
  ((match use with
    | 0 => [825, 413, 207, 104, 52, 21]
    | 1 => [932, 495, 248, 124, 0, 0]
    | 2 => [1754, 877, 439, 220, 213, 86]
    | _ => [3507, 3507, 1754, 877, 851, 341]) : List Nat).getD mode 0

/-- Shadow fields of plot P. -/
def shOn (p : Nat) (s : State) : Bool := s.rdSh (plB p) R.MDW_PLOT_W0_EN == 1
def shChans (p : Nat) (s : State) : List Nat := maskChans (s.rdSh (plB p) R.MDW_PLOT_W1_CH_MASK)
def shSize (p : Nat) (s : State) : Nat := s.rdSh (plB p) R.MDW_PLOT_W2_FRAMES * (shChans p s).length

/-- Source lanes of a capture plot: those of its groups, or its lanes (R308, R323). -/
def srcLanes (p : Nat) (s : State) : List Nat :=
  let e := s.rdSh (plB p) R.MDW_PLOT_W0_SRC
  let bits := (List.range 16).filter (fun i => s.rdSh (plB p) R.MDW_PLOT_W3_SRC_MASK / 2 ^ i % 2 == 1)
  if s.rdSh (plB p) R.MDW_PLOT_W0_CMODE ≤ 1 then
    (bits.filter (fun g => s.on (grpB e g) R.FE_GRP_CFG_EN)).flatMap (fun g => grpLanes e g s)
  else bits.map (fun i => 16 * e + i)

/-- The sum of a list. -/
def total (l : List Nat) : Nat := l.foldl (· + ·) 0

/-- D(P) (R322, R323). -/
def plotDemand (p : Nat) (s : State) : Nat :=
  match s.rdSh (plB p) R.MDW_PLOT_W0_TYPE with
  | 1 => total ((srcLanes p s).map (fun n => laneDemand (s.rdSh (plB p) R.MDW_PLOT_W0_CMODE) (s.rxMode n)))
  | 3 => s.rdSh (plB p) R.MDW_PLOT_W4_RATE
  | 4 => 2 * s.rdSh (plB p) R.MDW_PLOT_W4_RATE
  | _ => 0

/-- The enabled group whose lowest lane is r. -/
def lowGroup (r : Nat) (s : State) : Option Nat :=
  (List.range 16).find? (fun g => s.on (grpB (r / 16) g) R.FE_GRP_CFG_EN &&
    16 * (r / 16) + s.rd (grpB (r / 16) g) R.FE_GRP_CFG_FIRST == r)

/-- D(r) (R322, R323). -/
def rpDemand (r : Nat) (s : State) : Nat :=
  if s.rdSh (rpB r) R.MDW_RP_CFG_KIND == 1 then laneDemand 2 (s.rd (laneB r) R.TX_CTRL_MODE)
  else match lowGroup r s with
    | some g => total ((grpLanes (r / 16) g s).map (fun n => laneDemand 0 (s.rd (laneB n) R.TX_CTRL_MODE)))
    | none => 0

/-- Enabled plots and contexts in the shadows. -/
def shPlots (s : State) : List Nat := (List.range 256).filter (fun p => shOn p s)
def shRps (s : State) : List Nat := (List.range 64).filter (fun r => s.rdSh (rpB r) R.MDW_RP_CFG_EN == 1)

/-- Shadow segments of a context: plot, FIRST, PAGES. -/
def shSegs (r : Nat) (s : State) : List (Nat × Nat × Nat) :=
  (List.range (s.rdSh (rpB r) R.MDW_RP_CFG_NSEG + 1)).map (fun i =>
    (s.rdSh (segB r i) R.MDW_RP_SEG_A_PLOT, s.rdSh (segB r i) R.MDW_RP_SEG_B_FIRST, s.rdSh (segB r i) R.MDW_RP_SEG_C_PAGES))

/-- a over b, rounded up. -/
def ceilDiv' (a b : Nat) : Nat := (a + b - 1) / b

/-- L_m (R323). -/
def chanLoad (m : Nat) (s : State) : Nat :=
  let ps := (shPlots s).map (fun p =>
    if (shChans p s).contains m then ceilDiv' (plotDemand p s) (shChans p s).length else 0)
  let rs := (shRps s).map (fun r => ((shSegs r s).map (fun g =>
    if (shChans g.1 s).contains m then ceilDiv' (rpDemand r s) (shChans g.1 s).length else 0)).foldl max 0)
  total ps + total rs

/-- The DELAY terms of an engine. -/
def delayLoad (e : Nat) (s : State) : Nat :=
  total ((shPlots s).map (fun p =>
    if s.rdSh (plB p) R.MDW_PLOT_W0_TYPE == 4 && s.rdSh (plB p) R.MDW_PLOT_W0_SRC == e then
      s.rdSh (plB p) R.MDW_PLOT_W4_RATE else 0))

/-- The capture load of an engine (R323). -/
def capLoad (e : Nat) (s : State) : Nat :=
  total ((shPlots s).map (fun p =>
    let ty := s.rdSh (plB p) R.MDW_PLOT_W0_TYPE
    if s.rdSh (plB p) R.MDW_PLOT_W0_SRC == e && (ty == 3 || (ty == 1 && s.rdSh (plB p) R.MDW_PLOT_W0_CMODE != 3)) then
      plotDemand p s else 0)) + delayLoad e s

/-- The replay load of an engine (R323). -/
def repLoad (e : Nat) (s : State) : Nat :=
  total ((shRps s).map (fun r => if r / 16 == e then rpDemand r s else 0)) + delayLoad e s

/-- Raw lanes of enabled plots on a die: a lane that two plots name is one lane (R29, R335). -/
def rawLanes (d : Nat) (s : State) : Nat :=
  (((shPlots s).flatMap (fun p =>
    if s.rdSh (plB p) R.MDW_PLOT_W0_TYPE == 1 && s.rdSh (plB p) R.MDW_PLOT_W0_CMODE == 3 &&
      s.rdSh (plB p) R.MDW_PLOT_W0_SRC == d then srcLanes p s else [])).eraseDups).length

/-- Frames per stack (R296). -/
def framesPerStack (s : State) : Nat := if s.rd glbB R.GLB_CONFIG_MEM_SIZE == 9 then 9151208 else 6100805

/-- Two plots share a frame of a channel (R335). -/
def plotsMeet (p q : Nat) (s : State) : Bool :=
  let a := s.rdSh (plB p) R.MDW_PLOT_W1_BASE
  let b := s.rdSh (plB q) R.MDW_PLOT_W1_BASE
  Nat.land (s.rdSh (plB p) R.MDW_PLOT_W1_CH_MASK) (s.rdSh (plB q) R.MDW_PLOT_W1_CH_MASK) != 0 &&
    decide (a < b + s.rdSh (plB q) R.MDW_PLOT_W2_FRAMES) && decide (b < a + s.rdSh (plB p) R.MDW_PLOT_W2_FRAMES)

/-- Fields that change only on a plot that is off (R335). -/
def plotFixed (p : Nat) (s : State) : Bool :=
  !s.on (plB p) R.MDW_PLOT_W0_EN || [R.MDW_PLOT_W0_TYPE, R.MDW_PLOT_W0_CMODE, R.MDW_PLOT_W0_TSEL, R.MDW_PLOT_W1_BASE,
    R.MDW_PLOT_W2_FRAMES, R.MDW_PLOT_W1_CH_MASK].all (fun f => s.rd (plB p) f == s.rdSh (plB p) f)

/-- The segments of an enabled context obey R317 (R335). -/
def rpRule (r : Nat) (s : State) : Bool :=
  let kind := s.rdSh (rpB r) R.MDW_RP_CFG_KIND
  (shSegs r s).all (fun g =>
    let ty := s.rdSh (plB g.1) R.MDW_PLOT_W0_TYPE
    let cm := s.rdSh (plB g.1) R.MDW_PLOT_W0_CMODE
    shOn g.1 s && decide (g.2.1 + g.2.2 ≤ shSize g.1 s) && plotState g.1 s != 2 &&
      (ty == 2 || (ty == 1 && cm == (if kind == 1 then 2 else 0)))) && (kind == 1 || (lowGroup r s).isSome)

/-- The lowest failing cause of R335, 0 where every rule holds. -/
def mdwRules (s : State) : Nat :=
  let ps := shPlots s
  let sh (p : Nat) (f : Fld) : Nat := s.rdSh (plB p) f
  let c1 := (List.range 256).all (fun p => decide (sh p R.MDW_PLOT_W0_TYPE ≤ 4) && sh p R.MDW_PLOT_W0_TSEL != 7 &&
      (decide (sh p R.MDW_PLOT_W0_TYPE < 3) || sh p R.MDW_PLOT_W4_RATE != 0)) &&
    (List.range 64).all (fun t => decide (s.rdSh (trB t) R.MDW_TRIG_CFG0_KIND ≤ 4) &&
      s.rdSh (trB t) R.MDW_TRIG_CFG0_ACTION != 3)
  let c2 := ps.all (fun p => sh p R.MDW_PLOT_W2_FRAMES != 0 &&
    decide (sh p R.MDW_PLOT_W1_BASE + sh p R.MDW_PLOT_W2_FRAMES ≤ framesPerStack s) && sh p R.MDW_PLOT_W1_CH_MASK != 0 &&
    Nat.land (sh p R.MDW_PLOT_W1_CH_MASK) (s.rd glbB R.GLB_CONFIG_MS_OK) == sh p R.MDW_PLOT_W1_CH_MASK)
  let c3 := ps.all (fun p => ps.all (fun q => p == q || !plotsMeet p q s))
  let c4 := (List.range 256).all (fun p => plotFixed p s)
  let c5 := !s.injAdmit && (List.range 6).all (fun m => decide (chanLoad m s ≤ s.rd mdwB R.MDW_ADM_ADM_LIMIT))
  let c6 := (List.range 4).all (fun e => decide (capLoad e s ≤ 14025 ∧ repLoad e s ≤ 14025))
  let raw := (List.range 4).map (fun d => rawLanes d s)
  let c7 := decide (total raw ≤ 8) && raw.all (fun n => decide (n ≤ 4))
  let c8 := (shRps s).all (fun r => rpRule r s)
  let c9 := ps.all (fun p => sh p R.MDW_PLOT_W0_TYPE != 1 || sh p R.MDW_PLOT_W0_CMODE != 1 || (List.range 16).all (fun g =>
    sh p R.MDW_PLOT_W3_SRC_MASK / 2 ^ g % 2 == 0 ||
      (s.on (grpB (sh p R.MDW_PLOT_W0_SRC) g) R.FE_GRP_CFG_EN &&
        decide (2 ≤ s.rd (grpB (sh p R.MDW_PLOT_W0_SRC) g) R.FE_GRP_CFG_LINK))))
  let cA := (List.range 64).all (fun t => s.rdSh (trB t) R.MDW_TRIG_CFG0_EN == 0 ||
    (let p := s.rdSh (trB t) R.MDW_TRIG_CFG0_PLOT
     shOn p s && decide (s.rdSh (trB t) R.MDW_TRIG_CFG2_PRE + s.rdSh (trB t) R.MDW_TRIG_CFG1_POST + 1 ≤ shSize p s)))
  (([c1, c2, c3, c4, c5, c6, c7, c8, c9, cA].zipIdx.find? (fun x => !x.1)).map (fun x => x.2 + 1)).getD 0

/-- The unit and load that an admission rejection records (R335). -/
def admUnit (cause : Nat) (s : State) : Nat × Nat :=
  if cause == 5 then
    let m := ((List.range 6).find? (fun m => decide (s.rd mdwB R.MDW_ADM_ADM_LIMIT < chanLoad m s))).getD 0
    (m, chanLoad m s)
  else if cause == 6 then
    let e := ((List.range 4).find? (fun e => decide (14025 < capLoad e s) || decide (14025 < repLoad e s))).getD 0
    (e, if 14025 < capLoad e s then capLoad e s else repLoad e s)
  else
    match (List.range 4).find? (fun d => decide (4 < rawLanes d s)) with
    | some d => (d, rawLanes d s)
    | none => (((List.range 4).find? (fun d => decide (0 < rawLanes d s))).getD 0,
        total ((List.range 4).map (fun d => rawLanes d s)))

/-- An admission rejection is recorded (R335). -/
def admReject (cause : Nat) (s : State) : State :=
  let u := admUnit cause s
  let s := if cause == 5 then { s with injAdmit := false } else s
  let s := ((s.wr mdwB R.MDW_ADM_REJECT_VALID 1).wr mdwB R.MDW_ADM_REJECT_CAUSE cause).wr mdwB R.MDW_ADM_REJECT_UNIT u.1
  (s.wr mdwB R.MDW_ADM_REJECT_LOAD (min u.2 65535)).raise 0x42A

/-- Keys of the MDW group: plots, triggers and replay contexts. -/
def mdwKey (k : Nat) : Bool := keyIn (objKey 1 0) (3 * 2 ^ 44) k

/-- The loads of a passed commit (R323). -/
def admLoads (s : State) : State :=
  let v := (List.range 6).map (fun m => chanLoad m s)
  let c := (List.range 4).map (fun e => (capLoad e s, repLoad e s))
  let s := (List.range 6).foldl (fun t m => t.wr (mdwB + 4 * m) R.MDW_ADM_CH_LOAD (v.getD m 0)) s
  (List.range 4).foldl (fun t e => (t.wr (mdwB + 4 * e) R.MDW_ADM_FE_CAPTURE (c.getD e (0, 0)).1).wr (mdwB + 4 * e)
    R.MDW_ADM_FE_REPLAY (c.getD e (0, 0)).2) s

/-- A plot follows a commit of its EN (R306). -/
def plotCommit (was : Bool) (p : Nat) (s : State) : State :=
  let on := s.on (plB p) R.MDW_PLOT_W0_EN
  if on && !was then
    (((s.wr (plB p) R.MDW_PLOT_STAT_STATE 1).wr (plB p) R.MDW_PLOT_STAT_WPTR 0).wr (plB p) R.MDW_PLOT_STAT_WRAPPED 0).setPlot p
      PlotSt.idle
  else if was && !on then (s.wr (plB p) R.MDW_PLOT_STAT_STATE 0).setPlot p PlotSt.idle
  else s

/-- A trigger follows a commit of its EN (R315). -/
def trigCommit (was : Bool) (t : Nat) (s : State) : State :=
  let on := s.on (trB t) R.MDW_TRIG_CFG0_EN
  if !on then
    (if was then { s.wr (trB t) R.MDW_TRIG_STAT_STATE 0 with trigPost := eraseKey s.trigPost t } else s)
  else
    let s := if s.rd (trB t) R.MDW_TRIG_STAT_STATE == 0 then s.wr (trB t) R.MDW_TRIG_STAT_STATE 1 else s
    trigArm (s.rd (trB t) R.MDW_TRIG_CFG0_PLOT) s

/-- A replay context follows a commit of its EN (R318). -/
def rpCommit (was : Bool) (r : Nat) (s : State) : State :=
  let on := s.on (rpB r) R.MDW_RP_CFG_EN
  if on && !was then ((rpGo r 1 s).wr (rpB r) R.MDW_RP_STAT_LATE 0).setRp r RpSt.idle
  else if was && !on then (rpGo r 0 s).setRp r RpSt.idle
  else s

/-- A passed MDW commit: buffered pages of plots that go off, the copy, the loads, written bits, and the states (R303, R306,
R307, R315, R318, R323). -/
def mdwCopy (s : State) : State :=
  let wasP := (List.range 256).filter (fun p => s.on (plB p) R.MDW_PLOT_W0_EN)
  let wasT := (List.range 64).filter (fun t => s.on (trB t) R.MDW_TRIG_CFG0_EN)
  let wasR := (List.range 64).filter (fun r => s.on (rpB r) R.MDW_RP_CFG_EN)
  let s := wasP.foldl (fun s p => if !shOn p s && plotState p s == 2 then trigShort p (plotFreeze p 0 s) else s) s
  let s := admLoads s
  let s := copyGroup mdwKey s
  let on := (List.range 256).filter (fun p => s.on (plB p) R.MDW_PLOT_W0_EN)
  let s := { s with pages := dropKeys (fun k => !on.any (fun p => inPlot p k s)) s.pages }
  let s := (List.range 256).foldl (fun s p => plotCommit (wasP.contains p) p s) s
  let s := (List.range 64).foldl (fun s t => trigCommit (wasT.contains t) t s) s
  (List.range 64).foldl (fun s r => rpCommit (wasR.contains r) r s) s

end Sys2Proof.Machine
end

