-- ==== Sys2Proof/Machine/HazeOps.lean ====
section
/-! DEFINITION. Haze impairment (12): the cut-through path (R340 to R342), burst errors (R343), banks (R345), noise windows
(R347), frame-level impairment (R350 to R353) with the frame engine's start of frames (R266), and the commit groups
(R349, R354). -/

namespace Sys2Proof.Machine

/-! The cut-through path. -/

/-- The path latency of lane n with fill f, in ticks (R342). -/
def hazeLat (n f : Nat) (s : State) : Nat :=
  let m := s.rd (laneB n) R.TX_SRC_HAZE_LANE
  let mode := s.rd (laneB n) R.TX_CTRL_MODE
  let r := symRate mode
  let c := rxLatency (s.rxMode m) + eqLatency m s + 6 + txLatency mode + cclkOf mode (txCursor n s) + 6
  if r == 0 then 0 else (2 * (c * 250 * s.coreM * r + (f + 4) * 1250 * s.coreN) + s.coreN * r) / (2 * s.coreN * r)

/-- A hold cause appears (R340). -/
def hazeHold (n : Nat) (s : State) : State :=
  if s.rd (laneB n) R.HAZE_STATUS_STATE == 0 || holdCause n s == 0 then s else hazeEval n s

/-- PRIME is entered (R340): the hold has ended; or in PASS the buffer, once `words` have been stored and `sent` symbols
sent, is empty or full. -/
def hazePrime (n : Nat) (words : List (BitVec 2)) (sent : Nat) (s : State) : State :=
  let st := s.rd (laneB n) R.HAZE_STATUS_STATE
  if st == 3 then
    let x := s.hazeOf n
    let all := x.buf ++ words
    let buf := all.drop sent
    if buf.isEmpty || decide (4096 ≤ buf.length) then hazeGo n 2 [] s
    else hazeBuf n buf (s.setHaze n { x with lastOut := (all.take sent).getLastD x.lastOut })
  else if st ≤ 1 then
    hazeEval n (if st == 1 && holdCause n s == 4 then s.advanceNow (s.hazeOf n).injUntil else s)
  else s

/-- F reaches DEPTH (R340): `words` are the symbols that the source lane's decision stage has offered since the entry to
PRIME (R339). -/
def hazeFilled (n : Nat) (words : List (BitVec 2)) (s : State) : State :=
  let b := laneB n
  let d := s.rd b R.HAZE_BUF_DEPTH
  if s.rd b R.HAZE_STATUS_STATE != 2 || words.length < d then s
  else
    let s := hazeGo n 3 (words.take d) s
    s.wr b R.HAZE_LAT_LAT (min (hazeLat n d s) 0xFFFF)

/-- The CCLK comparison of F with DEPTH (R341), after `words` have been stored and `sent` symbols sent: the oldest symbol is
dropped, or the last one sent again, no sooner than 64 symbols after another slip. -/
def hazeSlip (n : Nat) (words : List (BitVec 2)) (sent : Nat) (s : State) : State :=
  let b := laneB n
  if s.rd b R.HAZE_STATUS_STATE != 3 then s
  else
    let x := s.hazeOf n
    let all := x.buf ++ words
    let last := if sent == 0 then x.lastOut else all.getD (sent - 1) x.lastOut
    let buf := all.drop sent
    let d := s.rd b R.HAZE_BUF_DEPTH
    let w := s.rd b R.HAZE_BUF_SLIP_WIN
    let s := s.setHaze n { x with lastOut := last }
    if buf.length ≤ d + w ∧ d ≤ buf.length + w then hazeBuf n buf s
    else
      let s := s.advanceNow x.slipAt
      let rate := max 1 (symRate (s.rd b R.TX_CTRL_MODE))
      let buf := if d + w < buf.length then buf.drop 1 else last :: buf
      let s := hazeBuf n buf (s.setHaze n { s.hazeOf n with slipAt := s.now + (64 * 1250 + rate - 1) / rate })
      txAlarm n 5 ((s.wr b R.HAZE_LAT_LAT (min (hazeLat n buf.length s) 0xFFFF)).cnt b R.HAZE_CNT_SLIP_SLIPS 1)

/-- INJ_HOLD (R340, R355): 64 cycles of CCLK. -/
def hazeInjHold (n : Nat) (s : State) : State :=
  hazeEval n (s.setHaze n { s.hazeOf n with injUntil := s.now + s.cclkUp 64 })

/-! Burst symbol errors. -/

/-- Draw k of a generator of a lane (R348): 0 errors, 1 jitter, 2 noise. -/
def hazeDraw (n gen k : Nat) (s : State) : Nat :=
  (Config.prng (BitVec.ofNat 32 (s.rd (laneB n) R.HAZE_SEED_SEED)) ((n * 4 + gen) * 2 ^ 64 + k)).toNat

/-- A burst of errors on lane n's decision stage over BLEN symbols (R343); `words` are as many of them as are stated. -/
def hazeBurst (n : Nat) (words : List (BitVec 2)) (s : State) : State :=
  let b := laneB n
  let len := max 1 (s.rd b R.HAZE_ERR_BLEN)
  let x := s.hazeOf n
  let dens := s.rd b R.HAZE_ERR_DENS
  let u (k : Nat) : Nat := hazeDraw n 0 (x.errIdx + k) s
  let out := hazeBurstOut (s.rd b R.HAZE_ERR_ERR_KIND) (modeFamily (s.rxMode n) == some 1) dens
    ((words.take len).zipIdx.map (fun w => (w.1, u w.2 % 16, u w.2 / 16)))
  (s.setHaze n { x with errIdx := x.errIdx + len, errOut := out }).cnt b R.HAZE_CNT_ERR_ERR
    ((List.range len).countP (fun k => decide (u k % 16 ≤ dens)))

/-- Soft words pass the decision stage of lane n. -/
def hazeFlows (n : Nat) (s : State) : Bool := s.rxState n == 6 || s.rxState n == 7

/-- A burst starts by ERR_MODE 2 or 3 (R343): in mode 2 at the next of the instants 2^EXP symbols apart, counted from the
commit that set the mode; in mode 3 where the generator starts one. EXP is held within 4 to 40. -/
def hazeBurstStart (n : Nat) (words : List (BitVec 2)) (s : State) : State :=
  let m := s.rd (laneB n) R.HAZE_ERR_ERR_MODE
  let rate := max 1 (symRate (s.rxMode n))
  if !hazeFlows n s || m ≤ 1 then s
  else if m == 2 then
    let per := 2 ^ max 4 (min 40 (s.rd (laneB n) R.HAZE_ERR_EXP)) * 1250
    let x := s.hazeOf n
    let k := max (x.errN + 1) ((s.now - x.errFrom) * rate / per)
    let s := s.advanceNow (x.errFrom + (k * per + rate - 1) / rate)
    hazeBurst n words (s.setHaze n { s.hazeOf n with errN := k })
  else hazeBurst n words s

/-! Waveform stage. -/

/-- A symbol's delay is clamped (R346). -/
def hazeClamped (n : Nat) (s : State) : State :=
  if s.on (laneB n) R.HAZE_CTRL_JIT_EN && s.laneUp n then
    ((s.cnt (laneB n) R.HAZE_CNT_JCLAMP 1).wr (laneB n) R.HAZE_EVT_JCLAMP 1).raise (evLane n 10)
  else s

/-- The key of an ISI tap (R345). -/
def hazeTap (n bank i : Nat) : Nat := (Obj.hazeCoef n bank i).base + 0x6028

/-- AUTO_INC of HAZE.COEF_SEL. -/
def hazeAutoInc (n : Nat) (s : State) : State :=
  let b := laneB n
  if s.on b R.HAZE_COEF_SEL_AUTO_INC then s.wr b R.HAZE_COEF_SEL_INDEX (s.rd b R.HAZE_COEF_SEL_INDEX + 1) else s

/-- A refused bank write (R345). -/
def hazeRefuse (n : Nat) (s : State) : State :=
  ((s.cnt (laneB n) R.HAZE_CNT_REFUSED 1).wr (laneB n) R.HAZE_EVT_REFUSED 1).raise (evLane n 10)

/-- A write of HAZE.COEF_DATA (R345). DESIGN CHOICE: a refused one has no effect (R109), so that AUTO_INC does not move
INDEX either. -/
def hazeCoefWrite (n : Nat) (w : Word) (s : State) : State :=
  let b := laneB n
  let bank := s.rd b R.HAZE_COEF_SEL_BANK
  let i := s.rd b R.HAZE_COEF_SEL_INDEX
  if bank == s.rd b R.HAZE_CTRL_ACT_BANK || (s.on b R.HAZE_STATUS_XF_BUSY && bank == (s.hazeOf n).outBank) then
    hazeRefuse n s
  else hazeAutoInc n ((coefNote (hazeTap n bank i) s).setReg (hazeTap n bank i) (w &&& 0x3FF))

/-- The ISI cross-fade ends (R345). -/
def hazeFadeEnd (n : Nat) (s : State) : State := s.wr (laneB n) R.HAZE_STATUS_XF_BUSY 0

/-! The HAZE commit group. -/

/-- A bank's 32 taps, 2^-8 (R345). -/
def hazeTaps (n bank : Nat) (s : State) : List Int :=
  (List.range 32).map (fun i => sext 10 (s.getReg (hazeTap n bank i)).toNat)

/-- Sum of the magnitudes of a bank's taps. -/
def hazeTapSum (n bank : Nat) (s : State) : Nat := ((hazeTaps n bank s).map Int.natAbs).sum

/-- The keys of a bank of lane n's ISI filter. -/
def hazeBankKey (n bank : Nat) : Nat → Bool := keyIn (Obj.hazeCoef n bank 0).base (32 * 2 ^ 20)

/-- The lowest failing cause of R349, 0 where every rule holds. -/
def hazeRules (n : Nat) (s : State) : Nat :=
  let b := laneB n
  let bank := s.rdSh b R.HAZE_CTRL_ACT_BANK
  let amp := s.rdSh b R.HAZE_SJ_SJ_AMP
  let freq := s.rdSh b R.HAZE_SJ_FREQ_FREQ
  let d := s.rdSh b R.HAZE_BUF_DEPTH
  let w := s.rdSh b R.HAZE_BUF_SLIP_WIN
  if s.rdSh b R.HAZE_ERR_ERR_KIND == 3 then 1
  else if 512 < hazeTapSum n bank s then 2
  else if 1024 < amp ∨ 64 < s.rdSh b R.HAZE_SJ_RJ_RMS ∨ 10000000 < freq ∨
      8000000 * symRate (s.rd b R.TX_CTRL_MODE) < amp * freq then 3
  else if bank != s.rd b R.HAZE_CTRL_ACT_BANK && s.on b R.HAZE_STATUS_XF_BUSY then 4
  else if d < 64 ∨ d ≤ w ∨ 4032 < d + w then 5
  else 0

/-- The staged fields of the HAZE group that a commit looks back at. -/
structure HazeWas where
  bank : Nat
  depth : Nat
  arm : Nat
  mode : Nat
  seed : Nat

/-- The fields now. -/
def hazeWas (n : Nat) (s : State) : HazeWas :=
  let b := laneB n
  ⟨s.rd b R.HAZE_CTRL_ACT_BANK, s.rd b R.HAZE_BUF_DEPTH, s.rd b R.HAZE_ERR_ERR_ARM, s.rd b R.HAZE_ERR_ERR_MODE,
    s.rd b R.HAZE_SEED_SEED⟩

/-- What a commit of the HAZE group does beside the copy (R340, R343, R345, R348). A changed SEED restarts all three
generators; a burst that starts at the commit symbol meets symbols that no command has stated. -/
def hazeCommitted (n : Nat) (old : HazeWas) (s : State) : State :=
  let b := laneB n
  let new := hazeWas n s
  let s := if new.seed == old.seed then s else s.setHaze n { s.hazeOf n with errIdx := 0, jitIdx := 0, noiseIdx := 0 }
  let s := if new.mode == old.mode then s else s.setHaze n { s.hazeOf n with errFrom := s.now, errN := 0 }
  let s := if new.bank == old.bank then s
    else
      let s := coefUndo (hazeBankKey n new.bank) (hazeRefuse n) s
      (s.wr b R.HAZE_STATUS_XF_BUSY 1).setHaze n { s.hazeOf n with outBank := old.bank, fadeAt := 0 }
  let s := s.wr b R.HAZE_STATUS_BANK_ACT new.bank
  let s := if new.depth != old.depth && s.rd b R.HAZE_STATUS_STATE == 3 then hazeGo n 2 [] s else s
  if new.arm != old.arm && new.mode == 1 && hazeFlows n s then hazeBurst n [] s else s

/-! Frame-level impairment. -/

/-- EV_FE_HAZE (R355). -/
def hzEvent (e : Nat) (s : State) : State := s.raise (evFe e 8)

/-- Base for the fields of rule f. -/
def hzB (e f : Nat) : Nat := (Obj.hzRule e f).base

/-- A counter of a rule: 0 DROPPED, 1 DUPLICATED, 2 REORDERED, 3 CORRUPTED. -/
def hzCount (e f k : Nat) (s : State) : State := s.cnt (hzB e f + 4 * k) R.FE_HZ_C_COUNT 1

/-- An action of probability code p takes place on the rule's frame k (R351): a draw, or every p-th frame. -/
def hzActs (e f p k : Nat) (s : State) : State × Bool :=
  if s.on (hzB e f) R.FE_HZ_W0_PERIODIC then (s, p != 0 && k % p == 0)
  else (s.drawn, decide (s.draw % 4096 < p))

/-- Bit 0 of byte i inverted. -/
def flipByte (i : Nat) (bs : List Byte) : List Byte := bs.modify i (fun b => b ^^^ 1)

/-- The corruption of a frame (R352). -/
def corruptFrame (kind ofs : Nat) (bs : List Byte) : List Byte :=
  let n := bs.length - 4
  let badFcs (l : List Byte) : List Byte := l.take (l.length - 4) ++ (l.drop (l.length - 4)).map (fun b => ~~~b)
  if n ≤ ofs then badFcs bs
  else match kind with
    | 0 => flipByte ofs bs
    | 1 => withFcs (flipByte ofs (bs.take n))
    | 2 => badFcs bs
    | _ => badFcs (withFcs (bs.take ofs))

/-- The bytes that a path's queue holds (R350). -/
def hzBytes (fs : List HzFrame) : Nat := fs.foldl (fun n f => n + f.bytes.length * f.copies) 0

/-- A released frame joins its group's queue, or finds the path's 256 KiB full (R350). -/
def hzQueue (f : HzFrame) (s : State) : State :=
  let used := hzBytes (s.hzQ.filter (fun q => q.eng == f.eng && q.path == f.path))
  if f.path != 16 && decide (2 ^ 18 < used + f.bytes.length * f.copies) then
    hzEvent f.eng (s.cnt (feB f.eng) R.FE_HZ_STAT_FWD_LOST 1)
  else { s with hzQ := s.hzQ ++ [f] }

/-- Bytes of a delay plot in flight, and its capacity (R353). -/
def dlyUsed (p : Nat) (s : State) : Nat :=
  (s.hzDly.filter (fun d => d.2 == p)).foldl (fun n d => n + (16 + (pad4 d.1.bytes).length) * d.1.copies) 0

/-- A frame enters its delay plot (R353). -/
def hzDelay (f : HzFrame) (s : State) : State :=
  let p := s.rd (hzB f.eng f.rule) R.FE_HZ_W2_DLY_PLOT
  if plotSize p s * 4096 < dlyUsed p s + (16 + (pad4 f.bytes).length) * f.copies then
    hzEvent f.eng ((s.cnt (feB f.eng) R.FE_HZ_STAT_DLY_LOST 1).cnt (plB p) R.MDW_PLOT_LOST_LOST 1)
  else { s with hzDly := s.hzDly ++ [(f, p)] }

/-- A frame held for reorder goes on: into the delay plot, or out. -/
def hzUnheld (h : HzHeld) (s : State) : State :=
  if h.delayed then hzDelay h.f s else hzQueue { h.f with t := s.tlv.toNat } s

/-- A later frame of the rule is released: those held for it count down (R351). -/
def hzReleased (e f : Nat) (s : State) : State :=
  let mine (h : HzHeld) : Bool := h.f.eng == e && h.f.rule == f
  let held := s.hzHeld.map (fun h => if mine h then { h with left := h.left - 1 } else h)
  let out := held.filter (fun h => mine h && h.left == 0)
  out.foldl (fun s h => hzUnheld h s) { s with hzHeld := held.filter (fun h => !(mine h && h.left == 0)) }

/-- A frame is released to its group (R350, R351). -/
def hzRelease (f : HzFrame) (s : State) : State :=
  hzReleased f.eng f.rule (hzQueue f s)

/-- The actions of a rule on a frame (R351): dropped, or the frame with corruption and copies, and reorder. -/
def hzDraws (e f : Nat) (x : HzFrame) (s : State) : State × Option (HzFrame × Bool) :=
  let b := hzB e f
  let key := 2048 * e + f
  let k := look 0 s.hzCnt key + 1
  let s := { s with hzCnt := put 0 s.hzCnt key k }
  let d := hzActs e f (s.rd b R.FE_HZ_W0_P_DROP) k s
  if d.2 then (hzCount e f 0 d.1, none)
  else
    let c := hzActs e f (s.rd b R.FE_HZ_W1_P_CORR) k d.1
    let s := if c.2 then hzCount e f 3 c.1 else c.1
    let x := if c.2 then { x with corr := some (s.rd b R.FE_HZ_W1_CORR_KIND, s.rd b R.FE_HZ_W3_CORR_OFS) } else x
    let u := hzActs e f (s.rd b R.FE_HZ_W0_P_DUP) k s
    let s := if u.2 then hzCount e f 1 u.1 else u.1
    let x := if u.2 then { x with copies := 2 } else x
    let r := hzActs e f (s.rd b R.FE_HZ_W1_P_REORD) k s
    (if r.2 then hzCount e f 2 r.1 else r.1, some (x, r.2))

/-- A frame is held for reorder, 100 µs at most (R351). -/
def hzHold (x : HzFrame) (delayed : Bool) (s : State) : State :=
  { s with hzHeld := s.hzHeld ++
      [⟨x, max 1 (s.rd (hzB x.eng x.rule) R.FE_HZ_W1_REORD_DEPTH), s.tlv.toNat + 3906250, delayed⟩] }

/-- The release instant of a forwarded frame that its rule delays (R351, R353), and whether it is late. -/
def hzInstant (e f rxT : Nat) (s : State) : State × Nat × Bool :=
  let b := hzB e f
  let dvar := s.rd b R.FE_HZ_W3_DVAR
  let u := if dvar == 0 then 0 else s.draw % (dvar + 1)
  let t := rxT + 250 * (s.rd b R.FE_HZ_W2_DELAY + u)
  let least := s.tlv.toNat + 156250
  (if dvar == 0 then s else s.drawn, max t least, decide (t < least))

/-- A forwarded frame meets its rule (R351). -/
def hzForward (e f : Nat) (x : HzFrame) (s : State) : State :=
  let b := hzB e f
  let go (x : HzFrame) : HzFrame := { x with t := s.tlv.toNat }
  if f == 2048 || !s.on b R.FE_HZ_W0_EN then hzQueue (go x) s
  else
    let r := hzDraws e f x s
    match r.2 with
    | none => r.1
    | some (x, reorder) =>
      let delays := s.rd b R.FE_HZ_W2_DELAY != 0 || s.rd b R.FE_HZ_W3_DVAR != 0
      if delays then
        let i := hzInstant e f x.t r.1
        let s := if i.2.2 then hzEvent e (i.1.cnt (feB e) R.FE_HZ_STAT_LATE 1) else i.1
        let x := { x with t := i.2.1 }
        if reorder then hzHold x true s else hzDelay x s
      else if reorder then hzHold (go x) false r.1
      else hzRelease (go x) r.1

/-- A received frame, stamped t, is forwarded (R350). -/
def hzTake (e g t : Nat) (err : Bool) (bytes : List Byte) (flow : Option Nat) (s : State) : State :=
  let b := grpB e g
  if !s.on b R.FE_HZ_FWD_EN then s
  else if err && !s.on b R.FE_HZ_FWD_ERRF then s
  else if look 0 s.hzInj e == 1 then
    hzEvent e (({ s with hzInj := eraseKey s.hzInj e }).cnt (feB e) R.FE_HZ_STAT_FWD_LOST 1)
  else
    let f := flow.getD 2048
    hzForward e f ⟨e, g, f, s.rd b R.FE_HZ_FWD_TG, s.rd b R.FE_HZ_FWD_PRIO, t, bytes, true, none, none, false, 1,
      false⟩ s

/-- The delayed frame of an engine with the earliest release instant. -/
def dlyFirst (e : Nat) (s : State) : Option (HzFrame × Nat) :=
  (s.hzDly.filter (fun d => d.1.eng == e)).foldl (fun b d => match b with
    | none => some d
    | some c => if d.1.t < c.1.t then some d else b) none

/-- A delayed frame's release instant arrives (R353). -/
def hzDue (e : Nat) (s : State) : State :=
  match dlyFirst e s with
  | none => s
  | some d =>
    if !s.feUp e || !s.counting then s
    else hzRelease d.1 { s.advanceTlv d.1.t s.now with hzDly := s.hzDly.erase d }

/-- The oldest frame held for reorder of an engine has waited 100 µs (R351). -/
def hzTimeout (e : Nat) (s : State) : State :=
  match s.hzHeld.find? (fun h => h.f.eng == e) with
  | none => s
  | some h =>
    if !s.feUp e || !s.counting then s
    else hzUnheld h { s.advanceTlv h.until_ s.now with hzHeld := s.hzHeld.erase h }

/-- HZ_CMD.CLEAR (R356). -/
def hzClear (e : Nat) (s : State) : State :=
  let f := s.rd (feB e) R.FE_HZ_SEL_INDEX
  (List.range 4).foldl (fun s k => s.wr (hzB e f + 4 * k) R.FE_HZ_C_COUNT 0) s

/-! The frame engine. -/

/-- A received frame of an ALIGNED group (R208, R249): cut at 16,383 bytes, then measurement (R249 to R258), capture (R308)
and forwarding (R350). -/
def feReceive (e g : Nat) (err : Bool) (bytes : List Byte) (s : State) : State :=
  if !s.feUp e || s.rd (grpB e g) R.FE_GRP_STAT_STATE != 2 then s
  else
    let t := feStamp e g s
    let bad := errFrame err bytes
    let err := err || decide (16383 < bytes.length)
    let bytes := bytes.take 16383
    let ms := clsMatches e (frameKey bytes g (s.rd (feB e) R.FE_FLOW_CFG_KEY_OFS)) s
    let cls := capClass e ms s
    let flow := (chooseFlow (tableFlow e ms s) (tagCounts e g (rxTag e bytes s) s).2 (s.on (feB e) R.FE_TAG_CFG_TAG_FIRST)).map (·.1)
    let lane := 16 * e + s.rd (grpB e g) R.FE_GRP_CFG_FIRST
    hzTake e g t bad bytes flow (frameCapture e g cls lane t bad bytes (frameRx e g t err bytes s))

/-- A frame starts now (R350, R351) and enters its link's coding (R224): its copy follows. -/
def hzStart (e : Nat) (f : HzFrame) (s : State) : State :=
  let bytes := if f.raw then f.bytes else frameStart e f.tg f.bytes f.tag f.fix s
  let bytes := match f.corr with
    | some (k, o) => corruptFrame k o bytes
    | none => bytes
  let q := s.hzQ.erase f
  let busy := s.now + frameTicks (s.rd (grpB e f.tg) R.FE_GRP_CFG_LINK) bytes.length
  let s := pcsFrame e f.tg bytes s
  { s with txFrame := put [] s.txFrame e bytes, feFree := put 0 s.feFree (16 * e + f.tg) busy,
           hzQ := if f.copies == 2 then { f with copies := 1, next := true } :: q else q }

/-- The Haze frame of a group that starts next: a copy that follows its frame, else by PRIO and instant (R266, R350). -/
def hzPick (e g : Nat) (s : State) : Option HzFrame :=
  (s.hzQ.filter (fun f => f.eng == e && f.tg == g && decide (f.t ≤ feNow e g s))).foldl (fun b f => match b with
    | none => some f
    | some c =>
      if c.next then b
      else if f.next || decide (c.prio < f.prio) || (c.prio == f.prio && decide (f.t < c.t)) then some f else b) none

/-- The Haze frame starts before a stream's due frame. -/
def hzFirst (f : HzFrame) (i : Option (StrmCtx)) : Bool :=
  f.next || (match i with
    | none => true
    | some x => decide (cPrio x.cfg < f.prio) || (cPrio x.cfg == f.prio && decide (f.t * 256 < x.backlog.headD 0)))

/-- A stream's next frame is built: the context after it (R264, R266). -/
def StrmCtx.built (x : StrmCtx) (len : Nat) : StrmCtx :=
  { x with nextSeq := (x.nextSeq + 1) % 2 ^ 32, backlog := x.backlog.drop 1,
           len := if len ≥ cLenMax x.cfg then cLenMin x.cfg else len + 1,
           mod := (x.mod + cfgF x.cfg 12 31 16) % 2 ^ cfgF x.cfg 12 13 8,
           fillPos := x.fillPos + (len - 4 - cHdrLen x.cfg) }

/-- A frame of a stream is sent, as far as its counters go (R266). -/
def strmSent (e i len t : Nat) (s : State) : State :=
  let x := s.strm e i
  let slip := feNow e (cGroup x.cfg) s * 256 - t
  let inj := feArmed e 3 s
  let late := inj || decide (cfgF x.cfg 3 31 16 * 65536 < slip)
  let y := { x with txFrames := satAdd 64 x.txFrames 1, txBytes := satAdd 64 x.txBytes len,
                    maxSlip := max x.maxSlip (min (slip / 256) (2 ^ 32 - 1)),
                    late := if late then satAdd 32 x.late 1 else x.late }
  let s := (if inj then feDisarm e 3 s else s).setStrm e i y
  if late then (s.wr (feB e) R.FE_FS_EVT_LATE 1).raise (evFe e 5) else s

/-- The scheduler starts a stream's due frame, which meets its Haze rule (R264, R266, R268, R351). -/
def strmSend (e g i : Nat) (s : State) : State :=
  let x := s.strm e i
  let len := strmLen x s
  let t := x.backlog.headD 0
  if !fitsGate e g len s || decide (feNow e g s * 256 < t) then s
  else
    let fr := strmFrame e i len x s
    let s := if cfgF x.cfg 0 23 22 == 2 then s.drawn else s
    let s := s.setStrm e i (x.built len).finish
    let f := 1024 + i
    let h : HzFrame := ⟨e, 16, f, g, cPrio x.cfg, s.tlv.toNat, fr.1, false, none, fr.2, cfgF x.cfg 0 28 28 == 1, 1, false⟩
    if !s.on (hzB e f) R.FE_HZ_W0_EN then strmSent e i len t (hzStart e h s)
    else
      let r := hzDraws e f h s
      match r.2 with
      | none => r.1
      | some (h, true) => strmSent e i len t (hzHold h false r.1)
      | some (h, false) => hzReleased e f (strmSent e i len t (hzStart e h r.1))

/-- A due frame of a group starts at a free position (R266, R267, R350): no earlier than the frame before it, with its
minimum gap, has ended (R265). -/
def feStart (e g : Nat) (s : State) : State :=
  if !s.feUp e || !txUp e g s || txReplay e g s then s
  else
    let s := s.advanceNow (look 0 s.feFree (16 * e + g))
    let i := strmPick e g s
    match hzPick e g s with
    | some f => if hzFirst f (i.map (fun i => s.strm e i)) then
        (if fitsGate e g f.bytes.length s then hzStart e f s else s)
      else match i with
        | some i => strmSend e g i s
        | none => s
    | none => match i with
      | some i => strmSend e g i s
      | none => s

/-! The FE commit group. -/

/-- The rules 0x9 to 0xB of R354, 0 where all hold. -/
def hzRules (e : Nat) (s : State) : Nat :=
  let c9 := (List.range 16).all (fun g => s.rdSh (grpB e g) R.FE_HZ_FWD_EN == 0 ||
    s.rdSh (grpB e (s.rdSh (grpB e g) R.FE_HZ_FWD_TG)) R.FE_GRP_CFG_EN == 1)
  let dly (f : Nat) : Nat := s.rdSh (hzB e f) R.FE_HZ_W2_DELAY + s.rdSh (hzB e f) R.FE_HZ_W3_DVAR
  let cA := (List.range 2048).all (fun f => s.rdSh (hzB e f) R.FE_HZ_W0_EN == 0 || dly f == 0 ||
    (let p := s.rdSh (hzB e f) R.FE_HZ_W2_DLY_PLOT
     shOn p s && s.rdSh (plB p) R.MDW_PLOT_W0_TYPE == 4 && s.rdSh (plB p) R.MDW_PLOT_W0_SRC == e && decide (dly f ≤ 1562500)))
  let cB := (List.range 1024).all (fun i => dly (1024 + i) == 0 && s.rdSh (hzB e (1024 + i)) R.FE_HZ_W1_CORR_KIND != 3)
  if !c9 then 9 else if !cA then 10 else if !cB then 11 else 0

/-- Every rule of the FE group (R204, R274, R354). -/
def feAllRules (e : Nat) (s : State) : Nat := lowCause (feRules e s) (hzRules e s)

/-- Rules whose words a commit changes restart their frame counts (R351). -/
def hzChanged (e : Nat) (s : State) : List Nat :=
  ((groupKeys (keyIn (objKey 11 (2048 * e)) (2048 * 2 ^ 20)) s).filter (fun k =>
    mergeSt k (s.getReg k) (s.getShadow k) != s.getReg k)).map (fun k => k / 2 ^ 20 % 2 ^ 24)

/-- A commit of the FE group (R74, R354). -/
def feCommit (e : Nat) (s : State) : State :=
  let ch := hzChanged e s
  let s := feCopy e s
  let s := { s with hzCnt := dropKeys (fun k => ch.contains k) s.hzCnt }
  let off (h : HzHeld) : Bool := h.f.eng == e && !s.on (hzB e h.f.rule) R.FE_HZ_W0_EN
  (s.hzHeld.filter off).foldl (fun s h => hzUnheld h s) { s with hzHeld := s.hzHeld.filter (fun h => !off h) }

end Sys2Proof.Machine
end

