-- ==== Sys2Proof/Machine/WatchOps.lean ====
section
/-! DEFINITION. The watch chains (10): stages (R280), settling (R283), samples (R286 to R288), thresholds (R289), cross-fades
(R291), LQF (R292), synchronising resets (R282) and the WATCH commit group (R293). -/

namespace Sys2Proof.Machine

/-- DEC1, K and DEC2 of a preset; 4 takes the custom values (R281). -/
def presetOf (preset d1 k d2 : Nat) : Nat × Nat × Nat :=
  match preset with
  | 0 => (10, 6, 6) | 1 => (8, 4, 4) | 2 => (6, 2, 2) | 3 => (4, 0, 0) | _ => (d1, k, d2)

/-- The active parameters of a chain (R281, R292). -/
def chainPar (n c : Nat) (s : State) : Nat × Nat × Nat :=
  if c == 4 then (8, 4, 4)
  else presetOf (s.rd (chB n c) R.WATCH_CH_CFG_PRESET) (s.rd (chB n c) R.WATCH_CH_CUST_DEC1)
    (s.rd (chB n c) R.WATCH_CH_CUST_K) (s.rd (chB n c) R.WATCH_CH_CUST_DEC2)

/-- The active TAP of a chain. -/
def chainTap (n c : Nat) (s : State) : Nat := if c == 4 then 1 else s.rd (chB n c) R.WATCH_CH_CFG_TAP

/-- S1 (R283). -/
def settle1 (k : Nat) : Nat := [1, 10, 25, 52, 108, 219, 441, 884, 1771].getD k 1771

/-- The condition under which a tap is available (R277). -/
def tapAvail (n tap : Nat) (s : State) : Bool :=
  let st := s.rxState n
  match tap with
  | 1 => st == 6
  | 2 => st == 4 || st == 5 || st == 6 || st == 7
  | 3 => st == 6 || (st == 7 && (s.rd (laneB n) R.ACQ_BURST_STAT_CTX0 == 2 || s.rd (laneB n) R.ACQ_BURST_STAT_CTX1 == 2))
  | 4 => st == 4 || st == 5 || st == 6
  | 5 => st != 0
  | 6 => st != 0
  | 7 => s.rd (laneB n) R.FEC_PC_STATUS_STATE == 2
  | 8 => s.on hkB R.HK_STATUS_RUNNING
  | _ => false

/-- Round a quotient to nearest, halves away from zero (R280). -/
def roundQuot (a : Int) (b : Nat) : Int :=
  if 0 ≤ a then (2 * a + b) / (2 * b) else -((2 * (-a) + b) / (2 * b))

/-- Stage 2 (R280): y + (s - y) / 2^K. DEDUCED: the rounding that R280 names holds for this quotient too. -/
def stage2 (y s k : Nat) : Nat := ((y : Int) + roundQuot ((s : Int) - y) (2 ^ k)).toNat

/-- One base interval enters stage 1 (R280, R285). -/
def ChainSt.feed (x : ChainSt) (v : Option Nat) : ChainSt :=
  let u := match v with
    | some w => min w (2 ^ 24 - 1)
    | none => x.last.getD 0
  { x with m := x.m + 1, nb := x.nb + 1, acc := x.acc + u, gap := x.gap || v.isNone,
           last := match v with | some _ => some u | none => x.last }

/-- What stage 3 takes during a fade, and the fade after it (R291). -/
def watchFade (yNew s : Nat) (f : WFade) : Nat × WFade :=
  let yOld := stage2 f.yOld s f.kOld
  let z := if f.i < f.s1 then yOld
    else ((yOld : Int) + roundQuot ((f.i - f.s1 + 1 : Nat) * ((yNew : Int) - yOld)) f.len).toNat
  (z, { f with yOld := yOld, i := f.i + 1 })

/-- A stage-1 output passes stage 2 (R280, R291): the chain after it, the value for stage 3, and HELD. -/
def ChainSt.out1 (x : ChainSt) (d1 k : Nat) : ChainSt × Nat × Bool :=
  let s := x.acc * 2 ^ 16 / 2 ^ d1
  let y := stage2 x.y s k
  let x := { x with nb := 0, acc := 0, y := y, o1 := x.o1 + 1, c3 := x.c3 + 1 }
  match x.fade with
  | none => (x, y, false)
  | some f =>
    let r := watchFade y s f
    ({ x with fade := if r.2.i < f.s1 + f.len then some r.2 else none }, r.1, true)

/-- Base intervals enter the chain until a sample completes (R280): the chain, and the sample's z, HELD and the K whose
settling counts (R291). -/
def chainRun (d1 k d2 : Nat) : ChainSt → List (Option Nat) → ChainSt × Option (Nat × Bool × Nat)
  | x, [] => (x, none)
  | x, v :: vs =>
    let x := x.feed v
    if x.nb < 2 ^ d1 then chainRun d1 k d2 x vs
    else
      let kref := match x.fade with | some f => f.kOld | none => k
      let r := x.out1 d1 k
      if r.1.c3 % 2 ^ d2 == 0 then (r.1, some (r.2.1, r.2.2, kref)) else chainRun d1 k d2 r.1 vs

/-- The latest result of the chain's housekeeping channel, in converter codes, and its number (R278). DESIGN CHOICE: MEAN is
held in 1/16 code; the tap rounds it as R465 does, and a negative mean enters as 0. -/
def hkTap (n c : Nat) (s : State) : Nat × Nat :=
  let b := hkB + 8 * s.rd (chB n c) R.WATCH_CH_CFG_HK_CH
  ((roundDiv (s.rdI b R.HK_RES_MEAN) 16).toNat, s.rd b R.HK_RES_SEQ)

/-- The value of a tap over a base interval, from what the interval brought (R277); none where it is unavailable. DESIGN
CHOICE: a mean or a share is truncated to the unit. -/
def tapValue (n c tap : Nat) (x : TapIn) (s : State) : Option Nat :=
  let mean (l : List Nat) (d : Nat) : Nat := l.sum / (max 1 l.length * d)
  match x with
  | .gap => none
  | .line y =>
    match tap with
    | 1 => some (mseMean (eqDetect n y s) y.lead)
    | 2 => some (mean (((rxSymbols n y s).drop y.lead).map Int.natAbs) 1)
    | 3 => some (mean (((eqDetect n y s).soft.reverse.drop y.lead).map (fun w => if w.toNat % 4 == 0 then 2 ^ 16 else 0)) 1)
    | 5 => some (clippedCodes (y.codes.drop (y.lead * if s.rxMode n == 0 then 1 else 2)))
    | _ => none
  | .phase es => if tap == 4 then some (mean (es.map (fun e => (pdPick n s e).natAbs)) (2 ^ 10)) else none
  | .reading v => if tap == 6 || tap == 7 then some v else none
  | .held => if tap == 8 then some (hkTap n c s).1 else none

/-- The base intervals that a command carries, each over its count, as far as the tap is available (R277). -/
def tapList (n c tap : Nat) (taps : List (Nat × TapIn)) (s : State) : List (Option Nat) :=
  taps.flatMap (fun p => List.replicate p.1 (if tapAvail n tap s then tapValue n c tap p.2 s else none))

/-- A threshold state changes (R289): the event, the counters and the delivery to the triggers. -/
def watchChange (n c : Nat) (lo : Bool) (v : Nat) (t : Nat) (s : State) : State :=
  let b := chB n c
  let s := s.wr b (if lo then R.WATCH_CH_STATUS_LO else R.WATCH_CH_STATUS_HI) v
  let s := s.wr (laneB n) R.WATCH_EVT_CHG (setBit (s.rd (laneB n) R.WATCH_EVT_CHG) (2 * c + b2n lo))
  let s := if v == 1 then s.cnt b (if lo then R.WATCH_CH_CNT_LO_SETS else R.WATCH_CH_CNT_HI_SETS) 1 else s
  let s := s.raise (evLane n 9)
  fireSrc 2 (n * 1024 + c * 256 + b2n lo * 128 + (1 - v) * 64) 0xFFC0 t (s.tagAt t).1 (s.tagAt t).2 s

/-- A settled sample meets the thresholds (R289, R294). -/
def watchCompare (n c v t : Nat) (s : State) : State :=
  let b := chB n c
  let hs := s.rd b R.WATCH_CH_HI_SET_LEVEL
  let hc := if hs ≤ s.rd b R.WATCH_CH_HI_CLR_LEVEL then hs - 1 else s.rd b R.WATCH_CH_HI_CLR_LEVEL
  let ls := s.rd b R.WATCH_CH_LO_SET_LEVEL
  let lc := if s.rd b R.WATCH_CH_LO_CLR_LEVEL ≤ ls then ls + 1 else s.rd b R.WATCH_CH_LO_CLR_LEVEL
  let hi := s.on b R.WATCH_CH_STATUS_HI
  let lo := s.on b R.WATCH_CH_STATUS_LO
  let x := s.chain n c
  let s := if x.inj then watchChange n c false (b2n !hi) t (s.setChain n c { x with inj := false })
    else if !s.on b R.WATCH_CH_CFG_HI_EN then s
    else if !hi && decide (hs < v) then watchChange n c false 1 t s
    else if hi && decide (v < hc) then watchChange n c false 0 t s
    else s
  if !s.on b R.WATCH_CH_CFG_LO_EN then s
  else if !lo && decide (v < ls) then watchChange n c true 1 t s
  else if lo && decide (lc < v) then watchChange n c true 0 t s
  else s

/-- A sample is pushed (R288): VALUE, T, then FLAGS; the core's line 4 + i is pending (R373). -/
def watchPush (n c : Nat) (s : State) : State :=
  let b := chB n c
  let a := dmemB (n / 4) + s.rd b R.WATCH_CH_CFG_DEST * 256 + 16 * (s.rd b R.WATCH_CH_OUT_FLAGS_SEQ % 16)
  let fl := fset (s.getReg (b + 0x5120)) 31 31 1
  coreIrq (n / 4) (4 + n % 4) ((((s.setWord a (s.getReg (b + 0x511C))).setWord (a + 8) (s.getReg (b + 0x5124))).setWord
    (a + 12) (s.getReg (b + 0x5128))).setWord (a + 4) fl)

/-- A sample of a channel is complete (R284, R286 to R289). -/
def watchEmit (n c v t : Nat) (uns gap held newhk : Bool) (s : State) : State :=
  let b := chB n c
  let s := s.wr b R.WATCH_CH_OUT_VAL_VALUE v
  let s := ((s.wr b R.WATCH_CH_OUT_FLAGS_NEW 1).wr b R.WATCH_CH_OUT_FLAGS_UNSETTLED (b2n uns)).wr b R.WATCH_CH_OUT_FLAGS_GAP (b2n gap)
  let s := ((s.wr b R.WATCH_CH_OUT_FLAGS_HELD (b2n held)).wr b R.WATCH_CH_OUT_FLAGS_NEWHK (b2n newhk)).wr b R.WATCH_CH_OUT_FLAGS_TQ (s.tagAt t).1
  let s := (s.wr b R.WATCH_CH_OUT_FLAGS_STEP_SEQ (s.tagAt t).2).cntW b R.WATCH_CH_OUT_FLAGS_SEQ 1
  let s := s.wr64 b R.WATCH_CH_OUT_T_LO_T R.WATCH_CH_OUT_T_HI_T t
  let s := (s.wr b R.WATCH_CH_STATUS_SEQ (s.rd b R.WATCH_CH_OUT_FLAGS_SEQ)).wr b R.WATCH_CH_STATUS_UNSETTLED (b2n uns)
  let s := if uns || gap then s else watchCompare n c v t s
  if s.on b R.WATCH_CH_CFG_PUSH then watchPush n c s else s

/-- The largest k below 2^bits with 10^(2k - 1) ≤ q, for q ≥ 1 (by bits from the top). -/
def logSteps : List Nat → Nat → Nat → Nat
  | [], k, _ => k
  | b :: bs, k, q => logSteps bs (if 10 ^ (2 * (k + b) - 1) ≤ q then k + b else k) q

/-- The lane quality figure (R292) of a slicer amplitude in 1/16 LSB, an NRZ mark and a mean e^2 in 2^-12 LSB^2: the k with
10^(2k - 1) ≤ (S^2 / Ebar)^320 < 10^(2k + 1), clamped. -/
def lqfOf (amp : Nat) (nrz : Bool) (v : Nat) : Nat :=
  if v == 0 then 1023
  else logSteps [512, 256, 128, 64, 32, 16, 8, 4, 2, 1] 0 ((16 * amp * amp * (if nrz then 9 else 1)) ^ 320 / v ^ 320)

/-- A sample of the LQF chain (R292). -/
def lqfEmit (n v : Nat) (uns gap : Bool) (s : State) : State :=
  let b := laneB n
  let s := (s.wr b R.WATCH_LQF_LQF (lqfOf (s.rd b R.EQ_SLICER_AMP) (decide (4 ≤ s.rxMode n)) v)).cntW b R.WATCH_LQF_SEQ 1
  s.wr b R.WATCH_LQF_VALID (b2n (!uns && !gap))

/-- Base intervals pass through a chain up to its next sample, which is stamped at its end boundary (R280, R286). A result
whose number is not that of the last one taken is a new one. -/
def chainSample (n c : Nat) (taps : List (Nat × TapIn)) (s : State) : State :=
  let tap := chainTap n c s
  if tap == 0 || !s.laneUp n || !s.counting then s
  else
    let p := chainPar n c s
    let ins := tapList n c tap taps s
    let old := s.chain n c
    let fed := tap == 8 && ins.any Option.isSome
    let hk := fed && (old.newHk || old.hkSeq != some (hkTap n c s).2)
    let r := chainRun p.1 p.2.1 p.2.2 old ins
    let x := if fed then { r.1 with hkSeq := some (hkTap n c s).2 } else r.1
    match r.2 with
    | none => s.setChain n c { x with newHk := hk }
    | some (z, held, kref) =>
      let t := (x.r + x.m * 4000) % 2 ^ 64
      let s := s.advanceTlv t s.now
      let v := min (roundQuot z 256).toNat (2 ^ 32 - 1)
      let uns := decide (x.o1 < settle1 kref)
      let s := s.setChain n c { x with gap := false, newHk := false }
      if c == 4 then lqfEmit n v uns x.gap s
      else
        let s := s.wr (chB n c) R.WATCH_CH_STATUS_FADING (b2n x.fade.isSome)
        watchEmit n c v t uns x.gap held hk s

/-! Resets (R282). -/

/-- All five chains of a lane. -/
def chainResetAll (n : Nat) (s : State) : State := (List.range 5).foldl (fun t c => chainReset n c t) s

/-- A reset of a chain is due 16,384 ticks from now (R282). -/
def chainDue (n c : Nat) (t : Nat) (s : State) : State :=
  let x := s.chain n c
  s.setChain n c { x with due := x.due ++ [(t + 16384, s.now + 16384)] }

/-- CTRL.RESTART (R282). -/
def watchRestart (n mask : Nat) (s : State) : State :=
  (List.range 4).foldl (fun s c => if mask / 2 ^ c % 2 == 1 then chainDue n c s.tlv.toNat s else s) s

/-- A matched TL_SYNC pulse at E (R282): the lanes whose SYNC_RST asks for it. -/
def watchSync (e : Nat) (s : State) : State :=
  (List.range 64).foldl (fun s n =>
    let m := s.rd (laneB n) R.WATCH_CTRL_SYNC_RST
    if (m == 1 || m == 2) && s.domOn n then
      let s := (List.range 5).foldl (fun s c => chainDue n c e s) s
      if m == 1 then s.wr (laneB n) R.WATCH_CTRL_SYNC_RST 0 else s
    else s) s

/-- The earliest reset due of a chain arrives (R282); resets due at one instant are one (R290). -/
def chainArrive (n c : Nat) (s : State) : State :=
  let x := s.chain n c
  match x.due with
  | [] => s
  | d :: rest =>
    let d := rest.foldl (fun (a : Nat × Nat) b => if b.1 < a.1 then b else a) d
    let s := s.advanceReq d.1 d.2
    let s := s.setChain n c { x with due := x.due.filter (fun e => e.1 != d.1) }
    if s.domOn n then chainReset n c s else s

/-- A timeline step resets every chain (R282). -/
def watchStep (s : State) : State :=
  (List.range 64).foldl (fun s n => if s.domOn n then chainResetAll n s else s) s

/-- LSnn powered down: the chains stop (R290). -/
def watchOff (n : Nat) (s : State) : State :=
  (List.range 5).foldl (fun s c => s.setChain n c ChainSt.idle) s

/-! The commit group. -/

/-- Shadow parameters of a channel. -/
def shPar (n c : Nat) (s : State) : Nat × Nat × Nat :=
  presetOf (s.rdSh (chB n c) R.WATCH_CH_CFG_PRESET) (s.rdSh (chB n c) R.WATCH_CH_CUST_DEC1)
    (s.rdSh (chB n c) R.WATCH_CH_CUST_K) (s.rdSh (chB n c) R.WATCH_CH_CUST_DEC2)

/-- The rules of R293 on a channel: its lowest failing cause, 0 where all hold. -/
def chanRule (n c : Nat) (s : State) : Nat :=
  let b := chB n c
  let tap := s.rdSh b R.WATCH_CH_CFG_TAP
  let hk := s.rdSh b R.WATCH_CH_CFG_HK_CH
  let p := shPar n c s
  let a := chainPar n c s
  let kd := p.2 != a.2
  let rest := p.1 != a.1 || tap != s.rd b R.WATCH_CH_CFG_TAP || hk != s.rd b R.WATCH_CH_CFG_HK_CH
  if 8 < tap ∨ 4 < s.rdSh b R.WATCH_CH_CFG_PRESET then 1
  else if s.rdSh b R.WATCH_CH_CFG_PRESET == 4 && decide (12 < p.1 ∨ 8 < p.2.1 ∨ 8 < p.2.2) then 2
  else if tap == 8 && decide (95 < hk) then 3
  else if s.rdSh b R.WATCH_CH_CFG_FADE == 1 && kd && rest then 4
  else if (kd || rest) && (s.chain n c).fade.isSome then 5
  else 0

/-- The lowest failing cause of R293, 0 where every rule holds. -/
def watchRules (n : Nat) (s : State) : Nat :=
  (List.range 4).foldl (fun a c => lowCause a (chanRule n c s)) 0

/-- What a commit does to a channel beside the copy (R282, R289, R291); the words are CFG and CUST before it. DEDUCED: with
FADE = 1 a change of TAP, HK_CH or DEC1 alone, which no fade can carry (R291), resets the chain as with FADE = 0. -/
def chanCommitted (n c : Nat) (cfg0 cust0 : Word) (old : Nat × Nat × Nat) (s : State) : State :=
  let b := chB n c
  let cfg := s.getReg (b + 0x5100)
  let p := chainPar n c s
  let s := if s.on b R.WATCH_CH_CFG_HI_EN then s else s.wr b R.WATCH_CH_STATUS_HI 0
  let s := if s.on b R.WATCH_CH_CFG_LO_EN then s else s.wr b R.WATCH_CH_STATUS_LO 0
  let s := s.wr b R.WATCH_CH_STATUS_RUN (b2n (fget cfg 3 0 != 0))
  let src := fget cfg 3 0 != fget cfg0 3 0 || fget cfg 22 16 != fget cfg0 22 16
  let changed := src || fget cfg 6 4 != fget cfg0 6 4 || s.getReg (b + 0x5104) != cust0
  if !changed then s
  else if !s.on b R.WATCH_CH_CFG_FADE then chainReset n c s
  else if src || p.1 != old.1 then chainReset n c s
  else if p.2 == old.2 then s
  else
    let x := s.chain n c
    let f : WFade := ⟨old.2.1, x.y, settle1 p.2.1, 2 ^ min (s.rd b R.WATCH_CH_CFG_XF) 10, 0⟩
    (s.setChain n c { x with y := 0, c3 := 0, fade := some f }).wr b R.WATCH_CH_STATUS_FADING 1

/-- The injection of WATCH.INJECT (R294). -/
def watchInject (n : Nat) (w : Word) (s : State) : State :=
  if fget w 2 2 == 1 then
    let c := fget w 1 0
    s.setChain n c { s.chain n c with inj := true }
  else s

end Sys2Proof.Machine
end

