-- ==== Sys2Proof/Machine/TimeOps.lean ====
section
/-! DEFINITION. The timeline unit (02): its states, loads of TLV, pulses, misses and steps, coasting and its uncertainty
bound, the ember counter, and the lanes' distribution delays. -/

namespace Sys2Proof.Machine

/-- BB is powered and out of reset (R443, R451). -/
def State.bbOn (s : State) : Bool :=
  s.rd pwrB R.PWR_STATUS_STATE != 3 && !s.off && !s.fatal && !s.por && !s.inReset

/-- TL.STATUS.STATE. -/
def State.tlState (s : State) : Nat := s.rd tlB R.TL_STATUS_STATE

/-- The time quality of each state (R54). -/
def tlTq (st : Nat) : Nat := match st with | 0 => 0 | 1 => 1 | 2 => 0 | 3 => 1 | 4 => 2 | _ => 3

/-- Enter a timeline state; entry to LOCKED raises EV_TL_SYNC_LOCKED (R54, R59). -/
def tlGo (st : Nat) (s : State) : State :=
  let old := s.tlState
  let s := (s.wr tlB R.TL_STATUS_STATE st).wr tlB R.TL_STATUS_TQ (tlTq st)
  if st == 2 && old != 2 then s.raise 0x420 else s

/-- EPOCH. -/
def tlEpoch (s : State) : Nat := s.rd64 tlB R.TL_EPOCH_LO_EPOCH R.TL_EPOCH_HI_EPOCH

/-- SYNC_INTERVAL in ticks; 0 acts as 1. -/
def tlInterval (s : State) : Nat := max 1 (s.rd tlB R.TL_SYNC_INTERVAL_INTERVAL) * 250

/-- SYNC operation is selected. -/
def tlSync (s : State) : Bool := s.on tlB R.TL_CTRL_MODE

/-! The uncertainty bound (R64). -/

/-- The cause of UNC's growth while TLV coasts on the LPO. -/
def restCause (s : State) : CoastCause := if s.on tlB R.TL_STATUS_RATE_VALID then .restRated else .restUnrated

/-- The cause of UNC's growth with TL_CLK lost: the LPO's in clock SAFE (R431). -/
def lossCause (s : State) : CoastCause := if s.rd clkB R.CLK_STATUS_STATE == 0 then .tlclkLost else restCause s

/-- What UNC grows by at once, in ticks. -/
def CoastCause.first : CoastCause → Nat
  | .none => 0 | .tlclkLost => 1 | .restRated => 78125 | .restUnrated => 78125

/-- UNC's growth in parts per million of the elapsed ticks. -/
def uncPpm (s : State) : CoastCause → Nat
  | .none => 0
  | .tlclkLost => s.rd tlB R.TL_EMBER_CTRL_HOLD_PPM
  | .restRated => s.rd tlB R.TL_EMBER_CTRL_EMBER_PPM
  | .restUnrated => 30000

/-- TL.UNC as it reads (R64): 0 while COASTED = 0. -/
def State.unc (s : State) : Nat :=
  if s.on tlB R.TL_STATUS_COASTED then
    min 0xFFFFFFFF (s.tl.uncBase + uncPpm s s.tl.coast * (s.tlv.toNat - s.tl.uncFrom) / 1000000)
  else 0

/-- UNC stops growing and holds. -/
def uncStop (s : State) : State := { s with tl := { s.tl with uncBase := s.unc, coast := .none } }

/-- UNC grows from now for a cause; it adds to the bound already held. -/
def uncStart (c : CoastCause) (from_ : Nat) (s : State) : State :=
  { s with tl := { s.tl with uncBase := min 0xFFFFFFFF (s.unc + c.first), uncFrom := from_, coast := c } }

/-- The timebase of a coast changes as the part enters or leaves clock SAFE (R431). -/
def tlTimebase (s : State) : State :=
  match s.tl.coast with
  | .none => s
  | _ => uncStart (lossCause s) s.tlv.toNat (uncStop s)

/-- COASTED and UNC clear. -/
def uncClear (s : State) : State :=
  let s := s.wr tlB R.TL_STATUS_COASTED 0
  { s with tl := { s.tl with uncBase := 0, coast := .none } }

/-! Lane delays and replicas (R60). -/

/-- DLY of a lane is written. -/
def laneDly (n v : Nat) (s : State) : State :=
  s.wr (tlB + 4 * (n / 2)) (if n % 2 == 0 then R.TL_LANE_DLY_DLY_EVEN else R.TL_LANE_DLY_DLY_ODD) v

/-- DLY of a lane. -/
def State.laneDlyOf (s : State) (n : Nat) : Nat :=
  s.rd (tlB + 4 * (n / 2)) (if n % 2 == 0 then R.TL_LANE_DLY_DLY_EVEN else R.TL_LANE_DLY_DLY_ODD)

/-- The distribution delay of a lane as it was measured last, taken or not. -/
def State.linkDly (s : State) (n : Nat) : Nat :=
  ((s.tl.newDly.reverse.find? (fun e => e.1 == n)).map Prod.snd).getD (s.laneDlyOf n)

/-- The delays measured last take effect. -/
def dlyTake (s : State) : State :=
  let l := s.tl.newDly
  l.foldl (fun s e => laneDly e.1 e.2 s) { s with tl := { s.tl with newDly := [] } }

/-- The lanes' replicas are corrected: the timeline unit sends TLV. -/
def repSync (s : State) : State := { s with tl := { s.tl with corrAt := s.now, repTlv := s.tlv } }

/-- Lane n's replica of TLV: the value sent at the last correction, advanced on CCLK since then, where the lane takes the
arrival less LANE_DLY as the instant of sending. -/
def State.replica (s : State) (n : Nat) : Nat :=
  let d := s.now - s.tl.corrAt
  s.tl.repTlv.toNat + (if s.coasting then Config.coastTicks d else d) + s.laneDlyOf n - s.linkDly n

/-- The TLV that lane n stamps with: its replica, and the held TLV while the timeline is STOPPED (R56, R60). -/
def State.laneTlv (s : State) (n : Nat) : Nat := if s.counting then s.replica n else s.tlv.toNat

/-- FREE is entered: new delays take effect at once. -/
def tlFree (s : State) : State := dlyTake (tlGo 0 s)

/-! Loads and coasts. -/

/-- TLV is loaded with a value that is not its own count (R56): STEP, STEP_SEQ and EV_TL_STEP. -/
def tlLoad (v : Tlv) (s : State) : State :=
  let d := v - s.tlv
  let s := s.wr64 tlB R.TL_STEP_LO_STEP R.TL_STEP_HI_STEP d.toNat
  let s := s.wr tlB R.TL_STATUS_STEP_SEQ (s.stepSeq + 1)
  (repSync { s with tl := { s.tl with tlv := v } }).raise 0x423

/-- A load of EPOCH (R55): it ends a coast (R65). -/
def tlLoadEpoch (s : State) : State :=
  let s := (uncClear s).wr tlB R.TL_STATUS_AMBIG 0
  let s := { s with tl := { s.tl with step := none, firstErr := none, misses := 0, realigned := false,
                                      expect := tlEpoch s + tlInterval s } }
  tlLoad (BitVec.ofNat 64 (tlEpoch s)) s

/-- The ember counter (48 bits): 0 at POR, where true time starts. -/
def State.ember (s : State) : Nat := (Config.lpoCycles s.now - Config.lpoCycles 0) % 2 ^ 48

/-- ANCHOR and the ember count held with it are written (R64). -/
def tlAnchor (s : State) : State :=
  let s := s.wr64 tlB R.TL_EMBER_ANCHOR_LO_ANCHOR R.TL_EMBER_ANCHOR_HI_ANCHOR s.tlv.toNat
  { s with tl := { s.tl with anchorEmber := s.ember } }

/-- Entry to COAST for a loss of TL_CLK (R64, path 1): a step that is due is dropped. -/
def tlCoast (s : State) : State :=
  let s := uncStart (lossCause s) s.tlv.toNat (tlAnchor s)
  let s := s.wr tlB R.TL_STATUS_COASTED 1
  (tlGo 4 { s with tl := { s.tl with step := none, firstErr := none, misses := 0, realigned := false } }).raise 0x424

/-- TLV is realigned to the TL_CLK edges (R65): an edge falls at every multiple of 250 ticks of true time, and TLV there is
made congruent to EPOCH modulo 250 by the smallest change. -/
def tlRealign (s : State) : State :=
  let t := s.tlv.toNat
  let r := (t + 500 - s.now % 250 - tlEpoch s % 250) % 250
  let t' := if r ≤ 125 then t + 2 ^ 64 - r else t + 250 - r
  { s with tl := { s.tl with tlv := BitVec.ofNat 64 t', realigned := true } }

/-- TL_CLK is present again in COAST (R65): TLV is realigned, UNC holds, and in FREE mode the coast is resolved. -/
def tlBack (s : State) : State :=
  let s := tlRealign (uncStop s)
  if tlSync s then s else tlFree s

/-- TL_CLK is declared lost (R64, R434). -/
def tlclkLost (s : State) : State :=
  let was := s.on clkB R.CLK_STATUS_TLCLK_OK
  let s := ((s.wr clkB R.CLK_STATUS_TLCLK_OK 0).cnt clkB R.CLK_CNT_TLCLK_LOSS 1)
  let s := if was then s.raise 0x3F2 else s
  let s := { s with tl := { s.tl with lost := true, rateFrom := none } }
  if s.tlState == 5 then s
  else if s.tlState == 4 then uncStart (lossCause s) s.tlv.toNat { s with tl := { s.tl with realigned := false, step := none } }
  else tlCoast s

/-- TL_CLK is declared good (R65, R434). -/
def tlclkGood (s : State) : State :=
  let was := s.on clkB R.CLK_STATUS_TLCLK_OK
  let s := s.wr clkB R.CLK_STATUS_TLCLK_OK 1
  let s := if was then s else s.raise 0x3F2
  let s := { s with tl := { s.tl with lost := false, rateFrom := some s.now } }
  if s.tlState == 4 && !s.tl.realigned then tlBack s else s

/-- INJ_TLCLK_LOSS (R78): a declaration of loss where TL_CLK was not lost; TL_CLK is then treated as lost, whatever its
monitor finds, until the injection ends. -/
def tlInjLoss (s : State) : State :=
  let t := { s with tl := { s.tl with injLoss := some (s.now + 2 ^ 24 * 250) } }
  if s.tl.lost then t else tlclkLost t

/-- The end of an injected loss (R78) acts as a declaration of good, unless the monitor has TL_CLK declared lost. -/
def tlInjOver (s : State) : State :=
  match s.tl.injLoss with
  | none => s
  | some _ =>
    let s := { s with tl := { s.tl with injLoss := none } }
    if look 0 s.clk.decl 2 == 2 then s else tlclkGood s

/-- No pulse has ended it within 2^24 TL_CLK cycles (R78). -/
def tlInjLossEnd (s : State) : State :=
  match s.tl.injLoss with
  | none => s
  | some t => tlInjOver (s.advanceNow t)

/-! Steps. -/

/-- A due step takes effect (R58, R65): TLV steps, every watch chain resets (R282), and the state is LOCKED. -/
def tlTakeStep (d : StepDue) (s : State) : State :=
  let v := BitVec.ofInt 64 ((s.tlv.toNat : Int) + d.size)
  let s := if d.coast then
      let s := if s.unc < d.size.natAbs then s.wr tlB R.TL_STATUS_BOUND_EXCEEDED 1 else s
      uncClear s
    else s
  let s := { s with tl := { s.tl with step := none, misses := 0, firstErr := none } }
  tlGo 2 (watchStep (tlLoad v s))

/-- The step that is due takes effect at its instant. -/
def tlStep (s : State) : State :=
  match s.tl.step with
  | none => s
  | some d => if s.counting then tlTakeStep d (s.advanceNow d.at_) else s

/-- A step whose instant has come takes effect. -/
def tlStepPast (s : State) : State :=
  match s.tl.step with
  | none => s
  | some d => if d.at_ ≤ s.now then tlTakeStep d s else s

/-! Measurement of the lane delays (R60). -/

/-- CAL is written 1: ignored while CAL_BUSY = 1. -/
def tlCal (s : State) : State :=
  if s.on tlB R.TL_STATUS_CAL_BUSY then s
  else { s.wr tlB R.TL_STATUS_CAL_BUSY 1 with tl := { s.tl with calRun := true } }

/-- The measurement completes: lanes whose LSnn is off keep their old delay; the new ones take effect at the next match, or
at once in FREE. -/
def dlyMeasured (l : List (Nat × Nat)) (s : State) : State :=
  if s.tl.calRun then
    let got := l.filter (fun e => s.domOn e.1)
    let s := s.wr tlB R.TL_STATUS_CAL_BUSY 0
    let s := { s with tl := { s.tl with calRun := false, newDly := s.tl.newDly ++ got } }
    if s.tlState == 0 then dlyTake s else s
  else s

/-- A lane's delay is measured before its DIG_RDY (R60): what the loop-back finds is a free value. -/
def dlyPowerUp (n : Nat) (s : State) : State := laneDly n (s.draw % 2 ^ 16) s.drawn

/-! Pulses (R55, R57, R58, R65). -/

/-- The first pulse in SEEK loads TLV. -/
def tlSeekLoad (s : State) : State := tlGo 2 (tlLoadEpoch s)

/-- The first pulse after the realignment resolves a coast (R65). -/
def tlResolve (s : State) : State :=
  if s.tl.step.isSome then s
  else if s.unc < tlInterval s / 2 then
    let p := s.tlv.toNat
    let i := tlInterval s
    let k := (((p : Int) - tlEpoch s + i / 2) / i).toNat
    let e := tlEpoch s + k * i
    { s with tl := { s.tl with step := some ⟨s.now + 16384, (e : Int) - p, true⟩, expect := e + i } }
  else
    let s := (uncStop s).wr tlB R.TL_STATUS_AMBIG 1
    (tlGo 1 s).raise 0x422

/-- A match (R57): new lane delays take effect (R60), and the watch chains that ask for it are reset (R282). -/
def tlMatch (s : State) : State :=
  let e := s.tl.expect
  let s := s.cnt tlB R.TL_SYNC_CNT_OK 1
  let s := { s with tl := { s.tl with firstErr := none, misses := 0, expect := e + tlInterval s } }
  let s := watchSync e (dlyTake s)
  if s.tlState == 3 then tlGo 2 s else s

/-- A mismatch by `err` cycles (R57, R58): the second of a pair makes a step due. DESIGN CHOICE: it moves E on by
SYNC_INTERVAL and ends a run of misses, neither of which the spec states. -/
def tlMismatch (err : Int) (s : State) : State :=
  let s := (s.cnt tlB R.TL_SYNC_BAD_MISMATCH 1).wr tlB R.TL_SYNC_ERR_ERR (trunc 32 err)
  let s := s.raise 0x422
  let pair := s.tl.firstErr == some err && s.tl.step.isNone
  { s with tl := { s.tl with
      firstErr := if pair then none else some err
      step := if pair then some ⟨s.now + 16384, -err * 250, false⟩ else s.tl.step
      misses := 0
      expect := s.tl.expect + tlInterval s } }

/-- A pulse in LOCKED or HOLDOVER (R57), with the injections of R78. -/
def tlClassify (s : State) : State :=
  let d := (s.tlv.toNat : Int) - s.tl.expect
  if s.tl.injErr then tlMismatch 1 { s with tl := { s.tl with injErr := false } }
  else if s.rd tlB R.TL_SYNC_CFG_WINDOW * 250 < d.natAbs then (s.cnt tlB R.TL_SYNC_BAD_SPURIOUS 1).raise 0x422
  else if s.tl.injMiss then s
  else if d == 0 then tlMatch s
  else tlMismatch (d.tdiv 250) s

/-- TL_CLK edges ahead: true time until the edge that follows by `cycles` the next one. -/
def tlEdge (cycles : Nat) (s : State) : Nat := (250 - s.now % 250) % 250 + cycles * 250

/-- A TL_SYNC pulse is sampled (R57). After TL_SYNC was found stuck, one is recognised only 16 cycles on (R514). -/
def tlPulse (cycles : Nat) (s : State) : State :=
  let s := s.advance (tlEdge cycles s)
  if !s.bbOn then s
  else if s.syncBad.any (fun t => decide (s.now < t + 16 * 250)) then s
  else
    let s := tlStepPast { s with syncBad := none }
    let s := tlInjOver s
    if s.tl.lost then s
    else
      match s.tlState with
      | 1 => tlSeekLoad s
      | 2 => tlClassify s
      | 3 => tlClassify s
      | 4 => if s.tl.realigned then tlResolve s else s
      | _ => s

/-- No pulse by E + WINDOW (R57, R59). -/
def tlMiss (s : State) : State :=
  if s.bbOn && (s.tlState == 2 || s.tlState == 3) then
    let s := s.advance (s.tl.expect + s.rd tlB R.TL_SYNC_CFG_WINDOW * 250 - s.tlv.toNat)
    let s := s.cnt tlB R.TL_SYNC_CNT_MISS 1
    let s := { s with tl := { s.tl with injMiss := false, firstErr := none, misses := s.tl.misses + 1,
                                        expect := s.tl.expect + tlInterval s } }
    if s.tlState == 2 && decide (max 1 (s.rd tlB R.TL_SYNC_CFG_LOSS_N) ≤ s.tl.misses) then (tlGo 3 s).raise 0x421 else s
  else s

/-! TL.CTRL and TL.STATUS. -/

/-- ENABLE goes from 0 to 1 (R55, R56): TLV is loaded at the TL_CLK edge that follows, so that TLV at every edge is
congruent to EPOCH modulo 250 (R65). -/
def tlStart (s : State) : State :=
  let s := if s.tl.lost then s else s.advance (tlEdge 0 s)
  let s := tlLoadEpoch (if tlSync s then tlGo 1 s else tlFree s)
  let s := { s with tl := { s.tl with startAt := s.now } }
  if s.tl.lost then tlCoast s else s

/-- ENABLE goes from 1 to 0 (R56): a step that is due is dropped, and a DISPATCHED entry keeps the real time of its X. -/
def tlStop (s : State) : State :=
  let s := uncStop s
  let held (i : Nat) (a : ActSt) : ActSt :=
    if s.rd (Obj.act i).base R.TL_ACT_STATUS_STATE == 3 && !a.held then
      { a with due := s.now + (a.x - s.tlv.toNat), held := true }
    else a
  let s := { s with acts := mapVals ActSt.idle held s.acts }
  tlGo 5 { s with tl := { s.tl with step := none, firstErr := none } }

/-- MODE has been written with ENABLE = 1 (R56). -/
def tlMode (s : State) : State :=
  let m := tlSync s
  match s.tlState with
  | 0 => if m then tlGo 1 s else s
  | 4 => if !m && s.tl.realigned then tlFree { s with tl := { s.tl with step := none } } else s
  | 5 => s
  | _ => if m then s else tlFree { s with tl := { s.tl with step := none, firstErr := none } }

/-- TL.CTRL has been written: `old` is the word before it, `w` the word written. -/
def tlCtrl (old w : Word) (s : State) : State :=
  let en := fget w 0 0 == 1
  let s := if fget old 0 0 == 0 && en then tlStart s
    else if fget old 0 0 == 1 && !en then tlStop s
    else if en && fget old 1 1 != fget w 1 1 then tlMode s
    else s
  let s := if fget w 2 2 == 1 then tlCal s else s
  let s := { s with tl := { s.tl with
    injErr := s.tl.injErr || fget w 27 27 == 1
    injMiss := s.tl.injMiss || fget w 28 28 == 1
    injLate := s.tl.injLate || fget w 29 29 == 1
    injReject := s.tl.injReject || fget w 30 30 == 1 } }
  if fget w 31 31 == 1 then tlInjLoss s else s

/-- TL.STATUS is written (R65): the part ignores a clear of COASTED while the state is COAST. -/
def tlStatus (w : Word) (s : State) : State :=
  let s := if fget w 7 7 == 1 then s.wr tlB R.TL_STATUS_BOUND_EXCEEDED 0 else s
  if fget w 3 3 == 1 && s.tlState != 4 then uncClear s else s

/-! The ember counter (R63, R64). -/

/-- A 2^24-cycle window ends: `rate` is what it measured. -/
def emberWindow (rate : Nat) (s : State) : State :=
  match s.tl.rateFrom with
  | none => s
  | some t =>
    if s.bbOn then
      let s := s.advanceNow (t + 2 ^ 24 * 250)
      let s := (s.wr tlB R.TL_EMBER_RATE_RATE rate).wr tlB R.TL_STATUS_RATE_VALID 1
      { s with tl := { s.tl with rateFrom := some s.now } }
    else s

/-- The timeline at REST entry (R64, path 2). -/
def tlRest (s : State) : State :=
  let s := { s with tl := { s.tl with rateFrom := none } }
  if s.counting then
    let s := tlAnchor (uncStop s)
    { s with tl := { s.tl with step := none, firstErr := none } }
  else s

/-- TL.EMBER_ALARM is converted to an ember count as REST is requested (R67): the LPO cycles to come, rounded up; none where
the alarm has passed. -/
def tlAlarmSet (s : State) : State :=
  let a := s.rd64 tlB R.TL_EMBER_ALARM_LO_ALARM R.TL_EMBER_ALARM_HI_ALARM
  let rate := max 1 (s.rd tlB R.TL_EMBER_RATE_RATE)
  let hit := s.ember + ((a - s.tlv.toNat) * 256 + rate - 1) / rate
  { s with tl := { s.tl with alarmAt := if s.on tlB R.TL_EMBER_CTRL_ALARM_EN then some hit else none } }

/-- The timeline at wake (R64): TLV is reconstructed from the ember counter, and realigned where TL_CLK is present. -/
def tlWake (s : State) : State :=
  let s := { s with tl := { s.tl with rateFrom := if s.tl.lost then none else some s.now } }
  if s.counting then
    let a := s.rd64 tlB R.TL_EMBER_ANCHOR_LO_ANCHOR R.TL_EMBER_ANCHOR_HI_ANCHOR
    let el := (s.ember + 2 ^ 48 - s.tl.anchorEmber) % 2 ^ 48 * s.rd tlB R.TL_EMBER_RATE_RATE / 256
    let s := { s with tl := { s.tl with tlv := BitVec.ofNat 64 (a + el), realigned := false, misses := 0 } }
    let s := (uncStart (restCause s) a s).wr tlB R.TL_STATUS_COASTED 1
    let s := (tlGo 4 s).raise 0x424
    let s := repSync s
    if s.tl.lost then uncStart (lossCause s) s.tlv.toNat (uncStop s) else tlBack s
  else s

/-- Every 1,024 TL_CLK cycles the lanes' replicas of TLV are corrected (R60). -/
def replicaCorrect (s : State) : State :=
  repSync (s.advanceNow (s.tl.corrAt + 256000))

end Sys2Proof.Machine
end

