-- ==== Sys2Proof/Machine/NcpOps.lean ====
section
/-! DEFINITION. The management port and the sessions of the NCP engine (14): port states, the frames that the port
answers, datagrams sent and kept, events, and the opening and closing of sessions. -/

namespace Sys2Proof.Machine


/-- Base for the fields of NCP.SESS[k]. -/
def sessB (k : Nat) : Nat := ncpB + 0x10 * k

/-- What a session slot holds. -/
def State.sessOf (s : State) (k : Nat) : SessSt := look SessSt.free s.sess k
def State.setSess (s : State) (k : Nat) (x : SessSt) : State := { s with sess := put SessSt.free s.sess k x }

/-- Slot k holds an open session. -/
def State.sessOpen (s : State) (k : Nat) : Bool := s.rd (sessB k) R.NCP_SESS_STAT_STATE == 1

/-- The engine and the port have power. -/
def State.meOn (s : State) : Bool := s.domOn 83 && s.bbOn

/-- The port is UP. -/
def State.portUp (s : State) : Bool := s.meOn && s.rd ncpB R.NCP_PORT_STATUS_STATE == 2

/-- The port sends a frame or datagram, where it is UP. -/
def portSend (bs : List Byte) (s : State) : State := if s.portUp then { s with portTx := s.portTx ++ [bs] } else s

/-- IP bytes that a datagram may take (NET_CFG.MTU). -/
def ncpMtu (s : State) : Nat := min 9000 (max 1280 (s.rd ncpB R.NCP_NET_CFG_MTU))

/-- Bytes of messages that one datagram of a session may carry (R389). -/
def msgRoom (k : Nat) (s : State) : Nat := ncpMtu s - ((if (s.sessOf k).ip.length == 16 then 48 else 28) + 20)

/-- SEQ a is at or before SEQ b (R400). -/
def seqLe (a b : Nat) : Bool := decide ((b + 2 ^ 32 - a) % 2 ^ 32 < 2 ^ 31)

/-- RTO in ticks. -/
def rtoT (s : State) : Nat := usT (10 * max 1 (s.rd ncpB R.NCP_SESS_CFG_RTO))

/-! Datagrams (R389, R400, R401). -/

/-- A datagram's bytes: header and messages. -/
def dgramBytes (k flags seq : Nat) (msgs : List Byte) (s : State) : List Byte :=
  let x := s.sessOf k
  beBytes 2 0x4E50 ++ [1, BitVec.ofNat 8 flags] ++ beBytes 2 (s.rd (sessB k) R.NCP_SESS_STAT_SESSION) ++
    beBytes 2 msgs.length ++ beBytes 4 seq ++ beBytes 4 x.expect ++ beBytes 4 (x.expect + 255) ++ msgs

/-- A message: type, OPT or STATUS, body and tag. -/
def ncpMsgBytes (typ opt : Nat) (tag : Word) (body : List Byte) : List Byte :=
  beBytes 1 typ ++ beBytes 1 opt ++ beBytes 2 body.length ++ beBytes 4 tag.toNat ++ body

/-- A new datagram may be sent: the host's credit and the store allow it. -/
def canSend (k : Nat) (s : State) : Bool :=
  let x := s.sessOf k
  decide (x.store.length < 512) && seqLe x.seq x.credit

/-- A datagram enters the store and is sent; INJ_LOSS keeps it from being sent (R404). -/
def dgramSend (k : Nat) (m : NcpMsg) (s : State) : State :=
  let x := s.sessOf k
  let s' := s.setSess k { x with
    seq := (x.seq + 1) % 2 ^ 32
    store := x.store ++ [⟨x.seq, m.bytes, m.answers, m.recs, 1, s.now⟩]
    lastMsgs := m.bytes
    injLoss := false }
  if x.injLoss then s' else portSend (dgramBytes k 0 x.seq m.bytes s') s'

/-- Messages that wait are sent as far as credit and store allow. -/
def sessFlushN : Nat → Nat → State → State
  | 0, _, s => s
  | n + 1, k, s =>
    match (s.sessOf k).waitq with
    | [] => s
    | m :: l => if canSend k s then sessFlushN n k (dgramSend k m (s.setSess k { s.sessOf k with waitq := l })) else s

def sessFlush (k : Nat) (s : State) : State := sessFlushN (s.sessOf k).waitq.length k s

/-- A message of an open session goes out in its turn. -/
def sessSend (k : Nat) (m : NcpMsg) (s : State) : State :=
  if s.sessOpen k then sessFlush k (s.setSess k { s.sessOf k with waitq := (s.sessOf k).waitq ++ [m] }) else s

/-- An ACK_ONLY datagram: it carries the next SEQ and does not consume it (R400). -/
def ackOnly (k : Nat) (nak : Bool) (s : State) : State :=
  portSend (dgramBytes k (if nak then 5 else 1) (s.sessOf k).seq [] s) s

/-- A NAK, at most once per RTO. -/
def sendNak (k : Nat) (s : State) : State :=
  let x := s.sessOf k
  if x.nakTx == 0 || decide (x.nakTx + rtoT s ≤ s.now + 1) then ackOnly k true (s.setSess k { x with nakTx := s.now + 1 }) else s

/-- Some stored datagrams are sent again with RETX = 1. -/
def dgramResend (k : Nat) (p : Dgram → Bool) (s : State) : State :=
  let x := s.sessOf k
  let l := x.store.filter p
  let s := s.setSess k { x with store := x.store.map (fun d => if p d then { d with sent := d.sent + 1, at_ := s.now } else d) }
  let s := s.cnt (sessB k) R.NCP_SESS_CNT_RETX l.length
  l.foldl (fun s d => portSend (dgramBytes k 2 d.seq d.msgs s) s) s

/-- ACK and CREDIT of a received datagram are taken (R400). -/
def takeAck (k ack credit : Nat) (s : State) : State :=
  let x := s.sessOf k
  sessFlush k (s.setSess k { x with
    store := if seqLe ack x.seq then x.store.filter (fun d => seqLe ack d.seq) else x.store
    credit := credit })

/-! Closing and opening (R399). -/

/-- A session closes; a close by the part is announced where the link is UP. -/
def sessClose (k reason : Nat) (s : State) : State :=
  if !s.sessOpen k then s
  else
    let x := s.sessOf k
    let s := if reason == 1 then s
      else portSend (dgramBytes k 0 x.seq (ncpMsgBytes 0x02 0 0 (beBytes 4 reason)) s) s
    let s := if reason == 2 then { s with batches := s.batches.filter (fun b => !(b.slot == k && b.gen == x.gen)) } else s
    let b := sessB k
    let s := (((s.wr b R.NCP_SESS_STAT_STATE 0).wr b R.NCP_SESS_STAT_REASON reason).wr b R.NCP_SESS_STAT_MODE 0).wr b
      R.NCP_SESS_STAT_EVT_SUB 0
    let s := s.setSess k { SessSt.free with gen := x.gen, seq := x.seq, lastMsgs := x.lastMsgs }
    s.raise 0x431

/-- Every session closes. -/
def sessCloseAll (reason : Nat) (s : State) : State := (List.range 4).foldl (fun s k => sessClose k reason s) s

/-- The control session, where there is one. -/
def ctlSess (s : State) : Option Nat :=
  (List.range 4).find? (fun k => s.sessOpen k && s.on (sessB k) R.NCP_SESS_STAT_MODE)

/-- An answer to a host without a session: an ACK_ONLY datagram with SEQ 0. -/
def strayAnswer (session : Nat) (msg : List Byte) (s : State) : State :=
  portSend (beBytes 2 0x4E50 ++ [1, 1] ++ beBytes 2 session ++ beBytes 2 msg.length ++ beBytes 12 0 ++ msg) s

/-- OPEN: mode, takeover, subscription, host SEQ and credit. The part's first SEQ is a free value. -/
def sessStart (peer : NcpPeer) (tag flags seq credit : Word) (s : State) : State :=
  let ctl := flags.getLsbD 0
  let s := match ctlSess s with
    | some k => if ctl && flags.getLsbD 1 then sessClose k 2 s else s
    | none => s
  let slot := if ctl && (ctlSess s).isSome then none else (List.range 4).find? (fun k => !s.sessOpen k)
  match slot with
  | none => strayAnswer 0 (ncpMsgBytes 0x81 6 tag []) s
  | some k =>
    let b := sessB k
    let gen := (s.sessOf k).gen + 1
    let first := s.draw % 2 ^ 32
    let s := s.drawn
    let s := ((s.wr b R.NCP_SESS_STAT_SESSION (gen % 2 ^ 14 * 4 + k)).wr b R.NCP_SESS_STAT_STATE 1).wr b R.NCP_SESS_STAT_MODE
      (b2n ctl)
    let s := (s.wr b R.NCP_SESS_STAT_EVT_SUB (b2n (flags.getLsbD 2))).wr b R.NCP_SESS_PEER_PORT peer.port.toNat
    let s := s.setSess k { SessSt.free with
      gen := gen, ip := peer.ip, expect := (seq.toNat + 1) % 2 ^ 32, seq := first, credit := credit.toNat, lastRx := s.now }
    let s := s.raise 0x431
    let body := beBytes 4 (s.rd b R.NCP_SESS_STAT_SESSION) ++ beBytes 4 first ++ beBytes 4 (seq.toNat + 256) ++
      beBytes 8 s.tlv.toNat
    sessSend k ⟨ncpMsgBytes 0x81 0 tag body, some seq.toNat, 0⟩ s

/-! The port (R387). -/

/-- The port enters TRAINING where it may run. -/
def portStart (s : State) : State :=
  if s.meOn && s.on ncpB R.NCP_PORT_ENABLE && !s.clk.sysxiLoss && s.rd ncpB R.NCP_PORT_STATUS_STATE == 0 then
    s.wr ncpB R.NCP_PORT_STATUS_STATE 1
  else s

/-- The port goes DOWN. -/
def portDown (s : State) : State :=
  let up := s.rd ncpB R.NCP_PORT_STATUS_STATE == 2
  let s := s.wr ncpB R.NCP_PORT_STATUS_STATE 0
  if up then (s.cnt ncpB R.NCP_PORT_STATUS_LINK_DOWNS 1).raise 0x430 else s

/-- Training ends. -/
def portTrained (s : State) : State :=
  if s.meOn && s.rd ncpB R.NCP_PORT_STATUS_STATE == 1 then (s.wr ncpB R.NCP_PORT_STATUS_STATE 2).raise 0x430 else s

/-- The link fails: the port restarts at once. -/
def portFail (s : State) : State := if s.portUp then portStart (portDown s) else s

/-- PORT_RST (R403): sessions close with reason 6, and the port restarts. -/
def portReset (s : State) : State := portStart (portDown (sessCloseAll 6 s))

/-- NCP.PORT has been written. -/
def portWritten (rst : Bool) (s : State) : State :=
  let s := if s.on ncpB R.NCP_PORT_ENABLE then portStart s else portDown s
  if rst then portReset s else s

/-- The ME domain goes down (R399 reason 6, R445). -/
def ncpOff (s : State) : State := portDown (sessCloseAll 6 s)

/-! Retransmission (R399, R401). -/

/-- The unacknowledged datagrams go again, or the session closes after RETRY_MAX + 1 sendings. -/
def goBackN (k : Nat) (s : State) : State :=
  match (s.sessOf k).store with
  | [] => s
  | d :: _ =>
    if s.rd ncpB R.NCP_SESS_CFG_RETRY_MAX + 1 ≤ d.sent then sessClose k 4 (s.raise 0x432) else dgramResend k (fun _ => true) s

/-- RTO of the oldest unacknowledged datagram. -/
def rtoExpire (k : Nat) (s : State) : State :=
  match (s.sessOf k).store with
  | [] => s
  | d :: _ => if s.meOn && s.sessOpen k then goBackN k (s.advanceNow (d.at_ + rtoT s)) else s

/-- A NAK is taken, at most once per RTO. -/
def takeNak (k : Nat) (s : State) : State :=
  let x := s.sessOf k
  if x.nakRx == 0 || decide (x.nakRx + rtoT s ≤ s.now + 1) then goBackN k (s.setSess k { x with nakRx := s.now + 1 }) else s

/-- The idle time-out (R399). -/
def sessIdle (k : Nat) (s : State) : State :=
  let t := s.rd ncpB R.NCP_SESS_CFG_IDLE_TO
  if s.meOn && s.sessOpen k && t != 0 then sessClose k 3 (s.advanceNow ((s.sessOf k).lastRx + usT (100000 * t))) else s

/-! Events (R397). -/

/-- A record is dropped: EV_NCP_EVT_LOST once for each run of drops. -/
def evDrop (k : Nat) (s : State) : State :=
  let x := s.sessOf k
  let s := (s.setSess k { x with lostEv := x.lostEv + 1, lostAll := x.lostAll + 1, lostRun := true }).cnt (sessB k)
    R.NCP_SESS_CNT_EVT_LOST 1
  if x.lostRun then s else s.raise 0x433

/-- A record joins a session's queue of 4,096. -/
def evPush (k : Nat) (r : EvRec) (s : State) : State :=
  let x := s.sessOf k
  if x.injEvt then evDrop k (s.setSess k { x with injEvt := false })
  else if 4096 ≤ x.evq.length then evDrop k s
  else s.setSess k { x with evq := x.evq ++ [r], lostRun := false }

/-- HOLDOFF in ticks. -/
def holdT (s : State) : Nat := usT (s.rd ncpB R.NCP_SESS_CFG_HOLDOFF)

/-- No record of an ID yet. -/
def HoldOff.none : HoldOff := ⟨0, Option.none⟩

/-- The merged raises of an ID go out as one record when their holdoff ends. -/
def holdFlush (k id : Nat) (s : State) : State :=
  let x := s.sessOf k
  let h := look HoldOff.none x.hold id
  match h.merged with
  | some m => evPush k m (s.setSess k { x with hold := put HoldOff.none x.hold id ⟨h.at_ + holdT s, none⟩ })
  | none => s

/-- A raise reaches a subscribed session: merged within the holdoff, else a record of its own. -/
def evRaise (k : Nat) (r : Raise) (s : State) : State :=
  let s := if s.now < (look HoldOff.none (s.sessOf k).hold r.id).at_ + holdT s then s else holdFlush k r.id s
  let x := s.sessOf k
  let rec_ : EvRec := ⟨r.tlv.toNat, r.id, r.tq + r.cls * 4, r.seq, 1⟩
  let seen := x.hold.any (fun e => e.1 == r.id)
  let h := look HoldOff.none x.hold r.id
  if seen && decide (s.now < h.at_ + holdT s) then
    let m := match h.merged with
      | some m => { m with rep := m.rep + 1 }
      | none => rec_
    s.setSess k { x with hold := put HoldOff.none x.hold r.id ⟨h.at_, some m⟩ }
  else evPush k rec_ (s.setSess k { x with hold := put HoldOff.none x.hold r.id ⟨s.now, none⟩ })

/-- A raise with the reaction HOST becomes a record of every subscribed session. -/
def ncpEvents (r : Raise) (s : State) : State :=
  if r.host && s.meOn then
    (List.range 4).foldl (fun s k =>
      if s.sessOpen k && s.on (sessB k) R.NCP_SESS_STAT_EVT_SUB then evRaise k r s else s) s
  else s

/-- The holdoff of an ID ends: the merged raises go out as one record. -/
def holdEnd (k id : Nat) (s : State) : State :=
  let h := look HoldOff.none (s.sessOf k).hold id
  if h.merged.isSome && s.meOn && s.sessOpen k then holdFlush k id (s.advanceNow (h.at_ + holdT s)) else s

/-- A record's 16 bytes. -/
def EvRec.bytes (r : EvRec) : List Byte :=
  beBytes 8 r.t ++ beBytes 2 r.id ++ beBytes 1 r.tqCls ++ beBytes 1 r.seq ++ beBytes 4 r.rep

/-- The engine sends pending records where credit allows: at most 256, within the MTU. -/
def evSend (k : Nat) (s : State) : State :=
  let x := s.sessOf k
  if s.meOn && s.sessOpen k && !x.evq.isEmpty && x.waitq.isEmpty && canSend k s then
    let n := min 256 ((msgRoom k s - 12) / 16)
    let rs := x.evq.take n
    let body := beBytes 4 x.lostEv ++ rs.flatMap EvRec.bytes
    sessSend k ⟨ncpMsgBytes 0x30 0 0 body, none, rs.length⟩ (s.setSess k { x with evq := x.evq.drop n, lostEv := 0 })
  else s

/-! DIGEST (R398). -/

/-- The byte of lane n. -/
def digestLane (n : Nat) (s : State) : Nat :=
  if s.domOn n then
    s.rxState n + s.rd (laneB n) R.TX_STATUS_STATE * 8 + s.rd (laneB n) R.RX_STATUS_LOS * 32 +
      s.rd (laneB n) R.EQ_STATUS_MSE_HIGH * 64
  else 0

/-- The body of a DIGEST response of slot k. -/
def digestBody (k : Nat) (s : State) : List Byte :=
  let w (a : Nat) : List Byte := beBytes 4 (s.getReg a).toNat
  let b (v : Nat) : Byte := BitVec.ofNat 8 v
  beBytes 8 s.tlv.toNat ++ w (tlB + R.TL_STATUS_STATE.off) ++ w (glbB + 0x24) ++
    (List.range 36).flatMap (fun i => w (evtB + 4 * i)) ++
    (List.range 64).map (fun n => b (digestLane n s)) ++
    (List.range 8).map (fun o => b (s.rd (octB o) R.OCT_SYN_STATUS_STATE)) ++
    (List.range 64).map (fun i => b (if s.domOn (78 + i / 16) then s.rd (grpB (i / 16) (i % 16)) R.FE_GRP_STAT_STATE else 255)) ++
    (List.range 256).map (fun p => b (plotState p s)) ++
    (List.range 64).map (fun r => b (rpState r s)) ++
    beBytes 4 (s.sessOf k).lostAll

/-! Frames that the port answers (R388). A frame is given from its destination address to its last byte before the FCS. -/

/-- The part's MAC address. -/
def macOf (s : State) : List Byte :=
  beBytes 2 (s.rd ncpB R.NCP_MAC_HI_MAC) ++ beBytes 4 (s.rd ncpB R.NCP_MAC_LO_MAC)

/-- The part's IPv4 address. -/
def ip4Of (s : State) : List Byte := beBytes 4 (s.rd ncpB R.NCP_IP4_ADDR)

/-- The part's global IPv6 address. -/
def ip6Of (s : State) : List Byte := (List.range 4).flatMap (fun i => beBytes 4 (s.rd (ncpB + 4 * i) R.NCP_IP6_ADDR))

/-- The link-local address of modified EUI-64. -/
def llOf (s : State) : List Byte :=
  let m := macOf s
  [0xFE, 0x80, 0, 0, 0, 0, 0, 0, m.getD 0 0 ^^^ 2, m.getD 1 0, m.getD 2 0, 0xFF, 0xFE, m.getD 3 0, m.getD 4 0, m.getD 5 0]

/-- The offset of a frame's ethertype, where its tagging is accepted. -/
def tagOfs (f : List Byte) (s : State) : Option Nat :=
  if s.on ncpB R.NCP_NET_CFG_VLAN_EN then
    (if fb16 f 12 == 0x8100 && fb16 f 14 % 4096 == s.rd ncpB R.NCP_NET_CFG_VID then some 16 else none)
  else if fb16 f 12 == 0x8100 then none
  else some 12

/-- A frame sent in reply: to a MAC address, tagged where VLAN_EN = 1. -/
def replyFrame (dst : List Byte) (etype : Nat) (payload : List Byte) (s : State) : List Byte :=
  let tag := if s.on ncpB R.NCP_NET_CFG_VLAN_EN then beBytes 2 0x8100 ++ beBytes 2 (s.rd ncpB R.NCP_NET_CFG_VID) else []
  dst ++ macOf s ++ tag ++ beBytes 2 etype ++ payload

/-- What the port makes of a frame. -/
inductive PortFrame where
  | foreign
  | arp (mac ip : List Byte)
  | ns (mac src target : List Byte)
  | echo4 (mac src dst data : List Byte)
  | echo6 (mac src dst data : List Byte)
  | ncp (peer : NcpPeer) (data : List Byte)
  deriving DecidableEq, Repr

/-- The Internet checksum over a list, with a pseudo-header sum, is right. -/
def sumOk (pseudo : Nat) (bs : List Byte) : Bool := inetSum (pseudo + sum16 bs) == 0

/-- An IPv4 packet for the part. -/
def parseV4 (mac p : List Byte) (s : State) : PortFrame :=
  let len := fb16 p 2
  let src := (p.drop 12).take 4
  let dst := (p.drop 16).take 4
  let d := (p.take len).drop 20
  if fb p 0 != 0x45 || p.length < len || len < 28 || !sumOk 0 (p.take 20) || fb16 p 6 % 16384 != 0 ||
      dst != ip4Of s || s.rd ncpB R.NCP_IP4_ADDR == 0 then .foreign
  else if fb p 9 == 1 then
    (if fb d 0 == 8 && fb d 1 == 0 && sumOk 0 d && decide (len ≤ ncpMtu s) then .echo4 mac src dst (d.drop 4) else .foreign)
  else if fb p 9 == 17 && fb16 d 2 == 47710 && decide (8 ≤ fb16 d 4 ∧ fb16 d 4 ≤ d.length) &&
      (fb16 d 6 == 0 || sumOk (sum16 (src ++ dst) + 17 + fb16 d 4) (d.take (fb16 d 4))) then
    .ncp ⟨src, BitVec.ofNat 16 (fb16 d 0)⟩ ((d.take (fb16 d 4)).drop 8)
  else .foreign

/-- An IPv6 packet for the part. -/
def parseV6 (mac p : List Byte) (s : State) : PortFrame :=
  let len := fb16 p 4
  let src := (p.drop 8).take 16
  let dst := (p.drop 24).take 16
  let d := (p.drop 40).take len
  let nh := fb p 6
  let mine := fun a => a == llOf s || (a == ip6Of s && a != List.replicate 16 0)
  let ok := sumOk (sum16 (src ++ dst) + nh + len) d
  if fb p 0 / 16 != 6 || p.length < 40 + len || !ok then .foreign
  else if nh == 58 && fb d 0 == 135 && fb p 7 == 255 && fb d 1 == 0 && mine ((d.drop 8).take 16) &&
      (mine dst || (dst.take 13 == [0xFF, 2, 0, 0, 0, 0, 0, 0, 0, 0, 0, 1, 0xFF] && dst.drop 13 == (d.drop 21).take 3)) then
    .ns mac src ((d.drop 8).take 16)
  else if !mine dst then .foreign
  else if nh == 58 && fb d 0 == 128 && fb d 1 == 0 && decide (40 + len ≤ ncpMtu s) then .echo6 mac src dst (d.drop 4)
  else if nh == 17 && fb16 d 2 == 47710 && decide (8 ≤ fb16 d 4 ∧ fb16 d 4 ≤ len) && fb16 d 6 != 0 then
    .ncp ⟨src, BitVec.ofNat 16 (fb16 d 0)⟩ ((d.take (fb16 d 4)).drop 8)
  else .foreign

/-- The port's classification of a frame. -/
def parsePort (f : List Byte) (s : State) : PortFrame :=
  let dst := f.take 6
  let mac := (f.drop 6).take 6
  match tagOfs f s with
  | none => .foreign
  | some o =>
    let p := f.drop (o + 2)
    let own := dst == macOf s
    if 9216 < f.length then .foreign
    else if fb16 f o == 0x0806 && (own || dst == List.replicate 6 255) then
      (if p.take 8 == [0, 1, 8, 0, 6, 4, 0, 1] && (p.drop 24).take 4 == ip4Of s && s.rd ncpB R.NCP_IP4_ADDR != 0 then
        .arp mac ((p.drop 14).take 4) else .foreign)
    else if fb16 f o == 0x0800 && own then parseV4 mac p s
    else if fb16 f o == 0x86DD && own then parseV6 mac p s
    else if fb16 f o == 0x86DD && dst.take 3 == [0x33, 0x33, 0xFF] then
      (match parseV6 mac p s with
      | .ns m a t => if dst.drop 3 == t.drop 13 then .ns m a t else .foreign
      | _ => .foreign)
    else .foreign

/-- An IPv6 packet of ICMPv6; its hop limit is 255. -/
def icmp6 (src dst body : List Byte) : List Byte :=
  let c := inetSum (sum16 (src ++ dst) + 58 + body.length + sum16 body)
  [0x60, 0, 0, 0] ++ beBytes 2 body.length ++ [58, 255] ++ src ++ dst ++ splice body 2 (beBytes 2 c)

/-- The port's answer to a frame that is not NCP. -/
def portAnswer (x : PortFrame) (s : State) : State :=
  match x with
  | .foreign => s.cnt ncpB R.NCP_CNT_DROP_FOREIGN 1
  | .arp mac ip => portSend (replyFrame mac 0x0806
      ([0, 1, 8, 0, 6, 4, 0, 2] ++ macOf s ++ ip4Of s ++ mac ++ ip) s) s
  | .ns mac src target =>
    let anon := src == List.replicate 16 0
    let dst := if anon then [0xFF, 2, 0, 0, 0, 0, 0, 0, 0, 0, 0, 0, 0, 0, 0, 1] else src
    portSend (replyFrame mac 0x86DD (icmp6 target dst
      ([136, 0, 0, 0, if anon then 0x20 else 0x60, 0, 0, 0] ++ target ++ [2, 1] ++ macOf s)) s) s
  | .echo4 mac src dst data =>
    let v := s.draw
    let body := [0, 0, 0, 0] ++ data
    let body := splice body 2 (beBytes 2 (inetSum (sum16 body)))
    let h := [0x45, 0] ++ beBytes 2 (20 + body.length) ++ beBytes 2 (v / 256) ++ [0, 0, BitVec.ofNat 8 v, 1, 0, 0] ++ dst ++ src
    let h := splice h 10 (beBytes 2 (inetSum (sum16 h)))
    portSend (replyFrame mac 0x0800 (h ++ body) s) s.drawn
  | .echo6 mac src dst data => portSend (replyFrame mac 0x86DD (icmp6 dst src ([129, 0, 0, 0] ++ data)) s) s
  | .ncp _ _ => s

end Sys2Proof.Machine
end

