-- ==== Sys2Proof/Machine/ClkOps.lean ====
section
/-! DEFINITION. The clock block (16): monitors, the fallback to the IRO and the resume, the loss of SYS_XI, clock gates,
the dividers and the clock outputs. -/

namespace Sys2Proof.Machine

/-- CLK.STATUS.STATE. -/
def State.clkState (s : State) : Nat := s.rd clkB R.CLK_STATUS_STATE

/-- What a rotation unit holds. -/
def State.rotOf (s : State) (u : Nat) : RotSt := look RotSt.idle s.rot u
def State.setRot (s : State) (u : Nat) (x : RotSt) : State := { s with rot := put RotSt.idle s.rot u x }

/-- What a switched domain, or the shade of unit u as 84 + u, holds. -/
def State.domOf (s : State) (d : Nat) : DomSt := look DomSt.idle s.doms d
def State.setDom (s : State) (d : Nat) (x : DomSt) : State := { s with doms := put DomSt.idle s.doms d x }

/-- The rotation step of a unit is abandoned and its shade powered down (R487). -/
def rotAbandon (u : Nat) (s : State) : State :=
  let s := s.wr (bistB + 4 * u) R.BIST_ROT_STAT_STEP 0
  let s := s.setRot u { s.rotOf u with redo := false, relieved := none, swap := none }
  s.setDom (84 + u) DomSt.idle

/-- SCLK cycles over some ticks of true time, in the clock state that holds: CCLK / SCLK_ACT, the IRO in SAFE, none while
the clock is gated (R380, R427, R430). -/
def sclkCycles (d : Nat) (s : State) : Nat :=
  if s.rd pwrB R.PWR_STATUS_STATE == 3 || s.clkState == 1 then 0
  else if s.clkState == 0 then s.cclks (max 1 (s.rd clkB R.CLK_DIV_SCLK_ACT)) d
  else Config.iroCycles d

/-- CYCLE of every core, and the count of PCLK cycles, are brought up to date before the rate of a clock changes. -/
def cyclesSync (s : State) : State :=
  { pclkSync s with cores := mapVals CoreSt.reset (fun _ c =>
      { c with cycle := min (2 ^ 64 - 1) (c.cycle + sclkCycles (s.now - c.cycleAt) s), cycleAt := s.now }) s.cores }

/-! Fallback to the IRO (R430 to R432). -/

/-- What clock SAFE does to the rest of the part (R431). -/
def safeEffects (s : State) : State :=
  let s := (List.range 8).foldl (fun s o => synLref true o s) s
  (List.range 8).foldl (fun s u => rotAbandon u s) (tlTimebase s)

/-- Entry to SAFE, step 1: the clocks are gated and CAUSE is written. -/
def safeEnter (cause : Nat) (s : State) : State :=
  let inj := s.clk.injIro
  let s := (((cyclesSync s).wr clkB R.CLK_STATUS_STATE 1).wr clkB R.CLK_STATUS_CAUSE cause).wr clkB R.CLK_STATUS_CORE_LOCK 0
  let s := if inj then s.wr clkB R.CLK_STATUS_IRO_RDY 0 else s
  safeEffects { s with clk := { s.clk with at_ := s.now, withheld := inj, injIro := false } }

/-- SCLK and PCLK run from the IRO: SAFE, EV_CLK_FAIL. -/
def safeReached (s : State) : State :=
  (((cyclesSync s).wr clkB R.CLK_STATUS_STATE 2).cnt clkB R.CLK_CNT_FAILS 1).raise 0x3F0

/-- The IRO is ready: step 3 of the entry to SAFE, or the end of standby. -/
def iroReady (s : State) : State :=
  if s.clkState == 1 then
    (if s.clk.withheld then s else safeReached (s.wr clkB R.CLK_STATUS_IRO_RDY 1))
  else if s.clkState == 0 && s.bbOn && !s.on clkB R.CLK_CTRL_IRO_STBY then s.wr clkB R.CLK_STATUS_IRO_RDY 1
  else s

/-- No IRO_RDY by 50 µs (R430 step 3′). -/
def iroFail (s : State) : State :=
  if s.clkState == 1 then
    ((s.advanceNow (s.clk.at_ + usT 50)).wr clkB R.CLK_STATUS_IRO_FAIL 1).raise 0x3F5
  else s

/-- A resume starts (R432). -/
def clkResume (s : State) : State :=
  if s.clkState == 2 && s.on clkB R.CLK_STATUS_LREF_OK then
    { s.wr clkB R.CLK_STATUS_STATE 3 with clk := { s.clk with at_ := s.now } }
  else s

/-- A resume fails: SAFE again, as an entry to it. -/
def resumeFail (cause : Nat) (s : State) : State := safeReached (s.wr clkB R.CLK_STATUS_CAUSE cause)

/-- No lock within 200 µs of the resume. -/
def resumeTimeout (s : State) : State :=
  if s.clkState == 3 then resumeFail 2 (s.advanceNow (s.clk.at_ + usT 200)) else s

/-! Clock gates (R436, R437). -/

/-- A closure request of gate g starts to wait for bus-idle. -/
def gateRequest (g : Nat) (inj : Bool) (s : State) : State :=
  { s with clk := { s.clk with gates := put ⟨0, false⟩ s.clk.gates g ⟨s.now + 1, inj⟩ } }

/-- The request of gate g ends. -/
def gateForget (g : Nat) (s : State) : State := { s with clk := { s.clk with gates := eraseKey s.clk.gates g } }

/-- Gate g reads closed, or open. -/
def gateSet (g : Nat) (shut : Bool) (s : State) : State :=
  let w := s.rd clkB R.CLK_GATE_STAT_CLOSED
  s.wr clkB R.CLK_GATE_STAT_CLOSED (if shut then setBit w g else clrBit w g)

/-- One bit of CLK.GATE has been written: `old` and `new` are its values. A request in SAFE is held. -/
def gateBit (old new g : Nat) (s : State) : State :=
  let o := old / 2 ^ g % 2
  let n := new / 2 ^ g % 2
  if o == 0 && n == 1 then
    (if s.clkState == 0 then gateRequest g s.clk.injGate { s with clk := { s.clk with injGate := false } } else s)
  else if o == 1 && n == 0 then gateSet g false (gateForget g s)
  else s

/-- CLK.GATE has been written. -/
def gateWritten (old new : Nat) (s : State) : State := (List.range 14).foldl (fun s g => gateBit old new g s) s

/-- Requests held in SAFE act at the resume. -/
def gatesHeld (s : State) : State :=
  (List.range 14).foldl (fun s g =>
    if s.rd clkB R.CLK_GATE_CLOSE / 2 ^ g % 2 == 1 && !s.gateShut g && !(s.clk.gates.any (fun e => e.1 == g)) then
      gateRequest g false s else s) s

/-- The clock gate of the block at an address (R436). -/
def gateOf (a : Nat) : Option Nat :=
  match place a with
  | .reg (.fe e) _ => some e
  | .reg (.mc m) _ => some (4 + m)
  | .core k _ _ => if k < 16 then some 10 else none
  | .reg .hk _ => some 11
  | .reg .cal _ => some 12
  | .reg .bist _ => some 13
  | _ => none

/-- Bus-idle comes, with no access queued for the block: the gate closes. -/
def gateClose (g : Nat) (s : State) : State :=
  let r := look ⟨0, false⟩ s.clk.gates g
  if s.bbOn && r.at_ != 0 && !r.inj && !s.waiting.any (fun a => gateOf a.addr == some g) then gateSet g true (gateForget g s) else s

/-- No bus-idle within 10 µs: the request is refused. -/
def gateRefuse (g mid : Nat) (s : State) : State :=
  let r := look ⟨0, false⟩ s.clk.gates g
  if s.bbOn && r.at_ != 0 then
    let s := gateForget g (s.advanceNow (r.at_ - 1 + usT 10))
    let s := (s.wr clkB R.CLK_GATE_CLOSE (clrBit (s.rd clkB R.CLK_GATE_CLOSE) g)).cnt clkB R.CLK_CNT_GATE_REFUSED 1
    let s := if s.on clkB R.CLK_GATE_REF_VALID then s
      else ((s.wr clkB R.CLK_GATE_REF_VALID 1).wr clkB R.CLK_GATE_REF_BLOCK g).wr clkB R.CLK_GATE_REF_MASTER mid
    s.raise 0x3F4
  else s

/-- An access to a block whose gate is closed opens it (R437); it closes again under R436. -/
def gateWake (g : Nat) (s : State) : State :=
  if s.gateShut g then gateRequest g false ((gateSet g false s).cnt clkB R.CLK_GATE_CNT_WAKES 1) else s

/-! The loss of SYS_XI (R433). -/

/-- SYS_XI is declared lost or the memory PLL loses lock: once per loss. -/
def sysxiLost (s : State) : State :=
  let s := s.wr clkB R.CLK_STATUS_MEM_LOCK 0
  if s.clk.sysxiLoss then s
  else
    let s := (s.cnt clkB R.CLK_CNT_SYSXI_LOSS 1).raise 0x3F1
    portDown { s with clk := { s.clk with sysxiLoss := true } }

/-- The memory PLL locks again. -/
def memRelocked (s : State) : State :=
  if s.bbOn && s.clk.sysxiLoss && look 0 s.clk.decl 1 != 2 then
    let s := s.wr clkB R.CLK_STATUS_MEM_LOCK 1
    portStart ({ s with clk := { s.clk with sysxiLoss := false, memCfg := s.getReg (clkB + 8) } }.raise 0x3F3)
  else s

/-- A PLL's lock detector trips (R429). -/
def pllLoss (mem : Bool) (s : State) : State :=
  if mem then (if s.on clkB R.CLK_STATUS_MEM_LOCK then sysxiLost s else s)
  else if s.clkState == 0 && s.on clkB R.CLK_STATUS_CORE_LOCK then safeEnter 2 s
  else s

/-- The core PLL locks: SAFE is left (R432). -/
def coreRelocked (s : State) : State :=
  if s.clkState == 3 then
    let s := ((cyclesSync s).wr clkB R.CLK_STATUS_STATE 0).wr clkB R.CLK_STATUS_CORE_LOCK 1
    let s := tlTimebase { s with clk := { s.clk with coreCfg := s.getReg (clkB + 8) } }
    let s := if s.on clkB R.CLK_CTRL_IRO_STBY then s.wr clkB R.CLK_STATUS_IRO_RDY 0 else s
    let s := gatesHeld (s.raise 0x3F3)
    (List.range 8).foldl (fun s o => synLref false o s) s
  else s

/-! Monitors (R428). -/

/-- Monitor j runs. -/
def monRuns (j : Nat) (s : State) : Bool :=
  s.bbOn && (if j == 3 then (s.hk.run.map CalRun.op) == some 2 else s.rd clkB R.CLK_MON_CFG_EN / 2 ^ j % 2 == 1) &&
    (j == 1 || look 0 s.clk.decl 1 != 2)

/-- A declaration of loss; `inj` where injected windows brought it. -/
def monLost (j : Nat) (inj : Bool) (s : State) : State :=
  match j with
  | 0 =>
    let s := s.wr clkB R.CLK_STATUS_LREF_OK 0
    let s := { s with clk := { s.clk with lrefTrip := s.now + 1 } }
    if s.clkState == 0 then safeEnter (if inj then 3 else 1) s
    else if s.clkState == 3 then resumeFail 1 s
    else s
  | 1 => sysxiLost (s.wr clkB R.CLK_STATUS_SYSXI_OK 0)
  | 2 => if s.tl.injLoss.isSome then s else tlclkLost s
  | _ =>
    let s := s.wr clkB R.CLK_STATUS_CALCLK_OK 0
    { s with hk := { s.hk with run := s.hk.run.map (fun r => { r with clkBad := true }) } }

/-- A declaration of good. -/
def monGood (j : Nat) (s : State) : State :=
  match j with
  | 0 =>
    let s := s.wr clkB R.CLK_STATUS_LREF_OK 1
    if s.on clkB R.CLK_CTRL_AUTO_RESUME then clkResume s else s
  | 1 => s.wr clkB R.CLK_STATUS_SYSXI_OK 1
  | 2 => if s.tl.injLoss.isSome then s else tlclkGood s
  | _ => s.wr clkB R.CLK_STATUS_CALCLK_OK 1

/-- A monitor's window ends with a count; an injected bad window is bad whatever the count (R441). -/
def monWindow (j count : Nat) (s : State) : State :=
  if !monRuns j s then s
  else
    let b := clkB + 4 * j
    let s := s.wr b R.CLK_MON_CNT_COUNT count
    let left := look 0 s.clk.inj j
    let good := left == 0 && decide (s.rd b R.CLK_MON_LIM_LO ≤ count ∧ count ≤ s.rd b R.CLK_MON_LIM_HI)
    let c := { s.clk with inj := put 0 s.clk.inj j (left - 1) }
    if good then
      let g := look 0 c.good j + 1
      let c := { c with good := put 0 c.good j g, bad := put 0 c.bad j 0 }
      if c.decl.any (fun e => e == (j, 1)) || g < max 1 (s.rd clkB R.CLK_MON_CFG_N_GOOD) then { s with clk := c }
      else monGood j { s with clk := { c with decl := put 0 c.decl j 1 } }
    else
      let n := look 0 c.bad j + 1
      let c := { c with bad := put 0 c.bad j n, good := put 0 c.good j 0 }
      let need := max 1 (s.rd clkB R.CLK_MON_CFG_N_BAD)
      if c.decl.any (fun e => e == (j, 2)) || n < need then { s with clk := c }
      else if j == 1 && c.lrefTrip != 0 && decide (s.now + 1 ≤ c.lrefTrip + 500000) then
        { s with clk := { c with bad := put 0 c.bad 1 (need - 1), lrefTrip := 0 } }
      else monLost j (left != 0) { s with clk := { c with decl := put 0 c.decl j 2 } }

/-! CLK.CTRL and CLK.INJECT. -/

/-- CLK.CTRL has been written: `old` is the word before it, `w` the word written (R432, R435). -/
def clkCtrl (old w : Word) (s : State) : State :=
  let was := fget old 0 0 == 1
  let want := fget w 0 0 == 1
  let no := want && (s.clkState != 0 || !s.on clkB R.CLK_STATUS_SYSXI_OK)
  let s := if no then s.wr clkB R.CLK_CTRL_IRO_STBY (b2n was)
    else if want && !was then s.wr clkB R.CLK_STATUS_IRO_RDY 0
    else s
  if fget w 31 31 == 1 then clkResume s else s

/-- CLK.INJECT is written (R441). -/
def clkInject (w : Word) (s : State) : State :=
  let n := max 1 (s.rd clkB R.CLK_MON_CFG_N_BAD)
  let c := s.clk
  let c := if fget w 0 0 == 1 then { c with inj := put 0 c.inj 0 n } else c
  let c := if fget w 1 1 == 1 then { c with inj := put 0 c.inj 1 n } else c
  { s with clk := { c with injIro := c.injIro || fget w 2 2 == 1, injGate := c.injGate || fget w 3 3 == 1 } }

/-! Dividers and outputs (R427, R439, R440). -/

/-- The SCLK divider that DIM requests, 0 for none (R471). -/
def dimSclk (s : State) : Nat :=
  if s.rd pwrB R.PWR_STATUS_STATE == 1 && s.rd hkB R.HK_TH_CFG_DIM_ACT / 8 == 1 then
    min 6 (max 3 (s.rd hkB R.HK_TH_CFG_DIM_SCLK))
  else 0

/-- SCLK_ACT follows the committed divider and DIM. -/
def sclkSync (s : State) : State :=
  (cyclesSync s).wr clkB R.CLK_DIV_SCLK_ACT (max (s.rd clkB R.CLK_DIV_SCLK_DIV) (dimSclk s))

/-- The commit rules of the CLK group: the lowest cause, 0 for none. -/
def clkRules (s : State) : Nat :=
  let depth (i : Nat) : Nat := s.rdSh (clkB + 4 * i) R.CLK_CKOUT_DEPTH
  let rate (i : Nat) : Nat := s.rdSh (clkB + 4 * i) R.CLK_CKOUT_RATE
  if [0, 1].any (fun i => decide (500 < depth i)) then 1
  else if [0, 1].any (fun i => depth i != 0 && !decide (30 ≤ rate i ∧ rate i ≤ 63)) then 2
  else 0

/-- An output after a commit: `old` is its word before. -/
def ckoutCommitted (i : Nat) (old : Word) (s : State) : State :=
  let w := s.getReg (clkB + 0x60 + 4 * i)
  if fget old 31 29 != fget w 31 29 then
    { s with clk := { s.clk with
        ckLow := put 0 s.clk.ckLow i (s.now + usT 1), ckMod := put 0 s.clk.ckMod i (s.now + usT 1 + 1) } }
  else if old != w then { s with clk := { s.clk with ckMod := put 0 s.clk.ckMod i (s.now + 1) } }
  else s

/-- The CLK group has been committed. -/
def clkCommitted (old0 old1 : Word) (s : State) : State := ckoutCommitted 1 old1 (ckoutCommitted 0 old0 (sclkSync s))

end Sys2Proof.Machine
end

