-- ==== Sys2Proof/Machine/PwrOps.lean ====
section
/-! DEFINITION. The power controller (17): domain states, wake tokens and the queue, the answers to power-down, REST and
wake, and the throttle of DIM. -/

namespace Sys2Proof.Machine

/-- Base for the fields of DOM_STAT of a domain. -/
def domB (d : Nat) : Nat := (Obj.dom d).base

/-- The state of a domain (R447): 0 OFF, 1 QUEUED, 2 RAMP, 3 ON, 4 QUIESCE. -/
def State.domState (s : State) (d : Nat) : Nat := s.rd (domB d) R.PWR_DOM_STAT_STATE

/-- PWR.STATUS.STATE. -/
def State.pwrState (s : State) : Nat := s.rd pwrB R.PWR_STATUS_STATE

/-- Base for the fields of DOM_REQ and DOM_ON of a domain's word. -/
def reqB (d : Nat) : Nat := pwrB + 4 * (d / 32)

/-- A domain's DOM_REQ bit. -/
def State.domReq (s : State) (d : Nat) : Bool := s.rd (reqB d) R.PWR_DOM_REQ_REQ / 2 ^ (d % 32) % 2 == 1

/-- Set a domain's DOM_REQ bit. -/
def domReqSet (d : Nat) (s : State) : State :=
  s.wr (reqB d) R.PWR_DOM_REQ_REQ (setBit (s.rd (reqB d) R.PWR_DOM_REQ_REQ) (d % 32))

/-- DOM_ON follows the state. -/
def domOnSet (d : Nat) (v : Bool) (s : State) : State :=
  let w := s.rd (reqB d) R.PWR_DOM_ON_ON
  s.wr (reqB d) R.PWR_DOM_ON_ON (if v then setBit w (d % 32) else clrBit w (d % 32))

/-- Enter a domain state; DIG_RDY and ANA_RDY read 0 but in ON. -/
def domGo (d st : Nat) (s : State) : State :=
  let s := (s.wr (domB d) R.PWR_DOM_STAT_STATE st).wr (domB d) R.PWR_DOM_STAT_DIG_RDY (b2n (st == 3))
  let s := if st == 3 then s else s.wr (domB d) R.PWR_DOM_STAT_ANA_RDY 0
  domOnSet d (st == 3) s

/-! Tokens and the queue (R454). -/

/-- Tokens that a domain needs on VDD_CORE, VDD_AN, VDD_TX and VDD_MEM; 84 + u is the shade of rotation unit u (R485). -/
def domNeed (d : Nat) : List Nat :=
  if d < 64 then [1, 2, 1, 0]
  else if d < 72 then [0, 2, 0, 0]
  else if d < 78 then [1, 0, 0, 1]
  else if d < 82 then [4, 0, 0, 0]
  else if d == 82 then [2, 0, 0, 0]
  else if d == 83 then [1, 1, 0, 0]
  else [1, 0, 0, 0]

/-- The largest count that a domain needs on a rail. -/
def railMost : List Nat := [4, 2, 1, 1]

/-- Tokens of a rail that are out. -/
def tokOut (r : Nat) (s : State) : Nat :=
  (s.pwr.out.filter (fun e => e.1 == r && decide (s.now < e.2.2))).foldl (fun n e => n + e.2.1) 0

/-- Tokens of a rail that are free: a POOL below the largest need acts as it. -/
def tokFree (r : Nat) (s : State) : Nat :=
  max (railMost.getD r 0) (s.rd (pwrB + 4 * r) R.PWR_TOK_POOL) - tokOut r s

/-- HOLD of a rail in ticks. -/
def tokHold (r : Nat) (s : State) : Nat := usT (max 1 (s.rd (pwrB + 4 * r) R.PWR_TOK_HOLD))

/-- The rails that a domain loads. -/
def domRails (d : Nat) : List Nat := (List.range 4).filter (fun r => (domNeed d).getD r 0 != 0)

/-- A domain, or a shade, waits in the queue. -/
def domQueued (d : Nat) (s : State) : Bool :=
  if d < 84 then s.domState d == 1 else (s.domOf d).queuedAt != 0 && (s.domOf d).admitAt == 0

/-- The order of the second class. -/
def queueOrder : List Nat :=
  [83, 82] ++ (List.range 6).map (· + 72) ++ (List.range 4).map (· + 78) ++ (List.range 8).map (· + 64) ++ List.range 64 ++
    (List.range 8).map (· + 84)

/-- The next domain to be admitted: the head of the first class, or of the second where none of the first waits. -/
def queueHead (s : State) : Option Nat :=
  match s.pwr.first.filter (fun d => domQueued d s) with
  | d :: _ => some d
  | [] => queueOrder.find? (fun d => domQueued d s)

/-- The power controller admits domains. -/
def State.pwrRuns (s : State) : Bool := s.pwrState != 3 && !s.off && !s.fatal && !s.por && !s.inReset

/-- The time from a domain's request to its admission is recorded (R454). -/
def domWaited (d us : Nat) (s : State) : State :=
  if 84 ≤ d then s
  else
    let us := min us 0xFFFF
    let s := s.wr (domB d) R.PWR_DOM_STAT_QWAIT us
    let s := s.wr pwrB R.PWR_QWAIT_MAX (max (s.rd pwrB R.PWR_QWAIT_MAX) us)
    if s.rd pwrB R.PWR_QWAIT_TH < us then s.raise 0x3F9 else s

/-- A domain takes its tokens and enters RAMP. -/
def domAdmitNow (d : Nat) (s : State) : State :=
  let x := s.domOf d
  let out := (domRails d).map (fun r => (r, (domNeed d).getD r 0, s.now + tokHold r s))
  let s := { s with pwr := { s.pwr with out := s.pwr.out ++ out, first := s.pwr.first.filter (· != d) } }
  let s := domWaited d ((s.now - (if d < 84 then x.queuedAt else x.queuedAt - 1)) * 2 / 78125) s
  let s := s.setDom d { x with admitAt := s.now + 1, failing := x.injFail, injFail := false }
  if d < 84 then domGo d 2 s
  else (s.wr (bistB + 4 * (d - 84)) R.BIST_ROT_STAT_STEP 2).setRot (d - 84) { s.rotOf (d - 84) with at_ := s.now }

/-- Every rail that a domain loads holds its count. -/
def tokReady (d : Nat) (s : State) : Bool := (domRails d).all (fun r => decide ((domNeed d).getD r 0 ≤ tokFree r s))

/-- The head of the queue is admitted where its tokens are free; INJ_TOKEN holds it one longest HOLD more (R458). -/
def domAdmit (s : State) : State :=
  match queueHead s with
  | none => s
  | some d =>
    if !s.pwrRuns || !tokReady d s then s
    else if (s.domOf d).injToken then
      let s := s.setDom d { s.domOf d with injToken := false }
      domAdmitNow d (s.advance ((domRails d).foldl (fun t r => max t (tokHold r s)) 0))
    else domAdmitNow d s

/-- The next tokens return to their rails. -/
def tokReturn (s : State) : State :=
  match s.pwr.out.filter (fun e => decide (s.now < e.2.2)) with
  | [] => { s with pwr := { s.pwr with out := [] } }
  | e :: l =>
    let t := l.foldl (fun t e => min t e.2.2) e.2.2
    let s := s.advanceNow t
    { s with pwr := { s.pwr with out := s.pwr.out.filter (fun e => decide (s.now < e.2.2)) } }

/-! Requests. -/

/-- A domain enters QUEUED; the first class holds requests of accesses and timed actions. -/
def domQueue (d : Nat) (cls1 : Bool) (s : State) : State :=
  let s := domGo d 1 (s.setDom d { s.domOf d with queuedAt := s.now, down := false, up := false })
  if cls1 then { s with pwr := { s.pwr with first := s.pwr.first.filter (· != d) ++ [d] } } else s

/-- A power-up is requested by DOM_REQ (R448, R457). -/
def domUpReq (d : Nat) (s : State) : State :=
  let s := s.setDom d { s.domOf d with byAccess := false, down := false, delayAt := 0 }
  match s.domState d with
  | 0 => domQueue d false s
  | 4 => s.setDom d { s.domOf d with up := true }
  | _ => s

/-- An access or a timed action needs a domain that is not ON (R454, R455, R457). -/
def domAccess (d : Nat) (s : State) : State :=
  let s := s.setDom d { s.domOf d with byAccess := true }
  match s.domState d with
  | 0 => domQueue d true s
  | 1 => if s.pwr.first.contains d then s else { s with pwr := { s.pwr with first := s.pwr.first ++ [d] } }
  | 4 => s.setDom d { s.domOf d with up := true }
  | _ => s

/-! Answers to power-down (R448 to R450). -/

/-- A plot has a page in channel m, or a replay context plays from one. -/
def usesChan (m : Nat) (s : State) : Bool :=
  (List.range 256).any (fun p => plotState p s == 2 && (plotChans p s).contains m) ||
    (List.range 64).any (fun r => decide (1 ≤ rpState r s ∧ rpState r s ≤ 3) &&
      (List.range (s.rd (rpB r) R.MDW_RP_CFG_NSEG + 1)).any (fun i =>
        (plotChans (s.rd (segB r i) R.MDW_RP_SEG_A_PLOT) s).contains m))

/-- A standing use of a domain (R450). -/
def standingUse (d : Nat) (s : State) : Bool :=
  if d < 64 then
    lanes.any (fun t => s.rd (laneB t) R.TX_SRC_HAZE_LANE == d && s.rd (laneB t) R.TX_STATUS_SRC_ACT == 4 &&
      decide (2 ≤ s.rd (laneB t) R.HAZE_STATUS_STATE)) ||
    (List.range 256).any (fun p => plotState p s == 2 && plotType p s == 1 && decide (2 ≤ s.rd (plB p) R.MDW_PLOT_W0_CMODE) &&
      s.rd (plB p) R.MDW_PLOT_W0_SRC == d / 16 && s.rd (plB p) R.MDW_PLOT_W3_SRC_MASK / 2 ^ (d % 16) % 2 == 1)
  else if 72 ≤ d ∧ d < 78 then usesChan (d - 72) s || s.on (mcB (d - 72)) R.MC_REPAIR_STAT_BUSY
  else if 78 ≤ d ∧ d < 82 then
    s.strms.any (fun x => x.1 / 1024 == d - 78 && (x.2.state == 1 || x.2.state == 2)) ||
    (List.range 256).any (fun p => plotState p s == 2 && s.rd (plB p) R.MDW_PLOT_W0_SRC == d - 78) ||
    (List.range 16).any (fun g => s.on (feB (d - 78) + 4 * g) R.FE_HZ_FWD_EN)
  else false

/-- A raw-sample page of lane d is still being built for a plot that has left RUN (R307, R449). -/
def rawTail (d : Nat) (s : State) : Bool :=
  s.plots.any (fun x => plotState x.1 s == 3 && plotType x.1 s == 1 && s.rd (plB x.1) R.MDW_PLOT_W0_CMODE == 3 &&
    s.rd (plB x.1) R.MDW_PLOT_W0_SRC == d / 16 && x.2.flush / 2 ^ (d % 16) % 2 == 1)

/-- A transfer in flight in a domain (R449); `ncp` says that the request came from the NCP engine, whose response ME
still has to send. -/
def inFlight (d : Nat) (ncp : Bool) (s : State) : Bool :=
  s.waiting.any (fun a => a.dom == d) ||
  (if d < 64 then decide (2 ≤ (s.eqOf d).stat) || s.on (laneB d) R.EQ_STATUS_LOAD_BUSY || rawTail d s
   else if d < 72 then s.rd (octB (d - 64)) R.OCT_SYN_STATUS_STATE == 1
   else if d < 78 then false
   else if d < 82 then s.on (feB (d - 78)) R.FE_FLOW_STAT_BUSY || s.on (feB (d - 78)) R.FE_STRM_STAT_BUSY ||
     s.forRecs.any (fun r => r.eng == d - 78)
   else d == 83 && (ncp || s.sess.any (fun x => s.sessOpen x.1 && !x.2.waitq.isEmpty)))

/-- The master of the transfer in flight, 0xFF for none (R457). -/
def flightMaster (d : Nat) (ncp : Bool) (s : State) : Nat :=
  match s.waiting.find? (fun a => a.dom == d) with
  | some a => Master.id a.master
  | none => if d == 83 && ncp then 0 else 0xFF

/-- A domain powers down (R444, R445): clamps apply, and its machines take the transitions of their chapters. -/
def domClamp (d : Nat) (s : State) : State :=
  if d < 64 then watchOff d (txEval d (rxPowerDown d s))
  else if d < 72 then
    let o := d - 64
    if s.rd (octB o) R.OCT_SYN_STATUS_STATE == 0 then s else synGo o 0 s
  else if 78 ≤ d ∧ d < 82 then rotAbandon (d - 74) s
  else if d == 83 then ncpOff s
  else s

/-- ACK: the domain enters QUIESCE. -/
def domQuiesce (d : Nat) (s : State) : State :=
  let s := s.setDom d { s.domOf d with delayAt := 0, down := false, up := false, ack := false }
  domClamp d (domGo d 4 (s.wr (domB d) R.PWR_DOM_STAT_ANSWER 1))

/-- A refuser log entry (R457). -/
def pwrLog (d cause kind master : Nat) (s : State) : State :=
  let w := fset (fset (fset (fset (fset 0 31 31 1) 30 24 d) 23 20 cause) 19 18 kind) 7 0 master
  { s with pwr := { s.pwr with log := (⟨w, s.tlv.toNat⟩ :: s.pwr.log).take 16 } }

/-- A refusal of a domain request (R448). -/
def domRefuse (d cause : Nat) (s : State) : State :=
  let m := (s.domOf d).master
  let s := ((domReqSet d s).wr (domB d) R.PWR_DOM_STAT_ANSWER 3).wr (domB d) R.PWR_DOM_STAT_CAUSE cause
  let s := (s.setDom d { s.domOf d with delayAt := 0, byAccess := false }).cnt pwrB R.PWR_CNT_REFUSALS 1
  (pwrLog d cause 0 m s).raise 0x3F8

/-- A domain that is ON answers a power-down request (R448). -/
def domAnswer (d : Nat) (ncp : Bool) (s : State) : State :=
  let x := s.domOf d
  let s := s.setDom d { x with master := flightMaster d ncp s }
  if x.injRefuse then domRefuse d 4 (s.setDom d { s.domOf d with injRefuse := false })
  else if !s.on pwrB R.PWR_CTRL_FORCE && standingUse d s then domRefuse d 2 s
  else if inFlight d ncp s then (s.wr (domB d) R.PWR_DOM_STAT_ANSWER 2).setDom d { s.domOf d with delayAt := s.now + 1 }
  else domQuiesce d s

/-- A power-down is requested (R448, R457). -/
def domDownReq (d : Nat) (ncp : Bool) (s : State) : State :=
  match s.domState d with
  | 1 => s.setDom d { s.domOf d with down := true }
  | 2 => s.setDom d { s.domOf d with down := true }
  | 3 => domAnswer d ncp s
  | 4 => s.setDom d { s.domOf d with up := false }
  | _ => s

/-- A bit of DOM_REQ has been written. -/
def domReqBit (ncp : Bool) (i old new b : Nat) (s : State) : State :=
  let d := 32 * i + b
  if 84 ≤ d then s
  else
    let o := old / 2 ^ b % 2
    let n := new / 2 ^ b % 2
    if o == 0 && n == 1 then domUpReq d s else if o == 1 && n == 0 then domDownReq d ncp s else s

/-- DOM_REQ[i] has been written: the register holds the new word; bit 82 reads 1 (R446). -/
def domReqWritten (ncp : Bool) (i old : Nat) (s : State) : State :=
  let b := pwrB + 4 * i
  let s := if i == 2 then s.wr b R.PWR_DOM_REQ_REQ (setBit (s.rd b R.PWR_DOM_REQ_REQ % 2 ^ 20) 18) else s
  let new := s.rd b R.PWR_DOM_REQ_REQ
  (List.range 32).foldl (fun s k => domReqBit ncp i old new k s) s

/-- The channel domain of the page that a bulk transfer of the NCP engine needs (R396). -/
def pageDom (p q : Nat) (s : State) : Nat := 72 + (plotFrame (p % 256) q s).1

/-- A bulk transfer waits for a domain: the next page of a bulk read, or a write that has not executed. -/
def bulkNeeds (d : Nat) (s : State) : Bool :=
  (List.range 4).any (fun k => s.sessOpen k && match (s.sessOf k).bulks with
    | [] => false
    | b :: _ => pageDom b.plot b.page s == d) ||
  s.ncpQ.any (fun j => match j.req with
    | .bulkWrite p q _ _ _ _ => pageDom p.toNat q.toNat s == d
    | _ => false)

/-- An access, a timed action or a bulk transfer waits for a domain or uses it. -/
def domNeeded (d : Nat) (s : State) : Bool :=
  s.waiting.any (fun a => a.dom == d) || s.pwr.acts.contains d || bulkNeeds d s

/-- A domain that an access or action woke, and that nothing needs any more (R455). -/
def domIdle (d : Nat) (s : State) : Bool := (s.domOf d).byAccess && s.domOn d && !domNeeded d s

/-- Once the access or action that woke a domain has completed and none is queued, the domain returns to OFF (R455). -/
def domReturn (d : Nat) (s : State) : State :=
  if domIdle d s then
    let s := s.setDom d { s.domOf d with byAccess := false }
    if s.domReq d then s else domDownReq d false s
  else s

/-! REST entry (R452, R453). -/

/-- The thermal policy's state: DIM while DIM is requested (R451, R471). -/
def thermalState (s : State) : Nat := s.rd hkB R.HK_TH_STATUS_DIM

/-- The throttle actions follow the state and DIM_ACT (R471). -/
def dimApply (s : State) : State :=
  let act := if s.pwrState == 1 then s.rd hkB R.HK_TH_CFG_DIM_ACT else 0
  let stat := act % 2 + act / 2 % 2 * 2 + act / 8 * 4
  let s := (s.wr hkB R.HK_TH_STATUS_DIM_STAT stat).wr hkB R.HK_TH_STATUS_SCRUB_DIM (act / 4 % 2)
  sclkSync (lanes.foldl (fun s n => s.wr (laneB n) R.EQ_STATUS_THROTTLED (act % 2)) s)

/-- The part takes the state that the thermal policy calls for. -/
def pwrGo (st : Nat) (s : State) : State := dimApply (s.wr pwrB R.PWR_STATUS_STATE st)

/-- RUN and DIM follow the request, with EV_PWR_STATE (R451). -/
def pwrThermal (s : State) : State :=
  if s.pwrState ≤ 1 && s.pwrState != thermalState s && !s.off && !s.fatal && !s.inReset then
    (pwrGo (thermalState s) s).raise 0x3FB
  else dimApply s

/-- REST entry is aborted (R453): each refusing domain with its cause, or none where a wake source aborts it. A domain
that returns to ON against its DOM_REQ bit is asked again, as after an access (R455). -/
def restAbort (refused : List (Nat × Nat)) (s : State) : State :=
  let s := match refused with
    | [] => pwrLog 0x7F 5 1 0xFF s
    | l => l.foldl (fun s e => pwrLog e.1 e.2 1 (s.domOf e.1).master s) s
  let s := (List.range 84).foldl (fun s d =>
    let s := if s.domState d == 4 then domGo d 3 s else s
    let x := s.domOf d
    s.setDom d { x with ack := false, delayAt := 0, byAccess := x.byAccess || (s.domOn d && !s.domReq d) }) s
  let s := s.setCore 16 ((s.coreOf 16).setCsrF csrINTPEND 13 13 0)
  ((pwrGo (thermalState s) s).cnt pwrB R.PWR_CNT_ABORTS 1).raise 0x3F7

/-- The handshake's answer of a domain that is ON: true where it refuses. -/
def restAsk (d : Nat) (ncp : Bool) (s : State) : State × Bool :=
  let x := s.domOf d
  if x.delayAt != 0 then (s, false)
  else if x.injRefuse then
    let s := (s.wr (domB d) R.PWR_DOM_STAT_ANSWER 3).wr (domB d) R.PWR_DOM_STAT_CAUSE 4
    (s.setDom d { x with injRefuse := false, master := flightMaster d ncp s }, true)
  else if inFlight d ncp s then
    ((s.wr (domB d) R.PWR_DOM_STAT_ANSWER 2).setDom d { x with delayAt := s.now + 1, master := flightMaster d ncp s }, false)
  else ((s.wr (domB d) R.PWR_DOM_STAT_ANSWER 1).setDom d { x with ack := true }, false)

/-- REST_REQ (R452 step 1). -/
def restRequest (ncp : Bool) (s : State) : State :=
  if !(s.pwrState ≤ 1) || !s.bbOn then s
  else
    let s := coreIrq 16 13 ((tlAlarmSet s).wr pwrB R.PWR_STATUS_STATE 2)
    let s := { s with pwr := { s.pwr with restAt := s.now, wakeSrc := none } }
    let s := s.setDom 82 { s.domOf 82 with ack := false }
    let r := (List.range 84).foldl (fun (r : State × List (Nat × Nat)) d =>
      if d != 82 && r.1.domOn d then
        let a := restAsk d ncp r.1
        (a.1, if a.2 then r.2 ++ [(d, 4)] else r.2)
      else r) (s, [])
    if r.2.isEmpty then r.1
    else restAbort r.2 r.1

/-- The supervisors answer for SQ (R452): ACK stands, REFUSE aborts, DELAY waits. -/
def sqAnswer (v : Nat) (s : State) : State :=
  if s.pwrState != 2 || v == 0 then s
  else if (s.domOf 82).injRefuse then
    let s := (s.wr (domB 82) R.PWR_DOM_STAT_ANSWER 3).wr (domB 82) R.PWR_DOM_STAT_CAUSE 4
    restAbort [(82, 4)] (s.setDom 82 { s.domOf 82 with injRefuse := false })
  else
    let s := s.wr (domB 82) R.PWR_DOM_STAT_ANSWER v
    match v with
    | 1 => s.setDom 82 { s.domOf 82 with ack := true }
    | 3 => restAbort [(82, 3)] (s.wr (domB 82) R.PWR_DOM_STAT_CAUSE 3)
    | _ => s

/-- No ACK from SQ by 2 ms. -/
def sqTimeout (s : State) : State :=
  if s.pwrState == 2 && !(s.domOf 82).ack then
    let s := s.advanceNow (s.pwr.restAt + 78125000)
    restAbort [(82, 3)] ((s.wr (domB 82) R.PWR_DOM_STAT_ANSWER 3).wr (domB 82) R.PWR_DOM_STAT_CAUSE 3)
  else s

/-- The last transfer of a domain in DELAY has drained. -/
def domDrained (d : Nat) (s : State) : State :=
  if s.domOn d && (s.domOf d).delayAt != 0 && !inFlight d false s then
    if s.pwrState == 2 then
      (s.wr (domB d) R.PWR_DOM_STAT_ANSWER 1).setDom d { s.domOf d with ack := true, delayAt := 0 }
    else domQuiesce d s
  else s

/-- 2 ms have passed since the request that DELAY answered. -/
def domDrainTimeout (d : Nat) (s : State) : State :=
  let x := s.domOf d
  if s.domOn d && x.delayAt != 0 then
    let s := s.advanceNow (x.delayAt - 1 + 78125000)
    if s.pwrState == 2 then
      restAbort [(d, 1)] ((s.wr (domB d) R.PWR_DOM_STAT_ANSWER 3).wr (domB d) R.PWR_DOM_STAT_CAUSE 1)
    else domRefuse d 1 s
  else s

/-- Every domain has answered ACK. -/
def restReady (s : State) : Bool :=
  (List.range 84).all (fun d => match s.domState d with
    | 0 => true
    | 3 => (s.domOf d).ack
    | 4 => true
    | _ => false)

/-- The order in which domains go down for REST. -/
def restOrder : List Nat :=
  List.range 64 ++ (List.range 8).map (· + 64) ++ (List.range 4).map (· + 78) ++ (List.range 6).map (· + 72) ++ [83, 82]

/-- A domain that is up goes to OFF. -/
def domToOff (d : Nat) (s : State) : State :=
  let s := if s.domOn d then domQuiesce d s else s
  domGo d 0 (s.setDom d { s.domOf d with up := false, down := false, delayAt := 0, ack := false })

/-- The commit instant of REST entry and its steps 3 to 5 (R452). -/
def restCommit (s : State) : State :=
  if s.pwrState == 2 && restReady s then
    let s := biasRest (tlRest (cyclesSync s))
    let s := restOrder.foldl (fun s d => domToOff d s) s
    let s := (List.range 8).foldl (fun s u => rotAbandon u s) s
    let s := s.advance (usT 50)
    let s := ((s.wr clkB R.CLK_STATUS_CORE_LOCK 0).wr clkB R.CLK_STATUS_MEM_LOCK 0).wr clkB R.CLK_STATUS_IRO_RDY 0
    let s := ((cyclesSync s).wr pwrB R.PWR_STATUS_STATE 3).cnt pwrB R.PWR_CNT_RESTS 1
    let s := { s with pwr := { s.pwr with first := [] }, kickAt := none }
    if s.pwr.wakeSrc.isNone && !s.waiting.isEmpty then { s with pwr := { s.pwr with wakeSrc := some (5, s.now) } } else s
  else s

/-! Wake (R456). -/

/-- A wake source asserts: 1 MI2C, 2 WAKE_N, 3 alarm, 4 RESET_N. -/
def wakeSource (src : Nat) (s : State) : State :=
  if s.off || s.fatal || s.por then s
  else match s.pwrState with
    | 2 => if src == 4 then s else restAbort [] s
    | 3 => if s.pwr.wakeSrc.isSome then s else { s with pwr := { s.pwr with wakeSrc := some (src, s.now) } }
    | _ => s

/-- A domain's machines restart at DIG_RDY (R444). -/
def domStart (d : Nat) (s : State) : State :=
  if d < 64 then chainResetAll d (txEval d (rxEnableSync d (dlyPowerUp d s)))
  else if d < 72 then s
  else if 78 ≤ d ∧ d < 82 then grpAll (d - 78) s
  else if d == 83 then portStart s
  else s

/-- Its analogue side is ready (R447). -/
def domAna (d : Nat) (s : State) : State :=
  if s.domOn d && !s.anaRdy d then
    let s := s.wr (domB d) R.PWR_DOM_STAT_ANA_RDY 1
    if d < 64 then txEval d (rxTryClk d s)
    else if d < 72 then synEnableSync (d - 64) s
    else s
  else s

/-- DIG_RDY of a domain in RAMP (R447); a held power-down and the REST handshake are answered now (R452, R457). -/
def domDig (d : Nat) (s : State) : State :=
  if s.domState d == 2 && !(s.domOf d).failing then
    let s := domStart d (domGo d 3 s)
    let s := if 78 ≤ d ∧ d < 83 then domAna d s else s
    let x := s.domOf d
    let s := s.setDom d { x with admitAt := 0, down := false }
    if s.pwrState == 2 then
      let r := restAsk d false s
      if r.2 then restAbort [(d, 4)] r.1 else r.1
    else if x.down && !s.domReq d then domAnswer d false s
    else s
  else s

/-- No DIG_RDY within 40 µs of admission (R447). -/
def domFail (d : Nat) (s : State) : State :=
  if s.domState d == 2 then
    let x := s.domOf d
    let s := s.advanceNow (x.admitAt - 1 + usT 40)
    (domGo d 0 (s.setDom d { x with admitAt := 0, failing := false, down := false })).raise 0x3FA
  else s

/-- The switch of a domain in QUIESCE is open (R447, R457). -/
def domOff (d : Nat) (s : State) : State :=
  if s.domState d == 4 then
    let up := (s.domOf d).up
    let acc := domNeeded d s
    let s := domGo d 0 (s.setDom d { s.domOf d with up := false })
    if acc then domQueue d true s else if up then domQueue d false s else s
  else s

/-- Steps 1 to 3 of a wake, `us` after its source: the PLLs have locked or not. -/
def wakeRun (us : Nat) (core mem : Bool) (s : State) : State :=
  match s.pwrState, s.pwr.wakeSrc with
  | 3, some w =>
    let s := { s with pwr := { s.pwr with wakeSrc := none, wakeAt := w.2, waking := w.1 } }
    let s := (cyclesSync (s.advanceNow (w.2 + usT us))).wr pwrB R.PWR_STATUS_STATE 4
    let s := s.wr clkB R.CLK_STATUS_IRO_RDY (b2n (!s.on clkB R.CLK_CTRL_IRO_STBY))
    let s := tlWake s
    let s := if core then
        let s := (s.wr clkB R.CLK_STATUS_STATE 0).wr clkB R.CLK_STATUS_CORE_LOCK 1
        { s with clk := { s.clk with coreCfg := s.getReg (clkB + 8) } }
      else safeReached (safeEffects ((s.wr clkB R.CLK_STATUS_CAUSE 2).wr clkB R.CLK_STATUS_IRO_RDY 1))
    let s := s.wr pwrB R.PWR_STATUS_SAFE_WAKE (b2n (!core))
    let s := if mem then
        let s := s.wr clkB R.CLK_STATUS_MEM_LOCK 1
        { s with clk := { s.clk with memCfg := s.getReg (clkB + 8) } }
      else sysxiLost s
    let s := biasAll s
    (List.range 84).foldl (fun s d =>
      if s.domState d == 0 then
        (if s.waiting.any (fun a => a.dom == d) then domQueue d true s
         else if s.domReq d then domQueue d false s else s)
      else s) s
  | _, _ => s

/-- Step 5 of a wake: every domain due has DIG_RDY or has failed. -/
def wakeDone (s : State) : State :=
  if s.pwrState == 4 && (List.range 84).all (fun d => s.domState d != 1 && s.domState d != 2) then
    let s := pwrGo (thermalState s) s
    let us := (s.now - s.pwr.wakeAt) * 2 / 78125
    let s := (s.wr pwrB R.PWR_WAKE_US (min us 0xFFFF)).wr pwrB R.PWR_WAKE_SOURCE s.pwr.waking
    let s := s.raise 0x3F6
    let l := s.heldEvents
    let s := if s.on fltB R.FLT_CTRL_KICK_EN then { s with kickAt := some s.now } else s
    l.foldl (fun s e => s.raise e) { s with heldEvents := [] }
  else s

/-! Injection (R458). -/

/-- PWR.INJECT is written: the injections of domain INJ_DOM. -/
def pwrInject (w : Word) (s : State) : State :=
  let d := fget w 22 16
  if 84 ≤ d then s
  else
    let x := s.domOf d
    s.setDom d { x with injRefuse := x.injRefuse || fget w 0 0 == 1, injFail := x.injFail || fget w 1 1 == 1,
                        injToken := x.injToken || fget w 2 2 == 1 }

end Sys2Proof.Machine
end

