-- ==== Sys2Proof/Machine/HkOps.lean ====
section
/-! DEFINITION. Housekeeping (18): the converter's rounds and dwells, the self-calibration, the legacy conversion, the
thermal sensors with their levels, DIM, and the shutdown with its records. -/

namespace Sys2Proof.Machine

/-! The converter (R460 to R465). -/

/-- The converter runs (R467): BB is on and the HK clock gate is open. -/
def State.hkUp (s : State) : Bool := s.bbOn && !s.gateShut 11 && s.clkState != 1

/-- HK.CTRL.RUN. -/
def State.hkRun (s : State) : Bool := s.on hkB R.HK_CTRL_RUN

/-- A calibration run of operation op is in progress. -/
def State.calRuns (s : State) (op : Nat) : Bool := (s.hk.run.map CalRun.op) == some op

/-- Rounds are paused (R467, R479): a self-calibration or the measurement of CAL_REF has the converter. -/
def hkPaused (s : State) : Bool := s.on hkB R.HK_STATUS_SC_BUSY || s.calRuns 1

/-- The factors of converter u: offset in 1/16 code and gain (R466). -/
def scFact (u : Bool) (s : State) : Int × Int :=
  if u then (s.rdI hkB R.HK_SC_FACT_B_OFS, s.rdI hkB R.HK_SC_FACT_B_GAIN)
  else (s.rdI hkB R.HK_SC_FACT_A_OFS, s.rdI hkB R.HK_SC_FACT_A_GAIN)

/-- The corrected value y of a raw code x of converter u, in 1/16 code, with a factor ABS (R460). -/
def hkCorrectAbs (u : Bool) (x : Nat) (abs : Int) (s : State) : Int :=
  let f := scFact u s
  roundDiv ((16 * (x : Int) - f.1) * (2 ^ 15 + f.2) * (2 ^ 15 + abs)) (2 ^ 30)

/-- The corrected value y of a raw code x of converter u, in 1/16 code (R460). -/
def hkCorrect (u : Bool) (x : Nat) (s : State) : Int := hkCorrectAbs u x (s.rdI calB R.CAL_ABS_ABS) s

/-- The corrected code c of a value y (R460). -/
def hkCode (y : Int) : Nat := (clampI 0 4095 (roundDiv y 16)).toNat

/-- Channel c is enabled. -/
def chanEn (c : Nat) (s : State) : Bool := s.rd (hkB + 4 * (c / 32)) R.HK_CH_EN_EN / 2 ^ (c % 32) % 2 == 1

/-- The first enabled channel from c on. -/
def nextChan (c : Nat) (s : State) : Option Nat := (List.range 96).find? (fun k => decide (c ≤ k) && chanEn k s)

/-- ACC of a channel's group; values above 8 act as 8 (R463). -/
def chanAcc (c : Nat) (s : State) : Nat :=
  min 8 (s.rd hkB (if c < 64 then R.HK_CFG_ACC_MPD else if c < 72 then R.HK_CFG_ACC_AUX else R.HK_CFG_ACC_INT))

/-- Half microseconds in ticks, rounded up. -/
def halfUs (n : Nat) : Nat := (n * 78125 + 3) / 4

/-- A dwell on channel c starts; the active values hold for all of it (R464). -/
def dwellStart (c : Nat) (s : State) : State :=
  let s := (s.wr hkB R.HK_STATUS_RUNNING 1).wr hkB R.HK_STATUS_CHAN c
  { s with hk := { s.hk with settle := s.rd hkB R.HK_CFG_SETTLE, acc := chanAcc c s, dwellAt := s.now } }

/-- Rounds stop, and the dwell in progress is discarded (R467). -/
def hkStop (s : State) : State := (s.wr hkB R.HK_STATUS_RUNNING 0).wr hkB R.HK_STATUS_CHAN 0

/-- Rounds stop where the converter no longer runs. -/
def hkSync (s : State) : State :=
  if s.on hkB R.HK_STATUS_RUNNING && (!s.hkUp || !s.hkRun) then hkStop s else s

/-- The dwell of a paused round starts again (R467). -/
def hkResume (s : State) : State :=
  if s.on hkB R.HK_STATUS_RUNNING then dwellStart (s.rd hkB R.HK_STATUS_CHAN) s else s

/-- Window j checks a result (R465); an armed INJ_WIN makes it out of window (R481). -/
def winCheck (j v : Nat) (s : State) : State :=
  let b := hkB + 4 * j
  let inj := s.hk.injWin / 2 ^ j % 2 == 1
  let out := inj || decide (v < s.rd b R.HK_WIN_LO) || decide (s.rd b R.HK_WIN_HI < v)
  let was := s.hk.winOut / 2 ^ j % 2 == 1
  let s := { s with hk := { s.hk with injWin := clrBit s.hk.injWin j,
                                      winOut := if out then setBit s.hk.winOut j else clrBit s.hk.winOut j } }
  if out && !was then (s.wr hkB R.HK_WIN_STAT_OUT (setBit (s.rd hkB R.HK_WIN_STAT_OUT) j)).raise 0x409 else s

/-- Every window that watches channel c checks its result. -/
def winCheckAll (c v : Nat) (s : State) : State :=
  (List.range 8).foldl (fun s j =>
    if s.on (hkB + 4 * j) R.HK_WIN_EN && s.rd (hkB + 4 * j) R.HK_WIN_CH == c then winCheck j v s else s) s

/-- A result reaches the watch chains that tap channel c (R278), and the lane core of a monitor photodiode (R373). -/
def hkDeliver (c : Nat) (s : State) : State :=
  let s := lanes.foldl (fun s n => (List.range 4).foldl (fun s k =>
    if s.rd (chB n k) R.WATCH_CH_CFG_TAP == 8 && s.rd (chB n k) R.WATCH_CH_CFG_HK_CH == c then
      s.setChain n k { s.chain n k with newHk := true } else s) s) s
  if c < 64 then coreIrq (c / 4) 9 s else s

/-- The dwell's results (R462): MEAN and SEQ, the tracker, windows, lanes and cores. A mean that the field cannot hold is
a free value. -/
def hkResult (c : Nat) (ys : List Int) (s : State) : State :=
  let b := hkB + 8 * c
  let mean := roundDiv (ys.foldl (· + ·) 0) (max 1 ys.length)
  let fits := decide (0 ≤ mean ∧ mean < 2 ^ 16)
  let m := if fits then mean.toNat else s.draw % 2 ^ 16
  let s := if fits then s else s.drawn
  let cs := ys.map hkCode
  let s := ((s.wr b R.HK_RES_MEAN m).cntW b R.HK_RES_SEQ 1).wr b R.HK_TRK_MAX (cs.foldl max (s.rd b R.HK_TRK_MAX))
  let s := s.wr b R.HK_TRK_MIN (cs.foldl min (s.rd b R.HK_TRK_MIN))
  hkDeliver c (winCheckAll c ((m + 8) / 16) s)

/-- The conversions of a dwell that count (R460, R463): conversion i after the change of channel is A's where i is even;
the first SETTLE are discarded, and one that the command does not list reads 0. -/
def dwellValues (raws : List (BitVec 12)) (s : State) : List Int :=
  (List.range (2 ^ s.hk.acc)).map (fun i => hkCorrect ((s.hk.settle + i) % 2 == 1) (raws.getD i 0).toNat s)

/-- A round starts (R463); with no enabled channel it takes no time and ends at once. -/
def hkRoundStart (ended : State → State) (s : State) : State :=
  if !s.hkUp || !s.hkRun || s.on hkB R.HK_STATUS_RUNNING || hkPaused s then s
  else
    let due := if s.hk.roundAt == 0 then s.now else s.hk.roundAt - 1 + usT (100 * s.rd hkB R.HK_CFG_ROUND_PER)
    let s := s.advanceNow due
    let s := { s with hk := { s.hk with roundAt := s.now + 1 } }
    match nextChan 0 s with
    | none => ended (s.cntW hkB R.HK_STATUS_ROUNDS 1)
    | some c => dwellStart c s

/-- A dwell ends; after the last channel the round ends, and `ended` applies the per-round items (R463). -/
def hkDwellEnd (ended : State → State) (raws : List (BitVec 12)) (s : State) : State :=
  if !s.hkUp || !s.hkRun || !s.on hkB R.HK_STATUS_RUNNING || hkPaused s then s
  else
    let s := s.advanceNow (s.hk.dwellAt + halfUs (s.hk.settle + 2 ^ s.hk.acc))
    let c := s.rd hkB R.HK_STATUS_CHAN
    let s := hkResult c (dwellValues raws s) s
    match nextChan (c + 1) s with
    | some d => dwellStart d s
    | none => ended ((hkStop s).cntW hkB R.HK_STATUS_ROUNDS 1)

/-! Self-calibration (R466, R467). -/

/-- A self-calibration starts: ignored while one runs, held while OP 1 has the converter. -/
def selfcalStart (s : State) : State :=
  if s.on hkB R.HK_STATUS_SC_BUSY then s
  else if s.calRuns 1 then { s with hk := { s.hk with scHeld := true } }
  else
    let s := s.wr hkB R.HK_STATUS_SC_BUSY 1
    { s with hk := { s.hk with scHeld := false, scAt := s.now, scTemp := (look TsSt.idle s.hk.ts 30).last } }

/-- OFS and GAIN of a converter from its sums of 1,024 raw codes (R466): 2^15 (3,276.8 / (mr − m0) − 1), 3,276.8 being
16,384 / 5. No gain where both inputs read alike. -/
def scFactors (low ref : Nat) : Int × Option Int :=
  let d : Int := (ref : Int) - low
  (roundDiv (low : Int) 64,
   if d = 0 then none
   else
    let num : Int := 2 ^ 15 * (16384 * 1024 - 5 * d)
    some (if 0 < d then roundDiv num (5 * d.natAbs) else roundDiv (-num) (5 * d.natAbs)))

/-- OFS of a converter is written. The field is too narrow for the 32 codes that R466 lets pass: what it then holds is a
free value. -/
def ofsPut (f : Fld) (v : Int) (s : State) : State :=
  if v = 512 then (s.wr hkB f (s.draw % 2 ^ 10)).drawn else s.wr hkB f (trunc 10 v)

/-- Factors within the limits of R466. -/
def scOk (f : Int × Option Int) : Bool :=
  decide (f.1.natAbs ≤ 512) && (match f.2 with
    | some g => decide (g.natAbs ≤ 983)
    | none => false)

/-- A self-calibration ends: both factors take effect, or both are kept. -/
def selfcalDone (zA rA zB rB : Nat) (s : State) : State :=
  if !s.hkUp || !s.on hkB R.HK_STATUS_SC_BUSY then s
  else
    let s := (s.advanceNow (s.hk.scAt + usT 2052)).wr hkB R.HK_STATUS_SC_BUSY 0
    let a := scFactors zA rA
    let b := scFactors zB rB
    let inj := s.hk.injSc
    let s := { s with hk := { s.hk with injSc := false } }
    let s := if scOk a && scOk b && !inj then
        ofsPut R.HK_SC_FACT_B_OFS b.1 (ofsPut R.HK_SC_FACT_A_OFS a.1
          ((s.wr hkB R.HK_SC_FACT_A_GAIN (trunc 11 (a.2.getD 0))).wr hkB R.HK_SC_FACT_B_GAIN (trunc 11 (b.2.getD 0))))
      else (s.wr hkB R.HK_STATUS_SC_LIMIT 1).raise 0x408
    hkResume s

/-! The legacy converter (R468). -/

/-- LEGACY_CMD is written with START = 1. -/
def legacyCmd (s : State) : State :=
  if s.on hkB R.HK_CTRL_LEGACY_EN && !s.on hkB R.HK_LEGACY_CMD_BUSY then
    { s.wr hkB R.HK_LEGACY_CMD_BUSY 1 with hk := { s.hk with legAt := s.now + 1 } }
  else s

/-- The dwell in which the legacy conversion was asked for has not ended. -/
def legacyEarly (s : State) : Bool := s.on hkB R.HK_STATUS_RUNNING && !hkPaused s && decide (s.hk.dwellAt < s.hk.legAt)

/-- Its conversion, by converter A, ends: at a dwell boundary, with its own settling, so that the next dwell starts after
it. -/
def legacyDone (raw : BitVec 12) (s : State) : State :=
  if s.hkUp && s.on hkB R.HK_LEGACY_CMD_BUSY && !legacyEarly s then
    let s := if s.on hkB R.HK_STATUS_RUNNING && !hkPaused s then
        hkResume (s.advanceNow (s.hk.dwellAt + halfUs (s.rd hkB R.HK_CFG_SETTLE + 1)))
      else s
    let c := hkCode (hkCorrect false raw.toNat s)
    (((s.wr hkB R.HK_LEGACY_CMD_BUSY 0).wr hkB R.HK_LEGACY_RES_CODE c).wr hkB R.HK_LEGACY_RES_VALID 1)
  else s

/-- HK.CTRL has been written with w. -/
def hkCtrl (w : Word) (s : State) : State :=
  let s := hkSync s
  let s := if fget w 30 30 == 1 then
      (List.range 96).foldl (fun s c => (s.wr (hkB + 8 * c) R.HK_TRK_MAX 0).wr (hkB + 8 * c) R.HK_TRK_MIN 0xFFF) s
    else s
  if fget w 31 31 == 1 then selfcalStart s else s

/-- HK.INJECT has been written with w (R481). -/
def hkInject (w : Word) (s : State) : State :=
  let i := s.rd hkB R.HK_INJECT_INJ_TS
  let x := look TsSt.idle s.hk.ts i
  let x := if fget w 0 0 == 1 then { x with injTemp := 4, injDeg := s.rd hkB R.HK_INJECT_INJ_DEG } else x
  let x := if fget w 1 1 == 1 then { x with injFail := 3 } else x
  let h := if i < 31 then { s.hk with ts := put TsSt.idle s.hk.ts i x } else s.hk
  let h := if fget w 2 2 == 1 then { h with injSc := true } else h
  { s with hk := if fget w 3 3 == 1 then { h with injWin := setBit h.injWin (s.rd hkB R.HK_INJECT_INJ_WJ) } else h }

/-! Thermal sensors (R469). -/

/-- What sensor i holds. -/
def State.tsOf (s : State) (i : Nat) : TsSt := look TsSt.idle s.hk.ts i

/-- Sensor i is marked failed. -/
def tsFailed (i : Nat) (s : State) : Bool := s.rd hkB R.HK_TH_FAIL_FAILED / 2 ^ i % 2 == 1

/-- TS_OFS of sensor i. -/
def tsOfs (i : Nat) (s : State) : Int := s.rdI (calB + 4 * (i / 2)) (if i % 2 == 0 then R.CAL_TS_OFS_EVEN else R.CAL_TS_OFS_ODD)

/-- HK.TS of sensor i reads v. -/
def tsShow (i v : Nat) (s : State) : State := s.wr (hkB + 4 * (i / 2)) (if i % 2 == 0 then R.HK_TS_EVEN else R.HK_TS_ODD) v

/-- Raise an event of the thermal logic; in REST it is held until wake (R456). -/
def raiseHeld (id : Nat) (s : State) : State :=
  if s.islandRuns then s.raise id else { s with heldEvents := s.heldEvents ++ [id] }

/-- One sensor's reading, 1/8 °C before its offset; injected readings take its place (R481). -/
def tsReading (i : Nat) (raw : BitVec 16) (s : State) : State :=
  let x := s.tsOf i
  let v := if x.injTemp != 0 then (8 * x.injDeg : Int) else raw.toInt + tsOfs i s
  let bad := x.injFail != 0 || decide (v < -440) || decide (1200 < v)
  let x := { x with injFail := x.injFail - 1, injTemp := if x.injFail != 0 then x.injTemp else x.injTemp - 1 }
  let set (x : TsSt) (s : State) : State := { s with hk := { s.hk with ts := put TsSt.idle s.hk.ts i x } }
  let f := s.rd hkB R.HK_TH_FAIL_FAILED
  if bad then
    let x := { x with bad := x.bad + 1, good := 0 }
    if tsFailed i s || x.bad < 3 then set { x with bad := min x.bad 3 } s
    else raiseHeld 0x407 ((tsShow i 0x8000 ((set x s).wr hkB R.HK_TH_FAIL_FAILED (setBit f i))).cnt hkB R.HK_TH_CNT_FAILS 1)
  else
    let x := { x with bad := 0, last := v, has := true, good := min 16 (x.good + 1) }
    if tsFailed i s && x.good < 16 then set x s
    else tsShow i (trunc 16 v) ((set x s).wr hkB R.HK_TH_FAIL_FAILED (clrBit f i))

/-- HOT and its sensor: the greatest reading of the sensors not failed (R469). -/
def hotOf (s : State) : Option (Int × Nat) :=
  (List.range 31).foldl (fun (h : Option (Int × Nat)) i =>
    if tsFailed i s || !(s.tsOf i).has then h
    else match h with
      | some (v, _) => if v < (s.tsOf i).last then some ((s.tsOf i).last, i) else h
      | none => some ((s.tsOf i).last, i)) none

/-- The sensors of die d: lane dies 0 to 3, and the core die 4. -/
def dieSensors (d : Nat) : List Nat := if d < 4 then (List.range 6).map (· + 6 * d) else (List.range 7).map (· + 24)

/-- Some die has no sensor that has not failed. -/
def dieBlind (s : State) : Bool := (List.range 5).any (fun d => (dieSensors d).all (fun i => tsFailed i s))

/-- A hysteresis field in 1/8 °C (R470). -/
def hyst (f : Fld) (s : State) : Int := 8 * (max 2 (min 10 (s.rd hkB f)) : Nat)

/-- A level after a reading of HOT: it sets or clears after three in a row (R470). -/
def LvlSt.feed (x : LvlSt) (hot lvl h : Int) : LvlSt :=
  let toward := if x.on then decide (hot < lvl - h) else decide (lvl ≤ hot)
  if !toward then { x with n := 0 } else if x.n < 2 then { x with n := x.n + 1 } else ⟨!x.on, 0⟩

/-! Shutdown records (R472 to R474). -/

/-- A slot holds a record that is not cleared. -/
def shutOpen (i : Nat) (s : State) : Bool :=
  s.on (Obj.shut i).base R.HK_SHUT_REC2_VALID && !s.on (Obj.shut i).base R.HK_SHUT_REC2_CLEARED

/-- SHUT_CLR.PENDING follows the records. -/
def shutCount (s : State) : State :=
  s.wr hkB R.HK_SHUT_CLR_PENDING ((List.range 17).filter (fun i => shutOpen i s)).length

/-- Write a shutdown record to a slot, or to the AON copy (16). -/
def shutPut (i sensor : Nat) (reading : Int) (s : State) : State :=
  let b := (Obj.shut i).base
  let s := ((s.wr64 b R.HK_SHUT_REC0_T R.HK_SHUT_REC1_T s.tlv.toNat).wr b R.HK_SHUT_REC2_VALID 1).wr b R.HK_SHUT_REC2_CLEARED 0
  ((s.wr b R.HK_SHUT_REC2_TQ s.tq).wr b R.HK_SHUT_REC2_SENSOR sensor).wr b R.HK_SHUT_REC2_READING (trunc 16 reading)

/-- The first OTP slot that no record uses. -/
def shutFree (s : State) : Option Nat := (List.range 16).find? (fun i => !s.on (Obj.shut i).base R.HK_SHUT_REC2_VALID)

/-- Registers of BB and the switched domains that hold their values through a chip reset, but not without power: those
outside AON (R39, R42); the thermal logic's, the fuses' and the OTP's stay. -/
def unpoweredKey (k : Nat) : Bool :=
  if k < 2 ^ 32 then
    match place k with
    | .reg b off => match b with
      | .pwr => false
      | .flt => false
      | .safe => false
      | .hk => decide (off < 0x400)
      | .glb => !(off == 0x24 || decide (0x30 ≤ off ∧ off < 0x40))
      | .tl => decide (off < 0xF000)
      | .lane _ => decide (off < 0x7000)
      | _ => true
    | _ => true
  else match k / 2 ^ 44 with
    | 5 => false | 6 => false | 7 => false | 8 => false | 9 => false
    | _ => true

/-- SHUTDOWN sets (R472). -/
def thermalShutdown (sensor : Nat) (reading : Int) (s : State) : State :=
  let s := shutPut 16 sensor reading s
  let s := if s.biasUv then s
    else match shutFree s with
      | some i => shutPut i sensor reading s
      | none => s.wr hkB R.HK_TH_STATUS_SHUT_FULL 1
  let s := restOrder.foldl (fun s d => domToOff d s) (shutCount s)
  let s := { s with regs := dropKeys unpoweredKey s.regs, shadow := dropKeys unpoweredKey s.shadow, latch := [], mem := [] }
  biasAll { s with off := true, pages := [], uncPend := [], remap := [], mi2cAddr := 0x5A,
                   hk := { s.hk with offWait := true }, pwr := { s.pwr with wakeSrc := none } }

/-- SHUT_CLR is written with the right KEY (R474). -/
def shutClr (s : State) : State :=
  if s.on hkB R.HK_SHUT_CLR_BUSY then s
  else if s.safeOp.isSome || s.biasUv then s.wr hkB R.HK_SHUT_CLR_RESULT 1
  else
    let m := (List.range 17).foldl (fun m i => if shutOpen i s then setBit m i else m) 0
    { (s.wr hkB R.HK_SHUT_CLR_BUSY 1) with hk := { s.hk with clearing := m } }

/-- The clearing completes. -/
def shutClrDone (s : State) : State :=
  if s.on hkB R.HK_SHUT_CLR_BUSY then
    let m := s.hk.clearing
    let s := s.advance (usT (1000 * ((List.range 16).filter (fun i => m / 2 ^ i % 2 == 1)).length))
    let s := (List.range 16).foldl (fun s i =>
      if m / 2 ^ i % 2 == 1 then s.wr (Obj.shut i).base R.HK_SHUT_REC2_CLEARED 1 else s) s
    let b := (Obj.shut 16).base
    let s := ((s.setReg (b + 0x454) 0).setReg (b + 0x458) 0).setReg (b + 0x45C) 0
    let s := (s.wr hkB R.HK_SHUT_CLR_BUSY 0).wr hkB R.HK_SHUT_CLR_RESULT 0
    shutCount { s with hk := { s.hk with clearing := 0 } }
  else s

/-! Levels and DIM (R470, R471). -/

/-- DIM is requested. -/
def dimWant (s : State) : Bool :=
  s.on hkB R.HK_TH_STATUS_THROTTLE || s.on hkB R.HK_TH_STATUS_DIE_BLIND || s.on hkB R.HK_TH_CFG_FORCE

/-- DIM follows its request; TH_CFG has been written, or a level has changed. -/
def dimSync (s : State) : State := pwrThermal (s.wr hkB R.HK_TH_STATUS_DIM (b2n (dimWant s)))

/-- The WARN and THROTTLE levels after a reading of HOT. -/
def levelStep (hot : Int) (s : State) : State :=
  let w := s.hk.warn.feed hot 800 (hyst R.HK_TH_CFG_H_WARN s)
  let t := s.hk.thr.feed hot 880 (hyst R.HK_TH_CFG_H_THR s)
  let dw := w.on != s.hk.warn.on
  let dt := t.on != s.hk.thr.on
  let s := { s with hk := { s.hk with warn := w, thr := t } }
  let s := if dw then
      raiseHeld 0x404 ((if w.on then s.cnt hkB R.HK_TH_CNT_WARNS 1 else s).wr hkB R.HK_TH_STATUS_WARN (b2n w.on))
    else s
  if dt then
    raiseHeld 0x405 ((if t.on then s.cnt hkB R.HK_TH_CNT_THROTTLES 1 else s).wr hkB R.HK_TH_STATUS_THROTTLE (b2n t.on))
  else s

/-- A self-calibration is due where TS30 has moved by more than SC_DT (R466). -/
def selfcalDue (s : State) : State :=
  let dt := s.rd hkB R.HK_CFG_SC_DT
  if s.hkUp && dt != 0 && (s.tsOf 30).has && decide (8 * (dt : Int) < ((s.tsOf 30).last - s.hk.scTemp).natAbs) then selfcalStart s
  else s

/-- Every sensor gives a reading (R469, R470, R472). -/
def thermalReading (raws : List (BitVec 16)) (s : State) : State :=
  if s.por then s
  else
    let s := s.advanceNow (s.hk.thAt + (if s.pwrState == 3 || s.off then usT 1000 else usT 20))
    let s := (List.range 31).foldl (fun s i => tsReading i (raws.getD i 0) s) s
    let s := { s with hk := { s.hk with hotKnown := true, thAt := s.now } }
    let s := s.wr hkB R.HK_TH_STATUS_DIE_BLIND (b2n (dieBlind s))
    match hotOf s with
    | none => dimSync s
    | some (hot, i) =>
      let s := (s.wr hkB R.HK_TH_STATUS_HOT (trunc 16 hot)).wr hkB R.HK_TH_STATUS_HOT_TS i
      let sh := s.hk.shut.feed hot 960 (hyst R.HK_TH_CFG_H_SHUT s)
      let set := sh.on && !s.hk.shut.on
      let s := levelStep hot { s with hk := { s.hk with shut := sh } }
      if set && !s.off then thermalShutdown i hot s else selfcalDue (dimSync s)

/-- Boot step 1 may end after OFF (R473). -/
def offReady (s : State) : Bool :=
  s.hk.hotKnown && (match hotOf s with
    | some (hot, _) => decide (hot < 960 - hyst R.HK_TH_CFG_H_SHUT s)
    | none => true)

end Sys2Proof.Machine
end

