-- ==== Sys2Proof/Machine/CalOps.lean ====
section
/-! DEFINITION. Calibration (18): the sets with their checks, interpolation and application, and the calibration runs. -/

namespace Sys2Proof.Machine

/-! Calibration sets (R475 to R478). -/

/-- Values per point of a KIND; none where the KIND is unknown. -/
def calNval : Nat → Option Nat
  | 1 => some 288 | 2 => some 96 | 3 => some 1 | 4 => some 8 | 5 => some 31 | 6 => some 2 | 7 => some 193 | _ => none

/-- The range of the target field of value v of a KIND. -/
def calRange (kind v : Nat) : Int × Int :=
  match kind with
  | 1 => if v % 3 == 2 then (-128, 127) else (-512, 511)
  | 2 => if v % 3 == 0 then (0, 1023) else if v % 3 == 1 then (0, 15) else (-32, 31)
  | 3 => (0, 15)
  | 6 => (0, 255)
  | 7 => if v == 192 then (-1024, 1023) else (-32768, 32767)
  | _ => (-32768, 32767)

/-- Half h of a word, signed. -/
def halfOf (w : Word) (h : Nat) : Int := sext 16 (fget w (16 * h + 15) (16 * h))

/-- A set's points and values as its body gives them (R476). -/
def calParse (body : List Word) : CalSet :=
  let w0 := body.getD 0 0
  let n := fget w0 31 28
  let nv := fget w0 15 0
  let pt (p : Nat) : Int := halfOf (body.getD (1 + p / 2) 0) (p % 2)
  let val (p v : Nat) : Int := halfOf (body.getD (3 + p * ((nv + 1) / 2) + v / 2) 0) (v % 2)
  ⟨(List.range n).map pt, (List.range n).map (fun p => (List.range nv).map (val p)), 4 * body.length, false⟩

/-- Strictly ascending. -/
def ascending : List Int → Bool
  | a :: b :: l => decide (a < b) && ascending (b :: l)
  | _ => true

/-- The cause for which a set fails its checks, 0 where it passes (R477). -/
def calCause (num : Nat) (body : List Word) (s : State) : Nat :=
  let kind := num / 256
  let inst := num % 256
  let w0 := body.getD 0 0
  let n := fget w0 31 28
  match calNval kind with
  | none => 4
  | some nv =>
    if n < 1 ∨ 4 < n ∨ (kind = 5 ∧ n ≠ 1) ∨ fget w0 15 0 ≠ nv ∨ body.length ≠ 3 + n * ((nv + 1) / 2) then 1
    else
      let c := calParse body
      if !ascending c.pts || c.pts.any (fun t => decide (t < -320) || decide (1000 < t)) then 2
      else if c.vals.any (fun l => (l.zipIdx).any (fun e =>
          decide (e.1 < (calRange kind e.2).1) || decide ((calRange kind e.2).2 < e.1))) then 3
      else if (if kind ≤ 4 then decide (64 ≤ inst) || s.dieBad / 2 ^ (inst / 16) % 2 == 1 else inst != 0) then 4
      else if 262144 < (s.calSets.filter (fun e => e.1 != num)).foldl (fun a e => a + e.2.size) c.size then 5
      else 0

/-- Base for SET_STAT of a set. -/
def calB' (num : Nat) : Nat := (Obj.calSet num).base

/-- A set fails: its targets keep their values (R477). -/
def calFail (num cause : Nat) (s : State) : State :=
  ((s.wr (calB' num) R.CAL_SET_STAT_FAIL 1).wr (calB' num) R.CAL_SET_STAT_CAUSE cause).raise 0x40B

/-- The reading that a set is applied at (R478): its sensor's, else the hottest of the same die, else HOT. -/
def calTemp (num : Nat) (s : State) : Int :=
  let n := num % 256
  let i := if num / 256 ≤ 4 then 6 * (n / 16) + n % 16 / 4 else 30
  if !tsFailed i s then (s.tsOf i).last
  else match ((dieSensors (if i < 24 then i / 6 else 4)).filter (fun j => !tsFailed j s && (s.tsOf j).has)).map (fun j => (s.tsOf j).last) with
    | v :: l => l.foldl max v
    | [] => s.rdI hkB R.HK_TH_STATUS_HOT

/-- Values interpolated between two points. -/
def calBetween (t t0 t1 : Int) : List Int → List Int → List Int
  | a :: l, b :: m => (a + roundDiv ((b - a) * (t - t0)) (t1 - t0).natAbs) :: calBetween t t0 t1 l m
  | _, _ => []

/-- A set's values at temperature t (R478). -/
def calInterp (t : Int) : List Int → List (List Int) → List Int
  | t0 :: t1 :: ts, v0 :: v1 :: vs =>
    if t ≤ t0 then v0 else if t < t1 then calBetween t t0 t1 v0 v1 else calInterp t (t1 :: ts) (v1 :: vs)
  | _, v :: _ => v
  | _, [] => []

/-- T lies outside a set's points; a set of one point never clamps. -/
def calClamps (c : CalSet) (t : Int) : Bool :=
  match c.pts with
  | [] => false
  | [_] => false
  | a :: l => decide (t < a) || decide (l.foldl max a < t)

/-- One code at most towards a value (R438). -/
def oneStep (old : Nat) (v : Int) : Nat := if (old : Int) < v then old + 1 else if v < old then old - 1 else old

/-- A factor of a bias island moves towards its value (R475). DESIGN CHOICE: by 1/2 LSB at most of output, 2 units of gain or
8 of offset, so that gain and offset together keep within the ±1 LSB a round. -/
def biasTowards : List Int → List Int → List Int
  | v :: l, old =>
    let lim : Int := if l.length % 2 = 1 then 2 else 8
    let o := old.headD 0
    (o + clampI (-lim) lim (v - o)) :: biasTowards l old.tail
  | [], _ => []

/-- The values take effect on a set's targets (R475). -/
def calTargets (num : Nat) (v : List Int) (s : State) : State :=
  let n := num % 256
  let at_ (i : Nat) : Int := v.getD i 0
  match num / 256 with
  | 1 => (List.range 96).foldl (fun s j =>
      rxTrimPut n j (fset (fset (fset 0 29 20 (trunc 10 (at_ (3 * j)))) 19 10 (trunc 10 (at_ (3 * j + 1)))) 7 0
        (trunc 8 (at_ (3 * j + 2)))) s) s
  | 2 => (List.range 32).foldl (fun s j =>
      let b := (Obj.swing n j).base
      ((s.wr b R.TX_SWING_DATA_FS (at_ (3 * j)).toNat).wr b R.TX_SWING_DATA_PREDRV (at_ (3 * j + 1)).toNat).wr b
        R.TX_SWING_DATA_CMTRIM (at_ (3 * j + 2)).toNat) s
  | 3 => s.wr (laneB n) R.RX_TERM_TRIM (at_ 0).toNat
  | 4 => { s with hk := { s.hk with biasCal := put [] s.hk.biasCal n (biasTowards v (look [] s.hk.biasCal n)) } }
  | 5 => (List.range 31).foldl (fun s i =>
      s.wr (calB + 4 * (i / 2)) (if i % 2 == 0 then R.CAL_TS_OFS_EVEN else R.CAL_TS_OFS_ODD) (trunc 16 (at_ i))) s
  | 6 =>
    if s.on clkB R.CLK_CTRL_COMP_EN then
      (s.wr clkB R.CLK_COMP_IRO_TRIM (oneStep (s.rd clkB R.CLK_COMP_IRO_TRIM) (at_ 0))).wr clkB R.CLK_COMP_LPO_TRIM
        (oneStep (s.rd clkB R.CLK_COMP_LPO_TRIM) (at_ 1))
    else s
  | _ => { s.wr calB R.CAL_ABS_ABS (trunc 11 (at_ 192)) with hk := { s.hk with hkin := v.take 192 } }

/-- A set in the store is applied at the present temperature (R478). An armed INJ_RANGE clamps it: to which end, where
the temperature lies between the points, is a free value. -/
def calApply (num : Nat) (s : State) : State :=
  let c := look CalSet.none s.calSets num
  match c.vals with
  | [] => s
  | v0 :: _ =>
    let t := calTemp num s
    let inj := s.hk.injRange == num + 1
    let s := if inj then { s with hk := { s.hk with injRange := 0 } } else s
    let real := calClamps c t
    let free := inj && !real && decide (1 < c.pts.length)
    let v := if free then (if s.draw % 2 == 0 then v0 else c.vals.getLastD []) else calInterp t c.pts c.vals
    let s := if free then s.drawn else s
    let now := real || inj
    let s := s.wr (calB' num) R.CAL_SET_STAT_CLAMPED (b2n now)
    let s := { s with calSets := put CalSet.none s.calSets num { c with clamped := now } }
    let s := if now && !c.clamped then s.raise 0x40C else s
    calTargets num v s

/-- A CAL_SET section is checked and taken into the store (R475, R477); kinds applied at every round wait for it. -/
def calLoad (num : Nat) (body : List Word) (s : State) : State :=
  let cause := calCause num body s
  if cause != 0 then calFail num cause s
  else
    let c := calParse body
    let s := { s with calSets := put CalSet.none s.calSets num { c with clamped := (look CalSet.none s.calSets num).clamped } }
    let b := calB' num
    let s := (((s.wr b R.CAL_SET_STAT_VALID 1).wr b R.CAL_SET_STAT_FAIL 0).wr b R.CAL_SET_STAT_CAUSE 0).wr b R.CAL_SET_STAT_NPTS c.pts.length
    if num / 256 == 4 || num / 256 == 6 then s else calApply num s

/-- The items of every round: BIAS sets, and OSC with COMP_EN = 1 (R475, R478). -/
def calRound (s : State) : State :=
  let l := (s.calSets.map Prod.fst).filter (fun k => k / 256 == 4 || (k / 256 == 6 && s.on clkB R.CLK_CTRL_COMP_EN))
  l.foldl (fun s k => calApply k s) s

/-! Calibration runs (R479, R480). -/

/-- CAL.CMD is written with START = 1. -/
def calStart (s : State) : State :=
  let op := s.rd calB R.CAL_CMD_OP
  if s.hk.run.isSome || (op == 1 && s.on hkB R.HK_STATUS_SC_BUSY) || !s.hkRun || op == 0 || decide (4 < op) then
    s.wr calB R.CAL_STATUS_RESULT 1
  else
    let r : CalRun := ⟨op, s.rd calB R.CAL_CMD_ARG, s.hk.injCal, false, s.now⟩
    let s := (s.wr calB R.CAL_STATUS_BUSY 1).wr calB R.CAL_STATUS_LAST_OP op
    let s := if op == 2 then
        { s.wr clkB R.CLK_STATUS_CALCLK_OK 0 with clk := { s.clk with
            good := eraseKey s.clk.good 3, bad := eraseKey s.clk.bad 3, decl := eraseKey s.clk.decl 3 } }
      else s
    { s with hk := { s.hk with run := some r, injCal := false } }

/-- The sets that OP 4 applies: one, or every one in the store. -/
def calChosen (arg : Nat) (s : State) : List Nat :=
  (s.calSets.map Prod.fst).filter (fun k => arg == 0xFFFF || k == arg)

/-- What a run's measurement leads to: the result, and the state with its targets written where it is 0 (R479). -/
def calOutcome (r : CalRun) (x : CalMeas) (s : State) : Option (Nat × State) :=
  match r.op, x with
  | 1, .hkref raws =>
    let sum := (List.range 4096).foldl (fun t i => t + hkCorrectAbs (i % 2 == 1) (raws.getD i 0).toNat 0 s) 0
    if 2007 * 65536 ≤ sum ∧ sum ≤ 2089 * 65536 then
      some (0, s.wr calB R.CAL_ABS_ABS (trunc 11 (roundDiv (2 ^ 15 * ((2048 * 65536 : Int) - sum)) sum.toNat)))
    else some (2, s)
  | 2, .osc iro lpo it lt =>
    let di : Int := (iro : Int) - 200000000
    let dl : Int := (lpo : Int) - 1000000
    if r.clkBad || !s.on clkB R.CLK_STATUS_CALCLK_OK || decide (10000000 < di.natAbs) || decide (30000 < dl.natAbs) then some (3, s)
    else
      let s := (s.wr calB R.CAL_OSC_RES_IRO_ERR (trunc 16 (roundDiv di 800))).wr calB R.CAL_OSC_RES_LPO_ERR (trunc 16 (roundDiv dl 4))
      some (0, if s.on clkB R.CLK_CTRL_COMP_EN then s
        else (s.wr clkB R.CLK_COMP_IRO_TRIM it.toNat).wr clkB R.CLK_COMP_LPO_TRIM lt.toNat)
  | 3, .temp sums =>
    let ids := (List.range 31).filter (fun i => !tsFailed i s)
    let ofs (i : Nat) : Int := sext 16 r.arg - roundDiv (sums.getD i 0) 64
    if ids.any (fun i => decide (80 < (ofs i).natAbs)) then some (4, s)
    else some (0, ids.foldl (fun s i =>
      s.wr (calB + 4 * (i / 2)) (if i % 2 == 0 then R.CAL_TS_OFS_EVEN else R.CAL_TS_OFS_ODD) (trunc 16 (ofs i))) s)
  | 4, _ => some (0, (calChosen r.arg s).foldl (fun s k => calApply k s) s)
  | _, _ => none

/-- How long a run takes, in ticks (R479). -/
def calTime (op : Nat) : Nat := match op with | 1 => usT 2100 | 2 => usT 1000000 | 3 => usT 1300 | _ => usT 20000

/-- A run ends (R480): its result, all or nothing; a self-calibration held for it starts. -/
def calDone (x : CalMeas) (s : State) : State :=
  match s.hk.run with
  | none => s
  | some r =>
    if !s.bbOn || s.gateShut 12 || (r.op == 1 && !s.hkUp) then s
    else
      let s := s.advanceNow (r.at_ + calTime r.op)
      match calOutcome r x s with
      | none => s
      | some o =>
        let res := if r.inj then 5 else o.1
        let s := if res == 0 then o.2 else s
        let s := if r.inj && r.op == 4 then (calChosen r.arg s).foldl (fun s k =>
            (s.wr (calB' k) R.CAL_SET_STAT_FAIL 1).wr (calB' k) R.CAL_SET_STAT_CAUSE 6) s else s
        let s := (s.wr calB R.CAL_STATUS_BUSY 0).wr calB R.CAL_STATUS_RESULT res
        let s := { s with hk := { s.hk with run := none } }
        let s := s.raise (if res == 0 then 0x40A else 0x40B)
        if s.hk.scHeld then selfcalStart s else if r.op == 1 then hkResume s else s

/-- CAL.INJECT has been written with w (R481). -/
def calInject (w : Word) (s : State) : State :=
  let h := if fget w 0 0 == 1 then { s.hk with injCal := true } else s.hk
  { s with hk := if fget w 1 1 == 1 then { h with injRange := s.rd calB R.CAL_SET_SEL_SET + 1 } else h }

end Sys2Proof.Machine
end

