-- ==== Sys2Proof/Machine/BistOps.lean ====
section
/-! DEFINITION. Self-test (19): the shade rotation, marking elements as failed and mapping lanes onto the good ones, fuse
repair, and the analogue checks. -/

namespace Sys2Proof.Machine

/-! Shade rotation (R484 to R488). -/

/-- Base for the fields of ROT_STAT and ROT_CNT of a unit. -/
def rotB (u : Nat) : Nat := bistB + 4 * u

/-- ROT_STAT.STEP. -/
def rotStep (u : Nat) (s : State) : Nat := s.rd (rotB u) R.BIST_ROT_STAT_STEP
def rotGo (u st : Nat) (s : State) : State := (s.wr (rotB u) R.BIST_ROT_STAT_STEP st).setRot u { s.rotOf u with at_ := s.now }

/-- Base for BIST.MAP word w of a unit. -/
def mapB (u w : Nat) : Nat := bistB + 12 * u + 4 * w

/-- The element that serves lane i of a unit; 31 for none. -/
def mapGet (u i : Nat) (s : State) : Nat := fget (s.getReg (mapB u (i / 6) + 0x50)) (5 * (i % 6) + 4) (5 * (i % 6))

/-- Lane i of a unit is served by element p. -/
def mapSet (u i p : Nat) (s : State) : State :=
  let k := mapB u (i / 6) + 0x50
  s.setReg k (fset (s.getReg k) (5 * (i % 6) + 4) (5 * (i % 6)) p)

/-- The unit ID of element p of rotation unit u (R489). -/
def elemId (u p : Nat) : Nat := 17 * u + p

/-- BIST_SIG's signature of a unit ID. -/
def sigOf (id : Nat) (s : State) : Option Word := (s.sigs.find? (fun e => e.1 == id)).map Prod.snd

/-- An element is marked FAILED (R488). -/
def elemFail (u p : Nat) (s : State) : State :=
  let b := rotB u
  ((s.wr b R.BIST_ROT_STAT_FAILED (setBit (s.rd b R.BIST_ROT_STAT_FAILED) p)).wr b R.BIST_ROT_STAT_NOSPARE 1).raise 0x418

/-- Unit u can rotate: BB runs with its clock and gate, CCLK runs, and an engine unit's engine is on (R487). -/
def rotRuns (u : Nat) (s : State) : Bool :=
  s.bbOn && decide (s.pwrState ≤ 1) && s.cclk && !s.gateShut 13 && (u < 4 || s.domOn (74 + u))

/-- The rotation of unit u is enabled and has a spare. -/
def rotMay (u : Nat) (s : State) : Bool :=
  rotRuns u s && s.rd bistB R.BIST_ROT_CFG_EN / 2 ^ u % 2 == 1 && s.rd (rotB u) R.BIST_ROT_STAT_FAILED == 0

/-- A step starts: the shade asks for its token (R485 step 1). -/
def rotStart (u : Nat) (s : State) : State :=
  if rotMay u s && rotStep u s == 0 then
    let x := s.rotOf u
    let per := max 1 (s.rd bistB R.BIST_ROT_CFG_ROT_PER)
    let s := if x.startAt == 0 then s else s.advanceNow (x.startAt - 1 + usT (16000 * per))
    let s := rotGo u 1 (s.setRot u { s.rotOf u with startAt := s.now + 1, redo := false, relieved := none, swap := none })
    s.setDom (84 + u) { DomSt.idle with queuedAt := s.now + 1 }
  else s

/-- A step ends: the shade is powered down. -/
def rotEnd (u : Nat) (s : State) : State :=
  let s := (s.wr (rotB u) R.BIST_ROT_STAT_STEP 0).setRot u { s.rotOf u with redo := false, relieved := none, swap := none }
  s.setDom (84 + u) DomSt.idle

/-- TARGET advances after a step. -/
def rotNext (u : Nat) (s : State) : State := s.cntW (rotB u) R.BIST_ROT_CNT_TARGET 1

/-- The swap instant is set (R485 step 5). -/
def rotSchedule (u : Nat) (s : State) : State :=
  let g := 2 ^ (s.rd bistB R.BIST_ROT_CFG_GRID + 16)
  let t := s.tlv.toNat
  let x := (t + 16384 + g - 1) / g * g
  rotGo u 5 (s.setRot u { s.rotOf u with swap := some (x, s.now + (x - t)) })

/-- Steps 3 and 4 start, or are skipped for a lane whose domain is off (R487). -/
def rotCompare (u : Nat) (s : State) : State :=
  if u < 4 && !s.domOn (16 * u + s.rd (rotB u) R.BIST_ROT_CNT_TARGET) then rotSchedule u s
  else rotGo u 4 (s.setRot u { s.rotOf u with swap := none })

/-- An LBIST of the shade, or of the relieved element, ends with a signature (R485, R488). -/
def rotLbist (u : Nat) (sig : Word) (s : State) : State :=
  let x := s.rotOf u
  if !rotRuns u s || !(rotStep u s == 2 || (rotStep u s == 6 && x.relieved.isSome)) then s
  else
    let s := s.advanceNow (x.at_ + usT 1250)
    let p := (x.relieved).getD (s.rd (rotB u) R.BIST_ROT_STAT_SHADE)
    let inj := x.injShade && rotStep u s == 2
    let pass := !inj && (match sigOf (elemId u p) s with
      | some w => w == sig
      | none => true)
    let s := if inj then s.setRot u { s.rotOf u with injShade := false } else s
    if rotStep u s == 6 then rotEnd u (if pass then s else elemFail u p s)
    else if !pass then rotNext u (rotEnd u (elemFail u p s))
    else if x.redo then rotSchedule u s
    else rotCompare u s

/-- Duration of a compare in ticks: CCLK cycles for lane units, FCLK for engine units. -/
def compareTime (u : Nat) (s : State) : Nat :=
  let n := 2 ^ (min 10 (s.rd bistB R.BIST_ROT_CFG_CMP) + 10)
  s.cclkUp (n * if u < 4 then 1 else 2)

/-- The compare ends, or finds a difference before S (R485 steps 4 and 5, R488). -/
def rotCompared (u : Nat) (differs : Bool) (s : State) : State :=
  let x := s.rotOf u
  let st := rotStep u s
  if !rotRuns u s || !(st == 4 || (st == 5 && !x.redo && differs)) then s
  else
    let s := if st == 4 then s.advanceNow (x.at_ + compareTime u s) else s
    if differs || x.injCmp then
      let s := s.setRot u { s.rotOf u with injCmp := false, redo := true, swap := none }
      let s := (s.cnt (rotB u) R.BIST_ROT_CNT_MISMATCH 1).wr (rotB u) R.BIST_ROT_STAT_SUSPECT 1
      rotGo u 2 (s.raise 0x419)
    else rotSchedule u s

/-- The swap instant S: the crossbar switches (R485 steps 5 and 6). -/
def rotSwap (u : Nat) (s : State) : State :=
  match (s.rotOf u).swap with
  | none => s
  | some (x, due) =>
    if !rotRuns u s || rotStep u s != 5 then s
    else
      let s := s.advanceReq x due
      let b := rotB u
      let i := s.rd b R.BIST_ROT_CNT_TARGET
      let old := mapGet u i s
      let s := (mapSet u i (s.rd b R.BIST_ROT_STAT_SHADE) s).wr b R.BIST_ROT_STAT_SHADE old
      let s := rotNext u (s.cnt b R.BIST_ROT_CNT_SWAPS 1)
      if (s.rotOf u).redo then rotGo u 6 (s.setRot u { s.rotOf u with swap := none, redo := false, relieved := some old })
      else rotEnd u s

/-- A block reset of the TARGET lane, or an FE commit that moves it to another group slot, in steps 3 to 5: steps 3 and 4
are repeated (R487). -/
def rotRepeat (u i : Nat) (s : State) : State :=
  let st := rotStep u s
  if (st == 3 || st == 4 || st == 5) && s.rd (rotB u) R.BIST_ROT_CNT_TARGET == i then rotCompare u s else s

/-- ROT_CFG has been written: a unit whose EN bit was cleared abandons its step. -/
def rotCfgWritten (s : State) : State :=
  (List.range 8).foldl (fun s u =>
    if s.rd bistB R.BIST_ROT_CFG_EN / 2 ^ u % 2 == 0 && rotStep u s != 0 then rotAbandon u s else s) s

/-! Repair at boot (R490 to R492). -/

/-- The lanes of a unit take its good elements in ascending order; lanes beyond the good count, highest first, are
unserved (R490). With no failed element, lane i runs on element i and element 16 is the shade (R484). -/
def mapRepair (u : Nat) (s : State) : State :=
  let f := s.rd (rotB u) R.BIST_ROT_STAT_FAILED
  let good := (List.range 17).filter (fun p => f / 2 ^ p % 2 == 0)
  let s := (List.range 16).foldl (fun s i => mapSet u i (good.getD i 31) s) s
  let lost := (List.range 16).filter (fun i => decide (good.length ≤ i))
  { s with unserved := lost.foldl (fun m i => setBit m (if u < 4 then 16 * u + i else 64 + 16 * (u - 4) + i)) s.unserved }

/-- A failing element at boot. -/
def elemFailBoot (id : Nat) (s : State) : State :=
  let u := id / 17
  let p := id % 17
  if s.rd (rotB u) R.BIST_ROT_STAT_FAILED / 2 ^ p % 2 == 1 then s else mapRepair u (elemFail u p s)

/-- FUSE_CMD is written with the right KEY (R492). -/
def fuseCmd (s : State) : State :=
  if s.fuseOp.isSome || s.biasUv then s.wr bistB R.BIST_FUSE_CMD_RESULT 1
  else if 64 ≤ s.fuses.length then s.wr bistB R.BIST_FUSE_CMD_RESULT 3
  else { s.wr bistB R.BIST_FUSE_CMD_BUSY 1 with fuseOp := some (s.getReg (bistB + 0x144), s.getReg (bistB + 0x148)) }

/-- The programming ends. On a failed read-back, which bits hold, and whether the entry is used up, are free values. -/
def fuseDone (verified : Bool) (s : State) : State :=
  match s.fuseOp with
  | none => s
  | some e =>
    let s := { s.wr bistB R.BIST_FUSE_CMD_BUSY 0 with fuseOp := none }
    if verified then { s.wr bistB R.BIST_FUSE_CMD_RESULT 0 with fuses := s.fuses ++ [e] }
    else
      let f := s.draw
      let used := s.drawn.draw % 2 == 1
      let s := s.drawn.drawn
      let s := if used then
          { s with fuses := s.fuses ++ [(e.1 &&& BitVec.ofNat 32 f, e.2 &&& BitVec.ofNat 32 (f / 2 ^ 32))] } else s
      (s.wr bistB R.BIST_FUSE_CMD_RESULT 2).raise 0x41B

/-! Analogue checks (R493). -/

/-- A near-end loopback of lane n can run. -/
def loopMay (n : Nat) (s : State) : Bool :=
  s.synLocked (n / 8) && s.on (laneB n) R.TX_CTRL_ENABLE && s.rd (laneB n) R.TX_STATUS_SRC_ACT == 0 &&
    s.on (laneB n) R.RX_CTRL_ENABLE && s.rxMode n == s.rd (laneB n) R.TX_CTRL_MODE

/-- LOOP_CMD is written with START = 1. -/
def loopStart (s : State) : State :=
  let op := s.rd bistB R.BIST_LOOP_CMD_OP
  let n := s.rd bistB R.BIST_LOOP_CMD_LANE
  let may := (op == 1 && loopMay n s) || (op == 2 && s.hkRun)
  if s.loop.isSome || !may then s.wr bistB R.BIST_LOOP_CMD_RESULT 1
  else { s.wr bistB R.BIST_LOOP_CMD_BUSY 1 with loop := some ⟨op, n, s.injLoop⟩, injLoop := false }

/-- The result of a check. -/
def loopResult (r : LoopRun) (errors rms : Nat) (failing : Option (BitVec 8)) (s : State) : Nat :=
  if r.inj then 5
  else if r.op == 2 then (if failing.isSome then 4 else 0)
  else if errors != 0 then 2
  else if rms < s.rd bistB R.BIST_LOOP_LIM_RMS_LO ∨ s.rd bistB R.BIST_LOOP_LIM_RMS_HI < rms then 3
  else 0

/-- A check ends: OP 1 with what its generator and its receiver measured, OP 2 with the first failing channel. -/
def loopDone (errors : Nat) (rms : BitVec 8) (failing : Option (BitVec 8)) (s : State) : State :=
  match s.loop with
  | none => s
  | some r =>
    if !s.bbOn || s.gateShut 13 then s
    else
      let res := loopResult r errors rms.toNat failing s
      let s := { (s.wr bistB R.BIST_LOOP_CMD_BUSY 0).wr bistB R.BIST_LOOP_CMD_RESULT res with loop := none }
      let s := if r.op == 1 then
          let s := (s.wr bistB R.BIST_LOOP_RES_ERRORS (min errors 65535)).wr bistB R.BIST_LOOP_RES_RMS rms.toNat
          if 2 ≤ s.rxState r.lane then rxGo r.lane 2 5 s else s
        else match failing with
          | some c => s.wr bistB R.BIST_LOOP_RES_RMS c.toNat
          | none => s
      if res == 0 then s else s.raise 0x41A

/-- BIST.INJECT has been written with w (R503). -/
def bistInject (w : Word) (s : State) : State :=
  let u := s.rd bistB R.BIST_INJECT_INJ_UNIT
  let x := s.rotOf u
  let s := s.setRot u { x with injShade := x.injShade || fget w 0 0 == 1, injCmp := x.injCmp || fget w 1 1 == 1 }
  { s with injLoop := s.injLoop || fget w 2 2 == 1, injMbist := s.injMbist || fget w 3 3 == 1 }

end Sys2Proof.Machine
end

