-- ==== Sys2Proof/Machine/FltOps.lean ====
section
/-! DEFINITION. The fault collector's registers (19): source configuration, records, ALIVE with its kick window, and the
levels of INT_N and FAULT_N. -/

namespace Sys2Proof.Machine

/-- BOOT.STATUS.STATE. -/
def State.bootState (s : State) : Nat := s.rd bootB R.BOOT_STATUS_STATE

/-- Boot completes: DONE or FAIL (R418). -/
def State.booted (s : State) : Bool := decide (6 ≤ s.bootState)

/-! Source configuration (R495, R496). -/

/-- The block that BLOCK_RST resets: none for every other source (R495). -/
def hasBlockRst (id : Nat) : Bool :=
  decide (id < 1008) || decide (1104 ≤ id ∧ id < 1136) || decide (0x470 ≤ id ∧ id ≤ 0x475) || decide (0x430 ≤ id ∧ id ≤ 0x435)

/-- The bits of SRC_CFG that a write stores for a source: HOST apart. -/
def srcWritable (id : Nat) : Word :=
  if id == 0x3F5 || id == 0x442 then 0
  else
    let w : Word := if id == 0x3F0 || id == 0x3F1 then 0x07 else 0x6F
    if hasBlockRst id then w else fset w 2 2 0

/-- FLT.SRC_CFG is written with w for the selected source. An ID with no source ignores it. -/
def srcCfgWrite (w : Word) (s : State) : State :=
  let id := s.rd fltB R.FLT_SRC_SEL_ID
  if 1152 ≤ id then s
  else
    let k := (Obj.src id).base + 0x14
    let m := srcWritable id
    let s := s.setReg k ((s.getReg k &&& ~~~ m) ||| (w &&& m))
    let s := if fget w 15 15 == 1 then s.wr (Obj.src id).base R.FLT_SRC_CFG_TROUBLE 0 else s
    if id == 0x3F5 || id == 0x442 then s
    else
      let e := evtB + 0x100 + 4 * (id / 32)
      s.setReg e (fset (s.getReg e) (id % 32) (id % 32) (fget w 4 4))

/-! ALIVE (R501). -/

/-- The conditions under which ALIVE toggles, the kick apart. -/
def aliveMay (s : State) : Bool :=
  s.bootState == 6 && !s.fatal && !s.off && !s.por && !s.inReset && s.coreState 16 != 4 && s.coreState 16 != 5

/-- ALIVE toggles. -/
def aliveOn (s : State) : Bool := aliveMay s && !(s.on fltB R.FLT_CTRL_KICK_EN && s.kickMissed)

/-- Where its conditions fail, ALIVE is held low. -/
def aliveSync (s : State) : State := if s.alive && !aliveOn s then { s with alive := false } else s

/-- ALIVE toggles at its half period. -/
def aliveToggle (s : State) : State := if aliveOn s then { s with alive := !s.alive, aliveAt := s.now } else aliveSync s

/-- A kick window starts where the kick check runs: boot is DONE and the part is not in REST. -/
def kickStart (s : State) : State :=
  if s.on fltB R.FLT_CTRL_KICK_EN && s.bootState == 6 && s.pwrState != 3 then { s with kickAt := some s.now, kickMissed := false } else s

/-- A write of ALIVE_KICK: only the supervisor pair's counts. -/
def aliveKick (m : Master) (s : State) : State := if m == .pair then kickStart s else s

/-- The kick window counts as missed. -/
def kickMiss (s : State) : State :=
  match s.kickAt with
  | none => s
  | some _ =>
    let stops := aliveOn s
    let s := aliveSync { s with kickAt := none, kickMissed := true }
    if stops then s.raise 0x41E else s

/-- The kick window ends without a kick. -/
def kickTimeout (s : State) : State :=
  match s.kickAt with
  | none => s
  | some t => kickMiss (s.advanceNow (t + usT (1024 * max 1 (s.rd fltB R.FLT_CTRL_KICK_TO))))

/-! FLT.CTRL and FLT.INJECT. -/

/-- Every record is freed. -/
def recClear (s : State) : State :=
  let s := (List.range 8).foldl (fun s i => s.wr (Obj.errRec i).base R.FLT_REC_W0_VALID 0) s
  { s.wr fltB R.FLT_STATUS_REC_USED 0 with recFull := false }

/-- FLT.CTRL has been written: `old` is the word before it, `w` the word written. -/
def fltCtrl (old w : Word) (s : State) : State :=
  let s := if fget w 31 31 == 1 then s.wr fltB R.FLT_STATUS_TOP_CLASS 0 else s
  let s := if fget w 30 30 == 1 then recClear s else s
  if fget old 4 4 == 0 && fget w 4 4 == 1 then kickStart { s with kickMissed := false }
  else if fget w 4 4 == 0 then { s with kickAt := none, kickMissed := false }
  else s

/-- FLT.INJECT has been written with w (R503). -/
def fltInject (w : Word) (s : State) : State :=
  let s := if fget w 0 0 == 1 then s.raiseA 0x41C ⟨0x3F, 3, 0xFFFFFFFC⟩ else s
  let s := if fget w 1 1 == 1 then { s with injFull := true } else s
  if fget w 2 2 == 1 then kickMiss s else s

/-! Pins (R500, R515). -/

/-- INT_N is asserted: some STAT bit has its EN bit set. Held in REST, released in FATAL, OFF and reset. -/
def intAsserted (s : State) : Bool :=
  !s.fatal && !s.off && !s.por && !s.inReset &&
    (List.range 36).any (fun i => s.getReg (evtB + 4 * i) &&& s.getReg (evtB + 0x100 + 4 * i) != 0)

/-- FAULT_N is asserted. -/
def faultAsserted (s : State) : Bool :=
  s.fatal || s.off || s.hk.offWait || s.on glbB R.GLB_PIN_STAT_TEST_HI || s.on fltB R.FLT_STATUS_PIN || s.bootState == 7

end Sys2Proof.Machine
end

