-- ==== Sys2Proof/Machine/Commit.lean ====
section
/-! DEFINITION. Commits of every class (R73 to R76), immediate and by a timed action, and the direct-write legacy mode
(R77, R525). -/

namespace Sys2Proof.Machine

/-! Groups. -/

/-- How many instances a commit class has; 0 for a reserved class (R73). -/
def clsCount (cls : Nat) : Nat := [64, 64, 64, 64, 64, 64, 64, 64, 8, 4, 1, 6, 1, 1].getD cls 0

/-- The keys of the group of a class at an instance. -/
def clsKey (cls i : Nat) : Nat → Bool :=
  match cls with
  | 8 => keyIn (octB i) 0x10000
  | 9 => feKey i
  | 10 => mdwKey
  | 11 => keyIn (mcB i) 0x10000
  | 12 => keyIn hkB 0x10000
  | 13 => keyIn clkB 0x10000
  | _ => laneSub i (0x1000 * cls)

/-- The domain that holds a group; none for a group of AON or BB (R39, R42). -/
def clsDom (cls i : Nat) : Option Nat :=
  if cls < 7 then some i else if cls == 8 then some (64 + i) else if cls == 9 then some (78 + i)
  else if cls == 11 then some (72 + i) else none

/-- The rule of the HK group: no monitor photodiode takes range 3 (18). -/
def hkRules (s : State) : Nat :=
  if (List.range 64).any (fun n => fget (s.getShadow (hkB + 0x20 + 4 * (n / 16))) (2 * (n % 16) + 1) (2 * (n % 16)) == 3)
  then 1 else 0

/-- The agreement rules of a group on its shadows: the lowest failing cause, 0 where every rule holds (R76). -/
def clsRules (cls i : Nat) (s : State) : Nat :=
  match cls with
  | 0 => rxRules i s
  | 1 => eqRules i s
  | 2 => txRules i s
  | 3 => acqRules i s
  | 4 => fecRules i s
  | 5 => watchRules i s
  | 6 => hazeRules i s
  | 7 => biasRules i s
  | 8 => octRules i s
  | 9 => feAllRules i s
  | 10 => mdwRules s
  | 12 => hkRules s
  | 13 => clkRules s
  | _ => 0

/-- What a commit of the WATCH group does (R282, R289, R291). -/
def watchCopy (n : Nat) (s : State) : State :=
  let old := (List.range 4).map (fun c => (c, s.getReg (chB n c + 0x5100), s.getReg (chB n c + R.WATCH_CH_CUST_DEC1.off),
    chainPar n c s))
  old.foldl (fun t o => chanCommitted n o.1 o.2.1 o.2.2.1 o.2.2.2 t) (copyGroup (laneSub n 0x5000) s)

/-- Group slots of the lanes that the rotation units of an engine have in their compare: a commit that moves such a lane
repeats the compare (R487). -/
def rotRegroup (e : Nat) (before : Nat → Option Nat) (s : State) : State :=
  let t := s.rd (rotB (4 + e)) R.BIST_ROT_CNT_TARGET
  if t < 16 && before (16 * e + t) != laneGrp (16 * e + t) s then rotRepeat (4 + e) t s else s

/-- A group copies its shadows (R74), with what its block does at a commit beside the copy. -/
def clsCopy (cls i : Nat) (s : State) : State :=
  let b := laneB i
  let cp := copyGroup (clsKey cls i)
  match cls with
  | 0 => rxCommitted i (s.rxMode i) (groupDiffers (clsKey 0 i) s) (cp s)
  | 1 => eqCommitted i (s.eqBank i) (s.on b R.EQ_CTRL_TRELLIS_EN) (groupDiffers (clsKey 1 i) s) (cp s)
  | 2 => txCopy i s
  | 3 => if groupDiffers (clsKey 3 i) s then acqCommitted i (cp s) else s
  | 4 => fecCommitted i (s.getReg (b + 0x4080)) (s.getReg (b + 0x4084)) (s.getReg (b + 0x4090)) (cp s)
  | 5 => watchCopy i s
  | 6 => hazeCommitted i (hazeWas i s) (cp s)
  | 7 => biasCommitted i (s.rd b R.BIAS_CTRL_IB_SRC) (cp s)
  | 8 => octCommitted i (s.rd (octB i) R.OCT_SYN_CFG_FAMILY) (octSsc i s) (cp s)
  | 9 => rotRegroup i (fun n => laneGrp n s) (feCommit i s)
  | 10 => mdwCopy s
  | 13 => clkCommitted (s.getReg (clkB + 0x60)) (s.getReg (clkB + 0x64)) (cp s)
  | _ => cp s

/-- The pair window of a group closes (R77). -/
def windowClose (cls i : Nat) (s : State) : State := { s with legacy := eraseKey s.legacy (64 * cls + i) }

/-- One group meets a commit: copied, held (R157), or rejected with the cause answered (R74, R76). -/
def groupMeet (cls i : Nat) (entry : Option Nat) (s : State) : State × Nat :=
  if cls == 2 && txHolds i s then (windowClose cls i (txHold i entry s), 0)
  else
    let c := if cls == 10 && s.injAdmit then 5 else clsRules cls i s
    if c == 0 then (windowClose cls i (clsCopy cls i s), 0)
    else (windowClose cls i (if cls == 10 && decide (5 ≤ c ∧ c ≤ 7) then admReject c s else s), c)

/-- The shadows that have been written in the PCLK cycle of the present instant, with what they held before (R74). -/
def lateShadows (s : State) : List (Nat × Word) := (s.lateSh.filter (fun e => e.2.2 == s.pclk)).map (fun e => (e.1, e.2.1))

/-- A group named by a commit (R74, R75): a write of a shadow that completes in the PCLK cycle of the copy is left for the
next commit, and a group that another commit has named at the instant is not committed again. -/
def groupCommit (cls i : Nat) (entry : Option Nat) (s : State) : State × Nat :=
  let done := if s.commitAt.1 == s.now then s.commitAt.2 else []
  if done.contains (64 * cls + i) then (s, 0)
  else
    let s := { s with commitAt := (s.now, (64 * cls + i) :: done) }
    let late := (lateShadows s).filter (fun e => clsKey cls i e.1)
    if late.isEmpty then groupMeet cls i entry s
    else
      let kept := late.map (fun e => (e.1, s.getShadow e.1))
      let r := groupMeet cls i entry (late.foldl (fun t e => t.setShadow e.1 e.2) s)
      (kept.foldl (fun t e => t.setShadow e.1 e.2) r.1, r.2)

/-! Commits (R73 to R76). -/

/-- The lanes set in a mask, ascending. -/
def maskLanes (mask : Nat) : List Nat := lanes.filter (fun n => mask / 2 ^ n % 2 == 1)

/-- The instances that a commit names; none where its class, scope or index is invalid (R73). -/
def commitInsts (cls scope index mask : Nat) : Option (List Nat) :=
  if clsCount cls == 0 then none
  else match scope with
    | 0 => if index < clsCount cls then some [index] else none
    | 1 => some (List.range (clsCount cls))
    | 2 => if cls < 8 ∧ index < 8 then some (maskLanes mask) else none
    | _ => none

/-- Every named group in turn; the first rejected instance and its cause. -/
def commitGroups (cls : Nat) (entry : Option Nat) : List Nat → Option (Nat × Nat) → State → State × Option (Nat × Nat)
  | [], r, s => (s, r)
  | i :: is, r, s =>
    let x := groupCommit cls i entry s
    commitGroups cls entry is (if r.isNone && x.2 != 0 then some (i, x.2) else r) x.1

/-- A commit executes (R73 to R76): the groups that it names, one record for the lowest-numbered instance rejected, and
COMMIT_STAT. -/
def commitApply (cls scope index mask : Nat) (entry : Option Nat) (s : State) : State :=
  let s := s.cntW glbB R.GLB_COMMIT_STAT_DONE 1
  let insts := commitInsts cls scope index mask
  if s.tl.injReject then
    let s := { s with tl := { s.tl with injReject := false } }
    let s := (insts.getD []).foldl (fun t i => windowClose cls i t) s
    rejectRec cls (((insts.getD []).head?).getD index) 0xF entry s
  else match insts with
    | none => rejectRec cls index 0xE entry s
    | some is =>
      let x := commitGroups cls entry is none s
      match x.2 with
      | none => x.1
      | some (i, c) => rejectRec cls i c entry x.1

/-- BUSY follows the immediate commits that await their instant. -/
def commitBusy (s : State) : State := s.wr glbB R.GLB_COMMIT_STAT_BUSY (b2n (!s.commits.isEmpty))

/-- The oldest immediate commit executes at its instant (R75). -/
def commitExecute (s : State) : State :=
  match s.commits with
  | [] => s
  | c :: cs =>
    let s := { s.advanceReq c.x c.due with commits := cs }
    commitBusy (commitApply c.cls c.scope c.index c.mask none s)

/-- A write of GLB.COMMIT (R75). -/
def commitWritten (w : Word) (s : State) : State :=
  commitBusy (commitRequest (fget w 3 0) (fget w 5 4) (fget w 13 8) s)

/-! Direct-write legacy mode (R77). -/

/-- The fields that the agreement rules of a class name, or whose value they name through a selection (R77). Every ST
field of TX and MDW does. -/
def ruleFlds (cls : Nat) : List Fld :=
  match cls with
  | 0 => [R.RX_CTRL_MODE, R.RX_PF_CTRL_CUSTOM, R.RX_PF_COEF_TAP_ODD, R.RX_PF_COEF_TAP_EVEN]
  | 1 => [R.EQ_CTRL_ACT_BANK, R.EQ_CTRL_MIRROR_EN, R.EQ_CTRL_TRELLIS_EN, R.EQ_CTRL_DFE_EN, R.EQ_SLICER_AMP]
  | 3 => [R.ACQ_PRE_SYM, R.ACQ_DELIM_SYM, R.ACQ_BW_CTRL_LEAD, R.ACQ_BW_CTRL_WIN_EN, R.ACQ_BW_PERIOD_PERIOD,
      R.ACQ_BW_OFS_OFS, R.ACQ_BW_LEN_DIR, R.ACQ_BW_LEN_LEN]
  | 4 => [R.FEC_PG_PG_TYPE, R.FEC_PC_PC_TYPE, R.FEC_PG_USER_LEN, R.FEC_PG_RUN]
  | 5 => [R.WATCH_CH_CFG_TAP, R.WATCH_CH_CFG_PRESET, R.WATCH_CH_CUST_DEC1, R.WATCH_CH_CUST_K, R.WATCH_CH_CUST_DEC2,
      R.WATCH_CH_CFG_HK_CH, R.WATCH_CH_CFG_FADE]
  | 6 => [R.HAZE_ERR_ERR_KIND, R.HAZE_CTRL_ACT_BANK, R.HAZE_SJ_SJ_AMP, R.HAZE_SJ_RJ_RMS, R.HAZE_SJ_FREQ_FREQ,
      R.HAZE_BUF_DEPTH, R.HAZE_BUF_SLIP_WIN]
  | 7 => [R.BIAS_CTRL_CHANNEL, R.BIAS_CTRL_GATE_EN, R.BIAS_CTRL_IB_RANGE, R.BIAS_IB_DARK]
  | 8 => [R.OCT_SYN_CFG_FAMILY, R.OCT_SYN_CFG_SSC_RATE, R.OCT_SYN_CFG_SSC_DEPTH]
  | 9 => [R.FE_GRP_CFG_EN, R.FE_GRP_CFG_FIRST, R.FE_GRP_CFG_LINK, R.FE_GRP_CFG_WIDTH, R.FE_HZ_FWD_EN, R.FE_HZ_FWD_TG,
      R.FE_HZ_W0_EN, R.FE_HZ_W2_DLY_PLOT, R.FE_HZ_W2_DELAY, R.FE_HZ_W3_DVAR, R.FE_HZ_W1_CORR_KIND]
  | 12 => [R.HK_MPD_RANGE_RANGE]
  | 13 => [R.CLK_CKOUT_DEPTH, R.CLK_CKOUT_RATE]
  | _ => []

/-- The bits of a register's ST fields that take part in a rule of their group. -/
def ruleMask (cls key : Nat) : Word :=
  if cls == 2 || cls == 10 then stMask key
  else (keyFlds key).foldl (fun m f => if f.acc == .st && (ruleFlds cls).contains f then m ||| bitMask f.hi f.lo else m) 0

/-- The class and instance of the group that the register at a key belongs to. -/
def keyGroup (key : Nat) : Option (Nat × Nat) :=
  if key < 2 ^ 32 then
    match place key with
    | .reg (.lane n) off => if off < 0x8000 then some (off / 0x1000, n) else none
    | .reg (.oct o) _ => some (8, o)
    | .reg (.fe e) _ => some (9, e)
    | .reg (.mc m) _ => some (11, m)
    | .reg .hk _ => some (12, 0)
    | .reg .clk _ => some (13, 0)
    | .reg .mdw _ => some (10, 0)
    | _ => none
  else match key / 2 ^ 44 with
    | 1 => some (10, 0)
    | 2 => some (10, 0)
    | 3 => some (10, 0)
    | 11 => some (9, key / 2 ^ 20 % 2 ^ 24 / 2048)
    | _ => none

/-- A class is in direct-write legacy mode. -/
def legacyOn (cls : Nat) (s : State) : Bool := s.rd glbB R.GLB_LEGACY_CLASS_EN / 2 ^ cls % 2 == 1

/-- The shadows of a group are reloaded from its active values (R77). -/
def clsReload (cls i : Nat) (s : State) : State := if cls == 9 then feReload i s else reloadGroup (clsKey cls i) s

/-- Shadows of a group other than those at one key return to what they were in `old`. -/
def shadowBack (cls i key : Nat) (old s : State) : State :=
  let s := (groupKeys (clsKey cls i) old).foldl (fun t k => if k == key then t else t.setShadow k (old.getShadow k)) s
  if cls == 9 then
    let s := old.flows.foldl (fun t x => if x.1 / 1024 == i
      then t.setFlow i (x.1 % 1024) { t.flow i (x.1 % 1024) with sh0 := x.2.sh0, sh1 := x.2.sh1 } else t) s
    old.strms.foldl (fun t x => if x.1 / 1024 == i
      then t.setStrm i (x.1 % 1024) { t.strm i (x.1 % 1024) with sh := x.2.sh } else t) s
  else s

/-- Some bits of one register take effect at once: a commit of the group in which no other shadow differs. -/
def directTake (cls i key : Nat) (mask : Word) (s : State) : State :=
  let want := (s.getReg key &&& ~~~ mask) ||| (s.getShadow key &&& mask)
  if mask == 0 || mergeSt key (s.getReg key) want == s.getReg key then s
  else
    let kept := s.getShadow key
    ((shadowBack cls i key s (clsCopy cls i ((clsReload cls i s).setShadow key want))).setShadow key kept)

/-- A pair window opens for a group, unless one is open (R77). -/
def windowOpen (cls i : Nat) (s : State) : State :=
  if look 0 s.legacy (64 * cls + i) == 0 then { s with legacy := put 0 s.legacy (64 * cls + i) (s.now + 1) } else s

/-- The rows of R77's table for a write of fields that take part in a rule; `direct` is what takes effect where no
window is open. -/
def legacyPair (cls i : Nat) (direct : State → State) (s : State) : State :=
  if clsRules cls i s != 0 then windowOpen cls i s
  else if look 0 s.legacy (64 * cls + i) == 0 then direct s
  else windowClose cls i (clsCopy cls i s)

/-- A write has stored ST fields in the shadow at a key, whose class is in legacy mode (R77, R525). -/
def legacyWrite (cls i key : Nat) (s : State) : State :=
  let st := stMask key
  let m := ruleMask cls key
  if cls == 2 && st != 0 && (!s.synLocked (i / 8) || txHolds i s) then
    if txHolds i s then windowClose 2 i (txHold i none s) else rejectRec 2 i 4 none s
  else
    let s := directTake cls i key (st &&& ~~~ m) s
    if m == 0 then s else legacyPair cls i (directTake cls i key m) s

/-- A LOAD_CFG of a flow or stream of an engine in legacy mode: its staged words are ST fields that rules name. -/
def legacyContext (e : Nat) (strm : Bool) (i : Nat) (s : State) : State :=
  let direct (s : State) : State :=
    if strm then s.setStrm e i ((s.strm e i).commit s.tlv.toNat) else s.setFlow e i (s.flow e i).commit
  if legacyOn 9 s then legacyPair 9 e direct s else s

/-- A pair window ends WINDOW × 16 PCLK cycles after its opening (R77). -/
def windowEnd (cls i : Nat) (s : State) : State :=
  match look 0 s.legacy (64 * cls + i) with
  | 0 => s
  | t + 1 =>
    let s := windowClose cls i (s.advanceNow (t + s.pclkT (16 * s.rd glbB R.GLB_LEGACY_WINDOW)))
    if clsRules cls i s == 0 then clsCopy cls i s
    else ((clsReload cls i s).cnt glbB R.GLB_LEGACY_CNT_MISMATCH 1).raise 0x427

end Sys2Proof.Machine
end

