-- ==== Sys2Proof/Machine/Perm.lean ====
section
/-! DEFINITION. What each master may access (R362, R421), the domain that an address lies in (R39, R42), and the checks of
a timed-action entry (R69). -/

namespace Sys2Proof.Machine

/-! Domains of addresses. -/

/-- The power domain of the registers at an address: a switched domain's code, 84 for BB, 85 for AON, and none outside
every window (R39, R42, R43). -/
def addrDom (a : Nat) : Option Nat :=
  match place a with
  | .reg (.lane n) off => some (if 0x7000 ≤ off ∧ off < 0x8000 then 85 else n)
  | .reg (.oct o) _ => some (64 + o)
  | .reg (.fe e) _ => some (78 + e)
  | .reg (.mc m) _ => some (72 + m)
  | .reg .sq _ => some 82
  | .reg .ncp _ => some 83
  | .reg .pwr _ => some 85
  | .reg .flt _ => some 85
  | .reg .safe _ => some 85
  | .reg .glb off => some (if (0x24 ≤ off ∧ off < 0x28) ∨ (0x30 ≤ off ∧ off < 0x40) then 85 else 84)
  | .reg .tl off => some (if 0xF000 ≤ off then 85 else 84)
  | .reg _ _ => some 84
  | .core _ _ _ => some 82
  | .shared _ => some 82
  | .unmapped => none

/-! Permissions. -/

/-- GLB.COMMIT, SAFE.PROG_CMD and the semaphores. -/
def commitA : Nat := glbB + 0x100
def progCmdA : Nat := safeB + R.SAFE_PROG_CMD_OP.off
def semA (i : Nat) : Nat := sqB + R.SQ_SEM_HELD.off + 4 * i

/-- An address of SQ.SEM[0] or SQ.SEM[1]. -/
def isSem (a : Nat) : Bool := a / 4 == semA 0 / 4 || a / 4 == semA 1 / 4

/-- The entry interface TL.ACT_CMD and TL.ACT_W0 to W3 (R362). -/
def isActIf (a : Nat) : Bool := decide (tlB + 0x80 ≤ a ∧ a < tlB + 0x94)

/-- A lane core's own lane (R357). -/
def ownLane (k n : Nat) : Bool := n / 4 == k

/-- A master holds SQ.SEM[0]. -/
def holdsSem0 (mid : Nat) (s : State) : Bool :=
  s.on (semB 0) R.SQ_SEM_HELD && s.rd (semB 0) R.SQ_SEM_OWNER == mid

/-- A lane core in P mode may write GLB.COMMIT with this word (R362). -/
def coreCommit (k : Nat) (w : Word) : Bool :=
  decide (fget w 3 0 < 8) && fget w 5 4 == 0 && ownLane k (fget w 13 8)

/-- The accesses of R362 for lane core k: `priv` is P mode, `w` the word of a write. -/
def laneCoreMay (k : Nat) (priv write : Bool) (a : Nat) (w : Word) (s : State) : Bool :=
  match place a with
  | .reg (.lane n) _ => ownLane k n || (priv && !write)
  | .reg (.oct o) _ => priv && !write && o == k / 2
  | .reg (.fe e) _ => priv && !write && e == k / 4
  | .reg .mdw _ => priv && !write
  | .reg (.mc _) _ => priv && !write
  | .reg .glb _ => priv && (if a / 4 == commitA / 4 then !write || coreCommit k w else !write)
  | .reg .tl off =>
    if isActIf a then priv && (!write || holdsSem0 (0x10 + k) s)
    else !write && (priv || decide (off = R.TL_NOW_LO_TLV.off ∨ off = R.TL_NOW_HI_TLV.off))
  | .reg .hk _ => priv && !write
  | .reg .evt _ => priv && !write
  | .reg .sq _ => priv && (!write || isSem a)
  | _ => false

/-- The accesses of R362 for the supervisor pair. -/
def pairMay (a : Nat) : Bool := a / 4 != progCmdA / 4

/-- The accesses of the MI2C target (R421). -/
def mi2cMay (write : Bool) (a : Nat) (s : State) : Bool :=
  s.booted ||
  match place a with
  | .reg .boot _ => true
  | .reg .glb off => !write || off / 4 == 0x20 / 4
  | .reg .pwr _ => !write
  | .reg .hk _ => !write
  | .reg .flt _ => !write
  | .reg .safe _ => !write
  | _ => false

/-- A master may write a register, a lane core by its P mode (R69). -/
def mayWrite (m : Master) (a : Nat) (w : Word) (s : State) : Bool :=
  match m with
  | .core k => laneCoreMay k.val true true a w s
  | .pair => pairMay a
  | .mi2c => mi2cMay true a s
  | _ => true

/-- A master may issue a commit of a class, scope and index (R69, R362). -/
def mayCommit (m : Master) (cls scope index : Nat) : Bool :=
  match m with
  | .core k => decide (cls < 8) && scope == 0 && ownLane k.val index
  | _ => true

/-! Timed-action entries (R68 to R72). -/

/-- Base for the fields of an entry's words and status. -/
def actB (i : Nat) : Nat := (Obj.act i).base

/-- Word j of an entry. -/
def actW (i j : Nat) (s : State) : Word := s.getReg (actB i + R.TL_ACT_W_WORD.off + 4 * j)

/-- The state of an entry: 0 EMPTY, 1 IDLE, 2 ARMED, 3 DISPATCHED, 4 DONE. -/
def actState (i : Nat) (s : State) : Nat := s.rd (actB i) R.TL_ACT_STATUS_STATE

/-- Enter an entry state; ACT_FREE counts the EMPTY ones. -/
def actGo (i st : Nat) (s : State) : State :=
  let old := actState i s
  let f := s.rd tlB R.TL_ACT_FREE_FREE
  let s := s.wr tlB R.TL_ACT_FREE_FREE
    (if old == 0 && st != 0 then f - 1 else if old != 0 && st == 0 then f + 1 else f)
  s.wr (actB i) R.TL_ACT_STATUS_STATE st

/-- What an entry holds beside its words. -/
def State.actOf (s : State) (i : Nat) : ActSt := look ActSt.idle s.acts i
def State.setAct (s : State) (i : Nat) (x : ActSt) : State := { s with acts := put ActSt.idle s.acts i x }

/-- TIME, TYPE and SEL of an entry (R68). -/
def actTime (i : Nat) (s : State) : Nat := (actW i 0 s).toNat + (actW i 1 s).toNat * 2 ^ 32
def actType (i : Nat) (s : State) : Nat := fget (actW i 2 s) 3 0
def actSel (i : Nat) (s : State) : Nat := fget (actW i 2 s) 11 4
/-- The address that a WRITE names. -/
def actAddr (i : Nat) (s : State) : Nat := fget (actW i 2 s) 31 8 * 4

/-- Words 2 and 3 of an entry pass the checks of R69 for a master. -/
def actOk (m : Master) (w2 w3 : Word) (s : State) : Bool :=
  let sel := fget w2 11 4
  match fget w2 3 0 with
  | 1 =>
    (commitInsts (sel % 16) (sel / 16 % 4) (fget w3 5 0) 0).isSome && mayCommit m (sel % 16) (sel / 16 % 4) (fget w3 5 0)
  | 2 =>
    let a := fget w2 31 8 * 4
    let barred := match place a with
      | .reg .glb _ => true
      | .reg .boot _ => true
      | .reg .tl _ => true
      | .reg .safe _ => true
      | _ => false
    !barred && mayWrite m a w3 s
  | 3 => decide (sel / 64 = 0)
  | 4 => decide (sel % 32 ≤ 16) && decide (sel / 32 = 0)
  | _ => false

/-- ACT_STATUS shows an entry after a command, with the command's result. DESIGN CHOICE: it does so after every OP; the spec
says it of OP 0 only (R79). -/
def actShow (i res : Nat) (s : State) : State :=
  s.setReg (tlB + 0x94) (fset (s.getReg (actB i + 0x94)) 6 5 res)

/-- ACT_CMD has been written (R69, R72). A rewritten or emptied entry is forgotten by the TX commits held for it (R160).
DESIGN CHOICE: OP 5 clears the entry's words with its state; the spec names the state only. -/
def actCmd (m : Master) (w : Word) (s : State) : State :=
  let i := fget w 9 0
  let op := fget w 14 12
  let st := actState i s
  let win (j : Nat) : Word := s.getReg (tlB + R.TL_ACT_W_WORD.off + 4 * j)
  let store (s : State) : State :=
    txForgetEntry i ((List.range 4).foldl (fun t j => t.setReg (actB i + R.TL_ACT_W_WORD.off + 4 * j) (win j)) s)
  let arm (s : State) : State := actGo i 2 (s.setAct i { ActSt.idle with master := Master.id m })
  if op == 0 then
    actShow i 0 ((List.range 4).foldl (fun t j => t.setReg (tlB + R.TL_ACT_W_WORD.off + 4 * j) (actW i j s)) s)
  else if 6 ≤ op then actShow i 2 s
  else if st == 3 then actShow i 1 s
  else if op == 1 ∨ op == 2 then
    if !actOk m (win 2) (win 3) s then actShow i 2 s
    else actShow i 0 (if op == 1 then arm (store s) else actGo i 1 (store s))
  else if op == 5 then
    actShow i 0 (actGo i 0 (txForgetEntry i
      ((List.range 4).foldl (fun t j => t.setReg (actB i + R.TL_ACT_W_WORD.off + 4 * j) 0) s)))
  else if st == 0 then actShow i 2 s
  else if op == 3 then
    if actOk m (actW i 2 s) (actW i 3 s) s then actShow i 0 (arm s) else actShow i 2 s
  else actShow i 0 (actGo i 1 s)

/-- Entries in a state, in ascending order. -/
def actsIn (st : Nat) (s : State) : List Nat :=
  (s.regs.filter (fun x => decide (x.1 / 2 ^ 44 = 18) && decide (x.1 % 2 ^ 20 = 0x94) && fget x.2 2 0 == st)).map
    (fun x => x.1 / 2 ^ 20 % 2 ^ 24)

/-- The ARMED entry with the earliest TIME, the lowest index among equals (R70). -/
def actNext (s : State) : Option Nat :=
  (actsIn 2 s).foldl (fun b i => match b with
    | none => some i
    | some j => if actTime i s < actTime j s then some i else b) none

/-- The domains that an entry needs (R70). -/
def actDoms (i mask : Nat) (s : State) : List Nat :=
  let sel := actSel i s
  match actType i s with
  | 1 => ((commitInsts (sel % 16) (sel / 16 % 4) (fget (actW i 3 s) 5 0) mask).getD []).filterMap (clsDom (sel % 16))
  | 2 => match addrDom (actAddr i s) with
    | some d => if d < 84 then [d] else []
    | none => []
  | 4 => [82]
  | _ => []

/-- The target whose queue of 16 an entry joins (R70): a commit class, a block window, a core or the Meadow logic. -/
def actTarget (i : Nat) (s : State) : Nat :=
  match actType i s with
  | 1 => actSel i s % 16
  | 2 => match place (actAddr i s) with
    | .reg b _ => 0x1000000 + b.base
    | .core k _ _ => 0x1000000 + imemB k
    | .shared _ => 0x1000000 + sharedB
    | .unmapped => 0x3000000
  | 4 => 32 + actSel i s % 32
  | _ => 16

/-- An entry has left the queue of a target (R70): of the entries that found it full, the first to be due joins it, and
executes no sooner than 16,384 ticks later. -/
def actTake (target : Nat) (s : State) : State :=
  let before (j : Nat) (b : Option Nat) : Option Nat := match b with
    | none => some j
    | some k => if (s.actOf j).x < (s.actOf k).x then some j else some k
  match ((actsIn 3 s).filter (fun j => (s.actOf j).full && actTarget j s == target)).foldl (fun b j => before j b) none with
  | none => s
  | some j =>
    let a := s.actOf j
    s.setAct j { a with full := false, x := max a.x (s.tlv.toNat + 16384), due := max a.due (s.now + 16384) }

/-- The next entry is dispatched once TLV + 256,000 has reached its TIME, one entry a PCLK (R70): X, the mask sampled, and
the domains that it needs are woken. Nothing is dispatched while the timeline is STOPPED (R56). -/
def actDispatch (s : State) : State :=
  match (if s.counting then actNext s else none) with
  | none => s
  | some i =>
    let s := (s.advanceTlv (actTime i s - 256000) s.now).advanceNow s.tl.dispAt
    let d := s.tlv.toNat
    let time := actTime i s
    let x := if s.tl.injLate then max time d + 16384 else max time (d + 16384)
    let m := s.rd (glbB + 8 * (fget (actW i 3 s) 5 0 % 8)) R.GLB_MASK_LO_LANES +
      s.rd (glbB + 8 * (fget (actW i 3 s) 5 0 % 8)) R.GLB_MASK_HI_LANES * 2 ^ 32
    let asleep := (actDoms i m s).filter (fun e => !s.domOn e)
    let full := decide (16 ≤ ((actsIn 3 s).filter (fun j => !(s.actOf j).full && actTarget j s == actTarget i s)).length)
    let s := { s with tl := { s.tl with injLate := false, dispAt := s.now + s.pclkT 1 } }
    let s := actGo i 3 (s.setAct i ⟨(s.actOf i).master, x, s.now + (x - d), m, !asleep.isEmpty, false, full⟩)
    asleep.foldl (fun t e => domAccess e { t with pwr := { t.pwr with acts := e :: t.pwr.acts } }) s

end Sys2Proof.Machine
end

