-- ==== Sys2Proof/Machine/ResetOps.lean ====
section
/-! DEFINITION. Resets (R23, R46): of a lane, an engine, a core, the sequencer block, and of the whole part by a chip
reset or a POR. -/

namespace Sys2Proof.Machine

/-! Block resets (R495). A raise from a block in its own reset is discarded (R498): the registers return to their reset
values first, and what lies outside the block follows. -/

/-- The keys of lane n outside the BIAS sub-range, its banks, tables and pattern included. -/
def laneKey (n k : Nat) : Bool :=
  keyIn (laneB n) 0x7000 k || keyIn (objKey 12 (32 * n)) (32 * 2 ^ 20) k || keyIn (objKey 13 (128 * n)) (128 * 2 ^ 20) k ||
    keyIn (objKey 14 (512 * n)) (512 * 2 ^ 20) k || keyIn (objKey 15 (32 * n)) (32 * 2 ^ 20) k ||
    keyIn (objKey 16 (64 * n)) (64 * 2 ^ 20) k || keyIn (objKey 17 (512 * n)) (512 * 2 ^ 20) k

/-- Lane block reset (R105). The trims stay, those that wait for a round's end too (R90, R94); a burst context that was in use
ends with cause 7 (R212). Nothing is raised from the lane itself (R498). -/
def laneReset (n : Nat) (s : State) : State :=
  let old := s.rxState n
  let held := (s.rxOf n).pendTrim
  let ctx (c : Nat) : Bool := ctxState n c s != 0
  let s := if old == 6 then holdLoops n s else s
  let s := { resetKeys (laneKey n) s with
    rx := put RxSt.idle s.rx n { RxSt.idle with pendTrim := held }, eq := eraseKey s.eq n, tx := eraseKey s.tx n, acq := eraseKey s.acq n, fec := eraseKey s.fec n,
    haze := eraseKey s.haze n, txCw := eraseKey s.txCw n, txPair := eraseKey s.txPair n, rpSym := eraseKey s.rpSym n,
    watch := dropKeys (fun k => k / 8 == n) s.watch,
    legacy := dropKeys (fun k => k % 64 == n && decide (k / 64 < 7)) s.legacy }
  let c0 := ctx 0
  let c1 := ctx 1
  let s := hazeEval n (rxFollow n old s)
  let s := if c0 then s.wr (laneB n) (fCause 0) 7 else s
  let s := if c1 then s.wr (laneB n) (fCause 1) 7 else s
  let s := if glint n then biasGate n (gateWant n s) s else s
  rotRepeat (n / 16) (n % 16) (chainResetAll n s)

/-- Engine block reset: the BLOCK fields of FE[e] and its lane stages (R495), with the contexts, snapshots and queues that
the engine holds. -/
def feReset (e : Nat) (s : State) : State :=
  let mine (k : Nat) : Bool := k / 1024 == e
  let s := resetKeys (fun k => keyIn (feB e) 0x40000 k || keyIn (objKey 11 (2048 * e)) (2048 * 2 ^ 20) k) s
  { s with
    am := dropKeys (fun n => n / 16 == e) s.am, injSkew := dropKeys (fun k => k / 16 == e) s.injSkew,
    pcs := dropKeys (fun k => k / 16 == e) s.pcs, injForDrop := eraseKey s.injForDrop e,
    streams := dropKeys (fun n => n / 16 == e) s.streams, forRecs := s.forRecs.filter (fun r => r.eng != e),
    burstRecs := if e == 3 then [] else s.burstRecs, flows := dropKeys mine s.flows, flowSnap := dropKeys mine s.flowSnap,
    strms := dropKeys mine s.strms, strmSnap := dropKeys mine s.strmSnap, snapped := eraseKey s.snapped e,
    feInj := eraseKey s.feInj e, txFrame := eraseKey s.txFrame e,
    feFree := dropKeys (fun k => k / 16 == e) s.feFree, hzQ := s.hzQ.filter (fun f => f.eng != e),
    hzDly := s.hzDly.filter (fun f => f.1.eng != e), hzHeld := s.hzHeld.filter (fun h => h.f.eng != e),
    hzCnt := dropKeys (fun k => k / 2048 == e) s.hzCnt, hzInj := eraseKey s.hzInj e,
    legacy := eraseKey s.legacy (64 * 9 + e) }

/-- A core leaves RESET where its RUN = 1 (R378): CYCLE counts from here (R380). -/
def coreStart (k : Nat) (s : State) : State :=
  if s.on (coreB (coreIx k)) R.SQ_CORE_CTRL_RUN && s.coreState k == 0 && s.domOn 82 then
    coreGo k 1 (s.setCore k { s.coreOf k with cycle := 0, cycleAt := s.now, wdogAt := 0 })
  else s

/-- The core in RESET: PC 0 and CSRs at reset, the general registers as they are; its loads from the window are given
up. -/
def coreClear (k : Nat) (s : State) : State :=
  let s := coreGo k 0 s
  let s := s.setCore k { CoreSt.reset with g := (s.coreOf k).g }
  let mid := coreMid k
  { s with waiting := s.waiting.filter (fun a => !(Master.id a.master == mid && !a.write)) }.wr
    (coreB (coreIx k)) R.SQ_CORE_PC_PC 0

/-- CORE_RST (R378). The pair leaves state 5 only through SQ_RST or chip reset (R366). -/
def coreReset (k : Nat) (s : State) : State :=
  if s.coreState k == 5 then s
  else
    let s := coreClear k s
    coreStart k (if k < 16 then semForceOf (coreMid k) s else s)

/-- SQ_RST (R378, R364). -/
def sqReset (s : State) : State :=
  let s := (List.range 17).foldl (fun t k => coreClear k t) s
  let s := { resetKeys (keyIn sqB 0x10000) s with semSince := [], injMem := none, injLockstep := false }
  (List.range 17).foldl (fun t k => coreStart k t) s

/-- The block reset of an event source's block (R495). -/
def blockReset (id : Nat) (s : State) : State :=
  if id < 768 then laneReset (id / 12) s
  else if id < 816 then octReset ((id - 768) / 6) s
  else if id < 912 then feReset ((id - 816) / 24) s
  else if id < 1008 then mcReset ((id - 912) / 16) s
  else if 1104 ≤ id ∧ id < 1136 then coreReset ((id - 1104) / 2) s
  else if 0x470 ≤ id ∧ id ≤ 0x475 then sqReset s
  else if 0x430 ≤ id ∧ id ≤ 0x435 then portReset s
  else s

/-! Chip reset (R23, R46). -/

/-- The registers that a chip reset leaves as they are: those of reset source POR, the state in DOM_STAT of a domain that is
on, and DOM_ON (R456). -/
def chipKeeps (s : State) (k : Nat) : Bool :=
  keySrc k == some .por || (k / 2 ^ 44 == 5 && s.domOn (k / 2 ^ 20 % 2 ^ 24)) || keyIn (pwrB + 0x20) 12 k

/-- TROUBLE counts outlive the reactions' configuration (19). -/
def keepTrouble (old s : State) : State :=
  (old.regs.filter (fun x => x.1 / 2 ^ 44 == 7)).foldl
    (fun t x => t.wr (x.1 - R.FLT_SRC_CFG_TROUBLE.off) R.FLT_SRC_CFG_TROUBLE (old.rd (x.1 - R.FLT_SRC_CFG_TROUBLE.off)
      R.FLT_SRC_CFG_TROUBLE)) s

/-- The optical safety state and the outputs stay (R173, R456); so do FATAL, OFF and the record memory's fill. -/
def keepSafety (old s : State) : State :=
  { s with bias := old.bias, biasUv := old.biasUv, otp := old.otp, otpLockA := old.otpLockA, otpLockB := old.otpLockB
           safeOp := old.safeOp, injProg := old.injProg, fatal := old.fatal, off := old.off, recFull := old.recFull }

/-- What no reset of the part reaches: the flash, the key OTP and the fuses, with BOOT.INJECT, which POR clears (R422). -/
def keepBoot (old s : State) : State :=
  { s with flash := old.flash, keyOtp := old.keyOtp, keyOp := old.keyOp, fuses := old.fuses, bootInj := old.bootInj }

/-- What stands at the part's edges: the answers given, the management bus and the reset pin. -/
def keepPins (old s : State) : State :=
  { s with resp := old.resp, portTx := old.portTx, mi2cLast := old.mi2cLast, mi2cAddr := old.mi2cAddr
           resetLow := old.resetLow, resetAt := old.resetAt, syncBad := old.syncBad }

/-- The registers that `keeps` does not name and the state of the engines are as at reset. The sequencer memories, the
OTP, the safety state and the TROUBLE counts stay. -/
def chipClear (keeps : Nat → Bool) (s : State) : State :=
  let t : State := { State.reset with
    pending := s.pending, now := s.now, free := s.free, mem := s.mem
    regs := s.regs.filter (fun x => keeps x.1), shadow := s.shadow.filter (fun x => keeps x.1) }
  keepTrouble s (keepPins s (keepBoot s (keepSafety s t)))

/-- A chip reset begins: CHIP and BLOCK fields and the state of the engines, with `cause` set in RESET_CAUSE. What AON
holds stays. -/
def chipReset (cause : Fld) (s : State) : State :=
  let off := (List.range 84).filter (fun d => !s.domOn d)
  let t := chipClear (chipKeeps s) s
  let t := { t with
    inReset := true,
    pwr := { t.pwr with out := s.pwr.out, wakeBad := s.pwr.wakeBad },
    hk := { t.hk with ts := s.hk.ts, warn := s.hk.warn, thr := s.hk.thr, shut := s.hk.shut, thAt := s.hk.thAt,
                      offWait := s.hk.offWait, clearing := s.hk.clearing } }
  let t := (List.range 84).foldl (fun t d =>
    ((t.wr (domB d) R.PWR_DOM_STAT_QWAIT 0).wr (domB d) R.PWR_DOM_STAT_ANSWER 0).wr (domB d) R.PWR_DOM_STAT_CAUSE 0) t
  let t := { t with tl := { t.tl with rateFrom := none } }
  let t := off.foldl (fun t d => domQueue d false t) t
  (lanes.foldl (fun t n => biasChipReset n t) t).wr glbB cause 1

/-- The part leaves chip reset; the boot runs from here (R413). A standing request of DIM moves the state (R456). -/
def chipRelease (s : State) : State :=
  pwrThermal { s with inReset := false, bootFrom := s.now, hk := { s.hk with hotKnown := false },
                      tl := { s.tl with rateFrom := some s.now } }

/-- The reset cause field that the n-th bit stands for. -/
def causeFld (n : Nat) : Fld :=
  match n with
  | 4 => R.GLB_RESET_CAUSE_JTAG
  | 3 => R.GLB_RESET_CAUSE_FAULT
  | 2 => R.GLB_RESET_CAUSE_SOFT
  | 1 => R.GLB_RESET_CAUSE_PIN
  | _ => R.GLB_RESET_CAUSE_POR

/-- A chip reset is scheduled d ticks ahead, unless an earlier one is (R46, R495, R498). -/
def chipResetIn (d cause : Nat) (s : State) : State :=
  if s.fatal || s.por || s.chipRstAt.isSome then s else { s with chipRstAt := some (s.now + d), rstCause := cause }

/-- The scheduled chip reset begins (R46). -/
def chipResetBegin (s : State) : State :=
  match s.chipRstAt with
  | none => s
  | some t =>
    let s := s.advanceNow t
    { chipReset (causeFld s.rstCause) s with chipRstAt := some (s.now + usT 10), rstCause := s.rstCause }

/-- The hold of 10 µs ends (R46); while RESET_N is low the part stays in reset. -/
def chipResetRelease (s : State) : State :=
  match s.chipRstAt with
  | none => s
  | some t => if s.inReset && !s.resetLow then chipRelease { s.advanceNow t with chipRstAt := none } else s

/-! POR (R511, R512). -/

/-- A monitored rail falls: every field is reset, and what OTP, fuses and flash hold stays. An OTP operation cut short
leaves its slot with mismatching check bits. -/
def porAssert (s : State) : State :=
  let s := match s.safeOp with
    | none => s
    | some p =>
      match p.op, freeSlot p.lane s with
      | 1, some i =>
        let o := s.otpOf p.lane
        s.setOtp p.lane { o with slots := setAt o.slots i ⟨false, true, true, p.lim, p.duty⟩ }
      | _, _ => s
  let t : State := { State.reset with
    pending := s.pending, free := s.free, regs := s.regs.filter (fun x => keyIn (objKey 9 0) (16 * 2 ^ 20) x.1),
    otp := s.otp, otpLockA := s.otpLockA, otpLockB := s.otpLockB, biasUv := s.biasUv, flash := s.flash,
    keyOtp := s.keyOtp, fuses := s.fuses, por := true, resetLow := s.resetLow,
    tl := { TlSt.reset with rateFrom := none } }
  shutCount { t with hk := { t.hk with offWait := s.off || s.hk.offWait } }

/-- POR releases (R511): TEST_MODE is sampled (R514) and the safety OTP is read (R174, R185). DESIGN CHOICE: a part whose RESET_N is low goes on in reset with
RESET_CAUSE.PIN 0, since the spec does not say whether a level held through power-on sets the bit (R47). -/
def porRelease (testMode : Bool) (s : State) : State :=
  if s.por then
    let s := (s.wr glbB R.GLB_PIN_STAT_TEST_HI (b2n testMode)).wr glbB R.GLB_PIN_STAT_BIAS_UV (b2n s.biasUv)
    let s := otpRead s
    { s with por := false, inReset := s.resetLow, bootFrom := s.now,
             tl := { s.tl with rateFrom := if s.resetLow then none else some s.now } }
  else s

end Sys2Proof.Machine
end

