-- ==== Sys2Proof/Machine/FlashOps.lean ====
section
/-! DEFINITION. The boot flash devices and the key hash as commands reach them (R405, R412, R423). -/

namespace Sys2Proof.Machine

/-- A byte of a flash device; one that nothing has programmed is erased, 0xFF. -/
def State.flashByte (s : State) (dev a : Nat) : Byte := look 0xFF s.flash (dev * 2 ^ 32 + a % 2 ^ 32)

/-- Bytes of a flash device from an address. -/
def State.flashRead (s : State) (dev a n : Nat) : List Byte := (List.range n).map (fun i => s.flashByte dev (a + i))

/-- Set a byte of a flash device. -/
def State.setFlash (s : State) (dev a : Nat) (v : Byte) : State :=
  { s with flash := put 0xFF s.flash (dev * 2 ^ 32 + a % 2 ^ 32) v }

/-- QSPI_CMD is written with START = 1 (R423): refused while an operation runs, and while boot reads flash (states 1 and
2). -/
def qspiCmd (s : State) : State :=
  if s.qspiOp.isSome || s.bootState == 1 || s.bootState == 2 then s.wr bootB R.BOOT_QSPI_CMD_RESULT 1
  else
    let bytes := (List.range 16).flatMap (fun i => leBytes 4 (s.getReg (bootB + R.BOOT_QSPI_BUF_DATA.off + 4 * i)).toNat)
    { s.wr bootB R.BOOT_QSPI_CMD_BUSY 1 with
      qspiOp := some ⟨s.rd bootB R.BOOT_QSPI_CMD_DEV, s.rd bootB R.BOOT_QSPI_CMD_OP, s.rd bootB R.BOOT_QSPI_ADDR_ADDR, bytes⟩ }

/-- Bytes of a program operation: each ANDed into the array, within the device's page of 256 bytes. -/
def flashProgram (dev a : Nat) (bs : List Byte) (s : State) : State :=
  bs.zipIdx.foldl (fun t p =>
    let q := a / 256 * 256 + (a + p.2) % 256
    t.setFlash dev q (t.flashByte dev q &&& p.1)) s

/-- The sector of 64 KiB that holds an address reads 0xFF. -/
def flashErase (dev a : Nat) (s : State) : State :=
  let lo := dev * 2 ^ 32 + a % 2 ^ 32 / 0x10000 * 0x10000
  { s with flash := dropKeys (fun k => decide (lo ≤ k ∧ k < lo + 0x10000)) s.flash }

/-- What a program or erase that has not ended after 2.0 s leaves is a free value, byte by byte. -/
def flashFree (dev a n : Nat) (s : State) : State :=
  (List.range n).foldl (fun t i => (t.setFlash dev (a + i) (BitVec.ofNat 8 t.draw)).drawn) s

/-- The QSPI operation ends: `busy` where WIP has stayed 1 for 2.0 s; `status` is what OP 3 reads. -/
def qspiDone (busy : Bool) (status : Byte) (s : State) : State :=
  match s.qspiOp with
  | none => s
  | some q =>
    let s := { s.wr bootB R.BOOT_QSPI_CMD_BUSY 0 with qspiOp := none }
    let buf (i v : Nat) (t : State) : State := t.setReg (bootB + R.BOOT_QSPI_BUF_DATA.off + 4 * i) (BitVec.ofNat 32 v)
    if q.op == 3 then (buf 0 status.toNat s).wr bootB R.BOOT_QSPI_CMD_RESULT 0
    else if busy then
      let s := s.wr bootB R.BOOT_QSPI_CMD_RESULT 2
      if q.op == 1 then flashFree q.dev (q.addr / 256 * 256) 256 s
      else if q.op == 2 then flashFree q.dev (q.addr / 0x10000 * 0x10000) 0x10000 s
      else s
    else
      let s := s.wr bootB R.BOOT_QSPI_CMD_RESULT 0
      if q.op == 0 then
        (List.range 16).foldl (fun t i => buf i (leNat (t.flashRead q.dev (q.addr + 4 * i) 4)) t) s
      else if q.op == 1 then flashProgram q.dev q.addr q.data s
      else flashErase q.dev q.addr s

/-- The key hash is programmed (BOOT.STATUS.KEY_SET): all zero is unprogrammed (R411). -/
def State.keySet (s : State) : Bool := match s.keyOtp with
  | some ws => ws.any (fun w => w != 0)
  | none => false

/-- BOOT.KEY_CMD is written with w (R412). -/
def keyCmd (w : Word) (s : State) : State :=
  if fget w 31 16 == 0x4A53 && s.bootState == 7 && !s.keySet && !s.biasUv && !s.keyOp then
    { s.wr bootB R.BOOT_KEY_CMD_BUSY 1 with keyOp := true }
  else s.wr bootB R.BOOT_KEY_CMD_RESULT 1

/-- The programming of the key hash ends (R412). After a failed read-back, what the OTP holds is a free value. -/
def keyDone (verified : Bool) (s : State) : State :=
  if !s.keyOp then s
  else
    let s := { s.wr bootB R.BOOT_KEY_CMD_BUSY 0 with keyOp := false }
    let want := (List.range 12).map (fun i => s.getReg (bootB + R.BOOT_KEY_HASH_HASH.off + 4 * i))
    if verified then { s.wr bootB R.BOOT_KEY_CMD_RESULT 0 with keyOtp := some want }
    else
      let s := s.wr bootB R.BOOT_KEY_CMD_RESULT 2
      want.foldl (fun t _ => { t.drawn with keyOtp := some (t.keyOtp.getD [] ++ [BitVec.ofNat 32 t.draw]) })
        { s with keyOtp := none }

end Sys2Proof.Machine
end

