-- ==== Sys2Proof/Machine/CsrOps.lean ====
section
/-! DEFINITION. The control and status registers of a Fjot core (R370), its counters and sampler (R380 to R382), and the
performance window of the host (SQ.PERF). -/

namespace Sys2Proof.Machine

def csrTIMERLO : Nat := 0x028
def csrTIMERHI : Nat := 0x029
def csrMBOX : Nat := 0x050
def csrMBOXT : Nat := 0x051
def csrKICK : Nat := 0x053
def csrSAMPLERD : Nat := 0x063
def csrCYCLELO : Nat := 0x080
def csrCYCLEHI : Nat := 0x081
def csrCOREID : Nat := 0x0FF
/-- CNTSELi. -/
def csrCNTSEL (i : Nat) : Nat := 0x040 + i
/-- CNTi_LO; CNTi_HI follows. -/
def csrCNT (i : Nat) : Nat := 0x090 + 2 * i

/-! Which CSRs there are, and what A mode may do with them (R370, R383). -/

/-- A CSR of the table of R370. -/
def csrKnown (n : Nat) : Bool :=
  (decide (0x010 ≤ n) && decide (n ≤ 0x012)) || (decide (0x020 ≤ n) && decide (n ≤ 0x024)) || n == 0x028 || n == 0x029 ||
    (decide (0x030 ≤ n) && decide (n ≤ 0x033)) || (decide (0x040 ≤ n) && decide (n ≤ 0x047)) ||
    (decide (0x050 ≤ n) && decide (n ≤ 0x053)) || (decide (0x060 ≤ n) && decide (n ≤ 0x063)) || n == 0x080 || n == 0x081 ||
    (decide (0x090 ≤ n) && decide (n ≤ 0x09F)) || n == 0x0FF

/-- A mode may read a CSR under PERM. -/
def csrReadA (n : Nat) (perm : Word) : Bool :=
  if n == csrCOREID then true
  else if n == csrCYCLELO || n == csrCYCLEHI then perm.getLsbD 0
  else if 0x090 ≤ n ∧ n ≤ 0x09F then perm.getLsbD 1
  else if n == csrSAMPLESTAT || n == csrSAMPLERD then perm.getLsbD 3
  else false

/-- A mode may write a CSR under PERM: the sample select goes with the buffer's permission. -/
def csrWriteA (n : Nat) (perm : Word) : Bool :=
  if n == csrCOREID then true
  else if 0x040 ≤ n ∧ n ≤ 0x047 then perm.getLsbD 2
  else if 0x090 ≤ n ∧ n ≤ 0x09F then perm.getLsbD 2
  else if n == csrSAMPLERD then perm.getLsbD 3
  else false

/-! Cycle counter (R380). -/

/-- CYCLE of a core now. -/
def coreCycle (k : Nat) (s : State) : Nat :=
  let c := s.coreOf k
  if s.coreState k == 0 then c.cycle else min (2 ^ 64 - 1) (c.cycle + sclkCycles (s.now - c.cycleAt) s)

/-- CYCLE of a core takes a value. -/
def setCycle (k v : Nat) (s : State) : State := s.setCore k { s.coreOf k with cycle := v, cycleAt := s.now }

/-! Reads. -/

/-- A CSR is read (R370): MBOX pops its oldest entry, CYCLE_LO latches CYCLE_HI. -/
def csrRead (k n : Nat) (s : State) : State × Word :=
  let c := s.coreOf k
  if n == csrINTPEND then (s, c.pend)
  else if n == csrMBOX then
    match c.mbox with
    | [] => (s, 0)
    | (code, stamp) :: l => (s.setCore k { c.setCsr csrMBOXT stamp with mbox := l }, code)
  else if n == csrKICK then (s, 0)
  else if n == csrSAMPLERD then (s, look 0 c.samples c.sampleSel)
  else if n == csrCYCLELO then
    let v := coreCycle k s
    (s.setCore k { c with cycleHi := some (BitVec.ofNat 32 (v / 2 ^ 32)) }, BitVec.ofNat 32 v)
  else if n == csrCYCLEHI then
    match c.cycleHi with
    | some w => (s.setCore k { c with cycleHi := none }, w)
    | none => (s, BitVec.ofNat 32 (coreCycle k s / 2 ^ 32))
  else if n == csrCOREID then (s, BitVec.ofNat 32 (coreIx k))
  else (s, c.getCsr n)

/-! Writes. -/

/-- TIMER_CMP, which CYCLE is compared against (R373). -/
def CoreSt.timerCmp (c : CoreSt) : Nat := (c.getCsr csrTIMERLO).toNat + (c.getCsr csrTIMERHI).toNat * 2 ^ 32

/-- The bits that a CSR stores of a word written. -/
def csrMask (n : Nat) : Word :=
  if n == csrSTATUS then 0xC3
  else if n == csrINTEN then 0x3FFF
  else if n == csrPERM then 0xF
  else if 0x040 ≤ n ∧ n ≤ 0x047 then 0xE80000FF
  else if n == csrWDOG then 0xC0FFFFFF
  else if 0x090 ≤ n ∧ n ≤ 0x09F ∧ n % 2 = 1 then 0xFFFF
  else 0xFFFFFFFF

/-- The lines of INT_PEND that a written 1 clears (R373). -/
def pendW1c : Word := 0x26FF

/-- A CSR takes a word (R370, R373, R376, R377, R381, R382): `w` is the value to be stored, `ones` the bits that the
instruction writes 1 to in write-1-to-clear fields. -/
def csrWrite (k n : Nat) (w ones : Word) (s : State) : State :=
  let c := s.coreOf k
  if n == csrINTPEND then s.setCore k (c.setCsr n (c.getCsr n &&& ~~~ (ones &&& pendW1c)))
  else if n == csrMBOX || n == csrMBOXT || n == csrCOREID then s
  else if n == csrKICK then wdogRestart k s
  else if n == csrTIMERLO || n == csrTIMERHI then 
    let c := c.setCsr n w
    s.setCore k (c.setCsrF csrINTPEND 11 11 (b2n (decide (c.timerCmp ≤ coreCycle k s))))
  else if n == csrWDOG then
    (if w.getLsbD 31 && c.csrF csrWDOG 31 31 == 0 then wdogRestart k else id) (s.setCore k (c.setCsr n (w &&& csrMask n)))
  else if n == csrSAMPLESTAT then
    s.setCore k (((c.setCsrF n 25 16 0).setCsrF n 15 12 0).setCsrF n 11 10 0)
  else if n == csrSAMPLERD then s.setCore k { c with sampleSel := w.toNat % 2048 }
  else if n == csrCYCLELO then setCycle k (coreCycle k s / 2 ^ 32 * 2 ^ 32 + w.toNat) s
  else if n == csrCYCLEHI then setCycle k (w.toNat * 2 ^ 32 + coreCycle k s % 2 ^ 32) s
  else if 0x040 ≤ n ∧ n ≤ 0x047 then
    let ovf := if ones.getLsbD 28 then 0 else c.csrF n 28 28
    s.setCore k (c.setCsr n (fset (w &&& csrMask n) 28 28 ovf))
  else if 0x030 ≤ n ∧ n ≤ 0x033 ∧ coreIx k < 16 then s
  else s.setCore k (c.setCsr n (w &&& csrMask n))

/-! Counters (R381) and sampling (R382). The places of EN (bit 31) and STOP_FULL (bit 30) in SAMPLE_CFG, and of LAT_MIN
(31:16) and PERIOD (15:0) in SAMPLE_PER, are PRESUMED: the spec gives the fields and not their bits. -/

/-- The value of counter i. -/
def CoreSt.cntV (c : CoreSt) (i : Nat) : Nat :=
  (c.getCsr (csrCNT i)).toNat + (c.getCsr (csrCNT i + 1)).toNat % 2 ^ 16 * 2 ^ 32

/-- Set counter i. -/
def CoreSt.setCnt (c : CoreSt) (i v : Nat) : CoreSt :=
  (c.setCsr (csrCNT i) (BitVec.ofNat 32 v)).setCsr (csrCNT i + 1) (BitVec.ofNat 32 (v / 2 ^ 32 % 2 ^ 16))

/-- Counter i is the sampler. -/
def CoreSt.isSampler (c : CoreSt) (i : Nat) : Bool := c.csrF csrSAMPLECFG 31 31 == 1 && c.csrF csrSAMPLECFG 26 24 == i

/-- Counter i wraps: OVF, and on the sampler the reload and a request of a sample; one that finds a sample awaiting its
instruction is skipped. -/
def cntWrap (i left : Nat) (c : CoreSt) : CoreSt :=
  let c := (c.setCsrF (csrCNTSEL i) 28 28 1).setCnt i left
  if c.isSampler i then
    let c := c.setCnt i (2 ^ 48 - max 1 (c.csrF csrSAMPLEPER 15 0))
    if c.sampleWait then c.setCsrF csrSAMPLESTAT 15 12 (satAdd 4 (c.csrF csrSAMPLESTAT 15 12) 1)
    else { c with sampleWait := true }
  else c

/-- Counter i takes d counts. -/
def cntAdd (i d : Nat) (c : CoreSt) : CoreSt :=
  if c.cntV i + d < 2 ^ 48 then c.setCnt i (c.cntV i + d) else cntWrap i ((c.cntV i + d) % 2 ^ 48) c

/-- Counter i counts in a mode. -/
def cntOn (i : Nat) (c : CoreSt) : Bool :=
  c.csrF (csrCNTSEL i) 31 31 == 1 && !(c.csrF (csrCNTSEL i) 30 30 == 1 && c.priv) &&
    !(c.csrF (csrCNTSEL i) 29 29 == 1 && !c.priv)

/-- Every counter that counts event `ev` takes d counts. -/
def cntEvent (ev d : Nat) (c : CoreSt) : CoreSt :=
  (List.range 8).foldl (fun c i => if cntOn i c && c.csrF (csrCNTSEL i) 7 0 == ev then cntAdd i d c else c) c

/-- An event of a core is counted. -/
def coreCount (k ev d : Nat) (s : State) : State := s.setCore k (cntEvent ev d (s.coreOf k))

/-- The sample that awaits its instruction is recorded as that instruction retires: its PC and its data or window
address. Its latency is a free value, since the model keeps no pipeline; below LAT_MIN nothing is recorded. -/
def takeSample (k : Nat) (pc addr : Word) (s : State) : State :=
  let c := s.coreOf k
  if !c.sampleWait then s
  else
    let lat := s.draw % 2 ^ 16
    let s := s.drawn
    let c := { c with sampleWait := false }
    let n := c.csrF csrSAMPLESTAT 25 16
    let p := c.csrF csrSAMPLESTAT 8 0
    if lat < c.csrF csrSAMPLEPER 31 16 || (c.csrF csrSAMPLECFG 30 30 == 1 && decide (512 ≤ n)) then s.setCore k c
    else
      let ev := c.csrF (csrCNTSEL (c.csrF csrSAMPLECFG 26 24)) 7 0
      let w2 := BitVec.ofNat 32 (lat * 2 ^ 16 + ev * 2 ^ 8 + b2n (!c.priv) * 2 ^ 7)
      let m := put 0 (put 0 (put 0 (put 0 c.samples (4 * p) pc) (4 * p + 1) addr) (4 * p + 2) w2) (4 * p + 3)
        (BitVec.ofNat 32 (coreCycle k s))
      let c := { c with samples := m }
      let c := (c.setCsrF csrSAMPLESTAT 25 16 (min 512 (n + 1))).setCsrF csrSAMPLESTAT 8 0 (p + 1)
      let c := if n + 1 == 256 then c.setCsrF csrSAMPLESTAT 10 10 1 else c
      s.setCore k (if n + 1 == 512 then c.setCsrF csrSAMPLESTAT 11 11 1 else c)

/-- A counter takes n events (COUNTER_WRAP): where it passes 2^48 it wraps. -/
def counterRun (k i n : Nat) (s : State) : State :=
  if cntOn i (s.coreOf k) then s.setCore k (cntAdd i n (s.coreOf k)) else s

/-! The performance window (SQ.PERF_SEL, PERF_LO, PERF_HI). -/

/-- The item that PERF_SEL names, as a 64-bit number. -/
def perfRead (s : State) : Nat :=
  let k := s.rd sqB R.SQ_PERF_SEL_CORE
  let it := s.rd sqB R.SQ_PERF_SEL_ITEM
  let c := s.coreOf k
  if 17 < k then 0
  else if it == 0 then coreCycle k s
  else if 1 ≤ it ∧ it ≤ 8 then c.cntV (it - 1)
  else if 0x10 ≤ it ∧ it ≤ 0x17 then (c.getCsr (csrCNTSEL (it - 0x10))).toNat
  else if 0x18 ≤ it ∧ it ≤ 0x1A then (c.getCsr (csrSAMPLECFG + (it - 0x18))).toNat
  else if it == 0x20 then (c.getCsr csrPERM).toNat
  else if 0x800 ≤ it then (look 0 c.samples (it - 0x800)).toNat
  else 0

/-- A write of PERF_LO, or of PERF_HI. -/
def perfWrite (hi : Bool) (w : Word) (s : State) : State :=
  let k := s.rd sqB R.SQ_PERF_SEL_CORE
  let it := s.rd sqB R.SQ_PERF_SEL_ITEM
  let c := s.coreOf k
  if 17 < k then s
  else if it == 0 then csrWrite k (if hi then csrCYCLEHI else csrCYCLELO) w w s
  else if 1 ≤ it ∧ it ≤ 8 then csrWrite k (csrCNT (it - 1) + b2n hi) w w s
  else if hi then s
  else if 0x10 ≤ it ∧ it ≤ 0x17 then csrWrite k (csrCNTSEL (it - 0x10)) w w s
  else if 0x18 ≤ it ∧ it ≤ 0x1A then csrWrite k (csrSAMPLECFG + (it - 0x18)) w w s
  else if it == 0x20 then csrWrite k csrPERM w w s
  else if 0x800 ≤ it then s.setCore k { c with samples := put 0 c.samples (it - 0x800) w }
  else s

/-! Watchdog (R377). -/

/-- A core's watchdog expires: its event, the count restarts, and a lane core with RST_ACT = 1 is reset. -/
def wdogFire (k : Nat) (s : State) : State :=
  let act := (s.coreOf k).csrF csrWDOG 30 30 == 1
  let s := (wdogRestart k s).raise (if coreIx k == 16 then 0x472 else 1105 + 2 * k)
  if act && k < 16 then coreReset k s else s

end Sys2Proof.Machine
end

