-- ==== Sys2Proof/Machine/Hooks.lean ====
section
/-! DEFINITION. What a register write does beside storing its word, block by block: one function per block window. Each is
called after the word has been stored; `old` is the register's word before, `w` the word written. -/

namespace Sys2Proof.Machine

/-- Bit i of a word written is 1. -/
def hot (w : Word) (i : Nat) : Bool := w.getLsbD i

/-- A request of the non-maskable trap reaches the fault collector's queue of 16 (R495): event, class, record. -/
def nmtPush (id cls rec_ : Nat) (s : State) : State :=
  let st := s.coreState 16
  if st == 4 || st == 5 || decide (16 ≤ s.nmtQ.length) then s.cnt fltB R.FLT_CNT_OVF_NMT_LOST 1
  else { s with nmtQ := s.nmtQ ++ [(id, cls, rec_)] }

/-- The access that GLB.INJECT synthesises. -/
def injAcc : EvAcc := ⟨0x3F, 3, 0xFFFFFFFC⟩

/-- GLB. -/
def hookGlb (off : Nat) (w : Word) (s : State) : State :=
  if off == R.GLB_RESET_CHIP.off then
    (if hot w 0 && fget w 31 16 == 0xA5C3 then chipResetIn (usT 2) 2 s else s)
  else if off == R.GLB_INJECT_DECODE.off then
    let s := if hot w 0 then s.raiseA 0x428 injAcc else s
    if hot w 1 then s.raiseA 0x429 injAcc else s
  else if off == 0x100 then commitWritten w s
  else s

/-- TL. -/
def hookTl (m : Master) (off : Nat) (old w : Word) (s : State) : State :=
  if off == 0x0 then tlCtrl old w s
  else if off == R.TL_ACT_CMD_OP.off then actCmd m w s
  else s

/-- BOOT. -/
def hookBoot (off : Nat) (w : Word) (s : State) : State :=
  if off == R.BOOT_QSPI_CMD_START.off then (if hot w 31 then qspiCmd s else s)
  else if off == R.BOOT_KEY_CMD_KEY.off then keyCmd w s
  else if off == R.BOOT_INJECT_INJ_IMAGE.off then { s with bootInj := s.bootInj ||| fget w 3 0 }
  else s

/-- CLK. -/
def hookClk (off : Nat) (old w : Word) (s : State) : State :=
  if off == 0x0 then clkCtrl old w s
  else if off == R.CLK_GATE_CLOSE.off then gateWritten (fget old 13 0) (fget w 13 0) s
  else if off == R.CLK_INJECT_INJ_LREF.off then clkInject w s
  else s

/-- PWR. -/
def hookPwr (m : Master) (off : Nat) (old w : Word) (s : State) : State :=
  if off == R.PWR_CTRL_REST_REQ.off then (if hot w 31 then restRequest (m == .ncp) s else s)
  else if 0x10 ≤ off ∧ off < 0x1C then domReqWritten (m == .ncp) ((off - 0x10) / 4) old.toNat s
  else if off == R.PWR_SQ_ANSWER_ANSWER.off then sqAnswer (fget w 1 0) s
  else if off == R.PWR_INJECT_INJ_REFUSE.off then pwrInject w s
  else s

/-- HK. -/
def hookHk (off : Nat) (w : Word) (s : State) : State :=
  if off == 0x0 then hkCtrl w s
  else if off == R.HK_LEGACY_CMD_START.off then (if hot w 31 then legacyCmd s else s)
  else if off == R.HK_TH_CFG_FORCE.off then dimApply (dimSync s)
  else if off == R.HK_SHUT_CLR_KEY.off then (if fget w 31 16 == 0x7C1E then shutClr s else s)
  else if off == R.HK_INJECT_INJ_TEMP.off then hkInject w s
  else s

/-- CAL. -/
def hookCal (off : Nat) (w : Word) (s : State) : State :=
  if off == R.CAL_CMD_START.off then (if hot w 31 then calStart s else s)
  else if off == R.CAL_INJECT_INJ_FAIL.off then calInject w s
  else s

/-- FLT. -/
def hookFlt (m : Master) (off : Nat) (old w : Word) (s : State) : State :=
  if off == R.FLT_CTRL_CLR_TOP.off then fltCtrl old w s
  else if off == R.FLT_ALIVE_KICK_KICK.off then aliveKick m s
  else if off == R.FLT_INJECT_INJ_LW.off then fltInject w s
  else s

/-- BIST. -/
def hookBist (off : Nat) (w : Word) (s : State) : State :=
  if off == R.BIST_ROT_CFG_EN.off then rotCfgWritten s
  else if off == R.BIST_LOOP_CMD_START.off then (if hot w 31 then loopStart s else s)
  else if off == R.BIST_FUSE_CMD_KEY.off then (if fget w 31 16 == 0xF05E then fuseCmd s else s)
  else if off == R.BIST_INJECT_INJ_SHADE.off then bistInject w s
  else s

/-- SAFE. -/
def hookSafe (off : Nat) (old w : Word) (s : State) : State :=
  if off == R.SAFE_CTRL_CHECK_EN.off then biasAll s
  else if off == R.SAFE_PROG_CMD_OP.off then progCmd w s
  else if off == R.SAFE_CLR_SW_CLR.off then swClrSync (hot old 0) s
  else if off == R.SAFE_INJECT_INJ_LIMIT.off then safeInject w s
  else s

/-- The injections of NCP.INJECT (R404). -/
def ncpInject (w : Word) (s : State) : State :=
  let k := s.rd ncpB R.NCP_INJECT_INJ_SESS
  let s := if hot w 0 then { s with injBatch := true } else s
  let s := if hot w 1 then s.setSess k { s.sessOf k with injEvt := true } else s
  let s := if hot w 2 then s.setSess k { s.sessOf k with injLoss := true } else s
  let s := if hot w 3 then portFail s else s
  if hot w 4 then { s with injBad := true } else s

/-- NCP. -/
def hookNcp (off : Nat) (w : Word) (s : State) : State :=
  if off == R.NCP_PORT_ENABLE.off then portWritten (hot w 31) s
  else if 0x40 ≤ off ∧ off < 0x80 ∧ off % 0x10 = 0 then (if hot w 15 then sessClose ((off - 0x40) / 0x10) 5 s else s)
  else if off == R.NCP_INJECT_INJ_LATE.off then ncpInject w s
  else s

/-- MDW. -/
def hookMdw (off : Nat) (w : Word) (s : State) : State :=
  if off == R.MDW_PLOT_CMD_OP.off then plotCmd (fget w 1 0) s
  else if off == R.MDW_TRIG_CMD_FIRE.off then trigCmd w s
  else if off == R.MDW_RP_CMD_STOP.off then (if hot w 31 then rpStop (s.rd mdwB R.MDW_RP_CMD_INDEX) s else s)
  else if off == R.MDW_INJECT_INJ_ADMIT.off then mdwInject w s
  else s

/-- The injections of SQ.INJECT (R384). The class that the trap of INJ_NMT carries is not stated: a free value. -/
def sqInject (w : Word) (s : State) : State :=
  let k := s.rd sqB R.SQ_INJECT_INJ_CORE
  let s := if hot w 4 && s.on (semB 0) R.SQ_SEM_HELD then semForce 0 s else s
  let s := if hot w 3 && k ≤ 16 then wdogFire k s else s
  let s := if hot w 2 then { s with injMem := some (min k 18) } else s
  let s := if hot w 1 then { s with injLockstep := true } else s
  if hot w 0 then nmtPush 0x7FF (s.draw % 4) 0xFF s.drawn else s

/-- CORE[k].CTRL after a write (R378). A halt of a core whose load waits comes once the load has completed. -/
def coreCtrl (k : Nat) (w : Word) (s : State) : State :=
  let st := s.coreState k
  let run := s.on (coreB k) R.SQ_CORE_CTRL_RUN
  let busy := s.waiting.any (fun a => Master.id a.master == coreMid k && !a.write)
  let s := if hot w 2 then coreIrq k 10 s else s
  let s := if run && st == 3 then coreGo k 1 s
    else if run then coreStart k s
    else if (st == 1 || st == 2) && !busy then coreGo k 3 (s.wr (coreB k) R.SQ_CORE_PC_PC (s.coreOf k).pc.toNat)
    else s
  let s := if hot w 1 && !run && st == 3 then { s with coreSteps := s.coreSteps ++ [k] } else s
  if hot w 31 then coreReset k s else s

/-- SQ. -/
def hookSq (off : Nat) (w : Word) (s : State) : State :=
  if off == 0x0 then (if hot w 31 then sqReset s else s)
  else if off == R.SQ_INJECT_INJ_NMT.off then sqInject w s
  else if 0x100 ≤ off ∧ off < 0x210 ∧ off % 0x10 = 0 then coreCtrl ((off - 0x100) / 0x10) w s
  else s

/-- OCT[o]. Two injections written at once are conditions of one cycle, taken in the order of R154's table. -/
def hookOct (o off : Nat) (w : Word) (s : State) : State :=
  if off == R.OCT_SYN_CTRL_ENABLE.off then
    if hot w 31 then octReset o s
    else
      let s := synEnableSync o s
      if hot w 1 then synRecal o s else s
  else if off == R.OCT_SYN_INJECT_INJ_LOL.off then
    if hot w 0 && s.synLocked o then synLoss o s else if hot w 1 then synInjFail o s else s
  else s

/-- FE[e]. A LOAD_CFG that runs stages configuration words, which may be in direct-write legacy mode (R77). -/
def hookFe (e off : Nat) (w : Word) (s : State) : State :=
  if off == R.FE_ACQ_INJECT_INJ_SKEW.off then feAcqInject e w s
  else if off == R.FE_FOR_INJECT_INJ_DROP.off then (if hot w 0 then { s with injForDrop := put 0 s.injForDrop e 1 } else s)
  else if off == R.FE_SNAP_CTRL_ARM.off then (if hot w 0 then snapArm e s else s)
  else if off == R.FE_FS_INJECT_INJ_REFUSE.off then fsInject e w s
  else if off == R.FE_HZ_CMD_CLEAR.off then (if hot w 0 then hzClear e s else s)
  else if off == R.FE_HZ_INJECT_INJ_LOST.off then (if hot w 0 then { s with hzInj := put 0 s.hzInj e 1 } else s)
  else if off == R.FE_FLOW_CMD_OP.off then
    let op := fget w 26 24
    let runs := cmdCheck e op true s == 0
    let s := flowCmd e op s
    if op == 4 && runs && legacyOn 9 s then legacyContext e false (s.rd (feB e) R.FE_FLOW_CMD_INDEX) s else s
  else if off == R.FE_STRM_CMD_OP.off then
    let op := fget w 26 24
    let runs := cmdCheck e op false s == 0
    let s := strmCmd e op s
    if op == 4 && runs && legacyOn 9 s then legacyContext e true (s.rd (feB e) R.FE_STRM_CMD_INDEX) s else s
  else s

/-- MC[m]. -/
def hookMc (m off : Nat) (w : Word) (s : State) : State :=
  if off == 0x0 then (if hot w 31 then mcReset m s else s)
  else if off == R.MC_LOG_SEL_CLEAR.off then (if hot w 31 then logClear m (fget w 5 0) s else s)
  else if off == R.MC_REPAIR_OP.off then (if fget w 31 30 == 0 then s else mcRepair m (fget w 31 30) s)
  else if off == R.MC_INJECT_INJ_COR.off then mcInject m w s
  else s

/-- LANE[n].RX and LANE[n].EQ. -/
def hookRxEq (n off : Nat) (w : Word) (s : State) : State :=
  if off == R.RX_CTRL_LANE_RST.off then
    if hot w 31 then laneReset n s
    else
      let s := rxEnableSync n s
      if glint n then rxBurstSync n s else s
  else if off == R.RX_INJECT_INJ_LOS.off then
    let s := if hot w 0 then (if s.rxState n == 7 then losChange n true s else rxLosAssert n s) else s
    let s := if hot w 1 then rxInjUnlock n s else s
    if hot w 2 then rxInjCal n s else s
  else if off == R.RX_CAL_STATUS_LIMIT.off then
    s.wr (laneB n) R.RX_STATUS_LIMIT (s.rd (laneB n) R.RX_CAL_STATUS_LIMIT)
  else if off == R.EQ_LOAD_START.off then (if hot w 31 then eqLoadStart n s else s)
  else if off == R.EQ_STAT_CTRL_START.off then (if hot w 31 then eqStatStart n s else s)
  else if off == R.EQ_INJECT_INJ_MSE.off then
    let s := if hot w 0 then s.setEq n { s.eqOf n with injMse := true } else s
    if hot w 1 then eqAlarm n 3 s else s
  else s

/-- LANE[n].TX, ACQ and FEC. -/
def hookTxFec (n off : Nat) (w : Word) (s : State) : State :=
  if off == R.TX_CTRL_ACT_BANK.off then txEval n s
  else if off == R.TX_INJECT_INJ_ALARM.off then (if hot w 0 then txAlarm n 7 s else s)
  else if off == R.ACQ_SCOUT_CTRL_EN.off then
    if s.on (laneB n) R.ACQ_SCOUT_CTRL_EN then scoutArm n s else s.setAcq n { s.acqOf n with armed := false }
  else if off == R.ACQ_INJECT_INJ_SCOUT.off then acqInject n w s
  else if off == R.ACQ_BURST_CFG_BURST_GAIN.off then (if s.rxState n == 7 then burstEnter n s else s)
  else if off == R.FEC_CTRL_SNAP.off then (if hot w 31 then fecSnap n s else s)
  else if off == R.FEC_PG_ERR_ONE.off then (if hot w 31 then pgOne n s else s)
  else if off == R.FEC_INJECT_INJ_UNCORR.off then fecInject n w s
  else s

/-- LANE[n].WATCH, HAZE and BIAS. -/
def hookWatchBias (n off : Nat) (w : Word) (s : State) : State :=
  if off == R.WATCH_CTRL_RESTART.off then (if fget w 11 8 == 0 then s else watchRestart n (fget w 11 8) s)
  else if off == R.WATCH_INJECT_INJ_CROSS.off then watchInject n w s
  else if off == R.HAZE_INJECT_INJ_HOLD.off then (if hot w 0 then hazeInjHold n s else s)
  else if off == R.BIAS_CLEAR_IB_CLR.off then biasClearWritten n s
  else if off == R.BIAS_APC_CODE_CODE.off then apcWritten n s
  else if off == R.BIAS_INJECT_INJ_OPEN.off then biasInject n w s
  else if 0x7000 ≤ off then biasEval n false s
  else s

/-- The effect of a write on the block at an offset. -/
def regHook (m : Master) (b : Blk) (off : Nat) (old w : Word) (s : State) : State :=
  match b with
  | .glb => hookGlb off w s
  | .tl => hookTl m off old w s
  | .boot => hookBoot off w s
  | .clk => hookClk off old w s
  | .pwr => hookPwr m off old w s
  | .hk => hookHk off w s
  | .cal => hookCal off w s
  | .flt => hookFlt m off old w s
  | .bist => hookBist off w s
  | .safe => hookSafe off old w s
  | .ncp => hookNcp off w s
  | .evt => s
  | .mdw => hookMdw off w s
  | .sq => hookSq off w s
  | .oct o => hookOct o off w s
  | .fe e => hookFe e off w s
  | .mc c => hookMc c off w s
  | .lane n => if off < 0x2000 then hookRxEq n off w s else if off < 0x5000 then hookTxFec n off w s else hookWatchBias n off w s

end Sys2Proof.Machine
end

