-- ==== Sys2Proof/Machine/Access.lean ====
section
/-! DEFINITION. Register reads and writes within a block window: which word a register shows, the access codes of its
fields (R19), what a read or a write does beside, locks (R22) and 64-bit pairs (R25). -/

namespace Sys2Proof.Machine

/-! Which word a register is. -/

/-- The key of the word that a lane register shows: the tables behind TRIM_SEL, SWING_SEL, COEF_SEL and UP_SEL. -/
def laneKeyOf (n off : Nat) (s : State) : Option Nat :=
  let b := laneB n
  if off == R.RX_TRIM_DATA_OFS.off then
    let i := s.rd b R.RX_TRIM_SEL_INDEX
    if i < 96 then some ((Obj.trim n i).base + off) else none
  else if off == R.EQ_COEF_DATA_LOW.off then eqSelKey n s
  else if off == R.TX_SWING_DATA_FS.off then some ((Obj.swing n (s.rd b R.TX_SWING_SEL_INDEX)).base + off)
  else if off == R.TX_COEF_DATA_TAP.off then
    let i := s.rd b R.TX_COEF_SEL_INDEX
    if i ≤ 8 then some (txTap n (s.rd b R.TX_COEF_SEL_BANK) i) else none
  else if off == R.FEC_UP_DATA_SYM.off then some ((Obj.pattern n (s.rd b R.FEC_UP_SEL_INDEX)).base + off)
  else if off == R.HAZE_COEF_DATA_TAP.off then
    some (hazeTap n (s.rd b R.HAZE_COEF_SEL_BANK) (s.rd b R.HAZE_COEF_SEL_INDEX))
  else some (b + off)

/-- The key of the word that a register shows: behind a selector, that of the selected object; none where the selector
names nothing. -/
def effKey (b : Blk) (off : Nat) (s : State) : Option Nat :=
  match b with
  | .mdw =>
    if 0x04 ≤ off ∧ off ≤ 0x20 then some ((Obj.plot (s.rd mdwB R.MDW_PLOT_SEL_INDEX)).base + off)
    else if 0x44 ≤ off ∧ off ≤ 0x5C then some ((Obj.trig (s.rd mdwB R.MDW_TRIG_SEL_INDEX)).base + off)
    else if 0x84 ≤ off ∧ off ≤ 0xDC then some ((Obj.rp (s.rd mdwB R.MDW_RP_SEL_INDEX)).base + off)
    else some (mdwB + off)
  | .mc m =>
    if 0x18 ≤ off ∧ off ≤ 0x28 then some ((Obj.mcLog m (s.rd (mcB m) R.MC_LOG_SEL_INDEX)).base + off) else some (mcB m + off)
  | .pwr =>
    if off == R.PWR_DOM_STAT_STATE.off then
      let d := s.rd pwrB R.PWR_DOM_SEL_INDEX
      if d < 84 then some ((Obj.dom d).base + off) else none
    else some (pwrB + off)
  | .flt =>
    if off == R.FLT_SRC_CFG_CLASS.off then some ((Obj.src (s.rd fltB R.FLT_SRC_SEL_ID)).base + off)
    else if 0x24 ≤ off ∧ off ≤ 0x34 then some ((Obj.errRec (s.rd fltB R.FLT_REC_SEL_INDEX)).base + off)
    else some (fltB + off)
  | .hk =>
    if 0x454 ≤ off ∧ off ≤ 0x45C then
      let i := s.rd hkB R.HK_SHUT_SEL_SLOT
      if i ≤ 16 then some ((Obj.shut i).base + off) else none
    else some (hkB + off)
  | .cal =>
    if off == R.CAL_SET_STAT_VALID.off then some ((Obj.calSet (s.rd calB R.CAL_SET_SEL_SET)).base + off) else some (calB + off)
  | .fe e =>
    if 0xC44 ≤ off ∧ off ≤ 0xC60 then some ((Obj.hzRule e (s.rd (feB e) R.FE_HZ_SEL_INDEX)).base + off) else some (feB e + off)
  | .sq =>
    if off == 0x210 ∨ off == 0x218 then some (sqB + off - 0x10) else some (sqB + off)
  | .lane n => laneKeyOf n off s
  | b => some (b.base + off)

/-! Values that the part computes as they are read. -/

/-- A field of a word replaced. -/
def fput (f : Fld) (v : Nat) (w : Word) : Word := fset w f.hi f.lo v

/-- Upper or lower half of a number. -/
def half (hi : Bool) (v : Nat) : Word := BitVec.ofNat 32 (if hi then v / 2 ^ 32 else v)

/-- Words of GLB, TL and BOOT as they read; `w` is the stored word. -/
def liveGlbTl (b : Blk) (off : Nat) (w : Word) (s : State) : Word :=
  match b with
  | .glb =>
    if off == R.GLB_PIN_STAT_LVL_CLR.off then
      let w := fput R.GLB_PIN_STAT_LVL_CLR (1 - s.rd safeB R.SAFE_STATUS_PIN_CLR) w
      if fget w 9 9 == 1 then w else fput R.GLB_PIN_STAT_LVL_WAKE (s.draw % 2) w
    else w
  | .tl =>
    if off == R.TL_NOW_LO_TLV.off then half false s.tlv.toNat
    else if off == R.TL_NOW_HI_TLV.off then half true s.tlv.toNat
    else if off == R.TL_UNC_UNC.off then BitVec.ofNat 32 s.unc
    else if off == R.TL_EMBER_CNT_LO_CNT.off then half false s.ember
    else if off == R.TL_EMBER_CNT_HI_CNT.off then half true (s.ember % 2 ^ 48)
    else w
  | _ =>
    if off == R.BOOT_STATUS_STATE.off then fput R.BOOT_STATUS_KEY_SET (b2n s.keySet) w
    else if 0x80 ≤ off ∧ off < 0xB0 ∧ s.keySet then (s.keyOtp.getD []).getD ((off - 0x80) / 4) 0
    else w

/-- Words of PWR, FLT, BIST, SAFE and SQ as they read. -/
def livePwrFlt (b : Blk) (off : Nat) (w : Word) (s : State) : Word :=
  match b with
  | .pwr =>
    let e := s.pwr.log[s.rd pwrB R.PWR_LOG_SEL_INDEX]?
    if 0x40 ≤ off ∧ off < 0x50 then fput R.PWR_TOK_AVAIL (tokFree ((off - 0x40) / 4) s) w
    else if off == R.PWR_LOG_W0_VALID.off then (e.map RefLog.w0).getD 0
    else if off == R.PWR_LOG_W1_T.off then half false ((e.map RefLog.t).getD 0)
    else if off == 0x6C then half true ((e.map RefLog.t).getD 0)
    else w
  | .flt =>
    if off == R.FLT_STATUS_PIN.off then
      fput R.FLT_STATUS_FATAL (b2n s.fatal) (fput R.FLT_STATUS_ALIVE_ON (b2n (aliveOn s))
        (fput R.FLT_STATUS_INT_ASSERT (b2n (intAsserted s)) (fput R.FLT_STATUS_FAULT_ASSERT (b2n (faultAsserted s)) w)))
    else if off == R.FLT_SRC_CFG_CLASS.off then s.srcCfg (s.rd fltB R.FLT_SRC_SEL_ID)
    else w
  | .bist => if off == R.BIST_FUSE_CMD_USED.off then fput R.BIST_FUSE_CMD_USED s.fuses.length w else w
  | .safe => if off == R.SAFE_RD_DATA_DATA.off then safeRdData s else w
  | _ =>
    if off == R.SQ_PERF_LO_DATA.off then half false (perfRead s)
    else if off == R.SQ_PERF_HI_DATA.off then half true (perfRead s)
    else w

/-- Words of FE, MC and LANE as they read. -/
def liveUnit (b : Blk) (off : Nat) (w : Word) (s : State) : Word :=
  match b with
  | .fe e => if 0xA40 ≤ off ∧ off < 0xA80 then fput R.FE_GRP_CNT_TX_UP (b2n (txUp e ((off - 0xA40) / 4) s)) w else w
  | .mc m =>
    if off == R.MC_STATUS_READY.off then
      fput R.MC_STATUS_SCRUB_DIM (s.rd hkB R.HK_TH_STATUS_SCRUB_DIM) (fput R.MC_STATUS_READY (s.rd glbB R.GLB_CONFIG_MS_OK / 2 ^ m) w)
    else w
  | .lane n =>
    if off == R.TX_PI_FREQ_FREQ.off then BitVec.ofNat 32 (txPiFreq n s)
    else if off == R.TX_STATUS_LOOP_HOLD.off then fput R.TX_STATUS_LOOP_HOLD (b2n (txLoopHold n s)) w
    else if off == R.HAZE_LAT_LAT.off && s.rd (laneB n) R.HAZE_STATUS_STATE == 3 then
      BitVec.ofNat 32 (min (hazeLat n (s.hazeOf n).buf.length s) 0xFFFF)
    else if off == R.FEC_STATUS_IN_GROUP.off then fput R.FEC_STATUS_IN_GROUP (b2n (laneGrp n s).isSome) w
    else w
  | _ => w

/-- The word that a register shows, given the stored one. -/
def liveWord (b : Blk) (off : Nat) (w : Word) (s : State) : Word :=
  match b with
  | .glb | .tl | .boot => liveGlbTl b off w s
  | .pwr | .flt | .bist | .safe | .sq => livePwrFlt b off w s
  | .fe _ | .mc _ | .lane _ => liveUnit b off w s
  | _ => w

/-! 64-bit pairs (R25). -/

/-- How far above a lower word its upper word lies, for the lower words of 64-bit values. -/
def pairStep (b : Blk) (off : Nat) : Option Nat :=
  let base := ((findReg b off).map RegD.off).getD 0
  let one (l : List Nat) : Option Nat := if l.contains base then some 4 else none
  match b with
  | .glb => if base == 0x140 then some 4 else one [0x0C]
  | .tl => one [0x08, 0x10, 0x3C, 0xF004, 0xF010, 0xF018]
  | .ncp => one [0x0C]
  | .safe => one [0x14]
  | .sq => one [0x18]
  | .fe _ => one [0xA08]
  | .mc _ => one [0x24]
  | .mdw => one [0x54, 0x88]
  | .flt => one [0x2C]
  | .pwr => one [0x68]
  | .hk => one [0x454]
  | .lane _ => one [0x3074, 0x3084, 0x4008, 0x4098, 0x5124]
  | _ => none

/-! Reads. -/

/-- AUTO_INC of a selector after a read of its DATA register. -/
def readStep (b : Blk) (off : Nat) (s : State) : State :=
  match b with
  | .lane n =>
    if off == R.EQ_COEF_DATA_LOW.off then eqAutoInc n s
    else if off == R.TX_COEF_DATA_TAP.off then txAutoInc n s
    else if off == R.HAZE_COEF_DATA_TAP.off then hazeAutoInc n s
    else if off == R.FEC_UP_DATA_SYM.off && s.on (laneB n) R.FEC_UP_SEL_AUTO_INC then
      s.wr (laneB n) R.FEC_UP_SEL_INDEX (s.rd (laneB n) R.FEC_UP_SEL_INDEX + 1)
    else s
  | _ => s

/-- A read of a register whose value the part computes from a free value counts the draw. -/
def readDraws (b : Blk) (off : Nat) : Bool :=
  match b with
  | .glb => off == R.GLB_PIN_STAT_LVL_WAKE.off
  | _ => false

/-- The RC fields of a word return to their reset values once read (R19, R20). -/
def clearRcOne (key : Nat) (s : State) : State :=
  let fs := (keyFlds key).filter (fun f => f.acc == .rc)
  if fs.isEmpty then s else s.setReg key (fs.foldl (fun w f => fset w f.hi f.lo f.rst) (s.getReg key))

/-- What a read of the word at `off` of a block clears: the word read, and with PC_BITS_LO the upper word (R247), which
the pair latch has kept for the read that follows (R25). -/
def clearRc (b : Blk) (off key : Nat) (s : State) : State :=
  match b with
  | .lane _ =>
    if off == R.FEC_PC_BITS_LO_BITS.off then clearRcOne (key + 4) (clearRcOne key s) else clearRcOne key s
  | _ => clearRcOne key s

/-- A word is kept for the next read of its register (R25, R287). -/
def latchWord (a : Nat) (w : Word) (s : State) : State := { s with latch := (a, w) :: eraseKey s.latch a }

/-- A read of WATCH.CH.OUT_VAL clears NEW and latches the other three registers of the sample (R287). -/
def outLatch (b : Blk) (off : Nat) (s : State) : State :=
  match b with
  | .lane _ =>
    if (findReg b off).map RegD.off == some R.WATCH_CH_OUT_VAL_VALUE.off then
      let a := b.base + off
      let s := s.setReg (a + 4) (fset (s.getReg (a + 4)) 31 31 0)
      [4, 8, 12].foldl (fun s d => latchWord (a + d) (s.getReg (a + d)) s) s
    else s
  | _ => s

/-- A master reads a register of a block (R19, R25): the state after, and the word. A lower word that was itself latched
keeps the upper word latched with it (R287). -/
def regRead (m : Master) (b : Blk) (off : Nat) (s : State) : State × Word :=
  match findReg b off with
  | none => (s, 0)
  | some _ =>
    if b == .sq && (off == 0x20 || off == 0x24) then semRead ((off - 0x20) / 4) (Master.id m) s
    else
      match effKey b off s with
      | none => (readStep b off s, 0)
      | some key =>
        let w := liveWord b off (s.getReg key) s
        let a := b.base + off
        let kept := s.latch.find? (fun e => e.1 == a)
        let s1 := { s with latch := eraseKey s.latch a }
        let s2 := match pairStep b off, kept with
          | some d, none => latchWord (a + d) (liveWord b (off + d) (s.getReg (key + d)) s) s1
          | _, _ => s1
        let s3 := if readDraws b off then s2.drawn else s2
        (readStep b off (clearRc b off key (outLatch b off s3)), (kept.map Prod.snd).getD w)

/-! Writes. -/

/-- The lock condition of a locked field is met (R418, R191). -/
def lockHolds (b : Blk) (s : State) : Bool :=
  match b with
  | .safe => s.on safeB R.SAFE_STATUS_LOCKED
  | _ => s.locksSet

/-- A field that a lock may protect: RW/LK fields, and RUN of the supervisor pair. -/
def lockable (b : Blk) (off : Nat) (f : Fld) : Bool := f.acc == .rwlk || (b == .sq && off == 0x200 && f.lo == 0 && f.acc == .rw)

/-- Fields that other elements have and this one reads as 0: they ignore writes. -/
def absent (b : Blk) (off : Nat) (f : Fld) : Bool :=
  match b with
  | .lane n => off == 0 && f.lo == 7 && n < 56
  | .fe e => off == R.FE_BURST_CFG_BASE.off && e < 3
  | .boot => false
  | _ => false

/-- A field that ignores the value written: an absent one, and TMODE for 2 and 3 (RX.TERM). -/
def ignores (b : Blk) (off : Nat) (w : Word) (f : Fld) : Bool :=
  absent b off f || (match b with
    | .lane _ => f == R.RX_TERM_TMODE && 1 < fget w 5 4
    | _ => false)

/-- One field of a word written: the active word after. -/
def fldWrite (locked : Bool) (w act : Word) (f : Fld) : Word :=
  let v := fget w f.hi f.lo
  match f.acc with
  | .rw => if locked then act else fset act f.hi f.lo v
  | .rwlk => if locked then act else fset act f.hi f.lo v
  | .w1c => fset act f.hi f.lo (fget (act &&& ~~~ w) f.hi f.lo)
  | .w1s => fset act f.hi f.lo (fget (act ||| w) f.hi f.lo)
  | .ro | .rc | .wo | .st => act

/-- The fields of a register by their access codes (R19): the state after the word is stored, and whether a locked field
would have changed (R22). -/
def storeWord (b : Blk) (off key : Nat) (w : Word) (s : State) : State × Bool :=
  let fs := (keyFlds key).filter (fun f => !ignores b off w f)
  let lk := lockHolds b s
  let cur := s.getReg key
  let act := fs.foldl (fun a f => fldWrite (lk && lockable b off f) w a f) cur
  let sh := (fs.filter (fun f => f.acc == .st)).foldl (fun a f => fset a f.hi f.lo (fget w f.hi f.lo)) (s.getShadow key)
  let refused := lk && fs.any (fun f => lockable b off f && fget w f.hi f.lo != fget cur f.hi f.lo)
  let s := s.setReg key act
  let before := if s.lateSh.any (fun e => e.1 == key && e.2.2 == s.pclk) then s.lateSh
    else (key, s.getShadow key, s.pclk) :: s.lateSh.filter (fun e => e.2.2 == s.pclk)
  (if fs.any (fun f => f.acc == .st) then { s.setShadow key sh with lateSh := before } else s, refused)

/-- Registers that take a written word in a way of their own. -/
def ownWrite (m : Master) (b : Blk) (off : Nat) (w : Word) (s : State) : Option State :=
  match b with
  | .tl => if off == R.TL_STATUS_COASTED.off then some (tlStatus w s) else none
  | .flt =>
    if off == R.FLT_SRC_CFG_CLASS.off then some (srcCfgWrite w s)
    else none
  | .sq =>
    if off == 0x20 || off == 0x24 then some (if hot w 0 then semRelease ((off - 0x20) / 4) (Master.id m) s else s)
    else if off == R.SQ_PERF_LO_DATA.off then some (perfWrite false w s)
    else if off == R.SQ_PERF_HI_DATA.off then some (perfWrite true w s)
    else if off == 0x210 then some s
    else none
  | .fe e =>
    if 0x38000 ≤ off then (if tmplBusy e ((off - 0x38000) / 256) s then some (tmplRefuse e s) else none) else none
  | .lane n =>
    if off == R.RX_TRIM_DATA_OFS.off then some (rxTrimWrite n w s)
    else if off == R.EQ_COEF_DATA_LOW.off then some (eqCoefWrite n w s)
    else if off == R.TX_COEF_DATA_TAP.off then some (txCoefWrite n w s)
    else if off == R.FEC_UP_DATA_SYM.off then some (upWrite n w s)
    else if off == R.HAZE_COEF_DATA_TAP.off then some (hazeCoefWrite n w s)
    else if off == R.BIAS_STATUS_WDOG.off then
      let c := biasW1c n w s
      let st := s.getReg (laneB n + off)
      let sat := match m with
        | .core _ | .pair => fget w 8 8
        | _ => fget st 8 8
      some (biasCleared n c (s.setReg (laneB n + off) (fput R.BIAS_STATUS_APC_SAT sat (st &&& ~~~ (c &&& 0x1E)))))
    else none
  | .boot => if 0x80 ≤ off ∧ off < 0xB0 ∧ s.keySet then some s else none
  | _ => none

/-- A write that changes a locked field, or a wholly locked memory, is reported (R22). -/
def lockRefuse (m : Master) (a : Nat) (s : State) : State := s.raiseA 0x41C ⟨Master.id m, 2, a⟩

/-- A master writes a register of a block (R19 to R22, R77): the state after, and how the fabric ends the access. -/
def regWrite (m : Master) (b : Blk) (off : Nat) (w : Word) (s : State) : State × AccSt :=
  match findReg b off with
  | none => (s, .done)
  | some _ =>
    match ownWrite m b off w s with
    | some s => (s, .done)
    | none =>
      match effKey b off s with
      | none => (s, .done)
      | some key =>
        let old := s.getReg key
        let p := storeWord b off key w s
        let s := regHook m b off old w p.1
        let s := match keyGroup key with
          | some (cls, i) => if legacyOn cls s && (keyFlds key).any (fun f => f.acc == .st) then legacyWrite cls i key s else s
          | none => s
        if p.2 then (lockRefuse m (b.base + off) s, .locked) else (s, .done)

end Sys2Proof.Machine
end

