-- ==== Sys2Proof/Machine/Fabric.lean ====
section
/-! DEFINITION. The register fabric (R35 to R44): how an access of a master is checked, waits, is performed and ends. -/

namespace Sys2Proof.Machine

/-! Sequencer memories (R361). -/

/-- A read of a sequencer memory meets an armed INJ_MEM (R384): core data memories, and shared memory under 18. -/
def memHit (a : Nat) (s : State) : Bool :=
  match place a, s.injMem with
  | .core k data _, some j => data && k == j
  | .shared _, some j => j == 18
  | _, _ => false

/-- A double memory error (R359): the data that it delivers is a free value. -/
def memError (mid a : Nat) (s : State) : State × Word :=
  (({ s with injMem := none }.raiseA 0x473 ⟨mid, 1, a⟩).drawn, BitVec.ofNat 32 s.draw)

/-- A master reads a word of a sequencer memory. -/
def memRead (m : Master) (a : Nat) (s : State) : State × Word :=
  if memHit a s then memError (Master.id m) a s else (s, s.word a)

/-- A master writes a word of a sequencer memory (R361). -/
def memWrite (m : Master) (a : Nat) (w : Word) (s : State) : State × AccSt :=
  match place a with
  | .core 17 _ _ => ((s.cnt sqB R.SQ_LOCK_STAT_S1_WR_REF 1).raiseA 0x474 ⟨Master.id m, 2, a⟩, .dropped)
  | .core 16 false _ => if s.locksSet then (lockRefuse m a s, .locked) else (s.coreStore a w, .done)
  | .core k false _ =>
    if s.coreState k == 0 || s.coreState k == 3 then (s.coreStore a w, .done) else (lockRefuse m a s, .locked)
  | _ => (s.coreStore a w, .done)

/-! Where an access goes. -/

/-- No register access is possible at an address: outside the map, misaligned, or in the window of a die, stack or element
that is out of use (R40, R41, R414, R490). -/
def undecoded (a : Nat) (s : State) : Bool :=
  decide (a % 4 ≠ 0) || decide (2 ^ 32 ≤ a) ||
  match place a with
  | .unmapped => true
  | .reg (.lane n) _ => s.dieBad.testBit (n / 16) || s.unserved.testBit n
  | .reg (.oct o) _ => s.dieBad.testBit (o / 2)
  | .reg (.mc m) _ => s.stackBad.testBit m
  | .reg (.fe e) off => decide (0x880 ≤ off) && decide (off < 0x8C0) && s.unserved.testBit (64 + 16 * e + (off - 0x880) / 4)
  | _ => false

/-- An access whose target is awake is performed: the state after, the data read, and how it ends. -/
def perform (m : Master) (write : Bool) (a : Nat) (w : Word) (s : State) : State × Word × AccSt :=
  if undecoded a s then (s.raiseA 0x428 ⟨Master.id m, if write then 2 else 1, a⟩, 0, .decodeErr)
  else
    let s := match gateOf a with
      | some g => gateWake g s
      | none => s
    match place a with
    | .reg b off =>
      if write then let r := regWrite m b off w s; (r.1, 0, r.2)
      else let r := regRead m b off s; (r.1, r.2, .done)
    | _ =>
      if write then let r := memWrite m a w s; (r.1, 0, r.2)
      else let r := memRead m a s; (r.1, r.2, .done)

/-- The domain that an access waits for: 84 while PCLK is stopped, or a switched domain that is not ON (R455, R456). -/
def accessDom (a : Nat) (s : State) : Option Nat :=
  if s.pclkStopped then some 84
  else if undecoded a s then none
  else match addrDom a with
    | some d => if d < 84 && !s.domOn d then some d else none
    | none => none

/-- An access enters the fabric. In FATAL and OFF only the FLT window is read, over MI2C and JTAG (R497). Accesses
that wait are served in order of arrival (R36). -/
def access (m : Master) (write : Bool) (a : Nat) (w : Word) (s : State) : State × Word × AccSt :=
  if s.por || s.inReset then (s, 0, .dropped)
  else if s.fatal || s.off then
    let flt := match place a with
      | .reg .flt _ => !write && a % 4 == 0
      | _ => false
    if (m == .mi2c || m == .jtag) && flt then perform m false a w s
    else if m == .mi2c then (s, 0, .blocked)
    else if m == .jtag then (s, 0, .done)
    else (s, 0, .dropped)
  else if m == .mi2c && !mi2cMay write a s then (s, 0, .blocked)
  else
    match accessDom a s with
    | some d =>
      let s := if d < 84 then domAccess d (s.setDom d { s.domOf d with master := Master.id m }) else s
      ({ s with waiting := s.waiting ++ [⟨m, a, write, w, d, s.pclk⟩] }, 0, .waiting)
    | none => perform m write a w s

/-- A master may make an access at all: the checks that a core makes before the fabric (R362, R363). No access of a
program carries the ID of an injection. -/
def mayAccess (m : Master) (write : Bool) (a : Nat) (w : Word) (s : State) : Bool :=
  match m with
  | .core k => laneCoreMay k.val (s.coreOf k.val).priv write a w s
  | .pair => pairMay a
  | .inject => false
  | _ => true

/-- An access as a command: what the fabric tells the master. -/
def command (m : Master) (write : Bool) (a : Nat) (w : Word) (s : State) : State :=
  if mayAccess m write a w s then
    let r := access m write a w s
    if r.2.2 == .waiting then r.1
    else { r.1 with resp := some ⟨m, a, write, if write then 0 else r.2.1, r.2.2⟩ }
  else { s with resp := some ⟨m, a, write, 0, .blocked⟩ }

/-- A command that writes a register. -/
def writeCmd (m : Master) (a : Nat) (w : Word) (s : State) : State := command m true a w s

/-- A command that reads a register. -/
def readCmd (m : Master) (a : Nat) (s : State) : State := command m false a 0 s

end Sys2Proof.Machine
end

