-- ==== Sys2Proof/Machine/ActRun.lean ====
section
/-! DEFINITION. The execution of a dispatched timed action (R70 to R72). -/

namespace Sys2Proof.Machine

/-- The master of an ID (R35). -/
def masterOf (id : Nat) : Master :=
  match id with
  | 0 => .ncp
  | 1 => .mi2c
  | 2 => .jtag
  | 3 => .boot
  | 0x20 => .pair
  | 0x3F => .inject
  | n => .core (Fin.ofNat 16 (n - 0x10))

/-- The part runs its blocks: powered, out of reset, not in FATAL, OFF or REST, and PCLK runs. -/
def State.partRuns (s : State) : Bool := s.bbOn && !s.por && !s.inReset && !s.fatal && !s.off && !s.pclkStopped

/-- A SIGNAL reaches a core: an entry that its mailbox takes is counted (R376, R381). -/
def mboxTake (k : Nat) (code stamp : Word) (s : State) : State :=
  let took := decide ((s.coreOf k).mbox.length < 8)
  let s := mboxArrive k code stamp s
  if took then coreCount k 0x13 1 s else s

/-- The effect of an action at X (R68). -/
def actEffect (i x : Nat) (s : State) : State :=
  let sel := actSel i s
  let w3 := actW i 3 s
  match actType i s with
  | 1 => commitApply (sel % 16) (sel / 16 % 4) (fget w3 5 0) (s.actOf i).mask (some i) (s.wr (actB i) R.TL_ACT_STATUS_REJECT 0)
  | 2 => (perform (masterOf (s.actOf i).master) true (actAddr i s) w3 s).1
  | 3 => fireOne (sel % 64) x s
  | 4 => mboxTake (sel % 32) w3 (BitVec.ofNat 32 x) s
  | _ => s

/-- A late action (R71), or one that is on time. -/
def actLate (i x : Nat) (s : State) : State :=
  let slip := x - actTime i s
  if slip == 0 then (s.wr (actB i) R.TL_ACT_STATUS_LATE 0).wr (actB i) R.TL_ACT_STATUS_SLIP_TC 0
  else
    let s := (s.wr (actB i) R.TL_ACT_STATUS_LATE 1).wr (actB i) R.TL_ACT_STATUS_SLIP_TC (min (slip / 250) (2 ^ 24 - 1))
    let s := (s.cnt tlB R.TL_LATE_CNT_COUNT 1).wr tlB R.TL_LATE_IDX_INDEX i
    (s.wr tlB R.TL_LATE_SLIP_SLIP (min slip 0xFFFFFFFF)).raise 0x425

/-- After its execution an entry is DONE, or with a PERIOD it is ARMED for its next instant (R72): of k instants that
have passed already, the last is executed late and the others are counted with it. -/
def actRearm (i : Nat) (s : State) : State :=
  let step := if actType i s == 2 then 0 else fget (actW i 2 s) 31 12 * 250
  if step == 0 then actGo i 4 s
  else
    let next := actTime i s + step
    let merged := if next ≤ s.tlv.toNat then (s.tlv.toNat - next) / step else 0
    let t := next + merged * step
    let s := (s.setReg (actB i + R.TL_ACT_W_WORD.off) (half false t)).setReg (actB i + R.TL_ACT_W_WORD.off + 4) (half true t)
    actGo i 2 (s.cnt tlB R.TL_LATE_CNT_COUNT merged)

/-- Every domain that entry i needs is ON, and its target's queue of 16 has taken it. -/
def actReady (i : Nat) (s : State) : Bool :=
  (actDoms i (s.actOf i).mask s).all (fun d => s.domOn d) && !(s.actOf i).full

/-- Entry i executes at X (R70), or as soon after as its domains and its target's queue allow. -/
def actExecute (i : Nat) (s : State) : State :=
  if actState i s == 3 && s.partRuns && actReady i s then
    let a := s.actOf i
    let s := if a.held then s.advanceNow a.due else s.advanceTlv a.x a.due
    let x := if a.held then (if a.wait then a.x + (s.now - a.due) else a.x) else max a.x s.tlv.toNat
    let doms := actDoms i a.mask s
    let target := actTarget i s
    let s := actEffect i x (actLate i x s)
    let s := actTake target (actRearm i (s.setAct i { s.actOf i with x := x }))
    let s := doms.foldl (fun t d => { t with pwr := { t.pwr with acts := t.pwr.acts.erase d } }) s
    doms.foldl (fun t d => domReturn d t) s
  else s

end Sys2Proof.Machine
end

