-- ==== Sys2Proof/Machine/CoreExec.lean ====
section
/-! DEFINITION. What a Fjot core does: fetch, the instructions of R368, traps and interrupts (R371 to R375), the address
view and the window (R358 to R363), the lockstep comparison (R366). The pair is core 16. -/

namespace Sys2Proof.Machine

/-! General registers and the core's master. -/

/-- A general register; g0 reads 0 (R367). -/
def CoreSt.gr (c : CoreSt) (i : Nat) : Word := if i = 0 then 0 else look 0 c.g i

/-- A general register takes a value; g0 ignores it. -/
def CoreSt.setGr (c : CoreSt) (i : Nat) (w : Word) : CoreSt := if i = 0 then c else { c with g := put 0 c.g i w }

/-- The master under which a core enters the fabric (R357). -/
def coreMaster (k : Nat) : Master := if 16 ≤ k then .pair else .core (Fin.ofNat 16 k)

/-- A load of a core waits in the fabric. -/
def loadWaits (k : Nat) (s : State) : Bool := s.waiting.any (fun a => a.master == coreMaster k && !a.write)

/-- A posted store of a core has not completed. -/
def storeWaits (k : Nat) (s : State) : Bool := s.waiting.any (fun a => a.master == coreMaster k && a.write)

/-- A core in run state `st` may issue: SCLK runs, SQ has power, the lane cores' gate is open, and no load of it waits. -/
def coreCan (st k : Nat) (s : State) : Bool :=
  s.coreState k == st && s.partRuns && s.domOn 82 && !(decide (k < 16) && s.gateShut 10) && !loadWaits k s

/-! Halts. -/

/-- Requests of the non-maskable trap that are queued when the pair enters state 4 or 5 are lost (R495). -/
def nmtDiscard (s : State) : State :=
  let n := s.nmtQ.length + b2n (s.coreOf 16).nmtHeld.isSome
  let s := { s.cnt fltB R.FLT_CNT_OVF_NMT_LOST n with nmtQ := [] }
  (s.setCore 16 { s.coreOf 16 with nmtHeld := none }).wr sqB R.SQ_NMT_CAUSE_PEND 0

/-- A core stops in run state 4 or 5: PC shows the next instruction, its semaphores are freed (R365). -/
def coreStop (k st : Nat) (s : State) : State :=
  let s := (coreGo k st s).wr (coreB (coreIx k)) R.SQ_CORE_PC_PC (s.coreOf k).pc.toNat
  let s := semForceOf (coreMid k) s
  if coreIx k == 16 then nmtDiscard s else s

/-- A synchronous trap halts a core in state 4 (R372). -/
def coreFault (k cause : Nat) (s : State) : State :=
  let s := s.wr (coreB (coreIx k)) R.SQ_CORE_STATUS_LAST_CAUSE cause
  let s := if coreIx k == 16 then s.wr (coreB 17) R.SQ_CORE_STATUS_LAST_CAUSE cause else s
  (coreStop k 4 s).raise (if coreIx k == 16 then 0x470 else 1104 + 2 * k)

/-- A comparison difference of the pair (R366). -/
def lockDiff (s : State) : State :=
  let s := s.cnt sqB R.SQ_LOCK_STAT_MISMATCH 1
  let s := if s.on sqB R.SQ_CTRL_LS_CMP then (coreStop 16 5 s).wr sqB R.SQ_LOCK_STAT_PAIR_HALT 1 else s
  s.raise 0x471

/-! Traps and interrupts (R372). -/

/-- A word with bits 1:0 clear: the PC is word aligned (R367). -/
def wordAligned (w : Word) : Word := w &&& 0xFFFFFFFC

/-- Entry to the trap handler. TRAP_ADDR of a trap without a faulting address is a free value. -/
def coreEnter (k cause : Nat) (ret : Word) (addr : Option Word) (s : State) : State :=
  let w := addr.getD (BitVec.ofNat 32 s.draw)
  let s := if addr.isNone then s.drawn else s
  let c := s.coreOf k
  let c := ((c.setCsr csrTRAPPC ret).setCsr csrTRAPCAUSE (BitVec.ofNat 32 cause)).setCsr csrTRAPADDR w
  let c := ((c.setCsrF csrSTATUS 1 1 (b2n c.priv)).setCsrF csrSTATUS 0 0 0).setCsrF csrSTATUS 6 6 1
  s.setCore k { c with priv := true, pc := wordAligned (c.getCsr csrTRAPBASE) }

/-- A synchronous trap of the instruction at `ret`. -/
def coreTrapAt (k cause : Nat) (ret : Word) (addr : Option Word) (s : State) : State :=
  let c := s.coreOf k
  if c.csrF csrSTATUS 6 6 == 1 || (coreIx k == 16 && c.csrF csrSTATUS 7 7 == 1) then coreFault k cause s
  else coreCount k 0x0E 1 (coreEnter k cause ret addr s)

/-- A synchronous trap of the instruction at the PC. -/
def coreTrap (k cause : Nat) (addr : Option Word) (s : State) : State := coreTrapAt k cause (s.coreOf k).pc addr s

/-- The lowest line that is pending and enabled (R373). -/
def coreLine (k : Nat) (s : State) : Option Nat :=
  let w := (s.coreOf k).pend &&& (s.coreOf k).getCsr csrINTEN
  (List.range 14).find? (fun i => w.getLsbD i)

/-- A pending interrupt is taken at an instruction boundary (R373). -/
def coreInterrupt (k : Nat) (s : State) : State :=
  match (if coreCan 1 k s && (s.coreOf k).csrF csrSTATUS 0 0 == 1 then coreLine k s else none) with
  | none => s
  | some i => coreCount k 0x0D 1 (coreEnter k (0x80 + i) (s.coreOf k).pc none s)

/-- The pair takes a non-maskable trap (R374): the request that it holds, or the collector's first. -/
def nmtTake (s : State) : State :=
  let c := s.coreOf 16
  if !coreCan 1 16 s || c.csrF csrSTATUS 7 7 == 1 then s
  else
    let next : Option ((Nat × Nat × Nat) × State) := match c.nmtHeld, s.nmtQ with
      | some r, _ => some (r, s)
      | none, r :: q => some (r, { s with nmtQ := q })
      | none, [] => none
    match next with
    | none => s
    | some ((id, cls, rec_), s) =>
      let c := ((c.setCsr csrNTRAPPC c.pc).setCsr csrNTRAPCAUSE (BitVec.ofNat 32 (id % 2048 + cls * 4096))).setCsr
        csrNTRAPINFO (BitVec.ofNat 32 rec_)
      let c := c.setCsrF csrSTATUS 7 7 1
      let s := s.setCore 16 { c with nmtMode := c.priv, priv := true, pc := wordAligned (c.getCsr csrNTRAPBASE), nmtHeld := none }
      coreCount 16 0x0E 1 (((s.wr sqB R.SQ_NMT_CAUSE_SRC id).wr sqB R.SQ_NMT_CAUSE_CLASS cls).wr sqB R.SQ_NMT_CAUSE_PEND 0)

/-- While INNMT = 1 the pair holds one further request (R374). -/
def nmtHold (s : State) : State :=
  let c := s.coreOf 16
  match s.nmtQ with
  | r :: q =>
    if c.csrF csrSTATUS 7 7 == 1 && c.nmtHeld.isNone then
      ({ s with nmtQ := q }.setCore 16 { c with nmtHeld := some r }).wr sqB R.SQ_NMT_CAUSE_PEND 1
    else s
  | [] => s

/-- A core in IDLE has a line pending and enabled, or a non-maskable trap has arrived (R373). -/
def idleEnds (k : Nat) (s : State) : Bool :=
  s.coreState k == 2 && ((coreLine k s).isSome || (k == 16 && (!s.nmtQ.isEmpty || (s.coreOf 16).nmtHeld.isSome)))

/-- A core leaves IDLE. -/
def coreWakeIdle (k : Nat) (s : State) : State := if idleEnds k s then coreGo k 1 s else s

/-! Issue and retirement. -/

/-- The instruction at the PC retires: it is counted (R381), sampled (R382), and SQ.CORE[k].PC shows it. -/
def coreRetire (k : Nat) (evs : List Nat) (addr : Word) (s : State) : State :=
  let c := s.coreOf k
  let evs := evs ++ (0x02 :: if c.priv then [] else [0x03])
  let s := takeSample k c.pc addr (evs.foldl (fun t e => coreCount k e 1 t) s)
  s.wr (coreB (coreIx k)) R.SQ_CORE_PC_PC c.pc.toNat

/-- The instruction at the PC completes: it retires, has its effect `f`, which sets the PC, and is compared in the pair;
a core that steps in HALTED shows the next instruction. -/
def coreFinish (k : Nat) (evs : List Nat) (addr : Word) (f : State → State) (s : State) : State :=
  let s := f (coreRetire k evs addr s)
  let s := if s.coreState k == 3 then s.wr (coreB (coreIx k)) R.SQ_CORE_PC_PC (s.coreOf k).pc.toNat else s
  if coreIx k == 16 && s.injLockstep then lockDiff { s with injLockstep := false } else s

/-- A change of the core's own state, and the next instruction. -/
def coreSet (k : Nat) (f : CoreSt → CoreSt) (s : State) : State :=
  let c := f (s.coreOf k)
  s.setCore k { c with pc := c.pc + 4 }

/-- A core issues the instruction `f`: one outside its instruction memory traps (R358). -/
def coreIssue (k : Nat) (f : State → State) (s : State) : State :=
  let pc := (s.coreOf k).pc
  if 0x10000 ≤ pc.toNat then coreTrap k 1 (some pc) s else f s

/-- At this instruction boundary a core takes a non-maskable trap or an interrupt before it issues (R373 to R375). -/
def boundaryTrap (k : Nat) (s : State) : Bool :=
  let c := s.coreOf k
  (coreIx k == 16 && c.csrF csrSTATUS 7 7 == 0 && (c.nmtHeld.isSome || !s.nmtQ.isEmpty)) ||
    (c.csrF csrSTATUS 0 0 == 1 && (coreLine k s).isSome)

/-- A core in RUN executes an instruction. -/
def coreRun (k : Nat) (f : State → State) (s : State) : State :=
  if coreCan 1 k s && !boundaryTrap k s then coreIssue k f s else s

/-! Arithmetic (R368). -/

/-- Leading zeros of a word. -/
def clz (a : Word) : Word := if a = 0 then 32 else BitVec.ofNat 32 (31 - Nat.log2 a.toNat)

/-- The signed saturating sum. -/
def satAddS (a b : Word) : Word := BitVec.ofInt 32 (clampI (-2147483648) 2147483647 (a.toInt + b.toInt))

/-- The result of the instruction of opcode 0x00 with a FUNC. -/
def alu (func : Nat) (a b : Word) : Word :=
  match func with
  | 0 => a + b
  | 1 => a - b
  | 2 => a &&& b
  | 3 => a ||| b
  | 4 => a ^^^ b
  | 5 => a <<< b.toNat
  | 6 => a >>> b.toNat
  | 7 => a.sshiftRight b.toNat
  | 8 => if a.slt b then 1 else 0
  | 9 => if a.ult b then 1 else 0
  | 10 => a * b
  | 11 => BitVec.ofInt 32 (a.toInt * b.toInt / 2 ^ 32)
  | 12 => BitVec.ofNat 32 (a.toNat * b.toNat / 2 ^ 32)
  | 13 => if b = 0 then 0xFFFFFFFF else a.sdiv b
  | 14 => if b = 0 then 0xFFFFFFFF else a / b
  | 15 => if b = 0 then a else a.srem b
  | 16 => if b = 0 then a else a % b
  | 17 => if a.slt b then a else b
  | 18 => if a.slt b then b else a
  | 19 => clz a
  | _ => satAddS a b

/-- A shift by 32 or more: the spec states no result. -/
def aluOpen (func : Nat) (b : Word) : Bool := (func == 5 || func == 6 || func == 7) && decide (32 ≤ b.toNat)

/-- A register instruction (R format). -/
def isaAlu (k func rd ra rb : Nat) (s : State) : State :=
  let c := s.coreOf k
  let b := c.gr rb
  if aluOpen func b then coreFinish k [] 0 (coreSet k (fun c => c.setGr rd (BitVec.ofNat 32 s.draw))) s.drawn
  else coreFinish k [] 0 (coreSet k (fun c => c.setGr rd (alu func (c.gr ra) (c.gr rb)))) s

/-- An immediate instruction: the FUNC of its register form, and the operand. -/
def isaImm (k func rd ra : Nat) (b : Word) (s : State) : State :=
  coreFinish k [] 0 (coreSet k (fun c => c.setGr rd (alu func (c.gr ra) b))) s

/-- A sign-extended immediate, and a zero-extended one. -/
def immS (imm : BitVec 16) : Word := imm.signExtend 32
def immZ (imm : BitVec 16) : Word := imm.zeroExtend 32

/-- LUI. -/
def isaLui (k rd : Nat) (imm : BitVec 16) (s : State) : State :=
  coreFinish k [] 0 (coreSet k (fun c => c.setGr rd (immZ imm <<< 16))) s

/-! Branches and jumps. -/

/-- The condition of opcode 0x10 to 0x15. -/
def branchTaken (op : Nat) (a b : Word) : Bool :=
  match op with
  | 0x10 => a == b
  | 0x11 => a != b
  | 0x12 => a.slt b
  | 0x13 => !a.slt b
  | 0x14 => a.ult b
  | _ => !a.ult b

/-- A conditional branch: a word offset from its own address. -/
def isaBranch (k op ra rb : Nat) (imm : BitVec 16) (s : State) : State :=
  let c := s.coreOf k
  if branchTaken op (c.gr ra) (c.gr rb) then
    coreFinish k [0x0C] 0 (fun t => t.setCore k { t.coreOf k with pc := c.pc + immS imm * 4 }) s
  else coreFinish k [] 0 (coreSet k id) s

/-- JAL. -/
def isaJal (k rd : Nat) (imm : BitVec 21) (s : State) : State :=
  let pc := (s.coreOf k).pc
  coreFinish k [0x0C] 0 (fun t =>
    t.setCore k { (t.coreOf k).setGr rd (pc + 4) with pc := pc + (imm.signExtend 32 : Word) * 4 }) s

/-- JALR. -/
def isaJalr (k rd ra : Nat) (imm : BitVec 16) (s : State) : State :=
  let c := s.coreOf k
  coreFinish k [0x0C] 0 (fun t =>
    t.setCore k { (t.coreOf k).setGr rd (c.pc + 4) with pc := wordAligned (c.gr ra + immS imm) }) s

/-! Loads, stores and AMOs (R358 to R363). -/

/-- What a core address names (R358): 0 own instruction memory, 1 own data memory, 2 shared memory, 3 the register
window; with the host address. -/
def coreView (k a : Nat) : Option (Nat × Nat) :=
  if a < 0x10000 then some (0, imemB (coreIx k) + a)
  else if a < 0x20000 then some (1, dmemB (coreIx k) + (a - 0x10000))
  else if 0x400000 ≤ a ∧ a < 0x800000 then some (2, sharedB + (a - 0x400000))
  else if 0x80000000 ≤ a ∧ a < 0x81400000 then some (3, a - 0x80000000)
  else none

/-- A little-endian value of 1, 2 or 4 bytes, extended to a word. -/
def memVal (size : Nat) (signed : Bool) (h : Nat) (s : State) : Word :=
  match size, signed with
  | 1, true => (s.byte h).signExtend 32
  | 1, false => (s.byte h).zeroExtend 32
  | 2, true => (s.byte (h + 1) ++ s.byte h).signExtend 32
  | 2, false => (s.byte (h + 1) ++ s.byte h).zeroExtend 32
  | _, _ => s.word h

/-- The pair compares this instruction as different and halts for it: its stores and window writes are outputs that are not
released (R366). -/
def unreleased (k : Nat) (s : State) : Bool := coreIx k == 16 && s.injLockstep && s.on sqB R.SQ_CTRL_LS_CMP

/-- A core stores 1, 2 or 4 bytes to one of its memories; a store of S0 is one of S1 too. -/
def memStore (k size h : Nat) (w : Word) (s : State) : State :=
  if unreleased k s then s else
  let one (h : Nat) (t : State) : State :=
    match size with
    | 1 => t.setByte h (BitVec.ofNat 8 w.toNat)
    | 2 => (t.setByte h (BitVec.ofNat 8 w.toNat)).setByte (h + 1) (BitVec.ofNat 8 (w.toNat / 256))
    | _ => t.setWord h w
  let s := one h s
  if coreIx k == 16 && decide (h < sharedB) then one (h + 0x20000) s else s

/-- A read of a core meets an armed INJ_MEM (R384): its own data memory, or the shared memory. -/
def coreMemHit (k kind : Nat) (s : State) : Bool :=
  match s.injMem with
  | some j => (kind == 1 && coreIx j == coreIx k && decide (j < 18)) || (kind == 2 && j == 18)
  | none => false

/-- A read of a core finds a double error (R359). -/
def coreMemError (k h : Nat) (a : Word) (s : State) : State :=
  coreTrap k 6 (some a) ({ s with injMem := none }.raiseA 0x473 ⟨coreMid k, 1, h⟩)

/-- A core may make a window access (R362). -/
def coreMay (k : Nat) (write : Bool) (h : Nat) (w : Word) (s : State) : Bool :=
  if coreIx k == 16 then pairMay h else laneCoreMay k (s.coreOf k).priv write h w s

/-- A window access that does not succeed: a read delivers 0, and the instruction traps. -/
def windowTrap (k cause : Nat) (rd : Option Nat) (a : Word) (s : State) : State :=
  let s := match rd with
    | some r => s.setCore k ((s.coreOf k).setGr r 0)
    | none => s
  coreTrap k cause (some a) s

/-- A load from the window. A load of less than a word is refused by the fabric (R41). -/
def windowLoad (k size rd h : Nat) (a : Word) (s : State) : State :=
  if storeWaits k s then s
  else if !coreMay k false h 0 s then windowTrap k 4 (some rd) a s
  else if size != 4 then windowTrap k 5 (some rd) a (s.raiseA 0x428 ⟨coreMid k, 1, h⟩)
  else
    let r := access (coreMaster k) false h (BitVec.ofNat 32 (0x100 + rd)) s
    match r.2.2 with
    | .waiting => r.1
    | .decodeErr | .timeout => windowTrap k 5 (some rd) a r.1
    | _ => coreFinish k [0x09] a (coreSet k (fun c => c.setGr rd r.2.1)) r.1

/-- A store to the window: it is posted. -/
def windowStore (k size h : Nat) (a w : Word) (s : State) : State :=
  if storeWaits k s then s
  else if !coreMay k true h w s then windowTrap k 4 none a s
  else if size != 4 then windowTrap k 5 none a (s.raiseA 0x428 ⟨coreMid k, 2, h⟩)
  else if unreleased k s then coreFinish k [0x0A] a (coreSet k id) s
  else
    let r := access (coreMaster k) true h w s
    match r.2.2 with
    | .decodeErr | .timeout => windowTrap k 5 none a r.1
    | _ => coreFinish k [0x0A] a (coreSet k (fun c => { c with post := c.pc })) r.1

/-- A load. -/
def isaLoad (k size : Nat) (signed : Bool) (rd ra : Nat) (imm : BitVec 16) (s : State) : State :=
  let c := s.coreOf k
  let a := c.gr ra + immS imm
  let v := coreView k a.toNat
  if !c.priv && v.any (fun x => x.1 == 0) then coreTrap k 2 (some a) s
  else if a.toNat % size != 0 then coreTrap k 3 (some a) s
  else match v with
  | none => windowTrap k 4 (some rd) a s
  | some (3, h) => windowLoad k size rd h a s
  | some (kind, h) =>
    if coreMemHit k kind s then coreMemError k h a s
    else
      let evs := if kind == 1 then [0x04] else if kind == 2 then [0x07] else []
      coreFinish k evs a (coreSet k (fun c => c.setGr rd (memVal size signed h s))) s

/-- A store; the rd field names its source. -/
def isaStore (k size rd ra : Nat) (imm : BitVec 16) (s : State) : State :=
  let c := s.coreOf k
  let a := c.gr ra + immS imm
  let w := c.gr rd
  let v := coreView k a.toNat
  if !c.priv && v.any (fun x => x.1 == 0) then coreTrap k 2 (some a) s
  else if a.toNat % size != 0 then coreTrap k 3 (some a) s
  else match v with
  | none => coreTrap k 4 (some a) s
  | some (3, h) => windowStore k size h a w s
  | some (kind, h) =>
    let evs := if kind == 1 then [0x05] else if kind == 2 then [0x07] else []
    coreFinish k evs a (fun t => coreSet k id (memStore k size h w t)) s

/-- What an AMO stores: FUNC 0 SWAP, 1 ADD, 2 AND, 3 OR, 4 CAS. -/
def amoNew (func : Nat) (old d b : Word) : Word :=
  match func with
  | 0 => b
  | 1 => old + b
  | 2 => old &&& b
  | 3 => old ||| b
  | _ => if old = d then b else old

/-- An AMO. -/
def isaAmo (k func rd ra rb : Nat) (s : State) : State :=
  let c := s.coreOf k
  let a := c.gr ra
  match (if a.toNat % 4 = 0 then coreView k a.toNat else none) with
  | some (2, h) =>
    if coreMemHit k 2 s then coreMemError k h a s
    else
      let old := s.word h
      coreFinish k [0x07] a
        (fun t => coreSet k (fun c => c.setGr rd old) (memStore k 4 h (amoNew func old (c.gr rd) (c.gr rb)) t)) s
  | _ => coreTrap k 3 (some a) s

/-! CSR access and SYS. -/

/-- The trap that a CSR access meets (R370): OP 0 reads, 1 writes, 2 and 3 do both. -/
def csrTrap (k op n : Nat) (s : State) : Option Nat :=
  let c := s.coreOf k
  let perm := c.getCsr csrPERM
  if !csrKnown n then some 1
  else if !c.priv && ((op != 1 && !csrReadA n perm) || (op != 0 && !csrWriteA n perm)) then some 2
  else none

/-- OP 0 CRD, 1 CWR, 2 CSET, 3 CCLR. -/
def isaCsr (k op rd ra n : Nat) (s : State) : State :=
  match csrTrap k op n s with
  | some cause => coreTrap k cause none s
  | none =>
    coreFinish k [] 0 (fun t =>
      let a := (t.coreOf k).gr ra
      if op == 1 then coreSet k id (csrWrite k n a a t)
      else
        let r := csrRead k n t
        let t := r.1
        let t := if op == 2 then csrWrite k n (r.2 ||| a) a t else if op == 3 then csrWrite k n (r.2 &&& ~~~ a) a t else t
        coreSet k (fun c => c.setGr rd r.2) t) s

/-- SCALL and BREAK. -/
def isaScall (k : Nat) (s : State) : State := coreTrap k (if (s.coreOf k).priv then 8 else 7) none s
def isaBreak (k : Nat) (s : State) : State := coreTrap k 9 none s

/-- TRET (R372). -/
def isaTret (k : Nat) (s : State) : State :=
  coreFinish k [] 0 (fun t =>
    let c := t.coreOf k
    let p := c.csrF csrSTATUS 1 1 == 1
    let d := (c.setCsrF csrSTATUS 0 0 1).setCsrF csrSTATUS 6 6 0
    t.setCore k { d with priv := p, pc := wordAligned (c.getCsr csrTRAPPC) }) s

/-- NRET (R374). -/
def isaNret (k : Nat) (s : State) : State :=
  coreFinish k [] 0 (fun t =>
    let c := t.coreOf k
    t.setCore k { c.setCsrF csrSTATUS 7 7 0 with priv := c.nmtMode, pc := wordAligned (c.getCsr csrNTRAPPC) }) s

/-- IDLE (R373). -/
def isaIdle (k : Nat) (s : State) : State :=
  let s := coreFinish k [] 0 (coreSet k id) s
  if s.coreState k == 1 then coreWakeIdle (coreIx k) (coreGo k 2 s) else s

/-- DRAIN waits for the posted store. -/
def isaDrain (k : Nat) (s : State) : State := if storeWaits k s then s else coreFinish k [] 0 (coreSet k id) s

/-! Fetch and decode (R368). -/

/-! The opcodes that lie in runs of one form (R368). -/

/-- The operation of an immediate form, opcodes 0x01 to 0x05: ADD, AND, OR, XOR and SLT by their FUNC. -/
def immAlu (op : Nat) : Nat := ([0, 2, 3, 4, 8][op - 1]?).getD 0

/-- Its immediate: sign-extended for ADDI and SLTI, else zero-extended. -/
def immOf (op : Nat) (imm : BitVec 16) : Word := if op = 0x01 ∨ op = 0x05 then immS imm else immZ imm

/-- Bytes of a load, opcodes 0x08 to 0x0C: one word, then two forms of a half, then two of a byte. -/
def loadSize (op : Nat) : Nat := 4 / 2 ^ ((op - 0x07) / 2)

/-- The load extends the sign; the second form of a half or a byte does not. -/
def loadSigned (op : Nat) : Bool := op != 0x0A && op != 0x0C

/-- The instruction of a word. An opcode or FUNC that is not in the table traps with cause 1. -/
def isaWord (k : Nat) (w : Word) (s : State) : State :=
  let rd := fget w 25 21
  let ra := fget w 20 16
  let rb := fget w 15 11
  let func := fget w 10 0
  let imm := BitVec.ofNat 16 w.toNat
  let illegal := coreTrap k 1 none s
  let op := fget w 31 26
  match op with
  | 0x00 => if func ≤ 20 then isaAlu k func rd ra rb s else illegal
  | 0x06 => if fget w 6 5 = 3 then illegal else isaImm k (5 + fget w 6 5) rd ra (BitVec.ofNat 32 (fget w 4 0)) s
  | 0x07 => if ra = 0 then isaLui k rd imm s else illegal
  | 0x16 => isaJal k rd (BitVec.ofNat 21 w.toNat) s
  | 0x17 => isaJalr k rd ra imm s
  | 0x18 => if func ≤ 4 then isaAmo k func rd ra rb s else illegal
  | 0x1C => if fget w 15 12 ≤ 3 then isaCsr k (fget w 15 12) rd ra (fget w 11 0) s else illegal
  | 0x1D =>
    match func with
    | 0 => isaScall k s
    | 1 => isaBreak k s
    | 2 => isaTret k s
    | 3 => isaNret k s
    | 4 => isaIdle k s
    | 5 => isaDrain k s
    | _ => illegal
  | _ =>
    if op ≤ 0x05 then isaImm k (immAlu op) rd ra (immOf op imm) s
    else if 0x08 ≤ op ∧ op ≤ 0x0C then isaLoad k (loadSize op) (loadSigned op) rd ra imm s
    else if 0x0D ≤ op ∧ op ≤ 0x0F then isaStore k (4 / 2 ^ (op - 0x0D)) rd ra imm s
    else if 0x10 ≤ op ∧ op ≤ 0x15 then isaBranch k op rd ra imm s
    else illegal

/-- A core in HALTED executes the instruction at its PC for STEP (R378). -/
def coreStep (k : Nat) (s : State) : State :=
  if coreCan 3 k s then coreIssue k (isaWord k (s.word (imemB (coreIx k) + (s.coreOf k).pc.toNat))) s else s

/-! What a window access that has waited delivers to its core (R363). -/

/-- A core's access ends with data and a status. -/
def coreDeliver (k : Nat) (a : Access) (v : Word) (st : AccSt) (s : State) : State :=
  let bad := st == .timeout || st == .decodeErr
  let ca := BitVec.ofNat 32 (a.addr + 0x80000000)
  if a.write then (if bad then coreTrapAt k 5 (s.coreOf k).post (some ca) s else s)
  else
    let rd := a.data.toNat % 0x100
    let s := if bad then windowTrap k 5 (some rd) ca s
      else coreFinish k [0x09] ca (coreSet k (fun c => c.setGr rd v)) s
    if (s.coreState k == 1 || s.coreState k == 2) && !s.on (coreB (coreIx k)) R.SQ_CORE_CTRL_RUN then
      coreGo k 3 (s.wr (coreB (coreIx k)) R.SQ_CORE_PC_PC (s.coreOf k).pc.toNat)
    else s

/-! Happenings of time. -/

/-- Ticks until a core's CYCLE has counted n more, while SCLK runs from CCLK; in SAFE the model passes no time. -/
def sclkTicks (n : Nat) (s : State) : Nat :=
  if s.clkState == 0 then s.cclkUp (n * max 1 (s.rd clkB R.CLK_DIV_SCLK_ACT)) else 0

/-- CYCLE reaches TIMER_CMP (R373). -/
def timerMatch (k : Nat) (s : State) : State :=
  if s.coreState k == 0 || !s.partRuns then s
  else
    coreIrq k 11 (s.advance (sclkTicks ((s.coreOf k).timerCmp - coreCycle k s) s))

/-- A core's watchdog period ends without a kick (R377). -/
def wdogExpire (k : Nat) (s : State) : State :=
  let c := s.coreOf k
  let st := s.coreState k
  if c.csrF csrWDOG 31 31 == 0 || wdogStops st || !s.partRuns then s
  else wdogFire (coreIx k) (s.advanceNow (c.wdogAt + sclkTicks (1024 * c.csrF csrWDOG 23 0) s))

/-- A semaphore has been held for 10 ms (R365). -/
def semTimeout (i : Nat) (s : State) : State :=
  let t := look 0 s.semSince i
  if t == 0 then s else semForce i (s.advanceNow (t - 1 + usT 10000))

end Sys2Proof.Machine
end

