-- ==== Sys2Proof/Machine/NcpExec.lean ====
section
/-! DEFINITION. How the NCP engine takes datagrams (R390, R399, R400) and executes their messages (R391 to R396, R402). -/

namespace Sys2Proof.Machine

/-! Answers. -/

/-- The session of a message is still open. -/
def jobLive (slot gen : Nat) (s : State) : Bool := s.sessOpen slot && (s.sessOf slot).gen == gen

/-- An answer goes out; one that does not fit a datagram is answered with STATUS 6 and no body. -/
def ncpReply (slot gen seq typ status : Nat) (tag : Word) (body : List Byte) (s : State) : State :=
  if !jobLive slot gen s then s
  else if msgRoom slot s < 8 + body.length then sessSend slot ⟨ncpMsgBytes (typ + 128) 6 tag [], some seq, 0⟩ s
  else sessSend slot ⟨ncpMsgBytes (typ + 128) status tag body, some seq, 0⟩ s

/-- An answer to a message in execution. -/
def jobReply (j : NcpJob) (status : Nat) (body : List Byte) (s : State) : State :=
  ncpReply j.slot j.gen j.seq j.typ status j.tag body s

/-! Accesses of a message (R392, R393). -/

/-- The next access that a message makes: whether it writes, the address, the word. -/
def jobAccess (j : NcpJob) : Option (Bool × Nat × Word) :=
  let pairs (cont : Bool) (l : List WritePair) : Option (Bool × Nat × Word) :=
    if j.fail.isSome && !cont then none else (l[j.done]?).map (fun p => (true, p.addr.toNat, p.data))
  match j.req with
  | .read as => (as[j.done]?).map (fun a => (false, a.toNat, 0))
  | .write cont l => pairs cont l
  | .run b _ => pairs b.cont b.pairs
  | .commit w 0 => if j.done == 0 then some (true, commitA, w) else none
  | _ => none

/-- How many accesses a message makes at most. -/
def jobSize (j : NcpJob) : Nat :=
  match j.req with
  | .read as => as.length
  | .write _ l => l.length
  | .run b _ => b.pairs.length
  | _ => 1

/-- The STATUS of an access. -/
def accStatus (st : AccSt) : Nat :=
  match st with
  | .decodeErr => 2
  | .timeout => 3
  | .locked | .dropped => 4
  | _ => 0

/-- A message takes the result of its access. -/
def jobTake (j : NcpJob) (v : Word) (st : AccSt) : NcpJob :=
  let c := accStatus st
  let read := match j.req with
    | .read _ => true
    | _ => false
  { j with
    done := j.done + 1
    got := if read then j.got ++ [if c == 0 then v else 0] else j.got
    status := if j.status == 0 then c else j.status
    fail := if c != 0 && j.fail.isNone then some j.done else j.fail
    count := if c == 0 then j.count + 1 else j.count }

/-- The count of writes executed and the index of the first failure; with no failure the index is a free value. -/
def writeBody (j : NcpJob) (s : State) : List Byte := beBytes 4 j.count ++ beBytes 4 (j.fail.getD s.draw)

/-! Commits (R394). -/

/-- The first of the 16 entries of the engine. -/
def actBase (s : State) : Nat := min 1008 (s.rd ncpB R.NCP_ACT_CFG_ACT_BASE)

/-- A COMMIT is answered: the execution TLV, and COMMIT_REJECT where it was rejected. -/
def commitAnswer (c : NcpCommit) (rejected late : Bool) (x : Nat) (s : State) : State :=
  let st := if rejected then 12 else if late then 7 else 0
  let rej := if rejected then beBytes 4 (s.getReg (glbB + R.GLB_COMMIT_REJECT_VALID.off)).toNat else []
  ncpReply c.slot c.gen c.seq 0x13 st c.tag (beBytes 8 x ++ rej) s

/-- A timed COMMIT arms an entry through the entry interface, under SQ.SEM[0]. -/
def commitArm (c : NcpCommit) (i : Nat) (s : State) : State :=
  let put (s : State) (j : Nat) (v : Nat) : State :=
    (perform .ncp true (tlB + R.TL_ACT_W_WORD.off + 4 * j) (BitVec.ofNat 32 v) s).1
  let sel := fget c.w 3 0 + fget c.w 5 4 * 16
  let s := put (put (put (put s 0 c.time) 1 (c.time / 2 ^ 32)) 2 (1 + sel * 16)) 3 (fget c.w 13 8)
  (perform .ncp true (tlB + R.TL_ACT_CMD_OP.off) (BitVec.ofNat 32 (0x1000 + i)) s).1

/-- A timed COMMIT tries to acquire SQ.SEM[0], or waits for it; after 2 ms it gives up. -/
def commitTry (c : NcpCommit) (s : State) : State :=
  let drop (s : State) : State := { s with ncpCommits := s.ncpCommits.filter (fun d => d != c) }
  let refuse (st : Nat) (s : State) : State := ncpReply c.slot c.gen c.seq 0x13 st c.tag [] (drop s)
  match (List.range 16).find? (fun j => actState (actBase s + j) s == 0) with
  | none => refuse 6 s
  | some j =>
    let i := actBase s + j
    let got := s.domOn 82 && !s.on (semB 0) R.SQ_SEM_HELD
    if got then
      let s := semRelease 0 0 (commitArm c i (semRead 0 0 s).1)
      if actState i s == 2 then
        { s with ncpCommits := s.ncpCommits.map (fun d => if d == c then { c with entry := some i } else d) }
      else refuse 5 s
    else if c.since + usT 2000 ≤ s.now then refuse 6 s
    else if s.domOn 82 then s else domAccess 82 s

/-- A COMMIT that waits for SQ.SEM[0]. -/
def semWaits (c : NcpCommit) : Bool := c.entry.isNone && c.left == 0

/-- The engine retries a held semaphore 1 µs later. -/
def semRetry (s : State) : State :=
  match s.ncpCommits.find? semWaits with
  | none => s
  | some c => if s.meOn && s.partRuns then commitTry c (s.advance (usT 1)) else s

/-- The oldest immediate commit has executed at x: the COMMIT that requested it is answered. -/
def commitTick (rejected : Bool) (x : Nat) (s : State) : State :=
  let ends := s.ncpCommits.filter (fun c => c.left == 1)
  let s := { s with ncpCommits := (s.ncpCommits.filter (fun c => c.left != 1)).map (fun c => { c with left := c.left - 1 }) }
  ends.foldl (fun s c => commitAnswer c rejected false x s) s

/-- An immediate commit executes (R75), and the COMMIT message that made it is answered. -/
def commitRun (s : State) : State :=
  match s.commits with
  | [] => s
  | c :: _ =>
    let s := commitExecute s
    commitTick (s.raised.any (fun r => r.id == 0x426)) c.x s

/-- The entry of a timed COMMIT is freed. -/
def actFree (i : Nat) (s : State) : State :=
  actGo i 0 (txForgetEntry i ((List.range 4).foldl (fun t j => t.setReg (actB i + R.TL_ACT_W_WORD.off + 4 * j) 0) s))

/-- A timed COMMIT whose entry is DONE is answered, and the entry is freed. -/
def commitDone (c : NcpCommit) (s : State) : State :=
  match c.entry with
  | none => s
  | some i =>
    if actState i s == 4 then
      let b := actB i
      let rejected := s.on b R.TL_ACT_STATUS_REJECT
      let late := s.on b R.TL_ACT_STATUS_LATE
      let x := (s.actOf i).x
      let s := { s with ncpCommits := s.ncpCommits.filter (fun d => d != c) }
      actFree i (commitAnswer c rejected late x s)
    else s

/-- Every timed COMMIT that has executed. -/
def commitsDone (s : State) : State := s.ncpCommits.foldl (fun s c => commitDone c s) s

/-! Batches (R395). -/

/-- A dispatched batch has written its last pair. -/
def batchEnd (j : NcpJob) (b : Batch) (x : Nat) (s : State) : State :=
  let slip := x - b.time
  let st := if j.status != 0 then j.status else if slip == 0 then 0 else 7
  let body := writeBody j s ++ beBytes 8 slip ++ beBytes 8 x ++ beBytes 8 s.tlv.toNat
  let s := if slip == 0 then s else s.raise 0x435
  jobReply j st body s.drawn

/-- CANCEL of an undispatched batch of the session. -/
def batchCancel (j : NcpJob) (id : Word) (s : State) : State :=
  match s.batches.find? (fun b => b.slot == j.slot && b.gen == j.gen && b.id == id) with
  | none => jobReply j 6 [] s
  | some b =>
    let s := { s with batches := s.batches.filter (fun d => d != b) }
    jobReply j 0 [] (ncpReply b.slot b.gen b.seq 0x14 10 b.tag [] s)

/-! Bulk transfers (R396). -/

/-- A BULK_READ starts. -/
def bulkStart (j : NcpJob) (plot first count : Nat) (s : State) : State :=
  let x := s.sessOf j.slot
  let p := plot % 256
  if ncpMtu s < 4200 then jobReply j 11 [] s
  else if 4 ≤ x.bulks.length then jobReply j 6 [] s
  else if !s.on (plB p) R.MDW_PLOT_W0_EN then jobReply j 8 [] s
  else if plotSize p s < first + count then jobReply j 5 [] s
  else if count == 0 then jobReply j 0 (beBytes 4 0) s
  else s.setSess j.slot { x with bulks := x.bulks ++ [⟨j.tag, p, first, count, 0, j.seq⟩] }

/-- A page leaves as BULK_DATA, and after the last one the BULK_READ is answered. The session's reads take turns; a page
whose channel is off wakes it and waits for it. -/
def bulkSend (k : Nat) (res : PageRes) (s : State) : State :=
  let x := s.sessOf k
  match x.bulks with
  | [] => s
  | b :: l =>
    if !(s.meOn && s.sessOpen k && x.waitq.isEmpty && canSend k s) then s
    else
      let mf := plotFrame b.plot b.page s
      if !s.domOn (72 + mf.1) then domAccess (72 + mf.1) s else
      let bits := match res with
        | .bits l => l.length + b2n (mcArmed mf.1 0 s)
        | .unc => 0
      let r := pageDeliver mf.1 mf.2 res s
      let s := r.1
      let body := beBytes 1 b.plot ++ [0, 0, 0] ++ beBytes 4 b.page ++ beBytes 1 r.2.1 ++
        beBytes 1 (if r.2.1 == 1 then bits else 0) ++ [0, 0] ++ r.2.2.drop 4096 ++ r.2.2.take 4096
      let s := s.setSess k { s.sessOf k with
        bulks := if b.left ≤ 1 then l else l ++ [{ b with page := b.page + 1, left := b.left - 1, done := b.done + 1 }] }
      let s := sessSend k ⟨ncpMsgBytes 0x22 0 b.tag body, some b.seq, 0⟩ s
      if b.left ≤ 1 then ncpReply k (s.sessOf k).gen b.seq 0x20 0 b.tag (beBytes 4 (b.done + 1)) s else s

/-- A BULK_WRITE. One whose channel is off wakes it and stays first in its session's queue. -/
def bulkWrite (j : NcpJob) (plot page span fill : Word) (data : List Byte) (res : PageRes) (s : State) : State :=
  let p := fget plot 7 0
  let q := page.toNat
  let ofs := fget span 31 16
  let len := fget span 15 0
  if ncpMtu s < 4200 then jobReply j 11 [] s
  else if len == 0 || decide (data.length < len) || decide (4096 < ofs + len) then jobReply j 5 [] s
  else if !hostWritable p s then jobReply j 8 [] s
  else if plotSize p s ≤ q then jobReply j 5 [] s
  else
    if !s.domOn (pageDom p q s) then domAccess (pageDom p q s) { s with ncpQ := j :: s.ncpQ }
    else if ofs == 0 && len == 4096 then jobReply j 0 [] (hostPage p q (fget fill 31 16) (fget fill 15 0) data s)
    else
      let r := rmwWrite p q ofs (data.take len) res s
      jobReply j (if r.2 then 0 else 9) [] r.1

/-! Execution (R393). -/

/-- The messages that an observe session may send (R391). -/
def observeMay (typ : Nat) : Bool := [0x01, 0x02, 0x03, 0x04, 0x10, 0x11, 0x20, 0x40].contains typ

/-- A message whose accesses are done has the rest of its effect, and is answered. -/
def jobEnd (j : NcpJob) (s : State) : State :=
  match j.req with
  | .read _ => jobReply j j.status (j.got.flatMap (fun w => beBytes 4 w.toNat)) s
  | .write _ _ => jobReply j j.status (writeBody j s) s.drawn
  | .commit w 0 => { s with ncpCommits := s.ncpCommits ++ [⟨j.slot, j.gen, j.tag, w, 0, s.now, none, s.commits.length, j.seq⟩] }
  | .commit w t =>
    let c : NcpCommit := ⟨j.slot, j.gen, j.tag, w, t, s.now, none, 0, j.seq⟩
    commitTry c { s with ncpCommits := s.ncpCommits ++ [c] }
  | .batch cont t id pairs =>
    if 16 ≤ s.batches.length || decide (8192 < s.batches.foldl (fun n b => n + b.pairs.length) pairs.length) then jobReply j 6 [] s
    else { s with batches := s.batches ++ [⟨j.slot, j.gen, j.tag, id, cont, t, pairs, j.seq⟩] }
  | .cancel id => batchCancel j id s
  | .bulkRead plot first count => bulkStart j plot first count s
  | .bulkWrite plot page span fill data res => bulkWrite j plot page span fill data res s
  | .digest => jobReply j 0 (digestBody j.slot s) s
  | .keepalive => jobReply j 0 [] s
  | .resync _ => s
  | .close _ => if jobLive j.slot j.gen s then sessClose j.slot 1 (jobReply j 0 [] s) else s
  | .run b x => batchEnd j b x s
  | .malformed => jobReply j 5 [] s

/-- A message makes its accesses one after the other, until one waits. -/
def jobLoop : Nat → NcpJob → State → State
  | 0, j, s => jobEnd j s
  | n + 1, j, s =>
    match jobAccess j with
    | none => jobEnd j s
    | some (w, a, d) =>
      let r := access .ncp w a d s
      if r.2.2 == .waiting then { r.1 with ncpJob := some j } else jobLoop n (jobTake j r.2.1 r.2.2) r.1

/-- A message starts to execute. -/
def jobStart (j : NcpJob) (s : State) : State :=
  let observe := jobLive j.slot j.gen s && !s.on (sessB j.slot) R.NCP_SESS_STAT_MODE
  match j.req with
  | .run b x =>
    jobLoop (jobSize j) { j with req := .run b (max x s.tlv.toNat) } (s.advance (x - s.tlv.toNat))
  | _ => if observe && !observeMay j.typ then jobReply j 1 [] s else jobLoop (jobSize j) j s

/-- A BULK_WRITE whose channel is being woken. -/
def bulkSleeps (j : NcpJob) (s : State) : Bool :=
  match j.req with
  | .bulkWrite p q _ _ _ _ => let d := pageDom p.toNat q.toNat s; (s.domOf d).byAccess && !s.domOn d
  | _ => false

/-- The first queued message that may execute: a session whose COMMIT waits for SQ.SEM[0], or whose BULK_WRITE waits for
its channel, stays behind it. -/
def jobNext (s : State) : Option NcpJob :=
  s.ncpQ.find? (fun j => !s.ncpCommits.any (fun c => semWaits c && c.slot == j.slot && c.gen == j.gen) &&
    !s.ncpQ.any (fun i => bulkSleeps i s && i.slot == j.slot && i.gen == j.gen))

/-- Queued messages execute as far as they can. -/
def ncpPumpN : Nat → State → State
  | 0, s => s
  | n + 1, s =>
    if s.ncpJob.isNone && s.partRuns && s.meOn then
      match jobNext s with
      | none => s
      | some j => ncpPumpN n (jobStart j { s with ncpQ := s.ncpQ.erase j })
    else s

def ncpPump (s : State) : State := ncpPumpN s.ncpQ.length s

/-- The access that the message in execution waits for. -/
def isJobAccess (a : Access) (s : State) : Bool :=
  match s.ncpJob with
  | none => false
  | some j => a.master == .ncp && jobAccess j == some (a.write, a.addr, if a.write then a.data else 0)

/-- The access of the message in execution ends. -/
def jobDeliver (v : Word) (st : AccSt) (s : State) : State :=
  match s.ncpJob with
  | none => s
  | some j => ncpPump (jobLoop (jobSize j) (jobTake j v st) { s with ncpJob := none })

/-! Datagrams of the host (R389, R390, R399, R400). -/

/-- The engine takes datagrams: the port is UP and boot is DONE. -/
def ncpReady (s : State) : Bool := s.portUp && s.bootState == 6

/-- A malformed datagram, or one of no open session. -/
def dgramBad (s : State) : State := (s.cnt ncpB R.NCP_CNT_DROP_BAD 1).raise 0x434

/-- RESYNC (R402). -/
def sessResync (k : Nat) (tag : Word) (seq : Nat) (s : State) : State :=
  let x := s.sessOf k
  let lost := x.store.foldl (fun n d => n + d.recs) (x.waitq.foldl (fun n m => n + m.recs) 0)
  let s := s.cnt (sessB k) R.NCP_SESS_CNT_EVT_LOST lost
  let s := s.setSess k { x with
    expect := seq % 2 ^ 32, seq := (x.seq + 1023) % 2 ^ 32, store := [], waitq := [], lostEv := x.lostEv + lost, lostAll := 0 }
  let s := sessSend k ⟨ncpMsgBytes 0xC0 0 0 (digestBody k s), none, 0⟩ s
  sessSend k ⟨ncpMsgBytes 0x83 0 tag [], none, 0⟩ s

/-- A message of session k joins the queue; RESYNC acts at once. -/
def msgTake (k seq typ : Nat) (tag : Word) (req : NcpReq) (s : State) : State :=
  if !s.sessOpen k then s
  else match req with
  | .resync n => sessResync k tag n s
  | _ => { s with ncpQ := s.ncpQ ++ [⟨k, (s.sessOf k).gen, tag, typ, seq, req, 0, [], 0, none, 0⟩] }

/-- A datagram of one message arrives in its turn on session k, with nothing new in ACK and CREDIT. -/
def hostMsg (k typ : Nat) (tag : Word) (req : NcpReq) (s : State) : State :=
  if !(ncpReady s && s.sessOpen k) then s
  else if s.injBad then dgramBad { s with injBad := false }
  else
    let x := s.sessOf k
    ncpPump (msgTake k x.expect typ tag req (s.setSess k { x with expect := (x.expect + 1) % 2 ^ 32, lastRx := s.now }))

/-- Big-endian numbers of a list. -/
def be32 (l : List Byte) (i : Nat) : Word := BitVec.ofNat 32 (fb16 l i * 65536 + fb16 l (i + 2))
def be64 (l : List Byte) (i : Nat) : Nat := (be32 l i).toNat * 2 ^ 32 + (be32 l (i + 4)).toNat

/-- Pairs of address and data. -/
def pairsOf (l : List Byte) : List WritePair :=
  (List.range (l.length / 8)).map (fun i => ⟨be32 l (8 * i), be32 l (8 * i + 4)⟩)

/-- The addresses of a READ_SEQ. -/
def seqAddrs (a : Word) (n : Nat) : List Word := (List.range n).map (fun i => a + BitVec.ofNat 32 (4 * i))

/-- A TYPE that the host may send. -/
def hostType (typ : Nat) : Bool :=
  [0x01, 0x02, 0x03, 0x04, 0x10, 0x11, 0x12, 0x13, 0x14, 0x15, 0x20, 0x21, 0x40].contains typ

/-- READ, READ_SEQ, WRITE and TIMED_BATCH within their counts. -/
def reqRead (as : List Word) : NcpReq := if 1 ≤ as.length ∧ as.length ≤ 256 then .read as else .malformed
def reqSeq (a n : Word) : NcpReq := if 1 ≤ n.toNat ∧ n.toNat ≤ 1024 then .read (seqAddrs a n.toNat) else .malformed
def reqWrite (cont : Bool) (ps : List WritePair) : NcpReq :=
  if 1 ≤ ps.length ∧ ps.length ≤ 1024 then .write cont ps else .malformed
def reqBatch (cont : Bool) (t : Nat) (id : Word) (ps : List WritePair) : NcpReq :=
  if 1 ≤ ps.length ∧ ps.length ≤ 1024 then .batch cont t id ps else .malformed

/-- The request of a message body (R391). -/
def reqOf (typ opt : Nat) (b : List Byte) : NcpReq :=
  let w (i : Nat) : Word := be32 b i
  let cont := opt % 2 == 1
  let n := b.length
  if n % 4 ≠ 0 then .malformed
  else match typ with
  | 0x02 => if n = 4 then .close (w 0).toNat else .malformed
  | 0x03 => if n = 4 then .resync (w 0).toNat else .malformed
  | 0x04 => if n = 0 then .keepalive else .malformed
  | 0x10 => reqRead ((List.range (n / 4)).map (fun i => w (4 * i)))
  | 0x11 => if n = 8 then reqSeq (w 0) (w 4) else .malformed
  | 0x12 => if n % 8 = 0 then reqWrite cont (pairsOf b) else .malformed
  | 0x13 => if n = 12 then .commit (w 0) (be64 b 4) else .malformed
  | 0x14 => if n % 8 = 4 ∧ 12 ≤ n then reqBatch cont (be64 b 0) (w 8) (pairsOf (b.drop 12)) else .malformed
  | 0x15 => if n = 4 then .cancel (w 0) else .malformed
  | 0x20 => if n = 12 then .bulkRead (w 0).toNat (w 4).toNat (w 8).toNat else .malformed
  | 0x21 => if 16 ≤ n ∧ n = 16 + (fget (w 8) 15 0 + 3) / 4 * 4 then .bulkWrite (w 0) (w 4) (w 8) (w 12) (b.drop 16) (.bits [])
    else .malformed
  | 0x40 => if n = 0 then .digest else .malformed
  | _ => .malformed

/-- The messages of a datagram: type, OPT, tag and body; none where one overruns it or has an unknown TYPE. -/
def parseMsgs : Nat → List Byte → Option (List (Nat × Nat × Word × List Byte))
  | 0, l => if l.isEmpty then some [] else none
  | n + 1, l =>
    if l.isEmpty then some []
    else
      let len := fb16 l 2
      if l.length < 8 + len || !hostType (fb l 0) then none
      else (parseMsgs n (l.drop (8 + len))).map (fun r => (fb l 0, fb l 1, be32 l 4, (l.drop 8).take len) :: r)

/-- Every message of a datagram of session k joins the queue. -/
def msgsTake (k seq : Nat) (ms : List (Nat × Nat × Word × List Byte)) (s : State) : State :=
  ms.foldl (fun s m => msgTake k seq m.1 m.2.2.1 (reqOf m.1 m.2.1 m.2.2.2) s) s

/-- The slot that an OPEN took. -/
def openedSlot (old new : State) : Option Nat :=
  (List.range 4).find? (fun k => new.sessOpen k && (new.sessOf k).gen != (old.sessOf k).gen)

/-- A datagram of session k by its SEQ (R400). -/
def dgramSeq (k seq : Nat) (ms : List (Nat × Nat × Word × List Byte)) (s : State) : State :=
  let x := s.sessOf k
  if ms.any (fun m => m.1 == 0x03) then msgsTake k seq ms s
  else if seq == x.expect then msgsTake k seq ms (s.setSess k { x with expect := (x.expect + 1) % 2 ^ 32 })
  else if !seqLe x.expect seq then
    let s := s.cnt ncpB R.NCP_CNT_SEQ_DUPLICATE 1
    if x.store.any (fun d => d.answers == some seq) then dgramResend k (fun d => d.answers == some seq) s else ackOnly k false s
  else if !seqLe seq (x.expect + 255) then s.cnt ncpB R.NCP_CNT_DROP_BAD 1
  else sendNak k (s.cnt ncpB R.NCP_CNT_SEQ_OUT_OF_ORDER 1)

/-- A well-formed datagram of session `ses`. -/
def dgramSession (peer : NcpPeer) (b : List Byte) (ms : List (Nat × Nat × Word × List Byte)) (s : State) : State :=
  let ses := fb16 b 4
  let k := ses % 4
  let flags := fb b 3
  if !(s.sessOpen k && s.rd (sessB k) R.NCP_SESS_STAT_SESSION == ses) then
    strayAnswer ses (ncpMsgBytes 0x02 0 0 (beBytes 4 7)) (dgramBad s)
  else if !((s.sessOf k).ip == peer.ip && s.rd (sessB k) R.NCP_SESS_PEER_PORT == peer.port.toNat) then
    s.cnt ncpB R.NCP_CNT_DROP_BAD 1
  else
    let s := takeAck k (be32 b 12).toNat (be32 b 16).toNat (s.setSess k { s.sessOf k with lastRx := s.now })
    let s := if flags / 4 % 2 == 1 then takeNak k s else s
    if flags % 2 == 1 || !s.sessOpen k then s else dgramSeq k (be32 b 8).toNat ms s

/-- A UDP datagram arrives on port 47710. -/
def dgramReceive (peer : NcpPeer) (b : List Byte) (s : State) : State :=
  if !ncpReady s then s
  else if s.injBad then dgramBad { s with injBad := false }
  else if b.length < 20 || fb16 b 0 != 0x4E50 || fb b 2 != 1 || fb16 b 6 + 20 != b.length then dgramBad s
  else match parseMsgs b.length (b.drop 20) with
  | none => dgramBad s
  | some [] => dgramSession peer b [] s
  | some (m :: ms) =>
    if m.1 == 0x01 then
      if m.2.2.2.length == 12 then
        let t := sessStart peer m.2.2.1 (be32 m.2.2.2 0) (be32 m.2.2.2 4) (be32 m.2.2.2 8) s
        match openedSlot s t with
        | some k => ncpPump (msgsTake k (be32 m.2.2.2 4).toNat ms t)
        | none => t
      else strayAnswer 0 (ncpMsgBytes 0x81 5 m.2.2.1 []) s
    else ncpPump (dgramSession peer b (m :: ms) s)

/-- OPEN as a datagram of its own. -/
def hostOpen (peer : NcpPeer) (tag flags seq credit : Word) (s : State) : State :=
  if !ncpReady s then s
  else if s.injBad then dgramBad { s with injBad := false }
  else sessStart peer tag flags seq credit s

/-! Dispatch of batches (R395). -/

/-- The undispatched batch with the earliest TIME, the oldest among equals. -/
def batchNext (s : State) : Option Batch :=
  s.batches.foldl (fun o b => match o with
    | none => some b
    | some c => if b.time < c.time then some b else o) none

/-- The next batch is dispatched once TLV ≥ TIME − 256,000 ticks. -/
def batchDispatch (s : State) : State :=
  match (if s.counting && s.partRuns && s.meOn then batchNext s else none) with
  | none => s
  | some b =>
    let s := s.advance (b.time - 256000 - s.tlv.toNat)
    let d := s.tlv.toNat
    let x := if s.injBatch then max b.time d + 16384 else max b.time (d + 16384)
    let s := { s with injBatch := false, batches := s.batches.filter (fun c => c != b) }
    let j : NcpJob := ⟨b.slot, b.gen, b.tag, 0x14, b.seq, .run b x, 0, [], 0, none, 0⟩
    ncpPump { s with ncpQ := j :: s.ncpQ }

end Sys2Proof.Machine
end

