-- ==== Sys2Proof/Machine/Settle.lean ====
section
/-! DEFINITION. What follows a command before the next one: due frames that cannot be sent are skipped (R267), the reactions
of the events raised (R495), cores that leave IDLE or step, the accesses whose domain is ready (R37, R455, R456), and the answers of the NCP engine. -/

namespace Sys2Proof.Machine

/-! Reactions (R495 to R498). -/

/-- A raise of class FATAL (R497): bias outputs clear, and every domain and BB are switched off with retention. -/
def fatalEnter (s : State) : State :=
  if s.fatal then s
  else
    let s := restOrder.foldl (fun s d => domToOff d s) s
    biasAll { s with fatal := true, chipRstAt := none, waiting := [], ncpJob := none, ncpQ := [], coreSteps := [],
                     pwr := { s.pwr with first := [] } }

/-- The reactions of a raise. It reaches subscribed sessions (R397) and the triggers of KIND 1 (R314) too. -/
def react (r : Raise) (s : State) : State :=
  let s := fireSrc 1 r.id 0x7FF r.tlv.toNat r.tq r.seq (ncpEvents r s)
  if s.fatal then s
  else if r.cls == 3 then fatalEnter s
  else
    let s := if r.nmt then nmtPush r.id r.cls r.recIdx s else s
    if r.chipRst then chipResetIn (usT 2) 3 s
    else if r.blockRst then blockReset r.id s
    else s

/-- Raises in ascending event ID (R498); those of one ID keep their order. -/
def raiseInsert (r : Raise) : List Raise → List Raise
  | [] => [r]
  | x :: l => if r.id < x.id then r :: x :: l else x :: raiseInsert r l

/-- Every raise that waits has its reactions. -/
def reactAll (s : State) : State :=
  (s.raised.foldl (fun l r => raiseInsert r l) []).foldl (fun s r => react r s) { s with raised := [] }

/-! Accesses that wait (R36, R37, R455, R456). -/

/-- The order in which the fabric takes accesses that reach a block in one PCLK cycle (R36). -/
def masterRank (m : Master) : Nat :=
  match m with
  | .pair => 0
  | .ncp => 1
  | .mi2c => 2
  | .jtag => 3
  | .boot => 4
  | .inject => 5
  | .core k => 6 + k.val

/-- One access comes before another: by its PCLK cycle of arrival, and by its master within one (R36). -/
def accessBefore (a b : Access) : Bool :=
  decide (a.enter < b.enter) || (a.enter == b.enter && decide (masterRank a.master < masterRank b.master))

/-- The access whose target is awake that the fabric takes next (R36). -/
def readyAccess (s : State) : Option Access :=
  if s.pclkStopped || s.inReset then none
  else (s.waiting.filter (fun a => (accessDom a.addr s).isNone)).foldl (fun r a => match r with
    | none => some a
    | some b => if accessBefore a b then some a else some b) none

/-- An access that waited for the part and now waits for a domain. -/
def newWait (s : State) : Option (Access × Nat) :=
  s.waiting.findSome? (fun a =>
    match accessDom a.addr s with
    | some d => if a.dom == 84 && decide (d < 84) then some (a, d) else none
    | none => none)

/-- That access wakes its domain. -/
def waitFor (s : State) : State :=
  match newWait s with
  | none => s
  | some (a, d) =>
    let s := domAccess d (s.setDom d { s.domOf d with master := Master.id a.master })
    { s with waiting := s.waiting.map (fun b => if b == a then { a with dom := d } else b) }

/-- The status byte of an MI2C access (R419): a STATUS transaction reads that of the last WRITE. -/
def mi2cDone (write : Bool) (st : AccSt) (s : State) : State :=
  let v := if st == .blocked then 6 else accStatus st
  { s with mi2cByte := some v, mi2cLast := if write then v else s.mi2cLast }

/-- An access that has waited ends: the message, the core or the master that made it is told. -/
def deliver (a : Access) (v : Word) (st : AccSt) (s : State) : State :=
  if isJobAccess a s then jobDeliver v st s
  else
    let isCore (k : Nat) : Bool := coreMaster k == a.master && (a.write || decide (0x100 ≤ a.data.toNat))
    match (List.range 17).find? isCore with
    | some k => coreDeliver k a v st s
    | none =>
      let s := if a.master == .mi2c then mi2cDone a.write st s else s
      { s with resp := some ⟨a.master, a.addr, a.write, if a.write then 0 else v, st⟩ }

/-- The first access that can be is performed. -/
def serveOne (s : State) : State :=
  match readyAccess s with
  | none => s
  | some a =>
    let r := perform a.master a.write a.addr a.data { s with waiting := s.waiting.erase a }
    deliver a r.2.1 r.2.2 r.1

/-- The oldest access that waits is ended by the fabric once 65,536 PCLK cycles have passed since it entered (R38). -/
def accessTimeout (s : State) : State :=
  match s.waiting.head? with
  | none => s
  | some a =>
    if s.pclkStopped || s.inReset then s
    else
      let s := s.advance (s.pclkT (a.enter + 65536 - s.pclk))
      let s := { s with waiting := s.waiting.erase a }.raiseA 0x429 ⟨Master.id a.master, if a.write then 2 else 1, a.addr⟩
      deliver a 0 .timeout s

/-- Domains that an access or action woke return to OFF once nothing more needs them (R455). -/
def domsReturn (s : State) : State :=
  ((s.doms.filter (fun x => x.2.byAccess)).map (fun x => x.1)).foldl (fun s d => domReturn d s) s

/-! Cores. -/

/-- Cores leave IDLE where they may. -/
def coresWake (s : State) : State := (List.range 17).foldl (fun s k => coreWakeIdle k s) s

/-- The instructions that STEP asked for are executed. -/
def coresStep (s : State) : State := s.coreSteps.foldl (fun s k => coreStep k s) { s with coreSteps := [] }

/-! The whole. -/

/-- Something is left to do before the next command. -/
def unsettled (s : State) : Bool :=
  !s.raised.isEmpty || !s.coreSteps.isEmpty || anyBlocked s || (s.alive && !aliveOn s) || (s.on hkB R.HK_STATUS_RUNNING && (!s.hkUp || !s.hkRun)) ||
    (!s.nmtQ.isEmpty && (s.coreOf 16).csrF csrSTATUS 7 7 == 1 && (s.coreOf 16).nmtHeld.isNone) ||
    s.cores.any (fun x => idleEnds x.1 s) ||
    (readyAccess s).isSome || (newWait s).isSome ||
    s.ncpCommits.any (fun c => c.entry.any (fun i => actState i s == 4)) ||
    (s.ncpJob.isNone && s.partRuns && s.meOn && (jobNext s).isSome) ||
    s.doms.any (fun x => domIdle x.1 s)

/-- One round of what is left. -/
def settleRound (s : State) : State :=
  domsReturn (ncpPump (commitsDone (serveOne (waitFor (coresStep (coresWake (nmtHold (aliveSync (hkSync (reactAll
    (blockAll s)))))))))))

/-- Rounds until nothing is left, at most so many. -/
def settleN : Nat → State → State
  | 0, s => s
  | n + 1, s => if unsettled s then settleN n (settleRound s) else s

/-- What follows a command. -/
def settle (s : State) : State := settleN (64 + s.waiting.length + s.raised.length) s

/-! The bytes of the sequencer memories in their one canonical form: addresses strictly rising, and no byte 0 listed, which
is what an unlisted address reads as. -/

/-- The form, for addresses from `lo` on. -/
def Memory.wfFrom (lo : Nat) : List Host.Cell → Bool
  | [] => true
  | (a, v) :: m => decide (lo ≤ a) && v != 0 && Memory.wfFrom (a + 1) m

/-- A list of bytes is in canonical form. -/
def Memory.wf (m : List Host.Cell) : Bool := Memory.wfFrom 0 m

/-- The canonical form of a list of bytes: itself, where it has the form. -/
def Memory.canon (m : List Host.Cell) : List Host.Cell :=
  if Memory.wf m then m else m.foldl (fun t x => put 0 t x.1 x.2) []

/-- The keys of a sparse map rise strictly from `lo` on. -/
def risesFrom {α : Type} (lo : Nat) : List (Nat × α) → Bool
  | [] => true
  | (k, _) :: m => decide (lo ≤ k) && risesFrom (k + 1) m

/-- The canonical form of a map of register words: itself, where it has the form. -/
def Regs.canon (m : List (Nat × Word)) : List (Nat × Word) :=
  if risesFrom 0 m then m else m.foldl (fun t x => put (resetWord x.1) t x.1 x.2) []

/-- The cores, and the general and control registers of each, are listed by rising numbers. -/
def Cores.formed (m : List (Nat × CoreSt)) : Bool :=
  risesFrom 0 m && m.all (fun x => risesFrom 0 x.2.g && risesFrom 0 x.2.csr)

/-- The canonical form of the cores: themselves, where they have the form. -/
def Cores.canon (m : List (Nat × CoreSt)) : List (Nat × CoreSt) :=
  let words (l : List (Nat × Word)) : List (Nat × Word) := l.foldl (fun t x => put 0 t x.1 x.2) []
  if Cores.formed m then m
  else m.foldl (fun t x => put CoreSt.reset t x.1 { x.2 with g := words x.2.g, csr := words x.2.csr }) []

/-- The flash devices' bytes, listed by rising addresses (R405). -/
def Flash.canon (m : List (Nat × Byte)) : List (Nat × Byte) :=
  if risesFrom 0 m then m else m.foldl (fun t x => put 0xFF t x.1 x.2) []

/-- Enter a key that a map does not list yet. -/
def enter {α : Type} : List (Nat × α) → Nat → α → List (Nat × α)
  | [], i, v => [(i, v)]
  | (k, x) :: m, i, v =>
    if i < k then (i, v) :: (k, x) :: m else if i = k then (k, x) :: m else (k, x) :: enter m i v

/-- A sparse map with rising keys: itself, where they rise; a key reads as its first entry says. -/
def keyed {α : Type} (m : List (Nat × α)) : List (Nat × α) :=
  if risesFrom 0 m then m else m.foldl (fun t x => enter t x.1 x.2) []

/-- The maps of the clock block with rising keys. -/
def ClkSt.tidy (c : ClkSt) : ClkSt :=
  { c with good := keyed c.good, bad := keyed c.bad, decl := keyed c.decl, inj := keyed c.inj, gates := keyed c.gates,
           ckLow := keyed c.ckLow, ckMod := keyed c.ckMod }

/-- Every sparse map of the state beside registers, cores and flash, with rising keys. -/
def State.tidy (s : State) : State :=
  { s with acts := keyed s.acts, legacy := keyed s.legacy, rx := keyed s.rx, eq := keyed s.eq, tx := keyed s.tx,
           famWas := keyed s.famWas, sscStart := keyed s.sscStart, synLock := keyed s.synLock, bias := keyed s.bias,
           otp := keyed s.otp, acq := keyed s.acq, am := keyed s.am, injSkew := keyed s.injSkew, fec := keyed s.fec,
           injForDrop := keyed s.injForDrop, txCw := keyed s.txCw, txPair := keyed s.txPair, pcs := keyed s.pcs,
           flows := keyed s.flows, flowSnap := keyed s.flowSnap, strms := keyed s.strms, strmSnap := keyed s.strmSnap,
           snapped := keyed s.snapped, feInj := keyed s.feInj, txFrame := keyed s.txFrame, feFree := keyed s.feFree,
           watch := keyed s.watch, pages := keyed s.pages, uncPend := keyed s.uncPend, remap := keyed s.remap,
           spares := keyed s.spares, repairTmp := keyed s.repairTmp, mcInj := keyed s.mcInj, plots := keyed s.plots,
           trigPost := keyed s.trigPost, rps := keyed s.rps, rpSym := keyed s.rpSym, streams := keyed s.streams,
           scrubAt := keyed s.scrubAt, haze := keyed s.haze, hzCnt := keyed s.hzCnt, hzInj := keyed s.hzInj,
           semSince := keyed s.semSince, sess := keyed s.sess, doms := keyed s.doms, calSets := keyed s.calSets,
           rot := keyed s.rot,
           clk := s.clk.tidy,
           hk := { s.hk with ts := keyed s.hk.ts, biasCal := keyed s.hk.biasCal } }

/-- Those maps have rising keys. -/
def State.tidied (s : State) : Bool :=
  risesFrom 0 s.acts && risesFrom 0 s.legacy && risesFrom 0 s.rx && risesFrom 0 s.eq && risesFrom 0 s.tx &&
    risesFrom 0 s.famWas && risesFrom 0 s.sscStart && risesFrom 0 s.synLock && risesFrom 0 s.bias &&
    risesFrom 0 s.otp && risesFrom 0 s.acq && risesFrom 0 s.am && risesFrom 0 s.injSkew && risesFrom 0 s.fec &&
    risesFrom 0 s.injForDrop && risesFrom 0 s.txCw && risesFrom 0 s.txPair && risesFrom 0 s.pcs &&
    risesFrom 0 s.flows && risesFrom 0 s.flowSnap && risesFrom 0 s.strms && risesFrom 0 s.strmSnap &&
    risesFrom 0 s.snapped && risesFrom 0 s.feInj && risesFrom 0 s.txFrame && risesFrom 0 s.feFree &&
    risesFrom 0 s.watch && risesFrom 0 s.pages && risesFrom 0 s.uncPend && risesFrom 0 s.remap &&
    risesFrom 0 s.spares && risesFrom 0 s.repairTmp && risesFrom 0 s.mcInj && risesFrom 0 s.plots &&
    risesFrom 0 s.trigPost && risesFrom 0 s.rps && risesFrom 0 s.rpSym && risesFrom 0 s.streams &&
    risesFrom 0 s.scrubAt && risesFrom 0 s.haze && risesFrom 0 s.hzCnt && risesFrom 0 s.hzInj &&
    risesFrom 0 s.semSince && risesFrom 0 s.sess && risesFrom 0 s.doms && risesFrom 0 s.calSets && risesFrom 0 s.rot &&
    risesFrom 0 s.clk.good && risesFrom 0 s.clk.bad && risesFrom 0 s.clk.decl && risesFrom 0 s.clk.inj &&
    risesFrom 0 s.clk.gates && risesFrom 0 s.clk.ckLow && risesFrom 0 s.clk.ckMod && risesFrom 0 s.hk.ts &&
    risesFrom 0 s.hk.biasCal

/-- A command's effect has ended: what follows it happens, the queue of commands is as it was, and memory, registers, cores,
flash and the other maps have their canonical form. -/
def closed (pending : List Instr) (s : State) : State :=
  let t := (settle s).noteTags.tidy
  { t with pending := pending, mem := Memory.canon t.mem, regs := Regs.canon t.regs, shadow := Regs.canon t.shadow,
           cores := Cores.canon t.cores, flash := Flash.canon t.flash }

/-- A command runs: the port has sent nothing yet; then its effect, and what follows it. -/
def run (f : State → State) (s : State) : Host.Outcome State Fault Refusal := .next (closed s.pending (f { s with portTx := [] }))

end Sys2Proof.Machine
end

