-- ==== Sys2Proof/Machine/BootOps.lean ====
section
/-! DEFINITION. The boot sequence (R405 to R418): the image, its checks and its application, self-test at boot, and the
entry to DONE or FAIL. -/

namespace Sys2Proof.Machine

/-! Time: units of 10 ns since the release of reset (R413). -/

/-- Time passes until u units after the release. -/
def bootAt (u : Nat) (s : State) : State := s.advanceNow (s.bootFrom + (u * 3125 + 7) / 8)

/-- BOOT.STEP_T[i]. -/
def stepT (i u : Nat) (s : State) : State := s.wr (bootB + 4 * i) R.BOOT_STEP_T_US (u / 100)

/-- BOOT.STATUS.STATE. -/
def bootGo (st : Nat) (s : State) : State := s.wr bootB R.BOOT_STATUS_STATE st

/-! The image (R407 to R410). -/

/-- A section (R408). -/
structure Sect where
  kind : Nat
  target : Nat
  offset : Nat
  body : List Byte
  deriving DecidableEq, Repr

/-- Little-endian words of a body. -/
def wordsOf : List Byte → List Word
  | a :: b :: c :: d :: l => (d ++ c ++ b ++ a) :: wordsOf l
  | _ => []

/-- A little-endian number in an image. -/
def leAt (bs : List Byte) (i n : Nat) : Nat := leNat ((bs.drop i).take n)

/-- The code for which a header fails, 0 where it passes (R407, R416); a QSPI_MODE above 2 counts with FORMAT. -/
def headerCode (h : List Byte) (s : State) : Nat :=
  let len := leAt h 8 4
  let hash := match s.keyOtp with
    | some ws => ws.foldr (fun w n => leBytes 4 w.toNat ++ n) []
    | none => []
  if h.take 4 != [0x45, 0x5A, 0x4C, 0x49] then 1
  else if leAt h 4 2 != 1 || leAt h 6 2 != 0x6425 || len % 4 != 0 || len < 512 || decide (8388608 < len) ||
      decide (2 < leAt h 20 1) then 2
  else if s.rd glbB R.GLB_CONFIG_MEM_SIZE < leAt h 21 1 then 3
  else if !s.keySet || hash != shaBytes 48 (sha384 ((h.drop 32).take 96)) then 4
  else 0

/-- The entries of a script: OP, A and the words after (R410). -/
def scriptEntries : Nat → List Word → Option (List (Nat × Nat × List Word))
  | 0, l => if l.isEmpty then some [] else none
  | _ + 1, [] => some []
  | n + 1, w :: l =>
    let op := fget w 31 28
    if op < 1 ∨ 4 < op then none
    else
      let k := match op with
        | 1 => 1
        | 2 => 2
        | 3 => 3
        | _ => 0
      if l.length < k then none
      else if op == 4 && decide (100000 < fget w 25 0) then none
      else (scriptEntries n (l.drop k)).map (fun r => (op, fget w 25 0, l.take k) :: r)

/-- Pairs of words. -/
def wordPairs : List Word → List (Word × Word)
  | a :: b :: l => (a, b) :: wordPairs l
  | _ => []

/-- A REPAIR entry is well formed (R491). -/
def repairOk (e : Word × Word) : Bool :=
  match fget e.1 31 28 with
  | 1 => decide (fget e.1 8 0 ≤ 0x87)
  | 3 => decide (fget e.1 2 0 < 6)
  | 4 => decide (fget e.1 2 0 < 6)
  | _ => false

/-- A core mask with both supervisors or neither (R379). -/
def maskOk (t : Nat) : Bool := decide (t < 2 ^ 18) && t.testBit 16 == t.testBit 17

/-- A section is well formed (R379, R409, R410, R490, R491). -/
def sectOk (x : Sect) : Bool :=
  let n := x.body.length
  match x.kind with
  | 0x01 => (scriptEntries n (wordsOf x.body)).isSome
  | 0x02 => true
  | 0x03 => n % 8 == 0 && (wordPairs (wordsOf x.body)).all (fun e => decide (e.1.toNat ≤ 0xA8))
  | 0x04 => n == 256
  | 0x05 => n % 8 == 0 && (wordPairs (wordsOf x.body)).all repairOk
  | 0x10 => maskOk x.target && decide (n ≤ 0x10000)
  | 0x11 => maskOk x.target && decide (x.offset + n ≤ 0x10000)
  | 0x12 => decide (x.offset + n ≤ 0x400000)
  | 0x13 => maskOk x.target && decide (x.offset + n ≤ 0x400)
  | 0x14 => maskOk x.target
  | _ => false

/-- The sections of a list, of which `n` are to come: those that are well formed, and the number of the first that is
not. -/
def sectsOf : Nat → Nat → List Byte → List Sect × Option Nat
  | 0, i, l => ([], if l.isEmpty then none else some i)
  | n + 1, i, l =>
    let len := leAt l 4 4
    if l.length < 16 || len % 4 != 0 || decide (l.length < 16 + len) then ([], some i)
    else
      let x : Sect := ⟨leAt l 0 1, leAt l 8 4, leAt l 12 4, (l.drop 16).take len⟩
      if sectOk x then let r := sectsOf n (i + 1) (l.drop (16 + len)); (x :: r.1, r.2) else ([], some i)

/-- A staged section (R408). -/
def Sect.staged (x : Sect) : Bool := decide (x.kind < 0x10)

/-- The section at which the staging buffer of 1 MiB overflows, or a second CLEAR_CODES comes (R409). -/
def stagedBad : Nat → Nat → Bool → List Sect → Option Nat
  | _, _, _, [] => none
  | i, n, clr, x :: l =>
    let n := if x.staged then n + 16 + x.body.length else n
    if 1048576 < n ∨ (clr ∧ x.kind = 4) then some i else stagedBad (i + 1) n (clr || x.kind == 4) l

/-! Loaded sections (R379). -/

/-- Store bytes in a sequencer memory. -/
def storeBytes (a : Nat) (bs : List Byte) (s : State) : State :=
  (bs.foldl (fun (x : Nat × State) b => (x.1 + 1, x.2.setByte x.1 b)) (a, s)).2

/-- Where a loaded section goes, as host addresses. -/
def sectPlaces (x : Sect) : List Nat :=
  let cores := (List.range 18).filter (fun k => x.target.testBit k)
  match x.kind with
  | 0x10 => cores.map imemB
  | 0x11 => cores.map (fun k => dmemB k + x.offset)
  | 0x12 => [sharedB + x.offset]
  | 0x13 => cores.map (fun k => dmemB k + 0xFC00 + x.offset)
  | _ => []

/-- Loaded sections are written, or what they wrote is cleared. -/
def sectsLoad (clear : Bool) (xs : List Sect) (s : State) : State :=
  xs.foldl (fun s x => (sectPlaces x).foldl (fun s a => storeBytes a (if clear then List.replicate x.body.length 0 else x.body) s) s) s

/-! Staged sections (R415). -/

/-- An address lies in the window of a die or stack that R414 refuses. -/
def refusedWindow (a : Nat) (s : State) : Bool :=
  match place a with
  | .reg (.lane n) _ => s.dieBad.testBit (n / 16)
  | .reg (.oct o) _ => s.dieBad.testBit (o / 2)
  | .reg (.mc m) _ => s.stackBad.testBit m
  | _ => false

/-- A switched domain comes up. -/
def domBoot (d : Nat) (s : State) : State :=
  if s.domOn d then s else domAna d (domDig d (domGo d 2 (s.setDom d DomSt.idle)))

/-- Every domain that is queued or in RAMP comes up (R456). -/
def domsBoot (s : State) : State :=
  let s := { s with pwr := { s.pwr with first := [] } }
  ((queueOrder.take 84).filter (fun d => s.domState d == 1 || s.domState d == 2)).foldl (fun s d => domBoot d s) s

/-- The boot engine's access: a domain that sleeps comes up for it. -/
def bootAccess (write : Bool) (a : Nat) (w : Word) (s : State) : State × Word × AccSt :=
  let s := match accessDom a s with
    | some d => if d < 84 then domBoot d s else s
    | none => s
  perform .boot write a w s

/-- REPAIR entries take effect (R491, R492): those that fuses hold too are applied once. -/
def repairApply (e : Word × Word) (s : State) : State :=
  let m := fget e.1 2 0
  match fget e.1 31 28 with
  | 1 => elemFailBoot (fget e.1 8 0) s
  | 4 => if s.stackBad.testBit m then s else frameRetire m (fget e.2 23 0) s
  | _ => s

/-- Immediate commits that a script has requested execute as their instants come. -/
def bootCommits (s : State) : State := s.commits.foldl (fun s _ => commitRun s) s

/-- An access of a script fails (R410). -/
def scriptFails (st : AccSt) : Bool := st == .decodeErr || st == .timeout || st == .locked

/-- A POLL: the register is read now, and at the end of its time. -/
def scriptPoll (a : Nat) (mask want : Word) (us : Nat) (s : State) : State × Bool :=
  let r := bootAccess false a 0 s
  if scriptFails r.2.2 then (r.1, false)
  else if r.2.1 &&& mask == want then (r.1, true)
  else
    let s := bootCommits r.1
    let r := bootAccess false a 0 s
    if !scriptFails r.2.2 && r.2.1 &&& mask == want then (r.1, true)
    else
      let r := bootAccess false a 0 (r.1.advance (usT us))
      (r.1, !scriptFails r.2.2 && r.2.1 &&& mask == want)

/-- A script entry (R410): false where it fails. -/
def scriptStep (e : Nat × Nat × List Word) (s : State) : State × Bool :=
  let a := e.2.1
  let w (i : Nat) : Word := e.2.2.getD i 0
  if e.1 == 4 then ((bootCommits s).advance (usT a), true)
  else if refusedWindow a s then (s.cnt bootB R.BOOT_SKIPPED_COUNT 1, true)
  else match e.1 with
  | 1 => let r := bootAccess true a (w 0) s; (r.1, !scriptFails r.2.2)
  | 2 =>
    let r := bootAccess false a 0 s
    if scriptFails r.2.2 then (r.1, false)
    else
      let q := bootAccess true a ((r.2.1 &&& ~~~ w 0) ||| (w 1 &&& w 0)) r.1
      (q.1, !scriptFails q.2.2)
  | _ => scriptPoll a (w 0) (w 1) (w 2).toNat s

/-- Entries in order; the number of the one that fails. -/
def scriptRun : Nat → List (Nat × Nat × List Word) → State → State × Option Nat
  | _, [], s => (s, none)
  | i, e :: l, s =>
    let r := scriptStep e s
    if r.2 then scriptRun (i + 1) l r.1 else (r.1, some i)

/-- CLEAR_CODES: word n to LANE[n].BIAS.CLEAR (R175). -/
def clearCodes (ws : List Word) (s : State) : State :=
  lanes.foldl (fun s n => let a := laneB n + R.BIAS_CLEAR_IB_CLR.off
    if refusedWindow a s then s else (bootAccess true a (ws.getD n 0) s).1) s

/-- The bodies of a kind, in image order. -/
def bodies (kind : Nat) (xs : List Sect) : List (List Word) := (xs.filter (fun x => x.kind == kind)).map (fun x => wordsOf x.body)

/-- The staged sections are applied; the number of the script entry that fails. -/
def stagedApply (xs : List Sect) (s : State) : State × Option Nat :=
  let s := ((bodies 5 xs).flatMap wordPairs).foldl (fun s e => if s.fuses.contains e then s else repairApply e s) s
  let s := (xs.filter (fun x => x.kind == 2)).foldl (fun s x => calLoad x.target (wordsOf x.body) s) s
  let s := selfcalStart s
  let s := (bodies 4 xs).foldl (fun s ws => clearCodes ws s) s
  let r := scriptRun 0 ((bodies 1 xs).flatMap (fun ws => (scriptEntries ws.length ws).getD [])) s
  let s := bootCommits r.1
  ({ s with sigs := ((bodies 3 xs).flatMap wordPairs).map (fun e => (e.1.toNat, e.2)) }, r.2)

/-! One image (R406, R411, R413, R416). -/

/-- How an image ends: passed with its sections, or failed with a code and an index; the time at its end. -/
structure BootTry where
  u : Nat
  code : Nat
  index : Nat
  sects : List Sect
  deriving DecidableEq, Repr

/-- Units that a byte takes to read at a QSPI_MODE. -/
def readUnits (mode : Nat) : Nat :=
  match mode with
  | 0 => 32
  | 1 => 4
  | _ => 2

/-- The signature of an image verifies (R411). -/
def sigOk (h all : List Byte) : Bool :=
  let n := all.length - 96
  let be (i k : Nat) (l : List Byte) : Nat := ((l.drop i).take k).foldl (fun n b => n * 256 + b.toNat) 0
  ecVerify (be 32 48 h) (be 80 48 h) (be n 48 all) (be (n + 48) 48 all) (sha384 (all.take n))

/-- Steps 3 to 6 of an image on device `dev`, from time u. -/
def imageTry (x : BootIn) (dev u : Nat) (s : State) : State × BootTry :=
  let s := bootGo 1 (s.wr bootB R.BOOT_STATUS_IMAGE dev)
  let busy := if dev == 0 then x.busyA else x.busyB
  let h := s.flashRead dev 0 256
  let inj := dev == 0 && s.bootInj.testBit 0
  let u := if busy then u + 200000000 else u + 8400
  let c := if busy then 1 else if inj then 8 else headerCode h s
  let s := if inj then { s with bootInj := s.bootInj &&& 14 } else s
  if c != 0 then (s, ⟨u, c, 0, []⟩)
  else
    let len := leAt h 8 4
    let s := bootGo 2 (stepT 2 u (s.wr bootB R.BOOT_IMAGE_BUILD_ID (leAt h 16 4)))
    let all := s.flashRead dev 0 (len + 96)
    let n := leAt h 12 4
    let r := if n < 1 ∨ 1024 < n then ([], some 0) else sectsOf n 0 ((all.take len).drop 256)
    let bad := match r.2 with
      | some i => some i
      | none => stagedBad 0 0 false r.1
    let u := u + (len + 96 - 256) * readUnits (leAt h 20 1)
    let s := stepT 3 u (sectsLoad false r.1 s)
    match bad with
    | some i => (s, ⟨u, 6, i, r.1⟩)
    | none =>
      let u := u + 400000
      let s := stepT 4 u (bootGo 3 s)
      if !sigOk h all then (s, ⟨u, 5, 0, r.1⟩)
      else
        let s := bootAt u (domsBoot (bootGo 4 s))
        let t := s.now
        let q := stagedApply r.1 s
        let wait := (q.1.now - t) * 8 / 3125
        match q.2 with
        | some i => (q.1, ⟨u + wait, 7, i, r.1⟩)
        | none => (stepT 5 (u + 2000000 + wait) q.1, ⟨u + 2000000 + wait, 0, 0, r.1⟩)

/-- Objects that live in AON: domains, refuser log, sources, records and shutdown records. -/
def aonObj (k : Nat) : Bool := decide (5 ≤ k / 2 ^ 44) && decide (k / 2 ^ 44 ≤ 9)

/-- A register that keeps its value when a failed script is undone (R416): not CHIP, or of the BOOT window or AON. -/
def undoKeeps (k : Nat) : Bool :=
  keySrc k != some .chip || keyIn bootB 0x10000 k || aonObj k || (decide (k < 2 ^ 32) && addrDom k == some 85)

/-- Fuse repair entries apply at step 1 (R492). -/
def fusesApply (s : State) : State := s.fuses.foldl (fun s e => repairApply e s) s

/-- A failed script is undone (R416): every CHIP field but those of the BOOT window and AON, and with them what the engines
held. Clocks, domains and the housekeeping go on, and so does what training and the fuses have found. -/
def undoScript (s : State) : State :=
  let t := chipClear undoKeeps s
  let t := { t with
    raised := s.raised, bootFrom := s.bootFrom, dieBad := s.dieBad, stackBad := s.stackBad, clk := s.clk, doms := s.doms,
    pwr := s.pwr, hk := s.hk, pclkBase := s.pclkBase, pclkAt := s.pclkAt, tl := { t.tl with rateFrom := s.tl.rateFrom } }
  let t := [clkB + R.CLK_STATUS_STATE.off, glbB + R.GLB_CONFIG_LD_OK.off].foldl (fun t k => t.setReg k (s.getReg k)) t
  fusesApply (lanes.foldl (fun t n => biasChipReset n t) t)

/-- An image has failed (R416). -/
def imageFail (dev : Nat) (t : BootTry) (s : State) : State :=
  let s := bootAt t.u (sectsLoad true t.sects s)
  let s := if t.code == 7 then undoScript s else s
  let s := (s.wr bootB (if dev == 0 then R.BOOT_ERR_ERR_A else R.BOOT_ERR_ERR_B) t.code).wr bootB R.BOOT_ERR_INDEX t.index
  (s.wr bootB R.BOOT_STATUS_FALLBACK 1).raise 0x441

/-! Self-test at boot (R489, R490). -/

/-- Memory self-test: rows replaced, and memories that cannot be repaired. -/
def bootMbist (x : BootIn) (s : State) : State :=
  let bad := (if s.injMbist then [0] else []) ++ x.badRams.map (fun (b : Byte) => b.toNat)
  let s := ({ s with injMbist := false }.wr bistB R.BIST_MBIST_REPAIRED x.rows.toNat).wr bistB R.BIST_MBIST_FAILED (min 255 bad.length)
  bad.foldl (fun s m => (s.wr bistB R.BIST_MBIST_LAST m).raise 0x41B) s

/-- A unit fails its logic self-test. -/
def bootUnitFail (id : Nat) (s : State) : State :=
  let b := bistB + 4 * (id / 32)
  let s := s.wr b R.BIST_BOOT_UNIT_FAIL (setBit (s.rd b R.BIST_BOOT_UNIT_FAIL) (id % 32))
  let s := (s.wr bootB R.BOOT_STATUS_LBIST_ERR 1).raise 0x444
  if id ≤ 0x87 then elemFailBoot id s else s

/-- Step 7: signatures are compared. Which unit an armed INJ_LBIST makes mismatch is a free value. -/
def bootLbist (x : BootIn) (s : State) : State :=
  let s := if s.bootInj.testBit 2 then bootUnitFail (s.draw % 169) { s.drawn with bootInj := s.bootInj &&& 11 } else s
  x.sigs.foldl (fun s b => match sigOf b.unit.val s with
    | some w => if w == b.sig then s else bootUnitFail b.unit.val s
    | none => s) s

/-- Training of the lane dies and the stacks ends (R45, R414). -/
def bootTraining (x : BootIn) (s : State) : State :=
  let ld := if s.bootInj.testBit 1 then x.dies.toNat % 8 else x.dies.toNat
  let ms := if x.memPll then x.stks.toNat else 0
  let s := ({ s with bootInj := s.bootInj &&& 13, dieBad := 15 - ld, stackBad := 63 - ms }.wr glbB R.GLB_CONFIG_LD_OK ld).wr glbB
    R.GLB_CONFIG_MS_OK ms
  if ld == 15 && ms == 63 then s else (s.wr bootB R.BOOT_STATUS_TRAIN_ERR 1).raise 0x443

/-! The end of the boot (R417, R418). -/

/-- Boot completes at time u: the locks, TIME, and the shutdown records that are not cleared (R474). -/
def bootEnd (u st : Nat) (s : State) : State :=
  let s := { (bootGo st (bootAt u s)).wr bootB R.BOOT_TIME_US (u / 100) with locksSet := true }
  if s.rd hkB R.HK_SHUT_CLR_PENDING == 0 then s else s.raise 0x406

/-- FAIL: ME stays off. -/
def bootFail (cause u : Nat) (s : State) : State :=
  let s := (domGo 83 0 (ncpOff s)).wr bootB R.BOOT_STATUS_FAIL_CAUSE cause
  (bootEnd u 7 s).raise 0x442

/-- RUN of a core is set by FW_RUN. -/
def fwRun (k : Nat) (s : State) : State := coreStart k (s.wr (coreB k) R.SQ_CORE_CTRL_RUN 1)

/-- Steps 7 and 8 after an image has passed. -/
def bootDone (x : BootIn) (t : BootTry) (s : State) : State :=
  let u := t.u + 7000000
  let s := stepT 6 u (bootLbist x (bootGo 5 (bootAt t.u s)))
  let m := (t.sects.filter (fun y => y.kind == 0x14)).foldl (fun m y => m ||| y.target) 0
  let s := bootAt u s
  let s := if m.testBit 16 then fwRun 16 s else s
  let s := bootAt (u + 100) s
  let s := ((List.range 16).filter (fun k => m.testBit k)).foldl (fun s k => fwRun k s) s
  kickStart ((bootEnd (u + 100) 6 (stepT 7 (u + 100) s)).raise 0x440)

/-- The images in turn (R416). -/
def bootImages (x : BootIn) (s : State) : State :=
  let first := s.rd bootB R.BOOT_CTRL_B_FIRST
  let r := imageTry x first 15000 s
  if r.2.code == 0 then bootDone x r.2 r.1
  else
    let s := imageFail first r.2 r.1
    let r := imageTry x (1 - first) (r.2.u + 50000) s
    if r.2.code == 0 then bootDone x r.2 r.1
    else bootFail 3 r.2.u (imageFail (1 - first) r.2 r.1)

/-- The boot may run: out of reset, at START, not held at step 1 by TEST_MODE or after OFF (R473, R514). -/
def bootMay (s : State) : Bool :=
  !s.por && !s.inReset && !s.fatal && !s.off && s.bootState == 0 && !s.on glbB R.GLB_PIN_STAT_TEST_HI &&
    (!s.hk.offWait || offReady s)

/-- The distribution delay of every lane that is on is measured (R60). -/
def bootDelays (s : State) : State := lanes.foldl (fun s n => if s.domOn n then dlyPowerUp n s else s) s

/-- The boot sequence (R413). -/
def bootSequence (x : BootIn) (s : State) : State :=
  if !bootMay s then s
  else
    let s := { s with hk := { s.hk with offWait := false } }
    let s := stepT 0 5000 (fusesApply (if s.on safeB R.SAFE_STATUS_OTP_READY then s else otpRead s))
    let s := stepT 1 15000 s
    if !x.sysXi then bootFail 1 15000 s
    else
      let s := bootMbist x (bootGo 1 s)
      let s := s.wr clkB R.CLK_STATUS_MEM_LOCK (b2n x.memPll)
      if !x.corePll then bootFail 2 1015000 s
      else bootImages x (bootDelays (bootTraining x (s.wr clkB R.CLK_STATUS_CORE_LOCK 1)))

end Sys2Proof.Machine
end

