-- ==== Sys2Proof/Machine/TxSend.lean ====
section
/-! DEFINITION. A lane sends symbols: its source (R138), the transmit path (R142 to R147), and the waveform stage (R344 to
R348) with its noise windows (R347). -/

namespace Sys2Proof.Machine

/-- The key of a lane's generator (R348): 0 errors, 1 jitter, 2 noise. -/
def hazeKey (n gen : Nat) : Nat := (n * 4 + gen) * 2 ^ 64

/-- The fields that lane n's waveform stage reads (R344 to R348). -/
def waveCfg (n : Nat) (s : State) : WaveCfg :=
  let b := laneB n
  let mode := s.rd b R.TX_CTRL_MODE
  { isi := s.on b R.HAZE_CTRL_ISI_EN
    jit := s.on b R.HAZE_CTRL_JIT_EN
    noise := s.on b R.HAZE_CTRL_NOISE_EN
    two := mode != 0
    rate := symRate mode
    taps := hazeTaps n (s.rd b R.HAZE_CTRL_ACT_BANK) s
    old := hazeTaps n (s.hazeOf n).outBank s
    fading := s.on b R.HAZE_STATUS_XF_BUSY
    len := fadeLen (s.rd b R.HAZE_CTRL_XF_LEN)
    amp := s.rd b R.HAZE_SJ_SJ_AMP
    rj := s.rd b R.HAZE_SJ_RJ_RMS
    freq := s.rd b R.HAZE_SJ_FREQ_FREQ
    sigma := if s.on b R.HAZE_CTRL_NMODE then s.rd b R.HAZE_NOISE_NRMS * 4096
      else sigmaOf (s.rd b R.HAZE_PWR_PWR) (s.rd b R.HAZE_NOISE_SNR)
    jitKey := hazeKey n 1
    noiseKey := hazeKey n 2
    seed := BitVec.ofNat 32 (s.rd b R.HAZE_SEED_SEED) }

/-- The waveform stage over a run of symbols, each with its samples before rounding (R344): the DAC's samples, what is
counted, and the filtered samples of the run. -/
def waveRun (n : Nat) (syms : List (List Int)) (s : State) : State × WaveRun × List Int :=
  let c := waveCfg n s
  let x := s.hazeOf n
  let f := syms.foldl (isiSymbol c) (x.vs, [], x.fadeAt)
  let new := f.2.1.reverse
  let ws := x.ws.reverse ++ new
  let per := if c.two then 2 else 1
  let r := (List.range syms.length).foldl (fun r j =>
    waveSymbol c ws r ((List.range per).map (fun k => x.ws.length + per * j + k)))
    ⟨x.phi, x.dly, x.slew, x.jitIdx, x.noiseIdx, [], 0, 0⟩
  (s.setHaze n { x with vs := f.1, ws := ws.reverse.take 32, fadeAt := f.2.2, phi := r.phi, dly := r.dly, slew := r.slew,
                        jitIdx := r.jitIdx, noiseIdx := r.noiseIdx }, r, new)

/-- The symbols that the lane's source gives in the place of as many slots (R138): the pattern generator's own (R239), those
that leave the cut-through buffer as the source lane's enter it (R339), those of the page that a symbol replay plays (R320),
or the ones that came over the link. -/
def txSource (n : Nat) (words : List (BitVec 2)) (s : State) : List (BitVec 2) × State :=
  match s.rd (laneB n) R.TX_SRC_SRC with
  | 2 =>
    match look [] s.rpSym n with
    | [] => (words, s)
    | q => ((q.take words.length).map (BitVec.ofNat 2), { s with rpSym := put [] s.rpSym n (q.drop words.length) })
  | 3 => pgTake n words.length s
  | 4 =>
    let x := s.hazeOf n
    let all := x.buf ++ words
    let out := all.take words.length
    (out, hazeBuf n (all.drop words.length) (s.setHaze n { x with lastOut := out.getLastD x.lastOut }))
  | _ => (words, s)

/-- Samples bypass the mapper, the FFE and the waveform stage: FILL (R140, R147, R340). -/
def txFill (n k : Nat) (s : State) : State :=
  s.setTx n { s.txOf n with dac := (List.range k).flatMap (fun _ => fillDac n s) }

/-- The lane sends symbols through its transmit path: the state after it, and the filtered samples of the waveform stage.
With a part of that stage on, the FFE's output is rounded and saturated behind it, and counts there (R344). -/
def txPath (n : Nat) (words : List (BitVec 2)) (s : State) : State × List Int :=
  let b := laneB n
  let src := txSource n words s
  let s := src.2
  let x := s.txOf n
  let r := txRun (txCfg n s) src.1 ⟨x.line, x.lastT, x.fadeAt, x.lastV, x.lastX, [], [], 0, 0⟩
  let s := s.setTx n { x with line := r.line, lastT := r.lastT, fadeAt := r.fadeAt, lastV := r.lastV, lastX := r.lastX,
                              dac := r.dac }
  let s := s.cnt b R.TX_CNT_CLIP_NRZ_BAD r.bad
  let w := waveRun n r.exact s
  if waveOn n s || w.2.1.dly != 0 then
    let s := w.1.setTx n { w.1.txOf n with dac := w.2.1.dac }
    let s := s.cnt b R.HAZE_CNT_CLIP w.2.1.clips
    let s := if w.2.1.jclamps == 0 then s
      else ((s.cnt b R.HAZE_CNT_JCLAMP w.2.1.jclamps).wr b R.HAZE_EVT_JCLAMP 1).raise (evLane n 10)
    (s, w.2.2)
  else
    let s := w.1
    (if r.clips == 0 then s else txAlarm n 6 (s.cnt b R.TX_CNT_CLIP_CLIP r.clips), w.2.2)

/-- The lane sends: nothing where its transmit state is not ACTIVE or SRC is 0, FILL with SRC = 5 and in HOLD and PRIME of
the cut-through path, else the symbols of its source. -/
def txSendW (n : Nat) (words : List (BitVec 2)) (s : State) : State × List Int :=
  let b := laneB n
  let src := s.rd b R.TX_SRC_SRC
  if s.rd b R.TX_STATUS_STATE != 2 then (s, [])
  else if src == 0 then (s.setTx n { s.txOf n with dac := [] }, [])
  else if src == 5 || (src == 4 && s.rd b R.HAZE_STATUS_STATE != 3) then (txFill n words.length s, [])
  else txPath n words s

def txSend (n : Nat) (words : List (BitVec 2)) (s : State) : State := (txSendW n words s).1

/-- A window of the noise stage ends with these symbols (R347): PWR is the mean of w² over them, in code². -/
def noiseWindow (n : Nat) (words : List (BitVec 2)) (s : State) : State :=
  let r := txSendW n words s
  if r.2.isEmpty then r.1
  else r.1.wr (laneB n) R.HAZE_PWR_PWR (min ((r.2.map (fun w => w.natAbs ^ 2)).sum / (r.2.length * 2 ^ 92)) 0xFFFF)

end Sys2Proof.Machine
end

