-- ==== Sys2Proof/Machine/Cmds.lean ====
section
/-! DEFINITION. What the command rows share: a row that is a register write or read is that access with the bits its row
fixes. -/

namespace Sys2Proof.Machine

/-- A command that writes the register of a field, at a block's base, with that field at a value. -/
def writeFld (m : Master) (base : Nat) (f : Fld) (v : Nat) (w : Word) (s : State) : State :=
  writeCmd m (base + f.off) (fput f v w) s

/-- The same with two fields of one register. -/
def writeFld2 (m : Master) (base : Nat) (f : Fld) (v : Nat) (g : Fld) (u : Nat) (w : Word) (s : State) : State :=
  writeCmd m (base + f.off) (fput f v (fput g u w)) s

/-- A command that writes the register of a field with any word. -/
def writeReg (m : Master) (base : Nat) (f : Fld) (w : Word) (s : State) : State := writeCmd m (base + f.off) w s

end Sys2Proof.Machine
end

