-- ==== Sys2Proof/Machine/AcqCmds.lean ====
section
/-! DEFINITION. Commands of chapters 07 and 08: acquisition, deskew and bursts; FEC, PCS and patterns. -/

namespace Sys2Proof.Machine

/-- A codeword of a lane's stream is decoded (R232, R233, R235): the group is ALIGNED (R208) on a link with RS-FEC. On a
P4-212 lane it is the oldest that the inner decoder left; on another link the command states it. -/
def rsDecoded (n : Nat) (cw : RsWord) (s : State) : State :=
  match laneGrp n s with
  | none => s
  | some g =>
    let mode := s.rxMode n
    let word : Option RsIn := if mode == 0 then (s.fecOf n).rsIn.head?
      else some ⟨cw.c, cw.syms.map BitVec.toNat, cw.rel, [], 0, 0⟩
    match word with
    | none => s
    | some w =>
      if blockLink n g s || s.rd (grpB (n / 16) g) R.FE_GRP_STAT_STATE != 2 || !s.feUp (n / 16) then s
      else
        let top := streamLane n g mode s
        let ls := streamLanes n g mode s
        let link := s.rd (grpB (n / 16) g) R.FE_GRP_CFG_LINK
        let s := if mode == 0 then s.setFec n { s.fecOf n with rsIn := (s.fecOf n).rsIn.drop 1 } else s
        let r := rsDecode (s.on (laneB top) R.FEC_CTRL_RS_ERASE) w.erased w.syms
        let inj := ls.any (fun l => (s.fecOf l).injUncorr)
        let s := ls.foldl (fun t l => if (t.fecOf l).injUncorr then t.setFec l { t.fecOf l with injUncorr := false } else t) s
        let unc := r.isNone || inj
        let fix := r.getD []
        let on (i k : Nat) : Bool := symLane (mode == 0) link ls.length w.c k == i
        let s := ls.zipIdx.foldl (fun t l =>
          let mine := fix.filter (fun p => on l.2 p.1)
          if (List.range 544).any (on l.2) then
            fecCount l.1 unc fix.length mine.length ((mine.map (fun p => ones 10 p.2)).sum) t
          else t) s
        let t := rxRef (((grpLanes (n / 16) g s).head?).getD n) s.tlv.toNat s - rsDelay n g s
        let tag := s.tagAt t
        let rec_ : RsCw := ⟨t, tag.1, tag.2, (look StreamSt.idle s.streams top).count, w.syms, w.rel, unc,
          if unc then [] else fix.map (fun p => p.1), w.erased, w.cor, w.det⟩
        let s := pcsTake top g unc (if unc then w.syms else rsApply w.syms fix) s
        cwCapture top inj rec_ s

/-! The commands. -/

/-- R199: ACQ_SCOUT_CTRL_EN = 1. -/
def execScoutStart (m : Master) (n : Lane) (w : Word) (s : State) : Host.Outcome State Fault Refusal :=
  run (writeFld m (laneB n.val) R.ACQ_SCOUT_CTRL_EN 1 w) s

/-- R199. -/
def execScoutDwellEnd (n : Lane) (res : List CandMeas) (s : State) : Host.Outcome State Fault Refusal :=
  run (scoutDwell n.val res) s

/-- R200. -/
def execScoutFrameTimeout (n : Lane) (j : Fin 4) (s : State) : Host.Outcome State Fault Refusal :=
  run (scoutFrameTo n.val j.val) s

/-- R205. -/
def execMarkerReceived (n : Lane) (x : MarkerIn) (s : State) : Host.Outcome State Fault Refusal :=
  run (markerRx n.val x) s

/-- R207. -/
def execMarkerRound (e : Eng) (g : Fin 16) (s : State) : Host.Outcome State Fault Refusal :=
  run (markerRound e.val g.val) s

/-- R209: A write of the register with RX_CTRL_BURST. -/
def execBurstModeWrite (m : Master) (n : Lane) (w : Word) (s : State) : Host.Outcome State Fault Refusal :=
  run (writeReg m (laneB n.val) R.RX_CTRL_BURST w) s

/-- R210. -/
def execEnergyWindowEnd (n : Lane) (sym : Nat) (mean : Nat) (s : State) : Host.Outcome State Fault Refusal :=
  run (energyWindow n.val sym mean) s

/-- R211. -/
def execCorrelatorHit (n : Lane) (sym : Nat) (corr : Nat) (s : State) : Host.Outcome State Fault Refusal :=
  run (burstHit n.val sym corr) s

/-- R213. -/
def execDelimiterQualify (n : Lane) (c : Fin 2) (corr : Nat) (meas : CtxMeas) (both : Option CtxMeas) (s : State) : Host.Outcome State Fault Refusal :=
  run (qualify n.val c.val corr meas both) s

/-- R212. -/
def execContextQualTimeout (n : Lane) (c : Fin 2) (s : State) : Host.Outcome State Fault Refusal :=
  run (qualTimeout n.val c.val) s

/-- R217. -/
def execBurstWindowOpen (n : Lane) (j : Fin 4) (s : State) : Host.Outcome State Fault Refusal :=
  run (winOpening n.val j.val) s

/-- R218. -/
def execBurstWindowClose (n : Lane) (j : Fin 4) (s : State) : Host.Outcome State Fault Refusal :=
  run (winClose n.val j.val) s

/-- R218. -/
def execGuardExpire (n : Lane) (s : State) : Host.Outcome State Fault Refusal := run (guardExpire n.val) s

/-- R263. -/
def execBurstRecordReceived (bits : Nat) (s : State) : Host.Outcome State Fault Refusal := run (burstRecord bits) s

/-- R222: ACQ_INJECT_INJ_SCOUT = 1. -/
def execAcqInjScout (m : Master) (n : Lane) (w : Word) (s : State) : Host.Outcome State Fault Refusal :=
  run (writeFld m (laneB n.val) R.ACQ_INJECT_INJ_SCOUT 1 w) s

/-- R222: ACQ_INJECT_INJ_START = 1. -/
def execAcqInjStart (m : Master) (n : Lane) (w : Word) (s : State) : Host.Outcome State Fault Refusal :=
  run (writeFld m (laneB n.val) R.ACQ_INJECT_INJ_START 1 w) s

/-- R222: ACQ_INJECT_INJ_WINDOW = 1. -/
def execAcqInjWindow (m : Master) (n : Lane) (w : Word) (s : State) : Host.Outcome State Fault Refusal :=
  run (writeFld m (laneB n.val) R.ACQ_INJECT_INJ_WINDOW 1 w) s

/-- R222: FE_ACQ_INJECT_INJ_SKEW = 1. -/
def execFeInjSkew (m : Master) (e : Eng) (w : Word) (s : State) : Host.Outcome State Fault Refusal :=
  run (writeFld m (feB e.val) R.FE_ACQ_INJECT_INJ_SKEW 1 w) s

/-- R222: FE_ACQ_INJECT_INJ_AMLOSS = 1. -/
def execFeInjAmloss (m : Master) (e : Eng) (w : Word) (s : State) : Host.Outcome State Fault Refusal :=
  run (writeFld m (feB e.val) R.FE_ACQ_INJECT_INJ_AMLOSS 1 w) s

/-- R230. -/
def execInnerBlock (n : Lane) (words : List (BitVec 4)) (s : State) : Host.Outcome State Fault Refusal :=
  run (innerBlock n.val words) s

/-- R233. -/
def execRsCodewordDecoded (n : Lane) (cw : RsWord) (s : State) : Host.Outcome State Fault Refusal :=
  run (rsDecoded n.val cw) s

/-- R237. -/
def execForensicRecordDone (e : Eng) (s : State) : Host.Outcome State Fault Refusal := run (forDone e.val) s

/-- R234: FEC_CTRL_SNAP = 1. -/
def execFecSnap (m : Master) (n : Lane) (w : Word) (s : State) : Host.Outcome State Fault Refusal :=
  run (writeFld m (laneB n.val) R.FEC_CTRL_SNAP 1 w) s

/-- R234. -/
def execFecSnapTaken (n : Lane) (s : State) : Host.Outcome State Fault Refusal := run (fecSnapTake n.val) s

/-- R244. -/
def execTxCodewordCorrupt (n : Lane) (s : State) : Host.Outcome State Fault Refusal := run (txCodeword n.val) s

/-- R241. -/
def execPcLockAcquired (n : Lane) (words : List (BitVec 2)) (s : State) : Host.Outcome State Fault Refusal :=
  run (pcLock n.val words) s

/-- R241. -/
def execPcLossWindow (n : Lane) (words : List (BitVec 2)) (s : State) : Host.Outcome State Fault Refusal :=
  run (pcWindow n.val words) s

/-- R240: FEC_PG_ERR_ONE = 1. -/
def execPgInjectOne (m : Master) (n : Lane) (w : Word) (s : State) : Host.Outcome State Fault Refusal :=
  run (writeFld m (laneB n.val) R.FEC_PG_ERR_ONE 1 w) s

/-- R240. -/
def execPgInjectPeriodic (n : Lane) (s : State) : Host.Outcome State Fault Refusal := run (pgPeriodic n.val) s

/-- R242: A write of the register with FEC_UP_DATA_SYM. -/
def execPatternMemWrite (m : Master) (n : Lane) (w : Word) (s : State) : Host.Outcome State Fault Refusal :=
  run (writeReg m (laneB n.val) R.FEC_UP_DATA_SYM w) s

/-- R246: FEC_INJECT_INJ_UNCORR = 1. -/
def execFecInjUncorr (m : Master) (n : Lane) (w : Word) (s : State) : Host.Outcome State Fault Refusal :=
  run (writeFld m (laneB n.val) R.FEC_INJECT_INJ_UNCORR 1 w) s

/-- R246: FEC_INJECT_INJ_PCLOSS = 1. -/
def execFecInjPcloss (m : Master) (n : Lane) (w : Word) (s : State) : Host.Outcome State Fault Refusal :=
  run (writeFld m (laneB n.val) R.FEC_INJECT_INJ_PCLOSS 1 w) s

/-- R246: FEC_INJECT_INJ_INNER = 1. -/
def execFecInjInner (m : Master) (n : Lane) (w : Word) (s : State) : Host.Outcome State Fault Refusal :=
  run (writeFld m (laneB n.val) R.FEC_INJECT_INJ_INNER 1 w) s

/-- R246: FE_FOR_INJECT_INJ_DROP = 1. -/
def execForInjDrop (m : Master) (e : Eng) (w : Word) (s : State) : Host.Outcome State Fault Refusal :=
  run (writeFld m (feB e.val) R.FE_FOR_INJECT_INJ_DROP 1 w) s

end Sys2Proof.Machine
end

