-- ==== Sys2Proof/Machine/CoreCmds.lean ====
section
/-! DEFINITION. Commands of chapter 13: the instructions of the Fjot cores, their traps and timers, and the sequencer registers. A row names the core, 17 being the pair as 16 is; it is the instruction at that core's PC. -/

namespace Sys2Proof.Machine

/-- R368: FUNC 0. -/
def execAddR (k : CoreId) (rd ra rb : Fin 32) (s : State) : Host.Outcome State Fault Refusal :=
  run (coreRun k.val (isaAlu k.val 0 rd.val ra.val rb.val)) s

/-- R368: FUNC 1. -/
def execSubR (k : CoreId) (rd ra rb : Fin 32) (s : State) : Host.Outcome State Fault Refusal :=
  run (coreRun k.val (isaAlu k.val 1 rd.val ra.val rb.val)) s

/-- R368: FUNC 2. -/
def execAndR (k : CoreId) (rd ra rb : Fin 32) (s : State) : Host.Outcome State Fault Refusal :=
  run (coreRun k.val (isaAlu k.val 2 rd.val ra.val rb.val)) s

/-- R368: FUNC 3. -/
def execOrR (k : CoreId) (rd ra rb : Fin 32) (s : State) : Host.Outcome State Fault Refusal :=
  run (coreRun k.val (isaAlu k.val 3 rd.val ra.val rb.val)) s

/-- R368: FUNC 4. -/
def execXorR (k : CoreId) (rd ra rb : Fin 32) (s : State) : Host.Outcome State Fault Refusal :=
  run (coreRun k.val (isaAlu k.val 4 rd.val ra.val rb.val)) s

/-- R368: FUNC 5. -/
def execSll (k : CoreId) (rd ra rb : Fin 32) (s : State) : Host.Outcome State Fault Refusal :=
  run (coreRun k.val (isaAlu k.val 5 rd.val ra.val rb.val)) s

/-- R368: FUNC 6. -/
def execSrl (k : CoreId) (rd ra rb : Fin 32) (s : State) : Host.Outcome State Fault Refusal :=
  run (coreRun k.val (isaAlu k.val 6 rd.val ra.val rb.val)) s

/-- R368: FUNC 7. -/
def execSra (k : CoreId) (rd ra rb : Fin 32) (s : State) : Host.Outcome State Fault Refusal :=
  run (coreRun k.val (isaAlu k.val 7 rd.val ra.val rb.val)) s

/-- R368: FUNC 8. -/
def execSlt (k : CoreId) (rd ra rb : Fin 32) (s : State) : Host.Outcome State Fault Refusal :=
  run (coreRun k.val (isaAlu k.val 8 rd.val ra.val rb.val)) s

/-- R368: FUNC 9. -/
def execSltu (k : CoreId) (rd ra rb : Fin 32) (s : State) : Host.Outcome State Fault Refusal :=
  run (coreRun k.val (isaAlu k.val 9 rd.val ra.val rb.val)) s

/-- R368: FUNC 10. -/
def execMulR (k : CoreId) (rd ra rb : Fin 32) (s : State) : Host.Outcome State Fault Refusal :=
  run (coreRun k.val (isaAlu k.val 10 rd.val ra.val rb.val)) s

/-- R368: FUNC 11. -/
def execMulh (k : CoreId) (rd ra rb : Fin 32) (s : State) : Host.Outcome State Fault Refusal :=
  run (coreRun k.val (isaAlu k.val 11 rd.val ra.val rb.val)) s

/-- R368: FUNC 12. -/
def execMulhu (k : CoreId) (rd ra rb : Fin 32) (s : State) : Host.Outcome State Fault Refusal :=
  run (coreRun k.val (isaAlu k.val 12 rd.val ra.val rb.val)) s

/-- R368: FUNC 13. -/
def execDivR (k : CoreId) (rd ra rb : Fin 32) (s : State) : Host.Outcome State Fault Refusal :=
  run (coreRun k.val (isaAlu k.val 13 rd.val ra.val rb.val)) s

/-- R368: FUNC 14. -/
def execDivu (k : CoreId) (rd ra rb : Fin 32) (s : State) : Host.Outcome State Fault Refusal :=
  run (coreRun k.val (isaAlu k.val 14 rd.val ra.val rb.val)) s

/-- R368: FUNC 15. -/
def execRem (k : CoreId) (rd ra rb : Fin 32) (s : State) : Host.Outcome State Fault Refusal :=
  run (coreRun k.val (isaAlu k.val 15 rd.val ra.val rb.val)) s

/-- R368: FUNC 16. -/
def execRemu (k : CoreId) (rd ra rb : Fin 32) (s : State) : Host.Outcome State Fault Refusal :=
  run (coreRun k.val (isaAlu k.val 16 rd.val ra.val rb.val)) s

/-- R368: FUNC 17. -/
def execMinI (k : CoreId) (rd ra rb : Fin 32) (s : State) : Host.Outcome State Fault Refusal :=
  run (coreRun k.val (isaAlu k.val 17 rd.val ra.val rb.val)) s

/-- R368: FUNC 18. -/
def execMaxI (k : CoreId) (rd ra rb : Fin 32) (s : State) : Host.Outcome State Fault Refusal :=
  run (coreRun k.val (isaAlu k.val 18 rd.val ra.val rb.val)) s

/-- R368: FUNC 19. -/
def execClz (k : CoreId) (rd ra rb : Fin 32) (s : State) : Host.Outcome State Fault Refusal :=
  run (coreRun k.val (isaAlu k.val 19 rd.val ra.val rb.val)) s

/-- R368: FUNC 20. -/
def execSatadd (k : CoreId) (rd ra rb : Fin 32) (s : State) : Host.Outcome State Fault Refusal :=
  run (coreRun k.val (isaAlu k.val 20 rd.val ra.val rb.val)) s

/-- R368. -/
def execAddi (k : CoreId) (rd ra : Fin 32) (imm : BitVec 16) (s : State) : Host.Outcome State Fault Refusal :=
  run (coreRun k.val (isaImm k.val 0 rd.val ra.val (immS imm))) s

/-- R368. -/
def execAndi (k : CoreId) (rd ra : Fin 32) (imm : BitVec 16) (s : State) : Host.Outcome State Fault Refusal :=
  run (coreRun k.val (isaImm k.val 2 rd.val ra.val (immZ imm))) s

/-- R368. -/
def execOri (k : CoreId) (rd ra : Fin 32) (imm : BitVec 16) (s : State) : Host.Outcome State Fault Refusal :=
  run (coreRun k.val (isaImm k.val 3 rd.val ra.val (immZ imm))) s

/-- R368. -/
def execXori (k : CoreId) (rd ra : Fin 32) (imm : BitVec 16) (s : State) : Host.Outcome State Fault Refusal :=
  run (coreRun k.val (isaImm k.val 4 rd.val ra.val (immZ imm))) s

/-- R368. -/
def execSlti (k : CoreId) (rd ra : Fin 32) (imm : BitVec 16) (s : State) : Host.Outcome State Fault Refusal :=
  run (coreRun k.val (isaImm k.val 8 rd.val ra.val (immS imm))) s

/-- R368. -/
def execSlli (k : CoreId) (rd ra : Fin 32) (sh : Fin 32) (s : State) : Host.Outcome State Fault Refusal :=
  run (coreRun k.val (isaImm k.val 5 rd.val ra.val (BitVec.ofNat 32 sh.val))) s

/-- R368. -/
def execSrli (k : CoreId) (rd ra : Fin 32) (sh : Fin 32) (s : State) : Host.Outcome State Fault Refusal :=
  run (coreRun k.val (isaImm k.val 6 rd.val ra.val (BitVec.ofNat 32 sh.val))) s

/-- R368. -/
def execSrai (k : CoreId) (rd ra : Fin 32) (sh : Fin 32) (s : State) : Host.Outcome State Fault Refusal :=
  run (coreRun k.val (isaImm k.val 7 rd.val ra.val (BitVec.ofNat 32 sh.val))) s

/-- R368. -/
def execLui (k : CoreId) (rd : Fin 32) (imm : BitVec 16) (s : State) : Host.Outcome State Fault Refusal :=
  run (coreRun k.val (isaLui k.val rd.val imm)) s

/-- R368. -/
def execLw (k : CoreId) (rd ra : Fin 32) (imm : BitVec 16) (s : State) : Host.Outcome State Fault Refusal :=
  run (coreRun k.val (isaLoad k.val 4 true rd.val ra.val imm)) s

/-- R368. -/
def execLh (k : CoreId) (rd ra : Fin 32) (imm : BitVec 16) (s : State) : Host.Outcome State Fault Refusal :=
  run (coreRun k.val (isaLoad k.val 2 true rd.val ra.val imm)) s

/-- R368. -/
def execLhu (k : CoreId) (rd ra : Fin 32) (imm : BitVec 16) (s : State) : Host.Outcome State Fault Refusal :=
  run (coreRun k.val (isaLoad k.val 2 false rd.val ra.val imm)) s

/-- R368. -/
def execLb (k : CoreId) (rd ra : Fin 32) (imm : BitVec 16) (s : State) : Host.Outcome State Fault Refusal :=
  run (coreRun k.val (isaLoad k.val 1 true rd.val ra.val imm)) s

/-- R368. -/
def execLbu (k : CoreId) (rd ra : Fin 32) (imm : BitVec 16) (s : State) : Host.Outcome State Fault Refusal :=
  run (coreRun k.val (isaLoad k.val 1 false rd.val ra.val imm)) s

/-- R368. -/
def execSw (k : CoreId) (rd ra : Fin 32) (imm : BitVec 16) (s : State) : Host.Outcome State Fault Refusal :=
  run (coreRun k.val (isaStore k.val 4 rd.val ra.val imm)) s

/-- R368. -/
def execSh (k : CoreId) (rd ra : Fin 32) (imm : BitVec 16) (s : State) : Host.Outcome State Fault Refusal :=
  run (coreRun k.val (isaStore k.val 2 rd.val ra.val imm)) s

/-- R368. -/
def execSb (k : CoreId) (rd ra : Fin 32) (imm : BitVec 16) (s : State) : Host.Outcome State Fault Refusal :=
  run (coreRun k.val (isaStore k.val 1 rd.val ra.val imm)) s

/-- R368. -/
def execBeq (k : CoreId) (ra rb : Fin 32) (imm : BitVec 16) (s : State) : Host.Outcome State Fault Refusal :=
  run (coreRun k.val (isaBranch k.val 0x10 ra.val rb.val imm)) s

/-- R368. -/
def execBne (k : CoreId) (ra rb : Fin 32) (imm : BitVec 16) (s : State) : Host.Outcome State Fault Refusal :=
  run (coreRun k.val (isaBranch k.val 0x11 ra.val rb.val imm)) s

/-- R368. -/
def execBlt (k : CoreId) (ra rb : Fin 32) (imm : BitVec 16) (s : State) : Host.Outcome State Fault Refusal :=
  run (coreRun k.val (isaBranch k.val 0x12 ra.val rb.val imm)) s

/-- R368. -/
def execBge (k : CoreId) (ra rb : Fin 32) (imm : BitVec 16) (s : State) : Host.Outcome State Fault Refusal :=
  run (coreRun k.val (isaBranch k.val 0x13 ra.val rb.val imm)) s

/-- R368. -/
def execBltu (k : CoreId) (ra rb : Fin 32) (imm : BitVec 16) (s : State) : Host.Outcome State Fault Refusal :=
  run (coreRun k.val (isaBranch k.val 0x14 ra.val rb.val imm)) s

/-- R368. -/
def execBgeu (k : CoreId) (ra rb : Fin 32) (imm : BitVec 16) (s : State) : Host.Outcome State Fault Refusal :=
  run (coreRun k.val (isaBranch k.val 0x15 ra.val rb.val imm)) s

/-- R368. -/
def execJal (k : CoreId) (rd : Fin 32) (imm : BitVec 21) (s : State) : Host.Outcome State Fault Refusal :=
  run (coreRun k.val (isaJal k.val rd.val imm)) s

/-- R368. -/
def execJalr (k : CoreId) (rd ra : Fin 32) (imm : BitVec 16) (s : State) : Host.Outcome State Fault Refusal :=
  run (coreRun k.val (isaJalr k.val rd.val ra.val imm)) s

/-- R368. -/
def execAmoSwap (k : CoreId) (rd ra rb : Fin 32) (s : State) : Host.Outcome State Fault Refusal :=
  run (coreRun k.val (isaAmo k.val 0 rd.val ra.val rb.val)) s

/-- R368. -/
def execAmoAdd (k : CoreId) (rd ra rb : Fin 32) (s : State) : Host.Outcome State Fault Refusal :=
  run (coreRun k.val (isaAmo k.val 1 rd.val ra.val rb.val)) s

/-- R368. -/
def execAmoAnd (k : CoreId) (rd ra rb : Fin 32) (s : State) : Host.Outcome State Fault Refusal :=
  run (coreRun k.val (isaAmo k.val 2 rd.val ra.val rb.val)) s

/-- R368. -/
def execAmoOr (k : CoreId) (rd ra rb : Fin 32) (s : State) : Host.Outcome State Fault Refusal :=
  run (coreRun k.val (isaAmo k.val 3 rd.val ra.val rb.val)) s

/-- R368. -/
def execAmoCas (k : CoreId) (rd ra rb : Fin 32) (s : State) : Host.Outcome State Fault Refusal :=
  run (coreRun k.val (isaAmo k.val 4 rd.val ra.val rb.val)) s

/-- R370. -/
def execCrd (k : CoreId) (rd ra : Fin 32) (csr : BitVec 12) (s : State) : Host.Outcome State Fault Refusal :=
  run (coreRun k.val (isaCsr k.val 0 rd.val ra.val csr.toNat)) s

/-- R370. -/
def execCwr (k : CoreId) (rd ra : Fin 32) (csr : BitVec 12) (s : State) : Host.Outcome State Fault Refusal :=
  run (coreRun k.val (isaCsr k.val 1 rd.val ra.val csr.toNat)) s

/-- R370. -/
def execCset (k : CoreId) (rd ra : Fin 32) (csr : BitVec 12) (s : State) : Host.Outcome State Fault Refusal :=
  run (coreRun k.val (isaCsr k.val 2 rd.val ra.val csr.toNat)) s

/-- R370. -/
def execCclr (k : CoreId) (rd ra : Fin 32) (csr : BitVec 12) (s : State) : Host.Outcome State Fault Refusal :=
  run (coreRun k.val (isaCsr k.val 3 rd.val ra.val csr.toNat)) s

/-- R371. -/
def execScall (k : CoreId) (s : State) : Host.Outcome State Fault Refusal := run (coreRun k.val (isaScall k.val)) s

/-- R371. -/
def execBrk (k : CoreId) (s : State) : Host.Outcome State Fault Refusal := run (coreRun k.val (isaBreak k.val)) s

/-- R372. -/
def execTret (k : CoreId) (s : State) : Host.Outcome State Fault Refusal := run (coreRun k.val (isaTret k.val)) s

/-- R374. -/
def execNret (k : CoreId) (s : State) : Host.Outcome State Fault Refusal := run (coreRun k.val (isaNret k.val)) s

/-- R373. -/
def execIdle (k : CoreId) (s : State) : Host.Outcome State Fault Refusal := run (coreRun k.val (isaIdle k.val)) s

/-- R363. -/
def execDrain (k : CoreId) (s : State) : Host.Outcome State Fault Refusal := run (coreRun k.val (isaDrain k.val)) s

/-- R373. -/
def execInterruptTaken (k : CoreId) (s : State) : Host.Outcome State Fault Refusal := run (coreInterrupt k.val) s

/-- R374. -/
def execNmtTaken (s : State) : Host.Outcome State Fault Refusal := run nmtTake s

/-- R373. -/
def execTimerMatch (k : CoreId) (s : State) : Host.Outcome State Fault Refusal := run (timerMatch k.val) s

/-- R381. -/
def execCounterWrap (k : CoreId) (i : Fin 8) (n : BitVec 48) (s : State) : Host.Outcome State Fault Refusal :=
  run (counterRun k.val i.val n.toNat) s

/-- R377. -/
def execCoreWdogExpire (k : CoreId) (s : State) : Host.Outcome State Fault Refusal := run (wdogExpire k.val) s

/-- R378: SQ_CORE_CTRL_RUN = 1. -/
def execCoreRun (m : Master) (k : CoreId) (w : Word) (s : State) : Host.Outcome State Fault Refusal :=
  run (writeFld m (coreB k.val) R.SQ_CORE_CTRL_RUN 1 w) s

/-- R378: SQ_CORE_CTRL_RUN = 0. -/
def execCoreHalt (m : Master) (k : CoreId) (w : Word) (s : State) : Host.Outcome State Fault Refusal :=
  run (writeFld m (coreB k.val) R.SQ_CORE_CTRL_RUN 0 w) s

/-- R378: SQ_CORE_CTRL_STEP = 1. -/
def execCoreStep (m : Master) (k : CoreId) (w : Word) (s : State) : Host.Outcome State Fault Refusal :=
  run (writeFld m (coreB k.val) R.SQ_CORE_CTRL_STEP 1 w) s

/-- R378: SQ_CORE_CTRL_CORE_RST = 1. -/
def execCoreRst (m : Master) (k : CoreId) (w : Word) (s : State) : Host.Outcome State Fault Refusal :=
  run (writeFld m (coreB k.val) R.SQ_CORE_CTRL_CORE_RST 1 w) s

/-- R373: SQ_CORE_CTRL_DOORBELL = 1. -/
def execDoorbell (m : Master) (k : CoreId) (w : Word) (s : State) : Host.Outcome State Fault Refusal :=
  run (writeFld m (coreB k.val) R.SQ_CORE_CTRL_DOORBELL 1 w) s

/-- R378: SQ_CTRL_SQ_RST = 1. -/
def execSqRst (m : Master) (w : Word) (s : State) : Host.Outcome State Fault Refusal :=
  run (writeFld m sqB R.SQ_CTRL_SQ_RST 1 w) s

/-- R364. -/
def execSemRead (m : Master) (i : Fin 2) (s : State) : Host.Outcome State Fault Refusal :=
  run (readCmd m (semB i.val + R.SQ_SEM_HELD.off)) s

/-- R364: SQ_SEM_RELEASE = 1. -/
def execSemRelease (m : Master) (i : Fin 2) (w : Word) (s : State) : Host.Outcome State Fault Refusal :=
  run (writeFld m (semB i.val) R.SQ_SEM_RELEASE 1 w) s

/-- R365. -/
def execSemHoldTimeout (i : Fin 2) (s : State) : Host.Outcome State Fault Refusal := run (semTimeout i.val) s

/-- R384: SQ_INJECT_INJ_SEM = 1. -/
def execSqInjSem (m : Master) (w : Word) (s : State) : Host.Outcome State Fault Refusal :=
  run (writeFld m sqB R.SQ_INJECT_INJ_SEM 1 w) s

/-- R384: SQ_INJECT_INJ_WDOG = 1. -/
def execSqInjWdog (m : Master) (w : Word) (s : State) : Host.Outcome State Fault Refusal :=
  run (writeFld m sqB R.SQ_INJECT_INJ_WDOG 1 w) s

/-- R384: SQ_INJECT_INJ_MEM = 1. -/
def execSqInjMem (m : Master) (w : Word) (s : State) : Host.Outcome State Fault Refusal :=
  run (writeFld m sqB R.SQ_INJECT_INJ_MEM 1 w) s

/-- R384: SQ_INJECT_INJ_LOCKSTEP = 1. -/
def execSqInjLockstep (m : Master) (w : Word) (s : State) : Host.Outcome State Fault Refusal :=
  run (writeFld m sqB R.SQ_INJECT_INJ_LOCKSTEP 1 w) s

/-- R384: SQ_INJECT_INJ_NMT = 1. -/
def execSqInjNmt (m : Master) (w : Word) (s : State) : Host.Outcome State Fault Refusal :=
  run (writeFld m sqB R.SQ_INJECT_INJ_NMT 1 w) s

end Sys2Proof.Machine
end

