-- ==== Sys2Proof/Machine/FlowCmds.lean ====
section
/-! DEFINITION. Commands of chapters 09 and 10: flows, streams and watch chains. -/

namespace Sys2Proof.Machine

/-- R256. -/
def execFrameReceived (e : Eng) (g : Fin 16) (err : Bool) (bytes : List Byte) (s : State) : Host.Outcome State Fault Refusal :=
  run (feReceive e.val g.val err bytes) s

/-- R262. -/
def execRateIntervalEnd (e : Eng) (s : State) : Host.Outcome State Fault Refusal := run (rateEnd e.val) s

/-- R269. -/
def execStreamStartReached (e : Eng) (i : Fin 1024) (s : State) : Host.Outcome State Fault Refusal :=
  run (strmStart e.val i.val) s

/-- R265. -/
def execStreamFrameDue (e : Eng) (i : Fin 1024) (s : State) : Host.Outcome State Fault Refusal :=
  run (strmDue e.val i.val) s

/-- R266. -/
def execStreamFrameStart (e : Eng) (g : Fin 16) (s : State) : Host.Outcome State Fault Refusal :=
  run (feStart e.val g.val) s

/-- R270: FE_FLOW_CMD_OP = 1. -/
def execFlowRead (m : Master) (e : Eng) (w : Word) (s : State) : Host.Outcome State Fault Refusal :=
  run (writeFld m (feB e.val) R.FE_FLOW_CMD_OP 1 w) s

/-- R270: FE_FLOW_CMD_OP = 2. -/
def execFlowReadClr (m : Master) (e : Eng) (w : Word) (s : State) : Host.Outcome State Fault Refusal :=
  run (writeFld m (feB e.val) R.FE_FLOW_CMD_OP 2 w) s

/-- R270: FE_FLOW_CMD_OP = 3. -/
def execFlowReadSnap (m : Master) (e : Eng) (w : Word) (s : State) : Host.Outcome State Fault Refusal :=
  run (writeFld m (feB e.val) R.FE_FLOW_CMD_OP 3 w) s

/-- R270: FE_FLOW_CMD_OP = 4. -/
def execFlowLoadCfg (m : Master) (e : Eng) (w : Word) (s : State) : Host.Outcome State Fault Refusal :=
  run (writeFld m (feB e.val) R.FE_FLOW_CMD_OP 4 w) s

/-- R270: FE_FLOW_CMD_OP = 5. -/
def execFlowClear (m : Master) (e : Eng) (w : Word) (s : State) : Host.Outcome State Fault Refusal :=
  run (writeFld m (feB e.val) R.FE_FLOW_CMD_OP 5 w) s

/-- R270: FE_STRM_CMD_OP = 1. -/
def execStrmRead (m : Master) (e : Eng) (w : Word) (s : State) : Host.Outcome State Fault Refusal :=
  run (writeFld m (feB e.val) R.FE_STRM_CMD_OP 1 w) s

/-- R270: FE_STRM_CMD_OP = 2. -/
def execStrmReadClr (m : Master) (e : Eng) (w : Word) (s : State) : Host.Outcome State Fault Refusal :=
  run (writeFld m (feB e.val) R.FE_STRM_CMD_OP 2 w) s

/-- R270: FE_STRM_CMD_OP = 3. -/
def execStrmReadSnap (m : Master) (e : Eng) (w : Word) (s : State) : Host.Outcome State Fault Refusal :=
  run (writeFld m (feB e.val) R.FE_STRM_CMD_OP 3 w) s

/-- R270: FE_STRM_CMD_OP = 4. -/
def execStrmLoadCfg (m : Master) (e : Eng) (w : Word) (s : State) : Host.Outcome State Fault Refusal :=
  run (writeFld m (feB e.val) R.FE_STRM_CMD_OP 4 w) s

/-- R270: FE_STRM_CMD_OP = 5. -/
def execStrmClear (m : Master) (e : Eng) (w : Word) (s : State) : Host.Outcome State Fault Refusal :=
  run (writeFld m (feB e.val) R.FE_STRM_CMD_OP 5 w) s

/-- R269: FE_STRM_CMD_OP = 6. -/
def execStrmStop (m : Master) (e : Eng) (w : Word) (s : State) : Host.Outcome State Fault Refusal :=
  run (writeFld m (feB e.val) R.FE_STRM_CMD_OP 6 w) s

/-- R273: FE_SNAP_CTRL_ARM = 1. -/
def execSnapArm (m : Master) (e : Eng) (w : Word) (s : State) : Host.Outcome State Fault Refusal :=
  run (writeFld m (feB e.val) R.FE_SNAP_CTRL_ARM 1 w) s

/-- R273. -/
def execSnapAtReached (e : Eng) (s : State) : Host.Outcome State Fault Refusal := run (snapReached e.val) s

/-- R276: Word j of template t. -/
def execTemplateWrite (m : Master) (e : Eng) (t : Fin 128) (j : Fin 64) (w : Word) (s : State) : Host.Outcome State Fault Refusal :=
  run (writeCmd m (feB e.val + 0x38000 + 256 * t.val + 4 * j.val) w) s

/-- R275: FE_FS_INJECT_INJ_REFUSE = 1. -/
def execFsInjRefuse (m : Master) (e : Eng) (w : Word) (s : State) : Host.Outcome State Fault Refusal :=
  run (writeFld m (feB e.val) R.FE_FS_INJECT_INJ_REFUSE 1 w) s

/-- R275: FE_FS_INJECT_INJ_SKIP = 1. -/
def execFsInjSkip (m : Master) (e : Eng) (w : Word) (s : State) : Host.Outcome State Fault Refusal :=
  run (writeFld m (feB e.val) R.FE_FS_INJECT_INJ_SKIP 1 w) s

/-- R275: FE_FS_INJECT_INJ_LATE = 1. -/
def execFsInjLate (m : Master) (e : Eng) (w : Word) (s : State) : Host.Outcome State Fault Refusal :=
  run (writeFld m (feB e.val) R.FE_FS_INJECT_INJ_LATE 1 w) s

/-- R275: FE_FS_INJECT_INJ_RESYNC = 1. -/
def execFsInjResync (m : Master) (e : Eng) (w : Word) (s : State) : Host.Outcome State Fault Refusal :=
  run (writeFld m (feB e.val) R.FE_FS_INJECT_INJ_RESYNC 1 w) s

/-- R280. -/
def execWatchSample (n : Lane) (c : Fin 4) (taps : List (Nat × TapIn)) (s : State) : Host.Outcome State Fault Refusal :=
  run (chainSample n.val c.val taps) s

/-- R292. -/
def execLqfSample (n : Lane) (taps : List (Nat × TapIn)) (s : State) : Host.Outcome State Fault Refusal :=
  run (chainSample n.val 4 taps) s

/-- R282: A write of the register with WATCH_CTRL_RESTART. -/
def execWatchRestart (m : Master) (n : Lane) (w : Word) (s : State) : Host.Outcome State Fault Refusal :=
  run (writeReg m (laneB n.val) R.WATCH_CTRL_RESTART w) s

/-- R282. -/
def execWatchSyncReset (n : Lane) (c : Fin 5) (s : State) : Host.Outcome State Fault Refusal :=
  run (chainArrive n.val c.val) s

/-- R287. -/
def execWatchOutRead (m : Master) (n : Lane) (c : Fin 4) (s : State) : Host.Outcome State Fault Refusal :=
  run (readCmd m (chB n.val c.val + R.WATCH_CH_OUT_VAL_VALUE.off)) s

/-- R294: WATCH_INJECT_INJ_CROSS = 1. -/
def execWatchInjCross (m : Master) (n : Lane) (w : Word) (s : State) : Host.Outcome State Fault Refusal :=
  run (writeFld m (laneB n.val) R.WATCH_INJECT_INJ_CROSS 1 w) s

end Sys2Proof.Machine
end

