-- ==== Sys2Proof/Machine/GlbCmds.lean ====
section
/-! DEFINITION. Commands of chapter 01: register accesses, the access time-out, chip reset and the GLB injections. -/

namespace Sys2Proof.Machine

/-- R19, R35: a master writes any word of the map. -/
def execRegisterWrite (m : Master) (addr : Word) (w : Word) (s : State) : Host.Outcome State Fault Refusal :=
  run (writeCmd m addr.toNat w) s

/-- R19, R25, R35: a master reads any word of the map. -/
def execRegisterRead (m : Master) (addr : Word) (s : State) : Host.Outcome State Fault Refusal :=
  run (readCmd m addr.toNat) s

/-- R38. -/
def execAccessTimeout (s : State) : Host.Outcome State Fault Refusal := run accessTimeout s

/-- R46: CHIP = 1 with KEY 0xA5C3. -/
def execGlbReset (m : Master) (w : Word) (s : State) : Host.Outcome State Fault Refusal :=
  run (writeFld2 m glbB R.GLB_RESET_CHIP 1 R.GLB_RESET_KEY 0xA5C3 w) s

/-- R46. -/
def execChipResetBegin (s : State) : Host.Outcome State Fault Refusal := run chipResetBegin s

/-- R46. -/
def execChipResetRelease (s : State) : Host.Outcome State Fault Refusal := run chipResetRelease s

/-- R47. -/
def execGlbInjTimeout (m : Master) (w : Word) (s : State) : Host.Outcome State Fault Refusal :=
  run (writeFld m glbB R.GLB_INJECT_TIMEOUT 1 w) s

/-- R47. -/
def execGlbInjDecode (m : Master) (w : Word) (s : State) : Host.Outcome State Fault Refusal :=
  run (writeFld m glbB R.GLB_INJECT_DECODE 1 w) s

end Sys2Proof.Machine
end

