-- ==== Sys2Proof/Machine/HkCmds.lean ====
section
/-! DEFINITION. Commands of chapters 18 and 19: housekeeping, thermal protection and calibration; self-test and faults. -/

namespace Sys2Proof.Machine

/-- R463. -/
def execHkRoundStart (s : State) : Host.Outcome State Fault Refusal := run (hkRoundStart calRound) s

/-- R462. -/
def execHkDwellEnd (raws : List (BitVec 12)) (s : State) : Host.Outcome State Fault Refusal :=
  run (hkDwellEnd calRound raws) s

/-- R466: HK_CTRL_SELFCAL = 1. -/
def execSelfcal (m : Master) (w : Word) (s : State) : Host.Outcome State Fault Refusal :=
  run (writeFld m hkB R.HK_CTRL_SELFCAL 1 w) s

/-- R466. -/
def execSelfcalDone (zeroA refA zeroB refB : Nat) (s : State) : Host.Outcome State Fault Refusal :=
  run (selfcalDone zeroA refA zeroB refB) s

/-- R482: HK_CTRL_TRK_CLR = 1. -/
def execTrkClr (m : Master) (w : Word) (s : State) : Host.Outcome State Fault Refusal :=
  run (writeFld m hkB R.HK_CTRL_TRK_CLR 1 w) s

/-- R468: HK_LEGACY_CMD_START = 1. -/
def execLegacyCmd (m : Master) (w : Word) (s : State) : Host.Outcome State Fault Refusal :=
  run (writeFld m hkB R.HK_LEGACY_CMD_START 1 w) s

/-- R468. -/
def execLegacyConversionDone (raw : BitVec 12) (s : State) : Host.Outcome State Fault Refusal := run (legacyDone raw) s

/-- R469. -/
def execThermalReading (raws : List (BitVec 16)) (s : State) : Host.Outcome State Fault Refusal :=
  run (thermalReading raws) s

/-- R474: HK_SHUT_CLR_KEY = 0x7C1E. -/
def execShutClr (m : Master) (w : Word) (s : State) : Host.Outcome State Fault Refusal :=
  run (writeFld m hkB R.HK_SHUT_CLR_KEY 0x7C1E w) s

/-- R474. -/
def execShutClrDone (s : State) : Host.Outcome State Fault Refusal := run shutClrDone s

/-- R479: CAL_CMD_START = 1, CAL_CMD_OP = 1. -/
def execCalHkref (m : Master) (w : Word) (s : State) : Host.Outcome State Fault Refusal :=
  run (writeFld2 m calB R.CAL_CMD_START 1 R.CAL_CMD_OP 1 w) s

/-- R479: CAL_CMD_START = 1, CAL_CMD_OP = 2. -/
def execCalOsc (m : Master) (w : Word) (s : State) : Host.Outcome State Fault Refusal :=
  run (writeFld2 m calB R.CAL_CMD_START 1 R.CAL_CMD_OP 2 w) s

/-- R479: CAL_CMD_START = 1, CAL_CMD_OP = 3. -/
def execCalTemp (m : Master) (w : Word) (s : State) : Host.Outcome State Fault Refusal :=
  run (writeFld2 m calB R.CAL_CMD_START 1 R.CAL_CMD_OP 3 w) s

/-- R479: CAL_CMD_START = 1, CAL_CMD_OP = 4. -/
def execCalApply (m : Master) (w : Word) (s : State) : Host.Outcome State Fault Refusal :=
  run (writeFld2 m calB R.CAL_CMD_START 1 R.CAL_CMD_OP 4 w) s

/-- R480. -/
def execCalRunDone (x : CalMeas) (s : State) : Host.Outcome State Fault Refusal := run (calDone x) s

/-- R481: HK_INJECT_INJ_TEMP = 1. -/
def execHkInjTemp (m : Master) (w : Word) (s : State) : Host.Outcome State Fault Refusal :=
  run (writeFld m hkB R.HK_INJECT_INJ_TEMP 1 w) s

/-- R481: HK_INJECT_INJ_FAIL = 1. -/
def execHkInjFail (m : Master) (w : Word) (s : State) : Host.Outcome State Fault Refusal :=
  run (writeFld m hkB R.HK_INJECT_INJ_FAIL 1 w) s

/-- R481: HK_INJECT_INJ_SC = 1. -/
def execHkInjSc (m : Master) (w : Word) (s : State) : Host.Outcome State Fault Refusal :=
  run (writeFld m hkB R.HK_INJECT_INJ_SC 1 w) s

/-- R481: HK_INJECT_INJ_WIN = 1. -/
def execHkInjWin (m : Master) (w : Word) (s : State) : Host.Outcome State Fault Refusal :=
  run (writeFld m hkB R.HK_INJECT_INJ_WIN 1 w) s

/-- R481: CAL_INJECT_INJ_FAIL = 1. -/
def execCalInjFail (m : Master) (w : Word) (s : State) : Host.Outcome State Fault Refusal :=
  run (writeFld m calB R.CAL_INJECT_INJ_FAIL 1 w) s

/-- R481: CAL_INJECT_INJ_RANGE = 1. -/
def execCalInjRange (m : Master) (w : Word) (s : State) : Host.Outcome State Fault Refusal :=
  run (writeFld m calB R.CAL_INJECT_INJ_RANGE 1 w) s

/-- R485. -/
def execRotationStep (u : Fin 8) (s : State) : Host.Outcome State Fault Refusal := run (rotStart u.val) s

/-- R485. -/
def execShadeLbistDone (u : Fin 8) (sig : Word) (s : State) : Host.Outcome State Fault Refusal :=
  run (rotLbist u.val sig) s

/-- R488. -/
def execRotationCompareDone (u : Fin 8) (differs : Bool) (s : State) : Host.Outcome State Fault Refusal :=
  run (rotCompared u.val differs) s

/-- R485. -/
def execRotationSwap (u : Fin 8) (s : State) : Host.Outcome State Fault Refusal := run (rotSwap u.val) s

/-- R493: BIST_LOOP_CMD_START = 1, BIST_LOOP_CMD_OP = 1. -/
def execLoopNearEnd (m : Master) (w : Word) (s : State) : Host.Outcome State Fault Refusal :=
  run (writeFld2 m bistB R.BIST_LOOP_CMD_START 1 R.BIST_LOOP_CMD_OP 1 w) s

/-- R493: BIST_LOOP_CMD_START = 1, BIST_LOOP_CMD_OP = 2. -/
def execLoopReference (m : Master) (w : Word) (s : State) : Host.Outcome State Fault Refusal :=
  run (writeFld2 m bistB R.BIST_LOOP_CMD_START 1 R.BIST_LOOP_CMD_OP 2 w) s

/-- R493. -/
def execLoopCheckDone (errors : Nat) (rms : BitVec 8) (failing : Option (BitVec 8)) (s : State) : Host.Outcome State Fault Refusal :=
  run (loopDone errors rms failing) s

/-- R492: BIST_FUSE_CMD_KEY = 0xF05E. -/
def execFuseCmd (m : Master) (w : Word) (s : State) : Host.Outcome State Fault Refusal :=
  run (writeFld m bistB R.BIST_FUSE_CMD_KEY 0xF05E w) s

/-- R492. -/
def execFuseProgDone (verified : Bool) (s : State) : Host.Outcome State Fault Refusal := run (fuseDone verified) s

/-- R503: BIST_INJECT_INJ_SHADE = 1. -/
def execBistInjShade (m : Master) (w : Word) (s : State) : Host.Outcome State Fault Refusal :=
  run (writeFld m bistB R.BIST_INJECT_INJ_SHADE 1 w) s

/-- R503: BIST_INJECT_INJ_CMP = 1. -/
def execBistInjCmp (m : Master) (w : Word) (s : State) : Host.Outcome State Fault Refusal :=
  run (writeFld m bistB R.BIST_INJECT_INJ_CMP 1 w) s

/-- R503: BIST_INJECT_INJ_LOOP = 1. -/
def execBistInjLoop (m : Master) (w : Word) (s : State) : Host.Outcome State Fault Refusal :=
  run (writeFld m bistB R.BIST_INJECT_INJ_LOOP 1 w) s

/-- R503: BIST_INJECT_INJ_MBIST = 1. -/
def execBistInjMbist (m : Master) (w : Word) (s : State) : Host.Outcome State Fault Refusal :=
  run (writeFld m bistB R.BIST_INJECT_INJ_MBIST 1 w) s

/-- R501. -/
def execAliveToggle (s : State) : Host.Outcome State Fault Refusal := run aliveToggle s

/-- R501: A write of the register with FLT_ALIVE_KICK_KICK. -/
def execAliveKick (m : Master) (w : Word) (s : State) : Host.Outcome State Fault Refusal :=
  run (writeReg m fltB R.FLT_ALIVE_KICK_KICK w) s

/-- R501. -/
def execKickTimeout (s : State) : Host.Outcome State Fault Refusal := run kickTimeout s

/-- R504: FLT_CTRL_CLR_TOP = 1. -/
def execClrTop (m : Master) (w : Word) (s : State) : Host.Outcome State Fault Refusal :=
  run (writeFld m fltB R.FLT_CTRL_CLR_TOP 1 w) s

/-- R504: FLT_CTRL_REC_CLR = 1. -/
def execRecClr (m : Master) (w : Word) (s : State) : Host.Outcome State Fault Refusal :=
  run (writeFld m fltB R.FLT_CTRL_REC_CLR 1 w) s

/-- R504: FLT_SRC_CFG_CLR_TROUBLE = 1. -/
def execClrTrouble (m : Master) (w : Word) (s : State) : Host.Outcome State Fault Refusal :=
  run (writeFld m fltB R.FLT_SRC_CFG_CLR_TROUBLE 1 w) s

/-- R503: FLT_INJECT_INJ_LW = 1. -/
def execFltInjLw (m : Master) (w : Word) (s : State) : Host.Outcome State Fault Refusal :=
  run (writeFld m fltB R.FLT_INJECT_INJ_LW 1 w) s

/-- R503: FLT_INJECT_INJ_FULL = 1. -/
def execFltInjFull (m : Master) (w : Word) (s : State) : Host.Outcome State Fault Refusal :=
  run (writeFld m fltB R.FLT_INJECT_INJ_FULL 1 w) s

/-- R503: FLT_INJECT_INJ_KICK = 1. -/
def execFltInjKick (m : Master) (w : Word) (s : State) : Host.Outcome State Fault Refusal :=
  run (writeFld m fltB R.FLT_INJECT_INJ_KICK 1 w) s

end Sys2Proof.Machine
end

