-- ==== Sys2Proof/Machine/NcpCmds.lean ====
section
/-! DEFINITION. Commands of chapter 14: the management port and the control protocol. A typed row is a datagram of one message. -/

namespace Sys2Proof.Machine

/-- A frame, without its check sequence, arrives at the port while it is UP (R388): what it is follows from its bytes. -/
def portReceive (frame : List Byte) (s : State) : State :=
  if !s.portUp then s
  else match parsePort frame s with
    | .ncp peer data => dgramReceive peer data s
    | x => portAnswer x s

/-! The commands. -/

/-- R387: A write of the register with NCP_PORT_ENABLE. -/
def execPortEnable (m : Master) (w : Word) (s : State) : Host.Outcome State Fault Refusal :=
  run (writeReg m ncpB R.NCP_PORT_ENABLE w) s

/-- R387. -/
def execPortUp (s : State) : Host.Outcome State Fault Refusal := run portTrained s

/-- R387. -/
def execPortLinkLoss (s : State) : Host.Outcome State Fault Refusal := run portFail s

/-- R403: NCP_PORT_PORT_RST = 1. -/
def execPortRst (m : Master) (w : Word) (s : State) : Host.Outcome State Fault Refusal :=
  run (writeFld m ncpB R.NCP_PORT_PORT_RST 1 w) s

/-- R388. -/
def execArpRequest (frame : List (BitVec 8)) (s : State) : Host.Outcome State Fault Refusal := run (portReceive frame) s

/-- R388. -/
def execNeighbourSolicitation (frame : List (BitVec 8)) (s : State) : Host.Outcome State Fault Refusal :=
  run (portReceive frame) s

/-- R388. -/
def execEchoRequest (frame : List (BitVec 8)) (s : State) : Host.Outcome State Fault Refusal :=
  run (portReceive frame) s

/-- R388. -/
def execForeignFrame (frame : List (BitVec 8)) (s : State) : Host.Outcome State Fault Refusal :=
  run (portReceive frame) s

/-- R400. -/
def execDatagramReceived (peer : NcpPeer) (bytes : List (BitVec 8)) (s : State) : Host.Outcome State Fault Refusal :=
  run (dgramReceive peer bytes) s

/-- R399. -/
def execNcpOpen (peer : NcpPeer) (tag : Word) (flags seq credit : Word) (s : State) : Host.Outcome State Fault Refusal :=
  run (hostOpen peer tag flags seq credit) s

/-- R399. -/
def execNcpClose (slot : Fin 4) (tag : Word) (reason : Word) (s : State) : Host.Outcome State Fault Refusal :=
  run (hostMsg slot.val 0x02 tag (.close reason.toNat)) s

/-- R402. -/
def execNcpResync (slot : Fin 4) (tag : Word) (seq : Word) (s : State) : Host.Outcome State Fault Refusal :=
  run (hostMsg slot.val 0x03 tag (.resync seq.toNat)) s

/-- R391. -/
def execNcpKeepalive (slot : Fin 4) (tag : Word) (s : State) : Host.Outcome State Fault Refusal :=
  run (hostMsg slot.val 0x04 tag .keepalive) s

/-- R391. -/
def execNcpRead (slot : Fin 4) (tag : Word) (addrs : List Word) (s : State) : Host.Outcome State Fault Refusal :=
  run (hostMsg slot.val 0x10 tag (reqRead addrs)) s

/-- R391. -/
def execNcpReadSeq (slot : Fin 4) (tag : Word) (addr : Word) (count : Word) (s : State) : Host.Outcome State Fault Refusal :=
  run (hostMsg slot.val 0x11 tag (reqSeq addr count)) s

/-- R393. -/
def execNcpWrite (slot : Fin 4) (tag : Word) (cont : Bool) (pairs : List WritePair) (s : State) : Host.Outcome State Fault Refusal :=
  run (hostMsg slot.val 0x12 tag (reqWrite cont pairs)) s

/-- R394. -/
def execNcpCommit (slot : Fin 4) (tag : Word) (w : Word) (time : BitVec 64) (s : State) : Host.Outcome State Fault Refusal :=
  run (hostMsg slot.val 0x13 tag (.commit w time.toNat)) s

/-- R395. -/
def execNcpTimedBatch (slot : Fin 4) (tag : Word) (cont : Bool) (time : BitVec 64) (id : Word) (pairs : List WritePair) (s : State) : Host.Outcome State Fault Refusal :=
  run (hostMsg slot.val 0x14 tag (reqBatch cont time.toNat id pairs)) s

/-- R395. -/
def execNcpCancel (slot : Fin 4) (tag : Word) (id : Word) (s : State) : Host.Outcome State Fault Refusal :=
  run (hostMsg slot.val 0x15 tag (.cancel id)) s

/-- R396. -/
def execNcpBulkRead (slot : Fin 4) (tag : Word) (plot first count : Word) (s : State) : Host.Outcome State Fault Refusal :=
  run (hostMsg slot.val 0x20 tag (.bulkRead plot.toNat first.toNat count.toNat)) s

/-- R396. -/
def execNcpBulkWrite (slot : Fin 4) (tag : Word) (plot page span meta_ : Word) (data : List (BitVec 8)) (res : PageRes) (s : State) : Host.Outcome State Fault Refusal :=
  run (hostMsg slot.val 0x21 tag (.bulkWrite plot page span meta_ data res)) s

/-- R398. -/
def execNcpDigest (slot : Fin 4) (tag : Word) (s : State) : Host.Outcome State Fault Refusal :=
  run (hostMsg slot.val 0x40 tag .digest) s

/-- R396. -/
def execNcpBulkData (slot : Fin 4) (res : PageRes) (s : State) : Host.Outcome State Fault Refusal :=
  run (bulkSend slot.val res) s

/-- R397. -/
def execNcpEvent (slot : Fin 4) (s : State) : Host.Outcome State Fault Refusal := run (evSend slot.val) s

/-- R397. -/
def execEventHoldoffEnd (slot : Fin 4) (id : BitVec 11) (s : State) : Host.Outcome State Fault Refusal :=
  run (holdEnd slot.val id.toNat) s

/-- R395. -/
def execBatchDispatch (s : State) : Host.Outcome State Fault Refusal := run batchDispatch s

/-- R394. -/
def execNcpSemRetry (s : State) : Host.Outcome State Fault Refusal := run semRetry s

/-- R401. -/
def execRtoExpire (slot : Fin 4) (s : State) : Host.Outcome State Fault Refusal := run (rtoExpire slot.val) s

/-- R399. -/
def execSessionIdleTimeout (slot : Fin 4) (s : State) : Host.Outcome State Fault Refusal := run (sessIdle slot.val) s

/-- R399: NCP_SESS_STAT_CLOSE = 1. -/
def execSessClose (m : Master) (slot : Fin 4) (w : Word) (s : State) : Host.Outcome State Fault Refusal :=
  run (writeFld m (sessB slot.val) R.NCP_SESS_STAT_CLOSE 1 w) s

/-- R404: NCP_INJECT_INJ_BAD = 1. -/
def execNcpInjBad (m : Master) (w : Word) (s : State) : Host.Outcome State Fault Refusal :=
  run (writeFld m ncpB R.NCP_INJECT_INJ_BAD 1 w) s

/-- R404: NCP_INJECT_INJ_LINK = 1. -/
def execNcpInjLink (m : Master) (w : Word) (s : State) : Host.Outcome State Fault Refusal :=
  run (writeFld m ncpB R.NCP_INJECT_INJ_LINK 1 w) s

/-- R404: NCP_INJECT_INJ_LOSS = 1. -/
def execNcpInjLoss (m : Master) (w : Word) (s : State) : Host.Outcome State Fault Refusal :=
  run (writeFld m ncpB R.NCP_INJECT_INJ_LOSS 1 w) s

/-- R404: NCP_INJECT_INJ_EVT = 1. -/
def execNcpInjEvt (m : Master) (w : Word) (s : State) : Host.Outcome State Fault Refusal :=
  run (writeFld m ncpB R.NCP_INJECT_INJ_EVT 1 w) s

/-- R404: NCP_INJECT_INJ_LATE = 1. -/
def execNcpInjLate (m : Master) (w : Word) (s : State) : Host.Outcome State Fault Refusal :=
  run (writeFld m ncpB R.NCP_INJECT_INJ_LATE 1 w) s

end Sys2Proof.Machine
end

