-- ==== Sys2Proof/Machine/PinCmds.lean ====
section
/-! DEFINITION. Commands of chapters 15 and 20: boot, flash and MI2C, and the pins. -/

namespace Sys2Proof.Machine

/-- A flag of PIN_STAT is set. -/
def pinFlag (f : Fld) (s : State) : State := s.wr glbB f 1

/-- VDD_BIAS has been below 3.0 V for 2.0 µs (R512). -/
def biasUvFall (s : State) : State :=
  if s.biasUv then s
  else if s.por then { s with biasUv := true }
  else biasUvSet true ((pinFlag R.GLB_PIN_STAT_BIAS_UV s).cnt glbB R.GLB_PIN_CNT_BIAS_UV 1)

/-- VDD_BIAS has been back above 3.1 V for 100 µs (R512). -/
def biasUvRise (s : State) : State :=
  if !s.biasUv then s
  else if s.por then { s with biasUv := false }
  else biasUvSet false s

/-- Filtered RESET_N falls (R516): it has no effect in FATAL (R497), and in REST the part wakes to reset (R456). In OFF the
reset releases the shutdown under R473. -/
def resetFall (s : State) : State :=
  if s.fatal || s.resetLow then s
  else if s.por then { s with resetLow := true, resetAt := s.now }
  else
    let was := s.off || s.hk.offWait
    let t := chipReset R.GLB_RESET_CAUSE_PIN s
    { t with chipRstAt := none, off := false, resetLow := true, resetAt := s.now, hk := { t.hk with offWait := was } }

/-- Filtered RESET_N rises (R516, R514): `long` where it was low for more than 1 s. -/
def resetRise (long : Bool) (s : State) : State :=
  if !s.resetLow then s
  else
    let s := if long && !s.por then pinFlag R.GLB_PIN_STAT_RST_LONG (s.advanceNow (s.resetAt + usT 1000000)) else s
    let s := { s with resetLow := false }
    if s.inReset && s.chipRstAt.isNone then chipRelease s else s

/-- Filtered WAKE_N falls (R456, R514): `back` says that it had been high for 16 LPO cycles since it was stuck. -/
def wakeFall (back : Bool) (s : State) : State :=
  if s.por then s
  else
    let s := { s with pwr := { s.pwr with wakeBad := s.pwr.wakeBad && !back } }
    let s := s.wr glbB R.GLB_PIN_STAT_LVL_WAKE 0
    if s.on pwrB R.PWR_CTRL_WAKE_N_EN && !s.pwr.wakeBad then wakeSource 2 s else s

/-- WAKE_N has been low for WAKE_TO × 10 ms outside REST (R514). -/
def wakeStuckSet (s : State) : State :=
  if s.por || s.pwrState == 3 || s.pwr.wakeBad then s
  else
    let s := (pinFlag R.GLB_PIN_STAT_WAKE_STUCK s).cnt glbB R.GLB_PIN_CNT_WAKE_STUCK 1
    { s.wr glbB R.GLB_PIN_STAT_LVL_WAKE 0 with pwr := { s.pwr with wakeBad := true } }

/-- BIAS_CLR_N has been low for more than CLR_LONG × 100 ms (R514). -/
def clrLongSet (s : State) : State :=
  if !s.por && s.on safeB R.SAFE_STATUS_PIN_CLR then pinFlag R.GLB_PIN_STAT_CLR_LONG s else s

/-- TL_SYNC has been high for more than 1,024 TL_CLK cycles (R514). -/
def syncStuckSet (s : State) : State :=
  if s.por || s.syncBad.any (fun t => decide (s.now < t + 16 * 250)) then s
  else { (pinFlag R.GLB_PIN_STAT_SYNC_STUCK s).cnt glbB R.GLB_PIN_CNT_SYNC_STUCK 1 with syncBad := some s.now }

/-- The JTAG reset instruction (R46): the reset begins at once and holds the part for 10 µs. -/
def jtagReset (s : State) : State :=
  if s.fatal || s.off || s.por || s.inReset then s
  else
    let t := chipReset R.GLB_RESET_CAUSE_JTAG s
    { t with chipRstAt := some (s.now + usT 10), rstCause := 4 }

/-! MI2C (R419 to R421). -/

/-- The target takes transactions: not in reset, and in REST where an address match wakes the part (R456). -/
def mi2cTakes (s : State) : Bool :=
  !s.por && !s.inReset && (s.off || s.fatal || s.pwrState != 3 || s.on pwrB R.PWR_CTRL_MI2C_WAKE_EN)

/-- An address match in REST, or while REST is entered, is a wake source (R456). -/
def mi2cMatch (s : State) : State :=
  if !s.por && !s.inReset && s.on pwrB R.PWR_CTRL_MI2C_WAKE_EN then wakeSource 1 s else s

/-- A malformed transaction: not executed, counted, raised. -/
def mi2cBad (s : State) : State := raiseHeld 0x445 (s.cnt bootB R.BOOT_MI2C_CNT_PROTO 1)

/-- The STOP of a transaction: the address register takes effect (R420). -/
def mi2cStop (s : State) : State := { s with mi2cAddr := s.rd bootB R.BOOT_MI2C_CFG_ADDR }

/-- A transaction of a right count of bytes, or one that INJ_MI2C takes as malformed (R422). -/
def mi2cRun (ok : Bool) (f : State → State) (s : State) : State :=
  if !mi2cTakes s then s
  else
    let s := mi2cMatch s
    if s.bootInj.testBit 3 then mi2cStop (mi2cBad { s with bootInj := s.bootInj - 8 })
    else if ok then mi2cStop (f (s.cnt bootB R.BOOT_MI2C_CNT_ACCESSES 1))
    else mi2cStop (mi2cBad s)

/-- A register access of a transaction: its status byte and what the read delivers. -/
def mi2cAccess (write : Bool) (a : Nat) (w : Word) (s : State) : State :=
  let r := access .mi2c write a w s
  if r.2.2 == .waiting then r.1
  else { mi2cDone write r.2.2 r.1 with resp := some ⟨.mi2c, a, write, if write then 0 else r.2.1, r.2.2⟩ }

/-- 0x01 WRITE: 4 address bytes and 4 data bytes. -/
def mi2cWriteTx (bytes : List Byte) (s : State) : State :=
  mi2cRun (bytes.length == 8) (mi2cAccess true (fb32 bytes 0) (BitVec.ofNat 32 (fb32 bytes 4))) s

/-- 0x02 READ: 4 address bytes. -/
def mi2cReadTx (bytes : List Byte) (s : State) : State :=
  mi2cRun (bytes.length == 4) (mi2cAccess false (fb32 bytes 0) 0) s

/-- 0x03 STATUS: no byte. -/
def mi2cStatusTx (bytes : List Byte) (s : State) : State :=
  mi2cRun (bytes.length == 0) (fun s => { s with mi2cByte := some s.mi2cLast }) s

/-- SCL has been held low by the controller for over 25 ms (R514). -/
def mi2cTimeout (s : State) : State :=
  if s.por then s
  else mi2cBad ((pinFlag R.GLB_PIN_STAT_MI2C_TO s).cnt glbB R.GLB_PIN_CNT_MI2C_TO 1)

/-- The ember counter reaches the alarm count to which TL.EMBER_ALARM was converted at REST entry (R67). -/
def emberAlarmHit (s : State) : State :=
  match s.tl.alarmAt with
  | some h =>
    if !s.por && s.on tlB R.TL_EMBER_CTRL_ALARM_EN then
      wakeSource 3 (s.advanceNow (Config.lpoInstant (Config.lpoCycles 0 + h)))
    else s
  | none => s

/-! The commands. -/

/-- R413. -/
def execBootSequence (x : BootIn) (s : State) : Host.Outcome State Fault Refusal := run (bootSequence x) s

/-- R412: BOOT_KEY_CMD_KEY = 0x4A53. -/
def execKeyCmd (m : Master) (w : Word) (s : State) : Host.Outcome State Fault Refusal :=
  run (writeFld m bootB R.BOOT_KEY_CMD_KEY 0x4A53 w) s

/-- R412. -/
def execKeyProgDone (verified : Bool) (s : State) : Host.Outcome State Fault Refusal := run (keyDone verified) s

/-- R423: BOOT_QSPI_CMD_START = 1, BOOT_QSPI_CMD_OP = 0. -/
def execQspiRead (m : Master) (w : Word) (s : State) : Host.Outcome State Fault Refusal :=
  run (writeFld2 m bootB R.BOOT_QSPI_CMD_START 1 R.BOOT_QSPI_CMD_OP 0 w) s

/-- R423: BOOT_QSPI_CMD_START = 1, BOOT_QSPI_CMD_OP = 1. -/
def execQspiProgram (m : Master) (w : Word) (s : State) : Host.Outcome State Fault Refusal :=
  run (writeFld2 m bootB R.BOOT_QSPI_CMD_START 1 R.BOOT_QSPI_CMD_OP 1 w) s

/-- R423: BOOT_QSPI_CMD_START = 1, BOOT_QSPI_CMD_OP = 2. -/
def execQspiErase (m : Master) (w : Word) (s : State) : Host.Outcome State Fault Refusal :=
  run (writeFld2 m bootB R.BOOT_QSPI_CMD_START 1 R.BOOT_QSPI_CMD_OP 2 w) s

/-- R423: BOOT_QSPI_CMD_START = 1, BOOT_QSPI_CMD_OP = 3. -/
def execQspiReadStatus (m : Master) (w : Word) (s : State) : Host.Outcome State Fault Refusal :=
  run (writeFld2 m bootB R.BOOT_QSPI_CMD_START 1 R.BOOT_QSPI_CMD_OP 3 w) s

/-- R423. -/
def execQspiDone (busy : Bool) (status : BitVec 8) (s : State) : Host.Outcome State Fault Refusal :=
  run (qspiDone busy status) s

/-- R419. -/
def execMi2cWrite (bytes : List (BitVec 8)) (s : State) : Host.Outcome State Fault Refusal := run (mi2cWriteTx bytes) s

/-- R419. -/
def execMi2cRead (bytes : List (BitVec 8)) (s : State) : Host.Outcome State Fault Refusal := run (mi2cReadTx bytes) s

/-- R419. -/
def execMi2cStatus (bytes : List (BitVec 8)) (s : State) : Host.Outcome State Fault Refusal :=
  run (mi2cStatusTx bytes) s

/-- R514. -/
def execMi2cTimeout (s : State) : Host.Outcome State Fault Refusal := run mi2cTimeout s

/-- R422: BOOT_INJECT_INJ_IMAGE = 1. -/
def execBootInjImage (m : Master) (w : Word) (s : State) : Host.Outcome State Fault Refusal :=
  run (writeFld m bootB R.BOOT_INJECT_INJ_IMAGE 1 w) s

/-- R422: BOOT_INJECT_INJ_TRAIN = 1. -/
def execBootInjTrain (m : Master) (w : Word) (s : State) : Host.Outcome State Fault Refusal :=
  run (writeFld m bootB R.BOOT_INJECT_INJ_TRAIN 1 w) s

/-- R422: BOOT_INJECT_INJ_LBIST = 1. -/
def execBootInjLbist (m : Master) (w : Word) (s : State) : Host.Outcome State Fault Refusal :=
  run (writeFld m bootB R.BOOT_INJECT_INJ_LBIST 1 w) s

/-- R422: BOOT_INJECT_INJ_MI2C = 1. -/
def execBootInjMi2c (m : Master) (w : Word) (s : State) : Host.Outcome State Fault Refusal :=
  run (writeFld m bootB R.BOOT_INJECT_INJ_MI2C 1 w) s

/-- R511. -/
def execPorRelease (testMode : Bool) (s : State) : Host.Outcome State Fault Refusal := run (porRelease testMode) s

/-- R512. -/
def execRailBrownout (s : State) : Host.Outcome State Fault Refusal := run porAssert s

/-- R512. -/
def execBiasUndervoltage (s : State) : Host.Outcome State Fault Refusal := run biasUvFall s

/-- R512. -/
def execBiasUvRecover (s : State) : Host.Outcome State Fault Refusal := run biasUvRise s

/-- R516. -/
def execResetNAssert (s : State) : Host.Outcome State Fault Refusal := run resetFall s

/-- R516. -/
def execResetNRelease (long : Bool) (s : State) : Host.Outcome State Fault Refusal := run (resetRise long) s

/-- R456. -/
def execWakeNAssert (back : Bool) (s : State) : Host.Outcome State Fault Refusal := run (wakeFall back) s

/-- R514. -/
def execWakeStuck (s : State) : Host.Outcome State Fault Refusal := run wakeStuckSet s

/-- R514. -/
def execClrLong (s : State) : Host.Outcome State Fault Refusal := run clrLongSet s

/-- R514. -/
def execSyncStuck (s : State) : Host.Outcome State Fault Refusal := run syncStuckSet s

/-- R46. -/
def execJtagReset (s : State) : Host.Outcome State Fault Refusal := run jtagReset s

/-- R456. -/
def execMi2cAddressMatch (s : State) : Host.Outcome State Fault Refusal := run mi2cMatch s

/-- R67. -/
def execEmberAlarm (s : State) : Host.Outcome State Fault Refusal := run emberAlarmHit s

end Sys2Proof.Machine
end

