-- ==== Sys2Proof/Machine/PwrCmds.lean ====
section
/-! DEFINITION. Commands of chapters 16 and 17: clocks, power domains and power states. -/

namespace Sys2Proof.Machine

/-- R428. -/
def execMonitorWindowEnd (j : Fin 4) (count : BitVec 16) (s : State) : Host.Outcome State Fault Refusal :=
  run (monWindow j.val count.toNat) s

/-- R429. -/
def execPllLockLoss (mem : Bool) (s : State) : Host.Outcome State Fault Refusal := run (pllLoss mem) s

/-- R430. -/
def execIroReady (s : State) : Host.Outcome State Fault Refusal := run iroReady s

/-- R430. -/
def execIroFailTimeout (s : State) : Host.Outcome State Fault Refusal := run iroFail s

/-- R432: CLK_CTRL_RESUME = 1. -/
def execClkResume (m : Master) (w : Word) (s : State) : Host.Outcome State Fault Refusal :=
  run (writeFld m clkB R.CLK_CTRL_RESUME 1 w) s

/-- R432. -/
def execCorePllRelocked (s : State) : Host.Outcome State Fault Refusal := run coreRelocked s

/-- R432. -/
def execResumeTimeout (s : State) : Host.Outcome State Fault Refusal := run resumeTimeout s

/-- R433. -/
def execMemPllRelocked (s : State) : Host.Outcome State Fault Refusal := run memRelocked s

/-- R435: A write of the register with CLK_CTRL_IRO_STBY. -/
def execIroStbyWrite (m : Master) (w : Word) (s : State) : Host.Outcome State Fault Refusal :=
  run (writeReg m clkB R.CLK_CTRL_IRO_STBY w) s

/-- R436: A write of the register with CLK_GATE_CLOSE. -/
def execGateRequest (m : Master) (w : Word) (s : State) : Host.Outcome State Fault Refusal :=
  run (writeReg m clkB R.CLK_GATE_CLOSE w) s

/-- R436. -/
def execGateClose (g : Fin 14) (s : State) : Host.Outcome State Fault Refusal := run (gateClose g.val) s

/-- R436. -/
def execGateRefuseTimeout (g : Fin 14) (mid : BitVec 8) (s : State) : Host.Outcome State Fault Refusal :=
  run (gateRefuse g.val mid.toNat) s

/-- R441: CLK_INJECT_INJ_LREF = 1. -/
def execClkInjLref (m : Master) (w : Word) (s : State) : Host.Outcome State Fault Refusal :=
  run (writeFld m clkB R.CLK_INJECT_INJ_LREF 1 w) s

/-- R441: CLK_INJECT_INJ_SYSXI = 1. -/
def execClkInjSysxi (m : Master) (w : Word) (s : State) : Host.Outcome State Fault Refusal :=
  run (writeFld m clkB R.CLK_INJECT_INJ_SYSXI 1 w) s

/-- R441: CLK_INJECT_INJ_GATE = 1. -/
def execClkInjGate (m : Master) (w : Word) (s : State) : Host.Outcome State Fault Refusal :=
  run (writeFld m clkB R.CLK_INJECT_INJ_GATE 1 w) s

/-- R441: CLK_INJECT_INJ_IRO = 1. -/
def execClkInjIro (m : Master) (w : Word) (s : State) : Host.Outcome State Fault Refusal :=
  run (writeFld m clkB R.CLK_INJECT_INJ_IRO 1 w) s

/-- R448: A write of DOM_REQ[i]. -/
def execDomPowerDownReq (m : Master) (i : Fin 3) (w : Word) (s : State) : Host.Outcome State Fault Refusal :=
  run (writeCmd m (pwrB + R.PWR_DOM_REQ_REQ.off + 4 * i.val) w) s

/-- R448: A write of DOM_REQ[i]. -/
def execDomPowerUpReq (m : Master) (i : Fin 3) (w : Word) (s : State) : Host.Outcome State Fault Refusal :=
  run (writeCmd m (pwrB + R.PWR_DOM_REQ_REQ.off + 4 * i.val) w) s

/-- R448. -/
def execDomDrained (d : Dom) (s : State) : Host.Outcome State Fault Refusal := run (domDrained d.val) s

/-- R448. -/
def execDomDrainTimeout (d : Dom) (s : State) : Host.Outcome State Fault Refusal := run (domDrainTimeout d.val) s

/-- R454. -/
def execDomAdmit (s : State) : Host.Outcome State Fault Refusal := run domAdmit s

/-- R454. -/
def execTokenReturn (s : State) : Host.Outcome State Fault Refusal := run tokReturn s

/-- R447. -/
def execDomDigRdy (d : Dom) (s : State) : Host.Outcome State Fault Refusal := run (domDig d.val) s

/-- R447. -/
def execDomRampFail (d : Dom) (s : State) : Host.Outcome State Fault Refusal := run (domFail d.val) s

/-- R447. -/
def execDomAnaRdy (d : Dom) (s : State) : Host.Outcome State Fault Refusal := run (domAna d.val) s

/-- R447. -/
def execDomOff (d : Dom) (s : State) : Host.Outcome State Fault Refusal := run (domOff d.val) s

/-- R452: PWR_CTRL_REST_REQ = 1. -/
def execRestReq (m : Master) (w : Word) (s : State) : Host.Outcome State Fault Refusal :=
  run (writeFld m pwrB R.PWR_CTRL_REST_REQ 1 w) s

/-- R452: A write of the register with PWR_SQ_ANSWER_ANSWER. -/
def execSqAnswer (m : Master) (w : Word) (s : State) : Host.Outcome State Fault Refusal :=
  run (writeReg m pwrB R.PWR_SQ_ANSWER_ANSWER w) s

/-- R452. -/
def execRestSqTimeout (s : State) : Host.Outcome State Fault Refusal := run sqTimeout s

/-- R452. -/
def execRestCommit (s : State) : Host.Outcome State Fault Refusal := run restCommit s

/-- R456. -/
def execWake (us : BitVec 16) (coreLocked memLocked : Bool) (s : State) : Host.Outcome State Fault Refusal :=
  run (wakeRun us.toNat coreLocked memLocked) s

/-- R456. -/
def execWakeComplete (s : State) : Host.Outcome State Fault Refusal := run wakeDone s

/-- R458: PWR_INJECT_INJ_REFUSE = 1. -/
def execPwrInjRefuse (m : Master) (w : Word) (s : State) : Host.Outcome State Fault Refusal :=
  run (writeFld m pwrB R.PWR_INJECT_INJ_REFUSE 1 w) s

/-- R458: PWR_INJECT_INJ_TOKEN = 1. -/
def execPwrInjToken (m : Master) (w : Word) (s : State) : Host.Outcome State Fault Refusal :=
  run (writeFld m pwrB R.PWR_INJECT_INJ_TOKEN 1 w) s

/-- R458: PWR_INJECT_INJ_DOMFAIL = 1. -/
def execPwrInjDomfail (m : Master) (w : Word) (s : State) : Host.Outcome State Fault Refusal :=
  run (writeFld m pwrB R.PWR_INJECT_INJ_DOMFAIL 1 w) s

end Sys2Proof.Machine
end

