-- ==== Sys2Proof/Machine/RxCmds.lean ====
section
/-! DEFINITION. Commands of chapters 03 and 04: a lane's front end and its equaliser. -/

namespace Sys2Proof.Machine

/-- LOS is evaluated in a receive state (R86); with BURST the burst energy threshold replaces it. -/
def losEvaluated (n : Nat) (s : State) : Bool :=
  decide (3 ≤ s.rxState n ∧ s.rxState n ≤ 6) && !(glint n && s.on (laneB n) R.RX_CTRL_BURST)

/-- The detector's reading. -/
def losReading (n swing : Nat) (s : State) : State := s.wr (laneB n) R.RX_LEVEL_SWING swing

/-- The swing, in 4 mVppd, has stayed below the assert level for ASSERT_TIME (R85). A swing that is not below it is only
read. -/
def losBelow (n swing : Nat) (s : State) : State :=
  if !losEvaluated n s then s
  else if swing < s.rd (laneB n) R.RX_LOS_CFG_ASSERT_TH then rxLosAssert n (losReading n swing s)
  else losReading n swing s

/-- The swing has stayed above the deassert level for DEASSERT_TIME (R85). -/
def losAbove (n swing : Nat) (s : State) : State :=
  if !losEvaluated n s then s
  else if losOffLevel n s < swing then rxLosDeassert n (losReading n swing s)
  else losReading n swing s

/-- A cross-fade of the equaliser, the transmit FFE or the ISI filter reaches its last symbol (R110, R146, R345). -/
def crossfadeEnd (n : Nat) (path : FadePath) (s : State) : State :=
  match path with
  | .eq => eqFadeEnd n s
  | .tx => txFadeEnd n s
  | .haze => hazeFadeEnd n s

/-- A statistics push completes (R126); the core's counter takes it where one completed (R381). -/
def statPushDone (n : Nat) (s : State) : State :=
  if (s.eqOf n).stat == 3 then coreCount (n / 4) 0x12 1 (eqPushDone n s) else s

/-! The commands. -/

/-- R101: A write of the register with RX_CTRL_ENABLE. -/
def execRxEnable (m : Master) (n : Lane) (w : Word) (s : State) : Host.Outcome State Fault Refusal :=
  run (writeReg m (laneB n.val) R.RX_CTRL_ENABLE w) s

/-- R105: RX_CTRL_LANE_RST = 1. -/
def execLaneRst (m : Master) (n : Lane) (w : Word) (s : State) : Host.Outcome State Fault Refusal :=
  run (writeFld m (laneB n.val) R.RX_CTRL_LANE_RST 1 w) s

/-- R83. -/
def execAgcEval (n : Lane) (codes : List (BitVec 8)) (s : State) : Host.Outcome State Fault Refusal :=
  run (rxAgc n.val codes) s

/-- R85. -/
def execLosAssert (n : Lane) (swing : BitVec 8) (s : State) : Host.Outcome State Fault Refusal :=
  run (losBelow n.val swing.toNat) s

/-- R85. -/
def execLosDeassert (n : Lane) (swing : BitVec 8) (s : State) : Host.Outcome State Fault Refusal :=
  run (losAbove n.val swing.toNat) s

/-- R91. -/
def execCalRoundEnd (n : Lane) (sums : List RoundSum) (s : State) : Host.Outcome State Fault Refusal :=
  run (rxRound n.val sums) s

/-- R94: A write of the register with RX_TRIM_DATA_OFS. -/
def execTrimDataWrite (m : Master) (n : Lane) (w : Word) (s : State) : Host.Outcome State Fault Refusal :=
  run (writeReg m (laneB n.val) R.RX_TRIM_DATA_OFS w) s

/-- R101. -/
def execTrWindowEnd (n : Lane) (pd : List PdOut) (s : State) : Host.Outcome State Fault Refusal :=
  run (rxWindow n.val pd) s

/-- R104: RX_INJECT_INJ_LOS = 1. -/
def execRxInjLos (m : Master) (n : Lane) (w : Word) (s : State) : Host.Outcome State Fault Refusal :=
  run (writeFld m (laneB n.val) R.RX_INJECT_INJ_LOS 1 w) s

/-- R104: RX_INJECT_INJ_UNLOCK = 1. -/
def execRxInjUnlock (m : Master) (n : Lane) (w : Word) (s : State) : Host.Outcome State Fault Refusal :=
  run (writeFld m (laneB n.val) R.RX_INJECT_INJ_UNLOCK 1 w) s

/-- R104: RX_INJECT_INJ_CAL = 1. -/
def execRxInjCal (m : Master) (n : Lane) (w : Word) (s : State) : Host.Outcome State Fault Refusal :=
  run (writeFld m (laneB n.val) R.RX_INJECT_INJ_CAL 1 w) s

/-- R109: A write of the register with EQ_COEF_DATA_LOW. -/
def execEqCoefWrite (m : Master) (n : Lane) (w : Word) (s : State) : Host.Outcome State Fault Refusal :=
  run (writeReg m (laneB n.val) R.EQ_COEF_DATA_LOW w) s

/-- R128: EQ_LOAD_START = 1. -/
def execEqLoadStart (m : Master) (n : Lane) (w : Word) (s : State) : Host.Outcome State Fault Refusal :=
  run (writeFld m (laneB n.val) R.EQ_LOAD_START 1 w) s

/-- R128. -/
def execEqLoadDone (n : Lane) (s : State) : Host.Outcome State Fault Refusal := run (eqLoadDone n.val) s

/-- R110. -/
def execCrossfadeEnd (n : Lane) (path : FadePath) (s : State) : Host.Outcome State Fault Refusal :=
  run (crossfadeEnd n.val path) s

/-- R127: EQ_STAT_CTRL_START = 1. -/
def execStatStart (m : Master) (n : Lane) (w : Word) (s : State) : Host.Outcome State Fault Refusal :=
  run (writeFld m (laneB n.val) R.EQ_STAT_CTRL_START 1 w) s

/-- R125. -/
def execStatBlockEnd (n : Lane) (x : RxStretch) (s : State) : Host.Outcome State Fault Refusal :=
  run (eqStatEnd n.val x) s

/-- R126. -/
def execStatPushDone (n : Lane) (s : State) : Host.Outcome State Fault Refusal := run (statPushDone n.val) s

/-- R131. -/
def execMseWindowEnd (n : Lane) (x : RxStretch) (s : State) : Host.Outcome State Fault Refusal :=
  run (eqMseEnd n.val x) s

/-- R118. -/
def execTrellisModeChange (n : Lane) (s : State) : Host.Outcome State Fault Refusal := run (eqTrellisMode n.val) s

/-- R136: EQ_INJECT_INJ_MSE = 1. -/
def execEqInjMse (m : Master) (n : Lane) (w : Word) (s : State) : Host.Outcome State Fault Refusal :=
  run (writeFld m (laneB n.val) R.EQ_INJECT_INJ_MSE 1 w) s

/-- R136: EQ_INJECT_INJ_ALARM = 1. -/
def execEqInjAlarm (m : Master) (n : Lane) (w : Word) (s : State) : Host.Outcome State Fault Refusal :=
  run (writeFld m (laneB n.val) R.EQ_INJECT_INJ_ALARM 1 w) s

end Sys2Proof.Machine
end

