-- ==== Sys2Proof/Machine/StoreCmds.lean ====
section
/-! DEFINITION. Commands of chapters 11 and 12: the Meadow store, and Haze. -/

namespace Sys2Proof.Machine

/-- A frame of a channel exists (R296). -/
def frameExists (f : Nat) (s : State) : Bool := decide (f < framesPerStack s)

/-- A frame of a channel that serves pages is read (R302). -/
def frameRead (m f : Nat) (res : PageRes) (s : State) : State :=
  if s.mcUp m && frameExists f s then (pageRead m f res s).1 else s

/-- An access to a frame meets an interface parity error (R337). -/
def frameParity (m f : Nat) (write second : Bool) (s : State) : State :=
  if s.mcUp m && frameExists f s then hbmParity m f write second s else s

/-! The commands. -/

/-- R306: MDW_PLOT_CMD_OP = 1. -/
def execPlotStart (m : Master) (w : Word) (s : State) : Host.Outcome State Fault Refusal :=
  run (writeFld m mdwB R.MDW_PLOT_CMD_OP 1 w) s

/-- R306: MDW_PLOT_CMD_OP = 2. -/
def execPlotStop (m : Master) (w : Word) (s : State) : Host.Outcome State Fault Refusal :=
  run (writeFld m mdwB R.MDW_PLOT_CMD_OP 2 w) s

/-- R306: MDW_PLOT_CMD_OP = 3. -/
def execPlotReset (m : Master) (w : Word) (s : State) : Host.Outcome State Fault Refusal :=
  run (writeFld m mdwB R.MDW_PLOT_CMD_OP 3 w) s

/-- R307. -/
def execPageComplete (p : Fin 256) (x : PageIn) (s : State) : Host.Outcome State Fault Refusal :=
  run (pageComplete p.val x) s

/-- R315. -/
def execTriggerFire (t : Lane) (s : State) : Host.Outcome State Fault Refusal := run (fireArrive t.val) s

/-- R314: MDW_TRIG_CMD_FIRE = 1. -/
def execTrigFireCmd (m : Master) (w : Word) (s : State) : Host.Outcome State Fault Refusal :=
  run (writeFld m mdwB R.MDW_TRIG_CMD_FIRE 1 w) s

/-- R315: MDW_TRIG_CMD_REARM = 1. -/
def execTrigRearm (m : Master) (w : Word) (s : State) : Host.Outcome State Fault Refusal :=
  run (writeFld m mdwB R.MDW_TRIG_CMD_REARM 1 w) s

/-- R318. -/
def execReplayPrefetchDone (r : Lane) (s : State) : Host.Outcome State Fault Refusal := run (rpPrefetched r.val) s

/-- R318. -/
def execReplayStart (r : Lane) (s : State) : Host.Outcome State Fault Refusal := run (rpReached r.val) s

/-- R318: MDW_RP_CMD_STOP = 1. -/
def execReplayStop (m : Master) (w : Word) (s : State) : Host.Outcome State Fault Refusal :=
  run (writeFld m mdwB R.MDW_RP_CMD_STOP 1 w) s

/-- R319. -/
def execReplayFrameSend (r : Lane) (reads : List PageRes) (s : State) : Host.Outcome State Fault Refusal :=
  run (rpSend r.val reads) s

/-- R321. -/
def execReplayUnderrun (r : Lane) (s : State) : Host.Outcome State Fault Refusal := run (rpUnder r.val) s

/-- R302. -/
def execPageRead (m : Chan) (f : Nat) (res : PageRes) (s : State) : Host.Outcome State Fault Refusal :=
  run (frameRead m.val f res) s

/-- R328. -/
def execPageRewrite (m : Chan) (f : Nat) (s : State) : Host.Outcome State Fault Refusal := run (pageRewrite m.val f) s

/-- R332. -/
def execScrubRead (m : Chan) (res : PageRes) (s : State) : Host.Outcome State Fault Refusal :=
  run (scrubRead m.val res) s

/-- R326. -/
def execRmwWrite (p : Fin 256) (ofs : Nat) (data : List (BitVec 8)) (res : PageRes) (s : State) : Host.Outcome State Fault Refusal :=
  run (rmwSpan p.val ofs data res) s

/-- R333: MC_REPAIR_OP = 1. -/
def execMcRepairSoft (m : Master) (c : Chan) (w : Word) (s : State) : Host.Outcome State Fault Refusal :=
  run (writeFld m (mcB c.val) R.MC_REPAIR_OP 1 w) s

/-- R333: MC_REPAIR_OP = 2. -/
def execMcRepairHard (m : Master) (c : Chan) (w : Word) (s : State) : Host.Outcome State Fault Refusal :=
  run (writeFld m (mcB c.val) R.MC_REPAIR_OP 2 w) s

/-- R333. -/
def execMcRepairDone (c : Chan) (fail : Bool) (s : State) : Host.Outcome State Fault Refusal :=
  run (mcRepairDone c.val fail) s

/-- R338: MC_CTRL_MC_RST = 1. -/
def execMcRst (m : Master) (c : Chan) (w : Word) (s : State) : Host.Outcome State Fault Refusal :=
  run (writeFld m (mcB c.val) R.MC_CTRL_MC_RST 1 w) s

/-- R338: MC_LOG_SEL_CLEAR = 1. -/
def execLogClear (m : Master) (c : Chan) (w : Word) (s : State) : Host.Outcome State Fault Refusal :=
  run (writeFld m (mcB c.val) R.MC_LOG_SEL_CLEAR 1 w) s

/-- R337. -/
def execHbmParityError (c : Chan) (f : Nat) (write : Bool) (second : Bool) (s : State) : Host.Outcome State Fault Refusal :=
  run (frameParity c.val f write second) s

/-- R337: MC_INJECT_INJ_COR = 1. -/
def execMcInjCor (m : Master) (c : Chan) (w : Word) (s : State) : Host.Outcome State Fault Refusal :=
  run (writeFld m (mcB c.val) R.MC_INJECT_INJ_COR 1 w) s

/-- R337: MC_INJECT_INJ_UNC = 1. -/
def execMcInjUnc (m : Master) (c : Chan) (w : Word) (s : State) : Host.Outcome State Fault Refusal :=
  run (writeFld m (mcB c.val) R.MC_INJECT_INJ_UNC 1 w) s

/-- R337: MC_INJECT_INJ_SPARE = 1. -/
def execMcInjSpare (m : Master) (c : Chan) (w : Word) (s : State) : Host.Outcome State Fault Refusal :=
  run (writeFld m (mcB c.val) R.MC_INJECT_INJ_SPARE 1 w) s

/-- R337: MC_INJECT_INJ_REPAIR = 1. -/
def execMcInjRepair (m : Master) (c : Chan) (w : Word) (s : State) : Host.Outcome State Fault Refusal :=
  run (writeFld m (mcB c.val) R.MC_INJECT_INJ_REPAIR 1 w) s

/-- R337: MC_INJECT_INJ_IF = 1. -/
def execMcInjIf (m : Master) (c : Chan) (w : Word) (s : State) : Host.Outcome State Fault Refusal :=
  run (writeFld m (mcB c.val) R.MC_INJECT_INJ_IF 1 w) s

/-- R337: MDW_INJECT_INJ_ADMIT = 1. -/
def execMdwInjAdmit (m : Master) (w : Word) (s : State) : Host.Outcome State Fault Refusal :=
  run (writeFld m mdwB R.MDW_INJECT_INJ_ADMIT 1 w) s

/-- R337: MDW_INJECT_INJ_OVF = 1. -/
def execMdwInjOvf (m : Master) (w : Word) (s : State) : Host.Outcome State Fault Refusal :=
  run (writeFld m mdwB R.MDW_INJECT_INJ_OVF 1 w) s

/-- R337: MDW_INJECT_INJ_UNDER = 1. -/
def execMdwInjUnder (m : Master) (w : Word) (s : State) : Host.Outcome State Fault Refusal :=
  run (writeFld m mdwB R.MDW_INJECT_INJ_UNDER 1 w) s

/-- R340. -/
def execHazeHold (n : Lane) (s : State) : Host.Outcome State Fault Refusal := run (hazeHold n.val) s

/-- R340. -/
def execHazePrime (n : Lane) (words : List (BitVec 2)) (sent : Nat) (s : State) : Host.Outcome State Fault Refusal :=
  run (hazePrime n.val words sent) s

/-- R340. -/
def execHazePrimeFilled (n : Lane) (words : List (BitVec 2)) (s : State) : Host.Outcome State Fault Refusal :=
  run (hazeFilled n.val words) s

/-- R341. -/
def execHazeSlip (n : Lane) (words : List (BitVec 2)) (sent : Nat) (s : State) : Host.Outcome State Fault Refusal :=
  run (hazeSlip n.val words sent) s

/-- R343. -/
def execHazeBurstStart (n : Lane) (words : List (BitVec 2)) (s : State) : Host.Outcome State Fault Refusal :=
  run (hazeBurstStart n.val words) s

/-- R347. -/
def execNoiseWindowEnd (n : Lane) (words : List (BitVec 2)) (s : State) : Host.Outcome State Fault Refusal :=
  run (noiseWindow n.val words) s

/-- R345: A write of the register with HAZE_COEF_DATA_TAP. -/
def execHazeCoefWrite (m : Master) (n : Lane) (w : Word) (s : State) : Host.Outcome State Fault Refusal :=
  run (writeReg m (laneB n.val) R.HAZE_COEF_DATA_TAP w) s

/-- R353. -/
def execHazeRelease (e : Eng) (s : State) : Host.Outcome State Fault Refusal := run (hzDue e.val) s

/-- R351. -/
def execHazeReorderTimeout (e : Eng) (s : State) : Host.Outcome State Fault Refusal := run (hzTimeout e.val) s

/-- R356: FE_HZ_CMD_CLEAR = 1. -/
def execHzRuleClear (m : Master) (e : Eng) (w : Word) (s : State) : Host.Outcome State Fault Refusal :=
  run (writeFld m (feB e.val) R.FE_HZ_CMD_CLEAR 1 w) s

/-- R355: HAZE_INJECT_INJ_HOLD = 1. -/
def execHazeInjHold (m : Master) (n : Lane) (w : Word) (s : State) : Host.Outcome State Fault Refusal :=
  run (writeFld m (laneB n.val) R.HAZE_INJECT_INJ_HOLD 1 w) s

/-- R355: FE_HZ_INJECT_INJ_LOST = 1. -/
def execHzInjLost (m : Master) (e : Eng) (w : Word) (s : State) : Host.Outcome State Fault Refusal :=
  run (writeFld m (feB e.val) R.FE_HZ_INJECT_INJ_LOST 1 w) s

/-- R346. -/
def execHazeDelayClamped (n : Lane) (s : State) : Host.Outcome State Fault Refusal := run (hazeClamped n.val) s

end Sys2Proof.Machine
end

