-- ==== Sys2Proof/Machine/TlCmds.lean ====
section
/-! DEFINITION. Commands of chapter 02: the timeline, timed actions, commits and the legacy windows. -/

namespace Sys2Proof.Machine

/-- R55. -/
def execTlEnableOn (m : Master) (w : Word) (s : State) : Host.Outcome State Fault Refusal :=
  run (writeFld m tlB R.TL_CTRL_ENABLE 1 w) s

/-- R56. -/
def execTlEnableOff (m : Master) (w : Word) (s : State) : Host.Outcome State Fault Refusal :=
  run (writeFld m tlB R.TL_CTRL_ENABLE 0 w) s

/-- R56: a write of TL.CTRL, with the MODE that `w` carries. -/
def execTlModeWrite (m : Master) (w : Word) (s : State) : Host.Outcome State Fault Refusal :=
  run (writeReg m tlB R.TL_CTRL_MODE w) s

/-- R57: the pulse is sampled `cycles` TL_CLK cycles after the next edge. -/
def execSyncPulse (cycles : BitVec 40) (s : State) : Host.Outcome State Fault Refusal := run (tlPulse cycles.toNat) s

/-- R57, R59. -/
def execSyncMiss (s : State) : Host.Outcome State Fault Refusal := run tlMiss s

/-- R58. -/
def execTimelineStep (s : State) : Host.Outcome State Fault Refusal := run tlStep s

/-- R65: COASTED is written 1. -/
def execCoastedClear (m : Master) (w : Word) (s : State) : Host.Outcome State Fault Refusal :=
  run (writeFld m tlB R.TL_STATUS_COASTED 1 w) s

/-- R63. -/
def execEmberRateWindow (rate : Word) (s : State) : Host.Outcome State Fault Refusal := run (emberWindow rate.toNat) s

/-- R60. -/
def execTlCal (m : Master) (w : Word) (s : State) : Host.Outcome State Fault Refusal :=
  run (writeFld m tlB R.TL_CTRL_CAL 1 w) s

/-- R60: what the measurement found. -/
def execLaneDlyMeasured (dly : List LaneDly) (s : State) : Host.Outcome State Fault Refusal :=
  run (dlyMeasured (dly.map (fun d => (d.lane.val, d.ticks.toNat)))) s

/-- R60. -/
def execReplicaCorrection (s : State) : Host.Outcome State Fault Refusal := run replicaCorrect s

/-- R72: OP 0. -/
def execActRead (m : Master) (w : Word) (s : State) : Host.Outcome State Fault Refusal :=
  run (writeFld m tlB R.TL_ACT_CMD_OP 0 w) s

/-- R69: OP 1. -/
def execActWriteArm (m : Master) (w : Word) (s : State) : Host.Outcome State Fault Refusal :=
  run (writeFld m tlB R.TL_ACT_CMD_OP 1 w) s

/-- R69: OP 2. -/
def execActWrite (m : Master) (w : Word) (s : State) : Host.Outcome State Fault Refusal :=
  run (writeFld m tlB R.TL_ACT_CMD_OP 2 w) s

/-- R69: OP 3. -/
def execActArm (m : Master) (w : Word) (s : State) : Host.Outcome State Fault Refusal :=
  run (writeFld m tlB R.TL_ACT_CMD_OP 3 w) s

/-- R72: OP 4. -/
def execActDisarm (m : Master) (w : Word) (s : State) : Host.Outcome State Fault Refusal :=
  run (writeFld m tlB R.TL_ACT_CMD_OP 4 w) s

/-- R72: OP 5. -/
def execActClear (m : Master) (w : Word) (s : State) : Host.Outcome State Fault Refusal :=
  run (writeFld m tlB R.TL_ACT_CMD_OP 5 w) s

/-- R70. -/
def execActionDispatch (s : State) : Host.Outcome State Fault Refusal := run actDispatch s

/-- R70, R71, R72. -/
def execActionExecute (i : Fin 1024) (s : State) : Host.Outcome State Fault Refusal := run (actExecute i.val) s

/-- R75. -/
def execGlbCommit (m : Master) (w : Word) (s : State) : Host.Outcome State Fault Refusal :=
  run (writeReg m glbB R.GLB_COMMIT_CLASS w) s

/-- R74, R75. -/
def execCommitExecute (s : State) : Host.Outcome State Fault Refusal := run commitRun s

/-- R78. -/
def execTlInjTlclkLoss (m : Master) (w : Word) (s : State) : Host.Outcome State Fault Refusal :=
  run (writeFld m tlB R.TL_CTRL_INJ_TLCLK_LOSS 1 w) s

/-- R78. -/
def execTlInjTlclkLossEnd (s : State) : Host.Outcome State Fault Refusal := run tlInjLossEnd s

/-- R78. -/
def execTlInjReject (m : Master) (w : Word) (s : State) : Host.Outcome State Fault Refusal :=
  run (writeFld m tlB R.TL_CTRL_INJ_REJECT 1 w) s

/-- R78. -/
def execTlInjLate (m : Master) (w : Word) (s : State) : Host.Outcome State Fault Refusal :=
  run (writeFld m tlB R.TL_CTRL_INJ_LATE 1 w) s

/-- R78. -/
def execTlInjSyncMiss (m : Master) (w : Word) (s : State) : Host.Outcome State Fault Refusal :=
  run (writeFld m tlB R.TL_CTRL_INJ_SYNC_MISS 1 w) s

/-- R78. -/
def execTlInjSyncErr (m : Master) (w : Word) (s : State) : Host.Outcome State Fault Refusal :=
  run (writeFld m tlB R.TL_CTRL_INJ_SYNC_ERR 1 w) s

/-- R77. -/
def execLegacyFieldWrite (m : Master) (addr : Word) (w : Word) (s : State) : Host.Outcome State Fault Refusal :=
  run (writeCmd m addr.toNat w) s

/-- R77. -/
def execLegacyWindowEnd (cls : Fin 14) (inst : Lane) (s : State) : Host.Outcome State Fault Refusal :=
  run (windowEnd cls.val inst.val) s

end Sys2Proof.Machine
end

