-- ==== Sys2Proof/Machine/TxCmds.lean ====
section
/-! DEFINITION. Commands of chapters 05 and 06: the transmit path, the octant synthesisers, and the optical head's bias island. -/

namespace Sys2Proof.Machine

/-- The safety OTP is read again: what this read finds changed, then the effective values (R185). No read happens while the
LPO is held in POR. -/
def otpReread (found : List OtpUpset) (s : State) : State :=
  if s.por then s else otpRead (found.foldl (fun t u => otpUpset u t) s)

/-! The commands. -/

/-- R156: A write of the register with TX_CTRL_ENABLE. -/
def execTxEnable (m : Master) (n : Lane) (w : Word) (s : State) : Host.Outcome State Fault Refusal :=
  run (writeReg m (laneB n.val) R.TX_CTRL_ENABLE w) s

/-- R140. -/
def execTxUnderrun (n : Lane) (s : State) : Host.Outcome State Fault Refusal := run (txUnderrun n.val) s

/-- R145: A write of the register with TX_COEF_DATA_TAP. -/
def execTxCoefWrite (m : Master) (n : Lane) (w : Word) (s : State) : Host.Outcome State Fault Refusal :=
  run (writeReg m (laneB n.val) R.TX_COEF_DATA_TAP w) s

/-- R159. -/
def execTxHeldRelease (o : Oct) (s : State) : Host.Outcome State Fault Refusal := run (txRelease o.val) s

/-- R160. -/
def execTxHeldTimeout (n : Lane) (s : State) : Host.Outcome State Fault Refusal := run (txHeldTimeout n.val) s

/-- R163: TX_INJECT_INJ_ALARM = 1. -/
def execTxInjAlarm (m : Master) (n : Lane) (w : Word) (s : State) : Host.Outcome State Fault Refusal :=
  run (writeFld m (laneB n.val) R.TX_INJECT_INJ_ALARM 1 w) s

/-- R154: A write of the register with OCT_SYN_CTRL_ENABLE. -/
def execSynEnable (m : Master) (o : Oct) (w : Word) (s : State) : Host.Outcome State Fault Refusal :=
  run (writeReg m (octB o.val) R.OCT_SYN_CTRL_ENABLE w) s

/-- R154: OCT_SYN_CTRL_RECAL = 1. -/
def execRecal (m : Master) (o : Oct) (w : Word) (s : State) : Host.Outcome State Fault Refusal :=
  run (writeFld m (octB o.val) R.OCT_SYN_CTRL_RECAL 1 w) s

/-- R164: OCT_SYN_CTRL_OCT_RST = 1. -/
def execOctRst (m : Master) (o : Oct) (w : Word) (s : State) : Host.Outcome State Fault Refusal :=
  run (writeFld m (octB o.val) R.OCT_SYN_CTRL_OCT_RST 1 w) s

/-- R154. -/
def execSynBandFound (o : Oct) (band : BitVec 8) (s : State) : Host.Outcome State Fault Refusal :=
  run (synBand o.val band.toNat) s

/-- R154. -/
def execSynCalTimeout (o : Oct) (s : State) : Host.Outcome State Fault Refusal := run (synTimeout o.val 1) s

/-- R154. -/
def execSynLockAcquired (o : Oct) (s : State) : Host.Outcome State Fault Refusal := run (synLock o.val) s

/-- R154. -/
def execSynAcqTimeout (o : Oct) (s : State) : Host.Outcome State Fault Refusal := run (synTimeout o.val 2) s

/-- R154. -/
def execSynLossOfLock (o : Oct) (s : State) : Host.Outcome State Fault Refusal := run (synLoss o.val) s

/-- R163: OCT_SYN_INJECT_INJ_LOL = 1. -/
def execOctInjLol (m : Master) (o : Oct) (w : Word) (s : State) : Host.Outcome State Fault Refusal :=
  run (writeFld m (octB o.val) R.OCT_SYN_INJECT_INJ_LOL 1 w) s

/-- R163: OCT_SYN_INJECT_INJ_FAIL = 1. -/
def execOctInjFail (m : Master) (o : Oct) (w : Word) (s : State) : Host.Outcome State Fault Refusal :=
  run (writeFld m (octB o.val) R.OCT_SYN_INJECT_INJ_FAIL 1 w) s

/-- R144. -/
def execTxFfeSaturation (n : Lane) (words : List (BitVec 2)) (s : State) : Host.Outcome State Fault Refusal :=
  run (txSend n.val words) s

/-- R177. -/
def execBiasClrAssert (s : State) : Host.Outcome State Fault Refusal := run pinClear s

/-- R178. -/
def execBiasClrRelease (s : State) : Host.Outcome State Fault Refusal := run pinRelease s

/-- R171. -/
def execSlewUpdate (n : Lane) (vb : Bool) (s : State) : Host.Outcome State Fault Refusal := run (biasSlew n.val vb) s

/-- R172. -/
def execRangeHoldEnd (n : Lane) (vb : Bool) (s : State) : Host.Outcome State Fault Refusal :=
  run (biasHoldEnd n.val vb) s

/-- R173. -/
def execBurstGateEdge (n : Lane) (s : State) : Host.Outcome State Fault Refusal := run (gateEdge n.val) s

/-- R175: A write of the register with BIAS_CLEAR_IB_CLR. -/
def execBiasClearWrite (m : Master) (n : Lane) (w : Word) (s : State) : Host.Outcome State Fault Refusal :=
  run (writeReg m (laneB n.val) R.BIAS_CLEAR_IB_CLR w) s

/-- R177: A write of the register with SAFE_CLR_SW_CLR. -/
def execSwClrWrite (m : Master) (w : Word) (s : State) : Host.Outcome State Fault Refusal :=
  run (writeReg m safeB R.SAFE_CLR_SW_CLR w) s

/-- R179. -/
def execDetectorDeclare (n : Lane) (d : Detector) (s : State) : Host.Outcome State Fault Refusal :=
  run (detMet n.val d) s

/-- R179. -/
def execDetectorRelease (n : Lane) (d : Detector) (s : State) : Host.Outcome State Fault Refusal :=
  run (detRelease n.val d) s

/-- R180: A write of STATUS with w. -/
def execBiasStatusClear (m : Master) (n : Lane) (w : Word) (s : State) : Host.Outcome State Fault Refusal :=
  run (writeReg m (laneB n.val) R.BIAS_STATUS_CLEARING w) s

/-- R181: A write of the register with BIAS_APC_CODE_CODE. -/
def execApcCodeWrite (m : Master) (n : Lane) (w : Word) (s : State) : Host.Outcome State Fault Refusal :=
  run (writeReg m (laneB n.val) R.BIAS_APC_CODE_CODE w) s

/-- R183. -/
def execApcWatchdogExpire (n : Lane) (s : State) : Host.Outcome State Fault Refusal := run (apcExpire n.val) s

/-- R185. -/
def execOtpReread (found : List OtpUpset) (s : State) : Host.Outcome State Fault Refusal := run (otpReread found) s

/-- R190. -/
def execDutySpent (n : Lane) (s : State) : Host.Outcome State Fault Refusal := run (dutySpent n.val) s

/-- R190. -/
def execDutyWindowEnd (s : State) : Host.Outcome State Fault Refusal := run dutyWindow s

/-- R192: SAFE_PROG_CMD_OP = 1. -/
def execOtpProgLimit (m : Master) (w : Word) (s : State) : Host.Outcome State Fault Refusal :=
  run (writeFld m safeB R.SAFE_PROG_CMD_OP 1 w) s

/-- R192: SAFE_PROG_CMD_OP = 2. -/
def execOtpProgDeny (m : Master) (w : Word) (s : State) : Host.Outcome State Fault Refusal :=
  run (writeFld m safeB R.SAFE_PROG_CMD_OP 2 w) s

/-- R192: SAFE_PROG_CMD_OP = 3. -/
def execOtpProgLock (m : Master) (w : Word) (s : State) : Host.Outcome State Fault Refusal :=
  run (writeFld m safeB R.SAFE_PROG_CMD_OP 3 w) s

/-- R193. -/
def execOtpProgDone (verified : Bool) (s : State) : Host.Outcome State Fault Refusal := run (progDone verified) s

/-- R195: BIAS_INJECT_INJ_OPEN = 1. -/
def execBiasInjOpen (m : Master) (n : Lane) (w : Word) (s : State) : Host.Outcome State Fault Refusal :=
  run (writeFld m (laneB n.val) R.BIAS_INJECT_INJ_OPEN 1 w) s

/-- R195: BIAS_INJECT_INJ_COMPL = 1. -/
def execBiasInjCompl (m : Master) (n : Lane) (w : Word) (s : State) : Host.Outcome State Fault Refusal :=
  run (writeFld m (laneB n.val) R.BIAS_INJECT_INJ_COMPL 1 w) s

/-- R195: BIAS_INJECT_INJ_VBOVL = 1. -/
def execBiasInjVbovl (m : Master) (n : Lane) (w : Word) (s : State) : Host.Outcome State Fault Refusal :=
  run (writeFld m (laneB n.val) R.BIAS_INJECT_INJ_VBOVL 1 w) s

/-- R195: BIAS_INJECT_INJ_WDOG = 1. -/
def execBiasInjWdog (m : Master) (n : Lane) (w : Word) (s : State) : Host.Outcome State Fault Refusal :=
  run (writeFld m (laneB n.val) R.BIAS_INJECT_INJ_WDOG 1 w) s

/-- R195: SAFE_INJECT_INJ_LIMIT = 1. -/
def execSafeInjLimit (m : Master) (w : Word) (s : State) : Host.Outcome State Fault Refusal :=
  run (writeFld m safeB R.SAFE_INJECT_INJ_LIMIT 1 w) s

/-- R195: SAFE_INJECT_INJ_DUTY = 1. -/
def execSafeInjDuty (m : Master) (w : Word) (s : State) : Host.Outcome State Fault Refusal :=
  run (writeFld m safeB R.SAFE_INJECT_INJ_DUTY 1 w) s

/-- R195: SAFE_INJECT_INJ_CHANNEL = 1. -/
def execSafeInjChannel (m : Master) (w : Word) (s : State) : Host.Outcome State Fault Refusal :=
  run (writeFld m safeB R.SAFE_INJECT_INJ_CHANNEL 1 w) s

/-- R195: SAFE_INJECT_INJ_OTP = 1. -/
def execSafeInjOtp (m : Master) (w : Word) (s : State) : Host.Outcome State Fault Refusal :=
  run (writeFld m safeB R.SAFE_INJECT_INJ_OTP 1 w) s

/-- R195: SAFE_INJECT_INJ_PROG = 1. -/
def execSafeInjProg (m : Master) (w : Word) (s : State) : Host.Outcome State Fault Refusal :=
  run (writeFld m safeB R.SAFE_INJECT_INJ_PROG 1 w) s

end Sys2Proof.Machine
end

