-- ==== Sys2Proof/Machine/Dispatch.lean ====
section
/-! DEFINITION. exec: one arm per command, each one direct call of the command's meaning. -/

namespace Sys2Proof.Machine

def exec (i : Instr) (s : State) : Host.Outcome State Fault Refusal :=
  match i with
  | .registerWrite m addr w => Sys2Proof.Machine.execRegisterWrite m addr w s
  | .accessTimeout => Sys2Proof.Machine.execAccessTimeout s
  | .glbReset m w => Sys2Proof.Machine.execGlbReset m w s
  | .chipResetBegin => Sys2Proof.Machine.execChipResetBegin s
  | .chipResetRelease => Sys2Proof.Machine.execChipResetRelease s
  | .glbInjTimeout m w => Sys2Proof.Machine.execGlbInjTimeout m w s
  | .glbInjDecode m w => Sys2Proof.Machine.execGlbInjDecode m w s
  | .tlEnableOn m w => Sys2Proof.Machine.execTlEnableOn m w s
  | .tlEnableOff m w => Sys2Proof.Machine.execTlEnableOff m w s
  | .tlModeWrite m w => Sys2Proof.Machine.execTlModeWrite m w s
  | .syncPulse cycles => Sys2Proof.Machine.execSyncPulse cycles s
  | .syncMiss => Sys2Proof.Machine.execSyncMiss s
  | .timelineStep => Sys2Proof.Machine.execTimelineStep s
  | .coastedClear m w => Sys2Proof.Machine.execCoastedClear m w s
  | .emberRateWindow rate => Sys2Proof.Machine.execEmberRateWindow rate s
  | .tlCal m w => Sys2Proof.Machine.execTlCal m w s
  | .laneDlyMeasured dly => Sys2Proof.Machine.execLaneDlyMeasured dly s
  | .replicaCorrection => Sys2Proof.Machine.execReplicaCorrection s
  | .actRead m w => Sys2Proof.Machine.execActRead m w s
  | .actWriteArm m w => Sys2Proof.Machine.execActWriteArm m w s
  | .actWrite m w => Sys2Proof.Machine.execActWrite m w s
  | .actArm m w => Sys2Proof.Machine.execActArm m w s
  | .actDisarm m w => Sys2Proof.Machine.execActDisarm m w s
  | .actClear m w => Sys2Proof.Machine.execActClear m w s
  | .actionDispatch => Sys2Proof.Machine.execActionDispatch s
  | .actionExecute idx => Sys2Proof.Machine.execActionExecute idx s
  | .glbCommit m w => Sys2Proof.Machine.execGlbCommit m w s
  | .commitExecute => Sys2Proof.Machine.execCommitExecute s
  | .tlInjTlclkLoss m w => Sys2Proof.Machine.execTlInjTlclkLoss m w s
  | .tlInjTlclkLossEnd => Sys2Proof.Machine.execTlInjTlclkLossEnd s
  | .tlInjReject m w => Sys2Proof.Machine.execTlInjReject m w s
  | .tlInjLate m w => Sys2Proof.Machine.execTlInjLate m w s
  | .tlInjSyncMiss m w => Sys2Proof.Machine.execTlInjSyncMiss m w s
  | .tlInjSyncErr m w => Sys2Proof.Machine.execTlInjSyncErr m w s
  | .legacyFieldWrite m addr w => Sys2Proof.Machine.execLegacyFieldWrite m addr w s
  | .legacyWindowEnd cls inst => Sys2Proof.Machine.execLegacyWindowEnd cls inst s
  | .rxEnable m n w => Sys2Proof.Machine.execRxEnable m n w s
  | .laneRst m n w => Sys2Proof.Machine.execLaneRst m n w s
  | .agcEval n codes => Sys2Proof.Machine.execAgcEval n codes s
  | .losAssert n swing => Sys2Proof.Machine.execLosAssert n swing s
  | .losDeassert n swing => Sys2Proof.Machine.execLosDeassert n swing s
  | .calRoundEnd n sums => Sys2Proof.Machine.execCalRoundEnd n sums s
  | .trimDataWrite m n w => Sys2Proof.Machine.execTrimDataWrite m n w s
  | .trWindowEnd n pd => Sys2Proof.Machine.execTrWindowEnd n pd s
  | .rxInjLos m n w => Sys2Proof.Machine.execRxInjLos m n w s
  | .rxInjUnlock m n w => Sys2Proof.Machine.execRxInjUnlock m n w s
  | .rxInjCal m n w => Sys2Proof.Machine.execRxInjCal m n w s
  | .eqCoefWrite m n w => Sys2Proof.Machine.execEqCoefWrite m n w s
  | .eqLoadStart m n w => Sys2Proof.Machine.execEqLoadStart m n w s
  | .eqLoadDone n => Sys2Proof.Machine.execEqLoadDone n s
  | .crossfadeEnd n path => Sys2Proof.Machine.execCrossfadeEnd n path s
  | .statStart m n w => Sys2Proof.Machine.execStatStart m n w s
  | .statBlockEnd n x => Sys2Proof.Machine.execStatBlockEnd n x s
  | .statPushDone n => Sys2Proof.Machine.execStatPushDone n s
  | .mseWindowEnd n x => Sys2Proof.Machine.execMseWindowEnd n x s
  | .trellisModeChange n => Sys2Proof.Machine.execTrellisModeChange n s
  | .eqInjMse m n w => Sys2Proof.Machine.execEqInjMse m n w s
  | .eqInjAlarm m n w => Sys2Proof.Machine.execEqInjAlarm m n w s
  | .txEnable m n w => Sys2Proof.Machine.execTxEnable m n w s
  | .txUnderrun n => Sys2Proof.Machine.execTxUnderrun n s
  | .txCoefWrite m n w => Sys2Proof.Machine.execTxCoefWrite m n w s
  | .txHeldRelease o => Sys2Proof.Machine.execTxHeldRelease o s
  | .txHeldTimeout n => Sys2Proof.Machine.execTxHeldTimeout n s
  | .txInjAlarm m n w => Sys2Proof.Machine.execTxInjAlarm m n w s
  | .synEnable m o w => Sys2Proof.Machine.execSynEnable m o w s
  | .recal m o w => Sys2Proof.Machine.execRecal m o w s
  | .octRst m o w => Sys2Proof.Machine.execOctRst m o w s
  | .synBandFound o band => Sys2Proof.Machine.execSynBandFound o band s
  | .synCalTimeout o => Sys2Proof.Machine.execSynCalTimeout o s
  | .synLockAcquired o => Sys2Proof.Machine.execSynLockAcquired o s
  | .synAcqTimeout o => Sys2Proof.Machine.execSynAcqTimeout o s
  | .synLossOfLock o => Sys2Proof.Machine.execSynLossOfLock o s
  | .octInjLol m o w => Sys2Proof.Machine.execOctInjLol m o w s
  | .octInjFail m o w => Sys2Proof.Machine.execOctInjFail m o w s
  | .slewUpdate n vb => Sys2Proof.Machine.execSlewUpdate n vb s
  | .rangeHoldEnd n vb => Sys2Proof.Machine.execRangeHoldEnd n vb s
  | .burstGateEdge n => Sys2Proof.Machine.execBurstGateEdge n s
  | .biasClearWrite m n w => Sys2Proof.Machine.execBiasClearWrite m n w s
  | .biasClrAssert => Sys2Proof.Machine.execBiasClrAssert s
  | .biasClrRelease => Sys2Proof.Machine.execBiasClrRelease s
  | .swClrWrite m w => Sys2Proof.Machine.execSwClrWrite m w s
  | .detectorDeclare n d => Sys2Proof.Machine.execDetectorDeclare n d s
  | .detectorRelease n d => Sys2Proof.Machine.execDetectorRelease n d s
  | .biasStatusClear m n w => Sys2Proof.Machine.execBiasStatusClear m n w s
  | .apcCodeWrite m n w => Sys2Proof.Machine.execApcCodeWrite m n w s
  | .apcWatchdogExpire n => Sys2Proof.Machine.execApcWatchdogExpire n s
  | .otpReread found => Sys2Proof.Machine.execOtpReread found s
  | .dutySpent n => Sys2Proof.Machine.execDutySpent n s
  | .dutyWindowEnd => Sys2Proof.Machine.execDutyWindowEnd s
  | .otpProgLimit m w => Sys2Proof.Machine.execOtpProgLimit m w s
  | .otpProgDeny m w => Sys2Proof.Machine.execOtpProgDeny m w s
  | .otpProgLock m w => Sys2Proof.Machine.execOtpProgLock m w s
  | .otpProgDone verified => Sys2Proof.Machine.execOtpProgDone verified s
  | .biasInjOpen m n w => Sys2Proof.Machine.execBiasInjOpen m n w s
  | .biasInjCompl m n w => Sys2Proof.Machine.execBiasInjCompl m n w s
  | .biasInjVbovl m n w => Sys2Proof.Machine.execBiasInjVbovl m n w s
  | .biasInjWdog m n w => Sys2Proof.Machine.execBiasInjWdog m n w s
  | .safeInjLimit m w => Sys2Proof.Machine.execSafeInjLimit m w s
  | .safeInjDuty m w => Sys2Proof.Machine.execSafeInjDuty m w s
  | .safeInjChannel m w => Sys2Proof.Machine.execSafeInjChannel m w s
  | .safeInjOtp m w => Sys2Proof.Machine.execSafeInjOtp m w s
  | .safeInjProg m w => Sys2Proof.Machine.execSafeInjProg m w s
  | .scoutStart m n w => Sys2Proof.Machine.execScoutStart m n w s
  | .scoutDwellEnd n res => Sys2Proof.Machine.execScoutDwellEnd n res s
  | .scoutFrameTimeout n j => Sys2Proof.Machine.execScoutFrameTimeout n j s
  | .markerReceived n x => Sys2Proof.Machine.execMarkerReceived n x s
  | .markerRound e g => Sys2Proof.Machine.execMarkerRound e g s
  | .burstModeWrite m n w => Sys2Proof.Machine.execBurstModeWrite m n w s
  | .energyWindowEnd n sym mean => Sys2Proof.Machine.execEnergyWindowEnd n sym mean s
  | .correlatorHit n sym corr => Sys2Proof.Machine.execCorrelatorHit n sym corr s
  | .delimiterQualify n c corr meas both => Sys2Proof.Machine.execDelimiterQualify n c corr meas both s
  | .contextQualTimeout n c => Sys2Proof.Machine.execContextQualTimeout n c s
  | .burstWindowOpen n j => Sys2Proof.Machine.execBurstWindowOpen n j s
  | .burstWindowClose n j => Sys2Proof.Machine.execBurstWindowClose n j s
  | .guardExpire n => Sys2Proof.Machine.execGuardExpire n s
  | .burstRecordReceived bits => Sys2Proof.Machine.execBurstRecordReceived bits s
  | .acqInjScout m n w => Sys2Proof.Machine.execAcqInjScout m n w s
  | .acqInjStart m n w => Sys2Proof.Machine.execAcqInjStart m n w s
  | .acqInjWindow m n w => Sys2Proof.Machine.execAcqInjWindow m n w s
  | .feInjSkew m e w => Sys2Proof.Machine.execFeInjSkew m e w s
  | .feInjAmloss m e w => Sys2Proof.Machine.execFeInjAmloss m e w s
  | .innerBlock n words => Sys2Proof.Machine.execInnerBlock n words s
  | .rsCodewordDecoded n cw => Sys2Proof.Machine.execRsCodewordDecoded n cw s
  | .forensicRecordDone e => Sys2Proof.Machine.execForensicRecordDone e s
  | .fecSnap m n w => Sys2Proof.Machine.execFecSnap m n w s
  | .fecSnapTaken n => Sys2Proof.Machine.execFecSnapTaken n s
  | .txCodewordCorrupt n => Sys2Proof.Machine.execTxCodewordCorrupt n s
  | .pcLockAcquired n words => Sys2Proof.Machine.execPcLockAcquired n words s
  | .pcLossWindow n words => Sys2Proof.Machine.execPcLossWindow n words s
  | .pgInjectOne m n w => Sys2Proof.Machine.execPgInjectOne m n w s
  | .pgInjectPeriodic n => Sys2Proof.Machine.execPgInjectPeriodic n s
  | .patternMemWrite m n w => Sys2Proof.Machine.execPatternMemWrite m n w s
  | .fecInjUncorr m n w => Sys2Proof.Machine.execFecInjUncorr m n w s
  | .fecInjPcloss m n w => Sys2Proof.Machine.execFecInjPcloss m n w s
  | .fecInjInner m n w => Sys2Proof.Machine.execFecInjInner m n w s
  | .forInjDrop m e w => Sys2Proof.Machine.execForInjDrop m e w s
  | .frameReceived e g err bytes => Sys2Proof.Machine.execFrameReceived e g err bytes s
  | .rateIntervalEnd e => Sys2Proof.Machine.execRateIntervalEnd e s
  | .streamStartReached e idx => Sys2Proof.Machine.execStreamStartReached e idx s
  | .streamFrameStart e g => Sys2Proof.Machine.execStreamFrameStart e g s
  | .flowRead m e w => Sys2Proof.Machine.execFlowRead m e w s
  | .flowReadClr m e w => Sys2Proof.Machine.execFlowReadClr m e w s
  | .flowReadSnap m e w => Sys2Proof.Machine.execFlowReadSnap m e w s
  | .flowLoadCfg m e w => Sys2Proof.Machine.execFlowLoadCfg m e w s
  | .flowClear m e w => Sys2Proof.Machine.execFlowClear m e w s
  | .strmRead m e w => Sys2Proof.Machine.execStrmRead m e w s
  | .strmReadClr m e w => Sys2Proof.Machine.execStrmReadClr m e w s
  | .strmReadSnap m e w => Sys2Proof.Machine.execStrmReadSnap m e w s
  | .strmLoadCfg m e w => Sys2Proof.Machine.execStrmLoadCfg m e w s
  | .strmClear m e w => Sys2Proof.Machine.execStrmClear m e w s
  | .strmStop m e w => Sys2Proof.Machine.execStrmStop m e w s
  | .snapArm m e w => Sys2Proof.Machine.execSnapArm m e w s
  | .snapAtReached e => Sys2Proof.Machine.execSnapAtReached e s
  | .templateWrite m e t j w => Sys2Proof.Machine.execTemplateWrite m e t j w s
  | .fsInjRefuse m e w => Sys2Proof.Machine.execFsInjRefuse m e w s
  | .fsInjSkip m e w => Sys2Proof.Machine.execFsInjSkip m e w s
  | .fsInjLate m e w => Sys2Proof.Machine.execFsInjLate m e w s
  | .fsInjResync m e w => Sys2Proof.Machine.execFsInjResync m e w s
  | .watchSample n c taps => Sys2Proof.Machine.execWatchSample n c taps s
  | .lqfSample n taps => Sys2Proof.Machine.execLqfSample n taps s
  | .watchRestart m n w => Sys2Proof.Machine.execWatchRestart m n w s
  | .watchSyncReset n c => Sys2Proof.Machine.execWatchSyncReset n c s
  | .watchOutRead m n c => Sys2Proof.Machine.execWatchOutRead m n c s
  | .watchInjCross m n w => Sys2Proof.Machine.execWatchInjCross m n w s
  | .plotStart m w => Sys2Proof.Machine.execPlotStart m w s
  | .plotStop m w => Sys2Proof.Machine.execPlotStop m w s
  | .plotReset m w => Sys2Proof.Machine.execPlotReset m w s
  | .pageComplete p x => Sys2Proof.Machine.execPageComplete p x s
  | .triggerFire t => Sys2Proof.Machine.execTriggerFire t s
  | .trigFireCmd m w => Sys2Proof.Machine.execTrigFireCmd m w s
  | .trigRearm m w => Sys2Proof.Machine.execTrigRearm m w s
  | .replayPrefetchDone r => Sys2Proof.Machine.execReplayPrefetchDone r s
  | .replayStart r => Sys2Proof.Machine.execReplayStart r s
  | .replayStop m w => Sys2Proof.Machine.execReplayStop m w s
  | .replayFrameSend r reads => Sys2Proof.Machine.execReplayFrameSend r reads s
  | .replayUnderrun r => Sys2Proof.Machine.execReplayUnderrun r s
  | .pageRead m f res => Sys2Proof.Machine.execPageRead m f res s
  | .pageRewrite m f => Sys2Proof.Machine.execPageRewrite m f s
  | .scrubRead m res => Sys2Proof.Machine.execScrubRead m res s
  | .rmwWrite p ofs data res => Sys2Proof.Machine.execRmwWrite p ofs data res s
  | .mcRepairSoft m c w => Sys2Proof.Machine.execMcRepairSoft m c w s
  | .mcRepairHard m c w => Sys2Proof.Machine.execMcRepairHard m c w s
  | .mcRepairDone c fail => Sys2Proof.Machine.execMcRepairDone c fail s
  | .mcRst m c w => Sys2Proof.Machine.execMcRst m c w s
  | .logClear m c w => Sys2Proof.Machine.execLogClear m c w s
  | .hbmParityError c f write second => Sys2Proof.Machine.execHbmParityError c f write second s
  | .mcInjCor m c w => Sys2Proof.Machine.execMcInjCor m c w s
  | .mcInjUnc m c w => Sys2Proof.Machine.execMcInjUnc m c w s
  | .mcInjSpare m c w => Sys2Proof.Machine.execMcInjSpare m c w s
  | .mcInjRepair m c w => Sys2Proof.Machine.execMcInjRepair m c w s
  | .mcInjIf m c w => Sys2Proof.Machine.execMcInjIf m c w s
  | .mdwInjAdmit m w => Sys2Proof.Machine.execMdwInjAdmit m w s
  | .mdwInjOvf m w => Sys2Proof.Machine.execMdwInjOvf m w s
  | .mdwInjUnder m w => Sys2Proof.Machine.execMdwInjUnder m w s
  | .hazeHold n => Sys2Proof.Machine.execHazeHold n s
  | .hazePrime n words sent => Sys2Proof.Machine.execHazePrime n words sent s
  | .hazePrimeFilled n words => Sys2Proof.Machine.execHazePrimeFilled n words s
  | .hazeSlip n words sent => Sys2Proof.Machine.execHazeSlip n words sent s
  | .hazeBurstStart n words => Sys2Proof.Machine.execHazeBurstStart n words s
  | .noiseWindowEnd n words => Sys2Proof.Machine.execNoiseWindowEnd n words s
  | .hazeCoefWrite m n w => Sys2Proof.Machine.execHazeCoefWrite m n w s
  | .hazeRelease e => Sys2Proof.Machine.execHazeRelease e s
  | .hazeReorderTimeout e => Sys2Proof.Machine.execHazeReorderTimeout e s
  | .hzRuleClear m e w => Sys2Proof.Machine.execHzRuleClear m e w s
  | .hazeInjHold m n w => Sys2Proof.Machine.execHazeInjHold m n w s
  | .hzInjLost m e w => Sys2Proof.Machine.execHzInjLost m e w s
  | .addR k rd ra rb => Sys2Proof.Machine.execAddR k rd ra rb s
  | .subR k rd ra rb => Sys2Proof.Machine.execSubR k rd ra rb s
  | .andR k rd ra rb => Sys2Proof.Machine.execAndR k rd ra rb s
  | .orR k rd ra rb => Sys2Proof.Machine.execOrR k rd ra rb s
  | .xorR k rd ra rb => Sys2Proof.Machine.execXorR k rd ra rb s
  | .sll k rd ra rb => Sys2Proof.Machine.execSll k rd ra rb s
  | .srl k rd ra rb => Sys2Proof.Machine.execSrl k rd ra rb s
  | .sra k rd ra rb => Sys2Proof.Machine.execSra k rd ra rb s
  | .slt k rd ra rb => Sys2Proof.Machine.execSlt k rd ra rb s
  | .sltu k rd ra rb => Sys2Proof.Machine.execSltu k rd ra rb s
  | .mulR k rd ra rb => Sys2Proof.Machine.execMulR k rd ra rb s
  | .mulh k rd ra rb => Sys2Proof.Machine.execMulh k rd ra rb s
  | .mulhu k rd ra rb => Sys2Proof.Machine.execMulhu k rd ra rb s
  | .divR k rd ra rb => Sys2Proof.Machine.execDivR k rd ra rb s
  | .divu k rd ra rb => Sys2Proof.Machine.execDivu k rd ra rb s
  | .rem k rd ra rb => Sys2Proof.Machine.execRem k rd ra rb s
  | .remu k rd ra rb => Sys2Proof.Machine.execRemu k rd ra rb s
  | .minI k rd ra rb => Sys2Proof.Machine.execMinI k rd ra rb s
  | .maxI k rd ra rb => Sys2Proof.Machine.execMaxI k rd ra rb s
  | .clz k rd ra rb => Sys2Proof.Machine.execClz k rd ra rb s
  | .satadd k rd ra rb => Sys2Proof.Machine.execSatadd k rd ra rb s
  | .addi k rd ra imm => Sys2Proof.Machine.execAddi k rd ra imm s
  | .andi k rd ra imm => Sys2Proof.Machine.execAndi k rd ra imm s
  | .ori k rd ra imm => Sys2Proof.Machine.execOri k rd ra imm s
  | .xori k rd ra imm => Sys2Proof.Machine.execXori k rd ra imm s
  | .slti k rd ra imm => Sys2Proof.Machine.execSlti k rd ra imm s
  | .slli k rd ra sh => Sys2Proof.Machine.execSlli k rd ra sh s
  | .srli k rd ra sh => Sys2Proof.Machine.execSrli k rd ra sh s
  | .srai k rd ra sh => Sys2Proof.Machine.execSrai k rd ra sh s
  | .lui k rd imm => Sys2Proof.Machine.execLui k rd imm s
  | .lw k rd ra imm => Sys2Proof.Machine.execLw k rd ra imm s
  | .lh k rd ra imm => Sys2Proof.Machine.execLh k rd ra imm s
  | .lhu k rd ra imm => Sys2Proof.Machine.execLhu k rd ra imm s
  | .lb k rd ra imm => Sys2Proof.Machine.execLb k rd ra imm s
  | .lbu k rd ra imm => Sys2Proof.Machine.execLbu k rd ra imm s
  | .sw k rd ra imm => Sys2Proof.Machine.execSw k rd ra imm s
  | .sh k rd ra imm => Sys2Proof.Machine.execSh k rd ra imm s
  | .sb k rd ra imm => Sys2Proof.Machine.execSb k rd ra imm s
  | .beq k ra rb imm => Sys2Proof.Machine.execBeq k ra rb imm s
  | .bne k ra rb imm => Sys2Proof.Machine.execBne k ra rb imm s
  | .blt k ra rb imm => Sys2Proof.Machine.execBlt k ra rb imm s
  | .bge k ra rb imm => Sys2Proof.Machine.execBge k ra rb imm s
  | .bltu k ra rb imm => Sys2Proof.Machine.execBltu k ra rb imm s
  | .bgeu k ra rb imm => Sys2Proof.Machine.execBgeu k ra rb imm s
  | .jal k rd imm => Sys2Proof.Machine.execJal k rd imm s
  | .jalr k rd ra imm => Sys2Proof.Machine.execJalr k rd ra imm s
  | .amoSwap k rd ra rb => Sys2Proof.Machine.execAmoSwap k rd ra rb s
  | .amoAdd k rd ra rb => Sys2Proof.Machine.execAmoAdd k rd ra rb s
  | .amoAnd k rd ra rb => Sys2Proof.Machine.execAmoAnd k rd ra rb s
  | .amoOr k rd ra rb => Sys2Proof.Machine.execAmoOr k rd ra rb s
  | .amoCas k rd ra rb => Sys2Proof.Machine.execAmoCas k rd ra rb s
  | .crd k rd ra csr => Sys2Proof.Machine.execCrd k rd ra csr s
  | .cwr k rd ra csr => Sys2Proof.Machine.execCwr k rd ra csr s
  | .cset k rd ra csr => Sys2Proof.Machine.execCset k rd ra csr s
  | .cclr k rd ra csr => Sys2Proof.Machine.execCclr k rd ra csr s
  | .scall k => Sys2Proof.Machine.execScall k s
  | .brk k => Sys2Proof.Machine.execBrk k s
  | .tret k => Sys2Proof.Machine.execTret k s
  | .nret k => Sys2Proof.Machine.execNret k s
  | .idle k => Sys2Proof.Machine.execIdle k s
  | .drain k => Sys2Proof.Machine.execDrain k s
  | .interruptTaken k => Sys2Proof.Machine.execInterruptTaken k s
  | .nmtTaken => Sys2Proof.Machine.execNmtTaken s
  | .timerMatch k => Sys2Proof.Machine.execTimerMatch k s
  | .counterWrap k idx n => Sys2Proof.Machine.execCounterWrap k idx n s
  | .coreWdogExpire k => Sys2Proof.Machine.execCoreWdogExpire k s
  | .coreRun m k w => Sys2Proof.Machine.execCoreRun m k w s
  | .coreHalt m k w => Sys2Proof.Machine.execCoreHalt m k w s
  | .coreStep m k w => Sys2Proof.Machine.execCoreStep m k w s
  | .coreRst m k w => Sys2Proof.Machine.execCoreRst m k w s
  | .doorbell m k w => Sys2Proof.Machine.execDoorbell m k w s
  | .sqRst m w => Sys2Proof.Machine.execSqRst m w s
  | .semRead m idx => Sys2Proof.Machine.execSemRead m idx s
  | .semRelease m idx w => Sys2Proof.Machine.execSemRelease m idx w s
  | .semHoldTimeout idx => Sys2Proof.Machine.execSemHoldTimeout idx s
  | .sqInjSem m w => Sys2Proof.Machine.execSqInjSem m w s
  | .sqInjWdog m w => Sys2Proof.Machine.execSqInjWdog m w s
  | .sqInjMem m w => Sys2Proof.Machine.execSqInjMem m w s
  | .sqInjLockstep m w => Sys2Proof.Machine.execSqInjLockstep m w s
  | .sqInjNmt m w => Sys2Proof.Machine.execSqInjNmt m w s
  | .portEnable m w => Sys2Proof.Machine.execPortEnable m w s
  | .portUp => Sys2Proof.Machine.execPortUp s
  | .portLinkLoss => Sys2Proof.Machine.execPortLinkLoss s
  | .portRst m w => Sys2Proof.Machine.execPortRst m w s
  | .arpRequest frame => Sys2Proof.Machine.execArpRequest frame s
  | .neighbourSolicitation frame => Sys2Proof.Machine.execNeighbourSolicitation frame s
  | .echoRequest frame => Sys2Proof.Machine.execEchoRequest frame s
  | .foreignFrame frame => Sys2Proof.Machine.execForeignFrame frame s
  | .datagramReceived peer bytes => Sys2Proof.Machine.execDatagramReceived peer bytes s
  | .ncpOpen peer tag flags seq credit => Sys2Proof.Machine.execNcpOpen peer tag flags seq credit s
  | .ncpClose slot tag reason => Sys2Proof.Machine.execNcpClose slot tag reason s
  | .ncpResync slot tag seq => Sys2Proof.Machine.execNcpResync slot tag seq s
  | .ncpKeepalive slot tag => Sys2Proof.Machine.execNcpKeepalive slot tag s
  | .ncpRead slot tag addrs => Sys2Proof.Machine.execNcpRead slot tag addrs s
  | .ncpReadSeq slot tag addr count => Sys2Proof.Machine.execNcpReadSeq slot tag addr count s
  | .ncpWrite slot tag cont pairs => Sys2Proof.Machine.execNcpWrite slot tag cont pairs s
  | .ncpCommit slot tag w time => Sys2Proof.Machine.execNcpCommit slot tag w time s
  | .ncpTimedBatch slot tag cont time id pairs => Sys2Proof.Machine.execNcpTimedBatch slot tag cont time id pairs s
  | .ncpCancel slot tag id => Sys2Proof.Machine.execNcpCancel slot tag id s
  | .ncpBulkRead slot tag plot first count => Sys2Proof.Machine.execNcpBulkRead slot tag plot first count s
  | .ncpBulkWrite slot tag plot page span meta_ data res => Sys2Proof.Machine.execNcpBulkWrite slot tag plot page span meta_ data res s
  | .ncpDigest slot tag => Sys2Proof.Machine.execNcpDigest slot tag s
  | .ncpBulkData slot res => Sys2Proof.Machine.execNcpBulkData slot res s
  | .ncpEvent slot => Sys2Proof.Machine.execNcpEvent slot s
  | .eventHoldoffEnd slot id => Sys2Proof.Machine.execEventHoldoffEnd slot id s
  | .batchDispatch => Sys2Proof.Machine.execBatchDispatch s
  | .ncpSemRetry => Sys2Proof.Machine.execNcpSemRetry s
  | .rtoExpire slot => Sys2Proof.Machine.execRtoExpire slot s
  | .sessionIdleTimeout slot => Sys2Proof.Machine.execSessionIdleTimeout slot s
  | .sessClose m slot w => Sys2Proof.Machine.execSessClose m slot w s
  | .ncpInjBad m w => Sys2Proof.Machine.execNcpInjBad m w s
  | .ncpInjLink m w => Sys2Proof.Machine.execNcpInjLink m w s
  | .ncpInjLoss m w => Sys2Proof.Machine.execNcpInjLoss m w s
  | .ncpInjEvt m w => Sys2Proof.Machine.execNcpInjEvt m w s
  | .ncpInjLate m w => Sys2Proof.Machine.execNcpInjLate m w s
  | .bootSequence x => Sys2Proof.Machine.execBootSequence x s
  | .keyCmd m w => Sys2Proof.Machine.execKeyCmd m w s
  | .keyProgDone verified => Sys2Proof.Machine.execKeyProgDone verified s
  | .qspiRead m w => Sys2Proof.Machine.execQspiRead m w s
  | .qspiProgram m w => Sys2Proof.Machine.execQspiProgram m w s
  | .qspiErase m w => Sys2Proof.Machine.execQspiErase m w s
  | .qspiReadStatus m w => Sys2Proof.Machine.execQspiReadStatus m w s
  | .qspiDone busy status => Sys2Proof.Machine.execQspiDone busy status s
  | .mi2cWrite bytes => Sys2Proof.Machine.execMi2cWrite bytes s
  | .mi2cRead bytes => Sys2Proof.Machine.execMi2cRead bytes s
  | .mi2cStatus bytes => Sys2Proof.Machine.execMi2cStatus bytes s
  | .mi2cTimeout => Sys2Proof.Machine.execMi2cTimeout s
  | .bootInjImage m w => Sys2Proof.Machine.execBootInjImage m w s
  | .bootInjTrain m w => Sys2Proof.Machine.execBootInjTrain m w s
  | .bootInjLbist m w => Sys2Proof.Machine.execBootInjLbist m w s
  | .bootInjMi2c m w => Sys2Proof.Machine.execBootInjMi2c m w s
  | .monitorWindowEnd j count => Sys2Proof.Machine.execMonitorWindowEnd j count s
  | .pllLockLoss mem => Sys2Proof.Machine.execPllLockLoss mem s
  | .iroReady => Sys2Proof.Machine.execIroReady s
  | .iroFailTimeout => Sys2Proof.Machine.execIroFailTimeout s
  | .clkResume m w => Sys2Proof.Machine.execClkResume m w s
  | .corePllRelocked => Sys2Proof.Machine.execCorePllRelocked s
  | .resumeTimeout => Sys2Proof.Machine.execResumeTimeout s
  | .memPllRelocked => Sys2Proof.Machine.execMemPllRelocked s
  | .iroStbyWrite m w => Sys2Proof.Machine.execIroStbyWrite m w s
  | .gateRequest m w => Sys2Proof.Machine.execGateRequest m w s
  | .gateClose g => Sys2Proof.Machine.execGateClose g s
  | .gateRefuseTimeout g mid => Sys2Proof.Machine.execGateRefuseTimeout g mid s
  | .clkInjLref m w => Sys2Proof.Machine.execClkInjLref m w s
  | .clkInjSysxi m w => Sys2Proof.Machine.execClkInjSysxi m w s
  | .clkInjGate m w => Sys2Proof.Machine.execClkInjGate m w s
  | .clkInjIro m w => Sys2Proof.Machine.execClkInjIro m w s
  | .domPowerDownReq m idx w => Sys2Proof.Machine.execDomPowerDownReq m idx w s
  | .domPowerUpReq m idx w => Sys2Proof.Machine.execDomPowerUpReq m idx w s
  | .domDrained d => Sys2Proof.Machine.execDomDrained d s
  | .domDrainTimeout d => Sys2Proof.Machine.execDomDrainTimeout d s
  | .domAdmit => Sys2Proof.Machine.execDomAdmit s
  | .tokenReturn => Sys2Proof.Machine.execTokenReturn s
  | .domDigRdy d => Sys2Proof.Machine.execDomDigRdy d s
  | .domRampFail d => Sys2Proof.Machine.execDomRampFail d s
  | .domAnaRdy d => Sys2Proof.Machine.execDomAnaRdy d s
  | .domOff d => Sys2Proof.Machine.execDomOff d s
  | .restReq m w => Sys2Proof.Machine.execRestReq m w s
  | .sqAnswer m w => Sys2Proof.Machine.execSqAnswer m w s
  | .restSqTimeout => Sys2Proof.Machine.execRestSqTimeout s
  | .restCommit => Sys2Proof.Machine.execRestCommit s
  | .wakeNAssert back => Sys2Proof.Machine.execWakeNAssert back s
  | .mi2cAddressMatch => Sys2Proof.Machine.execMi2cAddressMatch s
  | .emberAlarm => Sys2Proof.Machine.execEmberAlarm s
  | .wake us coreLocked memLocked => Sys2Proof.Machine.execWake us coreLocked memLocked s
  | .wakeComplete => Sys2Proof.Machine.execWakeComplete s
  | .pwrInjRefuse m w => Sys2Proof.Machine.execPwrInjRefuse m w s
  | .pwrInjToken m w => Sys2Proof.Machine.execPwrInjToken m w s
  | .pwrInjDomfail m w => Sys2Proof.Machine.execPwrInjDomfail m w s
  | .hkRoundStart => Sys2Proof.Machine.execHkRoundStart s
  | .hkDwellEnd raws => Sys2Proof.Machine.execHkDwellEnd raws s
  | .selfcal m w => Sys2Proof.Machine.execSelfcal m w s
  | .selfcalDone zeroA refA zeroB refB => Sys2Proof.Machine.execSelfcalDone zeroA refA zeroB refB s
  | .trkClr m w => Sys2Proof.Machine.execTrkClr m w s
  | .legacyCmd m w => Sys2Proof.Machine.execLegacyCmd m w s
  | .legacyConversionDone raw => Sys2Proof.Machine.execLegacyConversionDone raw s
  | .thermalReading raws => Sys2Proof.Machine.execThermalReading raws s
  | .shutClr m w => Sys2Proof.Machine.execShutClr m w s
  | .calHkref m w => Sys2Proof.Machine.execCalHkref m w s
  | .calOsc m w => Sys2Proof.Machine.execCalOsc m w s
  | .calTemp m w => Sys2Proof.Machine.execCalTemp m w s
  | .calApply m w => Sys2Proof.Machine.execCalApply m w s
  | .calRunDone x => Sys2Proof.Machine.execCalRunDone x s
  | .hkInjTemp m w => Sys2Proof.Machine.execHkInjTemp m w s
  | .hkInjFail m w => Sys2Proof.Machine.execHkInjFail m w s
  | .hkInjSc m w => Sys2Proof.Machine.execHkInjSc m w s
  | .hkInjWin m w => Sys2Proof.Machine.execHkInjWin m w s
  | .calInjFail m w => Sys2Proof.Machine.execCalInjFail m w s
  | .calInjRange m w => Sys2Proof.Machine.execCalInjRange m w s
  | .rotationStep u => Sys2Proof.Machine.execRotationStep u s
  | .shadeLbistDone u sig => Sys2Proof.Machine.execShadeLbistDone u sig s
  | .rotationCompareDone u differs => Sys2Proof.Machine.execRotationCompareDone u differs s
  | .rotationSwap u => Sys2Proof.Machine.execRotationSwap u s
  | .loopNearEnd m w => Sys2Proof.Machine.execLoopNearEnd m w s
  | .loopReference m w => Sys2Proof.Machine.execLoopReference m w s
  | .loopCheckDone errors rms failing => Sys2Proof.Machine.execLoopCheckDone errors rms failing s
  | .fuseCmd m w => Sys2Proof.Machine.execFuseCmd m w s
  | .fuseProgDone verified => Sys2Proof.Machine.execFuseProgDone verified s
  | .bistInjShade m w => Sys2Proof.Machine.execBistInjShade m w s
  | .bistInjCmp m w => Sys2Proof.Machine.execBistInjCmp m w s
  | .bistInjLoop m w => Sys2Proof.Machine.execBistInjLoop m w s
  | .bistInjMbist m w => Sys2Proof.Machine.execBistInjMbist m w s
  | .aliveToggle => Sys2Proof.Machine.execAliveToggle s
  | .aliveKick m w => Sys2Proof.Machine.execAliveKick m w s
  | .kickTimeout => Sys2Proof.Machine.execKickTimeout s
  | .clrTop m w => Sys2Proof.Machine.execClrTop m w s
  | .recClr m w => Sys2Proof.Machine.execRecClr m w s
  | .clrTrouble m w => Sys2Proof.Machine.execClrTrouble m w s
  | .fltInjLw m w => Sys2Proof.Machine.execFltInjLw m w s
  | .fltInjFull m w => Sys2Proof.Machine.execFltInjFull m w s
  | .fltInjKick m w => Sys2Proof.Machine.execFltInjKick m w s
  | .porRelease testMode => Sys2Proof.Machine.execPorRelease testMode s
  | .railBrownout => Sys2Proof.Machine.execRailBrownout s
  | .biasUndervoltage => Sys2Proof.Machine.execBiasUndervoltage s
  | .biasUvRecover => Sys2Proof.Machine.execBiasUvRecover s
  | .resetNAssert => Sys2Proof.Machine.execResetNAssert s
  | .resetNRelease long => Sys2Proof.Machine.execResetNRelease long s
  | .wakeStuck => Sys2Proof.Machine.execWakeStuck s
  | .clrLong => Sys2Proof.Machine.execClrLong s
  | .syncStuck => Sys2Proof.Machine.execSyncStuck s
  | .registerRead m addr => Sys2Proof.Machine.execRegisterRead m addr s
  | .jtagReset => Sys2Proof.Machine.execJtagReset s
  | .streamFrameDue e idx => Sys2Proof.Machine.execStreamFrameDue e idx s
  | .txFfeSaturation n words => Sys2Proof.Machine.execTxFfeSaturation n words s
  | .hazeDelayClamped n => Sys2Proof.Machine.execHazeDelayClamped n s
  | .shutClrDone => Sys2Proof.Machine.execShutClrDone s

end Sys2Proof.Machine
end

