-- ==== Sys2Proof/WellFormed.lean ====
section
/-! DEFINITION. Which commands are well formed: operands whose Lean type is wider than what the hardware can state keep
within it. A transaction, datagram or register write that the spec itself calls malformed is a command like any other. -/

namespace Sys2Proof

/-- The frames that the larger part's stack has (R296). -/
def frameCount : Nat := 9151208

/-- A page read names codeword bits, each once: 4,096 bytes of data, metadata and parity (R299). -/
def pageResOk (r : PageRes) : Bool :=
  match r with
  | .bits l => l.all (fun b => decide (b < 33792)) && decide l.Nodup
  | .unc => true

/-- A lane's page holds at most 8,192 soft words or 4,096 samples (R311). -/
def pageInOk (x : PageIn) : Bool :=
  match x with
  | .lane _ _ _ data => decide (data.length ≤ 8192)
  | .records => true
  | .lost _ => true

/-- A peer has an IPv4 or an IPv6 address. -/
def peerOk (p : NcpPeer) : Bool := p.ip.length == 4 || p.ip.length == 16

/-- The well-formed commands. The operands of a command not named here are bounded by their types alone. -/
def Instr.wf (i : Instr) : Bool :=
  match i with
  | .laneDlyMeasured dly => decide ((dly.map (fun d => d.lane)).Nodup)
  | .agcEval _ codes => decide (0 < codes.length)
  | .calRoundEnd _ sums => decide (sums.length ≤ 96)
  | .trWindowEnd _ pd => decide (0 < pd.length)
  | .otpReread found => decide (found.length ≤ 386)
  | .scoutDwellEnd _ res => decide (res.length = 4 ∧ res.all (fun m => decide (m.share ≤ 256)))
  | .correlatorHit _ _ corr => decide (corr ≤ 256)
  | .delimiterQualify _ _ corr _ _ => decide (corr ≤ 256)
  | .rsCodewordDecoded _ cw => decide (cw.syms.length = 544 ∧ cw.rel.length = 2720 ∧ cw.rel.all (fun r => decide (r ≤ 3)))
  | .pcLossWindow _ words => decide (words.length ≤ 4096)
  | .frameReceived _ _ _ bytes => decide (0 < bytes.length ∧ bytes.length ≤ 16384)
  | .pageComplete _ x => decide (pageInOk x)
  | .replayFrameSend _ reads => decide (reads.all pageResOk = true)
  | .pageRead _ f res => decide (f < frameCount ∧ pageResOk res)
  | .pageRewrite _ f => decide (f < frameCount)
  | .scrubRead _ res => decide (pageResOk res)
  | .rmwWrite _ ofs data res => decide (0 < data.length ∧ data.length < 4096 ∧ ofs % 4096 + data.length ≤ 4096 ∧ pageResOk res)
  | .hbmParityError _ f _ _ => decide (f < frameCount)
  | .noiseWindowEnd _ words => decide (0 < words.length)
  | .arpRequest frame => decide (14 ≤ frame.length)
  | .neighbourSolicitation frame => decide (14 ≤ frame.length)
  | .echoRequest frame => decide (14 ≤ frame.length)
  | .foreignFrame frame => decide (14 ≤ frame.length)
  | .datagramReceived peer _ => decide (peerOk peer)
  | .ncpOpen peer _ _ _ _ => decide (peerOk peer)
  | .ncpRead _ _ addrs => decide (1 ≤ addrs.length ∧ addrs.length ≤ 256)
  | .ncpReadSeq _ _ _ count => decide (1 ≤ count.toNat ∧ count.toNat ≤ 1024)
  | .ncpWrite _ _ _ pairs => decide (1 ≤ pairs.length ∧ pairs.length ≤ 1024)
  | .ncpTimedBatch _ _ _ _ _ pairs => decide (1 ≤ pairs.length ∧ pairs.length ≤ 1024)
  | .ncpBulkWrite _ _ _ _ _ _ data res => decide (data.length ≤ 4096 ∧ pageResOk res)
  | .ncpBulkData _ res => decide (pageResOk res)
  | .hkDwellEnd raws => decide (raws.length ≤ 256)
  | .selfcalDone zeroA refA zeroB refB => decide (zeroA ≤ 4193280 ∧ refA ≤ 4193280 ∧ zeroB ≤ 4193280 ∧ refB ≤ 4193280)
  | .thermalReading raws => decide (raws.length = 31)
  | _ => true

end Sys2Proof
end

