-- ==== Sys2Proof/Safety.lean ====
section
/-! DEFINITION. What a safe run keeps, in the terms that claims use. -/

namespace Sys2Proof.Machine

/-- What every step keeps: memory, the maps of register words, the cores' registers, the flash devices and every other
sparse map are in canonical form, and the commands that wait are well formed. -/
abbrev Inv (s : State) : Prop :=
  Memory.wf s.mem = true ∧ risesFrom 0 s.regs = true ∧ risesFrom 0 s.shadow = true ∧ Cores.formed s.cores = true ∧
    risesFrom 0 s.flash = true ∧ s.tidied = true ∧ ∀ c ∈ s.pending, c.wf = true

/-- The byte of the sequencer memories at an address, as a claim reads it. -/
def memAt (s : State) (a : Nat) : Byte := s.byte a

/-- A step goes on: it neither faults nor refuses. -/
def Goes (r : Host.Outcome State Fault Refusal) : Prop := ∃ t, r = .next t

/-- The state in which a command's effect begins: the port has sent nothing for it yet. -/
def State.fresh (s : State) : State := { s with portTx := [] }

/-- The fabric performs an access as soon as it is made: the part is out of reset and runs, the master may make it, its
target is decoded and awake (R36 to R41, R362, R421, R455, R497). -/
abbrev Served (m : Master) (write : Bool) (a : Nat) (w : Word) (s : State) : Prop :=
  s.por = false ∧ s.inReset = false ∧ s.fatal = false ∧ s.off = false ∧ mayAccess m write a w s = true ∧
    (m = .mi2c → mi2cMay write a s = true) ∧ accessDom a s = none ∧ undecoded a s = false

/-- The fabric has answered a master. -/
def answered (m : Master) (a : Nat) (write : Bool) (v : Word) (st : AccSt) (s : State) : State :=
  { s with resp := some ⟨m, a, write, v, st⟩ }

/-- The state once the fabric has stored a served write of `w` in the register at `a`: its clock gate is open, and the fields
follow their access codes, in the object that a selector names (R19, R436). -/
def stored (a : Nat) (w : Word) (s : State) : State :=
  let t := match gateOf a with
    | some g => gateWake g s
    | none => s
  match place a with
  | .reg b off => match effKey b off t with
    | some key => (storeWord b off key w t).1
    | none => t
  | _ => t

/-- A staged field in direct-write legacy mode opens its window (R77). -/
def legacyAfter (a : Nat) (s : State) : State :=
  match keyGroup a with
  | some (c, i) => if legacyOn c s && (keyFlds a).any (fun f => f.acc == .st) then legacyWrite c i a s else s
  | none => s

/-- What a served write of `w` at `a` leaves: the word is stored, the block does `f`, and the master is answered. -/
def wrote (m : Master) (a : Nat) (w : Word) (f : State → State) (s : State) : State :=
  answered m a true 0 .done (legacyAfter a (f (stored a w s.fresh)))

/-- The injections of a word: those whose bits are 1, in the order of the list (R51). -/
def each (l : List (Nat × (State → State))) (w : Word) (s : State) : State :=
  l.foldl (fun t x => if w.getLsbD x.1 then x.2 t else t) s

/-- Bits hi:lo of the register word at an address (R39). -/
def bits (a hi lo : Nat) (s : State) : Nat := fget (s.getReg a) hi lo

/-- Event `id` was raised, and its reactions follow. -/
abbrev Sends (id : Nat) (u : State) : Prop := ∃ r ∈ u.raised, r.id = id

/-! The Fjot cores. -/

/-- Core k executes the instruction at its PC: it is in RUN, its block runs, no load of it waits, no interrupt and no
non-maskable trap comes first, and the PC lies in its instruction memory (R358, R373, R374, R378). -/
abbrev Issues (k : Nat) (s : State) : Prop :=
  coreCan 1 k s = true ∧ boundaryTrap k s = false ∧ (s.coreOf k).pc.toNat < 65536

/-- The instruction of core k has retired: register rd holds v, which g0 ignores (R367), the PC is given, and the mode, the
other registers, the CSRs below 0x040 and every other core are as before. -/
abbrev Retired (k rd : Nat) (v pc : Word) (s u : State) : Prop :=
  (∀ i : Fin 32, (u.coreOf k).gr i.val = if i.val = rd ∧ rd ≠ 0 then v else (s.coreOf k).gr i.val) ∧ (u.coreOf k).pc = pc ∧
    (u.coreOf k).priv = (s.coreOf k).priv ∧ (∀ n : Fin 64, (u.coreOf k).getCsr n.val = (s.coreOf k).getCsr n.val) ∧
    (∀ j : Fin 17, j.val ≠ coreIx k → u.coreOf j.val = s.coreOf j.val)

/-- Memory is as before, and but for an armed lockstep injection so is every register word other than SQ.CORE[k].PC, and
nothing was raised. -/
abbrev Quiet (k : Nat) (s u : State) : Prop :=
  u.mem = s.mem ∧ (s.injLockstep = false → u.raised = s.raised ∧
    dropKeys (· == coreB (coreIx k) + 0x108) u.regs = dropKeys (· == coreB (coreIx k) + 0x108) s.regs)

/-- The instruction has retired, with all else as before. -/
abbrev RetDone (k rd : Nat) (v pc : Word) (s u : State) : Prop := Retired k rd v pc s u ∧ Quiet k s u

/-- The instruction has retired and stored the low n bytes of w at host address h: what the byte at x then is. A store to
S0's memories is made in S1's too (R361). -/
abbrev StoreDone (k rd : Nat) (v : Word) (n h : Nat) (w : Word) (x : Nat) (s u : State) : Prop :=
  Retired k rd v ((s.coreOf k).pc + 4) s u ∧ memAt u x =
    if h ≤ x ∧ x < h + n then BitVec.ofNat 8 (w.toNat / 256 ^ (x - h))
    else if 16 ≤ k ∧ h < 0x00C00000 ∧ h + 0x20000 ≤ x ∧ x < h + 0x20000 + n then BitVec.ofNat 8 (w.toNat / 256 ^ (x - h - 0x20000))
    else memAt s x

/-- A CSR instruction has retired: rd takes the old value where it reads, and the CSR n holds v. -/
abbrev CsrDone (k rd : Nat) (reads : Bool) (n : Nat) (v : Word) (s u : State) : Prop :=
  (∀ j : Fin 32, (u.coreOf k).gr j.val =
    if reads = true ∧ j.val = rd ∧ rd ≠ 0 then (s.coreOf k).getCsr n else (s.coreOf k).gr j.val) ∧
  (u.coreOf k).pc = (s.coreOf k).pc + 4 ∧
  (∀ c : Fin 64, (u.coreOf k).getCsr c.val = if c.val = n then v else (s.coreOf k).getCsr c.val) ∧ Quiet k s u

/-- The host address of a byte of core k's memories (R43, R358). -/
def hostOf (k a : Nat) : Nat :=
  if a < 0x10000 then 0x00800000 + 0x20000 * coreIx k + a
  else if a < 0x20000 then 0x00810000 + 0x20000 * coreIx k + (a - 0x10000)
  else 0x00C00000 + (a - 0x400000)

/-- Core k has entered its trap handler (R372): the return address, the cause, the saved mode and the status bits, P mode,
the handler's address; its general registers and every other core are as before. -/
abbrev Trapped (k : Nat) (cause ret : Word) (s u : State) : Prop :=
  (u.coreOf k).getCsr 0x021 = ret ∧ (u.coreOf k).getCsr 0x022 = cause ∧
    (u.coreOf k).csrF 0x010 1 1 = b2n (s.coreOf k).priv ∧ (u.coreOf k).csrF 0x010 0 0 = 0 ∧ (u.coreOf k).csrF 0x010 6 6 = 1 ∧
    (u.coreOf k).csrF 0x010 7 7 = (s.coreOf k).csrF 0x010 7 7 ∧ (u.coreOf k).priv = true ∧
    (u.coreOf k).pc = (s.coreOf k).getCsr 0x020 &&& 0xFFFFFFFC ∧ (u.coreOf k).g = (s.coreOf k).g ∧
    (∀ j : Fin 17, j.val ≠ coreIx k → u.coreOf j.val = s.coreOf j.val)

/-- The instruction has ended in a trap of core k, with memory and registers as before. -/
abbrev TrapDone (k : Nat) (cause : Word) (s u : State) : Prop :=
  Trapped k cause (s.coreOf k).pc s u ∧ u.mem = s.mem ∧ u.regs = s.regs ∧ u.raised = s.raised

/-! The sessions of the control protocol. -/

/-- A message on session k is executed as soon as it arrives: the port is UP, boot is done, the session is open, and no
other message is queued, in execution or waiting for SQ.SEM[0] (R390, R394, R399). -/
abbrev Hears (k : Nat) (s : State) : Prop :=
  ncpReady s = true ∧ s.sessOpen k = true ∧ (s.sessOf k).gen ≠ 0 ∧ s.injBad = false ∧ s.ncpQ = [] ∧ s.ncpJob = none ∧
    s.partRuns = true ∧ s.ncpCommits.any (fun c => semWaits c && c.slot == k && c.gen == (s.sessOf k).gen) = false

/-- Session k has taken the next datagram of the host (R399, R400). -/
def heard (k : Nat) (s : State) : State :=
  s.fresh.setSess k { s.sessOf k with expect := ((s.sessOf k).expect + 1) % 2 ^ 32, lastRx := s.now }

/-- The datagram that session k took in `s` is answered in `t`: a message with a type, a STATUS, the tag and a body (R391). -/
def said (k typ status : Nat) (tag : Word) (body : List Byte) (s t : State) : State :=
  sessSend k ⟨ncpMsgBytes typ status tag body, some (s.sessOf k).expect, 0⟩ t

/-- Session k of `s` is still open in `t`, so that an answer goes out. -/
abbrev StillOpen (k : Nat) (s t : State) : Prop := t.sessOpen k = true ∧ (t.sessOf k).gen = (s.sessOf k).gen

end Sys2Proof.Machine
end

