-- ==== Sys2Proof/Certificates/Slice0/Obligations.lean ====
section
/-! DEFINITION. The statements for the provers. -/

open Sys2Proof Sys2Proof.Machine

/-- A step runs the command at the front of the queue (spec/95_what_each_step_holds.md). For every command c, queue rest
and state s, a step of s with c in front of rest is exec of c on s with rest as its queue. -/
def Obligations.StepTakesFront : Prop :=
  ∀ (c : Instr) (rest : List Instr) (s : State),
    step { s with pending := c :: rest } = exec c { s with pending := rest }

/-- An idle step passes one TL_CLK period (the model's choice, log entry 7) (spec/02_timeline.md). With no command waiting
a step answers the state 250 ticks later, a next state; that a tick of the block does so is the model's choice (log
entry 7), no rule of the spec. -/
def Obligations.StepIdles : Prop :=
  ∀ s : State, s.pending = [] → step s = .next (s.advance 250) ∧ (s.advance 250).now = s.now + 250 ∧
    (s.advance 250).regs = s.regs ∧ (s.advance 250).mem = s.mem

/-- The state after reset has the invariant's form (spec/01_architecture.md). State.reset meets Inv: memory and register
maps canonical, every waiting command well formed. -/
def Obligations.ResetHoldsForm : Prop :=
  Inv State.reset

/-- Every step keeps memory, registers and shadows in canonical form and the queue well formed (spec/01_architecture.md,
spec/95_what_each_step_holds.md). From every state that meets Inv, whatever command is in front, a step that answers a
next state answers one that meets Inv. -/
def Obligations.StepKeepsForm : Prop :=
  ∀ s t : State, Inv s → step s = .next t → Inv t

/-- Every command of the table completes in a next state in every state (spec/95_what_each_step_holds.md). For every
command, with every operand, and every state, exec answers a next state: no command faults or is refused, and a step
never stops. -/
def Obligations.NoCommandStops : Prop :=
  (∀ (i : Instr) (s : State), Goes (exec i s)) ∧ ∀ s : State, Goes (step s)

/-- A step takes exactly the front command off the queue (spec/95_what_each_step_holds.md). Whatever the command in front
does, the next state's queue is the rest of the queue: no command adds to, drops from or reorders the waiting
commands. -/
def Obligations.StepTakesOneCommand : Prop :=
  ∀ (s t : State) (c : Instr) (rest : List Instr), s.pending = c :: rest → step s = .next t → t.pending = rest

/-- Where nothing is left to do, a command's effect is the whole of it (spec/19_self_test_and_faults.md,
spec/01_architecture.md). If a command has the effect u and nothing that it raised, woke or made ready is left to do
in u, u's memory, registers and other maps are canonical and its tags are noted, then exec answers u with the queue as
it was. -/
def Obligations.QuietEnd : Prop :=
  ∀ (i : Instr) (s u : State), exec i s = .next (closed s.pending u) → unsettled u = false → Memory.wf u.mem = true → risesFrom 0 u.regs = true → risesFrom 0 u.shadow = true →
    Cores.formed u.cores = true → risesFrom 0 u.flash = true → u.tidied = true → u.noteTags = u → exec i s = .next { u with pending := s.pending }

/-- What a write does to a field of each access code (spec/01_architecture.md (R19)). For every field at bits hi:lo of a
register, word w written over word a: RO, RC, WO and ST leave the active field, RW takes w's bits, W1C clears the bits
that w has 1, W1S sets them, a locked RW or RW/LK field keeps its value; bits beside the field are unchanged. -/
def Obligations.AccessCodes : Prop :=
  ∀ (f : Fld) (w a : Word) (locked : Bool) (i : Nat), f.lo ≤ f.hi → f.hi < 32 →
    (fldWrite locked w a f).getLsbD i =
      if f.lo ≤ i ∧ i ≤ f.hi then
        match f.acc with
        | .rw => if locked then a.getLsbD i else w.getLsbD i
        | .rwlk => if locked then a.getLsbD i else w.getLsbD i
        | .w1c => a.getLsbD i && !w.getLsbD i
        | .w1s => a.getLsbD i || w.getLsbD i
        | _ => a.getLsbD i
      else a.getLsbD i

/-- Counters saturate at all ones (R24). Adding k to a counter field leaves it at its old value plus k, or at all ones
where that does not fit, and changes no other bit of its register and no other register. -/
def Obligations.CountersSaturate : Prop :=
  ∀ (s : State) (b : Nat) (f : Fld) (k j i : Nat), Inv s → f.lo ≤ f.hi → f.hi < 32 →
    (s.cnt b f k).rd b f = min (s.rd b f + k) (2 ^ (f.hi + 1 - f.lo) - 1) ∧
    (j ≠ b + f.off → (s.cnt b f k).getReg j = s.getReg j) ∧
    (i < f.lo ∨ f.hi < i → ((s.cnt b f k).getReg (b + f.off)).getLsbD i = (s.getReg (b + f.off)).getLsbD i)

/-- A served register write stores its word by the access codes, then the block's hook acts (spec/01_architecture.md). For
a write that the fabric performs at once, of a register at an offset of a block without clock gate, whose word the
part stores in the plain way and whose staged fields are not in legacy mode: the next state is the stored word, then
what the block does, then the answer; a change of a locked field is reported (R22) and answered so. Under its premises
on the state and operands alone, exec answers next for: registerWrite. -/
def Obligations.RegisterWriteStores : Prop :=
  ∀ (m : Master) (addr w : Word) (s : State) (b : Blk) (off key : Nat),
    Served m true addr.toNat w s → place addr.toNat = .reg b off → gateOf addr.toNat = none → (findReg b off).isSome = true →
    ownWrite m b off w s.fresh = none → effKey b off s.fresh = some key → (keyFlds key).any (fun f => f.acc == .st) = false →
    let p := storeWord b off key w s.fresh
    let u := regHook m b off (s.getReg key) w p.1
    exec (.registerWrite m addr w) s = .next (closed s.pending (if p.2 then answered m addr.toNat true 0 .locked (lockRefuse m (b.base + off) u)
       else answered m addr.toNat true 0 .done u))

/-- A served register read answers the register's word and changes no memory (spec/01_architecture.md). For a read that
the fabric performs at once of a register without clock gate, other than a semaphore: the answer carries the word that
the register shows, or the copy that an earlier read of its lower half latched (R25), and memory is unchanged. A
register that clears on reading (R19) reads as before the clear. Under its premises on the state and operands alone,
exec answers next for: registerRead. -/
def Obligations.RegisterReadShows : Prop :=
  ∀ (m : Master) (addr : Word) (s : State) (b : Blk) (off key : Nat),
    Served m false addr.toNat 0 s → place addr.toNat = .reg b off → gateOf addr.toNat = none → (findReg b off).isSome = true →
    (b == .sq && (off == 0x20 || off == 0x24)) = false → effKey b off s.fresh = some key →
    (∃ u, exec (.registerRead m addr) s = .next (closed s.pending u) ∧
      (u.mem = s.mem ∧
      u.resp = some ⟨m, addr.toNat, false,
        match s.latch.find? (fun e => e.1 == key) with
        | some e => e.2
        | none => liveWord b off (s.getReg key) s.fresh, .done⟩))

/-- An access that is not an aligned word is refused without effect and reported (R41). On a part that runs, out of reset
and with PCLK, a register write or read at an address that is not a multiple of 4 ends in EV_GLB_DECODE_ERR (0x428)
with the access's master, kind and address, answers a decode error with data 0, and does nothing else; an unmapped
address (R40) ends the same way. Under its premises on the state and operands alone, exec answers next for:
registerWrite, registerRead. -/
def Obligations.UndecodedAccess : Prop :=
  ∀ (m : Master) (addr w : Word) (s : State), s.por = false → s.inReset = false → s.fatal = false → s.off = false →
    s.pclkStopped = false → (addr.toNat % 4 ≠ 0 ∨ place addr.toNat = .unmapped) →
    (mayAccess m true addr.toNat w s = true → (m = .mi2c → mi2cMay true addr.toNat s = true) →
      exec (.registerWrite m addr w) s = .next (closed s.pending (answered m addr.toNat true 0 .decodeErr (s.fresh.raiseA 0x428 ⟨Master.id m, 2, addr.toNat⟩)))) ∧
    (mayAccess m false addr.toNat 0 s = true → (m = .mi2c → mi2cMay false addr.toNat s = true) →
      exec (.registerRead m addr) s = .next (closed s.pending (answered m addr.toNat false 0 .decodeErr (s.fresh.raiseA 0x428 ⟨Master.id m, 1, addr.toNat⟩))))

/-- The fabric ends an access after 65,536 PCLK cycles (R38). With an access the oldest that waits on a part out of reset
whose PCLK runs, ACCESS_TIMEOUT passes the time to 65,536 counted PCLK cycles after it entered (at the PLL settings of
reset 6,168,095 ticks of 25.6 ps from its entry, and 25,600,000 on the IRO), raises EV_GLB_ACCESS_TIMEOUT (0x429) with
the access's record, and hands the master a time-out with data 0; the access has no other effect. While PCLK is
stopped the count does not run. Over JTAG, and over the NCP outside a message, that is the answer itself. Under its
premises on the state and operands alone, exec answers next for: accessTimeout. -/
def Obligations.AccessTimeoutEnds : Prop :=
  (∀ (s : State) (a : Access) (rest : List Access), s.waiting = a :: rest → s.pclkStopped = false → s.inReset = false →
    let x := ({ s.fresh.advance (s.pclkT (a.enter + 65536 - s.pclk)) with waiting := rest }).raiseA 0x429
      ⟨Master.id a.master, if a.write then 2 else 1, a.addr⟩
    exec .accessTimeout s = .next (closed s.pending (deliver a 0 .timeout x)) ∧
    (a.master = .jtag ∨ (a.master = .ncp ∧ s.ncpJob = none) →
      deliver a 0 .timeout x = answered a.master a.addr a.write 0 .timeout x)) ∧
  (∀ s : State, s.pclkStopped = false → fget s.clk.coreCfg 23 16 = 85 → fget s.clk.coreCfg 11 8 = 4 →
    s.pclkT 65536 = if s.clkState = 0 then 6168095 else 25600000) ∧
  (∀ (s : State) (d : Nat), s.pclkStopped = true → (s.advance d).pclk = s.pclk)

/-- Event lines: the clamp of a domain that is not ON, and what a raise sets (spec/17_power_states.md (R445),
spec/01_architecture.md (R49), spec/19_self_test_and_faults.md (R499)). Raising an event whose block lies in a
switched domain that is not ON changes nothing at all; the bias events of a lane and the events of blocks in BB and
AON are never clamped. Raising an event whose line is not clamped sets its bit of EVT.STAT whatever EVT.EN holds,
leaves the other bits of that word (but EV_FLT_REC_FULL's where the record was lost), memory, the queue of commands
and true time as they were, and puts one raise of that event last among those whose reactions follow, after one of
EV_FLT_REC_FULL where the record was lost. -/
def Obligations.EventLines : Prop :=
  (∀ (s : State) (id d : Nat) (acc : EvAcc), evDom id = some d → bits (0x500000000034 + d * 0x100000) 10 8 s ≠ 3 → s.raiseA id acc = s) ∧
  (∀ (n : Lane) (k : Nat), k < 11 → evDom (12 * n.val + k) = some n.val) ∧
  (∀ n : Lane, evDom (12 * n.val + 11) = none) ∧
  (∀ (o : Oct) (k : Nat), k < 6 → evDom (0x300 + 6 * o.val + k) = some (64 + o.val)) ∧
  (∀ id : Nat, 0x3F0 ≤ id → id < 0x430 → evDom id = none) ∧
  (∀ (s : State) (id : Nat) (acc : EvAcc), Inv s → id < 1152 → s.evClamped id = false →
    bits (0x000B0000 + 4 * (id / 32)) (id % 32) (id % 32) (s.raiseA id acc) = 1 ∧
    (∀ i : Nat, i < 32 → i ≠ id % 32 → 32 * (id / 32) + i ≠ 0x41D →
      bits (0x000B0000 + 4 * (id / 32)) i i (s.raiseA id acc) = bits (0x000B0000 + 4 * (id / 32)) i i s) ∧
    (s.raiseA id acc).mem = s.mem ∧ (s.raiseA id acc).pending = s.pending ∧ (s.raiseA id acc).now = s.now ∧
    ∃ l r, (s.raiseA id acc).raised = s.raised ++ l ++ [r] ∧ r.id = id ∧ ∀ x ∈ l, x.id = 0x41D)

/-- GLB.RESET, the start and the end of a chip reset, the JTAG reset, and the injections of GLB.INJECT
(spec/01_architecture.md). A served write of GLB.RESET with CHIP = 1 and KEY 0xA5C3 sets a chip reset 2.0 us (78,125
ticks) ahead, unless one is already set. The begin of a scheduled reset puts the part in reset at its instant for 10
us (390,625 ticks) and leaves the sequencer memories; its release at the end of the hold takes the part out of reset
with RESET_N high and starts the boot's clock. The JTAG reset instruction begins at once on a part that is powered and
not in FATAL. A served write of GLB.INJECT with DECODE or TIMEOUT raises EV_GLB_DECODE_ERR or EV_GLB_ACCESS_TIMEOUT,
whatever else the word holds. Under its premises on the state and operands alone, exec answers next for: glbReset,
chipResetBegin, chipResetRelease, jtagReset, glbInjDecode, glbInjTimeout. -/
def Obligations.ChipResets : Prop :=
  (∀ (m : Master) (w : Word) (s : State),
    (Served m true 0x00000020 (fset (fset w 31 16 0xA5C3) 0 0 1) s → ∃ u, exec (.glbReset m w) s = .next (closed s.pending u) ∧
      (u.chipRstAt = some (s.chipRstAt.getD (s.now + 78125)) ∧ (s.chipRstAt = none → u.rstCause = 2)))) ∧
  (∀ (s : State) (t : Nat), s.chipRstAt = some t → (∃ u, exec .chipResetBegin s = .next (closed s.pending u) ∧
      (u.inReset = true ∧ u.chipRstAt = some (max s.now t + 390625) ∧ u.mem = s.mem ∧ u.waiting = [] ∧ u.booted = false))) ∧
  (∀ (s : State) (t : Nat), s.chipRstAt = some t → s.inReset = true → s.resetLow = false → (∃ u, exec .chipResetRelease s = .next (closed s.pending u) ∧
      (u.inReset = false ∧ u.chipRstAt = none ∧ u.bootFrom = max s.now t ∧ u.mem = s.mem))) ∧
  (∀ s : State, s.fatal = false → s.off = false → s.por = false → s.inReset = false → (∃ u, exec .jtagReset s = .next (closed s.pending u) ∧
      (u.inReset = true ∧ u.chipRstAt = some (s.now + 390625) ∧ u.rstCause = 4 ∧ u.mem = s.mem))) ∧
  (∀ (m : Master) (w : Word) (s : State), (Served m true 0x00000028 (fset w 0 0 1) s → ∃ u, exec (.glbInjDecode m w) s = .next (closed s.pending u) ∧
      (Sends 0x428) u)) ∧
  (∀ (m : Master) (w : Word) (s : State), (Served m true 0x00000028 (fset w 1 1 1) s → ∃ u, exec (.glbInjTimeout m w) s = .next (closed s.pending u) ∧
      (Sends 0x429) u))

/-- ENABLE, MODE, COASTED, CAL, the injections of TL.CTRL, pulses, misses, steps and the rate window
(spec/02_timeline.md). Served writes, whatever else their word holds: ENABLE 0 to 1 loads TLV with EPOCH, at the next
TL_CLK edge where TL_CLK is present (R55; the edge is the model's reading of R65); ENABLE 1 to 0 stops the timeline,
TLV unchanged (R56); MODE 0 to 1 in FREE begins a seek (R56); COASTED written 1 outside COAST clears COASTED and the
uncertainty (R65) and in COAST changes nothing; CAL starts a delay measurement (R60); each injection of R78 is armed,
INJ_TLCLK_LOSS as a loss of TL_CLK. In SEEK a recognised pulse loads TLV with EPOCH at the edge that samples it (R55);
in LOCKED and HOLDOVER one at the expected instant matches and moves it on by one interval (R57); a miss counts and
moves it on likewise (R57); a due step moves TLV by its signed size at its instant (R58); a rate window ends 2^24
TL_CLK cycles after it began with its rate in EMBER_RATE (R63); a delay measurement ends (R60); the replica's
correction falls 256,000 ticks after the last (R60); an injected loss ends with TL_CLK good where the monitor has not
declared it lost (R78). Under its premises on the state and operands alone, exec answers next for: tlEnableOn,
tlEnableOff, tlModeWrite, coastedClear, tlCal, tlInjTlclkLoss, tlInjReject, tlInjLate, tlInjSyncMiss, tlInjSyncErr,
syncPulse, syncMiss, timelineStep, emberRateWindow, laneDlyMeasured, replicaCorrection, tlInjTlclkLossEnd. -/
def Obligations.TimelineUnit : Prop :=
  (∀ (m : Master) (w : Word) (s : State), Inv s → bits 0x00040000 0 0 s = 0 →
    (Served m true 0x00040000 (fset w 0 0 1) s → ∃ u, exec (.tlEnableOn m w) s = .next (closed s.pending u) ∧
      (u.tl.tlv = BitVec.ofNat 64 ((s.getReg 0x00040010).toNat + (s.getReg 0x00040014).toNat * 2 ^ 32) ∧
      u.now = if s.tl.lost then s.now else s.now + (250 - s.now % 250) % 250))) ∧
  (∀ (m : Master) (w : Word) (s : State), Inv s → bits 0x00040000 0 0 s = 1 →
    (Served m true 0x00040000 (fset w 0 0 0) s → ∃ u, exec (.tlEnableOff m w) s = .next (closed s.pending u) ∧
      (bits 0x00040004 2 0 u = 5 ∧ u.tl.tlv = s.tl.tlv ∧ u.now = s.now ∧ u.tl.step = none))) ∧
  (∀ (m : Master) (w : Word) (s : State), Inv s → bits 0x00040000 1 0 s = 1 → bits 0x00040004 2 0 s = 0 → fget w 1 0 = 3 → fget w 31 31 = 0 →
    (Served m true 0x00040000 w s → ∃ u, exec (.tlModeWrite m w) s = .next (closed s.pending u) ∧
      (bits 0x00040004 2 0 u = 1 ∧ u.tl.tlv = s.tl.tlv))) ∧
  (∀ (m : Master) (w : Word) (s : State), Inv s → bits 0x00040004 2 0 s ≠ 4 →
    (Served m true 0x00040004 (fset w 3 3 1) s → ∃ u, exec (.coastedClear m w) s = .next (closed s.pending u) ∧
      (bits 0x00040004 3 3 u = 0 ∧ u.tl.uncBase = 0 ∧ u.tl.coast = .none ∧ u.tl.tlv = s.tl.tlv))) ∧
  (∀ (m : Master) (w : Word) (s : State), bits 0x00040004 2 0 s = 4 → fget w 7 7 = 0 →
    (Served m true 0x00040004 (fset w 3 3 1) s → ∃ u, exec (.coastedClear m w) s = .next (closed s.pending u) ∧
      (u = answered m 0x00040004 true 0 .done s.fresh))) ∧
  (∀ (m : Master) (w : Word) (s : State), bits 0x00040004 9 9 s = 0 → fget w 0 0 = bits 0x00040000 0 0 s → fget w 1 1 = bits 0x00040000 1 1 s →
    (Served m true 0x00040000 (fset w 2 2 1) s → ∃ u, exec (.tlCal m w) s = .next (closed s.pending u) ∧
      (u.tl.calRun = true))) ∧
  (∀ (m : Master) (w : Word) (s : State), (Served m true 0x00040000 (fset w 31 31 1) s → ∃ u, exec (.tlInjTlclkLoss m w) s = .next (closed s.pending u) ∧
      (u.tl.lost = true ∧ u.tl.injLoss.isSome = true))) ∧
  (∀ (m : Master) (w : Word) (s : State), (Served m true 0x00040000 (fset w 30 30 1) s → ∃ u, exec (.tlInjReject m w) s = .next (closed s.pending u) ∧
      (u.tl.injReject = true))) ∧
  (∀ (m : Master) (w : Word) (s : State), (Served m true 0x00040000 (fset w 29 29 1) s → ∃ u, exec (.tlInjLate m w) s = .next (closed s.pending u) ∧
      (u.tl.injLate = true))) ∧
  (∀ (m : Master) (w : Word) (s : State), (Served m true 0x00040000 (fset w 28 28 1) s → ∃ u, exec (.tlInjSyncMiss m w) s = .next (closed s.pending u) ∧
      (u.tl.injMiss = true))) ∧
  (∀ (m : Master) (w : Word) (s : State), (Served m true 0x00040000 (fset w 27 27 1) s → ∃ u, exec (.tlInjSyncErr m w) s = .next (closed s.pending u) ∧
      (u.tl.injErr = true))) ∧
  (∀ (c : BitVec 40) (s : State), Inv s → s.bbOn = true → s.syncBad = none → s.tl.step = none → s.tl.lost = false → s.tl.injLoss = none →
    bits 0x00040004 2 0 s = 1 → (∃ u, exec (.syncPulse c) s = .next (closed s.pending u) ∧
      (u.tl.tlv = BitVec.ofNat 64 ((s.getReg 0x00040010).toNat + (s.getReg 0x00040014).toNat * 2 ^ 32) ∧
      u.now = s.now + ((250 - s.now % 250) % 250 + c.toNat * 250)))) ∧
  (∀ (c : BitVec 40) (s : State), s.bbOn = true → s.syncBad = none → s.tl.step = none → s.tl.lost = false → s.tl.injLoss = none →
    (bits 0x00040004 2 0 s = 2 ∨ bits 0x00040004 2 0 s = 3) → s.tl.injErr = false → s.tl.injMiss = false →
    (s.advance ((250 - s.now % 250) % 250 + c.toNat * 250)).tl.tlv.toNat = s.tl.expect → (∃ u, exec (.syncPulse c) s = .next (closed s.pending u) ∧
      (u.tl.expect = s.tl.expect + max 1 (s.getReg 0x00040018).toNat * 250 ∧ u.tl.misses = 0 ∧ u.tl.firstErr = none))) ∧
  (∀ s : State, s.bbOn = true → (bits 0x00040004 2 0 s = 2 ∨ bits 0x00040004 2 0 s = 3) → (∃ u, exec .syncMiss s = .next (closed s.pending u) ∧
      (u.tl.misses = s.tl.misses + 1 ∧ u.tl.expect = s.tl.expect + max 1 (s.getReg 0x00040018).toNat * 250 ∧
      u.tl.injMiss = false ∧ u.tl.firstErr = none))) ∧
  (∀ (s : State) (d : StepDue), s.tl.step = some d → s.counting = true → (∃ u, exec .timelineStep s = .next (closed s.pending u) ∧
      (u.tl.tlv = BitVec.ofInt 64 (((s.advanceNow d.at_).tl.tlv.toNat : Int) + d.size) ∧ u.now = max s.now d.at_ ∧ u.tl.step = none))) ∧
  (∀ (r : Word) (s : State) (t : Nat), Inv s → s.tl.rateFrom = some t → s.bbOn = true → (∃ u, exec (.emberRateWindow r) s = .next (closed s.pending u) ∧
      (u.getReg 0x0004F00C = r ∧ bits 0x00040004 8 8 u = 1 ∧ u.now = max s.now (t + 2 ^ 24 * 250) ∧ u.tl.rateFrom = some u.now))) ∧
  (∀ (l : List LaneDly) (s : State), s.tl.calRun = true → (∃ u, exec (.laneDlyMeasured l) s = .next (closed s.pending u) ∧
      (u.tl.calRun = false))) ∧
  (∀ s : State, (∃ u, exec .replicaCorrection s = .next (closed s.pending u) ∧
      (u.now = max s.now (s.tl.corrAt + 256000) ∧ u.tl.corrAt = u.now ∧ u.regs = s.regs))) ∧
  (∀ (s : State) (t : Nat), s.tl.injLoss = some t → look 0 s.clk.decl 2 ≠ 2 → (∃ u, exec .tlInjTlclkLossEnd s = .next (closed s.pending u) ∧
      (u.tl.injLoss = none ∧ u.tl.lost = false ∧ u.now = max s.now t)))

/-- The operations of TL.ACT_CMD (spec/02_timeline.md). Served writes of ACT_CMD name an entry i in bits 9:0. READ shows
its words in ACT_W. WRITE and WRITE+ARM store the words of ACT_W where the checks of R69 pass and the entry is not
DISPATCHED, and leave it IDLE or ARMED; ARM and DISARM move a filled entry to ARMED or IDLE, CLEAR empties it; an
ARMED entry carries the ID of the master that armed it. Under its premises on the state and operands alone, exec
answers next for: actRead, actWriteArm, actWrite, actArm, actDisarm, actClear. -/
def Obligations.ActionCommands : Prop :=
  (∀ (m : Master) (w : Word) (s : State), Inv s → (Served m true 0x00040080 (fset w 14 12 0) s → ∃ u, exec (.actRead m w) s = .next (closed s.pending u) ∧
      (∀ j : Fin 4, u.getReg (0x00040084 + 4 * j.val) = actW (fget w 9 0) j.val s))) ∧
  (∀ (m : Master) (w : Word) (s : State), Inv s → actState (fget w 9 0) s ≠ 3 → actOk m (s.getReg 0x0004008C) (s.getReg 0x00040090) s = true →
    (Served m true 0x00040080 (fset w 14 12 1) s → ∃ u, exec (.actWriteArm m w) s = .next (closed s.pending u) ∧
      (actState (fget w 9 0) u = 2 ∧ (u.actOf (fget w 9 0)).master = Master.id m ∧ ∀ j : Fin 4, actW (fget w 9 0) j.val u = s.getReg (0x00040084 + 4 * j.val)))) ∧
  (∀ (m : Master) (w : Word) (s : State), Inv s → actState (fget w 9 0) s ≠ 3 → actOk m (s.getReg 0x0004008C) (s.getReg 0x00040090) s = true →
    (Served m true 0x00040080 (fset w 14 12 2) s → ∃ u, exec (.actWrite m w) s = .next (closed s.pending u) ∧
      (actState (fget w 9 0) u = 1 ∧ ∀ j : Fin 4, actW (fget w 9 0) j.val u = s.getReg (0x00040084 + 4 * j.val)))) ∧
  (∀ (m : Master) (w : Word) (s : State), Inv s → actState (fget w 9 0) s ≠ 3 → actState (fget w 9 0) s ≠ 0 →
    actOk m (actW (fget w 9 0) 2 s) (actW (fget w 9 0) 3 s) s = true →
    (Served m true 0x00040080 (fset w 14 12 3) s → ∃ u, exec (.actArm m w) s = .next (closed s.pending u) ∧
      (actState (fget w 9 0) u = 2 ∧ (u.actOf (fget w 9 0)).master = Master.id m))) ∧
  (∀ (m : Master) (w : Word) (s : State), Inv s → actState (fget w 9 0) s ≠ 3 → actState (fget w 9 0) s ≠ 0 →
    (Served m true 0x00040080 (fset w 14 12 4) s → ∃ u, exec (.actDisarm m w) s = .next (closed s.pending u) ∧
      (actState (fget w 9 0) u = 1))) ∧
  (∀ (m : Master) (w : Word) (s : State), Inv s → actState (fget w 9 0) s ≠ 3 →
    (Served m true 0x00040080 (fset w 14 12 5) s → ∃ u, exec (.actClear m w) s = .next (closed s.pending u) ∧
      (actState (fget w 9 0) u = 0 ∧ ∀ j : Fin 4, actW (fget w 9 0) j.val u = 0)))

/-- Dispatch and execution of timed actions, immediate commits, legacy writes and windows, and the copy
(spec/02_timeline.md). While the timeline counts, the ARMED entry with the earliest TIME is dispatched at TIME -
256,000, one entry a PCLK, for X = max(TIME, D + 16,384), with one more 16,384 ticks under INJ_LATE (R70, R71, R78),
here where every domain it needs is ON and its target's queue has room. A DISPATCHED entry executes at X, its lateness
is recorded, its effect follows, and it is DONE or rearmed (R70 to R72). A served write of GLB.COMMIT queues one
commit for the instant 16,384 ticks on with the mask as it stands (R75); the oldest executes (R74). The end of a
legacy window commits a group that meets its rules; one that does not is reloaded and reported (R77). For a group, a
set of register keys given by a predicate: after the copy every register of the group has the shadow's ST bits and its
own other bits, and every other register, every shadow and memory are unchanged; a group whose shadows equal the
active values is unchanged. Under its premises on the state and operands alone, exec answers next for: actionDispatch,
actionExecute, glbCommit, commitExecute, legacyFieldWrite, legacyWindowEnd. -/
def Obligations.ActionsAndCommits : Prop :=
  (∀ (s : State) (i : Nat), s.counting = true → actNext s = some i →
    let t := (s.fresh.advanceTlv (actTime i s - 256000) s.now).advanceNow s.tl.dispAt
    let d := t.tlv.toNat
    let x := if t.tl.injLate then max (actTime i t) d + 16384 else max (actTime i t) (d + 16384)
    let mask := (t.getReg (0x00000140 + 8 * (fget (actW i 3 t) 5 0 % 8))).toNat + (t.getReg (0x00000144 + 8 * (fget (actW i 3 t) 5 0 % 8))).toNat * 2 ^ 32
    (∀ e ∈ actDoms i mask t, t.domOn e = true) → ((actsIn 3 t).filter (fun j => !(t.actOf j).full && actTarget j t == actTarget i t)).length < 16 →
    exec .actionDispatch s = .next (closed s.pending (actGo i 3
      (({ t with tl := { t.tl with injLate := false, dispAt := t.now + t.pclkT 1 } }).setAct i
        ⟨(t.actOf i).master, x, t.now + (x - d), mask, false, false, false⟩)))) ∧
  (∀ (s : State) (i : Fin 1024), actState i.val s = 3 → s.partRuns = true → actReady i.val s = true → (s.actOf i.val).held = false →
    let a := s.actOf i.val
    let t := s.fresh.advanceTlv a.x a.due
    let x := max a.x t.tlv.toNat
    let u := actEffect i.val x (actLate i.val x t)
    let v := actTake (actTarget i.val t) (actRearm i.val (u.setAct i.val { u.actOf i.val with x := x }))
    actDoms i.val a.mask t = [] → exec (.actionExecute i) s = .next (closed s.pending v)) ∧
  (∀ (m : Master) (w : Word) (s : State), (Served m true 0x00000100 w s → ∃ u, exec (.glbCommit m w) s = .next (closed s.pending u) ∧
      (u.commits = s.commits ++ [⟨fget w 3 0, fget w 5 4, fget w 13 8,
      (s.getReg (0x00000140 + 8 * (fget w 13 8 % 8))).toNat + (s.getReg (0x00000144 + 8 * (fget w 13 8 % 8))).toNat * 2 ^ 32,
      s.tlv.toNat + 16384, s.now + 16384⟩]))) ∧
  (∀ (s : State) (c : PendCommit) (cs : List PendCommit), s.commits = c :: cs →
    let u := commitBusy (commitApply c.cls c.scope c.index c.mask none { s.fresh.advanceReq c.x c.due with commits := cs })
    exec .commitExecute s = .next (closed s.pending (commitTick (u.raised.any (fun r => r.id == 0x426)) c.x u))) ∧
  (∀ (m : Master) (addr w : Word) (s : State) (b : Blk) (off key c i : Nat),
    Served m true addr.toNat w s → place addr.toNat = .reg b off → gateOf addr.toNat = none → (findReg b off).isSome = true →
    ownWrite m b off w s.fresh = none → effKey b off s.fresh = some key → keyGroup key = some (c, i) → (keyFlds key).any (fun f => f.acc == .st) = true →
    let p := storeWord b off key w s.fresh
    let u := regHook m b off (s.getReg key) w p.1
    p.2 = false → legacyOn c u = true →
    exec (.legacyFieldWrite m addr w) s = .next (closed s.pending (answered m addr.toNat true 0 .done (legacyWrite c i key u)))) ∧
  (∀ (s : State) (k : Fin 14) (i : Lane) (t : Nat), look 0 s.legacy (64 * k.val + i.val) = t + 1 →
    let u := windowClose k.val i.val (s.fresh.advanceNow (t + s.pclkT (16 * bits 0x0000010C 25 16 s)))
    (clsRules k.val i.val u = 0 → exec (.legacyWindowEnd k i) s = .next (closed s.pending (clsCopy k.val i.val u))) ∧
    (clsRules k.val i.val u ≠ 0 →
      exec (.legacyWindowEnd k i) s = .next (closed s.pending (((clsReload k.val i.val u).cnt 0 R.GLB_LEGACY_CNT_MISMATCH 1).raise 0x427)))) ∧
  (∀ (p : Nat → Bool) (s : State) (k : Nat), Inv s →
    (copyGroup p s).getReg k = (if p k = true then mergeSt k (s.getReg k) (s.getShadow k) else s.getReg k) ∧
    (copyGroup p s).shadow = s.shadow ∧ (copyGroup p s).mem = s.mem ∧
    ∀ i : Nat, (mergeSt k (s.getReg k) (s.getShadow k)).getLsbD i =
      if (stMask k).getLsbD i then (s.getShadow k).getLsbD i else (s.getReg k).getLsbD i)

/-- RX.CTRL, the receive injections and TRIM_DATA (spec/03_receive_front_end.md). Served writes. RX.CTRL: LANE_RST 1
resets the lane (R105); else ENABLE 0 to 1 leaves OFF for NOCLK, and NOCLK for CAL where the clock allows, and ENABLE
0 in any other state goes to OFF with cause 0x5 (R101); on a Glint lane BURST follows. Each injection of RX.INJECT
acts as the event it stands for, in bit order (R104). TRIM_DATA: frozen kinds of the sub-converter of TRIM_SEL take
effect at once, all at the next round's end; an index above 95 names none (R94). Under its premises on the state and
operands alone, exec answers next for: rxEnable, laneRst, rxInjLos, rxInjUnlock, rxInjCal, trimDataWrite. -/
def Obligations.ReceiveCommands : Prop :=
  (∀ (m : Master) (n : Lane) (w : Word) (s : State), fget w 31 31 = 0 →
    (Served m true (0x01000000 + 0x10000 * n.val) w s →
      exec (.rxEnable m n w) s = .next (closed s.pending (wrote m (0x01000000 + 0x10000 * n.val) w (fun t =>
      let u := if fget w 0 0 = 1 then (if s.rxState n.val = 0 then rxTryClk n.val (rxGo n.val 1 0 t) else t)
        else if s.rxState n.val = 0 then t else rxGo n.val 0 5 t
      if n.val < 56 then u else rxBurstSync n.val u) s)))) ∧
  (∀ (m : Master) (n : Lane) (w : Word) (s : State),
    (Served m true (0x01000000 + 0x10000 * n.val) (fset w 31 31 1) s →
      exec (.laneRst m n w) s = .next (closed s.pending (wrote m (0x01000000 + 0x10000 * n.val) (fset w 31 31 1) (laneReset n.val) s)))) ∧
  (∀ (m : Master) (n : Lane) (w : Word) (s : State),
    let f := each [(0, fun t => if t.rxState n.val = 7 then losChange n.val true t else rxLosAssert n.val t), (1, fun t => if t.rxState n.val = 6 then rxGo n.val 5 6 t else t), (2, rxLimit n.val 0xFF 3)]
    (Served m true (0x01000058 + 0x10000 * n.val) (fset w 0 0 1) s →
      exec (.rxInjLos m n w) s = .next (closed s.pending (wrote m (0x01000058 + 0x10000 * n.val) (fset w 0 0 1) (f (fset w 0 0 1)) s))) ∧
    (Served m true (0x01000058 + 0x10000 * n.val) (fset w 1 1 1) s →
      exec (.rxInjUnlock m n w) s = .next (closed s.pending (wrote m (0x01000058 + 0x10000 * n.val) (fset w 1 1 1) (f (fset w 1 1 1)) s))) ∧
    (Served m true (0x01000058 + 0x10000 * n.val) (fset w 2 2 1) s →
      exec (.rxInjCal m n w) s = .next (closed s.pending (wrote m (0x01000058 + 0x10000 * n.val) (fset w 2 2 1) (f (fset w 2 2 1)) s)))) ∧
  (∀ (m : Master) (n : Lane) (w : Word) (s : State) (i : Nat), Inv s → s.rd (laneB n.val) R.RX_TRIM_SEL_INDEX = i → i < 96 →
    let frozen := s.rd (laneB n.val) R.RX_CAL_CTRL_FREEZE_OFS + 2 * s.rd (laneB n.val) R.RX_CAL_CTRL_FREEZE_GAIN + 4 * s.rd (laneB n.val) R.RX_CAL_CTRL_FREEZE_SKEW
    (Served m true (0x01000048 + 0x10000 * n.val) w s → ∃ u, exec (.trimDataWrite m n w) s = .next (closed s.pending u) ∧
      ((i, w &&& 0x3FFFFCFF) ∈ (u.rxOf n.val).pendTrim ∧ ((u.rxOf n.val).pendTrim.filter (fun e => e.1 == i)).length = 1 ∧
      u.mem = s.mem ∧ (u.rxState n.val = s.rxState n.val) ∧
      u.rd (Obj.trim n.val i).base R.RX_TRIM_DATA_OFS = (if frozen % 2 = 1 then fget w 29 20 else s.rd (Obj.trim n.val i).base R.RX_TRIM_DATA_OFS) ∧
      u.rd (Obj.trim n.val i).base R.RX_TRIM_DATA_GAIN = (if frozen / 2 % 2 = 1 then fget w 19 10 else s.rd (Obj.trim n.val i).base R.RX_TRIM_DATA_GAIN) ∧
      u.rd (Obj.trim n.val i).base R.RX_TRIM_DATA_SKEW = (if frozen / 4 = 1 then fget w 7 0 else s.rd (Obj.trim n.val i).base R.RX_TRIM_DATA_SKEW)))) ∧
  (∀ (m : Master) (n : Lane) (w : Word) (s : State), 96 ≤ s.rd (laneB n.val) R.RX_TRIM_SEL_INDEX → Served m true (0x01000048 + 0x10000 * n.val) w s →
    exec (.trimDataWrite m n w) s = .next (closed s.pending (answered m (0x01000048 + 0x10000 * n.val) true 0 .done s.fresh)))

/-- Gain control, loss of signal, calibration rounds, timing recovery, and entering a receive state
(spec/03_receive_front_end.md). AGC_EVAL stores the level and counts clipped samples; with AGC_EN in FREQ, PHASE or
LOCKED the gain moves by the step of R83 within 0 to 40, at the end of a cross-fade where one runs. A swing below
(above) the level for its time sets (clears) LOS, counts, raises and moves the state (R85, R86, R101). The 256th round
of CAL ends CAL (R92). A window of timing recovery in LOCKED whose error stays within UNLOCK_TH and whose frequency
lies in range only updates its measurements; UNLOCK_TIME windows beyond end LOCKED with cause 0x2; LOCK_TIME windows
below LOCK_TH in PHASE lock (R99, R101). Entering a state from another sets STATE, LOCKED and, in OFF, NOCLK and CAL,
LOS; an exit from LOCKED counts and records its cause; memory, the queue, true time, the transmit registers of every
lane and the receive registers of every other lane keep their values. Under its premises on the state and operands
alone, exec answers next for: agcEval, losAssert, losDeassert, calRoundEnd, trWindowEnd. -/
def Obligations.ReceiveEvents : Prop :=
  (∀ (n : Lane) (codes : List (BitVec 8)) (s : State),
    let b := laneB n.val
    let clipped := codes.countP (fun (c : BitVec 8) => c == 0x80 || c == 0x7F)
    let sq := (codes.map (fun (c : BitVec 8) => c.toInt.natAbs ^ 2)).sum
    let t := (s.fresh.wr b R.RX_LEVEL_RMS (min (Nat.sqrt (sq / max 1 codes.length)) 255)).cnt b R.RX_CNT_CLIP_CLIP clipped
    let d : Int := if s.rd b R.RX_AGC_CFG_CLIP_TH < clipped then -1
      else if (s.rd b R.RX_AGC_CFG_TARGET + s.rd b R.RX_AGC_CFG_DEADBAND) ^ 2 * codes.length < sq then -1
      else if sq < (s.rd b R.RX_AGC_CFG_TARGET - s.rd b R.RX_AGC_CFG_DEADBAND) ^ 2 * codes.length then 1 else 0
    let acts := s.on b R.RX_GAIN_AGC_EN ∧ 4 ≤ s.rxState n.val ∧ s.rxState n.val ≤ 6
    (¬acts → exec (.agcEval n codes) s = .next (closed s.pending t)) ∧
    (acts → s.on b R.EQ_STATUS_XF_BUSY = true → exec (.agcEval n codes) s = .next (closed s.pending (t.setRx n.val { s.rxOf n.val with agcDefer := d }))) ∧
    (acts → s.on b R.EQ_STATUS_XF_BUSY = false →
      exec (.agcEval n codes) s = .next (closed s.pending (t.wr b R.RX_GAIN_GAIN_ACT (clampI 0 40 ((s.rd b R.RX_GAIN_GAIN_ACT : Nat) + d)).toNat)))) ∧
  (∀ (n : Lane) (v : BitVec 8) (s : State), 3 ≤ s.rxState n.val → s.rxState n.val ≤ 6 →
    v.toNat < s.rd (laneB n.val) R.RX_LOS_CFG_ASSERT_TH → s.on (laneB n.val) R.RX_STATUS_LOS = false →
    let b := laneB n.val
    let t := (((s.fresh.wr b R.RX_LEVEL_SWING v.toNat).wr b R.RX_STATUS_LOS 1).cnt b R.RX_CNT_LOS 1).raise (12 * n.val)
    exec (.losAssert n v) s = .next (closed s.pending (if s.rxState n.val = 3 then t else rxGo n.val 3 1 t))) ∧
  (∀ (n : Lane) (v : BitVec 8) (s : State), 3 ≤ s.rxState n.val → s.rxState n.val ≤ 6 →
    losOffLevel n.val s < v.toNat → s.on (laneB n.val) R.RX_STATUS_LOS = true →
    let b := laneB n.val
    let t := ((s.fresh.wr b R.RX_LEVEL_SWING v.toNat).wr b R.RX_STATUS_LOS 0).raise (12 * n.val)
    exec (.losDeassert n v) s = .next (closed s.pending (if s.rxState n.val = 3 then rxGo n.val 4 0 t else t))) ∧
  (∀ (n : Lane) (sums : List RoundSum) (s : State), s.rxState n.val ≠ 2 → s.on (laneB n.val) R.RX_CAL_CTRL_BG_EN = false →
    exec (.calRoundEnd n sums) s = .next (closed s.pending s.fresh)) ∧
  (∀ (n : Lane) (sums : List RoundSum) (s : State), s.rxState n.val = 2 → s.rd (laneB n.val) R.RX_CAL_CTRL_FREEZE_OFS = 1 →
    s.rd (laneB n.val) R.RX_CAL_CTRL_FREEZE_GAIN = 1 → s.rd (laneB n.val) R.RX_CAL_CTRL_FREEZE_SKEW = 1 → (s.rxOf n.val).pendTrim = [] →
    let b := laneB n.val
    let t := (s.fresh.setRx n.val (s.rxOf n.val)).cntW b R.RX_CAL_STATUS_ROUNDS 1
    exec (.calRoundEnd n sums) s = .next (closed s.pending (if (s.rxOf n.val).calRounds + 1 < 256 then t.setRx n.val { s.rxOf n.val with calRounds := (s.rxOf n.val).calRounds + 1 }
       else rxBurstSync n.val (rxGo n.val 3 0 ((t.setRx n.val { s.rxOf n.val with freq := 0 }).wr b R.RX_TR_FREQ_FREQ 0))))) ∧
  (∀ (n : Lane) (pd : List PdOut) (s : State), 4 ≤ s.rxState n.val → s.rxState n.val ≤ 6 →
    let b := laneB n.val
    let x := s.rxOf n.val
    let na := s.rxState n.val = 4 ∨ s.on b R.RX_TR_CFG_PD_SEL = true
    let es := pd.map (fun (p : PdOut) => if na then (if s.rxMode n.val = 0 then p.line else p.two) else p.mm)
    let loop := loopRun (s.rd b R.RX_TR_CFG_KP) (s.rd b R.RX_TR_CFG_KI) (s.rdI b R.RX_TR_CFG_PHASE_OFS) es (x.freq, x.phi)
    let f := loopPpm loop.1 (symRate (s.rxMode n.val))
    let st := if Int.natAbs (f - s.rdI b R.RX_TR_FREQ_FREQ) < 8 * 64 then x.stable + 1 else 0
    let lk := if rmsBelow es (s.rd b R.RX_LOCK_CFG_LOCK_TH) = true then x.lockN + 1 else 0
    let un := if rmsAbove es (s.rd b R.RX_LOCK_CFG_UNLOCK_TH) = true then x.unlockN + 1 else 0
    let lt := max 1 (s.rd b R.RX_LOCK_CFG_LOCK_TIME)
    let ut := max 1 (s.rd b R.RX_LOCK_CFG_UNLOCK_TIME)
    let t := ((s.fresh.wr b R.RX_TR_FREQ_FREQ (trunc 20 f)).wr b R.RX_TR_PHASE_ERR_RMS (min (rmsErr es) 4095)).setRx n.val
      { x with stable := min st 4, lockN := min lk lt, unlockN := min un ut, phaseN := x.phaseN + 1, freq := loop.1, phi := loop.2 }
    (s.rxState n.val = 6 → un < ut → freqLimited f = false → exec (.trWindowEnd n pd) s = .next (closed s.pending t)) ∧
    (s.rxState n.val = 6 → ut ≤ un → exec (.trWindowEnd n pd) s = .next (closed s.pending (rxGo n.val 5 2 t))) ∧
    (s.rxState n.val = 6 → un < ut → freqLimited f = true → exec (.trWindowEnd n pd) s = .next (closed s.pending (rxFreqZero n.val (rxGo n.val 4 3 t)))) ∧
    (s.rxState n.val = 5 → lt ≤ lk → 4 ≤ st → exec (.trWindowEnd n pd) s = .next (closed s.pending (rxGo n.val 6 0 t))) ∧
    (s.rxState n.val = 4 → st < 4 → freqLimited f = false → exec (.trWindowEnd n pd) s = .next (closed s.pending t))) ∧
  (∀ (n : Lane) (st cause : Nat) (s : State), Inv s → st < 8 → cause < 8 → st ≠ s.rxState n.val →
    let u := rxGo n.val st cause s
    let b := laneB n.val
    u.rxState n.val = st ∧ u.rd b R.RX_STATUS_LOCKED = b2n (st == 6) ∧
    (st ≤ 2 → u.rd b R.RX_STATUS_LOS = 1) ∧ (3 ≤ st → u.rd b R.RX_STATUS_LOS = s.rd b R.RX_STATUS_LOS) ∧
    (s.rxState n.val = 6 → u.rd b R.RX_STATUS_UNLOCK_CAUSE = cause ∧
      u.rd b R.RX_CNT_UNLOCK = min (s.rd b R.RX_CNT_UNLOCK + 1) 0xFFFF) ∧
    (s.rxState n.val ≠ 6 → u.getReg (b + 0x50) = s.getReg (b + 0x50)) ∧
    u.mem = s.mem ∧ u.pending = s.pending ∧ u.now = s.now ∧
    (∀ (i : Lane) (off : Fin 0x60), (i ≠ n → u.getReg (laneB i.val + off.val) = s.getReg (laneB i.val + off.val)) ∧
      u.getReg (laneB i.val + 0x2000 + off.val) = s.getReg (laneB i.val + 0x2000 + off.val)))

/-- Coefficients, loads, cross-fades, statistics, the MSE monitor, the Trellis mode and injections of an equaliser
(spec/04_equalisation.md). Served writes. COEF_DATA stores the word's bits of its set in the coefficient that COEF_SEL
names, unless its bank is active, fading out or loading, which refuses it with ALARM 0x1 (R109). LOAD with START
begins a load of a bank that is free (R128). STAT_CTRL with START begins a block where none runs (R127). EQ.INJECT
arms an MSE above MSE_HI and raises ALARM 0x3 (R136). A load's end copies the chosen parts of the core's image into
the bank and ends LOAD_BUSY (R128). A fade's end clears XF_BUSY and counts (R110). A statistics block's end writes its
means, each held to 32 bits, to the core's data memory and holds the header back, with ALARM 0x4 and the block marked
where a mean did not fit; its push's end writes the header and interrupts the core (R125, R126). An MSE window in
LOCKED stores its mean and moves MSE_HIGH with hysteresis (R131). A change of the Trellis mode sets STATES_ACT (R118).
Under its premises on the state and operands alone, exec answers next for: eqCoefWrite, eqLoadStart, statStart,
eqInjMse, eqInjAlarm, eqLoadDone, crossfadeEnd, statBlockEnd, statPushDone, mseWindowEnd, trellisModeChange. -/
def Obligations.Equaliser : Prop :=
  (∀ (m : Master) (n : Lane) (w : Word) (s : State) (k : Nat), eqSelKey n.val s = some k → s.on (laneB n.val) R.EQ_COEF_SEL_AUTO_INC = false →
    let bank := s.rd (laneB n.val) R.EQ_COEF_SEL_BANK
    let a := 0x01001018 + 0x10000 * n.val
    Served m true a w s →
    (eqBankBusy n.val bank s = false →
      exec (.eqCoefWrite m n w) s = .next (closed s.pending (answered m a true 0 .done ((coefNote k s.fresh).setReg k (w &&& eqSetMask (s.rd (laneB n.val) R.EQ_COEF_SEL_SET)))))) ∧
    (eqBankBusy n.val bank s = true → exec (.eqCoefWrite m n w) s = .next (closed s.pending (answered m a true 0 .done
      ((((s.fresh.cnt (laneB n.val) R.EQ_CNT_REFUSED 1).wr (laneB n.val) R.EQ_STATUS_ALARM 1).wr (laneB n.val) R.EQ_STATUS_ALARM_CAUSE 1).raise (12 * n.val + 4)))))) ∧
  (∀ (m : Master) (n : Lane) (w : Word) (s : State), (Served m true (0x0100101C + 0x10000 * n.val) (fset w 31 31 1) s →
      exec (.eqLoadStart m n w) s = .next (closed s.pending (wrote m (0x0100101C + 0x10000 * n.val) (fset w 31 31 1) (fun t =>
    let bank := t.rd (laneB n.val) R.EQ_LOAD_BANK
    if t.on (laneB n.val) R.EQ_STATUS_LOAD_BUSY || eqBankBusy n.val bank t then
      (((t.cnt (laneB n.val) R.EQ_CNT_REFUSED 1).wr (laneB n.val) R.EQ_STATUS_ALARM 1).wr (laneB n.val) R.EQ_STATUS_ALARM_CAUSE 2).raise (12 * n.val + 4)
    else ((t.wr (laneB n.val) R.EQ_STATUS_LOAD_BUSY 1).wr (laneB n.val) R.EQ_LOAD_BUSY 1).setEq n.val
      { t.eqOf n.val with loadBank := bank, loadSrc := t.rd (laneB n.val) R.EQ_LOAD_SRC, loadParts := t.rd (laneB n.val) R.EQ_LOAD_PARTS }) s)))) ∧
  (∀ (m : Master) (n : Lane) (w : Word) (s : State), (s.eqOf n.val).stat ≤ 1 → s.on (laneB n.val) R.EQ_CTRL_FREEZE = false →
    s.on (laneB n.val) R.EQ_STATUS_XF_BUSY = false → s.on (laneB n.val) R.EQ_STATUS_LOAD_BUSY = false → s.rxState n.val = 6 →
    (Served m true (0x01001020 + 0x10000 * n.val) (fset w 31 31 1) s →
      exec (.statStart m n w) s = .next (closed s.pending (wrote m (0x01001020 + 0x10000 * n.val) (fset w 31 31 1) (fun t =>
      (t.setEq n.val { s.eqOf n.val with stat := 2, reasons := 0, kind := if t.rd (laneB n.val) R.EQ_STAT_CTRL_KIND == 1 then 1 else 0 }).wr
        (laneB n.val) R.EQ_STATUS_STAT_BUSY 1) s)))) ∧
  (∀ (m : Master) (n : Lane) (w : Word) (s : State),
    let f := each [(0, fun t => t.setEq n.val { t.eqOf n.val with injMse := true }),
      (1, fun t => ((t.wr (laneB n.val) R.EQ_STATUS_ALARM 1).wr (laneB n.val) R.EQ_STATUS_ALARM_CAUSE 3).raise (12 * n.val + 4))]
    (Served m true (0x01001034 + 0x10000 * n.val) (fset w 0 0 1) s →
      exec (.eqInjMse m n w) s = .next (closed s.pending (wrote m (0x01001034 + 0x10000 * n.val) (fset w 0 0 1) (f (fset w 0 0 1)) s))) ∧
    (Served m true (0x01001034 + 0x10000 * n.val) (fset w 1 1 1) s →
      exec (.eqInjAlarm m n w) s = .next (closed s.pending (wrote m (0x01001034 + 0x10000 * n.val) (fset w 1 1 1) (f (fset w 1 1 1)) s)))) ∧
  (∀ (n : Lane) (s : State), s.on (laneB n.val) R.EQ_STATUS_LOAD_BUSY = true → (s.eqOf n.val).stat ≠ 1 →
    let b := laneB n.val
    let src := 0x810000 + 0x20000 * (n.val / 4) + (s.eqOf n.val).loadSrc * 512
    let p := (s.eqOf n.val).loadParts
    let k := (s.eqOf n.val).loadBank
    let t := if p % 2 = 1 then eqCopySet n.val k 0 src s.fresh else s.fresh
    let t := if 2 ≤ p then eqCopySet n.val k 2 (src + 320) (eqCopySet n.val k 1 (src + 128) t) else t
    exec (.eqLoadDone n) s = .next (closed s.pending ((t.wr b R.EQ_STATUS_LOAD_BUSY 0).wr b R.EQ_LOAD_BUSY 0))) ∧
  (∀ (n : Lane) (s : State), s.on (laneB n.val) R.EQ_STATUS_XF_BUSY = true → (s.rxOf n.val).agcDefer = 0 → (s.eqOf n.val).stat ≠ 1 →
    exec (.crossfadeEnd n .eq) s = .next (closed s.pending ((s.fresh.wr (laneB n.val) R.EQ_STATUS_XF_BUSY 0).cnt (laneB n.val) R.EQ_CNT_FADES 1))) ∧
  (∀ (n : Lane) (s : State), exec (.crossfadeEnd n .tx) s = .next (closed s.pending (s.fresh.wr (laneB n.val) R.TX_STATUS_XF_BUSY 0))) ∧
  (∀ (n : Lane) (y : RxStretch) (s : State), (s.eqOf n.val).stat = 2 →
    let b := laneB n.val
    let ms := blockMeans n.val y s
    let t := if (∀ x ∈ ms, -(2 ^ 31) ≤ x ∧ x < 2 ^ 31) then s.fresh else eqAlarm n.val 4 (eqMark n.val 5 s.fresh)
    let x := t.eqOf n.val
    let seq := (s.rd b R.EQ_STAT_CTRL_SEQ + 1) % 256
    let why := ((List.range 6).find? (fun i => x.reasons / 2 ^ i % 2 == 1)).getD 0
    exec (.statBlockEnd n y) s = .next (closed s.pending ((t.setWords (0x810000 + 0x20000 * (n.val / 4) + 2048 * s.rd b R.EQ_STAT_CTRL_DEST + 4)
        (ms.map (fun v => BitVec.ofInt 32 (max (-(2 ^ 31)) (min (2 ^ 31 - 1) v))))).setEq n.val
        { x with stat := 3, seq := seq, dest := s.rd b R.EQ_STAT_CTRL_DEST,
                 header := BitVec.ofNat 32 ((if x.reasons = 0 then 2 ^ 31 else 0) + x.kind * 2 ^ 28 + why * 2 ^ 24 + seq * 2 ^ 16) }))) ∧
  (∀ (n : Lane) (s : State), (s.eqOf n.val).stat = 3 → s.on (laneB n.val) R.EQ_STAT_CTRL_CONT = false →
    let b := laneB n.val
    let x := s.eqOf n.val
    let t := coreIrq (n.val / 4) (n.val % 4) ((s.fresh.setWord (0x810000 + 0x20000 * (n.val / 4) + 2048 * x.dest) x.header).wr b R.EQ_STAT_CTRL_SEQ x.seq)
    exec (.statPushDone n) s = .next (closed s.pending (coreCount (n.val / 4) 0x12 1 ((t.setEq n.val { x with stat := 0, reasons := 0, header := 0 }).wr b R.EQ_STATUS_STAT_BUSY 0)))) ∧
  (∀ (n : Lane) (y : RxStretch) (s : State), s.rxState n.val = 6 →
    let b := laneB n.val
    let x := s.eqOf n.val
    let r := eqDetect n.val y s
    let mean := mseMean r y.lead
    let t := (s.fresh.wr b R.EQ_MSE_MSE (min mean 0xFFFF)).setEq n.val
      { x with injMse := false, det := if s.on b R.EQ_CTRL_TRELLIS_EN = true then r.det else x.det }
    let hi := s.rd b R.EQ_MSE_CFG_MSE_HI
    let up := x.injMse = true ∨ hi < mean
    let low := mean < if hi ≤ s.rd b R.EQ_MSE_CFG_MSE_LO then hi - 1 else s.rd b R.EQ_MSE_CFG_MSE_LO
    let high := s.on b R.EQ_STATUS_MSE_HIGH = true
    exec (.mseWindowEnd n y) s = .next (closed s.pending (if up ∧ ¬high then (t.wr b R.EQ_STATUS_MSE_HIGH 1).raise (12 * n.val + 3)
       else if ¬up ∧ high ∧ low then (t.wr b R.EQ_STATUS_MSE_HIGH 0).raise (12 * n.val + 3) else t))) ∧
  (∀ (n : Lane) (s : State),
    let b := laneB n.val
    let want := s.on b R.EQ_TRELLIS_FORCE4 || s.on b R.EQ_STATUS_THROTTLED
    (want = s.on b R.EQ_STATUS_STATES_ACT → exec (.trellisModeChange n) s = .next (closed s.pending s.fresh)) ∧
    (want ≠ s.on b R.EQ_STATUS_STATES_ACT → (s.eqOf n.val).stat ≠ 2 →
      let x := s.eqOf n.val
      let pam := decide (s.rxMode n.val ≤ 3)
      let det := if x.det.paths.isEmpty then x.det else if want then trellisReduce pam x.det else trellisExpand pam x.det
      exec (.trellisModeChange n) s = .next (closed s.pending ((s.fresh.setEq n.val { x with det := det }).wr b R.EQ_STATUS_STATES_ACT (b2n want)))))

/-- TX.CTRL, TX.COEF_DATA, underruns, saturations, held commits and the injection of a transmit path
(spec/05_transmit_path.md). Served writes. TX.CTRL brings the lane to OFF without ENABLE, to RUN where its synthesiser
is LOCKED in the family of its mode, else to NOCLK (R156). COEF_DATA stores the tap that COEF_SEL names, unless its
bank is active or fading out, which refuses it with ALARM 0x1 and no other effect (R145); an index above 8 names none.
TX.INJECT raises ALARM 0x7 (R163). An underrun in RUN of a replay feed, or of a stream without an engine that fills
the slot, counts with ALARM 0x4 and puts out FILL, unless the gate is shut (R140). TX_FFE_SATURATION sends the symbols
it states: nothing in another state or with SRC 0, FILL with SRC 5 (R147), and from the link through mapper, precoder
and FFE, where saturations count with ALARM 0x6 and unmapped NRZ pairs in NRZ_BAD (R142, R144). Held commits are
released 16,384 ticks after their synthesiser locked: SLIP, ALARM 0x2, and the copy where the rules hold, else a
record of rejection (R159). A held commit 2 ms old is rejected with cause 0x4 and ALARM 0x3 (R160). Stated for one
lane that holds. Under its premises on the state and operands alone, exec answers next for: txEnable, txCoefWrite,
txInjAlarm, txUnderrun, txFfeSaturation, txHeldRelease, txHeldTimeout. -/
def Obligations.TransmitPath : Prop :=
  (∀ (m : Master) (n : Lane) (w : Word) (s : State), (Served m true (0x01002000 + 0x10000 * n.val) w s →
      exec (.txEnable m n w) s = .next (closed s.pending (wrote m (0x01002000 + 0x10000 * n.val) w (fun t =>
    txGo n.val (if t.on (laneB n.val) R.TX_CTRL_ENABLE && t.domOn n.val then
        (if t.synLocked (n.val / 8) && t.anaRdy n.val && modeFamily (t.rd (laneB n.val) R.TX_CTRL_MODE) == some (t.octFamily (n.val / 8)) then 2 else 1)
      else 0) t) s)))) ∧
  (∀ (m : Master) (n : Lane) (w : Word) (s : State),
    let b := laneB n.val
    let a := 0x01002020 + 0x10000 * n.val
    let bank := s.rd b R.TX_COEF_SEL_BANK
    let i := s.rd b R.TX_COEF_SEL_INDEX
    let busy := bank = s.rd b R.TX_CTRL_ACT_BANK ∨ (s.on b R.TX_STATUS_XF_BUSY = true ∧ bank = (s.txOf n.val).outBank)
    Served m true a w s →
    (8 < i → exec (.txCoefWrite m n w) s = .next (closed s.pending (answered m a true 0 .done (txAutoInc n.val s.fresh)))) ∧
    (i ≤ 8 → busy → exec (.txCoefWrite m n w) s = .next (closed s.pending (answered m a true 0 .done
      ((((s.fresh.cnt b R.TX_CNT_CLIP_REFUSED 1).wr b R.TX_STATUS_ALARM 1).wr b R.TX_STATUS_ALARM_CAUSE 1).raise (12 * n.val + 6))))) ∧
    (i ≤ 8 → ¬busy → exec (.txCoefWrite m n w) s = .next (closed s.pending (answered m a true 0 .done (txAutoInc n.val
      ((coefNote ((Obj.txCoef n.val bank i).base + 0x2020) s.fresh).setReg ((Obj.txCoef n.val bank i).base + 0x2020) (w &&& 0x3FF))))))) ∧
  (∀ (m : Master) (n : Lane) (w : Word) (s : State), (Served m true (0x01002040 + 0x10000 * n.val) (fset w 0 0 1) s →
      exec (.txInjAlarm m n w) s = .next (closed s.pending (wrote m (0x01002040 + 0x10000 * n.val) (fset w 0 0 1) (fun t =>
    ((t.wr (laneB n.val) R.TX_STATUS_ALARM 1).wr (laneB n.val) R.TX_STATUS_ALARM_CAUSE 7).raise (12 * n.val + 6)) s)))) ∧
  (∀ (n : Lane) (s : State),
    let b := laneB n.val
    let dry := s.rd b R.TX_SRC_SRC = 2 ∨ (s.rd b R.TX_SRC_SRC = 1 ∧ (s.domOn (78 + n.val / 16) = false ∨ laneGrp n.val s = none))
    let due := s.rd b R.TX_STATUS_STATE = 2 ∧ dry ∧ txGateShut n.val s = false
    let fill := if s.rd b R.TX_CTRL_MODE = 0 then [s.rdI b R.TX_SRC_FILL] else [s.rdI b R.TX_SRC_FILL, s.rdI b R.TX_SRC_FILL]
    exec (.txUnderrun n) s = .next (closed s.pending (if due then
      ((((s.fresh.setTx n.val { s.txOf n.val with dac := fill }).cnt b R.TX_CNT_UNDER_UNDER 1).wr b R.TX_STATUS_ALARM 1).wr b R.TX_STATUS_ALARM_CAUSE 4).raise (12 * n.val + 6) else s.fresh))) ∧
  (∀ (n : Lane) (words : List (BitVec 2)) (s : State),
    let b := laneB n.val
    let st := s.rd b R.TX_STATUS_STATE
    let src := s.rd b R.TX_SRC_SRC
    (st ≠ 2 → exec (.txFfeSaturation n words) s = .next (closed s.pending s.fresh)) ∧
    (st = 2 → src = 0 → exec (.txFfeSaturation n words) s = .next (closed s.pending (s.fresh.setTx n.val { s.txOf n.val with dac := [] }))) ∧
    (st = 2 → src = 5 → exec (.txFfeSaturation n words) s = .next (closed s.pending (s.fresh.setTx n.val { s.txOf n.val with dac := (List.range words.length).flatMap (fun (_ : Nat) => fillDac n.val s) })))) ∧
  (∀ (n : Lane) (words : List (BitVec 2)) (s : State), s.rd (laneB n.val) R.TX_STATUS_STATE = 2 → s.rd (laneB n.val) R.TX_SRC_SRC = 1 →
    waveOn n.val s = false → (s.hazeOf n.val).dly = 0 →
    let b := laneB n.val
    let x := s.txOf n.val
    let r := txRun (txCfg n.val s) words ⟨x.line, x.lastT, x.fadeAt, x.lastV, x.lastX, [], [], 0, 0⟩
    let t := s.fresh.setTx n.val { x with line := r.line, lastT := r.lastT, fadeAt := r.fadeAt, lastV := r.lastV, lastX := r.lastX, dac := r.dac }
    let t := (waveRun n.val r.exact (t.cnt b R.TX_CNT_CLIP_NRZ_BAD r.bad)).1
    (waveRun n.val r.exact s).2.1.dly = 0 →
    exec (.txFfeSaturation n words) s = .next (closed s.pending (if r.clips = 0 then t
      else (((t.cnt b R.TX_CNT_CLIP_CLIP r.clips).wr b R.TX_STATUS_ALARM 1).wr b R.TX_STATUS_ALARM_CAUSE 6).raise (12 * n.val + 6)))) ∧
  (∀ (n : Lane) (s : State) (h : TxHeld), (s.txOf n.val).held = some h → s.synLocked (n.val / 8) = true →
    (∀ i : Lane, i.val / 8 = n.val / 8 → i ≠ n → (s.txOf i.val).held = none) →
    let b := laneB n.val
    let z := look (0, 0) s.synLock (n.val / 8)
    let t := s.fresh.advanceReq (z.1 + 16384) (z.2 + 16384)
    let t := (t.setTx n.val { t.txOf n.val with held := none }).wr b R.TX_STATUS_PEND 0
    let t := t.wr b R.TX_PEND_SLIP_SLIP (min (t.tlv.toNat - h.x) 0xFFFFFFFF)
    let t := (((t.cnt b R.TX_CNT_SLIPPED 1).wr b R.TX_STATUS_ALARM 1).wr b R.TX_STATUS_ALARM_CAUSE 2).raise (12 * n.val + 6)
    ∀ o : Oct, o.val = n.val / 8 →
      exec (.txHeldRelease o) s = .next (closed s.pending (if txRules n.val t = 0 then txCopy n.val t else rejectRec 2 n.val (txRules n.val t) h.entry t))) ∧
  (∀ (n : Lane) (s : State) (h : TxHeld), (s.txOf n.val).held = some h →
    (∀ i : Lane, i ≠ n → (s.txOf i.val).held.any (fun g => g.since == h.since && g.entry == h.entry) = false) →
    let b := laneB n.val
    let t := s.fresh.advanceNow (h.since + 78125000)
    let t := (t.setTx n.val { t.txOf n.val with held := none }).wr b R.TX_STATUS_PEND 0
    let t := rejectRec 2 n.val 4 h.entry t
    exec (.txHeldTimeout n) s = .next (closed s.pending ((((t.cnt b R.TX_CNT_TIMEOUT 1).wr b R.TX_STATUS_ALARM 1).wr b R.TX_STATUS_ALARM_CAUSE 3).raise (12 * n.val + 6))))

/-- The synthesiser's state machine, its commands and injections, and entering a state (spec/05_transmit_path.md). OFF
leaves for CAL with ENABLE, domain and analogue side ready; ENABLE 0 returns to OFF; RECAL restarts CAL. Without
LREF_LOST the band search ends in ACQ with its BAND and the lock criterion in LOCKED; a CAL or ACQ that runs out
counts an attempt and the third fails; loss of lock returns to ACQ and counts (R154). OCT_RST resets the octant
(R164). INJ_LOL is a loss of lock, INJ_FAIL a third failed attempt (R163). Entering a state sets STATE; entering
LOCKED notes TLV and true time of the lock (R159) and starts the spread (R155); either way across LOCKED raises the
octant's lock event where its line is not clamped (R154); memory, the queue and true time stay, and so do the
registers of every other octant. Under its premises on the state and operands alone, exec answers next for: synEnable,
recal, octRst, synBandFound, synLockAcquired, synCalTimeout, synAcqTimeout, synLossOfLock, octInjLol, octInjFail. -/
def Obligations.Synthesisers : Prop :=
  (∀ (m : Master) (o : Oct) (w : Word) (s : State), fget w 31 31 = 0 → (Served m true (0x00100000 + 0x10000 * o.val) w s →
      exec (.synEnable m o w) s = .next (closed s.pending (wrote m (0x00100000 + 0x10000 * o.val) w (fun t =>
    let u := if t.on (octB o.val) R.OCT_SYN_CTRL_ENABLE then
        (if t.rd (octB o.val) R.OCT_SYN_STATUS_STATE = 0 ∧ t.domOn (64 + o.val) = true ∧ t.anaRdy (64 + o.val) = true then
          synGo o.val 1 (t.wr (octB o.val) R.OCT_SYN_STATUS_ATTEMPT 0) else t)
      else if t.rd (octB o.val) R.OCT_SYN_STATUS_STATE = 0 then t else synGo o.val 0 t
    if fget w 1 1 = 1 then synRecal o.val u else u) s)))) ∧
  (∀ (m : Master) (o : Oct) (w : Word) (s : State), fget w 31 31 = 0 → fget w 0 0 = 1 → s.rd (octB o.val) R.OCT_SYN_STATUS_STATE ≠ 0 →
    (Served m true (0x00100000 + 0x10000 * o.val) (fset w 1 1 1) s →
      exec (.recal m o w) s = .next (closed s.pending (wrote m (0x00100000 + 0x10000 * o.val) (fset w 1 1 1) (fun t => synGo o.val 1 (t.wr (octB o.val) R.OCT_SYN_STATUS_ATTEMPT 0)) s)))) ∧
  (∀ (m : Master) (o : Oct) (w : Word) (s : State), (Served m true (0x00100000 + 0x10000 * o.val) (fset w 31 31 1) s →
      exec (.octRst m o w) s = .next (closed s.pending (wrote m (0x00100000 + 0x10000 * o.val) (fset w 31 31 1) (octReset o.val) s)))) ∧
  (∀ (o : Oct) (band : BitVec 8) (s : State), s.on (octB o.val) R.OCT_SYN_STATUS_LREF_LOST = false →
    let b := octB o.val
    let st := s.rd b R.OCT_SYN_STATUS_STATE
    let bad := (s.fresh.wr b R.OCT_SYN_STATUS_ATTEMPT (s.rd b R.OCT_SYN_STATUS_ATTEMPT + 1))
    let bad := if 3 ≤ s.rd b R.OCT_SYN_STATUS_ATTEMPT + 1 then synFail o.val bad else synGo o.val 1 bad
    exec (.synBandFound o band) s = .next (closed s.pending (if st = 1 then synGo o.val 2 (s.fresh.wr b R.OCT_SYN_STATUS_BAND band.toNat) else s.fresh)) ∧
    exec (.synLockAcquired o) s = .next (closed s.pending (if st = 2 then synGo o.val 3 s.fresh else s.fresh)) ∧
    exec (.synCalTimeout o) s = .next (closed s.pending (if st = 1 then bad else s.fresh)) ∧
    exec (.synAcqTimeout o) s = .next (closed s.pending (if st = 2 then bad else s.fresh))) ∧
  (∀ (o : Oct) (s : State), exec (.synLossOfLock o) s = .next (closed s.pending (if s.synLocked o.val = true then (synGo o.val 2 s.fresh).cnt (octB o.val) R.OCT_SYN_CNT_LOL 1 else s.fresh))) ∧
  (∀ (m : Master) (o : Oct) (w : Word) (s : State),
    let f := fun (v : Word) (t : State) =>
      if v.getLsbD 0 = true ∧ t.synLocked o.val = true then (synGo o.val 2 t).cnt (octB o.val) R.OCT_SYN_CNT_LOL 1
      else if v.getLsbD 1 = true ∧ (t.rd (octB o.val) R.OCT_SYN_STATUS_STATE = 1 ∨ t.rd (octB o.val) R.OCT_SYN_STATUS_STATE = 2) then
        synFail o.val (t.wr (octB o.val) R.OCT_SYN_STATUS_ATTEMPT 3) else t
    (Served m true (0x00100010 + 0x10000 * o.val) (fset w 0 0 1) s →
      exec (.octInjLol m o w) s = .next (closed s.pending (wrote m (0x00100010 + 0x10000 * o.val) (fset w 0 0 1) (f (fset w 0 0 1)) s))) ∧
    (Served m true (0x00100010 + 0x10000 * o.val) (fset w 1 1 1) s →
      exec (.octInjFail m o w) s = .next (closed s.pending (wrote m (0x00100010 + 0x10000 * o.val) (fset w 1 1 1) (f (fset w 1 1 1)) s)))) ∧
  (∀ (o : Oct) (st : Nat) (s : State), Inv s → st < 4 →
    let old := s.rd (octB o.val) R.OCT_SYN_STATUS_STATE
    let u := synGo o.val st s
    u.rd (octB o.val) R.OCT_SYN_STATUS_STATE = st ∧ u.mem = s.mem ∧ u.pending = s.pending ∧ u.now = s.now ∧
    (old ≠ 3 → st = 3 → look (0, 0) u.synLock o.val = (s.tlv.toNat, s.now) ∧ look 0 u.sscStart o.val = s.now) ∧
    ((old = 3) ≠ (st = 3) → s.domOn (64 + o.val) = true → Sends (0x300 + 6 * o.val) u) ∧
    ((old = 3) = (st = 3) → u.raised = s.raised) ∧
    (∀ (i : Oct) (off : Fin 0x1000), i ≠ o → u.getReg (octB i.val + off.val) = s.getReg (octB i.val + off.val)))

/-- Bias and safety registers that act: clear values, APC codes, STATUS, SAFE.CLR, PROG_CMD and the injections
(spec/06_optical_head_control.md). Served writes. BIAS.CLEAR with FOLLOW_CLR loads the output fields too, and the
island follows (R175). APC_CODE is held within APC_MIN to APC_MAX and starts the watchdog where the loop is used
(R181, R183). STATUS clears the written detections that have released; APC_SAT is a core's to write (R180, R182).
SW_CLR asserts or releases the clear of every lane (R177, R178). PROG_CMD begins an operation of the safety OTP or
refuses it (R192, R193). The injections act in bit order (R195). Under its premises on the state and operands alone,
exec answers next for: biasClearWrite, apcCodeWrite, biasStatusClear, swClrWrite, otpProgLimit, otpProgDeny,
otpProgLock, biasInjCompl, biasInjOpen, biasInjVbovl, biasInjWdog, safeInjLimit, safeInjDuty, safeInjChannel,
safeInjOtp, safeInjProg. -/
def Obligations.BiasCommands : Prop :=
  (∀ (m : Master) (n : Lane) (w : Word) (s : State), s.locksSet = false → (Served m true (0x01007010 + 0x10000 * n.val) w s →
      exec (.biasClearWrite m n w) s = .next (closed s.pending (wrote m (0x01007010 + 0x10000 * n.val) w (fun t =>
    let b := laneB n.val
    let ld (f g : Fld) (u : State) : State := (u.wr b f (u.rd b g)).wrSh b f (u.rd b g)
    biasEval n.val false (if t.on b R.BIAS_STATUS_FOLLOW_CLR then ld R.BIAS_VB_CODE R.BIAS_CLEAR_VB_CLR (ld R.BIAS_IB_CODE R.BIAS_CLEAR_IB_CLR
      (ld R.BIAS_CTRL_VB_RANGE R.BIAS_CLEAR_VB_CRNG (ld R.BIAS_CTRL_IB_RANGE R.BIAS_CLEAR_IB_CRNG t))) else t)) s)))) ∧
  (∀ (m : Master) (n : Lane) (w : Word) (s : State), (Served m true (0x01007028 + 0x10000 * n.val) w s →
      exec (.apcCodeWrite m n w) s = .next (closed s.pending (wrote m (0x01007028 + 0x10000 * n.val) w (fun t =>
    let b := laneB n.val
    let hi := t.rd b R.BIAS_APC_LIM_APC_MAX
    let u := t.wr b R.BIAS_APC_CODE_CODE (max (min hi (t.rd b R.BIAS_APC_LIM_APC_MIN)) (min hi (t.rd b R.BIAS_APC_CODE_CODE)))
    biasEval n.val false (if u.on b R.BIAS_CTRL_IB_SRC && u.rd b R.BIAS_APC_CFG_WDOG != 0 then u.setBias n.val { u.biasOf n.val with apcRun := true } else u)) s)))) ∧
  (∀ (m : Master) (n : Lane) (w : Word) (s : State), Inv s →
    let a := 0x01007018 + 0x10000 * n.val
    let x := s.biasOf n.val
    let gone (i : Nat) := x.det / 2 ^ i % 2 = 0
    (Served m true a w s → ∃ u, exec (.biasStatusClear m n w) s = .next (closed s.pending u) ∧
      ((bits a 1 1 u = if fget w 1 1 = 1 ∧ gone 0 then 0 else bits a 1 1 s) ∧
      (bits a 2 2 u = if fget w 2 2 = 1 ∧ gone 1 then 0 else bits a 2 2 s) ∧
      (bits a 3 3 u = if fget w 3 3 = 1 ∧ gone 2 then 0 else bits a 3 3 s) ∧
      (bits a 4 4 u = if fget w 4 4 = 1 then 0 else bits a 4 4 s) ∧
      (bits a 8 8 u = match m with
        | .core _ | .pair => fget w 8 8
        | _ => bits a 8 8 s) ∧ u.mem = s.mem ∧ u.now = s.now))) ∧
  (∀ (m : Master) (w : Word) (s : State), (Served m true 0x00090024 w s →
      exec (.swClrWrite m w) s = .next (closed s.pending (wrote m 0x00090024 w (fun t =>
    let was := s.on safeB R.SAFE_CLR_SW_CLR
    if fget w 0 0 = 1 ∧ was = false then biasAll ((t.cnt safeB R.SAFE_CNT_CLEARS 1).raise 0x416)
    else if fget w 0 0 = 0 ∧ was = true then biasAll t else t) s)))) ∧
  (∀ (m : Master) (w : Word) (s : State),
    let f (op : Nat) (t : State) : State := progCmd (fset w 2 0 op) t
    (Served m true 0x00090008 (fset w 2 0 1) s →
      exec (.otpProgLimit m w) s = .next (closed s.pending (wrote m 0x00090008 (fset w 2 0 1) (f 1) s))) ∧ (Served m true 0x00090008 (fset w 2 0 2) s →
      exec (.otpProgDeny m w) s = .next (closed s.pending (wrote m 0x00090008 (fset w 2 0 2) (f 2) s))) ∧
    (Served m true 0x00090008 (fset w 2 0 3) s →
      exec (.otpProgLock m w) s = .next (closed s.pending (wrote m 0x00090008 (fset w 2 0 3) (f 3) s)))) ∧
  (∀ (m : Master) (n : Lane) (w : Word) (s : State),
    let f := each [(0, detDeclare n.val .compl), (1, detDeclare n.val .openLoad), (2, detDeclare n.val .vbOvl), (3, apcWdogSet n.val)]
    (Served m true (0x01007030 + 0x10000 * n.val) (fset w 0 0 1) s →
      exec (.biasInjCompl m n w) s = .next (closed s.pending (wrote m (0x01007030 + 0x10000 * n.val) (fset w 0 0 1) (f (fset w 0 0 1)) s))) ∧
    (Served m true (0x01007030 + 0x10000 * n.val) (fset w 1 1 1) s →
      exec (.biasInjOpen m n w) s = .next (closed s.pending (wrote m (0x01007030 + 0x10000 * n.val) (fset w 1 1 1) (f (fset w 1 1 1)) s))) ∧
    (Served m true (0x01007030 + 0x10000 * n.val) (fset w 2 2 1) s →
      exec (.biasInjVbovl m n w) s = .next (closed s.pending (wrote m (0x01007030 + 0x10000 * n.val) (fset w 2 2 1) (f (fset w 2 2 1)) s))) ∧
    (Served m true (0x01007030 + 0x10000 * n.val) (fset w 3 3 1) s →
      exec (.biasInjWdog m n w) s = .next (closed s.pending (wrote m (0x01007030 + 0x10000 * n.val) (fset w 3 3 1) (f (fset w 3 3 1)) s)))) ∧
  (∀ (m : Master) (w : Word) (s : State),
    let f (w : Word) (t : State) : State :=
      let n := t.rd safeB R.SAFE_INJECT_INJ_LANE
      each [(0, fun u => biasEval n false (u.setBias n { u.biasOf n with injLim := true })), (1, dutySpend n),
        (2, fun u => biasEval n false (u.setBias n { u.biasOf n with injCh := true })),
        (3, fun u => (u.wr safeB R.SAFE_STATUS_OTP_ERR 1).raise 0x415), (4, fun u => { u with injProg := true })] w t
    (Served m true 0x0009002C (fset w 0 0 1) s →
      exec (.safeInjLimit m w) s = .next (closed s.pending (wrote m 0x0009002C (fset w 0 0 1) (f (fset w 0 0 1)) s))) ∧ (Served m true 0x0009002C (fset w 1 1 1) s →
      exec (.safeInjDuty m w) s = .next (closed s.pending (wrote m 0x0009002C (fset w 1 1 1) (f (fset w 1 1 1)) s))) ∧
    (Served m true 0x0009002C (fset w 2 2 1) s →
      exec (.safeInjChannel m w) s = .next (closed s.pending (wrote m 0x0009002C (fset w 2 2 1) (f (fset w 2 2 1)) s))) ∧ (Served m true 0x0009002C (fset w 3 3 1) s →
      exec (.safeInjOtp m w) s = .next (closed s.pending (wrote m 0x0009002C (fset w 3 3 1) (f (fset w 3 3 1)) s))) ∧
    (Served m true 0x0009002C (fset w 4 4 1) s →
      exec (.safeInjProg m w) s = .next (closed s.pending (wrote m 0x0009002C (fset w 4 4 1) (f (fset w 4 4 1)) s))))

/-- What PROG_CMD and the end of a programming operation do to the safety OTP (spec/06_optical_head_control.md). PROG_CMD
refuses a wrong key or operation with result 1, a busy OTP with 2, a lane without a free slot with 3 and a limit
looser than the lane's with 4; else the operation begins with the values of PROG_LIM, PROG_DUTY and PROG_DENY as they
stand (R192, R193). A verified end writes what the operation names: one slot, denied channels in both copies, or the
lock; an injected failure leaves the OTP as it was, result 6; a failed verification sets OTP_ERR, result 5 (R193,
R195). Under its premises on the state and operands alone, exec answers next for: otpProgDone. -/
def Obligations.OtpProgramming : Prop :=
  (∀ (w : Word) (s : State),
    let op := fget w 2 0
    let fails (r : Nat) : State := (s.wr safeB R.SAFE_STATUS_PROG_RESULT r).raise 0x417
    (fget w 31 16 ≠ 0x5AFE ∨ op = 0 ∨ 3 < op → progCmd w s = fails 1) ∧
    (fget w 31 16 = 0x5AFE → 1 ≤ op → op ≤ 3 → s.safeOp.isSome = true → progCmd w s = fails 2) ∧
    (fget w 31 16 = 0x5AFE → op = 1 → s.safeOp = none → freeSlot (fget w 13 8) s = none → progCmd w s = fails 3)) ∧
  (∀ (w : Word) (s : State) (i : Nat), fget w 31 16 = 0x5AFE → s.safeOp = none → (fget w 2 0 = 1 → freeSlot (fget w 13 8) s = some i) →
    1 ≤ fget w 2 0 → fget w 2 0 ≤ 3 →
    let op := fget w 2 0
    let n := fget w 13 8
    let e := effective (s.otpOf n)
    let im := s.rd safeB R.SAFE_PROG_LIM_IB_MAX
    let et := s.rd safeB R.SAFE_PROG_LIM_EMIT_TH
    let du := s.rd safeB R.SAFE_PROG_DUTY_DUTY
    progCmd w s = if op = 1 ∧ (e.1 < im ∨ e.2.1 < et ∨ e.2.2 < du) then (s.wr safeB R.SAFE_STATUS_PROG_RESULT 4).raise 0x417
      else { s.wr safeB R.SAFE_STATUS_PROG_BUSY 1 with
          safeOp := some ⟨op, n, fset (fset 0 13 0 im) 29 16 et, du, BitVec.ofNat 64 (s.rd64 safeB R.SAFE_PROG_DENY_LO_DENY R.SAFE_PROG_DENY_HI_DENY), s.injProg⟩,
          injProg := false }) ∧
  (∀ (v : Bool) (s : State) (p : SafeOp) (i : Nat), s.safeOp = some p → p.inj = false → v = true → p.op = 1 → freeSlot p.lane s = some i →
    let t := { s.fresh.wr safeB R.SAFE_STATUS_PROG_BUSY 0 with safeOp := none }
    let t := t.setOtp p.lane { s.otpOf p.lane with slots := (s.otpOf p.lane).slots.set i ⟨true, false, true, p.lim, p.duty⟩ }
    exec (.otpProgDone v) s = .next (closed s.pending (safeApply ((t.wr safeB R.SAFE_STATUS_PROG_RESULT 0).raise 0x417)))) ∧
  (∀ (v : Bool) (s : State) (p : SafeOp), s.safeOp = some p → p.inj = false → v = true → p.op = 2 ∨ p.op = 3 →
    let t := { s.fresh.wr safeB R.SAFE_STATUS_PROG_BUSY 0 with safeOp := none }
    let t := if p.op = 2 then t.setOtp p.lane { s.otpOf p.lane with denyA := (s.otpOf p.lane).denyA ||| p.deny, denyB := (s.otpOf p.lane).denyB ||| p.deny }
      else { t with otpLockA := true, otpLockB := true }
    exec (.otpProgDone v) s = .next (closed s.pending (safeApply ((t.wr safeB R.SAFE_STATUS_PROG_RESULT 0).raise 0x417)))) ∧
  (∀ (v : Bool) (s : State) (p : SafeOp), s.safeOp = some p → p.inj = true →
    exec (.otpProgDone v) s = .next (closed s.pending ((({ s.fresh.wr safeB R.SAFE_STATUS_PROG_BUSY 0 with safeOp := none }).wr safeB R.SAFE_STATUS_PROG_RESULT 6).raise 0x417)))

/-- Clears, slew steps, detectors, watchdog, OTP reads, duty windows, and what the bias island keeps safe
(spec/06_optical_head_control.md). BIAS_CLR_N falling while high sets PIN_CLR, counts, raises and clears every lane,
and rising releases it (R177, R178). A slew interval moves an output by at most its STEP towards its target (R171). A
range hold ends (R172). An armed detector's condition declares: status bit, count, event, and clearing where
configured; a release drops its condition (R179, R180). The APC watchdog expires (R183). An OTP read takes what it
finds and the effective values (R185). A spent duty budget clamps and a window's end, out of REST, releases every
clamp (R190, R168). The burst gate of a lane follows its windows, and an opening instant ahead is reached first (R173,
R219). After the island has brought a lane up to date: with VDD_BIAS low both outputs are 0 (R512); in an output in
the wanted range and not held, every clear source sets the clear code, IB never above the limit with CHECK_EN (R177,
R187, R188); a code that must fall for a clamp falls at once (R189). Nothing the island does changes memory, the OTP,
another lane's outputs or true time. Under its premises on the state and operands alone, exec answers next for:
biasClrAssert, biasClrRelease, slewUpdate, rangeHoldEnd, burstGateEdge, detectorDeclare, detectorRelease,
apcWatchdogExpire, otpReread, dutySpent, dutyWindowEnd. -/
def Obligations.BiasEvents : Prop :=
  (∀ s : State, exec .biasClrAssert s = .next (closed s.pending (if s.on safeB R.SAFE_STATUS_PIN_CLR then s.fresh
      else biasAll (((s.fresh.wr safeB R.SAFE_STATUS_PIN_CLR 1).cnt safeB R.SAFE_CNT_CLEARS 1).raise 0x416))) ∧
    exec .biasClrRelease s = .next (closed s.pending (if s.on safeB R.SAFE_STATUS_PIN_CLR then biasAll (s.fresh.wr safeB R.SAFE_STATUS_PIN_CLR 0) else s.fresh))) ∧
  (∀ (n : Lane) (vb : Bool) (s : State), s.biasUv = false → s.islandRuns = true → ((s.biasOf n.val).ch vb).hold = false →
    let o := biasOut n.val vb s
    let t := biasT2 n.val vb s
    let k : Int := s.rd (laneB n.val) (fStep vb)
    let v : Int := if k = 0 then t else if o < t then min t (o + k) else max t (o - k)
    exec (.slewUpdate n vb) s = .next (closed s.pending (biasFlags n.val (biasSeq n.val vb (s.fresh.wr (laneB n.val) (fOut vb) (trunc 14 v)))))) ∧
  (∀ (n : Lane) (vb : Bool) (s : State), ((s.biasOf n.val).ch vb).hold = true →
    exec (.rangeHoldEnd n vb) s = .next (closed s.pending (biasEval n.val false
      (s.fresh.setBias n.val ((s.biasOf n.val).setCh vb { (s.biasOf n.val).ch vb with hold := false }))))) ∧
  (∀ (n : Lane) (s : State), gateWant n.val s ≠ (s.biasOf n.val).gate →
    exec (.burstGateEdge n) s = .next (closed s.pending (biasEval n.val true (s.fresh.setBias n.val { s.biasOf n.val with gate := gateWant n.val s })))) ∧
  (∀ (n : Lane) (s : State) (x : Nat), gateWant n.val s = false → (s.biasOf n.val).gate = false → s.counting = true → gateNext n.val s = some x →
    let t := s.fresh.advanceTlv x s.now
    gateWant n.val t = true →
    exec (.burstGateEdge n) s = .next (closed s.pending (biasEval n.val true (t.setBias n.val { s.biasOf n.val with gate := true })))) ∧
  (∀ (n : Lane) (d : Detector) (s : State), d ≠ .openLoad → detArmed n.val d s = true → (s.biasOf n.val).det / 2 ^ detBit d % 2 = 0 → s.islandRuns = true →
    let b := laneB n.val
    let x := s.biasOf n.val
    let t := s.fresh.setBias n.val { x with det := x.det + 2 ^ detBit d, clr := if s.on b (detAct d) then setBit x.clr (detBit d) else x.clr }
    exec (.detectorDeclare n d) s = .next (closed s.pending (biasEval n.val false (((t.wr b (detFld d) 1).cnt b (detCnt d) 1).raise (12 * n.val + 11))))) ∧
  (∀ (n : Lane) (s : State), detArmed n.val .openLoad s = true → (s.biasOf n.val).det = 3 → exec (.detectorDeclare n .openLoad) s = .next (closed s.pending s.fresh)) ∧
  (∀ (n : Lane) (d : Detector) (s : State), exec (.detectorRelease n d) s = .next (closed s.pending (s.fresh.setBias n.val { s.biasOf n.val with det := clrBit (s.biasOf n.val).det (detBit d) }))) ∧
  (∀ (n : Lane) (s : State), (s.biasOf n.val).apcRun = true → s.on (laneB n.val) R.BIAS_CTRL_IB_SRC = true → s.rd (laneB n.val) R.BIAS_APC_CFG_WDOG ≠ 0 → s.islandRuns = true →
    let x := s.biasOf n.val
    let t := s.fresh.setBias n.val { x with apcRun := false, clr := if s.on (laneB n.val) R.BIAS_APC_CFG_WDOG_ACT then setBit x.clr 3 else x.clr }
    exec (.apcWatchdogExpire n) s = .next (closed s.pending (biasEval n.val false ((t.wr (laneB n.val) R.BIAS_STATUS_WDOG 1).raise (12 * n.val + 11))))) ∧
  (∀ (found : List OtpUpset) (s : State), s.por = false →
    let t := found.foldl (fun t u => otpUpset u t) s.fresh
    let bad := t.otp.any (fun e => e.2.slots.any Slot.bad || e.2.denyA != e.2.denyB)
    let u := if bad then (t.wr safeB R.SAFE_STATUS_OTP_ERR 1).raise 0x415 else t
    exec (.otpReread found) s = .next (closed s.pending (safeApply (({ u with bias := mapVals BiasSt.idle (fun _ x => { x with injLim := false }) u.bias }).wr safeB R.SAFE_STATUS_OTP_READY 1)))) ∧
  (∀ (n : Lane) (s : State), s.on (laneB n.val) R.BIAS_STATUS_EMITTING = true → s.rd (safeL n.val) R.SAFE_LANE_DUTY ≠ 0xFF → s.islandRuns = true →
    s.on (safeL n.val) R.SAFE_LANE_CLAMP_DUTY = false →
    exec (.dutySpent n) s = .next (closed s.pending (biasEval n.val false (((s.fresh.wr (safeL n.val) R.SAFE_LANE_CLAMP_DUTY 1).cnt safeB R.SAFE_CNT_DUTY_HITS 1).raise 0x413)))) ∧
  (∀ s : State, exec .dutyWindowEnd s = .next (closed s.pending (if s.islandRuns = false then s.fresh
    else (List.range 64).foldl (fun t n =>
      if t.on (safeL n) R.SAFE_LANE_CLAMP_DUTY then biasEval n true (t.wr (safeL n) R.SAFE_LANE_CLAMP_DUTY 0) else t) s.fresh))) ∧
  (∀ (n : Lane) (step : Bool) (s : State), Inv s → s.biasUv = true →
    (biasEval n.val step s).rd (laneB n.val) R.BIAS_OUT_IB_OUT = 0 ∧ (biasEval n.val step s).rd (laneB n.val) R.BIAS_OUT_VB_OUT = 0) ∧
  (∀ (n : Lane) (step : Bool) (s : State), Inv s → s.biasUv = false → s.allClearing = true → (s.biasOf n.val).ib.hold = false →
    s.rd (laneB n.val) R.BIAS_OUT_IB_RNG_OUT = s.rd (laneB n.val) R.BIAS_CLEAR_IB_CRNG →
    let c := s.rd (laneB n.val) R.BIAS_CLEAR_IB_CLR
    (s.on safeB R.SAFE_CTRL_CHECK_EN = false → (biasEval n.val step s).rd (laneB n.val) R.BIAS_OUT_IB_OUT = c) ∧
    (biasEval n.val step s).rd (laneB n.val) R.BIAS_OUT_IB_OUT ≤ c ∧
    (s.on safeB R.SAFE_CTRL_CHECK_EN = true → (biasEval n.val step s).rd (laneB n.val) R.BIAS_OUT_IB_OUT ≤ limitCode n.val s) ∧
    (biasEval n.val step s).rd (laneB n.val) R.BIAS_STATUS_CLEARING = 1) ∧
  (∀ (n : Lane) (step : Bool) (s : State) (i : Lane), Inv s → i ≠ n →
    let u := biasEval n.val step s
    u.mem = s.mem ∧ u.otp = s.otp ∧ u.now = s.now ∧ u.pending = s.pending ∧ (∀ off : Fin 0x7040, u.getReg (laneB i.val + off.val) = s.getReg (laneB i.val + off.val)))

/-- Scout dwells, lane markers, marker rounds and the injections of acquisition (spec/07_acquisition_and_burst.md).
SCOUT_CTRL with EN 1 arms one pass; a dwell's end gives each candidate its stage, counts the pass, picks BEST and
requests AUTO's commit (R199 to R202); a framing search that runs out ends (R200). A valid marker of a locked lane
stage shows its identity and stamp, an invalid one counts (R205, R206). A round of a one-lane group aligns it once its
lane is locked (R206, R207). Each injection acts as the event it stands for (R222). Under its premises on the state
and operands alone, exec answers next for: scoutStart, scoutDwellEnd, scoutFrameTimeout, markerReceived, markerRound,
acqInjScout, acqInjStart, acqInjWindow, feInjSkew, feInjAmloss. -/
def Obligations.ScoutAndGroups : Prop :=
  (∀ (m : Master) (n : Lane) (w : Word) (s : State), (Served m true (0x01003000 + 0x10000 * n.val) (fset w 0 0 1) s →
      exec (.scoutStart m n w) s = .next (closed s.pending (wrote m (0x01003000 + 0x10000 * n.val) (fset w 0 0 1) (fun t =>
    t.setAcq n.val { t.acqOf n.val with armed := true }) s)))) ∧
  (∀ (n : Lane) (res : List CandMeas) (s : State), s.on (laneB n.val) R.ACQ_SCOUT_CTRL_EN = true → 3 ≤ s.rxState n.val → s.rxState n.val ≤ 6 →
    s.on (laneB n.val) R.ACQ_SCOUT_CTRL_CONT = true ∨ (s.acqOf n.val).armed = true →
    let x := s.acqOf n.val
    let t := s.fresh.setAcq n.val { x with armed := false, autoHold := x.autoHold - 1 }
    let t := (List.range 4).foldl (fun t j => candDwell n.val j (res.getD j ⟨0, 0, false, none, false⟩) t) t
    exec (.scoutDwellEnd n res) s = .next (closed s.pending (scoutAuto n.val (scoutBest n.val (scoutNow n.val s) (t.cntW (laneB n.val) R.ACQ_SCOUT_STATUS_PASSES 1))))) ∧
  (∀ (n : Lane) (j : Fin 4) (s : State), exec (.scoutFrameTimeout n j) s = .next (closed s.pending (if (s.acqOf n.val).search.testBit j.val then s.fresh.setAcq n.val { s.acqOf n.val with search := (s.acqOf n.val).search - 2 ^ j.val } else s.fresh))) ∧
  (∀ (n : Lane) (id : BitVec 6) (s : State) (g : Nat), laneGrp n.val s = some g →
    s.rd (grpB (n.val / 16) g) R.FE_GRP_STAT_STATE ≠ 0 → s.rd (lstB n.val) R.FE_LSTAT_AM_STATE = 2 → s.rxMode n.val ≠ 0 → s.feUp (n.val / 16) = true →
    blockLink n.val g s = false →
    let t := s.fresh.wr (lstB n.val) R.FE_LSTAT_LANE_ID id.toNat
    let at_ := rxRef n.val s.tlv.toNat s
    exec (.markerReceived n (.std true id)) s = .next (closed s.pending (t.setAm n.val { s.amOf n.val with bad := 0, blk := ((s.amOf n.val).blk + 1) % 64, stamp := some (at_, s.tagAt at_) }))) ∧
  (∀ (n : Lane) (x : MarkerIn) (s : State) (g : Nat), laneGrp n.val s = some g →
    s.rd (grpB (n.val / 16) g) R.FE_GRP_STAT_STATE ≠ 0 → s.rd (lstB n.val) R.FE_LSTAT_AM_STATE = 1 → s.feUp (n.val / 16) = true →
    (s.rxMode n.val = 0 → s.on (laneB n.val) R.FEC_STATUS_INNER_LOCK = true) → blockLink n.val g s = false → (markerOk x).1 = false →
    exec (.markerReceived n x) s = .next (closed s.pending ((s.fresh.cnt (lstB n.val) R.FE_LSTAT_BAD_AM 1).setAm n.val { s.amOf n.val with good := 0 }))) ∧
  (∀ (e : Eng) (g : Fin 16) (s : State), s.feUp e.val = false ∨ s.rd (grpB e.val g.val) R.FE_GRP_STAT_STATE = 0 →
    exec (.markerRound e g) s = .next (closed s.pending s.fresh)) ∧
  (∀ (e : Eng) (g : Fin 16) (s : State) (n : Lane) (p : Nat × Nat × Nat), s.feUp e.val = true → grpLanes e.val g.val s = [n.val] →
    s.rd (grpB e.val g.val) R.FE_GRP_STAT_STATE = 1 → 2 ≤ s.rd (grpB e.val g.val) R.FE_GRP_CFG_LINK → (s.amOf n.val).stamp = some p → p.1 ≤ 2 ^ 64 →
    look 0 s.injSkew (16 * e.val + g.val) = 0 → Inv s →
    (∃ u, exec (.markerRound e g) s = .next (closed s.pending u) ∧
      (u.rd (lstB n.val) R.FE_LSTAT_SKEW = 0 ∧ u.rd (grpB e.val g.val) R.FE_GRP_STAT_MAX_SKEW = 0 ∧ (u.amOf n.val).stamp = none ∧
      u.rd (grpB e.val g.val) R.FE_GRP_STAT_STATE =
        (if s.rd (lstB n.val) R.FE_LSTAT_AM_STATE = 2 ∧ s.rd (lstB n.val) R.FE_LSTAT_LANE_ID = 0 then 2 else 1) ∧
      u.rd (grpB e.val g.val) R.FE_GRP_STAT_CAUSE =
        (if s.rd (lstB n.val) R.FE_LSTAT_LANE_ID = 0 then s.rd (grpB e.val g.val) R.FE_GRP_STAT_CAUSE else 2) ∧
      (s.rd (lstB n.val) R.FE_LSTAT_LANE_ID ≠ 0 → Sends (0x331 + 24 * e.val) u) ∧ u.mem = s.mem))) ∧
  (∀ (m : Master) (n : Lane) (w : Word) (s : State),
    let f := each [(0, fun t => (t.wr (laneB n.val) R.ACQ_EVT_SCOUT 1).raise (12 * n.val + 7)),
      (1, fun t => if 56 ≤ n.val then burstStart n.val ((t.acqOf n.val).sym + 1) false t else t),
      (2, fun t => if 56 ≤ n.val then t.setAcq n.val { t.acqOf n.val with injWin := true } else t)]
    (Served m true (0x01003020 + 0x10000 * n.val) (fset w 0 0 1) s →
      exec (.acqInjScout m n w) s = .next (closed s.pending (wrote m (0x01003020 + 0x10000 * n.val) (fset w 0 0 1) (f (fset w 0 0 1)) s))) ∧
    (Served m true (0x01003020 + 0x10000 * n.val) (fset w 1 1 1) s →
      exec (.acqInjStart m n w) s = .next (closed s.pending (wrote m (0x01003020 + 0x10000 * n.val) (fset w 1 1 1) (f (fset w 1 1 1)) s))) ∧
    (Served m true (0x01003020 + 0x10000 * n.val) (fset w 2 2 1) s →
      exec (.acqInjWindow m n w) s = .next (closed s.pending (wrote m (0x01003020 + 0x10000 * n.val) (fset w 2 2 1) (f (fset w 2 2 1)) s)))) ∧
  (∀ (m : Master) (e : Eng) (w : Word) (s : State),
    let f := each [(1, fun t => { t with injSkew := put 0 t.injSkew (16 * e.val + t.rd (feB e.val) R.FE_ACQ_INJECT_INJ_GRP) 1 }),
      (0, fun t =>
        let n := 16 * e.val + t.rd (feB e.val) R.FE_ACQ_INJECT_INJ_LANE
        match laneGrp n t with
        | some g => if t.rd (lstB n) R.FE_LSTAT_AM_STATE = 2 then amLose n g t else t
        | none => t)]
    (Served m true (0x002008C4 + 0x40000 * e.val) (fset w 1 1 1) s →
      exec (.feInjSkew m e w) s = .next (closed s.pending (wrote m (0x002008C4 + 0x40000 * e.val) (fset w 1 1 1) (f (fset w 1 1 1)) s))) ∧
    (Served m true (0x002008C4 + 0x40000 * e.val) (fset w 0 0 1) s →
      exec (.feInjAmloss m e w) s = .next (closed s.pending (wrote m (0x002008C4 + 0x40000 * e.val) (fset w 0 0 1) (f (fset w 0 0 1)) s))))

/-- Burst mode, starts, qualification, release and windows of a Glint lane (spec/07_acquisition_and_burst.md). An energy
window below the threshold for END_WIN windows in a row ends the bursts, one above it starts (R210, R213). A hit of
the correlator at or above START_TH that no open context adopts is a start, which a free context takes (R211). A
qualifying delimiter with no owner makes its context OWNER: BURSTS counts, level and time are held, a burst record is
queued (R213, R214). A context without a delimiter in time is released with cause 0x2 (R212). Windows open at their
instant, close at theirs, and the guard ends an owner (R217 to R220). Under its premises on the state and operands
alone, exec answers next for: burstModeWrite, energyWindowEnd, correlatorHit, delimiterQualify, contextQualTimeout,
burstWindowOpen, burstWindowClose, guardExpire. -/
def Obligations.BurstReceive : Prop :=
  (∀ (m : Master) (n : Lane) (w : Word) (s : State), fget w 31 31 = 0 → 56 ≤ n.val → fget w 0 0 = 1 → fget w 7 7 = 1 → 3 ≤ s.rxState n.val → s.rxState n.val ≤ 6 →
    (Served m true (0x01000000 + 0x10000 * n.val) w s →
      exec (.burstModeWrite m n w) s = .next (closed s.pending (wrote m (0x01000000 + 0x10000 * n.val) w (rxGo n.val 7 5) s)))) ∧
  (∀ (n : Lane) (s : State), Inv s → 3 ≤ s.rxState n.val → s.rxState n.val ≤ 6 →
    let u := rxGo n.val 7 5 s
    u.rxState n.val = 7 ∧ u.rd (laneB n.val) R.RX_GAIN_GAIN_ACT = min 40 (s.rd (laneB n.val) R.ACQ_BURST_CFG_BURST_GAIN) ∧
      u.rd (laneB n.val) R.ACQ_BURST_STAT_UNSUPP = (if s.rxMode n.val = 0 then 1 else 0) ∧
      u.rd (laneB n.val) R.RX_STATUS_UNLOCK_CAUSE = (if s.rxState n.val = 6 then 5 else s.rd (laneB n.val) R.RX_STATUS_UNLOCK_CAUSE) ∧
      u.mem = s.mem) ∧
  (∀ (n : Lane) (sym mean : Nat) (s : State), s.rxState n.val = 7 →
    let x := { s.acqOf n.val with sym := max sym (s.acqOf n.val).sym }
    let th := s.rd (laneB n.val) R.ACQ_BURST_DET_ENERGY_TH
    let low := if mean < th * 32 then x.lowN + 1 else 0
    let last := max 1 (s.rd (laneB n.val) R.ACQ_BURST_DET_END_WIN)
    (x.energy = false → th * 64 < mean →
      exec (.energyWindowEnd n sym mean) s = .next (closed s.pending (burstStart n.val sym true (losChange n.val false (s.fresh.setAcq n.val { x with energy := true, lowN := 0 }))))) ∧
    (x.energy = true → th * 64 < mean → exec (.energyWindowEnd n sym mean) s = .next (closed s.pending (losChange n.val false (s.fresh.setAcq n.val { x with lowN := low })))) ∧
    (mean ≤ th * 64 → low < last → exec (.energyWindowEnd n sym mean) s = .next (closed s.pending (s.fresh.setAcq n.val { x with lowN := low }))) ∧
    (x.energy = false → mean ≤ th * 64 → last ≤ low →
      exec (.energyWindowEnd n sym mean) s = .next (closed s.pending (losChange n.val true (s.fresh.setAcq n.val { x with energy := false, lowN := 0 })))) ∧
    (x.energy = true → mean ≤ th * 64 → last ≤ low →
      exec (.energyWindowEnd n sym mean) s = .next (closed s.pending (ctxReleaseIn n.val 2 1 (ctxReleaseIn n.val 1 2
        (losChange n.val true (s.fresh.setAcq n.val { x with energy := false, lowN := 0 }))))))) ∧
  (∀ (n : Lane) (sym corr : Nat) (s : State), burstRuns n.val s = true → s.rd (laneB n.val) R.ACQ_BURST_DET_START_TH ≤ corr →
    ctxState n.val 0 s = 0 → rxGateOpen n.val s = true → (ctxState n.val 1 s = 0 ∨ ctxAdopts (s.acqOf n.val).ctx1 sym = false) →
    exec (.correlatorHit n sym corr) s = .next (closed s.pending ((s.fresh.wr (laneB n.val) R.ACQ_BURST_STAT_CTX0 1).setAcq n.val
        { s.acqOf n.val with sym := max sym (s.acqOf n.val).sym, ctx0 := ⟨sym, false, some sym, 0, 0, 0⟩ }))) ∧
  (∀ (n : Lane) (c : Fin 2) (corr : Nat) (m : CtxMeas) (s : State),
    ctxState n.val c.val s = 1 → s.rd (laneB n.val) R.ACQ_BURST_QUAL_QUAL_TH ≤ corr → ownerCtx n.val s = none →
    let t := ctxMeasure n.val c.val m s.fresh
    let t := ((t.wr (laneB n.val) (fCtx c.val) 2).cnt (laneB n.val) R.ACQ_BURST_CNT_BURSTS 1).wr (laneB n.val) R.ACQ_BURST_STAT_LEVEL m.level.toNat
    let t := t.wr64 (laneB n.val) R.ACQ_BURST_T_LO_T R.ACQ_BURST_T_HI_T s.tlv.toNat
    exec (.delimiterQualify n c corr m none) s = .next (closed s.pending { t with burstRecs := s.burstRecs ++ [⟨n.val, s.tlv.toNat, s.tq, s.stepSeq, c.val, m.level.toNat⟩] })) ∧
  (∀ (n : Lane) (c : Fin 2) (s : State), exec (.contextQualTimeout n c) s = .next (closed s.pending (if ctxState n.val c.val s = 1 then
      (((((s.fresh.wr (laneB n.val) (fCtx c.val) 0).wr (laneB n.val) (fCause c.val) 2).setAcq n.val ((s.acqOf n.val).setCtx c.val .blank)).cnt
        (laneB n.val) R.ACQ_BURST_CNT_FALSE 1).wr (laneB n.val) R.ACQ_EVT_FALSE 1).raise (12 * n.val + 7)
     else s.fresh))) ∧
  (∀ (n : Lane) (j : Fin 4) (s : State) (p : Nat), (s.acqOf n.val).next.getD j.val none = some p → s.counting = true →
    (s.acqOf n.val).injWin = false →
    let at_ := winOpenAt n.val j.val p s
    let t := setNext n.val j.val (if winPeriod n.val s = 0 then none else some (p + 1)) s.fresh
    exec (.burstWindowOpen n j) s = .next (closed s.pending (if at_ + winLen n.val j.val s ≤ s.tlv.toNat then
        (((t.cnt (laneB n.val) R.ACQ_BURST_CNT2_WIN_MISS 1).wr (laneB n.val) R.ACQ_EVT_WINDOW 1).raise (12 * n.val + 7))
       else winOpen n.val j.val (at_ + winLen n.val j.val s) (t.advanceTlv at_ s.now)))) ∧
  (∀ (n : Lane) (j : Fin 4) (s : State) (v : OpenWin), (s.acqOf n.val).wins = [v] → v.j = j.val → s.counting = true → v.tx = false →
    s.on (laneB n.val) R.ACQ_BW_CTRL_RX_GATE = false →
    exec (.burstWindowClose n j) s = .next (closed s.pending ((s.fresh.advanceTlv v.close s.now).setAcq n.val { s.acqOf n.val with wins := [] }))) ∧
  (∀ (n : Lane) (s : State) (t : Nat), (s.acqOf n.val).guardAt = some t →
    exec (.guardExpire n) s = .next (closed s.pending (ctxReleaseIn n.val 2 6
      ((s.fresh.advanceTlv (t + s.rd (laneB n.val) R.ACQ_BURST_CFG_GUARD * 256) s.now).setAcq n.val { s.acqOf n.val with guardAt := none }))))

/-- Decoding an encoded inner codeword gives back what was encoded, whichever one bit is flipped
(spec/08_fec_pcs_patterns.md (R228, R231)). For all 2^128 data words: the encoder keeps the 128 data bits and its
codeword has syndrome 0; with INNER_L = 0 the decoder flips nothing in it, and flips back exactly the one bit that was
inverted, whichever of the 136; so neither case fails the alignment test. -/
def Obligations.InnerCodeCorrects : Prop :=
  ∀ (d : BitVec 128) (rel : List Nat),
    (innerEncode d).truncate 128 = d ∧ innerSyn (innerEncode d) = 0 ∧ innerDecode 0 ⟨innerEncode d, rel⟩ = some [] ∧
    ∀ i < 136, innerDecode 0 ⟨innerEncode d ^^^ BitVec.ofNat 136 (2 ^ i), rel⟩ = some [i] ∧
      innerFails (innerEncode d ^^^ BitVec.ofNat 136 (2 ^ i)) = false

/-- Inner blocks, RS codewords, snapshots and forensic records (spec/08_fec_pcs_patterns.md). The 64th passing inner block
in a row gives inner lock, and a failing one before it starts again (R230). A lane's share of a decoded codeword
counts codewords, symbols, bits and a histogram bin, or an uncorrectable one (R233). SNAP asks for a snapshot, which
the next codeword boundary takes: counts shown, live ones cleared, SNAP_SEQ one up (R234). The oldest forensic record
of an engine completes (R237). INJ_DROP is armed (R246). Under its premises on the state and operands alone, exec
answers next for: innerBlock, rsCodewordDecoded, fecSnap, fecSnapTaken, forensicRecordDone, forInjDrop. -/
def Obligations.FecDecoding : Prop :=
  (∀ (n : Lane) (words : List (BitVec 4)) (s : State), s.rxState n.val ≠ 6 ∨ s.rxMode n.val ≠ 0 ∨ laneGrp n.val s = none ∨ s.feUp (n.val / 16) = false →
    exec (.innerBlock n words) s = .next (closed s.pending s.fresh)) ∧
  (∀ (n : Lane) (words : List (BitVec 4)) (s : State), s.rxState n.val = 6 → s.rxMode n.val = 0 → (laneGrp n.val s).isSome = true → s.feUp (n.val / 16) = true →
    s.on (laneB n.val) R.FEC_STATUS_INNER_LOCK = false →
    let x := s.fecOf n.val
    let buf := x.innerBuf ++ words
    let fail := decide (8 < ((innerTake (buf.take 1156)).filter (fun c => innerFails c.bits)).length)
    exec (.innerBlock n words) s = .next (closed s.pending (if buf.length < 1156 then s.fresh.setFec n.val { x with innerBuf := buf }
      else let t := s.fresh.setFec n.val { x with innerBuf := buf.drop 1156 }
        if fail then t.setFec n.val { x with innerGood := 0, innerOfs := (x.innerOfs + 1) % 1156, innerBuf := buf.drop 1157 }
        else if x.innerGood + 1 < 64 then t.setFec n.val { x with innerGood := x.innerGood + 1, innerBuf := buf.drop 1156 }
        else (((t.wr (laneB n.val) R.FEC_STATUS_INNER_LOCK 1).setFec n.val { x with
                innerBuf := buf.drop 1156, innerGood := 0, innerLast := [], innerBlks := [], rsIn := [] }).wr
          (laneB n.val) R.FEC_EVT_INNER 1).raise (12 * n.val + 8)))) ∧
  (∀ (n : Lane) (words : List (BitVec 4)) (s : State), s.rxState n.val = 6 → s.rxMode n.val = 0 → (laneGrp n.val s).isSome = true → s.feUp (n.val / 16) = true →
    s.on (laneB n.val) R.FEC_STATUS_INNER_LOCK = true → Inv s → s.domOn n.val = true → 1156 ≤ ((s.fecOf n.val).innerBuf ++ words).length →
    let x := s.fecOf n.val
    let buf := x.innerBuf ++ words
    let cws := innerTake (buf.take 1156)
    let fail := decide (8 < (cws.filter (fun c => innerFails c.bits)).length)
    let o := innerOut (s.rd (laneB n.val) R.FEC_CTRL_INNER_L) cws
    let late := fail = true ∧ 15 ≤ x.innerLast.count true
    (∃ u, exec (.innerBlock n words) s = .next (closed s.pending u) ∧
      (u.on (laneB n.val) R.FEC_STATUS_INNER_LOCK = !decide late ∧ (late → Sends (12 * n.val + 8) u) ∧
      (u.fecOf n.val).innerLast = (if late then [] else (fail :: x.innerLast).take 63) ∧
      (u.fecOf n.val).live = { x.live with innerCor := satAdd 16 x.live.innerCor o.cor, innerDet := satAdd 16 x.live.innerDet (o.det.count true) } ∧
      (u.fecOf n.val).innerBuf = buf.drop 1156 ∧ u.mem = s.mem))) ∧
  (∀ (n : Lane) (cw : RsWord) (s : State) (g : Nat), laneGrp n.val s = some g → grpLanes (n.val / 16) g s = [n.val] → blockLink n.val g s = false →
    s.rd (grpB (n.val / 16) g) R.FE_GRP_STAT_STATE = 2 → s.feUp (n.val / 16) = true → s.rxMode n.val ≠ 0 → Inv s → s.domOn n.val = true →
    let r := rsDecode (s.on (laneB n.val) R.FEC_CTRL_RS_ERASE) [] (cw.syms.map BitVec.toNat)
    let unc := r.isNone || (s.fecOf n.val).injUncorr
    let fix := r.getD []
    (∃ u, exec (.rsCodewordDecoded n cw) s = .next (closed s.pending u) ∧
      ((u.fecOf n.val).live = ((fecCount n.val unc fix.length fix.length ((fix.map (fun p => ones 10 p.2)).sum) s).fecOf n.val).live ∧
      (u.fecOf n.val).injUncorr = false ∧ (unc = true → Sends (12 * n.val + 8) u) ∧
      (look StreamSt.idle u.streams n.val).count = ((look StreamSt.idle s.streams n.val).count + 1) % 2 ^ 32 ∧ u.mem = s.mem))) ∧
  (∀ (n : Lane) (cw : RsWord) (s : State), laneGrp n.val s = none → exec (.rsCodewordDecoded n cw) s = .next (closed s.pending s.fresh)) ∧
  (∀ (n : Nat) (unc : Bool) (w wl bits : Nat) (s : State), Inv s →
    let v := (s.fecOf n).live
    let u := fecCount n unc w wl bits s
    (unc = true → (u.fecOf n).live = { v with cw := satAdd 48 v.cw 1, uncorr := satAdd 32 v.uncorr 1, hist := histAdd v.hist 16 } ∧
      u.rd (laneB n) R.FEC_EVT_UNCORR = 1) ∧
    (unc = false → u = s.setFec n { s.fecOf n with live := { v with
      cw := satAdd 48 v.cw 1, sym := satAdd 32 v.sym wl, bit := satAdd 32 v.bit bits,
      hist := let k := if (s.fecOf n).histSrc then w else wl; if k ≤ 15 then histAdd v.hist k else v.hist } }) ∧
    (u.fecOf n).histSrc = (s.fecOf n).histSrc ∧ u.mem = s.mem) ∧
  (∀ (m : Master) (n : Lane) (w : Word) (s : State), (Served m true (0x01004000 + 0x10000 * n.val) (fset w 31 31 1) s →
      exec (.fecSnap m n w) s = .next (closed s.pending (wrote m (0x01004000 + 0x10000 * n.val) (fset w 31 31 1) (fun t =>
    t.wr (laneB n.val) R.FEC_STATUS_SNAP_BUSY 1) s)))) ∧
  (∀ (n : Lane) (s : State), Inv s → s.on (laneB n.val) R.FEC_STATUS_SNAP_BUSY = true →
    let b := laneB n.val
    let v := (s.fecOf n.val).live
    (∃ u, exec (.fecSnapTaken n) s = .next (closed s.pending u) ∧
      (u.rd b R.FEC_CW_LO_CW = v.cw % 2 ^ 32 ∧ u.rd b R.FEC_CW_HI_CW = v.cw / 2 ^ 32 % 2 ^ 16 ∧ u.rd b R.FEC_SYM_SYM = v.sym % 2 ^ 32 ∧
      u.rd b R.FEC_BIT_BIT = v.bit % 2 ^ 32 ∧ u.rd b R.FEC_UNCORR_UNCORR = v.uncorr % 2 ^ 32 ∧
      (∀ i : Fin 17, u.rd (b + 4 * i.val) R.FEC_HIST_COUNT = v.hist.getD i.val 0 % 2 ^ 32) ∧
      u.fecOf n.val = { s.fecOf n.val with live := .zero, histSrc := s.on b R.FEC_CTRL_HIST_SRC } ∧
      u.rd b R.FEC_STATUS_SNAP_BUSY = 0 ∧ u.rd b R.FEC_STATUS_SNAP_SEQ = (s.rd b R.FEC_STATUS_SNAP_SEQ + 1) % 256 ∧ u.mem = s.mem))) ∧
  (∀ (e : Eng) (s : State) (r : ForRec), s.forRecs.find? (fun x => x.eng == e.val) = some r →
    let t := { s.fresh with forRecs := s.forRecs.erase r }
    exec (.forensicRecordDone e) s = .next (closed s.pending (if r.left = 0 then (t.cnt (feB e.val) R.FE_FOR_STAT_RECORDS 1).raise (0x332 + 24 * e.val)
       else if plotState r.plot s = 2 then s.fresh else t))) ∧
  (∀ (m : Master) (e : Eng) (w : Word) (s : State), (Served m true (0x0020090C + 0x40000 * e.val) (fset w 0 0 1) s →
      exec (.forInjDrop m e w) s = .next (closed s.pending (wrote m (0x0020090C + 0x40000 * e.val) (fset w 0 0 1) (fun t =>
    { t with injForDrop := put 0 t.injForDrop e.val 1 }) s))))

/-- The pattern generator and checker, transmit error injection and the injections of FEC (spec/08_fec_pcs_patterns.md).
The checker in SEARCH locks on a locked lane; a window in LOCKED counts bits, differing bits and symbols and leaves
above LOSS_TH (R241). Errors of the generator count, single, periodic and in bursts (R240). UP_DATA stores a pattern
word unless the pattern is in use (R242). The 2^EVERY-th codeword that carries symbols is sent with WEIGHT symbols
from POS on XORed with MASK (R244). The injections of R246 act in bit order. Under its premises on the state and
operands alone, exec answers next for: pcLockAcquired, pcLossWindow, pgInjectOne, pgInjectPeriodic, patternMemWrite,
txCodewordCorrupt, fecInjUncorr, fecInjPcloss, fecInjInner. -/
def Obligations.TestPatterns : Prop :=
  (∀ (n : Lane) (words : List (BitVec 2)) (s : State),
    let need := patLead (pcCfg n.val s) + 4 * max 1 (s.rd (laneB n.val) R.FEC_PC_LOCK_N)
    exec (.pcLockAcquired n words) s = .next (closed s.pending (if s.rd (laneB n.val) R.FEC_PC_STATUS_STATE = 1 ∧ s.rxState n.val = 6 ∧ pcLinked n.val s = false ∧ need ≤ words.length then
        match patLock (pcCfg n.val s) (words.drop (words.length - need)) with
        | some p => (((s.fresh.wr (laneB n.val) R.FEC_PC_STATUS_STATE 2).wr (laneB n.val) R.FEC_EVT_PC_LOCK 1).raise (12 * n.val + 8)).setFec
            n.val { s.fecOf n.val with pcPos := p }
        | none => s.fresh
       else s.fresh))) ∧
  (∀ (n : Lane) (words : List (BitVec 2)) (s : State), s.rd (laneB n.val) R.FEC_PC_STATUS_STATE = 2 →
    let b := laneB n.val
    let per := if s.rxMode n.val ≤ 3 then 2 else 1
    let e := patExpect (pcCfg n.val s) (s.fecOf n.val).pcPos words.length
    let ds := (words.zip e.1).map (fun p => patDiff (decide (s.rxMode n.val ≤ 3)) p.1 p.2)
    let eb := ds.sum
    let t := (s.fresh.setFec n.val { s.fecOf n.val with pcPos := e.2 }).wr64 b R.FEC_PC_BITS_LO_BITS R.FEC_PC_BITS_HI_BITS
      (satAdd 48 (s.rd64 b R.FEC_PC_BITS_LO_BITS R.FEC_PC_BITS_HI_BITS) (per * words.length))
    let t := (t.cnt b R.FEC_PC_ERR_BITS_ERR_BITS eb).cnt b R.FEC_PC_ERR_SYM_ERR_SYM (ds.countP (fun d => 0 < d))
    exec (.pcLossWindow n words) s = .next (closed s.pending (if s.rd b R.FEC_PC_LOSS_TH < eb then
        (((t.wr b R.FEC_PC_STATUS_STATE 1).cnt b R.FEC_PC_STATUS_LOSS 1).wr b R.FEC_EVT_PC_LOCK 1).raise (12 * n.val + 8) else t))) ∧
  (∀ (m : Master) (n : Lane) (w : Word) (s : State), (Served m true (0x01004088 + 0x10000 * n.val) (fset w 31 31 1) s →
      exec (.pgInjectOne m n w) s = .next (closed s.pending (wrote m (0x01004088 + 0x10000 * n.val) (fset w 31 31 1) (fun t =>
    if t.rd (laneB n.val) R.FEC_PG_ERR_MODE = 1 ∧ t.rd (laneB n.val) R.FEC_PG_PG_TYPE ≠ 0 then
        (t.setFec n.val { t.fecOf n.val with flipAt := pgPos n.val t, flipN := 1 }).cnt (laneB n.val) R.FEC_PG_CNT_INJ_CNT 1 else t) s)))) ∧
  (∀ (n : Lane) (s : State), s.rd (laneB n.val) R.FEC_PG_PG_TYPE ≠ 0 → s.rd (laneB n.val) R.TX_CTRL_MODE ≤ 5 → s.counting = true →
    let k := s.rd (laneB n.val) R.FEC_PG_ERR_MODE
    let rate := symRate (s.rd (laneB n.val) R.TX_CTRL_MODE)
    let per := 2 ^ max 4 (min 40 (s.rd (laneB n.val) R.FEC_PG_ERR_EXP))
    let p := (pgPos n.val s / per + 1) * per
    let t := s.fresh.advanceTlv ((s.fecOf n.val).pgStart + (p * 1250 + rate - 1) / rate) s.now
    let c := if k = 2 then 1 else max 1 (s.rd (laneB n.val) R.FEC_PG_ERR_BURST)
    exec (.pgInjectPeriodic n) s = .next (closed s.pending (if k ≤ 1 then s.fresh
      else (t.setFec n.val { t.fecOf n.val with flipAt := pgPos n.val t, flipN := c }).cnt (laneB n.val) R.FEC_PG_CNT_INJ_CNT c))) ∧
  (∀ (m : Master) (n : Lane) (w : Word) (s : State), Served m true (0x010040AC + 0x10000 * n.val) w s →
    let b := laneB n.val
    let i := s.rd b R.FEC_UP_SEL_INDEX
    let t := if s.rd b R.FEC_PG_PG_TYPE = 11 ∨ s.rd b R.FEC_PC_PC_TYPE = 11 then (s.fresh.wr b R.FEC_EVT_REFUSED 1).raise (12 * n.val + 8)
      else
        let t := s.fresh.setReg ((Obj.pattern n.val i).base + 0x40AC) w
        if s.on b R.FEC_UP_SEL_AUTO_INC then t.wr b R.FEC_UP_SEL_INDEX (i + 1) else t
    exec (.patternMemWrite m n w) s = .next (closed s.pending (answered m (0x010040AC + 0x10000 * n.val) true 0 .done t))) ∧
  (∀ (n : Lane) (cw : List Nat) (s : State), s.rd (laneB n.val) R.FEC_TX_INJ_WEIGHT ≠ 0 → s.rd (laneB n.val) R.FEC_TX_INJ_MASK ≠ 0 → cw.length = 544 →
    let b := laneB n.val
    let x := s.fecOf n.val
    let r := txInjectOn n.val (List.range 544) (cw, s)
    (x.txCount + 1 < 2 ^ s.rd b R.FEC_TX_INJ_EVERY → r.1 = cw ∧ r.2 = s.setFec n.val { x with txCount := x.txCount + 1 }) ∧
    (2 ^ s.rd b R.FEC_TX_INJ_EVERY ≤ x.txCount + 1 → r.2 = s.setFec n.val { x with txCount := 0 } ∧ r.1.length = 544 ∧
      ∀ k : Fin 544, r.1.getD k.val 0 =
        if s.rd b R.FEC_TX_INJ_POS ≤ k.val ∧ k.val < s.rd b R.FEC_TX_INJ_POS + s.rd b R.FEC_TX_INJ_WEIGHT
        then cw.getD k.val 0 ^^^ s.rd b R.FEC_TX_INJ_MASK else cw.getD k.val 0)) ∧
  (∀ (n : Lane) (s : State), laneGrp n.val s = none → exec (.txCodewordCorrupt n) s = .next (closed s.pending s.fresh)) ∧
  (∀ (n : Lane) (s : State) (g : Nat), laneGrp n.val s = some g → grpLanes (n.val / 16) g s = [n.val] → blockLink n.val g s = false →
    s.feUp (n.val / 16) = true → s.rd (laneB n.val) R.TX_CTRL_MODE ≠ 0 → Inv s →
    let p := pcsFill [n.val] n.val 20 20 (s.pcsOf (16 * (n.val / 16) + g))
    let mine := ((p.out.filter (fun q => q.1 == n.val)).take 20).map (fun q => q.2)
    let r := txInjectOn n.val (List.range 544) (rsEncode (blocksMsg mine), s)
    (∃ u, exec (.txCodewordCorrupt n) s = .next (closed s.pending u) ∧
      (look [] u.txCw n.val = r.1 ∧ (u.fecOf n.val).txCwN = (s.fecOf n.val).txCwN + 1 ∧
      (u.fecOf n.val).txCount = (r.2.fecOf n.val).txCount ∧ u.mem = s.mem ∧ u.regs = s.regs))) ∧
  (∀ (m : Master) (n : Lane) (w : Word) (s : State),
    let f := each [(0, fun t => t.setFec n.val { t.fecOf n.val with injUncorr := true }),
      (1, fun t => if t.rd (laneB n.val) R.FEC_PC_STATUS_STATE = 2 then
        (((t.wr (laneB n.val) R.FEC_PC_STATUS_STATE 1).cnt (laneB n.val) R.FEC_PC_STATUS_LOSS 1).wr (laneB n.val) R.FEC_EVT_PC_LOCK 1).raise (12 * n.val + 8) else t),
      (2, innerGo n.val false)]
    (Served m true (0x0100406C + 0x10000 * n.val) (fset w 0 0 1) s →
      exec (.fecInjUncorr m n w) s = .next (closed s.pending (wrote m (0x0100406C + 0x10000 * n.val) (fset w 0 0 1) (f (fset w 0 0 1)) s))) ∧
    (Served m true (0x0100406C + 0x10000 * n.val) (fset w 1 1 1) s →
      exec (.fecInjPcloss m n w) s = .next (closed s.pending (wrote m (0x0100406C + 0x10000 * n.val) (fset w 1 1 1) (f (fset w 1 1 1)) s))) ∧
    (Served m true (0x0100406C + 0x10000 * n.val) (fset w 2 2 1) s →
      exec (.fecInjInner m n w) s = .next (closed s.pending (wrote m (0x0100406C + 0x10000 * n.val) (fset w 2 2 1) (f (fset w 2 2 1)) s))))

/-- FLOW_CMD, STRM_CMD, snapshots, templates and injections of a frame engine (spec/09_flows_and_streams.md). Served
writes with nothing armed and no snapshot due. READ, READ_CLR, READ_SNAP show the context of INDEX or its snapshot in
the buffer, LOAD_CFG stages the buffer's configuration, CLEAR clears its counters, STOP ends a running stream (R269 to
R272). An armed refusal refuses with RESULT 3 (R275). SNAP_CTRL takes at once where its instant has passed (R273). A
template word is stored unless a stream uses it (R276). Each injection arms its bit (R275). Under its premises on the
state and operands alone, exec answers next for: flowRead, flowReadClr, flowReadSnap, flowLoadCfg, flowClear,
strmRead, strmReadClr, strmReadSnap, strmLoadCfg, strmClear, strmStop, registerWrite, snapArm, templateWrite,
fsInjRefuse, fsInjSkip, fsInjResync, fsInjLate. -/
def Obligations.FlowCommands : Prop :=
  (∀ (m : Master) (e : Eng) (w : Word) (s : State), legacyOn 9 s = false → feArmed e.val 0 s = false → snapPending e.val s = false →
    let b := feB e.val
    let a := 0x00220000 + 0x40000 * e.val
    let i (t : State) : Nat := t.rd b R.FE_FLOW_CMD_INDEX
    let ok (t : State) : State := t.wr b R.FE_FLOW_STAT_RESULT 0
    (Served m true a (fset w 26 24 1) s →
      exec (.flowRead m e w) s = .next (closed s.pending (wrote m a (fset w 26 24 1) (fun t => putBuf (b + 0x20200) (t.flow e.val (i t)).words (ok t)) s))) ∧
    (Served m true a (fset w 26 24 2) s →
      exec (.flowReadClr m e w) s = .next (closed s.pending (wrote m a (fset w 26 24 2) (fun t =>
      (putBuf (b + 0x20200) (t.flow e.val (i t)).words (ok t)).setFlow e.val (i t) (t.flow e.val (i t)).clear) s))) ∧
    (Served m true a (fset w 26 24 3) s →
      exec (.flowReadSnap m e w) s = .next (closed s.pending (wrote m a (fset w 26 24 3) (fun t => putBuf (b + 0x20200)
      (if look 0 t.snapped e.val = 1 then (look FlowCtx.blank t.flowSnap (1024 * e.val + i t)).words else List.replicate 80 0) (ok t)) s))) ∧
    (Served m true a (fset w 26 24 4) s →
      exec (.flowLoadCfg m e w) s = .next (closed s.pending (wrote m a (fset w 26 24 4) (fun t => (ok t).setFlow e.val (i t)
      { t.flow e.val (i t) with sh0 := t.getReg (b + 0x20200) &&& 0xF000001F, sh1 := t.getReg (b + 0x20204) }) s))) ∧
    (Served m true a (fset w 26 24 5) s →
      exec (.flowClear m e w) s = .next (closed s.pending (wrote m a (fset w 26 24 5) (fun t => (ok t).setFlow e.val (i t) (t.flow e.val (i t)).clear) s)))) ∧
  (∀ (m : Master) (e : Eng) (w : Word) (s : State), legacyOn 9 s = false → feArmed e.val 0 s = false → snapPending e.val s = false →
    let b := feB e.val
    let a := 0x00230000 + 0x40000 * e.val
    let i (t : State) : Nat := t.rd b R.FE_STRM_CMD_INDEX
    let ok (t : State) : State := t.wr b R.FE_STRM_STAT_RESULT 0
    (Served m true a (fset w 26 24 1) s →
      exec (.strmRead m e w) s = .next (closed s.pending (wrote m a (fset w 26 24 1) (fun t => putBuf (b + 0x30200) (t.strm e.val (i t)).words (ok t)) s))) ∧
    (Served m true a (fset w 26 24 2) s →
      exec (.strmReadClr m e w) s = .next (closed s.pending (wrote m a (fset w 26 24 2) (fun t =>
      (putBuf (b + 0x30200) (t.strm e.val (i t)).words (ok t)).setStrm e.val (i t) (t.strm e.val (i t)).clear) s))) ∧
    (Served m true a (fset w 26 24 3) s →
      exec (.strmReadSnap m e w) s = .next (closed s.pending (wrote m a (fset w 26 24 3) (fun t => putBuf (b + 0x30200)
      (if look 0 t.snapped e.val = 1 then (look StrmCtx.blank t.strmSnap (1024 * e.val + i t)).words else List.replicate 32 0) (ok t)) s))) ∧
    (Served m true a (fset w 26 24 4) s →
      exec (.strmLoadCfg m e w) s = .next (closed s.pending (wrote m a (fset w 26 24 4) (fun t => (ok t).setStrm e.val (i t)
      { t.strm e.val (i t) with sh :=
        [0xFFF7FF7F, 0x3FFF3FFF, 0x01FF1FFF, 0xFFFFFFFF, 0xFFFFFFFF, 0xFFFFFFFF, 0xFFFFFFFF, 0x0000FFFF, 0xFFFFFFFF, 0xFFFF00FF,
          0xFFFFFFFF, 0x0000FFFF, 0xFFFF3FFF, 0xFFFFFFFF, 0, 0].zipIdx.map (fun (q : Word × Nat) => q.1 &&& t.getReg (b + 0x30200 + 4 * q.2)) }) s))) ∧
    (Served m true a (fset w 26 24 5) s →
      exec (.strmClear m e w) s = .next (closed s.pending (wrote m a (fset w 26 24 5) (fun t => (ok t).setStrm e.val (i t) (t.strm e.val (i t)).clear) s))) ∧
    (Served m true a (fset w 26 24 6) s →
      exec (.strmStop m e w) s = .next (closed s.pending (wrote m a (fset w 26 24 6) (fun t => (ok t).setStrm e.val (i t)
      (if (t.strm e.val (i t)).state = 2 then { t.strm e.val (i t) with state := 3, backlog := [] } else t.strm e.val (i t))) s)))) ∧
  (∀ (m : Master) (e : Eng) (w : Word) (s : State), feArmed e.val 0 s = true → fget w 26 24 ≠ 0 → fget w 26 24 ≠ 4 →
    (Served m true (0x00220000 + 0x40000 * e.val) w s →
      exec (.registerWrite m (BitVec.ofNat 32 (0x00220000 + 0x40000 * e.val)) w) s = .next (closed s.pending (wrote m (0x00220000 + 0x40000 * e.val) w (fun t =>
      (((feDisarm e.val 0 t).wr (feB e.val) R.FE_FLOW_STAT_RESULT 3).wr (feB e.val) R.FE_FS_EVT_CMD_REF 1).raise (0x334 + 24 * e.val)) s)))) ∧
  (∀ (m : Master) (e : Eng) (w : Word) (s : State), (Served m true (0x00200A10 + 0x40000 * e.val) (fset w 0 0 1) s →
      exec (.snapArm m e w) s = .next (closed s.pending (wrote m (0x00200A10 + 0x40000 * e.val) (fset w 0 0 1) (fun t =>
    if t.on (feB e.val) R.FE_SNAP_CTRL_ARM ∧ t.rd64 (feB e.val) R.FE_SNAP_AT_LO_AT R.FE_SNAP_AT_HI_AT ≤ t.tlv.toNat then snapTake e.val true t else t) s)))) ∧
  (∀ (m : Master) (e : Eng) (t : Fin 128) (j : Fin 64) (w : Word) (s : State),
    let a := 0x00238000 + 0x40000 * e.val + 256 * t.val + 4 * j.val
    (tmplBusy e.val t.val s = false → (Served m true a w s →
      exec (.templateWrite m e t j w) s = .next (closed s.pending (wrote m a w (fun t => t) s)))) ∧
    (tmplBusy e.val t.val s = true → Served m true a w s → exec (.templateWrite m e t j w) s = .next (closed s.pending (answered m a true 0 .done (((gateWake e.val s.fresh).wr (feB e.val) R.FE_FS_EVT_TMPL_REF 1).raise (0x334 + 24 * e.val)))))) ∧
  (∀ (m : Master) (e : Eng) (w : Word) (s : State),
    let a := 0x00200A1C + 0x40000 * e.val
    let f (w : Word) (t : State) : State := { t with feInj := put 0 t.feInj e.val ((List.range 4).foldl (fun k i => if fget w i i == 1 then setBit k i else k) (look 0 t.feInj e.val)) }
    (Served m true a (fset w 0 0 1) s →
      exec (.fsInjRefuse m e w) s = .next (closed s.pending (wrote m a (fset w 0 0 1) (f (fset w 0 0 1)) s))) ∧ (Served m true a (fset w 1 1 1) s →
      exec (.fsInjSkip m e w) s = .next (closed s.pending (wrote m a (fset w 1 1 1) (f (fset w 1 1 1)) s))) ∧
    (Served m true a (fset w 2 2 1) s →
      exec (.fsInjResync m e w) s = .next (closed s.pending (wrote m a (fset w 2 2 1) (f (fset w 2 2 1)) s))) ∧ (Served m true a (fset w 3 3 1) s →
      exec (.fsInjLate m e w) s = .next (closed s.pending (wrote m a (fset w 3 3 1) (f (fset w 3 3 1)) s))))

/-- Received frames, burst records, rate intervals, stream instants and starts, and snapshots
(spec/09_flows_and_streams.md). A received frame counts in the flow that its table entry names, counts its entry's
hits, and goes on to capture and Haze (R249 to R256). A burst record counts in its lane's flow (R263). A rate
interval's end latches and clears the current counts of the engine's flows (R262). A stream in WAIT runs from START;
each instant of a running one is due or skipped and the next follows the gap (R265, R267, R269). A due frame starts
where it fits (R266). A snapshot's boundary copies the banks (R273). Under its premises on the state and operands
alone, exec answers next for: frameReceived, burstRecordReceived, rateIntervalEnd, streamStartReached, streamFrameDue,
streamFrameStart, snapAtReached. -/
def Obligations.FlowEvents : Prop :=
  (∀ (e : Eng) (g : Fin 16) (err : Bool) (bytes : List Byte) (s : State), s.feUp e.val = false ∨ s.rd (grpB e.val g.val) R.FE_GRP_STAT_STATE ≠ 2 →
    exec (.frameReceived e g err bytes) s = .next (closed s.pending s.fresh)) ∧
  (∀ (e : Eng) (g : Fin 16) (err : Bool) (raw : List Byte) (s : State), s.feUp e.val = true → s.rd (grpB e.val g.val) R.FE_GRP_STAT_STATE = 2 →
    let at_ := feStamp e.val g.val s
    let bytes := raw.take 16383
    let ms := clsMatches e.val (frameKey bytes g.val (s.rd (feB e.val) R.FE_FLOW_CFG_KEY_OFS)) s
    let flow := (chooseFlow (tableFlow e.val ms s) (tagCounts e.val g.val (rxTag e.val bytes s) s).2 (s.on (feB e.val) R.FE_TAG_CFG_TAG_FIRST)).map (fun p => p.1)
    let bad := errFrame err raw
    exec (.frameReceived e g err raw) s = .next (closed s.pending (hzTake e.val g.val at_ bad bytes flow
      (frameCapture e.val g.val (capClass e.val ms s) (16 * e.val + s.rd (grpB e.val g.val) R.FE_GRP_CFG_FIRST) at_ bad bytes
        (frameRx e.val g.val at_ (err || decide (16383 < raw.length)) bytes s.fresh))))) ∧
  (∀ (e g i stamp : Nat) (err : Bool) (bytes : List Byte) (s : State),
    let ms := clsMatches e (frameKey bytes g (s.rd (feB e) R.FE_FLOW_CFG_KEY_OFS)) s
    let t := clsHit e ms s
    rxTag e bytes t = .absent → tableFlow e ms t = some i → (t.flow e i).en = true →
    frameRx e g stamp err bytes s = t.setFlow e i (if errFrame err bytes then { t.flow e i with fcsErr := satAdd 32 (t.flow e i).fcsErr 1 }
      else { t.flow e i with
        frames := satAdd 64 (t.flow e i).frames 1, bytes := satAdd 64 (t.flow e i).bytes bytes.length, last := stamp,
        first := if (t.flow e i).fresh then stamp else (t.flow e i).first, fresh := false,
        curFrames := satAdd 64 (t.flow e i).curFrames 1, curBytes := satAdd 64 (t.flow e i).curBytes bytes.length })) ∧
  (∀ (b : Nat) (s : State) (r : BurstRec) (rest : List BurstRec), s.burstRecs = r :: rest →
    let i := s.rd (feB 3) R.FE_BURST_CFG_BASE + (r.lane - 56)
    let t := { s.fresh with burstRecs := rest }
    exec (.burstRecordReceived b) s = .next (closed s.pending (if s.rd (feB 3) R.FE_BURST_CFG_LANE_EN / 2 ^ (r.lane - 56) % 2 = 1 ∧ i < 1024 ∧ (s.flow 3 i).en = true ∧ s.feUp 3 = true then
        t.setFlow 3 i ((s.flow 3 i).frame (b / 8) r.t) else t))) ∧
  (∀ (e : Eng) (s : State), s.counting = true → s.feUp e.val = true →
    let d := 2 ^ (s.rd (feB e.val) R.FE_FLOW_CFG_RATE_EXP + 12) * 250
    let t := s.fresh.advanceTlv ((s.tlv.toNat / d + 1) * d) s.now
    exec (.rateIntervalEnd e) s = .next (closed s.pending { t with flows := mapVals FlowCtx.blank (fun k f =>
      if k / 1024 = e.val then { f with rateFrames := f.curFrames, rateBytes := f.curBytes, curFrames := 0, curBytes := 0 } else f) s.flows })) ∧
  (∀ (e : Eng) (i : Fin 1024) (s : State), s.counting = true → s.feUp e.val = true → (s.strm e.val i.val).state = 1 →
    let x := s.strm e.val i.val
    exec (.streamStartReached e i) s = .next (closed s.pending ((s.fresh.advanceTlv (cStart x.cfg - txLead e.val (cGroup x.cfg) s) s.now).setStrm e.val i.val { x with
      state := 2, due := cStart x.cfg * 256, burst0 := cStart x.cfg * 256, burstN := 0, count := 0, last := none, backlog := [], len := cLenMin x.cfg }))) ∧
  (∀ (e : Eng) (i : Fin 1024) (s : State), s.counting = true → s.feUp e.val = true → (s.strm e.val i.val).state = 2 → cCount (s.strm e.val i.val).cfg = 0 →
    let x := s.strm e.val i.val
    let t := s.fresh.advanceTlv ((x.due + 255) / 256 - txLead e.val (cGroup x.cfg) s) s.now
    x.backlog.length < 16 → feArmed e.val 1 s = false → txUp e.val (cGroup x.cfg) t = true → txReplay e.val (cGroup x.cfg) t = false →
    let t := t.setStrm e.val i.val { x.step with backlog := x.backlog ++ [x.due] }
    exec (.streamFrameDue e i) s = .next (closed s.pending (t.setStrm e.val i.val (t.strm e.val i.val)))) ∧
  (∀ (e : Eng) (g : Fin 16) (s : State) (i : Nat), s.feUp e.val = true → txUp e.val g.val s = true → txReplay e.val g.val s = false →
    let t := s.fresh.advanceNow (look 0 s.feFree (16 * e.val + g.val))
    hzPick e.val g.val t = none → strmPick e.val g.val t = some i →
    exec (.streamFrameStart e g) s = .next (closed s.pending (strmSend e.val g.val i t))) ∧
  (∀ (e : Eng) (s : State), s.on (feB e.val) R.FE_SNAP_CTRL_ARM = true → s.counting = true → s.feUp e.val = true →
    exec (.snapAtReached e) s = .next (closed s.pending (snapTake e.val false (s.fresh.advanceTlv (s.rd64 (feB e.val) R.FE_SNAP_AT_LO_AT R.FE_SNAP_AT_HI_AT) s.now)))) ∧
  (∀ (e : Nat) (late : Bool) (s : State), Inv s →
    let u := snapTake e late s
    let mine {α : Type} (l : List (Nat × α)) : List (Nat × α) := l.filter (fun p => p.1 / 1024 == e)
    mine u.flowSnap = mine s.flows ∧ mine u.strmSnap = mine s.strms ∧ u.flows = s.flows ∧ u.strms = s.strms ∧ look 0 u.snapped e = 1 ∧ u.rd (feB e) R.FE_SNAP_CTRL_ARM = 0 ∧ u.rd (feB e) R.FE_SNAP_CTRL_DONE = 1 ∧ u.rd (feB e) R.FE_SNAP_CTRL_LATE = b2n late)

/-- Samples, LQF, restarts, synchronising resets, reads and the injection of the watch chains (spec/10_watch_chain.md).
Base intervals that complete no sample only advance the chain; those that do stamp it at its end boundary, publish it
with its flags and compare it with the thresholds, or update LQF (R280, R286 to R292). CTRL.RESTART sets resets 16,384
ticks ahead for the chains it names; a due reset arrives and restarts its chain (R282). A read of OUT_VAL shows the
last sample (R287). INJ_CROSS makes the next compared sample cross (R294). Under its premises on the state and
operands alone, exec answers next for: watchSample, lqfSample, watchRestart, watchSyncReset, watchOutRead,
watchInjCross. -/
def Obligations.WatchChains : Prop :=
  (∀ (n : Lane) (c : Fin 4) (taps : List (Nat × TapIn)) (s : State), s.rd (chB n.val c.val) R.WATCH_CH_CFG_TAP ≠ 0 → s.laneUp n.val = true → s.counting = true →
    let p := chainPar n.val c.val s
    let tap := s.rd (chB n.val c.val) R.WATCH_CH_CFG_TAP
    let ins := tapList n.val c.val tap taps s
    let old := s.chain n.val c.val
    let r := chainRun p.1 p.2.1 p.2.2 old ins
    let fed := tap = 8 ∧ ins.any Option.isSome = true
    let seq := some (s.rd (hkB + 8 * s.rd (chB n.val c.val) R.WATCH_CH_CFG_HK_CH) R.HK_RES_SEQ)
    let h := decide (fed ∧ (old.newHk = true ∨ old.hkSeq ≠ seq))
    let x := { r.1 with hkSeq := if fed then seq else r.1.hkSeq }
    exec (.watchSample n c taps) s = .next (closed s.pending (match r.2 with
    | none => s.fresh.setChain n.val c.val { x with newHk := h }
    | some (z, held, k) =>
      let t := (x.r + x.m * 4000) % 2 ^ 64
      let u := (s.fresh.advanceTlv t s.now).setChain n.val c.val { x with gap := false, newHk := false }
      watchEmit n.val c.val (min (roundQuot z 256).toNat (2 ^ 32 - 1)) t (decide (x.o1 < settle1 k)) x.gap held h
        (u.wr (chB n.val c.val) R.WATCH_CH_STATUS_FADING (b2n x.fade.isSome))))) ∧
  (∀ (n c v t : Nat) (uns gap held newhk : Bool) (s : State), Inv s → n < 64 → c < 4 → v < 2 ^ 32 → t < 2 ^ 64 → (uns || gap) = true → s.on (chB n c) R.WATCH_CH_CFG_PUSH = false →
    let u := watchEmit n c v t uns gap held newhk s
    let b := chB n c
    u.rd b R.WATCH_CH_OUT_VAL_VALUE = v ∧ u.rd64 b R.WATCH_CH_OUT_T_LO_T R.WATCH_CH_OUT_T_HI_T = t ∧ u.rd b R.WATCH_CH_OUT_FLAGS_NEW = 1 ∧
    u.rd b R.WATCH_CH_OUT_FLAGS_UNSETTLED = b2n uns ∧ u.rd b R.WATCH_CH_OUT_FLAGS_GAP = b2n gap ∧ u.rd b R.WATCH_CH_OUT_FLAGS_HELD = b2n held ∧
    u.rd b R.WATCH_CH_OUT_FLAGS_SEQ = (s.rd b R.WATCH_CH_OUT_FLAGS_SEQ + 1) % 256 ∧ u.mem = s.mem ∧ u.raised = s.raised) ∧
  (∀ (n : Lane) (taps : List (Nat × TapIn)) (s : State), s.laneUp n.val = true → s.counting = true →
    let r := chainRun 8 4 4 (s.chain n.val 4) (tapList n.val 4 1 taps s)
    exec (.lqfSample n taps) s = .next (closed s.pending (match r.2 with
    | none => s.fresh.setChain n.val 4 { r.1 with newHk := false }
    | some (z, _, k) =>
      let u := (s.fresh.advanceTlv ((r.1.r + r.1.m * 4000) % 2 ^ 64) s.now).setChain n.val 4 { r.1 with gap := false, newHk := false }
      let l := lqfOf (s.rd (laneB n.val) R.EQ_SLICER_AMP) (decide (4 ≤ s.rxMode n.val)) (min (roundQuot z 256).toNat (2 ^ 32 - 1))
      ((u.wr (laneB n.val) R.WATCH_LQF_LQF l).cntW (laneB n.val) R.WATCH_LQF_SEQ 1).wr (laneB n.val) R.WATCH_LQF_VALID
        (b2n (!decide (r.1.o1 < settle1 k) && !r.1.gap))))) ∧
  (∀ (m : Master) (n : Lane) (w : Word) (s : State), (Served m true (0x01005000 + 0x10000 * n.val) w s →
      exec (.watchRestart m n w) s = .next (closed s.pending (wrote m (0x01005000 + 0x10000 * n.val) w (fun t =>
    (List.range 4).foldl (fun u c => if fget w 11 8 / 2 ^ c % 2 = 1 then
      u.setChain n.val c { u.chain n.val c with due := (u.chain n.val c).due ++ [(t.tlv.toNat + 16384, t.now + 16384)] } else u) t) s)))) ∧
  (∀ (n : Lane) (c : Fin 5) (s : State) (d : Nat × Nat), (s.chain n.val c.val).due = [d] → s.domOn n.val = true →
    let t := s.fresh.advanceReq d.1 d.2
    exec (.watchSyncReset n c) s = .next (closed s.pending (chainReset n.val c.val (t.setChain n.val c.val { s.chain n.val c.val with due := [] })))) ∧
  (∀ (m : Master) (n : Lane) (c : Fin 4) (s : State),
    let a := 0x0100511C + 0x10000 * n.val + 0x40 * c.val
    let fl := fset (s.getReg (a + 4)) 31 31 0
    Served m false a 0 s → Inv s → s.latch.find? (fun e => e.1 == a) = none → (∃ u, exec (.watchOutRead m n c) s = .next (closed s.pending u) ∧
      (u.resp = some ⟨m, a, false, s.getReg a, .done⟩ ∧ u.mem = s.mem ∧ u.regs = (s.setReg (a + 4) fl).regs ∧
      u.latch.find? (fun e => e.1 == a + 4) = some (a + 4, fl) ∧ u.latch.find? (fun e => e.1 == a + 8) = some (a + 8, s.getReg (a + 8)) ∧
      u.latch.find? (fun e => e.1 == a + 12) = some (a + 12, s.getReg (a + 12))))) ∧
  (∀ (m : Master) (n : Lane) (w : Word) (s : State), (Served m true (0x0100500C + 0x10000 * n.val) (fset w 2 2 1) s →
      exec (.watchInjCross m n w) s = .next (closed s.pending (wrote m (0x0100500C + 0x10000 * n.val) (fset w 2 2 1) (fun t =>
    t.setChain n.val (fget (fset w 2 2 1) 1 0) { t.chain n.val (fget (fset w 2 2 1) 1 0) with inj := true }) s))))

/-- Plot, trigger, replay, repair, log and injection commands of the Meadow store (spec/11_meadow_store.md). Served writes
with no staged window of the group in legacy mode. PLOT_CMD starts a capture or forensic plot that is idle or frozen
and no replay source, stops a running one, or resets one that is not running (R306). TRIG_CMD fires or rearms the
trigger of INDEX (R314, R315). RP_CMD.STOP ends a symbol replay at once (R318). REPAIR takes the frames of a row onto
spares (R333). MC_RST restores the reset values of a channel's registers and LOG_SEL.CLEAR empties an entry (R338).
Each injection arms its bit, or raises its event (R337). Under its premises on the state and operands alone, exec
answers next for: plotStart, plotStop, plotReset, trigFireCmd, trigRearm, replayStop, mcRepairSoft, mcRepairHard,
mcRst, logClear, mcInjCor, mcInjUnc, mcInjSpare, mcInjIf, mcInjRepair, mdwInjAdmit, mdwInjOvf, mdwInjUnder. -/
def Obligations.StoreCommands : Prop :=
  (∀ (m : Master) (w : Word) (s : State),
    let a := 0x00380020
    let p (t : State) : Nat := t.rd mdwB R.MDW_PLOT_SEL_INDEX
    (Served m true a (fset w 1 0 1) s →
      exec (.plotStart m w) s = .next (closed s.pending (wrote m a (fset w 1 0 1) (fun t =>
      if ¬ ((plotType (p t) t = 1 ∨ plotType (p t) t = 3) ∧ (plotState (p t) t = 1 ∨ plotState (p t) t = 3)) then plotResult (p t) 1 t
      else if replaySource (p t) t then plotResult (p t) 2 t
      else plotRun (p t) (plotResult (p t) 0 t)) s))) ∧
    (Served m true a (fset w 1 0 2) s →
      exec (.plotStop m w) s = .next (closed s.pending (wrote m a (fset w 1 0 2) (fun t =>
      if plotState (p t) t ≠ 2 then plotResult (p t) 1 t else trigShort (p t) (plotFreeze (p t) 3 (plotResult (p t) 0 t))) s))) ∧
    (Served m true a (fset w 1 0 3) s →
      exec (.plotReset m w) s = .next (closed s.pending (wrote m a (fset w 1 0 3) (fun t =>
      if plotState (p t) t = 2 then plotResult (p t) 1 t
      else
        let u := ((plotResult (p t) 0 t).wr (plB (p t)) R.MDW_PLOT_STAT_WPTR 0).wr (plB (p t)) R.MDW_PLOT_STAT_WRAPPED 0
        let u := if plotState (p u) u = 4 then u.wr (plB (p u)) R.MDW_PLOT_STAT_STATE 1 else u
        plotErase (p t) (u.setPlot (p t) { u.plotOf (p t) with flush := 0 })) s)))) ∧
  (∀ (m : Master) (w : Word) (s : State),
    let i (t : State) : Nat := t.rd mdwB R.MDW_TRIG_CMD_INDEX
    (w.getLsbD 30 = false → (Served m true 0x00380060 (fset w 31 31 1) s →
      exec (.trigFireCmd m w) s = .next (closed s.pending (wrote m 0x00380060 (fset w 31 31 1) (fun t =>
      { t with fires := t.fires ++ [⟨i t, t.tlv.toNat, (t.tagAt t.tlv.toNat).1, (t.tagAt t.tlv.toNat).2⟩] }) s)))) ∧
    (w.getLsbD 31 = false → (Served m true 0x00380060 (fset w 30 30 1) s →
      exec (.trigRearm m w) s = .next (closed s.pending (wrote m 0x00380060 (fset w 30 30 1) (fun t => trigRearm (i t) t) s))))) ∧
  (∀ (m : Master) (w : Word) (s : State),
    let r (t : State) : Nat := t.rd mdwB R.MDW_RP_SEL_INDEX
    (Served m true 0x003800E0 (fset w 31 31 1) s →
      exec (.replayStop m w) s = .next (closed s.pending (wrote m 0x003800E0 (fset w 31 31 1) (fun t =>
      if t.rd (rpB (r t)) R.MDW_RP_STAT_STATE ≠ 3 then t
      else if t.rd (rpB (r t)) R.MDW_RP_CFG_KIND = 0 ∧ t.tlv.toNat < (t.rpOf (r t)).lastEnd then
        t.setRp (r t) { t.rpOf (r t) with stop := true }
      else t.wr (rpB (r t)) R.MDW_RP_STAT_STATE 4) s)))) ∧
  (∀ (m : Master) (c : Chan) (w : Word) (s : State),
    let b := mcB c.val
    let go (op : Nat) (t : State) : State := if (0 < op ∧ op < 3) then
        (if t.rd b R.MC_REPAIR_STAT_BUSY = 1 then t.wr b R.MC_REPAIR_STAT_RESULT 1
        else if t.rd (mdwB + 4 * c.val) R.MDW_ADM_CH_LOAD ≠ 0 then t.wr b R.MC_REPAIR_STAT_RESULT 2
        else if t.rd b R.MC_STATUS_SPARE_FREE < 8 then t.wr b R.MC_REPAIR_STAT_RESULT 3
        else mcRepair c.val op t) else t
    (Served m true (0x0030003C + 0x10000 * c.val) (fset w 31 30 1) s →
      exec (.mcRepairSoft m c w) s = .next (closed s.pending (wrote m (0x0030003C + 0x10000 * c.val) (fset w 31 30 1) (go 1) s))) ∧
    (Served m true (0x0030003C + 0x10000 * c.val) (fset w 31 30 2) s →
      exec (.mcRepairHard m c w) s = .next (closed s.pending (wrote m (0x0030003C + 0x10000 * c.val) (fset w 31 30 2) (go 2) s))) ∧
    (Served m true (0x00300000 + 0x10000 * c.val) (fset w 31 31 1) s →
      exec (.mcRst m c w) s = .next (closed s.pending (wrote m (0x00300000 + 0x10000 * c.val) (fset w 31 31 1) (mcReset c.val) s))) ∧
    (Served m true (0x00300014 + 0x10000 * c.val) (fset w 31 31 1) s →
      exec (.logClear m c w) s = .next (closed s.pending (wrote m (0x00300014 + 0x10000 * c.val) (fset w 31 31 1) (fun t =>
      { t with regs := dropKeys (keyIn (Obj.mcLog c.val (t.rd b R.MC_LOG_SEL_INDEX)).base 0x1000) t.regs }) s)))) ∧
  (∀ (m : Master) (c : Chan) (w : Word) (s : State),
    let arm (k : Nat) (t : State) : State := { t with mcInj := put 0 t.mcInj c.val (setBit (look 0 t.mcInj c.val) k) }
    let inj := each [(0, arm 0), (1, arm 1), (4, arm 2), (2, fun t => t.raise (915 + 16 * c.val)), (3, fun t => t.raise (918 + 16 * c.val))]
    let a := 0x00300044 + 0x10000 * c.val
    (Served m true a (fset w 0 0 1) s →
      exec (.mcInjCor m c w) s = .next (closed s.pending (wrote m a (fset w 0 0 1) (inj (fset w 0 0 1)) s))) ∧ (Served m true a (fset w 1 1 1) s →
      exec (.mcInjUnc m c w) s = .next (closed s.pending (wrote m a (fset w 1 1 1) (inj (fset w 1 1 1)) s))) ∧
    (Served m true a (fset w 2 2 1) s →
      exec (.mcInjSpare m c w) s = .next (closed s.pending (wrote m a (fset w 2 2 1) (inj (fset w 2 2 1)) s))) ∧ (Served m true a (fset w 3 3 1) s →
      exec (.mcInjIf m c w) s = .next (closed s.pending (wrote m a (fset w 3 3 1) (inj (fset w 3 3 1)) s))) ∧
    (Served m true a (fset w 4 4 1) s →
      exec (.mcInjRepair m c w) s = .next (closed s.pending (wrote m a (fset w 4 4 1) (inj (fset w 4 4 1)) s)))) ∧
  (∀ (m : Master) (w : Word) (s : State),
    let inj (v : Word) := each [(0, fun t => { t with injAdmit := true }),
      (1, fun t => let p := t.rd mdwB R.MDW_PLOT_SEL_INDEX; t.setPlot p { t.plotOf p with inj := true }),
      (2, fun t => t.setRp (fget v 13 8) { t.rpOf (fget v 13 8) with inj := true })] v
    (Served m true 0x00380144 (fset w 0 0 1) s →
      exec (.mdwInjAdmit m w) s = .next (closed s.pending (wrote m 0x00380144 (fset w 0 0 1) (inj (fset w 0 0 1)) s))) ∧ (Served m true 0x00380144 (fset w 1 1 1) s →
      exec (.mdwInjOvf m w) s = .next (closed s.pending (wrote m 0x00380144 (fset w 1 1 1) (inj (fset w 1 1 1)) s))) ∧
    (Served m true 0x00380144 (fset w 2 2 1) s →
      exec (.mdwInjUnder m w) s = .next (closed s.pending (wrote m 0x00380144 (fset w 2 2 1) (inj (fset w 2 2 1)) s))))

/-- Page reads, writes, corrections, retirement, scrubbing and repair of the stacks (spec/11_meadow_store.md). A page
written to a frame is what the frame holds, and other frames keep theirs (R303). A read of an unwritten frame changes
nothing; a clean one neither; with corrected bits it counts and logs them; more than the strength is uncorrectable,
counted, logged and reported (R302, R327, R330). A frame that stays bad after its rewrite is retired to a spare
(R329). The rewrite is counted once REPEAT is reached (R328). The scrubber reads the next written frame (R332). A
repair's end frees the spares (R333). Under its premises on the state and operands alone, exec answers next for:
pageRead, pageRewrite, scrubRead, mcRepairDone, hbmParityError. -/
def Obligations.PagesAndFrames : Prop :=
  (∀ (m f : Nat) (p : Page) (s : State), Inv s → p ≠ Page.unwritten →
    (pageWrite m f p s).page m f = some p ∧ (pageWrite m f p s).mem = s.mem) ∧
  (∀ (m f n g : Nat) (p : Page) (s : State), m < 6 → n < 6 → f < 2 ^ 24 → g < 2 ^ 24 → (m, f) ≠ (n, g) →
    (pageWrite m f p s).page n g = s.page n g) ∧
  (∀ (m : Chan) (f : Nat) (res : PageRes) (s : State), s.mcUp m.val = true → f < framesPerStack s → s.page m.val f = none →
    exec (.pageRead m f res) s = .next (closed s.pending s.fresh)) ∧
  (∀ (m : Chan) (f : Nat) (res : PageRes) (p : Page) (s : State), s.mcUp m.val = true → f < framesPerStack s → s.page m.val f = some p →
    (mcArmed m.val 1 s = true → exec (.pageRead m f res) s = .next (closed s.pending (readUncorr m.val f (mcDisarm m.val 1 s.fresh)))) ∧
    (mcArmed m.val 1 s = false → res = .unc → exec (.pageRead m f res) s = .next (closed s.pending (readUncorr m.val f s.fresh)))) ∧
  (∀ (m : Chan) (f : Nat) (l : List Nat) (p : Page) (s : State), s.mcUp m.val = true → f < framesPerStack s → s.page m.val f = some p → mcArmed m.val 1 s = false → mcArmed m.val 0 s = false →
    exec (.pageRead m f (.bits l)) s = .next (closed s.pending (if p.t < l.length then readUncorr m.val f s.fresh else if l = [] then s.fresh
        else readCorrected m.val f l.length (l.foldl max 0) s.fresh))) ∧
  (∀ (m f : Nat) (s : State), Inv s → m < 6 → f < 2 ^ 24 → s.domOn (72 + m) = true →
    let u := readUncorr m f s
    let b := logB m (logTake m f (s.cnt (mcB m) R.MC_CNT_UNC_UNCORR 1)).2
    u.rd (mcB m) R.MC_CNT_UNC_UNCORR = min (s.rd (mcB m) R.MC_CNT_UNC_UNCORR + 1) 65535 ∧ u.rd b R.MC_LOG_W0_VALID = 1 ∧
    u.rd b R.MC_LOG_W0_FRAME = f ∧ u.rd b R.MC_LOG_W0_UNCORR = 1 ∧ Sends (914 + 16 * m) u ∧ look 0 u.uncPend (frameKey' m f) = 1 ∧ u.pages = s.pages) ∧
  (∀ (m f w top : Nat) (s : State), Inv s → m < 6 → f < 2 ^ 24 → logFind m f s = none → (logChoose m s).2 = false →
    let u := readCorrected m f w top s
    let b := logB m (logChoose m s).1
    u.rd (mcB m) R.MC_CNT_COR_PAGES = min (s.rd (mcB m) R.MC_CNT_COR_PAGES + 1) (2 ^ 32 - 1) ∧
    u.rd b R.MC_LOG_W0_VALID = 1 ∧ u.rd b R.MC_LOG_W0_FRAME = f ∧ u.rd b R.MC_LOG_W1_HITS = 1 ∧ u.rd b R.MC_LOG_W1_REPEAT = 1 ∧
    u.rd b R.MC_LOG_W1_MAX_ERR = w % 256 ∧ u.pages = s.pages ∧ u.raised = s.raised) ∧
  (∀ (m f k : Nat) (s : State), Inv s → s.domOn (72 + m) = true → m < 6 → f < 2 ^ 24 → s.rd (mcB m) R.MC_STATUS_SPARE_FREE = k + 1 →
    let u := frameRetire m f s
    u.rd (mcB m) R.MC_STATUS_SPARE_FREE = k ∧ look 0 u.remap (frameKey' m f) = look 0 s.spares m + 1 ∧ look 0 u.spares m = look 0 s.spares m + 1 ∧
    Sends (913 + 16 * m) u ∧ (k = s.rd (mcB m) R.MC_SPARE_LOW_TH → Sends (915 + 16 * m) u)) ∧
  (∀ (m : Chan) (f i : Nat) (s : State), logFind m.val f s = some i →
    let b := logB m.val i
    s.rd b R.MC_LOG_W0_REWRITTEN = 0 → s.mcUp m.val = true → max 1 (s.rd (mcB m.val) R.MC_CTRL_REPEAT_LIMIT) ≤ s.rd b R.MC_LOG_W1_REPEAT →
    exec (.pageRewrite m f) s = .next (closed s.pending (((((s.fresh.wr b R.MC_LOG_W0_REWRITTEN 1).wr b R.MC_LOG_W1_REPEAT 0).cnt (mcB m.val) R.MC_CNT_REP_REWRITES 1)).raise (912 + 16 * m.val)))) ∧
  (∀ (m : Chan) (f : Nat) (res : PageRes) (s : State), s.rd (mcB m.val) R.MC_CTRL_SCRUB_EN = 1 → s.mcUp m.val = true →
    (writtenFrames m.val s).find? (fun g => decide (s.rd (mcB m.val) R.MC_SCRUB_STAT_POS ≤ g)) = some f →
    let last := look 0 s.scrubAt m.val
    let t := if last = 0 then s.fresh else s.fresh.advanceNow (last - 1 + scrubTicks m.val s)
    let t := { t with scrubAt := put 0 t.scrubAt m.val (t.now + 1) }
    let t := (pageRead m.val f res (t.wr (mcB m.val) R.MC_SCRUB_STAT_POS (f + 1))).1
    exec (.scrubRead m res) s = .next (closed s.pending t)) ∧
  (∀ (m : Chan) (fail : Bool) (s : State), s.rd (mcB m.val) R.MC_REPAIR_STAT_BUSY = 1 → mcArmed m.val 2 s = false →
    let b := mcB m.val
    let t := s.fresh.wr b R.MC_STATUS_SPARE_FREE (s.rd b R.MC_STATUS_SPARE_FREE + look 0 s.repairTmp m.val)
    let t := { t with repairTmp := eraseKey t.repairTmp m.val }
    exec (.mcRepairDone m fail) s = .next (closed s.pending ((((t.wr b R.MC_REPAIR_STAT_BUSY 0).wr b R.MC_STATUS_REPAIR_BUSY 0).wr b R.MC_REPAIR_STAT_RESULT (4 * b2n fail)).raise (916 + 16 * m.val)))) ∧
  (∀ (m : Chan) (f : Nat) (write : Bool) (s : State), s.mcUp m.val = true → f < framesPerStack s →
    let t := s.fresh.raise (918 + 16 * m.val)
    exec (.hbmParityError m f write false) s = .next (closed s.pending t) ∧
    (write = false → (s.page m.val f).isSome = true → exec (.hbmParityError m f write true) s = .next (closed s.pending (readUncorr m.val f t))) ∧
    (write = true → (∀ p : Fin 256, inPlot p.val (frameKey' m.val f) s = false) → exec (.hbmParityError m f write true) s = .next (closed s.pending { t with pages := eraseKey t.pages (frameKey' m.val f) })))

/-- Completed pages, fires of triggers, replay contexts and read-modify-writes (spec/11_meadow_store.md). A complete page
of records leaves a running plot's buffer and triggers count it (R307, R315). The oldest fire of a trigger reaches it:
an armed one stops its plot after POST pages (R315, R316). A prefetched replay waits, or starts late with its slip
(R318), starts at START, ends when stopped, sends the next record (R319), and counts an underrun (R321). A span
written by the host merges into its page unless that cannot be corrected (R326). Under its premises on the state and
operands alone, exec answers next for: pageComplete, triggerFire, replayPrefetchDone, replayStart, replayFrameSend,
replayUnderrun, rmwWrite. -/
def Obligations.PlotsAndReplay : Prop :=
  (∀ (p : Fin 256) (s : State), plotState p.val s = 2 → 4096 ≤ (s.plotOf p.val).buf.length →
    exec (.pageComplete p .records) s = .next (closed s.pending (trigCount p.val (recordPut p.val 4096 s.fresh)))) ∧
  (∀ (p : Fin 256) (l : Lane) (s : State), plotState p.val s = 2 → (s.plotOf p.val).gaps.contains l.val = false →
    let x := s.plotOf p.val
    exec (.pageComplete p (.lost l)) s = .next (closed s.pending (((s.fresh.setPlot p.val { x with gaps := x.gaps ++ [l.val] }).cnt (plB p.val) R.MDW_PLOT_LOST_LOST 1).raise 0x42C))) ∧
  (∀ (p q : Nat) (pg : Page) (s : State), Inv s → p < 256 → q < 2 ^ 26 → pg ≠ Page.unwritten → s.rd (plB p) R.MDW_PLOT_STAT_WPTR = q → q + 1 < plotSize p s →
    let u := plotPut p pg s
    let mf := plotFrame p q s
    u.page mf.1 mf.2 = some pg ∧ u.rd (plB p) R.MDW_PLOT_STAT_WPTR = (q + 1) % 2 ^ 26 ∧ plotState p u = plotState p s) ∧
  (∀ (t : Lane) (f : Fire) (s : State), s.fires.find? (fun g => g.trig == t.val) = some f →
    let b := trB t.val
    let p := s.rd b R.MDW_TRIG_CFG0_PLOT
    let u := { s.fresh with fires := s.fires.erase f }
    (s.rd b R.MDW_TRIG_STAT_STATE = 0 ∨ s.rd b R.MDW_TRIG_STAT_STATE = 4 → exec (.triggerFire t) s = .next (closed s.pending u)) ∧
    (s.rd b R.MDW_TRIG_STAT_STATE = 2 → s.rd b R.MDW_TRIG_CFG0_ACTION = 0 → exec (.triggerFire t) s = .next (closed s.pending (trigStop t.val p false (trigRecord f u)))) ∧
    (s.rd b R.MDW_TRIG_STAT_STATE = 2 → s.rd b R.MDW_TRIG_CFG0_ACTION = 1 → exec (.triggerFire t) s = .next (closed s.pending (trigRecord f u)))) ∧
  (∀ (t p : Nat) (s : State), Inv s → t < 64 → trigFired p s = [] →
    let u := trigStop t p false s
    u.rd (trB t) R.MDW_TRIG_STAT_STATE = 3 ∧ look 0 u.trigPost t = s.rd (trB t) R.MDW_TRIG_CFG1_POST + 1 ∧ u.rd (trB t) R.MDW_TRIG_STAT_SHORT = s.rd (trB t) R.MDW_TRIG_STAT_SHORT) ∧
  (∀ (r : Lane) (s : State), s.rd (rpB r.val) R.MDW_RP_STAT_STATE = 1 →
    let start := s.rd64 (rpB r.val) R.MDW_RP_START_LO_START R.MDW_RP_START_HI_START
    exec (.replayPrefetchDone r) s = .next (closed s.pending (if start < s.tlv.toNat then
      rpRun r.val (((s.fresh.wr (rpB r.val) R.MDW_RP_STAT_LATE 1).wr (rpB r.val) R.MDW_RP_SLIP_SLIP (min (s.tlv.toNat - start) (2 ^ 32 - 1))).raise 0x42D)
      else s.fresh.wr (rpB r.val) R.MDW_RP_STAT_STATE 2))) ∧
  (∀ (r : Lane) (s : State), s.rd (rpB r.val) R.MDW_RP_STAT_STATE = 2 → s.counting = true →
    exec (.replayStart r) s = .next (closed s.pending (rpRun r.val (s.fresh.advanceTlv (s.rd64 (rpB r.val) R.MDW_RP_START_LO_START R.MDW_RP_START_HI_START) s.now)))) ∧
  (∀ (r : Nat) (s : State), Inv s → r < 64 →
    let u := rpRun r s
    u.rd (rpB r) R.MDW_RP_STAT_STATE = 3 ∧ u.rd (rpB r) R.MDW_RP_STAT_SEG = 0 ∧ u.rd (rpB r) R.MDW_RP_STAT_PAGE = s.rd (segB r 0) R.MDW_RP_SEG_B_FIRST ∧ (u.rpOf r).idx = 0 ∧ u.raised = s.raised) ∧
  (∀ (r : Lane) (reads : List PageRes) (s : State), s.rd (rpB r.val) R.MDW_RP_STAT_STATE = 3 → (s.rpOf r.val).stop = true →
    exec (.replayFrameSend r reads) s = .next (closed s.pending ((s.fresh.advanceTlv (s.rpOf r.val).lastEnd s.now).wr (rpB r.val) R.MDW_RP_STAT_STATE 4))) ∧
  (∀ (r : Lane) (f : RepRec) (reads : List PageRes) (s : State), s.rd (rpB r.val) R.MDW_RP_STAT_STATE = 3 → (s.rpOf r.val).stop = false → (s.rpOf r.val).inj = false → s.rd (rpB r.val) R.MDW_RP_CFG_KIND = 0 →
    (segRecords r.val (rpSeg r.val s) s)[(s.rpOf r.val).idx]? = some f → rpReady r.val (rpSeg r.val s) f.page s = true → f.cut = false → f.err = false →
    let qs := (List.range (f.last + 1 - f.page)).map (fun k => f.page + k)
    let p := s.rd (segB r.val (rpSeg r.val s)) R.MDW_RP_SEG_A_PLOT
    let t := rpReads r.val p (qs.filter (fun q => decide ((s.rpOf r.val).seen ≤ q))) reads (s.fresh.wr (rpB r.val) R.MDW_RP_STAT_PAGE f.page)
    let n := (segRecords r.val (rpSeg r.val s) s).length
    let bad := qs.any (fun q => (t.rpOf r.val).bad.contains q)
    exec (.replayFrameSend r reads) s = .next (closed s.pending (if bad then rpPast r.val n (t.cnt (rpB r.val) R.MDW_RP_CNT_SKIPPED 1) else rpFrame r.val n f t))) ∧
  (∀ (r : Lane) (s : State), s.rd (rpB r.val) R.MDW_RP_CFG_KIND = 0 →
    exec (.replayUnderrun r) s = .next (closed s.pending ((s.fresh.cnt (rpB r.val) R.MDW_RP_CNT_UNDER 1).raise 0x42D))) ∧
  (∀ (p : Fin 256) (ofs : Nat) (data : List Byte) (res : PageRes) (s : State), hostWritable p.val s = true → ofs / 4096 < plotSize p.val s → s.mcUp (plotFrame p.val (ofs / 4096) s).1 = true → 0 < data.length → data.length < 4096 → ofs % 4096 + data.length ≤ 4096 →
    let q := ofs / 4096
    let mf := plotFrame p.val q s
    let r := pageRead mf.1 mf.2 res s.fresh
    let old := (s.page mf.1 mf.2).getD .unwritten
    let i := ofs % 4096
    (r.2 = 2 → exec (.rmwWrite p ofs data res) s = .next (closed s.pending (r.1.cnt (mcB mf.1) R.MC_CNT_UNC_RMW_FAIL 1))) ∧
    (r.2 = 3 → exec (.rmwWrite p ofs data res) s = .next (closed s.pending (hostPage p.val q 0xFFFF (i + data.length) (old.bytes.take i ++ data ++ old.bytes.drop (i + data.length)) r.1))) ∧
    (r.2 < 2 → exec (.rmwWrite p ofs data res) s = .next (closed s.pending (hostPage p.val q old.first (max old.fill (i + data.length)) (old.bytes.take i ++ data ++ old.bytes.drop (i + data.length)) r.1))))

/-- Haze: hold, prime, pass, slips, bursts of errors, coefficients, frame release and injections
(spec/12_haze_impairment.md). A path with a hold cause is in HOLD with that cause; when it ends the buffer primes, and
at DEPTH the path passes with its latency shown (R340, R342). A slip moves the fill by SLIP_WIN, counts and alarms
(R341). A burst counts the symbols hit (R343). A window's power is latched (R347). A tap is written to a bank that is
not in use, else refused (R345). Delayed and held frames go on at their instant (R351, R353). A rule's counters clear
(R356). Injections (R355). Under its premises on the state and operands alone, exec answers next for: hazeHold,
hazePrime, hazePrimeFilled, hazeSlip, hazeBurstStart, noiseWindowEnd, hazeDelayClamped, hazeCoefWrite, hazeInjHold,
hazeRelease, hazeReorderTimeout, hzRuleClear, hzInjLost. -/
def Obligations.Haze : Prop :=
  (∀ (n : Lane) (s : State), let b := laneB n.val
    s.rd b R.HAZE_STATUS_STATE ≠ 0 → holdCause n.val s ≠ 0 → s.rd b R.TX_STATUS_STATE = 2 → s.rd b R.TX_STATUS_SRC_ACT = 4 →
    exec (.hazeHold n) s = .next (closed s.pending (hazeGo n.val 1 [] (s.fresh.wr b R.HAZE_STATUS_HOLD_CAUSE (holdCause n.val s))))) ∧
  (∀ (n : Lane) (words : List (BitVec 2)) (sent : Nat) (s : State), let b := laneB n.val
    let x := s.hazeOf n.val
    let buf := (x.buf ++ words).drop sent
    (s.rd b R.HAZE_STATUS_STATE = 3 → buf = [] ∨ 4096 ≤ buf.length → exec (.hazePrime n words sent) s = .next (closed s.pending (hazeGo n.val 2 [] s.fresh))) ∧
    (s.rd b R.HAZE_STATUS_STATE = 3 → buf ≠ [] → buf.length < 4096 → exec (.hazePrime n words sent) s = .next (closed s.pending (hazeBuf n.val buf (s.fresh.setHaze n.val { x with lastOut := ((x.buf ++ words).take sent).getLastD x.lastOut })))) ∧
    (s.rd b R.HAZE_STATUS_STATE = 1 → holdCause n.val s = 0 → s.rd b R.TX_STATUS_STATE = 2 → s.rd b R.TX_STATUS_SRC_ACT = 4 →
      exec (.hazePrime n words sent) s = .next (closed s.pending (hazeGo n.val 2 [] s.fresh))) ∧
    (s.rd b R.HAZE_STATUS_STATE = 1 → holdCause n.val s = 4 → s.rd b R.TX_STATUS_STATE = 2 → s.rd b R.TX_STATUS_SRC_ACT = 4 →
      exec (.hazePrime n words sent) s = .next (closed s.pending (hazeGo n.val 2 [] (s.fresh.advanceNow x.injUntil))))) ∧
  (∀ (n : Nat) (st : Nat) (buf : List (BitVec 2)) (s : State), Inv s → n < 64 → st < 4 → s.domOn n = true →
    let u := hazeGo n st buf s
    let b := laneB n
    u.rd b R.HAZE_STATUS_STATE = st ∧ u.rd b R.HAZE_STATUS_FILL = min buf.length 4095 ∧ (u.hazeOf n).buf = buf ∧
    (s.rd b R.HAZE_STATUS_STATE ≠ st → Sends (12 * n + 10) u ∧ u.rd b R.HAZE_EVT_STATE = 1) ∧ (s.rd b R.HAZE_STATUS_STATE = st → u.raised = s.raised)) ∧
  (∀ (n : Lane) (words : List (BitVec 2)) (s : State), let b := laneB n.val
    s.rd b R.HAZE_STATUS_STATE = 2 →
    let d := s.rd b R.HAZE_BUF_DEPTH
    let t := hazeGo n.val 3 (words.take d) s.fresh
    exec (.hazePrimeFilled n words) s = .next (closed s.pending (if d ≤ words.length then t.wr b R.HAZE_LAT_LAT (min (hazeLat n.val d t) 0xFFFF) else s.fresh))) ∧
  (∀ (n : Lane) (words : List (BitVec 2)) (sent : Nat) (s : State), let b := laneB n.val
    s.rd b R.HAZE_STATUS_STATE = 3 →
    let d := s.rd b R.HAZE_BUF_DEPTH
    let w := s.rd b R.HAZE_BUF_SLIP_WIN
    let x := s.hazeOf n.val
    let last := if sent = 0 then x.lastOut else (x.buf ++ words).getD (sent - 1) x.lastOut
    let buf := (x.buf ++ words).drop sent
    let rate := max 1 (symRate (s.rd b R.TX_CTRL_MODE))
    let out := if d + w < buf.length then buf.drop 1 else last :: buf
    let t := (s.fresh.setHaze n.val { x with lastOut := last }).advanceNow x.slipAt
    let u := hazeBuf n.val out (t.setHaze n.val { t.hazeOf n.val with slipAt := t.now + (80000 + rate - 1) / rate })
    (d - w ≤ buf.length → buf.length ≤ d + w → exec (.hazeSlip n words sent) s = .next (closed s.pending (hazeBuf n.val buf (s.fresh.setHaze n.val { x with lastOut := last })))) ∧
    (d + w < buf.length ∨ buf.length + w < d → exec (.hazeSlip n words sent) s = .next (closed s.pending (txAlarm n.val 5 ((u.wr b R.HAZE_LAT_LAT (min (hazeLat n.val out.length u) 0xFFFF)).cnt b R.HAZE_CNT_SLIP_SLIPS 1))))) ∧
  (∀ (n : Lane) (words : List (BitVec 2)) (s : State), hazeFlows n.val s = true → s.rd (laneB n.val) R.HAZE_ERR_ERR_MODE = 3 →
    let b := laneB n.val
    let len := max 1 (s.rd b R.HAZE_ERR_BLEN)
    let x := s.hazeOf n.val
    let draw (k : Nat) : Nat := (Config.prng (BitVec.ofNat 32 (s.rd b R.HAZE_SEED_SEED)) (n.val * 4 * 2 ^ 64 + (x.errIdx + k))).toNat
    let hits := ((List.range len).filter (fun k => draw k % 16 ≤ s.rd b R.HAZE_ERR_DENS)).length
    let nrz := decide (s.rxMode n.val = 4 ∨ s.rxMode n.val = 5)
    let out := (words.take len).zipIdx.map (fun (p : BitVec 2 × Nat) => if draw p.2 % 16 ≤ s.rd b R.HAZE_ERR_DENS then
      BitVec.ofNat 2 (hazeErrored (s.rd b R.HAZE_ERR_ERR_KIND) nrz p.1.toNat (draw p.2 / 16)) else p.1)
    exec (.hazeBurstStart n words) s = .next (closed s.pending ((s.fresh.setHaze n.val { x with errIdx := x.errIdx + len, errOut := out }).cnt b R.HAZE_CNT_ERR_ERR hits))) ∧
  (∀ (n : Lane) (words : List (BitVec 2)) (s : State), s.rd (laneB n.val) R.HAZE_ERR_ERR_MODE ≤ 1 ∨ hazeFlows n.val s = false →
    exec (.hazeBurstStart n words) s = .next (closed s.pending s.fresh)) ∧
  (∀ (n : Lane) (words : List (BitVec 2)) (s : State),
    let r := txSendW n.val words s.fresh
    exec (.noiseWindowEnd n words) s = .next (closed s.pending (if r.2 = [] then r.1
      else r.1.wr (laneB n.val) R.HAZE_PWR_PWR (min ((r.2.map (fun w => w.natAbs ^ 2)).sum / (r.2.length * 2 ^ 92)) 0xFFFF)))) ∧
  (∀ (n : Lane) (s : State), s.rd (laneB n.val) R.HAZE_CTRL_JIT_EN = 1 → s.laneUp n.val = true →
    exec (.hazeDelayClamped n) s = .next (closed s.pending (((s.fresh.cnt (laneB n.val) R.HAZE_CNT_JCLAMP 1).wr (laneB n.val) R.HAZE_EVT_JCLAMP 1).raise (12 * n.val + 10)))) ∧
  (∀ (m : Master) (n : Lane) (w : Word) (s : State),
    let a := 0x01006028 + 0x10000 * n.val
    Served m true a w s →
    let t := s.fresh
    let b := laneB n.val
    let bank := t.rd b R.HAZE_COEF_SEL_BANK
    exec (.hazeCoefWrite m n w) s = .next (closed s.pending (answered m a true 0 .done (
      if bank = t.rd b R.HAZE_CTRL_ACT_BANK ∨ (t.rd b R.HAZE_STATUS_XF_BUSY = 1 ∧ bank = (t.hazeOf n.val).outBank) then
        ((t.cnt b R.HAZE_CNT_REFUSED 1).wr b R.HAZE_EVT_REFUSED 1).raise (12 * n.val + 10)
      else hazeAutoInc n.val ((coefNote (hazeTap n.val bank (t.rd b R.HAZE_COEF_SEL_INDEX)) t).setReg
        (hazeTap n.val bank (t.rd b R.HAZE_COEF_SEL_INDEX)) (w &&& 0x3FF)))))) ∧
  (∀ (m : Master) (n : Lane) (w : Word) (s : State), (Served m true (0x01006040 + 0x10000 * n.val) (fset w 0 0 1) s →
      exec (.hazeInjHold m n w) s = .next (closed s.pending (wrote m (0x01006040 + 0x10000 * n.val) (fset w 0 0 1) (fun t =>
    hazeEval n.val (t.setHaze n.val { t.hazeOf n.val with injUntil := t.now + t.cclkUp 64 })) s)))) ∧
  (∀ (e : Eng) (d : HzFrame × Nat) (s : State), dlyFirst e.val s = some d → s.feUp e.val = true → s.counting = true →
    let t := s.fresh.advanceTlv d.1.t s.now
    exec (.hazeRelease e) s = .next (closed s.pending (hzReleased d.1.eng d.1.rule (hzQueue d.1 { t with hzDly := t.hzDly.erase d })))) ∧
  (∀ (f : HzFrame) (s : State), f.path < 16 → f.eng < 4 → s.domOn (78 + f.eng) = true →
    let used := hzBytes (s.hzQ.filter (fun q => q.eng == f.eng && q.path == f.path))
    let u := hzQueue f s
    (used + f.bytes.length * f.copies ≤ 262144 → u.hzQ = s.hzQ ++ [f] ∧ u.regs = s.regs) ∧
    (262144 < used + f.bytes.length * f.copies → u.hzQ = s.hzQ ∧ Sends (824 + 24 * f.eng) u)) ∧
  (∀ (e : Eng) (h : HzHeld) (s : State), s.hzHeld.find? (fun h => h.f.eng == e.val) = some h → s.feUp e.val = true → s.counting = true →
    let t := s.fresh.advanceTlv h.until_ s.now
    let t := { t with hzHeld := t.hzHeld.erase h }
    exec (.hazeReorderTimeout e) s = .next (closed s.pending (if h.delayed then hzDelay h.f t else hzQueue { h.f with t := t.tlv.toNat } t))) ∧
  (∀ (m : Master) (e : Eng) (w : Word) (s : State),
    (Served m true (0x00200C64 + 0x40000 * e.val) (fset w 0 0 1) s →
      exec (.hzRuleClear m e w) s = .next (closed s.pending (wrote m (0x00200C64 + 0x40000 * e.val) (fset w 0 0 1) (fun t =>
      let f := t.rd (feB e.val) R.FE_HZ_SEL_INDEX
      (((t.wr (hzB e.val f) R.FE_HZ_C_COUNT 0).wr (hzB e.val f + 4) R.FE_HZ_C_COUNT 0).wr (hzB e.val f + 8) R.FE_HZ_C_COUNT 0).wr (hzB e.val f + 12) R.FE_HZ_C_COUNT 0) s))) ∧
    (Served m true (0x00200C6C + 0x40000 * e.val) (fset w 0 0 1) s →
      exec (.hzInjLost m e w) s = .next (closed s.pending (wrote m (0x00200C6C + 0x40000 * e.val) (fset w 0 0 1) (fun t => { t with hzInj := put 0 t.hzInj e.val 1 }) s))))

/-- Arithmetic, logic, branch and jump instructions of a core that issues retire with the results of R368
(spec/13_fjot_sequencers.md). For a core that issues: rd takes the result that the table of R368 gives, g0 keeps 0,
every other general register, the mode and the CSRs below 0x040 are as before, the PC is the next instruction, no
other core changes, memory is as before, and but for the PC that SQ shows no register word changes and nothing is
raised (an armed lockstep injection apart). A shift by 32 or more writes a free value (the spec states none). A taken
branch goes to its own address plus four times its signed offset, one that is not taken to the next instruction, each
condition as the table of R368 says; JAL links and jumps by words, JALR to the sum with bits 1:0 clear. All other
state of the core and of the part is as before, but for counters and samples. Under its premises on the state and
operands alone, exec answers next for: addR, subR, andR, orR, xorR, slt, sltu, mulR, mulh, mulhu, divR, divu, rem,
remu, minI, maxI, satadd, clz, sll, srl, sra, addi, andi, ori, xori, slti, slli, srli, srai, lui, beq, bne, blt, bge,
bltu, bgeu, jal, jalr. -/
def Obligations.CoreInstructions : Prop :=
  (∀ (k : CoreId) (rd ra rb : Fin 32) (s : State), Inv s → Issues k.val s →
    let a := (s.coreOf k.val).gr ra.val
    let b := (s.coreOf k.val).gr rb.val
    let n := (s.coreOf k.val).pc + 4
    (∃ u, exec (.addR k rd ra rb) s = .next (closed s.pending u) ∧ RetDone k.val rd.val (a + b) n s u) ∧ (∃ u, exec (.subR k rd ra rb) s = .next (closed s.pending u) ∧ RetDone k.val rd.val (a - b) n s u) ∧ (∃ u, exec (.andR k rd ra rb) s = .next (closed s.pending u) ∧ RetDone k.val rd.val (a &&& b) n s u) ∧ (∃ u, exec (.orR k rd ra rb) s = .next (closed s.pending u) ∧ RetDone k.val rd.val (a ||| b) n s u) ∧
    (∃ u, exec (.xorR k rd ra rb) s = .next (closed s.pending u) ∧ RetDone k.val rd.val (a ^^^ b) n s u) ∧ (∃ u, exec (.slt k rd ra rb) s = .next (closed s.pending u) ∧ RetDone k.val rd.val (if a.toInt < b.toInt then 1 else 0) n s u) ∧
    (∃ u, exec (.sltu k rd ra rb) s = .next (closed s.pending u) ∧ RetDone k.val rd.val (if a.toNat < b.toNat then 1 else 0) n s u) ∧ (∃ u, exec (.mulR k rd ra rb) s = .next (closed s.pending u) ∧ RetDone k.val rd.val (a * b) n s u) ∧
    (∃ u, exec (.mulh k rd ra rb) s = .next (closed s.pending u) ∧ RetDone k.val rd.val (BitVec.ofInt 32 (a.toInt * b.toInt / 2 ^ 32)) n s u) ∧ (∃ u, exec (.mulhu k rd ra rb) s = .next (closed s.pending u) ∧ RetDone k.val rd.val (BitVec.ofNat 32 (a.toNat * b.toNat / 2 ^ 32)) n s u) ∧
    (∃ u, exec (.divR k rd ra rb) s = .next (closed s.pending u) ∧ RetDone k.val rd.val (if b = 0 then 0xFFFFFFFF else BitVec.ofInt 32 (a.toInt.tdiv b.toInt)) n s u) ∧
    (∃ u, exec (.divu k rd ra rb) s = .next (closed s.pending u) ∧ RetDone k.val rd.val (if b = 0 then 0xFFFFFFFF else BitVec.ofNat 32 (a.toNat / b.toNat)) n s u) ∧
    (∃ u, exec (.rem k rd ra rb) s = .next (closed s.pending u) ∧ RetDone k.val rd.val (if b = 0 then a else BitVec.ofInt 32 (a.toInt.tmod b.toInt)) n s u) ∧
    (∃ u, exec (.remu k rd ra rb) s = .next (closed s.pending u) ∧ RetDone k.val rd.val (if b = 0 then a else BitVec.ofNat 32 (a.toNat % b.toNat)) n s u) ∧
    (∃ u, exec (.minI k rd ra rb) s = .next (closed s.pending u) ∧ RetDone k.val rd.val (BitVec.ofInt 32 (min a.toInt b.toInt)) n s u) ∧ (∃ u, exec (.maxI k rd ra rb) s = .next (closed s.pending u) ∧ RetDone k.val rd.val (BitVec.ofInt 32 (max a.toInt b.toInt)) n s u) ∧
    (∃ u, exec (.satadd k rd ra rb) s = .next (closed s.pending u) ∧ RetDone k.val rd.val (BitVec.ofInt 32 (max (-2147483648) (min 2147483647 (a.toInt + b.toInt)))) n s u) ∧
    (∀ i : Fin 33, (∀ j : Fin 32, 32 - i.val ≤ j.val → a.getLsbD j.val = false) → (i.val = 32 ∨ a.getLsbD (31 - i.val) = true) → (∃ u, exec (.clz k rd ra rb) s = .next (closed s.pending u) ∧ RetDone k.val rd.val (BitVec.ofNat 32 i.val) n s u)) ∧
    (b.toNat < 32 → (∃ u, exec (.sll k rd ra rb) s = .next (closed s.pending u) ∧ RetDone k.val rd.val (a <<< b.toNat) n s u) ∧ (∃ u, exec (.srl k rd ra rb) s = .next (closed s.pending u) ∧ RetDone k.val rd.val (a >>> b.toNat) n s u) ∧ (∃ u, exec (.sra k rd ra rb) s = .next (closed s.pending u) ∧ RetDone k.val rd.val (BitVec.ofInt 32 (a.toInt / 2 ^ b.toNat)) n s u)) ∧
    (32 ≤ b.toNat → let v := BitVec.ofNat 32 s.draw
      (∃ u, exec (.sll k rd ra rb) s = .next (closed s.pending u) ∧
      (Retired k.val rd.val v n s u)) ∧ (∃ u, exec (.srl k rd ra rb) s = .next (closed s.pending u) ∧
      (Retired k.val rd.val v n s u)) ∧ (∃ u, exec (.sra k rd ra rb) s = .next (closed s.pending u) ∧
      (Retired k.val rd.val v n s u)))) ∧
  (∀ (k : CoreId) (rd ra sh : Fin 32) (imm : BitVec 16) (s : State), Inv s → Issues k.val s →
    let a := (s.coreOf k.val).gr ra.val
    let n := (s.coreOf k.val).pc + 4
    (∃ u, exec (.addi k rd ra imm) s = .next (closed s.pending u) ∧ RetDone k.val rd.val (a + imm.signExtend 32) n s u) ∧ (∃ u, exec (.andi k rd ra imm) s = .next (closed s.pending u) ∧ RetDone k.val rd.val (a &&& imm.zeroExtend 32) n s u) ∧ (∃ u, exec (.ori k rd ra imm) s = .next (closed s.pending u) ∧ RetDone k.val rd.val (a ||| imm.zeroExtend 32) n s u) ∧
    (∃ u, exec (.xori k rd ra imm) s = .next (closed s.pending u) ∧ RetDone k.val rd.val (a ^^^ imm.zeroExtend 32) n s u) ∧ (∃ u, exec (.slti k rd ra imm) s = .next (closed s.pending u) ∧ RetDone k.val rd.val (if a.toInt < imm.toInt then 1 else 0) n s u) ∧
    (∃ u, exec (.slli k rd ra sh) s = .next (closed s.pending u) ∧ RetDone k.val rd.val (a <<< sh.val) n s u) ∧ (∃ u, exec (.srli k rd ra sh) s = .next (closed s.pending u) ∧ RetDone k.val rd.val (a >>> sh.val) n s u) ∧ (∃ u, exec (.srai k rd ra sh) s = .next (closed s.pending u) ∧ RetDone k.val rd.val (BitVec.ofInt 32 (a.toInt / 2 ^ sh.val)) n s u) ∧
    (∃ u, exec (.lui k rd imm) s = .next (closed s.pending u) ∧ RetDone k.val rd.val (BitVec.ofNat 32 (imm.toNat * 65536)) n s u)) ∧
  (∀ (k : CoreId) (rd ra rb : Fin 32) (imm : BitVec 16) (far : BitVec 21) (s : State), Inv s → Issues k.val s →
    let c := s.coreOf k.val
    let a := c.gr ra.val
    let b := c.gr rb.val
    let next (taken : Bool) : Word := if taken = true then c.pc + imm.signExtend 32 * 4 else c.pc + 4
    (∃ u, exec (.beq k ra rb imm) s = .next (closed s.pending u) ∧ RetDone k.val 0 0 (next (a == b)) s u) ∧ (∃ u, exec (.bne k ra rb imm) s = .next (closed s.pending u) ∧ RetDone k.val 0 0 (next (a != b)) s u) ∧ (∃ u, exec (.blt k ra rb imm) s = .next (closed s.pending u) ∧ RetDone k.val 0 0 (next (decide (a.toInt < b.toInt))) s u) ∧
    (∃ u, exec (.bge k ra rb imm) s = .next (closed s.pending u) ∧ RetDone k.val 0 0 (next (decide (b.toInt ≤ a.toInt))) s u) ∧ (∃ u, exec (.bltu k ra rb imm) s = .next (closed s.pending u) ∧ RetDone k.val 0 0 (next (decide (a.toNat < b.toNat))) s u) ∧ (∃ u, exec (.bgeu k ra rb imm) s = .next (closed s.pending u) ∧ RetDone k.val 0 0 (next (decide (b.toNat ≤ a.toNat))) s u) ∧
    (∃ u, exec (.jal k rd far) s = .next (closed s.pending u) ∧ RetDone k.val rd.val (c.pc + 4) (c.pc + far.signExtend 32 * 4) s u) ∧
    (∃ u, exec (.jalr k rd ra imm) s = .next (closed s.pending u) ∧ RetDone k.val rd.val (c.pc + 4) ((a + imm.signExtend 32) &&& 0xFFFFFFFC) s u))

/-- Loads, stores and AMOs of a core on its memories (spec/13_fjot_sequencers.md). For an aligned address in the core's
data memory or the shared memory, or in its instruction memory in P mode, with no armed memory injection that it
meets: a load delivers the little-endian bytes, extended; a store changes exactly its bytes, the pair's also in S1's
memory; an AMO on shared memory delivers the old word and stores the new one. Every other byte keeps its value. A
store at which the pair compares as different changes no byte and stops the pair in LOCKSTEP with event 0x471 (R366).
Under its premises on the state and operands alone, exec answers next for: lw, lh, lhu, lb, lbu, sw, sh, sb, amoSwap,
amoAdd, amoAnd, amoOr, amoCas. -/
def Obligations.CoreMemory : Prop :=
  (∀ (k : CoreId) (rd ra : Fin 32) (imm : BitVec 16) (s : State), Inv s → Issues k.val s →
    let c := s.coreOf k.val
    let a := (c.gr ra.val + imm.signExtend 32).toNat
    let h := hostOf k.val a
    let rb (n : Nat) : Byte := memAt s (h + n)
    let n := c.pc + 4
    (a < 0x20000 ∨ 0x400000 ≤ a ∧ a < 0x800000) → (c.priv = true ∨ 0x10000 ≤ a) → s.injMem = none →
    (a % 4 = 0 → (∃ u, exec (.lw k rd ra imm) s = .next (closed s.pending u) ∧ RetDone k.val rd.val (rb 3 ++ rb 2 ++ rb 1 ++ rb 0) n s u)) ∧ (a % 2 = 0 → (∃ u, exec (.lh k rd ra imm) s = .next (closed s.pending u) ∧ RetDone k.val rd.val ((rb 1 ++ rb 0).signExtend 32) n s u)) ∧
    (a % 2 = 0 → (∃ u, exec (.lhu k rd ra imm) s = .next (closed s.pending u) ∧ RetDone k.val rd.val ((rb 1 ++ rb 0).zeroExtend 32) n s u)) ∧ (∃ u, exec (.lb k rd ra imm) s = .next (closed s.pending u) ∧ RetDone k.val rd.val ((rb 0).signExtend 32) n s u) ∧ (∃ u, exec (.lbu k rd ra imm) s = .next (closed s.pending u) ∧ RetDone k.val rd.val ((rb 0).zeroExtend 32) n s u)) ∧
  (∀ (k : CoreId) (rd ra : Fin 32) (imm : BitVec 16) (s : State) (x : Nat), Inv s → Issues k.val s →
    let c := s.coreOf k.val
    let a := (c.gr ra.val + imm.signExtend 32).toNat
    let h := hostOf k.val a
    let w := c.gr rd.val
    (a < 0x20000 ∨ 0x400000 ≤ a ∧ a < 0x800000) → (c.priv = true ∨ 0x10000 ≤ a) → unreleased k.val s = false →
    (a % 4 = 0 → (∃ u, exec (.sw k rd ra imm) s = .next (closed s.pending u) ∧ StoreDone k.val 0 0 4 h w x s u)) ∧ (a % 2 = 0 → (∃ u, exec (.sh k rd ra imm) s = .next (closed s.pending u) ∧ StoreDone k.val 0 0 2 h w x s u)) ∧ (∃ u, exec (.sb k rd ra imm) s = .next (closed s.pending u) ∧ StoreDone k.val 0 0 1 h w x s u)) ∧
  (∀ (k : CoreId) (rd ra rb : Fin 32) (s : State) (x : Nat), Inv s → Issues k.val s →
    let c := s.coreOf k.val
    let a := (c.gr ra.val).toNat
    let h := 0xC00000 + (a - 0x400000)
    let old : Word := memAt s (h + 3) ++ memAt s (h + 2) ++ memAt s (h + 1) ++ memAt s h
    let b := c.gr rb.val
    0x400000 ≤ a → a < 0x800000 → a % 4 = 0 → s.injMem = none → unreleased k.val s = false →
    (∃ u, exec (.amoSwap k rd ra rb) s = .next (closed s.pending u) ∧ StoreDone k.val rd.val old 4 h b x s u) ∧ (∃ u, exec (.amoAdd k rd ra rb) s = .next (closed s.pending u) ∧ StoreDone k.val rd.val old 4 h (old + b) x s u) ∧ (∃ u, exec (.amoAnd k rd ra rb) s = .next (closed s.pending u) ∧ StoreDone k.val rd.val old 4 h (old &&& b) x s u) ∧ (∃ u, exec (.amoOr k rd ra rb) s = .next (closed s.pending u) ∧ StoreDone k.val rd.val old 4 h (old ||| b) x s u) ∧
    (∃ u, exec (.amoCas k rd ra rb) s = .next (closed s.pending u) ∧ StoreDone k.val rd.val old 4 h (if old = c.gr rd.val then b else old) x s u)) ∧
  (∀ (k : CoreId) (rd ra : Fin 32) (imm : BitVec 16) (s : State), Inv s → Issues k.val s → unreleased k.val s = true →
    let a := ((s.coreOf k.val).gr ra.val + imm.signExtend 32).toNat
    a % 4 = 0 → (a < 0x20000 ∨ 0x400000 ≤ a ∧ a < 0x800000) → ((s.coreOf k.val).priv = true ∨ 0x10000 ≤ a) →
    (∃ u, exec (.sw k rd ra imm) s = .next (closed s.pending u) ∧
      (u.mem = s.mem ∧ u.coreState 16 = 5 ∧ u.on sqB R.SQ_LOCK_STAT_PAIR_HALT = true ∧ u.injLockstep = false ∧ Sends 0x471 u)))

/-- Traps, interrupts and returns of a core (spec/13_fjot_sequencers.md). A trap saves PC and mode, records its cause,
clears GIE, sets INTRAP, enters P mode and goes to TRAP_BASE; one inside a trap halts the core in FAULT (R371, R372).
SCALL traps with cause 8 or 7 by mode, BREAK with 9; a misaligned access with 3, an access to no address with 4, an
A-mode access to instruction memory with 2, an unknown CSR with 1 and a forbidden one with 2. TRET and NRET restore PC
and mode. An interrupt takes the lowest enabled line with cause 0x80 plus the line (R373). The pair takes the
non-maskable trap (R374). Under its premises on the state and operands alone, exec answers next for: scall, brk, lw,
sw, sb, crd, cwr, cset, cclr, tret, nret, interruptTaken, nmtTaken. -/
def Obligations.CoreTraps : Prop :=
  (∀ (k : CoreId) (rd ra : Fin 32) (imm : BitVec 16) (csr : BitVec 12) (s : State), Inv s → Issues k.val s → (s.coreOf k.val).csrF csrSTATUS 6 6 = 0 →
    (k.val < 16 ∨ (s.coreOf k.val).csrF csrSTATUS 7 7 = 0) →
    let c := s.coreOf k.val
    let a := (c.gr ra.val + imm.signExtend 32).toNat
    (∃ u, exec (.scall k) s = .next (closed s.pending u) ∧ TrapDone k.val (if c.priv then 8 else 7) s u) ∧ (∃ u, exec (.brk k) s = .next (closed s.pending u) ∧ TrapDone k.val 9 s u) ∧
    (a % 4 ≠ 0 → 0x10000 ≤ a ∨ c.priv = true → (∃ u, exec (.lw k rd ra imm) s = .next (closed s.pending u) ∧ TrapDone k.val 3 s u) ∧ (∃ u, exec (.sw k rd ra imm) s = .next (closed s.pending u) ∧ TrapDone k.val 3 s u)) ∧
    (a % 4 = 0 → 0x20000 ≤ a → a < 0x400000 → (∃ u, exec (.sw k rd ra imm) s = .next (closed s.pending u) ∧ TrapDone k.val 4 s u)) ∧
    (a < 0x10000 → c.priv = false → (∃ u, exec (.lw k rd ra imm) s = .next (closed s.pending u) ∧ TrapDone k.val 2 s u) ∧ (∃ u, exec (.sb k rd ra imm) s = .next (closed s.pending u) ∧ TrapDone k.val 2 s u)) ∧
    (csrKnown csr.toNat = false → (∃ u, exec (.crd k rd ra csr) s = .next (closed s.pending u) ∧ TrapDone k.val 1 s u) ∧ (∃ u, exec (.cwr k rd ra csr) s = .next (closed s.pending u) ∧ TrapDone k.val 1 s u) ∧ (∃ u, exec (.cset k rd ra csr) s = .next (closed s.pending u) ∧ TrapDone k.val 1 s u) ∧ (∃ u, exec (.cclr k rd ra csr) s = .next (closed s.pending u) ∧ TrapDone k.val 1 s u)) ∧
    (csr.toNat < 0x40 → csrKnown csr.toNat = true → c.priv = false → (∃ u, exec (.crd k rd ra csr) s = .next (closed s.pending u) ∧ TrapDone k.val 2 s u) ∧ (∃ u, exec (.cwr k rd ra csr) s = .next (closed s.pending u) ∧ TrapDone k.val 2 s u))) ∧
  (∀ (k : CoreId) (s : State), Inv s → Issues k.val s → (s.coreOf k.val).csrF csrSTATUS 6 6 = 1 →
    (∃ u, exec (.brk k) s = .next (closed s.pending u) ∧
      (u.coreState k.val = 4 ∧ u.rd (coreB (coreIx k.val)) R.SQ_CORE_PC_PC = (s.coreOf k.val).pc.toNat ∧
      u.rd (coreB (coreIx k.val)) R.SQ_CORE_STATUS_LAST_CAUSE = 9 ∧ Sends (if k.val < 16 then 1104 + 2 * k.val else 0x470) u ∧ u.mem = s.mem))) ∧
  (∀ (k : CoreId) (s : State), Inv s → Issues k.val s →
    let c := s.coreOf k.val
    (∃ u, exec (.tret k) s = .next (closed s.pending u) ∧
      (let d := u.coreOf k.val
      d.pc = c.getCsr 0x021 &&& 0xFFFFFFFC ∧ d.priv = (c.csrF 0x010 1 1 == 1) ∧ d.csrF 0x010 0 0 = 1 ∧ d.csrF 0x010 6 6 = 0 ∧
      d.csrF 0x010 7 7 = c.csrF 0x010 7 7 ∧ d.csrF 0x010 1 1 = c.csrF 0x010 1 1 ∧ d.g = c.g ∧ Quiet k.val s u)) ∧
    (∃ u, exec (.nret k) s = .next (closed s.pending u) ∧
      (let d := u.coreOf k.val
      d.pc = c.getCsr 0x031 &&& 0xFFFFFFFC ∧ d.priv = c.nmtMode ∧ d.csrF 0x010 7 7 = 0 ∧ d.csrF 0x010 6 0 = c.csrF 0x010 6 0 ∧ d.g = c.g ∧ Quiet k.val s u))) ∧
  (∀ (k : CoreId) (i : Fin 14) (s : State), Inv s → coreCan 1 k.val s = true → (s.coreOf k.val).csrF csrSTATUS 0 0 = 1 →
    (((s.coreOf k.val).pend &&& (s.coreOf k.val).getCsr csrINTEN).getLsbD i.val = true) → (∀ j : Fin 14, j.val < i.val → ((s.coreOf k.val).pend &&& (s.coreOf k.val).getCsr csrINTEN).getLsbD j.val = false) →
    (∃ u, exec (.interruptTaken k) s = .next (closed s.pending u) ∧
      (Trapped k.val (BitVec.ofNat 32 (0x80 + i.val)) (s.coreOf k.val).pc s u ∧ u.mem = s.mem ∧ u.regs = s.regs ∧ u.raised = s.raised))) ∧
  (∀ (s : State) (r : Nat × Nat × Nat) (q : List (Nat × Nat × Nat)), Inv s → coreCan 1 16 s = true → (s.coreOf 16).csrF csrSTATUS 7 7 = 0 → (s.coreOf 16).nmtHeld = none → s.nmtQ = r :: q →
    let c := s.coreOf 16
    (∃ u, exec .nmtTaken s = .next (closed s.pending u) ∧
      (let d := u.coreOf 16
      d.getCsr 0x031 = c.pc ∧ d.getCsr 0x032 = BitVec.ofNat 32 (r.1 % 2048 + r.2.1 * 4096) ∧ d.getCsr 0x033 = BitVec.ofNat 32 r.2.2 ∧ d.csrF 0x010 7 7 = 1 ∧
      d.csrF 0x010 6 0 = c.csrF 0x010 6 0 ∧ d.nmtMode = c.priv ∧ d.priv = true ∧ d.pc = c.getCsr 0x030 &&& 0xFFFFFFFC ∧ d.g = c.g ∧ u.nmtQ = q ∧ u.mem = s.mem)))

/-- CSR access, IDLE, DRAIN, the window, and the cores' timers and watchdogs (spec/13_fjot_sequencers.md). In P mode a
plain CSR is read into rd, written, set or cleared in the bits that it stores (R370). IDLE leaves RUN for IDLE unless
a line is pending and enabled (R373); DRAIN retires once no posted store waits (R363). A permitted word load from the
window delivers the word; one that is refused delivers 0 and traps with cause 4 (R363). TIMER_MATCH sets line 11; a
watchdog that expires raises its event and restarts (R377); a counter adds, and wraps at 2^48 with OVF (R381). Under
its premises on the state and operands alone, exec answers next for: crd, cwr, cset, cclr, idle, drain, lw, sw,
timerMatch, counterWrap, coreWdogExpire. -/
def Obligations.CoreSystem : Prop :=
  (∀ (k : CoreId) (rd ra : Fin 32) (csr : BitVec 12) (s : State), Inv s → Issues k.val s → (s.coreOf k.val).priv = true → csr.toNat ∈ [0x010, 0x011, 0x020, 0x021, 0x022, 0x023, 0x024] →
    let c := s.coreOf k.val
    let old := c.getCsr csr.toNat
    let a := c.gr ra.val
    (∃ u, exec (.crd k rd ra csr) s = .next (closed s.pending u) ∧ CsrDone k.val rd.val true csr.toNat old s u) ∧ (∃ u, exec (.cwr k rd ra csr) s = .next (closed s.pending u) ∧ CsrDone k.val rd.val false csr.toNat (a &&& csrMask csr.toNat) s u) ∧ (∃ u, exec (.cset k rd ra csr) s = .next (closed s.pending u) ∧ CsrDone k.val rd.val true csr.toNat ((old ||| a) &&& csrMask csr.toNat) s u) ∧
    (∃ u, exec (.cclr k rd ra csr) s = .next (closed s.pending u) ∧ CsrDone k.val rd.val true csr.toNat ((old &&& ~~~ a) &&& csrMask csr.toNat) s u)) ∧
  (∀ (k : CoreId) (s : State), Inv s → Issues k.val s → (k.val < 16 ∨ s.injLockstep = false) →
    (coreLine k.val s = none → (k.val < 16 ∨ (s.nmtQ = [] ∧ (s.coreOf k.val).nmtHeld = none)) → (∀ i : Fin 8, cntOn i.val (s.coreOf k.val) = false) → (s.coreOf k.val).sampleWait = false →
      (∃ u, exec (.idle k) s = .next (closed s.pending u) ∧
      (u.coreState k.val = 2 ∧ (u.coreOf k.val).pc = (s.coreOf k.val).pc + 4 ∧ (u.coreOf k.val).g = (s.coreOf k.val).g ∧ u.mem = s.mem))) ∧
    (coreLine k.val s ≠ none → (∀ i : Fin 8, cntOn i.val (s.coreOf k.val) = false) → (s.coreOf k.val).sampleWait = false →
      (∃ u, exec (.idle k) s = .next (closed s.pending u) ∧
      (u.coreState k.val = 1 ∧ (u.coreOf k.val).pc = (s.coreOf k.val).pc + 4))) ∧
    (storeWaits k.val s = false → (∃ u, exec (.drain k) s = .next (closed s.pending u) ∧
      (Retired k.val 0 0 ((s.coreOf k.val).pc + 4) s u ∧ Quiet k.val s u))) ∧
    (storeWaits k.val s = true → exec (.drain k) s = .next (closed s.pending s.fresh))) ∧
  (∀ (k : CoreId) (rd ra : Fin 32) (imm : BitVec 16) (s : State), Inv s → Issues k.val s →
    let c := s.coreOf k.val
    let a := c.gr ra.val + imm.signExtend 32
    let h := a.toNat - 0x80000000
    0x80000000 ≤ a.toNat → a.toNat < 0x81400000 → a.toNat % 4 = 0 → storeWaits k.val s = false → unreleased k.val s = false →
    let r := access (coreMaster k.val) false h (BitVec.ofNat 32 (0x100 + rd.val)) s.fresh
    (coreMay k.val false h 0 s = true → r.2.2 = .done → r.1.cores = s.cores → (∃ u, exec (.lw k rd ra imm) s = .next (closed s.pending u) ∧
      (Retired k.val rd.val r.2.1 (c.pc + 4) s u ∧ u.mem = r.1.mem))) ∧
    (coreMay k.val true h (c.gr rd.val) s = true → let r := access (coreMaster k.val) true h (c.gr rd.val) s.fresh
      (r.2.2 = .done ∨ r.2.2 = .waiting) → r.1.cores = s.cores → (∃ u, exec (.sw k rd ra imm) s = .next (closed s.pending u) ∧
      (Retired k.val 0 0 (c.pc + 4) s u ∧ (u.coreOf k.val).post = c.pc ∧ u.mem = r.1.mem))) ∧
    (coreMay k.val false h 0 s = false → c.csrF csrSTATUS 6 6 = 0 → (k.val < 16 ∨ c.csrF csrSTATUS 7 7 = 0) → (∃ u, exec (.lw k rd ra imm) s = .next (closed s.pending u) ∧
      ((u.coreOf k.val).gr rd.val = 0 ∧ (u.coreOf k.val).getCsr 0x021 = c.pc ∧ (u.coreOf k.val).getCsr 0x022 = 4 ∧ (u.coreOf k.val).getCsr 0x023 = a ∧ u.mem = s.mem ∧ u.regs = s.regs)))) ∧
  (∀ (k : CoreId) (s : State), s.coreState k.val ≠ 0 → s.partRuns = true →
    let t := s.fresh.advance (sclkTicks ((s.coreOf k.val).timerCmp - coreCycle k.val s.fresh) s.fresh)
    exec (.timerMatch k) s = .next (closed s.pending (t.setCore k.val ((t.coreOf k.val).setCsrF 0x012 11 11 1)))) ∧
  (∀ (k : CoreId) (i : Fin 8) (n : BitVec 48) (s : State), Inv s → cntOn i.val (s.coreOf k.val) = true → (s.coreOf k.val).isSampler i.val = false →
    (∃ u, exec (.counterWrap k i n) s = .next (closed s.pending u) ∧
      ((u.coreOf k.val).cntV i.val = ((s.coreOf k.val).cntV i.val + n.toNat) % 2 ^ 48 ∧
      (2 ^ 48 ≤ (s.coreOf k.val).cntV i.val + n.toNat → (u.coreOf k.val).csrF (0x040 + i.val) 28 28 = 1) ∧ (u.coreOf k.val).g = (s.coreOf k.val).g ∧ (u.coreOf k.val).pc = (s.coreOf k.val).pc))) ∧
  (∀ (k : CoreId) (s : State), (s.coreOf k.val).csrF csrWDOG 31 31 = 1 → s.coreState k.val = 1 ∨ s.coreState k.val = 2 ∨ s.coreState k.val = 4 → s.partRuns = true → s.domOn 82 = true →
    let t := s.fresh.advanceNow ((s.coreOf k.val).wdogAt + sclkTicks (1024 * (s.coreOf k.val).csrF csrWDOG 23 0) s.fresh)
    let i := coreIx k.val
    wdogStops (t.coreState i) = false →
    let r := (t.setCore i { t.coreOf i with wdogAt := t.now }).raise (if 16 ≤ k.val then 0x472 else 1105 + 2 * k.val)
    exec (.coreWdogExpire k) s = .next (closed s.pending (if k.val < 16 ∧ (t.coreOf i).csrF csrWDOG 30 30 = 1 then coreReset k.val r else r)))

/-- CORE.CTRL, SQ_RST, semaphores and the injections of SQ (spec/13_fjot_sequencers.md). Served writes of CORE[k].CTRL
run, halt, step, reset and ring the doorbell of a core (R373, R378); SQ_RST resets the block. A read of a free
semaphore acquires it for the reading master, of a held one shows its owner (R364); RELEASE by the owner frees it, by
another does nothing; one held for 10 ms is freed (R365). Each injection acts as the detection it stands for (R384).
Under its premises on the state and operands alone, exec answers next for: coreRun, coreHalt, coreStep, coreRst,
doorbell, sqRst, semRead, semRelease, semHoldTimeout, sqInjSem, sqInjWdog, sqInjMem, sqInjLockstep, sqInjNmt. -/
def Obligations.SequencerCommands : Prop :=
  (∀ (m : Master) (k : Fin 17) (w : Word) (s : State), s.coreState k.val ≤ 3 → loadWaits k.val s = false → (w &&& 0x80000006 = 0) →
    let a := 0x00400100 + 0x10 * k.val
    let kk : CoreId := ⟨k.val, by omega⟩
    (Served m true a (fset w 0 0 1) s →
      exec (.coreRun m kk w) s = .next (closed s.pending (wrote m a (fset w 0 0 1) (fun t => if s.coreState k.val = 3 then coreGo k.val 1 t else coreStart k.val t) s))) ∧
    (Served m true a (fset w 0 0 0) s →
      exec (.coreHalt m kk w) s = .next (closed s.pending (wrote m a (fset w 0 0 0) (fun t => if s.coreState k.val = 1 ∨ s.coreState k.val = 2 then
      coreGo k.val 3 (t.wr (coreB k.val) R.SQ_CORE_PC_PC (s.coreOf k.val).pc.toNat) else t) s))) ∧
    (fget w 0 0 = 0 → s.coreState k.val = 3 → (Served m true a (fset w 1 1 1) s →
      exec (.coreStep m kk w) s = .next (closed s.pending (wrote m a (fset w 1 1 1) (fun t => { t with coreSteps := t.coreSteps ++ [k.val] }) s)))) ∧
    (fget w 0 0 = 1 → s.coreState k.val = 1 → (Served m true a (fset w 31 31 1) s →
      exec (.coreRst m kk w) s = .next (closed s.pending (wrote m a (fset w 31 31 1) (coreReset k.val) s)))) ∧
    (fget w 0 0 = 1 → s.coreState k.val = 1 → (Served m true a (fset w 2 2 1) s →
      exec (.doorbell m kk w) s = .next (closed s.pending (wrote m a (fset w 2 2 1) (fun t => t.setCore k.val ((t.coreOf k.val).setCsrF 0x012 10 10 1)) s))))) ∧
  (∀ (m : Master) (w : Word) (s : State), (Served m true 0x00400000 (fset w 31 31 1) s →
      exec (.sqRst m w) s = .next (closed s.pending (wrote m 0x00400000 (fset w 31 31 1) sqReset s)))) ∧
  (∀ (m : Master) (i : Fin 2) (s : State), let a := 0x00400020 + 4 * i.val
    Served m false a 0 s →
    let held := bits a 31 31 s
    let own := bits a 15 8 s
    (∃ u, exec (.semRead m i) s = .next (closed s.pending u) ∧
      (u.mem = s.mem ∧
      (held = 0 → u.resp = some ⟨m, a, false, BitVec.ofNat 32 (0xC0000000 + Master.id m * 256), .done⟩ ∧ bits a 31 31 u = 1 ∧ bits a 15 8 u = Master.id m % 256) ∧
      (held = 1 → u.resp = some ⟨m, a, false, BitVec.ofNat 32 (0x80000000 + own * 256), .done⟩ ∧ u.regs = s.regs)))) ∧
  (∀ (m : Master) (i : Fin 2) (w : Word) (s : State), let a := 0x00400020 + 4 * i.val
    Served m true a (fset w 0 0 1) s →
    exec (.semRelease m i w) s = .next (closed s.pending (answered m a true 0 .done
      (if bits a 31 31 s = 1 ∧ bits a 15 8 s = Master.id m then semFree i.val s.fresh else s.fresh)))) ∧
  (∀ (i : Fin 2) (s : State) (t : Nat), look 0 s.semSince i.val = t + 1 → bits (0x00400020 + 4 * i.val) 31 31 s = 1 →
    exec (.semHoldTimeout i) s = .next (closed s.pending (((semFree i.val (s.fresh.advanceNow (t + 390625000))).cnt 0x00400000 R.SQ_LOCK_STAT_SEM_FORCED 1).raise 0x476))) ∧
  (∀ (m : Master) (w : Word) (s : State),
    let inj (v : Word) (t : State) : State := each [(4, fun t => if bits 0x00400020 31 31 t = 1 then semForce 0 t else t),
      (3, fun t => if fget v 12 8 ≤ 16 then wdogFire (fget v 12 8) t else t), (2, fun t => { t with injMem := some (min (fget v 12 8) 18) }),
      (1, fun t => { t with injLockstep := true }), (0, fun t => nmtPush 0x7FF (t.draw % 4) 0xFF t.drawn)] v t
    (Served m true 0x00400010 (fset w 4 4 1) s →
      exec (.sqInjSem m w) s = .next (closed s.pending (wrote m 0x00400010 (fset w 4 4 1) (inj (fset w 4 4 1)) s))) ∧ (Served m true 0x00400010 (fset w 3 3 1) s →
      exec (.sqInjWdog m w) s = .next (closed s.pending (wrote m 0x00400010 (fset w 3 3 1) (inj (fset w 3 3 1)) s))) ∧
    (Served m true 0x00400010 (fset w 2 2 1) s →
      exec (.sqInjMem m w) s = .next (closed s.pending (wrote m 0x00400010 (fset w 2 2 1) (inj (fset w 2 2 1)) s))) ∧ (Served m true 0x00400010 (fset w 1 1 1) s →
      exec (.sqInjLockstep m w) s = .next (closed s.pending (wrote m 0x00400010 (fset w 1 1 1) (inj (fset w 1 1 1)) s))) ∧
    (Served m true 0x00400010 (fset w 0 0 1) s →
      exec (.sqInjNmt m w) s = .next (closed s.pending (wrote m 0x00400010 (fset w 0 0 1) (inj (fset w 0 0 1)) s))))

/-- The management port's states and the frames that it answers (spec/14_ncp_host_link.md). A served write of PORT starts
or stops the port and PORT_RST restarts it with every session closed for reason 6 (R387, R403). Trained, the port is
UP; a link that fails counts, reports and trains again. An ARP request for its address is answered by a reply of its
MAC, a neighbour solicitation and an echo request by their answers, and a frame of no interest is counted and dropped
(R388). The order of some answered bytes is the family's (log entry 108). Under its premises on the state and operands
alone, exec answers next for: portEnable, portRst, portUp, portLinkLoss, arpRequest, neighbourSolicitation,
echoRequest, foreignFrame. -/
def Obligations.PortAndFrames : Prop :=
  (∀ (m : Master) (w : Word) (s : State),
    (Served m true 0x000A0000 w s →
      exec (.portEnable m w) s = .next (closed s.pending (wrote m 0x000A0000 w (fun t =>
      let u := if t.rd ncpB R.NCP_PORT_ENABLE = 1 then portStart t else portDown t
      if w.getLsbD 31 then portStart (portDown (sessCloseAll 6 u)) else u) s))) ∧
    (Served m true 0x000A0000 (fset w 31 31 1) s →
      exec (.portRst m w) s = .next (closed s.pending (wrote m 0x000A0000 (fset w 31 31 1) (fun t =>
      portStart (portDown (sessCloseAll 6 (if t.rd ncpB R.NCP_PORT_ENABLE = 1 then portStart t else portDown t)))) s)))) ∧
  (∀ (s : State), s.meOn = true → s.rd ncpB R.NCP_PORT_STATUS_STATE = 1 →
    exec .portUp s = .next (closed s.pending ((s.fresh.wr ncpB R.NCP_PORT_STATUS_STATE 2).raise 0x430))) ∧
  (∀ (s : State), s.portUp = true → s.rd ncpB R.NCP_PORT_ENABLE = 1 → s.clk.sysxiLoss = false → Inv s →
    (∃ u, exec .portLinkLoss s = .next (closed s.pending u) ∧
      (u.rd ncpB R.NCP_PORT_STATUS_STATE = 1 ∧ Sends 0x430 u ∧ u.mem = s.mem ∧ u.sess = s.sess ∧
      u.rd ncpB R.NCP_PORT_STATUS_LINK_DOWNS = min (s.rd ncpB R.NCP_PORT_STATUS_LINK_DOWNS + 1) 65535))) ∧
  (∀ (mac sha spa tha : List Byte) (s : State), s.portUp = true → mac.length = 6 → sha.length = 6 → spa.length = 4 → tha.length = 6 →
    s.rd ncpB R.NCP_NET_CFG_VLAN_EN = 0 → s.rd ncpB R.NCP_IP4_ADDR ≠ 0 →
    exec (.arpRequest (List.replicate 6 255 ++ mac ++ [8, 6] ++ [0, 1, 8, 0, 6, 4, 0, 1] ++ sha ++ spa ++ tha ++ ip4Of s)) s = .next (closed s.pending { s.fresh with portTx := [mac ++ macOf s ++ [8, 6] ++ [0, 1, 8, 0, 6, 4, 0, 2] ++ macOf s ++ ip4Of s ++ mac ++ spa] })) ∧
  (∀ (f mac src target : List Byte) (s : State), s.portUp = true → parsePort f s = .ns mac src target → src ≠ List.replicate 16 0 →
    exec (.neighbourSolicitation f) s = .next (closed s.pending { s.fresh with portTx :=
      [replyFrame mac 0x86DD (icmp6 target src ([136, 0, 0, 0, 0x60, 0, 0, 0] ++ target ++ [2, 1] ++ macOf s)) s] })) ∧
  (∀ (f mac src dst data : List Byte) (s : State), s.portUp = true → parsePort f s = .echo6 mac src dst data →
    exec (.echoRequest f) s = .next (closed s.pending { s.fresh with portTx := [replyFrame mac 0x86DD (icmp6 dst src ([129, 0, 0, 0] ++ data)) s] })) ∧
  (∀ (f : List Byte) (s : State), s.portUp = true → parsePort f s = .foreign →
    exec (.foreignFrame f) s = .next (closed s.pending (s.fresh.cnt ncpB R.NCP_CNT_DROP_FOREIGN 1)))

/-- OPEN, CLOSE, RESYNC and the end of sessions by time or register (spec/14_ncp_host_link.md). An OPEN takes the lowest
free slot, with its mode, subscription and peer, reports it and is answered with STATUS 0; with no free slot, or a
second control session, it is answered with STATUS 6. CLOSE is answered and ends the session with reason 1;
SESS_STAT.CLOSE ends it with 5, silence for IDLE_TO with 3, RETRY_MAX with 4 (R399, R401). RESYNC empties the store
and sends DIGEST and its answer (R402). A datagram sent carries the session, SEQ, ACK and credit (R389, R400). Under
its premises on the state and operands alone, exec answers next for: ncpOpen, ncpClose, sessClose, sessionIdleTimeout,
rtoExpire, ncpResync. -/
def Obligations.SessionsOpenAndClose : Prop :=
  (∀ (peer : NcpPeer) (tag flags seq credit : Word) (s : State) (k : Nat), Inv s → ncpReady s = true → s.injBad = false → ctlSess s = none →
    (List.range 4).find? (fun k => !s.sessOpen k) = some k →
    let b := sessB k
    (∃ u, exec (.ncpOpen peer tag flags seq credit) s = .next (closed s.pending u) ∧
      (u.rd b R.NCP_SESS_STAT_STATE = 1 ∧ u.rd b R.NCP_SESS_STAT_MODE = b2n (flags.getLsbD 0) ∧ u.rd b R.NCP_SESS_STAT_EVT_SUB = b2n (flags.getLsbD 2) ∧
      u.rd b R.NCP_SESS_PEER_PORT = peer.port.toNat ∧ u.rd b R.NCP_SESS_STAT_SESSION = ((s.sessOf k).gen + 1) % 2 ^ 14 * 4 + k ∧
      (u.sessOf k).ip = peer.ip ∧ (u.sessOf k).expect = (seq.toNat + 1) % 2 ^ 32 ∧ (u.sessOf k).credit = credit.toNat ∧ Sends 0x431 u ∧ u.mem = s.mem))) ∧
  (∀ (peer : NcpPeer) (tag flags seq credit : Word) (s : State), ncpReady s = true → s.injBad = false →
    (flags.getLsbD 0 = true ∧ flags.getLsbD 1 = false ∧ (ctlSess s).isSome = true ∨ flags.getLsbD 0 = false ∧ ∀ k : Fin 4, s.sessOpen k.val = true) →
    exec (.ncpOpen peer tag flags seq credit) s = .next (closed s.pending { s.fresh with portTx :=
      [[0x4E, 0x50, 1, 1, 0, 0, 0, 8] ++ List.replicate 12 0 ++ [0x81, 6, 0, 0] ++ beBytes 4 tag.toNat] })) ∧
  (∀ (k : Nat) (m : NcpMsg) (s : State), Inv s → let x := s.sessOf k
    x.gen ≠ 0 → x.waitq = [] → canSend k s = true → s.sessOpen k = true → s.portUp = true → x.injLoss = false →
    let u := sessSend k m s
    u.portTx = s.portTx ++ [[0x4E, 0x50, 1, 0] ++ beBytes 2 (s.rd (sessB k) R.NCP_SESS_STAT_SESSION) ++ beBytes 2 m.bytes.length ++
      beBytes 4 x.seq ++ beBytes 4 x.expect ++ beBytes 4 (x.expect + 255) ++ m.bytes] ∧
    u.sessOf k = { x with seq := (x.seq + 1) % 2 ^ 32, store := x.store ++ [⟨x.seq, m.bytes, m.answers, m.recs, 1, s.now⟩], lastMsgs := m.bytes } ∧ u.regs = s.regs) ∧
  (∀ (k : Fin 4) (reason : Nat) (s : State), Inv s → s.domOn 83 = true → s.sessOpen k.val = true → reason < 16 →
    let u := sessClose k.val reason s
    u.sessOpen k.val = false ∧ u.rd (sessB k.val) R.NCP_SESS_STAT_REASON = reason ∧ u.rd (sessB k.val) R.NCP_SESS_STAT_MODE = 0 ∧ Sends 0x431 u ∧
    (∀ j : Fin 4, j ≠ k → u.sessOpen j.val = s.sessOpen j.val) ∧ u.mem = s.mem ∧ (reason ≠ 2 → u.batches = s.batches) ∧
    (reason = 1 → u.portTx = s.portTx) ∧ (reason ≠ 1 → s.portUp = true → u.portTx = s.portTx ++ [dgramBytes k.val 0 (s.sessOf k.val).seq ([2, 0, 0, 4, 0, 0, 0, 0] ++ beBytes 4 reason) s])) ∧
  (∀ (k : Fin 4) (tag reason : Word) (s : State), Hears k.val s →
    exec (.ncpClose k tag reason) s = .next (closed s.pending (sessClose k.val 1 (said k.val 0x82 0 tag [] s (heard k.val s))))) ∧
  (∀ (m : Master) (k : Fin 4) (w : Word) (s : State), (Served m true (0x000A0040 + 0x10 * k.val) (fset w 15 15 1) s →
      exec (.sessClose m k w) s = .next (closed s.pending (wrote m (0x000A0040 + 0x10 * k.val) (fset w 15 15 1) (sessClose k.val 5) s)))) ∧
  (∀ (k : Fin 4) (s : State), s.meOn = true → s.sessOpen k.val = true → s.rd ncpB R.NCP_SESS_CFG_IDLE_TO ≠ 0 →
    exec (.sessionIdleTimeout k) s = .next (closed s.pending (sessClose k.val 3 (s.fresh.advanceNow ((s.sessOf k.val).lastRx + (100000 * s.rd ncpB R.NCP_SESS_CFG_IDLE_TO * 78125 + 1) / 2))))) ∧
  (∀ (k : Fin 4) (s : State) (d : Dgram) (l : List Dgram), s.meOn = true → s.sessOpen k.val = true → (s.sessOf k.val).store = d :: l →
    let t := s.fresh.advanceNow (d.at_ + rtoT s)
    (t.sessOf k.val).store = d :: l →
    exec (.rtoExpire k) s = .next (closed s.pending (if t.rd ncpB R.NCP_SESS_CFG_RETRY_MAX + 1 ≤ d.sent then sessClose k.val 4 (t.raise 0x432) else dgramResend k.val (fun _ => true) t))) ∧
  (∀ (k : Fin 4) (tag seq : Word) (s : State), Hears k.val s →
    let x := (heard k.val s).sessOf k.val
    let lost := x.store.foldl (fun n d => n + d.recs) (x.waitq.foldl (fun n m => n + m.recs) 0)
    let t := ((heard k.val s).cnt (sessB k.val) R.NCP_SESS_CNT_EVT_LOST lost).setSess k.val { x with
      expect := seq.toNat % 2 ^ 32, seq := (x.seq + 1023) % 2 ^ 32, store := [], waitq := [], lostEv := x.lostEv + lost, lostAll := 0 }
    exec (.ncpResync k tag seq) s = .next (closed s.pending (sessSend k.val ⟨ncpMsgBytes 0x83 0 tag [], none, 0⟩ (sessSend k.val ⟨ncpMsgBytes 0xC0 0 0 (digestBody k.val t), none, 0⟩ t))))

/-- Reads, writes, commits, batches and bulk transfers of a session (spec/14_ncp_host_link.md). A message is executed and
answered with its tag and STATUS: READ and READ_SEQ with the word or 0, WRITE with the count and the first failure,
COMMIT as a commit or an armed entry, TIMED_BATCH and CANCEL on the queue of batches, BULK_READ and BULK_WRITE on a
plot's pages, DIGEST with the part's state (R391 to R398). Out of range counts answer 5, and an observe session's
write 1. With no failure the index of a WRITE is a free value (log entry 105). Under its premises on the state and
operands alone, exec answers next for: ncpKeepalive, ncpDigest, ncpRead, ncpReadSeq, ncpWrite, ncpTimedBatch,
ncpCommit, ncpCancel, ncpBulkRead, ncpBulkWrite, ncpBulkData. -/
def Obligations.SessionMessages : Prop :=
  (∀ (k : Fin 4) (tag : Word) (s : State), Hears k.val s →
    exec (.ncpKeepalive k tag) s = .next (closed s.pending (said k.val 0x84 0 tag [] s (heard k.val s))) ∧
    exec (.ncpDigest k tag) s = .next (closed s.pending (said k.val 0xC0 0 tag (digestBody k.val (heard k.val s)) s (heard k.val s)))) ∧
  (∀ (k : Fin 4) (tag a : Word) (s : State), Hears k.val s →
    let t := heard k.val s
    let r := access .ncp false a.toNat 0 t
    let c := accStatus r.2.2
    let body := beBytes 4 (if c = 0 then r.2.1.toNat else 0)
    r.2.2 ≠ .waiting → StillOpen k.val t r.1 →
    exec (.ncpRead k tag [a]) s = .next (closed s.pending (said k.val 0x90 c tag body s r.1)) ∧ exec (.ncpReadSeq k tag a 1) s = .next (closed s.pending (said k.val 0x91 c tag body s r.1))) ∧
  (∀ (k : Fin 4) (tag : Word) (cont : Bool) (p : WritePair) (s : State), Hears k.val s → s.rd (sessB k.val) R.NCP_SESS_STAT_MODE = 1 →
    let t := heard k.val s
    let r := access .ncp true p.addr.toNat p.data t
    let c := accStatus r.2.2
    r.2.2 ≠ .waiting → StillOpen k.val t r.1 →
    exec (.ncpWrite k tag cont [p]) s = .next (closed s.pending (said k.val 0x92 c tag (beBytes 4 (if c = 0 then 1 else 0) ++ beBytes 4 (if c = 0 then r.1.draw else 0)) s r.1.drawn))) ∧
  (∀ (k : Fin 4) (tag : Word) (cont : Bool) (addrs : List Word) (n : Word) (time : BitVec 64) (id w : Word) (pairs : List WritePair) (s : State), Hears k.val s →
    let t := heard k.val s
    (addrs = [] ∨ 256 < addrs.length → exec (.ncpRead k tag addrs) s = .next (closed s.pending (said k.val 0x90 5 tag [] s t))) ∧
    (n = 0 ∨ 1024 < n.toNat → exec (.ncpReadSeq k tag w n) s = .next (closed s.pending (said k.val 0x91 5 tag [] s t))) ∧
    (s.rd (sessB k.val) R.NCP_SESS_STAT_MODE = 1 → pairs = [] ∨ 1024 < pairs.length →
      exec (.ncpWrite k tag cont pairs) s = .next (closed s.pending (said k.val 0x92 5 tag [] s t)) ∧ exec (.ncpTimedBatch k tag cont time id pairs) s = .next (closed s.pending (said k.val 0x94 5 tag [] s t))) ∧
    (s.rd (sessB k.val) R.NCP_SESS_STAT_MODE = 0 → exec (.ncpWrite k tag cont pairs) s = .next (closed s.pending (said k.val 0x92 1 tag [] s t)) ∧
      exec (.ncpCommit k tag w time) s = .next (closed s.pending (said k.val 0x93 1 tag [] s t)) ∧ exec (.ncpTimedBatch k tag cont time id pairs) s = .next (closed s.pending (said k.val 0x94 1 tag [] s t)) ∧
      exec (.ncpCancel k tag id) s = .next (closed s.pending (said k.val 0x95 1 tag [] s t)))) ∧
  (∀ (k : Fin 4) (tag w : Word) (s : State), Hears k.val s → s.rd (sessB k.val) R.NCP_SESS_STAT_MODE = 1 →
    let t := heard k.val s
    let r := access .ncp true 0x00000100 w t
    r.2.2 ≠ .waiting →
    exec (.ncpCommit k tag w 0) s = .next (closed s.pending { r.1 with ncpCommits := r.1.ncpCommits ++
      [⟨k.val, (t.sessOf k.val).gen, tag, w, 0, r.1.now, none, r.1.commits.length, (s.sessOf k.val).expect⟩] })) ∧
  (∀ (k : Fin 4) (tag w : Word) (time : BitVec 64) (s : State) (j : Nat), Hears k.val s → s.rd (sessB k.val) R.NCP_SESS_STAT_MODE = 1 → time ≠ 0 → (s.ncpCommits = []) →
    let t := heard k.val s
    let c : NcpCommit := ⟨k.val, (t.sessOf k.val).gen, tag, w, time.toNat, s.now, none, 0, (s.sessOf k.val).expect⟩
    let t := { t with ncpCommits := [c] }
    (List.range 16).find? (fun j => actState (actBase t + j) t == 0) = some j → s.domOn 82 = true → s.rd (semB 0) R.SQ_SEM_HELD = 0 →
    let i := actBase t + j
    let v := semRelease 0 0 (commitArm c i (semRead 0 0 t).1)
    actState i v = 2 → v.ncpCommits = [c] → exec (.ncpCommit k tag w time) s = .next (closed s.pending { v with ncpCommits := [{ c with entry := some i }] })) ∧
  (∀ (k : Fin 4) (tag id : Word) (cont : Bool) (time : BitVec 64) (pairs : List WritePair) (s : State), Hears k.val s → s.rd (sessB k.val) R.NCP_SESS_STAT_MODE = 1 → pairs ≠ [] → pairs.length ≤ 1024 →
    let t := heard k.val s
    exec (.ncpTimedBatch k tag cont time id pairs) s = .next (closed s.pending (
      if 16 ≤ s.batches.length ∨ 8192 < s.batches.foldl (fun n b => n + b.pairs.length) pairs.length then said k.val 0x94 6 tag [] s t
      else { t with batches := t.batches ++ [⟨k.val, (t.sessOf k.val).gen, tag, id, cont, time.toNat, pairs, (s.sessOf k.val).expect⟩] }))) ∧
  (∀ (k : Fin 4) (tag id : Word) (s : State), Hears k.val s → s.rd (sessB k.val) R.NCP_SESS_STAT_MODE = 1 → s.batches.find? (fun b => b.slot == k.val && b.gen == (s.sessOf k.val).gen && b.id == id) = none →
    exec (.ncpCancel k tag id) s = .next (closed s.pending (said k.val 0x95 6 tag [] s (heard k.val s)))) ∧
  (∀ (k : Fin 4) (tag id : Word) (s : State) (b : Batch), Hears k.val s → s.rd (sessB k.val) R.NCP_SESS_STAT_MODE = 1 →
    s.batches.find? (fun b => b.slot == k.val && b.gen == (s.sessOf k.val).gen && b.id == id) = some b →
    let t := heard k.val s
    exec (.ncpCancel k tag id) s = .next (closed s.pending (said k.val 0x95 0 tag [] s (sessSend k.val ⟨ncpMsgBytes 0x94 10 b.tag [], some b.seq, 0⟩ { t with batches := t.batches.filter (fun d => d != b) })))) ∧
  (∀ (k : Fin 4) (tag plot first count : Word) (s : State), Hears k.val s →
    let t := heard k.val s
    let p := plot.toNat % 256
    exec (.ncpBulkRead k tag plot first count) s = .next (closed s.pending (
      if ncpMtu s < 4200 then said k.val 0xA0 11 tag [] s t else if 4 ≤ (t.sessOf k.val).bulks.length then said k.val 0xA0 6 tag [] s t
      else if s.rd (plB p) R.MDW_PLOT_W0_EN = 0 then said k.val 0xA0 8 tag [] s t else if plotSize p s < first.toNat + count.toNat then said k.val 0xA0 5 tag [] s t
      else if count = 0 then said k.val 0xA0 0 tag [0, 0, 0, 0] s t
      else t.setSess k.val { t.sessOf k.val with bulks := (t.sessOf k.val).bulks ++ [⟨tag, p, first.toNat, count.toNat, 0, (s.sessOf k.val).expect⟩] }))) ∧
  (∀ (k : Fin 4) (tag plot page fill : Word) (data : List Byte) (res : PageRes) (s : State), Hears k.val s → s.rd (sessB k.val) R.NCP_SESS_STAT_MODE = 1 → 4200 ≤ ncpMtu s →
    let t := heard k.val s
    let p := fget plot 7 0
    4096 ≤ data.length → hostWritable p s = true → page.toNat < plotSize p s → s.domOn (72 + (plotFrame p page.toNat s).1) = true →
    exec (.ncpBulkWrite k tag plot page 4096 fill data res) s = .next (closed s.pending (said k.val 0xA1 0 tag [] s (hostPage p page.toNat (fget fill 31 16) (fget fill 15 0) data t)))) ∧
  (∀ (k : Fin 4) (res : PageRes) (s : State) (b : BulkRd) (l : List BulkRd), s.meOn = true → s.sessOpen k.val = true → (s.sessOf k.val).waitq = [] → canSend k.val s = true → (s.sessOf k.val).bulks = b :: l →
    let mf := plotFrame b.plot b.page s
    let pg := (s.page mf.1 mf.2).getD .unwritten
    let msg := pg.bytes ++ pg.metaBytes
    let r := pageRead mf.1 mf.2 res s.fresh
    s.domOn (72 + mf.1) = true → r.2 = 0 ∨ r.2 = 3 → 1 < b.left →
    let body := beBytes 1 b.plot ++ [0, 0, 0] ++ beBytes 4 b.page ++ beBytes 1 r.2 ++ [0] ++ [0, 0] ++ msg.drop 4096 ++ msg.take 4096
    exec (.ncpBulkData k res) s = .next (closed s.pending (sessSend k.val ⟨ncpMsgBytes 0x22 0 b.tag body, some b.seq, 0⟩
      (r.1.setSess k.val { r.1.sessOf k.val with bulks := l ++ [{ b with page := b.page + 1, left := b.left - 1, done := b.done + 1 }] }))))

/-- Datagrams by SEQ, event records, batches at their time, the retry of the semaphore, and injections of NCP
(spec/14_ncp_host_link.md). A malformed datagram is counted and reported; one of a session acts by its SEQ: the
expected one is taken, an old one answered again, a later one counted and NAKed (R399, R400). Pending records leave as
one EVENT message; merged raises leave as one record when the holdoff ends (R397). A batch is dispatched 256,000 ticks
before its TIME (R395). A COMMIT retries SQ.SEM[0] each 1 us (R394). INJECT arms its detections (R404). Under its
premises on the state and operands alone, exec answers next for: datagramReceived, ncpEvent, eventHoldoffEnd,
batchDispatch, ncpSemRetry, ncpInjLate, ncpInjEvt, ncpInjLoss, ncpInjLink, ncpInjBad. -/
def Obligations.SessionEvents : Prop :=
  (∀ (peer : NcpPeer) (d : List Byte) (s : State), ncpReady s = true → s.injBad = false →
    (d.length < 20 ∨ fb16 d 0 ≠ 0x4E50 ∨ fb d 2 ≠ 1 ∨ fb16 d 6 + 20 ≠ d.length → exec (.datagramReceived peer d) s = .next (closed s.pending ((s.fresh.cnt ncpB R.NCP_CNT_DROP_BAD 1).raise 0x434))) ∧
    (20 ≤ d.length → fb16 d 0 = 0x4E50 → fb d 2 = 1 → fb16 d 6 + 20 = d.length → parseMsgs d.length (d.drop 20) = some [] →
      exec (.datagramReceived peer d) s = .next (closed s.pending (dgramSession peer d [] s.fresh)))) ∧
  (∀ (k seq : Nat) (s : State), let x := s.sessOf k
    x.expect < 2 ^ 32 → seq < 2 ^ 32 →
    (seq = x.expect → dgramSeq k seq [] s = s.setSess k { x with expect := (x.expect + 1) % 2 ^ 32 }) ∧
    (seqLe x.expect seq = false → x.store.any (fun d => d.answers == some seq) = true → dgramSeq k seq [] s = dgramResend k (fun d => d.answers == some seq) (s.cnt ncpB R.NCP_CNT_SEQ_DUPLICATE 1)) ∧
    (seq ≠ x.expect → seqLe x.expect seq = true → seqLe seq (x.expect + 255) = true → dgramSeq k seq [] s = sendNak k (s.cnt ncpB R.NCP_CNT_SEQ_OUT_OF_ORDER 1))) ∧
  (∀ (k : Fin 4) (s : State), let x := s.sessOf k.val
    s.meOn = true → s.sessOpen k.val = true → x.evq ≠ [] → x.waitq = [] → canSend k.val s = true →
    let n := min 256 ((msgRoom k.val s - 12) / 16)
    let rs := x.evq.take n
    exec (.ncpEvent k) s = .next (closed s.pending (sessSend k.val ⟨ncpMsgBytes 0x30 0 0 (beBytes 4 x.lostEv ++ rs.flatMap EvRec.bytes), none, rs.length⟩
      (s.fresh.setSess k.val { x with evq := x.evq.drop n, lostEv := 0 })))) ∧
  (∀ (k : Nat) (r : Raise) (s : State), Inv s → let x := s.sessOf k
    x.gen ≠ 0 → x.injEvt = false → x.evq.length < 4096 → x.hold = [] →
    let u := evRaise k r s
    (u.sessOf k).evq = x.evq ++ [⟨r.tlv.toNat, r.id, r.tq + r.cls * 4, r.seq, 1⟩] ∧ (u.sessOf k).lostEv = x.lostEv ∧ u.regs = s.regs ∧ u.raised = s.raised) ∧
  (∀ (k : Fin 4) (id : BitVec 11) (s : State) (h : Nat) (m : EvRec), look HoldOff.none (s.sessOf k.val).hold id.toNat = ⟨h, some m⟩ → s.meOn = true → s.sessOpen k.val = true →
    let t := s.fresh.advanceNow (h + (s.rd ncpB R.NCP_SESS_CFG_HOLDOFF * 78125 + 1) / 2)
    let x := t.sessOf k.val
    exec (.eventHoldoffEnd k id) s = .next (closed s.pending (evPush k.val m (t.setSess k.val { x with hold := put HoldOff.none x.hold id.toNat ⟨h + holdT t, none⟩ })))) ∧
  (∀ (s : State) (b : Batch), s.counting = true → s.partRuns = true → s.meOn = true → batchNext s = some b →
    let t := s.fresh.advance (b.time - 256000 - s.tlv.toNat)
    let x := if t.injBatch then max b.time t.tlv.toNat + 16384 else max b.time (t.tlv.toNat + 16384)
    let j : NcpJob := ⟨b.slot, b.gen, b.tag, 0x14, b.seq, .run b x, 0, [], 0, none, 0⟩
    exec .batchDispatch s = .next (closed s.pending (ncpPump { t with injBatch := false, batches := t.batches.filter (fun c => c != b), ncpQ := j :: t.ncpQ }))) ∧
  (∀ (s : State) (c : NcpCommit), s.ncpCommits.find? semWaits = some c → s.meOn = true → s.partRuns = true →
    let t := s.fresh.advance 39063
    exec .ncpSemRetry s = .next (closed s.pending (commitTry c t))) ∧
  (∀ (m : Master) (w : Word) (s : State),
    let k (v : Word) : Nat := fget v 9 8
    let inj (v : Word) := each [(0, fun t => { t with injBatch := true }), (1, fun t => t.setSess (k v) { t.sessOf (k v) with injEvt := true }),
      (2, fun t => t.setSess (k v) { t.sessOf (k v) with injLoss := true }), (3, portFail), (4, fun t => { t with injBad := true })] v
    let a := 0x000A0090
    (Served m true a (fset w 0 0 1) s →
      exec (.ncpInjLate m w) s = .next (closed s.pending (wrote m a (fset w 0 0 1) (inj (fset w 0 0 1)) s))) ∧ (Served m true a (fset w 1 1 1) s →
      exec (.ncpInjEvt m w) s = .next (closed s.pending (wrote m a (fset w 1 1 1) (inj (fset w 1 1 1)) s))) ∧
    (Served m true a (fset w 2 2 1) s →
      exec (.ncpInjLoss m w) s = .next (closed s.pending (wrote m a (fset w 2 2 1) (inj (fset w 2 2 1)) s))) ∧ (Served m true a (fset w 3 3 1) s →
      exec (.ncpInjLink m w) s = .next (closed s.pending (wrote m a (fset w 3 3 1) (inj (fset w 3 3 1)) s))) ∧
    (Served m true a (fset w 4 4 1) s →
      exec (.ncpInjBad m w) s = .next (closed s.pending (wrote m a (fset w 4 4 1) (inj (fset w 4 4 1)) s))))

/-- The boot sequence: self-test, clocks, training, the images in turn, and the end in DONE or FAIL
(spec/15_boot_image.md). Where the part is out of reset at START and nothing holds it at step 1 (R413, R473, R514),
BOOT_SEQUENCE reads OTP, applies the fuses, and ends in FAIL cause 1 without SYS_XI (R413) and in FAIL cause 2 without
the core PLL at 10,150 us; else memories are self-tested, the core clock is locked, the dies and stacks train (R414)
and the images are tried in turn (R416). It ends in DONE with EV_BOOT_DONE where the first or the second image passes,
else in FAIL with EV_BOOT_FAIL; both set the locks (R417) and FAIL leaves ME off. Devices that stay busy for 2.0 s
give code 1 for both images and FAIL cause 3; erased flash gives code 1 without that wait (R406, R407). The exact
values of STEP_T and TIME are read from R413 (log entry 110). Under its premises on the state and operands alone, exec
answers next for: bootSequence. -/
def Obligations.Boot : Prop :=
  (∀ (x : BootIn) (s : State), bootMay s = true →
    let o := { s.fresh with hk := { s.hk with offWait := false } }
    let t := stepT 1 15000 (stepT 0 5000 (fusesApply (if s.on safeB R.SAFE_STATUS_OTP_READY = true then o else otpRead o)))
    let u := bootMbist x (bootGo 1 t)
    let v := u.wr clkB R.CLK_STATUS_MEM_LOCK (b2n x.memPll)
    exec (.bootSequence x) s = .next (closed s.pending (if x.sysXi = false then bootFail 1 15000 t else if x.corePll = false then bootFail 2 1015000 v
      else bootImages x (bootDelays (bootTraining x (v.wr clkB R.CLK_STATUS_CORE_LOCK 1)))))) ∧
  (∀ (x : BootIn) (s : State), Inv s → bootMay s = true → 
    let cause := if x.sysXi = false then 1 else 2
    (x.sysXi = false ∨ x.corePll = false) → (∃ u, exec (.bootSequence x) s = .next (closed s.pending u) ∧
      (u.bootState = 7 ∧ u.rd bootB R.BOOT_STATUS_FAIL_CAUSE = cause ∧ u.locksSet = true ∧
      u.domState 83 = 0 ∧ Sends 0x442 u ∧ u.rd (bootB + 0) R.BOOT_STEP_T_US = 50 ∧ u.rd (bootB + 4) R.BOOT_STEP_T_US = 150 ∧
      u.rd bootB R.BOOT_TIME_US = (if cause = 1 then 150 else 10150)))) ∧
  (∀ (x : BootIn) (s : State), Inv s → bootMay s = true → x.sysXi = true → x.corePll = true →
    let o := { s.fresh with hk := { s.hk with offWait := false } }
    let t := stepT 1 15000 (stepT 0 5000 (fusesApply (if s.on safeB R.SAFE_STATUS_OTP_READY = true then o else otpRead o)))
    let v := (bootMbist x (bootGo 1 t)).wr clkB R.CLK_STATUS_MEM_LOCK (b2n x.memPll)
    let v := bootDelays (bootTraining x (v.wr clkB R.CLK_STATUS_CORE_LOCK 1))
    let first := v.rd bootB R.BOOT_CTRL_B_FIRST
    let a := imageTry x first 15000 v
    let b := imageTry x (1 - first) (a.2.u + 50000) (imageFail first a.2 a.1)
    (∃ u, exec (.bootSequence x) s = .next (closed s.pending u) ∧
      (u.locksSet = true ∧
      if a.2.code = 0 ∨ b.2.code = 0 then u.bootState = 6 ∧ Sends 0x440 u
      else u.bootState = 7 ∧ Sends 0x442 u ∧ u.rd bootB R.BOOT_STATUS_FAIL_CAUSE = 3 ∧ u.domState 83 = 0))) ∧
  (∀ (x : BootIn) (s : State), Inv s → bootMay s = true → x.sysXi = true → x.corePll = true → s.bootInj.testBit 0 = false →
    x.busyA = x.busyB → s.flashRead 0 0 4 ≠ [0x45, 0x5A, 0x4C, 0x49] → s.flashRead 1 0 4 ≠ [0x45, 0x5A, 0x4C, 0x49] →
    (∃ u, exec (.bootSequence x) s = .next (closed s.pending u) ∧
      (u.bootState = 7 ∧ u.rd bootB R.BOOT_STATUS_FAIL_CAUSE = 3 ∧
      u.rd bootB R.BOOT_ERR_ERR_A = 1 ∧ u.rd bootB R.BOOT_ERR_ERR_B = 1 ∧ u.on bootB R.BOOT_STATUS_FALLBACK = true ∧
      Sends 0x441 u ∧ Sends 0x442 u ∧ u.rd bootB R.BOOT_TIME_US = (if x.busyA = true then 4000650 else 818))))

/-- QSPI commands and what they do to flash, programming of the key hash, and the injections of BOOT
(spec/15_boot_image.md). Served writes. QSPI_CMD with START starts its operation with the device, the address and the
buffer as they are, or RESULT is 1 while one runs or boot reads flash (R423). At the end a read fills the buffer with
the device's bytes, a program clears bits within the page of 256 bytes and changes no other byte, an erase leaves 0xFF
in its sector of 64 KiB and every other byte, and OP 3 delivers the status; a device still busy gives RESULT 2, where
the bytes a program or erase reached are free (log entry 19). KEY_CMD with its key starts programming in FAIL where
the hash is not set, VDD_BIAS is in range and none runs, else RESULT is 1 (R412); its end stores the twelve words
where the read-back agrees, else RESULT is 2. BOOT.INJECT arms its bits (R422). Under its premises on the state and
operands alone, exec answers next for: qspiRead, qspiProgram, qspiErase, qspiReadStatus, keyCmd, keyProgDone,
qspiDone, bootInjImage, bootInjTrain, bootInjLbist, bootInjMi2c. -/
def Obligations.FlashAndKeys : Prop :=
  (∀ (m : Master) (w : Word) (s : State),
    let f (op : Nat) (t : State) : State := if t.qspiOp.isSome = true ∨ t.bootState = 1 ∨ t.bootState = 2 then t.wr bootB R.BOOT_QSPI_CMD_RESULT 1 else { t.wr bootB R.BOOT_QSPI_CMD_BUSY 1 with qspiOp := some ⟨fget (fset w 1 0 op) 8 8, op, t.rd bootB R.BOOT_QSPI_ADDR_ADDR, (List.range 64).map (fun i => BitVec.ofNat 8 ((t.getReg (0x00010040 + 4 * (i / 4))).toNat / 256 ^ (i % 4)))⟩ }
    (Served m true 0x00010020 (fset (fset w 1 0 0) 31 31 1) s →
      exec (.qspiRead m w) s = .next (closed s.pending (wrote m 0x00010020 (fset (fset w 1 0 0) 31 31 1) (f 0) s))) ∧ (Served m true 0x00010020 (fset (fset w 1 0 1) 31 31 1) s →
      exec (.qspiProgram m w) s = .next (closed s.pending (wrote m 0x00010020 (fset (fset w 1 0 1) 31 31 1) (f 1) s))) ∧
    (Served m true 0x00010020 (fset (fset w 1 0 2) 31 31 1) s →
      exec (.qspiErase m w) s = .next (closed s.pending (wrote m 0x00010020 (fset (fset w 1 0 2) 31 31 1) (f 2) s))) ∧ (Served m true 0x00010020 (fset (fset w 1 0 3) 31 31 1) s →
      exec (.qspiReadStatus m w) s = .next (closed s.pending (wrote m 0x00010020 (fset (fset w 1 0 3) 31 31 1) (f 3) s)))) ∧
  (∀ (m : Master) (w : Word) (s : State), (Served m true 0x000100B0 (fset w 31 16 0x4A53) s →
      exec (.keyCmd m w) s = .next (closed s.pending (wrote m 0x000100B0 (fset w 31 16 0x4A53) (fun t =>
    if t.bootState = 7 ∧ t.keySet = false ∧ t.biasUv = false ∧ t.keyOp = false then { t.wr bootB R.BOOT_KEY_CMD_BUSY 1 with keyOp := true }
    else t.wr bootB R.BOOT_KEY_CMD_RESULT 1) s)))) ∧
  (∀ (v : Bool) (s : State), Inv s → s.keyOp = true → (∃ u, exec (.keyProgDone v) s = .next (closed s.pending u) ∧
      (u.keyOp = false ∧ u.on bootB R.BOOT_KEY_CMD_BUSY = false ∧ u.rd bootB R.BOOT_KEY_CMD_RESULT = (if v = true then 0 else 2) ∧
    u.mem = s.mem ∧ u.flash = s.flash ∧ u.raised = s.raised ∧
    (v = true → u.keyOtp = some ((List.range 12).map (fun i => s.getReg (bootB + R.BOOT_KEY_HASH_HASH.off + 4 * i))))))) ∧
  (∀ (busy : Bool) (st : BitVec 8) (s : State) (q : QspiOp) (d a : Nat), Inv s → s.qspiOp = some q → (busy = false ∨ q.op = 0 ∨ q.op = 3) → q.dev < 2 → q.addr < 2 ^ 32 → q.data.length = 64 →
    d < 2 → a < 2 ^ 32 →
    let o := (a % 256 + 256 - q.addr % 256) % 256
    (∃ u, exec (.qspiDone busy st) s = .next (closed s.pending u) ∧
      (u.qspiOp = none ∧ u.on bootB R.BOOT_QSPI_CMD_BUSY = false ∧ u.rd bootB R.BOOT_QSPI_CMD_RESULT = (if busy = true ∧ q.op ≠ 3 then 2 else 0) ∧
      u.flashByte d a = (if d = q.dev ∧ q.op = 1 ∧ a / 256 = q.addr / 256 ∧ o < 64 then s.flashByte d a &&& q.data.getD o 0
        else if d = q.dev ∧ q.op = 2 ∧ a / 0x10000 = q.addr / 0x10000 then 0xFF else s.flashByte d a) ∧
      (q.op = 3 → u.getReg (bootB + R.BOOT_QSPI_BUF_DATA.off) = st.zeroExtend 32) ∧
      (q.op = 0 → busy = false → ∀ i : Fin 16, u.getReg (bootB + R.BOOT_QSPI_BUF_DATA.off + 4 * i.val) = BitVec.ofNat 32 (leNat (s.flashRead q.dev (q.addr + 4 * i.val) 4)))))) ∧
  (∀ (m : Master) (w : Word) (s : State),
    let f (w : Word) (t : State) : State := { t with bootInj := t.bootInj ||| fget w 3 0 }
    (Served m true 0x000100B4 (fset w 0 0 1) s →
      exec (.bootInjImage m w) s = .next (closed s.pending (wrote m 0x000100B4 (fset w 0 0 1) (f (fset w 0 0 1)) s))) ∧ (Served m true 0x000100B4 (fset w 1 1 1) s →
      exec (.bootInjTrain m w) s = .next (closed s.pending (wrote m 0x000100B4 (fset w 1 1 1) (f (fset w 1 1 1)) s))) ∧
    (Served m true 0x000100B4 (fset w 2 2 1) s →
      exec (.bootInjLbist m w) s = .next (closed s.pending (wrote m 0x000100B4 (fset w 2 2 1) (f (fset w 2 2 1)) s))) ∧ (Served m true 0x000100B4 (fset w 3 3 1) s →
      exec (.bootInjMi2c m w) s = .next (closed s.pending (wrote m 0x000100B4 (fset w 3 3 1) (f (fset w 3 3 1)) s))))

/-- MI2C transactions, malformed ones, the clock time-out and the address match (spec/15_boot_image.md,
spec/20_pins_package_electrical.md). In RUN or DIM a transaction with its right count of bytes performs its access,
sends its status byte and counts in ACCESSES; STATUS sends the last write's (R419). Before boot completes an access
outside the windows of R421 is refused with status 6 and changes no register but the counts. A wrong count of bytes,
or INJ_MI2C, counts in PROTO, raises EV_BOOT_MI2C and executes nothing (R419, R422). The address takes effect at the
STOP (R420). SCL held low for 25 ms counts and raises it too (R514). An address match wakes the part from REST where
MI2C_WAKE_EN is 1 and aborts an entry to it (R456). That ACCESSES counts STATUS and status 6 is the model's reading
(log entry 115). Under its premises on the state and operands alone, exec answers next for: mi2cWrite, mi2cRead,
mi2cStatus, mi2cTimeout, mi2cAddressMatch. -/
def Obligations.SidebandBus : Prop :=
  (∀ (bs : List (BitVec 8)) (s : State), s.por = false → s.inReset = false → s.off = false → s.fatal = false → s.pwrState ≤ 1 → s.bootInj.testBit 3 = false → bs.length = 8 →
    let a := fb32 bs 0
    let w : Word := BitVec.ofNat 32 (fb32 bs 4)
    let r := access .mi2c true a w (s.fresh.cnt bootB R.BOOT_MI2C_CNT_ACCESSES 1)
    let v := if r.2.2 = .blocked then 6 else accStatus r.2.2
    let t := { r.1 with mi2cByte := some v, mi2cLast := v, resp := some ⟨.mi2c, a, true, 0, r.2.2⟩ }
    r.2.2 ≠ .waiting → exec (.mi2cWrite bs) s = .next (closed s.pending { t with mi2cAddr := t.rd bootB R.BOOT_MI2C_CFG_ADDR })) ∧
  (∀ (bs : List (BitVec 8)) (s : State), s.por = false → s.inReset = false → s.off = false → s.fatal = false → s.pwrState ≤ 1 → s.bootInj.testBit 3 = false → bs.length = 4 →
    let a := fb32 bs 0
    let r := access .mi2c false a 0 (s.fresh.cnt bootB R.BOOT_MI2C_CNT_ACCESSES 1)
    let v := if r.2.2 = .blocked then 6 else accStatus r.2.2
    let t := { r.1 with mi2cByte := some v, resp := some ⟨.mi2c, a, false, r.2.1, r.2.2⟩ }
    r.2.2 ≠ .waiting → exec (.mi2cRead bs) s = .next (closed s.pending { t with mi2cAddr := t.rd bootB R.BOOT_MI2C_CFG_ADDR })) ∧
  (∀ (s : State), s.por = false → s.inReset = false → s.off = false → s.fatal = false → s.pwrState ≤ 1 → s.bootInj.testBit 3 = false →
    exec (.mi2cStatus []) s = .next (closed s.pending { s.fresh.cnt bootB R.BOOT_MI2C_CNT_ACCESSES 1 with mi2cByte := some s.mi2cLast, mi2cAddr := s.rd bootB R.BOOT_MI2C_CFG_ADDR })) ∧
  (∀ (bs : List (BitVec 8)) (s : State), Inv s → s.por = false → s.inReset = false → s.off = false → s.fatal = false → s.pwrState ≤ 1 → s.bootInj.testBit 3 = false →
    s.booted = false →
    let a := fb32 bs 0
    (bs.length = 8 → a / 0x10000 ∈ [2, 3, 4, 5, 6, 7, 8, 9, 10, 11] → (∃ u, exec (.mi2cWrite bs) s = .next (closed s.pending u) ∧
      (u.mi2cByte = some 6 ∧ u.mi2cLast = 6 ∧ u.mem = s.mem ∧ u.raised = s.raised ∧ u.resp = some ⟨.mi2c, a, true, 0, .blocked⟩ ∧
      dropKeys (· == bootB + 0x1C) u.regs = dropKeys (· == bootB + 0x1C) s.regs))) ∧
    (bs.length = 4 → a / 0x10000 ∈ [2, 4, 6, 8, 10, 11] → (∃ u, exec (.mi2cRead bs) s = .next (closed s.pending u) ∧
      (u.mi2cByte = some 6 ∧ u.mem = s.mem ∧ u.raised = s.raised ∧
      dropKeys (· == bootB + 0x1C) u.regs = dropKeys (· == bootB + 0x1C) s.regs)))) ∧
  (∀ (bs : List (BitVec 8)) (s : State), s.por = false → s.inReset = false → s.off = false → s.fatal = false → s.pwrState ≤ 1 →
    let t (i : Bool) := ((if i = true then { s.fresh with bootInj := s.bootInj - 8 } else s.fresh).cnt bootB R.BOOT_MI2C_CNT_PROTO 1).raise 0x445
    let t (i : Bool) := { t i with mi2cAddr := s.rd bootB R.BOOT_MI2C_CFG_ADDR }
    (s.bootInj.testBit 3 = true → exec (.mi2cWrite bs) s = .next (closed s.pending (t true)) ∧ exec (.mi2cRead bs) s = .next (closed s.pending (t true)) ∧ exec (.mi2cStatus bs) s = .next (closed s.pending (t true))) ∧
    (s.bootInj.testBit 3 = false → (bs.length ≠ 8 → exec (.mi2cWrite bs) s = .next (closed s.pending (t false))) ∧ (bs.length ≠ 4 → exec (.mi2cRead bs) s = .next (closed s.pending (t false))) ∧
      (bs ≠ [] → exec (.mi2cStatus bs) s = .next (closed s.pending (t false))))) ∧
  (∀ (s : State), Inv s → s.por = false → s.inReset = false → s.off = false → s.fatal = false → s.pwrState ≤ 1 → (∃ u, exec .mi2cTimeout s = .next (closed s.pending u) ∧
      (u.on glbB R.GLB_PIN_STAT_MI2C_TO = true ∧ u.rd glbB R.GLB_PIN_CNT_MI2C_TO = min 255 (s.rd glbB R.GLB_PIN_CNT_MI2C_TO + 1) ∧ Sends 0x445 u ∧
    u.rd bootB R.BOOT_MI2C_CNT_PROTO = min 65535 (s.rd bootB R.BOOT_MI2C_CNT_PROTO + 1) ∧ u.mem = s.mem))) ∧
  (∀ (s : State), s.por = false → s.inReset = false → s.off = false → s.fatal = false → s.on pwrB R.PWR_CTRL_MI2C_WAKE_EN = true →
    (s.pwrState = 3 → s.pwr.wakeSrc = none → exec .mi2cAddressMatch s = .next (closed s.pending { s.fresh with pwr := { s.pwr with wakeSrc := some (1, s.now) } })) ∧
    (s.pwrState = 2 → exec .mi2cAddressMatch s = .next (closed s.pending (restAbort [] s.fresh))) ∧ (s.pwrState ≤ 1 → exec .mi2cAddressMatch s = .next (closed s.pending s.fresh)))

/-- Clock monitors, the fallback to the IRO, resume, the loss of SYS_XI, clock gates and their injections
(spec/16_clocks.md). A monitor's window shows its count and counts as good or bad; N_BAD bad windows in a row declare
the loss, N_GOOD good ones the clock good (R428). A lost LREF or core lock enters SAFE, gates SCLK and PCLK until the
IRO is ready, then counts and raises EV_CLK_FAIL; no IRO by 50 us sets IRO_FAIL (R429 to R431). RESUME in SAFE with
LREF_OK starts a resume, which the lock ends and 200 us without it fails with CAUSE 2 (R432). The loss of SYS_XI or of
the memory PLL takes the port DOWN once per loss (R433). A served write of CLK.CTRL keeps IRO_STBY where it may not be
set (R435). CLK.GATE's new bits request closure: bus-idle closes the gate, none within 10 us refuses it, clears the
bit, counts and raises EV_CLK_GATE_REFUSED (R436). CLK.INJECT arms its windows, gate and IRO (R441). Under its
premises on the state and operands alone, exec answers next for: monitorWindowEnd, pllLockLoss, iroReady,
iroFailTimeout, clkResume, corePllRelocked, resumeTimeout, memPllRelocked, iroStbyWrite, gateRequest, gateClose,
gateRefuseTimeout, clkInjLref, clkInjSysxi, clkInjIro, clkInjGate. -/
def Obligations.Clocks : Prop :=
  (∀ (j : Fin 3) (c : BitVec 16) (s : State), Inv s → s.bbOn = true → s.rd clkB R.CLK_MON_CFG_EN / 2 ^ j.val % 2 = 1 → (j.val = 1 ∨ look 0 s.clk.decl 1 ≠ 2) → look 0 s.clk.inj j.val = 0 → s.clk.lrefTrip = 0 →
    let t := s.fresh.wr (clkB + 4 * j.val) R.CLK_MON_CNT_COUNT c.toNat
    let good := look 0 s.clk.good j.val + 1
    let bad := look 0 s.clk.bad j.val + 1
    let k := s.clk
    let lo := s.rd (clkB + 4 * j.val) R.CLK_MON_LIM_LO
    let hi := s.rd (clkB + 4 * j.val) R.CLK_MON_LIM_HI
    let sees (l : List (Nat × Nat)) (v : Nat) : List (Nat × Nat) := put 0 l j.val v
    (lo ≤ c.toNat ∧ c.toNat ≤ hi → exec (.monitorWindowEnd ⟨j.val, by omega⟩ c) s = .next (closed s.pending (let x := { k with inj := sees k.inj 0, good := sees k.good good, bad := sees k.bad 0 }
       if look 0 k.decl j.val = 1 ∨ good < max 1 (s.rd clkB R.CLK_MON_CFG_N_GOOD) then { t with clk := x } else monGood j.val { t with clk := { x with decl := sees k.decl 1 } }))) ∧
    (c.toNat < lo ∨ hi < c.toNat → exec (.monitorWindowEnd ⟨j.val, by omega⟩ c) s = .next (closed s.pending (let x := { k with inj := sees k.inj 0, bad := sees k.bad bad, good := sees k.good 0 }
       if look 0 k.decl j.val = 2 ∨ bad < max 1 (s.rd clkB R.CLK_MON_CFG_N_BAD) then { t with clk := x } else monLost j.val false { t with clk := { x with decl := sees k.decl 2 } })))) ∧
  (∀ (s : State), Inv s → s.clkState = 0 → s.on clkB R.CLK_STATUS_CORE_LOCK = true → (∃ u, exec (.pllLockLoss false) s = .next (closed s.pending u) ∧
      (u.clkState = 1 ∧ u.rd clkB R.CLK_STATUS_CAUSE = 2 ∧ u.on clkB R.CLK_STATUS_CORE_LOCK = false ∧ u.clk.at_ = s.now ∧ u.clk.injIro = false ∧ u.clk.withheld = s.clk.injIro ∧
    (∀ k : Fin 8, u.on (octB k.val) R.OCT_SYN_STATUS_LREF_LOST = true) ∧ (∀ k : Fin 8, rotStep k.val u = 0) ∧ u.mem = s.mem))) ∧
  (∀ (s : State), Inv s → s.domOn 83 = true → s.on clkB R.CLK_STATUS_MEM_LOCK = true → s.clk.sysxiLoss = false → (∃ u, exec (.pllLockLoss true) s = .next (closed s.pending u) ∧
      (u.on clkB R.CLK_STATUS_MEM_LOCK = false ∧ u.clk.sysxiLoss = true ∧ Sends 0x3F1 u ∧ u.rd ncpB R.NCP_PORT_STATUS_STATE = 0 ∧
    u.rd clkB R.CLK_CNT_SYSXI_LOSS = min (2 ^ (R.CLK_CNT_SYSXI_LOSS.hi - R.CLK_CNT_SYSXI_LOSS.lo + 1) - 1) (s.rd clkB R.CLK_CNT_SYSXI_LOSS + 1) ∧ (s.rd ncpB R.NCP_PORT_STATUS_STATE = 2 → Sends 0x430 u)))) ∧
  (∀ (s : State), s.bbOn = true →
    (s.clkState = 1 → s.clk.withheld = false → exec .iroReady s = .next (closed s.pending (((cyclesSync (s.fresh.wr clkB R.CLK_STATUS_IRO_RDY 1)).wr clkB R.CLK_STATUS_STATE 2).cnt clkB R.CLK_CNT_FAILS 1 |>.raise 0x3F0))) ∧
    (s.clkState = 0 → s.on clkB R.CLK_CTRL_IRO_STBY = false → exec .iroReady s = .next (closed s.pending (s.fresh.wr clkB R.CLK_STATUS_IRO_RDY 1))) ∧
    (s.clkState = 1 → exec .iroFailTimeout s = .next (closed s.pending (((s.fresh.advanceNow (s.clk.at_ + 1953125)).wr clkB R.CLK_STATUS_IRO_FAIL 1).raise 0x3F5)))) ∧
  (∀ (m : Master) (w : Word) (s : State), Inv s → s.clkState = 2 → s.on clkB R.CLK_STATUS_LREF_OK = true → (Served m true 0x00020000 (fset w 31 31 1) s → ∃ u, exec (.clkResume m w) s = .next (closed s.pending u) ∧
      (u.clkState = 3 ∧ u.clk.at_ = s.now ∧ u.mem = s.mem))) ∧
  (∀ (s : State), Inv s → s.clkState = 3 →
    (∃ u, exec .corePllRelocked s = .next (closed s.pending u) ∧
      (u.clkState = 0 ∧ u.on clkB R.CLK_STATUS_CORE_LOCK = true ∧ Sends 0x3F3 u ∧ u.clk.coreCfg = s.getReg (clkB + 8) ∧ u.mem = s.mem)) ∧
    (∃ u, exec .resumeTimeout s = .next (closed s.pending u) ∧
      (u.clkState = 2 ∧ u.rd clkB R.CLK_STATUS_CAUSE = 2 ∧ Sends 0x3F0 u ∧ u.now = max s.now (s.clk.at_ + 7812500)))) ∧
  (∀ (s : State), Inv s → s.bbOn = true → s.clk.sysxiLoss = true → look 0 s.clk.decl 1 ≠ 2 → (∃ u, exec .memPllRelocked s = .next (closed s.pending u) ∧
      (u.on clkB R.CLK_STATUS_MEM_LOCK = true ∧ u.clk.sysxiLoss = false ∧ Sends 0x3F3 u ∧ u.clk.memCfg = s.getReg (clkB + 8) ∧
    (s.meOn = true → s.on ncpB R.NCP_PORT_ENABLE = true → s.rd ncpB R.NCP_PORT_STATUS_STATE = 0 → u.rd ncpB R.NCP_PORT_STATUS_STATE = 1)))) ∧
  (∀ (m : Master) (w : Word) (s : State), (Served m true 0x00020000 w s →
      exec (.iroStbyWrite m w) s = .next (closed s.pending (wrote m 0x00020000 w (clkCtrl (s.getReg 0x00020000) w) s)))) ∧
  (∀ (m : Master) (w : Word) (s : State), Inv s → w.getLsbD 31 = false → (Served m true 0x00020000 w s → ∃ u, exec (.iroStbyWrite m w) s = .next (closed s.pending u) ∧
      (u.on clkB R.CLK_CTRL_IRO_STBY = (w.getLsbD 0 && (s.on clkB R.CLK_CTRL_IRO_STBY || (s.clkState == 0 && s.on clkB R.CLK_STATUS_SYSXI_OK))) ∧
    u.clkState = s.clkState ∧ u.mem = s.mem ∧ u.raised = s.raised))) ∧
  (∀ (m : Master) (w : Word) (s : State), Inv s → (Served m true 0x00020040 w s → ∃ u, exec (.gateRequest m w) s = .next (closed s.pending u) ∧
      (u.rd clkB R.CLK_GATE_CLOSE = fget w 13 0 ∧ u.raised = s.raised ∧ u.mem = s.mem ∧
    ∀ g : Fin 14, (w.getLsbD g.val = false → s.rd clkB R.CLK_GATE_CLOSE / 2 ^ g.val % 2 = 1 → u.gateShut g.val = false ∧ look ⟨0, false⟩ u.clk.gates g.val = ⟨0, false⟩) ∧
      (w.getLsbD g.val = true → s.rd clkB R.CLK_GATE_CLOSE / 2 ^ g.val % 2 = 0 → s.clkState = 0 → (look ⟨0, false⟩ u.clk.gates g.val).at_ = s.now + 1) ∧
      (w.getLsbD g.val = decide (s.rd clkB R.CLK_GATE_CLOSE / 2 ^ g.val % 2 = 1) → u.gateShut g.val = s.gateShut g.val)))) ∧
  (∀ (g : Fin 14) (mid : BitVec 8) (s : State), Inv s → s.bbOn = true → (look ⟨0, false⟩ s.clk.gates g.val).at_ ≠ 0 →
    ((look ⟨0, false⟩ s.clk.gates g.val).inj = false → s.waiting.any (fun a => gateOf a.addr == some g.val) = false → (∃ u, exec (.gateClose g) s = .next (closed s.pending u) ∧
      (u.gateShut g.val = true ∧ (∀ k : Fin 14, k ≠ g → u.gateShut k.val = s.gateShut k.val) ∧ u.raised = s.raised ∧ u.mem = s.mem))) ∧
    (∃ u, exec (.gateRefuseTimeout g mid) s = .next (closed s.pending u) ∧
      (u.rd clkB R.CLK_GATE_CLOSE = s.rd clkB R.CLK_GATE_CLOSE - s.rd clkB R.CLK_GATE_CLOSE / 2 ^ g.val % 2 * 2 ^ g.val ∧ Sends 0x3F4 u ∧
      u.now = max s.now ((look ⟨0, false⟩ s.clk.gates g.val).at_ - 1 + 390625) ∧ u.gateShut g.val = s.gateShut g.val ∧
      (s.on clkB R.CLK_GATE_REF_VALID = false → u.on clkB R.CLK_GATE_REF_VALID = true ∧ u.rd clkB R.CLK_GATE_REF_BLOCK = g.val ∧ u.rd clkB R.CLK_GATE_REF_MASTER = mid.toNat)))) ∧
  (∀ (m : Master) (w : Word) (s : State),
    let n := max 1 (s.rd clkB R.CLK_MON_CFG_N_BAD)
    let f := each [(0, fun t => { t with clk := { t.clk with inj := put 0 t.clk.inj 0 n } }), (1, fun t => { t with clk := { t.clk with inj := put 0 t.clk.inj 1 n } }), (2, fun t => { t with clk := { t.clk with injIro := true } }), (3, fun t => { t with clk := { t.clk with injGate := true } })]
    (Served m true 0x00020070 (fset w 0 0 1) s →
      exec (.clkInjLref m w) s = .next (closed s.pending (wrote m 0x00020070 (fset w 0 0 1) (f (fset w 0 0 1)) s))) ∧ (Served m true 0x00020070 (fset w 1 1 1) s →
      exec (.clkInjSysxi m w) s = .next (closed s.pending (wrote m 0x00020070 (fset w 1 1 1) (f (fset w 1 1 1)) s))) ∧
    (Served m true 0x00020070 (fset w 2 2 1) s →
      exec (.clkInjIro m w) s = .next (closed s.pending (wrote m 0x00020070 (fset w 2 2 1) (f (fset w 2 2 1)) s))) ∧ (Served m true 0x00020070 (fset w 3 3 1) s →
      exec (.clkInjGate m w) s = .next (closed s.pending (wrote m 0x00020070 (fset w 3 3 1) (f (fset w 3 3 1)) s))))

/-- Requests, answers, tokens and states of a power domain (spec/17_power_states.md). A write that changes one DOM_REQ bit
asks for one domain: an OFF domain is queued; one that is ON refuses (REFUSE restores the bit, logs, counts and raises
0x3F8), delays for a transfer in flight, or acknowledges and enters QUIESCE; one in the queue or in RAMP keeps the
request (R448 to R450, R457). A drained transfer completes a DELAY, 2 ms end it in REFUSE with cause 1. The head of
the queue is admitted once its tokens are free, and tokens return at their HOLD (R454). DIG_RDY brings a domain ON, 40
us without it bring it OFF with 0x3FA, and an open switch leaves it OFF or queued again (R447, R457). PWR.INJECT arms
one domain (R458). No other domain changes state. Under its premises on the state and operands alone, exec answers
next for: domPowerUpReq, domPowerDownReq, domDrained, domDrainTimeout, domAdmit, tokenReturn, domDigRdy, domRampFail,
domAnaRdy, domOff, pwrInjRefuse, pwrInjDomfail, pwrInjToken. -/
def Obligations.DomainPower : Prop :=
  (∀ (m : Master) (i : Fin 3) (b : Fin 32) (w : Word) (s : State), Inv s → 32 * i.val + b.val < 84 → s.domReq 82 = true →
    let d := 32 * i.val + b.val
    let a := 0x00030010 + 4 * i.val
    s.domState d = 0 → s.domReq d = false → w.getLsbD b.val = true → (∀ j : Fin 32, j ≠ b → w.getLsbD j.val = (s.getReg a).getLsbD j.val) →
    let P (u : State) : Prop := u.domState d = 1 ∧ (u.domOf d).queuedAt = s.now ∧ u.domReq d = true ∧ u.pwr.first = s.pwr.first ∧
      (∀ e : Dom, e.val ≠ d → u.domState e.val = s.domState e.val) ∧ u.raised = s.raised ∧ u.mem = s.mem
    (Served m true a w s → ∃ u, exec (.domPowerUpReq m i w) s = .next (closed s.pending u) ∧
      (P u)) ∧ (Served m true a w s → ∃ u, exec (.domPowerDownReq m i w) s = .next (closed s.pending u) ∧
      (P u))) ∧
  (∀ (m : Master) (i : Fin 3) (b : Fin 32) (w : Word) (s : State), Inv s → 32 * i.val + b.val < 82 → s.domReq 82 = true →
    let d := 32 * i.val + b.val
    let a := 0x00030010 + 4 * i.val
    let x := s.domOf d
    s.domState d = 3 → s.domReq d = true → w.getLsbD b.val = false → (∀ j : Fin 32, j ≠ b → w.getLsbD j.val = (s.getReg a).getLsbD j.val) →
    let v := stored a w s.fresh
    let t := if i.val = 2 then v.wr (reqB 64) R.PWR_DOM_REQ_REQ (setBit (v.rd (reqB 64) R.PWR_DOM_REQ_REQ % 2 ^ 20) 18) else v
    let use := s.on pwrB R.PWR_CTRL_FORCE = false ∧ standingUse d t = true
    let others (u : State) : Prop := ∀ e : Dom, e.val ≠ d → u.domState e.val = s.domState e.val
    (Served m true a w s → ∃ u, exec (.domPowerDownReq m i w) s = .next (closed s.pending u) ∧
      (others u ∧
      ((x.injRefuse = true ∨ use) → u.domState d = 3 ∧ u.domReq d = true ∧ u.rd (domB d) R.PWR_DOM_STAT_ANSWER = 3 ∧ u.rd (domB d) R.PWR_DOM_STAT_CAUSE = (if x.injRefuse = true then 4 else 2) ∧
        Sends 0x3F8 u ∧ u.rd pwrB R.PWR_CNT_REFUSALS = min 255 (s.rd pwrB R.PWR_CNT_REFUSALS + 1) ∧ u.pwr.log.length = min 16 (s.pwr.log.length + 1) ∧ (u.domOf d).injRefuse = false) ∧
      (x.injRefuse = false → ¬ use → inFlight d (m == .ncp) t = true → u.domState d = 3 ∧ u.domReq d = false ∧ u.rd (domB d) R.PWR_DOM_STAT_ANSWER = 2 ∧ (u.domOf d).delayAt = s.now + 1 ∧ u.raised = s.raised) ∧
      (x.injRefuse = false → ¬ use → inFlight d (m == .ncp) t = false → u.domState d = 4 ∧ u.domReq d = false ∧ u.rd (domB d) R.PWR_DOM_STAT_ANSWER = 1 ∧ u.rd (domB d) R.PWR_DOM_STAT_ANA_RDY = 0)))) ∧
  (∀ (m : Master) (i : Fin 3) (b : Fin 32) (w : Word) (s : State), Inv s → 32 * i.val + b.val < 82 → s.domReq 82 = true →
    let d := 32 * i.val + b.val
    let a := 0x00030010 + 4 * i.val
    (s.domState d = 1 ∨ s.domState d = 2) → s.domReq d = true → w.getLsbD b.val = false → (∀ j : Fin 32, j ≠ b → w.getLsbD j.val = (s.getReg a).getLsbD j.val) →
    (Served m true a w s → ∃ u, exec (.domPowerDownReq m i w) s = .next (closed s.pending u) ∧
      ((u.domOf d).down = true ∧ (∀ e : Dom, u.domState e.val = s.domState e.val) ∧ u.domReq d = false ∧ u.raised = s.raised))) ∧
  (∀ (d : Dom) (s : State), Inv s → s.domOn d.val = true → (s.domOf d.val).delayAt ≠ 0 →
    (inFlight d.val false s = false → s.pwrState ≠ 2 → (∃ u, exec (.domDrained d) s = .next (closed s.pending u) ∧
      (u.domState d.val = 4 ∧ u.rd (domB d.val) R.PWR_DOM_STAT_ANSWER = 1 ∧ (u.domOf d.val).delayAt = 0))) ∧
    (inFlight d.val false s = false → s.pwrState = 2 → (∃ u, exec (.domDrained d) s = .next (closed s.pending u) ∧
      (u.domState d.val = 3 ∧ u.rd (domB d.val) R.PWR_DOM_STAT_ANSWER = 1 ∧ (u.domOf d.val).ack = true ∧ (u.domOf d.val).delayAt = 0 ∧ u.mem = s.mem))) ∧
    (inFlight d.val false s = true → exec (.domDrained d) s = .next (closed s.pending s.fresh)) ∧
    (s.pwrState ≠ 2 → (∃ u, exec (.domDrainTimeout d) s = .next (closed s.pending u) ∧
      (u.domState d.val = 3 ∧ u.domReq d.val = true ∧ u.rd (domB d.val) R.PWR_DOM_STAT_ANSWER = 3 ∧ u.rd (domB d.val) R.PWR_DOM_STAT_CAUSE = 1 ∧
      Sends 0x3F8 u ∧ (u.domOf d.val).delayAt = 0 ∧ u.now = max s.now ((s.domOf d.val).delayAt - 1 + 78125000) ∧ u.mem = s.mem))) ∧
    (s.pwrState = 2 → (∃ u, exec (.domDrainTimeout d) s = .next (closed s.pending u) ∧
      (u.pwrState = thermalState s ∧ u.rd (domB d.val) R.PWR_DOM_STAT_ANSWER = 3 ∧ u.rd (domB d.val) R.PWR_DOM_STAT_CAUSE = 1 ∧ Sends 0x3F7 u)))) ∧
  (∀ (d : Dom) (s : State), Inv s → queueHead s = some d.val → s.pwrRuns = true →
    (tokReady d.val s = true → (s.domOf d.val).injToken = false → (∃ u, exec .domAdmit s = .next (closed s.pending u) ∧
      (u.domState d.val = 2 ∧ (∀ e : Dom, e ≠ d → u.domState e.val = s.domState e.val) ∧
      u.pwr.out = s.pwr.out ++ (domRails d.val).map (fun r => (r, (domNeed d.val).getD r 0, s.now + tokHold r s)) ∧ (u.domOf d.val).admitAt = s.now + 1 ∧
      (u.domOf d.val).failing = (s.domOf d.val).injFail ∧ (u.domOf d.val).injFail = false ∧ d.val ∉ u.pwr.first ∧ u.now = s.now ∧ u.mem = s.mem ∧
      u.rd (domB d.val) R.PWR_DOM_STAT_QWAIT = min ((s.now - (s.domOf d.val).queuedAt) * 2 / 78125) 65535))) ∧
    (tokReady d.val s = false → exec .domAdmit s = .next (closed s.pending s.fresh))) ∧
  (∀ (s : State), (∃ e ∈ s.pwr.out, s.now < e.2.2) → (∃ u, exec .tokenReturn s = .next (closed s.pending u) ∧
      ((∃ e ∈ s.pwr.out, u.now = e.2.2) ∧ (∀ e ∈ s.pwr.out, s.now < e.2.2 → u.now ≤ e.2.2) ∧ u.pwr.out = s.pwr.out.filter (fun e => decide (u.now < e.2.2)) ∧ u.regs = s.regs ∧ u.mem = s.mem))) ∧
  (∀ (d : Dom) (s : State), Inv s → s.domState d.val = 2 →
    ((s.domOf d.val).failing = false → (s.domOf d.val).down = false → s.pwrState ≠ 2 → (∃ u, exec (.domDigRdy d) s = .next (closed s.pending u) ∧
      (u.domState d.val = 3 ∧ u.on (domB d.val) R.PWR_DOM_STAT_DIG_RDY = true ∧
      u.rd (reqB d.val) R.PWR_DOM_ON_ON / 2 ^ (d.val % 32) % 2 = 1 ∧ (78 ≤ d.val ∧ d.val < 83 → u.anaRdy d.val = true) ∧ ∀ e : Dom, e ≠ d → u.domState e.val = s.domState e.val))) ∧
    ((s.domOf d.val).failing = true → exec (.domDigRdy d) s = .next (closed s.pending s.fresh)) ∧
    (∃ u, exec (.domRampFail d) s = .next (closed s.pending u) ∧
      (u.domState d.val = 0 ∧ Sends 0x3FA u ∧ u.now = max s.now ((s.domOf d.val).admitAt - 1 + 1562500) ∧ (u.domOf d.val).failing = false ∧ u.mem = s.mem ∧
      ∀ e : Dom, e ≠ d → u.domState e.val = s.domState e.val))) ∧
  (∀ (d : Dom) (s : State), Inv s →
    (s.domOn d.val = true → s.anaRdy d.val = false → (∃ u, exec (.domAnaRdy d) s = .next (closed s.pending u) ∧
      (u.anaRdy d.val = true ∧ u.mem = s.mem ∧ ∀ e : Dom, u.domState e.val = s.domState e.val))) ∧
    (s.domState d.val = 4 → (∃ u, exec (.domOff d) s = .next (closed s.pending u) ∧
      (u.domState d.val = (if domNeeded d.val s = true ∨ (s.domOf d.val).up = true then 1 else 0) ∧
      (domNeeded d.val s = true → u.pwr.first = s.pwr.first.filter (· != d.val) ++ [d.val]) ∧ (domNeeded d.val s = false → u.pwr.first = s.pwr.first) ∧
      u.raised = s.raised ∧ u.mem = s.mem ∧ ∀ e : Dom, e ≠ d → u.domState e.val = s.domState e.val)))) ∧
  (∀ (m : Master) (w : Word) (s : State) (v : Word), fget v 22 16 < 84 →
    let a := 0x00030070
    let d := fget v 22 16
    let f (t : State) : State := t.setDom d { t.domOf d with injRefuse := (t.domOf d).injRefuse || v.getLsbD 0, injFail := (t.domOf d).injFail || v.getLsbD 1, injToken := (t.domOf d).injToken || v.getLsbD 2 }
    (v = fset w 0 0 1 → (Served m true a v s →
      exec (.pwrInjRefuse m w) s = .next (closed s.pending (wrote m a v f s)))) ∧ (v = fset w 1 1 1 → (Served m true a v s →
      exec (.pwrInjDomfail m w) s = .next (closed s.pending (wrote m a v f s)))) ∧ (v = fset w 2 2 1 → (Served m true a v s →
      exec (.pwrInjToken m w) s = .next (closed s.pending (wrote m a v f s)))))

/-- REST entry, its refusals, and the wake (spec/17_power_states.md). REST_REQ in RUN or DIM enters the handshake: line 13
of the pair is raised, each domain that is ON acknowledges or delays, and one that refuses aborts the entry with 0x3F7
and the part back in RUN or DIM (R452, R453). SQ's answer is ACK or REFUSE; none by 2 ms counts as REFUSE. At the
commit instant every domain goes OFF and the part enters REST 50 us later; an access that waits is then a wake source
(R455). WAKE_N and the ember alarm wake the part or abort the entry (R456, R67). The wake runs the clocks, or ends in
clock SAFE, queues the domains that DOM_REQ asks for, and completes with 0x3F6 and the events that were held (R456,
R168). Under its premises on the state and operands alone, exec answers next for: restReq, sqAnswer, restSqTimeout,
restCommit, wakeNAssert, emberAlarm, wake, wakeComplete. -/
def Obligations.RestAndWake : Prop :=
  (∀ (m : Master) (w : Word) (s : State), Inv s → s.pwrState ≤ 1 → s.bbOn = true →
    let ons (d : Dom) : Prop := d.val ≠ 82 ∧ s.domOn d.val = true
    (Served m true 0x00030004 (fset w 31 31 1) s → ∃ u, exec (.restReq m w) s = .next (closed s.pending u) ∧
      (u.mem = s.mem ∧
      ((∀ d : Dom, ons d → (s.domOf d.val).injRefuse = false ∨ (s.domOf d.val).delayAt ≠ 0) → u.pwrState = 2 ∧ u.pwr.restAt = s.now ∧ u.pwr.wakeSrc = none ∧ (u.coreOf 16).csrF 0x012 13 13 = 1 ∧ u.raised = s.raised ∧
        (∀ d : Dom, u.domState d.val = s.domState d.val) ∧ ∀ d : Dom, ons d → (u.domOf d.val).ack = true ∨ (u.domOf d.val).delayAt ≠ 0) ∧
      ((∃ d : Dom, ons d ∧ (s.domOf d.val).injRefuse = true ∧ (s.domOf d.val).delayAt = 0) → u.pwrState = thermalState s ∧ Sends 0x3F7 u ∧ (u.coreOf 16).csrF 0x012 13 13 = 0 ∧
        u.rd pwrB R.PWR_CNT_ABORTS = min 255 (s.rd pwrB R.PWR_CNT_ABORTS + 1) ∧ ∀ d : Dom, ons d → (s.domOf d.val).injRefuse = true → (s.domOf d.val).delayAt = 0 → (u.domOf d.val).injRefuse = false ∧ u.rd (domB d.val) R.PWR_DOM_STAT_ANSWER = 3 ∧ u.rd (domB d.val) R.PWR_DOM_STAT_CAUSE = 4)))) ∧
  (∀ (m : Master) (w : Word) (s : State), Inv s → s.pwrState = 2 →
    (fget w 1 0 = 1 → (s.domOf 82).injRefuse = false → (Served m true 0x00030054 w s → ∃ u, exec (.sqAnswer m w) s = .next (closed s.pending u) ∧
      (u.pwrState = 2 ∧ (u.domOf 82).ack = true ∧ u.rd (domB 82) R.PWR_DOM_STAT_ANSWER = 1 ∧ u.raised = s.raised ∧ u.mem = s.mem))) ∧
    (fget w 1 0 = 2 → (s.domOf 82).injRefuse = false → (Served m true 0x00030054 w s → ∃ u, exec (.sqAnswer m w) s = .next (closed s.pending u) ∧
      (u.pwrState = 2 ∧ u.rd (domB 82) R.PWR_DOM_STAT_ANSWER = 2 ∧ u.doms = s.doms ∧ u.raised = s.raised ∧ u.mem = s.mem))) ∧
    (fget w 1 0 = 3 ∨ fget w 1 0 ≠ 0 ∧ (s.domOf 82).injRefuse = true → (Served m true 0x00030054 w s → ∃ u, exec (.sqAnswer m w) s = .next (closed s.pending u) ∧
      (u.pwrState = thermalState s ∧ Sends 0x3F7 u ∧ u.rd (domB 82) R.PWR_DOM_STAT_ANSWER = 3 ∧
      u.rd (domB 82) R.PWR_DOM_STAT_CAUSE = (if (s.domOf 82).injRefuse = true then 4 else 3) ∧ u.mem = s.mem))) ∧
    ((s.domOf 82).ack = false → (∃ u, exec .restSqTimeout s = .next (closed s.pending u) ∧
      (u.pwrState = thermalState s ∧ Sends 0x3F7 u ∧ u.rd (domB 82) R.PWR_DOM_STAT_ANSWER = 3 ∧ u.rd (domB 82) R.PWR_DOM_STAT_CAUSE = 3 ∧ u.now = max s.now (s.pwr.restAt + 78125000) ∧ u.mem = s.mem))) ∧
    ((s.domOf 82).ack = true → exec .restSqTimeout s = .next (closed s.pending s.fresh))) ∧
  (∀ (s : State), Inv s → s.pwrState = 2 → restReady s = true → (∃ u, exec .restCommit s = .next (closed s.pending u) ∧
      (u.pwrState = 3 ∧ (∀ d : Dom, u.domState d.val = 0) ∧ u.now = s.now + 1953125 ∧ u.pwr.first = [] ∧ u.kickAt = none ∧
    u.rd pwrB R.PWR_CNT_RESTS = min 65535 (s.rd pwrB R.PWR_CNT_RESTS + 1) ∧ u.on clkB R.CLK_STATUS_CORE_LOCK = false ∧ u.on clkB R.CLK_STATUS_MEM_LOCK = false ∧
    (s.pwr.wakeSrc = none → u.pwr.wakeSrc = if s.waiting = [] then none else some (5, u.now))))) ∧
  (∀ (back : Bool) (s : State), Inv s → s.por = false → s.off = false → s.fatal = false →
    let wakes := s.on pwrB R.PWR_CTRL_WAKE_N_EN = true ∧ (s.pwr.wakeBad = false ∨ back = true)
    (∃ u, exec (.wakeNAssert back) s = .next (closed s.pending u) ∧
      (u.on glbB R.GLB_PIN_STAT_LVL_WAKE = false ∧ u.mem = s.mem ∧
      (wakes → s.pwrState = 3 → s.pwr.wakeSrc = none → u.pwr.wakeSrc = some (2, s.now) ∧ u.pwrState = 3 ∧ u.raised = s.raised) ∧
      (wakes → s.pwrState = 2 → u.pwrState = thermalState s ∧ Sends 0x3F7 u) ∧
      (¬ wakes ∨ s.pwrState ≤ 1 → u.pwrState = s.pwrState ∧ u.pwr.wakeSrc = s.pwr.wakeSrc ∧ u.raised = s.raised))) ∧
    ((s.tl.alarmAt ≠ none) → s.on tlB R.TL_EMBER_CTRL_ALARM_EN = true → s.pwrState = 3 → s.pwr.wakeSrc = none → (∃ u, exec .emberAlarm s = .next (closed s.pending u) ∧
      (u.pwrState = 3 ∧ u.pwr.wakeSrc = some (3, u.now) ∧ s.now ≤ u.now ∧ u.mem = s.mem)))) ∧
  (∀ (us : BitVec 16) (core mem : Bool) (src t0 : Nat) (s : State), Inv s → s.pwrState = 3 → s.off = false → s.pwr.wakeSrc = some (src, t0) → (∀ d : Dom, s.domState d.val = 0) → (∃ u, exec (.wake us core mem) s = .next (closed s.pending u) ∧
      (u.pwrState = 4 ∧ u.pwr.wakeAt = t0 ∧ u.pwr.waking = src ∧ u.now = max s.now (t0 + (us.toNat * 78125 + 1) / 2) ∧ u.clkState = (if core = true then 0 else 2) ∧ u.on clkB R.CLK_STATUS_CORE_LOCK = (core || s.on clkB R.CLK_STATUS_CORE_LOCK) ∧
    (core = false → u.rd clkB R.CLK_STATUS_CAUSE = 2 ∧ u.on pwrB R.PWR_STATUS_SAFE_WAKE = true ∧ Sends 0x3F0 u) ∧ (mem = true → u.on clkB R.CLK_STATUS_MEM_LOCK = true) ∧ (mem = false → u.on clkB R.CLK_STATUS_MEM_LOCK = false ∧ u.clk.sysxiLoss = true) ∧
    ∀ d : Dom, u.domState d.val = (if s.domReq d.val = true ∨ s.waiting.any (fun a => a.dom == d.val) = true then 1 else 0)))) ∧
  (∀ (s : State), Inv s → s.pwrState = 4 → (∀ d : Dom, s.domState d.val ≠ 1 ∧ s.domState d.val ≠ 2) → (∃ u, exec .wakeComplete s = .next (closed s.pending u) ∧
      (u.pwrState = thermalState s ∧ u.rd pwrB R.PWR_WAKE_US = min ((s.now - s.pwr.wakeAt) * 2 / 78125) 65535 ∧ u.rd pwrB R.PWR_WAKE_SOURCE = s.pwr.waking % 8 ∧ Sends 0x3F6 u ∧ u.heldEvents = [] ∧
    (∀ id ∈ s.heldEvents, evDom id = none → Sends id u) ∧ u.mem = s.mem)))

/-- The housekeeping converter's rounds, dwells, self-calibration and legacy conversion
(spec/18_housekeeping_thermal_calibration.md). A round starts at its period with the first enabled channel, or counts
at once where none is enabled; a dwell's end writes MEAN, SEQ, MAX and MIN of its channel and goes on to the next one
or ends the round (R460 to R464). SELFCAL starts the self-calibration, is held by OP 1 and ignored while one runs; its
end writes both converters' factors, or keeps them with SC_LIMIT and 0x408 (R466, R467). TRK_CLR clears every tracker
(R482). LEGACY_CMD converts with converter A (R468). HK.INJECT arms its detections (R481). Under its premises on the
state and operands alone, exec answers next for: hkRoundStart, hkDwellEnd, selfcal, trkClr, selfcalDone, legacyCmd,
legacyConversionDone, hkInjTemp, hkInjFail, hkInjSc, hkInjWin. -/
def Obligations.Converter : Prop :=
  (∀ (s : State), Inv s → s.hkUp = true → s.hkRun = true → s.on hkB R.HK_STATUS_RUNNING = false → hkPaused s = false → (∃ u, exec .hkRoundStart s = .next (closed s.pending u) ∧
      (u.now = (if s.hk.roundAt = 0 then s.now else max s.now (s.hk.roundAt - 1 + (100 * s.rd hkB R.HK_CFG_ROUND_PER * 78125 + 1) / 2)) ∧ u.hk.roundAt = u.now + 1 ∧ u.mem = s.mem ∧
    ((∀ c : Fin 96, chanEn c.val s = false) → u.on hkB R.HK_STATUS_RUNNING = false ∧ u.rd hkB R.HK_STATUS_ROUNDS = (s.rd hkB R.HK_STATUS_ROUNDS + 1) % 256) ∧
    (∀ c : Fin 96, chanEn c.val s = true → (∀ d : Fin 96, d < c → chanEn d.val s = false) → u.on hkB R.HK_STATUS_RUNNING = true ∧ u.rd hkB R.HK_STATUS_CHAN = c.val ∧
      u.hk.settle = s.rd hkB R.HK_CFG_SETTLE ∧ u.hk.acc = chanAcc c.val s ∧ u.hk.dwellAt = u.now ∧ u.rd hkB R.HK_STATUS_ROUNDS = s.rd hkB R.HK_STATUS_ROUNDS ∧ u.raised = s.raised)))) ∧
  (∀ (raws : List (BitVec 12)) (s : State) (c : Fin 96), Inv s → s.hkUp = true → s.hkRun = true → s.on hkB R.HK_STATUS_RUNNING = true → hkPaused s = false → s.rd hkB R.HK_STATUS_CHAN = c.val →
    let b := hkB + 8 * c.val
    let ys := dwellValues raws s
    let mean := roundDiv (ys.foldl (· + ·) 0) (2 ^ s.hk.acc)
    let codes := ys.map (fun y => (clampI 0 4095 (roundDiv y 16)).toNat)
    (∃ u, exec (.hkDwellEnd raws) s = .next (closed s.pending u) ∧
      ((0 ≤ mean ∧ mean < 65536 → (u.rd b R.HK_RES_MEAN : Int) = mean) ∧ u.rd b R.HK_RES_SEQ = (s.rd b R.HK_RES_SEQ + 1) % 256 ∧
      u.rd b R.HK_TRK_MAX = codes.foldl max (s.rd b R.HK_TRK_MAX) ∧ u.rd b R.HK_TRK_MIN = codes.foldl min (s.rd b R.HK_TRK_MIN) ∧
      (∀ d : Fin 96, d ≠ c → u.getReg (hkB + 0x100 + 8 * d.val) = s.getReg (hkB + 0x100 + 8 * d.val) ∧ u.getReg (hkB + 0x104 + 8 * d.val) = s.getReg (hkB + 0x104 + 8 * d.val)) ∧
      u.now = max s.now (s.hk.dwellAt + ((s.hk.settle + 2 ^ s.hk.acc) * 78125 + 3) / 4) ∧ u.mem = s.mem ∧
      (∀ d : Fin 96, c < d → chanEn d.val s = true → (∀ e : Fin 96, c < e → e < d → chanEn e.val s = false) → u.rd hkB R.HK_STATUS_CHAN = d.val ∧ u.on hkB R.HK_STATUS_RUNNING = true) ∧
      ((∀ e : Fin 96, c < e → chanEn e.val s = false) → u.on hkB R.HK_STATUS_RUNNING = false ∧ u.rd hkB R.HK_STATUS_CHAN = 0 ∧ u.rd hkB R.HK_STATUS_ROUNDS = (s.rd hkB R.HK_STATUS_ROUNDS + 1) % 256)))) ∧
  (∀ (m : Master) (w : Word) (s : State), Inv s →
    (Served m true 0x00050000 (fset w 31 31 1) s → ∃ u, exec (.selfcal m w) s = .next (closed s.pending u) ∧
      (u.raised = s.raised ∧ u.mem = s.mem ∧
      (s.on hkB R.HK_STATUS_SC_BUSY = false → s.calRuns 1 = false → u.on hkB R.HK_STATUS_SC_BUSY = true ∧ u.hk.scAt = s.now ∧ u.hk.scTemp = (s.tsOf 30).last ∧ u.hk.scHeld = false) ∧
      (s.on hkB R.HK_STATUS_SC_BUSY = false → s.calRuns 1 = true → u.on hkB R.HK_STATUS_SC_BUSY = false ∧ u.hk.scHeld = true ∧ u.hk.scAt = s.hk.scAt) ∧
      (s.on hkB R.HK_STATUS_SC_BUSY = true → u.on hkB R.HK_STATUS_SC_BUSY = true ∧ u.hk.scAt = s.hk.scAt ∧ u.hk.scTemp = s.hk.scTemp))) ∧
    (Served m true 0x00050000 (fset w 30 30 1) s → ∃ u, exec (.trkClr m w) s = .next (closed s.pending u) ∧
      (u.raised = s.raised ∧ u.mem = s.mem ∧ ∀ c : Fin 96, u.rd (hkB + 8 * c.val) R.HK_TRK_MAX = 0 ∧ u.rd (hkB + 8 * c.val) R.HK_TRK_MIN = 0xFFF ∧
      u.getReg (hkB + 0x100 + 8 * c.val) = s.getReg (hkB + 0x100 + 8 * c.val)))) ∧
  (∀ (zA rA zB rB : Nat) (s : State), Inv s → s.hkUp = true → s.on hkB R.HK_STATUS_SC_BUSY = true →
    let a := scFactors zA rA
    let b := scFactors zB rB
    (∃ u, exec (.selfcalDone zA rA zB rB) s = .next (closed s.pending u) ∧
      (u.on hkB R.HK_STATUS_SC_BUSY = false ∧ u.hk.injSc = false ∧ u.now = max s.now (s.hk.scAt + 80156250) ∧ u.mem = s.mem ∧
      (scOk a = true → scOk b = true → s.hk.injSc = false → u.rdI hkB R.HK_SC_FACT_A_GAIN = a.2.getD 0 ∧ u.rdI hkB R.HK_SC_FACT_B_GAIN = b.2.getD 0 ∧
        (a.1 < 512 → u.rdI hkB R.HK_SC_FACT_A_OFS = a.1) ∧ (b.1 < 512 → u.rdI hkB R.HK_SC_FACT_B_OFS = b.1) ∧ u.raised = s.raised) ∧
      (scOk a = false ∨ scOk b = false ∨ s.hk.injSc = true → u.on hkB R.HK_STATUS_SC_LIMIT = true ∧ Sends 0x408 u ∧ u.getReg (hkB + 0x30) = s.getReg (hkB + 0x30) ∧ u.getReg (hkB + 0x34) = s.getReg (hkB + 0x34))))) ∧
  (∀ (raw : BitVec 12) (m : Master) (w : Word) (s : State), Inv s →
    (Served m true 0x00050038 (fset w 31 31 1) s → ∃ u, exec (.legacyCmd m w) s = .next (closed s.pending u) ∧
      (u.raised = s.raised ∧ u.mem = s.mem ∧
      (s.on hkB R.HK_CTRL_LEGACY_EN = true → s.on hkB R.HK_LEGACY_CMD_BUSY = false → u.on hkB R.HK_LEGACY_CMD_BUSY = true ∧ u.hk.legAt = s.now + 1) ∧
      (s.on hkB R.HK_CTRL_LEGACY_EN = false ∨ s.on hkB R.HK_LEGACY_CMD_BUSY = true → u.on hkB R.HK_LEGACY_CMD_BUSY = s.on hkB R.HK_LEGACY_CMD_BUSY ∧ u.hk.legAt = s.hk.legAt))) ∧
    (s.hkUp = true → s.on hkB R.HK_LEGACY_CMD_BUSY = true → legacyEarly s = false → (∃ u, exec (.legacyConversionDone raw) s = .next (closed s.pending u) ∧
      (u.on hkB R.HK_LEGACY_CMD_BUSY = false ∧ u.rd hkB R.HK_LEGACY_RES_CODE = hkCode (hkCorrect false raw.toNat s) ∧ u.on hkB R.HK_LEGACY_RES_VALID = true ∧ u.raised = s.raised ∧ u.mem = s.mem)))) ∧
  (∀ (m : Master) (w : Word) (s : State), Inv s →
    let a := 0x00050064
    let i := fget w 12 8
    let x := s.tsOf i
    (i < 31 → fget w 1 1 = 0 → (Served m true a (fset w 0 0 1) s → ∃ u, exec (.hkInjTemp m w) s = .next (closed s.pending u) ∧
      (u.tsOf i = { x with injTemp := 4, injDeg := fget w 23 16 }))) ∧
    (i < 31 → fget w 0 0 = 0 → (Served m true a (fset w 1 1 1) s → ∃ u, exec (.hkInjFail m w) s = .next (closed s.pending u) ∧
      (u.tsOf i = { x with injFail := 3 }))) ∧
    (Served m true a (fset w 2 2 1) s → ∃ u, exec (.hkInjSc m w) s = .next (closed s.pending u) ∧
      (u.hk.injSc = true ∧ u.raised = s.raised ∧ u.mem = s.mem)) ∧
    (Served m true a (fset w 3 3 1) s → ∃ u, exec (.hkInjWin m w) s = .next (closed s.pending u) ∧
      (u.hk.injWin / 2 ^ fget w 26 24 % 2 = 1 ∧ u.raised = s.raised ∧ u.mem = s.mem)))

/-- Readings of the thermal sensors, their levels, the shutdown and its records
(spec/18_housekeeping_thermal_calibration.md). Each reading takes its offset and stands; HOT is the greatest of the
sensors that have not failed, with its sensor (R469). WARN and THROTTLE set and clear after three readings in a row,
raise 0x404 and 0x405, and THROTTLE requests DIM (R470, R471). The third reading at 120.0 C or more shuts the part
down: every domain goes OFF, the outputs fall and a record is written to the AON copy and to the first free OTP slot
(R472, R473). SHUT_CLR with its key clears the records, or RESULT is 1 while VDD_BIAS is low or OTP is busy (R474). A
third invalid reading marks a sensor failed (R469). Under its premises on the state and operands alone, exec answers
next for: thermalReading, shutClr, shutClrDone. -/
def Obligations.Thermal : Prop :=
  (∀ (raws : List (BitVec 16)) (s : State), Inv s → s.por = false → s.off = false → s.pwrState ≤ 1 → s.hk.shut.on = false →
    let r (i : Fin 31) : Int := (raws.getD i.val 0).toInt + tsOfs i.val s
    (∀ i : Fin 31, (s.tsOf i.val).injTemp = 0 ∧ (s.tsOf i.val).injFail = 0 ∧ tsFailed i.val s = false ∧ -440 ≤ r i ∧ r i < 960) →
    (∃ u, exec (.thermalReading raws) s = .next (closed s.pending u) ∧
      ((∀ i : Fin 31, (u.tsOf i.val).last = r i ∧ (u.tsOf i.val).bad = 0 ∧ tsFailed i.val u = false) ∧ u.now = max s.now (s.hk.thAt + 781250) ∧ u.hk.thAt = u.now ∧
      u.on hkB R.HK_TH_STATUS_DIE_BLIND = false ∧ u.off = false ∧ u.mem = s.mem ∧ u.hk.shut = ⟨false, 0⟩ ∧
      ∃ i : Fin 31, u.rd hkB R.HK_TH_STATUS_HOT_TS = i.val ∧ u.rdI hkB R.HK_TH_STATUS_HOT = r i ∧ (∀ j : Fin 31, r j ≤ r i) ∧ (∀ j : Fin 31, j < i → r j < r i) ∧
        u.hk.warn = s.hk.warn.feed (r i) 800 (hyst R.HK_TH_CFG_H_WARN s) ∧ u.hk.thr = s.hk.thr.feed (r i) 880 (hyst R.HK_TH_CFG_H_THR s) ∧
        (u.hk.warn.on ≠ s.hk.warn.on → Sends 0x404 u ∧ u.on hkB R.HK_TH_STATUS_WARN = u.hk.warn.on) ∧
        (u.hk.thr.on ≠ s.hk.thr.on → Sends 0x405 u ∧ u.on hkB R.HK_TH_STATUS_THROTTLE = u.hk.thr.on) ∧
        (u.on hkB R.HK_TH_STATUS_DIM = (u.on hkB R.HK_TH_STATUS_THROTTLE || s.on hkB R.HK_TH_CFG_FORCE))))) ∧
  (∀ (x : LvlSt) (hot lvl h : Int), 0 < h →
    (x.on = false → (x.feed hot lvl h).on = decide (lvl ≤ hot ∧ 2 ≤ x.n) ∧ (hot < lvl → (x.feed hot lvl h).n = 0) ∧ (lvl ≤ hot → x.n < 2 → (x.feed hot lvl h).n = x.n + 1)) ∧
    (x.on = true → (x.feed hot lvl h).on = decide (¬ (hot < lvl - h ∧ 2 ≤ x.n)) ∧ (lvl - h ≤ hot → (x.feed hot lvl h).n = 0))) ∧
  (∀ (raws : List (BitVec 16)) (s : State) (k : Nat), Inv s → s.por = false → s.off = false → s.hk.shut = ⟨false, 2⟩ → s.biasUv = false → shutFree s = some k →
    let r (i : Fin 31) : Int := (raws.getD i.val 0).toInt + tsOfs i.val s
    (∀ i : Fin 31, (s.tsOf i.val).injTemp = 0 ∧ (s.tsOf i.val).injFail = 0 ∧ tsFailed i.val s = false ∧ -440 ≤ r i ∧ r i ≤ 1200) → (∃ i : Fin 31, 960 ≤ r i) →
    (∃ u, exec (.thermalReading raws) s = .next (closed s.pending u) ∧
      (u.off = true ∧ u.hk.offWait = true ∧ u.hk.shut = ⟨true, 0⟩ ∧ (∀ d : Dom, u.domState d.val = 0) ∧ u.pages = [] ∧
      ∃ i : Fin 31, (∀ j : Fin 31, r j ≤ r i) ∧ (∀ j : Fin 31, j < i → r j < r i) ∧ ∀ b ∈ [(Obj.shut 16).base, (Obj.shut k).base],
        u.on b R.HK_SHUT_REC2_VALID = true ∧ u.on b R.HK_SHUT_REC2_CLEARED = false ∧ u.rd b R.HK_SHUT_REC2_SENSOR = i.val ∧ u.rdI b R.HK_SHUT_REC2_READING = r i))) ∧
  (∀ (i : Fin 31) (raw : BitVec 16) (s : State), Inv s → (s.tsOf i.val).injTemp = 0 → (s.tsOf i.val).injFail = 0 →
    let v := raw.toInt + tsOfs i.val s
    let u := tsReading i.val raw s
    (v < -440 ∨ 1200 < v → (u.tsOf i.val).last = (s.tsOf i.val).last ∧ (u.tsOf i.val).good = 0 ∧ tsFailed i.val u = (tsFailed i.val s || decide (2 ≤ (s.tsOf i.val).bad)) ∧
      (tsFailed i.val s = false → 2 ≤ (s.tsOf i.val).bad → s.pwrState ≠ 3 → Sends 0x407 u)) ∧
    (-440 ≤ v → v ≤ 1200 → (u.tsOf i.val).last = v ∧ (u.tsOf i.val).bad = 0 ∧ tsFailed i.val u = (tsFailed i.val s && decide ((s.tsOf i.val).good < 15)) ∧ u.raised = s.raised) ∧
    (∀ j : Fin 31, j ≠ i → u.tsOf j.val = s.tsOf j.val ∧ tsFailed j.val u = tsFailed j.val s)) ∧
  (∀ (m : Master) (w : Word) (s : State), Inv s → (Served m true 0x00050460 (fset w 31 16 0x7C1E) s → ∃ u, exec (.shutClr m w) s = .next (closed s.pending u) ∧
      (u.raised = s.raised ∧ u.mem = s.mem ∧
    (s.on hkB R.HK_SHUT_CLR_BUSY = true → u.hk.clearing = s.hk.clearing ∧ u.rd hkB R.HK_SHUT_CLR_RESULT = s.rd hkB R.HK_SHUT_CLR_RESULT) ∧
    (s.on hkB R.HK_SHUT_CLR_BUSY = false → s.safeOp.isSome = true ∨ s.biasUv = true → u.rd hkB R.HK_SHUT_CLR_RESULT = 1 ∧ u.on hkB R.HK_SHUT_CLR_BUSY = false) ∧
    (s.on hkB R.HK_SHUT_CLR_BUSY = false → s.safeOp = none → s.biasUv = false → u.on hkB R.HK_SHUT_CLR_BUSY = true ∧ ∀ i : Fin 17, (u.hk.clearing / 2 ^ i.val % 2 == 1) = shutOpen i.val s)))) ∧
  (∀ (s : State), Inv s → s.on hkB R.HK_SHUT_CLR_BUSY = true → (∃ u, exec .shutClrDone s = .next (closed s.pending u) ∧
      (u.on hkB R.HK_SHUT_CLR_BUSY = false ∧ u.rd hkB R.HK_SHUT_CLR_RESULT = 0 ∧
    (∀ i : Fin 16, s.hk.clearing / 2 ^ i.val % 2 = 1 → shutOpen i.val u = false) ∧ (∀ i : Fin 16, s.hk.clearing / 2 ^ i.val % 2 = 0 → shutOpen i.val u = shutOpen i.val s) ∧ shutOpen 16 u = false ∧
    u.rd hkB R.HK_SHUT_CLR_PENDING = ((List.range 16).filter (fun i => shutOpen i s && s.hk.clearing / 2 ^ i % 2 == 0)).length ∧ u.raised = s.raised ∧ u.mem = s.mem)))

/-- Calibration runs and their results, the interpolation of a set, and the injections of CAL
(spec/18_housekeeping_thermal_calibration.md). CAL.CMD starts a run of its OP, or RESULT is 1 while one runs, the
converter is stopped or self-calibrates (R479). A run ends at its time with its result: OP 1 writes ABS from the mean
of CAL_REF, OP 2 the oscillators' errors and, without COMP_EN, their trims, OP 3 the offsets of the sensors that have
not failed, OP 4 applies sets; a measurement out of range gives 2, 3 or 4 and changes no target, and an armed INJ_FAIL
gives 5 (R480, R481). The end raises 0x40A or 0x40B. Between two points a value is interpolated, outside them the end
point's stands (R478). Under its premises on the state and operands alone, exec answers next for: calHkref, calOsc,
calTemp, calApply, calRunDone, calInjFail, calInjRange. -/
def Obligations.Calibration : Prop :=
  (∀ (m : Master) (w : Word) (s : State) (op : Fin 16), Inv s →
    let v := fset (fset w 19 16 op.val) 31 31 1
    let no := s.hk.run.isSome = true ∨ s.hkRun = false ∨ (op.val = 1 ∧ s.on hkB R.HK_STATUS_SC_BUSY = true)
    let P (u : State) : Prop := u.raised = s.raised ∧ u.mem = s.mem ∧
      (no → u.rd calB R.CAL_STATUS_RESULT = 1 ∧ u.hk = s.hk ∧ u.on calB R.CAL_STATUS_BUSY = s.on calB R.CAL_STATUS_BUSY) ∧
      (¬ no → u.on calB R.CAL_STATUS_BUSY = true ∧ u.rd calB R.CAL_STATUS_LAST_OP = op.val ∧ u.hk = { s.hk with run := some ⟨op.val, fget w 15 0, s.hk.injCal, false, s.now⟩, injCal := false } ∧
        (op.val = 2 → u.on clkB R.CLK_STATUS_CALCLK_OK = false))
    (op.val = 1 → (Served m true 0x00060000 v s → ∃ u, exec (.calHkref m w) s = .next (closed s.pending u) ∧
      (P u))) ∧ (op.val = 2 → (Served m true 0x00060000 v s → ∃ u, exec (.calOsc m w) s = .next (closed s.pending u) ∧
      (P u))) ∧
    (op.val = 3 → (Served m true 0x00060000 v s → ∃ u, exec (.calTemp m w) s = .next (closed s.pending u) ∧
      (P u))) ∧ (op.val = 4 → (Served m true 0x00060000 v s → ∃ u, exec (.calApply m w) s = .next (closed s.pending u) ∧
      (P u)))) ∧
  (∀ (x : CalMeas) (s : State) (r : CalRun), Inv s → s.hk.run = some r → s.bbOn = true → s.gateShut 12 = false → (r.op = 1 → s.hkUp = true) → s.hk.scHeld = false →
    let o := calOutcome r x (s.fresh.advanceNow (r.at_ + calTime r.op))
    let q := (o.map Prod.fst).getD 0
    o.isSome = true → (∃ u, exec (.calRunDone x) s = .next (closed s.pending u) ∧
      (u.hk.run = none ∧ u.on calB R.CAL_STATUS_BUSY = false ∧ u.rd calB R.CAL_STATUS_RESULT = (if r.inj = true then 5 else q) % 8 ∧ u.now = max s.now (r.at_ + calTime r.op) ∧
      Sends (if r.inj = false ∧ q = 0 then 0x40A else 0x40B) u ∧ u.mem = s.mem))) ∧
  (∀ (raws : List (BitVec 12)) (s : State) (r : CalRun), r.op = 1 →
    let sum := (List.range 4096).foldl (fun t i => t + hkCorrectAbs (i % 2 == 1) (raws.getD i 0).toNat 0 s) 0
    calOutcome r (.hkref raws) s = (if 2007 * 65536 ≤ sum ∧ sum ≤ 2089 * 65536 then some (0, s.wr calB R.CAL_ABS_ABS (trunc 11 (roundDiv (2 ^ 15 * ((2048 * 65536 : Int) - sum)) sum.toNat))) else some (2, s))) ∧
  (∀ (iro lpo : Nat) (it lt : BitVec 8) (s : State) (r : CalRun), Inv s → r.op = 2 →
    let o := calOutcome r (.osc iro lpo it lt) s
    let t := (o.getD (9, s)).2
    let ok := r.clkBad = false ∧ s.on clkB R.CLK_STATUS_CALCLK_OK = true ∧ 190000000 ≤ iro ∧ iro ≤ 210000000 ∧ 970000 ≤ lpo ∧ lpo ≤ 1030000
    (¬ ok → o = some (3, s)) ∧
    (ok → o = some (0, t) ∧ t.rdI calB R.CAL_OSC_RES_IRO_ERR = roundDiv ((iro : Int) - 200000000) 800 ∧ t.rdI calB R.CAL_OSC_RES_LPO_ERR = roundDiv ((lpo : Int) - 1000000) 4 ∧
      t.rd clkB R.CLK_COMP_IRO_TRIM = (if s.on clkB R.CLK_CTRL_COMP_EN = true then s.rd clkB R.CLK_COMP_IRO_TRIM else it.toNat) ∧
      t.rd clkB R.CLK_COMP_LPO_TRIM = (if s.on clkB R.CLK_CTRL_COMP_EN = true then s.rd clkB R.CLK_COMP_LPO_TRIM else lt.toNat) ∧ t.raised = s.raised ∧ t.mem = s.mem)) ∧
  (∀ (sums : List Int) (s : State) (r : CalRun), Inv s → r.op = 3 → r.arg < 65536 →
    let o := calOutcome r (.temp sums) s
    let t := (o.getD (9, s)).2
    let ofs (i : Fin 31) : Int := sext 16 r.arg - roundDiv (sums.getD i.val 0) 64
    let ok := ∀ i : Fin 31, tsFailed i.val s = false → (ofs i).natAbs ≤ 80
    (¬ ok → o = some (4, s)) ∧ (ok → o = some (0, t) ∧ (∀ i : Fin 31, tsOfs i.val t = if tsFailed i.val s = true then tsOfs i.val s else ofs i) ∧ t.raised = s.raised ∧ t.mem = s.mem)) ∧
  (∀ (t t0 t1 a b : Int), t0 < t1 → calInterp t [t0, t1] [[a], [b]] = [if t ≤ t0 then a else if t1 ≤ t then b else a + roundDiv ((b - a) * (t - t0)) (t1 - t0).natAbs]) ∧
  (∀ (m : Master) (w : Word) (s : State), Inv s →
    (Served m true 0x00060058 (fset w 0 0 1) s → ∃ u, exec (.calInjFail m w) s = .next (closed s.pending u) ∧
      (u.hk.injCal = true ∧ u.raised = s.raised ∧ u.mem = s.mem)) ∧
    (Served m true 0x00060058 (fset w 1 1 1) s → ∃ u, exec (.calInjRange m w) s = .next (closed s.pending u) ∧
      (u.hk.injRange = s.rd calB R.CAL_SET_SEL_SET + 1 ∧ u.raised = s.raised ∧ u.mem = s.mem)))

/-- The steps of a shade rotation, its tests, compares and swaps, and the injections of BIST
(spec/19_self_test_and_faults.md). A rotation step starts at its period and queues the shade for its token (R484,
R485). Step 2's signature passes on to the compare, or past it for a lane whose domain is off; one that fails marks
the shade FAILED, ends the step and raises 0x418 (R488). The compare ends in a swap at the next grid instant, or in
MISMATCH, SUSPECT, 0x419 and step 2 again. At S the crossbar maps TARGET to the shade, the relieved element is the new
shade, and every other lane keeps its element (R485). BIST.INJECT arms its detections (R503). Under its premises on
the state and operands alone, exec answers next for: rotationStep, shadeLbistDone, rotationCompareDone, rotationSwap,
bistInjShade, bistInjCmp, bistInjLoop, bistInjMbist. -/
def Obligations.ShadeRotation : Prop :=
  (∀ (j : Fin 8) (s : State), Inv s → rotMay j.val s = true → rotStep j.val s = 0 → (∃ u, exec (.rotationStep j) s = .next (closed s.pending u) ∧
      (fun t => rotStep j.val t = 1 ∧ (t.domOf (84 + j.val)).queuedAt = t.now + 1 ∧ domQueued (84 + j.val) t = true ∧
    t.now = (if (s.rotOf j.val).startAt = 0 then s.now else max s.now ((s.rotOf j.val).startAt - 1 + (16000 * max 1 (s.rd bistB R.BIST_ROT_CFG_ROT_PER) * 78125 + 1) / 2)) ∧ (t.rotOf j.val).startAt = t.now + 1 ∧
    t.rd (rotB j.val) R.BIST_ROT_CNT_TARGET = s.rd (rotB j.val) R.BIST_ROT_CNT_TARGET ∧ (∀ v : Fin 8, v ≠ j → t.rotOf v.val = s.rotOf v.val ∧ rotStep v.val t = rotStep v.val s) ∧ t.raised = s.raised ∧ t.mem = s.mem) u)) ∧
  (∀ (j : Fin 8) (s : State), rotMay j.val s = false ∨ rotStep j.val s ≠ 0 → exec (.rotationStep j) s = .next (closed s.pending s.fresh)) ∧
  (∀ (j : Fin 8) (sig : Word) (s : State), Inv s → rotRuns j.val s = true → rotStep j.val s = 2 → (s.rotOf j.val).redo = false →
    let p := s.rd (rotB j.val) R.BIST_ROT_STAT_SHADE
    let k := s.rd (rotB j.val) R.BIST_ROT_CNT_TARGET
    p < 17 → (s.rotOf j.val).relieved = none → (∃ u, exec (.shadeLbistDone j sig) s = .next (closed s.pending u) ∧
      (fun t => t.now = max s.now ((s.rotOf j.val).at_ + 48828125) ∧ t.mem = s.mem ∧ (t.rotOf j.val).injShade = false ∧
      ((s.rotOf j.val).injShade = false → sigOf (elemId j.val p) s = some sig ∨ sigOf (elemId j.val p) s = none → (rotStep j.val t = if j.val < 4 ∧ s.domOn (16 * j.val + k) = false then 5 else 4) ∧ t.raised = s.raised ∧ t.rd (rotB j.val) R.BIST_ROT_CNT_TARGET = k) ∧
      ((s.rotOf j.val).injShade = true ∨ (sigOf (elemId j.val p) s ≠ none ∧ sigOf (elemId j.val p) s ≠ some sig) → rotStep j.val t = 0 ∧ t.rd (rotB j.val) R.BIST_ROT_STAT_FAILED / 2 ^ p % 2 = 1 ∧ t.on (rotB j.val) R.BIST_ROT_STAT_NOSPARE = true ∧
        Sends 0x418 t ∧ t.rd (rotB j.val) R.BIST_ROT_CNT_TARGET = (k + 1) % 16 ∧ t.domOf (84 + j.val) = DomSt.idle)) u)) ∧
  (∀ (j : Fin 8) (differs : Bool) (s : State), Inv s → rotRuns j.val s = true → rotStep j.val s = 4 →
    let g := 2 ^ (s.rd bistB R.BIST_ROT_CFG_GRID + 16)
    (∃ u, exec (.rotationCompareDone j differs) s = .next (closed s.pending u) ∧
      (fun t =>
    t.mem = s.mem ∧ t.now = max s.now ((s.rotOf j.val).at_ + compareTime j.val s) ∧
    (differs = false → (s.rotOf j.val).injCmp = false → rotStep j.val t = 5 ∧ t.raised = s.raised ∧ ∃ e ∈ (t.rotOf j.val).swap, t.tlv.toNat + 16384 ≤ e.1 ∧ e.1 < t.tlv.toNat + 16384 + g ∧ e.1 % g = 0 ∧ e.2 = t.now + (e.1 - t.tlv.toNat)) ∧
    (differs = true ∨ (s.rotOf j.val).injCmp = true → rotStep j.val t = 2 ∧ (t.rotOf j.val).redo = true ∧ (t.rotOf j.val).injCmp = false ∧ (t.rotOf j.val).swap = none ∧ t.on (rotB j.val) R.BIST_ROT_STAT_SUSPECT = true ∧
      t.rd (rotB j.val) R.BIST_ROT_CNT_MISMATCH = min 255 (s.rd (rotB j.val) R.BIST_ROT_CNT_MISMATCH + 1) ∧ Sends 0x419 t)) u)) ∧
  (∀ (j : Fin 8) (s : State) (e : Nat × Nat), Inv s → rotRuns j.val s = true → rotStep j.val s = 5 → (s.rotOf j.val).swap = some e →
    let k := s.rd (rotB j.val) R.BIST_ROT_CNT_TARGET
    (∃ u, exec (.rotationSwap j) s = .next (closed s.pending u) ∧
      (fun t => mapGet j.val k t = s.rd (rotB j.val) R.BIST_ROT_STAT_SHADE ∧ t.rd (rotB j.val) R.BIST_ROT_STAT_SHADE = mapGet j.val k s ∧
      (∀ v : Fin 8, ∀ i : Fin 16, v ≠ j ∨ i.val ≠ k → mapGet v.val i.val t = mapGet v.val i.val s) ∧ t.rd (rotB j.val) R.BIST_ROT_CNT_TARGET = (k + 1) % 16 ∧
      t.rd (rotB j.val) R.BIST_ROT_CNT_SWAPS = min 65535 (s.rd (rotB j.val) R.BIST_ROT_CNT_SWAPS + 1) ∧ rotStep j.val t = (if (s.rotOf j.val).redo = true then 6 else 0) ∧
      ((s.rotOf j.val).redo = true → (t.rotOf j.val).relieved = some (mapGet j.val k s)) ∧ ((s.rotOf j.val).redo = false → t.domOf (84 + j.val) = DomSt.idle) ∧ t.raised = s.raised ∧ t.mem = s.mem) u)) ∧
  (∀ (m : Master) (w : Word) (s : State), Inv s →
    let i := fget w 10 8
    (Served m true 0x00080150 (fset w 0 0 1) s → ∃ u, exec (.bistInjShade m w) s = .next (closed s.pending u) ∧
      (fun t => (t.rotOf i).injShade = true ∧ t.raised = s.raised ∧ t.mem = s.mem) u) ∧
    (Served m true 0x00080150 (fset w 1 1 1) s → ∃ u, exec (.bistInjCmp m w) s = .next (closed s.pending u) ∧
      (fun t => (t.rotOf i).injCmp = true ∧ t.raised = s.raised ∧ t.mem = s.mem) u) ∧
    (Served m true 0x00080150 (fset w 2 2 1) s → ∃ u, exec (.bistInjLoop m w) s = .next (closed s.pending u) ∧
      (fun t => t.injLoop = true ∧ t.raised = s.raised ∧ t.mem = s.mem) u) ∧
    (Served m true 0x00080150 (fset w 3 3 1) s → ∃ u, exec (.bistInjMbist m w) s = .next (closed s.pending u) ∧
      (fun t => t.injMbist = true ∧ t.raised = s.raised ∧ t.mem = s.mem) u))

/-- The analogue checks, the repair fuses, the fault collector's commands, and ALIVE (spec/19_self_test_and_faults.md).
LOOP_CMD starts a check, or RESULT is 1 while one runs or its conditions fail; its end gives 0, 2, 3, 4 or 5 and 0x41A
for any but 0 (R493). FUSE_CMD with its key starts programming, RESULT 1 or 3 refuse it; a good read-back adds the
entry (R492). CLR_TOP, REC_CLR and CLR_TROUBLE clear what they name (R504). ALIVE toggles while the part is sound;
only a write by the pair kicks, and a window without one stops ALIVE and raises 0x41E (R501). FLT.INJECT raises 0x41C,
arms a full record memory, or takes a window as missed (R503). Under its premises on the state and operands alone,
exec answers next for: loopNearEnd, loopReference, loopCheckDone, fuseCmd, fuseProgDone, aliveToggle, aliveKick,
kickTimeout, clrTop, recClr, clrTrouble, fltInjLw, fltInjFull, fltInjKick. -/
def Obligations.ChecksAndFuses : Prop :=
  (∀ (m : Master) (w : Word) (s : State) (op : Fin 4), Inv s →
    let v := fset (fset w 1 0 op.val) 31 31 1
    let n := fget w 13 8
    let may := s.loop = none ∧ ((op.val = 1 ∧ loopMay n s = true) ∨ (op.val = 2 ∧ s.hkRun = true))
    let P (u : State) : Prop := u.raised = s.raised ∧ u.mem = s.mem ∧ (¬ may → u.rd bistB R.BIST_LOOP_CMD_RESULT = 1 ∧ u.loop = s.loop ∧ u.injLoop = s.injLoop) ∧
      (may → u.on bistB R.BIST_LOOP_CMD_BUSY = true ∧ u.loop = some ⟨op.val, n, s.injLoop⟩ ∧ u.injLoop = false)
    (op.val = 1 → (Served m true 0x00080130 v s → ∃ u, exec (.loopNearEnd m w) s = .next (closed s.pending u) ∧
      (P u))) ∧ (op.val = 2 → (Served m true 0x00080130 v s → ∃ u, exec (.loopReference m w) s = .next (closed s.pending u) ∧
      (P u)))) ∧
  (∀ (errors : Nat) (rms : BitVec 8) (failing : Option (BitVec 8)) (s : State) (r : LoopRun), Inv s → s.loop = some r → s.bbOn = true → s.gateShut 13 = false →
    let q := if r.inj = true then 5 else if r.op = 2 then (if failing = none then 0 else 4) else if errors ≠ 0 then 2
      else if s.rd bistB R.BIST_LOOP_LIM_RMS_LO ≤ rms.toNat ∧ rms.toNat ≤ s.rd bistB R.BIST_LOOP_LIM_RMS_HI then 0 else 3
    (∃ u, exec (.loopCheckDone errors rms failing) s = .next (closed s.pending u) ∧
      (u.loop = none ∧ u.on bistB R.BIST_LOOP_CMD_BUSY = false ∧ u.rd bistB R.BIST_LOOP_CMD_RESULT = q ∧ (q ≠ 0 → Sends 0x41A u) ∧ u.mem = s.mem ∧
      (r.op = 1 → u.rd bistB R.BIST_LOOP_RES_ERRORS = min errors 65535 ∧ u.rd bistB R.BIST_LOOP_RES_RMS = rms.toNat) ∧ (r.op ≠ 1 → ∀ c ∈ failing, u.rd bistB R.BIST_LOOP_RES_RMS = c.toNat)))) ∧
  (∀ (m : Master) (w : Word) (s : State), Inv s → (Served m true 0x00080140 (fset w 31 16 0xF05E) s → ∃ u, exec (.fuseCmd m w) s = .next (closed s.pending u) ∧
      (u.raised = s.raised ∧ u.mem = s.mem ∧ u.fuses = s.fuses ∧
    (s.fuseOp ≠ none ∨ s.biasUv = true → u.rd bistB R.BIST_FUSE_CMD_RESULT = 1 ∧ u.fuseOp = s.fuseOp) ∧
    (s.fuseOp = none → s.biasUv = false → 64 ≤ s.fuses.length → u.rd bistB R.BIST_FUSE_CMD_RESULT = 3 ∧ u.fuseOp = none) ∧
    (s.fuseOp = none → s.biasUv = false → s.fuses.length < 64 → u.on bistB R.BIST_FUSE_CMD_BUSY = true ∧ u.fuseOp = some (s.getReg 0x00080144, s.getReg 0x00080148))))) ∧
  (∀ (s : State) (e : Word × Word), Inv s → s.fuseOp = some e →
    (∃ u, exec (.fuseProgDone true) s = .next (closed s.pending u) ∧
      (u.fuses = s.fuses ++ [e] ∧ u.rd bistB R.BIST_FUSE_CMD_RESULT = 0 ∧ u.on bistB R.BIST_FUSE_CMD_BUSY = false ∧ u.fuseOp = none ∧ u.raised = s.raised ∧ u.mem = s.mem)) ∧
    (∃ u, exec (.fuseProgDone false) s = .next (closed s.pending u) ∧
      (u.rd bistB R.BIST_FUSE_CMD_RESULT = 2 ∧ u.on bistB R.BIST_FUSE_CMD_BUSY = false ∧ u.fuseOp = none ∧ Sends 0x41B u ∧ u.mem = s.mem))) ∧
  (∀ (s : State), Inv s → (aliveOn s = true → exec .aliveToggle s = .next (closed s.pending { s.fresh with alive := !s.alive, aliveAt := s.now })) ∧ (aliveOn s = false → exec .aliveToggle s = .next (closed s.pending { s.fresh with alive := false }))) ∧
  (∀ (m : Master) (w : Word) (s : State), (Served m true 0x00070008 w s →
      exec (.aliveKick m w) s = .next (closed s.pending (wrote m 0x00070008 w (fun t =>
    if m = .pair ∧ t.on fltB R.FLT_CTRL_KICK_EN = true ∧ t.bootState = 6 ∧ t.pwrState ≠ 3 then { t with kickAt := some t.now, kickMissed := false } else t) s)))) ∧
  (∀ (s : State) (t : Nat), Inv s → s.kickAt = some t → (∃ u, exec .kickTimeout s = .next (closed s.pending u) ∧
      (u.kickAt = none ∧ u.kickMissed = true ∧ u.now = max s.now (t + (1024 * max 1 (s.rd fltB R.FLT_CTRL_KICK_TO) * 78125 + 1) / 2) ∧ u.mem = s.mem ∧
    (aliveOn s = true → Sends 0x41E u) ∧ (s.on fltB R.FLT_CTRL_KICK_EN = true ∨ aliveMay s = false → u.alive = false)))) ∧
  (∀ (m : Master) (w : Word) (s : State), Inv s →
    let keeps (u : State) : Prop := u.raised = s.raised ∧ u.mem = s.mem ∧ ∀ i : Fin 4, u.getReg (0x00070040 + 4 * i.val) = s.getReg (0x00070040 + 4 * i.val)
    (Served m true 0x00070004 (fset w 31 31 1) s → ∃ u, exec (.clrTop m w) s = .next (closed s.pending u) ∧
      (keeps u ∧ u.rd fltB R.FLT_STATUS_TOP_CLASS = 0 ∧ (fget w 30 30 = 0 → u.rd fltB R.FLT_STATUS_REC_USED = s.rd fltB R.FLT_STATUS_REC_USED))) ∧
    (Served m true 0x00070004 (fset w 30 30 1) s → ∃ u, exec (.recClr m w) s = .next (closed s.pending u) ∧
      (keeps u ∧ u.rd fltB R.FLT_STATUS_REC_USED = 0 ∧ u.recFull = false ∧ (∀ i : Fin 8, u.on (Obj.errRec i.val).base R.FLT_REC_W0_VALID = false) ∧
      (fget w 31 31 = 0 → u.rd fltB R.FLT_STATUS_TOP_CLASS = s.rd fltB R.FLT_STATUS_TOP_CLASS)))) ∧
  (∀ (m : Master) (w : Word) (s : State) (id : Fin 1152), Inv s → s.rd fltB R.FLT_SRC_SEL_ID = id.val → (Served m true 0x00070014 (fset w 15 15 1) s → ∃ u, exec (.clrTrouble m w) s = .next (closed s.pending u) ∧
      (u.rd (Obj.src id.val).base R.FLT_SRC_CFG_TROUBLE = 0 ∧ u.raised = s.raised ∧ u.mem = s.mem ∧
    (u.getReg ((Obj.src id.val).base + 0x14) &&& 0x6F = (s.getReg ((Obj.src id.val).base + 0x14) &&& 0x6F &&& ~~~ srcWritable id.val) ||| (w &&& 0x6F &&& srcWritable id.val))))) ∧
  (∀ (m : Master) (w : Word) (s : State), Inv s →
    (Served m true 0x00070050 (fset w 0 0 1) s → ∃ u, exec (.fltInjLw m w) s = .next (closed s.pending u) ∧
      (Sends 0x41C) u) ∧ (Served m true 0x00070050 (fset w 1 1 1) s → ∃ u, exec (.fltInjFull m w) s = .next (closed s.pending u) ∧
      (u.injFull = true ∧ u.mem = s.mem)) ∧
    (s.kickAt ≠ none → (Served m true 0x00070050 (fset w 2 2 1) s → ∃ u, exec (.fltInjKick m w) s = .next (closed s.pending u) ∧
      (u.kickAt = none ∧ u.kickMissed = true ∧ (aliveOn s = true → Sends 0x41E u)))) ∧
    (s.kickAt = none → fget w 1 0 = 0 → (Served m true 0x00070050 (fset w 2 2 1) s → ∃ u, exec (.fltInjKick m w) s = .next (closed s.pending u) ∧
      (u.kickMissed = s.kickMissed ∧ u.raised = s.raised ∧ u.alive = s.alive))))

/-- Power-on reset, the supplies, RESET_N and the stuck pins (spec/20_pins_package_electrical.md,
spec/01_architecture.md). A rail below its limit puts the part in POR with every register at reset, and what OTP,
fuses and flash hold stays (R511, R512). Its release samples TEST_MODE (R514). VDD_BIAS below its limit sets
PIN_STAT.BIAS_UV, counts and clears every bias output; its return lets the outputs follow their targets again (R512).
RESET_N low begins a chip reset with cause PIN, but not in FATAL; high ends it, and sets RST_LONG after 1 s (R46,
R516, R497). WAKE_N low for too long sets WAKE_STUCK, counts and is no wake source; BIAS_CLR_N sets CLR_LONG; TL_SYNC
high for 1,024 cycles sets SYNC_STUCK and counts (R514). That RESET_CAUSE.PIN stays 0 for a level held through
power-on is the model's choice (log entry 13). Under its premises on the state and operands alone, exec answers next
for: railBrownout, porRelease, biasUndervoltage, biasUvRecover, resetNAssert, resetNRelease, wakeStuck, clrLong,
syncStuck. -/
def Obligations.PinsAndSupplies : Prop :=
  (∀ (s : State), Inv s → (∃ u, exec .railBrownout s = .next (closed s.pending u) ∧
      (u.por = true ∧ u.now = 0 ∧ u.mem = [] ∧ u.waiting = [] ∧ u.booted = false ∧ u.flash = s.flash ∧ u.fuses = s.fuses ∧ u.keyOtp = s.keyOtp ∧ u.biasUv = s.biasUv ∧ u.resetLow = s.resetLow ∧ u.raised = [] ∧
    (s.safeOp = none → u.otp = s.otp) ∧ u.tl = { TlSt.reset with rateFrom := none } ∧ u.getReg 0x00040000 = 0 ∧ (u.hk.offWait = (s.off || s.hk.offWait)) ∧ ∀ n : Lane, u.rxState n.val = 0))) ∧
  (∀ (t : Bool) (s : State), Inv s → s.por = true → (∃ u, exec (.porRelease t) s = .next (closed s.pending u) ∧
      (u.por = false ∧ u.inReset = s.resetLow ∧ u.on glbB R.GLB_PIN_STAT_TEST_HI = t ∧ u.on glbB R.GLB_PIN_STAT_BIAS_UV = s.biasUv ∧ u.bootFrom = s.now ∧
    u.on safeB R.SAFE_STATUS_OTP_READY = true ∧ u.bootState = s.bootState ∧ u.on glbB R.GLB_RESET_CAUSE_PIN = s.on glbB R.GLB_RESET_CAUSE_PIN ∧ u.mem = s.mem))) ∧
  (∀ (s : State), Inv s → s.por = false →
    (s.biasUv = false → (∃ u, exec .biasUndervoltage s = .next (closed s.pending u) ∧
      (u.biasUv = true ∧ u.on glbB R.GLB_PIN_STAT_BIAS_UV = true ∧ u.rd glbB R.GLB_PIN_CNT_BIAS_UV = min 255 (s.rd glbB R.GLB_PIN_CNT_BIAS_UV + 1) ∧ u.mem = s.mem ∧
      ∀ n : Lane, u.rd (laneB n.val) (fOut false) = 0 ∧ u.rd (laneB n.val) (fOut true) = 0))) ∧
    (s.biasUv = true → (∃ u, exec .biasUvRecover s = .next (closed s.pending u) ∧
      (u.biasUv = false ∧ u.rd glbB R.GLB_PIN_CNT_BIAS_UV = s.rd glbB R.GLB_PIN_CNT_BIAS_UV ∧ u.mem = s.mem)) ∧ exec .biasUndervoltage s = .next (closed s.pending s.fresh)) ∧
    (s.biasUv = false → exec .biasUvRecover s = .next (closed s.pending s.fresh))) ∧
  (∀ (s : State), Inv s → s.resetLow = false → s.por = false →
    (s.fatal = true → exec .resetNAssert s = .next (closed s.pending s.fresh)) ∧
    (s.fatal = false → (∃ u, exec .resetNAssert s = .next (closed s.pending u) ∧
      (u.inReset = true ∧ u.resetLow = true ∧ u.resetAt = s.now ∧ u.chipRstAt = none ∧ u.off = false ∧ u.on glbB R.GLB_RESET_CAUSE_PIN = true ∧ u.mem = s.mem ∧ u.waiting = [] ∧ u.bootState = 0 ∧
      u.hk.offWait = (s.off || s.hk.offWait) ∧ (∀ d : Dom, u.domState d.val = if s.domOn d.val = true then 3 else 1))))) ∧
  (∀ (long : Bool) (s : State), Inv s → s.resetLow = true → s.por = false → (∃ u, exec (.resetNRelease long) s = .next (closed s.pending u) ∧
      (u.resetLow = false ∧ u.mem = s.mem ∧
    (s.inReset = true → s.chipRstAt = none → u.inReset = false ∧ u.bootFrom = u.now) ∧ (s.chipRstAt ≠ none → u.inReset = s.inReset) ∧
    (long = true → u.on glbB R.GLB_PIN_STAT_RST_LONG = true ∧ u.now = max s.now (s.resetAt + 39062500000)) ∧ (long = false → u.on glbB R.GLB_PIN_STAT_RST_LONG = s.on glbB R.GLB_PIN_STAT_RST_LONG ∧ u.now = s.now)))) ∧
  (∀ (s : State), Inv s → s.por = false →
    (s.pwrState ≠ 3 → s.pwr.wakeBad = false → (∃ u, exec .wakeStuck s = .next (closed s.pending u) ∧
      (u.on glbB R.GLB_PIN_STAT_WAKE_STUCK = true ∧ u.rd glbB R.GLB_PIN_CNT_WAKE_STUCK = min 255 (s.rd glbB R.GLB_PIN_CNT_WAKE_STUCK + 1) ∧ u.pwr.wakeBad = true ∧ u.raised = s.raised ∧ u.mem = s.mem))) ∧
    (s.pwrState = 3 ∨ s.pwr.wakeBad = true → exec .wakeStuck s = .next (closed s.pending s.fresh)) ∧
    (s.on safeB R.SAFE_STATUS_PIN_CLR = true → exec .clrLong s = .next (closed s.pending (s.fresh.wr glbB R.GLB_PIN_STAT_CLR_LONG 1))) ∧ (s.on safeB R.SAFE_STATUS_PIN_CLR = false → exec .clrLong s = .next (closed s.pending s.fresh)) ∧
    (s.syncBad = none → (∃ u, exec .syncStuck s = .next (closed s.pending u) ∧
      (u.on glbB R.GLB_PIN_STAT_SYNC_STUCK = true ∧ u.rd glbB R.GLB_PIN_CNT_SYNC_STUCK = min 255 (s.rd glbB R.GLB_PIN_CNT_SYNC_STUCK + 1) ∧ u.syncBad = some s.now ∧ u.raised = s.raised ∧ u.mem = s.mem))) ∧
    (∀ t ∈ s.syncBad, s.now < t + 4000 → exec .syncStuck s = .next (closed s.pending s.fresh)))
end

