-- ==== Sys2Proof/Laws/State.lean ====
section
/-! SUPPORT. One lemma per field per update of the state: an update of one field leaves every other field. -/

namespace Sys2Proof.Machine

@[simp] theorem State.setReg_pending (s : State) (k : Nat) (w : Word) : (s.setReg k w).pending = s.pending := rfl
@[simp] theorem State.setReg_now (s : State) (k : Nat) (w : Word) : (s.setReg k w).now = s.now := rfl
@[simp] theorem State.setReg_free (s : State) (k : Nat) (w : Word) : (s.setReg k w).free = s.free := rfl
@[simp] theorem State.setReg_shadow (s : State) (k : Nat) (w : Word) : (s.setReg k w).shadow = s.shadow := rfl
@[simp] theorem State.setReg_latch (s : State) (k : Nat) (w : Word) : (s.setReg k w).latch = s.latch := rfl
@[simp] theorem State.setReg_mem (s : State) (k : Nat) (w : Word) : (s.setReg k w).mem = s.mem := rfl
@[simp] theorem State.setReg_pclkBase (s : State) (k : Nat) (w : Word) : (s.setReg k w).pclkBase = s.pclkBase := rfl
@[simp] theorem State.setReg_pclkAt (s : State) (k : Nat) (w : Word) : (s.setReg k w).pclkAt = s.pclkAt := rfl
@[simp] theorem State.setReg_resp (s : State) (k : Nat) (w : Word) : (s.setReg k w).resp = s.resp := rfl
@[simp] theorem State.setReg_waiting (s : State) (k : Nat) (w : Word) : (s.setReg k w).waiting = s.waiting := rfl
@[simp] theorem State.setReg_raised (s : State) (k : Nat) (w : Word) : (s.setReg k w).raised = s.raised := rfl
@[simp] theorem State.setReg_locksSet (s : State) (k : Nat) (w : Word) : (s.setReg k w).locksSet = s.locksSet := rfl
@[simp] theorem State.setReg_chipRstAt (s : State) (k : Nat) (w : Word) :
    (s.setReg k w).chipRstAt = s.chipRstAt := rfl
@[simp] theorem State.setReg_rstCause (s : State) (k : Nat) (w : Word) : (s.setReg k w).rstCause = s.rstCause := rfl
@[simp] theorem State.setReg_inReset (s : State) (k : Nat) (w : Word) : (s.setReg k w).inReset = s.inReset := rfl
@[simp] theorem State.setReg_recFull (s : State) (k : Nat) (w : Word) : (s.setReg k w).recFull = s.recFull := rfl
@[simp] theorem State.setReg_injFull (s : State) (k : Nat) (w : Word) : (s.setReg k w).injFull = s.injFull := rfl
@[simp] theorem State.setReg_tl (s : State) (k : Nat) (w : Word) : (s.setReg k w).tl = s.tl := rfl
@[simp] theorem State.setReg_acts (s : State) (k : Nat) (w : Word) : (s.setReg k w).acts = s.acts := rfl
@[simp] theorem State.setReg_commits (s : State) (k : Nat) (w : Word) : (s.setReg k w).commits = s.commits := rfl
@[simp] theorem State.setReg_lateSh (s : State) (k : Nat) (w : Word) : (s.setReg k w).lateSh = s.lateSh := rfl
@[simp] theorem State.setReg_commitAt (s : State) (k : Nat) (w : Word) : (s.setReg k w).commitAt = s.commitAt := rfl
@[simp] theorem State.setReg_legacy (s : State) (k : Nat) (w : Word) : (s.setReg k w).legacy = s.legacy := rfl
@[simp] theorem State.setReg_tagHist (s : State) (k : Nat) (w : Word) : (s.setReg k w).tagHist = s.tagHist := rfl
@[simp] theorem State.setReg_rx (s : State) (k : Nat) (w : Word) : (s.setReg k w).rx = s.rx := rfl
@[simp] theorem State.setReg_eq (s : State) (k : Nat) (w : Word) : (s.setReg k w).eq = s.eq := rfl
@[simp] theorem State.setReg_lateCoef (s : State) (k : Nat) (w : Word) : (s.setReg k w).lateCoef = s.lateCoef := rfl
@[simp] theorem State.setReg_tx (s : State) (k : Nat) (w : Word) : (s.setReg k w).tx = s.tx := rfl
@[simp] theorem State.setReg_famWas (s : State) (k : Nat) (w : Word) : (s.setReg k w).famWas = s.famWas := rfl
@[simp] theorem State.setReg_sscStart (s : State) (k : Nat) (w : Word) : (s.setReg k w).sscStart = s.sscStart := rfl
@[simp] theorem State.setReg_synLock (s : State) (k : Nat) (w : Word) : (s.setReg k w).synLock = s.synLock := rfl
@[simp] theorem State.setReg_bias (s : State) (k : Nat) (w : Word) : (s.setReg k w).bias = s.bias := rfl
@[simp] theorem State.setReg_otp (s : State) (k : Nat) (w : Word) : (s.setReg k w).otp = s.otp := rfl
@[simp] theorem State.setReg_otpLockA (s : State) (k : Nat) (w : Word) : (s.setReg k w).otpLockA = s.otpLockA := rfl
@[simp] theorem State.setReg_otpLockB (s : State) (k : Nat) (w : Word) : (s.setReg k w).otpLockB = s.otpLockB := rfl
@[simp] theorem State.setReg_safeOp (s : State) (k : Nat) (w : Word) : (s.setReg k w).safeOp = s.safeOp := rfl
@[simp] theorem State.setReg_injProg (s : State) (k : Nat) (w : Word) : (s.setReg k w).injProg = s.injProg := rfl
@[simp] theorem State.setReg_biasUv (s : State) (k : Nat) (w : Word) : (s.setReg k w).biasUv = s.biasUv := rfl
@[simp] theorem State.setReg_fatal (s : State) (k : Nat) (w : Word) : (s.setReg k w).fatal = s.fatal := rfl
@[simp] theorem State.setReg_off (s : State) (k : Nat) (w : Word) : (s.setReg k w).off = s.off := rfl
@[simp] theorem State.setReg_heldEvents (s : State) (k : Nat) (w : Word) :
    (s.setReg k w).heldEvents = s.heldEvents := rfl
@[simp] theorem State.setReg_acq (s : State) (k : Nat) (w : Word) : (s.setReg k w).acq = s.acq := rfl
@[simp] theorem State.setReg_am (s : State) (k : Nat) (w : Word) : (s.setReg k w).am = s.am := rfl
@[simp] theorem State.setReg_injSkew (s : State) (k : Nat) (w : Word) : (s.setReg k w).injSkew = s.injSkew := rfl
@[simp] theorem State.setReg_burstRecs (s : State) (k : Nat) (w : Word) :
    (s.setReg k w).burstRecs = s.burstRecs := rfl
@[simp] theorem State.setReg_fec (s : State) (k : Nat) (w : Word) : (s.setReg k w).fec = s.fec := rfl
@[simp] theorem State.setReg_forRecs (s : State) (k : Nat) (w : Word) : (s.setReg k w).forRecs = s.forRecs := rfl
@[simp] theorem State.setReg_injForDrop (s : State) (k : Nat) (w : Word) :
    (s.setReg k w).injForDrop = s.injForDrop := rfl
@[simp] theorem State.setReg_txCw (s : State) (k : Nat) (w : Word) : (s.setReg k w).txCw = s.txCw := rfl
@[simp] theorem State.setReg_txPair (s : State) (k : Nat) (w : Word) : (s.setReg k w).txPair = s.txPair := rfl
@[simp] theorem State.setReg_pcs (s : State) (k : Nat) (w : Word) : (s.setReg k w).pcs = s.pcs := rfl
@[simp] theorem State.setReg_flows (s : State) (k : Nat) (w : Word) : (s.setReg k w).flows = s.flows := rfl
@[simp] theorem State.setReg_flowSnap (s : State) (k : Nat) (w : Word) : (s.setReg k w).flowSnap = s.flowSnap := rfl
@[simp] theorem State.setReg_strms (s : State) (k : Nat) (w : Word) : (s.setReg k w).strms = s.strms := rfl
@[simp] theorem State.setReg_strmSnap (s : State) (k : Nat) (w : Word) : (s.setReg k w).strmSnap = s.strmSnap := rfl
@[simp] theorem State.setReg_snapped (s : State) (k : Nat) (w : Word) : (s.setReg k w).snapped = s.snapped := rfl
@[simp] theorem State.setReg_feInj (s : State) (k : Nat) (w : Word) : (s.setReg k w).feInj = s.feInj := rfl
@[simp] theorem State.setReg_txFrame (s : State) (k : Nat) (w : Word) : (s.setReg k w).txFrame = s.txFrame := rfl
@[simp] theorem State.setReg_feFree (s : State) (k : Nat) (w : Word) : (s.setReg k w).feFree = s.feFree := rfl
@[simp] theorem State.setReg_watch (s : State) (k : Nat) (w : Word) : (s.setReg k w).watch = s.watch := rfl
@[simp] theorem State.setReg_pages (s : State) (k : Nat) (w : Word) : (s.setReg k w).pages = s.pages := rfl
@[simp] theorem State.setReg_uncPend (s : State) (k : Nat) (w : Word) : (s.setReg k w).uncPend = s.uncPend := rfl
@[simp] theorem State.setReg_injAdmit (s : State) (k : Nat) (w : Word) : (s.setReg k w).injAdmit = s.injAdmit := rfl
@[simp] theorem State.setReg_remap (s : State) (k : Nat) (w : Word) : (s.setReg k w).remap = s.remap := rfl
@[simp] theorem State.setReg_spares (s : State) (k : Nat) (w : Word) : (s.setReg k w).spares = s.spares := rfl
@[simp] theorem State.setReg_repairTmp (s : State) (k : Nat) (w : Word) :
    (s.setReg k w).repairTmp = s.repairTmp := rfl
@[simp] theorem State.setReg_mcInj (s : State) (k : Nat) (w : Word) : (s.setReg k w).mcInj = s.mcInj := rfl
@[simp] theorem State.setReg_plots (s : State) (k : Nat) (w : Word) : (s.setReg k w).plots = s.plots := rfl
@[simp] theorem State.setReg_fires (s : State) (k : Nat) (w : Word) : (s.setReg k w).fires = s.fires := rfl
@[simp] theorem State.setReg_trigPost (s : State) (k : Nat) (w : Word) : (s.setReg k w).trigPost = s.trigPost := rfl
@[simp] theorem State.setReg_rps (s : State) (k : Nat) (w : Word) : (s.setReg k w).rps = s.rps := rfl
@[simp] theorem State.setReg_rpSym (s : State) (k : Nat) (w : Word) : (s.setReg k w).rpSym = s.rpSym := rfl
@[simp] theorem State.setReg_streams (s : State) (k : Nat) (w : Word) : (s.setReg k w).streams = s.streams := rfl
@[simp] theorem State.setReg_scrubAt (s : State) (k : Nat) (w : Word) : (s.setReg k w).scrubAt = s.scrubAt := rfl
@[simp] theorem State.setReg_haze (s : State) (k : Nat) (w : Word) : (s.setReg k w).haze = s.haze := rfl
@[simp] theorem State.setReg_hzQ (s : State) (k : Nat) (w : Word) : (s.setReg k w).hzQ = s.hzQ := rfl
@[simp] theorem State.setReg_hzDly (s : State) (k : Nat) (w : Word) : (s.setReg k w).hzDly = s.hzDly := rfl
@[simp] theorem State.setReg_hzHeld (s : State) (k : Nat) (w : Word) : (s.setReg k w).hzHeld = s.hzHeld := rfl
@[simp] theorem State.setReg_hzCnt (s : State) (k : Nat) (w : Word) : (s.setReg k w).hzCnt = s.hzCnt := rfl
@[simp] theorem State.setReg_hzInj (s : State) (k : Nat) (w : Word) : (s.setReg k w).hzInj = s.hzInj := rfl
@[simp] theorem State.setReg_cores (s : State) (k : Nat) (w : Word) : (s.setReg k w).cores = s.cores := rfl
@[simp] theorem State.setReg_coreSteps (s : State) (k : Nat) (w : Word) :
    (s.setReg k w).coreSteps = s.coreSteps := rfl
@[simp] theorem State.setReg_semSince (s : State) (k : Nat) (w : Word) : (s.setReg k w).semSince = s.semSince := rfl
@[simp] theorem State.setReg_nmtQ (s : State) (k : Nat) (w : Word) : (s.setReg k w).nmtQ = s.nmtQ := rfl
@[simp] theorem State.setReg_injMem (s : State) (k : Nat) (w : Word) : (s.setReg k w).injMem = s.injMem := rfl
@[simp] theorem State.setReg_injLockstep (s : State) (k : Nat) (w : Word) :
    (s.setReg k w).injLockstep = s.injLockstep := rfl
@[simp] theorem State.setReg_sess (s : State) (k : Nat) (w : Word) : (s.setReg k w).sess = s.sess := rfl
@[simp] theorem State.setReg_batches (s : State) (k : Nat) (w : Word) : (s.setReg k w).batches = s.batches := rfl
@[simp] theorem State.setReg_ncpCommits (s : State) (k : Nat) (w : Word) :
    (s.setReg k w).ncpCommits = s.ncpCommits := rfl
@[simp] theorem State.setReg_injBad (s : State) (k : Nat) (w : Word) : (s.setReg k w).injBad = s.injBad := rfl
@[simp] theorem State.setReg_injBatch (s : State) (k : Nat) (w : Word) : (s.setReg k w).injBatch = s.injBatch := rfl
@[simp] theorem State.setReg_portTx (s : State) (k : Nat) (w : Word) : (s.setReg k w).portTx = s.portTx := rfl
@[simp] theorem State.setReg_ncpJob (s : State) (k : Nat) (w : Word) : (s.setReg k w).ncpJob = s.ncpJob := rfl
@[simp] theorem State.setReg_ncpQ (s : State) (k : Nat) (w : Word) : (s.setReg k w).ncpQ = s.ncpQ := rfl
@[simp] theorem State.setReg_flash (s : State) (k : Nat) (w : Word) : (s.setReg k w).flash = s.flash := rfl
@[simp] theorem State.setReg_keyOtp (s : State) (k : Nat) (w : Word) : (s.setReg k w).keyOtp = s.keyOtp := rfl
@[simp] theorem State.setReg_keyOp (s : State) (k : Nat) (w : Word) : (s.setReg k w).keyOp = s.keyOp := rfl
@[simp] theorem State.setReg_qspiOp (s : State) (k : Nat) (w : Word) : (s.setReg k w).qspiOp = s.qspiOp := rfl
@[simp] theorem State.setReg_dieBad (s : State) (k : Nat) (w : Word) : (s.setReg k w).dieBad = s.dieBad := rfl
@[simp] theorem State.setReg_stackBad (s : State) (k : Nat) (w : Word) : (s.setReg k w).stackBad = s.stackBad := rfl
@[simp] theorem State.setReg_bootInj (s : State) (k : Nat) (w : Word) : (s.setReg k w).bootInj = s.bootInj := rfl
@[simp] theorem State.setReg_bootFrom (s : State) (k : Nat) (w : Word) : (s.setReg k w).bootFrom = s.bootFrom := rfl
@[simp] theorem State.setReg_mi2cLast (s : State) (k : Nat) (w : Word) : (s.setReg k w).mi2cLast = s.mi2cLast := rfl
@[simp] theorem State.setReg_mi2cAddr (s : State) (k : Nat) (w : Word) : (s.setReg k w).mi2cAddr = s.mi2cAddr := rfl
@[simp] theorem State.setReg_mi2cByte (s : State) (k : Nat) (w : Word) : (s.setReg k w).mi2cByte = s.mi2cByte := rfl
@[simp] theorem State.setReg_clk (s : State) (k : Nat) (w : Word) : (s.setReg k w).clk = s.clk := rfl
@[simp] theorem State.setReg_doms (s : State) (k : Nat) (w : Word) : (s.setReg k w).doms = s.doms := rfl
@[simp] theorem State.setReg_pwr (s : State) (k : Nat) (w : Word) : (s.setReg k w).pwr = s.pwr := rfl
@[simp] theorem State.setReg_hk (s : State) (k : Nat) (w : Word) : (s.setReg k w).hk = s.hk := rfl
@[simp] theorem State.setReg_calSets (s : State) (k : Nat) (w : Word) : (s.setReg k w).calSets = s.calSets := rfl
@[simp] theorem State.setReg_rot (s : State) (k : Nat) (w : Word) : (s.setReg k w).rot = s.rot := rfl
@[simp] theorem State.setReg_sigs (s : State) (k : Nat) (w : Word) : (s.setReg k w).sigs = s.sigs := rfl
@[simp] theorem State.setReg_unserved (s : State) (k : Nat) (w : Word) : (s.setReg k w).unserved = s.unserved := rfl
@[simp] theorem State.setReg_fuses (s : State) (k : Nat) (w : Word) : (s.setReg k w).fuses = s.fuses := rfl
@[simp] theorem State.setReg_fuseOp (s : State) (k : Nat) (w : Word) : (s.setReg k w).fuseOp = s.fuseOp := rfl
@[simp] theorem State.setReg_loop (s : State) (k : Nat) (w : Word) : (s.setReg k w).loop = s.loop := rfl
@[simp] theorem State.setReg_injLoop (s : State) (k : Nat) (w : Word) : (s.setReg k w).injLoop = s.injLoop := rfl
@[simp] theorem State.setReg_injMbist (s : State) (k : Nat) (w : Word) : (s.setReg k w).injMbist = s.injMbist := rfl
@[simp] theorem State.setReg_alive (s : State) (k : Nat) (w : Word) : (s.setReg k w).alive = s.alive := rfl
@[simp] theorem State.setReg_aliveAt (s : State) (k : Nat) (w : Word) : (s.setReg k w).aliveAt = s.aliveAt := rfl
@[simp] theorem State.setReg_kickAt (s : State) (k : Nat) (w : Word) : (s.setReg k w).kickAt = s.kickAt := rfl
@[simp] theorem State.setReg_kickMissed (s : State) (k : Nat) (w : Word) :
    (s.setReg k w).kickMissed = s.kickMissed := rfl
@[simp] theorem State.setReg_por (s : State) (k : Nat) (w : Word) : (s.setReg k w).por = s.por := rfl
@[simp] theorem State.setReg_resetLow (s : State) (k : Nat) (w : Word) : (s.setReg k w).resetLow = s.resetLow := rfl
@[simp] theorem State.setReg_resetAt (s : State) (k : Nat) (w : Word) : (s.setReg k w).resetAt = s.resetAt := rfl
@[simp] theorem State.setReg_syncBad (s : State) (k : Nat) (w : Word) : (s.setReg k w).syncBad = s.syncBad := rfl

@[simp] theorem State.setShadow_pending (s : State) (k : Nat) (w : Word) :
    (s.setShadow k w).pending = s.pending := rfl
@[simp] theorem State.setShadow_now (s : State) (k : Nat) (w : Word) : (s.setShadow k w).now = s.now := rfl
@[simp] theorem State.setShadow_free (s : State) (k : Nat) (w : Word) : (s.setShadow k w).free = s.free := rfl
@[simp] theorem State.setShadow_regs (s : State) (k : Nat) (w : Word) : (s.setShadow k w).regs = s.regs := rfl
@[simp] theorem State.setShadow_latch (s : State) (k : Nat) (w : Word) : (s.setShadow k w).latch = s.latch := rfl
@[simp] theorem State.setShadow_mem (s : State) (k : Nat) (w : Word) : (s.setShadow k w).mem = s.mem := rfl
@[simp] theorem State.setShadow_pclkBase (s : State) (k : Nat) (w : Word) :
    (s.setShadow k w).pclkBase = s.pclkBase := rfl
@[simp] theorem State.setShadow_pclkAt (s : State) (k : Nat) (w : Word) : (s.setShadow k w).pclkAt = s.pclkAt := rfl
@[simp] theorem State.setShadow_resp (s : State) (k : Nat) (w : Word) : (s.setShadow k w).resp = s.resp := rfl
@[simp] theorem State.setShadow_waiting (s : State) (k : Nat) (w : Word) :
    (s.setShadow k w).waiting = s.waiting := rfl
@[simp] theorem State.setShadow_raised (s : State) (k : Nat) (w : Word) : (s.setShadow k w).raised = s.raised := rfl
@[simp] theorem State.setShadow_locksSet (s : State) (k : Nat) (w : Word) :
    (s.setShadow k w).locksSet = s.locksSet := rfl
@[simp] theorem State.setShadow_chipRstAt (s : State) (k : Nat) (w : Word) :
    (s.setShadow k w).chipRstAt = s.chipRstAt := rfl
@[simp] theorem State.setShadow_rstCause (s : State) (k : Nat) (w : Word) :
    (s.setShadow k w).rstCause = s.rstCause := rfl
@[simp] theorem State.setShadow_inReset (s : State) (k : Nat) (w : Word) :
    (s.setShadow k w).inReset = s.inReset := rfl
@[simp] theorem State.setShadow_recFull (s : State) (k : Nat) (w : Word) :
    (s.setShadow k w).recFull = s.recFull := rfl
@[simp] theorem State.setShadow_injFull (s : State) (k : Nat) (w : Word) :
    (s.setShadow k w).injFull = s.injFull := rfl
@[simp] theorem State.setShadow_tl (s : State) (k : Nat) (w : Word) : (s.setShadow k w).tl = s.tl := rfl
@[simp] theorem State.setShadow_acts (s : State) (k : Nat) (w : Word) : (s.setShadow k w).acts = s.acts := rfl
@[simp] theorem State.setShadow_commits (s : State) (k : Nat) (w : Word) :
    (s.setShadow k w).commits = s.commits := rfl
@[simp] theorem State.setShadow_lateSh (s : State) (k : Nat) (w : Word) : (s.setShadow k w).lateSh = s.lateSh := rfl
@[simp] theorem State.setShadow_commitAt (s : State) (k : Nat) (w : Word) :
    (s.setShadow k w).commitAt = s.commitAt := rfl
@[simp] theorem State.setShadow_legacy (s : State) (k : Nat) (w : Word) : (s.setShadow k w).legacy = s.legacy := rfl
@[simp] theorem State.setShadow_tagHist (s : State) (k : Nat) (w : Word) :
    (s.setShadow k w).tagHist = s.tagHist := rfl
@[simp] theorem State.setShadow_rx (s : State) (k : Nat) (w : Word) : (s.setShadow k w).rx = s.rx := rfl
@[simp] theorem State.setShadow_eq (s : State) (k : Nat) (w : Word) : (s.setShadow k w).eq = s.eq := rfl
@[simp] theorem State.setShadow_lateCoef (s : State) (k : Nat) (w : Word) :
    (s.setShadow k w).lateCoef = s.lateCoef := rfl
@[simp] theorem State.setShadow_tx (s : State) (k : Nat) (w : Word) : (s.setShadow k w).tx = s.tx := rfl
@[simp] theorem State.setShadow_famWas (s : State) (k : Nat) (w : Word) : (s.setShadow k w).famWas = s.famWas := rfl
@[simp] theorem State.setShadow_sscStart (s : State) (k : Nat) (w : Word) :
    (s.setShadow k w).sscStart = s.sscStart := rfl
@[simp] theorem State.setShadow_synLock (s : State) (k : Nat) (w : Word) :
    (s.setShadow k w).synLock = s.synLock := rfl
@[simp] theorem State.setShadow_bias (s : State) (k : Nat) (w : Word) : (s.setShadow k w).bias = s.bias := rfl
@[simp] theorem State.setShadow_otp (s : State) (k : Nat) (w : Word) : (s.setShadow k w).otp = s.otp := rfl
@[simp] theorem State.setShadow_otpLockA (s : State) (k : Nat) (w : Word) :
    (s.setShadow k w).otpLockA = s.otpLockA := rfl
@[simp] theorem State.setShadow_otpLockB (s : State) (k : Nat) (w : Word) :
    (s.setShadow k w).otpLockB = s.otpLockB := rfl
@[simp] theorem State.setShadow_safeOp (s : State) (k : Nat) (w : Word) : (s.setShadow k w).safeOp = s.safeOp := rfl
@[simp] theorem State.setShadow_injProg (s : State) (k : Nat) (w : Word) :
    (s.setShadow k w).injProg = s.injProg := rfl
@[simp] theorem State.setShadow_biasUv (s : State) (k : Nat) (w : Word) : (s.setShadow k w).biasUv = s.biasUv := rfl
@[simp] theorem State.setShadow_fatal (s : State) (k : Nat) (w : Word) : (s.setShadow k w).fatal = s.fatal := rfl
@[simp] theorem State.setShadow_off (s : State) (k : Nat) (w : Word) : (s.setShadow k w).off = s.off := rfl
@[simp] theorem State.setShadow_heldEvents (s : State) (k : Nat) (w : Word) :
    (s.setShadow k w).heldEvents = s.heldEvents := rfl
@[simp] theorem State.setShadow_acq (s : State) (k : Nat) (w : Word) : (s.setShadow k w).acq = s.acq := rfl
@[simp] theorem State.setShadow_am (s : State) (k : Nat) (w : Word) : (s.setShadow k w).am = s.am := rfl
@[simp] theorem State.setShadow_injSkew (s : State) (k : Nat) (w : Word) :
    (s.setShadow k w).injSkew = s.injSkew := rfl
@[simp] theorem State.setShadow_burstRecs (s : State) (k : Nat) (w : Word) :
    (s.setShadow k w).burstRecs = s.burstRecs := rfl
@[simp] theorem State.setShadow_fec (s : State) (k : Nat) (w : Word) : (s.setShadow k w).fec = s.fec := rfl
@[simp] theorem State.setShadow_forRecs (s : State) (k : Nat) (w : Word) :
    (s.setShadow k w).forRecs = s.forRecs := rfl
@[simp] theorem State.setShadow_injForDrop (s : State) (k : Nat) (w : Word) :
    (s.setShadow k w).injForDrop = s.injForDrop := rfl
@[simp] theorem State.setShadow_txCw (s : State) (k : Nat) (w : Word) : (s.setShadow k w).txCw = s.txCw := rfl
@[simp] theorem State.setShadow_txPair (s : State) (k : Nat) (w : Word) : (s.setShadow k w).txPair = s.txPair := rfl
@[simp] theorem State.setShadow_pcs (s : State) (k : Nat) (w : Word) : (s.setShadow k w).pcs = s.pcs := rfl
@[simp] theorem State.setShadow_flows (s : State) (k : Nat) (w : Word) : (s.setShadow k w).flows = s.flows := rfl
@[simp] theorem State.setShadow_flowSnap (s : State) (k : Nat) (w : Word) :
    (s.setShadow k w).flowSnap = s.flowSnap := rfl
@[simp] theorem State.setShadow_strms (s : State) (k : Nat) (w : Word) : (s.setShadow k w).strms = s.strms := rfl
@[simp] theorem State.setShadow_strmSnap (s : State) (k : Nat) (w : Word) :
    (s.setShadow k w).strmSnap = s.strmSnap := rfl
@[simp] theorem State.setShadow_snapped (s : State) (k : Nat) (w : Word) :
    (s.setShadow k w).snapped = s.snapped := rfl
@[simp] theorem State.setShadow_feInj (s : State) (k : Nat) (w : Word) : (s.setShadow k w).feInj = s.feInj := rfl
@[simp] theorem State.setShadow_txFrame (s : State) (k : Nat) (w : Word) :
    (s.setShadow k w).txFrame = s.txFrame := rfl
@[simp] theorem State.setShadow_feFree (s : State) (k : Nat) (w : Word) : (s.setShadow k w).feFree = s.feFree := rfl
@[simp] theorem State.setShadow_watch (s : State) (k : Nat) (w : Word) : (s.setShadow k w).watch = s.watch := rfl
@[simp] theorem State.setShadow_pages (s : State) (k : Nat) (w : Word) : (s.setShadow k w).pages = s.pages := rfl
@[simp] theorem State.setShadow_uncPend (s : State) (k : Nat) (w : Word) :
    (s.setShadow k w).uncPend = s.uncPend := rfl
@[simp] theorem State.setShadow_injAdmit (s : State) (k : Nat) (w : Word) :
    (s.setShadow k w).injAdmit = s.injAdmit := rfl
@[simp] theorem State.setShadow_remap (s : State) (k : Nat) (w : Word) : (s.setShadow k w).remap = s.remap := rfl
@[simp] theorem State.setShadow_spares (s : State) (k : Nat) (w : Word) : (s.setShadow k w).spares = s.spares := rfl
@[simp] theorem State.setShadow_repairTmp (s : State) (k : Nat) (w : Word) :
    (s.setShadow k w).repairTmp = s.repairTmp := rfl
@[simp] theorem State.setShadow_mcInj (s : State) (k : Nat) (w : Word) : (s.setShadow k w).mcInj = s.mcInj := rfl
@[simp] theorem State.setShadow_plots (s : State) (k : Nat) (w : Word) : (s.setShadow k w).plots = s.plots := rfl
@[simp] theorem State.setShadow_fires (s : State) (k : Nat) (w : Word) : (s.setShadow k w).fires = s.fires := rfl
@[simp] theorem State.setShadow_trigPost (s : State) (k : Nat) (w : Word) :
    (s.setShadow k w).trigPost = s.trigPost := rfl
@[simp] theorem State.setShadow_rps (s : State) (k : Nat) (w : Word) : (s.setShadow k w).rps = s.rps := rfl
@[simp] theorem State.setShadow_rpSym (s : State) (k : Nat) (w : Word) : (s.setShadow k w).rpSym = s.rpSym := rfl
@[simp] theorem State.setShadow_streams (s : State) (k : Nat) (w : Word) :
    (s.setShadow k w).streams = s.streams := rfl
@[simp] theorem State.setShadow_scrubAt (s : State) (k : Nat) (w : Word) :
    (s.setShadow k w).scrubAt = s.scrubAt := rfl
@[simp] theorem State.setShadow_haze (s : State) (k : Nat) (w : Word) : (s.setShadow k w).haze = s.haze := rfl
@[simp] theorem State.setShadow_hzQ (s : State) (k : Nat) (w : Word) : (s.setShadow k w).hzQ = s.hzQ := rfl
@[simp] theorem State.setShadow_hzDly (s : State) (k : Nat) (w : Word) : (s.setShadow k w).hzDly = s.hzDly := rfl
@[simp] theorem State.setShadow_hzHeld (s : State) (k : Nat) (w : Word) : (s.setShadow k w).hzHeld = s.hzHeld := rfl
@[simp] theorem State.setShadow_hzCnt (s : State) (k : Nat) (w : Word) : (s.setShadow k w).hzCnt = s.hzCnt := rfl
@[simp] theorem State.setShadow_hzInj (s : State) (k : Nat) (w : Word) : (s.setShadow k w).hzInj = s.hzInj := rfl
@[simp] theorem State.setShadow_cores (s : State) (k : Nat) (w : Word) : (s.setShadow k w).cores = s.cores := rfl
@[simp] theorem State.setShadow_coreSteps (s : State) (k : Nat) (w : Word) :
    (s.setShadow k w).coreSteps = s.coreSteps := rfl
@[simp] theorem State.setShadow_semSince (s : State) (k : Nat) (w : Word) :
    (s.setShadow k w).semSince = s.semSince := rfl
@[simp] theorem State.setShadow_nmtQ (s : State) (k : Nat) (w : Word) : (s.setShadow k w).nmtQ = s.nmtQ := rfl
@[simp] theorem State.setShadow_injMem (s : State) (k : Nat) (w : Word) : (s.setShadow k w).injMem = s.injMem := rfl
@[simp] theorem State.setShadow_injLockstep (s : State) (k : Nat) (w : Word) :
    (s.setShadow k w).injLockstep = s.injLockstep := rfl
@[simp] theorem State.setShadow_sess (s : State) (k : Nat) (w : Word) : (s.setShadow k w).sess = s.sess := rfl
@[simp] theorem State.setShadow_batches (s : State) (k : Nat) (w : Word) :
    (s.setShadow k w).batches = s.batches := rfl
@[simp] theorem State.setShadow_ncpCommits (s : State) (k : Nat) (w : Word) :
    (s.setShadow k w).ncpCommits = s.ncpCommits := rfl
@[simp] theorem State.setShadow_injBad (s : State) (k : Nat) (w : Word) : (s.setShadow k w).injBad = s.injBad := rfl
@[simp] theorem State.setShadow_injBatch (s : State) (k : Nat) (w : Word) :
    (s.setShadow k w).injBatch = s.injBatch := rfl
@[simp] theorem State.setShadow_portTx (s : State) (k : Nat) (w : Word) : (s.setShadow k w).portTx = s.portTx := rfl
@[simp] theorem State.setShadow_ncpJob (s : State) (k : Nat) (w : Word) : (s.setShadow k w).ncpJob = s.ncpJob := rfl
@[simp] theorem State.setShadow_ncpQ (s : State) (k : Nat) (w : Word) : (s.setShadow k w).ncpQ = s.ncpQ := rfl
@[simp] theorem State.setShadow_flash (s : State) (k : Nat) (w : Word) : (s.setShadow k w).flash = s.flash := rfl
@[simp] theorem State.setShadow_keyOtp (s : State) (k : Nat) (w : Word) : (s.setShadow k w).keyOtp = s.keyOtp := rfl
@[simp] theorem State.setShadow_keyOp (s : State) (k : Nat) (w : Word) : (s.setShadow k w).keyOp = s.keyOp := rfl
@[simp] theorem State.setShadow_qspiOp (s : State) (k : Nat) (w : Word) : (s.setShadow k w).qspiOp = s.qspiOp := rfl
@[simp] theorem State.setShadow_dieBad (s : State) (k : Nat) (w : Word) : (s.setShadow k w).dieBad = s.dieBad := rfl
@[simp] theorem State.setShadow_stackBad (s : State) (k : Nat) (w : Word) :
    (s.setShadow k w).stackBad = s.stackBad := rfl
@[simp] theorem State.setShadow_bootInj (s : State) (k : Nat) (w : Word) :
    (s.setShadow k w).bootInj = s.bootInj := rfl
@[simp] theorem State.setShadow_bootFrom (s : State) (k : Nat) (w : Word) :
    (s.setShadow k w).bootFrom = s.bootFrom := rfl
@[simp] theorem State.setShadow_mi2cLast (s : State) (k : Nat) (w : Word) :
    (s.setShadow k w).mi2cLast = s.mi2cLast := rfl
@[simp] theorem State.setShadow_mi2cAddr (s : State) (k : Nat) (w : Word) :
    (s.setShadow k w).mi2cAddr = s.mi2cAddr := rfl
@[simp] theorem State.setShadow_mi2cByte (s : State) (k : Nat) (w : Word) :
    (s.setShadow k w).mi2cByte = s.mi2cByte := rfl
@[simp] theorem State.setShadow_clk (s : State) (k : Nat) (w : Word) : (s.setShadow k w).clk = s.clk := rfl
@[simp] theorem State.setShadow_doms (s : State) (k : Nat) (w : Word) : (s.setShadow k w).doms = s.doms := rfl
@[simp] theorem State.setShadow_pwr (s : State) (k : Nat) (w : Word) : (s.setShadow k w).pwr = s.pwr := rfl
@[simp] theorem State.setShadow_hk (s : State) (k : Nat) (w : Word) : (s.setShadow k w).hk = s.hk := rfl
@[simp] theorem State.setShadow_calSets (s : State) (k : Nat) (w : Word) :
    (s.setShadow k w).calSets = s.calSets := rfl
@[simp] theorem State.setShadow_rot (s : State) (k : Nat) (w : Word) : (s.setShadow k w).rot = s.rot := rfl
@[simp] theorem State.setShadow_sigs (s : State) (k : Nat) (w : Word) : (s.setShadow k w).sigs = s.sigs := rfl
@[simp] theorem State.setShadow_unserved (s : State) (k : Nat) (w : Word) :
    (s.setShadow k w).unserved = s.unserved := rfl
@[simp] theorem State.setShadow_fuses (s : State) (k : Nat) (w : Word) : (s.setShadow k w).fuses = s.fuses := rfl
@[simp] theorem State.setShadow_fuseOp (s : State) (k : Nat) (w : Word) : (s.setShadow k w).fuseOp = s.fuseOp := rfl
@[simp] theorem State.setShadow_loop (s : State) (k : Nat) (w : Word) : (s.setShadow k w).loop = s.loop := rfl
@[simp] theorem State.setShadow_injLoop (s : State) (k : Nat) (w : Word) :
    (s.setShadow k w).injLoop = s.injLoop := rfl
@[simp] theorem State.setShadow_injMbist (s : State) (k : Nat) (w : Word) :
    (s.setShadow k w).injMbist = s.injMbist := rfl
@[simp] theorem State.setShadow_alive (s : State) (k : Nat) (w : Word) : (s.setShadow k w).alive = s.alive := rfl
@[simp] theorem State.setShadow_aliveAt (s : State) (k : Nat) (w : Word) :
    (s.setShadow k w).aliveAt = s.aliveAt := rfl
@[simp] theorem State.setShadow_kickAt (s : State) (k : Nat) (w : Word) : (s.setShadow k w).kickAt = s.kickAt := rfl
@[simp] theorem State.setShadow_kickMissed (s : State) (k : Nat) (w : Word) :
    (s.setShadow k w).kickMissed = s.kickMissed := rfl
@[simp] theorem State.setShadow_por (s : State) (k : Nat) (w : Word) : (s.setShadow k w).por = s.por := rfl
@[simp] theorem State.setShadow_resetLow (s : State) (k : Nat) (w : Word) :
    (s.setShadow k w).resetLow = s.resetLow := rfl
@[simp] theorem State.setShadow_resetAt (s : State) (k : Nat) (w : Word) :
    (s.setShadow k w).resetAt = s.resetAt := rfl
@[simp] theorem State.setShadow_syncBad (s : State) (k : Nat) (w : Word) :
    (s.setShadow k w).syncBad = s.syncBad := rfl

@[simp] theorem State.wr_pending (s : State) (b : Nat) (f : Fld) (v : Nat) : (s.wr b f v).pending = s.pending := rfl
@[simp] theorem State.wr_now (s : State) (b : Nat) (f : Fld) (v : Nat) : (s.wr b f v).now = s.now := rfl
@[simp] theorem State.wr_free (s : State) (b : Nat) (f : Fld) (v : Nat) : (s.wr b f v).free = s.free := rfl
@[simp] theorem State.wr_shadow (s : State) (b : Nat) (f : Fld) (v : Nat) : (s.wr b f v).shadow = s.shadow := rfl
@[simp] theorem State.wr_latch (s : State) (b : Nat) (f : Fld) (v : Nat) : (s.wr b f v).latch = s.latch := rfl
@[simp] theorem State.wr_mem (s : State) (b : Nat) (f : Fld) (v : Nat) : (s.wr b f v).mem = s.mem := rfl
@[simp] theorem State.wr_pclkBase (s : State) (b : Nat) (f : Fld) (v : Nat) :
    (s.wr b f v).pclkBase = s.pclkBase := rfl
@[simp] theorem State.wr_pclkAt (s : State) (b : Nat) (f : Fld) (v : Nat) : (s.wr b f v).pclkAt = s.pclkAt := rfl
@[simp] theorem State.wr_resp (s : State) (b : Nat) (f : Fld) (v : Nat) : (s.wr b f v).resp = s.resp := rfl
@[simp] theorem State.wr_waiting (s : State) (b : Nat) (f : Fld) (v : Nat) : (s.wr b f v).waiting = s.waiting := rfl
@[simp] theorem State.wr_raised (s : State) (b : Nat) (f : Fld) (v : Nat) : (s.wr b f v).raised = s.raised := rfl
@[simp] theorem State.wr_locksSet (s : State) (b : Nat) (f : Fld) (v : Nat) :
    (s.wr b f v).locksSet = s.locksSet := rfl
@[simp] theorem State.wr_chipRstAt (s : State) (b : Nat) (f : Fld) (v : Nat) :
    (s.wr b f v).chipRstAt = s.chipRstAt := rfl
@[simp] theorem State.wr_rstCause (s : State) (b : Nat) (f : Fld) (v : Nat) :
    (s.wr b f v).rstCause = s.rstCause := rfl
@[simp] theorem State.wr_inReset (s : State) (b : Nat) (f : Fld) (v : Nat) : (s.wr b f v).inReset = s.inReset := rfl
@[simp] theorem State.wr_recFull (s : State) (b : Nat) (f : Fld) (v : Nat) : (s.wr b f v).recFull = s.recFull := rfl
@[simp] theorem State.wr_injFull (s : State) (b : Nat) (f : Fld) (v : Nat) : (s.wr b f v).injFull = s.injFull := rfl
@[simp] theorem State.wr_tl (s : State) (b : Nat) (f : Fld) (v : Nat) : (s.wr b f v).tl = s.tl := rfl
@[simp] theorem State.wr_acts (s : State) (b : Nat) (f : Fld) (v : Nat) : (s.wr b f v).acts = s.acts := rfl
@[simp] theorem State.wr_commits (s : State) (b : Nat) (f : Fld) (v : Nat) : (s.wr b f v).commits = s.commits := rfl
@[simp] theorem State.wr_lateSh (s : State) (b : Nat) (f : Fld) (v : Nat) : (s.wr b f v).lateSh = s.lateSh := rfl
@[simp] theorem State.wr_commitAt (s : State) (b : Nat) (f : Fld) (v : Nat) :
    (s.wr b f v).commitAt = s.commitAt := rfl
@[simp] theorem State.wr_legacy (s : State) (b : Nat) (f : Fld) (v : Nat) : (s.wr b f v).legacy = s.legacy := rfl
@[simp] theorem State.wr_tagHist (s : State) (b : Nat) (f : Fld) (v : Nat) : (s.wr b f v).tagHist = s.tagHist := rfl
@[simp] theorem State.wr_rx (s : State) (b : Nat) (f : Fld) (v : Nat) : (s.wr b f v).rx = s.rx := rfl
@[simp] theorem State.wr_eq (s : State) (b : Nat) (f : Fld) (v : Nat) : (s.wr b f v).eq = s.eq := rfl
@[simp] theorem State.wr_lateCoef (s : State) (b : Nat) (f : Fld) (v : Nat) :
    (s.wr b f v).lateCoef = s.lateCoef := rfl
@[simp] theorem State.wr_tx (s : State) (b : Nat) (f : Fld) (v : Nat) : (s.wr b f v).tx = s.tx := rfl
@[simp] theorem State.wr_famWas (s : State) (b : Nat) (f : Fld) (v : Nat) : (s.wr b f v).famWas = s.famWas := rfl
@[simp] theorem State.wr_sscStart (s : State) (b : Nat) (f : Fld) (v : Nat) :
    (s.wr b f v).sscStart = s.sscStart := rfl
@[simp] theorem State.wr_synLock (s : State) (b : Nat) (f : Fld) (v : Nat) : (s.wr b f v).synLock = s.synLock := rfl
@[simp] theorem State.wr_bias (s : State) (b : Nat) (f : Fld) (v : Nat) : (s.wr b f v).bias = s.bias := rfl
@[simp] theorem State.wr_otp (s : State) (b : Nat) (f : Fld) (v : Nat) : (s.wr b f v).otp = s.otp := rfl
@[simp] theorem State.wr_otpLockA (s : State) (b : Nat) (f : Fld) (v : Nat) :
    (s.wr b f v).otpLockA = s.otpLockA := rfl
@[simp] theorem State.wr_otpLockB (s : State) (b : Nat) (f : Fld) (v : Nat) :
    (s.wr b f v).otpLockB = s.otpLockB := rfl
@[simp] theorem State.wr_safeOp (s : State) (b : Nat) (f : Fld) (v : Nat) : (s.wr b f v).safeOp = s.safeOp := rfl
@[simp] theorem State.wr_injProg (s : State) (b : Nat) (f : Fld) (v : Nat) : (s.wr b f v).injProg = s.injProg := rfl
@[simp] theorem State.wr_biasUv (s : State) (b : Nat) (f : Fld) (v : Nat) : (s.wr b f v).biasUv = s.biasUv := rfl
@[simp] theorem State.wr_fatal (s : State) (b : Nat) (f : Fld) (v : Nat) : (s.wr b f v).fatal = s.fatal := rfl
@[simp] theorem State.wr_off (s : State) (b : Nat) (f : Fld) (v : Nat) : (s.wr b f v).off = s.off := rfl
@[simp] theorem State.wr_heldEvents (s : State) (b : Nat) (f : Fld) (v : Nat) :
    (s.wr b f v).heldEvents = s.heldEvents := rfl
@[simp] theorem State.wr_acq (s : State) (b : Nat) (f : Fld) (v : Nat) : (s.wr b f v).acq = s.acq := rfl
@[simp] theorem State.wr_am (s : State) (b : Nat) (f : Fld) (v : Nat) : (s.wr b f v).am = s.am := rfl
@[simp] theorem State.wr_injSkew (s : State) (b : Nat) (f : Fld) (v : Nat) : (s.wr b f v).injSkew = s.injSkew := rfl
@[simp] theorem State.wr_burstRecs (s : State) (b : Nat) (f : Fld) (v : Nat) :
    (s.wr b f v).burstRecs = s.burstRecs := rfl
@[simp] theorem State.wr_fec (s : State) (b : Nat) (f : Fld) (v : Nat) : (s.wr b f v).fec = s.fec := rfl
@[simp] theorem State.wr_forRecs (s : State) (b : Nat) (f : Fld) (v : Nat) : (s.wr b f v).forRecs = s.forRecs := rfl
@[simp] theorem State.wr_injForDrop (s : State) (b : Nat) (f : Fld) (v : Nat) :
    (s.wr b f v).injForDrop = s.injForDrop := rfl
@[simp] theorem State.wr_txCw (s : State) (b : Nat) (f : Fld) (v : Nat) : (s.wr b f v).txCw = s.txCw := rfl
@[simp] theorem State.wr_txPair (s : State) (b : Nat) (f : Fld) (v : Nat) : (s.wr b f v).txPair = s.txPair := rfl
@[simp] theorem State.wr_pcs (s : State) (b : Nat) (f : Fld) (v : Nat) : (s.wr b f v).pcs = s.pcs := rfl
@[simp] theorem State.wr_flows (s : State) (b : Nat) (f : Fld) (v : Nat) : (s.wr b f v).flows = s.flows := rfl
@[simp] theorem State.wr_flowSnap (s : State) (b : Nat) (f : Fld) (v : Nat) :
    (s.wr b f v).flowSnap = s.flowSnap := rfl
@[simp] theorem State.wr_strms (s : State) (b : Nat) (f : Fld) (v : Nat) : (s.wr b f v).strms = s.strms := rfl
@[simp] theorem State.wr_strmSnap (s : State) (b : Nat) (f : Fld) (v : Nat) :
    (s.wr b f v).strmSnap = s.strmSnap := rfl
@[simp] theorem State.wr_snapped (s : State) (b : Nat) (f : Fld) (v : Nat) : (s.wr b f v).snapped = s.snapped := rfl
@[simp] theorem State.wr_feInj (s : State) (b : Nat) (f : Fld) (v : Nat) : (s.wr b f v).feInj = s.feInj := rfl
@[simp] theorem State.wr_txFrame (s : State) (b : Nat) (f : Fld) (v : Nat) : (s.wr b f v).txFrame = s.txFrame := rfl
@[simp] theorem State.wr_feFree (s : State) (b : Nat) (f : Fld) (v : Nat) : (s.wr b f v).feFree = s.feFree := rfl
@[simp] theorem State.wr_watch (s : State) (b : Nat) (f : Fld) (v : Nat) : (s.wr b f v).watch = s.watch := rfl
@[simp] theorem State.wr_pages (s : State) (b : Nat) (f : Fld) (v : Nat) : (s.wr b f v).pages = s.pages := rfl
@[simp] theorem State.wr_uncPend (s : State) (b : Nat) (f : Fld) (v : Nat) : (s.wr b f v).uncPend = s.uncPend := rfl
@[simp] theorem State.wr_injAdmit (s : State) (b : Nat) (f : Fld) (v : Nat) :
    (s.wr b f v).injAdmit = s.injAdmit := rfl
@[simp] theorem State.wr_remap (s : State) (b : Nat) (f : Fld) (v : Nat) : (s.wr b f v).remap = s.remap := rfl
@[simp] theorem State.wr_spares (s : State) (b : Nat) (f : Fld) (v : Nat) : (s.wr b f v).spares = s.spares := rfl
@[simp] theorem State.wr_repairTmp (s : State) (b : Nat) (f : Fld) (v : Nat) :
    (s.wr b f v).repairTmp = s.repairTmp := rfl
@[simp] theorem State.wr_mcInj (s : State) (b : Nat) (f : Fld) (v : Nat) : (s.wr b f v).mcInj = s.mcInj := rfl
@[simp] theorem State.wr_plots (s : State) (b : Nat) (f : Fld) (v : Nat) : (s.wr b f v).plots = s.plots := rfl
@[simp] theorem State.wr_fires (s : State) (b : Nat) (f : Fld) (v : Nat) : (s.wr b f v).fires = s.fires := rfl
@[simp] theorem State.wr_trigPost (s : State) (b : Nat) (f : Fld) (v : Nat) :
    (s.wr b f v).trigPost = s.trigPost := rfl
@[simp] theorem State.wr_rps (s : State) (b : Nat) (f : Fld) (v : Nat) : (s.wr b f v).rps = s.rps := rfl
@[simp] theorem State.wr_rpSym (s : State) (b : Nat) (f : Fld) (v : Nat) : (s.wr b f v).rpSym = s.rpSym := rfl
@[simp] theorem State.wr_streams (s : State) (b : Nat) (f : Fld) (v : Nat) : (s.wr b f v).streams = s.streams := rfl
@[simp] theorem State.wr_scrubAt (s : State) (b : Nat) (f : Fld) (v : Nat) : (s.wr b f v).scrubAt = s.scrubAt := rfl
@[simp] theorem State.wr_haze (s : State) (b : Nat) (f : Fld) (v : Nat) : (s.wr b f v).haze = s.haze := rfl
@[simp] theorem State.wr_hzQ (s : State) (b : Nat) (f : Fld) (v : Nat) : (s.wr b f v).hzQ = s.hzQ := rfl
@[simp] theorem State.wr_hzDly (s : State) (b : Nat) (f : Fld) (v : Nat) : (s.wr b f v).hzDly = s.hzDly := rfl
@[simp] theorem State.wr_hzHeld (s : State) (b : Nat) (f : Fld) (v : Nat) : (s.wr b f v).hzHeld = s.hzHeld := rfl
@[simp] theorem State.wr_hzCnt (s : State) (b : Nat) (f : Fld) (v : Nat) : (s.wr b f v).hzCnt = s.hzCnt := rfl
@[simp] theorem State.wr_hzInj (s : State) (b : Nat) (f : Fld) (v : Nat) : (s.wr b f v).hzInj = s.hzInj := rfl
@[simp] theorem State.wr_cores (s : State) (b : Nat) (f : Fld) (v : Nat) : (s.wr b f v).cores = s.cores := rfl
@[simp] theorem State.wr_coreSteps (s : State) (b : Nat) (f : Fld) (v : Nat) :
    (s.wr b f v).coreSteps = s.coreSteps := rfl
@[simp] theorem State.wr_semSince (s : State) (b : Nat) (f : Fld) (v : Nat) :
    (s.wr b f v).semSince = s.semSince := rfl
@[simp] theorem State.wr_nmtQ (s : State) (b : Nat) (f : Fld) (v : Nat) : (s.wr b f v).nmtQ = s.nmtQ := rfl
@[simp] theorem State.wr_injMem (s : State) (b : Nat) (f : Fld) (v : Nat) : (s.wr b f v).injMem = s.injMem := rfl
@[simp] theorem State.wr_injLockstep (s : State) (b : Nat) (f : Fld) (v : Nat) :
    (s.wr b f v).injLockstep = s.injLockstep := rfl
@[simp] theorem State.wr_sess (s : State) (b : Nat) (f : Fld) (v : Nat) : (s.wr b f v).sess = s.sess := rfl
@[simp] theorem State.wr_batches (s : State) (b : Nat) (f : Fld) (v : Nat) : (s.wr b f v).batches = s.batches := rfl
@[simp] theorem State.wr_ncpCommits (s : State) (b : Nat) (f : Fld) (v : Nat) :
    (s.wr b f v).ncpCommits = s.ncpCommits := rfl
@[simp] theorem State.wr_injBad (s : State) (b : Nat) (f : Fld) (v : Nat) : (s.wr b f v).injBad = s.injBad := rfl
@[simp] theorem State.wr_injBatch (s : State) (b : Nat) (f : Fld) (v : Nat) :
    (s.wr b f v).injBatch = s.injBatch := rfl
@[simp] theorem State.wr_portTx (s : State) (b : Nat) (f : Fld) (v : Nat) : (s.wr b f v).portTx = s.portTx := rfl
@[simp] theorem State.wr_ncpJob (s : State) (b : Nat) (f : Fld) (v : Nat) : (s.wr b f v).ncpJob = s.ncpJob := rfl
@[simp] theorem State.wr_ncpQ (s : State) (b : Nat) (f : Fld) (v : Nat) : (s.wr b f v).ncpQ = s.ncpQ := rfl
@[simp] theorem State.wr_flash (s : State) (b : Nat) (f : Fld) (v : Nat) : (s.wr b f v).flash = s.flash := rfl
@[simp] theorem State.wr_keyOtp (s : State) (b : Nat) (f : Fld) (v : Nat) : (s.wr b f v).keyOtp = s.keyOtp := rfl
@[simp] theorem State.wr_keyOp (s : State) (b : Nat) (f : Fld) (v : Nat) : (s.wr b f v).keyOp = s.keyOp := rfl
@[simp] theorem State.wr_qspiOp (s : State) (b : Nat) (f : Fld) (v : Nat) : (s.wr b f v).qspiOp = s.qspiOp := rfl
@[simp] theorem State.wr_dieBad (s : State) (b : Nat) (f : Fld) (v : Nat) : (s.wr b f v).dieBad = s.dieBad := rfl
@[simp] theorem State.wr_stackBad (s : State) (b : Nat) (f : Fld) (v : Nat) :
    (s.wr b f v).stackBad = s.stackBad := rfl
@[simp] theorem State.wr_bootInj (s : State) (b : Nat) (f : Fld) (v : Nat) : (s.wr b f v).bootInj = s.bootInj := rfl
@[simp] theorem State.wr_bootFrom (s : State) (b : Nat) (f : Fld) (v : Nat) :
    (s.wr b f v).bootFrom = s.bootFrom := rfl
@[simp] theorem State.wr_mi2cLast (s : State) (b : Nat) (f : Fld) (v : Nat) :
    (s.wr b f v).mi2cLast = s.mi2cLast := rfl
@[simp] theorem State.wr_mi2cAddr (s : State) (b : Nat) (f : Fld) (v : Nat) :
    (s.wr b f v).mi2cAddr = s.mi2cAddr := rfl
@[simp] theorem State.wr_mi2cByte (s : State) (b : Nat) (f : Fld) (v : Nat) :
    (s.wr b f v).mi2cByte = s.mi2cByte := rfl
@[simp] theorem State.wr_clk (s : State) (b : Nat) (f : Fld) (v : Nat) : (s.wr b f v).clk = s.clk := rfl
@[simp] theorem State.wr_doms (s : State) (b : Nat) (f : Fld) (v : Nat) : (s.wr b f v).doms = s.doms := rfl
@[simp] theorem State.wr_pwr (s : State) (b : Nat) (f : Fld) (v : Nat) : (s.wr b f v).pwr = s.pwr := rfl
@[simp] theorem State.wr_hk (s : State) (b : Nat) (f : Fld) (v : Nat) : (s.wr b f v).hk = s.hk := rfl
@[simp] theorem State.wr_calSets (s : State) (b : Nat) (f : Fld) (v : Nat) : (s.wr b f v).calSets = s.calSets := rfl
@[simp] theorem State.wr_rot (s : State) (b : Nat) (f : Fld) (v : Nat) : (s.wr b f v).rot = s.rot := rfl
@[simp] theorem State.wr_sigs (s : State) (b : Nat) (f : Fld) (v : Nat) : (s.wr b f v).sigs = s.sigs := rfl
@[simp] theorem State.wr_unserved (s : State) (b : Nat) (f : Fld) (v : Nat) :
    (s.wr b f v).unserved = s.unserved := rfl
@[simp] theorem State.wr_fuses (s : State) (b : Nat) (f : Fld) (v : Nat) : (s.wr b f v).fuses = s.fuses := rfl
@[simp] theorem State.wr_fuseOp (s : State) (b : Nat) (f : Fld) (v : Nat) : (s.wr b f v).fuseOp = s.fuseOp := rfl
@[simp] theorem State.wr_loop (s : State) (b : Nat) (f : Fld) (v : Nat) : (s.wr b f v).loop = s.loop := rfl
@[simp] theorem State.wr_injLoop (s : State) (b : Nat) (f : Fld) (v : Nat) : (s.wr b f v).injLoop = s.injLoop := rfl
@[simp] theorem State.wr_injMbist (s : State) (b : Nat) (f : Fld) (v : Nat) :
    (s.wr b f v).injMbist = s.injMbist := rfl
@[simp] theorem State.wr_alive (s : State) (b : Nat) (f : Fld) (v : Nat) : (s.wr b f v).alive = s.alive := rfl
@[simp] theorem State.wr_aliveAt (s : State) (b : Nat) (f : Fld) (v : Nat) : (s.wr b f v).aliveAt = s.aliveAt := rfl
@[simp] theorem State.wr_kickAt (s : State) (b : Nat) (f : Fld) (v : Nat) : (s.wr b f v).kickAt = s.kickAt := rfl
@[simp] theorem State.wr_kickMissed (s : State) (b : Nat) (f : Fld) (v : Nat) :
    (s.wr b f v).kickMissed = s.kickMissed := rfl
@[simp] theorem State.wr_por (s : State) (b : Nat) (f : Fld) (v : Nat) : (s.wr b f v).por = s.por := rfl
@[simp] theorem State.wr_resetLow (s : State) (b : Nat) (f : Fld) (v : Nat) :
    (s.wr b f v).resetLow = s.resetLow := rfl
@[simp] theorem State.wr_resetAt (s : State) (b : Nat) (f : Fld) (v : Nat) : (s.wr b f v).resetAt = s.resetAt := rfl
@[simp] theorem State.wr_syncBad (s : State) (b : Nat) (f : Fld) (v : Nat) : (s.wr b f v).syncBad = s.syncBad := rfl

@[simp] theorem State.cnt_pending (s : State) (b : Nat) (f : Fld) (n : Nat) : (s.cnt b f n).pending = s.pending := rfl
@[simp] theorem State.cnt_now (s : State) (b : Nat) (f : Fld) (n : Nat) : (s.cnt b f n).now = s.now := rfl
@[simp] theorem State.cnt_free (s : State) (b : Nat) (f : Fld) (n : Nat) : (s.cnt b f n).free = s.free := rfl
@[simp] theorem State.cnt_shadow (s : State) (b : Nat) (f : Fld) (n : Nat) : (s.cnt b f n).shadow = s.shadow := rfl
@[simp] theorem State.cnt_latch (s : State) (b : Nat) (f : Fld) (n : Nat) : (s.cnt b f n).latch = s.latch := rfl
@[simp] theorem State.cnt_mem (s : State) (b : Nat) (f : Fld) (n : Nat) : (s.cnt b f n).mem = s.mem := rfl
@[simp] theorem State.cnt_pclkBase (s : State) (b : Nat) (f : Fld) (n : Nat) :
    (s.cnt b f n).pclkBase = s.pclkBase := rfl
@[simp] theorem State.cnt_pclkAt (s : State) (b : Nat) (f : Fld) (n : Nat) : (s.cnt b f n).pclkAt = s.pclkAt := rfl
@[simp] theorem State.cnt_resp (s : State) (b : Nat) (f : Fld) (n : Nat) : (s.cnt b f n).resp = s.resp := rfl
@[simp] theorem State.cnt_waiting (s : State) (b : Nat) (f : Fld) (n : Nat) : (s.cnt b f n).waiting = s.waiting := rfl
@[simp] theorem State.cnt_raised (s : State) (b : Nat) (f : Fld) (n : Nat) : (s.cnt b f n).raised = s.raised := rfl
@[simp] theorem State.cnt_locksSet (s : State) (b : Nat) (f : Fld) (n : Nat) :
    (s.cnt b f n).locksSet = s.locksSet := rfl
@[simp] theorem State.cnt_chipRstAt (s : State) (b : Nat) (f : Fld) (n : Nat) :
    (s.cnt b f n).chipRstAt = s.chipRstAt := rfl
@[simp] theorem State.cnt_rstCause (s : State) (b : Nat) (f : Fld) (n : Nat) :
    (s.cnt b f n).rstCause = s.rstCause := rfl
@[simp] theorem State.cnt_inReset (s : State) (b : Nat) (f : Fld) (n : Nat) : (s.cnt b f n).inReset = s.inReset := rfl
@[simp] theorem State.cnt_recFull (s : State) (b : Nat) (f : Fld) (n : Nat) : (s.cnt b f n).recFull = s.recFull := rfl
@[simp] theorem State.cnt_injFull (s : State) (b : Nat) (f : Fld) (n : Nat) : (s.cnt b f n).injFull = s.injFull := rfl
@[simp] theorem State.cnt_tl (s : State) (b : Nat) (f : Fld) (n : Nat) : (s.cnt b f n).tl = s.tl := rfl
@[simp] theorem State.cnt_acts (s : State) (b : Nat) (f : Fld) (n : Nat) : (s.cnt b f n).acts = s.acts := rfl
@[simp] theorem State.cnt_commits (s : State) (b : Nat) (f : Fld) (n : Nat) : (s.cnt b f n).commits = s.commits := rfl
@[simp] theorem State.cnt_lateSh (s : State) (b : Nat) (f : Fld) (n : Nat) : (s.cnt b f n).lateSh = s.lateSh := rfl
@[simp] theorem State.cnt_commitAt (s : State) (b : Nat) (f : Fld) (n : Nat) :
    (s.cnt b f n).commitAt = s.commitAt := rfl
@[simp] theorem State.cnt_legacy (s : State) (b : Nat) (f : Fld) (n : Nat) : (s.cnt b f n).legacy = s.legacy := rfl
@[simp] theorem State.cnt_tagHist (s : State) (b : Nat) (f : Fld) (n : Nat) : (s.cnt b f n).tagHist = s.tagHist := rfl
@[simp] theorem State.cnt_rx (s : State) (b : Nat) (f : Fld) (n : Nat) : (s.cnt b f n).rx = s.rx := rfl
@[simp] theorem State.cnt_eq (s : State) (b : Nat) (f : Fld) (n : Nat) : (s.cnt b f n).eq = s.eq := rfl
@[simp] theorem State.cnt_lateCoef (s : State) (b : Nat) (f : Fld) (n : Nat) :
    (s.cnt b f n).lateCoef = s.lateCoef := rfl
@[simp] theorem State.cnt_tx (s : State) (b : Nat) (f : Fld) (n : Nat) : (s.cnt b f n).tx = s.tx := rfl
@[simp] theorem State.cnt_famWas (s : State) (b : Nat) (f : Fld) (n : Nat) : (s.cnt b f n).famWas = s.famWas := rfl
@[simp] theorem State.cnt_sscStart (s : State) (b : Nat) (f : Fld) (n : Nat) :
    (s.cnt b f n).sscStart = s.sscStart := rfl
@[simp] theorem State.cnt_synLock (s : State) (b : Nat) (f : Fld) (n : Nat) : (s.cnt b f n).synLock = s.synLock := rfl
@[simp] theorem State.cnt_bias (s : State) (b : Nat) (f : Fld) (n : Nat) : (s.cnt b f n).bias = s.bias := rfl
@[simp] theorem State.cnt_otp (s : State) (b : Nat) (f : Fld) (n : Nat) : (s.cnt b f n).otp = s.otp := rfl
@[simp] theorem State.cnt_otpLockA (s : State) (b : Nat) (f : Fld) (n : Nat) :
    (s.cnt b f n).otpLockA = s.otpLockA := rfl
@[simp] theorem State.cnt_otpLockB (s : State) (b : Nat) (f : Fld) (n : Nat) :
    (s.cnt b f n).otpLockB = s.otpLockB := rfl
@[simp] theorem State.cnt_safeOp (s : State) (b : Nat) (f : Fld) (n : Nat) : (s.cnt b f n).safeOp = s.safeOp := rfl
@[simp] theorem State.cnt_injProg (s : State) (b : Nat) (f : Fld) (n : Nat) : (s.cnt b f n).injProg = s.injProg := rfl
@[simp] theorem State.cnt_biasUv (s : State) (b : Nat) (f : Fld) (n : Nat) : (s.cnt b f n).biasUv = s.biasUv := rfl
@[simp] theorem State.cnt_fatal (s : State) (b : Nat) (f : Fld) (n : Nat) : (s.cnt b f n).fatal = s.fatal := rfl
@[simp] theorem State.cnt_off (s : State) (b : Nat) (f : Fld) (n : Nat) : (s.cnt b f n).off = s.off := rfl
@[simp] theorem State.cnt_heldEvents (s : State) (b : Nat) (f : Fld) (n : Nat) :
    (s.cnt b f n).heldEvents = s.heldEvents := rfl
@[simp] theorem State.cnt_acq (s : State) (b : Nat) (f : Fld) (n : Nat) : (s.cnt b f n).acq = s.acq := rfl
@[simp] theorem State.cnt_am (s : State) (b : Nat) (f : Fld) (n : Nat) : (s.cnt b f n).am = s.am := rfl
@[simp] theorem State.cnt_injSkew (s : State) (b : Nat) (f : Fld) (n : Nat) : (s.cnt b f n).injSkew = s.injSkew := rfl
@[simp] theorem State.cnt_burstRecs (s : State) (b : Nat) (f : Fld) (n : Nat) :
    (s.cnt b f n).burstRecs = s.burstRecs := rfl
@[simp] theorem State.cnt_fec (s : State) (b : Nat) (f : Fld) (n : Nat) : (s.cnt b f n).fec = s.fec := rfl
@[simp] theorem State.cnt_forRecs (s : State) (b : Nat) (f : Fld) (n : Nat) : (s.cnt b f n).forRecs = s.forRecs := rfl
@[simp] theorem State.cnt_injForDrop (s : State) (b : Nat) (f : Fld) (n : Nat) :
    (s.cnt b f n).injForDrop = s.injForDrop := rfl
@[simp] theorem State.cnt_txCw (s : State) (b : Nat) (f : Fld) (n : Nat) : (s.cnt b f n).txCw = s.txCw := rfl
@[simp] theorem State.cnt_txPair (s : State) (b : Nat) (f : Fld) (n : Nat) : (s.cnt b f n).txPair = s.txPair := rfl
@[simp] theorem State.cnt_pcs (s : State) (b : Nat) (f : Fld) (n : Nat) : (s.cnt b f n).pcs = s.pcs := rfl
@[simp] theorem State.cnt_flows (s : State) (b : Nat) (f : Fld) (n : Nat) : (s.cnt b f n).flows = s.flows := rfl
@[simp] theorem State.cnt_flowSnap (s : State) (b : Nat) (f : Fld) (n : Nat) :
    (s.cnt b f n).flowSnap = s.flowSnap := rfl
@[simp] theorem State.cnt_strms (s : State) (b : Nat) (f : Fld) (n : Nat) : (s.cnt b f n).strms = s.strms := rfl
@[simp] theorem State.cnt_strmSnap (s : State) (b : Nat) (f : Fld) (n : Nat) :
    (s.cnt b f n).strmSnap = s.strmSnap := rfl
@[simp] theorem State.cnt_snapped (s : State) (b : Nat) (f : Fld) (n : Nat) : (s.cnt b f n).snapped = s.snapped := rfl
@[simp] theorem State.cnt_feInj (s : State) (b : Nat) (f : Fld) (n : Nat) : (s.cnt b f n).feInj = s.feInj := rfl
@[simp] theorem State.cnt_txFrame (s : State) (b : Nat) (f : Fld) (n : Nat) : (s.cnt b f n).txFrame = s.txFrame := rfl
@[simp] theorem State.cnt_feFree (s : State) (b : Nat) (f : Fld) (n : Nat) : (s.cnt b f n).feFree = s.feFree := rfl
@[simp] theorem State.cnt_watch (s : State) (b : Nat) (f : Fld) (n : Nat) : (s.cnt b f n).watch = s.watch := rfl
@[simp] theorem State.cnt_pages (s : State) (b : Nat) (f : Fld) (n : Nat) : (s.cnt b f n).pages = s.pages := rfl
@[simp] theorem State.cnt_uncPend (s : State) (b : Nat) (f : Fld) (n : Nat) : (s.cnt b f n).uncPend = s.uncPend := rfl
@[simp] theorem State.cnt_injAdmit (s : State) (b : Nat) (f : Fld) (n : Nat) :
    (s.cnt b f n).injAdmit = s.injAdmit := rfl
@[simp] theorem State.cnt_remap (s : State) (b : Nat) (f : Fld) (n : Nat) : (s.cnt b f n).remap = s.remap := rfl
@[simp] theorem State.cnt_spares (s : State) (b : Nat) (f : Fld) (n : Nat) : (s.cnt b f n).spares = s.spares := rfl
@[simp] theorem State.cnt_repairTmp (s : State) (b : Nat) (f : Fld) (n : Nat) :
    (s.cnt b f n).repairTmp = s.repairTmp := rfl
@[simp] theorem State.cnt_mcInj (s : State) (b : Nat) (f : Fld) (n : Nat) : (s.cnt b f n).mcInj = s.mcInj := rfl
@[simp] theorem State.cnt_plots (s : State) (b : Nat) (f : Fld) (n : Nat) : (s.cnt b f n).plots = s.plots := rfl
@[simp] theorem State.cnt_fires (s : State) (b : Nat) (f : Fld) (n : Nat) : (s.cnt b f n).fires = s.fires := rfl
@[simp] theorem State.cnt_trigPost (s : State) (b : Nat) (f : Fld) (n : Nat) :
    (s.cnt b f n).trigPost = s.trigPost := rfl
@[simp] theorem State.cnt_rps (s : State) (b : Nat) (f : Fld) (n : Nat) : (s.cnt b f n).rps = s.rps := rfl
@[simp] theorem State.cnt_rpSym (s : State) (b : Nat) (f : Fld) (n : Nat) : (s.cnt b f n).rpSym = s.rpSym := rfl
@[simp] theorem State.cnt_streams (s : State) (b : Nat) (f : Fld) (n : Nat) : (s.cnt b f n).streams = s.streams := rfl
@[simp] theorem State.cnt_scrubAt (s : State) (b : Nat) (f : Fld) (n : Nat) : (s.cnt b f n).scrubAt = s.scrubAt := rfl
@[simp] theorem State.cnt_haze (s : State) (b : Nat) (f : Fld) (n : Nat) : (s.cnt b f n).haze = s.haze := rfl
@[simp] theorem State.cnt_hzQ (s : State) (b : Nat) (f : Fld) (n : Nat) : (s.cnt b f n).hzQ = s.hzQ := rfl
@[simp] theorem State.cnt_hzDly (s : State) (b : Nat) (f : Fld) (n : Nat) : (s.cnt b f n).hzDly = s.hzDly := rfl
@[simp] theorem State.cnt_hzHeld (s : State) (b : Nat) (f : Fld) (n : Nat) : (s.cnt b f n).hzHeld = s.hzHeld := rfl
@[simp] theorem State.cnt_hzCnt (s : State) (b : Nat) (f : Fld) (n : Nat) : (s.cnt b f n).hzCnt = s.hzCnt := rfl
@[simp] theorem State.cnt_hzInj (s : State) (b : Nat) (f : Fld) (n : Nat) : (s.cnt b f n).hzInj = s.hzInj := rfl
@[simp] theorem State.cnt_cores (s : State) (b : Nat) (f : Fld) (n : Nat) : (s.cnt b f n).cores = s.cores := rfl
@[simp] theorem State.cnt_coreSteps (s : State) (b : Nat) (f : Fld) (n : Nat) :
    (s.cnt b f n).coreSteps = s.coreSteps := rfl
@[simp] theorem State.cnt_semSince (s : State) (b : Nat) (f : Fld) (n : Nat) :
    (s.cnt b f n).semSince = s.semSince := rfl
@[simp] theorem State.cnt_nmtQ (s : State) (b : Nat) (f : Fld) (n : Nat) : (s.cnt b f n).nmtQ = s.nmtQ := rfl
@[simp] theorem State.cnt_injMem (s : State) (b : Nat) (f : Fld) (n : Nat) : (s.cnt b f n).injMem = s.injMem := rfl
@[simp] theorem State.cnt_injLockstep (s : State) (b : Nat) (f : Fld) (n : Nat) :
    (s.cnt b f n).injLockstep = s.injLockstep := rfl
@[simp] theorem State.cnt_sess (s : State) (b : Nat) (f : Fld) (n : Nat) : (s.cnt b f n).sess = s.sess := rfl
@[simp] theorem State.cnt_batches (s : State) (b : Nat) (f : Fld) (n : Nat) : (s.cnt b f n).batches = s.batches := rfl
@[simp] theorem State.cnt_ncpCommits (s : State) (b : Nat) (f : Fld) (n : Nat) :
    (s.cnt b f n).ncpCommits = s.ncpCommits := rfl
@[simp] theorem State.cnt_injBad (s : State) (b : Nat) (f : Fld) (n : Nat) : (s.cnt b f n).injBad = s.injBad := rfl
@[simp] theorem State.cnt_injBatch (s : State) (b : Nat) (f : Fld) (n : Nat) :
    (s.cnt b f n).injBatch = s.injBatch := rfl
@[simp] theorem State.cnt_portTx (s : State) (b : Nat) (f : Fld) (n : Nat) : (s.cnt b f n).portTx = s.portTx := rfl
@[simp] theorem State.cnt_ncpJob (s : State) (b : Nat) (f : Fld) (n : Nat) : (s.cnt b f n).ncpJob = s.ncpJob := rfl
@[simp] theorem State.cnt_ncpQ (s : State) (b : Nat) (f : Fld) (n : Nat) : (s.cnt b f n).ncpQ = s.ncpQ := rfl
@[simp] theorem State.cnt_flash (s : State) (b : Nat) (f : Fld) (n : Nat) : (s.cnt b f n).flash = s.flash := rfl
@[simp] theorem State.cnt_keyOtp (s : State) (b : Nat) (f : Fld) (n : Nat) : (s.cnt b f n).keyOtp = s.keyOtp := rfl
@[simp] theorem State.cnt_keyOp (s : State) (b : Nat) (f : Fld) (n : Nat) : (s.cnt b f n).keyOp = s.keyOp := rfl
@[simp] theorem State.cnt_qspiOp (s : State) (b : Nat) (f : Fld) (n : Nat) : (s.cnt b f n).qspiOp = s.qspiOp := rfl
@[simp] theorem State.cnt_dieBad (s : State) (b : Nat) (f : Fld) (n : Nat) : (s.cnt b f n).dieBad = s.dieBad := rfl
@[simp] theorem State.cnt_stackBad (s : State) (b : Nat) (f : Fld) (n : Nat) :
    (s.cnt b f n).stackBad = s.stackBad := rfl
@[simp] theorem State.cnt_bootInj (s : State) (b : Nat) (f : Fld) (n : Nat) : (s.cnt b f n).bootInj = s.bootInj := rfl
@[simp] theorem State.cnt_bootFrom (s : State) (b : Nat) (f : Fld) (n : Nat) :
    (s.cnt b f n).bootFrom = s.bootFrom := rfl
@[simp] theorem State.cnt_mi2cLast (s : State) (b : Nat) (f : Fld) (n : Nat) :
    (s.cnt b f n).mi2cLast = s.mi2cLast := rfl
@[simp] theorem State.cnt_mi2cAddr (s : State) (b : Nat) (f : Fld) (n : Nat) :
    (s.cnt b f n).mi2cAddr = s.mi2cAddr := rfl
@[simp] theorem State.cnt_mi2cByte (s : State) (b : Nat) (f : Fld) (n : Nat) :
    (s.cnt b f n).mi2cByte = s.mi2cByte := rfl
@[simp] theorem State.cnt_clk (s : State) (b : Nat) (f : Fld) (n : Nat) : (s.cnt b f n).clk = s.clk := rfl
@[simp] theorem State.cnt_doms (s : State) (b : Nat) (f : Fld) (n : Nat) : (s.cnt b f n).doms = s.doms := rfl
@[simp] theorem State.cnt_pwr (s : State) (b : Nat) (f : Fld) (n : Nat) : (s.cnt b f n).pwr = s.pwr := rfl
@[simp] theorem State.cnt_hk (s : State) (b : Nat) (f : Fld) (n : Nat) : (s.cnt b f n).hk = s.hk := rfl
@[simp] theorem State.cnt_calSets (s : State) (b : Nat) (f : Fld) (n : Nat) : (s.cnt b f n).calSets = s.calSets := rfl
@[simp] theorem State.cnt_rot (s : State) (b : Nat) (f : Fld) (n : Nat) : (s.cnt b f n).rot = s.rot := rfl
@[simp] theorem State.cnt_sigs (s : State) (b : Nat) (f : Fld) (n : Nat) : (s.cnt b f n).sigs = s.sigs := rfl
@[simp] theorem State.cnt_unserved (s : State) (b : Nat) (f : Fld) (n : Nat) :
    (s.cnt b f n).unserved = s.unserved := rfl
@[simp] theorem State.cnt_fuses (s : State) (b : Nat) (f : Fld) (n : Nat) : (s.cnt b f n).fuses = s.fuses := rfl
@[simp] theorem State.cnt_fuseOp (s : State) (b : Nat) (f : Fld) (n : Nat) : (s.cnt b f n).fuseOp = s.fuseOp := rfl
@[simp] theorem State.cnt_loop (s : State) (b : Nat) (f : Fld) (n : Nat) : (s.cnt b f n).loop = s.loop := rfl
@[simp] theorem State.cnt_injLoop (s : State) (b : Nat) (f : Fld) (n : Nat) : (s.cnt b f n).injLoop = s.injLoop := rfl
@[simp] theorem State.cnt_injMbist (s : State) (b : Nat) (f : Fld) (n : Nat) :
    (s.cnt b f n).injMbist = s.injMbist := rfl
@[simp] theorem State.cnt_alive (s : State) (b : Nat) (f : Fld) (n : Nat) : (s.cnt b f n).alive = s.alive := rfl
@[simp] theorem State.cnt_aliveAt (s : State) (b : Nat) (f : Fld) (n : Nat) : (s.cnt b f n).aliveAt = s.aliveAt := rfl
@[simp] theorem State.cnt_kickAt (s : State) (b : Nat) (f : Fld) (n : Nat) : (s.cnt b f n).kickAt = s.kickAt := rfl
@[simp] theorem State.cnt_kickMissed (s : State) (b : Nat) (f : Fld) (n : Nat) :
    (s.cnt b f n).kickMissed = s.kickMissed := rfl
@[simp] theorem State.cnt_por (s : State) (b : Nat) (f : Fld) (n : Nat) : (s.cnt b f n).por = s.por := rfl
@[simp] theorem State.cnt_resetLow (s : State) (b : Nat) (f : Fld) (n : Nat) :
    (s.cnt b f n).resetLow = s.resetLow := rfl
@[simp] theorem State.cnt_resetAt (s : State) (b : Nat) (f : Fld) (n : Nat) : (s.cnt b f n).resetAt = s.resetAt := rfl
@[simp] theorem State.cnt_syncBad (s : State) (b : Nat) (f : Fld) (n : Nat) : (s.cnt b f n).syncBad = s.syncBad := rfl

@[simp] theorem State.setByte_pending (s : State) (a : Nat) (v : Byte) : (s.setByte a v).pending = s.pending := rfl
@[simp] theorem State.setByte_now (s : State) (a : Nat) (v : Byte) : (s.setByte a v).now = s.now := rfl
@[simp] theorem State.setByte_free (s : State) (a : Nat) (v : Byte) : (s.setByte a v).free = s.free := rfl
@[simp] theorem State.setByte_regs (s : State) (a : Nat) (v : Byte) : (s.setByte a v).regs = s.regs := rfl
@[simp] theorem State.setByte_shadow (s : State) (a : Nat) (v : Byte) : (s.setByte a v).shadow = s.shadow := rfl
@[simp] theorem State.setByte_latch (s : State) (a : Nat) (v : Byte) : (s.setByte a v).latch = s.latch := rfl
@[simp] theorem State.setByte_pclkBase (s : State) (a : Nat) (v : Byte) : (s.setByte a v).pclkBase = s.pclkBase := rfl
@[simp] theorem State.setByte_pclkAt (s : State) (a : Nat) (v : Byte) : (s.setByte a v).pclkAt = s.pclkAt := rfl
@[simp] theorem State.setByte_resp (s : State) (a : Nat) (v : Byte) : (s.setByte a v).resp = s.resp := rfl
@[simp] theorem State.setByte_waiting (s : State) (a : Nat) (v : Byte) : (s.setByte a v).waiting = s.waiting := rfl
@[simp] theorem State.setByte_raised (s : State) (a : Nat) (v : Byte) : (s.setByte a v).raised = s.raised := rfl
@[simp] theorem State.setByte_locksSet (s : State) (a : Nat) (v : Byte) : (s.setByte a v).locksSet = s.locksSet := rfl
@[simp] theorem State.setByte_chipRstAt (s : State) (a : Nat) (v : Byte) :
    (s.setByte a v).chipRstAt = s.chipRstAt := rfl
@[simp] theorem State.setByte_rstCause (s : State) (a : Nat) (v : Byte) : (s.setByte a v).rstCause = s.rstCause := rfl
@[simp] theorem State.setByte_inReset (s : State) (a : Nat) (v : Byte) : (s.setByte a v).inReset = s.inReset := rfl
@[simp] theorem State.setByte_recFull (s : State) (a : Nat) (v : Byte) : (s.setByte a v).recFull = s.recFull := rfl
@[simp] theorem State.setByte_injFull (s : State) (a : Nat) (v : Byte) : (s.setByte a v).injFull = s.injFull := rfl
@[simp] theorem State.setByte_tl (s : State) (a : Nat) (v : Byte) : (s.setByte a v).tl = s.tl := rfl
@[simp] theorem State.setByte_acts (s : State) (a : Nat) (v : Byte) : (s.setByte a v).acts = s.acts := rfl
@[simp] theorem State.setByte_commits (s : State) (a : Nat) (v : Byte) : (s.setByte a v).commits = s.commits := rfl
@[simp] theorem State.setByte_lateSh (s : State) (a : Nat) (v : Byte) : (s.setByte a v).lateSh = s.lateSh := rfl
@[simp] theorem State.setByte_commitAt (s : State) (a : Nat) (v : Byte) : (s.setByte a v).commitAt = s.commitAt := rfl
@[simp] theorem State.setByte_legacy (s : State) (a : Nat) (v : Byte) : (s.setByte a v).legacy = s.legacy := rfl
@[simp] theorem State.setByte_tagHist (s : State) (a : Nat) (v : Byte) : (s.setByte a v).tagHist = s.tagHist := rfl
@[simp] theorem State.setByte_rx (s : State) (a : Nat) (v : Byte) : (s.setByte a v).rx = s.rx := rfl
@[simp] theorem State.setByte_eq (s : State) (a : Nat) (v : Byte) : (s.setByte a v).eq = s.eq := rfl
@[simp] theorem State.setByte_lateCoef (s : State) (a : Nat) (v : Byte) : (s.setByte a v).lateCoef = s.lateCoef := rfl
@[simp] theorem State.setByte_tx (s : State) (a : Nat) (v : Byte) : (s.setByte a v).tx = s.tx := rfl
@[simp] theorem State.setByte_famWas (s : State) (a : Nat) (v : Byte) : (s.setByte a v).famWas = s.famWas := rfl
@[simp] theorem State.setByte_sscStart (s : State) (a : Nat) (v : Byte) : (s.setByte a v).sscStart = s.sscStart := rfl
@[simp] theorem State.setByte_synLock (s : State) (a : Nat) (v : Byte) : (s.setByte a v).synLock = s.synLock := rfl
@[simp] theorem State.setByte_bias (s : State) (a : Nat) (v : Byte) : (s.setByte a v).bias = s.bias := rfl
@[simp] theorem State.setByte_otp (s : State) (a : Nat) (v : Byte) : (s.setByte a v).otp = s.otp := rfl
@[simp] theorem State.setByte_otpLockA (s : State) (a : Nat) (v : Byte) : (s.setByte a v).otpLockA = s.otpLockA := rfl
@[simp] theorem State.setByte_otpLockB (s : State) (a : Nat) (v : Byte) : (s.setByte a v).otpLockB = s.otpLockB := rfl
@[simp] theorem State.setByte_safeOp (s : State) (a : Nat) (v : Byte) : (s.setByte a v).safeOp = s.safeOp := rfl
@[simp] theorem State.setByte_injProg (s : State) (a : Nat) (v : Byte) : (s.setByte a v).injProg = s.injProg := rfl
@[simp] theorem State.setByte_biasUv (s : State) (a : Nat) (v : Byte) : (s.setByte a v).biasUv = s.biasUv := rfl
@[simp] theorem State.setByte_fatal (s : State) (a : Nat) (v : Byte) : (s.setByte a v).fatal = s.fatal := rfl
@[simp] theorem State.setByte_off (s : State) (a : Nat) (v : Byte) : (s.setByte a v).off = s.off := rfl
@[simp] theorem State.setByte_heldEvents (s : State) (a : Nat) (v : Byte) :
    (s.setByte a v).heldEvents = s.heldEvents := rfl
@[simp] theorem State.setByte_acq (s : State) (a : Nat) (v : Byte) : (s.setByte a v).acq = s.acq := rfl
@[simp] theorem State.setByte_am (s : State) (a : Nat) (v : Byte) : (s.setByte a v).am = s.am := rfl
@[simp] theorem State.setByte_injSkew (s : State) (a : Nat) (v : Byte) : (s.setByte a v).injSkew = s.injSkew := rfl
@[simp] theorem State.setByte_burstRecs (s : State) (a : Nat) (v : Byte) :
    (s.setByte a v).burstRecs = s.burstRecs := rfl
@[simp] theorem State.setByte_fec (s : State) (a : Nat) (v : Byte) : (s.setByte a v).fec = s.fec := rfl
@[simp] theorem State.setByte_forRecs (s : State) (a : Nat) (v : Byte) : (s.setByte a v).forRecs = s.forRecs := rfl
@[simp] theorem State.setByte_injForDrop (s : State) (a : Nat) (v : Byte) :
    (s.setByte a v).injForDrop = s.injForDrop := rfl
@[simp] theorem State.setByte_txCw (s : State) (a : Nat) (v : Byte) : (s.setByte a v).txCw = s.txCw := rfl
@[simp] theorem State.setByte_txPair (s : State) (a : Nat) (v : Byte) : (s.setByte a v).txPair = s.txPair := rfl
@[simp] theorem State.setByte_pcs (s : State) (a : Nat) (v : Byte) : (s.setByte a v).pcs = s.pcs := rfl
@[simp] theorem State.setByte_flows (s : State) (a : Nat) (v : Byte) : (s.setByte a v).flows = s.flows := rfl
@[simp] theorem State.setByte_flowSnap (s : State) (a : Nat) (v : Byte) : (s.setByte a v).flowSnap = s.flowSnap := rfl
@[simp] theorem State.setByte_strms (s : State) (a : Nat) (v : Byte) : (s.setByte a v).strms = s.strms := rfl
@[simp] theorem State.setByte_strmSnap (s : State) (a : Nat) (v : Byte) : (s.setByte a v).strmSnap = s.strmSnap := rfl
@[simp] theorem State.setByte_snapped (s : State) (a : Nat) (v : Byte) : (s.setByte a v).snapped = s.snapped := rfl
@[simp] theorem State.setByte_feInj (s : State) (a : Nat) (v : Byte) : (s.setByte a v).feInj = s.feInj := rfl
@[simp] theorem State.setByte_txFrame (s : State) (a : Nat) (v : Byte) : (s.setByte a v).txFrame = s.txFrame := rfl
@[simp] theorem State.setByte_feFree (s : State) (a : Nat) (v : Byte) : (s.setByte a v).feFree = s.feFree := rfl
@[simp] theorem State.setByte_watch (s : State) (a : Nat) (v : Byte) : (s.setByte a v).watch = s.watch := rfl
@[simp] theorem State.setByte_pages (s : State) (a : Nat) (v : Byte) : (s.setByte a v).pages = s.pages := rfl
@[simp] theorem State.setByte_uncPend (s : State) (a : Nat) (v : Byte) : (s.setByte a v).uncPend = s.uncPend := rfl
@[simp] theorem State.setByte_injAdmit (s : State) (a : Nat) (v : Byte) : (s.setByte a v).injAdmit = s.injAdmit := rfl
@[simp] theorem State.setByte_remap (s : State) (a : Nat) (v : Byte) : (s.setByte a v).remap = s.remap := rfl
@[simp] theorem State.setByte_spares (s : State) (a : Nat) (v : Byte) : (s.setByte a v).spares = s.spares := rfl
@[simp] theorem State.setByte_repairTmp (s : State) (a : Nat) (v : Byte) :
    (s.setByte a v).repairTmp = s.repairTmp := rfl
@[simp] theorem State.setByte_mcInj (s : State) (a : Nat) (v : Byte) : (s.setByte a v).mcInj = s.mcInj := rfl
@[simp] theorem State.setByte_plots (s : State) (a : Nat) (v : Byte) : (s.setByte a v).plots = s.plots := rfl
@[simp] theorem State.setByte_fires (s : State) (a : Nat) (v : Byte) : (s.setByte a v).fires = s.fires := rfl
@[simp] theorem State.setByte_trigPost (s : State) (a : Nat) (v : Byte) : (s.setByte a v).trigPost = s.trigPost := rfl
@[simp] theorem State.setByte_rps (s : State) (a : Nat) (v : Byte) : (s.setByte a v).rps = s.rps := rfl
@[simp] theorem State.setByte_rpSym (s : State) (a : Nat) (v : Byte) : (s.setByte a v).rpSym = s.rpSym := rfl
@[simp] theorem State.setByte_streams (s : State) (a : Nat) (v : Byte) : (s.setByte a v).streams = s.streams := rfl
@[simp] theorem State.setByte_scrubAt (s : State) (a : Nat) (v : Byte) : (s.setByte a v).scrubAt = s.scrubAt := rfl
@[simp] theorem State.setByte_haze (s : State) (a : Nat) (v : Byte) : (s.setByte a v).haze = s.haze := rfl
@[simp] theorem State.setByte_hzQ (s : State) (a : Nat) (v : Byte) : (s.setByte a v).hzQ = s.hzQ := rfl
@[simp] theorem State.setByte_hzDly (s : State) (a : Nat) (v : Byte) : (s.setByte a v).hzDly = s.hzDly := rfl
@[simp] theorem State.setByte_hzHeld (s : State) (a : Nat) (v : Byte) : (s.setByte a v).hzHeld = s.hzHeld := rfl
@[simp] theorem State.setByte_hzCnt (s : State) (a : Nat) (v : Byte) : (s.setByte a v).hzCnt = s.hzCnt := rfl
@[simp] theorem State.setByte_hzInj (s : State) (a : Nat) (v : Byte) : (s.setByte a v).hzInj = s.hzInj := rfl
@[simp] theorem State.setByte_cores (s : State) (a : Nat) (v : Byte) : (s.setByte a v).cores = s.cores := rfl
@[simp] theorem State.setByte_coreSteps (s : State) (a : Nat) (v : Byte) :
    (s.setByte a v).coreSteps = s.coreSteps := rfl
@[simp] theorem State.setByte_semSince (s : State) (a : Nat) (v : Byte) : (s.setByte a v).semSince = s.semSince := rfl
@[simp] theorem State.setByte_nmtQ (s : State) (a : Nat) (v : Byte) : (s.setByte a v).nmtQ = s.nmtQ := rfl
@[simp] theorem State.setByte_injMem (s : State) (a : Nat) (v : Byte) : (s.setByte a v).injMem = s.injMem := rfl
@[simp] theorem State.setByte_injLockstep (s : State) (a : Nat) (v : Byte) :
    (s.setByte a v).injLockstep = s.injLockstep := rfl
@[simp] theorem State.setByte_sess (s : State) (a : Nat) (v : Byte) : (s.setByte a v).sess = s.sess := rfl
@[simp] theorem State.setByte_batches (s : State) (a : Nat) (v : Byte) : (s.setByte a v).batches = s.batches := rfl
@[simp] theorem State.setByte_ncpCommits (s : State) (a : Nat) (v : Byte) :
    (s.setByte a v).ncpCommits = s.ncpCommits := rfl
@[simp] theorem State.setByte_injBad (s : State) (a : Nat) (v : Byte) : (s.setByte a v).injBad = s.injBad := rfl
@[simp] theorem State.setByte_injBatch (s : State) (a : Nat) (v : Byte) : (s.setByte a v).injBatch = s.injBatch := rfl
@[simp] theorem State.setByte_portTx (s : State) (a : Nat) (v : Byte) : (s.setByte a v).portTx = s.portTx := rfl
@[simp] theorem State.setByte_ncpJob (s : State) (a : Nat) (v : Byte) : (s.setByte a v).ncpJob = s.ncpJob := rfl
@[simp] theorem State.setByte_ncpQ (s : State) (a : Nat) (v : Byte) : (s.setByte a v).ncpQ = s.ncpQ := rfl
@[simp] theorem State.setByte_flash (s : State) (a : Nat) (v : Byte) : (s.setByte a v).flash = s.flash := rfl
@[simp] theorem State.setByte_keyOtp (s : State) (a : Nat) (v : Byte) : (s.setByte a v).keyOtp = s.keyOtp := rfl
@[simp] theorem State.setByte_keyOp (s : State) (a : Nat) (v : Byte) : (s.setByte a v).keyOp = s.keyOp := rfl
@[simp] theorem State.setByte_qspiOp (s : State) (a : Nat) (v : Byte) : (s.setByte a v).qspiOp = s.qspiOp := rfl
@[simp] theorem State.setByte_dieBad (s : State) (a : Nat) (v : Byte) : (s.setByte a v).dieBad = s.dieBad := rfl
@[simp] theorem State.setByte_stackBad (s : State) (a : Nat) (v : Byte) : (s.setByte a v).stackBad = s.stackBad := rfl
@[simp] theorem State.setByte_bootInj (s : State) (a : Nat) (v : Byte) : (s.setByte a v).bootInj = s.bootInj := rfl
@[simp] theorem State.setByte_bootFrom (s : State) (a : Nat) (v : Byte) : (s.setByte a v).bootFrom = s.bootFrom := rfl
@[simp] theorem State.setByte_mi2cLast (s : State) (a : Nat) (v : Byte) : (s.setByte a v).mi2cLast = s.mi2cLast := rfl
@[simp] theorem State.setByte_mi2cAddr (s : State) (a : Nat) (v : Byte) : (s.setByte a v).mi2cAddr = s.mi2cAddr := rfl
@[simp] theorem State.setByte_mi2cByte (s : State) (a : Nat) (v : Byte) : (s.setByte a v).mi2cByte = s.mi2cByte := rfl
@[simp] theorem State.setByte_clk (s : State) (a : Nat) (v : Byte) : (s.setByte a v).clk = s.clk := rfl
@[simp] theorem State.setByte_doms (s : State) (a : Nat) (v : Byte) : (s.setByte a v).doms = s.doms := rfl
@[simp] theorem State.setByte_pwr (s : State) (a : Nat) (v : Byte) : (s.setByte a v).pwr = s.pwr := rfl
@[simp] theorem State.setByte_hk (s : State) (a : Nat) (v : Byte) : (s.setByte a v).hk = s.hk := rfl
@[simp] theorem State.setByte_calSets (s : State) (a : Nat) (v : Byte) : (s.setByte a v).calSets = s.calSets := rfl
@[simp] theorem State.setByte_rot (s : State) (a : Nat) (v : Byte) : (s.setByte a v).rot = s.rot := rfl
@[simp] theorem State.setByte_sigs (s : State) (a : Nat) (v : Byte) : (s.setByte a v).sigs = s.sigs := rfl
@[simp] theorem State.setByte_unserved (s : State) (a : Nat) (v : Byte) : (s.setByte a v).unserved = s.unserved := rfl
@[simp] theorem State.setByte_fuses (s : State) (a : Nat) (v : Byte) : (s.setByte a v).fuses = s.fuses := rfl
@[simp] theorem State.setByte_fuseOp (s : State) (a : Nat) (v : Byte) : (s.setByte a v).fuseOp = s.fuseOp := rfl
@[simp] theorem State.setByte_loop (s : State) (a : Nat) (v : Byte) : (s.setByte a v).loop = s.loop := rfl
@[simp] theorem State.setByte_injLoop (s : State) (a : Nat) (v : Byte) : (s.setByte a v).injLoop = s.injLoop := rfl
@[simp] theorem State.setByte_injMbist (s : State) (a : Nat) (v : Byte) : (s.setByte a v).injMbist = s.injMbist := rfl
@[simp] theorem State.setByte_alive (s : State) (a : Nat) (v : Byte) : (s.setByte a v).alive = s.alive := rfl
@[simp] theorem State.setByte_aliveAt (s : State) (a : Nat) (v : Byte) : (s.setByte a v).aliveAt = s.aliveAt := rfl
@[simp] theorem State.setByte_kickAt (s : State) (a : Nat) (v : Byte) : (s.setByte a v).kickAt = s.kickAt := rfl
@[simp] theorem State.setByte_kickMissed (s : State) (a : Nat) (v : Byte) :
    (s.setByte a v).kickMissed = s.kickMissed := rfl
@[simp] theorem State.setByte_por (s : State) (a : Nat) (v : Byte) : (s.setByte a v).por = s.por := rfl
@[simp] theorem State.setByte_resetLow (s : State) (a : Nat) (v : Byte) : (s.setByte a v).resetLow = s.resetLow := rfl
@[simp] theorem State.setByte_resetAt (s : State) (a : Nat) (v : Byte) : (s.setByte a v).resetAt = s.resetAt := rfl
@[simp] theorem State.setByte_syncBad (s : State) (a : Nat) (v : Byte) : (s.setByte a v).syncBad = s.syncBad := rfl

@[simp] theorem State.drawn_pending (s : State) : (s.drawn).pending = s.pending := rfl
@[simp] theorem State.drawn_now (s : State) : (s.drawn).now = s.now := rfl
@[simp] theorem State.drawn_regs (s : State) : (s.drawn).regs = s.regs := rfl
@[simp] theorem State.drawn_shadow (s : State) : (s.drawn).shadow = s.shadow := rfl
@[simp] theorem State.drawn_latch (s : State) : (s.drawn).latch = s.latch := rfl
@[simp] theorem State.drawn_mem (s : State) : (s.drawn).mem = s.mem := rfl
@[simp] theorem State.drawn_pclkBase (s : State) : (s.drawn).pclkBase = s.pclkBase := rfl
@[simp] theorem State.drawn_pclkAt (s : State) : (s.drawn).pclkAt = s.pclkAt := rfl
@[simp] theorem State.drawn_resp (s : State) : (s.drawn).resp = s.resp := rfl
@[simp] theorem State.drawn_waiting (s : State) : (s.drawn).waiting = s.waiting := rfl
@[simp] theorem State.drawn_raised (s : State) : (s.drawn).raised = s.raised := rfl
@[simp] theorem State.drawn_locksSet (s : State) : (s.drawn).locksSet = s.locksSet := rfl
@[simp] theorem State.drawn_chipRstAt (s : State) : (s.drawn).chipRstAt = s.chipRstAt := rfl
@[simp] theorem State.drawn_rstCause (s : State) : (s.drawn).rstCause = s.rstCause := rfl
@[simp] theorem State.drawn_inReset (s : State) : (s.drawn).inReset = s.inReset := rfl
@[simp] theorem State.drawn_recFull (s : State) : (s.drawn).recFull = s.recFull := rfl
@[simp] theorem State.drawn_injFull (s : State) : (s.drawn).injFull = s.injFull := rfl
@[simp] theorem State.drawn_tl (s : State) : (s.drawn).tl = s.tl := rfl
@[simp] theorem State.drawn_acts (s : State) : (s.drawn).acts = s.acts := rfl
@[simp] theorem State.drawn_commits (s : State) : (s.drawn).commits = s.commits := rfl
@[simp] theorem State.drawn_lateSh (s : State) : (s.drawn).lateSh = s.lateSh := rfl
@[simp] theorem State.drawn_commitAt (s : State) : (s.drawn).commitAt = s.commitAt := rfl
@[simp] theorem State.drawn_legacy (s : State) : (s.drawn).legacy = s.legacy := rfl
@[simp] theorem State.drawn_tagHist (s : State) : (s.drawn).tagHist = s.tagHist := rfl
@[simp] theorem State.drawn_rx (s : State) : (s.drawn).rx = s.rx := rfl
@[simp] theorem State.drawn_eq (s : State) : (s.drawn).eq = s.eq := rfl
@[simp] theorem State.drawn_lateCoef (s : State) : (s.drawn).lateCoef = s.lateCoef := rfl
@[simp] theorem State.drawn_tx (s : State) : (s.drawn).tx = s.tx := rfl
@[simp] theorem State.drawn_famWas (s : State) : (s.drawn).famWas = s.famWas := rfl
@[simp] theorem State.drawn_sscStart (s : State) : (s.drawn).sscStart = s.sscStart := rfl
@[simp] theorem State.drawn_synLock (s : State) : (s.drawn).synLock = s.synLock := rfl
@[simp] theorem State.drawn_bias (s : State) : (s.drawn).bias = s.bias := rfl
@[simp] theorem State.drawn_otp (s : State) : (s.drawn).otp = s.otp := rfl
@[simp] theorem State.drawn_otpLockA (s : State) : (s.drawn).otpLockA = s.otpLockA := rfl
@[simp] theorem State.drawn_otpLockB (s : State) : (s.drawn).otpLockB = s.otpLockB := rfl
@[simp] theorem State.drawn_safeOp (s : State) : (s.drawn).safeOp = s.safeOp := rfl
@[simp] theorem State.drawn_injProg (s : State) : (s.drawn).injProg = s.injProg := rfl
@[simp] theorem State.drawn_biasUv (s : State) : (s.drawn).biasUv = s.biasUv := rfl
@[simp] theorem State.drawn_fatal (s : State) : (s.drawn).fatal = s.fatal := rfl
@[simp] theorem State.drawn_off (s : State) : (s.drawn).off = s.off := rfl
@[simp] theorem State.drawn_heldEvents (s : State) : (s.drawn).heldEvents = s.heldEvents := rfl
@[simp] theorem State.drawn_acq (s : State) : (s.drawn).acq = s.acq := rfl
@[simp] theorem State.drawn_am (s : State) : (s.drawn).am = s.am := rfl
@[simp] theorem State.drawn_injSkew (s : State) : (s.drawn).injSkew = s.injSkew := rfl
@[simp] theorem State.drawn_burstRecs (s : State) : (s.drawn).burstRecs = s.burstRecs := rfl
@[simp] theorem State.drawn_fec (s : State) : (s.drawn).fec = s.fec := rfl
@[simp] theorem State.drawn_forRecs (s : State) : (s.drawn).forRecs = s.forRecs := rfl
@[simp] theorem State.drawn_injForDrop (s : State) : (s.drawn).injForDrop = s.injForDrop := rfl
@[simp] theorem State.drawn_txCw (s : State) : (s.drawn).txCw = s.txCw := rfl
@[simp] theorem State.drawn_txPair (s : State) : (s.drawn).txPair = s.txPair := rfl
@[simp] theorem State.drawn_pcs (s : State) : (s.drawn).pcs = s.pcs := rfl
@[simp] theorem State.drawn_flows (s : State) : (s.drawn).flows = s.flows := rfl
@[simp] theorem State.drawn_flowSnap (s : State) : (s.drawn).flowSnap = s.flowSnap := rfl
@[simp] theorem State.drawn_strms (s : State) : (s.drawn).strms = s.strms := rfl
@[simp] theorem State.drawn_strmSnap (s : State) : (s.drawn).strmSnap = s.strmSnap := rfl
@[simp] theorem State.drawn_snapped (s : State) : (s.drawn).snapped = s.snapped := rfl
@[simp] theorem State.drawn_feInj (s : State) : (s.drawn).feInj = s.feInj := rfl
@[simp] theorem State.drawn_txFrame (s : State) : (s.drawn).txFrame = s.txFrame := rfl
@[simp] theorem State.drawn_feFree (s : State) : (s.drawn).feFree = s.feFree := rfl
@[simp] theorem State.drawn_watch (s : State) : (s.drawn).watch = s.watch := rfl
@[simp] theorem State.drawn_pages (s : State) : (s.drawn).pages = s.pages := rfl
@[simp] theorem State.drawn_uncPend (s : State) : (s.drawn).uncPend = s.uncPend := rfl
@[simp] theorem State.drawn_injAdmit (s : State) : (s.drawn).injAdmit = s.injAdmit := rfl
@[simp] theorem State.drawn_remap (s : State) : (s.drawn).remap = s.remap := rfl
@[simp] theorem State.drawn_spares (s : State) : (s.drawn).spares = s.spares := rfl
@[simp] theorem State.drawn_repairTmp (s : State) : (s.drawn).repairTmp = s.repairTmp := rfl
@[simp] theorem State.drawn_mcInj (s : State) : (s.drawn).mcInj = s.mcInj := rfl
@[simp] theorem State.drawn_plots (s : State) : (s.drawn).plots = s.plots := rfl
@[simp] theorem State.drawn_fires (s : State) : (s.drawn).fires = s.fires := rfl
@[simp] theorem State.drawn_trigPost (s : State) : (s.drawn).trigPost = s.trigPost := rfl
@[simp] theorem State.drawn_rps (s : State) : (s.drawn).rps = s.rps := rfl
@[simp] theorem State.drawn_rpSym (s : State) : (s.drawn).rpSym = s.rpSym := rfl
@[simp] theorem State.drawn_streams (s : State) : (s.drawn).streams = s.streams := rfl
@[simp] theorem State.drawn_scrubAt (s : State) : (s.drawn).scrubAt = s.scrubAt := rfl
@[simp] theorem State.drawn_haze (s : State) : (s.drawn).haze = s.haze := rfl
@[simp] theorem State.drawn_hzQ (s : State) : (s.drawn).hzQ = s.hzQ := rfl
@[simp] theorem State.drawn_hzDly (s : State) : (s.drawn).hzDly = s.hzDly := rfl
@[simp] theorem State.drawn_hzHeld (s : State) : (s.drawn).hzHeld = s.hzHeld := rfl
@[simp] theorem State.drawn_hzCnt (s : State) : (s.drawn).hzCnt = s.hzCnt := rfl
@[simp] theorem State.drawn_hzInj (s : State) : (s.drawn).hzInj = s.hzInj := rfl
@[simp] theorem State.drawn_cores (s : State) : (s.drawn).cores = s.cores := rfl
@[simp] theorem State.drawn_coreSteps (s : State) : (s.drawn).coreSteps = s.coreSteps := rfl
@[simp] theorem State.drawn_semSince (s : State) : (s.drawn).semSince = s.semSince := rfl
@[simp] theorem State.drawn_nmtQ (s : State) : (s.drawn).nmtQ = s.nmtQ := rfl
@[simp] theorem State.drawn_injMem (s : State) : (s.drawn).injMem = s.injMem := rfl
@[simp] theorem State.drawn_injLockstep (s : State) : (s.drawn).injLockstep = s.injLockstep := rfl
@[simp] theorem State.drawn_sess (s : State) : (s.drawn).sess = s.sess := rfl
@[simp] theorem State.drawn_batches (s : State) : (s.drawn).batches = s.batches := rfl
@[simp] theorem State.drawn_ncpCommits (s : State) : (s.drawn).ncpCommits = s.ncpCommits := rfl
@[simp] theorem State.drawn_injBad (s : State) : (s.drawn).injBad = s.injBad := rfl
@[simp] theorem State.drawn_injBatch (s : State) : (s.drawn).injBatch = s.injBatch := rfl
@[simp] theorem State.drawn_portTx (s : State) : (s.drawn).portTx = s.portTx := rfl
@[simp] theorem State.drawn_ncpJob (s : State) : (s.drawn).ncpJob = s.ncpJob := rfl
@[simp] theorem State.drawn_ncpQ (s : State) : (s.drawn).ncpQ = s.ncpQ := rfl
@[simp] theorem State.drawn_flash (s : State) : (s.drawn).flash = s.flash := rfl
@[simp] theorem State.drawn_keyOtp (s : State) : (s.drawn).keyOtp = s.keyOtp := rfl
@[simp] theorem State.drawn_keyOp (s : State) : (s.drawn).keyOp = s.keyOp := rfl
@[simp] theorem State.drawn_qspiOp (s : State) : (s.drawn).qspiOp = s.qspiOp := rfl
@[simp] theorem State.drawn_dieBad (s : State) : (s.drawn).dieBad = s.dieBad := rfl
@[simp] theorem State.drawn_stackBad (s : State) : (s.drawn).stackBad = s.stackBad := rfl
@[simp] theorem State.drawn_bootInj (s : State) : (s.drawn).bootInj = s.bootInj := rfl
@[simp] theorem State.drawn_bootFrom (s : State) : (s.drawn).bootFrom = s.bootFrom := rfl
@[simp] theorem State.drawn_mi2cLast (s : State) : (s.drawn).mi2cLast = s.mi2cLast := rfl
@[simp] theorem State.drawn_mi2cAddr (s : State) : (s.drawn).mi2cAddr = s.mi2cAddr := rfl
@[simp] theorem State.drawn_mi2cByte (s : State) : (s.drawn).mi2cByte = s.mi2cByte := rfl
@[simp] theorem State.drawn_clk (s : State) : (s.drawn).clk = s.clk := rfl
@[simp] theorem State.drawn_doms (s : State) : (s.drawn).doms = s.doms := rfl
@[simp] theorem State.drawn_pwr (s : State) : (s.drawn).pwr = s.pwr := rfl
@[simp] theorem State.drawn_hk (s : State) : (s.drawn).hk = s.hk := rfl
@[simp] theorem State.drawn_calSets (s : State) : (s.drawn).calSets = s.calSets := rfl
@[simp] theorem State.drawn_rot (s : State) : (s.drawn).rot = s.rot := rfl
@[simp] theorem State.drawn_sigs (s : State) : (s.drawn).sigs = s.sigs := rfl
@[simp] theorem State.drawn_unserved (s : State) : (s.drawn).unserved = s.unserved := rfl
@[simp] theorem State.drawn_fuses (s : State) : (s.drawn).fuses = s.fuses := rfl
@[simp] theorem State.drawn_fuseOp (s : State) : (s.drawn).fuseOp = s.fuseOp := rfl
@[simp] theorem State.drawn_loop (s : State) : (s.drawn).loop = s.loop := rfl
@[simp] theorem State.drawn_injLoop (s : State) : (s.drawn).injLoop = s.injLoop := rfl
@[simp] theorem State.drawn_injMbist (s : State) : (s.drawn).injMbist = s.injMbist := rfl
@[simp] theorem State.drawn_alive (s : State) : (s.drawn).alive = s.alive := rfl
@[simp] theorem State.drawn_aliveAt (s : State) : (s.drawn).aliveAt = s.aliveAt := rfl
@[simp] theorem State.drawn_kickAt (s : State) : (s.drawn).kickAt = s.kickAt := rfl
@[simp] theorem State.drawn_kickMissed (s : State) : (s.drawn).kickMissed = s.kickMissed := rfl
@[simp] theorem State.drawn_por (s : State) : (s.drawn).por = s.por := rfl
@[simp] theorem State.drawn_resetLow (s : State) : (s.drawn).resetLow = s.resetLow := rfl
@[simp] theorem State.drawn_resetAt (s : State) : (s.drawn).resetAt = s.resetAt := rfl
@[simp] theorem State.drawn_syncBad (s : State) : (s.drawn).syncBad = s.syncBad := rfl

end Sys2Proof.Machine
end

