-- ==== Sys2Proof/Laws/Ops.lean ====
section
/-! SUPPORT. What the shared operations do: sparse maps, bit fields, registers, bytes of memory, and the run of a
command. -/

namespace Sys2Proof.Machine

/-! Sparse maps. -/

/-- The keys of a sparse map rise strictly from `lo` on. -/
def Rising {α : Type} (lo : Nat) : List (Nat × α) → Prop
  | [] => True
  | (k, _) :: m => lo ≤ k ∧ Rising (k + 1) m

/-- Keys that rise from a bound rise from any lower one. -/
theorem Rising.mono {α : Type} {lo lo' : Nat} {m : List (Nat × α)} (h : Rising lo m) (hl : lo' ≤ lo) : Rising lo' m := by
  cases m with
  | nil => trivial
  | cons x m => exact ⟨Nat.le_trans hl h.1, h.2⟩

/-- A map whose keys rise from above a key does not list it. -/
theorem look_below {α : Type} (d : α) {lo i : Nat} {m : List (Nat × α)} (h : Rising lo m) (hi : i < lo) : look d m i = d := by
  cases m with
  | nil => rfl
  | cons x m =>
    have hx : i < x.1 := Nat.lt_of_lt_of_le hi h.1
    simp only [look]
    rw [if_neg (by omega), if_pos hx]

/-- A put keeps the keys rising. -/
theorem put_rising {α : Type} [DecidableEq α] (d : α) (v : α) {lo i : Nat} {m : List (Nat × α)} (h : Rising lo m)
    (hi : lo ≤ i) : Rising lo (put d m i v) := by
  induction m generalizing lo with
  | nil => simp only [put]; split <;> simp [Rising, hi]
  | cons x m ih =>
    obtain ⟨k, y⟩ := x
    simp only [put]
    split
    · split
      · exact h
      · exact ⟨hi, by omega, h.2⟩
    · split
      · split
        · exact h.2.mono (by have := h.1; omega)
        · rename_i he _; subst he; exact ⟨hi, h.2⟩
      · exact ⟨h.1, ih h.2 (by omega)⟩

/-- Reading the key that was put. -/
theorem look_put_same {α : Type} [DecidableEq α] (d : α) (v : α) {lo i : Nat} {m : List (Nat × α)} (h : Rising lo m) :
    look d (put d m i v) i = v := by
  induction m generalizing lo with
  | nil => simp only [put]; split <;> simp_all [look]
  | cons x m ih =>
    obtain ⟨k, y⟩ := x
    simp only [put]
    split
    · split
      · rename_i h1 h2; rw [h2, look]; rw [if_neg (by omega), if_pos h1]
      · simp [look]
    · split
      · rename_i h1 h2
        split
        · rename_i hv; rw [look_below d h.2 (by omega), hv]
        · simp [look]
      · rename_i h1 h2
        simp only [look]
        rw [if_neg h2, if_neg h1]
        exact ih h.2

/-- Reading another key than the one that was put: the reader's default is its own. -/
theorem look_put_other {α : Type} [DecidableEq α] {d e : α} {v : α} {lo i j : Nat} (m : List (Nat × α)) (h : Rising lo m)
    (hj : j ≠ i) : look e (put d m i v) j = look e m j := by
  induction m generalizing lo with
  | nil => simp only [put]; split <;> simp [look, hj]
  | cons x m ih =>
    obtain ⟨k, y⟩ := x
    simp only [put]
    split
    · rename_i h1
      split
      · rfl
      · simp only [look]
        rw [if_neg hj]
        by_cases hjk : j < i
        · rw [if_pos hjk]; split
          · omega
          · rw [if_pos (by omega)]
        · rw [if_neg hjk]
    · split
      · rename_i h1 h2
        split
        · simp only [look]
          rw [if_neg (by omega)]
          split
          · rename_i hlt; exact look_below e h.2 (by omega)
          · rfl
        · simp only [look]
          rw [if_neg hj, if_neg (by omega : ¬ j = k)]
          subst h2; rfl
      · simp only [look]
        split
        · rfl
        · split
          · rfl
          · exact ih h.2

/-- Reading another key than the one that was put. -/
theorem look_put_ne {α : Type} [DecidableEq α] (d : α) (v : α) {lo i j : Nat} {m : List (Nat × α)} (h : Rising lo m)
    (hj : j ≠ i) : look d (put d m i v) j = look d m j := look_put_other m h hj

/-! Bytes of memory. -/

/-- The canonical form is rising keys. -/
theorem Memory.rising_of_wfFrom {lo : Nat} {m : List Host.Cell} (h : Memory.wfFrom lo m = true) : Rising lo m := by
  induction m generalizing lo with
  | nil => trivial
  | cons x m ih =>
    obtain ⟨k, y⟩ := x
    simp only [Memory.wfFrom, Bool.and_eq_true, decide_eq_true_eq] at h
    exact ⟨h.1.1, ih h.2⟩

/-- A canonical memory read from a lower bound. -/
theorem Memory.wfFrom_mono {lo lo' : Nat} {m : List Host.Cell} (h : Memory.wfFrom lo m = true) (hl : lo' ≤ lo) :
    Memory.wfFrom lo' m = true := by
  cases m with
  | nil => rfl
  | cons x m =>
    simp only [Memory.wfFrom, Bool.and_eq_true, decide_eq_true_eq] at h ⊢
    exact ⟨⟨by omega, h.1.2⟩, h.2⟩

/-- A put of a byte keeps the canonical form. -/
theorem Memory.put_wfFrom {lo i : Nat} (v : Byte) {m : List Host.Cell} (h : Memory.wfFrom lo m = true) (hi : lo ≤ i) :
    Memory.wfFrom lo (put 0 m i v) = true := by
  induction m generalizing lo with
  | nil =>
    simp only [put]
    split
    · rfl
    · rename_i hv; simp [Memory.wfFrom, hi]; exact hv
  | cons x m ih =>
    obtain ⟨k, y⟩ := x
    have h' := h
    simp only [Memory.wfFrom, Bool.and_eq_true, decide_eq_true_eq] at h
    simp only [put]
    split
    · split
      · exact h'
      · rename_i hlt hv
        simp only [Memory.wfFrom, Bool.and_eq_true, decide_eq_true_eq]
        exact ⟨⟨hi, by simpa using hv⟩, ⟨by omega, h.1.2⟩, h.2⟩
    · split
      · rename_i hlt he
        split
        · exact Memory.wfFrom_mono h.2 (by omega)
        · rename_i hv
          simp only [Memory.wfFrom, Bool.and_eq_true, decide_eq_true_eq]
          exact ⟨⟨hi, by simpa using hv⟩, he ▸ h.2⟩
      · simp only [Memory.wfFrom, Bool.and_eq_true, decide_eq_true_eq]
        exact ⟨h.1, ih h.2 (by omega)⟩

/-- A put of a byte keeps the canonical form of a whole memory. -/
theorem Memory.put_wf (i : Nat) (v : Byte) {m : List Host.Cell} (h : Memory.wf m = true) : Memory.wf (put 0 m i v) = true :=
  Memory.put_wfFrom v h (Nat.zero_le i)

/-- Storing a byte keeps the canonical form. -/
theorem State.setByte_wf (s : State) (a : Nat) (v : Byte) (h : Memory.wf s.mem = true) : Memory.wf (s.setByte a v).mem = true :=
  Memory.put_wf a v h

/-- Storing a word keeps the canonical form. -/
theorem State.setWord_wf (s : State) (a : Nat) (w : Word) (h : Memory.wf s.mem = true) : Memory.wf (s.setWord a w).mem = true := by
  unfold State.setWord
  exact State.setByte_wf _ _ _ (State.setByte_wf _ _ _ (State.setByte_wf _ _ _ (State.setByte_wf _ _ _ h)))

/-- The byte stored is read back. -/
theorem State.byte_setByte_same (s : State) (a : Nat) (v : Byte) (h : Memory.wf s.mem = true) : (s.setByte a v).byte a = v :=
  look_put_same 0 v (Memory.rising_of_wfFrom h)

/-- A store leaves every other byte. -/
theorem State.byte_setByte_ne (s : State) {a b : Nat} (v : Byte) (h : Memory.wf s.mem = true) (hb : b ≠ a) :
    (s.setByte a v).byte b = s.byte b :=
  look_put_ne 0 v (Memory.rising_of_wfFrom h) hb

/-! Registers. -/

/-- The register word that was set is read back. -/
theorem State.getReg_setReg_same (s : State) (k : Nat) (w : Word) (h : Rising 0 s.regs) : (s.setReg k w).getReg k = w :=
  look_put_same _ w h

/-- Setting a register leaves every other register. -/
theorem State.getReg_setReg_ne (s : State) {k j : Nat} (w : Word) (h : Rising 0 s.regs) (hj : j ≠ k) :
    (s.setReg k w).getReg j = s.getReg j :=
  look_put_other s.regs h hj

/-- Setting a register keeps the map's keys rising. -/
theorem State.setReg_rising (s : State) (k : Nat) (w : Word) (h : Rising 0 s.regs) : Rising 0 (s.setReg k w).regs :=
  put_rising _ w h (Nat.zero_le k)

/-- A register map that rises is one whose check answers so. -/
theorem risesFrom_iff {α : Type} (lo : Nat) (m : List (Nat × α)) : risesFrom lo m = true ↔ Rising lo m := by
  induction m generalizing lo with
  | nil => simp [risesFrom, Rising]
  | cons x m ih => simp [risesFrom, Rising, ih]

/-- Setting a shadow keeps the map's keys rising. -/
theorem State.setShadow_rising (s : State) (k : Nat) (w : Word) (h : Rising 0 s.shadow) :
    Rising 0 (s.setShadow k w).shadow := put_rising _ w h (Nat.zero_le k)

/-! The run of a command. -/

/-- Where nothing is left to do, settling changes nothing. -/
theorem settle_quiet (s : State) (h : unsettled s = false) : settle s = s := by
  unfold settle
  cases hn : 64 + s.waiting.length + s.raised.length with
  | zero => rfl
  | succ n => simp [settleN, h]

/-- A command runs to a next state. -/
theorem run_next (f : State → State) (s : State) : run f s = .next (closed s.pending (f { s with portTx := [] })) := rfl

/-- What follows a command leaves the queue as it was. -/
@[simp] theorem closed_pending (p : List Instr) (s : State) : (closed p s).pending = p := rfl

end Sys2Proof.Machine
end

