-- ==== Sys2Proof/Laws/Bits.lean ====
section
/-! SUPPORT. Bit fields: what a field reads after a write of it, or of a field beside it. -/

namespace Sys2Proof.Machine

/-- The bits of a field as read. -/
theorem fget_testBit (w : Word) (hi lo i : Nat) :
    (fget w hi lo).testBit i = (decide (i < hi + 1 - lo) && w.getLsbD (lo + i)) := by
  unfold fget
  rw [Nat.testBit_mod_two_pow, Nat.testBit_div_two_pow, BitVec.getLsbD]
  rw [Nat.add_comm i lo]

/-- The bits of a mask. -/
theorem bitMask_getLsbD (hi lo i : Nat) :
    (bitMask hi lo).getLsbD i = (decide (i < 32) && (decide (lo ≤ i) && decide (i < lo + (hi + 1 - lo)))) := by
  unfold bitMask
  rw [BitVec.getLsbD_ofNat, Nat.testBit_mul_two_pow, Nat.testBit_two_pow_sub_one]
  congr 1
  by_cases h : lo ≤ i
  · simp only [h, decide_true, Bool.true_and]; congr 1; apply propext; omega
  · simp [h]

/-- The bits of a word after a field of it is set. -/
theorem fset_getLsbD (w : Word) (hi lo v i : Nat) :
    (fset w hi lo v).getLsbD i =
      if lo ≤ i ∧ i < lo + (hi + 1 - lo) then (decide (i < 32) && v.testBit (i - lo)) else w.getLsbD i := by
  unfold fset
  rw [BitVec.getLsbD_or, BitVec.getLsbD_and, BitVec.getLsbD_and, BitVec.getLsbD_not, bitMask_getLsbD,
    BitVec.getLsbD_ofNat, Nat.testBit_mul_two_pow]
  by_cases h : i < 32
  · by_cases hl : lo ≤ i
    · by_cases hr : i < lo + (hi + 1 - lo)
      · simp [h, hl, hr]
      · simp [h, hl, hr]
    · simp [h, hl]
  · have hw : w.getLsbD i = false := BitVec.getLsbD_of_ge w i (by omega)
    simp [h, hw]

/-- A field reads what was written to it. -/
theorem fget_fset_same (w : Word) {hi : Nat} (lo v : Nat) (h : hi < 32) :
    fget (fset w hi lo v) hi lo = v % 2 ^ (hi + 1 - lo) := by
  apply Nat.eq_of_testBit_eq
  intro i
  rw [fget_testBit, fset_getLsbD, Nat.testBit_mod_two_pow]
  by_cases hi' : i < hi + 1 - lo
  · rw [if_pos ⟨by omega, by omega⟩]
    have : lo + i < 32 := by omega
    simp [hi', this]
  · simp [hi']

/-- A field reads as before after a write of a field beside it. -/
theorem fget_fset_beside (w : Word) (hi lo v hi' lo' : Nat) (h : hi < lo' ∨ hi' < lo) :
    fget (fset w hi lo v) hi' lo' = fget w hi' lo' := by
  apply Nat.eq_of_testBit_eq
  intro i
  rw [fget_testBit, fget_testBit, fset_getLsbD]
  by_cases hi2 : i < hi' + 1 - lo'
  · rw [if_neg (by omega)]
  · simp [hi2]

/-- A field of a register reads what was written to it. -/
theorem State.rd_wr_same (s : State) (b : Nat) (f : Fld) (v : Nat) (h : Rising 0 s.regs) (hf : f.hi < 32) :
    (s.wr b f v).rd b f = v % 2 ^ (f.hi + 1 - f.lo) := by
  unfold State.rd State.wr
  rw [State.getReg_setReg_same _ _ _ h]
  exact fget_fset_same _ _ _ hf

/-- A field of another register reads as before. -/
theorem State.rd_wr_ne (s : State) (b b' : Nat) (f g : Fld) (v : Nat) (h : Rising 0 s.regs) (hg : b' + g.off ≠ b + f.off) :
    (s.wr b f v).rd b' g = s.rd b' g := by
  unfold State.rd State.wr
  rw [State.getReg_setReg_ne _ _ h hg]

/-- A field beside the one written reads as before. -/
theorem State.rd_wr_beside (s : State) (b b' : Nat) (f g : Fld) (v : Nat) (h : Rising 0 s.regs)
    (hg : b' + g.off = b + f.off) (hb : f.hi < g.lo ∨ g.hi < f.lo) : (s.wr b f v).rd b' g = s.rd b' g := by
  unfold State.rd State.wr
  rw [hg, State.getReg_setReg_same _ _ _ h]
  exact fget_fset_beside _ _ _ _ _ _ hb

/-- A write of a field keeps the register map's keys rising. -/
theorem State.wr_rising (s : State) (b : Nat) (f : Fld) (v : Nat) (h : Rising 0 s.regs) : Rising 0 (s.wr b f v).regs :=
  State.setReg_rising s _ _ h

end Sys2Proof.Machine
end

