-- ==== Sys2Proof/Laws/Fabric.lean ====
section
/-! SUPPORT. What the fabric does with a served access, and where the addresses of the per-element blocks lie. -/

namespace Sys2Proof.Machine

/-- What serves an access does not hang on what the port sent. -/
theorem Served.fresh {m : Master} {b : Bool} {a : Nat} {w : Word} {s : State} (h : Served m b a w s) :
    Served m b a w s.fresh := h

/-- A served access is performed, and the master is answered. -/
theorem served_command {m : Master} {b : Bool} {a : Nat} {w : Word} {s : State} (h : Served m b a w s) :
    command m b a w s =
      let r := perform m b a w s
      if r.2.2 == .waiting then r.1 else answered m a b (if b then 0 else r.2.1) r.2.2 r.1 := by
  obtain ⟨h1, h2, h3, h4, h5, h6, h7, h8⟩ := h
  unfold command access
  simp only [h5, h1, h2, h3, h4, h7, if_true]
  by_cases hm : m = .mi2c
  · simp [hm, h6 hm, answered]
  · have hx : (m == Master.mi2c) = false := by simp [hm]
    simp [hx, answered]

/-- A served write of a register without clock gate. -/
theorem served_write {m : Master} {a : Nat} {w : Word} {s : State} {b : Blk} {off : Nat} (h : Served m true a w s)
    (hp : place a = .reg b off) (hg : gateOf a = none) :
    writeCmd m a w s =
      let r := regWrite m b off w s
      if r.2 == .waiting then r.1 else answered m a true 0 r.2 r.1 := by
  have e := served_command h
  unfold writeCmd
  rw [e]
  unfold perform
  simp only [h.2.2.2.2.2.2.2, hp, hg]
  rfl

/-- A served read of a register without clock gate. -/
theorem served_read {m : Master} {a : Nat} {s : State} {b : Blk} {off : Nat} (h : Served m false a 0 s)
    (hp : place a = .reg b off) (hg : gateOf a = none) :
    readCmd m a s = answered m a false (regRead m b off s).2 .done (regRead m b off s).1 := by
  have e := served_command h
  unfold readCmd
  rw [e]
  unfold perform
  simp only [h.2.2.2.2.2.2.2, hp, hg]
  rfl

/-- A register write whose word is stored in the plain way, of a register without staged fields. -/
theorem regWrite_plain {m : Master} {w : Word} {s : State} {b : Blk} {off key : Nat} (hf : (findReg b off).isSome = true)
    (ho : ownWrite m b off w s = none) (hk : effKey b off s = some key)
    (hst : (keyFlds key).any (fun f => f.acc == .st) = false) :
    regWrite m b off w s =
      let p := storeWord b off key w s
      let u := regHook m b off (s.getReg key) w p.1
      if p.2 then (lockRefuse m (b.base + off) u, .locked) else (u, .done) := by
  obtain ⟨d, hd⟩ := Option.isSome_iff_exists.mp hf
  unfold regWrite
  simp only [hd, ho, hk, hst, Bool.and_false]
  cases keyGroup key <;> rfl

/-- A served write of such a register: the stored word, then the block's hook, then the answer. -/
theorem served_hook {m : Master} {a : Nat} {w : Word} {s : State} {b : Blk} {off key : Nat} (h : Served m true a w s)
    (hp : place a = .reg b off) (hg : gateOf a = none) (hf : (findReg b off).isSome = true)
    (ho : ownWrite m b off w s = none) (hk : effKey b off s = some key)
    (hst : (keyFlds key).any (fun f => f.acc == .st) = false) :
    writeCmd m a w s =
      let p := storeWord b off key w s
      let u := regHook m b off (s.getReg key) w p.1
      if p.2 then answered m a true 0 .locked (lockRefuse m (b.base + off) u) else answered m a true 0 .done u := by
  rw [served_write h hp hg, regWrite_plain hf ho hk hst]
  simp only []
  cases (storeWord b off key w s).2 <;> rfl

/-- A plain register write never leaves the master waiting. -/
theorem regWrite_done (m : Master) (b : Blk) (off : Nat) (w : Word) (s : State) : (regWrite m b off w s).2 ≠ .waiting := by
  unfold regWrite
  split
  · simp
  · split
    · simp
    · split
      · simp
      · simp only []; split <;> simp

/-- A command that runs an operation answers the state that the operation leaves, closed. -/
theorem exec_run {i : Instr} {s : State} (f : State → State) (h : exec i s = run f s) :
    exec i s = .next (closed s.pending (f s.fresh)) := h

/-! Where the per-element blocks lie. -/

theorem place_lane {n off : Nat} (hn : n < 64) (ho : off < 0x10000) : place (laneB n + off) = .reg (.lane n) off := by
  unfold place laneB
  repeat rw [if_neg (by omega)]
  rw [if_pos (by omega)]
  congr <;> omega

theorem place_oct {o off : Nat} (hn : o < 8) (ho : off < 0x10000) : place (octB o + off) = .reg (.oct o) off := by
  unfold place octB
  repeat rw [if_neg (by omega)]
  rw [if_pos (by omega)]
  congr <;> omega

theorem place_fe {e off : Nat} (hn : e < 4) (ho : off < 0x40000) : place (feB e + off) = .reg (.fe e) off := by
  unfold place feB
  repeat rw [if_neg (by omega)]
  rw [if_pos (by omega)]
  congr <;> omega

theorem place_mc {m off : Nat} (hn : m < 6) (ho : off < 0x10000) : place (mcB m + off) = .reg (.mc m) off := by
  unfold place mcB
  repeat rw [if_neg (by omega)]
  rw [if_pos (by omega)]
  congr <;> omega

/-- Every lane has the same registers but those of the burst lanes. -/
theorem findReg_lane {n off : Nat} (h : off < 0x3040 ∨ 0x4000 ≤ off) : findReg (.lane n) off = findReg (.lane 0) off := by
  unfold findReg
  by_cases h1 : 0x3040 ≤ off
  · have h2 : ¬ off < 0x4000 := by omega
    simp [h2, Blk.regs]
  · simp [h1, Blk.regs]

/-- The fields of a lane's register are those of lane 0's. -/
theorem keyFlds_lane {n off : Nat} (hn : n < 64) (h : off < 0x3040 ∨ 0x4000 ≤ off) (ho : off < 0x10000) :
    keyFlds (laneB n + off) = keyFlds (laneB 0 + off) := by
  unfold keyFlds
  rw [if_pos (by simp only [laneB]; omega), if_pos (by simp only [laneB]; omega), place_lane hn ho,
    place_lane (by omega) ho]
  simp only [findReg_lane (n := n) h]

/-- A bit written 1 reads 1. -/
theorem fset_bit (w : Word) {i : Nat} (hi : i < 32) : (fset w i i 1).getLsbD i = true := by
  rw [fset_getLsbD, if_pos ⟨by omega, by omega⟩]
  simp [hi]

end Sys2Proof.Machine
end

