-- ==== Sys2Proof/Tests/Slice0.lean ====
section
/-! SUPPORT. Tests: terms that the well-formedness check refuses, single steps whose results the spec gives, and for each
statement a state and operands that meet its premises. -/

namespace Sys2Proof.Tests

set_option linter.unusedVariables false
set_option Elab.async false

open Sys2Proof Sys2Proof.Machine

/-! Small states. -/

/-- A reset state with some register words set. -/
def stateWith (l : List (Nat × Word)) (s : State) : State := l.foldl (fun t x => t.setReg x.1 x.2) s

/-- The state after reset with some register words set. -/
def resetWith (l : List (Nat × Word)) : State := stateWith l State.reset

/-- A state whose timeline holds some values. -/
def tlWith (f : TlSt → TlSt) (s : State) : State := { s with tl := f s.tl }

/-- A state in which core k runs at a PC with some general registers. -/
def coreWith (k : Nat) (pc : Word) (g : List (Nat × Word)) : State :=
  (coreGo k 1 (resetWith [(0x500005200034, 0x300), (0x400100 + 16 * k, 1)])).setCore k { CoreSt.reset with pc := pc, g := g }

/-- A register word that the fuses give, stated. -/
def fused (k : Nat) (w : Word) (s : State) : State :=
  { s with regs := s.regs.filter (fun e => e.1 < k) ++ (k, w) :: s.regs.filter (fun e => k < e.1) }

/-- A state whose part is booted and whose port is up, with a control session open on slot 1. -/
def ncpWith (x : SessSt) : State :=
  let s := ((fused 0xA000C 0x12345678 (resetWith [(0x500005300034, 0x300), (0x500005200034, 0x300)])).wr ncpB R.NCP_PORT_STATUS_STATE 2).wr bootB R.BOOT_STATUS_STATE 6
  (((s.wr (sessB 1) R.NCP_SESS_STAT_STATE 1).wr (sessB 1) R.NCP_SESS_STAT_MODE 1).wr (sessB 1) R.NCP_SESS_STAT_SESSION 5).setSess 1 x

/-- What an open session holds at first. -/
def sess1 : SessSt := { SessSt.free with gen := 1, ip := [10, 0, 0, 1], expect := 7, seq := 100, credit := 200 }

/-- A neighbour solicitation and an echo request for the part's link-local address. -/
def nsFrame : List Byte :=
  let s := ncpWith sess1
  let src : List Byte := [0xFE, 0x80, 0, 0, 0, 0, 0, 0, 0, 0, 0, 0, 0, 0, 0, 9]
  macOf s ++ [2, 0, 0, 0, 0, 9, 0x86, 0xDD] ++ icmp6 src (llOf s) ([135, 0, 0, 0, 0, 0, 0, 0] ++ llOf s)
def echoFrame : List Byte :=
  let s := ncpWith sess1
  let src : List Byte := [0xFE, 0x80, 0, 0, 0, 0, 0, 0, 0, 0, 0, 0, 0, 0, 0, 9]
  macOf s ++ [2, 0, 0, 0, 0, 9, 0x86, 0xDD] ++ icmp6 src (llOf s) ([128, 0, 0, 0] ++ [0, 1, 0, 2])

/-- A part whose stacks have the larger size, with the domain of stack m on. -/
def nineStack (m : Nat) : State :=
  fused 8 9 (resetWith [(0x500004800034 + 0x100000 * m, 0x300)])

/-- What a machine says after one command: the next state, or the state as it was. -/
def after (i : Instr) (s : State) : State :=
  match exec i s with
  | .next t => t
  | _ => s

/-! Ill-formed commands: one for each check of `Instr.wf`. -/

theorem test_ill_formed_lane :
    (([.laneDlyMeasured [⟨3, 5⟩, ⟨3, 6⟩], .agcEval 0 [], .calRoundEnd 0 (List.replicate 97 (0, 0, 0)), .trWindowEnd 0 [],
      .scoutDwellEnd 0 [⟨0, 0, false, none, false⟩], .scoutDwellEnd 0 (List.replicate 4 ⟨257, 0, false, none, false⟩),
      .correlatorHit 60 0 257, .delimiterQualify 60 0 257 ⟨0, 0, 0⟩ none, .rsCodewordDecoded 0 ⟨0, [], []⟩,
      .rsCodewordDecoded 0 ⟨0, List.replicate 544 0, List.replicate 2720 4⟩, .noiseWindowEnd 0 [],
      .frameReceived 0 0 false []] : List Instr).all (fun i => !i.wf)) = true := by decide +kernel

theorem test_ill_formed_store :
    (([.replayFrameSend 0 [.bits [33792]], .pageRead 0 9151208 .unc, .pageRead 0 0 (.bits [4, 4]), .pageRewrite 0 9151208,
      .scrubRead 0 (.bits [33792]), .rmwWrite 0 0 [] .unc, .rmwWrite 0 4095 [1, 2] .unc,
      .hbmParityError 0 9151208 false false] : List Instr).all (fun i => !i.wf)) = true := by decide +kernel

theorem test_ill_formed_host :
    (([.arpRequest [1], .neighbourSolicitation [1], .echoRequest [1], .foreignFrame [1], .datagramReceived ⟨[1, 2, 3], 0⟩ [],
      .ncpOpen ⟨[], 0⟩ 0 0 0 0, .ncpRead 0 0 [], .ncpReadSeq 0 0 0 0, .ncpReadSeq 0 0 0 1025, .ncpWrite 0 0 false [],
      .ncpTimedBatch 0 0 false 0 0 [], .ncpBulkWrite 0 0 0 0 0 0 [] (.bits [1, 1]),
      .ncpBulkData 0 (.bits [33792])] : List Instr).all (fun i => !i.wf)) = true := by decide +kernel

theorem test_ill_formed_housekeeping :
    (([.hkDwellEnd (List.replicate 257 0), .selfcalDone 4193281 0 0 0, .thermalReading []] : List Instr).all
      (fun i => !i.wf)) = true := by decide +kernel

theorem test_ill_formed_loss_window : (Instr.pcLossWindow 0 (List.replicate 4097 0)).wf = false := by decide +kernel
theorem test_ill_formed_otp : (Instr.otpReread (List.replicate 387 (.lock true))).wf = false := by decide +kernel
theorem test_ill_formed_page :
    (Instr.pageComplete 0 (.lane 0 0 false (List.replicate 8193 0))).wf = false := by decide +kernel
theorem test_ill_formed_frame : (Instr.frameReceived 0 0 false (List.replicate 16385 0)).wf = false := by decide +kernel

/-! Single steps, with results that the spec gives. -/

/-- GLB.ID reads part 0x6425, family 0x0E, vendor 0x48 (its table in 01_architecture.md). -/
theorem test_read_id : (after (.registerRead .ncp 0) State.reset).resp = some ⟨.ncp, 0, false, 0x64250E48, .done⟩ := by
  decide +kernel

/-- An address that nothing decodes reads as 0, and the event of R36, 0x428, is bit 8 of EVT.STAT[33], at 0x000B_0084 (the
example of event words in 01_architecture.md). -/
theorem test_undecoded_read :
    let t := after (.registerRead .ncp 0x000C0000) State.reset
    t.resp = some ⟨.ncp, 0x000C0000, false, 0, .decodeErr⟩ ∧ bits 0x000B0084 8 8 t = 1 := by decide +kernel

/-- A register holds what was written to it. -/
theorem test_write_event_enable :
    (after (.registerWrite .ncp 0x000B0184 0x00000100) State.reset).getReg 0x000B0184 = 0x100 := by decide +kernel

/-- A write of g0 is discarded, and the PC moves on (R367). -/
theorem test_g0_stays :
    let t := after (.addi 3 0 1 7) (coreWith 3 0x40 [(1, 5)])
    (t.coreOf 3).gr 0 = 0 ∧ (t.coreOf 3).pc = 0x44 := by decide +kernel

/-- ADDI of 5 and -6 is -1 (R368). -/
theorem test_addi : ((after (.addi 3 2 1 0xFFFA) (coreWith 3 0x40 [(1, 5)])).coreOf 3).gr 2 = 0xFFFFFFFF := by decide +kernel

/-- An idle step passes one TL_CLK period. -/
theorem test_idle_step : (match step State.reset with
    | .next t => t.now
    | _ => 0) = 250 := by decide +kernel

/-! Worked examples of the spec. -/

/-- The late commit of entry 17 (02_timeline.md): LATE_SLIP 0x23400, SLIP_TC 0x241, LATE_IDX 17. -/
theorem test_late_commit :
    let t := actLate 17 0x18023400 ((State.reset.setReg ((Obj.act 17).base + R.TL_ACT_W_WORD.off) 0x18000000))
    t.rd tlB R.TL_LATE_SLIP_SLIP = 0x23400 ∧ t.rd (Obj.act 17).base R.TL_ACT_STATUS_SLIP_TC = 0x241 ∧
      t.rd tlB R.TL_LATE_IDX_INDEX = 17 := by decide +kernel

/-- The coast across a REST of 120 s with EMBER_PPM 150 (02_timeline.md): UNC is 703,203,125 ticks. -/
theorem test_unc_after_rest :
    let s := (State.reset.wr tlB R.TL_EMBER_CTRL_EMBER_PPM 150).wr tlB R.TL_STATUS_COASTED 1
    let t := uncStart .restRated 0 s
    { t with tl := { t.tl with tlv := 4687500000000 } }.unc = 703203125 := by decide +kernel

/-- Preset 6 at two samples per symbol (03_receive_front_end.md): h1 = h5 = -64, h3 = 383. -/
theorem test_preset_6 : presetTaps 6 true = [0, -64, 0, 383, 0, -64, 0, 0] := by decide +kernel

/-- Both check bits flipped (08_fec_pcs_patterns.md): with INNER_L = 0 data bit 121 is flipped wrongly; with INNER_L = 2 the
two flipped bits are found. -/
theorem test_double_check_bit :
    let w : BitVec 136 := innerEncode (1 ||| 1 <<< 121) ^^^ (1 <<< 129 ||| 1 <<< 130)
    let rel := (List.range 136).map (fun i => if 128 ≤ i ∧ i ≤ 131 then 0 else 3)
    innerSyn w = 6 ∧ innerDecode 0 ⟨w, rel⟩ = some [121] ∧ innerDecode 2 ⟨w, rel⟩ = some [129, 130] := by decide +kernel

/-- Sequence handling on flow 9 (09_flows_and_streams.md): LOST 0, DUP 1, REORDER 2 at the end. -/
theorem test_sequence_numbers :
    let f := [100, 101, 104, 102, 104, 103].foldl (fun (f : FlowCtx) n => (f.seqCheck n false).1)
      { FlowCtx.blank with x := 100, xv := true, map := 2 ^ 64 - 1 }
    f.lost = 0 ∧ f.dup = 1 ∧ f.reorder = 2 ∧ f.x = 105 := by decide +kernel

/-- Oscillator compensation at 72.5 °C (18_calibration_and_housekeeping.md): 0x7D. -/
theorem test_osc_set : calInterp 580 [0, 400, 800] [[0x84], [0x80], [0x79]] = [0x7D] := by decide +kernel

/-! Witnesses: premises of the statements met together, clause by clause. -/

theorem wit_AccessCodes :
    ∃ (f : Fld) (w : Word) (a : Word) (locked : Bool) (i : Nat),
      f.lo ≤ f.hi ∧ f.hi < 32 :=
  ⟨⟨0, 5, 4, .rw, 0⟩, 0x3F, 0x11, false, 4, by decide +kernel⟩

theorem wit_CountersSaturate :
    ∃ (s : State) (b : Nat) (f : Fld) (k : Nat) (j : Nat) (i : Nat),
      Inv s ∧ f.lo ≤ f.hi ∧ f.hi < 32 :=
  ⟨State.reset, 0x40000, R.TL_LATE_CNT_COUNT, 3, 0, 31, by decide +kernel⟩

theorem wit_RegisterWriteStores :
    ∃ (m : Master) (addr : Word) (w : Word) (s : State) (b : Blk) (off : Nat) (key : Nat),
      Served m true addr.toNat w s ∧ place addr.toNat = .reg b off ∧ gateOf addr.toNat = none ∧ (findReg b off).isSome =
        true ∧ ownWrite m b off w s.fresh = none ∧ effKey b off s.fresh = some key ∧ ((keyFlds key).any (fun f => f.acc ==
        .st) = false) :=
  ⟨.jtag, 0x01051034, 1, State.reset, .lane 5, 0x1034, 0x01051034, by decide +kernel⟩

theorem wit_RegisterReadShows :
    ∃ (m : Master) (addr : Word) (s : State) (b : Blk) (off : Nat) (key : Nat),
      Served m false addr.toNat 0 s ∧ place addr.toNat = .reg b off ∧ gateOf addr.toNat = none ∧ (findReg b off).isSome =
        true ∧ (b == .sq && (off == 0x20 || off == 0x24)) = false ∧ effKey b off s.fresh = some key :=
  ⟨.ncp, 0x00040018, State.reset, .tl, 0x18, 0x00040018, by decide +kernel⟩

theorem wit_UndecodedAccess :
    ∃ (m : Master) (addr : Word) (w : Word) (s : State),
      s.por = false ∧ s.inReset = false ∧ s.fatal = false ∧ s.off = false ∧ s.pclkStopped = false ∧ ((addr.toNat % 4 ≠ 0 ∨
        place addr.toNat = .unmapped)) :=
  ⟨.ncp, 2, 0, State.reset, by decide +kernel⟩

theorem wit_AccessTimeoutEnds :
    (∃ (s : State) (a : Access) (rest : List Access),
      s.waiting = a :: rest ∧ s.pclkStopped = false ∧ s.inReset = false) ∧
    (∃ (s : State),
      s.pclkStopped = false ∧ fget s.clk.coreCfg 23 16 = 85 ∧ fget s.clk.coreCfg 11 8 = 4) ∧
    (∃ (s : State) (d : Nat),
      s.pclkStopped = true) := by
  and_intros
  · exact ⟨{ State.reset with waiting := [⟨.jtag, 0x40000, true, 1, 84, 0⟩] }, ⟨.jtag, 0x40000, true, 1, 84, 0⟩, [], by decide +kernel⟩
  · exact ⟨State.reset, by decide +kernel⟩
  · exact ⟨resetWith [(0x20004, 1)], 77, by decide +kernel⟩

theorem wit_EventLines :
    (∃ (s : State) (id : Nat) (d : Nat) (acc : EvAcc),
      evDom id = some d ∧ bits (0x500000000034 + d * 0x100000) 10 8 s ≠ 3) ∧
    (∃ (n : Lane) (k : Nat),
      k < 11) ∧
    (∃ (o : Oct) (k : Nat),
      k < 6) ∧
    (∃ (id : Nat),
      0x3F0 ≤ id ∧ id < 0x430) := by
  and_intros
  · exact ⟨resetWith [(0x500000500034, 0)], 60, 5, EvAcc.none, by decide +kernel⟩
  · exact ⟨5, 3, by decide +kernel⟩
  · exact ⟨3, 2, by decide +kernel⟩
  · exact ⟨0x3F5, by decide +kernel⟩

theorem wit_ChipResets :
    (∃ (m : Master) (w : Word) (s : State),
      Served m true 0x00000020 (fset (fset w 31 16 0xA5C3) 0 0 1) s) ∧
    (∃ (s : State) (t : Nat),
      s.chipRstAt = some t) ∧
    (∃ (s : State) (t : Nat),
      s.chipRstAt = some t ∧ s.inReset = true ∧ s.resetLow = false) ∧
    (∃ (s : State),
      s.fatal = false ∧ s.off = false ∧ s.por = false ∧ s.inReset = false) ∧
    (∃ (m : Master) (w : Word) (s : State),
      Served m true 0x00000028 (fset w 0 0 1) s) ∧
    (∃ (m : Master) (w : Word) (s : State),
      Served m true 0x00000028 (fset w 1 1 1) s) := by
  and_intros
  · exact ⟨.ncp, 0, State.reset, by decide +kernel⟩
  · exact ⟨{ State.reset with chipRstAt := some 100 }, 100, by decide +kernel⟩
  · exact ⟨{ State.reset with chipRstAt := some 100, inReset := true }, 100, by decide +kernel⟩
  · exact ⟨State.reset, by decide +kernel⟩
  · exact ⟨.ncp, 0, State.reset, by decide +kernel⟩
  · exact ⟨.pair, 0, State.reset, by decide +kernel⟩

theorem wit_TimelineUnit :
    (∃ (m : Master) (w : Word) (s : State),
      Inv s ∧ bits 0x00040000 0 0 s = 0 ∧ Served m true 0x00040000 (fset w 0 0 1) s) ∧
    (∃ (m : Master) (w : Word) (s : State),
      Inv s ∧ bits 0x00040000 0 0 s = 1 ∧ Served m true 0x00040000 (fset w 0 0 0) s) ∧
    (∃ (m : Master) (w : Word) (s : State),
      Inv s ∧ bits 0x00040000 1 0 s = 1 ∧ bits 0x00040004 2 0 s = 0 ∧ fget w 1 0 = 3 ∧ fget w 31 31 = 0 ∧ Served m true
        0x00040000 w s) ∧
    (∃ (m : Master) (w : Word) (s : State),
      Inv s ∧ bits 0x00040004 2 0 s ≠ 4 ∧ Served m true 0x00040004 (fset w 3 3 1) s) ∧
    (∃ (m : Master) (w : Word) (s : State),
      bits 0x00040004 2 0 s = 4 ∧ fget w 7 7 = 0 ∧ Served m true 0x00040004 (fset w 3 3 1) s) ∧
    (∃ (m : Master) (w : Word) (s : State),
      bits 0x00040004 9 9 s = 0 ∧ fget w 0 0 = bits 0x00040000 0 0 s ∧ fget w 1 1 = bits 0x00040000 1 1 s ∧ Served m true
        0x00040000 (fset w 2 2 1) s) ∧
    (∃ (m : Master) (w : Word) (s : State),
      Served m true 0x00040000 (fset w 31 31 1) s) ∧
    (∃ (m : Master) (w : Word) (s : State),
      Served m true 0x00040000 (fset w 30 30 1) s) ∧
    (∃ (m : Master) (w : Word) (s : State),
      Served m true 0x00040000 (fset w 29 29 1) s) ∧
    (∃ (m : Master) (w : Word) (s : State),
      Served m true 0x00040000 (fset w 28 28 1) s) ∧
    (∃ (m : Master) (w : Word) (s : State),
      Served m true 0x00040000 (fset w 27 27 1) s) ∧
    (∃ (c : BitVec 40) (s : State),
      Inv s ∧ s.bbOn = true ∧ s.syncBad = none ∧ s.tl.step = none ∧ s.tl.lost = false ∧ s.tl.injLoss = none ∧ bits
        0x00040004 2 0 s = 1) ∧
    (∃ (c : BitVec 40) (s : State),
      s.bbOn = true ∧ s.syncBad = none ∧ s.tl.step = none ∧ s.tl.lost = false ∧ s.tl.injLoss = none ∧ ((bits 0x00040004 2
        0 s = 2 ∨ bits 0x00040004 2 0 s = 3)) ∧ s.tl.injErr = false ∧ s.tl.injMiss = false ∧ (s.advance ((250 - s.now % 250)
        % 250 + c.toNat * 250)).tl.tlv.toNat = s.tl.expect) ∧
    (∃ (s : State),
      s.bbOn = true ∧ ((bits 0x00040004 2 0 s = 2 ∨ bits 0x00040004 2 0 s = 3))) ∧
    (∃ (s : State) (d : StepDue),
      s.tl.step = some d ∧ s.counting = true) ∧
    (∃ (r : Word) (s : State) (t : Nat),
      Inv s ∧ s.tl.rateFrom = some t ∧ s.bbOn = true) ∧
    (∃ (l : List LaneDly) (s : State),
      s.tl.calRun = true) ∧
    (∃ (s : State) (t : Nat),
      s.tl.injLoss = some t ∧ look 0 s.clk.decl 2 ≠ 2) := by
  and_intros
  · exact ⟨.ncp, 5, resetWith [(0x40010, 77), (0x40014, 3)], by decide +kernel⟩
  · exact ⟨.jtag, 0, resetWith [(0x40000, 1), (0x40004, 0)], by decide +kernel⟩
  · exact ⟨.jtag, 3, resetWith [(0x40000, 1), (0x40004, 0)], by decide +kernel⟩
  · exact ⟨.jtag, 3, resetWith [(0x40000, 3), (0x40004, 0x8A)], by decide +kernel⟩
  · exact ⟨.jtag, 3, resetWith [(0x40000, 3), (0x40004, 0x0C)], by decide +kernel⟩
  · exact ⟨.jtag, 3, resetWith [(0x40000, 3), (0x40004, 0x8C)], by decide +kernel⟩
  · exact ⟨.jtag, 3, resetWith [(0x40000, 3)], by decide +kernel⟩
  · exact ⟨.jtag, 3, State.reset, by decide +kernel⟩
  · exact ⟨.pair, 0xFFFFFFFF, resetWith [(0x40000, 3)], by decide +kernel⟩
  · exact ⟨.boot, 0, State.reset, by decide +kernel⟩
  · exact ⟨.ncp, 0xFFFFFFFF, State.reset, by decide +kernel⟩
  · exact ⟨3, resetWith [(0x40004, 0x11), (0x40010, 77), (0x40014, 3)], by decide +kernel⟩
  · exact ⟨3, { resetWith [(0x40004, 0x2), (0x40018, 100)] with tl := { TlSt.reset with tlv := 1000, expect := 1750 } }, by decide +kernel⟩
  · exact ⟨resetWith [(0x40004, 0x13)], by decide +kernel⟩
  · exact ⟨{ resetWith [(0x40004, 2)] with tl := { TlSt.reset with tlv := 1000, step := some ⟨50, -300, false⟩ } }, ⟨50, -300, false⟩, by decide +kernel⟩
  · exact ⟨5, { State.reset with tl := { TlSt.reset with rateFrom := some 10 } }, 10, by decide +kernel⟩
  · exact ⟨[⟨5, 77⟩], { State.reset with tl := { TlSt.reset with calRun := true } }, by decide +kernel⟩
  · exact ⟨{ State.reset with tl := { TlSt.reset with injLoss := some 4, lost := true } }, 4, by decide +kernel⟩

theorem wit_ActionCommands :
    (∃ (m : Master) (w : Word) (s : State),
      Inv s ∧ Served m true 0x00040080 (fset w 14 12 0) s) ∧
    (∃ (m : Master) (w : Word) (s : State),
      Inv s ∧ actState (fget w 9 0) s ≠ 3 ∧ actOk m (s.getReg 0x0004008C) (s.getReg 0x00040090) s = true ∧ Served m true
        0x00040080 (fset w 14 12 1) s) ∧
    (∃ (m : Master) (w : Word) (s : State),
      Inv s ∧ actState (fget w 9 0) s ≠ 3 ∧ actOk m (s.getReg 0x0004008C) (s.getReg 0x00040090) s = true ∧ Served m true
        0x00040080 (fset w 14 12 2) s) ∧
    (∃ (m : Master) (w : Word) (s : State),
      Inv s ∧ actState (fget w 9 0) s ≠ 3 ∧ actState (fget w 9 0) s ≠ 0 ∧ actOk m (actW (fget w 9 0) 2 s) (actW (fget w 9
        0) 3 s) s = true ∧ Served m true 0x00040080 (fset w 14 12 3) s) ∧
    (∃ (m : Master) (w : Word) (s : State),
      Inv s ∧ actState (fget w 9 0) s ≠ 3 ∧ actState (fget w 9 0) s ≠ 0 ∧ Served m true 0x00040080 (fset w 14 12 4) s) ∧
    (∃ (m : Master) (w : Word) (s : State),
      Inv s ∧ actState (fget w 9 0) s ≠ 3 ∧ Served m true 0x00040080 (fset w 14 12 5) s) := by
  and_intros
  · exact ⟨.ncp, 5, resetWith [(0x1200000500084, 9), (0x1200000500088, 8), (0x120000050008C, 7), (0x1200000500090, 6)], by decide +kernel⟩
  · exact ⟨.ncp, 5, resetWith [(0x40084, 9), (0x40088, 8), (0x4008C, 0x53), (0x40090, 6)], by decide +kernel⟩
  · exact ⟨.ncp, 5, resetWith [(0x40084, 9), (0x40088, 8), (0x4008C, 0x53), (0x40090, 6)], by decide +kernel⟩
  · exact ⟨.ncp, 5, resetWith [(0x1200000500084, 9), (0x1200000500088, 8), (0x120000050008C, 0x53), (0x1200000500090, 6), (0x1200000500094, 1)], by decide +kernel⟩
  · exact ⟨.ncp, 5, resetWith [(0x1200000500084, 9), (0x1200000500088, 8), (0x120000050008C, 0x53), (0x1200000500090, 6), (0x1200000500094, 2)], by decide +kernel⟩
  · exact ⟨.ncp, 5, resetWith [(0x1200000500084, 9), (0x1200000500088, 8), (0x120000050008C, 0x53), (0x1200000500090, 6), (0x1200000500094, 2)], by decide +kernel⟩

theorem wit_ActionsAndCommits :
    (∃ (s : State) (i : Nat),
      let t := (s.fresh.advanceTlv (actTime i s - 256000) s.now).advanceNow s.tl.dispAt
      let mask := (t.getReg (0x00000140 + 8 * (fget (actW i 3 t) 5 0 % 8))).toNat + (t.getReg (0x00000144 + 8 * (fget (actW i 3 t) 5 0 % 8))).toNat * 2 ^ 32
      s.counting = true ∧ actNext s = some i ∧ ((∀ e ∈ actDoms i mask t, t.domOn e = true)) ∧ (((actsIn 3 t).filter (fun j
        => !(t.actOf j).full && actTarget j t == actTarget i t)).length < 16)) ∧
    (∃ (s : State) (i : Fin 1024),
      let a := s.actOf i.val
      let t := s.fresh.advanceTlv a.x a.due
      let x := max a.x t.tlv.toNat
      actState i.val s = 3 ∧ s.partRuns = true ∧ actReady i.val s = true ∧ (s.actOf i.val).held = false ∧ actDoms i.val
        a.mask t = []) ∧
    (∃ (m : Master) (w : Word) (s : State),
      Served m true 0x00000100 w s) ∧
    (∃ (s : State) (c : PendCommit) (cs : List PendCommit),
      s.commits = c :: cs) ∧
    (∃ (m : Master) (addr : Word) (w : Word) (s : State) (b : Blk) (off : Nat) (key : Nat) (c : Nat) (i : Nat),
      let p := storeWord b off key w s.fresh
      let u := regHook m b off (s.getReg key) w p.1
      Served m true addr.toNat w s ∧ place addr.toNat = .reg b off ∧ gateOf addr.toNat = none ∧ (findReg b off).isSome =
        true ∧ ownWrite m b off w s.fresh = none ∧ effKey b off s.fresh = some key ∧ keyGroup key = some (c, i) ∧ ((keyFlds
        key).any (fun f => f.acc == .st) = true) ∧ p.2 = false ∧ legacyOn c u = true) ∧
    (∃ (s : State) (k : Fin 14) (i : Lane) (t : Nat),
      look 0 s.legacy (64 * k.val + i.val) = t + 1) := by
  and_intros
  · exact ⟨resetWith [(0x40004, 0), (0x1200000500084, 9), (0x1200000500088, 8), (0x120000050008C, 0x53), (0x1200000500090, 6), (0x1200000500094, 2)], 5, by decide +kernel⟩
  · exact ⟨{ resetWith [(0x40004, 0), (0x1200000500084, 9), (0x1200000500088, 8), (0x120000050008C, 0x53), (0x1200000500090, 6), (0x1200000500094, 3)] with acts := [(5, ⟨0, 1000, 1000, 0, false, false, false⟩)] }, 5, by decide +kernel⟩
  · exact ⟨.ncp, 0x0135, resetWith [(0x148, 9), (0x14C, 8)], by decide +kernel⟩
  · exact ⟨{ State.reset with commits := [⟨0, 0, 5, 0, 100, 100⟩] }, ⟨0, 0, 5, 0, 100, 100⟩, [], by decide +kernel⟩
  · exact ⟨.ncp, 0x01056004, 0x00010040, resetWith [(0x500000500034, 0x300), (0x10C, 0x00400040)], .lane 5, 0x6004, 0x01056004, 6, 5, by decide +kernel⟩
  · exact ⟨{ State.reset with legacy := [(64 * 7 + 5, 11)] }, 7, 5, 10, by decide +kernel⟩

theorem wit_ReceiveCommands :
    (∃ (m : Master) (n : Lane) (w : Word) (s : State),
      fget w 31 31 = 0 ∧ Served m true (0x01000000 + 0x10000 * n.val) w s) ∧
    (∃ (m : Master) (n : Lane) (w : Word) (s : State),
      Served m true (0x01000000 + 0x10000 * n.val) (fset w 31 31 1) s) ∧
    (∃ (m : Master) (n : Lane) (w : Word) (s : State),
      Served m true (0x01000058 + 0x10000 * n.val) (fset w 0 0 1) s) ∧
    (∃ (m : Master) (n : Lane) (w : Word) (s : State) (i : Nat),
      Inv s ∧ s.rd (laneB n.val) R.RX_TRIM_SEL_INDEX = i ∧ i < 96 ∧ Served m true (0x01000048 + 0x10000 * n.val) w s) ∧
    (∃ (m : Master) (n : Lane) (w : Word) (s : State),
      96 ≤ s.rd (laneB n.val) R.RX_TRIM_SEL_INDEX ∧ Served m true (0x01000048 + 0x10000 * n.val) w s) := by
  and_intros
  · exact ⟨.ncp, 5, 1, stateWith [(0x500000500034, 0x300)] State.reset, by decide +kernel⟩
  · exact ⟨.ncp, 5, 1, resetWith [(0x500000500034, 0x300), (0x1050004, 6), (0x1051034, 1)], by decide +kernel⟩
  · exact ⟨.ncp, 5, 7, resetWith [(0x500000500034, 0x300), (0x1050004, 6)], by decide +kernel⟩
  · exact ⟨.ncp, 5, 0x12345678, resetWith [(0x500000500034, 0x300), (0x1050044, 3), (0x105003C, 5)], 3, by decide +kernel⟩
  · exact ⟨.ncp, 5, 0x12345678, resetWith [(0x500000500034, 0x300), (0x1050044, 100)], by decide +kernel⟩

theorem wit_ReceiveEvents :
    (∃ (n : Lane) (v : BitVec 8) (s : State),
      3 ≤ s.rxState n.val ∧ s.rxState n.val ≤ 6 ∧ v.toNat < s.rd (laneB n.val) R.RX_LOS_CFG_ASSERT_TH ∧ s.on (laneB n.val)
        R.RX_STATUS_LOS = false) ∧
    (∃ (n : Lane) (v : BitVec 8) (s : State),
      3 ≤ s.rxState n.val ∧ s.rxState n.val ≤ 6 ∧ losOffLevel n.val s < v.toNat ∧ s.on (laneB n.val) R.RX_STATUS_LOS =
        true) ∧
    (∃ (n : Lane) (sums : List RoundSum) (s : State),
      s.rxState n.val ≠ 2 ∧ s.on (laneB n.val) R.RX_CAL_CTRL_BG_EN = false) ∧
    (∃ (n : Lane) (sums : List RoundSum) (s : State),
      s.rxState n.val = 2 ∧ s.rd (laneB n.val) R.RX_CAL_CTRL_FREEZE_OFS = 1 ∧ s.rd (laneB n.val) R.RX_CAL_CTRL_FREEZE_GAIN
        = 1 ∧ s.rd (laneB n.val) R.RX_CAL_CTRL_FREEZE_SKEW = 1 ∧ (s.rxOf n.val).pendTrim = []) ∧
    (∃ (n : Lane) (pd : List PdOut) (s : State),
      4 ≤ s.rxState n.val ∧ s.rxState n.val ≤ 6) ∧
    (∃ (n : Lane) (st : Nat) (cause : Nat) (s : State),
      Inv s ∧ st < 8 ∧ cause < 8 ∧ st ≠ s.rxState n.val) := by
  and_intros
  · exact ⟨5, 2, resetWith [(0x1050004, 6)], by decide +kernel⟩
  · exact ⟨5, 200, resetWith [(0x1050004, 0x203)], by decide +kernel⟩
  · exact ⟨5, [(5, 6, 7)], resetWith [(0x105003C, 0x80000)], by decide +kernel⟩
  · exact ⟨5, [(5, 6, 7)], resetWith [(0x105003C, 0x80007), (0x1050004, 2)], by decide +kernel⟩
  · exact ⟨5, [⟨5, 100, -7⟩], resetWith [(0x1050004, 6)], by decide +kernel⟩
  · exact ⟨5, 6, 0, resetWith [(0x500000500034, 0x300), (0x1050004, 5)], by decide +kernel⟩

theorem wit_Equaliser :
    (∃ (m : Master) (n : Lane) (w : Word) (s : State) (k : Nat),
      let a := 0x01001018 + 0x10000 * n.val
      eqSelKey n.val s = some k ∧ s.on (laneB n.val) R.EQ_COEF_SEL_AUTO_INC = false ∧ Served m true a w s) ∧
    (∃ (m : Master) (n : Lane) (w : Word) (s : State),
      Served m true (0x0100101C + 0x10000 * n.val) (fset w 31 31 1) s) ∧
    (∃ (m : Master) (n : Lane) (w : Word) (s : State),
      (s.eqOf n.val).stat ≤ 1 ∧ s.on (laneB n.val) R.EQ_CTRL_FREEZE = false ∧ s.on (laneB n.val) R.EQ_STATUS_XF_BUSY =
        false ∧ s.on (laneB n.val) R.EQ_STATUS_LOAD_BUSY = false ∧ s.rxState n.val = 6 ∧ Served m true (0x01001020 + 0x10000
        * n.val) (fset w 31 31 1) s) ∧
    (∃ (m : Master) (n : Lane) (w : Word) (s : State),
      Served m true (0x01001034 + 0x10000 * n.val) (fset w 0 0 1) s) ∧
    (∃ (n : Lane) (s : State),
      s.on (laneB n.val) R.EQ_STATUS_LOAD_BUSY = true ∧ (s.eqOf n.val).stat ≠ 1) ∧
    (∃ (n : Lane) (s : State),
      s.on (laneB n.val) R.EQ_STATUS_XF_BUSY = true ∧ (s.rxOf n.val).agcDefer = 0 ∧ (s.eqOf n.val).stat ≠ 1) ∧
    (∃ (n : Lane) (y : RxStretch) (s : State),
      (s.eqOf n.val).stat = 2) ∧
    (∃ (n : Lane) (s : State),
      (s.eqOf n.val).stat = 3 ∧ s.on (laneB n.val) R.EQ_STAT_CTRL_CONT = false) ∧
    (∃ (n : Lane) (y : RxStretch) (s : State),
      s.rxState n.val = 6) := by
  and_intros
  · exact ⟨.ncp, 5, 0x12345678, resetWith [(0x500000500034, 0x300), (0x1051014, 0x103)], (Obj.eqCoef 5 1 0 3).base + 0x1018, by decide +kernel⟩
  · exact ⟨.ncp, 5, 0x40000001, resetWith [(0x500000500034, 0x300)], by decide +kernel⟩
  · exact ⟨.ncp, 5, 0, resetWith [(0x500000500034, 0x300), (0x1050004, 6), (0x1051000, 0)], by decide +kernel⟩
  · exact ⟨.ncp, 5, 0, resetWith [(0x500000500034, 0x300)], by decide +kernel⟩
  · exact ⟨5, (resetWith [(0x1051004, 8)]).setEq 5 { EqSt.idle with loadSrc := 3, loadParts := 3, loadBank := 1 }, by decide +kernel⟩
  · exact ⟨5, resetWith [(0x1051004, 4)], by decide +kernel⟩
  · exact ⟨5, ⟨3, [5, 0xF9, 90, 4, 7, 8, 9, 0x80], 2, none⟩, (resetWith [(0x1050004, 6)]).setEq 5 { EqSt.idle with stat := 2, kind := 1, reasons := 4 }, by decide +kernel⟩
  · exact ⟨5, (resetWith [(0x1051020, 0)]).setEq 5 { EqSt.idle with stat := 3, header := 0x80010000, seq := 1 }, by decide +kernel⟩
  · exact ⟨5, ⟨3, [100, 100, 100, 0x80], 1, none⟩, resetWith [(0x1050004, 6), (0x1051028, 0x10)], by decide +kernel⟩

theorem wit_TransmitPath :
    (∃ (m : Master) (n : Lane) (w : Word) (s : State),
      Served m true (0x01002000 + 0x10000 * n.val) w s) ∧
    (∃ (m : Master) (n : Lane) (w : Word) (s : State),
      let a := 0x01002020 + 0x10000 * n.val
      Served m true a w s) ∧
    (∃ (m : Master) (n : Lane) (w : Word) (s : State),
      Served m true (0x01002040 + 0x10000 * n.val) (fset w 0 0 1) s) ∧
    (∃ (n : Lane) (words : List (BitVec 2)) (s : State),
      let x := s.txOf n.val
      let r := txRun (txCfg n.val s) words ⟨x.line, x.lastT, x.fadeAt, x.lastV, x.lastX, [], [], 0, 0⟩
      s.rd (laneB n.val) R.TX_STATUS_STATE = 2 ∧ s.rd (laneB n.val) R.TX_SRC_SRC = 1 ∧ waveOn n.val s = false ∧ (s.hazeOf
        n.val).dly = 0 ∧ (waveRun n.val r.exact s).2.1.dly = 0) ∧
    (∃ (n : Lane) (s : State) (h : TxHeld),
      (s.txOf n.val).held = some h ∧ s.synLocked (n.val / 8) = true ∧ ((∀ i : Lane, i.val / 8 = n.val / 8 → i ≠ n →
        (s.txOf i.val).held = none))) ∧
    (∃ (n : Lane) (s : State) (h : TxHeld),
      (s.txOf n.val).held = some h ∧ ((∀ i : Lane, i ≠ n → (s.txOf i.val).held.any (fun g => g.since == h.since && g.entry
        == h.entry) = false))) := by
  and_intros
  · exact ⟨.ncp, 5, 1, resetWith [(0x500000500034, 0x300)], by decide +kernel⟩
  · exact ⟨.ncp, 5, 0x12345678, resetWith [(0x500000500034, 0x300), (0x105201C, 0x1003)], by decide +kernel⟩
  · exact ⟨.ncp, 5, 0, resetWith [(0x500000500034, 0x300)], by decide +kernel⟩
  · exact ⟨5, [1, 2, 3], resetWith [(0x1052004, 2), (0x1052008, 1), (0x1052010, 0x7F7F7F7F)], by decide +kernel⟩
  · exact ⟨5, (resetWith [(0x1052004, 0x400), (0x100008, 3)]).setTx 5 { TxSt.idle with held := some ⟨0, 0, none⟩ }, ⟨0, 0, none⟩, by decide +kernel⟩
  · exact ⟨5, (resetWith [(0x1052004, 0x400)]).setTx 5 { TxSt.idle with held := some ⟨0, 0, some 3⟩ }, ⟨0, 0, some 3⟩, by decide +kernel⟩

theorem wit_Synthesisers :
    (∃ (m : Master) (o : Oct) (w : Word) (s : State),
      fget w 31 31 = 0 ∧ Served m true (0x00100000 + 0x10000 * o.val) w s) ∧
    (∃ (m : Master) (o : Oct) (w : Word) (s : State),
      fget w 31 31 = 0 ∧ fget w 0 0 = 1 ∧ s.rd (octB o.val) R.OCT_SYN_STATUS_STATE ≠ 0 ∧ Served m true (0x00100000 +
        0x10000 * o.val) (fset w 1 1 1) s) ∧
    (∃ (m : Master) (o : Oct) (w : Word) (s : State),
      Served m true (0x00100000 + 0x10000 * o.val) (fset w 31 31 1) s) ∧
    (∃ (o : Oct) (band : BitVec 8) (s : State),
      s.on (octB o.val) R.OCT_SYN_STATUS_LREF_LOST = false) ∧
    (∃ (m : Master) (o : Oct) (w : Word) (s : State),
      Served m true (0x00100010 + 0x10000 * o.val) (fset w 0 0 1) s) ∧
    (∃ (o : Oct) (st : Nat) (s : State),
      Inv s ∧ st < 4) := by
  and_intros
  · exact ⟨.ncp, 3, 1, resetWith [(0x500004300034, 0x302)], by decide +kernel⟩
  · exact ⟨.ncp, 3, 1, resetWith [(0x500004300034, 0x302), (0x130008, 3)], by decide +kernel⟩
  · exact ⟨.ncp, 3, 1, resetWith [(0x500004300034, 0x302), (0x130008, 3)], by decide +kernel⟩
  · exact ⟨3, 77, resetWith [(0x500004300034, 0x302), (0x130008, 1)], by decide +kernel⟩
  · exact ⟨.ncp, 3, 0, resetWith [(0x500004300034, 0x302), (0x130008, 3)], by decide +kernel⟩
  · exact ⟨3, 3, resetWith [(0x500004300034, 0x302), (0x130008, 2)], by decide +kernel⟩

theorem wit_BiasCommands :
    (∃ (m : Master) (n : Lane) (w : Word) (s : State),
      s.locksSet = false ∧ Served m true (0x01007010 + 0x10000 * n.val) w s) ∧
    (∃ (m : Master) (n : Lane) (w : Word) (s : State),
      Served m true (0x01007028 + 0x10000 * n.val) w s) ∧
    (∃ (m : Master) (n : Lane) (w : Word) (s : State),
      let a := 0x01007018 + 0x10000 * n.val
      Inv s ∧ Served m true a w s) ∧
    (∃ (m : Master) (w : Word) (s : State),
      Served m true 0x00090024 w s) ∧
    (∃ (m : Master) (w : Word) (s : State),
      Served m true 0x00090008 (fset w 2 0 1) s) ∧
    (∃ (m : Master) (n : Lane) (w : Word) (s : State),
      Served m true (0x01007030 + 0x10000 * n.val) (fset w 0 0 1) s) ∧
    (∃ (m : Master) (w : Word) (s : State),
      Served m true 0x0009002C (fset w 0 0 1) s) := by
  and_intros
  · exact ⟨.jtag, 5, 0x01234567, State.reset, by decide +kernel⟩
  · exact ⟨.jtag, 5, 0x01234567, resetWith [(0x1057024, 0x08000100), (0x1057020, 0x01000000), (0x1057000, 8)], by decide +kernel⟩
  · exact ⟨.jtag, 5, 0x1E, (resetWith [(0x1057018, 0x1E)]).setBias 5 { BiasSt.idle with det := 2 }, by decide +kernel⟩
  · exact ⟨.jtag, 1, resetWith [(0x1057018, 0x1E)], by decide +kernel⟩
  · exact ⟨.jtag, 0x5AFE0500, resetWith [(0x9000C, 0x12340123)], by decide +kernel⟩
  · exact ⟨.jtag, 5, 0, State.reset, by decide +kernel⟩
  · exact ⟨.jtag, 0x500, State.reset, by decide +kernel⟩

theorem wit_OtpProgramming :
    (∃ (w : Word) (s : State) (i : Nat),
      fget w 31 16 = 0x5AFE ∧ s.safeOp = none ∧ ((fget w 2 0 = 1 → freeSlot (fget w 13 8) s = some i)) ∧ 1 ≤ fget w 2 0 ∧
        fget w 2 0 ≤ 3) ∧
    (∃ (v : Bool) (s : State) (p : SafeOp) (i : Nat),
      s.safeOp = some p ∧ p.inj = false ∧ v = true ∧ p.op = 1 ∧ freeSlot p.lane s = some i) ∧
    (∃ (v : Bool) (s : State) (p : SafeOp),
      s.safeOp = some p ∧ p.inj = false ∧ v = true ∧ (p.op = 2 ∨ p.op = 3)) ∧
    (∃ (v : Bool) (s : State) (p : SafeOp),
      s.safeOp = some p ∧ p.inj = true) := by
  and_intros
  · exact ⟨0x5AFE0501, State.reset, 0, by decide +kernel⟩
  · exact ⟨true, { State.reset with safeOp := some ⟨1, 5, 7, 8, 0, false⟩ }, ⟨1, 5, 7, 8, 0, false⟩, 0, by decide +kernel⟩
  · exact ⟨true, { State.reset with safeOp := some ⟨2, 5, 7, 8, 12, false⟩ }, ⟨2, 5, 7, 8, 12, false⟩, by decide +kernel⟩
  · exact ⟨false, { State.reset with safeOp := some ⟨2, 5, 7, 8, 12, true⟩ }, ⟨2, 5, 7, 8, 12, true⟩, by decide +kernel⟩

theorem wit_BiasEvents :
    (∃ (n : Lane) (vb : Bool) (s : State),
      s.biasUv = false ∧ s.islandRuns = true ∧ ((s.biasOf n.val).ch vb).hold = false) ∧
    (∃ (n : Lane) (vb : Bool) (s : State),
      ((s.biasOf n.val).ch vb).hold = true) ∧
    (∃ (n : Lane) (s : State),
      gateWant n.val s ≠ (s.biasOf n.val).gate) ∧
    (∃ (n : Lane) (s : State) (x : Nat),
      let t := s.fresh.advanceTlv x s.now
      gateWant n.val s = false ∧ (s.biasOf n.val).gate = false ∧ s.counting = true ∧ gateNext n.val s = some x ∧ gateWant
        n.val t = true) ∧
    (∃ (n : Lane) (d : Detector) (s : State),
      d ≠ .openLoad ∧ detArmed n.val d s = true ∧ (s.biasOf n.val).det / 2 ^ detBit d % 2 = 0 ∧ s.islandRuns = true) ∧
    (∃ (n : Lane) (s : State),
      detArmed n.val .openLoad s = true ∧ (s.biasOf n.val).det = 3) ∧
    (∃ (n : Lane) (s : State),
      (s.biasOf n.val).apcRun = true ∧ s.on (laneB n.val) R.BIAS_CTRL_IB_SRC = true ∧ s.rd (laneB n.val)
        R.BIAS_APC_CFG_WDOG ≠ 0 ∧ s.islandRuns = true) ∧
    (∃ (found : List OtpUpset) (s : State),
      s.por = false) ∧
    (∃ (n : Lane) (s : State),
      s.on (laneB n.val) R.BIAS_STATUS_EMITTING = true ∧ s.rd (safeL n.val) R.SAFE_LANE_DUTY ≠ 0xFF ∧ s.islandRuns = true
        ∧ s.on (safeL n.val) R.SAFE_LANE_CLAMP_DUTY = false) ∧
    (∃ (n : Lane) (step : Bool) (s : State),
      Inv s ∧ s.biasUv = true) ∧
    (∃ (n : Lane) (step : Bool) (s : State),
      Inv s ∧ s.biasUv = false ∧ s.allClearing = true ∧ (s.biasOf n.val).ib.hold = false ∧ s.rd (laneB n.val)
        R.BIAS_OUT_IB_RNG_OUT = s.rd (laneB n.val) R.BIAS_CLEAR_IB_CRNG) ∧
    (∃ (n : Lane) (step : Bool) (s : State) (i : Lane),
      Inv s ∧ i ≠ n) := by
  and_intros
  · exact ⟨5, false, resetWith [(0x1057004, 0x100), (0x1057010, 0), (0x1057014, 0)], by decide +kernel⟩
  · exact ⟨5, true, State.reset.setBias 5 (BiasSt.idle.setCh true { BiasSt.idle.ch true with hold := true }), by decide +kernel⟩
  · exact ⟨60, State.reset.setBias 60 { BiasSt.idle with gate := !(gateWant 60 State.reset) }, by decide +kernel⟩
  · exact ⟨60, (resetWith [(0x40004, 0), (0x13C3080, 0x21), (0x13C3084, 5000), (0x13C3094, 0x80000100)]).setAcq 60 { AcqSt.idle with next := [some 0, none, none, none] }, 5000, by decide +kernel⟩
  · exact ⟨5, .vbOvl, State.reset, by decide +kernel⟩
  · exact ⟨5, (resetWith [(0x1057014, 0x3000)]).setBias 5 { BiasSt.idle with det := 3 }, by decide +kernel⟩
  · exact ⟨5, (resetWith [(0x1057020, 0x01000000), (0x1057000, 8)]).setBias 5 { BiasSt.idle with apcRun := true }, by decide +kernel⟩
  · exact ⟨[], State.reset, by decide +kernel⟩
  · exact ⟨5, resetWith [(0x90214, 0x10), (0x1057018, 0x220)], by decide +kernel⟩
  · exact ⟨5, false, { resetWith [(0x1057014, 0x3000)] with biasUv := true }, by decide +kernel⟩
  · exact ⟨5, false, resetWith [(0x1057014, 0x3000), (0x1057010, 0x123), (0x90004, 0x24), (0x90000, 0)], by decide +kernel⟩
  · exact ⟨5, true, resetWith [(0x1057014, 0x3000), (0x1057004, 0x123)], 6, by decide +kernel⟩

theorem wit_ScoutAndGroups :
    (∃ (m : Master) (n : Lane) (w : Word) (s : State),
      Served m true (0x01003000 + 0x10000 * n.val) (fset w 0 0 1) s) ∧
    (∃ (n : Lane) (res : List CandMeas) (s : State),
      s.on (laneB n.val) R.ACQ_SCOUT_CTRL_EN = true ∧ 3 ≤ s.rxState n.val ∧ s.rxState n.val ≤ 6 ∧ (s.on (laneB n.val)
        R.ACQ_SCOUT_CTRL_CONT = true ∨ (s.acqOf n.val).armed = true)) ∧
    (∃ (n : Lane) (id : BitVec 6) (s : State) (g : Nat),
      laneGrp n.val s = some g ∧ s.rd (grpB (n.val / 16) g) R.FE_GRP_STAT_STATE ≠ 0 ∧ s.rd (lstB n.val)
        R.FE_LSTAT_AM_STATE = 2 ∧ s.rxMode n.val ≠ 0 ∧ s.feUp (n.val / 16) = true ∧ blockLink n.val g s = false) ∧
    (∃ (n : Lane) (x : MarkerIn) (s : State) (g : Nat),
      laneGrp n.val s = some g ∧ s.rd (grpB (n.val / 16) g) R.FE_GRP_STAT_STATE ≠ 0 ∧ s.rd (lstB n.val)
        R.FE_LSTAT_AM_STATE = 1 ∧ s.feUp (n.val / 16) = true ∧ ((s.rxMode n.val = 0 → s.on (laneB n.val)
        R.FEC_STATUS_INNER_LOCK = true)) ∧ blockLink n.val g s = false ∧ (markerOk x).1 = false) ∧
    (∃ (e : Eng) (g : Fin 16) (s : State),
      (s.feUp e.val = false ∨ s.rd (grpB e.val g.val) R.FE_GRP_STAT_STATE = 0)) ∧
    (∃ (e : Eng) (g : Fin 16) (s : State) (n : Lane) (p : Nat × Nat × Nat),
      s.feUp e.val = true ∧ grpLanes e.val g.val s = [n.val] ∧ s.rd (grpB e.val g.val) R.FE_GRP_STAT_STATE = 1 ∧ 2 ≤ s.rd
        (grpB e.val g.val) R.FE_GRP_CFG_LINK ∧ (s.amOf n.val).stamp = some p ∧ p.1 ≤ 2 ^ 64 ∧ look 0 s.injSkew (16 * e.val +
        g.val) = 0 ∧ Inv s) ∧
    (∃ (m : Master) (n : Lane) (w : Word) (s : State),
      Served m true (0x01003020 + 0x10000 * n.val) (fset w 0 0 1) s) ∧
    (∃ (m : Master) (e : Eng) (w : Word) (s : State),
      Served m true (0x002008C4 + 0x40000 * e.val) (fset w 1 1 1) s) := by
  and_intros
  · exact ⟨.ncp, 5, 0x40, resetWith [(0x500000500034, 0x300)], by decide +kernel⟩
  · exact ⟨5, [⟨200, 3, true, none, false⟩], (resetWith [(0x1053000, 1), (0x1053004, 0x89), (0x1050004, 6)]).setAcq 5 { AcqSt.idle with armed := true }, by decide +kernel⟩
  · exact ⟨5, 3, (resetWith [(0x500004E00034, 0x300), (0x200800, 0x85030000), (0x200840, 0x10000), (0x200894, 0x80000000), (0x1050000, 0x18)]), 0, by decide +kernel⟩
  · exact ⟨5, (.block 5), (resetWith [(0x500004E00034, 0x300), (0x200800, 0x85030000), (0x200840, 0x10000), (0x200894, 0x40000000), (0x1050000, 0x18)]), 0, by decide +kernel⟩
  · exact ⟨2, 3, State.reset, by decide +kernel⟩
  · exact ⟨0, 0, ((resetWith [(0x500004E00034, 0x300), (0x200800, 0x80030000), (0x200840, 0x10000), (0x200880, 0x80000000), (0x1000000, 0x18)]).setAm 0 { AmSt.idle with stamp := some (5, 0, 0) }), 0, (5, 0, 0), by decide +kernel⟩
  · exact ⟨.ncp, 5, 0x40, resetWith [(0x500000500034, 0x300)], by decide +kernel⟩
  · exact ⟨.ncp, 1, 0, resetWith [(0x500004F00034, 0x300)], by decide +kernel⟩

theorem wit_BurstReceive :
    (∃ (m : Master) (n : Lane) (w : Word) (s : State),
      fget w 31 31 = 0 ∧ 56 ≤ n.val ∧ fget w 0 0 = 1 ∧ fget w 7 7 = 1 ∧ 3 ≤ s.rxState n.val ∧ s.rxState n.val ≤ 6 ∧ Served
        m true (0x01000000 + 0x10000 * n.val) w s) ∧
    (∃ (n : Lane) (s : State),
      Inv s ∧ 3 ≤ s.rxState n.val ∧ s.rxState n.val ≤ 6) ∧
    (∃ (n : Lane) (sym : Nat) (mean : Nat) (s : State),
      s.rxState n.val = 7) ∧
    (∃ (n : Lane) (sym : Nat) (corr : Nat) (s : State),
      burstRuns n.val s = true ∧ s.rd (laneB n.val) R.ACQ_BURST_DET_START_TH ≤ corr ∧ ctxState n.val 0 s = 0 ∧ rxGateOpen
        n.val s = true ∧ ((ctxState n.val 1 s = 0 ∨ ctxAdopts (s.acqOf n.val).ctx1 sym = false))) ∧
    (∃ (n : Lane) (c : Fin 2) (corr : Nat) (m : CtxMeas) (s : State),
      ctxState n.val c.val s = 1 ∧ s.rd (laneB n.val) R.ACQ_BURST_QUAL_QUAL_TH ≤ corr ∧ ownerCtx n.val s = none) ∧
    (∃ (n : Lane) (j : Fin 4) (s : State) (p : Nat),
      (s.acqOf n.val).next.getD j.val none = some p ∧ s.counting = true ∧ (s.acqOf n.val).injWin = false) ∧
    (∃ (n : Lane) (j : Fin 4) (s : State) (v : OpenWin),
      (s.acqOf n.val).wins = [v] ∧ v.j = j.val ∧ s.counting = true ∧ v.tx = false ∧ s.on (laneB n.val)
        R.ACQ_BW_CTRL_RX_GATE = false) ∧
    (∃ (n : Lane) (s : State) (t : Nat),
      (s.acqOf n.val).guardAt = some t) := by
  and_intros
  · exact ⟨.ncp, 60, 0x81, resetWith [(0x500003C00034, 0x300), (0x13C0004, 6)], by decide +kernel⟩
  · exact ⟨60, resetWith [(0x500003C00034, 0x300), (0x13C0004, 6), (0x13C0000, 0x19), (0x13C302C, 0x400)], by decide +kernel⟩
  · exact ⟨60, 9, 5000, resetWith [(0x13C0004, 7), (0x13C0000, 0x99), (0x13C302C, 0x400)], by decide +kernel⟩
  · exact ⟨60, 100, 900, resetWith [(0x13C0004, 7), (0x13C0000, 0x99)], by decide +kernel⟩
  · exact ⟨60, 1, 1000, ⟨50, 77, 5⟩, ((resetWith [(0x13C0004, 7), (0x13C0000, 0x99)]).wr (laneB 60) R.ACQ_BURST_STAT_CTX1 1), by decide +kernel⟩
  · exact ⟨60, 1, (resetWith [(0x40004, 0), (0x13C3098, 500), (0x13C309C, 0)]).setAcq 60 { AcqSt.idle with next := [none, some 0, none, none] }, 0, by decide +kernel⟩
  · exact ⟨60, 1, (resetWith [(0x40004, 0)]).setAcq 60 { AcqSt.idle with wins := [⟨1, false, 700⟩] }, ⟨1, false, 700⟩, by decide +kernel⟩
  · exact ⟨60, State.reset.setAcq 60 { AcqSt.idle with guardAt := some 50 }, 50, by decide +kernel⟩

theorem wit_FecDecoding :
    (∃ (n : Lane) (words : List (BitVec 4)) (s : State),
      (s.rxState n.val ≠ 6 ∨ s.rxMode n.val ≠ 0 ∨ laneGrp n.val s = none ∨ s.feUp (n.val / 16) = false)) ∧
    (∃ (n : Lane) (words : List (BitVec 4)) (s : State),
      s.rxState n.val = 6 ∧ s.rxMode n.val = 0 ∧ (laneGrp n.val s).isSome = true ∧ s.feUp (n.val / 16) = true ∧ s.on
        (laneB n.val) R.FEC_STATUS_INNER_LOCK = false) ∧
    (∃ (n : Lane) (words : List (BitVec 4)) (s : State),
      s.rxState n.val = 6 ∧ s.rxMode n.val = 0 ∧ (laneGrp n.val s).isSome = true ∧ s.feUp (n.val / 16) = true ∧ s.on
        (laneB n.val) R.FEC_STATUS_INNER_LOCK = true ∧ Inv s ∧ s.domOn n.val = true ∧ 1156 ≤ ((s.fecOf n.val).innerBuf ++
        words).length) ∧
    (∃ (n : Lane) (cw : RsWord) (s : State) (g : Nat),
      laneGrp n.val s = some g ∧ grpLanes (n.val / 16) g s = [n.val] ∧ blockLink n.val g s = false ∧ s.rd (grpB (n.val /
        16) g) R.FE_GRP_STAT_STATE = 2 ∧ s.feUp (n.val / 16) = true ∧ s.rxMode n.val ≠ 0 ∧ Inv s ∧ s.domOn n.val = true) ∧
    (∃ (n : Lane) (cw : RsWord) (s : State),
      laneGrp n.val s = none) ∧
    (∃ (n : Nat) (unc : Bool) (w : Nat) (wl : Nat) (bits : Nat) (s : State),
      Inv s) ∧
    (∃ (m : Master) (n : Lane) (w : Word) (s : State),
      Served m true (0x01004000 + 0x10000 * n.val) (fset w 31 31 1) s) ∧
    (∃ (n : Lane) (s : State),
      Inv s ∧ s.on (laneB n.val) R.FEC_STATUS_SNAP_BUSY = true) ∧
    (∃ (e : Eng) (s : State) (r : ForRec),
      (s.forRecs.find? (fun x => x.eng == e.val) = some r)) ∧
    (∃ (m : Master) (e : Eng) (w : Word) (s : State),
      Served m true (0x0020090C + 0x40000 * e.val) (fset w 0 0 1) s) := by
  and_intros
  · exact ⟨5, [1, 2], State.reset, by decide +kernel⟩
  · exact ⟨5, [], resetWith [(0x500004E00034, 0x300), (0x200800, 0x85080000), (0x1050004, 6), (0x1050000, 1)], by decide +kernel⟩
  · exact ⟨5, ((List.range 1200).map (fun i => BitVec.ofNat 4 (i * i * i / 5))), ((resetWith [(0x500004E00034, 0x300), (0x500000500034, 0x300), (0x200800, 0x85080000), (0x1050004, 6), (0x1050000, 1)]).wr (laneB 5) R.FEC_STATUS_INNER_LOCK 1).setFec 5 { FecSt.idle with innerLast := List.replicate 15 true ++ [false] }, by decide +kernel⟩
  · exact ⟨5, ⟨0, List.replicate 544 0, []⟩, resetWith [(0x500004E00034, 0x300), (0x500000500034, 0x300), (0x200800, 0x85030000), (0x200840, 0x20000), (0x1050004, 6), (0x1050000, 0x19)], 0, by decide +kernel⟩
  · exact ⟨5, ⟨0, [], []⟩, State.reset, by decide +kernel⟩
  · exact ⟨5, true, 3, 4, 5, State.reset, by decide +kernel⟩
  · exact ⟨.ncp, 5, 0, resetWith [(0x500000500034, 0x300)], by decide +kernel⟩
  · exact ⟨5, (resetWith [(0x1054004, 1)]).wr (laneB 5) R.FEC_STATUS_SNAP_BUSY 1, by decide +kernel⟩
  · exact ⟨1, { State.reset with forRecs := [⟨1, 7, 0⟩] }, ⟨1, 7, 0⟩, by decide +kernel⟩
  · exact ⟨.ncp, 1, 0, resetWith [(0x500004F00034, 0x300)], by decide +kernel⟩

theorem wit_TestPatterns :
    (∃ (n : Lane) (words : List (BitVec 2)) (s : State),
      s.rd (laneB n.val) R.FEC_PC_STATUS_STATE = 2) ∧
    (∃ (m : Master) (n : Lane) (w : Word) (s : State),
      Served m true (0x01004088 + 0x10000 * n.val) (fset w 31 31 1) s) ∧
    (∃ (n : Lane) (s : State),
      s.rd (laneB n.val) R.FEC_PG_PG_TYPE ≠ 0 ∧ s.rd (laneB n.val) R.TX_CTRL_MODE ≤ 5 ∧ s.counting = true) ∧
    (∃ (m : Master) (n : Lane) (w : Word) (s : State),
      Served m true (0x010040AC + 0x10000 * n.val) w s) ∧
    (∃ (n : Lane) (cw : List Nat) (s : State),
      s.rd (laneB n.val) R.FEC_TX_INJ_WEIGHT ≠ 0 ∧ s.rd (laneB n.val) R.FEC_TX_INJ_MASK ≠ 0 ∧ cw.length = 544) ∧
    (∃ (n : Lane) (s : State),
      laneGrp n.val s = none) ∧
    (∃ (n : Lane) (s : State) (g : Nat),
      laneGrp n.val s = some g ∧ grpLanes (n.val / 16) g s = [n.val] ∧ blockLink n.val g s = false ∧ s.feUp (n.val / 16) =
        true ∧ s.rd (laneB n.val) R.TX_CTRL_MODE ≠ 0 ∧ Inv s) ∧
    (∃ (m : Master) (n : Lane) (w : Word) (s : State),
      Served m true (0x0100406C + 0x10000 * n.val) (fset w 0 0 1) s) := by
  and_intros
  · exact ⟨5, [1, 2, 3, 3, 3], (resetWith [(0x1050004, 6), (0x1054090, 3)]).wr (laneB 5) R.FEC_PC_STATUS_STATE 2, by decide +kernel⟩
  · exact ⟨.ncp, 5, 0, resetWith [(0x500000500034, 0x300), (0x1054080, 1)], by decide +kernel⟩
  · exact ⟨5, ((resetWith [(0x40004, 0)]).wr (laneB 5) R.FEC_PG_PG_TYPE 3).wr (laneB 5) R.FEC_PG_ERR_MODE 2, by decide +kernel⟩
  · exact ⟨.ncp, 5, 77, (resetWith [(0x500000500034, 0x300)]).wr (laneB 5) R.FEC_UP_SEL_INDEX 9, by decide +kernel⟩
  · exact ⟨5, (List.range 544), ((resetWith []).wr (laneB 5) R.FEC_TX_INJ_WEIGHT 2).wr (laneB 5) R.FEC_TX_INJ_MASK 5, by decide +kernel⟩
  · exact ⟨5, State.reset, by decide +kernel⟩
  · exact ⟨5, (((resetWith [(0x500004E00034, 0x300), (0x200800, 0x85030000), (0x200840, 0x20000)]).wr (laneB 5) R.TX_CTRL_MODE 3).wr (laneB 5) R.FEC_TX_INJ_WEIGHT 2).wr (laneB 5) R.FEC_TX_INJ_MASK 5, 0, by decide +kernel⟩
  · exact ⟨.ncp, 5, 0, resetWith [(0x500000500034, 0x300)], by decide +kernel⟩

theorem wit_FlowCommands :
    (∃ (m : Master) (e : Eng) (w : Word) (s : State),
      let a := 0x00220000 + 0x40000 * e.val
      legacyOn 9 s = false ∧ feArmed e.val 0 s = false ∧ snapPending e.val s = false ∧ Served m true a (fset w 26 24 1) s) ∧
    (∃ (m : Master) (e : Eng) (w : Word) (s : State),
      let a := 0x00230000 + 0x40000 * e.val
      legacyOn 9 s = false ∧ feArmed e.val 0 s = false ∧ snapPending e.val s = false ∧ Served m true a (fset w 26 24 1) s) ∧
    (∃ (m : Master) (e : Eng) (w : Word) (s : State),
      feArmed e.val 0 s = true ∧ fget w 26 24 ≠ 0 ∧ fget w 26 24 ≠ 4 ∧ Served m true (0x00220000 + 0x40000 * e.val) w s) ∧
    (∃ (m : Master) (e : Eng) (w : Word) (s : State),
      Served m true (0x00200A10 + 0x40000 * e.val) (fset w 0 0 1) s) ∧
    (∃ (m : Master) (e : Eng) (w : Word) (s : State),
      let a := 0x00200A1C + 0x40000 * e.val
      Served m true a (fset w 0 0 1) s) := by
  and_intros
  · exact ⟨.ncp, 1, 7, resetWith [(0x500004F00034, 0x300), (0x260200, 0x80000000), (0x260204, 9)], by decide +kernel⟩
  · exact ⟨.ncp, 1, 7, resetWith [(0x500004F00034, 0x300), (0x270200, 0x80000000), (0x270204, 9)], by decide +kernel⟩
  · exact ⟨.ncp, 1, 0x01000007, { resetWith [(0x500004F00034, 0x300)] with feInj := [(1, 1)] }, by decide +kernel⟩
  · exact ⟨.ncp, 1, 0, resetWith [(0x500004F00034, 0x300)], by decide +kernel⟩
  · exact ⟨.ncp, 1, 0, resetWith [(0x500004F00034, 0x300)], by decide +kernel⟩

theorem wit_FlowEvents :
    (∃ (e : Eng) (g : Fin 16) (err : Bool) (bytes : List Byte) (s : State),
      (s.feUp e.val = false ∨ s.rd (grpB e.val g.val) R.FE_GRP_STAT_STATE ≠ 2)) ∧
    (∃ (e : Eng) (g : Fin 16) (err : Bool) (raw : List Byte) (s : State),
      s.feUp e.val = true ∧ s.rd (grpB e.val g.val) R.FE_GRP_STAT_STATE = 2) ∧
    (∃ (e : Nat) (g : Nat) (i : Nat) (stamp : Nat) (err : Bool) (bytes : List Byte) (s : State),
      let ms := clsMatches e (frameKey bytes g (s.rd (feB e) R.FE_FLOW_CFG_KEY_OFS)) s
      let t := clsHit e ms s
      rxTag e bytes t = .absent ∧ tableFlow e ms t = some i ∧ (t.flow e i).en = true) ∧
    (∃ (b : Nat) (s : State) (r : BurstRec) (rest : List BurstRec),
      s.burstRecs = r :: rest) ∧
    (∃ (e : Eng) (s : State),
      s.counting = true ∧ s.feUp e.val = true) ∧
    (∃ (e : Eng) (i : Fin 1024) (s : State),
      s.counting = true ∧ s.feUp e.val = true ∧ (s.strm e.val i.val).state = 1) ∧
    (∃ (e : Eng) (i : Fin 1024) (s : State),
      let x := s.strm e.val i.val
      let t := s.fresh.advanceTlv ((x.due + 255) / 256 - txLead e.val (cGroup x.cfg) s) s.now
      s.counting = true ∧ s.feUp e.val = true ∧ (s.strm e.val i.val).state = 2 ∧ cCount (s.strm e.val i.val).cfg = 0 ∧
        x.backlog.length < 16 ∧ feArmed e.val 1 s = false ∧ txUp e.val (cGroup x.cfg) t = true ∧ txReplay e.val (cGroup
        x.cfg) t = false) ∧
    (∃ (e : Eng) (g : Fin 16) (s : State) (i : Nat),
      let t := s.fresh.advanceNow (look 0 s.feFree (16 * e.val + g.val))
      s.feUp e.val = true ∧ txUp e.val g.val s = true ∧ txReplay e.val g.val s = false ∧ hzPick e.val g.val t = none ∧
        strmPick e.val g.val t = some i) ∧
    (∃ (e : Eng) (s : State),
      s.on (feB e.val) R.FE_SNAP_CTRL_ARM = true ∧ s.counting = true ∧ s.feUp e.val = true) ∧
    (∃ (e : Nat) (late : Bool) (s : State),
      Inv s) := by
  and_intros
  · exact ⟨1, 3, true, [1, 2, 3], State.reset, by decide +kernel⟩
  · exact ⟨1, 3, true, [1, 2, 3], resetWith [(0x500004F00034, 0x300), (0x24084C, 0x20000)], by decide +kernel⟩
  · exact ⟨1, 3, 0, 99, true, [], (resetWith [(0x250030, 0xC0000000)]).setFlow 1 0 { FlowCtx.blank with cfg0 := 0x80000000 }, by decide +kernel⟩
  · exact ⟨800, { resetWith [] with burstRecs := [⟨57, 5, 0, 0, 0, 9⟩] }, ⟨57, 5, 0, 0, 0, 9⟩, [], by decide +kernel⟩
  · exact ⟨1, (resetWith [(0x40004, 0), (0x500004F00034, 0x300)]).setFlow 1 3 { FlowCtx.blank with curFrames := 5 }, by decide +kernel⟩
  · exact ⟨1, 3, (resetWith [(0x40004, 0), (0x500004F00034, 0x300)]).setStrm 1 3 { StrmCtx.blank with state := 1 }, by decide +kernel⟩
  · exact ⟨1, 3, (resetWith [(0x40004, 0), (0x500004F00034, 0x300), (0x240800, 0x80000000), (0x1102004, 2), (0x1102000, 0x28), (0x1102008, 1)]).setStrm 1 3 { StrmCtx.blank with state := 2 }, by decide +kernel⟩
  · exact ⟨1, 0, {(resetWith [(0x40004, 0), (0x500004F00034, 0x300), (0x240800, 0x80000000), (0x1102004, 2), (0x1102000, 0x28), (0x1102008, 1)]).setStrm 1 3 { StrmCtx.blank with state := 2, backlog := [0] } with feFree := [(16, 700)]}, 3, by decide +kernel⟩
  · exact ⟨1, resetWith [(0x40004, 0), (0x500004F00034, 0x300), (0x240A10, 1), (0x240A08, 500)], by decide +kernel⟩
  · exact ⟨1, true, (resetWith []).setFlow 1 3 { FlowCtx.blank with curFrames := 5 }, by decide +kernel⟩

theorem wit_WatchChains :
    (∃ (n : Lane) (c : Fin 4) (taps : List (Nat × TapIn)) (s : State),
      s.rd (chB n.val c.val) R.WATCH_CH_CFG_TAP ≠ 0 ∧ s.laneUp n.val = true ∧ s.counting = true) ∧
    (∃ (n : Nat) (c : Nat) (v : Nat) (t : Nat) (uns : Bool) (gap : Bool) (held : Bool) (newhk : Bool) (s : State),
      Inv s ∧ n < 64 ∧ c < 4 ∧ v < 2 ^ 32 ∧ t < 2 ^ 64 ∧ (uns || gap) = true ∧ s.on (chB n c) R.WATCH_CH_CFG_PUSH = false) ∧
    (∃ (n : Lane) (taps : List (Nat × TapIn)) (s : State),
      s.laneUp n.val = true ∧ s.counting = true) ∧
    (∃ (m : Master) (n : Lane) (w : Word) (s : State),
      Served m true (0x01005000 + 0x10000 * n.val) w s) ∧
    (∃ (n : Lane) (c : Fin 5) (s : State) (d : Nat × Nat),
      (s.chain n.val c.val).due = [d] ∧ s.domOn n.val = true) ∧
    (∃ (m : Master) (n : Lane) (c : Fin 4) (s : State),
      let a := 0x0100511C + 0x10000 * n.val + 0x40 * c.val
      Served m false a 0 s ∧ Inv s ∧ (s.latch.find? (fun e => e.1 == a) = none)) ∧
    (∃ (m : Master) (n : Lane) (w : Word) (s : State),
      Served m true (0x0100500C + 0x10000 * n.val) (fset w 2 2 1) s) := by
  and_intros
  · exact ⟨5, 2, [(3, .reading 50)], resetWith [(0x40004, 0), (0x500000500034, 0x300), (0x1055180, 6), (0x1050004, 6)], by decide +kernel⟩
  · exact ⟨5, 2, 77, 88, true, false, true, false, resetWith [(0x1055180, 2)], by decide +kernel⟩
  · exact ⟨5, [(3, .gap)], resetWith [(0x40004, 0), (0x500000500034, 0x300), (0x1050004, 6)], by decide +kernel⟩
  · exact ⟨.ncp, 5, 0x500, resetWith [(0x500000500034, 0x300)], by decide +kernel⟩
  · exact ⟨5, 4, (resetWith [(0x40004, 0), (0x500000500034, 0x300)]).setChain 5 4 { ChainSt.idle with due := [(100, 100)] }, (100, 100), by decide +kernel⟩
  · exact ⟨.ncp, 5, 2, resetWith [(0x500000500034, 0x300), (0x105519C, 77), (0x10551A0, 0xF0001234), (0x10551A4, 9)], by decide +kernel⟩
  · exact ⟨.ncp, 5, 3, resetWith [(0x500000500034, 0x300)], by decide +kernel⟩

theorem wit_StoreCommands :
    (∃ (m : Master) (w : Word) (s : State),
      let a := 0x00380020
      Served m true a (fset w 1 0 1) s) ∧
    (∃ (m : Master) (w : Word) (s : State),
      Served m true 0x003800E0 (fset w 31 31 1) s) ∧
    (∃ (m : Master) (c : Chan) (w : Word) (s : State),
      Served m true (0x0030003C + 0x10000 * c.val) (fset w 31 30 1) s) ∧
    (∃ (m : Master) (c : Chan) (w : Word) (s : State),
      let a := 0x00300044 + 0x10000 * c.val
      Served m true a (fset w 0 0 1) s) ∧
    (∃ (m : Master) (w : Word) (s : State),
      Served m true 0x00380144 (fset w 0 0 1) s) := by
  and_intros
  · exact ⟨.ncp, 0, resetWith [], by decide +kernel⟩
  · exact ⟨.ncp, 0, resetWith [], by decide +kernel⟩
  · exact ⟨.ncp, 2, 5, nineStack 2, by decide +kernel⟩
  · exact ⟨.ncp, 2, 0, nineStack 2, by decide +kernel⟩
  · exact ⟨.ncp, 0, resetWith [], by decide +kernel⟩

theorem wit_PagesAndFrames :
    (∃ (m : Nat) (f : Nat) (p : Page) (s : State),
      Inv s ∧ p ≠ Page.unwritten) ∧
    (∃ (m : Nat) (f : Nat) (n : Nat) (g : Nat) (p : Page) (s : State),
      m < 6 ∧ n < 6 ∧ f < 2 ^ 24 ∧ g < 2 ^ 24 ∧ (m, f) ≠ (n, g)) ∧
    (∃ (m : Chan) (f : Nat) (res : PageRes) (s : State),
      s.mcUp m.val = true ∧ f < framesPerStack s ∧ s.page m.val f = none) ∧
    (∃ (m : Chan) (f : Nat) (res : PageRes) (p : Page) (s : State),
      s.mcUp m.val = true ∧ f < framesPerStack s ∧ s.page m.val f = some p) ∧
    (∃ (m : Chan) (f : Nat) (l : List Nat) (p : Page) (s : State),
      s.mcUp m.val = true ∧ f < framesPerStack s ∧ s.page m.val f = some p ∧ mcArmed m.val 1 s = false ∧ mcArmed m.val 0 s
        = false) ∧
    (∃ (m : Nat) (f : Nat) (s : State),
      Inv s ∧ m < 6 ∧ f < 2 ^ 24 ∧ s.domOn (72 + m) = true) ∧
    (∃ (m : Nat) (f : Nat) (w : Nat) (top : Nat) (s : State),
      Inv s ∧ m < 6 ∧ f < 2 ^ 24 ∧ logFind m f s = none ∧ (logChoose m s).2 = false) ∧
    (∃ (m : Nat) (f : Nat) (k : Nat) (s : State),
      Inv s ∧ s.domOn (72 + m) = true ∧ m < 6 ∧ f < 2 ^ 24 ∧ s.rd (mcB m) R.MC_STATUS_SPARE_FREE = k + 1) ∧
    (∃ (m : Chan) (f : Nat) (i : Nat) (s : State),
      let b := logB m.val i
      logFind m.val f s = some i ∧ s.rd b R.MC_LOG_W0_REWRITTEN = 0 ∧ s.mcUp m.val = true ∧ max 1 (s.rd (mcB m.val)
        R.MC_CTRL_REPEAT_LIMIT) ≤ s.rd b R.MC_LOG_W1_REPEAT) ∧
    (∃ (m : Chan) (f : Nat) (res : PageRes) (s : State),
      s.rd (mcB m.val) R.MC_CTRL_SCRUB_EN = 1 ∧ s.mcUp m.val = true ∧ ((writtenFrames m.val s).find? (fun g => decide
        (s.rd (mcB m.val) R.MC_SCRUB_STAT_POS ≤ g)) = some f)) ∧
    (∃ (m : Chan) (fail : Bool) (s : State),
      s.rd (mcB m.val) R.MC_REPAIR_STAT_BUSY = 1 ∧ mcArmed m.val 2 s = false) ∧
    (∃ (m : Chan) (f : Nat) (write : Bool) (s : State),
      s.mcUp m.val = true ∧ f < framesPerStack s) := by
  and_intros
  · exact ⟨2, 77, { Page.unwritten with data := [5] }, resetWith [], by decide +kernel⟩
  · exact ⟨2, 77, 3, 77, { Page.unwritten with data := [5] }, resetWith [], by decide +kernel⟩
  · exact ⟨2, 77, .unc, nineStack 2, by decide +kernel⟩
  · exact ⟨2, 77, .unc, { Page.unwritten with data := [5] }, pageWrite 2 77 { Page.unwritten with data := [5] } (nineStack 2), by decide +kernel⟩
  · exact ⟨2, 77, [4, 9], { Page.unwritten with data := [5] }, pageWrite 2 77 { Page.unwritten with data := [5] } (nineStack 2), by decide +kernel⟩
  · exact ⟨2, 77, nineStack 2, by decide +kernel⟩
  · exact ⟨2, 77, 3, 9, resetWith [], by decide +kernel⟩
  · exact ⟨2, 77, 1023, nineStack 2, by decide +kernel⟩
  · exact ⟨2, 77, 0, (logTake 2 77 (nineStack 2)).1.wr (logB 2 0) R.MC_LOG_W1_REPEAT 9, by decide +kernel⟩
  · exact ⟨2, 77, .bits [], { pageWrite 2 77 { Page.unwritten with data := [5] } (((nineStack 2).wr (mcB 2) R.MC_CTRL_SCRUB_EN 1)) with scrubAt := [(2, 100)] }, by decide +kernel⟩
  · exact ⟨2, true, (nineStack 2).wr (mcB 2) R.MC_REPAIR_STAT_BUSY 1, by decide +kernel⟩
  · exact ⟨2, 77, true, nineStack 2, by decide +kernel⟩

theorem wit_PlotsAndReplay :
    (∃ (p : Fin 256) (s : State),
      plotState p.val s = 2 ∧ 4096 ≤ (s.plotOf p.val).buf.length) ∧
    (∃ (p : Fin 256) (l : Lane) (s : State),
      plotState p.val s = 2 ∧ (s.plotOf p.val).gaps.contains l.val = false) ∧
    (∃ (p : Nat) (q : Nat) (pg : Page) (s : State),
      Inv s ∧ p < 256 ∧ q < 2 ^ 26 ∧ pg ≠ Page.unwritten ∧ s.rd (plB p) R.MDW_PLOT_STAT_WPTR = q ∧ q + 1 < plotSize p s) ∧
    (∃ (t : Lane) (f : Fire) (s : State),
      (s.fires.find? (fun g => g.trig == t.val) = some f)) ∧
    (∃ (t : Nat) (p : Nat) (s : State),
      Inv s ∧ t < 64 ∧ trigFired p s = []) ∧
    (∃ (r : Lane) (s : State),
      s.rd (rpB r.val) R.MDW_RP_STAT_STATE = 1) ∧
    (∃ (r : Lane) (s : State),
      s.rd (rpB r.val) R.MDW_RP_STAT_STATE = 2 ∧ s.counting = true) ∧
    (∃ (r : Nat) (s : State),
      Inv s ∧ r < 64) ∧
    (∃ (r : Lane) (reads : List PageRes) (s : State),
      s.rd (rpB r.val) R.MDW_RP_STAT_STATE = 3 ∧ (s.rpOf r.val).stop = true) ∧
    (∃ (r : Lane) (f : RepRec) (reads : List PageRes) (s : State),
      s.rd (rpB r.val) R.MDW_RP_STAT_STATE = 3 ∧ (s.rpOf r.val).stop = false ∧ (s.rpOf r.val).inj = false ∧ s.rd (rpB
        r.val) R.MDW_RP_CFG_KIND = 0 ∧ (segRecords r.val (rpSeg r.val s) s)[(s.rpOf r.val).idx]? = some f ∧ rpReady r.val
        (rpSeg r.val s) f.page s = true ∧ f.cut = false ∧ f.err = false) ∧
    (∃ (r : Lane) (s : State),
      s.rd (rpB r.val) R.MDW_RP_CFG_KIND = 0) ∧
    (∃ (p : Fin 256) (ofs : Nat) (data : List Byte) (res : PageRes) (s : State),
      hostWritable p.val s = true ∧ ofs / 4096 < plotSize p.val s ∧ s.mcUp (plotFrame p.val (ofs / 4096) s).1 = true ∧ 0 <
        data.length ∧ data.length < 4096 ∧ ofs % 4096 + data.length ≤ 4096) := by
  and_intros
  · exact ⟨3, ((resetWith []).wr (plB 3) R.MDW_PLOT_STAT_STATE 2).setPlot 3 { PlotSt.idle with buf := List.replicate 4100 7 }, by decide +kernel⟩
  · exact ⟨3, 5, (resetWith []).wr (plB 3) R.MDW_PLOT_STAT_STATE 2, by decide +kernel⟩
  · exact ⟨3, 0, { Page.unwritten with data := [5] }, (resetWith [(0x1000000000000+0x100000*3+0x38002C, 0)]).wr (plB 3) R.MDW_PLOT_W2_FRAMES 9 |>.wr (plB 3) R.MDW_PLOT_W1_CH_MASK 3, by decide +kernel⟩
  · exact ⟨3, ⟨3, 9, 1, 1⟩, { resetWith [] with fires := [⟨3, 9, 1, 1⟩] }, by decide +kernel⟩
  · exact ⟨3, 2, (resetWith []).wr (trB 3) R.MDW_TRIG_STAT_STATE 2, by decide +kernel⟩
  · exact ⟨3, (resetWith []).wr (rpB 3) R.MDW_RP_STAT_STATE 1, by decide +kernel⟩
  · exact ⟨3, (resetWith [(0x40004, 0)]).wr (rpB 3) R.MDW_RP_STAT_STATE 2, by decide +kernel⟩
  · exact ⟨3, (resetWith []).wr (rpB 3) R.MDW_RP_STAT_STATE 1, by decide +kernel⟩
  · exact ⟨3, [], ((resetWith []).wr (rpB 3) R.MDW_RP_STAT_STATE 3).setRp 3 { RpSt.idle with stop := true }, by decide +kernel⟩
  · exact ⟨3, ⟨0, 0, 9, 0, 0, false, false, [1, 2, 3, 4]⟩, [], pageWrite 2 0 { Page.unwritten with data := [9,0,0,0,0,0,0,0, 0,0,3,0, 4,0, 4,0, 1,2,3,4], fill := 20, first := 0 } (((((((nineStack 2).wr (plB 0) R.MDW_PLOT_W2_FRAMES 9).wr (plB 0) R.MDW_PLOT_W1_CH_MASK 4).wr (plB 0) R.MDW_PLOT_W0_EN 1).wr (plB 0) R.MDW_PLOT_W0_TYPE 1).wr (rpB 3) R.MDW_RP_STAT_STATE 3).wr (segB 3 0) R.MDW_RP_SEG_C_PAGES 1), by decide +kernel⟩
  · exact ⟨3, resetWith [], by decide +kernel⟩
  · exact ⟨3, 4100, [1, 2], .unc, (((nineStack 2).wr (plB 3) R.MDW_PLOT_W2_FRAMES 9).wr (plB 3) R.MDW_PLOT_W1_CH_MASK 4 |>.wr (plB 3) R.MDW_PLOT_W0_EN 1).wr (plB 3) R.MDW_PLOT_W0_TYPE 2, by decide +kernel⟩

theorem wit_Haze :
    (∃ (n : Lane) (s : State),
      let b := laneB n.val
      s.rd b R.HAZE_STATUS_STATE ≠ 0 ∧ holdCause n.val s ≠ 0 ∧ s.rd b R.TX_STATUS_STATE = 2 ∧ s.rd b R.TX_STATUS_SRC_ACT =
        4) ∧
    (∃ (n : Nat) (st : Nat) (buf : List (BitVec 2)) (s : State),
      Inv s ∧ n < 64 ∧ st < 4 ∧ s.domOn n = true) ∧
    (∃ (n : Lane) (words : List (BitVec 2)) (s : State),
      let b := laneB n.val
      s.rd b R.HAZE_STATUS_STATE = 2) ∧
    (∃ (n : Lane) (words : List (BitVec 2)) (sent : Nat) (s : State),
      let b := laneB n.val
      s.rd b R.HAZE_STATUS_STATE = 3) ∧
    (∃ (n : Lane) (words : List (BitVec 2)) (s : State),
      hazeFlows n.val s = true ∧ s.rd (laneB n.val) R.HAZE_ERR_ERR_MODE = 3) ∧
    (∃ (n : Lane) (words : List (BitVec 2)) (s : State),
      (s.rd (laneB n.val) R.HAZE_ERR_ERR_MODE ≤ 1 ∨ hazeFlows n.val s = false)) ∧
    (∃ (n : Lane) (s : State),
      s.rd (laneB n.val) R.HAZE_CTRL_JIT_EN = 1 ∧ s.laneUp n.val = true) ∧
    (∃ (m : Master) (n : Lane) (w : Word) (s : State),
      let a := 0x01006028 + 0x10000 * n.val
      Served m true a w s) ∧
    (∃ (m : Master) (n : Lane) (w : Word) (s : State),
      Served m true (0x01006040 + 0x10000 * n.val) (fset w 0 0 1) s) ∧
    (∃ (e : Eng) (d : HzFrame × Nat) (s : State),
      dlyFirst e.val s = some d ∧ s.feUp e.val = true ∧ s.counting = true) ∧
    (∃ (f : HzFrame) (s : State),
      f.path < 16 ∧ f.eng < 4 ∧ s.domOn (78 + f.eng) = true) ∧
    (∃ (e : Eng) (h : HzHeld) (s : State),
      (s.hzHeld.find? (fun h => h.f.eng == e.val) = some h) ∧ s.feUp e.val = true ∧ s.counting = true) ∧
    (∃ (m : Master) (e : Eng) (w : Word) (s : State),
      Served m true (0x00200C64 + 0x40000 * e.val) (fset w 0 0 1) s) := by
  and_intros
  · exact ⟨5, (((resetWith [(0x500000500034, 0x300)]).wr (laneB 5) R.HAZE_STATUS_STATE 3).wr (laneB 5) R.TX_STATUS_STATE 2).wr (laneB 5) R.TX_STATUS_SRC_ACT 4, by decide +kernel⟩
  · exact ⟨5, 2, [1, 2, 3], resetWith [(0x500000500034, 0x300)], by decide +kernel⟩
  · exact ⟨5, [1, 2], (resetWith [(0x500000500034, 0x300)]).wr (laneB 5) R.HAZE_STATUS_STATE 2, by decide +kernel⟩
  · exact ⟨5, [1], 0, (resetWith [(0x500000500034, 0x300)]).wr (laneB 5) R.HAZE_STATUS_STATE 3, by decide +kernel⟩
  · exact ⟨5, [1, 2, 3], ((resetWith [(0x500000500034, 0x300)]).wr (laneB 5) R.HAZE_ERR_ERR_MODE 3).wr (laneB 5) R.RX_STATUS_STATE 6, by decide +kernel⟩
  · exact ⟨5, [], State.reset, by decide +kernel⟩
  · exact ⟨5, (resetWith [(0x500000500034, 0x300)]).wr (laneB 5) R.HAZE_CTRL_JIT_EN 1, by decide +kernel⟩
  · exact ⟨.ncp, 5, 0x1FF, resetWith [(0x500000500034, 0x300)], by decide +kernel⟩
  · exact ⟨.ncp, 5, 0, resetWith [(0x500000500034, 0x300)], by decide +kernel⟩
  · exact ⟨1, (⟨1, 2, 7, 3, 0, 500, [1, 2], true, none, none, false, 1, false⟩, 9), { resetWith [(0x40004, 0), (0x500004F00034, 0x300)] with hzDly := [(⟨1, 2, 7, 3, 0, 500, [1, 2], true, none, none, false, 1, false⟩, 9)] }, by decide +kernel⟩
  · exact ⟨⟨1, 2, 7, 3, 0, 500, [1, 2], true, none, none, false, 1, false⟩, resetWith [(0x500004F00034, 0x300)], by decide +kernel⟩
  · exact ⟨1, ⟨⟨1, 2, 7, 3, 0, 500, [1, 2], true, none, none, false, 1, false⟩, 2, 900, false⟩, { resetWith [(0x40004, 0), (0x500004F00034, 0x300)] with hzHeld := [⟨⟨1, 2, 7, 3, 0, 500, [1, 2], true, none, none, false, 1, false⟩, 2, 900, false⟩] }, by decide +kernel⟩
  · exact ⟨.ncp, 1, 0, resetWith [(0x500004F00034, 0x300)], by decide +kernel⟩

theorem wit_CoreInstructions :
    (∃ (k : CoreId) (rd : Fin 32) (ra : Fin 32) (rb : Fin 32) (s : State),
      Inv s ∧ Issues k.val s) ∧
    (∃ (k : CoreId) (rd : Fin 32) (ra : Fin 32) (sh : Fin 32) (imm : BitVec 16) (s : State),
      Inv s ∧ Issues k.val s) ∧
    (∃ (k : CoreId) (rd : Fin 32) (ra : Fin 32) (rb : Fin 32) (imm : BitVec 16) (far : BitVec 21) (s : State),
      Inv s ∧ Issues k.val s) := by
  and_intros
  · exact ⟨3, 5, 6, 7, coreWith 3 0x100 [(6, 0xFFFFFFF9), (7, 3)], by decide +kernel⟩
  · exact ⟨3, 5, 6, 7, 0xFFF0, coreWith 3 0x100 [(6, 0xFFFFFFF9)], by decide +kernel⟩
  · exact ⟨3, 5, 6, 7, 0xFFF0, 0x1FFFF0, coreWith 3 0x100 [(6, 0xFFFFFFF9), (7, 3)], by decide +kernel⟩

theorem wit_CoreMemory :
    (∃ (k : CoreId) (rd : Fin 32) (ra : Fin 32) (imm : BitVec 16) (s : State),
      let c := s.coreOf k.val
      let a := (c.gr ra.val + imm.signExtend 32).toNat
      Inv s ∧ Issues k.val s ∧ ((a < 0x20000 ∨ 0x400000 ≤ a ∧ a < 0x800000)) ∧ ((c.priv = true ∨ 0x10000 ≤ a)) ∧ s.injMem
        = none) ∧
    (∃ (k : CoreId) (rd : Fin 32) (ra : Fin 32) (imm : BitVec 16) (s : State) (x : Nat),
      let c := s.coreOf k.val
      let a := (c.gr ra.val + imm.signExtend 32).toNat
      Inv s ∧ Issues k.val s ∧ ((a < 0x20000 ∨ 0x400000 ≤ a ∧ a < 0x800000)) ∧ ((c.priv = true ∨ 0x10000 ≤ a)) ∧
        unreleased k.val s = false) ∧
    (∃ (k : CoreId) (rd : Fin 32) (ra : Fin 32) (rb : Fin 32) (s : State) (x : Nat),
      let c := s.coreOf k.val
      let a := (c.gr ra.val).toNat
      Inv s ∧ Issues k.val s ∧ 0x400000 ≤ a ∧ a < 0x800000 ∧ a % 4 = 0 ∧ s.injMem = none ∧ unreleased k.val s = false) ∧
    (∃ (k : CoreId) (rd : Fin 32) (ra : Fin 32) (imm : BitVec 16) (s : State),
      let a := ((s.coreOf k.val).gr ra.val + imm.signExtend 32).toNat
      Inv s ∧ Issues k.val s ∧ unreleased k.val s = true ∧ a % 4 = 0 ∧ ((a < 0x20000 ∨ 0x400000 ≤ a ∧ a < 0x800000)) ∧
        (((s.coreOf k.val).priv = true ∨ 0x10000 ≤ a))) := by
  and_intros
  · exact ⟨3, 5, 6, 0xFFFC, (coreWith 3 0x100 [(6, 0x400008)]).setWord 0xC00004 0x89ABCDEF, by decide +kernel⟩
  · exact ⟨3, 5, 6, 0xFFFC, coreWith 3 0x100 [(5, 0x89ABCDEF), (6, 0x400008)], 0xC00006, by decide +kernel⟩
  · exact ⟨3, 5, 6, 7, (coreWith 3 0x100 [(5, 0x89ABCDEF), (6, 0x400008), (7, 0x1234)]).setWord 0xC00008 0x89ABCDEF, 0xC00009, by decide +kernel⟩
  · exact ⟨17, 5, 6, 0xFFFC, { coreWith 16 0x100 [(5, 0x89ABCDEF), (6, 0x400008)] with injLockstep := true }, by decide +kernel⟩

theorem wit_CoreTraps :
    (∃ (k : CoreId) (rd : Fin 32) (ra : Fin 32) (imm : BitVec 16) (csr : BitVec 12) (s : State),
      Inv s ∧ Issues k.val s ∧ (s.coreOf k.val).csrF csrSTATUS 6 6 = 0 ∧ ((k.val < 16 ∨ (s.coreOf k.val).csrF csrSTATUS 7
        7 = 0))) ∧
    (∃ (k : CoreId) (s : State),
      Inv s ∧ Issues k.val s ∧ (s.coreOf k.val).csrF csrSTATUS 6 6 = 1) ∧
    (∃ (k : CoreId) (s : State),
      Inv s ∧ Issues k.val s) ∧
    (∃ (k : CoreId) (i : Fin 14) (s : State),
      Inv s ∧ coreCan 1 k.val s = true ∧ (s.coreOf k.val).csrF csrSTATUS 0 0 = 1 ∧ (((s.coreOf k.val).pend &&& (s.coreOf
        k.val).getCsr csrINTEN).getLsbD i.val = true) ∧ ((∀ j : Fin 14, j.val < i.val → ((s.coreOf k.val).pend &&& (s.coreOf
        k.val).getCsr csrINTEN).getLsbD j.val = false))) ∧
    (∃ (s : State) (r : Nat × Nat × Nat) (q : List (Nat × Nat × Nat)),
      Inv s ∧ coreCan 1 16 s = true ∧ (s.coreOf 16).csrF csrSTATUS 7 7 = 0 ∧ (s.coreOf 16).nmtHeld = none ∧ s.nmtQ = r ::
        q) := by
  and_intros
  · exact ⟨3, 5, 6, 1, 5, (coreWith 3 0x100 [(6, 0x400008)]).setCore 3 { CoreSt.reset with pc := 0x100, g := [(6, 0x400008)], csr := [(0x20, 0x403)] }, by decide +kernel⟩
  · exact ⟨3, (coreWith 3 0x100 []).setCore 3 { CoreSt.reset with pc := 0x100, csr := [(0x10, 0x40)] }, by decide +kernel⟩
  · exact ⟨3, (coreWith 3 0x100 []).setCore 3 { CoreSt.reset with pc := 0x100, csr := [(0x10, 0x42), (0x21, 0x207)] }, by decide +kernel⟩
  · exact ⟨3, 10, (coreWith 3 0x100 []).setCore 3 { CoreSt.reset with pc := 0x100, csr := [(0x10, 1), (0x11, 0x400), (0x12, 0x401), (0x20, 0x400)] }, by decide +kernel⟩
  · exact ⟨{ (coreWith 16 0x100 []).setCore 16 { CoreSt.reset with pc := 0x104, csr := [(0x30, 0x500)] } with nmtQ := [(0x472, 1, 9)] }, (0x472, 1, 9), [], by decide +kernel⟩

theorem wit_CoreSystem :
    (∃ (k : CoreId) (rd : Fin 32) (ra : Fin 32) (csr : BitVec 12) (s : State),
      Inv s ∧ Issues k.val s ∧ (s.coreOf k.val).priv = true ∧ csr.toNat ∈ [0x010, 0x011, 0x020, 0x021, 0x022, 0x023,
        0x024]) ∧
    (∃ (k : CoreId) (s : State),
      Inv s ∧ Issues k.val s ∧ ((k.val < 16 ∨ s.injLockstep = false))) ∧
    (∃ (k : CoreId) (rd : Fin 32) (ra : Fin 32) (imm : BitVec 16) (s : State),
      let c := s.coreOf k.val
      let a := c.gr ra.val + imm.signExtend 32
      Inv s ∧ Issues k.val s ∧ 0x80000000 ≤ a.toNat ∧ a.toNat < 0x81400000 ∧ a.toNat % 4 = 0 ∧ storeWaits k.val s = false
        ∧ unreleased k.val s = false) ∧
    (∃ (k : CoreId) (s : State),
      s.coreState k.val ≠ 0 ∧ s.partRuns = true) ∧
    (∃ (k : CoreId) (i : Fin 8) (n : BitVec 48) (s : State),
      Inv s ∧ cntOn i.val (s.coreOf k.val) = true ∧ (s.coreOf k.val).isSampler i.val = false) ∧
    (∃ (k : CoreId) (s : State),
      let t := s.fresh.advanceNow ((s.coreOf k.val).wdogAt + sclkTicks (1024 * (s.coreOf k.val).csrF csrWDOG 23 0) s.fresh)
      let i := coreIx k.val
      (s.coreOf k.val).csrF csrWDOG 31 31 = 1 ∧ (s.coreState k.val = 1 ∨ s.coreState k.val = 2 ∨ s.coreState k.val = 4) ∧
        s.partRuns = true ∧ s.domOn 82 = true ∧ wdogStops (t.coreState i) = false) := by
  and_intros
  · exact ⟨3, 5, 6, 0x011, (coreWith 3 0x100 []).setCore 3 { CoreSt.reset with pc := 0x100, g := [(6, 0xFFFF0F3C)], csr := [(0x11, 0x3F)] }, by decide +kernel⟩
  · exact ⟨3, coreWith 3 0x100 [], by decide +kernel⟩
  · exact ⟨16, 5, 6, 0x18, coreWith 16 0x100 [(5, 9), (6, 0x80040000)], by decide +kernel⟩
  · exact ⟨3, (coreWith 3 0x100 []).setCore 3 { CoreSt.reset with csr := [(0x28, 1000)] }, by decide +kernel⟩
  · exact ⟨3, 2, 0xFFFFFFFFFFFF, (coreWith 3 0x100 []).setCore 3 { CoreSt.reset with csr := [(0x42, 0x80000002), (0x94, 5)] }, by decide +kernel⟩
  · exact ⟨3, (coreWith 3 0x100 []).setCore 3 { CoreSt.reset with csr := [(0x52, 0x80000010)] }, by decide +kernel⟩

theorem wit_SequencerCommands :
    (∃ (m : Master) (k : Fin 17) (w : Word) (s : State),
      let a := 0x00400100 + 0x10 * k.val
      s.coreState k.val ≤ 3 ∧ loadWaits k.val s = false ∧ (w &&& 0x80000006 = 0) ∧ Served m true a (fset w 0 0 1) s) ∧
    (∃ (m : Master) (w : Word) (s : State),
      Served m true 0x00400000 (fset w 31 31 1) s) ∧
    (∃ (m : Master) (i : Fin 2) (s : State),
      let a := 0x00400020 + 4 * i.val
      Served m false a 0 s) ∧
    (∃ (m : Master) (i : Fin 2) (w : Word) (s : State),
      let a := 0x00400020 + 4 * i.val
      Served m true a (fset w 0 0 1) s) ∧
    (∃ (i : Fin 2) (s : State) (t : Nat),
      look 0 s.semSince i.val = t + 1 ∧ bits (0x00400020 + 4 * i.val) 31 31 s = 1) ∧
    (∃ (m : Master) (w : Word) (s : State),
      Served m true 0x00400010 (fset w 4 4 1) s) := by
  and_intros
  · exact ⟨.ncp, 3, 1, coreWith 3 0x100 [], by decide +kernel⟩
  · exact ⟨.ncp, 1, coreWith 3 0x100 [], by decide +kernel⟩
  · exact ⟨.ncp, 1, coreWith 3 0x100 [], by decide +kernel⟩
  · exact ⟨.ncp, 1, 0, coreWith 3 0x100 [], by decide +kernel⟩
  · exact ⟨1, { stateWith [(0x400024, 0x80000300)] (coreWith 3 0x100 []) with semSince := [(1, 10)] }, 9, by decide +kernel⟩
  · exact ⟨.ncp, 0x300, coreWith 3 0x100 [], by decide +kernel⟩

theorem wit_PortAndFrames :
    (∃ (m : Master) (w : Word) (s : State),
      Served m true 0x000A0000 w s) ∧
    (∃ (s : State),
      s.meOn = true ∧ s.rd ncpB R.NCP_PORT_STATUS_STATE = 1) ∧
    (∃ (s : State),
      s.portUp = true ∧ s.rd ncpB R.NCP_PORT_ENABLE = 1 ∧ s.clk.sysxiLoss = false ∧ Inv s) ∧
    (∃ (mac : List Byte) (sha : List Byte) (spa : List Byte) (tha : List Byte) (s : State),
      s.portUp = true ∧ mac.length = 6 ∧ sha.length = 6 ∧ spa.length = 4 ∧ tha.length = 6 ∧ s.rd ncpB
        R.NCP_NET_CFG_VLAN_EN = 0 ∧ s.rd ncpB R.NCP_IP4_ADDR ≠ 0) ∧
    (∃ (f : List Byte) (mac : List Byte) (src : List Byte) (target : List Byte) (s : State),
      s.portUp = true ∧ parsePort f s = .ns mac src target ∧ src ≠ List.replicate 16 0) ∧
    (∃ (f : List Byte) (mac : List Byte) (src : List Byte) (dst : List Byte) (data : List Byte) (s : State),
      s.portUp = true ∧ parsePort f s = .echo6 mac src dst data) ∧
    (∃ (f : List Byte) (s : State),
      s.portUp = true ∧ parsePort f s = .foreign) := by
  and_intros
  · exact ⟨.jtag, 0, ncpWith sess1, by decide +kernel⟩
  · exact ⟨(ncpWith sess1).wr ncpB R.NCP_PORT_STATUS_STATE 1, by decide +kernel⟩
  · exact ⟨ncpWith sess1, by decide +kernel⟩
  · exact ⟨[2, 0, 0, 0, 0, 9], [2, 0, 0, 0, 0, 9], [10, 0, 0, 2], [0, 0, 0, 0, 0, 0], stateWith [(0xA0014, 0x0A000001)] (ncpWith sess1), by decide +kernel⟩
  · exact ⟨nsFrame, [2, 0, 0, 0, 0, 9], [0xFE, 0x80, 0, 0, 0, 0, 0, 0, 0, 0, 0, 0, 0, 0, 0, 9], llOf (ncpWith sess1), ncpWith sess1, by decide +kernel⟩
  · exact ⟨echoFrame, [2, 0, 0, 0, 0, 9], [0xFE, 0x80, 0, 0, 0, 0, 0, 0, 0, 0, 0, 0, 0, 0, 0, 9], llOf (ncpWith sess1), [0, 1, 0, 2], ncpWith sess1, by decide +kernel⟩
  · exact ⟨[1, 2, 3], ncpWith sess1, by decide +kernel⟩

theorem wit_SessionsOpenAndClose :
    (∃ (peer : NcpPeer) (tag : Word) (flags : Word) (seq : Word) (credit : Word) (s : State) (k : Nat),
      Inv s ∧ ncpReady s = true ∧ s.injBad = false ∧ ctlSess s = none ∧ ((List.range 4).find? (fun k => !s.sessOpen k) =
        some k)) ∧
    (∃ (peer : NcpPeer) (tag : Word) (flags : Word) (seq : Word) (credit : Word) (s : State),
      ncpReady s = true ∧ s.injBad = false ∧ ((flags.getLsbD 0 = true ∧ flags.getLsbD 1 = false ∧ (ctlSess s).isSome =
        true ∨ flags.getLsbD 0 = false ∧ ∀ k : Fin 4, s.sessOpen k.val = true))) ∧
    (∃ (k : Nat) (m : NcpMsg) (s : State),
      let x := s.sessOf k
      Inv s ∧ x.gen ≠ 0 ∧ x.waitq = [] ∧ canSend k s = true ∧ s.sessOpen k = true ∧ s.portUp = true ∧ x.injLoss = false) ∧
    (∃ (k : Fin 4) (reason : Nat) (s : State),
      Inv s ∧ s.domOn 83 = true ∧ s.sessOpen k.val = true ∧ reason < 16) ∧
    (∃ (k : Fin 4) (tag : Word) (reason : Word) (s : State),
      Hears k.val s) ∧
    (∃ (m : Master) (k : Fin 4) (w : Word) (s : State),
      Served m true (0x000A0040 + 0x10 * k.val) (fset w 15 15 1) s) ∧
    (∃ (k : Fin 4) (s : State),
      s.meOn = true ∧ s.sessOpen k.val = true ∧ s.rd ncpB R.NCP_SESS_CFG_IDLE_TO ≠ 0) ∧
    (∃ (k : Fin 4) (s : State) (d : Dgram) (l : List Dgram),
      let t := s.fresh.advanceNow (d.at_ + rtoT s)
      s.meOn = true ∧ s.sessOpen k.val = true ∧ (s.sessOf k.val).store = d :: l ∧ (t.sessOf k.val).store = d :: l) ∧
    (∃ (k : Fin 4) (tag : Word) (seq : Word) (s : State),
      Hears k.val s) := by
  and_intros
  · exact ⟨⟨[10, 0, 0, 3], 77⟩, 9, 5, 3, 100, resetWith [(0x500005300034, 0x300)] |>.wr ncpB R.NCP_PORT_STATUS_STATE 2 |>.wr bootB R.BOOT_STATUS_STATE 6, 0, by decide +kernel⟩
  · exact ⟨⟨[10, 0, 0, 3], 77⟩, 9, 5, 3, 100, ncpWith sess1, by decide +kernel⟩
  · exact ⟨1, ⟨[1, 2, 3], none, 0⟩, ncpWith sess1, by decide +kernel⟩
  · exact ⟨1, 5, ncpWith sess1, by decide +kernel⟩
  · exact ⟨1, 9, 0, ncpWith sess1, by decide +kernel⟩
  · exact ⟨.jtag, 1, 0, ncpWith sess1, by decide +kernel⟩
  · exact ⟨1, ncpWith sess1, by decide +kernel⟩
  · exact ⟨1, ncpWith { sess1 with store := [⟨99, [1], none, 0, 1, 5⟩] }, ⟨99, [1], none, 0, 1, 5⟩, [], by decide +kernel⟩
  · exact ⟨1, 9, 3, ncpWith { sess1 with store := [⟨99, [1], none, 2, 1, 5⟩] }, by decide +kernel⟩

theorem wit_SessionMessages :
    (∃ (k : Fin 4) (tag : Word) (s : State),
      Hears k.val s) ∧
    (∃ (k : Fin 4) (tag : Word) (a : Word) (s : State),
      let t := heard k.val s
      let r := access .ncp false a.toNat 0 t
      Hears k.val s ∧ r.2.2 ≠ .waiting ∧ StillOpen k.val t r.1) ∧
    (∃ (k : Fin 4) (tag : Word) (cont : Bool) (p : WritePair) (s : State),
      let t := heard k.val s
      let r := access .ncp true p.addr.toNat p.data t
      Hears k.val s ∧ s.rd (sessB k.val) R.NCP_SESS_STAT_MODE = 1 ∧ r.2.2 ≠ .waiting ∧ StillOpen k.val t r.1) ∧
    (∃ (k : Fin 4) (tag : Word) (cont : Bool) (addrs : List Word) (n : Word) (time : BitVec 64) (id : Word) (w : Word) (pairs : List WritePair) (s : State),
      Hears k.val s) ∧
    (∃ (k : Fin 4) (tag : Word) (w : Word) (s : State),
      let t := heard k.val s
      let r := access .ncp true 0x00000100 w t
      Hears k.val s ∧ s.rd (sessB k.val) R.NCP_SESS_STAT_MODE = 1 ∧ r.2.2 ≠ .waiting) ∧
    (∃ (k : Fin 4) (tag : Word) (w : Word) (time : BitVec 64) (s : State) (j : Nat),
      let t := heard k.val s
      let c : NcpCommit := ⟨k.val, (t.sessOf k.val).gen, tag, w, time.toNat, s.now, none, 0, (s.sessOf k.val).expect⟩
      let t := { t with ncpCommits := [c] }
      let i := actBase t + j
      let v := semRelease 0 0 (commitArm c i (semRead 0 0 t).1)
      Hears k.val s ∧ s.rd (sessB k.val) R.NCP_SESS_STAT_MODE = 1 ∧ time ≠ 0 ∧ (s.ncpCommits = []) ∧ ((List.range
        16).find? (fun j => actState (actBase t + j) t == 0) = some j) ∧ s.domOn 82 = true ∧ s.rd (semB 0) R.SQ_SEM_HELD = 0
        ∧ actState i v = 2 ∧ v.ncpCommits = [c]) ∧
    (∃ (k : Fin 4) (tag : Word) (id : Word) (cont : Bool) (time : BitVec 64) (pairs : List WritePair) (s : State),
      Hears k.val s ∧ s.rd (sessB k.val) R.NCP_SESS_STAT_MODE = 1 ∧ pairs ≠ [] ∧ pairs.length ≤ 1024) ∧
    (∃ (k : Fin 4) (tag : Word) (id : Word) (s : State),
      Hears k.val s ∧ s.rd (sessB k.val) R.NCP_SESS_STAT_MODE = 1 ∧ (s.batches.find? (fun b => b.slot == k.val && b.gen ==
        (s.sessOf k.val).gen && b.id == id) = none)) ∧
    (∃ (k : Fin 4) (tag : Word) (id : Word) (s : State) (b : Batch),
      Hears k.val s ∧ s.rd (sessB k.val) R.NCP_SESS_STAT_MODE = 1 ∧ (s.batches.find? (fun b => b.slot == k.val && b.gen ==
        (s.sessOf k.val).gen && b.id == id) = some b)) ∧
    (∃ (k : Fin 4) (tag : Word) (plot : Word) (first : Word) (count : Word) (s : State),
      Hears k.val s) ∧
    (∃ (k : Fin 4) (tag : Word) (plot : Word) (page : Word) (fill : Word) (data : List Byte) (res : PageRes) (s : State),
      let p := fget plot 7 0
      Hears k.val s ∧ s.rd (sessB k.val) R.NCP_SESS_STAT_MODE = 1 ∧ 4200 ≤ ncpMtu s ∧ 4096 ≤ data.length ∧ hostWritable p
        s = true ∧ page.toNat < plotSize p s ∧ s.domOn (72 + (plotFrame p page.toNat s).1) = true) ∧
    (∃ (k : Fin 4) (res : PageRes) (s : State) (b : BulkRd) (l : List BulkRd),
      let mf := plotFrame b.plot b.page s
      let r := pageRead mf.1 mf.2 res s.fresh
      s.meOn = true ∧ s.sessOpen k.val = true ∧ (s.sessOf k.val).waitq = [] ∧ canSend k.val s = true ∧ (s.sessOf
        k.val).bulks = b :: l ∧ s.domOn (72 + mf.1) = true ∧ (r.2 = 0 ∨ r.2 = 3) ∧ 1 < b.left) := by
  and_intros
  · exact ⟨1, 9, ncpWith sess1, by decide +kernel⟩
  · exact ⟨1, 9, 0x40018, ncpWith sess1, by decide +kernel⟩
  · exact ⟨1, 9, false, ⟨0x10C, 5⟩, ncpWith sess1, by decide +kernel⟩
  · exact ⟨1, 9, false, [], 0, 0, 0, 0, [], ncpWith sess1, by decide +kernel⟩
  · exact ⟨1, 9, 0x35, ncpWith sess1, by decide +kernel⟩
  · exact ⟨1, 9, 0x0506, 0x10000000, stateWith [(0x40004, 0)] (ncpWith sess1), 0, by decide +kernel⟩
  · exact ⟨1, 9, 77, true, 1000000, [⟨0x10C, 5⟩], ncpWith sess1, by decide +kernel⟩
  · exact ⟨1, 9, 77, ncpWith sess1, by decide +kernel⟩
  · exact ⟨1, 9, 77, { ncpWith sess1 with batches := [⟨1, 1, 3, 77, false, 1000, [], 5⟩] }, ⟨1, 1, 3, 77, false, 1000, [], 5⟩, by decide +kernel⟩
  · exact ⟨1, 9, 3, 0, 1, ncpWith sess1, by decide +kernel⟩
  · exact ⟨1, 9, 3, 1, 0xFFFF1000, List.replicate 4096 7, .unc, stateWith [(0x500004A00034, 0x300)] ((((ncpWith sess1).wr (plB 3) R.MDW_PLOT_W2_FRAMES 9).wr (plB 3) R.MDW_PLOT_W1_CH_MASK 4).wr (plB 3) R.MDW_PLOT_W0_EN 1 |>.wr (plB 3) R.MDW_PLOT_W0_TYPE 2), by decide +kernel⟩
  · exact ⟨1, .bits [], stateWith [(0x500004A00034, 0x300)] ((((ncpWith { sess1 with bulks := [⟨9, 3, 0, 2, 0, 5⟩] }).wr (plB 3) R.MDW_PLOT_W2_FRAMES 9).wr (plB 3) R.MDW_PLOT_W1_CH_MASK 4).wr (plB 3) R.MDW_PLOT_W0_EN 1), ⟨9, 3, 0, 2, 0, 5⟩, [], by decide +kernel⟩

theorem wit_SessionEvents :
    (∃ (peer : NcpPeer) (d : List Byte) (s : State),
      ncpReady s = true ∧ s.injBad = false) ∧
    (∃ (k : Nat) (seq : Nat) (s : State),
      let x := s.sessOf k
      x.expect < 2 ^ 32 ∧ seq < 2 ^ 32) ∧
    (∃ (k : Fin 4) (s : State),
      let x := s.sessOf k.val
      s.meOn = true ∧ s.sessOpen k.val = true ∧ x.evq ≠ [] ∧ x.waitq = [] ∧ canSend k.val s = true) ∧
    (∃ (k : Nat) (r : Raise) (s : State),
      let x := s.sessOf k
      Inv s ∧ x.gen ≠ 0 ∧ x.injEvt = false ∧ x.evq.length < 4096 ∧ x.hold = []) ∧
    (∃ (k : Fin 4) (id : BitVec 11) (s : State) (h : Nat) (m : EvRec),
      look HoldOff.none (s.sessOf k.val).hold id.toNat = ⟨h, some m⟩ ∧ s.meOn = true ∧ s.sessOpen k.val = true) ∧
    (∃ (s : State) (b : Batch),
      s.counting = true ∧ s.partRuns = true ∧ s.meOn = true ∧ batchNext s = some b) ∧
    (∃ (s : State) (c : NcpCommit),
      s.ncpCommits.find? semWaits = some c ∧ s.meOn = true ∧ s.partRuns = true) ∧
    (∃ (m : Master) (w : Word) (s : State),
      let a := 0x000A0090
      Served m true a (fset w 0 0 1) s) := by
  and_intros
  · exact ⟨⟨[10, 0, 0, 1], 77⟩, [1, 2, 3], ncpWith sess1, by decide +kernel⟩
  · exact ⟨1, 7, ncpWith sess1, by decide +kernel⟩
  · exact ⟨1, ncpWith { sess1 with evq := [⟨5, 0x42A, 1, 2, 1⟩] }, by decide +kernel⟩
  · exact ⟨1, ⟨0x42A, 0, true, false, false, false, 5, 1, 2, 0⟩, ncpWith sess1, by decide +kernel⟩
  · exact ⟨1, 0x42A, ncpWith { sess1 with hold := [(0x42A, ⟨5, some ⟨5, 0x42A, 1, 2, 3⟩⟩)] }, 5, ⟨5, 0x42A, 1, 2, 3⟩, by decide +kernel⟩
  · exact ⟨{ stateWith [(0x40004, 0)] (ncpWith sess1) with batches := [⟨1, 1, 3, 77, false, 1000, [⟨0x10C, 5⟩], 5⟩] }, ⟨1, 1, 3, 77, false, 1000, [⟨0x10C, 5⟩], 5⟩, by decide +kernel⟩
  · exact ⟨{ ncpWith sess1 with ncpCommits := [⟨1, 1, 9, 0x35, 1000, 0, none, 0, 7⟩] }, ⟨1, 1, 9, 0x35, 1000, 0, none, 0, 7⟩, by decide +kernel⟩
  · exact ⟨.jtag, 0x100, ncpWith sess1, by decide +kernel⟩

theorem wit_Boot :
    (∃ (x : BootIn) (s : State),
      bootMay s = true) ∧
    (∃ (x : BootIn) (s : State),
      Inv s ∧ bootMay s = true ∧ ((x.sysXi = false ∨ x.corePll = false))) ∧
    (∃ (x : BootIn) (s : State),
      Inv s ∧ bootMay s = true ∧ x.sysXi = true ∧ x.corePll = true) ∧
    (∃ (x : BootIn) (s : State),
      Inv s ∧ bootMay s = true ∧ x.sysXi = true ∧ x.corePll = true ∧ s.bootInj.testBit 0 = false ∧ x.busyA = x.busyB ∧
        s.flashRead 0 0 4 ≠ [0x45, 0x5A, 0x4C, 0x49] ∧ s.flashRead 1 0 4 ≠ [0x45, 0x5A, 0x4C, 0x49]) := by
  and_intros
  · exact ⟨⟨true, true, true, 15, 63, false, false, 0, [], []⟩, State.reset, by decide +kernel⟩
  · exact ⟨⟨false, true, true, 15, 63, false, false, 0, [], []⟩, State.reset, by decide +kernel⟩
  · exact ⟨⟨true, true, true, 15, 63, false, false, 0, [], []⟩, State.reset, by decide +kernel⟩
  · exact ⟨⟨true, true, true, 15, 63, false, false, 0, [], []⟩, State.reset, by decide +kernel⟩

theorem wit_FlashAndKeys :
    (∃ (m : Master) (w : Word) (s : State),
      Served m true 0x00010020 (fset (fset w 1 0 0) 31 31 1) s) ∧
    (∃ (m : Master) (w : Word) (s : State),
      Served m true 0x000100B0 (fset w 31 16 0x4A53) s) ∧
    (∃ (v : Bool) (s : State),
      Inv s ∧ s.keyOp = true) ∧
    (∃ (busy : Bool) (st : BitVec 8) (s : State) (q : QspiOp) (d : Nat) (a : Nat),
      Inv s ∧ s.qspiOp = some q ∧ ((busy = false ∨ q.op = 0 ∨ q.op = 3)) ∧ q.dev < 2 ∧ q.addr < 2 ^ 32 ∧ q.data.length =
        64 ∧ d < 2 ∧ a < 2 ^ 32) ∧
    (∃ (m : Master) (w : Word) (s : State),
      Served m true 0x000100B4 (fset w 0 0 1) s) := by
  and_intros
  · exact ⟨.ncp, 0x100, resetWith [(0x10024, 0x1234), (0x10044, 0x89ABCDEF)], by decide +kernel⟩
  · exact ⟨.mi2c, 0x100, resetWith [], by decide +kernel⟩
  · exact ⟨true, { State.reset with keyOp := true }, by decide +kernel⟩
  · exact ⟨false, 5, { State.reset with qspiOp := some ⟨1, 1, 0x12F0, List.replicate 64 0x0F⟩, flash := [(0x1000012FF, 0x35)] }, ⟨1, 1, 0x12F0, List.replicate 64 0x0F⟩, 1, 0x1210, by decide +kernel⟩
  · exact ⟨.ncp, 0x4, resetWith [], by decide +kernel⟩

theorem wit_SidebandBus :
    (∃ (bs : List (BitVec 8)) (s : State),
      let a := fb32 bs 0
      let w : Word := BitVec.ofNat 32 (fb32 bs 4)
      let r := access .mi2c true a w (s.fresh.cnt bootB R.BOOT_MI2C_CNT_ACCESSES 1)
      s.por = false ∧ s.inReset = false ∧ s.off = false ∧ s.fatal = false ∧ s.pwrState ≤ 1 ∧ s.bootInj.testBit 3 = false ∧
        bs.length = 8 ∧ r.2.2 ≠ .waiting) ∧
    (∃ (bs : List (BitVec 8)) (s : State),
      let a := fb32 bs 0
      let r := access .mi2c false a 0 (s.fresh.cnt bootB R.BOOT_MI2C_CNT_ACCESSES 1)
      s.por = false ∧ s.inReset = false ∧ s.off = false ∧ s.fatal = false ∧ s.pwrState ≤ 1 ∧ s.bootInj.testBit 3 = false ∧
        bs.length = 4 ∧ r.2.2 ≠ .waiting) ∧
    (∃ (s : State),
      s.por = false ∧ s.inReset = false ∧ s.off = false ∧ s.fatal = false ∧ s.pwrState ≤ 1 ∧ s.bootInj.testBit 3 = false) ∧
    (∃ (bs : List (BitVec 8)) (s : State),
      Inv s ∧ s.por = false ∧ s.inReset = false ∧ s.off = false ∧ s.fatal = false ∧ s.pwrState ≤ 1 ∧ s.bootInj.testBit 3 =
        false ∧ s.booted = false) ∧
    (∃ (bs : List (BitVec 8)) (s : State),
      s.por = false ∧ s.inReset = false ∧ s.off = false ∧ s.fatal = false ∧ s.pwrState ≤ 1) ∧
    (∃ (s : State),
      Inv s ∧ s.por = false ∧ s.inReset = false ∧ s.off = false ∧ s.fatal = false ∧ s.pwrState ≤ 1) ∧
    (∃ (s : State),
      s.por = false ∧ s.inReset = false ∧ s.off = false ∧ s.fatal = false ∧ s.on pwrB R.PWR_CTRL_MI2C_WAKE_EN = true) := by
  and_intros
  · exact ⟨[0, 0x01, 0, 0x30, 1, 2, 3, 4], State.reset, by decide +kernel⟩
  · exact ⟨[0, 0x00, 0, 0x18], State.reset, by decide +kernel⟩
  · exact ⟨{ State.reset with mi2cLast := 6 }, by decide +kernel⟩
  · exact ⟨[0, 0x04, 0, 0x10, 1, 2, 3, 4], State.reset, by decide +kernel⟩
  · exact ⟨[0, 0x04, 0, 0x10, 1], State.reset, by decide +kernel⟩
  · exact ⟨State.reset, by decide +kernel⟩
  · exact ⟨resetWith [(0x30000, 3), (0x30004, 1)], by decide +kernel⟩

theorem wit_Clocks :
    (∃ (j : Fin 3) (c : BitVec 16) (s : State),
      Inv s ∧ s.bbOn = true ∧ s.rd clkB R.CLK_MON_CFG_EN / 2 ^ j.val % 2 = 1 ∧ ((j.val = 1 ∨ look 0 s.clk.decl 1 ≠ 2)) ∧
        look 0 s.clk.inj j.val = 0 ∧ s.clk.lrefTrip = 0) ∧
    (∃ (s : State),
      Inv s ∧ s.clkState = 0 ∧ s.on clkB R.CLK_STATUS_CORE_LOCK = true) ∧
    (∃ (s : State),
      Inv s ∧ s.domOn 83 = true ∧ s.on clkB R.CLK_STATUS_MEM_LOCK = true ∧ s.clk.sysxiLoss = false) ∧
    (∃ (s : State),
      s.bbOn = true) ∧
    (∃ (m : Master) (w : Word) (s : State),
      Inv s ∧ s.clkState = 2 ∧ s.on clkB R.CLK_STATUS_LREF_OK = true ∧ Served m true 0x00020000 (fset w 31 31 1) s) ∧
    (∃ (s : State),
      Inv s ∧ s.clkState = 3) ∧
    (∃ (s : State),
      Inv s ∧ s.bbOn = true ∧ s.clk.sysxiLoss = true ∧ look 0 s.clk.decl 1 ≠ 2) ∧
    (∃ (m : Master) (w : Word) (s : State),
      Served m true 0x00020000 w s) ∧
    (∃ (m : Master) (w : Word) (s : State),
      Inv s ∧ w.getLsbD 31 = false ∧ Served m true 0x00020000 w s) ∧
    (∃ (m : Master) (w : Word) (s : State),
      Inv s ∧ Served m true 0x00020040 w s) ∧
    (∃ (g : Fin 14) (mid : BitVec 8) (s : State),
      Inv s ∧ s.bbOn = true ∧ (look ⟨0, false⟩ s.clk.gates g.val).at_ ≠ 0) ∧
    (∃ (m : Master) (w : Word) (s : State),
      Served m true 0x00020070 (fset w 0 0 1) s) := by
  and_intros
  · exact ⟨0, 5, resetWith [(0x20010, 1)], by decide +kernel⟩
  · exact ⟨resetWith [(0x20000 + R.CLK_STATUS_CORE_LOCK.off, 2 ^ R.CLK_STATUS_CORE_LOCK.lo)], by decide +kernel⟩
  · exact ⟨resetWith [(0x500005300034, 0x300), (0x20000 + R.CLK_STATUS_MEM_LOCK.off, 2 ^ R.CLK_STATUS_MEM_LOCK.lo), (0xA0000 + R.NCP_PORT_STATUS_STATE.off, 2 * 2 ^ R.NCP_PORT_STATUS_STATE.lo)], by decide +kernel⟩
  · exact ⟨resetWith [(0x20000 + R.CLK_STATUS_STATE.off, 1)], by decide +kernel⟩
  · exact ⟨.ncp, 0, resetWith [(0x20004, 2 + 2 ^ R.CLK_STATUS_LREF_OK.lo)], by decide +kernel⟩
  · exact ⟨resetWith [(0x20000 + R.CLK_STATUS_STATE.off, 3)], by decide +kernel⟩
  · exact ⟨{ resetWith [] with clk := { ClkSt.reset with sysxiLoss := true } }, by decide +kernel⟩
  · exact ⟨.ncp, 1, resetWith [(0x20004, 2 ^ R.CLK_STATUS_SYSXI_OK.lo)], by decide +kernel⟩
  · exact ⟨.ncp, 1, resetWith [(0x20004, 2 ^ R.CLK_STATUS_SYSXI_OK.lo)], by decide +kernel⟩
  · exact ⟨.ncp, 0x123, resetWith [(0x20040, 0x21)], by decide +kernel⟩
  · exact ⟨5, 0x3F, { resetWith [(0x20040, 0x21)] with clk := { ClkSt.reset with gates := [(5, ⟨100, false⟩)] } }, by decide +kernel⟩
  · exact ⟨.ncp, 0x9, resetWith [], by decide +kernel⟩

theorem wit_DomainPower :
    (∃ (m : Master) (i : Fin 3) (b : Fin 32) (w : Word) (s : State),
      let d := 32 * i.val + b.val
      let a := 0x00030010 + 4 * i.val
      Inv s ∧ 32 * i.val + b.val < 84 ∧ s.domReq 82 = true ∧ s.domState d = 0 ∧ s.domReq d = false ∧ w.getLsbD b.val =
        true ∧ ((∀ j : Fin 32, j ≠ b → w.getLsbD j.val = (s.getReg a).getLsbD j.val)) ∧ Served m true a w s) ∧
    (∃ (m : Master) (i : Fin 3) (b : Fin 32) (w : Word) (s : State),
      let d := 32 * i.val + b.val
      let a := 0x00030010 + 4 * i.val
      Inv s ∧ 32 * i.val + b.val < 82 ∧ s.domReq 82 = true ∧ s.domState d = 3 ∧ s.domReq d = true ∧ w.getLsbD b.val =
        false ∧ ((∀ j : Fin 32, j ≠ b → w.getLsbD j.val = (s.getReg a).getLsbD j.val)) ∧ Served m true a w s) ∧
    (∃ (m : Master) (i : Fin 3) (b : Fin 32) (w : Word) (s : State),
      let d := 32 * i.val + b.val
      let a := 0x00030010 + 4 * i.val
      Inv s ∧ 32 * i.val + b.val < 82 ∧ s.domReq 82 = true ∧ ((s.domState d = 1 ∨ s.domState d = 2)) ∧ s.domReq d = true ∧
        w.getLsbD b.val = false ∧ ((∀ j : Fin 32, j ≠ b → w.getLsbD j.val = (s.getReg a).getLsbD j.val)) ∧ Served m true a w
        s) ∧
    (∃ (d : Dom) (s : State),
      Inv s ∧ s.domOn d.val = true ∧ (s.domOf d.val).delayAt ≠ 0) ∧
    (∃ (d : Dom) (s : State),
      Inv s ∧ queueHead s = some d.val ∧ s.pwrRuns = true) ∧
    (∃ (s : State),
      ((∃ e ∈ s.pwr.out, s.now < e.2.2))) ∧
    (∃ (d : Dom) (s : State),
      Inv s ∧ s.domState d.val = 2) ∧
    (∃ (d : Dom) (s : State),
      Inv s) ∧
    (∃ (m : Master) (w : Word) (s : State) (v : Word),
      fget v 22 16 < 84) := by
  and_intros
  · exact ⟨.ncp, 0, 5, 0x20, resetWith [(0x500000500034, 0), (0x30018, 0x40000), (0x30010, 0)], by decide +kernel⟩
  · exact ⟨.ncp, 0, 5, 0, resetWith [(0x500000500034, 0x300), (0x30018, 0x40000), (0x30010, 0x20)], by decide +kernel⟩
  · exact ⟨.ncp, 0, 5, 0, resetWith [(0x500000500034, 0x200), (0x30018, 0x40000), (0x30010, 0x20)], by decide +kernel⟩
  · exact ⟨5, { resetWith [(0x500000500034, 0x300)] with doms := [(5, { DomSt.idle with delayAt := 7 })] }, by decide +kernel⟩
  · exact ⟨5, { resetWith [(0x500000500034, 0x100)] with doms := [(5, { DomSt.idle with injFail := true })] }, by decide +kernel⟩
  · exact ⟨{ State.reset with pwr := { PwrSt.reset with out := [(0, 2, 500), (1, 1, 300)] } }, by decide +kernel⟩
  · exact ⟨5, resetWith [(0x500000500034, 0x200)], by decide +kernel⟩
  · exact ⟨5, resetWith [(0x500000500034, 0x300)], by decide +kernel⟩
  · exact ⟨.ncp, 0x50000, resetWith [], 0x50001, by decide +kernel⟩

theorem wit_RestAndWake :
    (∃ (m : Master) (w : Word) (s : State),
      Inv s ∧ s.pwrState ≤ 1 ∧ s.bbOn = true ∧ Served m true 0x00030004 (fset w 31 31 1) s) ∧
    (∃ (m : Master) (w : Word) (s : State),
      Inv s ∧ s.pwrState = 2) ∧
    (∃ (s : State),
      Inv s ∧ s.pwrState = 2 ∧ restReady s = true) ∧
    (∃ (back : Bool) (s : State),
      Inv s ∧ s.por = false ∧ s.off = false ∧ s.fatal = false) ∧
    (∃ (us : BitVec 16) (core : Bool) (mem : Bool) (src : Nat) (t0 : Nat) (s : State),
      Inv s ∧ s.pwrState = 3 ∧ s.off = false ∧ s.pwr.wakeSrc = some (src, t0) ∧ ((∀ d : Dom, s.domState d.val = 0))) ∧
    (∃ (s : State),
      Inv s ∧ s.pwrState = 4 ∧ ((∀ d : Dom, s.domState d.val ≠ 1 ∧ s.domState d.val ≠ 2))) := by
  and_intros
  · exact ⟨.ncp, 0, resetWith [(0x500000500034, 0x300), (0x500005200034, 0x300)], by decide +kernel⟩
  · exact ⟨.ncp, 1, resetWith [(0x30000, 2), (0x500005200034, 0x300)], by decide +kernel⟩
  · exact ⟨{ resetWith [(0x30000, 2), (0x500000500034, 0x300)] with doms := (List.range 84).map (fun d => (d, { DomSt.idle with ack := true })), waiting := [⟨.ncp, 0x1060000, false, 0, 6, 0⟩] }, by decide +kernel⟩
  · exact ⟨false, { resetWith [(0x30000, 3), (0x30004, 2), (0x4005C, 1)] with tl := { TlSt.reset with alarmAt := some 5 } }, by decide +kernel⟩
  · exact ⟨300, true, true, 2, 77, { resetWith ([(0x30000, 3), (0x30010, 0x21)] ++ (List.range 84).map (fun d => (0x500000000034 + 0x100000 * d, 0))) with pwr := { PwrSt.reset with wakeSrc := some (2, 77) } }, by decide +kernel⟩
  · exact ⟨{ resetWith [(0x30000, 4)] with heldEvents := [0x412], pwr := { PwrSt.reset with wakeAt := 5, waking := 2 } }, by decide +kernel⟩

theorem wit_Converter :
    (∃ (s : State),
      Inv s ∧ s.hkUp = true ∧ s.hkRun = true ∧ s.on hkB R.HK_STATUS_RUNNING = false ∧ hkPaused s = false) ∧
    (∃ (raws : List (BitVec 12)) (s : State) (c : Fin 96),
      Inv s ∧ s.hkUp = true ∧ s.hkRun = true ∧ s.on hkB R.HK_STATUS_RUNNING = true ∧ hkPaused s = false ∧ s.rd hkB
        R.HK_STATUS_CHAN = c.val) ∧
    (∃ (m : Master) (w : Word) (s : State),
      Inv s ∧ Served m true 0x00050000 (fset w 31 31 1) s) ∧
    (∃ (zA : Nat) (rA : Nat) (zB : Nat) (rB : Nat) (s : State),
      Inv s ∧ s.hkUp = true ∧ s.on hkB R.HK_STATUS_SC_BUSY = true) ∧
    (∃ (raw : BitVec 12) (m : Master) (w : Word) (s : State),
      Inv s ∧ Served m true 0x00050038 (fset w 31 31 1) s) ∧
    (∃ (m : Master) (w : Word) (s : State),
      Inv s) := by
  and_intros
  · exact ⟨resetWith [(0x50010, 0x20)], by decide +kernel⟩
  · exact ⟨[0x123, 0x456], { resetWith [(0x50010, 0x20), (0x50004, 0x4005)] with hk := { HkSt.reset with acc := 1, settle := 1 } }, 5, by decide +kernel⟩
  · exact ⟨.ncp, 1, resetWith [(0x5012C, 0x01230045)], by decide +kernel⟩
  · exact ⟨100, 3360000, 0, 3355000, resetWith [(0x50004, 0x8000)], by decide +kernel⟩
  · exact ⟨0x123, .ncp, 5, resetWith [(0x50000, 3)], by decide +kernel⟩
  · exact ⟨.ncp, 0x03550500, resetWith [], by decide +kernel⟩

theorem wit_Thermal :
    (∃ (raws : List (BitVec 16)) (s : State),
      let r (i : Fin 31) : Int := (raws.getD i.val 0).toInt + tsOfs i.val s
      Inv s ∧ s.por = false ∧ s.off = false ∧ s.pwrState ≤ 1 ∧ s.hk.shut.on = false ∧ ((∀ i : Fin 31, (s.tsOf
        i.val).injTemp = 0 ∧ (s.tsOf i.val).injFail = 0 ∧ tsFailed i.val s = false ∧ -440 ≤ r i ∧ r i < 960))) ∧
    (∃ (x : LvlSt) (hot : Int) (lvl : Int) (h : Int),
      0 < h) ∧
    (∃ (raws : List (BitVec 16)) (s : State) (k : Nat),
      let r (i : Fin 31) : Int := (raws.getD i.val 0).toInt + tsOfs i.val s
      Inv s ∧ s.por = false ∧ s.off = false ∧ s.hk.shut = ⟨false, 2⟩ ∧ s.biasUv = false ∧ shutFree s = some k ∧ ((∀ i :
        Fin 31, (s.tsOf i.val).injTemp = 0 ∧ (s.tsOf i.val).injFail = 0 ∧ tsFailed i.val s = false ∧ -440 ≤ r i ∧ r i ≤
        1200)) ∧ ((∃ i : Fin 31, 960 ≤ r i))) ∧
    (∃ (i : Fin 31) (raw : BitVec 16) (s : State),
      Inv s ∧ (s.tsOf i.val).injTemp = 0 ∧ (s.tsOf i.val).injFail = 0) ∧
    (∃ (m : Master) (w : Word) (s : State),
      Inv s ∧ Served m true 0x00050460 (fset w 31 16 0x7C1E) s) ∧
    (∃ (s : State),
      Inv s ∧ s.on hkB R.HK_SHUT_CLR_BUSY = true) := by
  and_intros
  · exact ⟨(List.range 31).map (fun i => BitVec.ofNat 16 (400 + i % 7)), State.reset, by decide +kernel⟩
  · exact ⟨⟨false, 2⟩, 880, 880, 40, by decide +kernel⟩
  · exact ⟨(List.range 31).map (fun i => BitVec.ofNat 16 (960 + i % 7)), { State.reset with hk := { HkSt.reset with shut := ⟨false, 2⟩ } }, 0, by decide +kernel⟩
  · exact ⟨7, 0x7FFF, { State.reset with hk := { HkSt.reset with ts := [(7, { TsSt.idle with bad := 2, last := 300, has := true })] } }, by decide +kernel⟩
  · exact ⟨.ncp, 0, resetWith [(0x50000000045C + 0, 0)], by decide +kernel⟩
  · exact ⟨{ resetWith [(0x50460, 4), ((Obj.shut 3).base + 0x45C, 0x80000000), ((Obj.shut 5).base + 0x45C, 0x80000000)] with hk := { HkSt.reset with clearing := 8 } }, by decide +kernel⟩

theorem wit_Calibration :
    (∃ (m : Master) (w : Word) (s : State) (op : Fin 16),
      Inv s) ∧
    (∃ (x : CalMeas) (s : State) (r : CalRun),
      let o := calOutcome r x (s.fresh.advanceNow (r.at_ + calTime r.op))
      Inv s ∧ s.hk.run = some r ∧ s.bbOn = true ∧ s.gateShut 12 = false ∧ ((r.op = 1 → s.hkUp = true)) ∧ s.hk.scHeld =
        false ∧ o.isSome = true) ∧
    (∃ (raws : List (BitVec 12)) (s : State) (r : CalRun),
      r.op = 1) ∧
    (∃ (iro : Nat) (lpo : Nat) (it : BitVec 8) (lt : BitVec 8) (s : State) (r : CalRun),
      Inv s ∧ r.op = 2) ∧
    (∃ (sums : List Int) (s : State) (r : CalRun),
      Inv s ∧ r.op = 3 ∧ r.arg < 65536) ∧
    (∃ (t : Int) (t0 : Int) (t1 : Int) (a : Int) (b : Int),
      t0 < t1) ∧
    (∃ (m : Master) (w : Word) (s : State),
      Inv s ∧ Served m true 0x00060058 (fset w 0 0 1) s) := by
  and_intros
  · exact ⟨.ncp, 0x00200, resetWith [], 1, by decide +kernel⟩
  · exact ⟨.none, { resetWith [] with hk := { HkSt.reset with run := some ⟨4, 0xFFFF, true, false, 5⟩ } }, ⟨4, 0xFFFF, true, false, 5⟩, by decide +kernel⟩
  · exact ⟨[], State.reset, ⟨1, 0, false, false, 5⟩, by decide +kernel⟩
  · exact ⟨199000000, 1000400, 0x7F, 0x81, resetWith [(0x20004, 0xFFF0)], ⟨2, 0, false, false, 5⟩, by decide +kernel⟩
  · exact ⟨List.replicate 31 16000, resetWith [(0x50408, 0x80)], ⟨3, 254, false, false, 5⟩, by decide +kernel⟩
  · exact ⟨5, 0, 10, 100, 200, by decide +kernel⟩
  · exact ⟨.ncp, 0, resetWith [(0x60050, 0x0105)], by decide +kernel⟩

theorem wit_ShadeRotation :
    (∃ (j : Fin 8) (s : State),
      Inv s ∧ rotMay j.val s = true ∧ rotStep j.val s = 0) ∧
    (∃ (j : Fin 8) (s : State),
      (rotMay j.val s = false ∨ rotStep j.val s ≠ 0)) ∧
    (∃ (j : Fin 8) (sig : Word) (s : State),
      let p := s.rd (rotB j.val) R.BIST_ROT_STAT_SHADE
      Inv s ∧ rotRuns j.val s = true ∧ rotStep j.val s = 2 ∧ (s.rotOf j.val).redo = false ∧ p < 17 ∧ (s.rotOf
        j.val).relieved = none) ∧
    (∃ (j : Fin 8) (differs : Bool) (s : State),
      Inv s ∧ rotRuns j.val s = true ∧ rotStep j.val s = 4) ∧
    (∃ (j : Fin 8) (s : State) (e : Nat × Nat),
      Inv s ∧ rotRuns j.val s = true ∧ rotStep j.val s = 5 ∧ (s.rotOf j.val).swap = some e) ∧
    (∃ (m : Master) (w : Word) (s : State),
      Inv s ∧ Served m true 0x00080150 (fset w 0 0 1) s) := by
  and_intros
  · exact ⟨3, resetWith [(0x80000, 0x3F440008)], by decide +kernel⟩
  · exact ⟨3, State.reset, by decide +kernel⟩
  · exact ⟨3, 7, { resetWith [(0x80000, 0x3F440008), (0x8001C, 0x44000000)] with sigs := [(67, 7)] }, by decide +kernel⟩
  · exact ⟨3, false, resetWith [(0x80000, 0x3F440008), (0x8001C, 0x84000000)], by decide +kernel⟩
  · exact ⟨3, { resetWith [(0x80000, 0x3F440008), (0x8001C, 0xA4000000), (0x8003C, 7)] with rot := [(3, { RotSt.idle with swap := some (65536, 65536) })] }, (65536, 65536), by decide +kernel⟩
  · exact ⟨.ncp, 0x300, resetWith [], by decide +kernel⟩

theorem wit_ChecksAndFuses :
    (∃ (m : Master) (w : Word) (s : State) (op : Fin 4),
      Inv s) ∧
    (∃ (errors : Nat) (rms : BitVec 8) (failing : Option (BitVec 8)) (s : State) (r : LoopRun),
      Inv s ∧ s.loop = some r ∧ s.bbOn = true ∧ s.gateShut 13 = false) ∧
    (∃ (m : Master) (w : Word) (s : State),
      Inv s ∧ Served m true 0x00080140 (fset w 31 16 0xF05E) s) ∧
    (∃ (s : State) (e : Word × Word),
      Inv s ∧ s.fuseOp = some e) ∧
    (∃ (s : State),
      Inv s) ∧
    (∃ (m : Master) (w : Word) (s : State),
      Served m true 0x00070008 w s) ∧
    (∃ (s : State) (t : Nat),
      Inv s ∧ s.kickAt = some t) ∧
    (∃ (m : Master) (w : Word) (s : State),
      Inv s ∧ Served m true 0x00070004 (fset w 31 31 1) s) ∧
    (∃ (m : Master) (w : Word) (s : State) (id : Fin 1152),
      Inv s ∧ s.rd fltB R.FLT_SRC_SEL_ID = id.val ∧ Served m true 0x00070014 (fset w 15 15 1) s) ∧
    (∃ (m : Master) (w : Word) (s : State),
      Inv s ∧ Served m true 0x00070050 (fset w 0 0 1) s) := by
  and_intros
  · exact ⟨.ncp, 0x500, State.reset, 2, by decide +kernel⟩
  · exact ⟨0, 0x20, none, { State.reset with loop := some ⟨1, 5, false⟩ }, ⟨1, 5, false⟩, by decide +kernel⟩
  · exact ⟨.ncp, 0, resetWith [(0x80144, 0x10000005)], by decide +kernel⟩
  · exact ⟨{ State.reset with fuseOp := some (5, 6) }, (5, 6), by decide +kernel⟩
  · exact ⟨resetWith [(0x10000, 6)], by decide +kernel⟩
  · exact ⟨.pair, 0, resetWith [(0x10000, 6), (0x70004, 0x10)], by decide +kernel⟩
  · exact ⟨{ resetWith [(0x10000, 6), (0x70004, 0x10)] with kickAt := some 5, alive := true }, 5, by decide +kernel⟩
  · exact ⟨.ncp, 0x10, resetWith [(0x70000, 0x3300), ((Obj.errRec 2).base + 0x24, 0x80000000)], by decide +kernel⟩
  · exact ⟨.ncp, 0x43, resetWith [(0x70010, 5), ((Obj.src 5).base + 0x14, 0x00120020)], 5, by decide +kernel⟩
  · exact ⟨.ncp, 0, { resetWith [(0x10000, 6), (0x70004, 0x10)] with kickAt := some 5, alive := true }, by decide +kernel⟩

theorem wit_PinsAndSupplies :
    (∃ (s : State),
      Inv s) ∧
    (∃ (t : Bool) (s : State),
      Inv s ∧ s.por = true) ∧
    (∃ (s : State),
      Inv s ∧ s.por = false) ∧
    (∃ (s : State),
      Inv s ∧ s.resetLow = false ∧ s.por = false) ∧
    (∃ (long : Bool) (s : State),
      Inv s ∧ s.resetLow = true ∧ s.por = false) ∧
    (∃ (s : State),
      Inv s ∧ s.por = false) := by
  and_intros
  · exact ⟨(coreWith 3 0x100 []).setWord 0xC00000 7, by decide +kernel⟩
  · exact ⟨true, { State.reset with por := true }, by decide +kernel⟩
  · exact ⟨resetWith [(0x1057014, 0x3000)], by decide +kernel⟩
  · exact ⟨coreWith 3 0x100 [], by decide +kernel⟩
  · exact ⟨true, { State.reset with resetLow := true, inReset := true, resetAt := 5 }, by decide +kernel⟩
  · exact ⟨State.reset, by decide +kernel⟩

end Sys2Proof.Tests
end

section
/-! Counter fields: what adding to one reads back as, and what it leaves unchanged (R24). -/

namespace Sys2Proof.Machine

/-- The invariant's register map has rising keys, in the form the register lemmas take. -/
theorem Inv.regs_rising {s : State} (h : Inv s) : Rising 0 s.regs := by
  obtain ⟨_, hregs, _⟩ := h
  exact (risesFrom_iff 0 s.regs).mp hregs

/-! The saturating sum. -/

/-- A saturating sum is the sum, held at all ones. -/
theorem satAdd_eq_min (wd a b : Nat) : satAdd wd a b = min (a + b) (2 ^ wd - 1) := by
  unfold satAdd
  split <;> omega

/-- A saturating sum fits its width, so a field of that width stores it whole. -/
theorem satAdd_lt (wd a b : Nat) : satAdd wd a b < 2 ^ wd := by
  have hpos : 0 < 2 ^ wd := Nat.two_pow_pos wd
  rw [satAdd_eq_min]
  omega

/-! The word and the registers beside a field that is written. -/

/-- A write of a field stores its register's word with the field replaced. -/
theorem State.getReg_wr_same (s : State) (b : Nat) (f : Fld) (v : Nat) (h : Rising 0 s.regs) :
    (s.wr b f v).getReg (b + f.off) = fset (s.getReg (b + f.off)) f.hi f.lo v :=
  State.getReg_setReg_same s _ _ h

/-- A write of a field leaves every other register. -/
theorem State.getReg_wr_ne (s : State) {b j : Nat} {f : Fld} (v : Nat) (h : Rising 0 s.regs) (hj : j ≠ b + f.off) :
    (s.wr b f v).getReg j = s.getReg j :=
  State.getReg_setReg_ne s _ h hj

/-- Setting a field leaves every bit outside it. -/
theorem fset_getLsbD_outside (w : Word) {hi lo i : Nat} (v : Nat) (hi' : i < lo ∨ hi < i) :
    (fset w hi lo v).getLsbD i = w.getLsbD i := by
  rw [fset_getLsbD, if_neg (by omega)]

/-! Adding to a counter field. -/

/-- A counter field reads its old value plus what was added, held at all ones (R24). -/
theorem State.rd_cnt_same (s : State) (b : Nat) (f : Fld) (k : Nat) (h : Rising 0 s.regs) (hf : f.hi < 32) :
    (s.cnt b f k).rd b f = min (s.rd b f + k) (2 ^ (f.hi + 1 - f.lo) - 1) := by
  unfold State.cnt
  rw [State.rd_wr_same s b f _ h hf, Nat.mod_eq_of_lt (satAdd_lt _ _ _), satAdd_eq_min]

/-- Adding to a counter field leaves every other register. -/
theorem State.getReg_cnt_ne (s : State) {b j : Nat} {f : Fld} (k : Nat) (h : Rising 0 s.regs) (hj : j ≠ b + f.off) :
    (s.cnt b f k).getReg j = s.getReg j :=
  State.getReg_wr_ne s _ h hj

/-- Adding to a counter field leaves the other bits of its register. -/
theorem State.getLsbD_cnt_outside (s : State) (b : Nat) {f : Fld} (k : Nat) {i : Nat} (h : Rising 0 s.regs)
    (hi : i < f.lo ∨ f.hi < i) :
    ((s.cnt b f k).getReg (b + f.off)).getLsbD i = (s.getReg (b + f.off)).getLsbD i := by
  unfold State.cnt
  rw [State.getReg_wr_same s b f _ h, fset_getLsbD_outside _ _ hi]

/-- Settles O9: the saturating sum fits the counter's field, so the write that stores it reads back whole (R24). -/
theorem countersSaturate : Obligations.CountersSaturate := by
  unfold Obligations.CountersSaturate
  intro s b f k j i hinv _ hhi
  have hrise : Rising 0 s.regs := Inv.regs_rising hinv
  exact ⟨State.rd_cnt_same s b f k hrise hhi,
    State.getReg_cnt_ne s k hrise,
    State.getLsbD_cnt_outside s b k hrise⟩

end Sys2Proof.Machine
end

section
/-! Accesses that end without reaching a register: those the address map does not decode (R40, R41). -/

namespace Sys2Proof.Machine

/-- No register access is possible at a misaligned address, nor outside every window. -/
theorem undecoded_of_misaligned_or_unmapped {a : Nat} (s : State) (h : a % 4 ≠ 0 ∨ place a = .unmapped) :
    undecoded a s = true := by
  unfold undecoded
  rcases h with hmis | hmap
  · simp [hmis]
  · simp [hmap]

/-- With PCLK running, an access that is not decoded waits for no domain. -/
theorem accessDom_undecoded {a : Nat} {s : State} (hclk : s.pclkStopped = false) (hu : undecoded a s = true) :
    accessDom a s = none := by
  unfold accessDom
  simp [hclk, hu]

/-- On a part that runs, an access that waits for no domain is performed. -/
theorem access_awake {m : Master} {write : Bool} {a : Nat} {w : Word} {s : State} (hpor : s.por = false)
    (hrst : s.inReset = false) (hfatal : s.fatal = false) (hoff : s.off = false)
    (hmi2c : m = .mi2c → mi2cMay write a s = true) (hdom : accessDom a s = none) :
    access m write a w s = perform m write a w s := by
  have hblock : (m == .mi2c && !mi2cMay write a s) = false := by
    by_cases hm : m = .mi2c
    · simp [hmi2c hm]
    · simp [hm]
  unfold access
  simp [hpor, hrst, hfatal, hoff, hblock, hdom]

/-- An access that is not decoded raises EV_GLB_DECODE_ERR with its record, and does nothing else (R41). -/
theorem perform_undecoded {a : Nat} {s : State} (m : Master) (write : Bool) (w : Word) (hu : undecoded a s = true) :
    perform m write a w s = (s.raiseA 0x428 ⟨Master.id m, if write then 2 else 1, a⟩, 0, .decodeErr) := by
  unfold perform
  rw [if_pos hu]

/-- The command of an access that is not decoded: the event, then the decode error with data 0. -/
theorem command_undecoded {m : Master} {write : Bool} {a : Nat} {w : Word} {s : State} (hpor : s.por = false)
    (hrst : s.inReset = false) (hfatal : s.fatal = false) (hoff : s.off = false) (hclk : s.pclkStopped = false)
    (hu : undecoded a s = true) (hmay : mayAccess m write a w s = true) (hmi2c : m = .mi2c → mi2cMay write a s = true) :
    command m write a w s =
      answered m a write 0 .decodeErr (s.raiseA 0x428 ⟨Master.id m, if write then 2 else 1, a⟩) := by
  unfold command
  rw [if_pos hmay, access_awake hpor hrst hfatal hoff hmi2c (accessDom_undecoded hclk hu), perform_undecoded m write w hu]
  simp [answered]

/-- Settles O12: a misaligned or unmapped address is not decoded, so the access waits for no domain and ends at once. -/
theorem undecodedAccess : Obligations.UndecodedAccess := by
  unfold Obligations.UndecodedAccess
  intro m addr w s hpor hrst hfatal hoff hclk haddr
  have hu : undecoded addr.toNat s.fresh = true := undecoded_of_misaligned_or_unmapped s.fresh haddr
  refine ⟨fun hmay hmi2c => ?_, fun hmay hmi2c => ?_⟩
  · rw [exec_run (i := .registerWrite m addr w) (writeCmd m addr.toNat w) rfl, writeCmd,
      command_undecoded (s := s.fresh) hpor hrst hfatal hoff hclk hu hmay hmi2c]
    rfl
  · rw [exec_run (i := .registerRead m addr) (readCmd m addr.toNat) rfl, readCmd,
      command_undecoded (s := s.fresh) hpor hrst hfatal hoff hclk hu hmay hmi2c]
    rfl

end Sys2Proof.Machine
end

section
/-! The end of an access that waits too long: the fabric's time-out, its count of PCLK cycles, and whom it is told (R38). -/

namespace Sys2Proof.Machine

/-! Raising an event leaves the message in execution. -/

@[simp] theorem State.noteRaise_ncpJob (s : State) (id : Nat) : (s.noteRaise id).ncpJob = s.ncpJob := by
  unfold State.noteRaise
  simp only [State.wr_ncpJob, State.cnt_ncpJob, State.setReg_ncpJob]

@[simp] theorem State.putRec_ncpJob (s : State) (i id : Nat) (cfg : Word) (acc : EvAcc) :
    (s.putRec i id cfg acc).ncpJob = s.ncpJob := by
  unfold State.putRec
  simp only [State.wr_ncpJob]

@[simp] theorem State.queueRaise_ncpJob (s : State) (id recIdx : Nat) : (s.queueRaise id recIdx).ncpJob = s.ncpJob := rfl

@[simp] theorem State.pinReact_ncpJob (s : State) (id : Nat) : (s.pinReact id).ncpJob = s.ncpJob := by
  unfold State.pinReact
  split
  · simp
  · rfl

@[simp] theorem State.recordLost_ncpJob (s : State) : s.recordLost.ncpJob = s.ncpJob := by
  unfold State.recordLost
  simp only []
  split
  · simp
  · simp

@[simp] theorem State.raiseOn_ncpJob (s : State) (id : Nat) (acc : EvAcc) : (s.raiseOn id acc).ncpJob = s.ncpJob := by
  unfold State.raiseOn
  simp only []
  split
  · simp
  · simp
  · simp

@[simp] theorem State.raiseA_ncpJob (s : State) (id : Nat) (acc : EvAcc) : (s.raiseA id acc).ncpJob = s.ncpJob := by
  unfold State.raiseA
  split
  · rfl
  · simp

/-! The passing of time. -/

/-- The passing of time writes true time and the timeline alone. -/
theorem State.advance_eq_now_tl (s : State) (d : Nat) : ∃ n t, s.advance d = { s with now := n, tl := t } := by
  unfold State.advance
  simp only []
  split
  · exact ⟨_, _, rfl⟩
  · split
    · exact ⟨_, _, rfl⟩
    · exact ⟨_, _, rfl⟩

@[simp] theorem State.advance_regs (s : State) (d : Nat) : (s.advance d).regs = s.regs := by
  obtain ⟨_, _, h⟩ := s.advance_eq_now_tl d
  rw [h]

@[simp] theorem State.advance_pclkBase (s : State) (d : Nat) : (s.advance d).pclkBase = s.pclkBase := by
  obtain ⟨_, _, h⟩ := s.advance_eq_now_tl d
  rw [h]

@[simp] theorem State.advance_waiting (s : State) (d : Nat) : (s.advance d).waiting = s.waiting := by
  obtain ⟨_, _, h⟩ := s.advance_eq_now_tl d
  rw [h]

@[simp] theorem State.advance_ncpJob (s : State) (d : Nat) : (s.advance d).ncpJob = s.ncpJob := by
  obtain ⟨_, _, h⟩ := s.advance_eq_now_tl d
  rw [h]

/-- Whether PCLK is stopped hangs on the registers alone. -/
theorem State.pclkStopped_congr {s t : State} (h : s.regs = t.regs) : s.pclkStopped = t.pclkStopped := by
  unfold State.pclkStopped State.rd State.getReg
  rw [h]

/-- While PCLK is stopped the count is its base. -/
theorem State.pclk_stopped {s : State} (h : s.pclkStopped = true) : s.pclk = s.pclkBase := by
  unfold State.pclk
  simp [h]

/-- The count does not run while PCLK is stopped (R38). -/
theorem State.pclk_advance_stopped {s : State} (d : Nat) (h : s.pclkStopped = true) : (s.advance d).pclk = s.pclk := by
  have hadv : (s.advance d).pclkStopped = true := by rw [State.pclkStopped_congr (s.advance_regs d), h]
  rw [State.pclk_stopped hadv, State.pclk_stopped h, State.advance_pclkBase]

/-- 65,536 PCLK cycles in ticks, of CCLK / 8 at the PLL settings of reset or of the IRO (R32, R430). -/
theorem State.pclkT_timeout {s : State} (hn : fget s.clk.coreCfg 23 16 = 85) (hm : fget s.clk.coreCfg 11 8 = 4) :
    s.pclkT 65536 = if s.clkState = 0 then 6168095 else 25600000 := by
  have hN : s.coreN = 85 := by rw [State.coreN, hn]; rfl
  have hM : s.coreM = 4 := by rw [State.coreM, hm]; rfl
  unfold State.pclkT State.cclkUp State.clkState
  simp only [hN, hM, beq_iff_eq]

/-! Whom the end of an access is told. -/

/-- A message makes its accesses as the NCP, so no other master's is one. -/
theorem isJobAccess_of_ne_ncp {a : Access} (s : State) (h : a.master ≠ .ncp) : isJobAccess a s = false := by
  unfold isJobAccess
  split
  · rfl
  · simp [h]

/-- Outside a message no access is a message's. -/
theorem isJobAccess_of_no_job (a : Access) {s : State} (h : s.ncpJob = none) : isJobAccess a s = false := by
  simp [isJobAccess, h]

/-- The end of an access that neither a message nor a core nor MI2C made is the answer itself. -/
theorem deliver_answered {a : Access} {s : State} (v : Word) (st : AccSt) (hjob : isJobAccess a s = false)
    (hcore : ∀ k, coreMaster k ≠ a.master) (hmi2c : a.master ≠ .mi2c) :
    deliver a v st s = answered a.master a.addr a.write (if a.write then 0 else v) st s := by
  have hnone : (List.range 17).find? (fun k => coreMaster k == a.master && (a.write || decide (0x100 ≤ a.data.toNat))) = none := by
    simp [hcore]
  unfold deliver
  simp only [hjob, hnone, beq_iff_eq, hmi2c, if_false]
  simp [answered]

/-- Every core enters the fabric as a lane core or as the pair. -/
theorem coreMaster_ne {k : Nat} {m : Master} (hpair : m ≠ .pair) (hlane : ∀ j, m ≠ .core j) : coreMaster k ≠ m := by
  unfold coreMaster
  split
  · exact hpair.symm
  · exact (hlane _).symm

/-- Over JTAG, and over the NCP outside a message, the end of an access is the answer itself. -/
theorem deliver_jtag_or_ncp {a : Access} {s : State} (v : Word) (st : AccSt)
    (h : a.master = .jtag ∨ (a.master = .ncp ∧ s.ncpJob = none)) :
    deliver a v st s = answered a.master a.addr a.write (if a.write then 0 else v) st s := by
  rcases h with hjtag | ⟨hncp, hjob⟩
  · exact deliver_answered v st (isJobAccess_of_ne_ncp s (by simp [hjtag]))
      (fun _ => coreMaster_ne (by simp [hjtag]) (by simp [hjtag])) (by simp [hjtag])
  · exact deliver_answered v st (isJobAccess_of_no_job a hjob)
      (fun _ => coreMaster_ne (by simp [hncp]) (by simp [hncp])) (by simp [hncp])

/-- The time-out of the oldest access that waits: the time passes, the access leaves, the event is raised and its master
is told (R38). -/
theorem accessTimeout_oldest {s : State} {a : Access} {rest : List Access} (hwait : s.waiting = a :: rest)
    (hclk : s.pclkStopped = false) (hrst : s.inReset = false) :
    accessTimeout s = deliver a 0 .timeout
      (({ s.advance (s.pclkT (a.enter + 65536 - s.pclk)) with waiting := rest }).raiseA 0x429
        ⟨Master.id a.master, if a.write then 2 else 1, a.addr⟩) := by
  unfold accessTimeout
  simp [hwait, hclk, hrst]

/-- Settles O13: the oldest access leaves the fabric with the event; raising it starts no message, so a master that was
outside one still is when it is told. -/
theorem accessTimeoutEnds : Obligations.AccessTimeoutEnds := by
  unfold Obligations.AccessTimeoutEnds
  refine ⟨?_, fun s _ hn hm => State.pclkT_timeout hn hm, fun s d h => State.pclk_advance_stopped d h⟩
  intro s a rest hwait hclk hrst x
  constructor
  · rw [exec_run (i := .accessTimeout) accessTimeout rfl, accessTimeout_oldest (s := s.fresh) hwait hclk hrst]
    rfl
  · intro hmaster
    have hjob : x.ncpJob = s.ncpJob := by
      calc x.ncpJob = (s.fresh.advance (s.pclkT (a.enter + 65536 - s.pclk))).ncpJob := State.raiseA_ncpJob _ _ _
        _ = s.ncpJob := State.advance_ncpJob _ _
    rw [deliver_jtag_or_ncp 0 .timeout (hjob ▸ hmaster), ite_self]

end Sys2Proof.Machine
end

section
/-! The inner code's syndrome: it is linear in the word, the check bits enter it as they stand, and an inverted bit adds
its column (R228, R231). -/

namespace Sys2Proof.Machine

/-- The XOR of the columns of the set bits, the columns belonging to the bits from position `k` up. -/
def columnXor (w : BitVec 136) : Nat → List Nat → Nat
  | _, [] => 0
  | k, c :: cs => (if w.getLsbD k then c else 0) ^^^ columnXor w (k + 1) cs

theorem foldl_columns_eq (w : BitVec 136) (cs : List Nat) (k a : Nat) :
    (cs.zipIdx k).foldl (fun a c => if w.getLsbD c.2 then a ^^^ c.1 else a) a = a ^^^ columnXor w k cs := by
  induction cs generalizing k a with
  | nil => simp [columnXor]
  | cons c cs ih =>
    rw [List.zipIdx_cons, List.foldl_cons, ih, columnXor, ← Nat.xor_assoc]
    split <;> simp

theorem innerSyn_eq_columnXor (w : BitVec 136) : innerSyn w = columnXor w 0 innerCols := by
  rw [innerSyn, foldl_columns_eq, Nat.zero_xor]

theorem columnXor_append (w : BitVec 136) (k : Nat) (cs ds : List Nat) :
    columnXor w k (cs ++ ds) = columnXor w k cs ^^^ columnXor w (k + cs.length) ds := by
  induction cs generalizing k with
  | nil => simp [columnXor]
  | cons c cs ih =>
    rw [List.cons_append, columnXor, columnXor, ih, Nat.xor_assoc, List.length_cons, Nat.add_right_comm, Nat.add_assoc]

theorem columnXor_xor (v w : BitVec 136) (k : Nat) (cs : List Nat) :
    columnXor (v ^^^ w) k cs = columnXor v k cs ^^^ columnXor w k cs := by
  induction cs generalizing k with
  | nil => simp [columnXor]
  | cons c cs ih =>
    have hhead : (if (v ^^^ w).getLsbD k then c else 0) =
        (if v.getLsbD k then c else 0) ^^^ (if w.getLsbD k then c else 0) := by
      cases hv : v.getLsbD k <;> cases hw : w.getLsbD k <;> simp [hv, hw]
    rw [columnXor, columnXor, columnXor, ih, hhead]
    ac_rfl

/-- Bits outside the columns' positions add nothing. -/
theorem columnXor_eq_zero {w : BitVec 136} {k : Nat} {cs : List Nat}
    (h : ∀ j, k ≤ j → j < k + cs.length → w.getLsbD j = false) : columnXor w k cs = 0 := by
  induction cs generalizing k with
  | nil => rfl
  | cons c cs ih =>
    rw [List.length_cons] at h
    have htail : columnXor w (k + 1) cs = 0 := ih fun j hk hj => h j (by omega) (by omega)
    simp [columnXor, htail, h k (by omega) (by omega)]

theorem columnXor_lt {n : Nat} (w : BitVec 136) (k : Nat) {cs : List Nat} (h : ∀ c ∈ cs, c < 2 ^ n) :
    columnXor w k cs < 2 ^ n := by
  induction cs generalizing k with
  | nil => exact Nat.two_pow_pos n
  | cons c cs ih =>
    obtain ⟨hc, hcs⟩ := List.forall_mem_cons.mp h
    refine Nat.xor_lt_two_pow ?_ (ih (k + 1) hcs)
    split
    · exact hc
    · exact Nat.two_pow_pos n

/-- A word with one set bit picks out that bit's column. -/
theorem columnXor_twoPow {k i : Nat} {cs : List Nat} (hi : i < cs.length) (hw : k + i < 136) :
    columnXor (BitVec.twoPow 136 (k + i)) k cs = cs[i] := by
  induction cs generalizing k i with
  | nil => simp at hi
  | cons c cs ih =>
    cases i with
    | zero =>
      have htail : columnXor (BitVec.twoPow 136 k) (k + 1) cs = 0 := columnXor_eq_zero fun j hk _ => by
        simp [BitVec.getLsbD_twoPow]; omega
      have hbit : (BitVec.twoPow 136 k).getLsbD k = true := by simpa [BitVec.getLsbD_twoPow] using hw
      simp [columnXor, htail, hbit]
    | succ i =>
      have htail := ih (k := k + 1) (i := i) (by simpa using hi) (by omega)
      rw [Nat.add_right_comm, Nat.add_assoc] at htail
      have hbit : (BitVec.twoPow 136 (k + (i + 1))).getLsbD k = false := by simp [BitVec.getLsbD_twoPow]
      simp [columnXor, htail, hbit]

/-- Columns that are the powers of two read their bits out as a number. -/
theorem columnXor_powers (w : BitVec 136) (k m : Nat) :
    columnXor w k ((List.range m).map (2 ^ ·)) = w.toNat / 2 ^ k % 2 ^ m := by
  induction m with
  | zero => simp [columnXor, Nat.mod_one]
  | succ m ih =>
    have hbit : (w.toNat / 2 ^ k).testBit m = w.getLsbD (k + m) := by
      rw [Nat.testBit_div_two_pow, Nat.add_comm m k, BitVec.getLsbD]
    rw [List.range_succ, List.map_append, columnXor_append, ih, List.length_map, List.length_range]
    refine Nat.eq_of_testBit_eq fun j => ?_
    have hlast : (columnXor w (k + m) [2 ^ m]).testBit j = (decide (m = j) && w.getLsbD (k + m)) := by
      cases h : w.getLsbD (k + m) <;> simp [columnXor, h, Nat.testBit_two_pow]
    rw [Nat.testBit_xor, Nat.testBit_mod_two_pow, Nat.testBit_mod_two_pow, List.map_singleton, hlast]
    rcases lt_trichotomy j m with hlt | rfl | hgt
    · simp [hlt, hlt.ne', Nat.lt_succ_of_lt hlt]
    · simp [hbit]
    · simp [hgt.ne, hgt.not_gt, (Nat.succ_le_of_lt hgt).not_gt]

/-! The table of R228. -/

theorem dataCols_length : dataCols.length = 128 := by decide +kernel

theorem innerCols_length : innerCols.length = 136 := by simp [innerCols, dataCols_length]

theorem innerCols_lt : ∀ c ∈ innerCols, c < 2 ^ 8 := by decide +kernel

theorem innerCols_ne_zero : ∀ c ∈ innerCols, c ≠ 0 := by decide +kernel

theorem innerCols_nodup : innerCols.Nodup := by decide +kernel

/-! The syndrome. -/

theorem innerSyn_xor (v w : BitVec 136) : innerSyn (v ^^^ w) = innerSyn v ^^^ innerSyn w := by
  simp only [innerSyn_eq_columnXor, columnXor_xor]

theorem innerSyn_lt (w : BitVec 136) : innerSyn w < 2 ^ 8 :=
  innerSyn_eq_columnXor w ▸ columnXor_lt w 0 innerCols_lt

/-- Any single error has a syndrome equal to its column (R228). -/
theorem innerSyn_bit {i : Nat} (hi : i < 136) :
    innerSyn (BitVec.ofNat 136 (2 ^ i)) = innerCols[i]'(innerCols_length ▸ hi) := by
  have hword : BitVec.ofNat 136 (2 ^ i) = BitVec.twoPow 136 (0 + i) :=
    BitVec.eq_of_toNat_eq (by rw [BitVec.toNat_ofNat, BitVec.toNat_twoPow, Nat.zero_add])
  rw [innerSyn_eq_columnXor, hword, columnXor_twoPow (innerCols_length ▸ hi) (by omega)]

/-- The syndrome is that of the data bits and the check bits as they stand. -/
theorem innerSyn_eq_data_xor_check (w : BitVec 136) :
    innerSyn w = columnXor w 0 dataCols ^^^ w.toNat / 2 ^ 128 % 2 ^ 8 := by
  rw [innerSyn_eq_columnXor, innerCols, columnXor_append, dataCols_length, columnXor_powers]

theorem innerSyn_checkBits {p : Nat} (hp : p < 2 ^ 8) : innerSyn (BitVec.ofNat 136 p <<< 128) = p := by
  have hdata : columnXor (BitVec.ofNat 136 p <<< 128) 0 dataCols = 0 := columnXor_eq_zero fun j _ hj => by
    rw [dataCols_length] at hj
    rw [BitVec.getLsbD_shiftLeft, decide_eq_true (by omega : j < 128)]
    simp
  have hcheck : (BitVec.ofNat 136 p <<< 128).toNat / 2 ^ 128 % 2 ^ 8 = p := by
    rw [BitVec.toNat_shiftLeft, BitVec.toNat_ofNat, Nat.shiftLeft_eq]
    omega
  rw [innerSyn_eq_data_xor_check, hdata, hcheck, Nat.zero_xor]

/-! The encoder. -/

/-- The check bits stand beside the data bits, so they may as well be added to them. -/
theorem innerEncode_eq_xor (d : BitVec 128) :
    innerEncode d = d.zeroExtend 136 ^^^ (BitVec.ofNat 136 (innerSyn (d.zeroExtend 136)) <<< 128) := by
  refine BitVec.eq_of_getLsbD_eq fun j _ => ?_
  rw [innerEncode, BitVec.getLsbD_or, BitVec.getLsbD_xor, BitVec.getLsbD_shiftLeft, BitVec.getLsbD_setWidth]
  by_cases hj : j < 128
  · simp [hj]
  · simp [BitVec.getLsbD_of_ge d j (by omega)]

theorem innerEncode_truncate (d : BitVec 128) : (innerEncode d).truncate 128 = d := by
  refine BitVec.eq_of_getLsbD_eq fun j hj => ?_
  simp [innerEncode, hj]

theorem innerSyn_innerEncode (d : BitVec 128) : innerSyn (innerEncode d) = 0 := by
  rw [innerEncode_eq_xor, innerSyn_xor, innerSyn_checkBits (innerSyn_lt _), Nat.xor_self]

theorem innerSyn_flip_innerEncode (d : BitVec 128) {i : Nat} (hi : i < 136) :
    innerSyn (innerEncode d ^^^ BitVec.ofNat 136 (2 ^ i)) = innerCols[i]'(innerCols_length ▸ hi) := by
  rw [innerSyn_xor, innerSyn_innerEncode, innerSyn_bit hi, Nat.zero_xor]

/-! The decoder with INNER_L = 0, and the alignment test. -/

/-- No two bits share a column, so a column names its bit. -/
theorem colOf_column {i : Nat} (hi : i < innerCols.length) : colOf innerCols[i] = some i := by
  have hfind : colOf innerCols[i] = innerCols.findIdx? (· == innerCols[i]) := by
    rw [List.findIdx?_eq_fst_find?_zipIdx]; rfl
  rw [hfind, List.findIdx?_eq_some_iff_getElem]
  refine ⟨hi, by simp, fun j hj => ?_⟩
  simpa [innerCols_nodup.getElem_inj_iff] using hj.ne

theorem innerDecode_of_syn_zero {w : BitVec 136} (rel : List Nat) (h : innerSyn w = 0) :
    innerDecode 0 ⟨w, rel⟩ = some [] := by
  simp [innerDecode, h]

theorem innerDecode_of_syn_column {w : BitVec 136} (rel : List Nat) {i : Nat} (hi : i < innerCols.length)
    (h : innerSyn w = innerCols[i]) : innerDecode 0 ⟨w, rel⟩ = some [i] := by
  have hne : innerCols[i] ≠ 0 := innerCols_ne_zero _ (List.getElem_mem hi)
  simp [innerDecode, h, hne, colOf_column hi]

theorem innerFails_of_syn_column {w : BitVec 136} {i : Nat} (hi : i < innerCols.length)
    (h : innerSyn w = innerCols[i]) : innerFails w = false := by
  simp [innerFails, h, colOf_column hi]

/-- Settles O29: the check bits cancel the data's syndrome, so the syndrome of a word with one bit inverted is that bit's
column, which names it. -/
theorem innerCodeCorrects : Obligations.InnerCodeCorrects := by
  unfold Obligations.InnerCodeCorrects
  intro d rel
  refine ⟨innerEncode_truncate d, innerSyn_innerEncode d, innerDecode_of_syn_zero rel (innerSyn_innerEncode d), ?_⟩
  intro i hi
  have hsyn := innerSyn_flip_innerEncode d hi
  exact ⟨innerDecode_of_syn_column rel _ hsyn, innerFails_of_syn_column _ hsyn⟩

end Sys2Proof.Machine
end

section
/-! What every command does around its own effect: it runs to a next state, takes one command off the queue, and leaves
every map in canonical form (spec/95_what_each_step_holds.md). -/

namespace Sys2Proof.Machine

/-! Canonical forms. -/

/-- Putting a list of entries into a map with rising keys leaves the keys rising. -/
theorem foldl_put_rising {α β : Type} [DecidableEq α] (d : Nat × β → α) (v : Nat × β → α) (m : List (Nat × β))
    {t : List (Nat × α)} (ht : Rising 0 t) : Rising 0 (m.foldl (fun t x => put (d x) t x.1 (v x)) t) := by
  induction m generalizing t with
  | nil => exact ht
  | cons x m ih => exact ih (put_rising (d x) (v x) ht (Nat.zero_le x.1))

/-- Putting bytes into a canonical memory leaves it canonical. -/
theorem foldl_put_wf (m : List Host.Cell) {t : List Host.Cell} (ht : Memory.wf t = true) :
    Memory.wf (m.foldl (fun t x => put 0 t x.1 x.2) t) = true := by
  induction m generalizing t with
  | nil => exact ht
  | cons x m ih => exact ih (Memory.put_wf x.1 x.2 ht)

/-- Entering a key keeps the keys rising. -/
theorem enter_rising {α : Type} {lo i : Nat} {m : List (Nat × α)} (v : α) (h : Rising lo m) (hi : lo ≤ i) :
    Rising lo (enter m i v) := by
  induction m generalizing lo with
  | nil => exact ⟨hi, trivial⟩
  | cons x m ih =>
    obtain ⟨hx, hm⟩ := h
    simp only [enter]
    split
    · exact ⟨hi, by omega, hm⟩
    · split
      · exact ⟨hx, hm⟩
      · exact ⟨hx, ih hm (by omega)⟩

theorem foldl_enter_rising {α : Type} (m : List (Nat × α)) {t : List (Nat × α)} (ht : Rising 0 t) :
    Rising 0 (m.foldl (fun t x => enter t x.1 x.2) t) := by
  induction m generalizing t with
  | nil => exact ht
  | cons x m ih => exact ih (enter_rising x.2 ht (Nat.zero_le x.1))

theorem Memory.canon_wf (m : List Host.Cell) : Memory.wf (Memory.canon m) = true := by
  unfold Memory.canon
  split
  · assumption
  · exact foldl_put_wf m rfl

theorem Regs.canon_rises (m : List (Nat × Word)) : risesFrom 0 (Regs.canon m) = true := by
  unfold Regs.canon
  split
  · assumption
  · exact (risesFrom_iff 0 _).mpr (foldl_put_rising (fun x => resetWord x.1) Prod.snd m trivial)

theorem Flash.canon_rises (m : List (Nat × Byte)) : risesFrom 0 (Flash.canon m) = true := by
  unfold Flash.canon
  split
  · assumption
  · exact (risesFrom_iff 0 _).mpr (foldl_put_rising (fun _ => 0xFF) Prod.snd m trivial)

theorem keyed_rises {α : Type} (m : List (Nat × α)) : risesFrom 0 (keyed m) = true := by
  unfold keyed
  split
  · assumption
  · exact (risesFrom_iff 0 _).mpr (foldl_enter_rising m trivial)

/-- What holds of every entry of a map and of the value put holds of every entry after the put. -/
theorem forall_mem_put {α : Type} [DecidableEq α] {p : Nat × α → Prop} (d : α) {m : List (Nat × α)} {i : Nat} {v : α}
    (hm : ∀ x ∈ m, p x) (hv : p (i, v)) : ∀ x ∈ put d m i v, p x := by
  induction m with
  | nil =>
    simp only [put]
    split
    · simp
    · simpa using hv
  | cons y m ih =>
    obtain ⟨hy, hm⟩ := List.forall_mem_cons.mp hm
    simp only [put]
    split
    · split
      · exact List.forall_mem_cons.mpr ⟨hy, hm⟩
      · exact List.forall_mem_cons.mpr ⟨hv, List.forall_mem_cons.mpr ⟨hy, hm⟩⟩
    · split
      · split
        · exact hm
        · exact List.forall_mem_cons.mpr ⟨hv, hm⟩
      · exact List.forall_mem_cons.mpr ⟨hy, ih hm⟩

/-- The registers of a core are listed by rising numbers. -/
def CoreFormed (x : Nat × CoreSt) : Prop := (risesFrom 0 x.2.g && risesFrom 0 x.2.csr) = true

theorem foldl_put_coreFormed {f : Nat × CoreSt → CoreSt} (hf : ∀ x, CoreFormed (x.1, f x)) (m : List (Nat × CoreSt))
    {t : List (Nat × CoreSt)} (ht : ∀ x ∈ t, CoreFormed x) :
    ∀ x ∈ m.foldl (fun t x => put CoreSt.reset t x.1 (f x)) t, CoreFormed x := by
  induction m generalizing t with
  | nil => exact ht
  | cons x m ih => exact ih (forall_mem_put CoreSt.reset ht (hf x))

theorem Cores.canon_formed (m : List (Nat × CoreSt)) : Cores.formed (Cores.canon m) = true := by
  unfold Cores.canon
  simp only []
  split
  · assumption
  · have hwords (l : List (Nat × Word)) : risesFrom 0 (l.foldl (fun t x => put 0 t x.1 x.2) []) = true :=
      (risesFrom_iff 0 _).mpr (foldl_put_rising (fun _ => 0) Prod.snd l trivial)
    unfold Cores.formed
    rw [Bool.and_eq_true, List.all_eq_true]
    constructor
    · exact (risesFrom_iff 0 _).mpr (foldl_put_rising (fun _ => CoreSt.reset) _ m trivial)
    · exact foldl_put_coreFormed (fun x => by rw [CoreFormed, hwords, hwords]; rfl) m (by simp)

theorem State.tidy_tidied (s : State) : s.tidy.tidied = true := by
  simp [State.tidied, State.tidy, ClkSt.tidy, keyed_rises]

/-! The end of a command. -/

/-- Whatever a command's effect leaves, its end has the invariant's form when the waiting commands are well formed. -/
theorem closed_inv {p : List Instr} (s : State) (hp : ∀ c ∈ p, c.wf = true) : Inv (closed p s) := by
  refine ⟨Memory.canon_wf _, Regs.canon_rises _, Regs.canon_rises _, Cores.canon_formed _, Flash.canon_rises _, ?_, hp⟩
  exact State.tidy_tidied _

/-- Every command is the run of its effect. -/
theorem exec_eq_run (i : Instr) (s : State) : ∃ f, exec i s = run f s := by
  cases i <;> exact ⟨_, rfl⟩

/-- So it answers the closed state of an effect. -/
theorem exec_eq_closed (i : Instr) (s : State) : ∃ u, exec i s = .next (closed s.pending u) := by
  obtain ⟨f, hf⟩ := exec_eq_run i s
  exact ⟨_, hf⟩

/-- A step of a part with a command waiting. -/
theorem step_cons {s : State} {c : Instr} {rest : List Instr} (h : s.pending = c :: rest) :
    step s = exec c { s with pending := rest } := by
  unfold step
  rw [h]

/-- A step of a part with no command waiting. -/
theorem step_nil {s : State} (h : s.pending = []) : step s = .next (s.advance 250) := by
  unfold step
  rw [h]

/-- What a step answers: 250 ticks later, or the front command's effect closed with the rest of the queue. -/
theorem step_cases (s : State) :
    (s.pending = [] ∧ step s = .next (s.advance 250)) ∨
    ∃ c rest u, s.pending = c :: rest ∧ step s = .next (closed rest u) := by
  cases h : s.pending with
  | nil => exact .inl ⟨rfl, step_nil h⟩
  | cons c rest =>
    obtain ⟨u, hu⟩ := exec_eq_closed c { s with pending := rest }
    exact .inr ⟨c, rest, u, rfl, by rw [step_cons h, hu]⟩

/-- The passing of time keeps the invariant: it writes no map. -/
theorem State.advance_inv {s : State} (d : Nat) (h : Inv s) : Inv (s.advance d) := by
  obtain ⟨n, t, hadv⟩ := s.advance_eq_now_tl d
  rw [hadv]
  exact h

/-- Settles O4: the end of a command puts every map into canonical form, and the queue it leaves is part of the old one. -/
theorem stepKeepsForm : Obligations.StepKeepsForm := by
  unfold Obligations.StepKeepsForm
  intro s t hinv hstep
  obtain ⟨-, hidle⟩ | ⟨c, rest, u, hpend, hcmd⟩ := step_cases s
  · obtain rfl : s.advance 250 = t := by simpa [hidle] using hstep
    exact State.advance_inv 250 hinv
  · obtain rfl : closed rest u = t := by simpa [hcmd] using hstep
    obtain ⟨-, -, -, -, -, -, hwf⟩ := hinv
    exact closed_inv u fun i hi => hwf i (by simp [hpend, hi])

/-- Settles O5: every command is the run of an effect, and a run answers a next state. -/
theorem noCommandStops : Obligations.NoCommandStops := by
  unfold Obligations.NoCommandStops
  refine ⟨fun i s => ?_, fun s => ?_⟩
  · obtain ⟨u, hu⟩ := exec_eq_closed i s
    exact ⟨_, hu⟩
  · obtain ⟨-, hidle⟩ | ⟨c, rest, u, -, hcmd⟩ := step_cases s
    · exact ⟨_, hidle⟩
    · exact ⟨_, hcmd⟩

/-- Settles O6: the end of a command restores the queue that the step handed it. -/
theorem stepTakesOneCommand : Obligations.StepTakesOneCommand := by
  unfold Obligations.StepTakesOneCommand
  intro s t c rest hpend hstep
  obtain ⟨hnil, -⟩ | ⟨c', rest', u, hpend', hcmd⟩ := step_cases s
  · simp [hnil] at hpend
  · obtain ⟨rfl, rfl⟩ : c' = c ∧ rest' = rest := by simpa [hpend'] using hpend
    obtain rfl : closed rest' u = t := by simpa [hcmd] using hstep
    exact closed_pending rest' u

/-- A map that is canonical is its own canonical form. -/
theorem keyed_of_rises {α : Type} {m : List (Nat × α)} (h : risesFrom 0 m = true) : keyed m = m := if_pos h

theorem State.tidy_of_tidied {s : State} (h : s.tidied = true) : s.tidy = s := by
  simp only [State.tidied, Bool.and_eq_true, and_assoc] at h
  simp [State.tidy, ClkSt.tidy, keyed_of_rises, h]

/-- Settles O7: nothing is left to settle, and every canonical map is its own canonical form. -/
theorem quietEnd : Obligations.QuietEnd := by
  unfold Obligations.QuietEnd
  intro i s u hexec hquiet hmem hregs hshadow hcores hflash htidy htags
  rw [hexec]
  unfold closed
  simp only [settle_quiet u hquiet, htags, State.tidy_of_tidied htidy, Memory.canon, Regs.canon, Cores.canon, Flash.canon,
    hmem, hregs, hshadow, hcores, hflash, if_true]

/-- Settles O1: the step of a queue with a front is its execution. -/
theorem stepTakesFront : Obligations.StepTakesFront := by
  unfold Obligations.StepTakesFront
  intro c rest s
  exact step_cons (s := { s with pending := c :: rest }) rfl

@[simp] theorem State.advance_mem (s : State) (d : Nat) : (s.advance d).mem = s.mem := by
  obtain ⟨_, _, h⟩ := s.advance_eq_now_tl d
  rw [h]

@[simp] theorem State.advance_now (s : State) (d : Nat) : (s.advance d).now = s.now + d := by
  unfold State.advance
  simp only []
  split
  · rfl
  · split <;> rfl

/-- Settles O2: the passing of time writes true time and the timeline alone. -/
theorem stepIdles : Obligations.StepIdles := by
  unfold Obligations.StepIdles
  intro s hnil
  exact ⟨step_nil hnil, State.advance_now s 250, State.advance_regs s 250, State.advance_mem s 250⟩

/-- Settles O3: no map lists anything at reset, and no command waits. -/
theorem resetHoldsForm : Obligations.ResetHoldsForm := by
  unfold Obligations.ResetHoldsForm
  exact ⟨rfl, rfl, rfl, rfl, rfl, rfl, by simp [State.reset]⟩

end Sys2Proof.Machine
end

section
/-! Register accesses: what a write does to a field of each access code, and what the fabric does with a served write of a
register that is stored in the plain way (R19, R22). -/

namespace Sys2Proof.Machine

/-- Writing a field's own bits of another word takes that word's bits at the field and keeps those beside it. -/
theorem fset_fget_getLsbD (w a : Word) {hi lo : Nat} (i : Nat) (hlo : lo ≤ hi) (hhi : hi < 32) :
    (fset a hi lo (fget w hi lo)).getLsbD i = if lo ≤ i ∧ i ≤ hi then w.getLsbD i else a.getLsbD i := by
  rw [fset_getLsbD, fget_testBit]
  by_cases h : lo ≤ i ∧ i ≤ hi
  · rw [if_pos h, if_pos (by omega), decide_eq_true (by omega : i < 32), decide_eq_true (by omega : i - lo < hi + 1 - lo),
      Nat.add_sub_cancel' h.1, Bool.true_and, Bool.true_and]
  · rw [if_neg h, if_neg (by omega)]

/-- Settles O8: each access code stores the field's bits of a word of its own, or nothing. -/
theorem accessCodes : Obligations.AccessCodes := by
  unfold Obligations.AccessCodes
  intro f w a locked i hlo hhi
  have hbits (x : Word) := fset_fget_getLsbD x a i hlo hhi
  have hlt (h : f.lo ≤ i ∧ i ≤ f.hi) : i < 32 := by omega
  unfold fldWrite
  cases f.acc with
  | ro | rc | wo | st => simp
  | rw | rwlk => cases locked <;> simp [hbits]
  | w1c | w1s =>
    simp only [hbits]
    split
    · next h => simp [hlt h]
    · rfl

/-- Settles O10: a served write of a plain register is its stored word, the block's hook and the answer. -/
theorem registerWriteStores : Obligations.RegisterWriteStores := by
  unfold Obligations.RegisterWriteStores
  intro m addr w s b off key hserved hplace hgate hreg hown hkey hst p u
  have hwrite := served_hook (s := s.fresh) hserved hplace hgate hreg hown hkey hst
  rw [exec_run (i := .registerWrite m addr w) (writeCmd m addr.toNat w) rfl, hwrite]
  rfl

end Sys2Proof.Machine
end

section
/-! Raising an event: which registers and which other parts of the state it writes (R49, R494 to R499), and the clamp of a
domain that is not ON (R445). -/

namespace Sys2Proof.Machine

/-! Register writes within a set of keys. -/

/-- From `s` to `t` no register outside the keys `K` changed, and the register map stayed canonical. -/
def Touches (K : Nat → Prop) (s t : State) : Prop :=
  Rising 0 s.regs → Rising 0 t.regs ∧ ∀ k, ¬ K k → t.getReg k = s.getReg k

theorem Touches.of_regs {K : Nat → Prop} {s t : State} (h : t.regs = s.regs) : Touches K s t := by
  intro hr
  refine ⟨h ▸ hr, fun k _ => ?_⟩
  rw [State.getReg, State.getReg, h]

theorem Touches.refl (K : Nat → Prop) (s : State) : Touches K s s := Touches.of_regs rfl

theorem Touches.trans {K : Nat → Prop} {s t u : State} (h : Touches K s t) (h' : Touches K t u) : Touches K s u := by
  intro hr
  obtain ⟨hrt, hst⟩ := h hr
  obtain ⟨hru, htu⟩ := h' hrt
  exact ⟨hru, fun k hk => (htu k hk).trans (hst k hk)⟩

theorem Touches.mono {K L : Nat → Prop} {s t : State} (h : Touches K s t) (hKL : ∀ k, K k → L k) : Touches L s t :=
  fun hr => ⟨(h hr).1, fun k hk => (h hr).2 k (fun hK => hk (hKL k hK))⟩

theorem Touches.setReg {K : Nat → Prop} {s t : State} (h : Touches K s t) {k : Nat} (w : Word) (hk : K k) :
    Touches K s (t.setReg k w) :=
  h.trans fun hr => ⟨State.setReg_rising t k w hr, fun _ hj => State.getReg_setReg_ne t w hr fun e => hj (e ▸ hk)⟩

theorem Touches.wr {K : Nat → Prop} {s t : State} (h : Touches K s t) {b : Nat} {f : Fld} (v : Nat) (hk : K (b + f.off)) :
    Touches K s (t.wr b f v) := h.setReg _ hk

theorem Touches.cnt {K : Nat → Prop} {s t : State} (h : Touches K s t) {b : Nat} {f : Fld} (n : Nat) (hk : K (b + f.off)) :
    Touches K s (t.cnt b f n) := h.wr _ hk

/-! The keys of the fault collector and of EVT.STAT. -/

/-- The registers of the fault collector's window, of its sources and of its records. -/
def FltKey (k : Nat) : Prop := (0x00070000 ≤ k ∧ k < 0x00080000) ∨ (objKey 7 0 ≤ k ∧ k < objKey 9 0)

/-- A word of EVT.STAT. -/
def EvtKey (k : Nat) : Prop := 0x000B0000 ≤ k ∧ k < 0x000B0090

theorem fltKey_window {k : Nat} (h : k < 0x10000) : FltKey (fltB + k) := .inl (by unfold fltB; omega)

theorem fltKey_src {id off : Nat} (hid : id < 1152) (hoff : off < 0x100000) : FltKey ((Obj.src id).base + off) :=
  .inr (by simp only [Obj.base, objKey]; omega)

theorem fltKey_rec {i off : Nat} (hi : i < 8) (hoff : off < 0x100000) : FltKey ((Obj.errRec i).base + off) :=
  .inr (by simp only [Obj.base, objKey]; omega)

theorem not_fltKey_evt (j : Nat) (hj : j < 36) : ¬ FltKey (0x000B0000 + 4 * j) := by
  unfold FltKey objKey; omega

/-- A field's class is one of four. -/
theorem fget_lt (w : Word) (hi lo : Nat) : fget w hi lo < 2 ^ (hi + 1 - lo) := Nat.mod_lt _ (Nat.two_pow_pos _)

/-! What each part of a raise writes. -/

/-- The bit of EVT.STAT that event `id` sets in the word at a key. -/
def evBit (id k : Nat) : Word := if k = 0x000B0000 + 4 * (id / 32) then BitVec.ofNat 32 (2 ^ (id % 32)) else 0

theorem State.noteRaise_touches {id : Nat} (s : State) (hid : id < 1152) :
    Touches FltKey (s.setReg (evtB + 4 * (id / 32)) (s.getReg (evtB + 4 * (id / 32)) ||| BitVec.ofNat 32 (2 ^ (id % 32))))
      (s.noteRaise id) := by
  unfold State.noteRaise
  have hcls (t : State) : fltB + 4 * t.rd (Obj.src id).base R.FLT_SRC_CFG_CLASS + R.FLT_CNT_CLASS_COUNT.off =
      fltB + (4 * t.rd (Obj.src id).base R.FLT_SRC_CFG_CLASS + R.FLT_CNT_CLASS_COUNT.off) := Nat.add_assoc _ _ _
  refine Touches.wr (Touches.cnt (Touches.cnt (Touches.refl _ _) _ (fltKey_src hid (by decide))) _ ?_) _
    (fltKey_window (by decide))
  rw [hcls]
  refine fltKey_window ?_
  have hlt := fget_lt ((((s.setReg (evtB + 4 * (id / 32)) (s.getReg (evtB + 4 * (id / 32)) ||| BitVec.ofNat 32 (2 ^ (id % 32)))).cnt
    (Obj.src id).base R.FLT_SRC_CFG_TROUBLE 1)).getReg ((Obj.src id).base + R.FLT_SRC_CFG_CLASS.off)) 6 5
  simp only [State.rd, R.FLT_SRC_CFG_CLASS, R.FLT_CNT_CLASS_COUNT] at hlt ⊢
  omega

/-- Outside the fault collector, noting a raise sets the event's bit of EVT.STAT. -/
theorem State.getReg_noteRaise {id k : Nat} {s : State} (hr : Rising 0 s.regs) (hid : id < 1152) (hk : ¬ FltKey k) :
    Rising 0 (s.noteRaise id).regs ∧ (s.noteRaise id).getReg k = s.getReg k ||| evBit id k := by
  obtain ⟨hrise, hget⟩ := s.noteRaise_touches hid (s.setReg_rising _ _ hr)
  refine ⟨hrise, (hget k hk).trans ?_⟩
  unfold evBit
  split
  · next h => subst h; exact s.getReg_setReg_same _ _ hr
  · next h => exact (s.getReg_setReg_ne _ hr h).trans BitVec.or_zero.symm

theorem State.putRec_touches {i : Nat} (s : State) (id : Nat) (cfg : Word) (acc : EvAcc) (hi : i < 8) :
    Touches FltKey s (s.putRec i id cfg acc) := by
  have hrec {off : Nat} (hoff : off < 0x100000) : FltKey ((Obj.errRec i).base + off) := fltKey_rec hi hoff
  unfold State.putRec
  iterate 12 refine Touches.wr ?_ _ ?_
  · exact Touches.refl _ _
  all_goals first | exact hrec (by decide) | exact fltKey_window (by decide)

theorem State.pinReact_touches (s : State) (id : Nat) : Touches FltKey s (s.pinReact id) := by
  unfold State.pinReact
  split
  · exact (Touches.refl _ _).wr _ (fltKey_window (by decide))
  · exact Touches.refl _ _

theorem State.queueRaise_touches (s : State) (id recIdx : Nat) : Touches FltKey s (s.queueRaise id recIdx) :=
  Touches.of_regs rfl

/-- A free record is one of eight. -/
theorem State.freeRec_lt {s : State} {i : Nat} (h : s.freeRec = some i) : i < 8 :=
  List.mem_range.mp (List.mem_of_find?_eq_some h)

/-- What a raise of `id` does to the registers outside the fault collector, and to the raises that wait: where its record
was lost, EV_FLT_REC_FULL may be raised first. -/
structure RaiseDone (id : Nat) (s t : State) : Prop where
  rising : Rising 0 t.regs
  regs : ∃ lost : Bool, (∀ k, ¬ FltKey k → t.getReg k = s.getReg k ||| (if lost then evBit 0x41D k else 0) ||| evBit id k) ∧
    ∃ l r, t.raised = s.raised ++ l ++ [r] ∧ r.id = id ∧ ∀ x ∈ l, x.id = 0x41D

/-! A raise writes registers, the raises that wait, and two flags of the fault collector. -/

/-- From `s` to `t` nothing changed but what a raise writes. -/
def RaiseFrame (s t : State) : Prop :=
  ∃ regs raised full inj, t = { s with regs := regs, raised := raised, recFull := full, injFull := inj }

theorem RaiseFrame.refl (s : State) : RaiseFrame s s := ⟨_, _, _, _, rfl⟩

theorem RaiseFrame.trans {s t u : State} : RaiseFrame s t → RaiseFrame t u → RaiseFrame s u := by
  rintro ⟨_, _, _, _, rfl⟩ ⟨_, _, _, _, rfl⟩
  exact ⟨_, _, _, _, rfl⟩

theorem RaiseFrame.wr {s t : State} (h : RaiseFrame s t) (b : Nat) (f : Fld) (v : Nat) : RaiseFrame s (t.wr b f v) :=
  h.trans ⟨_, _, _, _, rfl⟩

theorem RaiseFrame.noteRaise (s : State) (id : Nat) : RaiseFrame s (s.noteRaise id) := by
  unfold State.noteRaise State.cnt
  iterate 3 refine RaiseFrame.wr ?_ _ _ _
  exact ⟨_, _, _, _, rfl⟩

theorem RaiseFrame.putRec (s : State) (i id : Nat) (cfg : Word) (acc : EvAcc) : RaiseFrame s (s.putRec i id cfg acc) := by
  unfold State.putRec
  iterate 12 refine RaiseFrame.wr ?_ _ _ _
  exact RaiseFrame.refl s

theorem RaiseFrame.pinReact (s : State) (id : Nat) : RaiseFrame s (s.pinReact id) := by
  unfold State.pinReact
  split
  · exact (RaiseFrame.refl s).wr _ _ _
  · exact RaiseFrame.refl s

theorem RaiseFrame.queueRaise (s : State) (id recIdx : Nat) : RaiseFrame s (s.queueRaise id recIdx) := ⟨_, _, _, _, rfl⟩

/-- INJ_FULL has taken its effect (R503). -/
def State.fullTaken (s : State) : State := { s with injFull := false }

/-- EV_FLT_REC_FULL stands until REC_CLR (R499). -/
def State.fullNoted (s : State) : State := { s with recFull := true }

theorem State.recordLost_cases (s : State) :
    s.recordLost = s.cnt fltB R.FLT_CNT_OVF_REC 1 ∨
    s.recordLost = (((s.cnt fltB R.FLT_CNT_OVF_REC 1).fullNoted.noteRaise 0x41D).pinReact 0x41D).queueRaise 0x41D 0xFF := by
  unfold State.recordLost
  by_cases h : (s.cnt fltB R.FLT_CNT_OVF_REC 1).recFull = true
  · exact .inl (if_pos h)
  · exact .inr (if_neg h)

/-- The end of a raise: the pin's reaction, and the raise joins those that wait. -/
def State.raiseEnd (s : State) (id recIdx : Nat) : State := (s.pinReact id).queueRaise id recIdx

/-- A raise is noted, keeps a record or loses it, or needs none. -/
theorem State.raiseOn_cases (s : State) (id : Nat) (acc : EvAcc) :
    s.raiseOn id acc = (s.noteRaise id).raiseEnd id 0xFF ∨
    (∃ i < 8, s.raiseOn id acc = ((s.noteRaise id).putRec i id ((s.noteRaise id).srcCfg id) acc).raiseEnd id i) ∨
    s.raiseOn id acc = (s.noteRaise id).fullTaken.recordLost.raiseEnd id 0xFF := by
  unfold State.raiseOn
  generalize s.noteRaise id = t
  simp only []
  split
  · exact .inl rfl
  · next i _ hfree =>
    refine .inr (.inl ⟨i, ?_, rfl⟩)
    split at hfree
    · simp at hfree
    · exact State.freeRec_lt hfree
  · exact .inr (.inr rfl)

theorem RaiseFrame.raiseEnd (s : State) (id recIdx : Nat) : RaiseFrame s (s.raiseEnd id recIdx) :=
  (RaiseFrame.pinReact s id).trans (RaiseFrame.queueRaise _ id recIdx)

theorem RaiseFrame.recordLost (s : State) : RaiseFrame s s.recordLost := by
  have hcnt : RaiseFrame s (s.cnt fltB R.FLT_CNT_OVF_REC 1) := (RaiseFrame.refl s).wr _ _ _
  have hnoted : RaiseFrame s (s.cnt fltB R.FLT_CNT_OVF_REC 1).fullNoted := hcnt.trans ⟨_, _, _, _, rfl⟩
  rcases s.recordLost_cases with h | h
  · exact h ▸ hcnt
  · exact h ▸ (hnoted.trans (RaiseFrame.noteRaise _ _)).trans (RaiseFrame.raiseEnd _ _ _)

theorem RaiseFrame.raiseOn (s : State) (id : Nat) (acc : EvAcc) : RaiseFrame s (s.raiseOn id acc) := by
  have hnote := RaiseFrame.noteRaise s id
  rcases s.raiseOn_cases id acc with h | ⟨i, -, h⟩ | h
  · exact h ▸ hnote.trans (RaiseFrame.raiseEnd _ _ _)
  · exact h ▸ (hnote.trans (RaiseFrame.putRec _ _ _ _ _)).trans (RaiseFrame.raiseEnd _ _ _)
  · have htaken : RaiseFrame s (s.noteRaise id).fullTaken := hnote.trans ⟨_, _, _, _, rfl⟩
    exact h ▸ (htaken.trans (RaiseFrame.recordLost _)).trans (RaiseFrame.raiseEnd _ _ _)

theorem RaiseFrame.raiseA (s : State) (id : Nat) (acc : EvAcc) : RaiseFrame s (s.raiseA id acc) := by
  unfold State.raiseA
  split
  · exact RaiseFrame.refl s
  · exact RaiseFrame.raiseOn s id acc

/-! A raise as a whole. -/

/-- Two sets of bits joined in either order. -/
theorem or_evBits (w a b : Word) : w ||| a ||| b = w ||| b ||| a := by rw [BitVec.or_assoc, BitVec.or_comm a b, BitVec.or_assoc]

@[simp] theorem State.noteRaise_raised (s : State) (id : Nat) : (s.noteRaise id).raised = s.raised := by
  simp only [State.noteRaise, State.wr_raised, State.cnt_raised, State.setReg_raised]

@[simp] theorem State.putRec_raised (s : State) (i id : Nat) (cfg : Word) (acc : EvAcc) :
    (s.putRec i id cfg acc).raised = s.raised := by
  simp only [State.putRec, State.wr_raised]

@[simp] theorem State.pinReact_raised (s : State) (id : Nat) : (s.pinReact id).raised = s.raised := by
  unfold State.pinReact
  split <;> simp

/-- The raise of event `id` as it waits for its reactions. -/
def State.raiseNow (s : State) (id recIdx : Nat) : Raise :=
  ⟨id, fget (s.srcCfg id) 6 5, fget (s.srcCfg id) 4 4 != 0, fget (s.srcCfg id) 3 3 != 0, fget (s.srcCfg id) 2 2 != 0,
    fget (s.srcCfg id) 1 1 != 0, s.tlv, s.tq, s.stepSeq, recIdx⟩

theorem State.queueRaise_raised (s : State) (id recIdx : Nat) :
    (s.queueRaise id recIdx).raised = s.raised ++ [s.raiseNow id recIdx] := rfl

/-- The end of a raise adds it to those that wait and sets no other line. -/
theorem RaiseDone.raiseEnd {s t : State} {id : Nat} (recIdx : Nat) (hr : Rising 0 t.regs) (lost : Bool) (l : List Raise)
    (hget : ∀ k, ¬ FltKey k → t.getReg k = s.getReg k ||| (if lost then evBit 0x41D k else 0) ||| evBit id k)
    (hraised : t.raised = s.raised ++ l) (hl : ∀ x ∈ l, x.id = 0x41D) :
    RaiseDone id s (t.raiseEnd id recIdx) := by
  obtain ⟨hr', hget'⟩ := ((t.pinReact_touches id).trans (State.queueRaise_touches _ id recIdx)) hr
  refine ⟨hr', lost, fun k hk => (hget' k hk).trans (hget k hk), l, (t.pinReact id).raiseNow id recIdx, ?_, rfl, hl⟩
  rw [State.raiseEnd, State.queueRaise_raised, State.pinReact_raised, hraised]

/-- A state between a raise's first line and its end, where no record was lost. -/
theorem RaiseDone.raiseEnd_kept {s t : State} {id : Nat} (recIdx : Nat) (hr : Rising 0 t.regs)
    (hget : ∀ k, ¬ FltKey k → t.getReg k = s.getReg k ||| evBit id k) (hraised : t.raised = s.raised) :
    RaiseDone id s (t.raiseEnd id recIdx) :=
  RaiseDone.raiseEnd recIdx hr false [] (fun k hk => by simp [hget k hk]) (by simp [hraised]) (by simp)

theorem RaiseDone.recordLost {s t : State} {id : Nat} (hr : Rising 0 t.regs)
    (hget : ∀ k, ¬ FltKey k → t.getReg k = s.getReg k ||| evBit id k) (hraised : t.raised = s.raised) :
    RaiseDone id s (t.recordLost.raiseEnd id 0xFF) := by
  obtain ⟨hcr, hcget⟩ := (Touches.refl FltKey t).cnt (b := fltB) (f := R.FLT_CNT_OVF_REC) 1 (fltKey_window (by decide)) hr
  have hcraised : (t.cnt fltB R.FLT_CNT_OVF_REC 1).raised = s.raised := by simp [hraised]
  have hcget' (k : Nat) (hk : ¬ FltKey k) := (hcget k hk).trans (hget k hk)
  rcases t.recordLost_cases with h | h <;> rw [h]
  · exact RaiseDone.raiseEnd_kept 0xFF hcr hcget' hcraised
  · generalize hu : (t.cnt fltB R.FLT_CNT_OVF_REC 1).fullNoted = u
    have hur : Rising 0 u.regs := hu ▸ hcr
    have huget (k : Nat) (hk : ¬ FltKey k) : u.getReg k = s.getReg k ||| evBit id k := hu ▸ hcget' k hk
    have huraised : u.raised = s.raised := hu ▸ hcraised
    have hnote {k : Nat} (hk : ¬ FltKey k) := State.getReg_noteRaise (id := 0x41D) hur (by omega) hk
    obtain ⟨hqr, hqget⟩ := (((u.noteRaise 0x41D).pinReact_touches 0x41D).trans
      (State.queueRaise_touches _ 0x41D 0xFF)) (hnote (not_fltKey_evt 0 (by omega))).1
    refine RaiseDone.raiseEnd 0xFF hqr true [((u.noteRaise 0x41D).pinReact 0x41D).raiseNow 0x41D 0xFF] (fun k hk => ?_) ?_
      (fun x hx => ?_)
    · rw [hqget k hk, (hnote hk).2, huget k hk, if_pos rfl, or_evBits]
    · rw [State.queueRaise_raised, State.pinReact_raised, State.noteRaise_raised, huraised]
    · rw [List.mem_singleton.mp hx]
      rfl

/-- However its record fares, a raise that has been noted ends as one. -/
theorem RaiseDone.of_noted {s t u : State} {id : Nat} {acc : EvAcc} (hr : Rising 0 t.regs)
    (hget : ∀ k, ¬ FltKey k → t.getReg k = s.getReg k ||| evBit id k) (hraised : t.raised = s.raised)
    (hu : u = t.raiseEnd id 0xFF ∨ (∃ i < 8, u = (t.putRec i id (t.srcCfg id) acc).raiseEnd id i) ∨
      u = t.fullTaken.recordLost.raiseEnd id 0xFF) : RaiseDone id s u := by
  rcases hu with rfl | ⟨i, hi, rfl⟩ | rfl
  · exact RaiseDone.raiseEnd_kept 0xFF hr hget hraised
  · obtain ⟨hput, hputs⟩ := t.putRec_touches id (t.srcCfg id) acc hi hr
    refine RaiseDone.raiseEnd_kept i hput (fun k hk => (hputs k hk).trans (hget k hk)) ?_
    rw [State.putRec_raised, hraised]
  · exact RaiseDone.recordLost (t := t.fullTaken) hr hget hraised

theorem State.raiseOn_done {s : State} {id : Nat} (acc : EvAcc) (hr : Rising 0 s.regs) (hid : id < 1152) :
    RaiseDone id s (s.raiseOn id acc) := by
  have hrise : Rising 0 (s.noteRaise id).regs := (State.getReg_noteRaise hr hid (not_fltKey_evt 0 (by omega))).1
  exact RaiseDone.of_noted hrise (fun k hk => (State.getReg_noteRaise hr hid hk).2) (State.noteRaise_raised s id)
    (s.raiseOn_cases id acc)

/-- A raise writes no register but those of the fault collector and EVT.STAT. -/
theorem State.raiseA_touches (s : State) {id : Nat} (acc : EvAcc) (hid : id < 1152) :
    Touches (fun k => FltKey k ∨ EvtKey k) s (s.raiseA id acc) := by
  unfold State.raiseA
  split
  · exact Touches.refl _ _
  · intro hr
    obtain ⟨hrise, lost, hget, -⟩ := State.raiseOn_done acc hr hid
    refine ⟨hrise, fun k hk => ?_⟩
    have hzero (i : Nat) (hi : i < 1152) : evBit i k = 0 := if_neg fun h => hk (.inr (by unfold EvtKey; omega))
    rw [hget k fun h => hk (.inl h), hzero id hid, hzero 0x41D (by omega)]
    simp

/-! The lines of EVT.STAT as bits. -/

theorem fget_bit (w : Word) (i : Nat) : fget w i i = (w.getLsbD i).toNat := by
  unfold fget BitVec.getLsbD
  rw [Nat.add_sub_cancel_left, Nat.toNat_testBit, Nat.pow_one]

theorem evBit_getLsbD {id k i : Nat} (hi : i < 32) (h : k = 0x000B0000 + 4 * (id / 32)) :
    (evBit id k).getLsbD i = decide (id % 32 = i) := by
  rw [evBit, if_pos h, BitVec.getLsbD_ofNat, Nat.testBit_two_pow, decide_eq_true hi, Bool.true_and]

/-- The line of another event is not touched by `evBit id`. -/
theorem evBit_getLsbD_other {id j i : Nat} (hi : i < 32) (h : 32 * j + i ≠ id) :
    (evBit id (0x000B0000 + 4 * j)).getLsbD i = false := by
  by_cases hj : j = id / 32
  · rw [evBit_getLsbD hi (by rw [hj]), decide_eq_false (by omega)]
  · rw [evBit, if_neg (by omega)]
    simp

/-! The domains behind the event lines. -/

theorem evDom_lane {n k : Nat} (hn : n < 64) (hk : k < 11) : evDom (12 * n + k) = some n := by
  unfold evDom
  rw [if_pos (by omega), if_neg (by simp only [beq_iff_eq]; omega)]
  congr 1; omega

theorem evDom_laneBias {n : Nat} (hn : n < 64) : evDom (12 * n + 11) = none := by
  unfold evDom
  rw [if_pos (by omega), if_pos (by simp only [beq_iff_eq]; omega)]

theorem evDom_oct {o k : Nat} (ho : o < 8) (hk : k < 6) : evDom (0x300 + 6 * o + k) = some (64 + o) := by
  unfold evDom
  rw [if_neg (by omega), if_pos (by omega)]
  congr 1; omega

theorem evDom_always {id : Nat} (hlo : 0x3F0 ≤ id) (hhi : id < 0x430) : evDom id = none := by
  unfold evDom
  iterate 5 rw [if_neg (by omega)]

/-- A clamped line changes nothing (R445). -/
theorem State.raiseA_clamped {s : State} {id d : Nat} (acc : EvAcc) (hdom : evDom id = some d)
    (hoff : bits (0x500000000034 + d * 0x100000) 10 8 s ≠ 3) : s.raiseA id acc = s := by
  have hkey : (Obj.dom d).base + R.PWR_DOM_STAT_STATE.off = 0x500000000034 + d * 0x100000 := by
    simp only [Obj.base, objKey, R.PWR_DOM_STAT_STATE]; omega
  have hclamp : s.evClamped id = true := by
    simp only [State.evClamped, hdom, State.rd, hkey]
    simpa [bits, R.PWR_DOM_STAT_STATE] using hoff
  rw [State.raiseA, if_pos hclamp]

theorem State.raiseA_open {s : State} {id : Nat} (acc : EvAcc) (h : s.evClamped id = false) :
    s.raiseA id acc = s.raiseOn id acc := by
  rw [State.raiseA, h]
  rfl

/-- Settles O14: the clamp by domain, and what a raise on an open line writes. -/
theorem eventLines : Obligations.EventLines := by
  unfold Obligations.EventLines
  refine ⟨fun s id d acc => State.raiseA_clamped acc, fun n k => evDom_lane n.isLt, fun n => evDom_laneBias n.isLt,
    fun o k => evDom_oct o.isLt, fun id => evDom_always, ?_⟩
  intro s id acc hinv hid hopen
  obtain ⟨-, lost, hget, l, r, hraised, hr, hl⟩ := State.raiseOn_done acc (Inv.regs_rising hinv) hid
  obtain ⟨_, _, _, _, heq⟩ := RaiseFrame.raiseA s id acc
  refine ⟨?_, fun i hi hne hfull => ?_, by rw [heq], by rw [heq], by rw [heq], l, r, ?_, hr, hl⟩
  · rw [bits, State.raiseA_open acc hopen, fget_bit, hget _ (not_fltKey_evt _ (by omega)), BitVec.getLsbD_or,
      evBit_getLsbD (Nat.mod_lt _ (by decide)) rfl]
    simp
  · rw [bits, bits, State.raiseA_open acc hopen, fget_bit, fget_bit, hget _ (not_fltKey_evt _ (by omega)),
      BitVec.getLsbD_or, BitVec.getLsbD_or, evBit_getLsbD_other hi (by omega)]
    cases lost <;> simp [evBit_getLsbD_other hi hfull]
  · rw [State.raiseA_open acc hopen, hraised]

end Sys2Proof.Machine
end

section
/-! A served write as a whole: the stored word, what the block does beside, a legacy window where one opens, and the
answer (R19, R22, R77); and what the fields of the stored word read. -/

namespace Sys2Proof.Machine

/-! The word that a write leaves. -/

/-- The word that a write of `w` over `cur` leaves in a register whose locks are open. -/
def writtenWord (b : Blk) (off key : Nat) (w cur : Word) : Word :=
  ((keyFlds key).filter (fun f => !ignores b off w f)).foldl (fun a f => fldWrite false w a f) cur

/-- No write of this register is refused for a lock (R22). -/
def Unlocked (b : Blk) (off key : Nat) (s : State) : Prop :=
  lockHolds b s = false ∨ (keyFlds key).all (fun f => !lockable b off f) = true

theorem storeWord_refused {b : Blk} {off key : Nat} {s : State} (w : Word) (h : Unlocked b off key s) :
    (storeWord b off key w s).2 = false := by
  unfold storeWord
  rcases h with hopen | hall
  · simp [hopen]
  · simp only [Bool.and_eq_false_iff]
    refine .inr (List.any_eq_false.mpr fun f hf => ?_)
    have hlk := List.all_eq_true.mp hall f (List.mem_of_mem_filter hf)
    have hopen : lockable b off f = false := by simpa using hlk
    simp [hopen]

theorem foldl_fldWrite_unlocked {b : Blk} {off : Nat} {lk : Bool} {fs : List Fld}
    (h : lk = false ∨ ∀ f ∈ fs, lockable b off f = false) (w cur : Word) :
    fs.foldl (fun a f => fldWrite (lk && lockable b off f) w a f) cur = fs.foldl (fun a f => fldWrite false w a f) cur := by
  induction fs generalizing cur with
  | nil => rfl
  | cons f fs ih =>
    have hf : (lk && lockable b off f) = false := by
      rcases h with h | h
      · simp [h]
      · simp [h f (by simp)]
    simp only [List.foldl_cons, hf]
    exact ih (h.imp_right fun h g hg => h g (by simp [hg])) _

/-- A register without staged fields whose locks are open stores the written word, and nothing else. -/
theorem storeWord_plain {b : Blk} {off key : Nat} {s : State} (w : Word) (hlk : Unlocked b off key s)
    (hst : (keyFlds key).any (fun f => f.acc == .st) = false) :
    storeWord b off key w s = (s.setReg key (writtenWord b off key w (s.getReg key)), false) := by
  have hrefused := storeWord_refused w hlk
  have hfold := foldl_fldWrite_unlocked (b := b) (off := off) (lk := lockHolds b s)
    (fs := (keyFlds key).filter (fun f => !ignores b off w f))
    (hlk.imp_right fun h f hf => by simpa using List.all_eq_true.mp h f (List.mem_of_mem_filter hf)) w (s.getReg key)
  have hany : ((keyFlds key).filter (fun f => !ignores b off w f)).any (fun f => f.acc == .st) = false :=
    List.any_eq_false.mpr fun f hf => List.any_eq_false.mp hst f (List.mem_of_mem_filter hf)
  refine Prod.ext ?_ hrefused
  unfold storeWord
  simp only [hany, hfold]
  rfl

/-- A plain field whose bits no other field has reads what was written to it. -/
theorem fget_foldl_fldWrite (fs : List Fld) (w cur : Word) {hi lo : Nat} (hlo : lo ≤ hi) (hhi : hi < 32)
    (h : ∀ f ∈ fs, f.lo ≤ f.hi ∧ f.hi < 32 ∧ ((f.hi = hi ∧ f.lo = lo ∧ (f.acc = .rw ∨ f.acc = .rwlk)) ∨ f.hi < lo ∨ hi < f.lo)) :
    fget (fs.foldl (fun a f => fldWrite false w a f) cur) hi lo =
      if fs.any (fun f => f.hi == hi && f.lo == lo) then fget w hi lo else fget cur hi lo := by
  induction fs generalizing cur with
  | nil => rfl
  | cons f fs ih =>
    obtain ⟨⟨hflo, hfhi, hf⟩, hfs⟩ := List.forall_mem_cons.mp h
    rw [List.foldl_cons, ih _ hfs, List.any_cons]
    rcases hf with ⟨rfl, rfl, hacc⟩ | hbeside
    · have hsame : fget (fldWrite false w cur f) f.hi f.lo = fget w f.hi f.lo := by
        have hset : fldWrite false w cur f = fset cur f.hi f.lo (fget w f.hi f.lo) := by
          unfold fldWrite
          rcases hacc with hacc | hacc <;> simp [hacc]
        rw [hset, fget_fset_same _ _ _ hfhi, Nat.mod_eq_of_lt (fget_lt _ _ _)]
      simp [hsame]
    · have hkeep : fget (fldWrite false w cur f) hi lo = fget cur hi lo := by
        unfold fldWrite
        cases f.acc <;> simp [fget_fset_beside _ _ _ _ _ _ hbeside]
      have hne : (f.hi == hi && f.lo == lo) = false := by
        simp only [Bool.and_eq_false_iff, beq_eq_false_iff_ne]
        omega
      rw [hkeep, hne, Bool.false_or]

/-- The check of `fget_foldl_fldWrite` for a register's fields, as one that a closed register decides. -/
def plainField (fs : List Fld) (hi lo : Nat) : Bool :=
  fs.all (fun f => decide (f.lo ≤ f.hi ∧ f.hi < 32 ∧ ((f.hi = hi ∧ f.lo = lo ∧ (f.acc = .rw ∨ f.acc = .rwlk)) ∨ f.hi < lo ∨ hi < f.lo))) &&
    fs.any (fun f => f.hi == hi && f.lo == lo) && decide (lo ≤ hi ∧ hi < 32)

theorem fget_foldl_plain {fs : List Fld} (w cur : Word) {hi lo : Nat} (h : plainField fs hi lo = true) :
    fget (fs.foldl (fun a f => fldWrite false w a f) cur) hi lo = fget w hi lo := by
  simp only [plainField, Bool.and_eq_true, List.all_eq_true, decide_eq_true_eq] at h
  obtain ⟨⟨hall, hany⟩, hlo, hhi⟩ := h
  rw [fget_foldl_fldWrite fs w cur hlo hhi hall, if_pos hany]

/-- A plain field of a written register reads what was written, where no field ignores the write. -/
theorem fget_writtenWord {b : Blk} {off key : Nat} (w cur : Word) {hi lo : Nat} (hign : ∀ f ∈ keyFlds key, ignores b off w f = false)
    (h : plainField (keyFlds key) hi lo = true) : fget (writtenWord b off key w cur) hi lo = fget w hi lo := by
  have hall : (keyFlds key).filter (fun f => !ignores b off w f) = keyFlds key :=
    List.filter_eq_self.mpr fun f hf => by simp [hign f hf]
  rw [writtenWord, hall, fget_foldl_plain w cur h]

/-! The fabric. -/

/-- The block of an access with its clock gate open (R437). -/
def awake (a : Nat) (s : State) : State :=
  match gateOf a with
  | some g => gateWake g s
  | none => s

theorem awake_none {a : Nat} (h : gateOf a = none) (s : State) : awake a s = s := by
  rw [awake, h]

/-- A served write is the block's write with its gate open, and the answer. -/
theorem served_regWrite {m : Master} {a : Nat} {w : Word} {s : State} {b : Blk} {off : Nat} (h : Served m true a w s)
    (hp : place a = .reg b off) :
    writeCmd m a w s = answered m a true 0 (regWrite m b off w (awake a s)).2 (regWrite m b off w (awake a s)).1 := by
  have hdone := regWrite_done m b off w (awake a s)
  obtain ⟨-, -, -, -, -, -, -, hdec⟩ := id h
  rw [writeCmd, served_command h]
  have hperf : perform m true a w s = ((regWrite m b off w (awake a s)).1, 0, (regWrite m b off w (awake a s)).2) := by
    unfold perform
    simp only [hdec, hp]
    rfl
  rw [hperf]
  simp [hdone]

/-- A served write of a register at its own key whose locks are open is the stored word, the block's hook, a legacy window
where one opens, and the answer. -/
theorem served_wrote {m : Master} {a : Nat} {w : Word} {s : State} {b : Blk} {off : Nat} (h : Served m true a w s)
    (hp : place a = .reg b off) (hf : (findReg b off).isSome = true) (ho : ownWrite m b off w (awake a s.fresh) = none)
    (hk : effKey b off (awake a s.fresh) = some a) (hlk : Unlocked b off a (awake a s.fresh)) :
    writeCmd m a w s.fresh = wrote m a w (regHook m b off ((awake a s.fresh).getReg a) w) s := by
  obtain ⟨d, hd⟩ := Option.isSome_iff_exists.mp hf
  have hstored : stored a w s.fresh = (storeWord b off a w (awake a s.fresh)).1 := by
    unfold stored
    simp only [hp]
    change (match effKey b off (awake a s.fresh) with
      | some key => (storeWord b off key w (awake a s.fresh)).1
      | none => awake a s.fresh) = _
    rw [hk]
  rw [served_regWrite h.fresh hp, wrote, hstored]
  unfold regWrite
  simp only [hd, ho, hk, storeWord_refused w hlk]
  rfl

/-- What a served write leaves hangs on what the block does to the stored state alone. -/
theorem wrote_congr {m : Master} {a : Nat} {w : Word} {s : State} {f g : State → State}
    (h : f (stored a w s.fresh) = g (stored a w s.fresh)) : wrote m a w f s = wrote m a w g s := by
  rw [wrote, wrote, h]

/-- A register in no commit group opens no legacy window. -/
theorem legacyAfter_none {a : Nat} (h : keyGroup a = none) (s : State) : legacyAfter a s = s := by
  rw [legacyAfter, h]

/-- A register without staged fields opens no legacy window. -/
theorem legacyAfter_plain {a : Nat} (h : (keyFlds a).any (fun f => f.acc == .st) = false) (s : State) :
    legacyAfter a s = s := by
  unfold legacyAfter
  split
  · simp [h]
  · rfl

/-- The stored state of a plain register: its word, with the gate open. -/
theorem stored_plain {a : Nat} {w : Word} {s : State} {b : Blk} {off : Nat} (hp : place a = .reg b off)
    (hk : effKey b off (awake a s) = some a) (hlk : Unlocked b off a (awake a s))
    (hst : (keyFlds a).any (fun f => f.acc == .st) = false) :
    stored a w s = (awake a s).setReg a (writtenWord b off a w ((awake a s).getReg a)) := by
  unfold stored
  simp only [hp]
  change (match effKey b off (awake a s) with
    | some key => (storeWord b off key w (awake a s)).1
    | none => awake a s) = _
  rw [hk]
  exact congrArg Prod.fst (storeWord_plain w hlk hst)

/-- A state with the written word stored in a plain register. -/
def storedPlain (b : Blk) (off a : Nat) (w : Word) (s : State) : State :=
  s.fresh.setReg a (writtenWord b off a w (s.getReg a))

/-- A served write of a register without clock gate, locks or staged fields. -/
theorem served_plain {m : Master} {a : Nat} {w : Word} {s : State} {b : Blk} {off : Nat} (h : Served m true a w s)
    (hp : place a = .reg b off) (hg : gateOf a = none) (hf : (findReg b off).isSome = true)
    (ho : ownWrite m b off w s.fresh = none) (hk : effKey b off s.fresh = some a) (hlk : Unlocked b off a s.fresh)
    (hst : (keyFlds a).any (fun f => f.acc == .st) = false) :
    writeCmd m a w s.fresh = answered m a true 0 .done (regHook m b off (s.getReg a) w (storedPlain b off a w s)) := by
  have hawake : awake a s.fresh = s.fresh := awake_none hg _
  rw [← hawake] at ho hk hlk
  rw [served_wrote h hp hf ho hk hlk, wrote, legacyAfter_plain hst, stored_plain hp hk hlk hst, hawake]
  rfl

/-- What a command answers, from what its effect leaves. -/
theorem exec_closed {i : Instr} {s u : State} {f : State → State} (hrun : exec i s = run f s) (h : f s.fresh = u) :
    exec i s = .next (closed s.pending u) := by
  rw [exec_run f hrun, h]

end Sys2Proof.Machine
end

section
/-! What a raise leaves, field by field, and registers outside the fault collector. -/

namespace Sys2Proof.Machine

theorem RaiseFrame.tl {s t : State} (h : RaiseFrame s t) : t.tl = s.tl := by
  obtain ⟨_, _, _, _, rfl⟩ := h; rfl

theorem RaiseFrame.now {s t : State} (h : RaiseFrame s t) : t.now = s.now := by
  obtain ⟨_, _, _, _, rfl⟩ := h; rfl

theorem RaiseFrame.mem {s t : State} (h : RaiseFrame s t) : t.mem = s.mem := by
  obtain ⟨_, _, _, _, rfl⟩ := h; rfl

theorem RaiseFrame.clk {s t : State} (h : RaiseFrame s t) : t.clk = s.clk := by
  obtain ⟨_, _, _, _, rfl⟩ := h; rfl

@[simp] theorem State.raiseA_tl (s : State) (id : Nat) (acc : EvAcc) : (s.raiseA id acc).tl = s.tl :=
  (RaiseFrame.raiseA s id acc).tl
@[simp] theorem State.raiseA_now (s : State) (id : Nat) (acc : EvAcc) : (s.raiseA id acc).now = s.now :=
  (RaiseFrame.raiseA s id acc).now
@[simp] theorem State.raiseA_mem (s : State) (id : Nat) (acc : EvAcc) : (s.raiseA id acc).mem = s.mem :=
  (RaiseFrame.raiseA s id acc).mem
@[simp] theorem State.raiseA_clk (s : State) (id : Nat) (acc : EvAcc) : (s.raiseA id acc).clk = s.clk :=
  (RaiseFrame.raiseA s id acc).clk

@[simp] theorem State.raise_tl (s : State) (id : Nat) : (s.raise id).tl = s.tl := s.raiseA_tl id _
@[simp] theorem State.raise_now (s : State) (id : Nat) : (s.raise id).now = s.now := s.raiseA_now id _
@[simp] theorem State.raise_mem (s : State) (id : Nat) : (s.raise id).mem = s.mem := s.raiseA_mem id _
@[simp] theorem State.raise_clk (s : State) (id : Nat) : (s.raise id).clk = s.clk := s.raiseA_clk id _

/-- The keys that a raise writes. -/
def RaiseKey (k : Nat) : Prop := FltKey k ∨ EvtKey k

theorem Touches.raise {K : Nat → Prop} {s t : State} (h : Touches K s t) {id : Nat} (hid : id < 1152)
    (hK : ∀ k, RaiseKey k → K k) : Touches K s (t.raise id) :=
  h.trans ((t.raiseA_touches EvAcc.none hid).mono hK)

/-- A change of anything but registers joins a chain of register writes. -/
theorem Touches.regs {K : Nat → Prop} {s t u : State} (h : Touches K s t) (hu : u.regs = t.regs) : Touches K s u :=
  h.trans (Touches.of_regs hu)

end Sys2Proof.Machine
end

section
/-! The timeline unit's operations: what each does to the timeline, to true time and to the registers (02). -/

namespace Sys2Proof.Machine

/-- The registers of the timeline unit that its own operations write: TL.STATUS, the synchronisation results and counts,
STEP, the lane delays, and those of a raise. EPOCH, SYNC_INTERVAL and SYNC_CFG are not among them. -/
def TlKey (k : Nat) : Prop :=
  k = 0x40004 ∨ (0x40020 ≤ k ∧ k < 0x40044) ∨ 0x40100 ≤ k ∨ RaiseKey k

theorem TlKey.of_raise (k : Nat) (h : RaiseKey k) : TlKey k := .inr (.inr (.inr h))

/-! Entering a state. -/

@[simp] theorem tlGo_tl (st : Nat) (s : State) : (tlGo st s).tl = s.tl := by
  unfold tlGo
  simp only []
  split <;> simp

@[simp] theorem tlGo_now (st : Nat) (s : State) : (tlGo st s).now = s.now := by
  unfold tlGo
  simp only []
  split <;> simp

theorem tlGo_touches (st : Nat) (s : State) : Touches (fun k => k = 0x40004 ∨ RaiseKey k) s (tlGo st s) := by
  have hwr : Touches (fun k => k = 0x40004 ∨ RaiseKey k) s ((s.wr tlB R.TL_STATUS_STATE st).wr tlB R.TL_STATUS_TQ (tlTq st)) :=
    ((Touches.refl _ s).wr _ (.inl rfl)).wr _ (.inl rfl)
  unfold tlGo
  simp only []
  split
  · exact hwr.raise (by omega) fun k => .inr
  · exact hwr

/-- The window of the timeline lies beside the fault collector and EVT. -/
theorem not_raiseKey_tl {k : Nat} (hlo : 0x40000 ≤ k) (hhi : k < 0x70000) : ¬ RaiseKey k := by
  unfold RaiseKey FltKey EvtKey objKey
  omega

/-- TL.STATUS after the entry to a state. -/
theorem tlGo_status (st : Nat) {s : State} (hr : Rising 0 s.regs) :
    (tlGo st s).getReg 0x40004 = fset (fset (s.getReg 0x40004) 2 0 st) 5 4 (tlTq st) := by
  have hwr : ((s.wr tlB R.TL_STATUS_STATE st).wr tlB R.TL_STATUS_TQ (tlTq st)).getReg 0x40004 =
      fset (fset (s.getReg 0x40004) 2 0 st) 5 4 (tlTq st) := by
    refine (State.getReg_setReg_same _ _ _ (s.wr_rising _ _ _ hr)).trans ?_
    exact congrArg (fun w => fset w 5 4 (tlTq st)) (State.getReg_setReg_same _ _ _ hr)
  have hwrr : Rising 0 ((s.wr tlB R.TL_STATUS_STATE st).wr tlB R.TL_STATUS_TQ (tlTq st)).regs :=
    State.wr_rising _ _ _ _ (s.wr_rising _ _ _ hr)
  unfold tlGo
  simp only []
  split
  · exact ((State.raiseA_touches _ EvAcc.none (by omega) hwrr).2 _ (not_raiseKey_tl (by omega) (by omega))).trans hwr
  · exact hwr

/-- The state that was entered. -/
theorem tlGo_state {st : Nat} {s : State} (hr : Rising 0 s.regs) (hst : st < 8) : bits 0x40004 2 0 (tlGo st s) = st := by
  rw [bits, tlGo_status st hr, fget_fset_beside _ _ _ _ _ _ (by omega), fget_fset_same _ _ _ (by omega)]
  exact Nat.mod_eq_of_lt hst

/-! Delays, loads, coasts. -/

theorem laneDly_touches (n v : Nat) (s : State) : Touches TlKey s (laneDly n v s) := by
  unfold laneDly
  refine (Touches.refl _ s).wr _ (.inr (.inr (.inl ?_)))
  simp only [tlB]
  split <;> simp only [R.TL_LANE_DLY_DLY_EVEN, R.TL_LANE_DLY_DLY_ODD] <;> omega

theorem dlyFold_touches (l : List (Nat × Nat)) (s : State) :
    Touches TlKey s (l.foldl (fun s e => laneDly e.1 e.2 s) s) := by
  induction l generalizing s with
  | nil => exact Touches.refl _ s
  | cons e l ih => exact (laneDly_touches e.1 e.2 s).trans (ih _)

theorem dlyFold_tl (l : List (Nat × Nat)) (s : State) : (l.foldl (fun s e => laneDly e.1 e.2 s) s).tl = s.tl := by
  induction l generalizing s with
  | nil => rfl
  | cons e l ih => exact (ih _).trans rfl

theorem dlyFold_now (l : List (Nat × Nat)) (s : State) : (l.foldl (fun s e => laneDly e.1 e.2 s) s).now = s.now := by
  induction l generalizing s with
  | nil => rfl
  | cons e l ih => exact (ih _).trans rfl

@[simp] theorem dlyTake_tl (s : State) : (dlyTake s).tl = { s.tl with newDly := [] } := dlyFold_tl _ _

@[simp] theorem dlyTake_now (s : State) : (dlyTake s).now = s.now := dlyFold_now _ _

theorem dlyTake_touches (s : State) : Touches TlKey s (dlyTake s) :=
  ((Touches.refl TlKey s).regs (u := { s with tl := { s.tl with newDly := [] } }) rfl).trans (dlyFold_touches _ _)

@[simp] theorem tlFree_tl (s : State) : (tlFree s).tl = { s.tl with newDly := [] } := by simp [tlFree]

@[simp] theorem tlFree_now (s : State) : (tlFree s).now = s.now := by simp [tlFree]

theorem tlGo_tlKey (st : Nat) (s : State) : Touches TlKey s (tlGo st s) :=
  (tlGo_touches st s).mono fun _ h => h.elim .inl (TlKey.of_raise _)

theorem tlFree_touches (s : State) : Touches TlKey s (tlFree s) := (tlGo_tlKey 0 s).trans (dlyTake_touches _)

@[simp] theorem tlLoad_tl (v : Tlv) (s : State) : (tlLoad v s).tl = { s.tl with tlv := v, corrAt := s.now, repTlv := v } := by
  simp only [tlLoad, State.raise_tl, repSync, State.wr64]
  rfl

@[simp] theorem tlLoad_now (v : Tlv) (s : State) : (tlLoad v s).now = s.now := by
  simp only [tlLoad, State.raise_now, repSync, State.wr64]
  rfl

end Sys2Proof.Machine
end

section
/-! TL.CTRL, TL.STATUS and the events of the timeline unit (R55 to R65, R78). -/

namespace Sys2Proof.Machine

/-! Registers read after a write, whatever form the map has. -/

/-- A put of a listed value, or of one below the key read, leaves what another key reads. -/
theorem look_put_ne_of {α : Type} [DecidableEq α] {d : α} (e : α) {v : α} {i j : Nat} (m : List (Nat × α)) (hj : j ≠ i)
    (h : v ≠ d ∨ i < j) : look e (put d m i v) j = look e m j := by
  induction m with
  | nil =>
    simp only [put]
    split
    · rfl
    · simp [look, hj]
  | cons x m ih =>
    obtain ⟨k, y⟩ := x
    simp only [put]
    split
    · next hik =>
      split
      · rfl
      · rw [look, if_neg hj]
        split
        · rw [look, if_neg (by omega), if_pos (by omega)]
        · rfl
    · split
      · next hik =>
        subst hik
        split
        · next hv =>
          have hij : i < j := h.resolve_left fun hne => hne hv
          rw [look, if_neg hj, if_neg (by omega)]
        · simp only [look, hj, if_false]
      · simp only [look, ih]

theorem State.getReg_setReg_of {s : State} {k j : Nat} {w : Word} (hj : j ≠ k) (h : w ≠ resetWord k ∨ k < j) :
    (s.setReg k w).getReg j = s.getReg j := look_put_ne_of _ s.regs hj h

theorem fset_satAdd_ne_zero (w : Word) {lo hi : Nat} (v : Nat) (hlo : lo ≤ hi) (hhi : hi < 32) :
    fset w hi lo (satAdd (hi + 1 - lo) v 1) ≠ 0 := by
  intro hzero
  have hpow : 2 ≤ 2 ^ (hi + 1 - lo) := Nat.pow_le_pow_right (n := 2) (by omega) (show 1 ≤ hi + 1 - lo by omega)
  have hread := fget_fset_same w lo (satAdd (hi + 1 - lo) v 1) hhi
  rw [hzero, Nat.mod_eq_of_lt (satAdd_lt _ _ _), satAdd_eq_min] at hread
  have hzero' : fget 0 hi lo = 0 := by simp [fget]
  omega

/-- A counter that has counted is not 0, so its word is listed where its reset word is 0. -/
theorem State.getReg_cnt_of {s : State} {b j : Nat} {f : Fld} (hj : j ≠ b + f.off) (hf : f.lo ≤ f.hi ∧ f.hi < 32)
    (hreset : resetWord (b + f.off) = 0) : (s.cnt b f 1).getReg j = s.getReg j :=
  State.getReg_setReg_of hj (.inl (by rw [hreset]; exact fset_satAdd_ne_zero _ _ hf.1 hf.2))

theorem fget_full (w : Word) : fget w 31 0 = w.toNat := by
  have := w.isLt
  simp only [fget, Nat.pow_zero, Nat.div_one]
  omega

/-- A one-bit field set to 1 reads 1. -/
theorem fget_fset_one (w : Word) {i : Nat} (hi : i < 32) : fget (fset w i i 1) i i = 1 := by
  rw [fget_fset_same _ _ _ hi, Nat.add_sub_cancel_left]
  rfl

theorem fget_fset_zero (w : Word) {i : Nat} (hi : i < 32) : fget (fset w i i 0) i i = 0 := by
  rw [fget_fset_same _ _ _ hi, Nat.zero_mod]

/-! The timeline's parts that a loss of TL_CLK leaves. -/

/-- TLV, the armed injections, the injected loss and the delay measurement are as before. -/
structure TlKept (t t' : TlSt) : Prop where
  tlv : t'.tlv = t.tlv
  injLoss : t'.injLoss = t.injLoss
  injErr : t'.injErr = t.injErr
  injMiss : t'.injMiss = t.injMiss
  injLate : t'.injLate = t.injLate
  injReject : t'.injReject = t.injReject
  calRun : t'.calRun = t.calRun

theorem tlCoast_kept (s : State) : TlKept s.tl (tlCoast s).tl ∧ (tlCoast s).tl.lost = s.tl.lost ∧ (tlCoast s).now = s.now := by
  simp only [tlCoast, State.raise_tl, State.raise_now, tlGo_tl, tlGo_now]
  exact ⟨⟨rfl, rfl, rfl, rfl, rfl, rfl, rfl⟩, rfl, rfl⟩

/-- TL_CLK declared lost: its own flags and event, before the state follows. -/
def tlclkMark (s : State) : State :=
  let t := (s.wr clkB R.CLK_STATUS_TLCLK_OK 0).cnt clkB R.CLK_CNT_TLCLK_LOSS 1
  if s.on clkB R.CLK_STATUS_TLCLK_OK then t.raise 0x3F2 else t

/-- The state of the timeline with TL_CLK lost. -/
def tlClkGone (s : State) : State := { s with tl := { s.tl with lost := true, rateFrom := none } }

theorem tlclkLost_eq (s : State) : tlclkLost s =
    let t := tlClkGone (tlclkMark s)
    if t.tlState == 5 then t
    else if t.tlState == 4 then uncStart (lossCause t) t.tlv.toNat { t with tl := { t.tl with realigned := false, step := none } }
    else tlCoast t := rfl

@[simp] theorem tlclkMark_tl (s : State) : (tlclkMark s).tl = s.tl := by
  unfold tlclkMark
  simp only []
  split <;> simp

@[simp] theorem tlclkMark_now (s : State) : (tlclkMark s).now = s.now := by
  unfold tlclkMark
  simp only []
  split <;> simp

/-- The loss of TL_CLK leaves TLV, true time and the armed injections. -/
theorem tlclkLost_kept (s : State) :
    TlKept s.tl (tlclkLost s).tl ∧ (tlclkLost s).tl.lost = true ∧ (tlclkLost s).now = s.now := by
  have hkept : TlKept s.tl (tlClkGone (tlclkMark s)).tl := by
    constructor <;> simp [tlClkGone]
  have hlost : (tlClkGone (tlclkMark s)).tl.lost = true := rfl
  have hnow : (tlClkGone (tlclkMark s)).now = s.now := tlclkMark_now s
  rw [tlclkLost_eq]
  generalize tlClkGone (tlclkMark s) = t at hkept hlost hnow
  simp only []
  split
  · exact ⟨hkept, hlost, hnow⟩
  · split
    · exact ⟨⟨hkept.tlv, hkept.injLoss, hkept.injErr, hkept.injMiss, hkept.injLate, hkept.injReject, hkept.calRun⟩, hlost, hnow⟩
    · obtain ⟨hc, hclost, hcnow⟩ := tlCoast_kept t
      exact ⟨⟨hc.tlv.trans hkept.tlv, hc.injLoss.trans hkept.injLoss, hc.injErr.trans hkept.injErr,
        hc.injMiss.trans hkept.injMiss, hc.injLate.trans hkept.injLate, hc.injReject.trans hkept.injReject,
        hc.calRun.trans hkept.calRun⟩, hclost.trans hlost, hcnow.trans hnow⟩

/-- The keys of CLK.STATUS and CLK.CNT, and those of a raise. -/
def ClkKey (k : Nat) : Prop := k = 0x20004 ∨ k = 0x20034 ∨ RaiseKey k

theorem tlclkMark_touches (s : State) : Touches ClkKey s (tlclkMark s) := by
  have hcnt : Touches ClkKey s ((s.wr clkB R.CLK_STATUS_TLCLK_OK 0).cnt clkB R.CLK_CNT_TLCLK_LOSS 1) :=
    ((Touches.refl _ s).wr _ (.inl rfl)).cnt _ (.inr (.inl rfl))
  unfold tlclkMark
  simp only []
  split
  · exact hcnt.raise (by omega) fun k h => .inr (.inr h)
  · exact hcnt

theorem not_clkKey_status : ¬ ClkKey 0x40004 := by
  have h := not_raiseKey_tl (k := 0x40004) (by omega) (by omega)
  unfold ClkKey
  simp [h]

/-- A timeline that is STOPPED stays so when TL_CLK is lost. -/
theorem tlclkLost_stopped {s : State} (hr : Rising 0 s.regs) (h : bits 0x40004 2 0 s = 5) :
    bits 0x40004 2 0 (tlclkLost s) = 5 ∧ (tlclkLost s).tl.step = s.tl.step := by
  have hstate : bits 0x40004 2 0 (tlClkGone (tlclkMark s)) = 5 := by
    rw [bits, ← h, bits]
    exact congrArg (fget · 2 0) ((tlclkMark_touches s hr).2 _ not_clkKey_status)
  have hstep : (tlClkGone (tlclkMark s)).tl.step = s.tl.step := by simp [tlClkGone]
  rw [tlclkLost_eq]
  generalize tlClkGone (tlclkMark s) = t at hstate hstep
  have hstop : (t.tlState == 5) = true := beq_iff_eq.mpr hstate
  simp only [hstop, if_true]
  exact ⟨hstate, hstep⟩

/-- INJ_TLCLK_LOSS is armed until it ends by itself (R78). -/
def injLossArmed (s : State) : State := { s with tl := { s.tl with injLoss := some (s.now + 2 ^ 24 * 250) } }

theorem tlInjLoss_eq (s : State) : tlInjLoss s = if s.tl.lost then injLossArmed s else tlclkLost (injLossArmed s) := rfl

theorem tlInjLoss_facts (s : State) :
    (tlInjLoss s).tl.lost = true ∧ (tlInjLoss s).tl.injLoss.isSome = true ∧ (tlInjLoss s).now = s.now ∧
      (tlInjLoss s).tl.tlv = s.tl.tlv ∧ (tlInjLoss s).tl.injErr = s.tl.injErr ∧ (tlInjLoss s).tl.injMiss = s.tl.injMiss ∧
      (tlInjLoss s).tl.injLate = s.tl.injLate ∧ (tlInjLoss s).tl.injReject = s.tl.injReject ∧
      (tlInjLoss s).tl.calRun = s.tl.calRun := by
  rw [tlInjLoss_eq]
  split
  · next h => exact ⟨h, rfl, rfl, rfl, rfl, rfl, rfl, rfl, rfl⟩
  · obtain ⟨hk, hlost, hnow⟩ := tlclkLost_kept (injLossArmed s)
    exact ⟨hlost, by rw [hk.injLoss]; rfl, hnow, hk.tlv, hk.injErr, hk.injMiss, hk.injLate, hk.injReject, hk.calRun⟩

theorem tlInjLoss_stopped {s : State} (hr : Rising 0 s.regs) (h : bits 0x40004 2 0 s = 5) :
    bits 0x40004 2 0 (tlInjLoss s) = 5 ∧ (tlInjLoss s).tl.step = s.tl.step := by
  rw [tlInjLoss_eq]
  split
  · exact ⟨h, rfl⟩
  · exact tlclkLost_stopped (s := injLossArmed s) hr h

/-! TL.CTRL. -/

/-- What ENABLE and MODE of a write of TL.CTRL do. -/
def tlCtrlMain (old w : Word) (s : State) : State :=
  if fget old 0 0 == 0 && fget w 0 0 == 1 then tlStart s
  else if fget old 0 0 == 1 && !(fget w 0 0 == 1) then tlStop s
  else if fget w 0 0 == 1 && fget old 1 1 != fget w 1 1 then tlMode s
  else s

/-- What CAL of a write of TL.CTRL does. -/
def tlCtrlCal (w : Word) (s : State) : State := if fget w 2 2 == 1 then tlCal s else s

/-- The injections that a write of TL.CTRL arms. -/
def tlCtrlArm (w : Word) (s : State) : State :=
  { s with tl := { s.tl with
    injErr := s.tl.injErr || fget w 27 27 == 1
    injMiss := s.tl.injMiss || fget w 28 28 == 1
    injLate := s.tl.injLate || fget w 29 29 == 1
    injReject := s.tl.injReject || fget w 30 30 == 1 } }

/-- What INJ_TLCLK_LOSS of a write of TL.CTRL does. -/
def tlCtrlLoss (w : Word) (s : State) : State := if fget w 31 31 == 1 then tlInjLoss s else s

theorem tlCtrl_eq (old w : Word) (s : State) :
    tlCtrl old w s = tlCtrlLoss w (tlCtrlArm w (tlCtrlCal w (tlCtrlMain old w s))) := rfl

/-- A served write of TL.CTRL: the word, what its bits ask for, and the answer. -/
theorem tlCtrl_write {m : Master} {w : Word} {s : State} (h : Served m true 0x40000 w s) :
    writeCmd m 0x40000 w s.fresh =
      answered m 0x40000 true 0 .done (tlCtrl (s.getReg 0x40000) w (storedPlain .tl 0 0x40000 w s)) := by
  exact served_plain h rfl rfl (by decide +kernel) rfl rfl (.inr (by decide +kernel)) (by decide +kernel)

/-- CAL, the injections and a loss leave TLV and true time. -/
theorem tlCtrlTail_tlv (w : Word) (s : State) :
    (tlCtrlLoss w (tlCtrlArm w (tlCtrlCal w s))).tl.tlv = s.tl.tlv ∧
      (tlCtrlLoss w (tlCtrlArm w (tlCtrlCal w s))).now = s.now := by
  have hcal : (tlCtrlCal w s).tl.tlv = s.tl.tlv ∧ (tlCtrlCal w s).now = s.now := by
    unfold tlCtrlCal tlCal
    split
    · split
      · exact ⟨rfl, rfl⟩
      · exact ⟨rfl, rfl⟩
    · exact ⟨rfl, rfl⟩
  obtain ⟨hctlv, hcnow⟩ := hcal
  unfold tlCtrlLoss
  split
  · obtain ⟨-, -, hnow, htlv, -⟩ := tlInjLoss_facts (tlCtrlArm w (tlCtrlCal w s))
    exact ⟨htlv.trans hctlv, hnow.trans hcnow⟩
  · exact ⟨hctlv, hcnow⟩

/-! Loads of EPOCH. -/

theorem tlEpoch_eq (s : State) : tlEpoch s = (s.getReg 0x40010).toNat + (s.getReg 0x40014).toNat * 2 ^ 32 := by
  have hlo := fget_full (s.getReg 0x40010)
  have hhi := fget_full (s.getReg 0x40014)
  exact congrArg₂ (fun a b => a + b * 2 ^ 32) hlo hhi

/-- EPOCH is the host's: no operation of the timeline unit writes it. -/
theorem tlEpoch_of_touches {s t : State} (h : Touches TlKey s t) (hr : Rising 0 s.regs) : tlEpoch t = tlEpoch s := by
  have hkey (k : Nat) (hk : k = 0x40010 ∨ k = 0x40014) : ¬ TlKey k := by
    have hraise := not_raiseKey_tl (k := k) (by omega) (by omega)
    simp only [TlKey, hraise, or_false]
    omega
  obtain ⟨-, hget⟩ := h hr
  rw [tlEpoch_eq, tlEpoch_eq, hget _ (hkey _ (.inl rfl)), hget _ (hkey _ (.inr rfl))]

@[simp] theorem uncClear_now (s : State) : (uncClear s).now = s.now := rfl

theorem uncClear_touches (s : State) : Touches TlKey s (uncClear s) :=
  ((Touches.refl TlKey s).wr (b := tlB) (f := R.TL_STATUS_COASTED) 0 (.inl rfl)).regs rfl

/-- The timeline as it stands when EPOCH is loaded. -/
def epochReady (s : State) : State :=
  let s := (uncClear s).wr tlB R.TL_STATUS_AMBIG 0
  { s with tl := { s.tl with step := none, firstErr := none, misses := 0, realigned := false,
                             expect := tlEpoch s + tlInterval s } }

theorem tlLoadEpoch_eq (s : State) :
    tlLoadEpoch s = tlLoad (BitVec.ofNat 64 (tlEpoch (epochReady s))) (epochReady s) := rfl

theorem epochReady_touches (s : State) : Touches TlKey s (epochReady s) :=
  ((uncClear_touches s).wr (b := tlB) (f := R.TL_STATUS_AMBIG) 0 (.inl rfl)).regs rfl

theorem tlLoadEpoch_tlv {s : State} (hr : Rising 0 s.regs) :
    (tlLoadEpoch s).tl.tlv = BitVec.ofNat 64 (tlEpoch s) ∧ (tlLoadEpoch s).now = s.now := by
  have hready : (epochReady s).now = s.now := rfl
  rw [tlLoadEpoch_eq, tlLoad_tl, tlLoad_now, tlEpoch_of_touches (epochReady_touches s) hr]
  exact ⟨rfl, hready⟩

theorem State.advance_touches (K : Nat → Prop) (s : State) (d : Nat) : Touches K s (s.advance d) :=
  Touches.of_regs (s.advance_regs d)

/-- ENABLE 0 to 1: TLV is EPOCH at the edge that follows, or at once with TL_CLK lost (R55). -/
theorem tlStart_tlv {s : State} (hr : Rising 0 s.regs) :
    (tlStart s).tl.tlv = BitVec.ofNat 64 (tlEpoch s) ∧
      (tlStart s).now = if s.tl.lost then s.now else s.now + tlEdge 0 s := by
  have hedge : Touches TlKey s (if s.tl.lost then s else s.advance (tlEdge 0 s)) := by
    split
    · exact Touches.refl _ s
    · exact s.advance_touches _ _
  have hnow : (if s.tl.lost then s else s.advance (tlEdge 0 s)).now = if s.tl.lost then s.now else s.now + tlEdge 0 s := by
    split <;> simp
  unfold tlStart
  simp only []
  generalize (if s.tl.lost then s else s.advance (tlEdge 0 s)) = t at hedge hnow
  have henter : Touches TlKey t (if tlSync t then tlGo 1 t else tlFree t) := by
    split
    · exact tlGo_tlKey 1 t
    · exact tlFree_touches t
  have henow : (if tlSync t then tlGo 1 t else tlFree t).now = t.now := by split <;> simp
  generalize (if tlSync t then tlGo 1 t else tlFree t) = u at henter henow
  have hu := hedge.trans henter
  obtain ⟨htlv, hunow⟩ := tlLoadEpoch_tlv (hu hr).1
  rw [tlEpoch_of_touches hu hr] at htlv
  rw [henow, hnow] at hunow
  generalize tlLoadEpoch u = v at htlv hunow
  split
  · obtain ⟨hk, -, hcnow⟩ := tlCoast_kept { v with tl := { v.tl with startAt := v.now } }
    exact ⟨hk.tlv.trans htlv, hcnow.trans hunow⟩
  · exact ⟨htlv, hunow⟩

/-! Writes of the word. -/

/-- A register beside the one written keeps its word. -/
theorem storedPlain_getReg_ne {b : Blk} {off a k : Nat} {w : Word} {s : State} (hr : Rising 0 s.regs) (hk : k ≠ a) :
    (storedPlain b off a w s).getReg k = s.getReg k := State.getReg_setReg_ne s.fresh _ hr hk

theorem storedPlain_rising {b : Blk} {off a : Nat} {w : Word} {s : State} (hr : Rising 0 s.regs) :
    Rising 0 (storedPlain b off a w s).regs := State.setReg_rising s.fresh _ _ hr

theorem tlEpoch_storedPlain {w : Word} {s : State} (hr : Rising 0 s.regs) :
    tlEpoch (storedPlain .tl 0 0x40000 w s) = tlEpoch s := by
  rw [tlEpoch_eq, tlEpoch_eq, storedPlain_getReg_ne hr (by omega), storedPlain_getReg_ne hr (by omega)]

theorem tlCtrlMain_start {old w : Word} (s : State) (hold : fget old 0 0 = 0) (hw : fget w 0 0 = 1) :
    tlCtrlMain old w s = tlStart s := by
  unfold tlCtrlMain
  simp [hold, hw]

theorem tlCtrlMain_stop {old w : Word} (s : State) (hold : fget old 0 0 = 1) (hw : fget w 0 0 = 0) :
    tlCtrlMain old w s = tlStop s := by
  unfold tlCtrlMain
  simp [hold, hw]

theorem tlCtrlMain_mode {old w : Word} (s : State) (hold : fget old 0 0 = 1) (hw : fget w 0 0 = 1)
    (hmode : fget old 1 1 ≠ fget w 1 1) : tlCtrlMain old w s = tlMode s := by
  unfold tlCtrlMain
  simp [hold, hw, hmode]

theorem tlCtrlMain_same {old w : Word} (s : State) (hen : fget w 0 0 = fget old 0 0) (hmode : fget w 1 1 = fget old 1 1) :
    tlCtrlMain old w s = s := by
  unfold tlCtrlMain
  rw [hen, hmode]
  have hlt := fget_lt old 0 0
  by_cases h : fget old 0 0 = 0
  · simp [h]
  · have h1 : fget old 0 0 = 1 := by omega
    simp [h1]

/-- R55. -/
theorem tlEnableOn_loads {m : Master} {w : Word} {s : State} (hinv : Inv s) (hoff : bits 0x40000 0 0 s = 0)
    (h : Served m true 0x40000 (fset w 0 0 1) s) :
    ∃ u, exec (.tlEnableOn m w) s = .next (closed s.pending u) ∧
      (u.tl.tlv = BitVec.ofNat 64 ((s.getReg 0x40010).toNat + (s.getReg 0x40014).toNat * 2 ^ 32) ∧
      u.now = if s.tl.lost then s.now else s.now + (250 - s.now % 250) % 250) := by
  have hr := hinv.regs_rising
  refine ⟨_, exec_closed (f := writeCmd m 0x40000 (fset w 0 0 1)) rfl (tlCtrl_write h), ?_⟩
  obtain ⟨htlv, hnow⟩ := tlStart_tlv (s := storedPlain .tl 0 0x40000 (fset w 0 0 1) s) (storedPlain_rising hr)
  rw [tlCtrl_eq, tlCtrlMain_start _ hoff (fget_fset_one w (by omega))]
  obtain ⟨htail, htnow⟩ := tlCtrlTail_tlv (fset w 0 0 1) (tlStart (storedPlain .tl 0 0x40000 (fset w 0 0 1) s))
  refine ⟨(htail.trans htlv).trans ?_, (htnow.trans hnow).trans ?_⟩
  · rw [tlEpoch_storedPlain hr, tlEpoch_eq]
  · rfl

/-! ENABLE 1 to 0. -/

/-- The timeline as it stands when ENABLE stops it. -/
def stopReady (s : State) : State :=
  let s := uncStop s
  let held (i : Nat) (a : ActSt) : ActSt :=
    if s.rd (Obj.act i).base R.TL_ACT_STATUS_STATE == 3 && !a.held then
      { a with due := s.now + (a.x - s.tlv.toNat), held := true }
    else a
  let s := { s with acts := mapVals ActSt.idle held s.acts }
  { s with tl := { s.tl with step := none, firstErr := none } }

theorem tlStop_eq (s : State) : tlStop s = tlGo 5 (stopReady s) := rfl

theorem tlStop_facts {s : State} (hr : Rising 0 s.regs) :
    bits 0x40004 2 0 (tlStop s) = 5 ∧ (tlStop s).tl.tlv = s.tl.tlv ∧ (tlStop s).now = s.now ∧ (tlStop s).tl.step = none ∧
      Rising 0 (tlStop s).regs := by
  have hready : (stopReady s).tl.tlv = s.tl.tlv ∧ (stopReady s).now = s.now ∧ (stopReady s).tl.step = none := ⟨rfl, rfl, rfl⟩
  have hrr : Rising 0 (stopReady s).regs := hr
  rw [tlStop_eq, tlGo_tl, tlGo_now]
  generalize stopReady s = t at hready hrr
  obtain ⟨htlv, hnow, hstep⟩ := hready
  exact ⟨tlGo_state hrr (by omega), htlv, hnow, hstep, (tlGo_tlKey 5 t hrr).1⟩

/-- CAL leaves the state, the due step and the rising registers. -/
theorem tlCtrlCal_facts (w : Word) {s : State} (hr : Rising 0 s.regs) :
    Rising 0 (tlCtrlCal w s).regs ∧ bits 0x40004 2 0 (tlCtrlCal w s) = bits 0x40004 2 0 s ∧
      (tlCtrlCal w s).tl.step = s.tl.step := by
  have hbusy : bits 0x40004 2 0 (s.wr tlB R.TL_STATUS_CAL_BUSY 1) = bits 0x40004 2 0 s :=
    State.rd_wr_beside s tlB tlB R.TL_STATUS_CAL_BUSY R.TL_STATUS_STATE 1 hr rfl (by decide)
  unfold tlCtrlCal tlCal
  split
  · split
    · exact ⟨hr, rfl, rfl⟩
    · exact ⟨s.wr_rising _ _ _ hr, hbusy, rfl⟩
  · exact ⟨hr, rfl, rfl⟩

/-- CAL, the injections and a loss leave a timeline that is STOPPED. -/
theorem tlCtrlTail_stopped (w : Word) {s : State} (hr : Rising 0 s.regs) (h : bits 0x40004 2 0 s = 5) :
    bits 0x40004 2 0 (tlCtrlLoss w (tlCtrlArm w (tlCtrlCal w s))) = 5 ∧
      (tlCtrlLoss w (tlCtrlArm w (tlCtrlCal w s))).tl.step = s.tl.step := by
  obtain ⟨hcr, hcs, hcstep⟩ := tlCtrlCal_facts w hr
  unfold tlCtrlLoss
  split
  · obtain ⟨hstop, hstep⟩ := tlInjLoss_stopped (s := tlCtrlArm w (tlCtrlCal w s)) hcr (hcs.trans h)
    exact ⟨hstop, hstep.trans hcstep⟩
  · exact ⟨hcs.trans h, hcstep⟩

/-- R56. -/
theorem tlEnableOff_stops {m : Master} {w : Word} {s : State} (hinv : Inv s) (hon : bits 0x40000 0 0 s = 1)
    (h : Served m true 0x40000 (fset w 0 0 0) s) :
    ∃ u, exec (.tlEnableOff m w) s = .next (closed s.pending u) ∧
      (bits 0x40004 2 0 u = 5 ∧ u.tl.tlv = s.tl.tlv ∧ u.now = s.now ∧ u.tl.step = none) := by
  refine ⟨_, exec_closed (f := writeCmd m 0x40000 (fset w 0 0 0)) rfl (tlCtrl_write h), ?_⟩
  rw [tlCtrl_eq, tlCtrlMain_stop _ hon (fget_fset_zero w (by omega))]
  obtain ⟨hstate, htlv, hnow, hstep, hrise⟩ :=
    tlStop_facts (s := storedPlain .tl 0 0x40000 (fset w 0 0 0) s) (storedPlain_rising hinv.regs_rising)
  obtain ⟨htail, htnow⟩ := tlCtrlTail_tlv (fset w 0 0 0) (tlStop (storedPlain .tl 0 0x40000 (fset w 0 0 0) s))
  obtain ⟨hts, htstep⟩ := tlCtrlTail_stopped (fset w 0 0 0) hrise hstate
  exact ⟨hts, htail.trans htlv, htnow.trans hnow, htstep.trans hstep⟩

/-- R56: a change to SYNC in FREE begins a seek. -/
theorem tlModeWrite_seeks {m : Master} {w : Word} {s : State} (hinv : Inv s) (hctrl : bits 0x40000 1 0 s = 1)
    (hfree : bits 0x40004 2 0 s = 0) (hw : fget w 1 0 = 3) (hloss : fget w 31 31 = 0) (h : Served m true 0x40000 w s) :
    ∃ u, exec (.tlModeWrite m w) s = .next (closed s.pending u) ∧ (bits 0x40004 2 0 u = 1 ∧ u.tl.tlv = s.tl.tlv) := by
  have hr := hinv.regs_rising
  have hfield (v : Word) : fget v 0 0 = fget v 1 0 % 2 ∧ fget v 1 1 = fget v 1 0 / 2 := by
    simp only [fget]; omega
  have hold0 : fget (s.getReg 0x40000) 0 0 = 1 := by rw [(hfield _).1]; exact congrArg (· % 2) hctrl
  have hold1 : fget (s.getReg 0x40000) 1 1 = 0 := by rw [(hfield _).2]; exact congrArg (· / 2) hctrl
  have hw0 : fget w 0 0 = 1 := by rw [(hfield w).1, hw]
  have hw1 : fget w 1 1 = 1 := by rw [(hfield w).2, hw]
  refine ⟨_, exec_closed rfl (tlCtrl_write h), ?_⟩
  rw [tlCtrl_eq, tlCtrlMain_mode _ hold0 hw0 (by omega)]
  generalize hst : storedPlain .tl 0 0x40000 w s = t
  have htr : Rising 0 t.regs := hst ▸ storedPlain_rising hr
  have hsync : tlSync t = true := by
    have hmode : fget (writtenWord .tl 0 0x40000 w (s.getReg 0x40000)) 1 1 = fget w 1 1 :=
      fget_writtenWord w _ (fun _ _ => rfl) (by decide +kernel)
    have hread : t.rd tlB R.TL_CTRL_MODE = 1 := by
      subst hst
      exact (congrArg (fget · 1 1) (State.getReg_setReg_same s.fresh _ _ hr)).trans (hmode.trans hw1)
    simp [tlSync, State.on, hread]
  have hstate : t.tlState = 0 := by
    subst hst
    exact (congrArg (fget · 2 0) (storedPlain_getReg_ne (k := 0x40004) hr (by omega))).trans hfree
  have hmode : tlMode t = tlGo 1 t := by simp [tlMode, hsync, hstate]
  rw [hmode]
  obtain ⟨-, hcs, -⟩ := tlCtrlCal_facts w (tlGo_tlKey 1 t htr).1
  obtain ⟨htail, -⟩ := tlCtrlTail_tlv w (tlGo 1 t)
  refine ⟨?_, ?_⟩
  · have hno : tlCtrlLoss w (tlCtrlArm w (tlCtrlCal w (tlGo 1 t))) = tlCtrlArm w (tlCtrlCal w (tlGo 1 t)) := by
      simp [tlCtrlLoss, hloss]
    rw [hno]
    exact hcs.trans (tlGo_state htr (by omega))
  · exact htail.trans ((congrArg TlSt.tlv (tlGo_tl 1 t)).trans (congrArg (·.tl.tlv) hst.symm))

/-! CAL and the injections. -/

/-- R60: CAL starts a measurement where none runs. -/
theorem tlCal_starts {m : Master} {w : Word} {s : State} (hidle : bits 0x40004 9 9 s = 0)
    (hen : fget w 0 0 = bits 0x40000 0 0 s) (hmode : fget w 1 1 = bits 0x40000 1 1 s)
    (h : Served m true 0x40000 (fset w 2 2 1) s) :
    ∃ u, exec (.tlCal m w) s = .next (closed s.pending u) ∧ u.tl.calRun = true := by
  refine ⟨_, exec_closed (f := writeCmd m 0x40000 (fset w 2 2 1)) rfl (tlCtrl_write h), ?_⟩
  have hsame (i : Nat) (hi : i < 2) : fget (fset w 2 2 1) i i = fget w i i := fget_fset_beside _ _ _ _ _ _ (by omega)
  rw [tlCtrl_eq, tlCtrlMain_same _ ((hsame 0 (by omega)).trans hen) ((hsame 1 (by omega)).trans hmode)]
  generalize hst : storedPlain .tl 0 0x40000 (fset w 2 2 1) s = t
  have hbusy : t.on tlB R.TL_STATUS_CAL_BUSY = false := by
    have hread : t.getReg 0x40004 = s.getReg 0x40004 :=
      hst ▸ State.getReg_setReg_of (s := s.fresh) (by omega) (.inr (by omega))
    have hzero : t.rd tlB R.TL_STATUS_CAL_BUSY = 0 := (congrArg (fget · 9 9) hread).trans hidle
    simp [State.on, hzero]
  have hrun : (tlCtrlCal (fset w 2 2 1) t).tl.calRun = true := by
    simp [tlCtrlCal, fget_fset_one, tlCal, hbusy]
  unfold tlCtrlLoss
  split
  · obtain ⟨-, -, -, -, -, -, -, -, hkeep⟩ := tlInjLoss_facts (tlCtrlArm (fset w 2 2 1) (tlCtrlCal (fset w 2 2 1) t))
    exact hkeep.trans hrun
  · exact hrun

/-- R78: each injection of a written word is armed. -/
theorem tlCtrlTail_arms (w : Word) (s : State) :
    let u := tlCtrlLoss w (tlCtrlArm w s)
    (fget w 27 27 = 1 → u.tl.injErr = true) ∧ (fget w 28 28 = 1 → u.tl.injMiss = true) ∧
      (fget w 29 29 = 1 → u.tl.injLate = true) ∧ (fget w 30 30 = 1 → u.tl.injReject = true) ∧
      (fget w 31 31 = 1 → u.tl.lost = true ∧ u.tl.injLoss.isSome = true) := by
  have harm : (fget w 27 27 = 1 → (tlCtrlArm w s).tl.injErr = true) ∧ (fget w 28 28 = 1 → (tlCtrlArm w s).tl.injMiss = true) ∧
      (fget w 29 29 = 1 → (tlCtrlArm w s).tl.injLate = true) ∧ (fget w 30 30 = 1 → (tlCtrlArm w s).tl.injReject = true) := by
    refine ⟨?_, ?_, ?_, ?_⟩ <;> intro h <;> simp [tlCtrlArm, h]
  intro u
  obtain ⟨h27, h28, h29, h30⟩ := harm
  by_cases hloss : fget w 31 31 = 1
  · have hu : u = tlInjLoss (tlCtrlArm w s) := if_pos (beq_iff_eq.mpr hloss)
    obtain ⟨hlost, hsome, -, -, herr, hmiss, hlate, hrej, -⟩ := tlInjLoss_facts (tlCtrlArm w s)
    rw [hu, herr, hmiss, hlate, hrej]
    exact ⟨h27, h28, h29, h30, fun _ => ⟨hlost, hsome⟩⟩
  · have hu : u = tlCtrlArm w s := if_neg (by simpa using hloss)
    rw [hu]
    exact ⟨h27, h28, h29, h30, fun h => absurd h hloss⟩

/-- A command that writes TL.CTRL with one injection's bit arms that injection. -/
theorem tlInj_arms {P : State → Prop} {m : Master} {w : Word} {s : State} {i : Instr} {k : Nat} (hk : k < 32)
    (hi : exec i s = run (writeCmd m 0x40000 (fset w k k 1)) s)
    (hP : ∀ t, fget (fset w k k 1) k k = 1 → P (answered m 0x40000 true 0 .done (tlCtrlLoss (fset w k k 1) (tlCtrlArm (fset w k k 1) t))))
    (h : Served m true 0x40000 (fset w k k 1) s) : ∃ u, exec i s = .next (closed s.pending u) ∧ P u :=
  ⟨_, exec_closed hi (tlCtrl_write h), hP _ (fget_fset_one w hk)⟩

/-! TL.STATUS. -/

/-- A served write of TL.STATUS does what its bits ask for (R65). -/
theorem tlStatus_write {m : Master} {w : Word} {s : State} (h : Served m true 0x40004 w s) :
    writeCmd m 0x40004 w s.fresh = answered m 0x40004 true 0 .done (tlStatus w s.fresh) :=
  served_regWrite (s := s.fresh) (b := .tl) (off := 4) h rfl

/-- R65: outside COAST, COASTED and the uncertainty clear. -/
theorem coastedClear_clears {m : Master} {w : Word} {s : State} (hinv : Inv s) (hcoast : bits 0x40004 2 0 s ≠ 4)
    (h : Served m true 0x40004 (fset w 3 3 1) s) :
    ∃ u, exec (.coastedClear m w) s = .next (closed s.pending u) ∧
      (bits 0x40004 3 3 u = 0 ∧ u.tl.uncBase = 0 ∧ u.tl.coast = .none ∧ u.tl.tlv = s.tl.tlv) := by
  refine ⟨_, exec_closed (f := writeCmd m 0x40004 (fset w 3 3 1)) rfl (tlStatus_write h), ?_⟩
  have hr := hinv.regs_rising
  generalize ht : (if fget (fset w 3 3 1) 7 7 == 1 then s.fresh.wr tlB R.TL_STATUS_BOUND_EXCEEDED 0 else s.fresh) = t
  have hfacts : Rising 0 t.regs ∧ t.rd tlB R.TL_STATUS_STATE = s.rd tlB R.TL_STATUS_STATE ∧ t.tl.tlv = s.tl.tlv := by
    subst ht
    split
    · exact ⟨s.fresh.wr_rising _ _ _ hr, State.rd_wr_beside s.fresh tlB tlB _ _ 0 hr rfl (by decide), rfl⟩
    · exact ⟨hr, rfl, rfl⟩
  obtain ⟨htr, hstate, htlv⟩ := hfacts
  have hne : t.tlState ≠ 4 := by rw [State.tlState, hstate]; exact hcoast
  have hu : tlStatus (fset w 3 3 1) s.fresh = uncClear t := by
    unfold tlStatus
    simp only [ht]
    simp [fget_fset_one, hne]
  rw [hu]
  refine ⟨?_, rfl, rfl, htlv⟩
  exact (State.rd_wr_same t tlB R.TL_STATUS_COASTED 0 htr (by decide)).trans rfl

/-- R65: in COAST a clear of COASTED changes nothing. -/
theorem coastedClear_ignored {m : Master} {w : Word} {s : State} (hcoast : bits 0x40004 2 0 s = 4) (hw : fget w 7 7 = 0)
    (h : Served m true 0x40004 (fset w 3 3 1) s) :
    ∃ u, exec (.coastedClear m w) s = .next (closed s.pending u) ∧ u = answered m 0x40004 true 0 .done s.fresh := by
  refine ⟨_, exec_closed (f := writeCmd m 0x40004 (fset w 3 3 1)) rfl (tlStatus_write h), ?_⟩
  have hstate : s.fresh.tlState = 4 := hcoast
  have hw7 : fget (fset w 3 3 1) 7 7 = 0 := (fget_fset_beside _ _ _ _ _ _ (by omega)).trans hw
  simp [tlStatus, hw7, hstate]

end Sys2Proof.Machine
end

section
/-! Pulses, misses, steps and windows of the timeline unit (R55 to R65, R78). -/

namespace Sys2Proof.Machine

/-! The passing of time. -/

/-- What the passing of time changes: true time, and TLV. -/
theorem State.advance_eq (s : State) (d : Nat) :
    s.advance d = { s with now := s.now + d, tl := { s.tl with tlv := (s.advance d).tl.tlv } } := by
  unfold State.advance
  simp only []
  split
  · rfl
  · split <;> rfl

theorem State.advanceNow_now (s : State) (t : Nat) : (s.advanceNow t).now = max s.now t := by
  rw [State.advanceNow, State.advance_now]
  omega

@[simp] theorem State.advance_bbOn (s : State) (d : Nat) : (s.advance d).bbOn = s.bbOn := by
  rw [State.advance_eq]
  rfl

/-! Resets of the watch chains do not touch the timeline. -/

theorem foldl_keeps {α β : Type} (p : State → β) {f : State → α → State} (h : ∀ s a, p (f s a) = p s) (l : List α) (s : State) :
    p (l.foldl f s) = p s := by
  induction l generalizing s with
  | nil => rfl
  | cons a l ih => exact (ih _).trans (h s a)

theorem chainReset_tl (n c : Nat) (s : State) : (chainReset n c s).tl = s.tl ∧ (chainReset n c s).now = s.now := by
  unfold chainReset
  simp only []
  split <;> exact ⟨rfl, rfl⟩

theorem watchStep_tl (s : State) : (watchStep s).tl = s.tl ∧ (watchStep s).now = s.now := by
  have hall (n : Nat) (t : State) : (chainResetAll n t).tl = t.tl ∧ (chainResetAll n t).now = t.now :=
    ⟨foldl_keeps State.tl (fun s c => (chainReset_tl n c s).1) _ _, foldl_keeps State.now (fun s c => (chainReset_tl n c s).2) _ _⟩
  have hone (t : State) (n : Nat) :
      (if t.domOn n then chainResetAll n t else t).tl = t.tl ∧ (if t.domOn n then chainResetAll n t else t).now = t.now := by
    split
    · exact hall n t
    · exact ⟨rfl, rfl⟩
  exact ⟨foldl_keeps State.tl (fun s n => (hone s n).1) _ _, foldl_keeps State.now (fun s n => (hone s n).2) _ _⟩

theorem watchSync_tl (e : Nat) (s : State) : (watchSync e s).tl = s.tl := by
  refine foldl_keeps State.tl (fun s n => ?_) _ _
  have hdue (t : State) : ((List.range 5).foldl (fun s c => chainDue n c e s) t).tl = t.tl :=
    foldl_keeps State.tl (f := fun s c => chainDue n c e s) (fun _ _ => rfl) _ _
  simp only []
  split
  · split
    · exact hdue s
    · exact hdue s
  · rfl

/-! A pulse. -/

/-- The port's sends do not touch the passing of time. -/
theorem State.advance_fresh (s : State) (d : Nat) : s.fresh.advance d = (s.advance d).fresh := by
  have hcount : s.fresh.counting = s.counting := rfl
  have hstate : s.fresh.rd tlB R.TL_STATUS_STATE = s.rd tlB R.TL_STATUS_STATE := rfl
  unfold State.advance
  rw [hcount, hstate]
  simp only []
  split
  · rfl
  · change (if (_ && !s.tl.realigned) = true then _ else _) = _
    split <;> rfl

/-- TL_SYNC is not found stuck. -/
def syncGood (s : State) : State := { s with syncBad := none }

theorem syncGood_of {s : State} (h : s.syncBad = none) : syncGood s = s := by
  cases s
  cases h
  rfl

/-- What a pulse does once its edge has come. -/
def pulseAt (s : State) : State :=
  if s.tl.lost then s
  else match s.tlState with
    | 1 => tlSeekLoad s
    | 2 => tlClassify s
    | 3 => tlClassify s
    | 4 => if s.tl.realigned then tlResolve s else s
    | _ => s

theorem tlPulse_eq (c : Nat) (s : State) : tlPulse c s =
    let t := s.advance (tlEdge c s)
    if !t.bbOn then t
    else if t.syncBad.any (fun x => decide (t.now < x + 16 * 250)) then t
    else pulseAt (tlInjOver (tlStepPast (syncGood t))) := rfl

/-- A pulse that the timeline takes: the edge has come, no step is due and no loss is injected. -/
theorem tlPulse_taken {c : Nat} {s : State} (hbb : s.bbOn = true) (hsync : s.syncBad = none) (hstep : s.tl.step = none)
    (hinj : s.tl.injLoss = none) : tlPulse c s = pulseAt (s.advance (tlEdge c s)) := by
  have hfacts : (s.advance (tlEdge c s)).syncBad = none ∧ (s.advance (tlEdge c s)).tl.step = none ∧
      (s.advance (tlEdge c s)).tl.injLoss = none ∧ (s.advance (tlEdge c s)).bbOn = true := by
    rw [State.advance_eq]
    exact ⟨hsync, hstep, hinj, hbb⟩
  rw [tlPulse_eq]
  generalize s.advance (tlEdge c s) = t at hfacts
  obtain ⟨htsync, htstep, htinj, htbb⟩ := hfacts
  have hpast : tlStepPast t = t := by rw [tlStepPast, htstep]
  have hover : tlInjOver t = t := by rw [tlInjOver, htinj]
  simp only [htbb, htsync, syncGood_of htsync, hpast, hover, Option.any_none, Bool.not_true, Bool.false_eq_true, if_false]

@[simp] theorem State.advance_getReg (s : State) (d k : Nat) : (s.advance d).getReg k = s.getReg k := by
  rw [State.getReg, State.advance_regs, ← State.getReg]

theorem State.advance_tlState (s : State) (d : Nat) : (s.advance d).tlState = bits 0x40004 2 0 s := by
  rw [State.tlState, State.rd, State.advance_getReg]
  rfl

/-- R55: in SEEK the pulse loads TLV with EPOCH at the edge that samples it. -/
theorem syncPulse_seek {c : BitVec 40} {s : State} (hinv : Inv s) (hbb : s.bbOn = true) (hsync : s.syncBad = none)
    (hstep : s.tl.step = none) (hlost : s.tl.lost = false) (hinj : s.tl.injLoss = none) (hseek : bits 0x40004 2 0 s = 1) :
    ∃ u, exec (.syncPulse c) s = .next (closed s.pending u) ∧
      (u.tl.tlv = BitVec.ofNat 64 ((s.getReg 0x40010).toNat + (s.getReg 0x40014).toNat * 2 ^ 32) ∧
      u.now = s.now + ((250 - s.now % 250) % 250 + c.toNat * 250)) := by
  refine ⟨_, exec_closed (f := tlPulse c.toNat) rfl (tlPulse_taken (s := s.fresh) hbb hsync hstep hinj), ?_⟩
  rw [State.advance_fresh]
  generalize hd : tlEdge c.toNat s.fresh = d
  have hr : Rising 0 (s.advance d).fresh.regs := (s.advance_regs d).symm ▸ hinv.regs_rising
  have hseek' : (s.advance d).fresh.tlState = 1 := (s.advance_tlState d).trans hseek
  have hlost' : (s.advance d).fresh.tl.lost = false := by
    rw [State.advance_eq]
    exact hlost
  have heff : pulseAt (s.advance d).fresh = tlGo 2 (tlLoadEpoch (s.advance d).fresh) := by
    simp only [pulseAt, hlost', hseek', Bool.false_eq_true, if_false]
    rfl
  obtain ⟨htlv, hnow⟩ := tlLoadEpoch_tlv hr
  rw [heff, tlGo_tl, tlGo_now]
  refine ⟨htlv.trans ?_, hnow.trans ?_⟩
  · exact congrArg (BitVec.ofNat 64) ((tlEpoch_eq _).trans (congrArg₂ (fun a b => a.toNat + b.toNat * 2 ^ 32)
      (s.advance_getReg d 0x40010) (s.advance_getReg d 0x40014)))
  · exact (s.advance_now d).trans (congrArg (s.now + ·) hd.symm)

/-- SYNC_INTERVAL in ticks, as the host wrote it. -/
theorem tlInterval_eq (s : State) : tlInterval s = max 1 (s.getReg 0x40018).toNat * 250 :=
  congrArg (fun x => max 1 x * 250) (fget_full _)

/-- A match takes the pulse at its instant and moves the expected one on by an interval (R57). -/
theorem tlMatch_facts (s : State) : (tlMatch s).tl.expect = s.tl.expect + tlInterval s ∧ (tlMatch s).tl.misses = 0 ∧
    (tlMatch s).tl.firstErr = none := by
  have hint : tlInterval (s.cnt tlB R.TL_SYNC_CNT_OK 1) = tlInterval s := by
    rw [tlInterval_eq, tlInterval_eq, State.getReg_cnt_of (by decide) (by decide) (by decide +kernel)]
  have htl (t : State) (e : Nat) : (watchSync e (dlyTake t)).tl = { t.tl with newDly := [] } := by
    rw [watchSync_tl, dlyTake_tl]
  unfold tlMatch
  simp only []
  rw [hint]
  split
  · rw [tlGo_tl, htl]
    exact ⟨rfl, rfl, rfl⟩
  · rw [htl]
    exact ⟨rfl, rfl, rfl⟩

/-- R57: at the expected instant a pulse matches. -/
theorem syncPulse_match {c : BitVec 40} {s : State} (hbb : s.bbOn = true) (hsync : s.syncBad = none) (hstep : s.tl.step = none)
    (hlost : s.tl.lost = false) (hinj : s.tl.injLoss = none) (hstate : bits 0x40004 2 0 s = 2 ∨ bits 0x40004 2 0 s = 3)
    (herr : s.tl.injErr = false) (hmiss : s.tl.injMiss = false)
    (hexp : (s.advance ((250 - s.now % 250) % 250 + c.toNat * 250)).tl.tlv.toNat = s.tl.expect) :
    ∃ u, exec (.syncPulse c) s = .next (closed s.pending u) ∧
      (u.tl.expect = s.tl.expect + max 1 (s.getReg 0x40018).toNat * 250 ∧ u.tl.misses = 0 ∧ u.tl.firstErr = none) := by
  refine ⟨_, exec_closed (f := tlPulse c.toNat) rfl (tlPulse_taken (s := s.fresh) hbb hsync hstep hinj), ?_⟩
  rw [State.advance_fresh]
  have hexp' : (s.advance (tlEdge c.toNat s.fresh)).fresh.tl.tlv.toNat = s.tl.expect := hexp
  generalize tlEdge c.toNat s.fresh = d at hexp'
  have hst : (s.advance d).fresh.tlState = 2 ∨ (s.advance d).fresh.tlState = 3 :=
    hstate.imp (s.advance_tlState d).trans (s.advance_tlState d).trans
  have hfacts : (s.advance d).fresh.tl.lost = false ∧ (s.advance d).fresh.tl.injErr = false ∧
      (s.advance d).fresh.tl.injMiss = false ∧ (s.advance d).fresh.tl.expect = s.tl.expect := by
    rw [State.advance_eq]
    exact ⟨hlost, herr, hmiss, rfl⟩
  have hint : tlInterval (s.advance d).fresh = max 1 (s.getReg 0x40018).toNat * 250 :=
    (tlInterval_eq _).trans (congrArg (fun w => max 1 w.toNat * 250) (s.advance_getReg d 0x40018))
  generalize (s.advance d).fresh = t at hexp' hst hfacts hint
  obtain ⟨htlost, hterr, htmiss, htexp⟩ := hfacts
  have hclass : tlClassify t = tlMatch t := by
    have hzero : ((t.tlv.toNat : Int) - s.tl.expect) = 0 := by
      have htlv : t.tlv.toNat = s.tl.expect := hexp'
      omega
    simp [tlClassify, hterr, htmiss, htexp, hzero]
  have heff : pulseAt t = tlMatch t := by
    rcases hst with h | h <;> simp only [pulseAt, htlost, h, hclass, Bool.false_eq_true, if_false]
  rw [heff, ← htexp, ← hint]
  exact tlMatch_facts t

/-! A miss. -/

/-- The timeline after a miss has been counted. -/
def missCounted (s : State) : State :=
  let s := s.advance (s.tl.expect + s.rd tlB R.TL_SYNC_CFG_WINDOW * 250 - s.tlv.toNat)
  let s := s.cnt tlB R.TL_SYNC_CNT_MISS 1
  { s with tl := { s.tl with injMiss := false, firstErr := none, misses := s.tl.misses + 1,
                             expect := s.tl.expect + tlInterval s } }

theorem tlMiss_eq {s : State} (hbb : s.bbOn = true) (hstate : s.tlState = 2 ∨ s.tlState = 3) : tlMiss s =
    if (missCounted s).tlState == 2 && decide (max 1 ((missCounted s).rd tlB R.TL_SYNC_CFG_LOSS_N) ≤ (missCounted s).tl.misses)
    then (tlGo 3 (missCounted s)).raise 0x421 else missCounted s := by
  have hin : (s.bbOn && (s.tlState == 2 || s.tlState == 3)) = true := by
    simpa [hbb] using hstate
  unfold tlMiss
  rw [if_pos hin]
  rfl

theorem missCounted_facts (s : State) : (missCounted s).tl.misses = s.tl.misses + 1 ∧
    (missCounted s).tl.expect = s.tl.expect + max 1 (s.getReg 0x40018).toNat * 250 ∧ (missCounted s).tl.injMiss = false ∧
    (missCounted s).tl.firstErr = none := by
  unfold missCounted
  simp only []
  generalize s.tl.expect + s.rd tlB R.TL_SYNC_CFG_WINDOW * 250 - s.tlv.toNat = d
  have hint : tlInterval ((s.advance d).cnt tlB R.TL_SYNC_CNT_MISS 1) = max 1 (s.getReg 0x40018).toNat * 250 := by
    rw [tlInterval_eq, State.getReg_cnt_of (by decide) (by decide) (by decide +kernel), State.advance_getReg]
  rw [hint, State.cnt_tl, State.advance_eq]
  exact ⟨rfl, rfl, trivial, trivial⟩

/-- R57: a miss counts and moves the expected instant on. -/
theorem syncMiss_counts {s : State} (hbb : s.bbOn = true) (hstate : bits 0x40004 2 0 s = 2 ∨ bits 0x40004 2 0 s = 3) :
    ∃ u, exec .syncMiss s = .next (closed s.pending u) ∧
      (u.tl.misses = s.tl.misses + 1 ∧ u.tl.expect = s.tl.expect + max 1 (s.getReg 0x40018).toNat * 250 ∧
      u.tl.injMiss = false ∧ u.tl.firstErr = none) := by
  refine ⟨_, exec_closed (f := tlMiss) rfl (tlMiss_eq (s := s.fresh) hbb hstate), ?_⟩
  have hfacts := missCounted_facts s.fresh
  generalize missCounted s.fresh = t at hfacts
  split
  · rw [State.raise_tl, tlGo_tl]
    exact hfacts
  · exact hfacts

/-! Steps, windows and measurements. -/

/-- A step larger than the bound is noted (R65). -/
def stepBound (d : StepDue) (s : State) : State :=
  if s.unc < d.size.natAbs then s.wr tlB R.TL_STATUS_BOUND_EXCEEDED 1 else s

/-- A step that resolves a coast clears the uncertainty. -/
def stepCoast (d : StepDue) (s : State) : State := if d.coast then uncClear (stepBound d s) else s

/-- No step is due, and no run of misses or mismatches stands. -/
def stepTaken (s : State) : State := { s with tl := { s.tl with step := none, misses := 0, firstErr := none } }

theorem tlTakeStep_eq (d : StepDue) (s : State) : tlTakeStep d s =
    tlGo 2 (watchStep (tlLoad (BitVec.ofInt 64 ((s.tlv.toNat : Int) + d.size)) (stepTaken (stepCoast d s)))) := rfl

theorem stepCoast_now (d : StepDue) (s : State) : (stepCoast d s).now = s.now := by
  unfold stepCoast stepBound
  split
  · split <;> rfl
  · rfl

/-- R58: a due step moves TLV by its signed size at its instant. -/
theorem timelineStep_steps {s : State} {d : StepDue} (hstep : s.tl.step = some d) (hcount : s.counting = true) :
    ∃ u, exec .timelineStep s = .next (closed s.pending u) ∧
      (u.tl.tlv = BitVec.ofInt 64 (((s.advanceNow d.at_).tl.tlv.toNat : Int) + d.size) ∧ u.now = max s.now d.at_ ∧
        u.tl.step = none) := by
  have heff : tlStep s.fresh = tlTakeStep d (s.fresh.advanceNow d.at_) := by
    have hcount' : s.fresh.counting = true := hcount
    have hstep' : s.fresh.tl.step = some d := hstep
    simp [tlStep, hstep', hcount']
  have htlv : (s.fresh.advanceNow d.at_).tl.tlv = (s.advanceNow d.at_).tl.tlv :=
    congrArg (·.tl.tlv) (s.advance_fresh (d.at_ - s.now))
  refine ⟨_, exec_closed (f := tlStep) rfl heff, ?_⟩
  rw [tlTakeStep_eq, tlGo_tl, tlGo_now, (watchStep_tl _).1, (watchStep_tl _).2, tlLoad_tl, tlLoad_now]
  have hnow : (stepTaken (stepCoast d (s.fresh.advanceNow d.at_))).now = max s.now d.at_ :=
    (stepCoast_now d _).trans (State.advanceNow_now s.fresh d.at_)
  rw [hnow, State.tlv, htlv]
  exact ⟨rfl, rfl, rfl⟩

/-- A field that is a whole word takes the word written. -/
theorem fset_full (w v : Word) : fset w 31 0 v.toNat = v := by
  refine BitVec.eq_of_toNat_eq ?_
  rw [← fget_full, fget_fset_same _ _ _ (by omega)]
  exact Nat.mod_eq_of_lt v.isLt

/-- R63: a rate window ends with its rate shown. -/
theorem emberRateWindow_ends {r : Word} {s : State} {t : Nat} (hinv : Inv s) (hfrom : s.tl.rateFrom = some t)
    (hbb : s.bbOn = true) : ∃ u, exec (.emberRateWindow r) s = .next (closed s.pending u) ∧
      (u.getReg 0x4F00C = r ∧ bits 0x40004 8 8 u = 1 ∧ u.now = max s.now (t + 2 ^ 24 * 250) ∧ u.tl.rateFrom = some u.now) := by
  have heff : emberWindow r.toNat s.fresh =
      let v := s.fresh.advanceNow (t + 2 ^ 24 * 250)
      let v := (v.wr tlB R.TL_EMBER_RATE_RATE r.toNat).wr tlB R.TL_STATUS_RATE_VALID 1
      { v with tl := { v.tl with rateFrom := some v.now } } := by
    have hfrom' : s.fresh.tl.rateFrom = some t := hfrom
    have hbb' : s.fresh.bbOn = true := hbb
    simp only [emberWindow, hfrom', hbb', if_true]
  refine ⟨_, exec_closed (f := emberWindow r.toNat) rfl heff, ?_⟩
  have hnow := State.advanceNow_now s.fresh (t + 2 ^ 24 * 250)
  have hr : Rising 0 (s.fresh.advanceNow (t + 2 ^ 24 * 250)).regs := by
    rw [State.advanceNow, State.advance_regs]; exact hinv.regs_rising
  generalize s.fresh.advanceNow (t + 2 ^ 24 * 250) = v at hnow hr
  have hrate : ((v.wr tlB R.TL_EMBER_RATE_RATE r.toNat).wr tlB R.TL_STATUS_RATE_VALID 1).getReg 0x4F00C = r := by
    refine (State.getReg_wr_ne _ _ (v.wr_rising _ _ _ hr) (by decide)).trans ?_
    refine (State.getReg_wr_same v tlB R.TL_EMBER_RATE_RATE r.toNat hr).trans ?_
    exact fset_full _ r
  refine ⟨hrate, ?_, hnow, rfl⟩
  exact State.rd_wr_same _ tlB R.TL_STATUS_RATE_VALID 1 (v.wr_rising _ _ _ hr) (by decide)

/-- R60: the delay measurement ends. -/
theorem laneDlyMeasured_ends {l : List LaneDly} {s : State} (hrun : s.tl.calRun = true) :
    ∃ u, exec (.laneDlyMeasured l) s = .next (closed s.pending u) ∧ u.tl.calRun = false := by
  refine ⟨_, exec_closed (f := dlyMeasured (l.map (fun d : LaneDly => (d.lane.val, d.ticks.toNat)))) rfl rfl, ?_⟩
  have hrun' : s.fresh.tl.calRun = true := hrun
  unfold dlyMeasured
  rw [if_pos hrun']
  simp only []
  split
  · rw [dlyTake_tl]
  · rfl

/-- R60: the replica's correction. -/
theorem replicaCorrection_ends (s : State) : ∃ u, exec .replicaCorrection s = .next (closed s.pending u) ∧
    (u.now = max s.now (s.tl.corrAt + 256000) ∧ u.tl.corrAt = u.now ∧ u.regs = s.regs) :=
  ⟨_, exec_closed (f := replicaCorrect) rfl rfl, State.advanceNow_now s.fresh _, rfl, State.advance_regs s.fresh _⟩

/-! The end of an injected loss. -/

/-- TL_CLK declared good: its status and event. -/
def tlclkUp (s : State) : State :=
  if s.on clkB R.CLK_STATUS_TLCLK_OK then s.wr clkB R.CLK_STATUS_TLCLK_OK 1
  else (s.wr clkB R.CLK_STATUS_TLCLK_OK 1).raise 0x3F2

/-- The timeline with TL_CLK present again. -/
def tlClkHere (s : State) : State := { s with tl := { s.tl with lost := false, rateFrom := some s.now } }

theorem tlclkGood_eq (s : State) : tlclkGood s =
    let t := tlClkHere (tlclkUp s)
    if t.tlState == 4 && !t.tl.realigned then tlBack t else t := rfl

theorem tlclkUp_facts (s : State) : (tlclkUp s).tl = s.tl ∧ (tlclkUp s).now = s.now := by
  unfold tlclkUp
  split
  · exact ⟨rfl, rfl⟩
  · rw [State.raise_tl, State.raise_now]
    exact ⟨rfl, rfl⟩

theorem tlRealign_eq (s : State) : ∃ v, tlRealign s = { s with tl := { s.tl with tlv := v, realigned := true } } := ⟨_, rfl⟩

theorem tlRealign_facts (s : State) : (tlRealign s).tl.lost = s.tl.lost ∧ (tlRealign s).tl.injLoss = s.tl.injLoss ∧
    (tlRealign s).now = s.now := by
  obtain ⟨v, h⟩ := tlRealign_eq s
  rw [h]
  exact ⟨rfl, rfl, rfl⟩

theorem tlBack_cases (s : State) : tlBack s = tlRealign (uncStop s) ∨ tlBack s = tlFree (tlRealign (uncStop s)) := by
  by_cases h : tlSync (tlRealign (uncStop s)) = true
  · exact .inl (if_pos h)
  · exact .inr (if_neg h)

theorem tlBack_facts (s : State) : (tlBack s).tl.lost = s.tl.lost ∧ (tlBack s).tl.injLoss = s.tl.injLoss ∧
    (tlBack s).now = s.now := by
  have hkeep := tlRealign_facts (uncStop s)
  rcases tlBack_cases s with h | h <;> rw [h]
  · exact hkeep
  · rw [tlFree_tl, tlFree_now]
    exact hkeep

theorem tlclkGood_facts (s : State) : (tlclkGood s).tl.lost = false ∧ (tlclkGood s).tl.injLoss = s.tl.injLoss ∧
    (tlclkGood s).now = s.now := by
  obtain ⟨htl, hnow⟩ := tlclkUp_facts s
  rw [tlclkGood_eq, ← hnow, ← htl]
  generalize tlclkUp s = t
  have hhere : (tlClkHere t).tl.lost = false ∧ (tlClkHere t).tl.injLoss = t.tl.injLoss ∧ (tlClkHere t).now = t.now :=
    ⟨rfl, rfl, rfl⟩
  obtain ⟨hlost, hinj, hsame⟩ := hhere
  simp only []
  split
  · obtain ⟨hb, hbinj, hbnow⟩ := tlBack_facts (tlClkHere t)
    exact ⟨hb.trans hlost, hbinj.trans hinj, hbnow.trans hsame⟩
  · exact ⟨hlost, hinj, hsame⟩

/-- R78: an injected loss ends with TL_CLK good. -/
theorem tlInjTlclkLossEnd_ends {s : State} {t : Nat} (hinj : s.tl.injLoss = some t) (hdecl : look 0 s.clk.decl 2 ≠ 2) :
    ∃ u, exec .tlInjTlclkLossEnd s = .next (closed s.pending u) ∧
      (u.tl.injLoss = none ∧ u.tl.lost = false ∧ u.now = max s.now t) := by
  have heff : tlInjLossEnd s.fresh = tlInjOver (s.fresh.advanceNow t) := by
    have hinj' : s.fresh.tl.injLoss = some t := hinj
    simp only [tlInjLossEnd, hinj']
  refine ⟨_, exec_closed (f := tlInjLossEnd) rfl heff, ?_⟩
  have hnow := State.advanceNow_now s.fresh t
  have hkeep : (s.fresh.advanceNow t).tl.injLoss = some t ∧ (s.fresh.advanceNow t).clk = s.clk := by
    rw [State.advanceNow, State.advance_eq]
    exact ⟨hinj, rfl⟩
  generalize s.fresh.advanceNow t = v at hnow hkeep
  obtain ⟨hvinj, hvclk⟩ := hkeep
  have hover : tlInjOver v = tlclkGood { v with tl := { v.tl with injLoss := none } } := by
    rw [tlInjOver, hvinj]
    simp [hvclk, hdecl]
  rw [hover]
  obtain ⟨hlost, hnone, hgnow⟩ := tlclkGood_facts { v with tl := { v.tl with injLoss := none } }
  exact ⟨hnone, hlost, hgnow.trans hnow⟩

/-- Settles O16: TL.CTRL and TL.STATUS by the bits of the word written, and the unit's events by the state they find. -/
theorem timelineUnit : Obligations.TimelineUnit := by
  unfold Obligations.TimelineUnit
  refine ⟨fun m w s hinv hoff h => tlEnableOn_loads hinv hoff h, fun m w s hinv hon h => tlEnableOff_stops hinv hon h,
    fun m w s hinv hctrl hfree hw hloss h => tlModeWrite_seeks hinv hctrl hfree hw hloss h,
    fun m w s hinv hcoast h => coastedClear_clears hinv hcoast h, fun m w s hcoast hw h => coastedClear_ignored hcoast hw h,
    fun m w s hidle hen hmode h => tlCal_starts hidle hen hmode h, ?_, ?_, ?_, ?_, ?_,
    fun c s hinv hbb hsync hstep hlost hinj hseek => syncPulse_seek hinv hbb hsync hstep hlost hinj hseek,
    fun c s hbb hsync hstep hlost hinj hstate herr hmiss hexp =>
      syncPulse_match hbb hsync hstep hlost hinj hstate herr hmiss hexp,
    fun s hbb hstate => syncMiss_counts hbb hstate, fun s d hstep hcount => timelineStep_steps hstep hcount,
    fun r s t hinv hfrom hbb => emberRateWindow_ends hinv hfrom hbb, fun l s hrun => laneDlyMeasured_ends hrun,
    fun s => replicaCorrection_ends s, fun s t hinj hdecl => tlInjTlclkLossEnd_ends hinj hdecl⟩
  · exact fun m w s => tlInj_arms (by omega) rfl fun t hk => (tlCtrlTail_arms _ t).2.2.2.2 hk
  · exact fun m w s => tlInj_arms (by omega) rfl fun t hk => (tlCtrlTail_arms _ t).2.2.2.1 hk
  · exact fun m w s => tlInj_arms (by omega) rfl fun t hk => (tlCtrlTail_arms _ t).2.2.1 hk
  · exact fun m w s => tlInj_arms (by omega) rfl fun t hk => (tlCtrlTail_arms _ t).2.1 hk
  · exact fun m w s => tlInj_arms (by omega) rfl fun t hk => (tlCtrlTail_arms _ t).1 hk

end Sys2Proof.Machine
end

section
/-! The operations of TL.ACT_CMD on the entries of the timed-action memory (R68, R69, R72). -/

namespace Sys2Proof.Machine

/-! Runs of register writes. -/

/-- Words stored at the keys `b`, `b + 4`, … -/
def storeWords (b n : Nat) (v : Nat → Word) (s : State) : State := (List.range n).foldl (fun t j => t.setReg (b + 4 * j) (v j)) s

theorem storeWords_regs {b n : Nat} {v : Nat → Word} {s : State} (hr : Rising 0 s.regs) :
    Rising 0 (storeWords b n v s).regs ∧ (∀ j < n, (storeWords b n v s).getReg (b + 4 * j) = v j) ∧
      ∀ k, (∀ j < n, k ≠ b + 4 * j) → (storeWords b n v s).getReg k = s.getReg k := by
  induction n with
  | zero => exact ⟨hr, by simp, fun _ _ => rfl⟩
  | succ n ih =>
    have hstep : storeWords b (n + 1) v s = (storeWords b n v s).setReg (b + 4 * n) (v n) := by
      simp only [storeWords, List.range_succ, List.foldl_append, List.foldl_cons, List.foldl_nil]
    obtain ⟨hrn, hin, hout⟩ := ih
    rw [hstep]
    refine ⟨State.setReg_rising _ _ _ hrn, fun j hj => ?_, fun k hk => ?_⟩
    · by_cases h : j = n
      · subst h; exact State.getReg_setReg_same _ _ _ hrn
      · rw [State.getReg_setReg_ne _ _ hrn (by omega), hin j (by omega)]
    · rw [State.getReg_setReg_ne _ _ hrn (hk n (by omega)), hout k fun j hj => hk j (by omega)]

@[simp] theorem storeWords_acts (b n : Nat) (v : Nat → Word) (s : State) : (storeWords b n v s).acts = s.acts :=
  foldl_keeps State.acts (f := fun t j => t.setReg (b + 4 * j) (v j)) (fun _ _ => rfl) _ s

/-! Entries. -/

/-- The invariant's map of entries has rising keys. -/
theorem Inv.acts_rising {s : State} (h : Inv s) : Rising 0 s.acts := by
  obtain ⟨-, -, -, -, -, htidy, -⟩ := h
  simp only [State.tidied, Bool.and_eq_true, and_assoc] at htidy
  obtain ⟨hacts, -⟩ := htidy
  exact (risesFrom_iff 0 _).mp hacts

/-- Entry i lies in the object keys, apart from every other entry. -/
theorem actB_eq (i : Nat) : actB i = 316659348799488 + i * 1048576 := by
  simp only [actB, Obj.base, objKey]
  omega

theorem actW_eq (i j : Nat) (s : State) : actW i j s = s.getReg (actB i + 0x84 + 4 * j) := rfl

theorem actState_eq (i : Nat) (s : State) : actState i s = fget (s.getReg (actB i + 0x94)) 2 0 := rfl

/-- Entering a state writes the entry's status and the count of empty entries alone. -/
theorem actGo_getReg {i st k : Nat} {s : State} (hr : Rising 0 s.regs) (hfree : k ≠ 0x40098) (hstat : k ≠ actB i + 0x94) :
    (actGo i st s).getReg k = s.getReg k := by
  have hwr : Touches (fun k => k = 0x40098 ∨ k = actB i + 0x94) s (actGo i st s) := by
    unfold actGo
    exact ((Touches.refl _ s).wr _ (.inl rfl)).wr _ (.inr rfl)
  exact (hwr hr).2 k (by omega)

theorem actGo_rising {i st : Nat} {s : State} (hr : Rising 0 s.regs) : Rising 0 (actGo i st s).regs := by
  unfold actGo
  exact State.wr_rising _ _ _ _ (State.wr_rising _ _ _ _ hr)

/-- The state that an entry enters. -/
theorem actGo_state {i st : Nat} {s : State} (hr : Rising 0 s.regs) (hst : st < 8) : actState i (actGo i st s) = st := by
  unfold actGo actState
  rw [State.rd_wr_same _ _ _ _ (State.wr_rising _ _ _ _ hr) (by decide)]
  exact Nat.mod_eq_of_lt hst

@[simp] theorem actGo_acts (i st : Nat) (s : State) : (actGo i st s).acts = s.acts := rfl

/-- ACT_STATUS shows an entry without touching it. -/
theorem actShow_getReg {i res k : Nat} {s : State} (hr : Rising 0 s.regs) (hk : k ≠ 0x40094) :
    (actShow i res s).getReg k = s.getReg k := by
  unfold actShow
  exact State.getReg_setReg_ne _ _ hr hk

@[simp] theorem actShow_acts (i res : Nat) (s : State) : (actShow i res s).acts = s.acts := rfl

/-- What a command leaves of entry `i`: its state and its words. -/
structure ActLeft (i st : Nat) (v : Nat → Word) (u : State) : Prop where
  state : actState i u = st
  words : ∀ j : Fin 4, actW i j.val u = v j.val

/-- An entry is as the registers of its words and status say. -/
theorem ActLeft.congr {i st : Nat} {v : Nat → Word} {t u : State} (h : ActLeft i st v t)
    (hkeys : ∀ k, actB i ≤ k → u.getReg k = t.getReg k) : ActLeft i st v u := by
  obtain ⟨hst, hw⟩ := h
  refine ⟨?_, fun j => ?_⟩
  · rw [actState_eq, hkeys _ (by omega), ← actState_eq, hst]
  · rw [actW_eq, hkeys _ (by omega), ← actW_eq, hw]

/-- Entering a state and showing the entry leaves its words. -/
theorem actLeft_show {i st res : Nat} {s : State} (hr : Rising 0 s.regs) (hst : st < 8) :
    ActLeft i st (fun j => actW i j s) (actShow i res (actGo i st s)) := by
  have hbase := actB_eq i
  have hleft : ActLeft i st (fun j => actW i j s) (actGo i st s) :=
    ⟨actGo_state hr hst, fun j => by
      rw [actW_eq, actGo_getReg hr (by omega) (by omega), ← actW_eq]⟩
  exact hleft.congr fun k hk => actShow_getReg (actGo_rising hr) (by omega)

/-- The words of ACT_W, as a command finds them. -/
def actWin (s : State) (j : Nat) : Word := s.getReg (0x40084 + 4 * j)

/-- An entry stored from given words. -/
def actStore (i : Nat) (v : Nat → Word) (s : State) : State := txForgetEntry i (storeWords (actB i + 0x84) 4 v s)

/-- An entry armed by a master. -/
def actArm (m : Master) (i : Nat) (s : State) : State := actGo i 2 (s.setAct i { ActSt.idle with master := Master.id m })

theorem txForgetEntry_getReg (i k : Nat) (s : State) : (txForgetEntry i s).getReg k = s.getReg k := rfl

@[simp] theorem txForgetEntry_regs (i : Nat) (s : State) : (txForgetEntry i s).regs = s.regs := rfl

@[simp] theorem txForgetEntry_acts (i : Nat) (s : State) : (txForgetEntry i s).acts = s.acts := rfl

theorem actStore_rising {i : Nat} {v : Nat → Word} {s : State} (hr : Rising 0 s.regs) : Rising 0 (actStore i v s).regs := by
  unfold actStore
  rw [txForgetEntry_regs]
  exact (storeWords_regs hr).1

@[simp] theorem actStore_acts (i : Nat) (v : Nat → Word) (s : State) : (actStore i v s).acts = s.acts := by
  unfold actStore
  rw [txForgetEntry_acts, storeWords_acts]

theorem actStore_word {i j : Nat} {v : Nat → Word} {s : State} (hr : Rising 0 s.regs) (hj : j < 4) :
    actW i j (actStore i v s) = v j := by
  unfold actStore
  rw [actW_eq, txForgetEntry_getReg]
  exact (storeWords_regs hr).2.1 j hj

/-- A stored entry keeps the stored words in the state it enters. -/
theorem actStore_left {i st res : Nat} {v : Nat → Word} {s : State} (hr : Rising 0 s.regs) (hst : st < 8) :
    ActLeft i st v (actShow i res (actGo i st (actStore i v s))) := by
  obtain ⟨hstate, hwords⟩ := actLeft_show (res := res) (actStore_rising (i := i) (v := v) hr) hst
  exact ⟨hstate, fun j => (hwords j).trans (actStore_word hr j.isLt)⟩

@[simp] theorem setAct_regs (i : Nat) (x : ActSt) (s : State) : (s.setAct i x).regs = s.regs := rfl

theorem setAct_word (i j k : Nat) (x : ActSt) (s : State) : actW i j (s.setAct k x) = actW i j s := rfl

/-- An armed entry is ARMED, with its words as they stood. -/
theorem actArm_left {m : Master} {i : Nat} {s : State} (hr : Rising 0 s.regs) :
    ActLeft i 2 (fun j => actW i j s) (actShow i 0 (actArm m i s)) :=
  actLeft_show (s := s.setAct i { ActSt.idle with master := Master.id m }) hr (by omega)

/-- An armed entry carries the master that armed it. -/
theorem actArm_master {m : Master} {i : Nat} {s : State} (hacts : Rising 0 s.acts) :
    ((actShow i 0 (actArm m i s)).actOf i).master = Master.id m := by
  unfold actArm State.actOf
  rw [actShow_acts, actGo_acts]
  exact congrArg ActSt.master (look_put_same ActSt.idle _ hacts)

/-! The command. -/

theorem actCmd_eq (m : Master) (w : Word) (s : State) : actCmd m w s =
    let i := fget w 9 0
    let op := fget w 14 12
    if op == 0 then actShow i 0 (storeWords 0x40084 4 (fun j => actW i j s) s)
    else if 6 ≤ op then actShow i 2 s
    else if actState i s == 3 then actShow i 1 s
    else if op == 1 ∨ op == 2 then
      if !actOk m (actWin s 2) (actWin s 3) s then actShow i 2 s
      else actShow i 0 (if op == 1 then actArm m i (actStore i (actWin s) s) else actGo i 1 (actStore i (actWin s) s))
    else if op == 5 then actShow i 0 (actGo i 0 (actStore i (fun _ => 0) s))
    else if actState i s == 0 then actShow i 2 s
    else if op == 3 then
      if actOk m (actW i 2 s) (actW i 3 s) s then actShow i 0 (actArm m i s) else actShow i 2 s
    else actShow i 0 (actGo i 1 s) := rfl

section
variable {m : Master} {w : Word} {i : Nat} {s : State} (hi : fget w 9 0 = i)

include hi

theorem actCmd_read (hop : fget w 14 12 = 0) : actCmd m w s = actShow i 0 (storeWords 0x40084 4 (fun j => actW i j s) s) := by
  rw [actCmd_eq, hi, hop]
  rfl

theorem actCmd_writeArm (hop : fget w 14 12 = 1) (hst : actState i s ≠ 3) (hok : actOk m (actWin s 2) (actWin s 3) s = true) :
    actCmd m w s = actShow i 0 (actArm m i (actStore i (actWin s) s)) := by
  rw [actCmd_eq, hi, hop]
  simp [hst, hok]

theorem actCmd_store (hop : fget w 14 12 = 2) (hst : actState i s ≠ 3) (hok : actOk m (actWin s 2) (actWin s 3) s = true) :
    actCmd m w s = actShow i 0 (actGo i 1 (actStore i (actWin s) s)) := by
  rw [actCmd_eq, hi, hop]
  simp [hst, hok]

theorem actCmd_arm (hop : fget w 14 12 = 3) (hst : actState i s ≠ 3) (hfull : actState i s ≠ 0)
    (hok : actOk m (actW i 2 s) (actW i 3 s) s = true) : actCmd m w s = actShow i 0 (actArm m i s) := by
  rw [actCmd_eq, hi, hop]
  simp [hst, hfull, hok]

theorem actCmd_disarm (hop : fget w 14 12 = 4) (hst : actState i s ≠ 3) (hfull : actState i s ≠ 0) :
    actCmd m w s = actShow i 0 (actGo i 1 s) := by
  rw [actCmd_eq, hi, hop]
  simp [hst, hfull]

theorem actCmd_clear (hop : fget w 14 12 = 5) (hst : actState i s ≠ 3) :
    actCmd m w s = actShow i 0 (actGo i 0 (actStore i (fun _ => 0) s)) := by
  rw [actCmd_eq, hi, hop]
  simp [hst]

end

/-! The state that a command finds: only the word of ACT_CMD itself was written. -/

def actStored (w : Word) (s : State) : State := storedPlain .tl 0x80 0x40080 w s

theorem actStored_getReg {w : Word} {s : State} (hr : Rising 0 s.regs) {k : Nat} (hk : k ≠ 0x40080) :
    (actStored w s).getReg k = s.getReg k := storedPlain_getReg_ne hr hk

/-- A command finds the window, the entries and the checks of R69 as they were. -/
structure ActFinds (m : Master) (i : Nat) (s t : State) : Prop where
  rising : Rising 0 t.regs
  acts : Rising 0 t.acts
  window : ∀ j, actWin t j = s.getReg (0x40084 + 4 * j)
  state : actState i t = actState i s
  words : ∀ j, actW i j t = actW i j s
  ok : ∀ w2 w3, actOk m w2 w3 t = actOk m w2 w3 s

/-- The checks of R69 read no register of TL. -/
theorem actOk_stored {m : Master} {w w2 w3 : Word} {s : State} (hr : Rising 0 s.regs) :
    actOk m w2 w3 (actStored w s) = actOk m w2 w3 s := by
  have hboot : (actStored w s).booted = s.booted := by
    unfold State.booted State.bootState State.rd
    rw [actStored_getReg hr (by decide)]
  have hsem (k : Nat) : holdsSem0 k (actStored w s) = holdsSem0 k s := by
    unfold holdsSem0 State.on State.rd
    rw [actStored_getReg hr (by decide), actStored_getReg hr (by decide)]
  have hmay (a : Nat) (x : Word) : mayWrite m a x (actStored w s) = mayWrite m a x s := by
    cases m with
    | mi2c => simp only [mayWrite, mi2cMay, hboot]
    | core k => simp only [mayWrite, laneCoreMay, hsem]
    | _ => rfl
  unfold actOk
  simp only [hmay]

theorem actStored_finds {m : Master} {w : Word} {s : State} (hinv : Inv s) (i : Nat) : ActFinds m i s (actStored w s) := by
  have hr := hinv.regs_rising
  have hbase := actB_eq i
  refine ⟨storedPlain_rising hr, hinv.acts_rising, fun j => actStored_getReg hr (by omega), ?_, fun j => ?_, fun w2 w3 => actOk_stored hr⟩
  · rw [actState_eq, actStored_getReg hr (by omega), ← actState_eq]
  · rw [actW_eq, actStored_getReg hr (by omega), ← actW_eq]

/-- A served write of TL.ACT_CMD is the operation that it names, and the answer. -/
theorem actCmd_write {m : Master} {w : Word} {s : State} (h : Served m true 0x40080 w s) :
    writeCmd m 0x40080 w s.fresh = answered m 0x40080 true 0 .done (actCmd m w (actStored w s)) :=
  served_plain (b := .tl) (off := 0x80) h rfl rfl (by decide +kernel) rfl rfl (.inr (by decide +kernel)) (by decide +kernel)

/-- The entry and the operation that a word names. -/
theorem actWord (w : Word) {op : Nat} (hop : op < 8) :
    fget (fset w 14 12 op) 9 0 = fget w 9 0 ∧ fget (fset w 14 12 op) 14 12 = op :=
  ⟨fget_fset_beside _ _ _ _ _ _ (by omega), (fget_fset_same _ _ _ (by omega)).trans (Nat.mod_eq_of_lt hop)⟩

/-! The operations, as the host issues them. -/

theorem answered_getReg {a k : Nat} {m : Master} {wr : Bool} {x : Word} {c : AccSt} {u : State} :
    (answered m a wr x c u).getReg k = u.getReg k := rfl

theorem answered_actOf {a i : Nat} {m : Master} {wr : Bool} {x : Word} {c : AccSt} {u : State} :
    (answered m a wr x c u).actOf i = u.actOf i := rfl

theorem ActLeft.answered {i st a : Nat} {v : Nat → Word} {m : Master} {wr : Bool} {x : Word} {c : AccSt} {u : State}
    (h : ActLeft i st v u) : ActLeft i st v (answered m a wr x c u) := ⟨h.state, h.words⟩

/-- The effect of an operation of ACT_CMD, as `exec` answers it. -/
def actDone (m : Master) (w : Word) (s : State) : State :=
  answered m 0x40080 true 0 .done (actCmd m w (actStored w s))

/-- R72: READ shows the entry's words in ACT_W. -/
theorem actRead_shows {m : Master} {w : Word} {s : State} (hinv : Inv s) (j : Fin 4) :
    (actDone m (fset w 14 12 0) s).getReg (0x40084 + 4 * j.val) = actW (fget w 9 0) j.val s := by
  obtain ⟨hi, hop⟩ := actWord w (op := 0) (by omega)
  obtain ⟨hr, -, -, -, hwords, -⟩ := actStored_finds (m := m) (w := fset w 14 12 0) hinv (fget w 9 0)
  unfold actDone
  rw [actCmd_read hi hop]
  generalize actStored (fset w 14 12 0) s = t at hr hwords
  obtain ⟨hrise, hin, -⟩ := storeWords_regs (b := 0x40084) (n := 4) (v := fun j => actW (fget w 9 0) j t) hr
  rw [answered_getReg, actShow_getReg hrise (by omega), hin j.val j.isLt, hwords]

/-- R69: WRITE+ARM stores the window and arms the entry. -/
theorem actWriteArm_left {m : Master} {w : Word} {s : State} (hinv : Inv s) (hst : actState (fget w 9 0) s ≠ 3)
    (hok : actOk m (s.getReg 0x4008C) (s.getReg 0x40090) s = true) :
    ActLeft (fget w 9 0) 2 (fun j => s.getReg (0x40084 + 4 * j)) (actDone m (fset w 14 12 1) s) ∧
      ((actDone m (fset w 14 12 1) s).actOf (fget w 9 0)).master = Master.id m := by
  obtain ⟨hi, hop⟩ := actWord w (op := 1) (by omega)
  obtain ⟨hr, hacts, hwin, hstate, -, hsame⟩ := actStored_finds (m := m) (w := fset w 14 12 1) hinv (fget w 9 0)
  unfold actDone
  generalize actStored (fset w 14 12 1) s = t at *
  rw [actCmd_writeArm hi hop (hstate ▸ hst) (by rw [hwin, hwin, hsame]; exact hok)]
  have hw : actWin t = fun j => s.getReg (0x40084 + 4 * j) := funext hwin
  obtain ⟨hleft, hwords⟩ := actArm_left (m := m) (i := fget w 9 0) (actStore_rising (i := fget w 9 0) (v := actWin t) hr)
  refine ⟨ActLeft.answered ⟨hleft, fun j => ?_⟩, ?_⟩
  · rw [hwords, actStore_word hr j.isLt, hw]
  · rw [answered_actOf]
    exact actArm_master (by rw [actStore_acts]; exact hacts)

/-- R69: WRITE stores the window and leaves the entry IDLE. -/
theorem actWrite_left {m : Master} {w : Word} {s : State} (hinv : Inv s) (hst : actState (fget w 9 0) s ≠ 3)
    (hok : actOk m (s.getReg 0x4008C) (s.getReg 0x40090) s = true) :
    ActLeft (fget w 9 0) 1 (fun j => s.getReg (0x40084 + 4 * j)) (actDone m (fset w 14 12 2) s) := by
  obtain ⟨hi, hop⟩ := actWord w (op := 2) (by omega)
  obtain ⟨hr, -, hwin, hstate, -, hsame⟩ := actStored_finds (m := m) (w := fset w 14 12 2) hinv (fget w 9 0)
  unfold actDone
  generalize actStored (fset w 14 12 2) s = t at *
  rw [actCmd_store hi hop (hstate ▸ hst) (by rw [hwin, hwin, hsame]; exact hok),
    show actWin t = fun j => s.getReg (0x40084 + 4 * j) from funext hwin]
  exact (actStore_left hr (by omega)).answered

/-- R69: ARM arms a filled entry. -/
theorem actArm_done {m : Master} {w : Word} {s : State} (hinv : Inv s) (hst : actState (fget w 9 0) s ≠ 3)
    (hfull : actState (fget w 9 0) s ≠ 0) (hok : actOk m (actW (fget w 9 0) 2 s) (actW (fget w 9 0) 3 s) s = true) :
    actState (fget w 9 0) (actDone m (fset w 14 12 3) s) = 2 ∧
      ((actDone m (fset w 14 12 3) s).actOf (fget w 9 0)).master = Master.id m := by
  obtain ⟨hi, hop⟩ := actWord w (op := 3) (by omega)
  obtain ⟨hr, hacts, -, hstate, hwords, hsame⟩ := actStored_finds (m := m) (w := fset w 14 12 3) hinv (fget w 9 0)
  unfold actDone
  generalize actStored (fset w 14 12 3) s = t at *
  rw [actCmd_arm hi hop (hstate ▸ hst) (hstate ▸ hfull) (by rw [hwords, hwords, hsame]; exact hok)]
  refine ⟨(actArm_left hr).answered.state, ?_⟩
  rw [answered_actOf]
  exact actArm_master hacts

/-- R72: DISARM leaves a filled entry IDLE. -/
theorem actDisarm_left {m : Master} {w : Word} {s : State} (hinv : Inv s) (hst : actState (fget w 9 0) s ≠ 3)
    (hfull : actState (fget w 9 0) s ≠ 0) : actState (fget w 9 0) (actDone m (fset w 14 12 4) s) = 1 := by
  obtain ⟨hi, hop⟩ := actWord w (op := 4) (by omega)
  obtain ⟨hr, -, -, hstate, -, -⟩ := actStored_finds (m := m) (w := fset w 14 12 4) hinv (fget w 9 0)
  unfold actDone
  generalize actStored (fset w 14 12 4) s = t at *
  rw [actCmd_disarm hi hop (hstate ▸ hst) (hstate ▸ hfull)]
  exact (actLeft_show hr (by omega)).answered.state

/-- R72: CLEAR empties the entry. -/
theorem actClear_left {m : Master} {w : Word} {s : State} (hinv : Inv s) (hst : actState (fget w 9 0) s ≠ 3) :
    ActLeft (fget w 9 0) 0 (fun _ => 0) (actDone m (fset w 14 12 5) s) := by
  obtain ⟨hi, hop⟩ := actWord w (op := 5) (by omega)
  obtain ⟨hr, -, -, hstate, -, -⟩ := actStored_finds (m := m) (w := fset w 14 12 5) hinv (fget w 9 0)
  unfold actDone
  generalize actStored (fset w 14 12 5) s = t at *
  rw [actCmd_clear hi hop (hstate ▸ hst)]
  exact (actStore_left hr (by omega)).answered

/-- A command that writes ACT_CMD ends in the operation's effect. -/
theorem actCmd_exec {c : Instr} {m : Master} {w : Word} {s : State} (hrun : exec c s = run (writeCmd m 0x40080 w) s)
    (h : Served m true 0x40080 w s) : exec c s = .next (closed s.pending (actDone m w s)) :=
  exec_closed hrun (actCmd_write h)

/-- Settles O17: an operation's branch is that of its OP, and it finds the entry and the window as they were. -/
theorem actionCommands : Obligations.ActionCommands := by
  unfold Obligations.ActionCommands
  refine ⟨fun m w s hinv h => ?_, fun m w s hinv hst hok h => ?_, fun m w s hinv hst hok h => ?_,
    fun m w s hinv hst hfull hok h => ?_, fun m w s hinv hst hfull h => ?_, fun m w s hinv hst h => ?_⟩
  · exact ⟨_, actCmd_exec rfl h, actRead_shows hinv⟩
  · obtain ⟨⟨hstate, hwords⟩, hmaster⟩ := actWriteArm_left hinv hst hok
    exact ⟨_, actCmd_exec rfl h, hstate, hmaster, hwords⟩
  · obtain ⟨hstate, hwords⟩ := actWrite_left hinv hst hok
    exact ⟨_, actCmd_exec rfl h, hstate, hwords⟩
  · exact ⟨_, actCmd_exec rfl h, actArm_done hinv hst hfull hok⟩
  · exact ⟨_, actCmd_exec rfl h, actDisarm_left hinv hst hfull⟩
  · obtain ⟨hstate, hwords⟩ := actClear_left (m := m) hinv hst
    exact ⟨_, actCmd_exec rfl h, hstate, hwords⟩

end Sys2Proof.Machine
end

section
/-! Dispatch and execution of timed actions, commits and legacy windows (R70 to R77). -/

namespace Sys2Proof.Machine

/-! Dispatch and execution. -/

/-- The mask that a COMMIT entry samples is read from two whole words. -/
theorem maskWords (i : Nat) (s : State) :
    s.rd (glbB + 8 * i) R.GLB_MASK_LO_LANES + s.rd (glbB + 8 * i) R.GLB_MASK_HI_LANES * 2 ^ 32 =
      (s.getReg (0x140 + 8 * i)).toNat + (s.getReg (0x144 + 8 * i)).toNat * 2 ^ 32 := by
  have hlo : glbB + 8 * i + R.GLB_MASK_LO_LANES.off = 0x140 + 8 * i := by
    rw [show R.GLB_MASK_LO_LANES.off = 0x140 from rfl, show glbB = 0 from rfl]; omega
  have hhi : glbB + 8 * i + R.GLB_MASK_HI_LANES.off = 0x144 + 8 * i := by
    rw [show R.GLB_MASK_HI_LANES.off = 0x144 from rfl, show glbB = 0 from rfl]; omega
  unfold State.rd
  rw [hlo, hhi]
  exact congrArg₂ (fun a b => a + b * 2 ^ 32) (fget_full _) (fget_full _)

/-- What an entry becomes once it is dispatched at the instant of `t` (R70, R71). -/
def actQueued (i : Nat) (t : State) : State :=
  let d := t.tlv.toNat
  let x := if t.tl.injLate then max (actTime i t) d + 16384 else max (actTime i t) (d + 16384)
  let mask := (t.getReg (0x00000140 + 8 * (fget (actW i 3 t) 5 0 % 8))).toNat + (t.getReg (0x00000144 + 8 * (fget (actW i 3 t) 5 0 % 8))).toNat * 2 ^ 32
  actGo i 3 (({ t with tl := { t.tl with injLate := false, dispAt := t.now + t.pclkT 1 } }).setAct i
    ⟨(t.actOf i).master, x, t.now + (x - d), mask, false, false, false⟩)

/-- The entries that wait in the queue of entry i's target. -/
def actQueue (i : Nat) (t : State) : List Nat := (actsIn 3 t).filter (fun j => !(t.actOf j).full && actTarget j t == actTarget i t)

/-- The mask that entry i names. -/
def actMask (i : Nat) (t : State) : Nat :=
  (t.getReg (0x00000140 + 8 * (fget (actW i 3 t) 5 0 % 8))).toNat + (t.getReg (0x00000144 + 8 * (fget (actW i 3 t) 5 0 % 8))).toNat * 2 ^ 32

/-- An entry is DISPATCHED for X with the mask sampled, and the domains in `asleep` are woken for it. -/
def actSent (i mask : Nat) (asleep : List Nat) (full : Bool) (t : State) : State :=
  let d := t.tlv.toNat
  let x := if t.tl.injLate then max (actTime i t) d + 16384 else max (actTime i t) (d + 16384)
  asleep.foldl (fun t e => domAccess e { t with pwr := { t.pwr with acts := e :: t.pwr.acts } })
    (actGo i 3 (({ t with tl := { t.tl with injLate := false, dispAt := t.now + t.pclkT 1 } }).setAct i
      ⟨(t.actOf i).master, x, t.now + (x - d), mask, !asleep.isEmpty, false, full⟩))

theorem actDispatch_eq (s : State) : actDispatch s =
    match (if s.counting then actNext s else none) with
    | none => s
    | some i =>
      let t := (s.advanceTlv (actTime i s - 256000) s.now).advanceNow s.tl.dispAt
      let m := t.rd (glbB + 8 * (fget (actW i 3 t) 5 0 % 8)) R.GLB_MASK_LO_LANES +
        t.rd (glbB + 8 * (fget (actW i 3 t) 5 0 % 8)) R.GLB_MASK_HI_LANES * 2 ^ 32
      actSent i m ((actDoms i m t).filter (fun e => !t.domOn e)) (decide (16 ≤ (actQueue i t).length)) t := by
  unfold actDispatch
  generalize (if s.counting then actNext s else none) = next
  cases next with
  | none => rfl
  | some i => rfl

/-- R70: with every domain ON and room in its target's queue, the next entry is queued for X. -/
theorem actDispatch_awake {s : State} {i : Nat} (hc : s.counting = true) (hn : actNext s = some i) {t : State}
    (ht : (s.advanceTlv (actTime i s - 256000) s.now).advanceNow s.tl.dispAt = t)
    (hdoms : ∀ e ∈ actDoms i (actMask i t) t, t.domOn e = true) (hroom : (actQueue i t).length < 16) :
    actDispatch s = actQueued i t := by
  rw [actDispatch_eq, if_pos hc, hn]
  simp only []
  rw [ht, maskWords]
  have hnone : (actDoms i (actMask i t) t).filter (fun e => !t.domOn e) = [] := by
    rw [List.filter_eq_nil_iff]
    intro e he
    rw [hdoms e he]
    decide
  have hfull : decide (16 ≤ (actQueue i t).length) = false := by
    rw [decide_eq_false_iff_not]
    omega
  rw [hfull]
  unfold actMask at hnone
  rw [hnone]
  rfl

/-- R70 to R72: an entry that nothing holds, with no domain of its own, executes at X. -/
theorem actExecute_ready {s : State} {i : Nat} (hst : actState i s = 3) (hruns : s.partRuns = true) (hready : actReady i s = true)
    (hheld : (s.actOf i).held = false) {t : State} (ht : s.advanceTlv (s.actOf i).x (s.actOf i).due = t)
    (hdoms : actDoms i (s.actOf i).mask t = []) :
    actExecute i s =
      (let x := max (s.actOf i).x t.tlv.toNat
       let u := actEffect i x (actLate i x t)
       actTake (actTarget i t) (actRearm i (u.setAct i { u.actOf i with x := x }))) := by
  unfold actExecute
  have hcond : (actState i s == 3 && s.partRuns && actReady i s) = true := by
    rw [hst, hruns, hready]
    rfl
  rw [if_pos hcond]
  simp only [hheld]
  rw [if_neg Bool.false_ne_true, if_neg Bool.false_ne_true, ht, hdoms, List.foldl_nil, List.foldl_nil]

/-! Immediate commits and legacy windows. -/

/-- R75: a write of GLB.COMMIT queues one commit, with the mask as it stands. -/
theorem commitWritten_commits (w : Word) (s : State) :
    (commitWritten w s).commits = s.commits ++ [⟨fget w 3 0, fget w 5 4, fget w 13 8,
      (s.getReg (0x140 + 8 * (fget w 13 8 % 8))).toNat + (s.getReg (0x144 + 8 * (fget w 13 8 % 8))).toNat * 2 ^ 32,
      s.tlv.toNat + 16384, s.now + 16384⟩] := by
  rw [← maskWords]
  rfl

theorem glbCommit_queues {m : Master} {w : Word} {s : State} (h : Served m true 0x100 w s) :
    ∃ u, exec (.glbCommit m w) s = .next (closed s.pending u) ∧
      u.commits = s.commits ++ [⟨fget w 3 0, fget w 5 4, fget w 13 8,
        (s.getReg (0x140 + 8 * (fget w 13 8 % 8))).toNat + (s.getReg (0x144 + 8 * (fget w 13 8 % 8))).toNat * 2 ^ 32,
        s.tlv.toNat + 16384, s.now + 16384⟩] := by
  have hwrite : writeCmd m 0x100 w s.fresh = answered m 0x100 true 0 .done (commitWritten w (storedPlain .glb 0x100 0x100 w s)) :=
    served_plain (b := .glb) (off := 0x100) h rfl rfl (by decide +kernel) rfl rfl (.inr (by decide +kernel)) (by decide +kernel)
  refine ⟨_, exec_closed (f := writeCmd m 0x100 w) rfl hwrite, ?_⟩
  refine (commitWritten_commits w (storedPlain .glb 0x100 0x100 w s)).trans ?_
  have hkeep (k : Nat) (hk : 0x100 < k) : (storedPlain .glb 0x100 0x100 w s).getReg k = s.getReg k :=
    State.getReg_setReg_of (s := s.fresh) (by omega) (.inr hk)
  rw [hkeep _ (by omega), hkeep _ (by omega)]
  rfl

/-- R74, R75: the oldest commit executes. -/
theorem commitRun_oldest {s : State} {c : PendCommit} {cs : List PendCommit} (h : s.commits = c :: cs) :
    commitRun s =
      (let u := commitBusy (commitApply c.cls c.scope c.index c.mask none { s.advanceReq c.x c.due with commits := cs })
       commitTick (u.raised.any (fun r => r.id == 0x426)) c.x u) := by
  unfold commitRun
  rw [h]
  simp only []
  unfold commitExecute
  rw [h]

/-- R77: a served write of a staged field whose class is in legacy mode is a direct write of its register. -/
theorem legacy_write {m : Master} {a : Nat} {w : Word} {s : State} {b : Blk} {off key c i : Nat}
    (h : Served m true a w s) (hp : place a = .reg b off) (hg : gateOf a = none) (hf : (findReg b off).isSome = true)
    (ho : ownWrite m b off w s.fresh = none) (hk : effKey b off s.fresh = some key) (hgrp : keyGroup key = some (c, i))
    (hst : (keyFlds key).any (fun f => f.acc == .st) = true) {p : State × Bool} (hstore : storeWord b off key w s.fresh = p)
    (hlock : p.2 = false) (hleg : legacyOn c (regHook m b off (s.getReg key) w p.1) = true) :
    writeCmd m a w s.fresh =
      answered m a true 0 .done (legacyWrite c i key (regHook m b off (s.getReg key) w p.1)) := by
  have hawake : awake a s.fresh = s.fresh := awake_none hg _
  rw [served_regWrite (s := s.fresh) h hp, hawake]
  obtain ⟨d, hd⟩ := Option.isSome_iff_exists.mp hf
  have hreg : regWrite m b off w s.fresh = (legacyWrite c i key (regHook m b off (s.getReg key) w p.1), .done) := by
    unfold regWrite
    rw [hd, ho, hk]
    simp only []
    rw [hgrp, hstore]
    have hcond : (legacyOn c (regHook m b off (s.fresh.getReg key) w p.1) && (keyFlds key).any fun f => f.acc == .st) = true := by
      rw [hst, Bool.and_true]
      exact hleg
    simp only []
    rw [if_pos hcond, hlock]
    rfl
  rw [hreg]

/-- R77: the end of a window, from the instant at which it opened. -/
theorem windowEnd_open {cls i t : Nat} {s : State} (h : look 0 s.legacy (64 * cls + i) = t + 1) {u : State}
    (hu : windowClose cls i (s.advanceNow (t + s.pclkT (16 * s.rd glbB R.GLB_LEGACY_WINDOW))) = u) :
    windowEnd cls i s = if clsRules cls i u = 0 then clsCopy cls i u
      else ((clsReload cls i u).cnt glbB R.GLB_LEGACY_CNT_MISMATCH 1).raise 0x427 := by
  unfold windowEnd
  rw [h]
  simp only []
  rw [hu]
  by_cases hr : clsRules cls i u = 0
  · rw [if_pos hr, if_pos (by rw [hr]; rfl)]
  · rw [if_neg hr, if_neg (by simpa using hr)]

/-! The copy of a group. -/

theorem mergeSt_getLsbD (key : Nat) (active shadow : Word) (i : Nat) :
    (mergeSt key active shadow).getLsbD i = if (stMask key).getLsbD i then shadow.getLsbD i else active.getLsbD i := by
  unfold mergeSt
  simp only [BitVec.getLsbD_or, BitVec.getLsbD_and, BitVec.getLsbD_not]
  by_cases hi : i < 32
  · cases (stMask key).getLsbD i <;> simp [hi]
  · simp [BitVec.getLsbD_of_ge _ i (by omega : 32 ≤ i)]

/-- Copying twice is copying once. -/
theorem mergeSt_idem (key : Nat) (active shadow : Word) : mergeSt key (mergeSt key active shadow) shadow = mergeSt key active shadow := by
  refine BitVec.eq_of_getLsbD_eq fun i _ => ?_
  rw [mergeSt_getLsbD, mergeSt_getLsbD]
  cases (stMask key).getLsbD i <;> rfl

/-- Where the shadow holds what the register holds, the copy changes nothing. -/
theorem mergeSt_self (key : Nat) (w : Word) : mergeSt key w w = w := by
  refine BitVec.eq_of_getLsbD_eq fun i _ => ?_
  rw [mergeSt_getLsbD]
  cases (stMask key).getLsbD i <;> rfl

/-- One register takes its staged bits. -/
def copyReg (t : State) (k : Nat) : State := t.setReg k (mergeSt k (t.getReg k) (t.getShadow k))

/-- The registers at a list of keys take their staged bits, each as often as it is listed. -/
theorem copyRegs_facts (ks : List Nat) {s : State} (hr : Rising 0 s.regs) (k : Nat) :
    (ks.foldl copyReg s).getReg k = (if k ∈ ks then mergeSt k (s.getReg k) (s.getShadow k) else s.getReg k) := by
  induction ks generalizing s with
  | nil => rfl
  | cons j js ih =>
    have hrise : Rising 0 (copyReg s j).regs := State.setReg_rising _ _ _ hr
    have hsh : (copyReg s j).getShadow k = s.getShadow k := rfl
    rw [List.foldl_cons, ih hrise, hsh]
    by_cases hj : k = j
    · subst hj
      have hget : (copyReg s k).getReg k = mergeSt k (s.getReg k) (s.getShadow k) := State.getReg_setReg_same _ _ _ hr
      rw [hget, mergeSt_idem, ite_self, if_pos (List.mem_cons_self ..)]
    · have hget : (copyReg s j).getReg k = s.getReg k := State.getReg_setReg_ne _ _ hr hj
      simp only [hget, List.mem_cons, hj, false_or]

theorem look_of_not_mem {α : Type} {d : α} {m : List (Nat × α)} {k : Nat} (h : ∀ e ∈ m, e.1 ≠ k) : look d m k = d := by
  induction m with
  | nil => rfl
  | cons e m ih =>
    have he := h e (List.mem_cons_self ..)
    unfold look
    rw [if_neg fun hk => he hk.symm, ih fun x hx => h x (List.mem_cons_of_mem _ hx)]
    exact ite_self _

/-- A register that neither map lists has its shadow equal to its value. -/
theorem not_listed_eq {s : State} {k : Nat} (h : k ∉ s.shadow.map (·.1) ++ s.regs.map (·.1)) : s.getReg k = s.getShadow k := by
  simp only [List.mem_append, List.mem_map, not_or, not_exists, not_and] at h
  obtain ⟨hsh, hreg⟩ := h
  exact (look_of_not_mem fun e he => hreg e he).trans (look_of_not_mem fun e he => hsh e he).symm

/-- R74: the copy of a group. -/
theorem copyGroup_getReg {p : Nat → Bool} {s : State} (hr : Rising 0 s.regs) (k : Nat) :
    (copyGroup p s).getReg k = (if p k = true then mergeSt k (s.getReg k) (s.getShadow k) else s.getReg k) := by
  refine (copyRegs_facts (groupKeys p s) hr k).trans ?_
  unfold groupKeys
  simp only [List.mem_filter]
  by_cases hp : p k = true
  · by_cases hl : k ∈ s.shadow.map (·.1) ++ s.regs.map (·.1)
    · rw [if_pos ⟨hl, hp⟩, if_pos hp]
    · rw [if_neg fun h => hl h.1, if_pos hp, ← not_listed_eq hl, mergeSt_self]
  · rw [if_neg fun h => hp h.2, if_neg hp]

theorem copyGroup_shadow (p : Nat → Bool) (s : State) : (copyGroup p s).shadow = s.shadow :=
  foldl_keeps State.shadow (f := copyReg) (fun _ _ => rfl) _ s

theorem copyGroup_mem (p : Nat → Bool) (s : State) : (copyGroup p s).mem = s.mem :=
  foldl_keeps State.mem (f := copyReg) (fun _ _ => rfl) _ s

/-- Settles O18: each effect is the definition's branch under the premises; the copy is a fold over the listed registers, and a
register that is not listed has its shadow equal to its value. -/
theorem actionsAndCommits : Obligations.ActionsAndCommits := by
  unfold Obligations.ActionsAndCommits
  refine ⟨fun s i hc hn hdoms hroom => ?_, fun s i hst hruns hready hheld hdoms => ?_, fun m w s h => glbCommit_queues h,
    fun s c cs h => ?_, fun m addr w s b off key c i h hp hg hf ho hk hgrp hst hlock hleg => ?_, fun s k i t h => ?_, fun p s k hinv => ?_⟩
  · exact exec_closed (f := actDispatch) rfl (actDispatch_awake (s := s.fresh) hc hn rfl hdoms hroom)
  · exact exec_closed (f := actExecute i.val) rfl (actExecute_ready (s := s.fresh) hst hruns hready hheld rfl hdoms)
  · exact exec_closed (f := commitRun) rfl (commitRun_oldest (s := s.fresh) h)
  · exact exec_closed (f := writeCmd m addr.toNat w) rfl (legacy_write h hp hg hf ho hk hgrp hst rfl hlock hleg)
  · have hend := windowEnd_open (cls := k.val) (i := i.val) (s := s.fresh) h rfl
    refine ⟨fun hrules => ?_, fun hrules => ?_⟩
    · exact exec_closed (f := windowEnd k.val i.val) rfl (hend.trans (if_pos hrules))
    · exact exec_closed (f := windowEnd k.val i.val) rfl (hend.trans (if_neg hrules))
  · exact ⟨copyGroup_getReg hinv.regs_rising k, copyGroup_shadow p s, copyGroup_mem p s, mergeSt_getLsbD _ _ _⟩

end Sys2Proof.Machine
end

section
/-! Statements that fail where the map of registers is in no canonical form. A clause without the invariant is claimed of every
state, also of one whose map lists a register twice, or lists an entry equal to its reset value before registers of lower keys.
A write takes such an entry out, and what it hid then reads: a register differs from what the clause read of the state before.
Each counterexample is a reset state with such a map. -/

namespace Sys2Proof.Machine

open Sys2Proof.Tests (after)

/-- A reset state whose map of registers is the given list, whatever its form. -/
def listing (l : List (Nat × Word)) : State := { State.reset with regs := l }

/-- The next state of a command is what `exec` answers. -/
theorem after_of_next {i : Instr} {s t : State} (h : exec i s = .next t) : after i s = t := by
  unfold after
  rw [h]

/-! RX.CTRL of lane 0 listed twice with ENABLE 1: once it is written with 0, the second entry reads, and the lane's hook finds
ENABLE set. -/

def twiceEnabled : State := listing [(0x01000000, 1), (0x01000000, 1)]

/-- Refutes O19: a write of RX.CTRL with ENABLE 0 finds the lane OFF and still brings it to NOCLK. -/
theorem not_receiveCommands : ¬ Obligations.ReceiveCommands := by
  unfold Obligations.ReceiveCommands
  rintro ⟨henable, -⟩
  have hnext := congrArg (fun t => t.rxState 0) (after_of_next (henable .jtag 0 0 twiceEnabled (by decide) (by decide +kernel)))
  revert hnext
  decide +kernel

/-! RX.LEVEL of lane 0 listed at its reset value before RX.STATUS with STATE 4: a period of silence takes it out. -/

def hiddenFreq : State := listing [(0x0100004C, 0), (0x01000004, 4)]

/-- Refutes O20: the lane reads OFF, and the gain moves. -/
theorem not_receiveEvents : ¬ Obligations.ReceiveEvents := by
  unfold Obligations.ReceiveEvents
  rintro ⟨hagc, -⟩
  obtain ⟨hidle, -⟩ := hagc 0 [0] hiddenFreq
  have hnext := congrArg (fun t => t.rd (laneB 0) R.RX_GAIN_GAIN_ACT) (after_of_next (hidle (by decide +kernel)))
  revert hnext
  decide +kernel

/-! EQ.STAT_CTRL of lane 0 listed twice, with CONT 1 in the second entry: SEQ written with 0 takes out the first. -/

def hiddenCont : State :=
  { listing [(0x01001020, 0x600000), (0x01001020, 0x40600000)] with eq := [(0, { EqSt.idle with stat := 3 })] }

/-- Refutes O21: the push ends with CONT 0, and the next block begins. -/
theorem not_equaliser : ¬ Obligations.Equaliser := by
  unfold Obligations.Equaliser
  rintro ⟨-, -, -, -, -, -, -, -, hpush, -⟩
  have hnext := congrArg (fun t => (t.eqOf 0).stat) (after_of_next (hpush 0 hiddenCont (by decide +kernel) (by decide +kernel)))
  revert hnext
  decide +kernel

/-! SAFE.CLR listed twice with SW_CLR 1: written with 0, it still reads 1. -/

def twiceCleared : State := listing [(0x00090024, 1), (0x00090024, 1)]

/-- Refutes O24: a write of SW_CLR with 0 releases no lane. -/
theorem not_biasCommands : ¬ Obligations.BiasCommands := by
  unfold Obligations.BiasCommands
  rintro ⟨-, -, -, hclr, -⟩
  have hnext := congrArg (fun t => t.regs.length) (after_of_next (hclr .jtag 0 twiceCleared (by decide +kernel)))
  revert hnext
  decide +kernel

/-! The first pattern word of lane 0 listed at its reset value before FEC.UP_SEL with AUTO_INC 0 (1 at reset): a write of the
word with 0 takes it out. -/

def hiddenSelect : State := listing [((Obj.pattern 0 0).base + 0x40AC, 0), (0x010040A8, 0)]

/-- Refutes O31: AUTO_INC reads 1, and the write leaves INDEX. -/
theorem not_testPatterns : ¬ Obligations.TestPatterns := by
  unfold Obligations.TestPatterns
  rintro ⟨-, -, -, -, hword, -⟩
  have hnext := congrArg (fun t => t.rd (laneB 0) R.FEC_UP_SEL_INDEX)
    (after_of_next (hword .jtag 0 0 hiddenSelect (by decide +kernel)))
  revert hnext
  decide +kernel

/-! FE[0].FLOW_CMD listed at its reset value before SNAP_CTRL with ARM 1 and SNAP_AT 0: the command's write takes it out. -/

def hiddenSnapshot : State := listing [(0x00220000, 0), (0x00200A10, 1)]

/-- Refutes O32: a snapshot reads as due, and CLEAR is refused. -/
theorem not_flowCommands : ¬ Obligations.FlowCommands := by
  unfold Obligations.FlowCommands
  rintro ⟨hflow, -⟩
  obtain ⟨-, -, -, -, hclear⟩ := hflow .jtag 0 0 hiddenSnapshot (by decide +kernel) (by decide +kernel) (by decide +kernel)
  have hnext := congrArg (fun t => t.rd (feB 0) R.FE_FLOW_STAT_RESULT) (after_of_next (hclear (by decide +kernel)))
  revert hnext
  decide +kernel

/-! MDW.PLOT_STAT of plot 0 listed at its reset value before PLOT_SEL with INDEX 5, whose plot is in state 4. -/

def hiddenIndex : State := listing [(plB 0 + 0x18, 0), (0x00380000, 5), (plB 5 + 0x18, 0x80000000)]

/-- Refutes O35: plot 0 is reset, and the statement has the state of plot 5 return to 1. -/
theorem not_storeCommands : ¬ Obligations.StoreCommands := by
  unfold Obligations.StoreCommands
  rintro ⟨hplot, -⟩
  obtain ⟨-, -, hreset⟩ := hplot .jtag 0 hiddenIndex
  have hnext := congrArg (fun t => plotState 5 t) (after_of_next (hreset (by decide +kernel)))
  revert hnext
  decide +kernel

/-! CLK.INJECT listed at its reset value before CLK.MON_CFG with N_BAD 7 (2 at reset): the write of the injection takes it out. -/

def hiddenBad : State := listing [(0x00020070, 0), (0x00020030, 7)]

/-- Refutes O51: N_BAD reads 2, and the injection arms 7 windows. -/
theorem not_clocks : ¬ Obligations.Clocks := by
  unfold Obligations.Clocks
  rintro ⟨-, -, -, -, -, -, -, -, -, -, -, hinject⟩
  obtain ⟨hlref, -⟩ := hinject .jtag 0 hiddenBad
  have hnext := congrArg (fun t => t.clk.inj) (after_of_next (hlref (by decide +kernel)))
  revert hnext
  decide +kernel

end Sys2Proof.Machine
end

section
/-! Served writes of the registers of lanes, octants, engines and memory channels, at whichever of them (R19, R22, R436). -/

namespace Sys2Proof.Machine

/-- A register that takes a word in a way of its own: what that does, then the answer. -/
theorem served_own {m : Master} {a : Nat} {w : Word} {s t : State} {b : Blk} {off : Nat} (h : Served m true a w s)
    (hp : place a = .reg b off) (hf : (findReg b off).isSome = true) (ho : ownWrite m b off w (awake a s.fresh) = some t) :
    writeCmd m a w s.fresh = answered m a true 0 .done t := by
  have hreg : regWrite m b off w (awake a s.fresh) = (t, .done) := by
    obtain ⟨d, hd⟩ := Option.isSome_iff_exists.mp hf
    unfold regWrite
    rw [hd, ho]
  rw [served_regWrite h.fresh hp, hreg]

theorem gateOf_lane {n off : Nat} (hn : n < 64) (ho : off < 0x10000) : gateOf (laneB n + off) = none := by
  unfold gateOf
  rw [place_lane hn ho]

theorem gateOf_oct {o off : Nat} (hn : o < 8) (ho : off < 0x10000) : gateOf (octB o + off) = none := by
  unfold gateOf
  rw [place_oct hn ho]

/-- A register of the lane that no selector and no lock concerns, as a closed register decides. -/
def laneOpen (off : Nat) : Bool :=
  decide (off < 0x3040 ∨ 0x4000 ≤ off) && decide (off < 0x10000) && (findReg (.lane 0) off).isSome &&
    (keyFlds (laneB 0 + off)).all (fun f => !lockable (.lane 0) off f)

/-- A served write of a lane's register: the stored word, the lane's hook, a legacy window where one opens, the answer. -/
theorem lane_wrote {m : Master} {n off a : Nat} {w : Word} {s : State} (hn : n < 64) (hopen : laneOpen off = true)
    (ha : a = laneB n + off) (h : Served m true a w s) (ho : ownWrite m (.lane n) off w s.fresh = none)
    (hk : laneKeyOf n off s.fresh = some (laneB n + off)) :
    writeCmd m a w s.fresh = wrote m a w (regHook m (.lane n) off (s.getReg a) w) s := by
  subst ha
  simp only [laneOpen, Bool.and_eq_true, decide_eq_true_eq] at hopen
  obtain ⟨⟨⟨hoff, hmax⟩, hf⟩, hlk⟩ := hopen
  have hawake : awake (laneB n + off) s.fresh = s.fresh := awake_none (gateOf_lane hn hmax) _
  have hwrite := served_wrote (b := .lane n) (off := off) h (place_lane hn hmax) (by rw [findReg_lane hoff]; exact hf)
    (by rw [hawake]; exact ho) (by rw [hawake]; exact hk) (.inr (by rw [keyFlds_lane hn hoff hmax]; exact hlk))
  rw [hwrite, hawake]
  rfl

/-- A served write of a lane's register that takes the word in a way of its own. -/
theorem lane_own {m : Master} {n off a : Nat} {w : Word} {s t : State} (hn : n < 64) (hopen : laneOpen off = true)
    (ha : a = laneB n + off) (h : Served m true a w s) (ho : ownWrite m (.lane n) off w s.fresh = some t) :
    writeCmd m a w s.fresh = answered m a true 0 .done t := by
  subst ha
  simp only [laneOpen, Bool.and_eq_true, decide_eq_true_eq] at hopen
  obtain ⟨⟨⟨hoff, hmax⟩, hf⟩, -⟩ := hopen
  refine served_own h (place_lane hn hmax) (by rw [findReg_lane hoff]; exact hf) ?_
  rw [awake_none (gateOf_lane hn hmax)]
  exact ho

/-- A register of an octant that no lock concerns. -/
def octOpen (off : Nat) : Bool :=
  decide (off < 0x10000) && (findReg (.oct 0) off).isSome && (keyFlds (octB 0 + off)).all (fun f => !lockable (.oct 0) off f)

theorem keyFlds_oct {o off : Nat} (hn : o < 8) (ho : off < 0x10000) : keyFlds (octB o + off) = keyFlds (octB 0 + off) := by
  unfold keyFlds
  rw [if_pos (by simp only [octB]; omega), if_pos (by simp only [octB]; omega), place_oct hn ho, place_oct (by omega) ho]
  rfl

/-- A served write of an octant's register. -/
theorem oct_wrote {m : Master} {o off a : Nat} {w : Word} {s : State} (hn : o < 8) (hopen : octOpen off = true)
    (ha : a = octB o + off) (h : Served m true a w s) :
    writeCmd m a w s.fresh = wrote m a w (regHook m (.oct o) off (s.getReg a) w) s := by
  subst ha
  simp only [octOpen, Bool.and_eq_true, decide_eq_true_eq] at hopen
  obtain ⟨⟨hmax, hf⟩, hlk⟩ := hopen
  have hawake : awake (octB o + off) s.fresh = s.fresh := awake_none (gateOf_oct hn hmax) _
  have hwrite := served_wrote (b := .oct o) (off := off) h (place_oct hn hmax) hf rfl rfl
    (.inr (by rw [keyFlds_oct hn hmax]; exact hlk))
  rw [hwrite, hawake]
  rfl

/-- A register of an engine that no selector, no template and no lock concerns. -/
def feOpen (off : Nat) : Bool :=
  decide (off < 0x38000) && !(decide (0xC44 ≤ off) && decide (off ≤ 0xC60)) && (findReg (.fe 0) off).isSome &&
    (keyFlds (feB 0 + off)).all (fun f => !lockable (.fe 0) off f)

theorem keyFlds_fe {e off : Nat} (hn : e < 4) (ho : off < 0x40000) : keyFlds (feB e + off) = keyFlds (feB 0 + off) := by
  unfold keyFlds
  rw [if_pos (by simp only [feB]; omega), if_pos (by simp only [feB]; omega), place_fe hn ho, place_fe (by omega) ho]
  rfl

/-- A served write of an engine's register: the block's gate is open, as in the stored state. -/
theorem fe_wrote {m : Master} {e off a : Nat} {w : Word} {s : State} (hn : e < 4) (hopen : feOpen off = true)
    (ha : a = feB e + off) (h : Served m true a w s) :
    writeCmd m a w s.fresh = wrote m a w (regHook m (.fe e) off ((awake a s.fresh).getReg a) w) s := by
  subst ha
  simp only [feOpen, Bool.and_eq_true, decide_eq_true_eq, Bool.not_eq_true', Bool.and_eq_false_iff, decide_eq_false_iff_not] at hopen
  obtain ⟨⟨⟨hmax, hsel⟩, hf⟩, hlk⟩ := hopen
  refine served_wrote (b := .fe e) (off := off) h (place_fe hn (by omega)) hf ?_ ?_
    (.inr (by rw [keyFlds_fe hn (by omega)]; exact hlk))
  · unfold ownWrite
    exact if_neg (by omega)
  · unfold effKey
    exact if_neg (by omega)

end Sys2Proof.Machine
end

section
/-! Haze: the cut-through path, errors, coefficients and the queues of frames (R338 to R356). -/

namespace Sys2Proof.Machine

@[simp] theorem State.advance_rd (s : State) (d b : Nat) (f : Fld) : (s.advance d).rd b f = s.rd b f := by
  unfold State.rd
  rw [State.advance_getReg]

@[simp] theorem State.advanceNow_rd (s : State) (t b : Nat) (f : Fld) : (s.advanceNow t).rd b f = s.rd b f := s.advance_rd _ b f

@[simp] theorem State.advanceNow_hazeOf (s : State) (t n : Nat) : (s.advanceNow t).hazeOf n = s.hazeOf n := by
  unfold State.advanceNow
  rw [State.advance_eq]
  rfl

theorem State.rd_lt (s : State) (b : Nat) (f : Fld) : s.rd b f < 2 ^ (f.hi + 1 - f.lo) := fget_lt _ _ _

/-- A field of one bit is on where it reads 1. -/
theorem State.on_iff_bit {s : State} {b : Nat} {f : Fld} (hf : f.hi + 1 - f.lo = 1) : s.on b f = true ↔ s.rd b f = 1 := by
  have hlt := s.rd_lt b f
  rw [hf] at hlt
  unfold State.on
  rw [bne_iff_ne]
  omega

/-! The states of the cut-through path. -/

theorem hazeEval_hold {n : Nat} {s : State} (hst : s.rd (laneB n) R.HAZE_STATUS_STATE ≠ 0) (hc : holdCause n s ≠ 0)
    (hrun : s.rd (laneB n) R.TX_STATUS_STATE = 2) (hsrc : s.rd (laneB n) R.TX_STATUS_SRC_ACT = 4) :
    hazeEval n s = hazeGo n 1 [] (s.wr (laneB n) R.HAZE_STATUS_HOLD_CAUSE (holdCause n s)) := by
  simp [hazeEval, hst, hc, hrun, hsrc]

theorem hazeEval_prime {n : Nat} {s : State} (hst : s.rd (laneB n) R.HAZE_STATUS_STATE ≤ 1) (hc : holdCause n s = 0)
    (hrun : s.rd (laneB n) R.TX_STATUS_STATE = 2) (hsrc : s.rd (laneB n) R.TX_STATUS_SRC_ACT = 4) :
    hazeEval n s = hazeGo n 2 [] s := by
  simp [hazeEval, hst, hc, hrun, hsrc]

theorem hazeHold_holds {n : Nat} {s : State} (hst : s.rd (laneB n) R.HAZE_STATUS_STATE ≠ 0) (hc : holdCause n s ≠ 0)
    (hrun : s.rd (laneB n) R.TX_STATUS_STATE = 2) (hsrc : s.rd (laneB n) R.TX_STATUS_SRC_ACT = 4) :
    hazeHold n s = hazeGo n 1 [] (s.wr (laneB n) R.HAZE_STATUS_HOLD_CAUSE (holdCause n s)) := by
  rw [← hazeEval_hold hst hc hrun hsrc]
  simp [hazeHold, hst, hc]

/-- At the end of an injected hold no other cause is there: the other causes come first in the order of R340's table. -/
theorem holdCause_advanceNow {n : Nat} {s : State} (hc : holdCause n s = 4) :
    holdCause n (s.advanceNow (s.hazeOf n).injUntil) = 0 := by
  unfold holdCause State.rxState at hc ⊢
  simp only [State.advanceNow_rd, State.advanceNow_hazeOf, State.advanceNow_now] at hc ⊢
  split_ifs at hc ⊢ with h7 h6 hmode hnow hmax <;> omega

theorem hazePrime_pass {n sent : Nat} {words : List (BitVec 2)} {s : State} (hst : s.rd (laneB n) R.HAZE_STATUS_STATE = 3) :
    hazePrime n words sent s =
      if ((s.hazeOf n).buf ++ words).drop sent = [] ∨ 4096 ≤ (((s.hazeOf n).buf ++ words).drop sent).length then hazeGo n 2 [] s
      else hazeBuf n (((s.hazeOf n).buf ++ words).drop sent)
        (s.setHaze n { s.hazeOf n with lastOut := (((s.hazeOf n).buf ++ words).take sent).getLastD (s.hazeOf n).lastOut }) := by
  unfold hazePrime
  simp only [hst, List.isEmpty_iff, Bool.or_eq_true, decide_eq_true_eq, beq_self_eq_true, if_true]

theorem hazePrime_hold {n sent : Nat} {words : List (BitVec 2)} {s : State} (hst : s.rd (laneB n) R.HAZE_STATUS_STATE = 1) :
    hazePrime n words sent s = hazeEval n (if holdCause n s = 4 then s.advanceNow (s.hazeOf n).injUntil else s) := by
  simp [hazePrime, hst]

theorem hazeFilled_prime {n : Nat} {words : List (BitVec 2)} {s : State} (hst : s.rd (laneB n) R.HAZE_STATUS_STATE = 2) :
    hazeFilled n words s =
      if s.rd (laneB n) R.HAZE_BUF_DEPTH ≤ words.length then
        (hazeGo n 3 (words.take (s.rd (laneB n) R.HAZE_BUF_DEPTH)) s).wr (laneB n) R.HAZE_LAT_LAT
          (min (hazeLat n (s.rd (laneB n) R.HAZE_BUF_DEPTH) (hazeGo n 3 (words.take (s.rd (laneB n) R.HAZE_BUF_DEPTH)) s)) 0xFFFF)
      else s := by
  unfold hazeFilled
  simp only [hst, bne_self_eq_false, Bool.false_or, decide_eq_true_eq]
  split_ifs with h1 h2 h2
  · omega
  · rfl
  · rfl
  · omega

/-- Between the slips of a window the buffer only moves (R341). -/
theorem hazeSlip_within {n sent : Nat} {words : List (BitVec 2)} {s : State} (hst : s.rd (laneB n) R.HAZE_STATUS_STATE = 3)
    {last : BitVec 2} {buf : List (BitVec 2)}
    (hlast : last = if sent = 0 then (s.hazeOf n).lastOut else ((s.hazeOf n).buf ++ words).getD (sent - 1) (s.hazeOf n).lastOut)
    (hbuf : buf = ((s.hazeOf n).buf ++ words).drop sent)
    (hlo : s.rd (laneB n) R.HAZE_BUF_DEPTH - s.rd (laneB n) R.HAZE_BUF_SLIP_WIN ≤ buf.length)
    (hhi : buf.length ≤ s.rd (laneB n) R.HAZE_BUF_DEPTH + s.rd (laneB n) R.HAZE_BUF_SLIP_WIN) :
    hazeSlip n words sent s = hazeBuf n buf (s.setHaze n { s.hazeOf n with lastOut := last }) := by
  subst hlast hbuf
  unfold hazeSlip
  simp only [hst, bne_self_eq_false, Bool.false_eq_true, if_false, beq_iff_eq]
  rw [if_pos ⟨hhi, by omega⟩]

/-- What a slip does, once the buffer without it is known (R341). -/
theorem hazeSlip_slips {n sent : Nat} {words : List (BitVec 2)} {s : State} (hst : s.rd (laneB n) R.HAZE_STATUS_STATE = 3)
    {last : BitVec 2} {buf : List (BitVec 2)}
    (hlast : last = if sent = 0 then (s.hazeOf n).lastOut else ((s.hazeOf n).buf ++ words).getD (sent - 1) (s.hazeOf n).lastOut)
    (hbuf : buf = ((s.hazeOf n).buf ++ words).drop sent) {d w rate : Nat} (hd : d = s.rd (laneB n) R.HAZE_BUF_DEPTH)
    (hw : w = s.rd (laneB n) R.HAZE_BUF_SLIP_WIN) (hrate : rate = max 1 (symRate (s.rd (laneB n) R.TX_CTRL_MODE)))
    (hout : d + w < buf.length ∨ buf.length + w < d) {out : List (BitVec 2)}
    (ho : out = if d + w < buf.length then buf.drop 1 else last :: buf) {t u : State}
    (ht : t = (s.setHaze n { s.hazeOf n with lastOut := last }).advanceNow (s.hazeOf n).slipAt)
    (hu : u = hazeBuf n out (t.setHaze n { t.hazeOf n with slipAt := t.now + (80000 + rate - 1) / rate })) :
    hazeSlip n words sent s =
      txAlarm n 5 ((u.wr (laneB n) R.HAZE_LAT_LAT (min (hazeLat n out.length u) 0xFFFF)).cnt (laneB n) R.HAZE_CNT_SLIP_SLIPS 1) := by
  have hmode : t.rd (laneB n) R.TX_CTRL_MODE = s.rd (laneB n) R.TX_CTRL_MODE := by
    rw [ht, State.advanceNow_rd]
    rfl
  unfold hazeSlip
  simp only [hst, bne_self_eq_false, Bool.false_eq_true, if_false, beq_iff_eq]
  rw [← hlast, ← hbuf, ← hd, ← hw, ← ht, hmode, ← hrate, ← ho, ← hu]
  rw [if_neg (by omega)]

/-! Errors and their bursts. -/

theorem modeFamily_one (m : Nat) : (modeFamily m == some 1) = decide (m = 4 ∨ m = 5) := by
  unfold modeFamily
  split_ifs with h3 h5
  · simp; omega
  · simp; omega
  · simp; omega

theorem hazeBurstStart_quiet {n : Nat} {words : List (BitVec 2)} {s : State}
    (h : s.rd (laneB n) R.HAZE_ERR_ERR_MODE ≤ 1 ∨ hazeFlows n s = false) : hazeBurstStart n words s = s := by
  unfold hazeBurstStart
  rw [if_pos]
  rcases h with h | h <;> simp [h]

/-- The draw of the errors of a lane. -/
theorem hazeDraw_errors (n k : Nat) (s : State) : hazeDraw n 0 k s =
    (Config.prng (BitVec.ofNat 32 (s.rd (laneB n) R.HAZE_SEED_SEED)) (n * 4 * 2 ^ 64 + k)).toNat := rfl

theorem hazeBurst_eq (n : Nat) (words : List (BitVec 2)) (s : State) {len : Nat} {draw : Nat → Nat}
    (hlen : len = max 1 (s.rd (laneB n) R.HAZE_ERR_BLEN)) (hdraw : ∀ k, draw k = hazeDraw n 0 ((s.hazeOf n).errIdx + k) s) :
    hazeBurst n words s = (s.setHaze n { s.hazeOf n with
        errIdx := (s.hazeOf n).errIdx + len
        errOut := (words.take len).zipIdx.map (fun (p : BitVec 2 × Nat) =>
          if draw p.2 % 16 ≤ s.rd (laneB n) R.HAZE_ERR_DENS then
            BitVec.ofNat 2 (hazeErrored (s.rd (laneB n) R.HAZE_ERR_ERR_KIND) (decide (s.rxMode n = 4 ∨ s.rxMode n = 5)) p.1.toNat
              (draw p.2 / 16))
          else p.1) }).cnt (laneB n) R.HAZE_CNT_ERR_ERR
      ((List.range len).filter (fun k => draw k % 16 ≤ s.rd (laneB n) R.HAZE_ERR_DENS)).length := by
  unfold hazeBurst hazeBurstOut
  simp only [← hlen, ← hdraw, modeFamily_one, List.countP_eq_length_filter, List.map_map]
  rfl

theorem hazeBurstStart_each {n : Nat} {words : List (BitVec 2)} {s : State} (hf : hazeFlows n s = true)
    (hm : s.rd (laneB n) R.HAZE_ERR_ERR_MODE = 3) : hazeBurstStart n words s = hazeBurst n words s := by
  simp [hazeBurstStart, hf, hm]

/-! The waveform stage. -/

theorem hazeClamped_clamps {n : Nat} {s : State} (hj : s.rd (laneB n) R.HAZE_CTRL_JIT_EN = 1) (hup : s.laneUp n = true) :
    hazeClamped n s = ((s.cnt (laneB n) R.HAZE_CNT_JCLAMP 1).wr (laneB n) R.HAZE_EVT_JCLAMP 1).raise (12 * n + 10) := by
  simp [hazeClamped, State.on, hj, hup, evLane, Nat.mul_comm]

theorem hazeCoefWrite_eq (n : Nat) (w : Word) (s : State) : hazeCoefWrite n w s =
    if s.rd (laneB n) R.HAZE_COEF_SEL_BANK = s.rd (laneB n) R.HAZE_CTRL_ACT_BANK ∨
        (s.rd (laneB n) R.HAZE_STATUS_XF_BUSY = 1 ∧ s.rd (laneB n) R.HAZE_COEF_SEL_BANK = (s.hazeOf n).outBank) then
      ((s.cnt (laneB n) R.HAZE_CNT_REFUSED 1).wr (laneB n) R.HAZE_EVT_REFUSED 1).raise (12 * n + 10)
    else hazeAutoInc n ((coefNote (hazeTap n (s.rd (laneB n) R.HAZE_COEF_SEL_BANK) (s.rd (laneB n) R.HAZE_COEF_SEL_INDEX)) s).setReg
      (hazeTap n (s.rd (laneB n) R.HAZE_COEF_SEL_BANK) (s.rd (laneB n) R.HAZE_COEF_SEL_INDEX)) (w &&& 0x3FF)) := by
  unfold hazeCoefWrite hazeRefuse
  rw [evLane, Nat.mul_comm n 12]
  have hbusy : s.on (laneB n) R.HAZE_STATUS_XF_BUSY = true ↔ s.rd (laneB n) R.HAZE_STATUS_XF_BUSY = 1 := State.on_iff_bit (by decide)
  simp only [Bool.or_eq_true, Bool.and_eq_true, beq_iff_eq, hbusy]

theorem noiseWindow_eq (n : Nat) (words : List (BitVec 2)) (s : State) : noiseWindow n words s =
    if (txSendW n words s).2 = [] then (txSendW n words s).1
    else (txSendW n words s).1.wr (laneB n) R.HAZE_PWR_PWR
      (min (((txSendW n words s).2.map (fun w => w.natAbs ^ 2)).sum / ((txSendW n words s).2.length * 2 ^ 92)) 0xFFFF) := by
  unfold noiseWindow
  simp only [List.isEmpty_iff]

/-! The queues of frames. -/

theorem hzDue_releases {e : Nat} {d : HzFrame × Nat} {s : State} (hd : dlyFirst e s = some d) (hup : s.feUp e = true)
    (hc : s.counting = true) :
    hzDue e s = hzReleased d.1.eng d.1.rule (hzQueue d.1 { s.advanceTlv d.1.t s.now with hzDly := s.hzDly.erase d }) := by
  simp [hzDue, hd, hup, hc, hzRelease]

theorem State.advance_hz (s : State) (d : Nat) : (s.advance d).hzDly = s.hzDly ∧ (s.advance d).hzHeld = s.hzHeld := by
  rw [State.advance_eq]
  exact ⟨rfl, rfl⟩

theorem State.advanceTlv_hz (s : State) (x due : Nat) :
    (s.advanceTlv x due).hzDly = s.hzDly ∧ (s.advanceTlv x due).hzHeld = s.hzHeld := by
  unfold State.advanceTlv State.advanceNow
  split_ifs
  · exact s.advance_hz _
  · exact ⟨rfl, rfl⟩
  · exact ⟨rfl, rfl⟩
  · exact s.advance_hz _

theorem hzTimeout_goes {e : Nat} {h : HzHeld} {s : State} (hh : s.hzHeld.find? (fun h => h.f.eng == e) = some h)
    (hup : s.feUp e = true) (hc : s.counting = true) :
    hzTimeout e s = hzUnheld h { s.advanceTlv h.until_ s.now with hzHeld := s.hzHeld.erase h } := by
  simp [hzTimeout, hh, hup, hc]

theorem wrFour (b : Nat) (f : Fld) (s : State) : (List.range 4).foldl (fun s k => s.wr (b + 4 * k) f 0) s =
    (((s.wr b f 0).wr (b + 4) f 0).wr (b + 8) f 0).wr (b + 12) f 0 := by
  have hfour : List.range 4 = [0, 1, 2, 3] := rfl
  simp only [hfour, List.foldl_cons, List.foldl_nil, Nat.mul_zero, Nat.add_zero, Nat.mul_one, Nat.reduceMul]

theorem hzClear_eq (e : Nat) (s : State) : hzClear e s =
    (((s.wr (hzB e (s.rd (feB e) R.FE_HZ_SEL_INDEX)) R.FE_HZ_C_COUNT 0).wr (hzB e (s.rd (feB e) R.FE_HZ_SEL_INDEX) + 4) R.FE_HZ_C_COUNT
      0).wr (hzB e (s.rd (feB e) R.FE_HZ_SEL_INDEX) + 8) R.FE_HZ_C_COUNT 0).wr (hzB e (s.rd (feB e) R.FE_HZ_SEL_INDEX) + 12)
      R.FE_HZ_C_COUNT 0 := by
  unfold hzClear
  rw [wrFour]

/-! Raises. -/

theorem not_raiseKey_high {k : Nat} (hlo : 0xC0000 ≤ k) (hhi : k < objKey 7 0) : ¬ RaiseKey k := by
  unfold RaiseKey FltKey EvtKey
  simp only [objKey] at *
  omega

theorem State.raise_getReg {s : State} {id k : Nat} (hr : Rising 0 s.regs) (hid : id < 1152) (hk : ¬ RaiseKey k) :
    (s.raise id).getReg k = s.getReg k := ((s.raiseA_touches EvAcc.none hid) hr).2 k hk

theorem State.raise_rd {s : State} {id b : Nat} {f : Fld} (hr : Rising 0 s.regs) (hid : id < 1152) (hk : ¬ RaiseKey (b + f.off)) :
    (s.raise id).rd b f = s.rd b f := by
  unfold State.rd
  rw [State.raise_getReg hr hid hk]

theorem State.raise_rising {s : State} (id : Nat) (hr : Rising 0 s.regs) (hid : id < 1152) : Rising 0 (s.raise id).regs :=
  ((s.raiseA_touches EvAcc.none hid) hr).1

/-- A raise on an open line is sent. -/
theorem State.raise_sends {s : State} {id : Nat} (hopen : s.evClamped id = false) : Sends id (s.raise id) := by
  have hend (t : State) (i : Nat) : Sends id (t.raiseEnd id i) :=
    ⟨(t.pinReact id).raiseNow id i, by rw [State.raiseEnd, State.queueRaise_raised]; simp, rfl⟩
  unfold State.raise
  rw [State.raiseA_open _ hopen]
  rcases s.raiseOn_cases id EvAcc.none with h | ⟨i, -, h⟩ | h
  · exact h ▸ hend _ _
  · exact h ▸ hend _ _
  · exact h ▸ hend _ _

theorem evDom_fe {e k : Nat} (he : e < 4) (hk : k < 24) : evDom (816 + 24 * e + k) = some (78 + e) := by
  unfold evDom
  rw [if_neg (by omega), if_neg (by omega), if_pos (by omega)]
  congr 1; omega

theorem State.evClamped_of_domOn {s : State} {id d : Nat} (hd : evDom id = some d) (h : s.domOn d = true) : s.evClamped id = false := by
  have hstate : s.rd (Obj.dom d).base R.PWR_DOM_STAT_STATE = 3 := beq_iff_eq.mp h
  simp [State.evClamped, hd, hstate]

end Sys2Proof.Machine
end

section
/-! Haze: entering a state of the cut-through path, a full queue, and the statement. -/

namespace Sys2Proof.Machine

/-- The maps of the state other than memory and registers have rising keys. -/
structure MapsRising (s : State) : Prop where
  acts : Rising 0 s.acts
  legacy : Rising 0 s.legacy
  rx : Rising 0 s.rx
  eq : Rising 0 s.eq
  tx : Rising 0 s.tx
  famWas : Rising 0 s.famWas
  sscStart : Rising 0 s.sscStart
  synLock : Rising 0 s.synLock
  bias : Rising 0 s.bias
  otp : Rising 0 s.otp
  acq : Rising 0 s.acq
  am : Rising 0 s.am
  injSkew : Rising 0 s.injSkew
  fec : Rising 0 s.fec
  injForDrop : Rising 0 s.injForDrop
  txCw : Rising 0 s.txCw
  txPair : Rising 0 s.txPair
  pcs : Rising 0 s.pcs
  flows : Rising 0 s.flows
  flowSnap : Rising 0 s.flowSnap
  strms : Rising 0 s.strms
  strmSnap : Rising 0 s.strmSnap
  snapped : Rising 0 s.snapped
  feInj : Rising 0 s.feInj
  txFrame : Rising 0 s.txFrame
  feFree : Rising 0 s.feFree
  watch : Rising 0 s.watch
  pages : Rising 0 s.pages
  uncPend : Rising 0 s.uncPend
  remap : Rising 0 s.remap
  spares : Rising 0 s.spares
  repairTmp : Rising 0 s.repairTmp
  mcInj : Rising 0 s.mcInj
  plots : Rising 0 s.plots
  trigPost : Rising 0 s.trigPost
  rps : Rising 0 s.rps
  rpSym : Rising 0 s.rpSym
  streams : Rising 0 s.streams
  scrubAt : Rising 0 s.scrubAt
  haze : Rising 0 s.haze
  hzCnt : Rising 0 s.hzCnt
  hzInj : Rising 0 s.hzInj
  semSince : Rising 0 s.semSince
  sess : Rising 0 s.sess
  doms : Rising 0 s.doms
  calSets : Rising 0 s.calSets
  rot : Rising 0 s.rot

theorem Inv.maps_rising {s : State} (h : Inv s) : MapsRising s := by
  obtain ⟨-, -, -, -, -, htidy, -⟩ := h
  simp only [State.tidied, Bool.and_eq_true, and_assoc, risesFrom_iff] at htidy
  obtain ⟨hacts, hlegacy, hrx, heq, htx, hfamWas, hsscStart, hsynLock, hbias, hotp, hacq, ham, hinjSkew, hfec, hinjForDrop, htxCw, htxPair, hpcs, hflows, hflowSnap, hstrms, hstrmSnap, hsnapped, hfeInj, htxFrame, hfeFree, hwatch, hpages, huncPend, hremap, hspares, hrepairTmp, hmcInj, hplots, htrigPost, hrps, hrpSym, hstreams, hscrubAt, hhaze, hhzCnt, hhzInj, hsemSince, hsess, hdoms, hcalSets, hrot, -⟩ := htidy
  exact ⟨hacts, hlegacy, hrx, heq, htx, hfamWas, hsscStart, hsynLock, hbias, hotp, hacq, ham, hinjSkew, hfec, hinjForDrop, htxCw, htxPair, hpcs, hflows, hflowSnap, hstrms, hstrmSnap, hsnapped, hfeInj, htxFrame, hfeFree, hwatch, hpages, huncPend, hremap, hspares, hrepairTmp, hmcInj, hplots, htrigPost, hrps, hrpSym, hstreams, hscrubAt, hhaze, hhzCnt, hhzInj, hsemSince, hsess, hdoms, hcalSets, hrot⟩

theorem RaiseFrame.raise (s : State) (id : Nat) : RaiseFrame s (s.raise id) := RaiseFrame.raiseA s id _

@[simp] theorem State.raise_hazeOf (s : State) (id n : Nat) : (s.raise id).hazeOf n = s.hazeOf n := by
  obtain ⟨_, _, _, _, h⟩ := RaiseFrame.raise s id
  rw [h]
  rfl

@[simp] theorem State.raise_hzQ (s : State) (id : Nat) : (s.raise id).hzQ = s.hzQ := by
  obtain ⟨_, _, _, _, h⟩ := RaiseFrame.raise s id
  rw [h]

theorem hazeKey_ne_dom {n off d : Nat} (hn : n < 64) (ho : off < 0x10000) :
    (Obj.dom d).base + R.PWR_DOM_STAT_STATE.off ≠ laneB n + off := by
  simp only [Obj.base, objKey, laneB, R.PWR_DOM_STAT_STATE]
  omega

theorem not_raiseKey_lane {n off : Nat} (hn : n < 64) (ho : off < 0x10000) : ¬ RaiseKey (laneB n + off) :=
  not_raiseKey_high (by unfold laneB; omega) (by simp only [laneB, objKey]; omega)

theorem not_raiseKey_fe {e off : Nat} (he : e < 4) (ho : off < 0x40000) : ¬ RaiseKey (feB e + off) :=
  not_raiseKey_high (by unfold feB; omega) (by simp only [feB, objKey]; omega)

theorem hazeBuf_rd {n b : Nat} {f : Fld} (buf : List (BitVec 2)) {s : State} (hr : Rising 0 s.regs)
    (hf : b + f.off ≠ laneB n + 0x6008 ∨ (b + f.off = laneB n + 0x6008 ∧ f.hi < 16)) :
    (hazeBuf n buf s).rd b f = s.rd b f := by
  rcases hf with hne | ⟨heq, hlow⟩
  · exact State.rd_wr_ne (s.setHaze n _) _ _ _ _ _ hr hne
  · exact State.rd_wr_beside (s.setHaze n _) _ _ _ _ _ hr heq (.inr hlow)

theorem hazeBuf_fill {n : Nat} (buf : List (BitVec 2)) {s : State} (hr : Rising 0 s.regs) :
    (hazeBuf n buf s).rd (laneB n) R.HAZE_STATUS_FILL = min buf.length 4095 := by
  refine (State.rd_wr_same (s.setHaze n _) _ _ _ hr (by decide)).trans (Nat.mod_eq_of_lt ?_)
  exact Nat.lt_of_le_of_lt (Nat.min_le_right _ _) (by decide)

theorem hazeBuf_rising {n : Nat} (buf : List (BitVec 2)) {s : State} (hr : Rising 0 s.regs) : Rising 0 (hazeBuf n buf s).regs :=
  State.setReg_rising (s.setHaze n _) _ _ hr

theorem hazeBuf_hazeOf {n : Nat} (buf : List (BitVec 2)) {s : State} (hh : Rising 0 s.haze) : ((hazeBuf n buf s).hazeOf n).buf = buf := by
  have hput : (hazeBuf n buf s).hazeOf n = { s.hazeOf n with buf := buf } := look_put_same HazeSt.idle _ hh
  rw [hput]

/-- A path that enters another state shows it and raises its event. -/
def hazeEntered (n st : Nat) (s : State) : State := (s.wr (laneB n) R.HAZE_STATUS_STATE st).wr (laneB n) R.HAZE_EVT_STATE 1

theorem hazeGo_eq (n st : Nat) (buf : List (BitVec 2)) (s : State) : hazeGo n st buf s =
    if (hazeBuf n buf s).rd (laneB n) R.HAZE_STATUS_STATE = st then hazeBuf n buf s
    else (hazeEntered n st (hazeBuf n buf s)).raise (evLane n 10) := by
  simp only [hazeGo, beq_iff_eq, hazeEntered]

theorem hazeEntered_rising (n st : Nat) {s : State} (hr : Rising 0 s.regs) : Rising 0 (hazeEntered n st s).regs :=
  State.setReg_rising _ _ _ (State.setReg_rising _ _ _ hr)

theorem hazeEntered_hazeOf (n st m : Nat) (s : State) : (hazeEntered n st s).hazeOf m = s.hazeOf m := rfl

theorem hazeEntered_rd {n st b : Nat} {f : Fld} {s : State} (hr : Rising 0 s.regs) (hev : b + f.off ≠ laneB n + 0x603C)
    (hst : b + f.off ≠ laneB n + 0x6008 ∨ (b + f.off = laneB n + 0x6008 ∧ 1 < f.lo)) : (hazeEntered n st s).rd b f = s.rd b f := by
  have hr' : Rising 0 (s.wr (laneB n) R.HAZE_STATUS_STATE st).regs := State.setReg_rising _ _ _ hr
  refine (State.rd_wr_ne _ _ _ _ _ _ hr' hev).trans ?_
  rcases hst with hne | ⟨heq, hhigh⟩
  · exact State.rd_wr_ne s _ _ _ _ _ hr hne
  · exact State.rd_wr_beside s _ _ _ _ _ hr heq (.inl hhigh)

theorem hazeEntered_state {n st : Nat} {s : State} (hr : Rising 0 s.regs) (hst : st < 4) :
    (hazeEntered n st s).rd (laneB n) R.HAZE_STATUS_STATE = st := by
  have hr' : Rising 0 (s.wr (laneB n) R.HAZE_STATUS_STATE st).regs := State.setReg_rising _ _ _ hr
  refine (State.rd_wr_ne _ _ _ _ _ _ hr' (by simp [R.HAZE_STATUS_STATE, R.HAZE_EVT_STATE])).trans ?_
  exact (State.rd_wr_same s _ _ _ hr (by decide)).trans (Nat.mod_eq_of_lt hst)

/-- R340: the entry to a state of the cut-through path. -/
theorem hazeGo_enters {n st : Nat} (buf : List (BitVec 2)) {s : State} (hr : Rising 0 s.regs) (hh : Rising 0 s.haze) (hn : n < 64)
    (hst : st < 4) (hon : s.domOn n = true) :
    (hazeGo n st buf s).rd (laneB n) R.HAZE_STATUS_STATE = st ∧
      (hazeGo n st buf s).rd (laneB n) R.HAZE_STATUS_FILL = min buf.length 4095 ∧ ((hazeGo n st buf s).hazeOf n).buf = buf ∧
      (s.rd (laneB n) R.HAZE_STATUS_STATE ≠ st →
        Sends (12 * n + 10) (hazeGo n st buf s) ∧ (hazeGo n st buf s).rd (laneB n) R.HAZE_EVT_STATE = 1) ∧
      (s.rd (laneB n) R.HAZE_STATUS_STATE = st → (hazeGo n st buf s).raised = s.raised) := by
  have hrb : Rising 0 (hazeBuf n buf s).regs := hazeBuf_rising buf hr
  have hre : Rising 0 (hazeEntered n st (hazeBuf n buf s)).regs := hazeEntered_rising n st hrb
  have hid : evLane n 10 < 1152 := by unfold evLane; omega
  have hbuf : (hazeBuf n buf s).rd (laneB n) R.HAZE_STATUS_STATE = s.rd (laneB n) R.HAZE_STATUS_STATE :=
    hazeBuf_rd buf hr (.inr ⟨rfl, by decide⟩)
  have hraise (f : Fld) (hf : f.off < 0x10000) : ((hazeEntered n st (hazeBuf n buf s)).raise (evLane n 10)).rd (laneB n) f =
      (hazeEntered n st (hazeBuf n buf s)).rd (laneB n) f := State.raise_rd hre hid (not_raiseKey_lane hn hf)
  rw [hazeGo_eq, hbuf]
  by_cases hsame : s.rd (laneB n) R.HAZE_STATUS_STATE = st
  · rw [if_pos hsame]
    exact ⟨hbuf.trans hsame, hazeBuf_fill buf hr, hazeBuf_hazeOf buf hh, fun hne => absurd hsame hne, fun _ => rfl⟩
  · rw [if_neg hsame]
    have hdom : (hazeEntered n st (hazeBuf n buf s)).domOn n = true := by
      have hne (off : Nat) (ho : off < 0x10000) := hazeKey_ne_dom (n := n) (d := n) hn ho
      have hrd : (hazeEntered n st (hazeBuf n buf s)).rd (Obj.dom n).base R.PWR_DOM_STAT_STATE =
          s.rd (Obj.dom n).base R.PWR_DOM_STAT_STATE :=
        (hazeEntered_rd hrb (hne _ (by decide)) (.inl (hne _ (by decide)))).trans
          (hazeBuf_rd buf hr (.inl (hne _ (by decide))))
      unfold State.domOn at hon ⊢
      rw [hrd]
      exact hon
    refine ⟨(hraise _ (by decide)).trans (hazeEntered_state hrb hst), ?_, ?_, fun _ => ⟨?_, ?_⟩, fun h => absurd h hsame⟩
    · exact (hraise _ (by decide)).trans ((hazeEntered_rd hrb (by simp [R.HAZE_STATUS_FILL]) (.inr ⟨rfl, by decide⟩)).trans
        (hazeBuf_fill buf hr))
    · rw [State.raise_hazeOf, hazeEntered_hazeOf]
      exact hazeBuf_hazeOf buf hh
    · have hopen := State.evClamped_of_domOn (evDom_lane (k := 10) hn (by omega)) hdom
      have hcomm : evLane n 10 = 12 * n + 10 := by unfold evLane; omega
      rw [hcomm] at hid ⊢
      exact State.raise_sends hopen
    · refine (hraise _ (by decide)).trans ?_
      exact State.rd_wr_same _ _ _ _ (State.setReg_rising _ _ _ hrb) (by decide)

/-! A queue of frames. -/

theorem hzQueue_fits {f : HzFrame} {s : State}
    (h : hzBytes (s.hzQ.filter (fun q => q.eng == f.eng && q.path == f.path)) + f.bytes.length * f.copies ≤ 262144) :
    hzQueue f s = { s with hzQ := s.hzQ ++ [f] } := by
  unfold hzQueue
  exact if_neg (by simp only [Bool.and_eq_true, decide_eq_true_eq, not_and, not_lt]; exact fun _ => h)

theorem hzQueue_full {f : HzFrame} {s : State} (hp : f.path < 16)
    (h : 262144 < hzBytes (s.hzQ.filter (fun q => q.eng == f.eng && q.path == f.path)) + f.bytes.length * f.copies) :
    hzQueue f s = hzEvent f.eng (s.cnt (feB f.eng) R.FE_HZ_STAT_FWD_LOST 1) := by
  unfold hzQueue
  exact if_pos (by simp only [Bool.and_eq_true, decide_eq_true_eq, bne_iff_ne]; exact ⟨by omega, h⟩)

theorem feKey_ne_dom {e off d : Nat} (he : e < 4) (ho : off < 0x40000) :
    (Obj.dom d).base + R.PWR_DOM_STAT_STATE.off ≠ feB e + off := by
  simp only [Obj.base, objKey, feB, R.PWR_DOM_STAT_STATE]
  omega

/-- A frame lost to a full queue is reported whatever form the map of registers has: the count is not 0. -/
theorem hzQueue_reports {f : HzFrame} {s : State} (hp : f.path < 16) (he : f.eng < 4) (hon : s.domOn (78 + f.eng) = true)
    (h : 262144 < hzBytes (s.hzQ.filter (fun q => q.eng == f.eng && q.path == f.path)) + f.bytes.length * f.copies) :
    (hzQueue f s).hzQ = s.hzQ ∧ Sends (824 + 24 * f.eng) (hzQueue f s) := by
  rw [hzQueue_full hp h, hzEvent]
  refine ⟨State.raise_hzQ _ _, ?_⟩
  have hreset : ∀ e < 4, resetWord (feB e + R.FE_HZ_STAT_FWD_LOST.off) = 0 := by decide +kernel
  have hdom : (s.cnt (feB f.eng) R.FE_HZ_STAT_FWD_LOST 1).domOn (78 + f.eng) = true := by
    unfold State.domOn State.rd at hon ⊢
    rw [State.getReg_cnt_of (feKey_ne_dom he (by decide)) (by decide) (hreset _ he)]
    exact hon
  have hid : evFe f.eng 8 = 824 + 24 * f.eng := by unfold evFe; omega
  have hline : evDom (824 + 24 * f.eng) = some (78 + f.eng) := by
    have := evDom_fe he (k := 8) (by omega)
    rwa [show 816 + 24 * f.eng + 8 = 824 + 24 * f.eng by omega] at this
  rw [hid]
  exact State.raise_sends (State.evClamped_of_domOn hline hdom)

/-! Registers that act. -/

theorem hazeCoef_write {m : Master} {n : Lane} {w : Word} {s u : State} (h : Served m true (0x01006028 + 0x10000 * n.val) w s)
    (hu : hazeCoefWrite n.val w s.fresh = u) :
    exec (.hazeCoefWrite m n w) s = .next (closed s.pending (answered m (0x01006028 + 0x10000 * n.val) true 0 .done u)) := by
  subst hu
  have ha : laneB n.val + 0x6028 = 0x01006028 + 0x10000 * n.val := by unfold laneB; omega
  refine exec_closed (f := writeCmd m (laneB n.val + 0x6028) w) rfl ?_
  rw [ha]
  exact lane_own n.isLt (off := 0x6028) (by decide +kernel) ha.symm h rfl

/-- A command that writes a lane's register does what its hook does with the stored word. -/
theorem lane_hook {m : Master} {n : Lane} {off a : Nat} {w : Word} {s : State} {f : State → State} (hopen : laneOpen off = true)
    (ha : laneB n.val + off = a) (h : Served m true a w s) (ho : ownWrite m (.lane n.val) off w s.fresh = none)
    (hk : laneKeyOf n.val off s.fresh = some (laneB n.val + off))
    (hf : ∀ (old : Word) (t : State), regHook m (.lane n.val) off old w t = f t) :
    writeCmd m (laneB n.val + off) w s.fresh = wrote m a w f s := by
  rw [ha, lane_wrote n.isLt hopen ha.symm h ho hk]
  exact wrote_congr (hf _ _)

theorem hot_zero (w : Word) : hot (fset w 0 0 1) 0 = true := by simp [hot, fset_getLsbD]

theorem hazeInjHold_write {m : Master} {n : Lane} {w : Word} {s : State}
    (h : Served m true (0x01006040 + 0x10000 * n.val) (fset w 0 0 1) s) :
    exec (.hazeInjHold m n w) s = .next (closed s.pending (wrote m (0x01006040 + 0x10000 * n.val) (fset w 0 0 1) (hazeInjHold n.val) s)) := by
  have hhook (old v : Word) (t : State) : regHook m (.lane n.val) 0x6040 old v t = if hot v 0 then hazeInjHold n.val t else t := rfl
  refine exec_closed (f := writeCmd m (laneB n.val + 0x6040) (fset w 0 0 1)) rfl ?_
  exact lane_hook (by decide +kernel) (by unfold laneB; omega) h rfl rfl fun old t => by rw [hhook, if_pos (hot_zero w)]

/-- A command that writes one field of an engine's register does what its hook does with the stored word. -/
theorem fe_hook {m : Master} {e : Eng} {off a : Nat} {w : Word} {s : State} {f : State → State} (hopen : feOpen off = true)
    (ha : feB e.val + off = a) (h : Served m true a w s) (hf : ∀ (old : Word) (t : State), regHook m (.fe e.val) off old w t = f t) :
    writeCmd m (feB e.val + off) w s.fresh = wrote m a w f s := by
  rw [ha, fe_wrote e.isLt hopen ha.symm h]
  exact wrote_congr (hf _ _)

theorem hzRuleClear_write {m : Master} {e : Eng} {w : Word} {s : State} {f : State → State}
    (h : Served m true (0x00200C64 + 0x40000 * e.val) (fset w 0 0 1) s) (hf : ∀ t, hzClear e.val t = f t) :
    exec (.hzRuleClear m e w) s = .next (closed s.pending (wrote m (0x00200C64 + 0x40000 * e.val) (fset w 0 0 1) f s)) := by
  have hhook (old v : Word) (t : State) : regHook m (.fe e.val) 0xC64 old v t = if hot v 0 then hzClear e.val t else t := rfl
  refine exec_closed (f := writeCmd m (feB e.val + 0xC64) (fset w 0 0 1)) rfl ?_
  exact fe_hook (by decide +kernel) (by unfold feB; omega) h fun old t => by rw [hhook, if_pos (hot_zero w), hf]

/-- A frame of the engine is armed to be lost. -/
def hzLose (e : Nat) (s : State) : State := { s with hzInj := put 0 s.hzInj e 1 }

theorem hzInjLost_write {m : Master} {e : Eng} {w : Word} {s : State}
    (h : Served m true (0x00200C6C + 0x40000 * e.val) (fset w 0 0 1) s) :
    exec (.hzInjLost m e w) s = .next (closed s.pending (wrote m (0x00200C6C + 0x40000 * e.val) (fset w 0 0 1) (hzLose e.val) s)) := by
  have hhook (old v : Word) (t : State) : regHook m (.fe e.val) 0xC6C old v t = if hot v 0 then hzLose e.val t else t := rfl
  refine exec_closed (f := writeCmd m (feB e.val + 0xC6C) (fset w 0 0 1)) rfl ?_
  exact fe_hook (by decide +kernel) (by unfold feB; omega) h fun old t => by rw [hhook, if_pos (hot_zero w)]

/-- Settles O38: each command of Haze by the lemma on its operation. -/
theorem haze : Obligations.Haze := by
  unfold Obligations.Haze
  refine ⟨fun n s hst hc hrun hsrc => ?_, fun n words sent s => ⟨fun hst hfull => ?_, fun hst hne hlt => ?_, fun hst hc hrun hsrc => ?_,
    fun hst hc hrun hsrc => ?_⟩, fun n st buf s hinv hn hst hon => hazeGo_enters buf hinv.regs_rising hinv.maps_rising.haze hn hst hon,
    fun n words s hst => ?_, fun n words sent s hst => ⟨fun hlo hhi => ?_, fun hout => ?_⟩, fun n words s hflow hmode => ?_,
    fun n words s h => ?_, fun n words s => ?_, fun n s hj hup => ?_, fun m n w s h => ?_, fun m n w s h => hazeInjHold_write h,
    fun e d s hd hup hc => ?_, fun f s hp he hon => ⟨fun hfit => ?_, fun hfull => hzQueue_reports hp he hon hfull⟩,
    fun e h s hh hup hc => ?_, fun m e w s => ⟨fun h => ?_, fun h => hzInjLost_write h⟩⟩
  · exact exec_closed (f := hazeHold n.val) rfl (hazeHold_holds (s := s.fresh) hst hc hrun hsrc)
  · exact exec_closed (f := hazePrime n.val words sent) rfl ((hazePrime_pass (s := s.fresh) hst).trans (if_pos hfull))
  · refine exec_closed (f := hazePrime n.val words sent) rfl ((hazePrime_pass (s := s.fresh) hst).trans (if_neg ?_))
    exact fun hor => hor.elim hne (Nat.not_le.mpr hlt)
  · refine exec_closed (f := hazePrime n.val words sent) rfl ((hazePrime_hold (s := s.fresh) hst).trans ?_)
    rw [if_neg (by rw [show holdCause n.val s.fresh = 0 from hc]; decide)]
    exact hazeEval_prime (Nat.le_of_eq hst) hc hrun hsrc
  · refine exec_closed (f := hazePrime n.val words sent) rfl ((hazePrime_hold (s := s.fresh) hst).trans ?_)
    rw [if_pos (show holdCause n.val s.fresh = 4 from hc)]
    refine hazeEval_prime ?_ (holdCause_advanceNow (s := s.fresh) hc) ?_ ?_
    · rw [State.advanceNow_rd]
      exact Nat.le_of_eq hst
    · rw [State.advanceNow_rd]
      exact hrun
    · rw [State.advanceNow_rd]
      exact hsrc
  · exact exec_closed (f := hazeFilled n.val words) rfl (hazeFilled_prime (s := s.fresh) hst)
  · exact exec_closed (f := hazeSlip n.val words sent) rfl (hazeSlip_within (s := s.fresh) hst rfl rfl hlo hhi)
  · exact exec_closed (f := hazeSlip n.val words sent) rfl (hazeSlip_slips (s := s.fresh) hst rfl rfl rfl rfl rfl hout rfl rfl rfl)
  · refine exec_closed (f := hazeBurstStart n.val words) rfl ((hazeBurstStart_each (s := s.fresh) hflow hmode).trans ?_)
    exact hazeBurst_eq n.val words s.fresh rfl fun _ => rfl
  · exact exec_closed (f := hazeBurstStart n.val words) rfl (hazeBurstStart_quiet (s := s.fresh) h)
  · exact exec_closed (f := noiseWindow n.val words) rfl (noiseWindow_eq n.val words s.fresh)
  · exact exec_closed (f := hazeClamped n.val) rfl (hazeClamped_clamps (s := s.fresh) hj hup)
  · exact hazeCoef_write h (hazeCoefWrite_eq n.val w s.fresh)
  · refine exec_closed (f := hzDue e.val) rfl ((hzDue_releases (s := s.fresh) hd hup hc).trans ?_)
    rw [(s.fresh.advanceTlv_hz _ _).1]
    rfl
  · rw [hzQueue_fits hfit]
    exact ⟨rfl, rfl⟩
  · refine exec_closed (f := hzTimeout e.val) rfl ((hzTimeout_goes (s := s.fresh) hh hup hc).trans ?_)
    rw [(s.fresh.advanceTlv_hz _ _).2]
    rfl
  · exact hzRuleClear_write h (hzClear_eq e.val)

end Sys2Proof.Machine
end

section
/-! Flows and streams: received frames, rate intervals, the instants of streams, snapshots (R249 to R273). -/

namespace Sys2Proof.Machine

/-- A value other than the default reads back from any list. -/
theorem look_put_same_of {α : Type} [DecidableEq α] {d : α} (e : α) {v : α} {i : Nat} (m : List (Nat × α)) (hv : v ≠ d) :
    look e (put d m i v) i = v := by
  induction m with
  | nil => simp [put, hv, look]
  | cons x m ih =>
    obtain ⟨k, y⟩ := x
    simp only [put]
    split
    · simp [look]
    · split
      · simp [look]
      · rw [look, if_neg (by omega), if_neg (by omega), ih]

/-! What a raise writes, whatever its identity. -/

/-- The keys that a raise of `id` writes: the fault collector's window, the event's line, its source, and a record. -/
def RaiseAt (id k : Nat) : Prop :=
  (0x70000 ≤ k ∧ k < 0x80000) ∨ k = 0xB0000 + 4 * (id / 32) ∨ k = 0xB0080 ∨ k = objKey 7 id + 0x14 ∨ k = objKey 7 0x41D + 0x14 ∨
    ∃ i < 8, ∃ off < 0x40, k = objKey 8 i + off

theorem raiseAt_window {id k : Nat} (h : k < 0x10000) : RaiseAt id (fltB + k) := .inl (by unfold fltB; omega)

theorem noteRaise_at {K : Nat → Prop} {s t : State} {id : Nat} (h : Touches K s t) (hline : K (0xB0000 + 4 * (id / 32)))
    (hsrc : K (objKey 7 id + 0x14)) (hflt : ∀ k < 0x10000, K (fltB + k)) : Touches K s (t.noteRaise id) := by
  unfold State.noteRaise
  refine Touches.wr (Touches.cnt (Touches.cnt (h.setReg _ hline) _ hsrc) _ ?_) _ (hflt _ (by decide))
  generalize hc : State.rd _ _ R.FLT_SRC_CFG_CLASS = c
  have hlt : c < 4 := hc ▸ State.rd_lt _ _ _
  rw [Nat.add_assoc]
  exact hflt _ (by simp only [R.FLT_CNT_CLASS_COUNT]; omega)

theorem putRec_at {K : Nat → Prop} {s t : State} {i : Nat} (id : Nat) (cfg : Word) (acc : EvAcc) (h : Touches K s t)
    (hrec : ∀ off < 0x40, K (objKey 8 i + off)) (hflt : ∀ k < 0x10000, K (fltB + k)) : Touches K s (t.putRec i id cfg acc) := by
  unfold State.putRec
  refine Touches.wr ?_ _ (hflt _ (by decide))
  iterate 11 refine Touches.wr ?_ _ (hrec _ (by decide))
  exact h

theorem pinReact_at {K : Nat → Prop} {s t : State} (id : Nat) (h : Touches K s t) (hflt : ∀ k < 0x10000, K (fltB + k)) :
    Touches K s (t.pinReact id) := by
  unfold State.pinReact
  split
  · exact h.wr _ (hflt _ (by decide))
  · exact h

theorem raiseEnd_at {K : Nat → Prop} {s t : State} (id i : Nat) (h : Touches K s t) (hflt : ∀ k < 0x10000, K (fltB + k)) :
    Touches K s (t.raiseEnd id i) := (pinReact_at id h hflt).regs rfl

theorem recordLost_at {K : Nat → Prop} {s t : State} (h : Touches K s t) (hline : K 0xB0080) (hsrc : K (objKey 7 0x41D + 0x14))
    (hflt : ∀ k < 0x10000, K (fltB + k)) : Touches K s t.recordLost := by
  have hcnt : Touches K s (t.cnt fltB R.FLT_CNT_OVF_REC 1) := h.cnt _ (hflt _ (by decide))
  rcases t.recordLost_cases with heq | heq
  · exact heq ▸ hcnt
  · rw [heq]
    exact raiseEnd_at 0x41D 0xFF (noteRaise_at (hcnt.regs rfl) hline hsrc hflt) hflt

/-- A raise writes no register but those. -/
theorem State.raise_at (s : State) (id : Nat) : Touches (RaiseAt id) s (s.raise id) := by
  have hflt : ∀ k < 0x10000, RaiseAt id (fltB + k) := fun k hk => raiseAt_window hk
  have hnote : Touches (RaiseAt id) s (s.noteRaise id) :=
    noteRaise_at (Touches.refl _ _) (.inr (.inl rfl)) (.inr (.inr (.inr (.inl rfl)))) hflt
  unfold State.raise State.raiseA
  split
  · exact Touches.refl _ _
  · rcases s.raiseOn_cases id EvAcc.none with h | ⟨i, hi, h⟩ | h
    · exact h ▸ raiseEnd_at id 0xFF hnote hflt
    · rw [h]
      refine raiseEnd_at id i (putRec_at id _ _ hnote (fun off ho => ?_) hflt) hflt
      exact .inr (.inr (.inr (.inr (.inr ⟨i, hi, off, ho, rfl⟩))))
    · rw [h]
      exact raiseEnd_at id 0xFF (recordLost_at (hnote.regs rfl) (.inr (.inr (.inl rfl))) (.inr (.inr (.inr (.inr (.inl rfl)))))
        hflt) hflt

/-- The words of an engine's first 64 KiB behind its classification table are no word that its events write, at any engine. -/
theorem not_raiseAt_fe {e j off : Nat} (hj : j < 24) (hlo : 0x40 ≤ off) (hhi : off < 0x30000) : ¬ RaiseAt (evFe e j) (feB e + off) := by
  unfold RaiseAt evFe feB
  simp only [objKey]
  rintro (h | h | h | h | h | ⟨i, hi, o, ho, h⟩) <;> omega

end Sys2Proof.Machine
end

section
/-! Flows and streams: the statement of the engines' events. -/

namespace Sys2Proof.Machine

/-! Time on the timeline leaves the registers and the contexts of flows and streams. -/

theorem State.advanceTlv_getReg (s : State) (x due k : Nat) : (s.advanceTlv x due).getReg k = s.getReg k := by
  unfold State.advanceTlv State.advanceNow
  split_ifs
  · exact s.advance_getReg _ k
  · rfl
  · rfl
  · exact s.advance_getReg _ k

/-- The contexts of an engine that an operation leaves: flows, streams and armed injections. -/
structure FlowsKept (s t : State) : Prop where
  flows : t.flows = s.flows
  strms : t.strms = s.strms
  feInj : t.feInj = s.feInj

theorem State.advance_flowsKept (s : State) (d : Nat) : FlowsKept s (s.advance d) := by
  rw [State.advance_eq]
  exact ⟨rfl, rfl, rfl⟩

theorem State.advanceTlv_flowsKept (s : State) (x due : Nat) : FlowsKept s (s.advanceTlv x due) := by
  unfold State.advanceTlv State.advanceNow
  split_ifs
  · exact s.advance_flowsKept _
  · exact ⟨rfl, rfl, rfl⟩
  · exact ⟨rfl, rfl, rfl⟩
  · exact s.advance_flowsKept _

/-! A command starts with the port having sent nothing, which no engine reads. -/

@[simp] theorem State.fresh_rd (s : State) (b : Nat) (f : Fld) : s.fresh.rd b f = s.rd b f := rfl
@[simp] theorem State.fresh_on (s : State) (b : Nat) (f : Fld) : s.fresh.on b f = s.on b f := rfl

theorem clsMatch_fresh (e i : Nat) (key : List Word) (s : State) : clsMatch e i key s.fresh = clsMatch e i key s := rfl

theorem clsMatches_fresh (e : Nat) (key : List Word) (s : State) : clsMatches e key s.fresh = clsMatches e key s := by
  simp only [clsMatches, clsMatch_fresh]

theorem capClass_fresh (e : Nat) (ms : List Nat) (s : State) : capClass e ms s.fresh = capClass e ms s := rfl

theorem tableFlow_fresh (e : Nat) (ms : List Nat) (s : State) : tableFlow e ms s.fresh = tableFlow e ms s := rfl

theorem rxTag_fresh (e : Nat) (ms : List Byte) (s : State) : rxTag e ms s.fresh = rxTag e ms s := rfl

theorem tagCounts_fresh (e g : Nat) (r : TagRead) (s : State) : (tagCounts e g r s.fresh).2 = (tagCounts e g r s).2 := by
  cases r with
  | absent => rfl
  | bad => rfl
  | tag t =>
    have htag : tagIndex e t s.fresh = tagIndex e t s := rfl
    simp only [tagCounts, htag]
    split <;> rfl

theorem feStamp_fresh (e g : Nat) (s : State) : feStamp e g s.fresh = feStamp e g s := rfl

/-! Received frames. -/

theorem feReceive_idle {e g : Nat} {err : Bool} {bytes : List Byte} {s : State}
    (h : s.feUp e = false ∨ s.rd (grpB e g) R.FE_GRP_STAT_STATE ≠ 2) : feReceive e g err bytes s = s := by
  unfold feReceive
  rcases h with h | h <;> simp [h]

theorem feReceive_takes {e g : Nat} {err : Bool} {raw : List Byte} {s : State} (hup : s.feUp e = true)
    (hgrp : s.rd (grpB e g) R.FE_GRP_STAT_STATE = 2) (bytes : List Byte) (hbytes : raw.take 16383 = bytes) :
    feReceive e g err raw s = hzTake e g (feStamp e g s) (errFrame err raw) bytes
      ((chooseFlow (tableFlow e (clsMatches e (frameKey bytes g (s.rd (feB e) R.FE_FLOW_CFG_KEY_OFS)) s) s)
        (tagCounts e g (rxTag e bytes s) s).2 (s.on (feB e) R.FE_TAG_CFG_TAG_FIRST)).map (fun p => p.1))
      (frameCapture e g (capClass e (clsMatches e (frameKey bytes g (s.rd (feB e) R.FE_FLOW_CFG_KEY_OFS)) s) s)
        (16 * e + s.rd (grpB e g) R.FE_GRP_CFG_FIRST) (feStamp e g s) (errFrame err raw) bytes
        (frameRx e g (feStamp e g s) (err || decide (16383 < raw.length)) bytes s)) := by
  have hbusy : (!s.feUp e || s.rd (grpB e g) R.FE_GRP_STAT_STATE != 2) = false := by rw [hup, hgrp]; rfl
  unfold feReceive
  simp only [hbusy, Bool.false_eq_true, if_false]
  rw [hbytes]

/-- A frame without a tag counts in the flow of the table. -/
theorem frameRx_counts {e g stamp i : Nat} {err : Bool} {bytes : List Byte} {s t : State} {ms : List Nat}
    (hms : ms = clsMatches e (frameKey bytes g (s.rd (feB e) R.FE_FLOW_CFG_KEY_OFS)) s) (ht : t = clsHit e ms s)
    (htag : rxTag e bytes t = .absent) (htab : tableFlow e ms t = some i) (hen : (t.flow e i).en = true) :
    frameRx e g stamp err bytes s = t.setFlow e i (if errFrame err bytes then
      { t.flow e i with fcsErr := satAdd 32 (t.flow e i).fcsErr 1 } else { t.flow e i with
        frames := satAdd 64 (t.flow e i).frames 1, bytes := satAdd 64 (t.flow e i).bytes bytes.length, last := stamp,
        first := if (t.flow e i).fresh then stamp else (t.flow e i).first, fresh := false,
        curFrames := satAdd 64 (t.flow e i).curFrames 1, curBytes := satAdd 64 (t.flow e i).curBytes bytes.length }) := by
  have hchoose (first : Bool) : chooseFlow (some i) (none : Option (Nat × Tag)) first = some (i, none) := by cases first <;> rfl
  unfold frameRx
  dsimp only
  rw [← hms, ← ht]
  simp only [htag, tagCounts, htab, hchoose, hen, Bool.not_true, Bool.false_eq_true, if_false]
  split <;> rfl

theorem burstRecord_takes {b : Nat} {s : State} {r : BurstRec} {rest : List BurstRec} (h : s.burstRecs = r :: rest) {i : Nat}
    (hi : i = s.rd (feB 3) R.FE_BURST_CFG_BASE + (r.lane - 56)) : burstRecord b s =
      if s.rd (feB 3) R.FE_BURST_CFG_LANE_EN / 2 ^ (r.lane - 56) % 2 = 1 ∧ i < 1024 ∧ (s.flow 3 i).en = true ∧ s.feUp 3 = true then
        { s with burstRecs := rest }.setFlow 3 i ((s.flow 3 i).frame (b / 8) r.t) else { s with burstRecs := rest } := by
  subst hi
  unfold burstRecord
  simp only [h, Bool.and_eq_true, decide_eq_true_eq, beq_iff_eq, and_assoc]
  rfl

/-! Rate intervals and the instants of streams. -/

theorem rateEnd_latches {e : Nat} {s : State} (hc : s.counting = true) (hup : s.feUp e = true) {d : Nat}
    (hd : d = 2 ^ (s.rd (feB e) R.FE_FLOW_CFG_RATE_EXP + 12) * 250) {t : State}
    (ht : t = s.advanceTlv ((s.tlv.toNat / d + 1) * d) s.now) :
    rateEnd e s = { t with flows := mapVals FlowCtx.blank (fun k f =>
      if k / 1024 = e then { f with rateFrames := f.curFrames, rateBytes := f.curBytes, curFrames := 0, curBytes := 0 } else f) s.flows } := by
  have hflows : t.flows = s.flows := ht ▸ (s.advanceTlv_flowsKept _ _).flows
  unfold rateEnd rateTicks
  dsimp only
  rw [if_neg (by simp [hc, hup]), ← hd, ← ht, ← hflows]
  simp only [beq_iff_eq]

theorem strmStart_runs {e i : Nat} {s : State} (hc : s.counting = true) (hup : s.feUp e = true) (hst : (s.strm e i).state = 1) :
    strmStart e i s =
      (s.advanceTlv (cStart (s.strm e i).cfg - txLead e (cGroup (s.strm e i).cfg) s) s.now).setStrm e i (s.strm e i).run := by
  simp [strmStart, hc, hup, hst]

theorem StrmCtx.step_cfg (x : StrmCtx) : x.step.cfg = x.cfg := by
  unfold StrmCtx.step
  dsimp only
  split_ifs <;> rfl

theorem StrmCtx.finish_of_endless {x : StrmCtx} (h : cCount x.cfg = 0) : x.finish = x := by
  simp [StrmCtx.finish, h]

theorem State.strm_setStrm {s : State} {e i : Nat} {x : StrmCtx} (h : x ≠ StrmCtx.blank) : (s.setStrm e i x).strm e i = x :=
  look_put_same_of _ s.strms h

/-- An instant of an endless stream that can be sent joins the backlog. -/
theorem strmDue_due {e i : Nat} {s : State} (hc : s.counting = true) (hup : s.feUp e = true) {x : StrmCtx} (hx : s.strm e i = x)
    (hst : x.state = 2) (hcount : cCount x.cfg = 0) {t u : State}
    (ht : t = s.advanceTlv ((x.due + 255) / 256 - txLead e (cGroup x.cfg) s) s.now) (hlen : x.backlog.length < 16)
    (hinj : feArmed e 1 s = false) (htx : txUp e (cGroup x.cfg) t = true) (hrp : txReplay e (cGroup x.cfg) t = false)
    (hu : u = t.setStrm e i { x.step with backlog := x.backlog ++ [x.due] }) : strmDue e i s = u.setStrm e i (u.strm e i) := by
  have hinj' : feArmed e 1 t = false := by
    unfold feArmed at hinj ⊢
    rw [ht, (s.advanceTlv_flowsKept _ _).feInj]
    exact hinj
  have hlen' : (x.backlog.length == 16) = false := by rw [beq_eq_false_iff_ne]; omega
  have hfinish : (u.strm e i).finish = u.strm e i := by
    have hne : ({ x.step with backlog := x.backlog ++ [x.due] } : StrmCtx) ≠ StrmCtx.blank := fun h => by
      have hb := congrArg StrmCtx.backlog h
      simp [StrmCtx.blank] at hb
    refine StrmCtx.finish_of_endless ?_
    rw [hu, State.strm_setStrm hne]
    exact (congrArg cCount x.step_cfg).trans hcount
  unfold strmDue
  simp only [hx]
  rw [if_neg (by simp [hst, hc, hup]), if_neg (by simp [hcount]), ← ht]
  simp only [hinj', htx, hrp, hlen', Bool.not_true, Bool.or_false, Bool.false_eq_true, if_false]
  rw [← hu, hfinish]

theorem feStart_sends {e g i : Nat} {s t : State} (hup : s.feUp e = true) (htx : txUp e g s = true) (hrp : txReplay e g s = false)
    (ht : t = s.advanceNow (look 0 s.feFree (16 * e + g))) (hz : hzPick e g t = none) (hi : strmPick e g t = some i) :
    feStart e g s = strmSend e g i t := by
  unfold feStart
  rw [if_neg (by simp [hup, htx, hrp]), ← ht]
  simp only [hz, hi]

/-! Snapshots. -/

theorem snapReached_takes {e : Nat} {s : State} (harm : s.on (feB e) R.FE_SNAP_CTRL_ARM = true) (hc : s.counting = true)
    (hup : s.feUp e = true) :
    snapReached e s = snapTake e false (s.advanceTlv (s.rd64 (feB e) R.FE_SNAP_AT_LO_AT R.FE_SNAP_AT_HI_AT) s.now) := by
  simp [snapReached, harm, hc, hup]

/-- The entries of an engine in a bank. -/
def bankOf {α : Type} (e : Nat) (l : List (Nat × α)) : List (Nat × α) := l.filter (fun p => p.1 / 1024 == e)

theorem bankOf_bankCopy {α : Type} (e : Nat) (live snap : List (Nat × α)) : bankOf e (bankCopy e live snap) = bankOf e live := by
  have hlo : (snap.filter (fun p => decide (p.1 / 1024 < e))).filter (fun p => p.1 / 1024 == e) = [] := by
    rw [List.filter_filter, List.filter_eq_nil_iff]
    intro p _
    simp only [Bool.and_eq_true, beq_iff_eq, decide_eq_true_eq]
    omega
  have hhi : (snap.filter (fun p => decide (e < p.1 / 1024))).filter (fun p => p.1 / 1024 == e) = [] := by
    rw [List.filter_filter, List.filter_eq_nil_iff]
    intro p _
    simp only [Bool.and_eq_true, beq_iff_eq, decide_eq_true_eq]
    omega
  unfold bankOf bankCopy
  dsimp only
  rw [List.filter_append, List.filter_append, hlo, hhi, List.nil_append, List.append_nil, List.filter_filter]
  simp only [Bool.and_self]

/-- The banks copied. -/
def snapCopied (e : Nat) (s : State) : State :=
  { s with flowSnap := bankCopy e s.flows s.flowSnap, strmSnap := bankCopy e s.strms s.strmSnap, snapped := put 0 s.snapped e 1 }

/-- SNAP_CTRL of a snapshot taken. -/
def snapNoted (e : Nat) (late : Bool) (s : State) : State :=
  (((s.wr (feB e) R.FE_SNAP_CTRL_ARM 0).wr (feB e) R.FE_SNAP_CTRL_DONE 1).wr (feB e) R.FE_SNAP_CTRL_LATE (b2n late)).cntW (feB e)
    R.FE_SNAP_CTRL_SEQ 1

theorem snapTake_eq (e : Nat) (late : Bool) (s : State) : snapTake e late s = (snapNoted e late (snapCopied e s)).raise (evFe e 6) := rfl

theorem snapNoted_word (e : Nat) (late : Bool) {s : State} (hr : Rising 0 s.regs) :
    Rising 0 (snapNoted e late s).regs ∧ (snapNoted e late s).rd (feB e) R.FE_SNAP_CTRL_ARM = 0 ∧
      (snapNoted e late s).rd (feB e) R.FE_SNAP_CTRL_DONE = 1 ∧ (snapNoted e late s).rd (feB e) R.FE_SNAP_CTRL_LATE = b2n late := by
  have h1 : Rising 0 (s.wr (feB e) R.FE_SNAP_CTRL_ARM 0).regs := State.setReg_rising _ _ _ hr
  have h2 : Rising 0 ((s.wr (feB e) R.FE_SNAP_CTRL_ARM 0).wr (feB e) R.FE_SNAP_CTRL_DONE 1).regs := State.setReg_rising _ _ _ h1
  have h3 : Rising 0 (((s.wr (feB e) R.FE_SNAP_CTRL_ARM 0).wr (feB e) R.FE_SNAP_CTRL_DONE 1).wr (feB e) R.FE_SNAP_CTRL_LATE
      (b2n late)).regs := State.setReg_rising _ _ _ h2
  unfold snapNoted State.cntW
  have hone (t : State) (ht : Rising 0 t.regs) (f : Fld) (hf : f.off = 0xA10 ∧ f.hi < 2) (v : Nat) :
      (t.wr (feB e) R.FE_SNAP_CTRL_LATE v).rd (feB e) f = t.rd (feB e) f :=
    State.rd_wr_beside t _ _ _ _ _ ht (by rw [hf.1]; rfl) (.inr hf.2)
  have hseq (t : State) (v : Nat) (ht : Rising 0 t.regs) (f : Fld) (hf : f.off = 0xA10 ∧ f.hi < 24) :
      (t.wr (feB e) R.FE_SNAP_CTRL_SEQ v).rd (feB e) f = t.rd (feB e) f :=
    State.rd_wr_beside t _ _ _ _ _ ht (by rw [hf.1]; rfl) (.inr hf.2)
  refine ⟨State.setReg_rising _ _ _ h3, ?_, ?_, ?_⟩
  · refine (hseq _ _ h3 _ ⟨rfl, by decide⟩).trans ?_
    refine (hone _ h2 _ ⟨rfl, by decide⟩ _).trans ?_
    refine (State.rd_wr_beside _ _ _ R.FE_SNAP_CTRL_DONE R.FE_SNAP_CTRL_ARM _ h1 rfl (.inr (by decide))).trans ?_
    exact State.rd_wr_same _ _ _ _ hr (by decide)
  · refine (hseq _ _ h3 _ ⟨rfl, by decide⟩).trans ?_
    refine (hone _ h2 _ ⟨rfl, by decide⟩ _).trans ?_
    exact State.rd_wr_same _ _ _ _ h1 (by decide)
  · refine (hseq _ _ h3 _ ⟨rfl, by decide⟩).trans ?_
    refine (State.rd_wr_same _ _ _ _ h2 (by decide)).trans ?_
    cases late <;> rfl

theorem snapTake_takes (e : Nat) (late : Bool) {s : State} (hr : Rising 0 s.regs) :
    bankOf e (snapTake e late s).flowSnap = bankOf e s.flows ∧ bankOf e (snapTake e late s).strmSnap = bankOf e s.strms ∧
      (snapTake e late s).flows = s.flows ∧ (snapTake e late s).strms = s.strms ∧ look 0 (snapTake e late s).snapped e = 1 ∧
      (snapTake e late s).rd (feB e) R.FE_SNAP_CTRL_ARM = 0 ∧ (snapTake e late s).rd (feB e) R.FE_SNAP_CTRL_DONE = 1 ∧
      (snapTake e late s).rd (feB e) R.FE_SNAP_CTRL_LATE = b2n late := by
  obtain ⟨hrise, harm, hdone, hlate⟩ := snapNoted_word e late (s := snapCopied e s) hr
  have hword (f : Fld) (hf : f.off = 0xA10) : ((snapNoted e late (snapCopied e s)).raise (evFe e 6)).rd (feB e) f =
      (snapNoted e late (snapCopied e s)).rd (feB e) f := by
    unfold State.rd
    rw [((State.raise_at _ _) hrise).2 _ (by rw [hf]; exact not_raiseAt_fe (by omega) (by omega) (by omega))]
  obtain ⟨_, _, _, _, hframe⟩ := RaiseFrame.raise (snapNoted e late (snapCopied e s)) (evFe e 6)
  rw [snapTake_eq]
  refine ⟨?_, ?_, ?_, ?_, ?_, (hword _ rfl).trans harm, (hword _ rfl).trans hdone, (hword _ rfl).trans hlate⟩
  · rw [hframe]
    exact bankOf_bankCopy e s.flows s.flowSnap
  · rw [hframe]
    exact bankOf_bankCopy e s.strms s.strmSnap
  · rw [hframe]
    rfl
  · rw [hframe]
    rfl
  · rw [hframe]
    exact look_put_same_of (d := 0) (v := 1) 0 s.snapped (by decide)

/-- Settles O33: each event of the engines by the lemma on its operation. -/
theorem flowEvents : Obligations.FlowEvents := by
  unfold Obligations.FlowEvents
  refine ⟨fun e g err bytes s h => ?_, fun e g err raw s hup hgrp => ?_, fun e g i stamp err bytes s htag htab hen => ?_,
    fun b s r rest h => ?_, fun e s hc hup => ?_, fun e i s hc hup hst => ?_,
    fun e i s hc hup hst hcount hlen hinj htx hrp => ?_, fun e g s i hup htx hrp hz hi => ?_, fun e s harm hc hup => ?_,
    fun e late s hinv => snapTake_takes e late hinv.regs_rising⟩
  · exact exec_closed (f := feReceive e.val g.val err bytes) rfl (feReceive_idle (s := s.fresh) h)
  · refine exec_closed (f := feReceive e.val g.val err raw) rfl ((feReceive_takes (s := s.fresh) hup hgrp (raw.take 16383) rfl).trans ?_)
    rw [feStamp_fresh, State.fresh_rd, State.fresh_rd, State.fresh_on, clsMatches_fresh, capClass_fresh, tableFlow_fresh, rxTag_fresh,
      tagCounts_fresh]
  · exact frameRx_counts rfl rfl htag htab hen
  · exact exec_closed (f := burstRecord b) rfl (burstRecord_takes (s := s.fresh) h rfl)
  · exact exec_closed (f := rateEnd e.val) rfl (rateEnd_latches (s := s.fresh) hc hup rfl rfl)
  · exact exec_closed (f := strmStart e.val i.val) rfl (strmStart_runs (s := s.fresh) hc hup hst)
  · exact exec_closed (f := strmDue e.val i.val) rfl (strmDue_due (s := s.fresh) hc hup rfl hst hcount rfl hlen hinj htx hrp rfl)
  · exact exec_closed (f := feStart e.val g.val) rfl (feStart_sends (s := s.fresh) hup htx hrp rfl hz hi)
  · exact exec_closed (f := snapReached e.val) rfl (snapReached_takes (s := s.fresh) harm hc hup)

end Sys2Proof.Machine
end

section
/-! Programming the safety OTP (R192, R193). -/

namespace Sys2Proof.Machine

theorem progCmd_malformed {w : Word} {s : State} (h : fget w 31 16 ≠ 0x5AFE ∨ fget w 2 0 = 0 ∨ 3 < fget w 2 0) :
    progCmd w s = progEnd 1 s := by
  unfold progCmd
  exact if_pos (by simpa [or_assoc] using h)

/-- A well formed command is not refused for its key or operation. -/
theorem progCmd_wellFormed {w : Word} (hkey : fget w 31 16 = 0x5AFE) (hlo : 1 ≤ fget w 2 0) (hhi : fget w 2 0 ≤ 3) :
    (fget w 31 16 != 0x5AFE || fget w 2 0 == 0 || decide (3 < fget w 2 0)) = false := by
  have hop : fget w 2 0 ≠ 0 := by omega
  simp [hkey, hop, hhi]

theorem progCmd_busy {w : Word} {s : State} (hkey : fget w 31 16 = 0x5AFE) (hlo : 1 ≤ fget w 2 0) (hhi : fget w 2 0 ≤ 3)
    (hbusy : s.safeOp.isSome = true) : progCmd w s = progEnd 2 s := by
  unfold progCmd
  simp only [progCmd_wellFormed hkey hlo hhi, hbusy, Bool.false_eq_true, if_false, if_true]

theorem progCmd_full {w : Word} {s : State} (hkey : fget w 31 16 = 0x5AFE) (hop : fget w 2 0 = 1) (hidle : s.safeOp = none)
    (hfull : freeSlot (fget w 13 8) s = none) : progCmd w s = progEnd 3 s := by
  have hform := progCmd_wellFormed hkey (Nat.le_of_eq hop.symm) (by omega)
  unfold progCmd
  simp only [hform, hidle, hfull, Option.isSome_none, Option.isNone_none, Bool.and_true, Bool.false_eq_true, if_false]
  rw [if_pos (beq_iff_eq.mpr hop)]

theorem progCmd_begins {w : Word} {s : State} {i : Nat} (hkey : fget w 31 16 = 0x5AFE) (hidle : s.safeOp = none)
    (hslot : fget w 2 0 = 1 → freeSlot (fget w 13 8) s = some i) (hlo : 1 ≤ fget w 2 0) (hhi : fget w 2 0 ≤ 3) {e : Nat × Nat × Nat}
    {im et du : Nat} (he : e = effective (s.otpOf (fget w 13 8))) (him : im = s.rd safeB R.SAFE_PROG_LIM_IB_MAX)
    (het : et = s.rd safeB R.SAFE_PROG_LIM_EMIT_TH) (hdu : du = s.rd safeB R.SAFE_PROG_DUTY_DUTY) :
    progCmd w s = if fget w 2 0 = 1 ∧ (e.1 < im ∨ e.2.1 < et ∨ e.2.2 < du) then progEnd 4 s
      else { s.wr safeB R.SAFE_STATUS_PROG_BUSY 1 with
        safeOp := some ⟨fget w 2 0, fget w 13 8, fset (fset 0 13 0 im) 29 16 et, du,
          BitVec.ofNat 64 (s.rd64 safeB R.SAFE_PROG_DENY_LO_DENY R.SAFE_PROG_DENY_HI_DENY), s.injProg⟩
        injProg := false } := by
  have hfree : (fget w 2 0 == 1 && (freeSlot (fget w 13 8) s).isNone) = false := by
    by_cases hop : fget w 2 0 = 1
    · simp [hslot hop]
    · simp [hop]
  unfold progCmd
  simp only [progCmd_wellFormed hkey hlo hhi, hidle, hfree, Option.isSome_none, Bool.false_eq_true, if_false, ← he, ← him, ← het, ← hdu,
    Bool.and_eq_true, Bool.or_eq_true, decide_eq_true_eq, beq_iff_eq, or_assoc]

/-! The end of an operation. -/

/-- The operation has left the OTP. -/
def safeOpDone (s : State) : State := { s.wr safeB R.SAFE_STATUS_PROG_BUSY 0 with safeOp := none }

theorem progDone_eq {v : Bool} {s : State} {p : SafeOp} (hp : s.safeOp = some p) : progDone v s =
    if p.inj then progEnd 6 (safeOpDone s) else if v then safeApply (progEnd 0 (progApply p (safeOpDone s)))
    else progEnd 5 (otpErr (progFail p (safeOpDone s))) := by
  unfold progDone
  rw [hp]
  rfl

theorem progApply_slot {p : SafeOp} {s : State} {i : Nat} (hop : p.op = 1) (hslot : freeSlot p.lane s = some i) :
    progApply p s = s.setOtp p.lane { s.otpOf p.lane with slots := (s.otpOf p.lane).slots.set i ⟨true, false, true, p.lim, p.duty⟩ } := by
  unfold progApply
  simp only [hop, hslot]
  rfl

theorem progApply_deny {p : SafeOp} {s : State} (hop : p.op = 2) : progApply p s =
    s.setOtp p.lane { s.otpOf p.lane with denyA := (s.otpOf p.lane).denyA ||| p.deny, denyB := (s.otpOf p.lane).denyB ||| p.deny } := by
  unfold progApply
  simp only [hop]

theorem progApply_lock {p : SafeOp} {s : State} (hop : p.op = 3) : progApply p s = { s with otpLockA := true, otpLockB := true } := by
  unfold progApply
  simp only [hop]

/-- Settles O25: PROG_CMD by its checks in their order, and the end of an operation by what it names. -/
theorem otpProgramming : Obligations.OtpProgramming := by
  unfold Obligations.OtpProgramming
  refine ⟨fun w s => ⟨progCmd_malformed, fun hkey hlo hhi => progCmd_busy hkey hlo hhi,
      fun hkey hop hidle hfull => progCmd_full hkey hop hidle hfull⟩,
    fun w s i hkey hidle hslot hlo hhi => progCmd_begins hkey hidle hslot hlo hhi rfl rfl rfl rfl,
    fun v s p i hp hinj hv hop hslot => ?_, fun v s p hp hinj hv hop => ?_, fun v s p hp hinj => ?_⟩
  · refine exec_closed (f := progDone v) rfl ((progDone_eq (s := s.fresh) hp).trans ?_)
    rw [hinj, hv, progApply_slot (s := safeOpDone s.fresh) hop hslot]
    rfl
  · refine exec_closed (f := progDone v) rfl ((progDone_eq (s := s.fresh) hp).trans ?_)
    rw [hinj, hv, if_neg Bool.false_ne_true, if_pos rfl]
    rcases hop with hop | hop
    · rw [progApply_deny hop, if_pos hop]
      rfl
    · rw [progApply_lock hop, if_neg (by rw [hop]; decide)]
      rfl
  · refine exec_closed (f := progDone v) rfl ((progDone_eq (s := s.fresh) hp).trans ?_)
    rw [hinj]
    rfl

end Sys2Proof.Machine
end

section
/-! A plot's page that its channel does not take (R313). -/

namespace Sys2Proof.Machine

open Sys2Proof.Tests (after)

/-- Plot 0 runs with a page of records in its buffer, trigger 0 waits for its pages before the fire, and stack 0 was refused at
boot: its channel serves no page. -/
def pageRefused : State :=
  { listing [(plB 0 + 0x18, 0x40000000), (trB 0 + 0x50, 1)] with
    plots := [(0, { PlotSt.idle with buf := List.replicate 4096 0 })]
    stackBad := 1 }

/-- Refutes O37: the channel discards the page, so that it enters no plot and no trigger counts it; by the statement trigger 0
is armed by it. -/
theorem not_plotsAndReplay : ¬ Obligations.PlotsAndReplay := by
  unfold Obligations.PlotsAndReplay
  rintro ⟨hpage, -⟩
  have hfull : 4096 ≤ (pageRefused.plotOf 0).buf.length := Nat.le_of_eq (List.length_replicate ..).symm
  have hnext := congrArg (fun t => t.rd (trB 0) R.MDW_TRIG_STAT_STATE)
    (after_of_next (hpage 0 pageRefused (by decide +kernel) hfull))
  revert hnext
  decide +kernel

end Sys2Proof.Machine
end

section
/-! Scout armed on a register listed twice (R199). -/

namespace Sys2Proof.Machine

open Sys2Proof.Tests (after)

/-! ACQ.SCOUT_CTRL of lane 0 listed twice, with EN 0 in the second entry: its reset word, which has EN 1, takes out the first. -/

def hiddenStop : State := listing [(0x01003000, 3), (0x01003000, 2)]

/-- Refutes O27: the lane's hook finds EN 0, and the pass is not armed. -/
theorem not_scoutAndGroups : ¬ Obligations.ScoutAndGroups := by
  unfold Obligations.ScoutAndGroups
  rintro ⟨hstart, -⟩
  have hnext := congrArg (fun t => (t.acqOf 0).armed)
    (after_of_next (hstart .jtag 0 (resetWord 0x01003000) hiddenStop (by decide +kernel)))
  revert hnext
  decide +kernel

end Sys2Proof.Machine
end

section
/-! A lane whose acquisition is listed twice (R210). -/

namespace Sys2Proof.Machine

open Sys2Proof.Tests (after)

/-! Lane 0 in BURST, its acquisition listed idle and then with energy: noting that no symbol has been counted takes out the
first entry. -/

def hiddenEnergy : State :=
  { listing [(0x01000004, 7)] with acq := [(0, AcqSt.idle), (0, { AcqSt.idle with energy := true, lowN := 5 })] }

/-- Refutes O28: the energy window counts on from the second entry, and keeps its energy with LOW at 0. -/
theorem not_burstReceive : ¬ Obligations.BurstReceive := by
  unfold Obligations.BurstReceive
  rintro ⟨-, -, henergy, -⟩
  obtain ⟨-, -, hlow, -⟩ := henergy 0 0 (hiddenEnergy.rd (laneB 0) R.ACQ_BURST_DET_ENERGY_TH * 64) hiddenEnergy (by decide +kernel)
  have hnext := congrArg (fun t => (t.acqOf 0).lowN) (after_of_next (hlow (Nat.le_refl _) (by decide +kernel)))
  revert hnext
  decide +kernel

end Sys2Proof.Machine
end

section
/-! The injections of NCP where NCP.INJECT is listed twice (R404). -/

namespace Sys2Proof.Machine

open Sys2Proof.Tests (after)

/-! NCP.INJECT listed twice, with INJ_SESS 1 in the second entry: INJ_SESS written with 0 takes out the first. -/

def hiddenSession : State := listing [(0x000A0090, 0x200), (0x000A0090, 0x100)]

/-- Refutes O47: the written word names session 0, and session 1 takes the injection. -/
theorem not_sessionEvents : ¬ Obligations.SessionEvents := by
  unfold Obligations.SessionEvents
  rintro ⟨-, -, -, -, -, -, -, hinject⟩
  obtain ⟨-, hevent, -⟩ := hinject .jtag 0 hiddenSession
  have hnext := congrArg (fun t => (t.sessOf 0).injEvt) (after_of_next (hevent (by decide +kernel)))
  revert hnext
  decide +kernel

end Sys2Proof.Machine
end

section
/-! A flash operation where BOOT.QSPI_CMD is listed twice (R423). -/

namespace Sys2Proof.Machine

open Sys2Proof.Tests (after)

/-! BOOT.QSPI_CMD listed twice, with OP 1 in the second entry: OP 0 on device 0 takes out the first. -/

def hiddenProgram : State := listing [(0x00010020, 2), (0x00010020, 1)]

/-- Refutes O49: the written word asks for a read, and a program starts. -/
theorem not_flashAndKeys : ¬ Obligations.FlashAndKeys := by
  unfold Obligations.FlashAndKeys
  rintro ⟨hstart, -⟩
  obtain ⟨hread, -⟩ := hstart .jtag 0 hiddenProgram
  have hnext := congrArg (fun t => t.qspiOp.map (·.op)) (after_of_next (hread (by decide +kernel)))
  revert hnext
  decide +kernel

end Sys2Proof.Machine
end

section
/-! The sessions of the control protocol: what a slot holds after a write, what a message sent leaves, and a message that is
executed as soon as it arrives (R389 to R400). -/

namespace Sys2Proof.Machine

/-! A slot. -/

/-- A slot that has held a session is not free. -/
theorem sess_ne_free {x : SessSt} (h : x.gen ≠ 0) : x ≠ SessSt.free := fun he => h (by rw [he]; rfl)

theorem State.sessOf_setSess {k : Nat} {x : SessSt} (s : State) (h : x.gen ≠ 0) : (s.setSess k x).sessOf k = x :=
  look_put_same_of SessSt.free s.sess (sess_ne_free h)

/-! Messages sent. -/

/-- Sending changes the sessions and what the port puts out, and of slot k neither its peer, nor what it expects and may send. -/
structure SessSent (k : Nat) (s t : State) : Prop where
  frame : ∃ m p, t = { s with sess := m, portTx := p }
  gen : (t.sessOf k).gen = (s.sessOf k).gen
  ip : (t.sessOf k).ip = (s.sessOf k).ip
  expect : (t.sessOf k).expect = (s.sessOf k).expect
  credit : (t.sessOf k).credit = (s.sessOf k).credit

theorem SessSent.refl (k : Nat) (s : State) : SessSent k s s := ⟨⟨_, _, rfl⟩, rfl, rfl, rfl, rfl⟩

theorem SessSent.trans {k : Nat} {s t u : State} (h : SessSent k s t) (h' : SessSent k t u) : SessSent k s u := by
  obtain ⟨⟨m, p, rfl⟩, hgen, hip, hexpect, hcredit⟩ := h
  obtain ⟨⟨m', p', rfl⟩, hgen', hip', hexpect', hcredit'⟩ := h'
  exact ⟨⟨m', p', rfl⟩, hgen'.trans hgen, hip'.trans hip, hexpect'.trans hexpect, hcredit'.trans hcredit⟩

theorem SessSent.setSess {k : Nat} {s : State} {x : SessSt} (h : (s.sessOf k).gen ≠ 0) (hgen : x.gen = (s.sessOf k).gen)
    (hip : x.ip = (s.sessOf k).ip) (hexpect : x.expect = (s.sessOf k).expect) (hcredit : x.credit = (s.sessOf k).credit) :
    SessSent k s (s.setSess k x) := by
  have hx : (s.setSess k x).sessOf k = x := State.sessOf_setSess s (by rw [hgen]; exact h)
  exact ⟨⟨_, _, rfl⟩, by rw [hx, hgen], by rw [hx, hip], by rw [hx, hexpect], by rw [hx, hcredit]⟩

theorem SessSent.portSend (k : Nat) (bs : List Byte) (s : State) : SessSent k s (portSend bs s) := by
  unfold Machine.portSend
  split
  · exact ⟨⟨_, _, rfl⟩, rfl, rfl, rfl, rfl⟩
  · exact .refl k s

/-- The datagram has taken its SEQ and joined the store. -/
def dgramKept (k : Nat) (m : NcpMsg) (s : State) : State :=
  s.setSess k { s.sessOf k with
    seq := ((s.sessOf k).seq + 1) % 2 ^ 32
    store := (s.sessOf k).store ++ [⟨(s.sessOf k).seq, m.bytes, m.answers, m.recs, 1, s.now⟩]
    lastMsgs := m.bytes
    injLoss := false }

theorem dgramSend_eq (k : Nat) (m : NcpMsg) (s : State) : dgramSend k m s =
    if (s.sessOf k).injLoss then dgramKept k m s else portSend (dgramBytes k 0 (s.sessOf k).seq m.bytes (dgramKept k m s)) (dgramKept k m s) :=
  rfl

theorem SessSent.dgramSend {k : Nat} {s : State} (m : NcpMsg) (h : (s.sessOf k).gen ≠ 0) : SessSent k s (dgramSend k m s) := by
  have hkept : SessSent k s (dgramKept k m s) := SessSent.setSess h rfl rfl rfl rfl
  rw [dgramSend_eq]
  split
  · exact hkept
  · exact hkept.trans (SessSent.portSend k _ _)

theorem SessSent.flush {k : Nat} (n : Nat) {s : State} (h : (s.sessOf k).gen ≠ 0) : SessSent k s (sessFlushN n k s) := by
  induction n generalizing s with
  | zero => exact .refl k s
  | succ n ih =>
    unfold sessFlushN
    split
    · exact .refl k s
    · next m l _ =>
      split
      · have hset : SessSent k s (s.setSess k { s.sessOf k with waitq := l }) := SessSent.setSess h rfl rfl rfl rfl
        have hsend := hset.trans (SessSent.dgramSend m (by rw [hset.gen]; exact h))
        exact hsend.trans (ih (by rw [hsend.gen]; exact h))
      · exact .refl k s

theorem SessSent.send {k : Nat} {s : State} (m : NcpMsg) (h : (s.sessOf k).gen ≠ 0) : SessSent k s (sessSend k m s) := by
  unfold sessSend
  split
  · have hset : SessSent k s (s.setSess k { s.sessOf k with waitq := (s.sessOf k).waitq ++ [m] }) := SessSent.setSess h rfl rfl rfl rfl
    exact hset.trans (SessSent.flush _ (by rw [hset.gen]; exact h))
  · exact .refl k s

/-- A message of a session with nothing waiting goes out at once where credit and store allow. -/
theorem sessSend_once {k : Nat} {m : NcpMsg} {s : State} (hopen : s.sessOpen k = true) (hgen : (s.sessOf k).gen ≠ 0)
    (hwait : (s.sessOf k).waitq = []) (hsend : canSend k s = true) : sessSend k m s =
      dgramSend k m ((s.setSess k { s.sessOf k with waitq := [m] }).setSess k (s.sessOf k)) := by
  have hx : (s.setSess k { s.sessOf k with waitq := [m] }).sessOf k = { s.sessOf k with waitq := [m] } := State.sessOf_setSess s hgen
  have hsend' : canSend k (s.setSess k { s.sessOf k with waitq := [m] }) = true := by
    unfold canSend at hsend ⊢
    rw [hx]
    exact hsend
  have hback : { s.sessOf k with waitq := [] } = s.sessOf k := by rw [← hwait]
  unfold sessSend
  rw [if_pos hopen, hwait, List.nil_append]
  unfold sessFlush
  rw [hx]
  simp only [List.length_cons, List.length_nil, sessFlushN, hx, hsend', if_true]
  rw [hback]

/-! A message that is executed as it arrives. -/

/-- The message that session k executes. -/
def jobOf (k typ : Nat) (tag : Word) (req : NcpReq) (s : State) : NcpJob :=
  ⟨k, (s.sessOf k).gen, tag, typ, (s.sessOf k).expect, req, 0, [], 0, none, 0⟩

theorem heard_sessOf {k : Nat} {s : State} (h : (s.sessOf k).gen ≠ 0) :
    (heard k s).sessOf k = { s.sessOf k with expect := ((s.sessOf k).expect + 1) % 2 ^ 32, lastRx := s.now } :=
  State.sessOf_setSess _ h

theorem heard_gen {k : Nat} {s : State} (h : Hears k s) : ((heard k s).sessOf k).gen = (s.sessOf k).gen := by
  obtain ⟨-, -, hgen, -⟩ := h
  rw [heard_sessOf hgen]

theorem heard_open {k : Nat} {s : State} (h : Hears k s) : StillOpen k (heard k s) (heard k s) := by
  obtain ⟨-, hopen, -⟩ := h
  exact ⟨hopen, rfl⟩

/-- The message is taken by the session, which has counted it. -/
theorem hostMsg_taken {k typ : Nat} {tag : Word} {req : NcpReq} {s : State} (h : Hears k s) :
    hostMsg k typ tag req s.fresh = ncpPump (msgTake k (s.sessOf k).expect typ tag req (heard k s)) := by
  obtain ⟨hready, hopen, -, hbad, -⟩ := h
  have hready' : ncpReady s.fresh = true := hready
  have hopen' : s.fresh.sessOpen k = true := hopen
  have hbad' : s.fresh.injBad = false := hbad
  unfold hostMsg
  simp only [hready', hopen', hbad', Bool.and_self, Bool.not_true, Bool.false_eq_true, if_false]
  rfl

/-- One message is queued. -/
def State.queued (j : NcpJob) (s : State) : State := { s with ncpQ := [j] }

theorem jobNext_queued {j : NcpJob} {s : State}
    (hcommits : s.ncpCommits.any (fun c => semWaits c && c.slot == j.slot && c.gen == j.gen) = false)
    (hbulk : bulkSleeps j s = false) : jobNext (s.queued j) = some j := by
  have hbulk' : bulkSleeps j (s.queued j) = false := hbulk
  have hcommits' : (s.queued j).ncpCommits.any (fun c => semWaits c && c.slot == j.slot && c.gen == j.gen) = false := hcommits
  unfold jobNext
  rw [show (s.queued j).ncpQ = [j] from rfl]
  simp only [List.find?_cons, List.any_cons, List.any_nil, hcommits', hbulk', Bool.false_and, Bool.or_false, Bool.not_false,
    Bool.and_self]

/-- One message in the queue of an idle engine starts to execute. -/
theorem ncpPump_queued {j : NcpJob} {s : State} (hq : s.ncpQ = []) (hjob : s.ncpJob = none) (hruns : s.partRuns = true)
    (hme : s.meOn = true) (hcommits : s.ncpCommits.any (fun c => semWaits c && c.slot == j.slot && c.gen == j.gen) = false)
    (hbulk : bulkSleeps j s = false) : ncpPump (s.queued j) = jobStart j s := by
  have hback : ({ s.queued j with ncpQ := (s.queued j).ncpQ.erase j } : State) = s := by
    rw [show (s.queued j).ncpQ.erase j = s.ncpQ from (List.erase_cons_head j []).trans hq.symm]
    rfl
  have hmay : ((s.queued j).ncpJob.isNone && (s.queued j).partRuns && (s.queued j).meOn) = true := by
    rw [show (s.queued j).ncpJob = s.ncpJob from rfl, show (s.queued j).partRuns = s.partRuns from rfl,
      show (s.queued j).meOn = s.meOn from rfl, hjob, hruns, hme]
    rfl
  unfold ncpPump
  rw [show (s.queued j).ncpQ.length = 0 + 1 from rfl, ncpPumpN, if_pos hmay, jobNext_queued hcommits hbulk]
  dsimp only
  rw [hback]
  rfl

theorem ncpReady_meOn {s : State} (h : ncpReady s = true) : s.meOn = true := by
  simp only [ncpReady, State.portUp, Bool.and_eq_true] at h
  exact h.1.1

/-- A message that no channel holds up starts to execute, unless it is a RESYNC. -/
theorem hostMsg_starts {k typ : Nat} {tag : Word} {req : NcpReq} {s : State} (h : Hears k s) (hreq : ∀ n, req ≠ .resync n)
    (hbulk : bulkSleeps (jobOf k typ tag req s) (heard k s) = false) :
    hostMsg k typ tag req s.fresh = jobStart (jobOf k typ tag req s) (heard k s) := by
  rw [hostMsg_taken h]
  have hgen := heard_gen h
  obtain ⟨hready, hopen, -, -, hq, hjob, hruns, hcommits⟩ := h
  have hopen' : (heard k s).sessOpen k = true := hopen
  have hqh : (heard k s).ncpQ = [] := hq
  have htake : msgTake k (s.sessOf k).expect typ tag req (heard k s) = (heard k s).queued (jobOf k typ tag req s) := by
    have hqueue : (heard k s).queued (jobOf k typ tag req s) = { heard k s with ncpQ := (heard k s).ncpQ ++
        [⟨k, ((heard k s).sessOf k).gen, tag, typ, (s.sessOf k).expect, req, 0, [], 0, none, 0⟩] } := by
      rw [hqh, hgen]
      rfl
    rw [hqueue]
    unfold msgTake
    rw [hopen']
    cases req
    case resync n => exact absurd rfl (hreq n)
    all_goals rfl
  rw [htake]
  exact ncpPump_queued hqh hjob hruns (ncpReady_meOn hready) hcommits hbulk

/-- A reply that a datagram can hold goes out where the session is still open; one of another session goes nowhere. -/
theorem jobReply_said {k typ status : Nat} {tag : Word} {body : List Byte} {j : NcpJob} {s t : State}
    (hj : j.slot = k ∧ j.gen = (s.sessOf k).gen ∧ j.seq = (s.sessOf k).expect ∧ j.typ = typ ∧ j.tag = tag)
    (hgen : (t.sessOf k).gen = (s.sessOf k).gen) (hfit : body.length ≤ 1000) :
    jobReply j status body t = said k (typ + 128) status tag body s t := by
  obtain ⟨rfl, hjgen, hseq, rfl, rfl⟩ := hj
  have hroom : ¬ msgRoom j.slot t < 8 + body.length := by
    unfold msgRoom ncpMtu
    split <;> omega
  unfold jobReply ncpReply said
  cases hopen : t.sessOpen j.slot with
  | true =>
    have hlive : jobLive j.slot j.gen t = true := by simp [jobLive, hopen, hgen, hjgen]
    rw [hlive, if_neg (by simp), if_neg hroom, hseq]
  | false =>
    have hlive : jobLive j.slot j.gen t = false := by simp [jobLive, hopen]
    rw [hlive, if_pos (by rfl)]
    unfold sessSend
    rw [hopen, if_neg (by simp)]

end Sys2Proof.Machine
end

section
/-! Fields of one block written in turn: what each then holds. -/

namespace Sys2Proof.Machine

/-- Two fields of a block share no bit. -/
def apart (f g : Fld) : Bool := f.off != g.off || decide (f.hi < g.lo) || decide (g.hi < f.lo)

theorem State.rd_wr_apart {s : State} {b v : Nat} {f g : Fld} (hr : Rising 0 s.regs) (h : apart f g = true) :
    (s.wr b f v).rd b g = s.rd b g := by
  simp only [apart, Bool.or_eq_true, bne_iff_ne, decide_eq_true_eq] at h
  by_cases hoff : f.off = g.off
  · exact State.rd_wr_beside s b b f g v hr (by rw [hoff]) (by omega)
  · exact State.rd_wr_ne s b b f g v hr (by omega)

/-- Fields of the block at b take values, one after the other. -/
def State.wrs (b : Nat) (l : List (Fld × Nat)) (s : State) : State := l.foldl (fun t x => t.wr b x.1 x.2) s

/-- What field g, which held v, holds once the listed fields have taken their values. -/
def lastWritten (g : Fld) (l : List (Fld × Nat)) (v : Nat) : Nat :=
  l.foldl (fun v x => if x.1 = g then x.2 % 2 ^ (g.hi + 1 - g.lo) else v) v

theorem State.wrs_rising {b : Nat} (l : List (Fld × Nat)) {s : State} (hr : Rising 0 s.regs) : Rising 0 (s.wrs b l).regs := by
  induction l generalizing s with
  | nil => exact hr
  | cons x l ih => exact ih (State.wr_rising s b x.1 x.2 hr)

theorem State.rd_wrs {b : Nat} {g : Fld} {l : List (Fld × Nat)} {s : State} (hr : Rising 0 s.regs) (hg : g.hi < 32)
    (hl : l.all (fun x => decide (x.1 = g) || apart x.1 g) = true) : (s.wrs b l).rd b g = lastWritten g l (s.rd b g) := by
  induction l generalizing s with
  | nil => rfl
  | cons x l ih =>
    simp only [List.all_cons, Bool.and_eq_true, Bool.or_eq_true, decide_eq_true_eq] at hl
    obtain ⟨hx, hl⟩ := hl
    refine (ih (State.wr_rising s b x.1 x.2 hr) hl).trans (congrArg (lastWritten g l) ?_)
    dsimp only
    by_cases hxg : x.1 = g
    · rw [if_pos hxg, hxg]
      exact State.rd_wr_same s b g x.2 hr hg
    · rw [if_neg hxg]
      exact State.rd_wr_apart hr (hx.resolve_left hxg)

/-- Every other register keeps its word. -/
theorem State.getReg_wrs {b k : Nat} {l : List (Fld × Nat)} {s : State} (hr : Rising 0 s.regs) (hl : ∀ x ∈ l, k ≠ b + x.1.off) :
    (s.wrs b l).getReg k = s.getReg k := by
  induction l generalizing s with
  | nil => rfl
  | cons x l ih =>
    refine (ih (State.wr_rising s b x.1 x.2 hr) fun y hy => hl y (by simp [hy])).trans ?_
    exact State.getReg_wr_ne s x.2 hr (hl x (by simp))

/-- Writing fields changes the map of registers alone. -/
theorem State.wrs_frame (b : Nat) (l : List (Fld × Nat)) (s : State) : ∃ m, s.wrs b l = { s with regs := m } := by
  induction l generalizing s with
  | nil => exact ⟨_, rfl⟩
  | cons x l ih =>
    obtain ⟨m, hm⟩ := ih (s.wr b x.1 x.2)
    exact ⟨m, hm⟩

end Sys2Proof.Machine
end

section
/-! OPEN, CLOSE, RESYNC and the end of sessions (R399 to R402). -/

namespace Sys2Proof.Machine

theorem sessB_ne {j k : Nat} (h : j ≠ k) {f g : Fld} (hf : f.off = 0x40 ∨ f.off = 0x44) (hg : g.off = 0x40 ∨ g.off = 0x44) :
    sessB j + g.off ≠ sessB k + f.off := by
  unfold sessB ncpB
  omega

theorem not_raiseKey_sess {k off : Nat} (hk : k < 4) (ho : off < 0x100) : ¬ RaiseKey (sessB k + off) := by
  unfold RaiseKey FltKey EvtKey sessB ncpB objKey
  omega

theorem domKey_ne_sess {d k off : Nat} (hk : k < 4) (ho : off < 0x100) : (Obj.dom d).base + R.PWR_DOM_STAT_STATE.off ≠ sessB k + off := by
  unfold Obj.base objKey sessB ncpB
  simp only [R.PWR_DOM_STAT_STATE]
  omega

theorem beBytes_length (k v : Nat) : (beBytes k v).length = k := by simp [beBytes]

/-! A close (R399). -/

/-- A close by the part is announced. -/
def sessAnnounced (k reason : Nat) (s : State) : State :=
  if reason == 1 then s else portSend (dgramBytes k 0 (s.sessOf k).seq (ncpMsgBytes 0x02 0 0 (beBytes 4 reason)) s) s

/-- A takeover drops the session's batches. -/
def sessUnbatched (k reason gen : Nat) (s : State) : State :=
  if reason == 2 then { s with batches := s.batches.filter (fun b => !(b.slot == k && b.gen == gen)) } else s

/-- SESS_STAT shows the end. -/
def sessEnded (k reason : Nat) (s : State) : State :=
  s.wrs (sessB k) [(R.NCP_SESS_STAT_STATE, 0), (R.NCP_SESS_STAT_REASON, reason), (R.NCP_SESS_STAT_MODE, 0), (R.NCP_SESS_STAT_EVT_SUB, 0)]

/-- What stays of a session in its slot. -/
def sessRest (x : SessSt) : SessSt := { SessSt.free with gen := x.gen, seq := x.seq, lastMsgs := x.lastMsgs }

theorem sessClose_eq {k : Nat} (reason : Nat) {s : State} (hopen : s.sessOpen k = true) : sessClose k reason s =
    ((sessEnded k reason (sessUnbatched k reason (s.sessOf k).gen (sessAnnounced k reason s))).setSess k (sessRest (s.sessOf k))).raise 0x431 := by
  unfold sessClose
  rw [hopen]
  rfl

theorem sessAnnounced_frame (k reason : Nat) (s : State) : ∃ p, sessAnnounced k reason s = { s with portTx := p } := by
  unfold sessAnnounced portSend
  split
  · exact ⟨_, rfl⟩
  · split
    · exact ⟨_, rfl⟩
    · exact ⟨_, rfl⟩

theorem sessUnbatched_frame (k reason gen : Nat) (s : State) : ∃ l, sessUnbatched k reason gen s = { s with batches := l } := by
  unfold sessUnbatched
  split
  · exact ⟨_, rfl⟩
  · exact ⟨_, rfl⟩

/-- A slot's registers outside the words that a close writes. -/
theorem sessEnded_getReg {j k reason : Nat} {s : State} (hr : Rising 0 s.regs) (hj : j ≠ sessB k + 0x40) :
    (sessEnded k reason s).getReg j = s.getReg j := by
  refine State.getReg_wrs hr fun x hx => ?_
  simp only [List.mem_cons, List.not_mem_nil, or_false] at hx
  rcases hx with rfl | rfl | rfl | rfl <;> exact hj

theorem State.setSess_regs (k : Nat) (x : SessSt) (s : State) : (s.setSess k x).regs = s.regs := rfl

theorem State.rd_setSess (k b : Nat) (x : SessSt) (f : Fld) (s : State) : (s.setSess k x).rd b f = s.rd b f := rfl

theorem State.domOn_setSess (k d : Nat) (x : SessSt) (s : State) : (s.setSess k x).domOn d = s.domOn d := rfl

theorem State.domOn_of_regs {d : Nat} {s t : State} (h : t.regs = s.regs) : t.domOn d = s.domOn d := by
  unfold State.domOn State.rd State.getReg
  rw [h]

theorem sessEnded_domOn {k reason d : Nat} {s : State} (hk : k < 4) (hr : Rising 0 s.regs) :
    (sessEnded k reason s).domOn d = s.domOn d := by
  unfold State.domOn State.rd
  rw [sessEnded_getReg hr (domKey_ne_sess hk (by decide))]

theorem sessEnded_rising (k reason : Nat) {s : State} (hr : Rising 0 s.regs) : Rising 0 (sessEnded k reason s).regs :=
  State.wrs_rising _ hr

theorem portSend_portTx {bs : List Byte} {s : State} (hup : s.portUp = true) : (portSend bs s).portTx = s.portTx ++ [bs] := by
  unfold portSend
  rw [if_pos hup]

/-- SESSION_CLOSE with its reason (R399). -/
theorem closeMsg_bytes (reason : Nat) : ncpMsgBytes 0x02 0 0 (beBytes 4 reason) = [2, 0, 0, 4, 0, 0, 0, 0] ++ beBytes 4 reason := by
  unfold ncpMsgBytes
  rw [beBytes_length]
  exact congrArg (· ++ beBytes 4 reason) (by decide)

theorem evDom_session : evDom 0x431 = some 83 := by decide

theorem sessClose_closes {k : Fin 4} {reason : Nat} {s : State} (hinv : Inv s) (hon : s.domOn 83 = true)
    (hopen : s.sessOpen k.val = true) (hreason : reason < 16) :
    let u := sessClose k.val reason s
    u.sessOpen k.val = false ∧ u.rd (sessB k.val) R.NCP_SESS_STAT_REASON = reason ∧ u.rd (sessB k.val) R.NCP_SESS_STAT_MODE = 0 ∧
      Sends 0x431 u ∧ (∀ j : Fin 4, j ≠ k → u.sessOpen j.val = s.sessOpen j.val) ∧ u.mem = s.mem ∧
      (reason ≠ 2 → u.batches = s.batches) ∧ (reason = 1 → u.portTx = s.portTx) ∧
      (reason ≠ 1 → s.portUp = true → u.portTx = s.portTx ++
        [dgramBytes k.val 0 (s.sessOf k.val).seq ([2, 0, 0, 4, 0, 0, 0, 0] ++ beBytes 4 reason) s]) := by
  intro u
  have hu : u = _ := sessClose_eq reason hopen
  obtain ⟨p, hp⟩ := sessAnnounced_frame k.val reason s
  obtain ⟨l, hl⟩ := sessUnbatched_frame k.val reason (s.sessOf k.val).gen (sessAnnounced k.val reason s)
  generalize ht : sessUnbatched k.val reason (s.sessOf k.val).gen (sessAnnounced k.val reason s) = t at hu hl
  have hr : Rising 0 s.regs := hinv.regs_rising
  have hregs : t.regs = s.regs := by rw [hl, hp]
  have hmem : t.mem = s.mem := by rw [hl, hp]
  have htx : t.portTx = (sessAnnounced k.val reason s).portTx := by rw [hl]
  have hrt : Rising 0 t.regs := by rw [hregs]; exact hr
  obtain ⟨m, hm⟩ := State.wrs_frame (sessB k.val) [(R.NCP_SESS_STAT_STATE, 0), (R.NCP_SESS_STAT_REASON, reason), (R.NCP_SESS_STAT_MODE, 0), (R.NCP_SESS_STAT_EVT_SUB, 0)] t
  have hrv : Rising 0 ((sessEnded k.val reason t).setSess k.val (sessRest (s.sessOf k.val))).regs := by
    rw [State.setSess_regs]
    exact sessEnded_rising _ _ hrt
  have hraise (f : Fld) (j : Fin 4) (hf : f.off < 0x100) : u.rd (sessB j.val) f = (sessEnded k.val reason t).rd (sessB j.val) f := by
    rw [hu, State.raise_rd hrv (by decide) (not_raiseKey_sess j.isLt hf), State.rd_setSess]
  obtain ⟨_, _, _, _, hframe⟩ := RaiseFrame.raise ((sessEnded k.val reason t).setSess k.val (sessRest (s.sessOf k.val))) 0x431
  have hsame : u.mem = t.mem ∧ u.batches = t.batches ∧ u.portTx = t.portTx := by
    rw [hu, hframe]
    unfold sessEnded
    rw [hm]
    exact ⟨rfl, rfl, rfl⟩
  obtain ⟨humem, hubat, hutx⟩ := hsame
  refine ⟨?_, ?_, ?_, ?_, fun j hj => ?_, humem.trans hmem, fun hne => ?_, fun hone => ?_, fun hne hup => ?_⟩
  · have hst : u.rd (sessB k.val) R.NCP_SESS_STAT_STATE = 0 :=
      (hraise _ k (by decide)).trans (State.rd_wrs hrt (by decide) rfl)
    unfold State.sessOpen
    rw [hst]
    rfl
  · refine (hraise _ k (by decide)).trans ((State.rd_wrs hrt (by decide) rfl).trans ?_)
    exact Nat.mod_eq_of_lt hreason
  · exact (hraise _ k (by decide)).trans (State.rd_wrs hrt (by decide) rfl)
  · rw [hu]
    refine State.raise_sends (State.evClamped_of_domOn evDom_session ?_)
    rw [State.domOn_setSess, sessEnded_domOn k.isLt hrt, State.domOn_of_regs hregs]
    exact hon
  · have hst : u.rd (sessB j.val) R.NCP_SESS_STAT_STATE = s.rd (sessB j.val) R.NCP_SESS_STAT_STATE := by
      rw [hraise _ j (by decide)]
      unfold State.rd
      rw [sessEnded_getReg hrt (sessB_ne (fun h => hj (Fin.ext h)) (f := R.NCP_SESS_STAT_STATE) (.inl rfl) (.inl rfl))]
      unfold State.getReg
      rw [hregs]
    unfold State.sessOpen
    rw [hst]
  · rw [hubat, ← ht, sessUnbatched, if_neg (by simpa using hne), hp]
  · rw [hutx, htx, sessAnnounced, if_pos (by simpa using hone)]
  · rw [hutx, htx, sessAnnounced, if_neg (by simpa using hne), portSend_portTx hup, closeMsg_bytes]

/-! An OPEN (R399). -/

/-- The fields that an OPEN sets, with their values. -/
def takenFlds (peer : NcpPeer) (flags : Word) (k gen : Nat) : List (Fld × Nat) :=
  [(R.NCP_SESS_STAT_SESSION, gen % 2 ^ 14 * 4 + k), (R.NCP_SESS_STAT_STATE, 1), (R.NCP_SESS_STAT_MODE, b2n (flags.getLsbD 0)),
    (R.NCP_SESS_STAT_EVT_SUB, b2n (flags.getLsbD 2)), (R.NCP_SESS_PEER_PORT, peer.port.toNat)]

/-- A slot that has taken an OPEN. -/
def takenSlot (peer : NcpPeer) (seq credit : Word) (k : Nat) (s : State) : SessSt :=
  { SessSt.free with
    gen := (s.sessOf k).gen + 1, ip := peer.ip, expect := (seq.toNat + 1) % 2 ^ 32, seq := s.draw % 2 ^ 32,
    credit := credit.toNat, lastRx := s.now }

/-- Slot k has taken an OPEN. -/
def sessTaken (peer : NcpPeer) (flags seq credit : Word) (k : Nat) (s : State) : State :=
  (s.drawn.wrs (sessB k) (takenFlds peer flags k ((s.sessOf k).gen + 1))).setSess k (takenSlot peer seq credit k s)

theorem sessStart_takes {peer : NcpPeer} {tag flags seq credit : Word} {k : Nat} {s : State} (hctl : ctlSess s = none)
    (hslot : (List.range 4).find? (fun k => !s.sessOpen k) = some k) :
    ∃ m, sessStart peer tag flags seq credit s = sessSend k m ((sessTaken peer flags seq credit k s).raise 0x431) := by
  unfold sessStart
  simp only [hctl, Option.isSome_none, Bool.and_false, Bool.false_eq_true, if_false, hslot]
  exact ⟨_, rfl⟩

theorem sessTaken_rising {peer : NcpPeer} {flags seq credit : Word} {k : Nat} {s : State} (hr : Rising 0 s.regs) :
    Rising 0 (sessTaken peer flags seq credit k s).regs := by
  rw [sessTaken, State.setSess_regs]
  exact State.wrs_rising _ (by rw [State.drawn_regs]; exact hr)

/-- What the slot's registers show once the OPEN is taken. -/
theorem sessTaken_rd {peer : NcpPeer} {flags seq credit : Word} {k : Nat} {s : State} (hr : Rising 0 s.regs) {g : Fld} (hg : g.hi < 32)
    (hl : (takenFlds peer flags k ((s.sessOf k).gen + 1)).all (fun x => decide (x.1 = g) || apart x.1 g) = true) :
    (sessTaken peer flags seq credit k s).rd (sessB k) g =
      lastWritten g (takenFlds peer flags k ((s.sessOf k).gen + 1)) (s.drawn.rd (sessB k) g) := by
  rw [sessTaken, State.rd_setSess]
  exact State.rd_wrs (by rw [State.drawn_regs]; exact hr) hg hl

theorem sessTaken_mem (peer : NcpPeer) (flags seq credit : Word) (k : Nat) (s : State) :
    (sessTaken peer flags seq credit k s).mem = s.mem := by
  obtain ⟨m, hm⟩ := State.wrs_frame (sessB k) (takenFlds peer flags k ((s.sessOf k).gen + 1)) s.drawn
  rw [sessTaken, hm]
  rfl

theorem sessTaken_domOn {peer : NcpPeer} {flags seq credit : Word} {k d : Nat} {s : State} (hk : k < 4) (hr : Rising 0 s.regs) :
    (sessTaken peer flags seq credit k s).domOn d = s.domOn d := by
  have hkey : ∀ x ∈ takenFlds peer flags k ((s.sessOf k).gen + 1), (Obj.dom d).base + R.PWR_DOM_STAT_STATE.off ≠ sessB k + x.1.off := by
    intro x hx
    simp only [takenFlds, List.mem_cons, List.not_mem_nil, or_false] at hx
    rcases hx with rfl | rfl | rfl | rfl | rfl
    · exact domKey_ne_sess (off := 0x40) hk (by decide)
    · exact domKey_ne_sess (off := 0x40) hk (by decide)
    · exact domKey_ne_sess (off := 0x40) hk (by decide)
    · exact domKey_ne_sess (off := 0x40) hk (by decide)
    · exact domKey_ne_sess (off := 0x44) hk (by decide)
  rw [sessTaken, State.domOn_setSess]
  unfold State.domOn State.rd
  rw [State.getReg_wrs (by rw [State.drawn_regs]; exact hr) hkey]
  rfl

theorem State.raise_sessOf (id k : Nat) (s : State) : (s.raise id).sessOf k = s.sessOf k := by
  obtain ⟨_, _, _, _, hframe⟩ := RaiseFrame.raise s id
  rw [hframe]
  rfl

theorem State.raise_mem_of (id : Nat) (s : State) : (s.raise id).mem = s.mem := by
  obtain ⟨_, _, _, _, hframe⟩ := RaiseFrame.raise s id
  rw [hframe]

theorem sessTaken_sessOf (peer : NcpPeer) (flags seq credit : Word) (k : Nat) (s : State) :
    (sessTaken peer flags seq credit k s).sessOf k = takenSlot peer seq credit k s :=
  State.sessOf_setSess _ (Nat.succ_ne_zero _)

theorem hostOpen_ready {peer : NcpPeer} {tag flags seq credit : Word} {s : State} (hready : ncpReady s = true) (hbad : s.injBad = false) :
    hostOpen peer tag flags seq credit s.fresh = sessStart peer tag flags seq credit s.fresh := by
  have hready' : ncpReady s.fresh = true := hready
  have hbad' : s.fresh.injBad = false := hbad
  unfold hostOpen
  rw [hready', hbad']
  rfl

theorem ncpReady_domOn {s : State} (h : ncpReady s = true) : s.domOn 83 = true := by
  have hme := ncpReady_meOn h
  simp only [State.meOn, Bool.and_eq_true] at hme
  exact hme.1

theorem ncpOpen_takes {peer : NcpPeer} {tag flags seq credit : Word} {s : State} {k : Nat} (hinv : Inv s) (hready : ncpReady s = true)
    (hbad : s.injBad = false) (hctl : ctlSess s = none) (hslot : (List.range 4).find? (fun k => !s.sessOpen k) = some k) :
    ∃ u, exec (.ncpOpen peer tag flags seq credit) s = .next (closed s.pending u) ∧
      (u.rd (sessB k) R.NCP_SESS_STAT_STATE = 1 ∧ u.rd (sessB k) R.NCP_SESS_STAT_MODE = b2n (flags.getLsbD 0) ∧
      u.rd (sessB k) R.NCP_SESS_STAT_EVT_SUB = b2n (flags.getLsbD 2) ∧ u.rd (sessB k) R.NCP_SESS_PEER_PORT = peer.port.toNat ∧
      u.rd (sessB k) R.NCP_SESS_STAT_SESSION = ((s.sessOf k).gen + 1) % 2 ^ 14 * 4 + k ∧
      (u.sessOf k).ip = peer.ip ∧ (u.sessOf k).expect = (seq.toNat + 1) % 2 ^ 32 ∧ (u.sessOf k).credit = credit.toNat ∧ Sends 0x431 u ∧
      u.mem = s.mem) := by
  obtain ⟨m, hm⟩ := sessStart_takes (peer := peer) (tag := tag) (flags := flags) (seq := seq) (credit := credit) (s := s.fresh) hctl hslot
  have hk : k < 4 := List.mem_range.mp (List.mem_of_find?_eq_some hslot)
  have hr : Rising 0 s.fresh.regs := hinv.regs_rising
  have hrt := sessTaken_rising (peer := peer) (flags := flags) (seq := seq) (credit := credit) (k := k) hr
  have hx := (State.raise_sessOf 0x431 k _).trans (sessTaken_sessOf peer flags seq credit k s.fresh)
  have hsent := SessSent.send m (s := (sessTaken peer flags seq credit k s.fresh).raise 0x431) (k := k) (by rw [hx]; exact Nat.succ_ne_zero _)
  have hsends : Sends 0x431 ((sessTaken peer flags seq credit k s.fresh).raise 0x431) := by
    refine State.raise_sends (State.evClamped_of_domOn evDom_session ?_)
    rw [sessTaken_domOn hk hr]
    exact ncpReady_domOn hready
  have hrd (g : Fld) (hg : g.off < 0x100) : ((sessTaken peer flags seq credit k s.fresh).raise 0x431).rd (sessB k) g =
      (sessTaken peer flags seq credit k s.fresh).rd (sessB k) g := State.raise_rd hrt (by decide) (not_raiseKey_sess hk hg)
  have hmem : ((sessTaken peer flags seq credit k s.fresh).raise 0x431).mem = s.mem :=
    (State.raise_mem_of _ _).trans (sessTaken_mem peer flags seq credit k s.fresh)
  refine ⟨_, exec_closed (f := hostOpen peer tag flags seq credit) rfl ((hostOpen_ready hready hbad).trans hm), ?_⟩
  generalize (sessTaken peer flags seq credit k s.fresh).raise 0x431 = t at hx hsent hsends hrd hmem ⊢
  generalize sessSend k m t = u at hsent ⊢
  obtain ⟨⟨sm, p, rfl⟩, -, hip, hexpect, hcredit⟩ := hsent
  have hbit (b : Bool) : b2n b % 2 = b2n b := by cases b <;> rfl
  refine ⟨(hrd _ (by decide)).trans (sessTaken_rd hr (by decide) rfl),
    (hrd _ (by decide)).trans ((sessTaken_rd hr (by decide) rfl).trans (hbit _)),
    (hrd _ (by decide)).trans ((sessTaken_rd hr (by decide) rfl).trans (hbit _)),
    (hrd _ (by decide)).trans ((sessTaken_rd hr (by decide) rfl).trans (Nat.mod_eq_of_lt peer.port.isLt)),
    (hrd _ (by decide)).trans ((sessTaken_rd hr (by decide) rfl).trans (Nat.mod_eq_of_lt ?_)),
    hip.trans (congrArg SessSt.ip hx), hexpect.trans (congrArg SessSt.expect hx), hcredit.trans (congrArg SessSt.credit hx), hsends, hmem⟩
  have := Nat.mod_lt ((s.sessOf k).gen + 1) (Nat.two_pow_pos 14)
  change ((s.sessOf k).gen + 1) % 2 ^ 14 * 4 + k < 2 ^ 16
  omega

/-- A host that gets no session is told so with STATUS 6. -/
theorem sessStart_refused {peer : NcpPeer} {tag flags seq credit : Word} {s : State}
    (h : flags.getLsbD 0 = true ∧ flags.getLsbD 1 = false ∧ (ctlSess s).isSome = true ∨
      flags.getLsbD 0 = false ∧ ∀ k : Fin 4, s.sessOpen k.val = true) :
    sessStart peer tag flags seq credit s = strayAnswer 0 (ncpMsgBytes 0x81 6 tag []) s := by
  unfold sessStart
  rcases h with ⟨hctl, htake, hsome⟩ | ⟨hobserve, hall⟩
  · obtain ⟨k, hk⟩ := Option.isSome_iff_exists.mp hsome
    simp only [hk, hctl, htake, Bool.and_false, Bool.false_eq_true, if_false, Option.isSome_some, Bool.and_self, if_true]
  · have hnone : (List.range 4).find? (fun k => !s.sessOpen k) = none :=
      List.find?_eq_none.mpr fun k hk => by simp [hall ⟨k, List.mem_range.mp hk⟩]
    cases hc : ctlSess s with
    | none => simp only [hobserve, Bool.false_and, Bool.false_eq_true, if_false, hnone]
    | some k => simp only [hobserve, Bool.false_and, Bool.false_eq_true, if_false, hnone]

/-- The answer's bytes: no session, one message with STATUS 6. -/
theorem refusal_bytes (tag : Word) : beBytes 2 0x4E50 ++ [1, 1] ++ beBytes 2 0 ++ beBytes 2 (ncpMsgBytes 0x81 6 tag []).length ++
    beBytes 12 0 ++ ncpMsgBytes 0x81 6 tag [] =
      [0x4E, 0x50, 1, 1, 0, 0, 0, 8] ++ List.replicate 12 0 ++ [0x81, 6, 0, 0] ++ beBytes 4 tag.toNat := by
  have hlen : (ncpMsgBytes 0x81 6 tag []).length = 8 := by simp [ncpMsgBytes, beBytes_length]
  have hhead : beBytes 2 0x4E50 ++ [1, 1] ++ beBytes 2 0 ++ beBytes 2 8 ++ beBytes 12 0 =
      [0x4E, 0x50, 1, 1, 0, 0, 0, 8] ++ List.replicate 12 0 := by decide
  have hmsg : ncpMsgBytes 0x81 6 tag [] = [0x81, 6, 0, 0] ++ beBytes 4 tag.toNat := by
    unfold ncpMsgBytes
    rw [List.append_nil]
    exact congrArg (· ++ beBytes 4 tag.toNat) (by decide)
  rw [hlen, hhead, hmsg, List.append_assoc _ [0x81, 6, 0, 0]]

theorem ncpOpen_refused {peer : NcpPeer} {tag flags seq credit : Word} {s : State} (hready : ncpReady s = true) (hbad : s.injBad = false)
    (h : flags.getLsbD 0 = true ∧ flags.getLsbD 1 = false ∧ (ctlSess s).isSome = true ∨
      flags.getLsbD 0 = false ∧ ∀ k : Fin 4, s.sessOpen k.val = true) :
    exec (.ncpOpen peer tag flags seq credit) s = .next (closed s.pending { s.fresh with portTx :=
      [[0x4E, 0x50, 1, 1, 0, 0, 0, 8] ++ List.replicate 12 0 ++ [0x81, 6, 0, 0] ++ beBytes 4 tag.toNat] }) := by
  refine exec_closed (f := hostOpen peer tag flags seq credit) rfl ((hostOpen_ready hready hbad).trans ?_)
  have hup : s.fresh.portUp = true := by
    simp only [ncpReady, Bool.and_eq_true] at hready
    exact hready.1
  rw [sessStart_refused (s := s.fresh) h, strayAnswer, portSend, if_pos hup, refusal_bytes]
  rfl

/-! A message sent (R389, R400). -/

theorem sessSend_sends {k : Nat} {m : NcpMsg} {s : State} (hgen : (s.sessOf k).gen ≠ 0)
    (hwait : (s.sessOf k).waitq = []) (hsend : canSend k s = true) (hopen : s.sessOpen k = true) (hup : s.portUp = true)
    (hloss : (s.sessOf k).injLoss = false) :
    let x := s.sessOf k
    let u := sessSend k m s
    u.portTx = s.portTx ++ [[0x4E, 0x50, 1, 0] ++ beBytes 2 (s.rd (sessB k) R.NCP_SESS_STAT_SESSION) ++ beBytes 2 m.bytes.length ++
      beBytes 4 x.seq ++ beBytes 4 x.expect ++ beBytes 4 (x.expect + 255) ++ m.bytes] ∧
    u.sessOf k = { x with seq := (x.seq + 1) % 2 ^ 32, store := x.store ++ [⟨x.seq, m.bytes, m.answers, m.recs, 1, s.now⟩], lastMsgs := m.bytes } ∧
    u.regs = s.regs := by
  intro x u
  have hu : u = _ := sessSend_once (m := m) hopen hgen hwait hsend
  generalize ht : (s.setSess k { s.sessOf k with waitq := [m] }).setSess k (s.sessOf k) = t at hu
  have hx : t.sessOf k = x := by
    rw [← ht]
    exact State.sessOf_setSess _ hgen
  have htup : t.portUp = true := by
    rw [← ht]
    exact hup
  have hfresh : t.portTx = s.portTx ∧ t.regs = s.regs ∧ t.now = s.now := by
    rw [← ht]
    exact ⟨rfl, rfl, rfl⟩
  obtain ⟨htx, hregs, hnow⟩ := hfresh
  have hkept : (dgramKept k m t).sessOf k = { x with
      seq := (x.seq + 1) % 2 ^ 32, store := x.store ++ [⟨x.seq, m.bytes, m.answers, m.recs, 1, s.now⟩], lastMsgs := m.bytes } := by
    refine (State.sessOf_setSess t (by rw [hx]; exact hgen)).trans ?_
    rw [hx, hnow, ← hloss]
  have hbytes : dgramBytes k 0 x.seq m.bytes (dgramKept k m t) =
      [0x4E, 0x50, 1, 0] ++ beBytes 2 (s.rd (sessB k) R.NCP_SESS_STAT_SESSION) ++ beBytes 2 m.bytes.length ++
        beBytes 4 x.seq ++ beBytes 4 x.expect ++ beBytes 4 (x.expect + 255) ++ m.bytes := by
    have hses : (dgramKept k m t).rd (sessB k) R.NCP_SESS_STAT_SESSION = s.rd (sessB k) R.NCP_SESS_STAT_SESSION := by
      rw [dgramKept, State.rd_setSess, State.rd, State.rd, State.getReg, State.getReg, hregs]
    have hhead : beBytes 2 0x4E50 ++ [1, BitVec.ofNat 8 0] = [0x4E, 0x50, 1, 0] := by decide
    unfold dgramBytes
    dsimp only
    rw [hkept, hses, hhead]
  have hu' : u = portSend (dgramBytes k 0 x.seq m.bytes (dgramKept k m t)) (dgramKept k m t) := by
    rw [hu, dgramSend_eq, hx, hloss]
    rfl
  have hkup : (dgramKept k m t).portUp = true := htup
  rw [hu', portSend, if_pos hkup, hbytes]
  exact ⟨congrArg (· ++ _) htx, hkept, hregs⟩

/-! CLOSE and RESYNC of the host (R399, R402), and SESS_STAT.CLOSE. -/

theorem ncpClose_closes {k : Fin 4} {tag reason : Word} {s : State} (h : Hears k.val s) :
    exec (.ncpClose k tag reason) s = .next (closed s.pending (sessClose k.val 1 (said k.val 0x82 0 tag [] s (heard k.val s)))) := by
  refine exec_closed (f := hostMsg k.val 0x02 tag (.close reason.toNat)) rfl ((hostMsg_starts h (by simp) rfl).trans ?_)
  have hgen := heard_gen h
  have hopen := (heard_open h).1
  have hlive : jobLive k.val (s.sessOf k.val).gen (heard k.val s) = true := by simp [jobLive, hopen, hgen]
  have hsaid := jobReply_said (k := k.val) (typ := 2) (status := 0) (tag := tag) (body := [])
    (j := jobOf k.val 2 tag (.close reason.toNat) s) ⟨rfl, rfl, rfl, rfl, rfl⟩ hgen (by simp)
  rw [← hsaid]
  unfold jobStart
  simp only [jobOf, hlive, jobSize, jobLoop, jobAccess, jobEnd]
  simp [observeMay]

theorem ncpResync_restarts {k : Fin 4} {tag seq : Word} {s : State} (h : Hears k.val s) :
    exec (.ncpResync k tag seq) s = .next (closed s.pending (sessResync k.val tag seq.toNat (heard k.val s))) := by
  refine exec_closed (f := hostMsg k.val 0x03 tag (.resync seq.toNat)) rfl ((hostMsg_taken h).trans ?_)
  have hgen := heard_gen h
  have hopen := (heard_open h).1
  obtain ⟨-, -, hne, -, hq, -⟩ := h
  have hqh : (heard k.val s).ncpQ = [] := hq
  have htake : msgTake k.val (s.sessOf k.val).expect 0x03 tag (.resync seq.toNat) (heard k.val s) =
      sessResync k.val tag seq.toNat (heard k.val s) := by
    unfold msgTake
    rw [hopen]
    rfl
  have hempty : (sessResync k.val tag seq.toNat (heard k.val s)).ncpQ = [] := by
    unfold sessResync
    dsimp only
    generalize hv : State.setSess _ k.val _ = v
    have hvgen : (v.sessOf k.val).gen ≠ 0 := by
      rw [← hv, State.sessOf_setSess _ (by rw [hgen]; exact hne), hgen]
      exact hne
    have hvq : v.ncpQ = [] := by
      rw [← hv]
      exact hqh
    have hone := SessSent.send ⟨ncpMsgBytes 0xC0 0 0 (digestBody k.val v), none, 0⟩ hvgen
    have htwo := SessSent.send ⟨ncpMsgBytes 0x83 0 tag [], none, 0⟩ (k := k.val)
      (s := sessSend k.val ⟨ncpMsgBytes 0xC0 0 0 (digestBody k.val v), none, 0⟩ v) (by rw [hone.gen]; exact hvgen)
    obtain ⟨_, _, hframe⟩ := (hone.trans htwo).frame
    rw [hframe]
    exact hvq
  rw [htake, ncpPump, hempty]
  rfl

/-! Time-outs (R399, R401). -/

theorem sessIdle_closes {k : Nat} {s : State} (hme : s.meOn = true) (hopen : s.sessOpen k = true)
    (hto : s.rd ncpB R.NCP_SESS_CFG_IDLE_TO ≠ 0) : sessIdle k s =
      sessClose k 3 (s.advanceNow ((s.sessOf k).lastRx + (100000 * s.rd ncpB R.NCP_SESS_CFG_IDLE_TO * 78125 + 1) / 2)) := by
  unfold sessIdle
  simp only [hme, hopen, bne_iff_ne.mpr hto, Bool.and_self, if_true]
  rfl

theorem rtoExpire_resends {k : Nat} {s t : State} {d : Dgram} {l : List Dgram} (hme : s.meOn = true) (hopen : s.sessOpen k = true)
    (hstore : (s.sessOf k).store = d :: l) (ht : t = s.advanceNow (d.at_ + rtoT s)) (hkept : (t.sessOf k).store = d :: l) :
    rtoExpire k s = if t.rd ncpB R.NCP_SESS_CFG_RETRY_MAX + 1 ≤ d.sent then sessClose k 4 (t.raise 0x432)
      else dgramResend k (fun _ => true) t := by
  unfold rtoExpire
  rw [hstore]
  dsimp only
  rw [hme, hopen, ← ht]
  unfold goBackN
  rw [hkept]
  rfl

theorem sessKey_eq (k : Fin 4) : sessB k.val + R.NCP_SESS_STAT_CLOSE.off = 0x000A0040 + 0x10 * k.val := by
  simp only [sessB, ncpB, R.NCP_SESS_STAT_CLOSE]
  omega

theorem hookNcp_close (k : Fin 4) (w : Word) (s : State) :
    hookNcp (0x40 + 0x10 * k.val) w s = if hot w 15 then sessClose k.val 5 s else s := by
  have hport : ((0x40 + 0x10 * k.val == R.NCP_PORT_ENABLE.off) = false) := by
    simp only [R.NCP_PORT_ENABLE, beq_eq_false_iff_ne]
    omega
  have hslot : (0x40 + 0x10 * k.val - 0x40) / 0x10 = k.val := by omega
  unfold hookNcp
  rw [hport, if_neg (by simp), if_pos ⟨by omega, by omega, by omega⟩, hslot]

theorem sessClose_write {m : Master} {k : Fin 4} {w : Word} {s : State} (h : Served m true (0x000A0040 + 0x10 * k.val) (fset w 15 15 1) s) :
    exec (.sessClose m k w) s =
      .next (closed s.pending (wrote m (0x000A0040 + 0x10 * k.val) (fset w 15 15 1) (sessClose k.val 5) s)) := by
  have hplace : ∀ k : Fin 4, place (0x000A0040 + 0x10 * k.val) = .reg .ncp (0x40 + 0x10 * k.val) := by decide
  have hfind : ∀ k : Fin 4, (findReg .ncp (0x40 + 0x10 * k.val)).isSome = true := by decide +kernel
  have hgate : ∀ k : Fin 4, gateOf (0x000A0040 + 0x10 * k.val) = none := by decide
  have hlock : ∀ k : Fin 4, (keyFlds (0x000A0040 + 0x10 * k.val)).all (fun f => !lockable .ncp (0x40 + 0x10 * k.val) f) = true := by
    decide +kernel
  have hkey : effKey .ncp (0x40 + 0x10 * k.val) (awake (0x000A0040 + 0x10 * k.val) s.fresh) = some (0x000A0040 + 0x10 * k.val) := by
    change some (ncpB + (0x40 + 0x10 * k.val)) = _
    congr 1
    unfold ncpB
    omega
  have hwrite := served_wrote h (hplace k) (hfind k) rfl hkey (.inr (hlock k))
  refine exec_closed (f := writeFld m (sessB k.val) R.NCP_SESS_STAT_CLOSE 1 w) rfl ?_
  rw [writeFld, sessKey_eq]
  refine hwrite.trans (wrote_congr ?_)
  change hookNcp (0x40 + 0x10 * k.val) _ _ = _
  rw [hookNcp_close, if_pos (by simp [hot, fset_getLsbD])]

/-- Settles O45: each command's run by the branch that its premises choose, and an OPEN and a close by what they write. -/
theorem sessionsOpenAndClose : Obligations.SessionsOpenAndClose := by
  unfold Obligations.SessionsOpenAndClose
  refine ⟨fun peer tag flags seq credit s k hinv hready hbad hctl hslot => ncpOpen_takes hinv hready hbad hctl hslot,
    fun peer tag flags seq credit s hready hbad h => ncpOpen_refused hready hbad h,
    fun k m s _ hgen hwait hsend hopen hup hloss => sessSend_sends hgen hwait hsend hopen hup hloss,
    fun k reason s hinv hon hopen hreason => sessClose_closes hinv hon hopen hreason,
    fun k tag reason s h => ncpClose_closes h, fun m k w s h => sessClose_write h, fun k s hme hopen hto => ?_,
    fun k s d l hme hopen hstore ht => ?_, fun k tag seq s h => ncpResync_restarts h⟩
  · exact exec_closed (f := sessIdle k.val) rfl (sessIdle_closes (s := s.fresh) hme hopen hto)
  · exact exec_closed (f := rtoExpire k.val) rfl (rtoExpire_resends (s := s.fresh) hme hopen hstore rfl ht)

end Sys2Proof.Machine
end

section
/-! The messages of a session: reads, writes, commits, batches and bulk transfers (R391 to R398). -/

namespace Sys2Proof.Machine

/-! How a message runs. -/

/-- A message that its session may send makes its accesses. -/
theorem jobStart_allowed {j : NcpJob} {s : State} (hrun : ∀ b x, j.req ≠ .run b x)
    (hmay : observeMay j.typ = true ∨ s.rd (sessB j.slot) R.NCP_SESS_STAT_MODE = 1) : jobStart j s = jobLoop (jobSize j) j s := by
  have hdeny : (jobLive j.slot j.gen s && !s.on (sessB j.slot) R.NCP_SESS_STAT_MODE && !observeMay j.typ) = false := by
    rcases hmay with hmay | hmode
    · simp [hmay]
    · simp [State.on, hmode]
  unfold jobStart
  dsimp only
  rw [hdeny]
  cases hreq : j.req
  case run b x => exact absurd hreq (hrun b x)
  all_goals rfl

/-- A message that an observe session may not send is answered with STATUS 1. -/
theorem jobStart_denied {j : NcpJob} {s : State} (hrun : ∀ b x, j.req ≠ .run b x) (hlive : jobLive j.slot j.gen s = true)
    (hmay : observeMay j.typ = false) (hmode : s.rd (sessB j.slot) R.NCP_SESS_STAT_MODE = 0) : jobStart j s = jobReply j 1 [] s := by
  have hdeny : (jobLive j.slot j.gen s && !s.on (sessB j.slot) R.NCP_SESS_STAT_MODE && !observeMay j.typ) = true := by
    simp [State.on, hmode, hmay, hlive]
  unfold jobStart
  dsimp only
  rw [hdeny]
  cases hreq : j.req
  case run b x => exact absurd hreq (hrun b x)
  all_goals rfl

/-- A message without accesses ends at once. -/
theorem jobLoop_plain {j : NcpJob} (n : Nat) (s : State) (h : jobAccess j = none) : jobLoop n j s = jobEnd j s := by
  cases n with
  | zero => rfl
  | succ n => rw [jobLoop, h]

/-- A message with one access ends once that is done. -/
theorem jobLoop_once {j : NcpJob} {s : State} {wr : Bool} {a : Nat} {d : Word} (h : jobAccess j = some (wr, a, d))
    (hwait : (access .ncp wr a d s).2.2 ≠ .waiting) : jobLoop 1 j s =
      jobEnd (jobTake j (access .ncp wr a d s).2.1 (access .ncp wr a d s).2.2) (access .ncp wr a d s).1 := by
  rw [jobLoop, h]
  dsimp only
  rw [if_neg (by simpa using hwait)]
  rfl

theorem heard_rd (k b : Nat) (f : Fld) (s : State) : (heard k s).rd b f = s.rd b f := rfl

section
variable {k : Nat} {typ : Nat} {tag : Word} {req : NcpReq} {s : State}

/-- An observe session's message that it may not send. -/
theorem hostMsg_denied (h : Hears k s) (hreq : (∀ n, req ≠ .resync n) ∧ ∀ b x, req ≠ .run b x) (hmay : observeMay typ = false)
    (hmode : s.rd (sessB k) R.NCP_SESS_STAT_MODE = 0) (hbulk : bulkSleeps (jobOf k typ tag req s) (heard k s) = false) :
    hostMsg k typ tag req s.fresh = said k (typ + 128) 1 tag [] s (heard k s) := by
  have hgen := heard_gen h
  have hopen := (heard_open h).1
  have hlive : jobLive k (s.sessOf k).gen (heard k s) = true := by simp [jobLive, hopen, hgen]
  rw [hostMsg_starts h hreq.1 hbulk, jobStart_denied (j := jobOf k typ tag req s) hreq.2 hlive hmay ((heard_rd ..).trans hmode)]
  exact jobReply_said ⟨rfl, rfl, rfl, rfl, rfl⟩ hgen (Nat.zero_le _)

/-- A message without accesses that the session may send. -/
theorem hostMsg_plain (h : Hears k s) (hreq : (∀ n, req ≠ .resync n) ∧ ∀ b x, req ≠ .run b x)
    (hmay : observeMay typ = true ∨ s.rd (sessB k) R.NCP_SESS_STAT_MODE = 1) (hacc : jobAccess (jobOf k typ tag req s) = none)
    (hbulk : bulkSleeps (jobOf k typ tag req s) (heard k s) = false) :
    hostMsg k typ tag req s.fresh = jobEnd (jobOf k typ tag req s) (heard k s) := by
  rw [hostMsg_starts h hreq.1 hbulk, jobStart_allowed (j := jobOf k typ tag req s) hreq.2 (hmay.imp_right (heard_rd ..).trans),
    jobLoop_plain _ _ hacc]

/-- A message with one access that the session may send. -/
theorem hostMsg_once (h : Hears k s) (hreq : (∀ n, req ≠ .resync n) ∧ ∀ b x, req ≠ .run b x)
    (hmay : observeMay typ = true ∨ s.rd (sessB k) R.NCP_SESS_STAT_MODE = 1) {wr : Bool} {a : Nat} {d : Word}
    (hacc : jobAccess (jobOf k typ tag req s) = some (wr, a, d)) (hsize : jobSize (jobOf k typ tag req s) = 1)
    (hbulk : bulkSleeps (jobOf k typ tag req s) (heard k s) = false)
    (hwait : (access .ncp wr a d (heard k s)).2.2 ≠ .waiting) : hostMsg k typ tag req s.fresh =
      jobEnd (jobTake (jobOf k typ tag req s) (access .ncp wr a d (heard k s)).2.1 (access .ncp wr a d (heard k s)).2.2)
        (access .ncp wr a d (heard k s)).1 := by
  rw [hostMsg_starts h hreq.1 hbulk, jobStart_allowed (j := jobOf k typ tag req s) hreq.2 (hmay.imp_right (heard_rd ..).trans), hsize, jobLoop_once hacc hwait]

/-- A message out of range is answered with STATUS 5. -/
theorem hostMsg_malformed (h : Hears k s) (hmay : observeMay typ = true ∨ s.rd (sessB k) R.NCP_SESS_STAT_MODE = 1) :
    hostMsg k typ tag .malformed s.fresh = said k (typ + 128) 5 tag [] s (heard k s) := by
  rw [hostMsg_plain h (by simp) hmay rfl rfl]
  exact jobReply_said ⟨rfl, rfl, rfl, rfl, rfl⟩ (heard_gen h) (Nat.zero_le _)

end

/-! KEEPALIVE, DIGEST and READ. -/

theorem digestBody_length (k : Nat) (s : State) : (digestBody k s).length = 620 := by
  have hwords (f : Nat → List Byte) (n : Nat) (hf : ∀ i, (f i).length = 4) : ((List.range n).flatMap f).length = 4 * n := by
    rw [List.length_flatMap]
    simp [hf, Nat.mul_comm]
  unfold digestBody
  simp only [List.length_append, beBytes_length, List.length_map, List.length_range]
  rw [hwords _ _ fun i => beBytes_length 4 _]

theorem ncpKeepalive_said {k : Fin 4} {tag : Word} {s : State} (h : Hears k.val s) :
    exec (.ncpKeepalive k tag) s = .next (closed s.pending (said k.val 0x84 0 tag [] s (heard k.val s))) := by
  refine exec_closed (f := hostMsg k.val 0x04 tag .keepalive) rfl ?_
  rw [hostMsg_plain h (by simp) (.inl rfl) rfl rfl]
  exact jobReply_said ⟨rfl, rfl, rfl, rfl, rfl⟩ (heard_gen h) (Nat.zero_le _)

theorem ncpDigest_said {k : Fin 4} {tag : Word} {s : State} (h : Hears k.val s) :
    exec (.ncpDigest k tag) s = .next (closed s.pending (said k.val 0xC0 0 tag (digestBody k.val (heard k.val s)) s (heard k.val s))) := by
  refine exec_closed (f := hostMsg k.val 0x40 tag .digest) rfl ?_
  rw [hostMsg_plain h (by simp) (.inl rfl) rfl rfl]
  exact jobReply_said ⟨rfl, rfl, rfl, rfl, rfl⟩ (heard_gen h) (by rw [digestBody_length]; omega)

/-- A READ of one word, by either message. -/
theorem hostMsg_readOne {k typ : Nat} {tag a : Word} {s : State} (h : Hears k s) (hmay : observeMay typ = true)
    (hwait : (access .ncp false a.toNat 0 (heard k s)).2.2 ≠ .waiting)
    (hgen : ((access .ncp false a.toNat 0 (heard k s)).1.sessOf k).gen = ((heard k s).sessOf k).gen) :
    let r := access .ncp false a.toNat 0 (heard k s)
    hostMsg k typ tag (.read [a]) s.fresh =
      said k (typ + 128) (accStatus r.2.2) tag (beBytes 4 (if accStatus r.2.2 = 0 then r.2.1.toNat else 0)) s r.1 := by
  intro r
  rw [hostMsg_once h (by simp) (.inl hmay) rfl rfl rfl hwait]
  have hbody : (if accStatus r.2.2 = 0 then r.2.1 else 0).toNat = if accStatus r.2.2 = 0 then r.2.1.toNat else 0 := by
    split <;> rfl
  have hend : jobEnd (jobTake (jobOf k typ tag (.read [a]) s) r.2.1 r.2.2) r.1 =
      jobReply (jobTake (jobOf k typ tag (.read [a]) s) r.2.1 r.2.2) (accStatus r.2.2)
        (beBytes 4 (if accStatus r.2.2 = 0 then r.2.1.toNat else 0)) r.1 := by
    rw [← hbody]
    simp [jobEnd, jobTake, jobOf]
  rw [hend]
  exact jobReply_said ⟨rfl, rfl, rfl, rfl, rfl⟩ (hgen.trans (heard_gen h)) (by rw [beBytes_length]; omega)

theorem seqAddrs_one (a : Word) : seqAddrs a 1 = [a] := by simp [seqAddrs]

/-! WRITE. -/

theorem ncpWrite_said {k : Fin 4} {tag : Word} {cont : Bool} {p : WritePair} {s : State} (h : Hears k.val s)
    (hmode : s.rd (sessB k.val) R.NCP_SESS_STAT_MODE = 1)
    (hwait : (access .ncp true p.addr.toNat p.data (heard k.val s)).2.2 ≠ .waiting)
    (hgen : ((access .ncp true p.addr.toNat p.data (heard k.val s)).1.sessOf k.val).gen = ((heard k.val s).sessOf k.val).gen) :
    let r := access .ncp true p.addr.toNat p.data (heard k.val s)
    let c := accStatus r.2.2
    exec (.ncpWrite k tag cont [p]) s = .next (closed s.pending (said k.val 0x92 c tag
      (beBytes 4 (if c = 0 then 1 else 0) ++ beBytes 4 (if c = 0 then r.1.draw else 0)) s r.1.drawn)) := by
  intro r c
  refine exec_closed (f := hostMsg k.val 0x12 tag (.write cont [p])) rfl ?_
  rw [hostMsg_once h (by simp) (.inr hmode) (wr := true) (a := p.addr.toNat) (d := p.data) rfl rfl rfl hwait]
  have hend : jobEnd (jobTake (jobOf k.val 0x12 tag (.write cont [p]) s) r.2.1 r.2.2) r.1 =
      jobReply (jobTake (jobOf k.val 0x12 tag (.write cont [p]) s) r.2.1 r.2.2) c
        (beBytes 4 (if c = 0 then 1 else 0) ++ beBytes 4 (if c = 0 then r.1.draw else 0)) r.1.drawn := by
    by_cases hc : accStatus r.2.2 = 0
    · simp [jobEnd, jobTake, jobOf, writeBody, c, hc]
    · simp [jobEnd, jobTake, jobOf, writeBody, c, hc]
  rw [hend]
  exact jobReply_said ⟨rfl, rfl, rfl, rfl, rfl⟩ (hgen.trans (heard_gen h)) (by simp [beBytes_length])

/-! Counts out of range, and what an observe session may not send. -/

theorem reqWrite_range {cont : Bool} {ps : List WritePair} (h : ps = [] ∨ 1024 < ps.length) : reqWrite cont ps = .malformed := by
  rcases h with rfl | h
  · rfl
  · exact if_neg (by omega)

theorem reqBatch_range {cont : Bool} {t : Nat} {id : Word} {ps : List WritePair} (h : ps = [] ∨ 1024 < ps.length) :
    reqBatch cont t id ps = .malformed := by
  rcases h with rfl | h
  · rfl
  · exact if_neg (by omega)

theorem reqBatch_fits {cont : Bool} {t : Nat} {id : Word} {ps : List WritePair} (h : ps ≠ []) (h' : ps.length ≤ 1024) :
    reqBatch cont t id ps = .batch cont t id ps :=
  if_pos ⟨List.length_pos_iff.mpr h, h'⟩

/-- A count that no request of its kind allows, or one that it does: neither resynchronises nor dispatches, nor waits for a channel. -/
theorem reqWrite_cases (cont : Bool) (ps : List WritePair) : reqWrite cont ps = .write cont ps ∨ reqWrite cont ps = .malformed := by
  unfold reqWrite
  split
  · exact .inl rfl
  · exact .inr rfl

theorem reqBatch_cases (cont : Bool) (t : Nat) (id : Word) (ps : List WritePair) :
    reqBatch cont t id ps = .batch cont t id ps ∨ reqBatch cont t id ps = .malformed := by
  unfold reqBatch
  split
  · exact .inl rfl
  · exact .inr rfl

theorem ranges_said {k : Fin 4} {tag w n id : Word} {cont : Bool} {addrs : List Word} {time : BitVec 64} {pairs : List WritePair}
    {s : State} (h : Hears k.val s) :
    (addrs = [] ∨ 256 < addrs.length → exec (.ncpRead k tag addrs) s = .next (closed s.pending (said k.val 0x90 5 tag [] s (heard k.val s)))) ∧
    (n = 0 ∨ 1024 < n.toNat → exec (.ncpReadSeq k tag w n) s = .next (closed s.pending (said k.val 0x91 5 tag [] s (heard k.val s)))) ∧
    (s.rd (sessB k.val) R.NCP_SESS_STAT_MODE = 1 → pairs = [] ∨ 1024 < pairs.length →
      exec (.ncpWrite k tag cont pairs) s = .next (closed s.pending (said k.val 0x92 5 tag [] s (heard k.val s))) ∧
      exec (.ncpTimedBatch k tag cont time id pairs) s = .next (closed s.pending (said k.val 0x94 5 tag [] s (heard k.val s)))) := by
  refine ⟨fun hrange => ?_, fun hrange => ?_, fun hmode hrange => ⟨?_, ?_⟩⟩
  · refine exec_closed (f := hostMsg k.val 0x10 tag (reqRead addrs)) rfl ?_
    have hreq : reqRead addrs = .malformed := by
      rcases hrange with rfl | hrange
      · rfl
      · exact if_neg (by omega)
    rw [hreq]
    exact hostMsg_malformed h (.inl rfl)
  · refine exec_closed (f := hostMsg k.val 0x11 tag (reqSeq w n)) rfl ?_
    have hreq : reqSeq w n = .malformed := by
      rcases hrange with rfl | hrange
      · rfl
      · exact if_neg (by omega)
    rw [hreq]
    exact hostMsg_malformed h (.inl rfl)
  · refine exec_closed (f := hostMsg k.val 0x12 tag (reqWrite cont pairs)) rfl ?_
    rw [reqWrite_range hrange]
    exact hostMsg_malformed h (.inr hmode)
  · refine exec_closed (f := hostMsg k.val 0x14 tag (reqBatch cont time.toNat id pairs)) rfl ?_
    rw [reqBatch_range hrange]
    exact hostMsg_malformed h (.inr hmode)

theorem observe_said {k : Fin 4} {tag w id : Word} {cont : Bool} {time : BitVec 64} {pairs : List WritePair} {s : State}
    (h : Hears k.val s) (hmode : s.rd (sessB k.val) R.NCP_SESS_STAT_MODE = 0) :
    exec (.ncpWrite k tag cont pairs) s = .next (closed s.pending (said k.val 0x92 1 tag [] s (heard k.val s))) ∧
    exec (.ncpCommit k tag w time) s = .next (closed s.pending (said k.val 0x93 1 tag [] s (heard k.val s))) ∧
    exec (.ncpTimedBatch k tag cont time id pairs) s = .next (closed s.pending (said k.val 0x94 1 tag [] s (heard k.val s))) ∧
    exec (.ncpCancel k tag id) s = .next (closed s.pending (said k.val 0x95 1 tag [] s (heard k.val s))) := by
  refine ⟨exec_closed (f := hostMsg k.val 0x12 tag (reqWrite cont pairs)) rfl ?_,
    exec_closed (f := hostMsg k.val 0x13 tag (.commit w time.toNat)) rfl ?_,
    exec_closed (f := hostMsg k.val 0x14 tag (reqBatch cont time.toNat id pairs)) rfl ?_,
    exec_closed (f := hostMsg k.val 0x15 tag (.cancel id)) rfl ?_⟩
  · rcases reqWrite_cases cont pairs with hreq | hreq
    · rw [hreq]
      exact hostMsg_denied h (by simp) rfl hmode rfl
    · rw [hreq]
      exact hostMsg_denied h (by simp) rfl hmode rfl
  · exact hostMsg_denied h (by simp) rfl hmode rfl
  · rcases reqBatch_cases cont time.toNat id pairs with hreq | hreq
    · rw [hreq]
      exact hostMsg_denied h (by simp) rfl hmode rfl
    · rw [hreq]
      exact hostMsg_denied h (by simp) rfl hmode rfl
  · exact hostMsg_denied h (by simp) rfl hmode rfl

/-! COMMIT. -/

theorem ncpCommit_now {k : Fin 4} {tag w : Word} {s : State} (h : Hears k.val s) (hmode : s.rd (sessB k.val) R.NCP_SESS_STAT_MODE = 1)
    (hwait : (access .ncp true 0x00000100 w (heard k.val s)).2.2 ≠ .waiting) :
    let r := access .ncp true 0x00000100 w (heard k.val s)
    exec (.ncpCommit k tag w 0) s = .next (closed s.pending { r.1 with ncpCommits := r.1.ncpCommits ++
      [⟨k.val, ((heard k.val s).sessOf k.val).gen, tag, w, 0, r.1.now, none, r.1.commits.length, (s.sessOf k.val).expect⟩] }) := by
  intro r
  refine exec_closed (f := hostMsg k.val 0x13 tag (.commit w 0)) rfl ?_
  rw [hostMsg_once h (by simp) (.inr hmode) (wr := true) (a := 0x00000100) (d := w) rfl rfl rfl hwait, heard_gen h]
  rfl

theorem commitTry_arms {c : NcpCommit} {t v : State} {i j : Nat} (hfree : (List.range 16).find? (fun j => actState (actBase t + j) t == 0) = some j)
    (hon : t.domOn 82 = true) (hsem : t.rd (semB 0) R.SQ_SEM_HELD = 0) (hi : i = actBase t + j)
    (hv : v = semRelease 0 0 (commitArm c i (semRead 0 0 t).1)) (harmed : actState i v = 2) (hkept : v.ncpCommits = [c]) :
    commitTry c t = { v with ncpCommits := [{ c with entry := some i }] } := by
  have hgot : (t.domOn 82 && !t.on (semB 0) R.SQ_SEM_HELD) = true := by simp [hon, State.on, hsem]
  unfold commitTry
  rw [hfree]
  dsimp only
  rw [hgot, if_pos rfl, ← hi, ← hv, harmed, hkept]
  simp

theorem ncpCommit_arms {k : Fin 4} {tag w : Word} {time : BitVec 64} {s : State} {j : Nat} (h : Hears k.val s)
    (hmode : s.rd (sessB k.val) R.NCP_SESS_STAT_MODE = 1) (htime : time ≠ 0) (hnone : s.ncpCommits = []) {c : NcpCommit}
    (hc : c = ⟨k.val, ((heard k.val s).sessOf k.val).gen, tag, w, time.toNat, s.now, none, 0, (s.sessOf k.val).expect⟩) {t v : State}
    (ht : t = { heard k.val s with ncpCommits := [c] }) (hfree : (List.range 16).find? (fun j => actState (actBase t + j) t == 0) = some j)
    (hon : s.domOn 82 = true) (hsem : s.rd (semB 0) R.SQ_SEM_HELD = 0) {i : Nat} (hi : i = actBase t + j)
    (hv : v = semRelease 0 0 (commitArm c i (semRead 0 0 t).1)) (harmed : actState i v = 2) (hkept : v.ncpCommits = [c]) :
    exec (.ncpCommit k tag w time) s = .next (closed s.pending { v with ncpCommits := [{ c with entry := some i }] }) := by
  refine exec_closed (f := hostMsg k.val 0x13 tag (.commit w time.toNat)) rfl ?_
  obtain ⟨n, hn⟩ := Nat.exists_eq_succ_of_ne_zero fun hz => htime (BitVec.eq_of_toNat_eq hz)
  have hont : t.domOn 82 = true := by rw [ht]; exact hon
  have hsemt : t.rd (semB 0) R.SQ_SEM_HELD = 0 := by rw [ht]; exact hsem
  rw [← commitTry_arms hfree hont hsemt hi hv harmed hkept]
  rw [hn] at hc ⊢
  rw [hostMsg_plain h (by simp) (.inr hmode) rfl rfl, ht, hc, heard_gen h]
  have hq : (heard k.val s).ncpCommits = [] := hnone
  change commitTry _ { heard k.val s with ncpCommits := (heard k.val s).ncpCommits ++ _ } = _
  rw [hq]
  rfl

/-! TIMED_BATCH and CANCEL. -/

theorem ncpTimedBatch_queues {k : Fin 4} {tag id : Word} {cont : Bool} {time : BitVec 64} {pairs : List WritePair} {s : State}
    (h : Hears k.val s) (hmode : s.rd (sessB k.val) R.NCP_SESS_STAT_MODE = 1) (hne : pairs ≠ []) (hlen : pairs.length ≤ 1024) :
    let t := heard k.val s
    exec (.ncpTimedBatch k tag cont time id pairs) s = .next (closed s.pending (
      if 16 ≤ s.batches.length ∨ 8192 < s.batches.foldl (fun n b => n + b.pairs.length) pairs.length then said k.val 0x94 6 tag [] s t
      else { t with batches := t.batches ++
        [⟨k.val, (t.sessOf k.val).gen, tag, id, cont, time.toNat, pairs, (s.sessOf k.val).expect⟩] })) := by
  intro t
  refine exec_closed (f := hostMsg k.val 0x14 tag (reqBatch cont time.toNat id pairs)) rfl ?_
  rw [reqBatch_fits hne hlen, hostMsg_plain h (by simp) (.inr hmode) rfl rfl]
  have hbatches : (heard k.val s).batches = s.batches := rfl
  have hfull : (decide (16 ≤ s.batches.length) || decide (8192 < s.batches.foldl (fun n b => n + b.pairs.length) pairs.length)) = true ↔
      16 ≤ s.batches.length ∨ 8192 < s.batches.foldl (fun n b => n + b.pairs.length) pairs.length := by simp
  simp only [jobEnd, jobOf, hbatches, hfull]
  split
  · exact jobReply_said ⟨rfl, rfl, rfl, rfl, rfl⟩ (heard_gen h) (Nat.zero_le _)
  · rw [← heard_gen h]
    rfl

theorem ncpCancel_none {k : Fin 4} {tag id : Word} {s : State} (h : Hears k.val s) (hmode : s.rd (sessB k.val) R.NCP_SESS_STAT_MODE = 1)
    (hfind : s.batches.find? (fun b => b.slot == k.val && b.gen == (s.sessOf k.val).gen && b.id == id) = none) :
    exec (.ncpCancel k tag id) s = .next (closed s.pending (said k.val 0x95 6 tag [] s (heard k.val s))) := by
  refine exec_closed (f := hostMsg k.val 0x15 tag (.cancel id)) rfl ?_
  rw [hostMsg_plain h (by simp) (.inr hmode) rfl rfl]
  change batchCancel (jobOf k.val 0x15 tag (.cancel id) s) id (heard k.val s) = _
  unfold batchCancel
  rw [show List.find? (fun b => b.slot == (jobOf k.val 0x15 tag (.cancel id) s).slot && b.gen == (jobOf k.val 0x15 tag (.cancel id) s).gen
    && b.id == id) (heard k.val s).batches = none from hfind]
  exact jobReply_said ⟨rfl, rfl, rfl, rfl, rfl⟩ (heard_gen h) (Nat.zero_le _)

theorem ncpCancel_batch {k : Fin 4} {tag id : Word} {s : State} {b : Batch} (h : Hears k.val s)
    (hmode : s.rd (sessB k.val) R.NCP_SESS_STAT_MODE = 1)
    (hfind : s.batches.find? (fun b => b.slot == k.val && b.gen == (s.sessOf k.val).gen && b.id == id) = some b) :
    let t := heard k.val s
    exec (.ncpCancel k tag id) s = .next (closed s.pending (said k.val 0x95 0 tag [] s
      (sessSend k.val ⟨ncpMsgBytes 0x94 10 b.tag [], some b.seq, 0⟩ { t with batches := t.batches.filter (fun d => d != b) }))) := by
  intro t
  refine exec_closed (f := hostMsg k.val 0x15 tag (.cancel id)) rfl ?_
  have hb := List.find?_some hfind
  simp only [Bool.and_eq_true, beq_iff_eq] at hb
  obtain ⟨⟨hslot, hbgen⟩, -⟩ := hb
  rw [hostMsg_plain h (by simp) (.inr hmode) rfl rfl]
  change batchCancel (jobOf k.val 0x15 tag (.cancel id) s) id (heard k.val s) = _
  unfold batchCancel
  rw [show List.find? (fun b => b.slot == (jobOf k.val 0x15 tag (.cancel id) s).slot && b.gen == (jobOf k.val 0x15 tag (.cancel id) s).gen
    && b.id == id) (heard k.val s).batches = some b from hfind]
  dsimp only
  generalize hu : ({ heard k.val s with batches := List.filter (fun d => d != b) (heard k.val s).batches } : State) = u
  have hugen : (u.sessOf k.val).gen = (s.sessOf k.val).gen := by
    rw [← hu]
    exact heard_gen h
  have huopen : u.sessOpen k.val = true := by
    rw [← hu]
    exact (heard_open h).1
  have hne : (u.sessOf k.val).gen ≠ 0 := by
    rw [hugen]
    exact h.2.2.1
  have hinner : ncpReply b.slot b.gen b.seq 0x14 10 b.tag [] u = sessSend k.val ⟨ncpMsgBytes 0x94 10 b.tag [], some b.seq, 0⟩ u := by
    have hroom : ¬ msgRoom k.val u < 8 + ([] : List Byte).length := by
      unfold msgRoom ncpMtu
      simp only [List.length_nil]
      split <;> omega
    have hlive : jobLive k.val (s.sessOf k.val).gen u = true := by simp [jobLive, huopen, hugen]
    rw [hslot, hbgen, ncpReply, hlive, if_neg (by simp), if_neg hroom]
  rw [hinner]
  exact jobReply_said ⟨rfl, rfl, rfl, rfl, rfl⟩ ((SessSent.send _ hne).gen.trans hugen) (Nat.zero_le _)

/-! Bulk transfers (R396). -/

theorem ncpBulkRead_said {k : Fin 4} {tag plot first count : Word} {s : State} (h : Hears k.val s) :
    let t := heard k.val s
    let p := plot.toNat % 256
    exec (.ncpBulkRead k tag plot first count) s = .next (closed s.pending (
      if ncpMtu s < 4200 then said k.val 0xA0 11 tag [] s t else if 4 ≤ (t.sessOf k.val).bulks.length then said k.val 0xA0 6 tag [] s t
      else if s.rd (plB p) R.MDW_PLOT_W0_EN = 0 then said k.val 0xA0 8 tag [] s t
      else if plotSize p s < first.toNat + count.toNat then said k.val 0xA0 5 tag [] s t
      else if count = 0 then said k.val 0xA0 0 tag [0, 0, 0, 0] s t
      else t.setSess k.val { t.sessOf k.val with bulks := (t.sessOf k.val).bulks ++
        [⟨tag, p, first.toNat, count.toNat, 0, (s.sessOf k.val).expect⟩] })) := by
  intro t p
  refine exec_closed (f := hostMsg k.val 0x20 tag (.bulkRead plot.toNat first.toNat count.toNat)) rfl ?_
  have hsaid (st : Nat) (body : List Byte) (hfit : body.length ≤ 1000) :
      jobReply (jobOf k.val 0x20 tag (.bulkRead plot.toNat first.toNat count.toNat) s) st body t = said k.val 0xA0 st tag body s t :=
    jobReply_said ⟨rfl, rfl, rfl, rfl, rfl⟩ (heard_gen h) hfit
  have hmtu : ncpMtu t = ncpMtu s := rfl
  have hen : ((!t.on (plB p) R.MDW_PLOT_W0_EN) = true) ↔ s.rd (plB p) R.MDW_PLOT_W0_EN = 0 := by
    change ((!s.on (plB p) R.MDW_PLOT_W0_EN) = true) ↔ _
    simp [State.on]
  have hsize : plotSize p t = plotSize p s := rfl
  have hcount : ((count.toNat == 0) = true) ↔ count = 0 := by
    rw [beq_iff_eq]
    exact ⟨fun hz => BitVec.eq_of_toNat_eq hz, fun hz => by rw [hz]; rfl⟩
  have hzero : beBytes 4 0 = [0, 0, 0, 0] := by decide
  rw [hostMsg_plain h (by simp) (.inl rfl) rfl rfl]
  change bulkStart (jobOf k.val 0x20 tag (.bulkRead plot.toNat first.toNat count.toNat) s) plot.toNat first.toNat count.toNat t = _
  unfold bulkStart
  simp only [hsaid, hmtu, hzero, show plot.toNat % 256 = p from rfl, hen, hsize, hcount, List.length_nil, List.length_cons, Nat.zero_le,
    Nat.reduceAdd, Nat.reduceLeDiff]
  rfl

theorem State.raise_sess (id : Nat) (s : State) : (s.raise id).sess = s.sess := by
  obtain ⟨_, _, _, _, hframe⟩ := RaiseFrame.raise s id
  rw [hframe]

theorem spareTake_sess {m j : Nat} {s t : State} (h : spareTake m s = some (t, j)) : t.sess = s.sess := by
  unfold spareTake at h
  dsimp only at h
  split at h
  · exact absurd h (by simp)
  · obtain ⟨rfl, -⟩ := Prod.mk.inj (Option.some.inj h)
    split
    · rw [State.raise_sess]
      rfl
    · rfl

theorem frameRetire_sess (m f : Nat) (s : State) : (frameRetire m f s).sess = s.sess := by
  unfold frameRetire
  split
  · next t j htake =>
    rw [State.raise_sess]
    exact Eq.trans (by split <;> rfl) (spareTake_sess htake)
  · rw [State.raise_sess]
    split <;> rfl

/-- A frame that was being watched is retired before it is written. -/
def frameReady (m f : Nat) (s : State) : State :=
  if look 0 s.uncPend (frameKey' m f) == 1 then frameRetire m f { s with uncPend := eraseKey s.uncPend (frameKey' m f) } else s

theorem frameReady_sess (m f : Nat) (s : State) : (frameReady m f s).sess = s.sess := by
  unfold frameReady
  split
  · exact frameRetire_sess _ _ _
  · rfl

theorem pageWrite_sess (m f : Nat) (p : Page) (s : State) : (pageWrite m f p s).sess = s.sess := by
  refine Eq.trans ?_ (frameReady_sess m f s)
  unfold pageWrite
  dsimp only
  change State.sess (match logFind m f (frameReady m f s) with
    | some i => ((frameReady m f s).wr (logB m i) R.MC_LOG_W0_REWRITTEN 1).wr (logB m i) R.MC_LOG_W1_REPEAT 0
    | none => frameReady m f s) = _
  split <;> rfl

theorem hostPage_sess (p q first fill : Nat) (data : List Byte) (s : State) : (hostPage p q first fill data s).sess = s.sess :=
  pageWrite_sess _ _ _ s

theorem ncpBulkWrite_said {k : Fin 4} {tag plot page fill : Word} {data : List Byte} {res : PageRes} {s : State} (h : Hears k.val s)
    (hmode : s.rd (sessB k.val) R.NCP_SESS_STAT_MODE = 1) (hmtu : 4200 ≤ ncpMtu s) (hdata : 4096 ≤ data.length) {p : Nat}
    (hp : p = fget plot 7 0) (hhost : hostWritable p s = true) (hpage : page.toNat < plotSize p s)
    (hon : s.domOn (72 + (plotFrame p page.toNat s).1) = true) :
    exec (.ncpBulkWrite k tag plot page 4096 fill data res) s = .next (closed s.pending (said k.val 0xA1 0 tag [] s
      (hostPage p page.toNat (fget fill 31 16) (fget fill 15 0) data (heard k.val s)))) := by
  refine exec_closed (f := hostMsg k.val 0x21 tag (.bulkWrite plot page 4096 fill data res)) rfl ?_
  have hplot : plot.toNat % 256 = p := by simp [hp, fget]
  have hpageDom : (heard k.val s).domOn (pageDom plot.toNat page.toNat (heard k.val s)) = true := by
    unfold pageDom
    rw [hplot]
    exact hon
  have hbulk : bulkSleeps (jobOf k.val 0x21 tag (.bulkWrite plot page 4096 fill data res) s) (heard k.val s) = false := by
    simp [bulkSleeps, jobOf, hpageDom]
  rw [hostMsg_plain h (by simp) (.inr hmode) rfl hbulk]
  change bulkWrite _ plot page 4096 fill data res (heard k.val s) = _
  have hmtu' : ¬ ncpMtu (heard k.val s) < 4200 := Nat.not_lt.mpr hmtu
  have hhost' : hostWritable p (heard k.val s) = true := hhost
  have hpage' : ¬ plotSize p (heard k.val s) ≤ page.toNat := Nat.not_le.mpr hpage
  have hon' : (heard k.val s).domOn (pageDom p page.toNat (heard k.val s)) = true := by
    unfold pageDom
    rw [Nat.mod_eq_of_lt (by rw [hp]; exact fget_lt _ _ _)]
    exact hon
  have hspan : fget 4096 31 16 = 0 ∧ fget 4096 15 0 = 4096 := by decide
  have hshort : ¬ data.length < 4096 := Nat.not_lt.mpr hdata
  unfold bulkWrite
  simp only [hspan.1, hspan.2, ← hp, hmtu', hhost', hpage', hon', hshort, decide_false, if_false, Bool.not_true, Bool.false_eq_true]
  refine (if_neg (by simp)).trans ((if_pos rfl).trans (jobReply_said ⟨rfl, rfl, rfl, rfl, rfl⟩ ?_ (Nat.zero_le _)))
  refine Eq.trans ?_ (heard_gen h)
  unfold State.sessOf
  rw [hostPage_sess]

theorem bulkSend_page {k : Nat} {res : PageRes} {s : State} {b : BulkRd} {l : List BulkRd} (hme : s.meOn = true)
    (hopen : s.sessOpen k = true) (hwait : (s.sessOf k).waitq = []) (hsend : canSend k s = true) (hbulks : (s.sessOf k).bulks = b :: l)
    {mf : Nat × Nat} (hmf : mf = plotFrame b.plot b.page s) {pg : Page} (hpg : pg = (s.page mf.1 mf.2).getD .unwritten)
    {msg : List Byte} (hmsg : msg = pg.bytes ++ pg.metaBytes) {r : State × Nat} (hr : r = pageRead mf.1 mf.2 res s)
    (hon : s.domOn (72 + mf.1) = true) (hclean : r.2 = 0 ∨ r.2 = 3) (hleft : 1 < b.left) {body : List Byte}
    (hbody : body = beBytes 1 b.plot ++ [0, 0, 0] ++ beBytes 4 b.page ++ beBytes 1 r.2 ++ [0] ++ [0, 0] ++ msg.drop 4096 ++ msg.take 4096) :
    bulkSend k res s = sessSend k ⟨ncpMsgBytes 0x22 0 b.tag body, some b.seq, 0⟩ (r.1.setSess k { r.1.sessOf k with
      bulks := l ++ [{ b with page := b.page + 1, left := b.left - 1, done := b.done + 1 }] }) := by
  have hmay : (s.meOn && s.sessOpen k && (s.sessOf k).waitq.isEmpty && canSend k s) = true := by simp [hme, hopen, hwait, hsend]
  have hdeliver : pageDeliver mf.1 mf.2 res s = (r.1, r.2, msg) := by
    have hne : (r.2 != 2) = true := by rcases hclean with h | h <;> simp [h]
    unfold pageDeliver
    dsimp only
    rw [← hr, hne, if_pos rfl, ← hpg, ← hmsg]
  have hbits (n : Nat) : beBytes 1 (if (r.2 == 1) = true then n else 0) = [0] := by
    have hne : (r.2 == 1) = false := by rcases hclean with h | h <;> simp [h]
    rw [hne, if_neg (by simp)]
    decide
  have hmore : ¬ b.left ≤ 1 := Nat.not_le.mpr hleft
  unfold bulkSend
  dsimp only
  rw [hbulks]
  dsimp only
  rw [hmay, ← hmf, hon, hdeliver]
  dsimp only
  rw [hbits, hbody, if_neg hmore, if_neg (by simp), if_neg (by simp), if_neg hmore]

/-- Settles O46: each message by what its session may send, its accesses and its end. -/
theorem sessionMessages : Obligations.SessionMessages := by
  unfold Obligations.SessionMessages
  refine ⟨fun k tag s h => ⟨ncpKeepalive_said h, ncpDigest_said h⟩, fun k tag a s h hwait hstill => ?_,
    fun k tag cont p s h hmode hwait hstill => ncpWrite_said h hmode hwait hstill.2,
    fun k tag cont addrs n time id w pairs s h => ?_, fun k tag w s h hmode hwait => ncpCommit_now h hmode hwait,
    fun k tag w time s j h hmode htime hnone hfree hon hsem harmed hkept =>
      ncpCommit_arms h hmode htime hnone rfl rfl hfree hon hsem rfl rfl harmed hkept,
    fun k tag id cont time pairs s h hmode hne hlen => ncpTimedBatch_queues h hmode hne hlen,
    fun k tag id s h hmode hfind => ncpCancel_none h hmode hfind, fun k tag id s b h hmode hfind => ncpCancel_batch h hmode hfind,
    fun k tag plot first count s h => ncpBulkRead_said h,
    fun k tag plot page fill data res s h hmode hmtu hdata hhost hpage hon => ncpBulkWrite_said h hmode hmtu hdata rfl hhost hpage hon,
    fun k res s b l hme hopen hwait hsend hbulks hon hclean hleft => ?_⟩
  · refine ⟨exec_closed (f := hostMsg k.val 0x10 tag (.read [a])) rfl (hostMsg_readOne h rfl hwait hstill.2),
      exec_closed (f := hostMsg k.val 0x11 tag (.read (seqAddrs a 1))) rfl ?_⟩
    rw [seqAddrs_one]
    exact hostMsg_readOne h rfl hwait hstill.2
  · obtain ⟨hread, hseq, hwrite⟩ := ranges_said (tag := tag) (w := w) (n := n) (id := id) (cont := cont) (addrs := addrs)
      (time := time) (pairs := pairs) h
    exact ⟨hread, hseq, hwrite, fun hmode => observe_said h hmode⟩
  · exact exec_closed (f := bulkSend k.val res) rfl
      (bulkSend_page (s := s.fresh) hme hopen hwait hsend hbulks rfl rfl rfl rfl hon hclean hleft rfl)

end Sys2Proof.Machine
end

section
/-! Whatever a raise's writes keep, the raise keeps; and what a listed register shields in a map of any form. -/

namespace Sys2Proof.Machine

/-- A property of the registers alone that writes of the named keys keep. -/
structure KeptBy (K : Nat → Prop) (P : State → Prop) : Prop where
  setReg : ∀ (t : State) (k : Nat) (w : Word), K k → P t → P (t.setReg k w)
  regs : ∀ t u : State, u.regs = t.regs → P t → P u

section
variable {K : Nat → Prop} {P : State → Prop}

theorem KeptBy.wr (hP : KeptBy K P) {t : State} {b : Nat} {f : Fld} (v : Nat) (hk : K (b + f.off)) (h : P t) : P (t.wr b f v) :=
  hP.setReg _ _ _ hk h

theorem KeptBy.cnt (hP : KeptBy K P) {t : State} {b : Nat} {f : Fld} (n : Nat) (hk : K (b + f.off)) (h : P t) : P (t.cnt b f n) :=
  hP.setReg _ _ _ hk h

theorem KeptBy.noteRaise (hP : KeptBy K P) {id : Nat} {t : State} (hline : K (0xB0000 + 4 * (id / 32))) (hsrc : K (objKey 7 id + 0x14))
    (hflt : ∀ k < 0x10000, K (fltB + k)) (h : P t) : P (t.noteRaise id) := by
  unfold State.noteRaise
  refine hP.wr _ (hflt _ (by decide)) (hP.cnt _ ?_ (hP.cnt _ hsrc (hP.setReg _ _ _ hline h)))
  generalize hc : State.rd _ _ R.FLT_SRC_CFG_CLASS = c
  have hlt : c < 4 := hc ▸ State.rd_lt _ _ _
  rw [Nat.add_assoc]
  exact hflt _ (by simp only [R.FLT_CNT_CLASS_COUNT]; omega)

theorem KeptBy.putRec (hP : KeptBy K P) {i : Nat} (id : Nat) (cfg : Word) (acc : EvAcc) {t : State}
    (hrec : ∀ off < 0x40, K (objKey 8 i + off)) (hflt : ∀ k < 0x10000, K (fltB + k)) (h : P t) : P (t.putRec i id cfg acc) := by
  unfold State.putRec
  refine hP.wr _ (hflt _ (by decide)) ?_
  iterate 11 refine hP.wr _ (hrec _ (by decide)) ?_
  exact h

theorem KeptBy.raiseEnd (hP : KeptBy K P) (id i : Nat) {t : State} (hflt : ∀ k < 0x10000, K (fltB + k)) (h : P t) :
    P (t.raiseEnd id i) := by
  refine hP.regs (t.pinReact id) _ rfl ?_
  unfold State.pinReact
  split
  · exact hP.wr _ (hflt _ (by decide)) h
  · exact h

/-- What holds once a raise is noted stays for the rest of it. -/
theorem KeptBy.raise_of_note (hP : KeptBy K P) {s : State} {id : Nat} (hrec : ∀ i < 8, ∀ off < 0x40, K (objKey 8 i + off))
    (hflt : ∀ k < 0x10000, K (fltB + k)) (hline : K 0xB0080) (hsrc : K (objKey 7 0x41D + 0x14))
    (hopen : s.evClamped id = false) (hnote : P (s.noteRaise id)) : P (s.raise id) := by
  unfold State.raise
  rw [s.raiseA_open _ hopen]
  rcases s.raiseOn_cases id EvAcc.none with heq | ⟨i, hi, heq⟩ | heq
  · exact heq ▸ hP.raiseEnd id 0xFF hflt hnote
  · rw [heq]
    exact hP.raiseEnd id i hflt (hP.putRec id _ _ (hrec i hi) hflt hnote)
  · rw [heq]
    refine hP.raiseEnd id 0xFF hflt ?_
    have htaken : P (s.noteRaise id).fullTaken := hP.regs (s.noteRaise id) _ rfl hnote
    have hcnt : P ((s.noteRaise id).fullTaken.cnt fltB R.FLT_CNT_OVF_REC 1) := hP.cnt _ (hflt _ (by decide)) htaken
    rcases (s.noteRaise id).fullTaken.recordLost_cases with hlost | hlost
    · exact hlost ▸ hcnt
    · rw [hlost]
      exact hP.raiseEnd 0x41D 0xFF hflt (hP.noteRaise hline hsrc hflt
        (hP.regs ((s.noteRaise id).fullTaken.cnt fltB R.FLT_CNT_OVF_REC 1) _ rfl hcnt))

/-- A raise keeps what the writes of its keys keep. -/
theorem KeptBy.raise (hP : KeptBy K P) {s : State} {id : Nat} (hK : ∀ k, RaiseAt id k → K k) (h : P s) : P (s.raise id) := by
  have hflt : ∀ k < 0x10000, K (fltB + k) := fun k hk => hK _ (raiseAt_window hk)
  have hnote : P (s.noteRaise id) := hP.noteRaise (hK _ (.inr (.inl rfl))) (hK _ (.inr (.inr (.inr (.inl rfl))))) hflt h
  by_cases hclamp : s.evClamped id = true
  · rw [State.raise, State.raiseA, if_pos hclamp]
    exact h
  · exact hP.raise_of_note (fun i hi off ho => hK _ (.inr (.inr (.inr (.inr (.inr ⟨i, hi, off, ho, rfl⟩)))))) hflt
      (hK _ (.inr (.inr (.inl rfl)))) (hK _ (.inr (.inr (.inr (.inr (.inl rfl)))))) (Bool.eq_false_iff.mpr hclamp) hnote

end

/-- Behind an entry that reads, a map of any form has nothing to show to the keys up to it: a write above it leaves them. -/
theorem look_put_above {α : Type} [DecidableEq α] {d e : α} {v : α} {c i j : Nat} (m : List (Nat × α)) (hc : look e m c ≠ e) (hi : c < i)
    (hj : j ≤ c) (e' : α) : look e' (put d m i v) j = look e' m j := by
  induction m with
  | nil => exact absurd rfl hc
  | cons x m ih =>
    obtain ⟨k, y⟩ := x
    have hk : k ≤ c := by
      rw [look] at hc
      split at hc
      · omega
      · split at hc
        · exact absurd rfl hc
        · omega
    rw [put, if_neg (by omega), if_neg (by omega), look, look]
    split
    · rfl
    · split
      · rfl
      · next hjk hjk' => exact ih (by rw [look, if_neg (by omega), if_neg (by omega)] at hc; exact hc)

/-- Register c reads other than its reset word, and the registers up to it read as in s. -/
def ShieldedBy (c : Nat) (s t : State) : Prop := t.getReg c ≠ resetWord c ∧ ∀ j ≤ c, t.getReg j = s.getReg j

theorem shieldedBy_kept (c : Nat) (s : State) : KeptBy (c < ·) (ShieldedBy c s) where
  setReg t k w hk h := by
    have hkeep (j : Nat) (hj : j ≤ c) : (t.setReg k w).getReg j = t.getReg j := look_put_above t.regs h.1 hk hj _
    exact ⟨by rw [hkeep c (Nat.le_refl c)]; exact h.1, fun j hj => (hkeep j hj).trans (h.2 j hj)⟩
  regs t u hu h := by
    have hkeep (j : Nat) : u.getReg j = t.getReg j := by unfold State.getReg; rw [hu]
    exact ⟨by rw [hkeep]; exact h.1, fun j hj => (hkeep j).trans (h.2 j hj)⟩

/-- A raise leaves the registers up to one that reads other than its reset word, below all that it writes. -/
theorem State.raise_getReg_below {c id j : Nat} {s : State} (hc : s.getReg c ≠ resetWord c) (hlow : c < 0x70000) (hj : j ≤ c) :
    (s.raise id).getReg j = s.getReg j := by
  refine ((shieldedBy_kept c s).raise (fun k hk => ?_) ⟨hc, fun _ _ => rfl⟩).2 j hj
  unfold RaiseAt at hk
  simp only [objKey] at hk
  rcases hk with h | h | h | h | h | ⟨i, -, o, -, h⟩ <;> omega

end Sys2Proof.Machine
end

section
/-! The management bus: transactions, malformed ones, the clock time-out and the address match (R419 to R422, R456, R514). -/

namespace Sys2Proof.Machine

/-- The part takes transactions: powered, out of reset, running, in RUN or DIM. -/
structure BusReady (s : State) : Prop where
  por : s.por = false
  inReset : s.inReset = false
  off : s.off = false
  fatal : s.fatal = false
  awake : s.pwrState ≤ 1

theorem mi2cTakes_ready {s : State} (h : BusReady s) : mi2cTakes s = true := by
  have hne : (s.pwrState != 3) = true := by
    have := h.awake
    simp only [bne_iff_ne]
    omega
  simp [mi2cTakes, h.por, h.inReset, hne]

theorem wakeSource_awake {src : Nat} {s : State} (h : s.pwrState ≤ 1) : wakeSource src s = s := by
  unfold wakeSource
  split
  · rfl
  · split
    · next hst => omega
    · next hst => omega
    · rfl

theorem mi2cMatch_ready {s : State} (h : BusReady s) : mi2cMatch s = s := by
  unfold mi2cMatch
  rw [wakeSource_awake h.awake, ite_self]

/-- A transaction of a right count of bytes is executed and counted. -/
theorem mi2cRun_ok {s : State} (h : BusReady s) (hinj : s.bootInj.testBit 3 = false) (f : State → State) :
    mi2cRun true f s = mi2cStop (f (s.cnt bootB R.BOOT_MI2C_CNT_ACCESSES 1)) := by
  unfold mi2cRun
  rw [mi2cTakes_ready h, mi2cMatch_ready h]
  dsimp only
  rw [hinj]
  rfl

theorem mi2cRun_short {s : State} (h : BusReady s) (hinj : s.bootInj.testBit 3 = false) (f : State → State) :
    mi2cRun false f s = mi2cStop (mi2cBad s) := by
  unfold mi2cRun
  rw [mi2cTakes_ready h, mi2cMatch_ready h]
  dsimp only
  rw [hinj]
  rfl

/-- INJ_MI2C is taken by a transaction. -/
def injMi2cTaken (s : State) : State := { s with bootInj := s.bootInj - 8 }

theorem mi2cRun_injected {s : State} (h : BusReady s) (hinj : s.bootInj.testBit 3 = true) (ok : Bool) (f : State → State) :
    mi2cRun ok f s = mi2cStop (mi2cBad (injMi2cTaken s)) := by
  unfold mi2cRun
  rw [mi2cTakes_ready h, mi2cMatch_ready h]
  dsimp only
  rw [hinj]
  rfl

/-! Malformed transactions. -/

/-- The status word's key lies above that of the counts. -/
theorem protoCnt_getReg {j : Nat} (s : State) (hj : j ≠ 0x1001C) : (s.cnt bootB R.BOOT_MI2C_CNT_PROTO 1).getReg j = s.getReg j :=
  State.getReg_cnt_of hj (by decide) (by decide +kernel)

theorem protoCnt_listed (s : State) : (s.cnt bootB R.BOOT_MI2C_CNT_PROTO 1).getReg 0x1001C ≠ resetWord 0x1001C := by
  have hlist : fset (s.getReg 0x1001C) 15 0 (satAdd 16 (s.rd bootB R.BOOT_MI2C_CNT_PROTO) 1) ≠ resetWord 0x1001C := by
    intro hzero
    have hread := fget_fset_same (s.getReg 0x1001C) 0 (satAdd 16 (s.rd bootB R.BOOT_MI2C_CNT_PROTO) 1) (hi := 15) (by decide)
    have hreset : resetWord 0x1001C = 0 := by decide +kernel
    have hcount : satAdd 16 (s.rd bootB R.BOOT_MI2C_CNT_PROTO) 1 = min (s.rd bootB R.BOOT_MI2C_CNT_PROTO + 1) (2 ^ 16 - 1) := satAdd_eq_min _ _ _
    rw [hzero, hreset, Nat.mod_eq_of_lt (satAdd_lt _ _ _), hcount, show fget 0 15 0 = 0 from by decide] at hread
    omega
  have hsame : (s.cnt bootB R.BOOT_MI2C_CNT_PROTO 1).getReg 0x1001C = fset (s.getReg 0x1001C) 15 0 (satAdd 16 (s.rd bootB R.BOOT_MI2C_CNT_PROTO) 1) :=
    look_put_same_of _ s.regs hlist
  rw [hsame]
  exact hlist

theorem mi2cBad_ready {s : State} (h : s.pwrState ≤ 1) : mi2cBad s = (s.cnt bootB R.BOOT_MI2C_CNT_PROTO 1).raise 0x445 := by
  have hruns : (s.cnt bootB R.BOOT_MI2C_CNT_PROTO 1).islandRuns = true := by
    have hst : (s.cnt bootB R.BOOT_MI2C_CNT_PROTO 1).rd pwrB R.PWR_STATUS_STATE = s.pwrState :=
      congrArg (fun w => fget w R.PWR_STATUS_STATE.hi R.PWR_STATUS_STATE.lo) (protoCnt_getReg s (by decide))
    unfold State.islandRuns
    rw [hst, bne_iff_ne]
    omega
  unfold mi2cBad raiseHeld
  rw [hruns]
  rfl

/-- The address that the STOP takes is the one that stood before. -/
theorem mi2cStop_bad {s : State} (h : s.pwrState ≤ 1) : mi2cStop (mi2cBad s) =
    { (s.cnt bootB R.BOOT_MI2C_CNT_PROTO 1).raise 0x445 with mi2cAddr := s.rd bootB R.BOOT_MI2C_CFG_ADDR } := by
  have haddr : ((s.cnt bootB R.BOOT_MI2C_CNT_PROTO 1).raise 0x445).rd bootB R.BOOT_MI2C_CFG_ADDR = s.rd bootB R.BOOT_MI2C_CFG_ADDR :=
    congrArg (fun w => fget w R.BOOT_MI2C_CFG_ADDR.hi R.BOOT_MI2C_CFG_ADDR.lo)
      ((State.raise_getReg_below (protoCnt_listed s) (by decide) (by decide)).trans (protoCnt_getReg s (by decide)))
  rw [mi2cBad_ready h, mi2cStop, haddr]

/-- What a malformed transaction leaves, with INJ_MI2C taken or not. -/
theorem malformed_counts {s : State} (h : BusReady s) :
    (s.bootInj.testBit 3 = true → ∀ ok f, mi2cRun ok f s = { ((injMi2cTaken s).cnt bootB R.BOOT_MI2C_CNT_PROTO 1).raise 0x445 with
      mi2cAddr := s.rd bootB R.BOOT_MI2C_CFG_ADDR }) ∧
    (s.bootInj.testBit 3 = false → ∀ f, mi2cRun false f s = { (s.cnt bootB R.BOOT_MI2C_CNT_PROTO 1).raise 0x445 with
      mi2cAddr := s.rd bootB R.BOOT_MI2C_CFG_ADDR }) := by
  refine ⟨fun hinj ok f => ?_, fun hinj f => ?_⟩
  · rw [mi2cRun_injected h hinj]
    exact mi2cStop_bad (s := injMi2cTaken s) h.awake
  · rw [mi2cRun_short h hinj]
    exact mi2cStop_bad h.awake

/-! Accesses. -/

theorem mi2cAccess_done {write : Bool} {a : Nat} {w : Word} {s : State} (h : (access .mi2c write a w s).2.2 ≠ .waiting) :
    mi2cAccess write a w s = { mi2cDone write (access .mi2c write a w s).2.2 (access .mi2c write a w s).1 with
      resp := some ⟨.mi2c, a, write, if write then 0 else (access .mi2c write a w s).2.1, (access .mi2c write a w s).2.2⟩ } := by
  unfold mi2cAccess
  dsimp only
  rw [if_neg (by simpa using h)]

/-- Before boot completes the bus may not reach what its windows leave out (R421). -/
theorem access_blocked {write : Bool} {a : Nat} {w : Word} {s : State} (h : BusReady s) (hmay : mi2cMay write a s = false) :
    access .mi2c write a w s = (s, 0, .blocked) := by
  unfold access
  rw [h.por, h.inReset, h.off, h.fatal, hmay]
  rfl

/-- The windows that the bus may not write before boot completes. -/
theorem mi2cMay_write {a : Nat} {s : State} (hboot : s.booted = false) (ha : a / 0x10000 ∈ [2, 3, 4, 5, 6, 7, 8, 9, 10, 11]) :
    mi2cMay true a s = false := by
  unfold mi2cMay place
  rw [hboot]
  simp only [List.mem_cons, List.not_mem_nil, or_false] at ha
  rw [if_pos (by omega)]
  rcases ha with ha | ha | ha | ha | ha | ha | ha | ha | ha | ha <;> rw [ha] <;> rfl

/-- The windows that the bus may not read before boot completes. -/
theorem mi2cMay_read {a : Nat} {s : State} (hboot : s.booted = false) (ha : a / 0x10000 ∈ [2, 4, 6, 8, 10, 11]) :
    mi2cMay false a s = false := by
  unfold mi2cMay place
  rw [hboot]
  simp only [List.mem_cons, List.not_mem_nil, or_false] at ha
  rw [if_pos (by omega)]
  rcases ha with ha | ha | ha | ha | ha | ha <;> rw [ha] <;> rfl

end Sys2Proof.Machine
end

section
/-! The commands of the management bus. -/

namespace Sys2Proof.Machine

theorem dropKeys_put {α : Type} [DecidableEq α] {p : Nat → Bool} {d v : α} {i : Nat} (m : List (Nat × α)) (hp : p i = true) :
    dropKeys p (put d m i v) = dropKeys p m := by
  induction m with
  | nil =>
    unfold put
    split
    · rfl
    · simp [dropKeys, hp]
  | cons x m ih =>
    obtain ⟨k, y⟩ := x
    unfold put
    split
    · split
      · rfl
      · simp [dropKeys, hp]
    · split
      · next hik =>
        subst hik
        split
        · simp [dropKeys, hp]
        · simp [dropKeys, hp]
      · simp only [dropKeys, List.filter_cons] at ih ⊢
        rw [ih]

theorem BusReady.fresh {s : State} (h : BusReady s) : BusReady s.fresh := ⟨h.por, h.inReset, h.off, h.fatal, h.awake⟩

/-- A counted access finds the part as it was. -/
theorem accessCnt_getReg {j : Nat} (s : State) (hj : j ≠ 0x1001C) : (s.cnt bootB R.BOOT_MI2C_CNT_ACCESSES 1).getReg j = s.getReg j :=
  State.getReg_cnt_of hj (by decide) (by decide +kernel)

theorem accessCnt_rd {b : Nat} {f : Fld} (s : State) (hj : b + f.off ≠ 0x1001C) :
    (s.cnt bootB R.BOOT_MI2C_CNT_ACCESSES 1).rd b f = s.rd b f :=
  congrArg (fun w => fget w f.hi f.lo) (accessCnt_getReg s hj)

theorem BusReady.counted {s : State} (h : BusReady s) : BusReady (s.cnt bootB R.BOOT_MI2C_CNT_ACCESSES 1) := by
  refine ⟨h.por, h.inReset, h.off, h.fatal, ?_⟩
  unfold State.pwrState
  rw [accessCnt_rd s (by decide)]
  exact h.awake

theorem accessCnt_booted (s : State) : (s.cnt bootB R.BOOT_MI2C_CNT_ACCESSES 1).booted = s.booted := by
  unfold State.booted State.bootState
  rw [accessCnt_rd s (by decide)]

theorem mi2cWrite_done {bs : List (BitVec 8)} {s : State} (h : BusReady s) (hinj : s.bootInj.testBit 3 = false) (hlen : bs.length = 8)
    {r : State × Word × AccSt} (hr : r = access .mi2c true (fb32 bs 0) (BitVec.ofNat 32 (fb32 bs 4)) (s.fresh.cnt bootB R.BOOT_MI2C_CNT_ACCESSES 1))
    {v : Nat} (hv : v = if r.2.2 = .blocked then 6 else accStatus r.2.2) {t : State}
    (ht : t = { r.1 with mi2cByte := some v, mi2cLast := v, resp := some ⟨.mi2c, fb32 bs 0, true, 0, r.2.2⟩ }) (hwait : r.2.2 ≠ .waiting) :
    exec (.mi2cWrite bs) s = .next (closed s.pending { t with mi2cAddr := t.rd bootB R.BOOT_MI2C_CFG_ADDR }) := by
  refine exec_closed (f := mi2cWriteTx bs) rfl ?_
  have hok : (bs.length == 8) = true := beq_iff_eq.mpr hlen
  have hst : (if (r.2.2 == .blocked) = true then 6 else accStatus r.2.2) = v := by rw [hv]; simp only [beq_iff_eq]
  unfold mi2cWriteTx
  rw [hok, mi2cRun_ok h.fresh hinj, mi2cAccess_done (by rw [← hr]; exact hwait), ← hr, ht]
  unfold mi2cDone mi2cStop
  dsimp only
  rw [hst]
  rfl

theorem mi2cRead_done {bs : List (BitVec 8)} {s : State} (h : BusReady s) (hinj : s.bootInj.testBit 3 = false) (hlen : bs.length = 4)
    {r : State × Word × AccSt} (hr : r = access .mi2c false (fb32 bs 0) 0 (s.fresh.cnt bootB R.BOOT_MI2C_CNT_ACCESSES 1))
    {v : Nat} (hv : v = if r.2.2 = .blocked then 6 else accStatus r.2.2) {t : State}
    (ht : t = { r.1 with mi2cByte := some v, resp := some ⟨.mi2c, fb32 bs 0, false, r.2.1, r.2.2⟩ }) (hwait : r.2.2 ≠ .waiting) :
    exec (.mi2cRead bs) s = .next (closed s.pending { t with mi2cAddr := t.rd bootB R.BOOT_MI2C_CFG_ADDR }) := by
  refine exec_closed (f := mi2cReadTx bs) rfl ?_
  have hok : (bs.length == 4) = true := beq_iff_eq.mpr hlen
  have hst : (if (r.2.2 == .blocked) = true then 6 else accStatus r.2.2) = v := by rw [hv]; simp only [beq_iff_eq]
  unfold mi2cReadTx
  rw [hok, mi2cRun_ok h.fresh hinj, mi2cAccess_done (by rw [← hr]; exact hwait), ← hr, ht]
  unfold mi2cDone mi2cStop
  dsimp only
  rw [hst]
  rfl

theorem mi2cStatus_done {s : State} (h : BusReady s) (hinj : s.bootInj.testBit 3 = false) :
    exec (.mi2cStatus []) s = .next (closed s.pending { s.fresh.cnt bootB R.BOOT_MI2C_CNT_ACCESSES 1 with
      mi2cByte := some s.mi2cLast, mi2cAddr := s.rd bootB R.BOOT_MI2C_CFG_ADDR }) := by
  refine exec_closed (f := mi2cStatusTx []) rfl ?_
  have haddr : (s.fresh.cnt bootB R.BOOT_MI2C_CNT_ACCESSES 1).rd bootB R.BOOT_MI2C_CFG_ADDR = s.rd bootB R.BOOT_MI2C_CFG_ADDR :=
    accessCnt_rd s.fresh (by decide)
  unfold mi2cStatusTx
  rw [show (([] : List Byte).length == 0) = true from rfl, mi2cRun_ok h.fresh hinj, mi2cStop, ← haddr]
  rfl

/-- The bus's access of a window that is closed to it. -/
theorem mi2cWrite_blocked {bs : List (BitVec 8)} {s : State} (h : BusReady s) (hinj : s.bootInj.testBit 3 = false) (hboot : s.booted = false)
    (hlen : bs.length = 8) (ha : fb32 bs 0 / 0x10000 ∈ [2, 3, 4, 5, 6, 7, 8, 9, 10, 11]) :
    ∃ u, exec (.mi2cWrite bs) s = .next (closed s.pending u) ∧
      (u.mi2cByte = some 6 ∧ u.mi2cLast = 6 ∧ u.mem = s.mem ∧ u.raised = s.raised ∧ u.resp = some ⟨.mi2c, fb32 bs 0, true, 0, .blocked⟩ ∧
      dropKeys (· == bootB + 0x1C) u.regs = dropKeys (· == bootB + 0x1C) s.regs) := by
  have hacc := access_blocked (write := true) (w := BitVec.ofNat 32 (fb32 bs 4)) h.fresh.counted
    (mi2cMay_write ((accessCnt_booted s.fresh).trans hboot) ha)
  refine ⟨_, mi2cWrite_done h hinj hlen hacc.symm rfl rfl (by simp), rfl, rfl, rfl, rfl, rfl, ?_⟩
  exact dropKeys_put s.regs (by decide)

theorem mi2cRead_blocked {bs : List (BitVec 8)} {s : State} (h : BusReady s) (hinj : s.bootInj.testBit 3 = false) (hboot : s.booted = false)
    (hlen : bs.length = 4) (ha : fb32 bs 0 / 0x10000 ∈ [2, 4, 6, 8, 10, 11]) :
    ∃ u, exec (.mi2cRead bs) s = .next (closed s.pending u) ∧
      (u.mi2cByte = some 6 ∧ u.mem = s.mem ∧ u.raised = s.raised ∧
      dropKeys (· == bootB + 0x1C) u.regs = dropKeys (· == bootB + 0x1C) s.regs) := by
  have hacc := access_blocked (write := false) (w := 0) h.fresh.counted (mi2cMay_read ((accessCnt_booted s.fresh).trans hboot) ha)
  refine ⟨_, mi2cRead_done h hinj hlen hacc.symm rfl rfl (by simp), rfl, rfl, rfl, ?_⟩
  exact dropKeys_put s.regs (by decide)

theorem malformed_runs {bs : List (BitVec 8)} {s : State} (h : BusReady s) :
    let t (i : Bool) := ((if i = true then { s.fresh with bootInj := s.bootInj - 8 } else s.fresh).cnt bootB R.BOOT_MI2C_CNT_PROTO 1).raise 0x445
    let t (i : Bool) := { t i with mi2cAddr := s.rd bootB R.BOOT_MI2C_CFG_ADDR }
    (s.bootInj.testBit 3 = true → exec (.mi2cWrite bs) s = .next (closed s.pending (t true)) ∧
      exec (.mi2cRead bs) s = .next (closed s.pending (t true)) ∧ exec (.mi2cStatus bs) s = .next (closed s.pending (t true))) ∧
    (s.bootInj.testBit 3 = false → (bs.length ≠ 8 → exec (.mi2cWrite bs) s = .next (closed s.pending (t false))) ∧
      (bs.length ≠ 4 → exec (.mi2cRead bs) s = .next (closed s.pending (t false))) ∧
      (bs ≠ [] → exec (.mi2cStatus bs) s = .next (closed s.pending (t false)))) := by
  obtain ⟨htaken, hshort⟩ := malformed_counts h.fresh
  refine ⟨fun hinj => ?_, fun hinj => ?_⟩
  · exact ⟨exec_closed (f := mi2cWriteTx bs) rfl (htaken hinj _ _), exec_closed (f := mi2cReadTx bs) rfl (htaken hinj _ _),
      exec_closed (f := mi2cStatusTx bs) rfl (htaken hinj _ _)⟩
  · refine ⟨fun hne => exec_closed (f := mi2cWriteTx bs) rfl ?_, fun hne => exec_closed (f := mi2cReadTx bs) rfl ?_,
      fun hne => exec_closed (f := mi2cStatusTx bs) rfl ?_⟩
    · have hno : (bs.length == 8) = false := beq_eq_false_iff_ne.mpr hne
      unfold mi2cWriteTx
      rw [hno]
      exact hshort hinj _
    · have hno : (bs.length == 4) = false := beq_eq_false_iff_ne.mpr hne
      unfold mi2cReadTx
      rw [hno]
      exact hshort hinj _
    · have hno : (bs.length == 0) = false := beq_eq_false_iff_ne.mpr fun hz => hne (List.length_eq_zero_iff.mp hz)
      unfold mi2cStatusTx
      rw [hno]
      exact hshort hinj _

/-! The clock held low (R514). -/

theorem mi2cTimeout_counts {s : State} (hr : Rising 0 s.regs) (hpor : s.por = false) (hst : s.pwrState ≤ 1) :
    let u := mi2cTimeout s
    u.on glbB R.GLB_PIN_STAT_MI2C_TO = true ∧ u.rd glbB R.GLB_PIN_CNT_MI2C_TO = min 255 (s.rd glbB R.GLB_PIN_CNT_MI2C_TO + 1) ∧
      Sends 0x445 u ∧ u.rd bootB R.BOOT_MI2C_CNT_PROTO = min 65535 (s.rd bootB R.BOOT_MI2C_CNT_PROTO + 1) ∧ u.mem = s.mem := by
  intro u
  have hr1 : Rising 0 (pinFlag R.GLB_PIN_STAT_MI2C_TO s).regs := State.wr_rising s _ _ _ hr
  have hr2 : Rising 0 ((pinFlag R.GLB_PIN_STAT_MI2C_TO s).cnt glbB R.GLB_PIN_CNT_MI2C_TO 1).regs := State.setReg_rising _ _ _ hr1
  have hr3 : Rising 0 (((pinFlag R.GLB_PIN_STAT_MI2C_TO s).cnt glbB R.GLB_PIN_CNT_MI2C_TO 1).cnt bootB R.BOOT_MI2C_CNT_PROTO 1).regs :=
    State.setReg_rising _ _ _ hr2
  have hother {b : Nat} {f : Fld} (h1 : b + f.off ≠ 0x30) (h2 : b + f.off ≠ 0x34) :
      ((pinFlag R.GLB_PIN_STAT_MI2C_TO s).cnt glbB R.GLB_PIN_CNT_MI2C_TO 1).rd b f = s.rd b f :=
    (State.rd_wr_ne _ _ _ _ _ _ hr1 h2).trans (State.rd_wr_ne s _ _ _ _ _ hr h1)
  have hu : u = (((pinFlag R.GLB_PIN_STAT_MI2C_TO s).cnt glbB R.GLB_PIN_CNT_MI2C_TO 1).cnt bootB R.BOOT_MI2C_CNT_PROTO 1).raise 0x445 := by
    change mi2cTimeout s = _
    unfold mi2cTimeout
    rw [hpor, if_neg (by simp)]
    refine mi2cBad_ready ?_
    unfold State.pwrState
    rw [hother (by decide) (by decide)]
    exact hst
  have hrd {b : Nat} {f : Fld} (hk : b + f.off < 0x20000) : u.rd b f =
      (((pinFlag R.GLB_PIN_STAT_MI2C_TO s).cnt glbB R.GLB_PIN_CNT_MI2C_TO 1).cnt bootB R.BOOT_MI2C_CNT_PROTO 1).rd b f := by
    rw [hu]
    refine State.raise_rd hr3 (by decide) ?_
    unfold RaiseKey FltKey EvtKey objKey
    omega
  have hproto {b : Nat} {f : Fld} (h : b + f.off ≠ 0x1001C) :
      (((pinFlag R.GLB_PIN_STAT_MI2C_TO s).cnt glbB R.GLB_PIN_CNT_MI2C_TO 1).cnt bootB R.BOOT_MI2C_CNT_PROTO 1).rd b f =
        ((pinFlag R.GLB_PIN_STAT_MI2C_TO s).cnt glbB R.GLB_PIN_CNT_MI2C_TO 1).rd b f := State.rd_wr_ne _ _ _ _ _ _ hr2 h
  refine ⟨?_, ?_, ?_, ?_, ?_⟩
  · have hto : u.rd glbB R.GLB_PIN_STAT_MI2C_TO = 1 := by
      rw [hrd (by decide), hproto (by decide)]
      exact (State.rd_wr_ne _ _ _ _ _ _ hr1 (by decide)).trans (State.rd_wr_same s _ _ _ hr (by decide))
    unfold State.on
    rw [hto]
    rfl
  · rw [hrd (by decide), hproto (by decide), State.rd_cnt_same _ _ _ _ hr1 (by decide), Nat.min_comm]
    exact congrArg (fun n => min 255 (n + 1)) (State.rd_wr_ne s _ _ _ _ _ hr (by decide))
  · rw [hu]
    exact State.raise_sends (by unfold State.evClamped; rw [show evDom 0x445 = none from by decide])
  · rw [hrd (by decide), State.rd_cnt_same _ _ _ _ hr2 (by decide), hother (by decide) (by decide), Nat.min_comm]
    rfl
  · rw [hu, State.raise_mem_of]
    rfl

/-! The address match (R456). -/

theorem mi2cAddressMatch_wakes {s : State} (hpor : s.por = false) (hreset : s.inReset = false) (hoff : s.off = false) (hfatal : s.fatal = false)
    (hen : s.on pwrB R.PWR_CTRL_MI2C_WAKE_EN = true) :
    (s.pwrState = 3 → s.pwr.wakeSrc = none → exec .mi2cAddressMatch s =
      .next (closed s.pending { s.fresh with pwr := { s.pwr with wakeSrc := some (1, s.now) } })) ∧
    (s.pwrState = 2 → exec .mi2cAddressMatch s = .next (closed s.pending (restAbort [] s.fresh))) ∧
    (s.pwrState ≤ 1 → exec .mi2cAddressMatch s = .next (closed s.pending s.fresh)) := by
  have hmatch : mi2cMatch s.fresh = wakeSource 1 s.fresh := by
    have hmay : (!s.fresh.por && !s.fresh.inReset && s.fresh.on pwrB R.PWR_CTRL_MI2C_WAKE_EN) = true := by
      rw [show s.fresh.por = false from hpor, show s.fresh.inReset = false from hreset,
        show s.fresh.on pwrB R.PWR_CTRL_MI2C_WAKE_EN = true from hen]
      rfl
    unfold mi2cMatch
    rw [if_pos hmay]
  have hno : (s.fresh.off || s.fresh.fatal || s.fresh.por) = false := by
    rw [show s.fresh.off = false from hoff, show s.fresh.fatal = false from hfatal, show s.fresh.por = false from hpor]
    rfl
  refine ⟨fun hst hsrc => ?_, fun hst => ?_, fun hst => ?_⟩
  · refine exec_closed (f := mi2cMatch) rfl (hmatch.trans ?_)
    have hst' : s.fresh.pwrState = 3 := hst
    have hsrc' : s.fresh.pwr.wakeSrc = none := hsrc
    unfold wakeSource
    rw [hno, hst', hsrc']
    rfl
  · refine exec_closed (f := mi2cMatch) rfl (hmatch.trans ?_)
    have hst' : s.fresh.pwrState = 2 := hst
    unfold wakeSource
    rw [hno, hst']
    rfl
  · exact exec_closed (f := mi2cMatch) rfl (hmatch.trans (wakeSource_awake hst))

/-- Settles O50: a transaction by what the bus takes, the registers that it counts in, and the window that it reaches. -/
theorem sidebandBus : Obligations.SidebandBus := by
  unfold Obligations.SidebandBus
  refine ⟨fun bs s hpor hreset hoff hfatal hst hinj hlen hwait => mi2cWrite_done ⟨hpor, hreset, hoff, hfatal, hst⟩ hinj hlen rfl rfl rfl hwait,
    fun bs s hpor hreset hoff hfatal hst hinj hlen hwait => mi2cRead_done ⟨hpor, hreset, hoff, hfatal, hst⟩ hinj hlen rfl rfl rfl hwait,
    fun s hpor hreset hoff hfatal hst hinj => mi2cStatus_done ⟨hpor, hreset, hoff, hfatal, hst⟩ hinj,
    fun bs s _ hpor hreset hoff hfatal hst hinj hboot =>
      ⟨fun hlen ha => mi2cWrite_blocked ⟨hpor, hreset, hoff, hfatal, hst⟩ hinj hboot hlen ha,
        fun hlen ha => mi2cRead_blocked ⟨hpor, hreset, hoff, hfatal, hst⟩ hinj hboot hlen ha⟩,
    fun bs s hpor hreset hoff hfatal hst => malformed_runs ⟨hpor, hreset, hoff, hfatal, hst⟩,
    fun s hinv hpor hreset hoff hfatal hst => ⟨_, exec_closed (f := mi2cTimeout) rfl rfl,
      mi2cTimeout_counts (s := s.fresh) hinv.regs_rising hpor hst⟩,
    fun s hpor hreset hoff hfatal hen => mi2cAddressMatch_wakes hpor hreset hoff hfatal hen⟩

end Sys2Proof.Machine
end

section
/-! What a core holds once an instruction has been counted and sampled: its program is as it was (R367, R370, R381, R382). -/

namespace Sys2Proof.Machine

/-! A core's registers. -/

/-- The general and control registers of a core are listed by rising numbers. -/
structure CoreSt.Formed (c : CoreSt) : Prop where
  g : Rising 0 c.g
  csr : Rising 0 c.csr

theorem CoreSt.reset_formed : CoreSt.reset.Formed := ⟨trivial, trivial⟩

theorem CoreSt.getCsr_setCsr_same {c : CoreSt} (n : Nat) (w : Word) (h : Rising 0 c.csr) : (c.setCsr n w).getCsr n = w :=
  look_put_same 0 w h

theorem CoreSt.getCsr_setCsr_ne {c : CoreSt} {n j : Nat} (w : Word) (h : Rising 0 c.csr) (hj : j ≠ n) :
    (c.setCsr n w).getCsr j = c.getCsr j := look_put_other c.csr h hj

theorem CoreSt.setCsr_rising {c : CoreSt} (n : Nat) (w : Word) (h : Rising 0 c.csr) : Rising 0 (c.setCsr n w).csr :=
  put_rising 0 w h (Nat.zero_le n)

/-- A general register takes a value, which g0 ignores. -/
theorem CoreSt.gr_setGr {c : CoreSt} (rd i : Nat) (v : Word) (h : Rising 0 c.g) :
    (c.setGr rd v).gr i = if i = rd ∧ rd ≠ 0 then v else c.gr i := by
  unfold CoreSt.setGr
  by_cases hrd : rd = 0
  · simp [hrd]
  · rw [if_neg hrd]
    by_cases hi : i = rd
    · subst hi
      simp only [CoreSt.gr, hrd, if_false, ne_eq, not_false_eq_true, and_self, if_true]
      exact look_put_same 0 v h
    · simp only [CoreSt.gr, hi, false_and, if_false]
      split
      · rfl
      · exact look_put_other c.g h hi

theorem CoreSt.setGr_rising {c : CoreSt} (rd : Nat) (v : Word) (h : Rising 0 c.g) : Rising 0 (c.setGr rd v).g := by
  unfold CoreSt.setGr
  split
  · exact h
  · exact put_rising 0 v h (Nat.zero_le rd)

/-! Counters and samples. -/

/-- Counting and sampling change the CSRs from 0x040 on, the samples and what awaits one. -/
structure CoreCounted (c d : CoreSt) : Prop where
  frame : ∃ m sm sw, d = { c with csr := m, samples := sm, sampleWait := sw }
  rising : Rising 0 d.csr
  csr : ∀ n < 64, d.getCsr n = c.getCsr n

theorem CoreCounted.refl {c : CoreSt} (h : Rising 0 c.csr) : CoreCounted c c := ⟨⟨_, _, _, rfl⟩, h, fun _ _ => rfl⟩

theorem CoreCounted.trans {c d e : CoreSt} (h : CoreCounted c d) (h' : CoreCounted d e) : CoreCounted c e := by
  obtain ⟨⟨m, sm, sw, rfl⟩, -, hcsr⟩ := h
  obtain ⟨⟨m', sm', sw', rfl⟩, hrise, hcsr'⟩ := h'
  exact ⟨⟨m', sm', sw', rfl⟩, hrise, fun n hn => (hcsr' n hn).trans (hcsr n hn)⟩

theorem CoreCounted.setCsr {c d : CoreSt} (h : CoreCounted c d) {n : Nat} (w : Word) (hn : 64 ≤ n) : CoreCounted c (d.setCsr n w) := by
  refine h.trans ⟨⟨_, _, _, rfl⟩, CoreSt.setCsr_rising n w h.rising, fun j hj => ?_⟩
  exact CoreSt.getCsr_setCsr_ne w h.rising (by omega)

theorem CoreCounted.setCsrF {c d : CoreSt} (h : CoreCounted c d) {n : Nat} (hi lo v : Nat) (hn : 64 ≤ n) :
    CoreCounted c (d.setCsrF n hi lo v) := h.setCsr _ hn

theorem CoreCounted.setCnt {c d : CoreSt} (h : CoreCounted c d) (i v : Nat) : CoreCounted c (d.setCnt i v) :=
  (h.setCsr _ (by unfold csrCNT; omega)).setCsr _ (by unfold csrCNT; omega)

theorem CoreCounted.waits {c d : CoreSt} (h : CoreCounted c d) (b : Bool) : CoreCounted c { d with sampleWait := b } :=
  h.trans ⟨⟨_, _, _, rfl⟩, h.rising, fun _ _ => rfl⟩

theorem CoreCounted.sampled {c d : CoreSt} (h : CoreCounted c d) (m : List (Nat × Word)) : CoreCounted c { d with samples := m } :=
  h.trans ⟨⟨_, _, _, rfl⟩, h.rising, fun _ _ => rfl⟩

theorem cntWrap_counted {c d : CoreSt} (i left : Nat) (h : CoreCounted c d) : CoreCounted c (cntWrap i left d) := by
  have hwrap := (h.setCsrF (n := csrCNTSEL i) 28 28 1 (by unfold csrCNTSEL; omega)).setCnt i left
  unfold cntWrap
  dsimp only
  split
  · have hreload (v : Nat) := hwrap.setCnt i v
    split
    · exact (hreload _).setCsrF _ _ _ (by decide)
    · exact (hreload _).waits _
  · exact hwrap

theorem cntAdd_counted {c e : CoreSt} (i n : Nat) (h : CoreCounted c e) : CoreCounted c (cntAdd i n e) := by
  unfold cntAdd
  split
  · exact h.setCnt _ _
  · exact cntWrap_counted _ _ h

theorem cntEvent_counted {c e : CoreSt} (ev n : Nat) (h : CoreCounted c e) : CoreCounted c (cntEvent ev n e) := by
  unfold cntEvent
  generalize List.range 8 = l
  induction l generalizing e with
  | nil => exact h
  | cons i l ih =>
    refine ih ?_
    dsimp only
    split
    · exact cntAdd_counted i n h
    · exact h

/-! The state around a core. -/

theorem CoreSt.formed_of_listed {m : List (Nat × CoreSt)} (h : Cores.formed m = true) (i : Nat) : (look CoreSt.reset m i).Formed := by
  simp only [Cores.formed, Bool.and_eq_true, List.all_eq_true, risesFrom_iff] at h
  obtain ⟨-, hall⟩ := h
  induction m with
  | nil => exact CoreSt.reset_formed
  | cons x m ih =>
    rw [look]
    split
    · obtain ⟨hg, hcsr⟩ := hall x (by simp)
      exact ⟨hg, hcsr⟩
    · split
      · exact CoreSt.reset_formed
      · exact ih fun y hy => hall y (by simp [hy])

theorem Inv.cores_rising {s : State} (h : Inv s) : Rising 0 s.cores := by
  obtain ⟨-, -, -, hcores, -⟩ := h
  simp only [Cores.formed, Bool.and_eq_true, risesFrom_iff] at hcores
  exact hcores.1

theorem Inv.coreOf_formed {s : State} (h : Inv s) (k : Nat) : (s.coreOf k).Formed := by
  obtain ⟨-, -, -, hcores, -⟩ := h
  exact CoreSt.formed_of_listed hcores _

theorem State.coreOf_setCore_same {s : State} (k : Nat) (c : CoreSt) (h : Rising 0 s.cores) : (s.setCore k c).coreOf k = c :=
  look_put_same _ c h

theorem State.coreOf_setCore_ne {s : State} {j k : Nat} (c : CoreSt) (h : Rising 0 s.cores) (hj : coreIx j ≠ coreIx k) :
    (s.setCore k c).coreOf j = s.coreOf j := look_put_other s.cores h hj

theorem State.setCore_rising {s : State} (k : Nat) (c : CoreSt) (h : Rising 0 s.cores) : Rising 0 (s.setCore k c).cores :=
  put_rising _ c h (Nat.zero_le _)

/-- An instruction of core k is counted and sampled: beside that core only the draws of free values change. -/
structure CoreMeasured (k : Nat) (s t : State) : Prop where
  frame : ∃ m n, t = { s with cores := m, free := n }
  rising : Rising 0 t.cores
  core : CoreCounted (s.coreOf k) (t.coreOf k)
  others : ∀ j, coreIx j ≠ coreIx k → t.coreOf j = s.coreOf j

theorem CoreMeasured.refl {k : Nat} {s : State} (hs : Rising 0 s.cores) (hc : Rising 0 (s.coreOf k).csr) : CoreMeasured k s s :=
  ⟨⟨_, _, rfl⟩, hs, .refl hc, fun _ _ => rfl⟩

theorem CoreMeasured.drawn {k : Nat} {s t : State} (h : CoreMeasured k s t) : CoreMeasured k s t.drawn := by
  obtain ⟨⟨m, n, rfl⟩, hrise, hcore, hothers⟩ := h
  exact ⟨⟨m, _, rfl⟩, hrise, hcore, hothers⟩

theorem CoreMeasured.setCore {k : Nat} {s t : State} {d : CoreSt} (h : CoreMeasured k s t) (hd : CoreCounted (t.coreOf k) d) :
    CoreMeasured k s (t.setCore k d) := by
  obtain ⟨⟨m, n, rfl⟩, hrise, hcore, hothers⟩ := h
  refine ⟨⟨_, n, rfl⟩, State.setCore_rising k d hrise, ?_, fun j hj => ?_⟩
  · rw [State.coreOf_setCore_same k d hrise]
    exact hcore.trans hd
  · rw [State.coreOf_setCore_ne d hrise hj]
    exact hothers j hj

theorem CoreMeasured.count {k : Nat} {s t : State} (h : CoreMeasured k s t) (ev n : Nat) : CoreMeasured k s (coreCount k ev n t) :=
  h.setCore (cntEvent_counted ev n (.refl h.core.rising))

theorem CoreMeasured.counts {k : Nat} {s t : State} (h : CoreMeasured k s t) (evs : List Nat) :
    CoreMeasured k s (evs.foldl (fun t e => coreCount k e 1 t) t) := by
  induction evs generalizing t with
  | nil => exact h
  | cons e evs ih => exact ih (h.count e 1)

theorem CoreMeasured.sample {k : Nat} {s t : State} (h : CoreMeasured k s t) (pc addr : Word) :
    CoreMeasured k s (takeSample k pc addr t) := by
  have hc : CoreCounted (t.coreOf k) (t.coreOf k) := .refl h.core.rising
  have hd : CoreMeasured k s t.drawn := h.drawn
  unfold takeSample
  dsimp only
  split
  · exact h
  · split
    · exact hd.setCore (hc.waits false)
    · have hrec (m : List (Nat × Word)) (n p : Nat) := (((hc.waits false).sampled m).setCsrF (n := csrSAMPLESTAT) 25 16 n (by decide)).setCsrF
        (n := csrSAMPLESTAT) 8 0 p (by decide)
      split
      · split
        · exact hd.setCore (((hrec _ _ _).setCsrF _ _ _ (by decide)).setCsrF _ _ _ (by decide))
        · exact hd.setCore ((hrec _ _ _).setCsrF _ _ _ (by decide))
      · split
        · exact hd.setCore ((hrec _ _ _).setCsrF _ _ _ (by decide))
        · exact hd.setCore (hrec _ _ _)

end Sys2Proof.Machine
end

section
/-! An instruction of a core that issues retires (R367, R373, R381), and what a difference of the pair leaves (R366). -/

namespace Sys2Proof.Machine

/-! What a stop of a core leaves: its program, the other cores, memory. -/

/-- From `s` to `t` memory and every core stand, but for the watchdog and the held trap of core k. -/
structure CoreKept (k : Nat) (s t : State) : Prop where
  mem : t.mem = s.mem
  rising : Rising 0 t.cores
  core : ∃ a b, t.coreOf k = { s.coreOf k with wdogAt := a, nmtHeld := b }
  others : ∀ j, coreIx j ≠ coreIx k → t.coreOf j = s.coreOf j

theorem CoreKept.of_cores {k : Nat} {s t : State} (hs : Rising 0 s.cores) (hmem : t.mem = s.mem) (h : t.cores = s.cores) :
    CoreKept k s t := by
  have hcore (j : Nat) : t.coreOf j = s.coreOf j := congrArg (fun m => look CoreSt.reset m (coreIx j)) h
  exact ⟨hmem, h ▸ hs, ⟨_, _, hcore k⟩, fun j _ => hcore j⟩

theorem CoreKept.trans {k : Nat} {s t u : State} (h : CoreKept k s t) (h' : CoreKept k t u) : CoreKept k s u := by
  obtain ⟨a, b, hcore⟩ := h.core
  obtain ⟨a', b', hcore'⟩ := h'.core
  exact ⟨h'.mem.trans h.mem, h'.rising, ⟨a', b', by rw [hcore', hcore]⟩, fun j hj => (h'.others j hj).trans (h.others j hj)⟩

theorem CoreKept.refl {k : Nat} {s : State} (hs : Rising 0 s.cores) : CoreKept k s s := .of_cores hs rfl rfl

theorem CoreKept.wr {k : Nat} {s t : State} (h : CoreKept k s t) (b : Nat) (f : Fld) (v : Nat) : CoreKept k s (t.wr b f v) :=
  h.trans (.of_cores h.rising rfl rfl)

theorem CoreKept.cnt {k : Nat} {s t : State} (h : CoreKept k s t) (b : Nat) (f : Fld) (n : Nat) : CoreKept k s (t.cnt b f n) :=
  h.wr b f _

theorem CoreKept.raise {k : Nat} {s t : State} (h : CoreKept k s t) (id : Nat) : CoreKept k s (t.raise id) := by
  refine h.trans ?_
  obtain ⟨_, _, _, _, he⟩ := RaiseFrame.raise t id
  exact .of_cores h.rising (by rw [he]) (by rw [he])

theorem CoreKept.setCore {k : Nat} {s : State} (hs : Rising 0 s.cores) (a : Nat) (b : Option (Nat × Nat × Nat)) :
    CoreKept k s (s.setCore k { s.coreOf k with wdogAt := a, nmtHeld := b }) :=
  ⟨rfl, State.setCore_rising k _ hs, ⟨a, b, State.coreOf_setCore_same k _ hs⟩, fun _ hj => State.coreOf_setCore_ne _ hs hj⟩

theorem CoreKept.semForce {k : Nat} {s t : State} (h : CoreKept k s t) (i : Nat) : CoreKept k s (semForce i t) := by
  have hfree : CoreKept k s (semFree i t) := h.trans (.of_cores h.rising rfl rfl)
  unfold Machine.semForce
  split
  · exact (hfree.cnt _ _ _).raise _
  · exact h

theorem CoreKept.semForceOf {k : Nat} {s t : State} (h : CoreKept k s t) (mid : Nat) : CoreKept k s (semForceOf mid t) := by
  have hstep {u : State} (hu : CoreKept k s u) (i : Nat) :
      CoreKept k s (if u.on (semB i) R.SQ_SEM_HELD && u.rd (semB i) R.SQ_SEM_OWNER == mid then Machine.semForce i u else u) := by
    split
    · exact hu.semForce i
    · exact hu
  exact hstep (hstep h 0) 1

theorem CoreKept.go {k : Nat} {s t : State} (h : CoreKept k s t) (st : Nat) : CoreKept k s (coreGo k st t) := by
  have hwdog : CoreKept k t (if wdogStops (t.coreState (coreIx k)) == wdogStops st then t
      else t.setCore (coreIx k) { t.coreOf (coreIx k) with wdogAt := t.now - (t.coreOf (coreIx k)).wdogAt }) := by
    split
    · exact .refl h.rising
    · have hix : coreIx (coreIx k) = coreIx k := by unfold coreIx; split <;> simp_all
      have hset : ∀ c, t.setCore (coreIx k) c = t.setCore k c := fun c => by unfold State.setCore; rw [hix]
      have hof : t.coreOf (coreIx k) = t.coreOf k := by unfold State.coreOf; rw [hix]
      rw [hset, hof]
      exact .setCore h.rising _ _
  have hrun (u : State) (i : Nat) (hu : CoreKept k t u) : CoreKept k t
      ((u.wr (coreB i) R.SQ_CORE_STATUS_STATE st).setReg (sqB + 4) (fset (u.getReg (sqB + 4)) i i (b2n (decide (3 ≤ st))))) :=
    hu.trans (.of_cores hu.rising rfl rfl)
  refine h.trans ?_
  unfold coreGo
  dsimp only
  split
  · exact hrun _ 17 (hrun _ 16 hwdog)
  · exact hrun _ _ hwdog

theorem CoreKept.nmtDiscard {s t : State} (h : CoreKept 16 s t) : CoreKept 16 s (nmtDiscard t) := by
  unfold Machine.nmtDiscard
  have hcnt := h.cnt fltB R.FLT_CNT_OVF_NMT_LOST (t.nmtQ.length + b2n (t.coreOf 16).nmtHeld.isSome)
  have hq : CoreKept 16 s { t.cnt fltB R.FLT_CNT_OVF_NMT_LOST (t.nmtQ.length + b2n (t.coreOf 16).nmtHeld.isSome) with nmtQ := [] } :=
    hcnt.trans (.of_cores hcnt.rising rfl rfl)
  exact (hq.trans (.setCore hq.rising _ none)).wr _ _ _

/-- The pair is one core. -/
theorem CoreKept.congr {j k : Nat} {s t : State} (h : CoreKept j s t) (hjk : coreIx j = coreIx k) : CoreKept k s t := by
  have hof (u : State) : u.coreOf k = u.coreOf j := by unfold State.coreOf; rw [hjk]
  obtain ⟨a, b, hcore⟩ := h.core
  exact ⟨h.mem, h.rising, ⟨a, b, by rw [hof, hof, hcore]⟩, fun i hi => h.others i (by rwa [hjk])⟩

theorem CoreKept.stop {k : Nat} {s t : State} (h : CoreKept k s t) (st : Nat) : CoreKept k s (coreStop k st t) := by
  have hsem := ((h.go st).wr (coreB (coreIx k)) R.SQ_CORE_PC_PC (t.coreOf k).pc.toNat).semForceOf (coreMid k)
  unfold coreStop
  dsimp only
  split
  next h16 =>
    have hix : coreIx 16 = coreIx k := (beq_iff_eq.mp h16).symm
    exact (hsem.congr hix.symm).nmtDiscard.congr hix
  next => exact hsem

/-- A difference of the pair stops it and raises an event (R366): what its program holds stands. -/
theorem CoreKept.lockDiff {s t : State} (h : CoreKept 16 s t) : CoreKept 16 s (lockDiff t) := by
  have hcnt := h.cnt sqB R.SQ_LOCK_STAT_MISMATCH 1
  unfold Machine.lockDiff
  dsimp only
  split
  · exact ((hcnt.stop 5).wr _ _ _).raise _
  · exact hcnt.raise _

/-! Retirement. -/

theorem CoreMeasured.retire {k : Nat} {s : State} (hs : Rising 0 s.cores) (hc : Rising 0 (s.coreOf k).csr) (evs : List Nat) (addr : Word) :
    ∃ t, CoreMeasured k s t ∧ coreRetire k evs addr s = t.wr (coreB (coreIx k)) R.SQ_CORE_PC_PC (s.coreOf k).pc.toNat :=
  ⟨_, ((CoreMeasured.refl hs hc).counts _).sample _ _, rfl⟩

/-- An instruction of core k, counted and sampled, with its PC shown. -/
structure CoreRetiring (k : Nat) (s t : State) : Prop where
  frame : ∃ m n w, t = { s with cores := m, free := n, regs := put (resetWord (coreB (coreIx k) + 0x108)) s.regs (coreB (coreIx k) + 0x108) w }
  rising : Rising 0 t.cores
  core : CoreCounted (s.coreOf k) (t.coreOf k)
  others : ∀ j, coreIx j ≠ coreIx k → t.coreOf j = s.coreOf j

theorem coreRetire_retiring {k : Nat} {s : State} (hs : Rising 0 s.cores) (hc : Rising 0 (s.coreOf k).csr) (evs : List Nat) (addr : Word) :
    CoreRetiring k s (coreRetire k evs addr s) := by
  obtain ⟨t, ht, he⟩ := CoreMeasured.retire hs hc evs addr
  obtain ⟨⟨m, n, rfl⟩, hrise, hcore, hothers⟩ := ht
  rw [he]
  exact ⟨⟨m, n, _, rfl⟩, hrise, hcore, hothers⟩

/-- The PC that is shown lies beside the run state. -/
theorem pc_ne_state (i j : Nat) : coreB i + R.SQ_CORE_STATUS_STATE.off ≠ coreB j + 0x108 := by
  simp only [coreB, R.SQ_CORE_STATUS_STATE]
  omega

theorem CoreRetiring.coreState {k : Nat} {s t : State} (h : CoreRetiring k s t) (hs : Rising 0 s.regs) : t.coreState k = s.coreState k := by
  obtain ⟨⟨m, n, w, rfl⟩, -, -, -⟩ := h
  unfold State.coreState State.rd State.getReg
  exact congrArg (fun v => fget v _ _) (look_put_other s.regs hs (pc_ne_state _ _))

theorem CoreRetiring.regs {k : Nat} {s t : State} (h : CoreRetiring k s t) :
    dropKeys (· == coreB (coreIx k) + 0x108) t.regs = dropKeys (· == coreB (coreIx k) + 0x108) s.regs := by
  obtain ⟨⟨m, n, w, rfl⟩, -, -, -⟩ := h
  exact dropKeys_put _ (by simp)

/-- An instruction that issues completes: after its effect `u` only an armed difference of the pair follows. -/
theorem coreFinish_eq {k : Nat} {s u : State} {evs : List Nat} {addr : Word} {f : State → State} (hu : f (coreRetire k evs addr s) = u)
    (h3 : u.coreState k = 1) :
    coreFinish k evs addr f s = if coreIx k == 16 && u.injLockstep then lockDiff { u with injLockstep := false } else u := by
  unfold coreFinish
  rw [hu]
  dsimp only
  rw [h3]
  rfl

end Sys2Proof.Machine
end

section
/-! The cores' instructions on registers: arithmetic, logic, branches and jumps (R368). -/

namespace Sys2Proof.Machine

/-! An instruction that only writes a register and the PC. -/

/-- What an instruction does to its core: one general register, the PC, nothing else that its program reads. -/
structure CoreStep (rd : Nat) (v pc : Word) (c d : CoreSt) : Prop where
  gr : ∀ i : Fin 32, d.gr i.val = if i.val = rd ∧ rd ≠ 0 then v else c.gr i.val
  pc : d.pc = pc
  priv : d.priv = c.priv
  csr : ∀ n < 64, d.getCsr n = c.getCsr n

theorem CoreStep.setGr {c d : CoreSt} (h : CoreCounted c d) (hg : Rising 0 c.g) (rd : Nat) (v pc : Word) :
    CoreStep rd v pc c { d.setGr rd v with pc := pc } := by
  obtain ⟨⟨m, sm, sw, rfl⟩, -, hcsr⟩ := h
  refine ⟨fun i => CoreSt.gr_setGr rd i.val v hg, rfl, ?_, fun n hn => ?_⟩
  · simp only [CoreSt.setGr]
    split <;> rfl
  · refine Eq.trans ?_ (hcsr n hn)
    simp only [CoreSt.setGr]
    split <;> rfl

theorem CoreStep.jump {c d : CoreSt} (h : CoreCounted c d) (pc : Word) : CoreStep 0 0 pc c { d with pc := pc } := by
  obtain ⟨⟨m, sm, sw, rfl⟩, -, hcsr⟩ := h
  exact ⟨fun i => by simp [CoreSt.gr], rfl, rfl, hcsr⟩

/-- The instruction issues and answers its effect. -/
theorem Issues.exec {k : Nat} {i : Instr} {s : State} {f : State → State} (h : Issues k s) (hrun : exec i s = run (coreRun k f) s) :
    Machine.exec i s = .next (closed s.pending (f s.fresh)) := by
  obtain ⟨hcan, htrap, hpc⟩ := h
  refine exec_closed hrun ?_
  unfold coreRun coreIssue
  rw [show coreCan 1 k s.fresh = true from hcan, show boundaryTrap k s.fresh = false from htrap]
  exact if_neg (Nat.not_le.mpr hpc)

theorem Issues.coreState {k : Nat} {s : State} (h : Issues k s) : s.coreState k = 1 := by
  obtain ⟨hcan, -, -⟩ := h
  simp only [coreCan, Bool.and_eq_true, beq_iff_eq] at hcan
  exact hcan.1.1.1.1

/-- Every core other than the pair has an index of its own. -/
theorem coreIx_of_lt {j : Nat} (h : j < 17) : coreIx j = j := by
  unfold coreIx
  rw [if_neg]
  simp only [beq_iff_eq]
  omega

theorem State.coreOf_sixteen {k : Nat} (h : coreIx k = 16) (s : State) : s.coreOf k = s.coreOf 16 := by
  unfold State.coreOf
  rw [h]
  rfl

/-- Core k ends as d, but for its watchdog and its held trap; the other cores stand. -/
structure CoreEnds (k : Nat) (d : CoreSt) (s u : State) : Prop where
  core : ∃ a b, u.coreOf k = { d with wdogAt := a, nmtHeld := b }
  others : ∀ j : Fin 17, j.val ≠ coreIx k → u.coreOf j.val = s.coreOf j.val

theorem CoreEnds.of_set {k : Nat} {d : CoreSt} {s t : State} (h : Rising 0 s.cores) (hc : t.cores = (s.setCore k d).cores) :
    CoreEnds k d s t := by
  have hcore (j : Nat) : t.coreOf j = (s.setCore k d).coreOf j := congrArg (fun m => look CoreSt.reset m (coreIx j)) hc
  refine ⟨⟨d.wdogAt, d.nmtHeld, (hcore k).trans (State.coreOf_setCore_same k d h)⟩, fun j hj => ?_⟩
  exact (hcore j.val).trans (State.coreOf_setCore_ne d h (by rwa [coreIx_of_lt j.isLt]))

theorem CoreEnds.kept {k : Nat} {d : CoreSt} {s t u : State} (h : CoreEnds k d s t) (h16 : coreIx k = 16) (hk : CoreKept 16 t u) :
    CoreEnds k d s u := by
  obtain ⟨a, b, hcore⟩ := h.core
  obtain ⟨a', b', hcore'⟩ := hk.core
  rw [← State.coreOf_sixteen h16, ← State.coreOf_sixteen h16, hcore] at hcore'
  refine ⟨⟨a', b', hcore'⟩, fun j hj => ?_⟩
  rw [hk.others j.val (by rw [coreIx_of_lt j.isLt]; rw [h16] at hj; exact hj)]
  exact h.others j hj

theorem CoreEnds.retired {k rd : Nat} {v pc : Word} {d : CoreSt} {s u : State} (h : CoreEnds k d s u)
    (hd : CoreStep rd v pc (s.coreOf k) d) : Retired k rd v pc s u := by
  obtain ⟨hg, hpc, hpriv, hcsr⟩ := hd
  obtain ⟨⟨a, b, hcore⟩, hothers⟩ := h
  refine ⟨?_, ?_, ?_, ?_, hothers⟩
  · rw [hcore]; exact hg
  · rw [hcore]; exact hpc
  · rw [hcore]; exact hpriv
  · rw [hcore]; exact fun n => hcsr n.val n.isLt

/-- An instruction whose effect is on its core and memory completes with that core and that memory. -/
theorem coreFinish_ends {k : Nat} {s : State} {evs : List Nat} {addr : Word} {f : State → State} {M : List Host.Cell} {d : CoreSt}
    (hs : Rising 0 s.cores) (hc : Rising 0 (s.coreOf k).csr)
    (hu : f (coreRetire k evs addr s) = ({ coreRetire k evs addr s with mem := M } : State).setCore k d) :
    CoreEnds k d s (coreFinish k evs addr f s) ∧ (coreFinish k evs addr f s).mem = M := by
  have hret := coreRetire_retiring hs hc evs addr
  unfold coreFinish
  rw [hu]
  generalize coreRetire k evs addr s = r at hret
  have hset : Rising 0 (({ r with mem := M } : State).setCore k d).cores := State.setCore_rising (s := { r with mem := M }) k d hret.rising
  have hends : CoreEnds k d s (({ r with mem := M } : State).setCore k d) := by
    obtain ⟨hcore, hothers⟩ := CoreEnds.of_set (s := { r with mem := M }) (k := k) (d := d) hret.rising rfl
    exact ⟨hcore, fun j hj => (hothers j hj).trans (hret.others j.val (by rwa [coreIx_of_lt j.isLt]))⟩
  have hshown (t : State) (ht : CoreEnds k d s t) (hr : Rising 0 t.cores) (hm : t.mem = M) :
      CoreEnds k d s (if (coreIx k == 16 && t.injLockstep) = true then lockDiff { t with injLockstep := false } else t) ∧
        (if (coreIx k == 16 && t.injLockstep) = true then lockDiff { t with injLockstep := false } else t).mem = M := by
    split
    next hlock =>
      rw [Bool.and_eq_true, beq_iff_eq] at hlock
      have hkept := CoreKept.lockDiff (.of_cores (k := 16) (s := t) (t := { t with injLockstep := false }) hr rfl rfl)
      exact ⟨ht.kept hlock.1 hkept, hkept.mem.trans hm⟩
    next => exact ⟨ht, hm⟩
  dsimp only
  split
  · exact hshown _ ⟨hends.core, hends.others⟩ hset rfl
  · exact hshown _ hends hset rfl

/-- One of a core in RUN writes no register but the PC that is shown, and raises nothing, where no difference is armed. -/
theorem coreFinish_quiet {k : Nat} {s : State} {evs : List Nat} {addr : Word} {f : State → State} {M : List Host.Cell} {d : CoreSt}
    (hI : Inv s) (h1 : s.coreState k = 1) (hinj : s.injLockstep = false)
    (hu : f (coreRetire k evs addr s) = ({ coreRetire k evs addr s with mem := M } : State).setCore k d) :
    coreFinish k evs addr f s = ({ coreRetire k evs addr s with mem := M } : State).setCore k d ∧
      (coreFinish k evs addr f s).raised = s.raised ∧
      dropKeys (· == coreB (coreIx k) + 0x108) (coreFinish k evs addr f s).regs = dropKeys (· == coreB (coreIx k) + 0x108) s.regs := by
  have hret := coreRetire_retiring hI.cores_rising (hI.coreOf_formed k).csr evs addr
  have hfin := coreFinish_eq hu ((hret.coreState hI.regs_rising).trans h1)
  generalize coreRetire k evs addr s = r at hfin hret ⊢
  have hregs := hret.regs
  obtain ⟨⟨m, n, w, hr⟩, -, -, -⟩ := hret
  have hinj' : (({ r with mem := M } : State).setCore k d).injLockstep = false := by rw [hr]; exact hinj
  rw [hinj', Bool.and_false] at hfin
  rw [hfin]
  exact ⟨rfl, by rw [hr]; rfl, hregs⟩

/-- An instruction whose effect is on its core and memory alone has retired: but for an armed difference of the pair
nothing else changes. -/
theorem coreFinish_retired {k : Nat} {rd : Nat} {v pc : Word} {s : State} {evs : List Nat} {addr : Word} {f : State → State}
    {M : List Host.Cell} {d : CoreSt} (hI : Inv s) (h1 : s.coreState k = 1)
    (hu : f (coreRetire k evs addr s) = ({ coreRetire k evs addr s with mem := M } : State).setCore k d)
    (hd : CoreStep rd v pc (s.coreOf k) d) :
    Retired k rd v pc s (coreFinish k evs addr f s) ∧ (coreFinish k evs addr f s).mem = M ∧
      (s.injLockstep = false → (coreFinish k evs addr f s).raised = s.raised ∧
        dropKeys (· == coreB (coreIx k) + 0x108) (coreFinish k evs addr f s).regs = dropKeys (· == coreB (coreIx k) + 0x108) s.regs) := by
  obtain ⟨hends, hmem⟩ := coreFinish_ends hI.cores_rising (hI.coreOf_formed k).csr hu
  exact ⟨hends.retired hd, hmem, fun hinj => (coreFinish_quiet hI h1 hinj hu).2⟩

/-- One that changes its core alone retires with all else as before. -/
theorem coreFinish_retDone {k : Nat} {rd : Nat} {v pc : Word} {s : State} {evs : List Nat} {addr : Word} {f : State → State}
    {φ : CoreSt → CoreSt} (hI : Inv s) (h1 : s.coreState k = 1) (hf : ∀ r : State, f r = r.setCore k (φ (r.coreOf k)))
    (hφ : ∀ d, CoreCounted (s.coreOf k) d → CoreStep rd v pc (s.coreOf k) (φ d)) : RetDone k rd v pc s (coreFinish k evs addr f s) := by
  have hret := coreRetire_retiring hI.cores_rising (hI.coreOf_formed k).csr evs addr
  obtain ⟨m, n, w, hr⟩ := hret.frame
  have hmem : ({ coreRetire k evs addr s with mem := s.mem } : State) = coreRetire k evs addr s := by rw [hr]
  obtain ⟨hdone, hm, hq⟩ := coreFinish_retired (M := s.mem) hI h1 (by rw [hmem]; exact hf _) (hφ _ hret.core)
  exact ⟨hdone, hm, hq⟩

/-- An instruction that writes rd goes on to the next. -/
theorem coreSet_retDone {k : Nat} {rd : Nat} {v : Word} {s : State} {evs : List Nat} {addr : Word} {g : CoreSt → Word} (hI : Inv s)
    (h1 : s.coreState k = 1) (hg : ∀ d, CoreCounted (s.coreOf k) d → g d = v) :
    RetDone k rd v ((s.coreOf k).pc + 4) s (coreFinish k evs addr (coreSet k (fun c => c.setGr rd (g c))) s) := by
  refine coreFinish_retDone (φ := fun c => { c.setGr rd (g c) with pc := (c.setGr rd (g c)).pc + 4 }) hI h1 (fun _ => rfl) fun d hd => ?_
  have hpc : (d.setGr rd (g d)).pc = (s.coreOf k).pc := by
    obtain ⟨⟨m, sm, sw, rfl⟩, -, -⟩ := hd
    unfold CoreSt.setGr
    split <;> rfl
  dsimp only
  rw [hg d hd] at hpc ⊢
  rw [hpc]
  exact .setGr hd (hI.coreOf_formed k).g rd v _

/-- Counting leaves the general registers. -/
theorem CoreCounted.gr {c d : CoreSt} (h : CoreCounted c d) (i : Nat) : d.gr i = c.gr i := by
  obtain ⟨⟨m, sm, sw, rfl⟩, -, -⟩ := h
  rfl

end Sys2Proof.Machine
end

section
/-! The results of the cores' arithmetic, as the table of R368 states them. -/

namespace Sys2Proof.Machine

theorem alu_slt (a b : Word) : alu 8 a b = if a.toInt < b.toInt then 1 else 0 := by
  show (if a.slt b = true then (1 : Word) else 0) = _
  rw [BitVec.slt_eq_decide]
  simp only [decide_eq_true_eq]

theorem alu_sltu (a b : Word) : alu 9 a b = if a.toNat < b.toNat then 1 else 0 := by
  show (if a.ult b = true then (1 : Word) else 0) = _
  rw [BitVec.ult_eq_decide]
  simp only [decide_eq_true_eq]

theorem sra_eq (a : Word) (n : Nat) : a.sshiftRight n = BitVec.ofInt 32 (a.toInt / 2 ^ n) := by
  have h := congrArg (BitVec.ofInt 32) (BitVec.toInt_sshiftRight (x := a) (n := n))
  rw [BitVec.ofInt_toInt, Int.shiftRight_eq_div_pow] at h
  rw [h]
  norm_cast

theorem sdiv_eq_ofInt (a b : Word) : a.sdiv b = BitVec.ofInt 32 (a.toInt.tdiv b.toInt) :=
  BitVec.eq_of_toInt_eq (by rw [BitVec.toInt_sdiv, BitVec.toInt_ofInt])

theorem udiv_eq_ofNat (a b : Word) : a / b = BitVec.ofNat 32 (a.toNat / b.toNat) := by
  refine BitVec.eq_of_toNat_eq ?_
  rw [BitVec.toNat_udiv, BitVec.toNat_ofNat, Nat.mod_eq_of_lt (lt_of_le_of_lt (Nat.div_le_self _ _) a.isLt)]

theorem srem_eq_ofInt (a b : Word) : a.srem b = BitVec.ofInt 32 (a.toInt.tmod b.toInt) := by
  rw [← BitVec.toInt_srem, BitVec.ofInt_toInt]

theorem umod_eq_ofNat (a b : Word) : a % b = BitVec.ofNat 32 (a.toNat % b.toNat) := by
  refine BitVec.eq_of_toNat_eq ?_
  rw [BitVec.toNat_umod, BitVec.toNat_ofNat, Nat.mod_eq_of_lt (lt_of_le_of_lt (Nat.mod_le _ _) a.isLt)]

theorem alu_min (a b : Word) : alu 17 a b = BitVec.ofInt 32 (min a.toInt b.toInt) := by
  show (if a.slt b = true then a else b) = _
  rw [BitVec.slt_eq_decide]
  split
  next h => rw [min_eq_left (by simpa using le_of_lt (of_decide_eq_true h)), BitVec.ofInt_toInt]
  next h => rw [min_eq_right (by simpa using h), BitVec.ofInt_toInt]

theorem alu_max (a b : Word) : alu 18 a b = BitVec.ofInt 32 (max a.toInt b.toInt) := by
  show (if a.slt b = true then b else a) = _
  rw [BitVec.slt_eq_decide]
  split
  next h => rw [max_eq_right (by simpa using le_of_lt (of_decide_eq_true h)), BitVec.ofInt_toInt]
  next h => rw [max_eq_left (by simpa using h), BitVec.ofInt_toInt]

theorem alu_satadd (a b : Word) :
    alu 20 a b = BitVec.ofInt 32 (max (-2147483648) (min 2147483647 (a.toInt + b.toInt))) := by
  show BitVec.ofInt 32 (clampI _ _ _) = _
  refine congrArg (BitVec.ofInt 32) ?_
  unfold clampI
  omega

/-- i zeros lead a word whose bits from 32 - i up are clear, and whose next bit is set. -/
theorem clz_eq {a : Word} {i : Nat} (hi : i < 33) (hz : ∀ j : Fin 32, 32 - i ≤ j.val → a.getLsbD j.val = false)
    (ho : i = 32 ∨ a.getLsbD (31 - i) = true) : clz a = BitVec.ofNat 32 i := by
  have hlt : a.toNat < 2 ^ (32 - i) := by
    refine Nat.lt_pow_two_of_testBit _ fun j hj => ?_
    by_cases h32 : j < 32
    · exact hz ⟨j, h32⟩ hj
    · exact BitVec.getLsbD_of_ge a j (by omega)
  unfold clz
  rcases ho with rfl | hbit
  · rw [if_pos (BitVec.eq_of_toNat_eq (show a.toNat = 0 by omega))]
    rfl
  · have hge : 2 ^ (31 - i) ≤ a.toNat := Nat.ge_two_pow_of_testBit hbit
    have hne : a.toNat ≠ 0 := fun h => by rw [h] at hge; exact absurd hge (by simp)
    have hi' : i < 32 := by
      by_contra h
      have : 2 ^ (32 - i) = 1 := by rw [show 32 - i = 0 by omega]; rfl
      omega
    rw [if_neg (fun h => hne (by rw [h]; rfl)), (Nat.log2_eq_iff hne).mpr ⟨hge, by rwa [show 31 - i + 1 = 32 - i by omega]⟩]
    congr 1
    omega

theorem immS_toInt (imm : BitVec 16) : (immS imm).toInt = imm.toInt := BitVec.toInt_signExtend_of_le (by decide)

theorem shift_toNat (sh : Fin 32) : (BitVec.ofNat 32 sh.val : Word).toNat = sh.val := by
  rw [BitVec.toNat_ofNat]
  omega

theorem lui_eq (imm : BitVec 16) : immZ imm <<< 16 = BitVec.ofNat 32 (imm.toNat * 65536) := by
  refine BitVec.eq_of_toNat_eq ?_
  unfold immZ
  rw [BitVec.toNat_shiftLeft, BitVec.toNat_ofNat, Nat.shiftLeft_eq, BitVec.toNat_setWidth]
  omega

/-! The instructions. -/

section
variable {k : CoreId} {i : Instr} {s : State}

/-- A register instruction that issues retires with its result. -/
theorem isaAlu_done {func : Nat} {rd ra rb : Fin 32} {v : Word} (hI : Inv s) (h : Issues k.val s)
    (hrun : exec i s = run (coreRun k.val (isaAlu k.val func rd.val ra.val rb.val)) s)
    (hopen : aluOpen func ((s.coreOf k.val).gr rb.val) = false)
    (hv : alu func ((s.coreOf k.val).gr ra.val) ((s.coreOf k.val).gr rb.val) = v) :
    ∃ u, exec i s = .next (closed s.pending u) ∧ RetDone k.val rd.val v ((s.coreOf k.val).pc + 4) s u := by
  refine ⟨_, h.exec hrun, ?_⟩
  have hdone := coreSet_retDone (s := s.fresh) (evs := []) (addr := 0) (rd := rd.val) (v := v)
    (g := fun c => alu func (c.gr ra.val) (c.gr rb.val)) hI h.coreState fun d hd => by rw [hd.gr, hd.gr]; exact hv
  unfold isaAlu
  dsimp only
  rw [show s.fresh.coreOf k.val = s.coreOf k.val from rfl, hopen]
  exact hdone

/-- A shift by 32 or more retires with a free value. -/
theorem isaAlu_open {func : Nat} {rd ra rb : Fin 32} (hI : Inv s) (h : Issues k.val s)
    (hrun : exec i s = run (coreRun k.val (isaAlu k.val func rd.val ra.val rb.val)) s)
    (hopen : aluOpen func ((s.coreOf k.val).gr rb.val) = true) :
    ∃ u, exec i s = .next (closed s.pending u) ∧ Retired k.val rd.val (BitVec.ofNat 32 s.draw) ((s.coreOf k.val).pc + 4) s u := by
  refine ⟨_, h.exec hrun, ?_⟩
  have hdone := coreSet_retDone (s := s.fresh.drawn) (evs := []) (addr := 0) (rd := rd.val) (v := BitVec.ofNat 32 s.draw)
    (g := fun _ => BitVec.ofNat 32 s.draw) hI h.coreState fun _ _ => rfl
  unfold isaAlu
  dsimp only
  rw [show s.fresh.coreOf k.val = s.coreOf k.val from rfl, hopen]
  exact hdone.1

/-- An immediate instruction that issues retires with its result. -/
theorem isaImm_done {func : Nat} {rd ra : Fin 32} {b v : Word} (hI : Inv s) (h : Issues k.val s)
    (hrun : exec i s = run (coreRun k.val (isaImm k.val func rd.val ra.val b)) s)
    (hv : alu func ((s.coreOf k.val).gr ra.val) b = v) :
    ∃ u, exec i s = .next (closed s.pending u) ∧ RetDone k.val rd.val v ((s.coreOf k.val).pc + 4) s u :=
  ⟨_, h.exec hrun, coreSet_retDone (s := s.fresh) hI h.coreState fun d hd => by rw [hd.gr]; exact hv⟩

/-- A branch that issues goes to its target where it is taken, else on. -/
theorem isaBranch_done {op : Nat} {ra rb : Fin 32} {imm : BitVec 16} {taken : Bool} (hI : Inv s) (h : Issues k.val s)
    (hrun : exec i s = run (coreRun k.val (isaBranch k.val op ra.val rb.val imm)) s)
    (ht : branchTaken op ((s.coreOf k.val).gr ra.val) ((s.coreOf k.val).gr rb.val) = taken) :
    ∃ u, exec i s = .next (closed s.pending u) ∧ RetDone k.val 0 0
      (if taken = true then (s.coreOf k.val).pc + imm.signExtend 32 * 4 else (s.coreOf k.val).pc + 4) s u := by
  refine ⟨_, h.exec hrun, ?_⟩
  unfold isaBranch
  dsimp only
  rw [show s.fresh.coreOf k.val = s.coreOf k.val from rfl, ht]
  cases taken <;> simp only [Bool.false_eq_true, if_false, if_true]
  · refine coreFinish_retDone (s := s.fresh) (φ := fun c => { c with pc := c.pc + 4 }) hI h.coreState (fun _ => rfl) fun d hd => ?_
    have hpc : d.pc = (s.coreOf k.val).pc := by obtain ⟨⟨_, _, _, rfl⟩, -, -⟩ := hd; rfl
    rw [hpc]
    exact .jump hd _
  · exact coreFinish_retDone (s := s.fresh) (φ := fun c => { c with pc := (s.coreOf k.val).pc + immS imm * 4 }) hI h.coreState
      (fun _ => rfl) fun d hd => .jump hd _

/-- A jump that issues links and goes to its target. -/
theorem jump_done {f : State → State} {rd : Fin 32} {pc : Word} (hI : Inv s) (h : Issues k.val s)
    (hrun : exec i s = run (coreRun k.val f) s)
    (hf : f s.fresh = coreFinish k.val [0x0C] 0 (fun t => t.setCore k.val
      { (t.coreOf k.val).setGr rd.val ((s.coreOf k.val).pc + 4) with pc := pc }) s.fresh) :
    ∃ u, exec i s = .next (closed s.pending u) ∧ RetDone k.val rd.val ((s.coreOf k.val).pc + 4) pc s u := by
  refine ⟨_, h.exec hrun, ?_⟩
  rw [hf]
  exact coreFinish_retDone (s := s.fresh) (φ := fun c => { c.setGr rd.val ((s.coreOf k.val).pc + 4) with pc := pc }) hI h.coreState
    (fun _ => rfl) fun d hd => .setGr hd (hI.coreOf_formed k.val).g _ _ _

end

theorem shiftOpen_eq (func : Nat) (b : Word) (h : func = 5 ∨ func = 6 ∨ func = 7) : aluOpen func b = decide (32 ≤ b.toNat) := by
  unfold aluOpen
  obtain rfl | rfl | rfl := h <;> rfl

theorem not_slt_eq (a b : Word) : (!a.slt b) = decide (b.toInt ≤ a.toInt) := by
  rw [BitVec.slt_eq_decide, ← decide_not]
  simp only [not_lt]

theorem not_ult_eq (a b : Word) : (!a.ult b) = decide (b.toNat ≤ a.toNat) := by
  rw [BitVec.ult_eq_decide, ← decide_not]
  simp only [not_lt]

/-- Settles O39: each instruction's result by the table, on the rule of an instruction that retires. -/
theorem coreInstructions : Obligations.CoreInstructions := by
  unfold Obligations.CoreInstructions
  refine ⟨fun k rd ra rb s hI h => ?_, fun k rd ra sh imm s hI h => ?_, fun k rd ra rb imm far s hI h => ?_⟩
  · intro a b n
    refine ⟨isaAlu_done hI h rfl rfl rfl, isaAlu_done hI h rfl rfl rfl, isaAlu_done hI h rfl rfl rfl, isaAlu_done hI h rfl rfl rfl,
      isaAlu_done hI h rfl rfl rfl, isaAlu_done hI h rfl rfl (alu_slt a b), isaAlu_done hI h rfl rfl (alu_sltu a b),
      isaAlu_done hI h rfl rfl rfl, isaAlu_done hI h rfl rfl rfl, isaAlu_done hI h rfl rfl rfl, isaAlu_done hI h rfl rfl ?_,
      isaAlu_done hI h rfl rfl ?_, isaAlu_done hI h rfl rfl ?_, isaAlu_done hI h rfl rfl ?_, isaAlu_done hI h rfl rfl (alu_min a b),
      isaAlu_done hI h rfl rfl (alu_max a b), isaAlu_done hI h rfl rfl (alu_satadd a b),
      fun j hz ho => isaAlu_done hI h rfl rfl (clz_eq j.isLt hz ho), fun hb => ?_, fun hb => ?_⟩
    · rw [← sdiv_eq_ofInt]; rfl
    · rw [← udiv_eq_ofNat]; rfl
    · rw [← srem_eq_ofInt]; rfl
    · rw [← umod_eq_ofNat]; rfl
    · have hclosed (func : Nat) (hf : func = 5 ∨ func = 6 ∨ func = 7) : aluOpen func b = false := by
        rw [shiftOpen_eq func b hf]
        exact decide_eq_false (by omega)
      exact ⟨isaAlu_done hI h rfl (hclosed 5 (by decide)) rfl, isaAlu_done hI h rfl (hclosed 6 (by decide)) rfl,
        isaAlu_done hI h rfl (hclosed 7 (by decide)) (sra_eq a _)⟩
    · have hopen (func : Nat) (hf : func = 5 ∨ func = 6 ∨ func = 7) : aluOpen func b = true := by
        rw [shiftOpen_eq func b hf]
        exact decide_eq_true hb
      exact ⟨isaAlu_open hI h rfl (hopen 5 (by decide)), isaAlu_open hI h rfl (hopen 6 (by decide)),
        isaAlu_open hI h rfl (hopen 7 (by decide))⟩
  · intro a n
    have hsh := shift_toNat sh
    refine ⟨isaImm_done hI h rfl rfl, isaImm_done hI h rfl rfl, isaImm_done hI h rfl rfl, isaImm_done hI h rfl rfl,
      isaImm_done hI h rfl ?_, isaImm_done hI h rfl ?_, isaImm_done hI h rfl ?_, isaImm_done hI h rfl ?_, ?_⟩
    · rw [alu_slt, immS_toInt]
    · show a <<< (BitVec.ofNat 32 sh.val : Word).toNat = _
      rw [hsh]
    · show a >>> (BitVec.ofNat 32 sh.val : Word).toNat = _
      rw [hsh]
    · show a.sshiftRight (BitVec.ofNat 32 sh.val : Word).toNat = _
      rw [hsh, sra_eq]
    · exact ⟨_, h.exec rfl, coreSet_retDone (s := s.fresh) hI h.coreState fun _ _ => lui_eq imm⟩
  · intro c a b next
    refine ⟨isaBranch_done hI h rfl rfl, isaBranch_done hI h rfl rfl, isaBranch_done hI h rfl BitVec.slt_eq_decide,
      isaBranch_done hI h rfl (not_slt_eq a b), isaBranch_done hI h rfl BitVec.ult_eq_decide, isaBranch_done hI h rfl (not_ult_eq a b),
      jump_done hI h rfl rfl, jump_done hI h rfl rfl⟩

end Sys2Proof.Machine
end

section
/-! A core enters its trap handler (R371 to R374), and a core that stops shows it (R365, R366, R372). -/

namespace Sys2Proof.Machine

/-! Entry to the trap handler. -/

theorem CoreSt.getCsr_setCsr {c : CoreSt} (n j : Nat) (w : Word) (h : Rising 0 c.csr) :
    (c.setCsr n w).getCsr j = if j = n then w else c.getCsr j := by
  split
  next e => rw [e, CoreSt.getCsr_setCsr_same n w h]
  next e => exact CoreSt.getCsr_setCsr_ne w h e

/-- STATUS on entry to the trap handler: the mode saved, GIE clear, INTRAP set. -/
def trapStatus (w : Word) (priv : Bool) : Word := fset (fset (fset w 1 1 (b2n priv)) 0 0 0) 6 6 1

theorem trapStatus_mode (w : Word) (priv : Bool) : fget (trapStatus w priv) 1 1 = b2n priv := by
  unfold trapStatus
  rw [fget_fset_beside _ _ _ _ _ _ (.inr (by decide)), fget_fset_beside _ _ _ _ _ _ (.inl (by decide)), fget_fset_same _ _ _ (by decide)]
  cases priv <;> rfl

theorem trapStatus_gie (w : Word) (priv : Bool) : fget (trapStatus w priv) 0 0 = 0 := by
  unfold trapStatus
  rw [fget_fset_beside _ _ _ _ _ _ (.inr (by decide)), fget_fset_same _ _ _ (by decide)]
  rfl

theorem trapStatus_intrap (w : Word) (priv : Bool) : fget (trapStatus w priv) 6 6 = 1 := by
  unfold trapStatus
  rw [fget_fset_same _ _ _ (by decide)]
  rfl

theorem trapStatus_innmt (w : Word) (priv : Bool) : fget (trapStatus w priv) 7 7 = fget w 7 7 := by
  unfold trapStatus
  iterate 3 rw [fget_fset_beside _ _ _ _ _ _ (.inl (by decide))]

/-- The CSRs of a core that enters its trap handler. -/
def CoreSt.trapCsrs (c : CoreSt) (cause : Nat) (ret addr : Word) : CoreSt :=
  let c := ((c.setCsr csrTRAPPC ret).setCsr csrTRAPCAUSE (BitVec.ofNat 32 cause)).setCsr csrTRAPADDR addr
  ((c.setCsrF csrSTATUS 1 1 (b2n c.priv)).setCsrF csrSTATUS 0 0 0).setCsrF csrSTATUS 6 6 1

theorem CoreSt.trapCsrs_rising {c : CoreSt} (cause : Nat) (ret addr : Word) (h : Rising 0 c.csr) :
    Rising 0 (c.trapCsrs cause ret addr).csr := by
  unfold CoreSt.trapCsrs CoreSt.setCsrF
  iterate 6 refine CoreSt.setCsr_rising _ _ ?_
  exact h

theorem CoreSt.getCsr_trapCsrs {c : CoreSt} (cause : Nat) (ret addr : Word) (h : Rising 0 c.csr) (j : Nat) :
    (c.trapCsrs cause ret addr).getCsr j = if j = csrSTATUS then trapStatus (c.getCsr csrSTATUS) c.priv
      else if j = csrTRAPADDR then addr else if j = csrTRAPCAUSE then BitVec.ofNat 32 cause else if j = csrTRAPPC then ret
      else c.getCsr j := by
  have h1 := CoreSt.setCsr_rising csrTRAPPC ret h
  have h2 := CoreSt.setCsr_rising csrTRAPCAUSE (BitVec.ofNat 32 cause) h1
  have h3 := CoreSt.setCsr_rising csrTRAPADDR addr h2
  have h4 (w : Word) := CoreSt.setCsr_rising csrSTATUS w h3
  have h5 (w v : Word) := CoreSt.setCsr_rising csrSTATUS v (h4 w)
  unfold CoreSt.trapCsrs CoreSt.setCsrF
  by_cases hj : j = csrSTATUS
  · subst hj
    rw [if_pos rfl, CoreSt.getCsr_setCsr_same _ _ (h5 _ _), CoreSt.getCsr_setCsr_same _ _ (h4 _), CoreSt.getCsr_setCsr_same _ _ h3,
      CoreSt.getCsr_setCsr_ne _ h2 (by decide), CoreSt.getCsr_setCsr_ne _ h1 (by decide), CoreSt.getCsr_setCsr_ne _ h (by decide)]
    rfl
  · rw [if_neg hj, CoreSt.getCsr_setCsr_ne _ (h5 _ _) hj, CoreSt.getCsr_setCsr_ne _ (h4 _) hj, CoreSt.getCsr_setCsr_ne _ h3 hj,
      CoreSt.getCsr_setCsr _ _ _ h2, CoreSt.getCsr_setCsr _ _ _ h1, CoreSt.getCsr_setCsr _ _ _ h]

/-- Counting leaves the state beside the CSRs from 0x040 on. -/
theorem CoreCounted.csrF {c d : CoreSt} (h : CoreCounted c d) {n : Nat} (hn : n < 64) (hi lo : Nat) : d.csrF n hi lo = c.csrF n hi lo :=
  congrArg (fun w => fget w hi lo) (h.csr n hn)

theorem CoreSt.trapCsrs_frame (c : CoreSt) (cause : Nat) (ret addr : Word) : ∃ m, c.trapCsrs cause ret addr = { c with csr := m } :=
  ⟨_, rfl⟩

/-- A core that is counted after it entered its trap handler. -/
theorem coreEnter_eq (k ev cause : Nat) (ret : Word) (addr : Option Word) (s : State) : ∃ n, ∃ w, w = addr.getD w ∧
    coreCount k ev 1 (coreEnter k cause ret addr s) =
      coreCount k ev 1 (({ s with free := n } : State).setCore k { (s.coreOf k).trapCsrs cause ret w with
        priv := true, pc := wordAligned (((s.coreOf k).trapCsrs cause ret w).getCsr csrTRAPBASE) }) := by
  cases addr with
  | none => exact ⟨s.free + 1, BitVec.ofNat 32 s.draw, rfl, rfl⟩
  | some w => exact ⟨s.free, w, rfl, rfl⟩

/-- What entering the trap handler of core k leaves: the trap's CSRs in its core, and all else. -/
structure TrapEnters (k cause : Nat) (ret : Word) (addr : Option Word) (s u : State) : Prop where
  frame : ∃ m n, u = { s with cores := m, free := n }
  trapped : Trapped k (BitVec.ofNat 32 cause) ret s u
  addr : ∀ w, addr = some w → (u.coreOf k).getCsr csrTRAPADDR = w

theorem coreEnter_enters {k ev cause : Nat} {ret : Word} {addr : Option Word} {s : State} (hs : Rising 0 s.cores)
    (hc : Rising 0 (s.coreOf k).csr) : TrapEnters k cause ret addr s (coreCount k ev 1 (coreEnter k cause ret addr s)) := by
  obtain ⟨n, w, hw, he⟩ := coreEnter_eq k ev cause ret addr s
  have hcsr := CoreSt.getCsr_trapCsrs cause ret w hc
  have hrise := CoreSt.trapCsrs_rising cause ret w hc
  obtain ⟨m, hm⟩ := (s.coreOf k).trapCsrs_frame cause ret w
  rw [he]
  generalize hd : (s.coreOf k).trapCsrs cause ret w = d at hcsr hrise hm
  have hset : Rising 0 (({ s with free := n } : State).setCore k { d with priv := true, pc := wordAligned (d.getCsr csrTRAPBASE) }).cores :=
    State.setCore_rising (s := { s with free := n }) k _ hs
  have hown : (({ s with free := n } : State).setCore k { d with priv := true, pc := wordAligned (d.getCsr csrTRAPBASE) }).coreOf k =
      { d with priv := true, pc := wordAligned (d.getCsr csrTRAPBASE) } := State.coreOf_setCore_same (s := { s with free := n }) k _ hs
  have hmeas := (CoreMeasured.refl hset (by rw [hown]; exact hrise)).count ev 1
  generalize coreCount k ev 1 _ = u at hmeas
  obtain ⟨⟨m', n', hu⟩, -, hcore, hothers⟩ := hmeas
  rw [hown] at hcore
  have hcore' (j : Nat) (hj : j < 64) : (u.coreOf k).getCsr j = d.getCsr j := hcore.csr j hj
  have hstatus (hi lo : Nat) : (u.coreOf k).csrF 0x010 hi lo = fget (trapStatus ((s.coreOf k).getCsr csrSTATUS) (s.coreOf k).priv) hi lo := by
    unfold CoreSt.csrF
    rw [hcore' 0x010 (by decide), hcsr]
    rfl
  refine ⟨⟨m', n', hu⟩, ⟨?_, ?_, ?_, ?_, ?_, ?_, ?_, ?_, ?_, fun j hj => ?_⟩, ?_⟩
  · rw [hcore' 0x021 (by decide), hcsr]; rfl
  · rw [hcore' 0x022 (by decide), hcsr]; rfl
  · rw [hstatus, trapStatus_mode]
  · rw [hstatus, trapStatus_gie]
  · rw [hstatus, trapStatus_intrap]
  · rw [hstatus, trapStatus_innmt]; rfl
  · obtain ⟨⟨_, _, _, hc'⟩, -, -⟩ := hcore
    rw [hc']
  · obtain ⟨⟨_, _, _, hc'⟩, -, -⟩ := hcore
    rw [hc']
    show wordAligned (d.getCsr csrTRAPBASE) = _
    rw [hcsr]
    rfl
  · obtain ⟨⟨_, _, _, hc'⟩, -, -⟩ := hcore
    rw [hc', hm]
  · have hj' : coreIx j.val ≠ coreIx k := by rwa [coreIx_of_lt j.isLt]
    exact (hothers j.val hj').trans (State.coreOf_setCore_ne (s := { s with free := n }) _ hs hj')
  · rintro w' rfl
    rw [hcore' csrTRAPADDR (by decide), hcsr]
    exact hw

/-- A synchronous trap outside a trap and a non-maskable trap enters the handler. -/
theorem coreTrapAt_enters {k cause : Nat} {ret : Word} {addr : Option Word} {s : State} (hs : Rising 0 s.cores)
    (hc : Rising 0 (s.coreOf k).csr) (h6 : (s.coreOf k).csrF csrSTATUS 6 6 = 0) (h7 : k < 16 ∨ (s.coreOf k).csrF csrSTATUS 7 7 = 0) :
    TrapEnters k cause ret addr s (coreTrapAt k cause ret addr s) := by
  have hfault : ((s.coreOf k).csrF csrSTATUS 6 6 == 1 || (coreIx k == 16 && (s.coreOf k).csrF csrSTATUS 7 7 == 1)) = false := by
    rw [h6]
    rcases h7 with hk | h7
    · rw [coreIx_of_lt (by omega), show (k == 16) = false from beq_eq_false_iff_ne.mpr (by omega)]
      rfl
    · rw [h7, show ((0 : Nat) == 1) = false from rfl, Bool.and_false]
      rfl
  unfold coreTrapAt
  dsimp only
  rw [hfault]
  exact coreEnter_enters hs hc

theorem TrapEnters.done {k cause : Nat} {addr : Option Word} {s u : State} (h : TrapEnters k cause (s.coreOf k).pc addr s u) :
    TrapDone k (BitVec.ofNat 32 cause) s u := by
  obtain ⟨⟨m, n, hu⟩, htrap, -⟩ := h
  exact ⟨htrap, by rw [hu], by rw [hu], by rw [hu]⟩

/-! What a stop of a core writes. -/

/-- The registers that a stop writes beside those of the core: SQ.LOCK_STAT, NMT_CAUSE, the semaphores and an event's. -/
def StopKey (j : Nat) : Prop := RaiseKey j ∨ (sqB + 8 ≤ j ∧ j < sqB + 0x28)

theorem not_stopKey_core {i off : Nat} (hi : i < 18) (hlo : 0x100 ≤ off) (hoff : off < 0x110) : ¬ StopKey (coreB i + off) := by
  rintro (h | h)
  · refine not_raiseKey_high ?_ ?_ h
    · simp only [coreB, sqB]; omega
    · simp only [coreB, sqB, objKey]; omega
  · simp only [coreB, sqB] at h; omega

theorem Touches.stopSem {s t : State} (h : Touches StopKey s t) (mid : Nat) : Touches StopKey s (semForceOf mid t) := by
  have hsem {u : State} (hu : Touches StopKey s u) {i : Nat} (hi : i < 2) :
      Touches StopKey s (if u.on (semB i) R.SQ_SEM_HELD && u.rd (semB i) R.SQ_SEM_OWNER == mid then semForce i u else u) := by
    have hkey : StopKey (semB i + 0x20) := .inr (by simp only [semB]; omega)
    have hfree : Touches StopKey s (semFree i u) :=
      ((hu.wr (b := semB i) (f := R.SQ_SEM_HELD) 0 hkey).wr (b := semB i) (f := R.SQ_SEM_OWNER) 0 hkey).trans (.of_regs rfl)
    split
    · unfold semForce
      split
      · exact (hfree.cnt (b := sqB) (f := R.SQ_LOCK_STAT_SEM_FORCED) 1 (.inr (by decide))).raise (by decide) fun _ => .inl
      · exact hu
    · exact hu
  exact hsem (hsem h (by decide)) (by decide)

theorem Touches.stopNmt {s t : State} (h : Touches StopKey s t) : Touches StopKey s (nmtDiscard t) := by
  have hcnt := h.cnt (b := fltB) (f := R.FLT_CNT_OVF_NMT_LOST) (t.nmtQ.length + b2n (t.coreOf 16).nmtHeld.isSome)
    (.inl (.inl (fltKey_window (by decide))))
  exact (hcnt.trans (.of_regs rfl)).wr (b := sqB) (f := R.SQ_NMT_CAUSE_PEND) 0 (.inr (by decide))

/-- A run state is shown in a core's STATUS and in SQ.STATUS.HALTED. -/
def runShown (st : Nat) (s : State) (j : Nat) : State :=
  (s.wr (coreB j) R.SQ_CORE_STATUS_STATE st).setReg (sqB + 4) (fset (s.getReg (sqB + 4)) j j (b2n (decide (3 ≤ st))))

theorem coreGo_eq (k st : Nat) (s : State) : ∃ t : State, t.regs = s.regs ∧
    coreGo k st s = if coreIx k == 16 then runShown st (runShown st t 16) 17 else runShown st t (coreIx k) := by
  refine ⟨_, ?_, rfl⟩
  dsimp only
  split
  · rfl
  · rfl

/-- The registers of the cores, and SQ.STATUS. -/
def CoreKey (j : Nat) : Prop := j = sqB + 4 ∨ (sqB + 0x100 ≤ j ∧ j < sqB + 0x220)

theorem coreKey_of_lt {i off : Nat} (hi : i < 18) (hlo : 0x100 ≤ off) (hoff : off < 0x110) : CoreKey (coreB i + off) := by
  unfold CoreKey coreB
  omega

theorem Touches.runShown {s t : State} (h : Touches CoreKey s t) (st : Nat) {j : Nat} (hj : j < 18) :
    Touches CoreKey s (runShown st t j) :=
  (h.wr (f := R.SQ_CORE_STATUS_STATE) st (coreKey_of_lt hj (by decide) (by decide))).setReg _ (.inl rfl)

theorem getReg_runShown {s : State} {j : Nat} (st : Nat) (hr : Rising 0 s.regs) :
    (runShown st s j).getReg (coreB j + 0x104) = fset (s.getReg (coreB j + 0x104)) 2 0 st := by
  unfold runShown
  rw [State.getReg_setReg_ne _ _ (State.wr_rising _ _ _ _ hr) (by unfold coreB; omega)]
  exact State.getReg_wr_same s _ R.SQ_CORE_STATUS_STATE st hr

theorem getReg_runShown_ne {s : State} {i j : Nat} (st : Nat) (hr : Rising 0 s.regs) (hi : i ≠ sqB + 4) (hij : i ≠ coreB j + 0x104) :
    (runShown st s j).getReg i = s.getReg i := by
  unfold runShown
  rw [State.getReg_setReg_ne _ _ (State.wr_rising _ _ _ _ hr) hi]
  exact State.getReg_wr_ne s st hr hij

theorem coreIx_lt {k : Nat} (hk : k < 18) : coreIx k < 17 := by
  unfold coreIx
  split
  · decide
  next h => rw [beq_iff_eq] at h; omega

/-- A core that takes a run state shows it, and only the registers of the cores change. -/
theorem coreGo_shown {k : Nat} (hk : k < 18) (st : Nat) {s : State} (hr : Rising 0 s.regs) :
    Touches CoreKey s (coreGo k st s) ∧ (coreGo k st s).getReg (coreB (coreIx k) + 0x104) = fset (s.getReg (coreB (coreIx k) + 0x104)) 2 0 st := by
  obtain ⟨t, ht, he⟩ := coreGo_eq k st s
  have hrt : Rising 0 t.regs := ht ▸ hr
  have htouch : Touches CoreKey s t := .of_regs ht
  have hsame (j : Nat) : t.getReg j = s.getReg j := by unfold State.getReg; rw [ht]
  have hix := coreIx_lt hk
  rw [he]
  split
  next h16 =>
    rw [beq_iff_eq] at h16
    have h1 : Touches CoreKey s (runShown st t 16) := htouch.runShown st (by decide)
    refine ⟨h1.runShown st (by decide), ?_⟩
    rw [h16, getReg_runShown_ne (s := runShown st t 16) st (h1 hr).1 (by decide) (by decide), getReg_runShown st hrt, hsame]
  next =>
    refine ⟨htouch.runShown st (by omega), ?_⟩
    rw [getReg_runShown st hrt, hsame]

/-- A core that stops shows its run state and its PC. -/
structure CoreStopped (k st : Nat) (pc : Word) (s t : State) : Prop where
  touches : Touches (fun j => CoreKey j ∨ StopKey j) s t
  status : t.getReg (coreB (coreIx k) + 0x104) = fset (s.getReg (coreB (coreIx k) + 0x104)) 2 0 st
  pc : t.rd (coreB (coreIx k)) R.SQ_CORE_PC_PC = pc.toNat

theorem coreStop_stopped {k : Nat} (hk : k < 18) (st : Nat) {s : State} (hr : Rising 0 s.regs) :
    CoreStopped k st (s.coreOf k).pc s (coreStop k st s) := by
  obtain ⟨hgo, hstatus⟩ := coreGo_shown hk st hr
  have hix := coreIx_lt hk
  have hrg := (hgo hr).1
  generalize hw : (coreGo k st s).wr (coreB (coreIx k)) R.SQ_CORE_PC_PC (s.coreOf k).pc.toNat = w
  have hwr : Touches CoreKey s w := by
    rw [← hw]
    exact hgo.wr (f := R.SQ_CORE_PC_PC) _ (coreKey_of_lt (by omega) (by decide) (by decide))
  have htail : Touches StopKey w (if coreIx k == 16 then nmtDiscard (semForceOf (coreMid k) w) else semForceOf (coreMid k) w) := by
    split
    · exact ((Touches.refl _ _).stopSem _).stopNmt
    · exact (Touches.refl _ _).stopSem _
  have he : coreStop k st s = if coreIx k == 16 then nmtDiscard (semForceOf (coreMid k) w) else semForceOf (coreMid k) w := by
    rw [← hw]
    rfl
  rw [← he] at htail
  have hrw := (hwr hr).1
  refine ⟨(hwr.mono fun _ => .inl).trans (htail.mono fun _ => .inr), ?_, ?_⟩
  · rw [(htail hrw).2 _ (not_stopKey_core (by omega) (by decide) (by decide)), ← hstatus, ← hw]
    exact State.getReg_wr_ne _ _ hrg (by simp only [R.SQ_CORE_PC_PC]; omega)
  · unfold State.rd
    rw [(htail hrw).2 _ (not_stopKey_core (by omega) (by decide) (by decide)), ← hw]
    refine (State.rd_wr_same _ _ R.SQ_CORE_PC_PC _ hrg (by decide)).trans ?_
    exact Nat.mod_eq_of_lt (s.coreOf k).pc.isLt

end Sys2Proof.Machine
end

section
/-! Traps, interrupts and returns of the cores (R371 to R374). -/

namespace Sys2Proof.Machine

/-- An instruction that changes its core alone completes with the core as it changes it, and all else as before. -/
theorem coreFinish_own {k : Nat} {s : State} {evs : List Nat} {addr : Word} {f : State → State} {φ : CoreSt → CoreSt} (hI : Inv s)
    (h1 : s.coreState k = 1) (hf : ∀ r : State, Rising 0 r.cores → f r = r.setCore k (φ (r.coreOf k))) :
    ∃ d, CoreCounted (s.coreOf k) d ∧ CoreEnds k (φ d) s (coreFinish k evs addr f s) ∧ Quiet k s (coreFinish k evs addr f s) := by
  have hret := coreRetire_retiring hI.cores_rising (hI.coreOf_formed k).csr evs addr
  obtain ⟨m, n, w, hr⟩ := hret.frame
  have hmem : ({ coreRetire k evs addr s with mem := s.mem } : State) = coreRetire k evs addr s := by rw [hr]
  have hu : f (coreRetire k evs addr s) =
      ({ coreRetire k evs addr s with mem := s.mem } : State).setCore k (φ ((coreRetire k evs addr s).coreOf k)) := by
    rw [hmem]
    exact hf _ hret.rising
  obtain ⟨hends, hm⟩ := coreFinish_ends hI.cores_rising (hI.coreOf_formed k).csr hu
  exact ⟨_, hret.core, hends, hm, fun hinj => (coreFinish_quiet hI h1 hinj hu).2⟩

section
variable {k : CoreId} {i : Instr} {s : State} {f : State → State}

/-- An instruction that traps, outside a trap, enters its handler. -/
theorem trap_done {cause : Nat} {addr : Option Word} (hI : Inv s) (h : Issues k.val s)
    (h6 : (s.coreOf k.val).csrF csrSTATUS 6 6 = 0) (h7 : k.val < 16 ∨ (s.coreOf k.val).csrF csrSTATUS 7 7 = 0)
    (hrun : exec i s = run (coreRun k.val f) s) (hf : f s.fresh = coreTrap k.val cause addr s.fresh) :
    ∃ u, exec i s = .next (closed s.pending u) ∧ TrapDone k.val (BitVec.ofNat 32 cause) s u := by
  refine ⟨_, h.exec hrun, ?_⟩
  rw [hf]
  exact (coreTrapAt_enters (s := s.fresh) hI.cores_rising (hI.coreOf_formed k.val).csr h6 h7).done

end

/-! Accesses of a core that trap. -/

/-- Below 0x10000 a core's address names its instruction memory. -/
theorem coreView_imem (k a : Nat) : (coreView k a).any (fun x => x.1 == 0) = decide (a < 0x10000) := by
  unfold coreView
  by_cases h : a < 0x10000
  · simp [h]
  · simp only [h, if_false, decide_false]
    split
    · rfl
    · split
      · rfl
      · split <;> rfl

theorem coreView_nowhere {k x : Nat} (hlo : 0x20000 ≤ x) (hhi : x < 0x400000) : coreView k x = none := by
  unfold coreView
  rw [if_neg (by omega), if_neg (by omega), if_neg (by omega), if_neg (by omega)]

section
variable {k size rd ra : Nat} {imm : BitVec 16} {s : State} {a : Word} (ha : (s.coreOf k).gr ra + imm.signExtend 32 = a)

include ha

theorem isaLoad_imem (signed : Bool) (hm : a.toNat < 0x10000) (hp : (s.coreOf k).priv = false) :
    isaLoad k size signed rd ra imm s = coreTrap k 2 (some a) s := by
  subst ha
  unfold isaLoad immS
  dsimp only
  rw [coreView_imem, hp, decide_eq_true hm]
  rfl

theorem isaStore_imem (hm : a.toNat < 0x10000) (hp : (s.coreOf k).priv = false) :
    isaStore k size rd ra imm s = coreTrap k 2 (some a) s := by
  subst ha
  unfold isaStore immS
  dsimp only
  rw [coreView_imem, hp, decide_eq_true hm]
  rfl

omit ha in
/-- The instruction memory is open to P mode. -/
theorem imem_open {x : Nat} {p : Bool} (hp : p = true ∨ 0x10000 ≤ x) : (!p && (coreView k x).any (fun x => x.1 == 0)) = false := by
  rw [coreView_imem]
  rcases hp with rfl | hx
  · rfl
  · rw [decide_eq_false (Nat.not_lt.mpr hx), Bool.and_false]

variable (hp : (s.coreOf k).priv = true ∨ 0x10000 ≤ a.toNat)

include hp

theorem isaLoad_misaligned (signed : Bool) (hal : a.toNat % size ≠ 0) : isaLoad k size signed rd ra imm s = coreTrap k 3 (some a) s := by
  subst ha
  unfold isaLoad immS
  dsimp only
  rw [imem_open hp, bne_iff_ne.mpr hal]
  rfl

theorem isaStore_misaligned (hal : a.toNat % size ≠ 0) : isaStore k size rd ra imm s = coreTrap k 3 (some a) s := by
  subst ha
  unfold isaStore immS
  dsimp only
  rw [imem_open hp, bne_iff_ne.mpr hal]
  rfl

theorem isaStore_nowhere (hal : a.toNat % size = 0) (hv : coreView k a.toNat = none) :
    isaStore k size rd ra imm s = coreTrap k 4 (some a) s := by
  subst ha
  unfold isaStore immS
  dsimp only
  rw [imem_open hp, hal, hv]
  rfl

end

/-! The CSR instructions that trap. -/

theorem isaCsr_unknown {k op rd ra n : Nat} {s : State} (h : csrKnown n = false) : isaCsr k op rd ra n s = coreTrap k 1 none s := by
  unfold isaCsr csrTrap
  dsimp only
  rw [h]
  rfl

/-- Below 0x40 no CSR is open to A mode. -/
theorem csrA_low {n : Nat} (perm : Word) (hn : n < 0x40) : csrReadA n perm = false ∧ csrWriteA n perm = false := by
  simp only [csrReadA, csrWriteA, csrCOREID, csrCYCLELO, csrCYCLEHI, csrSAMPLESTAT, csrSAMPLERD, beq_iff_eq, Bool.or_eq_true]
  constructor
  · rw [if_neg (by omega), if_neg (by omega), if_neg (by omega), if_neg (by omega)]
  · rw [if_neg (by omega), if_neg (by omega), if_neg (by omega), if_neg (by omega)]

theorem isaCsr_forbidden {k op rd ra n : Nat} {s : State} (hn : n < 0x40) (h : csrKnown n = true) (hp : (s.coreOf k).priv = false)
    (hop : op = 0 ∨ op = 1) : isaCsr k op rd ra n s = coreTrap k 2 none s := by
  obtain ⟨hr, hw⟩ := csrA_low ((s.coreOf k).getCsr csrPERM) hn
  unfold isaCsr csrTrap
  dsimp only
  rw [h, hp, hr, hw]
  obtain rfl | rfl := hop <;> rfl

/-! A trap inside a trap. -/

/-- The events of SQ are never clamped. -/
theorem evDom_sq {id : Nat} (hlo : 0x440 ≤ id) : evDom id = none := by
  unfold evDom
  iterate 4 rw [if_neg (by omega)]
  exact if_neg (by omega)

theorem State.evClamped_of_evDom {s : State} {id : Nat} (h : evDom id = none) : s.evClamped id = false := by
  simp [State.evClamped, h]

/-- The event of a core that faults. -/
theorem faultEvent {k : Nat} (hk : k < 18) : (if coreIx k == 16 then 0x470 else 1104 + 2 * k) = if k < 16 then 1104 + 2 * k else 0x470 := by
  unfold coreIx
  by_cases h : k < 16
  · rw [if_pos h, if_neg]
    simp only [beq_iff_eq]
    split <;> omega
  · rw [if_neg h, if_pos]
    simp only [beq_iff_eq]
    split <;> omega

/-- A fault of a core notes its cause. -/
def faultNoted (k cause : Nat) (s : State) : State :=
  let s := s.wr (coreB (coreIx k)) R.SQ_CORE_STATUS_LAST_CAUSE cause
  if coreIx k == 16 then s.wr (coreB 17) R.SQ_CORE_STATUS_LAST_CAUSE cause else s

theorem faultNoted_core (k cause j : Nat) (s : State) : (faultNoted k cause s).coreOf j = s.coreOf j := by
  unfold faultNoted
  dsimp only
  split <;> rfl

theorem faultNoted_kept {k j cause : Nat} {s : State} (hs : Rising 0 s.cores) : CoreKept j s (faultNoted k cause s) := by
  have h := (CoreKept.refl (k := j) hs).wr (coreB (coreIx k)) R.SQ_CORE_STATUS_LAST_CAUSE cause
  unfold faultNoted
  dsimp only
  split
  · exact h.wr _ _ _
  · exact h

theorem faultNoted_shown {k : Nat} (hk : k < 18) (cause : Nat) {s : State} (hr : Rising 0 s.regs) : Rising 0 (faultNoted k cause s).regs ∧
    (faultNoted k cause s).getReg (coreB (coreIx k) + 0x104) = fset (s.getReg (coreB (coreIx k) + 0x104)) 19 16 cause := by
  have hwr := State.wr_rising s (coreB (coreIx k)) R.SQ_CORE_STATUS_LAST_CAUSE cause hr
  have hix := coreIx_lt hk
  unfold faultNoted
  dsimp only
  split
  · refine ⟨State.wr_rising _ _ _ _ hwr, ?_⟩
    rw [State.getReg_wr_ne _ _ hwr (by simp only [coreB, R.SQ_CORE_STATUS_LAST_CAUSE]; omega)]
    exact State.getReg_wr_same s _ R.SQ_CORE_STATUS_LAST_CAUSE cause hr
  · exact ⟨hwr, State.getReg_wr_same s _ R.SQ_CORE_STATUS_LAST_CAUSE cause hr⟩

/-- A core that faults stops in FAULT and shows the cause and its PC (R372). -/
theorem coreFault_shown {k : Nat} (hk : k < 18) {cause : Nat} (hcause : cause < 16) {s : State} (hr : Rising 0 s.regs) (hs : Rising 0 s.cores)
    {u : State} (hu : u = coreFault k cause s) :
    u.coreState k = 4 ∧ u.rd (coreB (coreIx k)) R.SQ_CORE_PC_PC = (s.coreOf k).pc.toNat ∧
      u.rd (coreB (coreIx k)) R.SQ_CORE_STATUS_LAST_CAUSE = cause ∧ Sends (if k < 16 then 1104 + 2 * k else 0x470) u ∧ u.mem = s.mem := by
  obtain ⟨hrn, hnoted⟩ := faultNoted_shown hk cause hr
  have hcore := faultNoted_core k cause k s
  have hstop := coreStop_stopped hk 4 hrn
  have hkept := (faultNoted_kept (k := k) (j := k) (cause := cause) hs).stop 4
  have he : u = (coreStop k 4 (faultNoted k cause s)).raise (if k < 16 then 1104 + 2 * k else 0x470) := by
    rw [hu, ← faultEvent hk]
    rfl
  have hid : (if k < 16 then 1104 + 2 * k else 0x470) < 1152 := by split <;> omega
  have hlo : 0x440 ≤ (if k < 16 then 1104 + 2 * k else 0x470) := by split <;> omega
  obtain ⟨htouch, hstatus, hpc⟩ := hstop
  have hrs := (htouch hrn).1
  have hkey (off : Nat) (ho : 0x100 ≤ off) (ho' : off < 0x110) : u.getReg (coreB (coreIx k) + off) =
      (coreStop k 4 (faultNoted k cause s)).getReg (coreB (coreIx k) + off) := by
    rw [he]
    exact State.raise_getReg hrs hid fun h => not_stopKey_core (coreIx_lt hk |>.trans (by decide)) ho ho' (.inl h)
  have hreg : u.getReg (coreB (coreIx k) + 0x104) = fset (fset (s.getReg (coreB (coreIx k) + 0x104)) 19 16 cause) 2 0 4 := by
    rw [hkey 0x104 (by decide) (by decide), hstatus, hnoted]
  refine ⟨?_, ?_, ?_, ?_, ?_⟩
  · unfold State.coreState State.rd
    show fget (u.getReg (coreB (coreIx k) + 0x104)) 2 0 = 4
    rw [hreg, fget_fset_same _ _ _ (by decide)]
    rfl
  · rw [← hcore, ← hpc]
    unfold State.rd
    exact congrArg (fun w => fget w 31 0) (hkey 0x108 (by decide) (by decide))
  · show fget (u.getReg (coreB (coreIx k) + 0x104)) 19 16 = cause
    rw [hreg, fget_fset_beside _ _ _ _ _ _ (.inl (by decide)), fget_fset_same _ _ _ (by decide)]
    exact Nat.mod_eq_of_lt hcause
  · rw [he]
    exact State.raise_sends (State.evClamped_of_evDom (evDom_sq hlo))
  · rw [he]
    exact (hkept.raise _).mem

/-! Interrupts and the non-maskable trap. -/

/-- The lowest line that is pending and enabled is the first of them. -/
theorem coreLine_eq {k i : Nat} {s : State} (hi : i < 14)
    (hset : ((s.coreOf k).pend &&& (s.coreOf k).getCsr csrINTEN).getLsbD i = true)
    (hlow : ∀ j < i, ((s.coreOf k).pend &&& (s.coreOf k).getCsr csrINTEN).getLsbD j = false) : coreLine k s = some i := by
  unfold coreLine
  dsimp only
  rw [List.find?_range_eq_some]
  exact ⟨hset, List.mem_range.mpr hi, fun j hj => by rw [hlow j hj]; rfl⟩

theorem coreInterrupt_taken {k i : Nat} {s : State} (hcan : coreCan 1 k s = true) (hgie : (s.coreOf k).csrF csrSTATUS 0 0 = 1)
    (hline : coreLine k s = some i) : coreInterrupt k s = coreCount k 0x0D 1 (coreEnter k (0x80 + i) (s.coreOf k).pc none s) := by
  unfold coreInterrupt
  rw [hcan, hgie, hline]
  rfl

/-- The pair as it takes a non-maskable trap for a request. -/
def CoreSt.nmtEntered (c : CoreSt) (r : Nat × Nat × Nat) : CoreSt :=
  let d := ((c.setCsr csrNTRAPPC c.pc).setCsr csrNTRAPCAUSE (BitVec.ofNat 32 (r.1 % 2048 + r.2.1 * 4096))).setCsr
    csrNTRAPINFO (BitVec.ofNat 32 r.2.2)
  let d := d.setCsrF csrSTATUS 7 7 1
  { d with nmtMode := d.priv, priv := true, pc := wordAligned (d.getCsr csrNTRAPBASE), nmtHeld := none }

theorem nmtTake_eq {s : State} {r : Nat × Nat × Nat} {q : List (Nat × Nat × Nat)} (hcan : coreCan 1 16 s = true)
    (h7 : (s.coreOf 16).csrF csrSTATUS 7 7 = 0) (hheld : (s.coreOf 16).nmtHeld = none) (hq : s.nmtQ = r :: q) :
    nmtTake s = coreCount 16 0x0E 1 ((((({ s with nmtQ := q } : State).setCore 16 ((s.coreOf 16).nmtEntered r)).wr sqB R.SQ_NMT_CAUSE_SRC r.1).wr
      sqB R.SQ_NMT_CAUSE_CLASS r.2.1).wr sqB R.SQ_NMT_CAUSE_PEND 0) := by
  unfold nmtTake
  dsimp only
  rw [hcan, h7, hheld, hq]
  rfl

theorem CoreSt.getCsr_nmtEntered {c : CoreSt} (r : Nat × Nat × Nat) (h : Rising 0 c.csr) : Rising 0 (c.nmtEntered r).csr ∧
    ∀ j, (c.nmtEntered r).getCsr j = if j = csrSTATUS then fset (c.getCsr csrSTATUS) 7 7 1
      else if j = csrNTRAPINFO then BitVec.ofNat 32 r.2.2 else if j = csrNTRAPCAUSE then BitVec.ofNat 32 (r.1 % 2048 + r.2.1 * 4096)
      else if j = csrNTRAPPC then c.pc else c.getCsr j := by
  have h1 := CoreSt.setCsr_rising csrNTRAPPC c.pc h
  have h2 := CoreSt.setCsr_rising csrNTRAPCAUSE (BitVec.ofNat 32 (r.1 % 2048 + r.2.1 * 4096)) h1
  have h3 := CoreSt.setCsr_rising csrNTRAPINFO (BitVec.ofNat 32 r.2.2) h2
  refine ⟨CoreSt.setCsr_rising csrSTATUS _ h3, fun j => ?_⟩
  refine (CoreSt.getCsr_setCsr csrSTATUS j _ h3).trans ?_
  rw [CoreSt.getCsr_setCsr _ j _ h2, CoreSt.getCsr_setCsr _ j _ h1, CoreSt.getCsr_setCsr _ j _ h,
    CoreSt.getCsr_setCsr_ne _ h2 (by decide), CoreSt.getCsr_setCsr_ne _ h1 (by decide), CoreSt.getCsr_setCsr_ne _ h (by decide)]

theorem nmtEntered_done {s : State} {r : Nat × Nat × Nat} {q : List (Nat × Nat × Nat)} (hs : Rising 0 s.cores)
    (hc : Rising 0 (s.coreOf 16).csr) {u : State}
    (hu : u = coreCount 16 0x0E 1 ((((({ s with nmtQ := q } : State).setCore 16 ((s.coreOf 16).nmtEntered r)).wr sqB R.SQ_NMT_CAUSE_SRC r.1).wr
      sqB R.SQ_NMT_CAUSE_CLASS r.2.1).wr sqB R.SQ_NMT_CAUSE_PEND 0)) :
    (u.coreOf 16).getCsr 0x031 = (s.coreOf 16).pc ∧ (u.coreOf 16).getCsr 0x032 = BitVec.ofNat 32 (r.1 % 2048 + r.2.1 * 4096) ∧
      (u.coreOf 16).getCsr 0x033 = BitVec.ofNat 32 r.2.2 ∧ (u.coreOf 16).csrF 0x010 7 7 = 1 ∧
      (u.coreOf 16).csrF 0x010 6 0 = (s.coreOf 16).csrF 0x010 6 0 ∧ (u.coreOf 16).nmtMode = (s.coreOf 16).priv ∧
      (u.coreOf 16).priv = true ∧ (u.coreOf 16).pc = (s.coreOf 16).getCsr 0x030 &&& 0xFFFFFFFC ∧ (u.coreOf 16).g = (s.coreOf 16).g ∧
      u.nmtQ = q ∧ u.mem = s.mem := by
  obtain ⟨hrise, hcsr⟩ := CoreSt.getCsr_nmtEntered r hc
  have hset := State.setCore_rising (s := { s with nmtQ := q }) 16 ((s.coreOf 16).nmtEntered r) hs
  have hown := State.coreOf_setCore_same (s := { s with nmtQ := q }) 16 ((s.coreOf 16).nmtEntered r) hs
  generalize hw : ((({ s with nmtQ := q } : State).setCore 16 ((s.coreOf 16).nmtEntered r)).wr sqB R.SQ_NMT_CAUSE_SRC r.1).wr
    sqB R.SQ_NMT_CAUSE_CLASS r.2.1 = w at hu
  have hown' : (w.wr sqB R.SQ_NMT_CAUSE_PEND 0).coreOf 16 = (s.coreOf 16).nmtEntered r := by rw [← hw]; exact hown
  have hset' : Rising 0 (w.wr sqB R.SQ_NMT_CAUSE_PEND 0).cores := by rw [← hw]; exact hset
  obtain ⟨⟨m, n, hm⟩, -, hcore, -⟩ := (CoreMeasured.refl (k := 16) hset' (by rw [hown']; exact hrise)).count 0x0E 1
  rw [← hu] at hm hcore
  rw [hown'] at hcore
  have hget (j : Nat) (hj : j < 64) := (hcore.csr j hj).trans (hcsr j)
  obtain ⟨⟨_, _, _, hd⟩, -, -⟩ := hcore
  refine ⟨hget 0x031 (by decide), hget 0x032 (by decide), hget 0x033 (by decide), ?_, ?_, ?_, ?_, ?_, ?_, ?_, ?_⟩
  · unfold CoreSt.csrF
    rw [hget 0x010 (by decide)]
    exact fget_fset_same _ _ _ (by decide)
  · unfold CoreSt.csrF
    rw [hget 0x010 (by decide)]
    exact fget_fset_beside _ _ _ _ _ _ (.inr (by decide))
  · rw [hd]; rfl
  · rw [hd]; rfl
  · rw [hd]
    exact congrArg (fun w : Word => w &&& 0xFFFFFFFC) ((hcsr csrNTRAPBASE).trans rfl)
  · rw [hd]; rfl
  · rw [hm, ← hw]; rfl
  · rw [hm, ← hw]; rfl

/-- A core that returns from a trap. -/
def CoreSt.tretDone (c : CoreSt) : CoreSt :=
  { (c.setCsrF csrSTATUS 0 0 1).setCsrF csrSTATUS 6 6 0 with priv := c.csrF csrSTATUS 1 1 == 1, pc := wordAligned (c.getCsr csrTRAPPC) }

/-- A core that returns from a non-maskable trap. -/
def CoreSt.nretDone (c : CoreSt) : CoreSt :=
  { c.setCsrF csrSTATUS 7 7 0 with priv := c.nmtMode, pc := wordAligned (c.getCsr csrNTRAPPC) }

theorem CoreSt.tretDone_status {c : CoreSt} (h : Rising 0 c.csr) (hi lo : Nat) :
    c.tretDone.csrF csrSTATUS hi lo = fget (fset (fset (c.getCsr csrSTATUS) 0 0 1) 6 6 0) hi lo := by
  have h1 := CoreSt.setCsr_rising csrSTATUS (fset (c.getCsr csrSTATUS) 0 0 1) h
  refine congrArg (fun w => fget w hi lo) ((CoreSt.getCsr_setCsr_same csrSTATUS _ h1).trans ?_)
  exact congrArg (fun w => fset w 6 6 0) (CoreSt.getCsr_setCsr_same csrSTATUS _ h)

theorem CoreSt.nretDone_status {c : CoreSt} (h : Rising 0 c.csr) (hi lo : Nat) :
    c.nretDone.csrF csrSTATUS hi lo = fget (fset (c.getCsr csrSTATUS) 7 7 0) hi lo :=
  congrArg (fun w => fget w hi lo) (CoreSt.getCsr_setCsr_same csrSTATUS _ h)

theorem tret_done {k : Nat} {s u : State} (hI : Inv s) (h1 : s.coreState k = 1) (hu : u = isaTret k s) :
    (u.coreOf k).pc = (s.coreOf k).getCsr 0x021 &&& 0xFFFFFFFC ∧ (u.coreOf k).priv = ((s.coreOf k).csrF 0x010 1 1 == 1) ∧
      (u.coreOf k).csrF 0x010 0 0 = 1 ∧ (u.coreOf k).csrF 0x010 6 6 = 0 ∧ (u.coreOf k).csrF 0x010 7 7 = (s.coreOf k).csrF 0x010 7 7 ∧
      (u.coreOf k).csrF 0x010 1 1 = (s.coreOf k).csrF 0x010 1 1 ∧ (u.coreOf k).g = (s.coreOf k).g ∧ Quiet k s u := by
  obtain ⟨d, hd, ⟨⟨a, b, hcore⟩, -⟩, hquiet⟩ := coreFinish_own (k := k) (φ := CoreSt.tretDone) (evs := []) (addr := 0)
    (f := fun t => t.setCore k (t.coreOf k).tretDone) hI h1 fun _ _ => rfl
  have he : u = coreFinish k [] 0 (fun t => t.setCore k (t.coreOf k).tretDone) s := hu
  rw [← he] at hcore hquiet
  have hpc : (u.coreOf k).pc = wordAligned (d.getCsr csrTRAPPC) := by rw [hcore]; rfl
  have hpriv : (u.coreOf k).priv = (d.csrF csrSTATUS 1 1 == 1) := by rw [hcore]; rfl
  have hstatus (hi lo : Nat) : (u.coreOf k).csrF 0x010 hi lo = fget (fset (fset (d.getCsr csrSTATUS) 0 0 1) 6 6 0) hi lo := by
    rw [hcore]
    exact CoreSt.tretDone_status hd.rising hi lo
  have hg : (u.coreOf k).g = d.g := by rw [hcore]; rfl
  have hold (hi lo : Nat) : fget (d.getCsr csrSTATUS) hi lo = (s.coreOf k).csrF 0x010 hi lo := hd.csrF (by decide) hi lo
  refine ⟨?_, ?_, ?_, ?_, ?_, ?_, ?_, hquiet⟩
  · rw [hpc, hd.csr _ (by decide)]; rfl
  · rw [hpriv, hd.csrF (by decide)]; rfl
  · rw [hstatus, fget_fset_beside _ _ _ _ _ _ (.inr (by decide)), fget_fset_same _ _ _ (by decide)]; rfl
  · rw [hstatus, fget_fset_same _ _ _ (by decide)]; rfl
  · rw [hstatus, fget_fset_beside _ _ _ _ _ _ (.inl (by decide)), fget_fset_beside _ _ _ _ _ _ (.inl (by decide)), hold]
  · rw [hstatus, fget_fset_beside _ _ _ _ _ _ (.inr (by decide)), fget_fset_beside _ _ _ _ _ _ (.inl (by decide)), hold]
  · rw [hg]
    obtain ⟨⟨_, _, _, rfl⟩, -, -⟩ := hd
    rfl

theorem nret_done {k : Nat} {s u : State} (hI : Inv s) (h1 : s.coreState k = 1) (hu : u = isaNret k s) :
    (u.coreOf k).pc = (s.coreOf k).getCsr 0x031 &&& 0xFFFFFFFC ∧ (u.coreOf k).priv = (s.coreOf k).nmtMode ∧
      (u.coreOf k).csrF 0x010 7 7 = 0 ∧ (u.coreOf k).csrF 0x010 6 0 = (s.coreOf k).csrF 0x010 6 0 ∧ (u.coreOf k).g = (s.coreOf k).g ∧
      Quiet k s u := by
  obtain ⟨d, hd, ⟨⟨a, b, hcore⟩, -⟩, hquiet⟩ := coreFinish_own (k := k) (φ := CoreSt.nretDone) (evs := []) (addr := 0)
    (f := fun t => t.setCore k (t.coreOf k).nretDone) hI h1 fun _ _ => rfl
  have he : u = coreFinish k [] 0 (fun t => t.setCore k (t.coreOf k).nretDone) s := hu
  rw [← he] at hcore hquiet
  have hpc : (u.coreOf k).pc = wordAligned (d.getCsr csrNTRAPPC) := by rw [hcore]; rfl
  have hstatus (hi lo : Nat) : (u.coreOf k).csrF 0x010 hi lo = fget (fset (d.getCsr csrSTATUS) 7 7 0) hi lo := by
    rw [hcore]
    exact CoreSt.nretDone_status hd.rising hi lo
  have hrest : (u.coreOf k).priv = d.nmtMode ∧ (u.coreOf k).g = d.g := by rw [hcore]; exact ⟨rfl, rfl⟩
  have hold (hi lo : Nat) : fget (d.getCsr csrSTATUS) hi lo = (s.coreOf k).csrF 0x010 hi lo := hd.csrF (by decide) hi lo
  refine ⟨?_, ?_, ?_, ?_, ?_, hquiet⟩
  · rw [hpc, hd.csr _ (by decide)]; rfl
  · rw [hrest.1]
    obtain ⟨⟨_, _, _, rfl⟩, -, -⟩ := hd
    rfl
  · rw [hstatus, fget_fset_same _ _ _ (by decide)]; rfl
  · rw [hstatus, fget_fset_beside _ _ _ _ _ _ (.inr (by decide)), hold]
  · rw [hrest.2]
    obtain ⟨⟨_, _, _, rfl⟩, -, -⟩ := hd
    rfl

/-- Settles O41: traps, interrupts and the non-maskable trap by what entering a handler leaves, returns by the rule of an
instruction that retires. -/
theorem coreTraps : Obligations.CoreTraps := by
  unfold Obligations.CoreTraps
  refine ⟨fun k rd ra imm csr s hI h h6 h7 => ?_, fun k s hI h h6 => ?_, fun k s hI h => ?_, fun k i s hI hcan hgie hset hlow => ?_,
    fun s r q hI hcan h7 hheld hq => ?_⟩
  · intro c a
    have ha : (s.fresh.coreOf k.val).gr ra.val + imm.signExtend 32 = (s.coreOf k.val).gr ra.val + imm.signExtend 32 := rfl
    refine ⟨?_, trap_done hI h h6 h7 rfl rfl, fun hal hp => ⟨?_, ?_⟩, fun hal hlo hhi => ?_, fun hm hp => ⟨?_, ?_⟩, fun hn => ?_, fun hn hk hp => ?_⟩
    · have hscall := trap_done (cause := if c.priv then 8 else 7) hI h h6 h7 (i := .scall k) rfl rfl
      rw [show (if c.priv = true then (8 : Word) else 7) = BitVec.ofNat 32 (if c.priv then 8 else 7) by split <;> rfl]
      exact hscall
    · exact trap_done hI h h6 h7 rfl (isaLoad_misaligned ha hp.symm true hal)
    · exact trap_done hI h h6 h7 rfl (isaStore_misaligned ha hp.symm hal)
    · refine trap_done hI h h6 h7 rfl (isaStore_nowhere ha (.inr ?_) hal ?_)
      · exact Nat.le_trans (by decide) hlo
      · exact coreView_nowhere hlo hhi
    · exact trap_done hI h h6 h7 rfl (isaLoad_imem ha true hm hp)
    · exact trap_done hI h h6 h7 rfl (isaStore_imem ha hm hp)
    · exact ⟨trap_done hI h h6 h7 rfl (isaCsr_unknown hn), trap_done hI h h6 h7 rfl (isaCsr_unknown hn),
        trap_done hI h h6 h7 rfl (isaCsr_unknown hn), trap_done hI h h6 h7 rfl (isaCsr_unknown hn)⟩
    · exact ⟨trap_done hI h h6 h7 rfl (isaCsr_forbidden hn hk hp (.inl rfl)), trap_done hI h h6 h7 rfl (isaCsr_forbidden hn hk hp (.inr rfl))⟩
  · refine ⟨_, h.exec rfl, coreFault_shown (s := s.fresh) k.isLt (by decide) hI.regs_rising hI.cores_rising ?_⟩
    have h6' : (s.fresh.coreOf k.val).csrF csrSTATUS 6 6 = 1 := h6
    unfold isaBreak coreTrap coreTrapAt
    dsimp only
    rw [h6']
    rfl
  · exact ⟨⟨_, h.exec rfl, tret_done (s := s.fresh) hI h.coreState rfl⟩, ⟨_, h.exec rfl, nret_done (s := s.fresh) hI h.coreState rfl⟩⟩
  · have hline := coreLine_eq i.isLt hset fun j hj => hlow ⟨j, by omega⟩ hj
    refine ⟨_, exec_closed rfl (coreInterrupt_taken (s := s.fresh) hcan hgie hline), ?_⟩
    exact (coreEnter_enters (s := s.fresh) hI.cores_rising (hI.coreOf_formed k.val).csr).done
  · exact ⟨_, exec_closed rfl (nmtTake_eq (s := s.fresh) hcan h7 hheld hq), nmtEntered_done (s := s.fresh) hI.cores_rising
      (hI.coreOf_formed 16).csr rfl⟩

end Sys2Proof.Machine
end

section
/-! Loads, stores and AMOs of the cores on their memories (R358 to R361, R366). -/

namespace Sys2Proof.Machine

/-! Bytes of memory. -/

/-- Store the low n bytes of a word, the lowest first. -/
def State.setBytes (s : State) (h : Nat) (w : Word) : Nat → State
  | 0 => s
  | n + 1 => (s.setBytes h w n).setByte (h + n) (BitVec.ofNat 8 (w.toNat / 256 ^ n))

theorem State.setBytes_wf (s : State) (h : Nat) (w : Word) (n : Nat) (hm : Memory.wf s.mem = true) :
    Memory.wf (s.setBytes h w n).mem = true := by
  induction n with
  | zero => exact hm
  | succ n ih => exact State.setByte_wf _ _ _ ih

theorem State.setBytes_frame (s : State) (h : Nat) (w : Word) (n : Nat) : ∃ m, s.setBytes h w n = { s with mem := m } := by
  induction n with
  | zero => exact ⟨s.mem, rfl⟩
  | succ n ih =>
    obtain ⟨m, hm⟩ := ih
    rw [State.setBytes, hm]
    exact ⟨_, rfl⟩

theorem State.byte_setBytes (s : State) (h : Nat) (w : Word) (n x : Nat) (hm : Memory.wf s.mem = true) :
    (s.setBytes h w n).byte x = if h ≤ x ∧ x < h + n then BitVec.ofNat 8 (w.toNat / 256 ^ (x - h)) else s.byte x := by
  induction n with
  | zero => rw [if_neg (by omega)]; rfl
  | succ n ih =>
    rw [State.setBytes]
    by_cases hx : x = h + n
    · rw [hx, State.byte_setByte_same _ _ _ (s.setBytes_wf h w n hm), if_pos (by omega), show h + n - h = n by omega]
    · rw [State.byte_setByte_ne _ _ (s.setBytes_wf h w n hm) hx, ih]
      by_cases hin : h ≤ x ∧ x < h + n
      · rw [if_pos hin, if_pos (by omega)]
      · rw [if_neg hin, if_neg (by omega)]

theorem State.setWord_eq_setBytes (s : State) (h : Nat) (w : Word) : s.setWord h w = s.setBytes h w 4 := by
  simp [State.setWord, State.setBytes]

/-- A word's bytes, the lowest at the address. -/
theorem State.word_eq_append (s : State) (a : Nat) : s.word a = s.byte (a + 3) ++ s.byte (a + 2) ++ s.byte (a + 1) ++ s.byte a := by
  refine BitVec.eq_of_toNat_eq ?_
  have hb (j : Nat) : (s.byte j).toNat < 256 := (s.byte j).isLt
  have h0 := hb a
  have h1 := hb (a + 1)
  have h2 := hb (a + 2)
  have h3 := hb (a + 3)
  rw [State.word, BitVec.toNat_ofNat, BitVec.toNat_append, BitVec.toNat_append, BitVec.toNat_append,
    ← Nat.shiftLeft_add_eq_or_of_lt h0, ← Nat.shiftLeft_add_eq_or_of_lt h1, ← Nat.shiftLeft_add_eq_or_of_lt h2]
  simp only [Nat.shiftLeft_eq]
  omega

/-! A core's stores. -/

/-- A store of 1, 2 or 4 bytes, released by the pair: S0's to its own memories is S1's too. -/
theorem memStore_eq {k size : Nat} (h : Nat) (w : Word) {s : State} (hsize : size = 1 ∨ size = 2 ∨ size = 4) (hrel : unreleased k s = false) :
    memStore k size h w s = if coreIx k == 16 && decide (h < sharedB) then (s.setBytes h w size).setBytes (h + 0x20000) w size
      else s.setBytes h w size := by
  unfold memStore
  rw [hrel]
  obtain rfl | rfl | rfl := hsize
  · simp [State.setBytes]
  · simp [State.setBytes]
  · simp [State.setWord_eq_setBytes]

theorem memStore_frame {k size : Nat} (h : Nat) (w : Word) {s : State} (hsize : size = 1 ∨ size = 2 ∨ size = 4)
    (hrel : unreleased k s = false) : ∃ m, memStore k size h w s = { s with mem := m } := by
  rw [memStore_eq h w hsize hrel]
  obtain ⟨m, hm⟩ := s.setBytes_frame h w size
  split
  · rw [hm]
    obtain ⟨m', hm'⟩ := ({ s with mem := m } : State).setBytes_frame (h + 0x20000) w size
    exact ⟨m', hm'⟩
  · exact ⟨m, hm⟩

theorem coreIx_eq_sixteen {k : Nat} (hk : k < 18) : coreIx k = 16 ↔ 16 ≤ k := by
  unfold coreIx
  split
  next h => rw [beq_iff_eq] at h; omega
  next h => rw [beq_iff_eq] at h; omega

/-- The bytes after a store. -/
theorem byte_memStore {k size : Nat} (hk : k < 18) (h : Nat) (w : Word) (x : Nat) {s : State} (hsize : size = 1 ∨ size = 2 ∨ size = 4)
    (hrel : unreleased k s = false) (hm : Memory.wf s.mem = true) : (memStore k size h w s).byte x =
      if h ≤ x ∧ x < h + size then BitVec.ofNat 8 (w.toNat / 256 ^ (x - h))
      else if 16 ≤ k ∧ h < 0x00C00000 ∧ h + 0x20000 ≤ x ∧ x < h + 0x20000 + size then BitVec.ofNat 8 (w.toNat / 256 ^ (x - h - 0x20000))
      else s.byte x := by
  have h4 : size ≤ 4 := by omega
  have hpair : (coreIx k == 16 && decide (h < sharedB)) = true ↔ 16 ≤ k ∧ h < 0x00C00000 := by
    rw [Bool.and_eq_true, beq_iff_eq, decide_eq_true_iff, coreIx_eq_sixteen hk]
    exact Iff.rfl
  have hsub : x - h - 0x20000 = x - (h + 0x20000) := by omega
  rw [memStore_eq h w hsize hrel, hsub]
  by_cases hp : 16 ≤ k ∧ h < 0x00C00000
  · rw [if_pos (hpair.mpr hp), State.byte_setBytes _ _ _ _ _ (s.setBytes_wf h w size hm), State.byte_setBytes _ _ _ _ _ hm]
    by_cases hx : h ≤ x ∧ x < h + size
    · rw [if_neg (by omega), if_pos hx, if_pos hx]
    · rw [if_neg hx, if_neg hx]
      by_cases hy : h + 0x20000 ≤ x ∧ x < h + 0x20000 + size
      · rw [if_pos hy, if_pos ⟨hp.1, hp.2, hy⟩]
      · rw [if_neg hy, if_neg (fun hc => hy hc.2.2)]
  · rw [if_neg (fun hc => hp (hpair.mp hc)), State.byte_setBytes _ _ _ _ _ hm]
    rw [if_neg (c := 16 ≤ k ∧ h < 0x00C00000 ∧ h + 0x20000 ≤ x ∧ x < h + 0x20000 + size) (fun hc => hp ⟨hc.1, hc.2.1⟩)]

/-! Instructions on a core's memories. -/

/-- A core's address in its memories names one of them and a host address. -/
theorem coreView_hostOf {k a : Nat} (h : a < 0x20000 ∨ 0x400000 ≤ a ∧ a < 0x800000) :
    ∃ kind < 3, coreView k a = some (kind, hostOf k a) := by
  unfold coreView hostOf imemB dmemB
  by_cases h1 : a < 0x10000
  · rw [if_pos h1, if_pos h1, Nat.mul_comm]
    exact ⟨0, by decide, rfl⟩
  · rw [if_neg h1, if_neg h1]
    by_cases h2 : a < 0x20000
    · rw [if_pos h2, if_pos h2, Nat.mul_comm]
      exact ⟨1, by decide, rfl⟩
    · rw [if_neg h2, if_neg h2, if_pos (by omega)]
      exact ⟨2, by decide, rfl⟩

section
variable {k size rd ra : Nat} {imm : BitVec 16} {s : State} {a : Word} (ha : (s.coreOf k).gr ra + imm.signExtend 32 = a)
  (hp : (s.coreOf k).priv = true ∨ 0x10000 ≤ a.toNat) (hal : a.toNat % size = 0) {kind h : Nat} (hkind : kind < 3)
  (hv : coreView k a.toNat = some (kind, h))

include ha hp hal hkind hv

theorem isaLoad_memory (signed : Bool) (hinj : s.injMem = none) : ∃ evs, isaLoad k size signed rd ra imm s =
    coreFinish k evs a (coreSet k (fun c => c.setGr rd (memVal size signed h s))) s := by
  subst ha
  unfold isaLoad immS
  dsimp only
  rw [imem_open hp, hal, hv]
  have hhit (j : Nat) : coreMemHit k j s = false := by unfold coreMemHit; rw [hinj]
  obtain rfl | rfl | rfl : kind = 0 ∨ kind = 1 ∨ kind = 2 := by omega
  · exact ⟨_, if_neg (c := coreMemHit k 0 s = true) (by rw [hhit]; exact Bool.false_ne_true)⟩
  · exact ⟨_, if_neg (c := coreMemHit k 1 s = true) (by rw [hhit]; exact Bool.false_ne_true)⟩
  · exact ⟨_, if_neg (c := coreMemHit k 2 s = true) (by rw [hhit]; exact Bool.false_ne_true)⟩

theorem isaStore_memory : ∃ evs, isaStore k size rd ra imm s =
    coreFinish k evs a (fun t => coreSet k id (memStore k size h ((s.coreOf k).gr rd) t)) s := by
  subst ha
  unfold isaStore immS
  dsimp only
  rw [imem_open hp, hal, hv]
  obtain rfl | rfl | rfl : kind = 0 ∨ kind = 1 ∨ kind = 2 := by omega
  · exact ⟨_, rfl⟩
  · exact ⟨_, rfl⟩
  · exact ⟨_, rfl⟩

end

theorem isaAmo_shared {k func rd ra rb : Nat} {s : State} {a : Word} (ha : (s.coreOf k).gr ra = a) (hlo : 0x400000 ≤ a.toNat)
    (hhi : a.toNat < 0x800000) (hal : a.toNat % 4 = 0) (hinj : s.injMem = none) :
    isaAmo k func rd ra rb s = coreFinish k [0x07] a (fun t => coreSet k (fun c => c.setGr rd (s.word (0xC00000 + (a.toNat - 0x400000))))
      (memStore k 4 (0xC00000 + (a.toNat - 0x400000)) (amoNew func (s.word (0xC00000 + (a.toNat - 0x400000))) ((s.coreOf k).gr rd)
        ((s.coreOf k).gr rb)) t)) s := by
  have hv : coreView k a.toNat = some (2, 0xC00000 + (a.toNat - 0x400000)) := by
    unfold coreView
    rw [if_neg (by omega), if_neg (by omega), if_pos ⟨hlo, hhi⟩]
    rfl
  subst ha
  unfold isaAmo
  dsimp only
  rw [if_pos hal, hv]
  exact if_neg (c := coreMemHit k 2 s = true) (by unfold coreMemHit; rw [hinj]; exact Bool.false_ne_true)

end Sys2Proof.Machine
end

section
/-! What the cores' memory instructions leave (R358 to R361), and a store that the pair compares as different (R366). -/

namespace Sys2Proof.Machine

theorem CoreRetiring.unreleased {k j : Nat} {s t : State} (h : CoreRetiring k s t) (hs : Rising 0 s.regs) :
    Machine.unreleased j t = Machine.unreleased j s := by
  obtain ⟨⟨m, n, w, rfl⟩, -, -, -⟩ := h
  have hget : look (resetWord sqB) (put (resetWord (coreB (coreIx k) + 0x108)) s.regs (coreB (coreIx k) + 0x108) w) sqB =
      look (resetWord sqB) s.regs sqB := look_put_other s.regs hs (by unfold coreB; omega)
  unfold Machine.unreleased State.on State.rd State.getReg
  exact congrArg (fun v => coreIx j == 16 && s.injLockstep && fget v 0 0 != 0) hget

theorem coreSet_setGr {c d : CoreSt} (h : CoreCounted c d) (hg : Rising 0 c.g) (rd : Nat) (v : Word) :
    CoreStep rd v (c.pc + 4) c { d.setGr rd v with pc := (d.setGr rd v).pc + 4 } := by
  have hpc : (d.setGr rd v).pc = c.pc := by
    obtain ⟨⟨m, sm, sw, rfl⟩, -, -⟩ := h
    unfold CoreSt.setGr
    split <;> rfl
  rw [hpc]
  exact .setGr h hg rd v _

/-- A store that the pair releases has its bytes in memory, and the instruction has retired. -/
theorem coreStore_done {k : Nat} (hk : k < 18) {rd size h : Nat} {v w : Word} (x : Nat) {s : State} {evs : List Nat} {addr : Word}
    (hI : Inv s) (h1 : s.coreState k = 1) (hsize : size = 1 ∨ size = 2 ∨ size = 4) (hrel : unreleased k s = false) :
    StoreDone k rd v size h w x s (coreFinish k evs addr (fun t => coreSet k (fun c => c.setGr rd v) (memStore k size h w t)) s) := by
  have hwf : Memory.wf s.mem = true := hI.1
  have hret := coreRetire_retiring hI.cores_rising (hI.coreOf_formed k).csr evs addr
  generalize hr : coreRetire k evs addr s = r at hret
  have hrel' : unreleased k r = false := (hret.unreleased hI.regs_rising).trans hrel
  have hmem : r.mem = s.mem := by
    obtain ⟨⟨m, n, w', he⟩, -, -, -⟩ := hret
    rw [he]
  obtain ⟨M, hM⟩ := memStore_frame h w hsize hrel'
  have hbyte := byte_memStore hk h w x hsize hrel' (by rw [hmem]; exact hwf)
  rw [hM] at hbyte
  have hdone := coreFinish_retired (rd := rd) (v := v) (pc := (s.coreOf k).pc + 4) (evs := evs) (addr := addr)
    (f := fun t => coreSet k (fun c => c.setGr rd v) (memStore k size h w t)) (M := M)
    (d := { (r.coreOf k).setGr rd v with pc := ((r.coreOf k).setGr rd v).pc + 4 }) hI h1 (by rw [hr]; dsimp only; rw [hM]; rfl)
    (coreSet_setGr hret.core (hI.coreOf_formed k).g rd v)
  obtain ⟨hretired, hmemory, -⟩ := hdone
  refine ⟨hretired, ?_⟩
  have hs (y : Nat) : r.byte y = memAt s y := by unfold State.byte memAt State.byte; rw [hmem]
  rw [← hs]
  unfold memAt State.byte
  rw [hmemory]
  exact hbyte

theorem setGr_zero : (id : CoreSt → CoreSt) = fun c => c.setGr 0 0 := by
  funext c
  rfl

section
variable {k : CoreId} {i : Instr} {s : State} {a : Word} {h : Nat}

theorem isaLoad_done {size : Nat} {signed : Bool} {rd ra : Fin 32} {imm : BitVec 16} {v : Word} (hI : Inv s) (hi : Issues k.val s)
    (ha : (s.coreOf k.val).gr ra.val + imm.signExtend 32 = a) (hrange : a.toNat < 0x20000 ∨ 0x400000 ≤ a.toNat ∧ a.toNat < 0x800000)
    (hp : (s.coreOf k.val).priv = true ∨ 0x10000 ≤ a.toNat) (hinj : s.injMem = none) (hal : a.toNat % size = 0)
    (hrun : exec i s = run (coreRun k.val (isaLoad k.val size signed rd.val ra.val imm)) s)
    (hv : memVal size signed (hostOf k.val a.toNat) s = v) :
    ∃ u, exec i s = .next (closed s.pending u) ∧ RetDone k.val rd.val v ((s.coreOf k.val).pc + 4) s u := by
  obtain ⟨kind, hkind, hview⟩ := coreView_hostOf (k := k.val) hrange
  obtain ⟨evs, he⟩ := isaLoad_memory (s := s.fresh) (rd := rd.val) ha hp hal hkind hview signed hinj
  refine ⟨_, hi.exec hrun, ?_⟩
  rw [he]
  exact coreSet_retDone (s := s.fresh) hI hi.coreState fun _ _ => hv

theorem isaStore_done {size : Nat} {rd ra : Fin 32} {imm : BitVec 16} (x : Nat) (hI : Inv s) (hi : Issues k.val s)
    (ha : (s.coreOf k.val).gr ra.val + imm.signExtend 32 = a) (hrange : a.toNat < 0x20000 ∨ 0x400000 ≤ a.toNat ∧ a.toNat < 0x800000)
    (hp : (s.coreOf k.val).priv = true ∨ 0x10000 ≤ a.toNat) (hrel : unreleased k.val s = false) (hal : a.toNat % size = 0)
    (hsize : size = 1 ∨ size = 2 ∨ size = 4) (hrun : exec i s = run (coreRun k.val (isaStore k.val size rd.val ra.val imm)) s) :
    ∃ u, exec i s = .next (closed s.pending u) ∧ StoreDone k.val 0 0 size (hostOf k.val a.toNat) ((s.coreOf k.val).gr rd.val) x s u := by
  obtain ⟨kind, hkind, hview⟩ := coreView_hostOf (k := k.val) hrange
  obtain ⟨evs, he⟩ := isaStore_memory (s := s.fresh) (rd := rd.val) ha hp hal hkind hview
  refine ⟨_, hi.exec hrun, ?_⟩
  rw [he, setGr_zero]
  exact coreStore_done (s := s.fresh) k.isLt x hI hi.coreState hsize hrel

theorem isaAmo_done {func : Nat} {rd ra rb : Fin 32} {old new : Word} (x : Nat) (hI : Inv s) (hi : Issues k.val s)
    (ha : (s.coreOf k.val).gr ra.val = a) (hlo : 0x400000 ≤ a.toNat) (hhi : a.toNat < 0x800000) (hal : a.toNat % 4 = 0)
    (hinj : s.injMem = none) (hrel : unreleased k.val s = false) (hold : s.word (0xC00000 + (a.toNat - 0x400000)) = old)
    (hnew : amoNew func old ((s.coreOf k.val).gr rd.val) ((s.coreOf k.val).gr rb.val) = new)
    (hrun : exec i s = run (coreRun k.val (isaAmo k.val func rd.val ra.val rb.val)) s) :
    ∃ u, exec i s = .next (closed s.pending u) ∧ StoreDone k.val rd.val old 4 (0xC00000 + (a.toNat - 0x400000)) new x s u := by
  have he := isaAmo_shared (s := s.fresh) (func := func) (rd := rd.val) (rb := rb.val) ha hlo hhi hal hinj
  refine ⟨_, hi.exec hrun, ?_⟩
  subst hold hnew
  rw [he]
  exact coreStore_done (s := s.fresh) k.isLt x hI hi.coreState (.inr (.inr rfl)) hrel

end

/-! A store that is not released. -/

theorem coreGo_injLockstep (k st : Nat) (s : State) : (coreGo k st s).injLockstep = s.injLockstep := by
  have hw (b : Bool) (t : State) (c : CoreSt) : (if b then t else t.setCore (coreIx k) c).injLockstep = t.injLockstep := by
    cases b <;> rfl
  unfold coreGo
  dsimp only
  split
  · exact hw _ s _
  · exact hw _ s _

theorem State.raise_injLockstep (s : State) (id : Nat) : (s.raise id).injLockstep = s.injLockstep := by
  obtain ⟨_, _, _, _, h⟩ := RaiseFrame.raise s id
  rw [h]

theorem semForceOf_injLockstep (mid : Nat) (s : State) : (semForceOf mid s).injLockstep = s.injLockstep := by
  have hsem (i : Nat) (t : State) : (if t.on (semB i) R.SQ_SEM_HELD && t.rd (semB i) R.SQ_SEM_OWNER == mid then semForce i t
      else t).injLockstep = t.injLockstep := by
    split
    · unfold semForce
      split
      · exact State.raise_injLockstep _ _
      · rfl
    · rfl
  exact (hsem 1 _).trans (hsem 0 s)

theorem coreStop_injLockstep (k st : Nat) (s : State) : (coreStop k st s).injLockstep = s.injLockstep := by
  have hsem := (semForceOf_injLockstep (coreMid k) ((coreGo k st s).wr (coreB (coreIx k)) R.SQ_CORE_PC_PC (s.coreOf k).pc.toNat)).trans
    (coreGo_injLockstep k st s)
  unfold coreStop
  dsimp only
  split
  · exact hsem
  · exact hsem

/-- A difference of the pair that is compared stops it in LOCKSTEP (R366). -/
theorem lockDiff_stopped {s u : State} (hr : Rising 0 s.regs) (hs : Rising 0 s.cores) (hcmp : s.on sqB R.SQ_CTRL_LS_CMP = true)
    (hu : u = lockDiff s) : u.mem = s.mem ∧ u.coreState 16 = 5 ∧ u.on sqB R.SQ_LOCK_STAT_PAIR_HALT = true ∧
      u.injLockstep = s.injLockstep ∧ Sends 0x471 u := by
  have hmem := (CoreKept.lockDiff (.refl (k := 16) hs)).mem
  rw [← hu] at hmem
  generalize hc : s.cnt sqB R.SQ_LOCK_STAT_MISMATCH 1 = c
  have hrc : Rising 0 c.regs := by rw [← hc]; exact State.wr_rising _ _ _ _ hr
  have hcmp' : c.on sqB R.SQ_CTRL_LS_CMP = true := by
    rw [← hcmp, ← hc]
    exact congrArg (fun n => n != 0) (State.rd_wr_ne s sqB sqB R.SQ_LOCK_STAT_MISMATCH R.SQ_CTRL_LS_CMP _ hr (by decide))
  obtain ⟨htouch, hstatus, -⟩ := coreStop_stopped (k := 16) (by decide) 5 hrc
  have hrs := (htouch hrc).1
  generalize hw : (coreStop 16 5 c).wr sqB R.SQ_LOCK_STAT_PAIR_HALT 1 = w
  have hrw : Rising 0 w.regs := by rw [← hw]; exact State.wr_rising _ _ _ _ hrs
  have he : u = w.raise 0x471 := by
    rw [hu, ← hw]
    unfold lockDiff
    dsimp only
    rw [hc, if_pos hcmp']
  have hraise (j : Nat) (hj : ¬ RaiseKey j) : u.getReg j = w.getReg j := by
    rw [he]
    exact State.raise_getReg hrw (by decide) hj
  refine ⟨hmem, ?_, ?_, ?_, ?_⟩
  · show fget (u.getReg (coreB 16 + 0x104)) 2 0 = 5
    rw [hraise _ fun h => not_stopKey_core (i := 16) (by decide) (by decide) (by decide) (.inl h), ← hw,
      State.getReg_wr_ne (coreStop 16 5 c) 1 hrs (by decide)]
    refine (congrArg (fun v => fget v 2 0) hstatus).trans ?_
    rw [fget_fset_same _ _ _ (by decide)]
    rfl
  · have hhalt : u.rd sqB R.SQ_LOCK_STAT_PAIR_HALT = 1 := by
      unfold State.rd
      rw [hraise _ (not_raiseKey_high (by decide) (by decide)), ← hw]
      exact State.rd_wr_same _ sqB R.SQ_LOCK_STAT_PAIR_HALT 1 hrs (by decide)
    unfold State.on
    rw [hhalt]
    rfl
  · rw [he, State.raise_injLockstep, ← hw, ← hc]
    exact coreStop_injLockstep _ _ _
  · rw [he]
    exact State.raise_sends (State.evClamped_of_evDom (evDom_sq (by decide)))

theorem memStore_unreleased {k size h : Nat} {w : Word} {s : State} (hrel : unreleased k s = true) : memStore k size h w s = s := by
  unfold memStore
  rw [hrel]
  rfl

/-- A store that the pair does not release changes no byte and stops the pair. -/
theorem coreStore_unreleased {k size h : Nat} {w : Word} {s u : State} {evs : List Nat} {addr : Word} (hI : Inv s) (h1 : s.coreState k = 1)
    (hrel : unreleased k s = true) (hu : u = coreFinish k evs addr (fun t => coreSet k id (memStore k size h w t)) s) :
    u.mem = s.mem ∧ u.coreState 16 = 5 ∧ u.on sqB R.SQ_LOCK_STAT_PAIR_HALT = true ∧ u.injLockstep = false ∧ Sends 0x471 u := by
  have hret := coreRetire_retiring hI.cores_rising (hI.coreOf_formed k).csr evs addr
  have hstate := (hret.coreState hI.regs_rising).trans h1
  have hrel' := (hret.unreleased (j := k) hI.regs_rising).trans hrel
  have hfin := coreFinish_eq (evs := evs) (addr := addr) (s := s) (k := k) (f := fun t => coreSet k id (memStore k size h w t))
    (u := coreSet k id (coreRetire k evs addr s)) (congrArg (coreSet k id) (memStore_unreleased hrel')) hstate
  generalize coreRetire k evs addr s = r at hret hrel' hfin
  have hmem : r.mem = s.mem ∧ Rising 0 r.regs := by
    obtain ⟨⟨m, n, w', he⟩, -, -, -⟩ := hret
    rw [he]
    exact ⟨rfl, put_rising _ _ hI.regs_rising (Nat.zero_le _)⟩
  obtain ⟨hm, hrr⟩ := hmem
  simp only [unreleased, Bool.and_eq_true] at hrel'
  obtain ⟨⟨h16, hinj⟩, hcmp⟩ := hrel'
  have hinj' : (coreSet k id r).injLockstep = true := hinj
  rw [h16, hinj', Bool.and_true, if_pos rfl, ← hu] at hfin
  have hstop := lockDiff_stopped (s := { coreSet k id r with injLockstep := false }) hrr (State.setCore_rising k _ hret.rising) hcmp hfin
  rw [← hm]
  exact hstop

/-- Settles O40: loads, stores and AMOs by the bytes that they read and write, on the rule of an instruction that retires. -/
theorem coreMemory : Obligations.CoreMemory := by
  unfold Obligations.CoreMemory
  refine ⟨fun k rd ra imm s hI h => ?_, fun k rd ra imm s x hI h => ?_, fun k rd ra rb s x hI h => ?_, fun k rd ra imm s hI h hrel => ?_⟩
  · intro c a host rb n hrange hp hinj
    refine ⟨fun hal => isaLoad_done hI h rfl hrange hp hinj hal rfl (State.word_eq_append s host),
      fun hal => isaLoad_done hI h rfl hrange hp hinj hal rfl rfl, fun hal => isaLoad_done hI h rfl hrange hp hinj hal rfl rfl,
      isaLoad_done hI h rfl hrange hp hinj (Nat.mod_one _) rfl rfl, isaLoad_done hI h rfl hrange hp hinj (Nat.mod_one _) rfl rfl⟩
  · intro c a host w hrange hp hrel
    exact ⟨fun hal => isaStore_done x hI h rfl hrange hp hrel hal (.inr (.inr rfl)) rfl,
      fun hal => isaStore_done x hI h rfl hrange hp hrel hal (.inr (.inl rfl)) rfl,
      isaStore_done x hI h rfl hrange hp hrel (Nat.mod_one _) (.inl rfl) rfl⟩
  · intro c a host old b hlo hhi hal hinj hrel
    have hold : s.word host = old := State.word_eq_append s host
    exact ⟨isaAmo_done x hI h rfl hlo hhi hal hinj hrel hold rfl rfl, isaAmo_done x hI h rfl hlo hhi hal hinj hrel hold rfl rfl,
      isaAmo_done x hI h rfl hlo hhi hal hinj hrel hold rfl rfl, isaAmo_done x hI h rfl hlo hhi hal hinj hrel hold rfl rfl,
      isaAmo_done x hI h rfl hlo hhi hal hinj hrel hold rfl rfl⟩
  · intro a hal hrange hp
    obtain ⟨kind, hkind, hview⟩ := coreView_hostOf (k := k.val) hrange
    obtain ⟨evs, he⟩ := isaStore_memory (s := s.fresh) (rd := rd.val) (size := 4) rfl hp hal hkind hview
    refine ⟨_, h.exec rfl, ?_⟩
    rw [he]
    exact coreStore_unreleased (s := s.fresh) hI h.coreState hrel rfl

end Sys2Proof.Machine
end

section
/-! CSR accesses, IDLE, DRAIN, the window, and the cores' timers, counters and watchdogs (R363, R370, R373, R377, R381). -/

namespace Sys2Proof.Machine

/-! CSR accesses. -/

theorem put_put {α : Type} [DecidableEq α] {d : α} {m : List (Nat × α)} {i lo : Nat} (v w : α) (h : Rising lo m) :
    put d (put d m i v) i w = put d m i w := by
  induction m generalizing lo with
  | nil =>
    unfold put
    by_cases hv : v = d
    · simp [hv, put]
    · simp [hv, put]
  | cons x m ih =>
    obtain ⟨k, y⟩ := x
    obtain ⟨-, hm⟩ := h
    have hnew (l : List (Nat × α)) (hl : put d l i w = if w = d then l else (i, w) :: l) :
        put d (if v = d then l else (i, v) :: l) i w = if w = d then l else (i, w) :: l := by
      split
      · exact hl
      · simp [put]
    by_cases hlt : i < k
    · have he (u : α) : put d ((k, y) :: m) i u = if u = d then (k, y) :: m else (i, u) :: (k, y) :: m := by simp [put, hlt]
      rw [he, he, hnew _ (he w)]
    · by_cases hk : i = k
      · subst hk
        have he (u : α) : put d ((i, y) :: m) i u = if u = d then m else (i, u) :: m := by simp [put]
        have hbelow : put d m i w = if w = d then m else (i, w) :: m := by
          cases m with
          | nil => rfl
          | cons z m =>
            obtain ⟨hz, -⟩ := hm
            simp [put, show i < z.1 by omega]
        rw [he, he, hnew _ hbelow]
      · have he (l : List (Nat × α)) (u : α) : put d ((k, y) :: l) i u = (k, y) :: put d l i u := by simp [put, hlt, hk]
        rw [he, he, he, ih hm]

theorem State.setCore_setCore {s : State} (k : Nat) (c d : CoreSt) (h : Rising 0 s.cores) : (s.setCore k c).setCore k d = s.setCore k d := by
  unfold State.setCore
  rw [put_put c d h]

/-- A core after a CSR access: rd takes the old value where it reads, the CSR takes a word where one is written. -/
def CoreSt.csrOut (c : CoreSt) (reads : Bool) (rd n : Nat) (w : Option Word) : CoreSt :=
  let b := w.elim c (c.setCsr n)
  let e := if reads then b.setGr rd (c.getCsr n) else b
  { e with pc := e.pc + 4 }

theorem CoreSt.setGr_frame (c : CoreSt) (rd : Nat) (v : Word) : ∃ m, c.setGr rd v = { c with g := m } := by
  unfold CoreSt.setGr
  split
  · exact ⟨c.g, rfl⟩
  · exact ⟨_, rfl⟩

theorem CoreSt.csrOut_pc (c : CoreSt) (reads : Bool) (rd n : Nat) (w : Option Word) : (c.csrOut reads rd n w).pc = c.pc + 4 := by
  have hb : (w.elim c (c.setCsr n)).pc = c.pc := by cases w <;> rfl
  unfold CoreSt.csrOut
  dsimp only
  cases reads
  · exact congrArg (· + 4) hb
  · obtain ⟨m, hm⟩ := (w.elim c (c.setCsr n)).setGr_frame rd (c.getCsr n)
    rw [if_pos rfl, hm]
    exact congrArg (· + 4) hb

theorem CoreSt.csrOut_gr {c : CoreSt} (reads : Bool) (rd n : Nat) (w : Option Word) (j : Nat) (hg : Rising 0 c.g) :
    (c.csrOut reads rd n w).gr j = if reads = true ∧ j = rd ∧ rd ≠ 0 then c.getCsr n else c.gr j := by
  have hb : (w.elim c (c.setCsr n)).g = c.g := by cases w <;> rfl
  have hbg : (w.elim c (c.setCsr n)).gr j = c.gr j := by cases w <;> rfl
  unfold CoreSt.csrOut
  cases reads
  · rw [if_neg (fun h => absurd h.1 Bool.false_ne_true)]
    exact hbg
  · have hset := CoreSt.gr_setGr (c := w.elim c (c.setCsr n)) rd j (c.getCsr n) (hb ▸ hg)
    rw [hbg] at hset
    simp only [true_and]
    exact hset

theorem CoreSt.csrOut_getCsr {c : CoreSt} (reads : Bool) (rd n : Nat) (w : Option Word) (j : Nat) (hc : Rising 0 c.csr) :
    (c.csrOut reads rd n w).getCsr j = if j = n then w.getD (c.getCsr n) else c.getCsr j := by
  have hb : (w.elim c (c.setCsr n)).getCsr j = if j = n then w.getD (c.getCsr n) else c.getCsr j := by
    cases w with
    | none =>
      split
      next h => rw [h]; rfl
      next => rfl
    | some w => exact CoreSt.getCsr_setCsr n j w hc
  unfold CoreSt.csrOut
  dsimp only
  cases reads
  · exact hb
  · obtain ⟨m, hm⟩ := (w.elim c (c.setCsr n)).setGr_frame rd (c.getCsr n)
    rw [if_pos rfl, hm]
    exact hb

/-- The CSRs that store their bits and do no more. -/
def csrPlain : List Nat := [0x010, 0x011, 0x020, 0x021, 0x022, 0x023, 0x024]

theorem csrWrite_plain {k n : Nat} (w ones : Word) (s : State) (hn : n ∈ csrPlain) :
    csrWrite k n w ones s = s.setCore k ((s.coreOf k).setCsr n (w &&& csrMask n)) := by
  simp only [csrPlain, List.mem_cons, List.not_mem_nil, or_false] at hn
  obtain rfl | rfl | rfl | rfl | rfl | rfl | rfl := hn <;> rfl

theorem csrRead_plain {k n : Nat} (s : State) (hn : n ∈ csrPlain) : csrRead k n s = (s, (s.coreOf k).getCsr n) := by
  simp only [csrPlain, List.mem_cons, List.not_mem_nil, or_false] at hn
  obtain rfl | rfl | rfl | rfl | rfl | rfl | rfl := hn <;> rfl

theorem csrPlain_lt {n : Nat} (hn : n ∈ csrPlain) : n < 64 ∧ csrKnown n = true := by
  simp only [csrPlain, List.mem_cons, List.not_mem_nil, or_false] at hn
  obtain rfl | rfl | rfl | rfl | rfl | rfl | rfl := hn <;> decide

/-- What each CSR instruction stores: the word of R370, or nothing. -/
def csrStored (op ra n : Nat) (c : CoreSt) : Option Word :=
  match op with
  | 0 => none
  | 1 => some (c.gr ra &&& csrMask n)
  | 2 => some ((c.getCsr n ||| c.gr ra) &&& csrMask n)
  | _ => some ((c.getCsr n &&& ~~~ c.gr ra) &&& csrMask n)

/-- A CSR instruction of P mode on a plain CSR changes its core alone. -/
theorem isaCsr_plain {k op rd ra n : Nat} {s : State} (hn : n ∈ csrPlain) (hp : (s.coreOf k).priv = true) (hop : op < 4) :
    ∃ f : State → State, isaCsr k op rd ra n s = coreFinish k [] 0 f s ∧
      ∀ r : State, Rising 0 r.cores → f r = r.setCore k ((r.coreOf k).csrOut (op != 1) rd n (csrStored op ra n (r.coreOf k))) := by
  have htrap : csrTrap k op n s = none := by
    unfold csrTrap
    dsimp only
    rw [(csrPlain_lt hn).2, hp]
    rfl
  refine ⟨_, by unfold isaCsr; rw [htrap], fun r hr => ?_⟩
  have hstore (c d : CoreSt) (φ : CoreSt → CoreSt) (hd : d = { φ c with pc := (φ c).pc + 4 }) :
      coreSet k φ (r.setCore k c) = r.setCore k d := by
    unfold coreSet
    rw [State.coreOf_setCore_same k c hr, hd]
    exact State.setCore_setCore k c _ hr
  dsimp only
  rw [csrRead_plain r hn]
  obtain rfl | rfl | rfl | rfl : op = 0 ∨ op = 1 ∨ op = 2 ∨ op = 3 := by omega
  · rfl
  · refine Eq.trans (congrArg (coreSet k id) (csrWrite_plain _ _ r hn)) ?_
    exact hstore _ _ _ rfl
  · refine Eq.trans (congrArg (coreSet k (fun c => c.setGr rd ((r.coreOf k).getCsr n)))
      (csrWrite_plain ((r.coreOf k).getCsr n ||| (r.coreOf k).gr ra) ((r.coreOf k).gr ra) r hn)) ?_
    exact hstore _ _ _ rfl
  · refine Eq.trans (congrArg (coreSet k (fun c => c.setGr rd ((r.coreOf k).getCsr n)))
      (csrWrite_plain ((r.coreOf k).getCsr n &&& ~~~ (r.coreOf k).gr ra) ((r.coreOf k).gr ra) r hn)) ?_
    exact hstore _ _ _ rfl

/-- Counting leaves what a CSR instruction reads. -/
theorem csrStored_counted {op ra n : Nat} {c d : CoreSt} (h : CoreCounted c d) (hn : n < 64) : csrStored op ra n d = csrStored op ra n c := by
  unfold csrStored
  rw [h.gr ra, h.csr n hn]

theorem csr_done {k : CoreId} {i : Instr} {op : Nat} {rd ra : Fin 32} {n : Nat} {s : State} (hI : Inv s) (h : Issues k.val s)
    (hp : (s.coreOf k.val).priv = true) (hn : n ∈ csrPlain) (hop : op < 4)
    (hrun : exec i s = run (coreRun k.val (isaCsr k.val op rd.val ra.val n)) s) :
    ∃ u, exec i s = .next (closed s.pending u) ∧ CsrDone k.val rd.val (op != 1) n
      ((csrStored op ra.val n (s.coreOf k.val)).getD ((s.coreOf k.val).getCsr n)) s u := by
  obtain ⟨f, he, hf⟩ := isaCsr_plain (rd := rd.val) (ra := ra.val) (s := s.fresh) hn hp hop
  refine ⟨_, h.exec hrun, ?_⟩
  rw [he]
  obtain ⟨d, hd, ⟨⟨a, b, hcore⟩, -⟩, hquiet⟩ := coreFinish_own (s := s.fresh) (evs := []) (addr := 0)
    (φ := fun c => c.csrOut (op != 1) rd.val n (csrStored op ra.val n c)) hI h.coreState hf
  obtain ⟨hn64, -⟩ := csrPlain_lt hn
  have hg : Rising 0 d.g := by
    obtain ⟨⟨_, _, _, rfl⟩, -, -⟩ := hd
    exact (hI.coreOf_formed k.val).g
  have hpc : d.pc = (s.coreOf k.val).pc := by
    obtain ⟨⟨_, _, _, rfl⟩, -, -⟩ := hd
    rfl
  rw [csrStored_counted hd hn64] at hcore
  have hold : d.getCsr n = (s.coreOf k.val).getCsr n := hd.csr n hn64
  refine ⟨fun j => ?_, ?_, fun c => ?_, hquiet⟩
  · rw [hcore]
    refine (CoreSt.csrOut_gr _ _ _ _ _ hg).trans ?_
    rw [hold, hd.gr]
    rfl
  · rw [hcore, ← hpc]
    exact CoreSt.csrOut_pc _ _ _ _ _
  · rw [hcore]
    refine (CoreSt.csrOut_getCsr _ _ _ _ _ hd.rising).trans ?_
    rw [hold, hd.csr c.val c.isLt]
    rfl

end Sys2Proof.Machine
end

section
/-! IDLE, DRAIN, the register window, and the timers, counters and watchdogs of the cores (R363, R373, R377, R381). -/

namespace Sys2Proof.Machine

/-! IDLE. -/

theorem cntEvent_off {c : CoreSt} (ev n : Nat) (h : ∀ i : Fin 8, cntOn i.val c = false) : cntEvent ev n c = c := by
  have hall : ∀ l : List Nat, (∀ i ∈ l, i < 8) →
      l.foldl (fun c i => if cntOn i c && c.csrF (csrCNTSEL i) 7 0 == ev then cntAdd i n c else c) c = c := by
    intro l hl
    induction l with
    | nil => rfl
    | cons i l ih =>
      have hi : cntOn i c = false := h ⟨i, hl i (by simp)⟩
      rw [List.foldl_cons, hi]
      exact ih fun j hj => hl j (by simp [hj])
  exact hall _ fun i hi => List.mem_range.mp hi

/-- With no counter on and no sample awaited, retiring leaves the core. -/
theorem coreRetire_idle {k : Nat} {s : State} (evs : List Nat) (addr : Word) (hs : Rising 0 s.cores)
    (hcnt : ∀ i : Fin 8, cntOn i.val (s.coreOf k) = false) (hsample : (s.coreOf k).sampleWait = false) :
    (coreRetire k evs addr s).coreOf k = s.coreOf k := by
  have hcount (l : List Nat) (t : State) (ht : Rising 0 t.cores) (hc : t.coreOf k = s.coreOf k) :
      (l.foldl (fun t e => coreCount k e 1 t) t).coreOf k = s.coreOf k := by
    induction l generalizing t with
    | nil => exact hc
    | cons e l ih =>
      refine ih _ (State.setCore_rising k _ ht) ((State.coreOf_setCore_same k _ ht).trans ?_)
      rw [hc]
      exact cntEvent_off e 1 hcnt
  have hc := hcount (evs ++ (0x02 :: if (s.coreOf k).priv then [] else [0x03])) s hs rfl
  unfold coreRetire takeSample
  dsimp only
  rw [hc, hsample]
  exact hc

theorem coreIx_coreIx (k : Nat) : coreIx (coreIx k) = coreIx k := by
  unfold coreIx
  split
  · rfl
  · rfl

theorem State.coreOf_coreIx (s : State) (k : Nat) : s.coreOf (coreIx k) = s.coreOf k := by
  unfold State.coreOf
  rw [coreIx_coreIx]

/-- A core that takes a run state keeps all but its watchdog's count. -/
structure CoreGoes (k : Nat) (s t : State) : Prop where
  core : ∃ a, t.coreOf k = { s.coreOf k with wdogAt := a }
  queue : t.nmtQ = s.nmtQ
  mem : t.mem = s.mem
  rising : Rising 0 t.cores

theorem coreGo_goes (k st : Nat) {s : State} (hs : Rising 0 s.cores) : CoreGoes k s (coreGo k st s) := by
  have hwdog : CoreGoes k s (if wdogStops (s.coreState (coreIx k)) == wdogStops st then s
      else s.setCore (coreIx k) { s.coreOf (coreIx k) with wdogAt := s.now - (s.coreOf (coreIx k)).wdogAt }) := by
    split
    · exact ⟨⟨(s.coreOf k).wdogAt, rfl⟩, rfl, rfl, hs⟩
    · have hown := State.coreOf_setCore_same (coreIx k) { s.coreOf (coreIx k) with wdogAt := s.now - (s.coreOf (coreIx k)).wdogAt } hs
      rw [State.coreOf_coreIx, State.coreOf_coreIx] at hown
      rw [State.coreOf_coreIx]
      exact ⟨⟨_, hown⟩, rfl, rfl, State.setCore_rising _ _ hs⟩
  unfold coreGo
  dsimp only
  obtain ⟨hcore, hqueue, hmem, hrise⟩ := hwdog
  split
  · exact ⟨hcore, hqueue, hmem, hrise⟩
  · exact ⟨hcore, hqueue, hmem, hrise⟩

theorem CoreGoes.line {k : Nat} {s t : State} (h : CoreGoes k s t) : coreLine k t = coreLine k s := by
  obtain ⟨⟨a, hcore⟩, -, -, -⟩ := h
  unfold coreLine
  rw [hcore]
  rfl

theorem coreGo_state {k : Nat} (hk : k < 18) {st : Nat} (hst : st < 8) {s : State} (hr : Rising 0 s.regs) :
    (coreGo k st s).coreState k = st := by
  refine (congrArg (fun w => fget w 2 0) (coreGo_shown hk st hr).2).trans ?_
  rw [fget_fset_same _ _ _ (by decide)]
  exact Nat.mod_eq_of_lt hst

/-- An instruction of one core, or of the pair with no difference armed, completes with its effect. -/
theorem coreFinish_effect {k : Nat} (hk : k < 18) {s : State} {evs : List Nat} {addr : Word} {φ : CoreSt → CoreSt} (hI : Inv s)
    (h1 : s.coreState k = 1) (hinj : k < 16 ∨ s.injLockstep = false) :
    coreFinish k evs addr (coreSet k φ) s = coreSet k φ (coreRetire k evs addr s) := by
  have hret := coreRetire_retiring hI.cores_rising (hI.coreOf_formed k).csr evs addr
  have hfin := coreFinish_eq (s := s) (evs := evs) (addr := addr) (f := coreSet k φ) rfl ((hret.coreState hI.regs_rising).trans h1)
  obtain ⟨⟨m, n, w, hr⟩, -, -, -⟩ := hret
  have hinj' : (coreSet k φ (coreRetire k evs addr s)).injLockstep = s.injLockstep := by rw [hr]; rfl
  rw [hfin, if_neg]
  rw [hinj', Bool.and_eq_true, beq_iff_eq, coreIx_eq_sixteen hk]
  rcases hinj with h | h
  · omega
  · rw [h]
    exact fun hc => absurd hc.2 Bool.false_ne_true

section
variable {k : CoreId} {s : State} (hI : Inv s) (h1 : s.coreState k.val = 1) (hinj : k.val < 16 ∨ s.injLockstep = false)
  (hcnt : ∀ i : Fin 8, cntOn i.val (s.coreOf k.val) = false) (hsample : (s.coreOf k.val).sampleWait = false)

include hI h1 hinj hcnt hsample

/-- A core that counts nothing goes to IDLE, with its PC at the next instruction, and then looks for a line. -/
theorem isaIdle_eq : ∃ t : State, isaIdle k.val s = coreWakeIdle (coreIx k.val) t ∧ t.coreState k.val = 2 ∧ Rising 0 t.regs ∧
    CoreGoes k.val (s.setCore k.val { s.coreOf k.val with pc := (s.coreOf k.val).pc + 4 }) t := by
  have hret := coreRetire_retiring hI.cores_rising (hI.coreOf_formed k.val).csr [] 0
  have hcore := coreRetire_idle (k := k.val) [] 0 hI.cores_rising hcnt hsample
  have heff := coreFinish_effect (evs := []) (addr := 0) (φ := id) k.isLt hI h1 hinj
  have hstate := (hret.coreState hI.regs_rising).trans h1
  generalize coreRetire k.val [] 0 s = r at hret hcore heff hstate
  have hfacts : Rising 0 r.regs ∧ r.nmtQ = s.nmtQ ∧ r.mem = s.mem := by
    obtain ⟨⟨m, n, w, hr⟩, -, -, -⟩ := hret
    rw [hr]
    exact ⟨put_rising _ _ hI.regs_rising (Nat.zero_le _), rfl, rfl⟩
  obtain ⟨hrr, hq, hm⟩ := hfacts
  have hset : Rising 0 (coreSet k.val id r).cores := State.setCore_rising k.val _ hret.rising
  have hrset : Rising 0 (coreSet k.val id r).regs := hrr
  obtain ⟨⟨a, hgo⟩, hgq, hgm, hgr⟩ := coreGo_goes k.val 2 hset
  refine ⟨coreGo k.val 2 (coreSet k.val id r), ?_, coreGo_state k.isLt (by decide) hrset, ((coreGo_shown k.isLt 2 hrset).1 hrset).1,
    ⟨a, hgo.trans ?_⟩, hgq.trans hq, hgm.trans hm, hgr⟩
  · unfold isaIdle
    rw [heff]
    have hst : ((coreSet k.val id r).coreState k.val == 1) = true := beq_iff_eq.mpr hstate
    dsimp only
    rw [if_pos hst]
  · have hown : (coreSet k.val id r).coreOf k.val = { s.coreOf k.val with pc := (s.coreOf k.val).pc + 4 } := by
      rw [← hcore]
      exact State.coreOf_setCore_same k.val _ hret.rising
    rw [hown, State.coreOf_setCore_same k.val _ hI.cores_rising]

theorem isaIdle_waits (hline : coreLine k.val s = none) (hnmt : k.val < 16 ∨ (s.nmtQ = [] ∧ (s.coreOf k.val).nmtHeld = none))
    {u : State} (hu : u = isaIdle k.val s) :
    u.coreState k.val = 2 ∧ (u.coreOf k.val).pc = (s.coreOf k.val).pc + 4 ∧ (u.coreOf k.val).g = (s.coreOf k.val).g ∧ u.mem = s.mem := by
  obtain ⟨t, he, hstate, -, hgoes⟩ := isaIdle_eq hI h1 hinj hcnt hsample
  have hown := State.coreOf_setCore_same k.val { s.coreOf k.val with pc := (s.coreOf k.val).pc + 4 } hI.cores_rising
  have hline' : coreLine (coreIx k.val) t = none := by
    have hsame : coreLine k.val (s.setCore k.val { s.coreOf k.val with pc := (s.coreOf k.val).pc + 4 }) = coreLine k.val s := by
      unfold coreLine
      rw [hown]
      rfl
    refine Eq.trans ?_ ((hgoes.line.trans hsame).trans hline)
    unfold coreLine
    rw [State.coreOf_coreIx]
  obtain ⟨⟨a, hcore⟩, hqueue, hmem, -⟩ := hgoes
  rw [hown] at hcore
  have hends : idleEnds (coreIx k.val) t = false := by
    unfold idleEnds
    rw [hline']
    rcases hnmt with hk | ⟨hq, hheld⟩
    · rw [show (coreIx k.val == 16) = false from beq_eq_false_iff_ne.mpr fun h => by rw [coreIx_eq_sixteen k.isLt] at h; omega]
      exact Bool.and_false _
    · by_cases h16 : coreIx k.val = 16
      · have hheld' : (t.coreOf 16).nmtHeld = none := by
          rw [← State.coreOf_sixteen h16, hcore]
          exact hheld
        rw [hqueue, show (s.setCore k.val { s.coreOf k.val with pc := (s.coreOf k.val).pc + 4 }).nmtQ = s.nmtQ from rfl, hq, hheld']
        simp
      · rw [beq_eq_false_iff_ne.mpr h16]
        exact Bool.and_false _
  have hut : u = t := by
    rw [hu, he]
    unfold coreWakeIdle
    rw [hends]
    rfl
  rw [hut]
  exact ⟨hstate, by rw [hcore], by rw [hcore], hmem⟩

theorem isaIdle_wakes (hline : coreLine k.val s ≠ none) {u : State} (hu : u = isaIdle k.val s) :
    u.coreState k.val = 1 ∧ (u.coreOf k.val).pc = (s.coreOf k.val).pc + 4 := by
  obtain ⟨t, he, hstate, hrt, hgoes⟩ := isaIdle_eq hI h1 hinj hcnt hsample
  have hown := State.coreOf_setCore_same k.val { s.coreOf k.val with pc := (s.coreOf k.val).pc + 4 } hI.cores_rising
  have hline' : (coreLine (coreIx k.val) t).isSome = true := by
    have hsame : coreLine k.val (s.setCore k.val { s.coreOf k.val with pc := (s.coreOf k.val).pc + 4 }) = coreLine k.val s := by
      unfold coreLine
      rw [hown]
      rfl
    have hix : coreLine (coreIx k.val) t = coreLine k.val t := by
      unfold coreLine
      rw [State.coreOf_coreIx]
    rw [hix, hgoes.line.trans hsame]
    exact Option.isSome_iff_ne_none.mpr hline
  obtain ⟨⟨a, hcore⟩, -, -, hrise⟩ := hgoes
  rw [hown] at hcore
  have hstate' : t.coreState (coreIx k.val) = 2 := by
    unfold State.coreState at hstate ⊢
    rw [coreIx_coreIx]
    exact hstate
  have hends : idleEnds (coreIx k.val) t = true := by
    unfold idleEnds
    rw [hline', hstate']
    rfl
  have hut : u = coreGo (coreIx k.val) 1 t := by
    rw [hu, he]
    unfold coreWakeIdle
    rw [hends]
    rfl
  have hgo : coreGo (coreIx k.val) 1 t = coreGo k.val 1 t := by
    unfold coreGo
    dsimp only
    rw [coreIx_coreIx]
  obtain ⟨⟨b, hcore'⟩, -, -, -⟩ := coreGo_goes k.val 1 hrise
  rw [hut, hgo]
  refine ⟨coreGo_state k.isLt (by decide) hrt, ?_⟩
  rw [hcore', hcore]

end

end Sys2Proof.Machine
end

section
/-! The register window, and the timers, counters and watchdogs of the cores (R363, R373, R377, R381). -/

namespace Sys2Proof.Machine

/-! The window. -/

theorem coreView_window {k x : Nat} (hlo : 0x80000000 ≤ x) (hhi : x < 0x81400000) : coreView k x = some (3, x - 0x80000000) := by
  unfold coreView
  rw [if_neg (by omega), if_neg (by omega), if_neg (by omega), if_pos ⟨hlo, hhi⟩]

section
variable {k rd ra : Nat} {imm : BitVec 16} {s : State} {a : Word} (ha : (s.coreOf k).gr ra + imm.signExtend 32 = a)
  (hlo : 0x80000000 ≤ a.toNat) (hhi : a.toNat < 0x81400000) (hal : a.toNat % 4 = 0) (hpost : storeWaits k s = false)

include ha hlo hhi hal hpost

/-- A permitted word load from the window delivers what the fabric answers. -/
theorem isaLoad_window {r : State × Word × AccSt} (hmay : coreMay k false (a.toNat - 0x80000000) 0 s = true)
    (hr : access (coreMaster k) false (a.toNat - 0x80000000) (BitVec.ofNat 32 (0x100 + rd)) s = r) (hdone : r.2.2 = .done) :
    isaLoad k 4 true rd ra imm s = coreFinish k [0x09] a (coreSet k (fun c => c.setGr rd r.2.1)) r.1 := by
  subst ha
  unfold isaLoad immS
  dsimp only
  rw [imem_open (.inr (by omega)), hal, coreView_window hlo hhi]
  show windowLoad k 4 rd (((s.coreOf k).gr ra + imm.signExtend 32).toNat - 0x80000000) _ s = _
  unfold windowLoad
  dsimp only
  rw [hpost, hmay, hr, hdone]
  rfl

/-- One that is refused delivers 0 and traps. -/
theorem isaLoad_window_refused (hmay : coreMay k false (a.toNat - 0x80000000) 0 s = false) :
    isaLoad k 4 true rd ra imm s = coreTrap k 4 (some a) (s.setCore k ((s.coreOf k).setGr rd 0)) := by
  subst ha
  unfold isaLoad immS
  dsimp only
  rw [imem_open (.inr (by omega)), hal, coreView_window hlo hhi]
  show windowLoad k 4 rd (((s.coreOf k).gr ra + imm.signExtend 32).toNat - 0x80000000) _ s = _
  unfold windowLoad
  dsimp only
  rw [hpost, hmay]
  rfl

/-- A permitted word store to the window is posted. -/
theorem isaStore_window {r : State × Word × AccSt} (hrel : unreleased k s = false)
    (hmay : coreMay k true (a.toNat - 0x80000000) ((s.coreOf k).gr rd) s = true)
    (hr : access (coreMaster k) true (a.toNat - 0x80000000) ((s.coreOf k).gr rd) s = r) (hdone : r.2.2 = .done ∨ r.2.2 = .waiting) :
    isaStore k 4 rd ra imm s = coreFinish k [0x0A] a (coreSet k (fun c => { c with post := c.pc })) r.1 := by
  subst ha
  unfold isaStore immS
  dsimp only
  rw [imem_open (.inr (by omega)), hal, coreView_window hlo hhi]
  show windowStore k 4 (((s.coreOf k).gr ra + imm.signExtend 32).toNat - 0x80000000) _ _ s = _
  unfold windowStore
  dsimp only
  rw [hpost, hmay, hrel, hr]
  rcases hdone with h | h
  · rw [h]; rfl
  · rw [h]; rfl

end

theorem coreMay_fresh (k : Nat) (write : Bool) (h : Nat) (w : Word) (s : State) : coreMay k write h w s.fresh = coreMay k write h w s := rfl

/-- An instruction whose access left the cores as they were completes on what the access left. -/
theorem coreFinish_accessed {k : Nat} {s t : State} {evs : List Nat} {addr : Word} {φ : CoreSt → CoreSt} (hI : Inv s)
    (hcores : t.cores = s.cores) : ∃ d, CoreCounted (s.coreOf k) d ∧ CoreEnds k { φ d with pc := (φ d).pc + 4 } s
      (coreFinish k evs addr (coreSet k φ) t) ∧ (coreFinish k evs addr (coreSet k φ) t).mem = t.mem := by
  have hof (j : Nat) : t.coreOf j = s.coreOf j := congrArg (fun m => look CoreSt.reset m (coreIx j)) hcores
  have hrise : Rising 0 t.cores := hcores ▸ hI.cores_rising
  have hcsr : Rising 0 (t.coreOf k).csr := by
    rw [hof]
    exact (hI.coreOf_formed k).csr
  have hret := coreRetire_retiring hrise hcsr evs addr
  obtain ⟨m, n, w, hr⟩ := hret.frame
  have hmem : ({ coreRetire k evs addr t with mem := t.mem } : State) = coreRetire k evs addr t := by rw [hr]
  obtain ⟨⟨hcore, hothers⟩, hm⟩ := coreFinish_ends (f := coreSet k φ) (M := t.mem) hrise hcsr (by rw [hmem]; rfl)
  have hcounted := hret.core
  rw [hof] at hcounted
  exact ⟨_, hcounted, ⟨hcore, fun j hj => (hothers j hj).trans (hof j.val)⟩, hm⟩

theorem windowLoad_done {k rd : Nat} {v : Word} {s t u : State} {addr : Word} (hI : Inv s) (hcores : t.cores = s.cores)
    (hu : u = coreFinish k [0x09] addr (coreSet k (fun c => c.setGr rd v)) t) :
    Retired k rd v ((s.coreOf k).pc + 4) s u ∧ u.mem = t.mem := by
  obtain ⟨d, hd, hends, hm⟩ := coreFinish_accessed (k := k) (evs := [0x09]) (addr := addr) (φ := fun c => c.setGr rd v) hI hcores
  rw [hu]
  exact ⟨hends.retired (coreSet_setGr hd (hI.coreOf_formed k).g rd v), hm⟩

theorem windowStore_done {k : Nat} {s t u : State} {addr : Word} (hI : Inv s) (hcores : t.cores = s.cores)
    (hu : u = coreFinish k [0x0A] addr (coreSet k (fun c => { c with post := c.pc })) t) :
    Retired k 0 0 ((s.coreOf k).pc + 4) s u ∧ (u.coreOf k).post = (s.coreOf k).pc ∧ u.mem = t.mem := by
  obtain ⟨d, hd, hends, hm⟩ := coreFinish_accessed (k := k) (evs := [0x0A]) (addr := addr)
    (φ := fun c => { c with post := c.pc }) hI hcores
  have hpc : d.pc = (s.coreOf k).pc := by
    obtain ⟨⟨_, _, _, rfl⟩, -, -⟩ := hd
    rfl
  rw [hpc] at hends
  obtain ⟨hg, hpc', hpriv, hcsr⟩ := CoreStep.jump hd ((s.coreOf k).pc + 4)
  rw [hu]
  refine ⟨hends.retired ⟨hg, rfl, hpriv, hcsr⟩, ?_, hm⟩
  obtain ⟨⟨a, b, hcore⟩, -⟩ := hends
  rw [hcore]

theorem windowRefused_done {k rd : Nat} {a : Word} {s u : State} (hI : Inv s) (h6 : (s.coreOf k).csrF csrSTATUS 6 6 = 0)
    (h7 : k < 16 ∨ (s.coreOf k).csrF csrSTATUS 7 7 = 0) (hu : u = coreTrap k 4 (some a) (s.setCore k ((s.coreOf k).setGr rd 0))) :
    (u.coreOf k).gr rd = 0 ∧ (u.coreOf k).getCsr 0x021 = (s.coreOf k).pc ∧ (u.coreOf k).getCsr 0x022 = 4 ∧
      (u.coreOf k).getCsr 0x023 = a ∧ u.mem = s.mem ∧ u.regs = s.regs := by
  have hown := State.coreOf_setCore_same k ((s.coreOf k).setGr rd 0) hI.cores_rising
  have hrise := State.setCore_rising k ((s.coreOf k).setGr rd 0) hI.cores_rising
  obtain ⟨m, hm⟩ := (s.coreOf k).setGr_frame rd 0
  have hgr := CoreSt.gr_setGr rd rd 0 (hI.coreOf_formed k).g
  have hpc : ((s.setCore k ((s.coreOf k).setGr rd 0)).coreOf k).pc = (s.coreOf k).pc := by rw [hown, hm]
  have hstatus (hi lo : Nat) : ((s.setCore k ((s.coreOf k).setGr rd 0)).coreOf k).csrF csrSTATUS hi lo = (s.coreOf k).csrF csrSTATUS hi lo := by
    rw [hown, hm]
    rfl
  have henters := coreTrapAt_enters (k := k) (cause := 4) (ret := (s.coreOf k).pc) (addr := some a) hrise
    (by rw [hown, hm]; exact (hI.coreOf_formed k).csr) ((hstatus 6 6).trans h6) (h7.imp id (hstatus 7 7).trans)
  have hue : u = coreTrapAt k 4 (s.coreOf k).pc (some a) (s.setCore k ((s.coreOf k).setGr rd 0)) := by
    rw [hu]
    unfold coreTrap
    rw [hpc]
  rw [← hue] at henters
  obtain ⟨⟨m', n', hframe⟩, htrap, haddr⟩ := henters
  obtain ⟨hret, hcause, -, -, -, -, -, -, hg, -⟩ := htrap
  rw [hown] at hg
  refine ⟨?_, hret, hcause, haddr a rfl, by rw [hframe]; rfl, by rw [hframe]; rfl⟩
  have hgr' : ((s.coreOf k).setGr rd 0).gr rd = 0 := by
    rw [hgr]
    by_cases h0 : rd = 0
    · rw [if_neg (fun h => h.2 h0), h0]
      rfl
    · exact if_pos ⟨rfl, h0⟩
  refine Eq.trans ?_ hgr'
  unfold CoreSt.gr
  rw [hg]

/-! Timers, counters and watchdogs. -/

theorem timerMatch_eq {k : Nat} {s : State} (hst : s.coreState k ≠ 0) (hrun : s.partRuns = true) :
    timerMatch k s = coreIrq k 11 (s.advance (sclkTicks ((s.coreOf k).timerCmp - coreCycle k s) s)) := by
  unfold timerMatch
  rw [hrun, beq_eq_false_iff_ne.mpr hst]
  rfl

theorem watchdogEvent {k : Nat} (hk : k < 18) : (if coreIx (coreIx k) == 16 then 0x472 else 1105 + 2 * coreIx k) =
    if 16 ≤ k then 0x472 else 1105 + 2 * k := by
  rw [coreIx_coreIx]
  by_cases h : 16 ≤ k
  · rw [if_pos h, if_pos (beq_iff_eq.mpr ((coreIx_eq_sixteen hk).mpr h))]
  · rw [if_neg h, if_neg (fun hc => h ((coreIx_eq_sixteen hk).mp (beq_iff_eq.mp hc))), coreIx_of_lt (by omega)]

/-- A watchdog that expires restarts and raises its event; a lane core may be reset by it. -/
theorem wdogExpire_eq {k : Nat} (hk : k < 18) {s t : State} (hen : (s.coreOf k).csrF csrWDOG 31 31 = 1)
    (hst : s.coreState k = 1 ∨ s.coreState k = 2 ∨ s.coreState k = 4) (hrun : s.partRuns = true)
    (ht : t = s.advanceNow ((s.coreOf k).wdogAt + sclkTicks (1024 * (s.coreOf k).csrF csrWDOG 23 0) s))
    (hstop : wdogStops (t.coreState (coreIx k)) = false) :
    wdogExpire k s = if k < 16 ∧ (t.coreOf (coreIx k)).csrF csrWDOG 30 30 = 1 then
      coreReset k ((t.setCore (coreIx k) { t.coreOf (coreIx k) with wdogAt := t.now }).raise (if 16 ≤ k then 0x472 else 1105 + 2 * k))
      else (t.setCore (coreIx k) { t.coreOf (coreIx k) with wdogAt := t.now }).raise (if 16 ≤ k then 0x472 else 1105 + 2 * k) := by
  have hgo : wdogExpire k s = wdogFire (coreIx k) t := by
    have hruns : wdogStops (s.coreState k) = false := by
      rcases hst with h | h | h <;> rw [h] <;> rfl
    unfold wdogExpire
    dsimp only
    rw [hen, hruns, hrun, ht]
    rfl
  have hrestart : wdogRestart (coreIx k) t = t.setCore (coreIx k) { t.coreOf (coreIx k) with wdogAt := t.now } := by
    unfold wdogRestart
    rw [hstop]
    rfl
  rw [hgo]
  unfold wdogFire
  dsimp only
  rw [hrestart, watchdogEvent hk]
  by_cases h : k < 16
  · rw [coreIx_of_lt (by omega)]
    simp only [h, decide_true, Bool.and_true, true_and, beq_iff_eq]
  · have hno : ((t.coreOf (coreIx k)).csrF csrWDOG 30 30 == 1 && decide (coreIx k < 16)) = false := by
      rw [(coreIx_eq_sixteen hk).mpr (by omega)]
      exact Bool.and_false _
    rw [hno, if_neg Bool.false_ne_true, if_neg (c := k < 16 ∧ _) (fun hc => h hc.1)]

/-! Counters. -/

theorem CoreSt.setCnt_rising {c : CoreSt} (i v : Nat) (h : Rising 0 c.csr) : Rising 0 (c.setCnt i v).csr :=
  CoreSt.setCsr_rising _ _ (CoreSt.setCsr_rising _ _ h)

theorem CoreSt.getCsr_setCnt_ne {c : CoreSt} {i j : Nat} (v : Nat) (h : Rising 0 c.csr) (hj : j < 0x090) :
    (c.setCnt i v).getCsr j = c.getCsr j := by
  unfold CoreSt.setCnt
  rw [CoreSt.getCsr_setCsr_ne _ (CoreSt.setCsr_rising _ _ h) (by unfold csrCNT; omega),
    CoreSt.getCsr_setCsr_ne _ h (by unfold csrCNT; omega)]

theorem CoreSt.cntV_setCnt {c : CoreSt} (i : Nat) {v : Nat} (h : Rising 0 c.csr) (hv : v < 2 ^ 48) : (c.setCnt i v).cntV i = v := by
  have h1 := CoreSt.setCsr_rising (csrCNT i) (BitVec.ofNat 32 v) h
  unfold CoreSt.setCnt CoreSt.cntV
  rw [CoreSt.getCsr_setCsr_same _ _ h1, CoreSt.getCsr_setCsr_ne _ h1 (by omega), CoreSt.getCsr_setCsr_same _ _ h,
    BitVec.toNat_ofNat, BitVec.toNat_ofNat]
  omega

/-- A counter that is not the sampler adds, and wraps at 2^48 with its flag. -/
theorem cntAdd_done {c : CoreSt} {i n : Nat} (hi : i < 8) (h : Rising 0 c.csr) (hsampler : c.isSampler i = false) :
    (cntAdd i n c).cntV i = (c.cntV i + n) % 2 ^ 48 ∧
      (2 ^ 48 ≤ c.cntV i + n → (cntAdd i n c).csrF (0x040 + i) 28 28 = 1) := by
  unfold cntAdd
  split
  next hlt =>
    rw [Nat.mod_eq_of_lt hlt]
    exact ⟨CoreSt.cntV_setCnt i h hlt, fun hge => absurd hlt (Nat.not_lt.mpr hge)⟩
  next =>
    have hr := CoreSt.setCsr_rising (csrCNTSEL i) (fset (c.getCsr (csrCNTSEL i)) 28 28 1) h
    have hmod : (c.cntV i + n) % 2 ^ 48 < 2 ^ 48 := Nat.mod_lt _ (by decide)
    have hplain : cntWrap i ((c.cntV i + n) % 2 ^ 48) c = (c.setCsrF (csrCNTSEL i) 28 28 1).setCnt i ((c.cntV i + n) % 2 ^ 48) := by
      have hcfg : ((c.setCsrF (csrCNTSEL i) 28 28 1).setCnt i ((c.cntV i + n) % 2 ^ 48)).getCsr csrSAMPLECFG = c.getCsr csrSAMPLECFG := by
        rw [CoreSt.getCsr_setCnt_ne (c := c.setCsrF (csrCNTSEL i) 28 28 1) _ hr (by decide)]
        exact CoreSt.getCsr_setCsr_ne _ h (by unfold csrSAMPLECFG csrCNTSEL; omega)
      have hno : ((c.setCsrF (csrCNTSEL i) 28 28 1).setCnt i ((c.cntV i + n) % 2 ^ 48)).isSampler i = false := by
        unfold CoreSt.isSampler CoreSt.csrF at hsampler ⊢
        rw [hcfg]
        exact hsampler
      unfold cntWrap
      dsimp only
      rw [hno]
      rfl
    rw [hplain]
    refine ⟨CoreSt.cntV_setCnt i hr hmod, fun _ => ?_⟩
    unfold CoreSt.csrF
    rw [CoreSt.getCsr_setCnt_ne (c := c.setCsrF (csrCNTSEL i) 28 28 1) _ hr (by omega)]
    refine (congrArg (fun w => fget w 28 28) (CoreSt.getCsr_setCsr_same (csrCNTSEL i) _ h)).trans ?_
    exact fget_fset_same _ _ _ (by decide)

/-- Settles O42: CSR accesses, IDLE, DRAIN and the window by the rule of an instruction that completes; timers, counters
and watchdogs directly. -/
theorem coreSystem : Obligations.CoreSystem := by
  unfold Obligations.CoreSystem
  refine ⟨fun k rd ra csr s hI h hp hn => ?_, fun k s hI h hinj => ?_, fun k rd ra imm s hI h => ?_, fun k s hst hrun => ?_,
    fun k i n s hI hon hsampler => ?_, fun k s hen hst hrun _ => ?_⟩
  · exact ⟨csr_done (op := 0) (ra := ra) hI h hp hn (by decide) rfl, csr_done (op := 1) hI h hp hn (by decide) rfl,
      csr_done (op := 2) hI h hp hn (by decide) rfl, csr_done (op := 3) hI h hp hn (by decide) rfl⟩
  · refine ⟨fun hline hnmt hcnt hsample => ⟨_, h.exec rfl, isaIdle_waits (s := s.fresh) hI h.coreState hinj hcnt hsample hline hnmt rfl⟩,
      fun hline hcnt hsample => ⟨_, h.exec rfl, isaIdle_wakes (s := s.fresh) hI h.coreState hinj hcnt hsample hline rfl⟩,
      fun hpost => ⟨_, h.exec rfl, ?_⟩, fun hpost => ?_⟩
    · have hdrain : isaDrain k.val s.fresh = coreFinish k.val [] 0 (coreSet k.val id) s.fresh :=
        if_neg (by rw [show storeWaits k.val s.fresh = false from hpost]; exact Bool.false_ne_true)
      rw [hdrain, setGr_zero]
      exact coreSet_retDone (s := s.fresh) hI h.coreState fun _ _ => rfl
    · have hdrain : isaDrain k.val s.fresh = s.fresh := if_pos hpost
      exact (h.exec rfl).trans (by rw [hdrain])
  · intro c a host hlo hhi hal hpost hrel r
    refine ⟨fun hmay hdone hcores => ⟨_, h.exec rfl, ?_⟩, fun hmay hdone hcores => ⟨_, h.exec rfl, ?_⟩, fun hmay h6 h7 => ⟨_, h.exec rfl, ?_⟩⟩
    · exact windowLoad_done hI hcores (isaLoad_window (s := s.fresh) (a := a) rfl hlo hhi hal hpost ((coreMay_fresh _ _ _ _ _).trans hmay) rfl hdone)
    · exact windowStore_done hI hcores (isaStore_window (s := s.fresh) (a := a) rfl hlo hhi hal hpost hrel
        ((coreMay_fresh _ _ _ _ _).trans hmay) rfl hdone)
    · exact windowRefused_done (s := s.fresh) hI h6 h7 (isaLoad_window_refused (s := s.fresh) (a := a) rfl hlo hhi hal hpost
        ((coreMay_fresh _ _ _ _ _).trans hmay))
  · exact exec_closed (f := timerMatch k.val) rfl (timerMatch_eq (s := s.fresh) hst hrun)
  · have hown := State.coreOf_setCore_same (s := s.fresh) k.val (cntAdd i.val n.toNat (s.coreOf k.val)) hI.cores_rising
    have hrun : counterRun k.val i.val n.toNat s.fresh = s.fresh.setCore k.val (cntAdd i.val n.toNat (s.coreOf k.val)) := if_pos hon
    refine ⟨_, exec_closed (f := counterRun k.val i.val n.toNat) rfl hrun, ?_⟩
    obtain ⟨hv, hovf⟩ := cntAdd_done i.isLt (hI.coreOf_formed k.val).csr hsampler
    obtain ⟨⟨_, _, _, hframe⟩, -, -⟩ := cntAdd_counted i.val n.toNat (CoreCounted.refl (hI.coreOf_formed k.val).csr)
    rw [hown]
    exact ⟨hv, hovf, by rw [hframe], by rw [hframe]⟩
  · intro t j hstop r
    exact exec_closed (f := wdogExpire k.val) rfl (wdogExpire_eq (s := s.fresh) k.isLt hen hst hrun rfl hstop)

end Sys2Proof.Machine
end

section
/-! A served write of a block with a clock gate, and calibration runs (R436, R437, R478 to R481). -/

namespace Sys2Proof.Machine

/-! The clock gate of a block that is written. -/

/-- The registers that opening a clock gate writes. -/
def GateKey (j : Nat) : Prop := j = clkB + 0x44 ∨ j = clkB + 0x4C

theorem gateWake_frame (g : Nat) (s : State) : ∃ m c, gateWake g s = { s with regs := m, clk := c } := by
  unfold gateWake
  split
  · exact ⟨_, _, rfl⟩
  · exact ⟨_, _, rfl⟩

theorem gateWake_touches (g : Nat) (s : State) : Touches GateKey s (gateWake g s) := by
  unfold gateWake gateRequest gateSet
  split
  · have hset : Touches GateKey s (s.wr clkB R.CLK_GATE_STAT_CLOSED _) :=
      (Touches.refl _ s).wr (if false then setBit (s.rd clkB R.CLK_GATE_STAT_CLOSED) g else clrBit (s.rd clkB R.CLK_GATE_STAT_CLOSED) g) (.inl rfl)
    exact (hset.cnt (f := R.CLK_GATE_CNT_WAKES) 1 (.inr rfl)).trans (.of_regs rfl)
  · exact .refl _ s

theorem awake_frame (a : Nat) (s : State) : ∃ m c, awake a s = { s with regs := m, clk := c } := by
  unfold awake
  split
  · exact gateWake_frame _ s
  · exact ⟨_, _, rfl⟩

theorem awake_touches (a : Nat) (s : State) : Touches GateKey s (awake a s) := by
  unfold awake
  split
  · exact gateWake_touches _ s
  · exact .refl _ s

/-- The state with the written word stored in a plain register of a block, whose gate is open. -/
def storedAwake (b : Blk) (off a : Nat) (w : Word) (s : State) : State :=
  (awake a s.fresh).setReg a (writtenWord b off a w ((awake a s.fresh).getReg a))

/-- A served write of a plain register of a block with a clock gate. -/
theorem served_gated {m : Master} {a : Nat} {w : Word} {s : State} {b : Blk} {off : Nat} (h : Served m true a w s)
    (hp : place a = .reg b off) (hf : (findReg b off).isSome = true) (ho : ownWrite m b off w (awake a s.fresh) = none)
    (hk : effKey b off (awake a s.fresh) = some a) (hlk : Unlocked b off a (awake a s.fresh))
    (hst : (keyFlds a).any (fun f => f.acc == .st) = false) :
    writeCmd m a w s.fresh = answered m a true 0 .done (regHook m b off ((awake a s.fresh).getReg a) w (storedAwake b off a w s)) := by
  rw [served_wrote h hp hf ho hk hlk, wrote, legacyAfter_plain hst, stored_plain hp hk hlk hst]
  rfl

/-- What storing a word in a plain register leaves. -/
structure StoredAwake (a : Nat) (v : Word) (s t : State) : Prop where
  frame : ∃ m c, t = { s.fresh with regs := m, clk := c }
  rising : Rising 0 t.regs
  word : t.getReg a = v
  regs : ∀ j, j ≠ a → ¬ GateKey j → t.getReg j = s.getReg j

theorem storedAwake_stored {b : Blk} {off a : Nat} {w : Word} {s : State} (hr : Rising 0 s.regs) :
    StoredAwake a (writtenWord b off a w ((awake a s.fresh).getReg a)) s (storedAwake b off a w s) := by
  obtain ⟨m, c, hf⟩ := awake_frame a s.fresh
  obtain ⟨hrt, hkeep⟩ := awake_touches a s.fresh hr
  unfold storedAwake
  refine ⟨?_, State.setReg_rising _ _ _ hrt, State.getReg_setReg_same _ _ _ hrt, fun j hj hg => ?_⟩
  · rw [hf]
    exact ⟨_, c, rfl⟩
  · rw [State.getReg_setReg_ne _ _ hrt hj]
    exact hkeep j hg

/-! A calibration run starts. -/

/-- A run cannot start: one runs, the converter is stopped or calibrates itself. -/
abbrev calBusy (op : Nat) (s : State) : Prop :=
  s.hk.run.isSome = true ∨ s.hkRun = false ∨ (op = 1 ∧ s.on hkB R.HK_STATUS_SC_BUSY = true)

theorem calStart_refused {s : State} (h : calBusy (s.rd calB R.CAL_CMD_OP) s) : calStart s = s.wr calB R.CAL_STATUS_RESULT 1 := by
  unfold calStart
  refine if_pos ?_
  rcases h with h | h | ⟨hop, hsc⟩
  · simp [h]
  · simp [h]
  · simp [hop, hsc]

/-- The run that starts. -/
def calRunNew (s : State) : CalRun := ⟨s.rd calB R.CAL_CMD_OP, s.rd calB R.CAL_CMD_ARG, s.hk.injCal, false, s.now⟩

/-- OP 2 clears CALCLK_OK as it starts (log entry 123). -/
def calclkCleared (s : State) : State :=
  { s.wr clkB R.CLK_STATUS_CALCLK_OK 0 with clk := { s.clk with
    good := eraseKey s.clk.good 3, bad := eraseKey s.clk.bad 3, decl := eraseKey s.clk.decl 3 } }

theorem calStart_starts {s : State} (h : ¬ calBusy (s.rd calB R.CAL_CMD_OP) s) (hlo : 0 < s.rd calB R.CAL_CMD_OP) (hhi : s.rd calB R.CAL_CMD_OP ≤ 4) :
    let t := (s.wr calB R.CAL_STATUS_BUSY 1).wr calB R.CAL_STATUS_LAST_OP (s.rd calB R.CAL_CMD_OP)
    let u := if s.rd calB R.CAL_CMD_OP == 2 then calclkCleared t else t
    calStart s = { u with hk := { u.hk with run := some (calRunNew s), injCal := false } } := by
  simp only [calBusy, not_or, not_and, Bool.not_eq_true, Bool.not_eq_false] at h
  obtain ⟨hrun, hhk, hsc⟩ := h
  have hno : (s.hk.run.isSome || (s.rd calB R.CAL_CMD_OP == 1 && s.on hkB R.HK_STATUS_SC_BUSY) || !s.hkRun ||
      s.rd calB R.CAL_CMD_OP == 0 || decide (4 < s.rd calB R.CAL_CMD_OP)) = false := by
    rw [hrun, hhk, beq_eq_false_iff_ne.mpr (Nat.ne_of_gt hlo), decide_eq_false (Nat.not_lt.mpr hhi)]
    by_cases h1 : s.rd calB R.CAL_CMD_OP = 1
    · rw [hsc h1]; simp
    · rw [beq_eq_false_iff_ne.mpr h1]; rfl
  intro t u
  unfold calStart
  dsimp only
  rw [hno]
  rfl

/-- A word of CAL.CMD that starts operation op. -/
def calWord (w : Word) (op : Nat) : Word := fset (fset w 19 16 op) 31 31 1

theorem calWord_op (w : Word) {op : Nat} (hop : op < 16) : fget (calWord w op) 19 16 = op := by
  unfold calWord
  rw [fget_fset_beside _ _ _ _ _ _ (.inr (by decide)), fget_fset_same _ _ _ (by decide)]
  exact Nat.mod_eq_of_lt hop

theorem calWord_arg (w : Word) (op : Nat) : fget (calWord w op) 15 0 = fget w 15 0 := by
  unfold calWord
  rw [fget_fset_beside _ _ _ _ _ _ (.inr (by decide)), fget_fset_beside _ _ _ _ _ _ (.inr (by decide))]

/-- A served write of CAL.CMD. -/
theorem calCmd_write {m : Master} {w : Word} {s : State} {op : Nat} (h : Served m true 0x60000 (calWord w op) s) :
    writeCmd m 0x60000 (calWord w op) s.fresh =
      answered m 0x60000 true 0 .done (calStart (storedAwake .cal 0 0x60000 (calWord w op) s)) := by
  rw [served_gated h rfl rfl rfl rfl (.inr (by decide +kernel)) (by decide +kernel)]
  have hhot : hot (calWord w op) 31 = true := fset_bit _ (by decide)
  show answered m 0x60000 true 0 .done (if hot (calWord w op) 31 then calStart _ else _) = _
  rw [hhot]
  rfl

/-- What a start of a run leaves (R479). -/
structure CalStarts (op arg : Nat) (s u : State) : Prop where
  raised : u.raised = s.raised
  mem : u.mem = s.mem
  refused : calBusy op s → u.rd calB R.CAL_STATUS_RESULT = 1 ∧ u.hk = s.hk ∧ u.on calB R.CAL_STATUS_BUSY = s.on calB R.CAL_STATUS_BUSY
  starts : ¬ calBusy op s → u.on calB R.CAL_STATUS_BUSY = true ∧ u.rd calB R.CAL_STATUS_LAST_OP = op ∧
    u.hk = { s.hk with run := some ⟨op, arg, s.hk.injCal, false, s.now⟩, injCal := false } ∧
    (op = 2 → u.on clkB R.CLK_STATUS_CALCLK_OK = false)

theorem State.on_congr {s t : State} {b : Nat} {f : Fld} (h : t.rd b f = s.rd b f) : t.on b f = s.on b f := by
  unfold State.on
  rw [h]

theorem State.on_of_rd {s : State} {b : Nat} {f : Fld} {n : Nat} (h : s.rd b f = n) : s.on b f = (n != 0) := by
  unfold State.on
  rw [h]

theorem answered_rd {m : Master} {a : Nat} {wr : Bool} {x : Word} {c : AccSt} {u : State} {b : Nat} {f : Fld} :
    (answered m a wr x c u).rd b f = u.rd b f := rfl

theorem answered_on {m : Master} {a : Nat} {wr : Bool} {x : Word} {c : AccSt} {u : State} {b : Nat} {f : Fld} :
    (answered m a wr x c u).on b f = u.on b f := rfl

theorem calclkCleared_rd {s : State} {b : Nat} {f : Fld} : (calclkCleared s).rd b f = (s.wr clkB R.CLK_STATUS_CALCLK_OK 0).rd b f := rfl

theorem calclkCleared_kept (s : State) :
    (calclkCleared s).raised = s.raised ∧ (calclkCleared s).mem = s.mem ∧ (calclkCleared s).hk = s.hk := ⟨rfl, rfl, rfl⟩

theorem State.rd_hk {s : State} (h : HkSt) {b : Nat} {f : Fld} : ({ s with hk := h } : State).rd b f = s.rd b f := rfl

theorem calCmd_starts {m : Master} {w : Word} {s u : State} {op : Nat} (hr : Rising 0 s.regs) (hlo : 0 < op) (hhi : op ≤ 4)
    (h : Served m true 0x60000 (calWord w op) s) (hu : u = writeCmd m 0x60000 (calWord w op) s.fresh) :
    CalStarts op (fget w 15 0) s u := by
  have hst := storedAwake_stored (b := .cal) (off := 0) (a := 0x60000) (w := calWord w op) hr
  have hword (hi lo : Nat) (hp : plainField (keyFlds 0x60000) hi lo = true) :=
    fget_writtenWord (b := .cal) (off := 0) (calWord w op) ((awake 0x60000 s.fresh).getReg 0x60000) (fun _ _ => rfl) hp
  rw [calCmd_write h] at hu
  generalize storedAwake .cal 0 0x60000 (calWord w op) s = t at hst hu
  generalize writtenWord .cal 0 0x60000 (calWord w op) ((awake 0x60000 s.fresh).getReg 0x60000) = v at hst hword
  obtain ⟨⟨m', c', hframe⟩, hrt, hv, hkeep⟩ := hst
  have hop : t.rd calB R.CAL_CMD_OP = op := by
    refine (congrArg (fun x => fget x 19 16) hv).trans ((hword 19 16 (by decide +kernel)).trans (calWord_op w (by omega)))
  have harg : t.rd calB R.CAL_CMD_ARG = fget w 15 0 :=
    (congrArg (fun x => fget x 15 0) hv).trans ((hword 15 0 (by decide +kernel)).trans (calWord_arg w op))
  have hsame (b : Nat) (f : Fld) (hj : b + f.off ≠ 0x60000) (hg : ¬ GateKey (b + f.off)) : t.rd b f = s.rd b f := by
    unfold State.rd
    rw [hkeep _ hj hg]
  have hhk : t.hk = s.hk := by rw [hframe]; rfl
  have hbusy : calBusy op t ↔ calBusy op s := by
    have hrun : t.hkRun = s.hkRun := State.on_congr (hsame hkB R.HK_CTRL_RUN (by decide) (by unfold GateKey; decide))
    have hsc : t.on hkB R.HK_STATUS_SC_BUSY = s.on hkB R.HK_STATUS_SC_BUSY :=
      State.on_congr (hsame hkB R.HK_STATUS_SC_BUSY (by decide) (by unfold GateKey; decide))
    unfold calBusy
    rw [hhk, hrun, hsc]
  by_cases hno : calBusy op s
  · rw [calStart_refused (by rw [hop]; exact hbusy.mpr hno)] at hu
    refine ⟨by rw [hu, hframe]; rfl, by rw [hu, hframe]; rfl, fun _ => ⟨?_, ?_, ?_⟩, fun hc => absurd hno hc⟩
    · rw [hu, answered_rd]
      exact State.rd_wr_same t calB R.CAL_STATUS_RESULT 1 hrt (by decide)
    · rw [hu, ← hhk]
      rfl
    · rw [hu, answered_on]
      refine (State.on_congr (State.rd_wr_apart (b := calB) hrt (by decide))).trans ?_
      exact State.on_congr (hsame calB R.CAL_STATUS_BUSY (by decide) (by unfold GateKey; decide))
  · have hstart := calStart_starts (s := t) (by rw [hop]; exact fun hc => hno (hbusy.mp hc)) (by rw [hop]; exact hlo) (by rw [hop]; exact hhi)
    dsimp only at hstart
    rw [hop] at hstart
    have hnew : calRunNew t = ⟨op, fget w 15 0, s.hk.injCal, false, s.now⟩ := by
      unfold calRunNew
      rw [hop, harg, hhk, hframe]
      rfl
    generalize hx : (t.wr calB R.CAL_STATUS_BUSY 1).wr calB R.CAL_STATUS_LAST_OP op = x at hstart
    have hrx : Rising 0 x.regs := by rw [← hx]; exact State.wr_rising _ _ _ _ (State.wr_rising _ _ _ _ hrt)
    have hrd (g : Fld) (hg : g.hi < 32)
        (hl : [(R.CAL_STATUS_BUSY, 1), (R.CAL_STATUS_LAST_OP, op)].all (fun y => decide (y.1 = g) || apart y.1 g) = true) :
        x.rd calB g = lastWritten g [(R.CAL_STATUS_BUSY, 1), (R.CAL_STATUS_LAST_OP, op)] (t.rd calB g) := by
      rw [← hx]
      exact State.rd_wrs (l := [(R.CAL_STATUS_BUSY, 1), (R.CAL_STATUS_LAST_OP, op)]) hrt hg hl
    have hxframe : x.raised = s.raised ∧ x.mem = s.mem ∧ x.hk = s.hk := by
      rw [← hx, hframe]
      exact ⟨rfl, rfl, rfl⟩
    have hbusy1 : x.rd calB R.CAL_STATUS_BUSY = 1 := hrd R.CAL_STATUS_BUSY (by decide) rfl
    have hlast : x.rd calB R.CAL_STATUS_LAST_OP = op := (hrd R.CAL_STATUS_LAST_OP (by decide) rfl).trans (Nat.mod_eq_of_lt (by
      show op < 2 ^ 4
      omega))
    rw [hnew] at hstart
    have hcalclk (y : State) (hy : y = if op == 2 then calclkCleared x else x) :
        y.rd calB R.CAL_STATUS_BUSY = 1 ∧ y.rd calB R.CAL_STATUS_LAST_OP = op ∧ y.raised = s.raised ∧ y.mem = s.mem ∧ y.hk = s.hk ∧
          (op = 2 → y.rd clkB R.CLK_STATUS_CALCLK_OK = 0) := by
      obtain ⟨hxraised, hxmem, hxhk⟩ := hxframe
      subst hy
      split
      · rw [calclkCleared_rd, calclkCleared_rd, calclkCleared_rd, State.rd_wr_ne x _ _ _ _ _ hrx (by decide),
          State.rd_wr_ne x _ _ _ _ _ hrx (by decide)]
        obtain ⟨hraised, hmem, hhk'⟩ := calclkCleared_kept x
        exact ⟨hbusy1, hlast, hraised.trans hxraised, hmem.trans hxmem, hhk'.trans hxhk, fun _ => State.rd_wr_same x clkB R.CLK_STATUS_CALCLK_OK 0 hrx (by decide)⟩
      next h2 => exact ⟨hbusy1, hlast, hxraised, hxmem, hxhk, fun h => absurd (beq_iff_eq.mpr h) h2⟩
    generalize (if (op == 2) = true then calclkCleared x else x) = y at hstart hcalclk
    obtain ⟨hb, hl, hraised, hmem, hyhk, hc⟩ := hcalclk y rfl
    rw [hstart, hyhk] at hu
    refine ⟨by rw [hu]; exact hraised, by rw [hu]; exact hmem, fun hc => absurd hc hno, fun _ => ⟨?_, ?_, by rw [hu]; rfl, fun h2 => ?_⟩⟩
    · rw [hu, answered_on, State.on_congr (State.rd_hk _), State.on_of_rd hb]
      rfl
    · rw [hu, answered_rd, State.rd_hk]
      exact hl
    · rw [hu, answered_on, State.on_congr (State.rd_hk _), State.on_of_rd (hc h2)]
      rfl

end Sys2Proof.Machine
end

section
/-! The end of a calibration run, and what each operation writes (R478 to R481). -/

namespace Sys2Proof.Machine

/-! What writing a calibration's targets keeps. -/

/-- True time, memory and a held self-calibration stand, and the register map stays canonical. -/
structure CalKept (s t : State) : Prop where
  now : t.now = s.now
  mem : t.mem = s.mem
  held : t.hk.scHeld = s.hk.scHeld
  rising : Rising 0 s.regs → Rising 0 t.regs

theorem CalKept.refl (s : State) : CalKept s s := ⟨rfl, rfl, rfl, id⟩

theorem CalKept.trans {s t u : State} (h : CalKept s t) (h' : CalKept t u) : CalKept s u :=
  ⟨h'.now.trans h.now, h'.mem.trans h.mem, h'.held.trans h.held, fun hr => h'.rising (h.rising hr)⟩

theorem CalKept.wr {s t : State} (h : CalKept s t) (b : Nat) (f : Fld) (v : Nat) : CalKept s (t.wr b f v) :=
  h.trans ⟨rfl, rfl, rfl, State.wr_rising t b f v⟩

theorem CalKept.raise {s t : State} (h : CalKept s t) {id : Nat} (hid : id < 1152) : CalKept s (t.raise id) := by
  refine h.trans ?_
  have hrise := fun hr => State.raise_rising (s := t) id hr hid
  obtain ⟨_, _, _, _, he⟩ := RaiseFrame.raise t id
  rw [he] at hrise ⊢
  exact ⟨rfl, rfl, rfl, hrise⟩

theorem CalKept.foldl {α : Type} {s t : State} {f : State → α → State} (l : List α) (h : CalKept s t)
    (hf : ∀ u x, CalKept u (f u x)) : CalKept s (l.foldl f t) := by
  induction l generalizing t with
  | nil => exact h
  | cons x l ih => exact ih (h.trans (hf t x))

theorem rxTrimPut_calKept (n i : Nat) (w : Word) (s : State) : CalKept s (rxTrimPut n i w s) := by
  have hwr (c : Bool) (b : Nat) (f : Fld) (v : Nat) (t : State) : CalKept t (if c then t.wr b f v else t) := by
    cases c
    · exact .refl t
    · exact (CalKept.refl t).wr b f v
  unfold rxTrimPut
  dsimp only
  split
  · exact .refl s
  · exact (((hwr _ _ _ _ s).trans (hwr _ _ _ _ _)).trans (hwr _ _ _ _ _)).trans ⟨rfl, rfl, rfl, id⟩

theorem calTargets_calKept (num : Nat) (v : List Int) (s : State) : CalKept s (calTargets num v s) := by
  unfold calTargets
  dsimp only
  split
  · exact .foldl _ (.refl s) fun t j => rxTrimPut_calKept _ _ _ t
  · exact .foldl _ (.refl s) fun t j => (((CalKept.refl t).wr _ _ _).wr _ _ _).wr _ _ _
  · exact (CalKept.refl s).wr _ _ _
  · exact ⟨rfl, rfl, rfl, id⟩
  · exact .foldl _ (.refl s) fun t j => (CalKept.refl t).wr _ _ _
  · split
    · exact ((CalKept.refl s).wr _ _ _).wr _ _ _
    · exact .refl s
  · exact ((CalKept.refl s).wr _ _ _).trans ⟨rfl, rfl, rfl, id⟩

/-- The marks of a set that is applied: an armed clamp spent, a free value drawn, the flags, the event. -/
def calMarks (num : Nat) (c : CalSet) (inj free now : Bool) (s : State) : State :=
  let s := if inj then { s with hk := { s.hk with injRange := 0 } } else s
  let s := if free then s.drawn else s
  let s := s.wr (calB' num) R.CAL_SET_STAT_CLAMPED (b2n now)
  let s := { s with calSets := put CalSet.none s.calSets num { c with clamped := now } }
  if now && !c.clamped then s.raise 0x40C else s

theorem calMarks_calKept (num : Nat) (c : CalSet) (inj free now : Bool) (s : State) : CalKept s (calMarks num c inj free now s) := by
  have hinj : CalKept s (if inj then { s with hk := { s.hk with injRange := 0 } } else s) := by
    cases inj
    · exact .refl s
    · exact ⟨rfl, rfl, rfl, id⟩
  have hfree (t : State) : CalKept t (if free then t.drawn else t) := by
    cases free
    · exact .refl t
    · exact ⟨rfl, rfl, rfl, id⟩
  have hset (t : State) (v : CalSet) : CalKept t { t with calSets := put CalSet.none t.calSets num v } := ⟨rfl, rfl, rfl, id⟩
  have hall := (((hinj.trans (hfree _)).wr (calB' num) R.CAL_SET_STAT_CLAMPED (b2n now)).trans (hset _ { c with clamped := now }))
  unfold calMarks
  dsimp only
  split
  · exact hall.raise (by decide)
  · exact hall

theorem calApply_calKept (num : Nat) (s : State) : CalKept s (calApply num s) := by
  unfold calApply
  dsimp only
  split
  · exact .refl s
  · exact (calMarks_calKept num _ _ _ _ s).trans (calTargets_calKept _ _ _)

/-- A run's outcome keeps them. -/
theorem calOutcome_calKept {r : CalRun} {x : CalMeas} {s : State} {o : Nat × State} (h : calOutcome r x s = some o) : CalKept s o.2 := by
  unfold calOutcome at h
  split at h
  · dsimp only at h
    split at h
    · cases h
      exact (CalKept.refl s).wr _ _ _
    · cases h
      exact .refl s
  · dsimp only at h
    split at h
    · cases h
      exact .refl s
    · cases h
      dsimp only
      split
      · exact ((CalKept.refl s).wr _ _ _).wr _ _ _
      · exact ((((CalKept.refl s).wr _ _ _).wr _ _ _).wr _ _ _).wr _ _ _
  · dsimp only at h
    split at h
    · cases h
      exact .refl s
    · cases h
      exact .foldl _ (.refl s) fun t j => (CalKept.refl t).wr _ _ _
  · cases h
    exact .foldl _ (.refl s) fun t k => calApply_calKept k t
  · cases h

/-! The end of a run. -/

/-- The result of a run shows. -/
def calShown (res : Nat) (s : State) : State := (s.wr calB R.CAL_STATUS_BUSY 0).wr calB R.CAL_STATUS_RESULT res

/-- No run is in progress. -/
def calIdle (s : State) : State := { s with hk := { s.hk with run := none } }

/-- The event of a run's end. -/
def calEvent (res : Nat) : Nat := if res == 0 then 0x40A else 0x40B

/-- The converter goes on. -/
def calResumed (op : Nat) (s : State) : State := if s.hk.scHeld then selfcalStart s else if op == 1 then hkResume s else s

/-- A run is over: its result shows, its event is raised, and the converter goes on. -/
def calEnded (op res : Nat) (s : State) : State := calResumed op ((calIdle (calShown res s)).raise (calEvent res))

/-- The targets of a run whose result is 0, and the marks of one that was made to fail. -/
def calWrites (r : CalRun) (res : Nat) (t s : State) : State :=
  let s := if res == 0 then t else s
  if r.inj && r.op == 4 then (calChosen r.arg s).foldl (fun s k =>
    (s.wr (calB' k) R.CAL_SET_STAT_FAIL 1).wr (calB' k) R.CAL_SET_STAT_CAUSE 6) s else s

theorem calWrites_calKept {r : CalRun} {res : Nat} {s t : State} (h : CalKept s t) : CalKept s (calWrites r res t s) := by
  have hone : CalKept s (if res == 0 then t else s) := by
    split
    · exact h
    · exact .refl s
  unfold calWrites
  dsimp only
  split
  · exact .foldl _ hone fun u k => ((CalKept.refl u).wr _ _ _).wr _ _ _
  · exact hone

theorem calDone_eq {x : CalMeas} {s : State} {r : CalRun} {q : Nat} {t : State} (hrun : s.hk.run = some r) (hbb : s.bbOn = true)
    (hgate : s.gateShut 12 = false) (hup : r.op = 1 → s.hkUp = true)
    (ho : calOutcome r x (s.advanceNow (r.at_ + calTime r.op)) = some (q, t)) :
    calDone x s = calEnded r.op (if r.inj then 5 else q)
      (calWrites r (if r.inj then 5 else q) t (s.advanceNow (r.at_ + calTime r.op))) := by
  have hno : (!s.bbOn || s.gateShut 12 || (r.op == 1 && !s.hkUp)) = false := by
    rw [hbb, hgate]
    by_cases h1 : r.op = 1
    · rw [hup h1]; simp
    · rw [beq_eq_false_iff_ne.mpr h1]; rfl
  unfold calDone
  rw [hrun]
  dsimp only
  rw [hno, ho]
  rfl

/-- What the converter keeps as it goes on. -/
theorem hkResume_kept (s : State) : (hkResume s).hk.run = s.hk.run ∧ (hkResume s).now = s.now ∧ (hkResume s).mem = s.mem ∧
    (hkResume s).raised = s.raised := by
  unfold hkResume dwellStart
  split
  · exact ⟨rfl, rfl, rfl, rfl⟩
  · exact ⟨rfl, rfl, rfl, rfl⟩

theorem hkResume_getReg {s : State} {j : Nat} (hr : Rising 0 s.regs) (hj : j ≠ hkB + 4) : (hkResume s).getReg j = s.getReg j := by
  have hwr := State.wr_rising s hkB R.HK_STATUS_RUNNING 1 hr
  unfold hkResume dwellStart
  split
  · exact (State.getReg_wr_ne (s.wr hkB R.HK_STATUS_RUNNING 1) _ hwr hj).trans (State.getReg_wr_ne s _ hr hj)
  · rfl

theorem State.raise_hk (s : State) (id : Nat) : (s.raise id).hk = s.hk := by
  obtain ⟨_, _, _, _, h⟩ := RaiseFrame.raise s id
  rw [h]

theorem calShown_done {res : Nat} {s : State} (hr : Rising 0 s.regs) : Rising 0 (calShown res s).regs ∧
    (calShown res s).rd calB R.CAL_STATUS_BUSY = 0 ∧ (calShown res s).rd calB R.CAL_STATUS_RESULT = res % 8 := by
  have hrd (g : Fld) (hg : g.hi < 32)
      (hl : [(R.CAL_STATUS_BUSY, 0), (R.CAL_STATUS_RESULT, res)].all (fun y => decide (y.1 = g) || apart y.1 g) = true) :
      (calShown res s).rd calB g = lastWritten g [(R.CAL_STATUS_BUSY, 0), (R.CAL_STATUS_RESULT, res)] (s.rd calB g) :=
    State.rd_wrs (l := [(R.CAL_STATUS_BUSY, 0), (R.CAL_STATUS_RESULT, res)]) hr hg hl
  exact ⟨State.wr_rising _ _ _ _ (State.wr_rising _ _ _ _ hr), hrd R.CAL_STATUS_BUSY (by decide) rfl, hrd R.CAL_STATUS_RESULT (by decide) rfl⟩

theorem calShown_kept (res : Nat) (s : State) : (calShown res s).now = s.now ∧ (calShown res s).mem = s.mem ∧ (calShown res s).hk = s.hk :=
  ⟨rfl, rfl, rfl⟩

theorem calIdle_kept (s : State) : (calIdle s).now = s.now ∧ (calIdle s).mem = s.mem ∧ (calIdle s).regs = s.regs ∧
    (calIdle s).hk = { s.hk with run := none } := ⟨rfl, rfl, rfl, rfl⟩

/-- What the end of a run leaves. -/
structure CalOver (res : Nat) (s u : State) : Prop where
  run : u.hk.run = none
  busy : u.rd calB R.CAL_STATUS_BUSY = 0
  result : u.rd calB R.CAL_STATUS_RESULT = res % 8
  now : u.now = s.now
  sends : Sends (calEvent res) u
  mem : u.mem = s.mem

theorem calRaised_over {res : Nat} {s : State} (hr : Rising 0 s.regs) : Rising 0 ((calIdle (calShown res s)).raise (calEvent res)).regs ∧
    ((calIdle (calShown res s)).raise (calEvent res)).hk = { s.hk with run := none } ∧
    CalOver res s ((calIdle (calShown res s)).raise (calEvent res)) := by
  obtain ⟨hrx, hbusy, hres⟩ := calShown_done (res := res) hr
  obtain ⟨hnow, hmem, hhk⟩ := calShown_kept res s
  generalize calShown res s = x at hrx hbusy hres hnow hmem hhk
  obtain ⟨hnow', hmem', hregs', hhk'⟩ := calIdle_kept x
  have hrd (f : Fld) : (calIdle x).rd calB f = x.rd calB f := State.rd_hk _
  generalize calIdle x = y at hnow' hmem' hregs' hhk' hrd
  have hid : calEvent res < 1152 := by unfold calEvent; split <;> decide
  have hdom : evDom (calEvent res) = none := by unfold calEvent; split <;> decide
  have hkey : ¬ RaiseKey (calB + 4) := not_raiseKey_tl (by decide) (by decide)
  have hry : Rising 0 y.regs := hregs' ▸ hrx
  have hzhk : (y.raise (calEvent res)).hk = { s.hk with run := none } := by rw [State.raise_hk, hhk', hhk]
  refine ⟨State.raise_rising _ hry hid, hzhk, by rw [hzhk], ?_, ?_, ?_, State.raise_sends (State.evClamped_of_evDom hdom), ?_⟩
  · exact (State.raise_rd hry hid hkey).trans ((hrd _).trans hbusy)
  · exact (State.raise_rd hry hid hkey).trans ((hrd _).trans hres)
  · rw [State.raise_now, hnow', hnow]
  · rw [State.raise_mem_of, hmem', hmem]

theorem calEnded_over {op res : Nat} {s : State} (hr : Rising 0 s.regs) (hheld : s.hk.scHeld = false) : CalOver res s (calEnded op res s) := by
  obtain ⟨hzr, hzhk, hover⟩ := calRaised_over (res := res) hr
  unfold calEnded
  generalize (calIdle (calShown res s)).raise (calEvent res) = z at hzr hzhk hover
  have hz : z.hk.scHeld = false := by rw [hzhk]; exact hheld
  unfold calResumed
  rw [hz, if_neg Bool.false_ne_true]
  split
  · obtain ⟨hrun, hbusy, hres, hnow, ⟨e, hmem_e, hide⟩, hmem⟩ := hover
    obtain ⟨hrun', hnow', hmem', hraised⟩ := hkResume_kept z
    have hreg : (hkResume z).getReg (calB + 4) = z.getReg (calB + 4) := hkResume_getReg hzr (by decide)
    exact ⟨hrun'.trans hrun, (congrArg (fun w => fget w 31 31) hreg).trans hbusy, (congrArg (fun w => fget w 30 28) hreg).trans hres,
      hnow'.trans hnow, ⟨e, by rw [hraised]; exact hmem_e, hide⟩, hmem'.trans hmem⟩
  · exact hover

theorem calDone_done {x : CalMeas} {s u : State} {r : CalRun} {q : Nat} {t : State} (hr : Rising 0 s.regs) (hrun : s.hk.run = some r)
    (hbb : s.bbOn = true) (hgate : s.gateShut 12 = false) (hup : r.op = 1 → s.hkUp = true) (hheld : s.hk.scHeld = false)
    (ho : calOutcome r x (s.advanceNow (r.at_ + calTime r.op)) = some (q, t)) (hu : u = calDone x s) :
    u.hk.run = none ∧ u.on calB R.CAL_STATUS_BUSY = false ∧ u.rd calB R.CAL_STATUS_RESULT = (if r.inj = true then 5 else q) % 8 ∧
      u.now = max s.now (r.at_ + calTime r.op) ∧ Sends (if r.inj = false ∧ q = 0 then 0x40A else 0x40B) u ∧ u.mem = s.mem := by
  obtain ⟨hnow, hmem, hh, hrise⟩ := calWrites_calKept (r := r) (res := if r.inj then 5 else q) (calOutcome_calKept ho)
  have hadv := State.advance_eq s (r.at_ + calTime r.op - s.now)
  rw [calDone_eq hrun hbb hgate hup ho] at hu
  have hfacts : (s.advanceNow (r.at_ + calTime r.op)).mem = s.mem ∧ (s.advanceNow (r.at_ + calTime r.op)).hk = s.hk ∧
      (s.advanceNow (r.at_ + calTime r.op)).regs = s.regs := by
    unfold State.advanceNow
    rw [hadv]
    exact ⟨rfl, rfl, rfl⟩
  obtain ⟨hamem, hahk, haregs⟩ := hfacts
  have hover := calEnded_over (op := r.op) (res := if r.inj then 5 else q) (hrise (haregs ▸ hr)) (hh.trans (by rw [hahk]; exact hheld))
  rw [← hu] at hover
  obtain ⟨hrun', hbusy, hres, hnow', hsends, hmem'⟩ := hover
  refine ⟨hrun', by rw [State.on_of_rd hbusy]; rfl, hres, hnow'.trans (hnow.trans (State.advanceNow_now s _)), ?_, hmem'.trans (hmem.trans hamem)⟩
  unfold calEvent at hsends
  cases hinj : r.inj
  · rw [hinj] at hsends
    simpa using hsends
  · rw [hinj] at hsends
    simpa using hsends

end Sys2Proof.Machine
end

section
/-! What a calibration run writes, operation by operation (R478, R479, R481). -/

namespace Sys2Proof.Machine

/-! Two's complement fields. -/

theorem trunc_lt (wd : Nat) (x : Int) : trunc wd x < 2 ^ wd := by
  have hpos : (0 : Int) < (2 ^ wd : Nat) := by exact_mod_cast Nat.two_pow_pos wd
  have h0 := Int.emod_nonneg x (Int.ne_of_gt hpos)
  have h1 := Int.emod_lt_of_pos x hpos
  unfold trunc
  omega

/-- A value within a field of 16 bits is read back. -/
theorem sext_trunc (x : Int) (hlo : -32768 ≤ x) (hhi : x < 32768) : sext 16 (trunc 16 x) = x := by
  unfold sext trunc
  norm_num only
  split <;> omega

theorem roundDiv_bound {a : Int} {b : Nat} (hb : 0 < b) (n : Nat) (h : a.natAbs ≤ n * b) : (roundDiv a b).natAbs ≤ n := by
  have hb' : (0 : Int) < 2 * (b : Int) := by omega
  have hle (c : Int) (hc : 0 ≤ c) (hcn : c ≤ n * b) : 0 ≤ (2 * c + b) / (2 * (b : Int)) ∧ (2 * c + b) / (2 * (b : Int)) ≤ n := by
    refine ⟨Int.ediv_nonneg (by omega) hb'.le, ?_⟩
    have : (2 * c + b) / (2 * (b : Int)) < n + 1 := by
      rw [Int.ediv_lt_iff_lt_mul hb']
      nlinarith
    omega
  have habs : ((a.natAbs : Nat) : Int) ≤ n * b := by exact_mod_cast h
  unfold roundDiv
  split
  next ha =>
    obtain ⟨h0, h1⟩ := hle a ha (by omega)
    omega
  next ha =>
    obtain ⟨h0, h1⟩ := hle (-a) (by omega) (by omega)
    omega

/-! The oscillators. -/

/-- The errors of the oscillators are stored, and their trims where nothing compensates them. -/
def oscWritten (di dl : Int) (it lt : BitVec 8) (s : State) : State :=
  let t := (s.wr calB R.CAL_OSC_RES_IRO_ERR (trunc 16 (roundDiv di 800))).wr calB R.CAL_OSC_RES_LPO_ERR (trunc 16 (roundDiv dl 4))
  if t.on clkB R.CLK_CTRL_COMP_EN then t else (t.wr clkB R.CLK_COMP_IRO_TRIM it.toNat).wr clkB R.CLK_COMP_LPO_TRIM lt.toNat

theorem calOutcome_osc {r : CalRun} (iro lpo : Nat) (it lt : BitVec 8) (s : State) (hop : r.op = 2) :
    calOutcome r (.osc iro lpo it lt) s = if r.clkBad || !s.on clkB R.CLK_STATUS_CALCLK_OK ||
        decide (10000000 < ((iro : Int) - 200000000).natAbs) || decide (30000 < ((lpo : Int) - 1000000).natAbs) then some (3, s)
      else some (0, oscWritten ((iro : Int) - 200000000) ((lpo : Int) - 1000000) it lt s) := by
  unfold calOutcome
  rw [hop]
  rfl

theorem oscErrors_shown {s : State} (di dl : Int) (hr : Rising 0 s.regs) :
    let t := (s.wr calB R.CAL_OSC_RES_IRO_ERR (trunc 16 (roundDiv di 800))).wr calB R.CAL_OSC_RES_LPO_ERR (trunc 16 (roundDiv dl 4))
    Rising 0 t.regs ∧ t.rd calB R.CAL_OSC_RES_IRO_ERR = trunc 16 (roundDiv di 800) ∧ t.rd calB R.CAL_OSC_RES_LPO_ERR = trunc 16 (roundDiv dl 4) ∧
      (∀ b f, b + f.off ≠ calB + 0x0C → t.rd b f = s.rd b f) ∧ t.raised = s.raised ∧ t.mem = s.mem := by
  intro t
  have h1 := State.wr_rising s calB R.CAL_OSC_RES_IRO_ERR (trunc 16 (roundDiv di 800)) hr
  refine ⟨State.wr_rising _ _ _ _ h1, ?_, ?_, fun b f hb => ?_, rfl, rfl⟩
  · refine (State.rd_wr_apart h1 (by decide)).trans ((State.rd_wr_same s _ _ _ hr (by decide)).trans ?_)
    exact Nat.mod_eq_of_lt (trunc_lt 16 _)
  · exact (State.rd_wr_same (s.wr calB R.CAL_OSC_RES_IRO_ERR (trunc 16 (roundDiv di 800))) _ R.CAL_OSC_RES_LPO_ERR _ h1 (by decide)).trans
      (Nat.mod_eq_of_lt (trunc_lt 16 _))
  · exact (State.rd_wr_ne (s.wr calB R.CAL_OSC_RES_IRO_ERR (trunc 16 (roundDiv di 800))) _ _ R.CAL_OSC_RES_LPO_ERR _ _ h1 hb).trans
      (State.rd_wr_ne s _ _ R.CAL_OSC_RES_IRO_ERR _ _ hr hb)

theorem oscWritten_shown {s t : State} {di dl : Int} {it lt : BitVec 8} (hr : Rising 0 s.regs) (hdi : di.natAbs ≤ 10000000)
    (hdl : dl.natAbs ≤ 30000) (ht : t = oscWritten di dl it lt s) :
    t.rdI calB R.CAL_OSC_RES_IRO_ERR = roundDiv di 800 ∧ t.rdI calB R.CAL_OSC_RES_LPO_ERR = roundDiv dl 4 ∧
      t.rd clkB R.CLK_COMP_IRO_TRIM = (if s.on clkB R.CLK_CTRL_COMP_EN = true then s.rd clkB R.CLK_COMP_IRO_TRIM else it.toNat) ∧
      t.rd clkB R.CLK_COMP_LPO_TRIM = (if s.on clkB R.CLK_CTRL_COMP_EN = true then s.rd clkB R.CLK_COMP_LPO_TRIM else lt.toNat) ∧
      t.raised = s.raised ∧ t.mem = s.mem := by
  obtain ⟨hrx, hiro, hlpo, hrest, hraised, hmem⟩ := oscErrors_shown di dl hr
  have hbi := roundDiv_bound (b := 800) (by decide) 12500 (by omega : di.natAbs ≤ 12500 * 800)
  have hbl := roundDiv_bound (b := 4) (by decide) 7500 (by omega : dl.natAbs ≤ 7500 * 4)
  have hsi := sext_trunc (roundDiv di 800) (by omega) (by omega)
  have hsl := sext_trunc (roundDiv dl 4) (by omega) (by omega)
  unfold oscWritten at ht
  dsimp only at ht
  generalize (s.wr calB R.CAL_OSC_RES_IRO_ERR (trunc 16 (roundDiv di 800))).wr calB R.CAL_OSC_RES_LPO_ERR (trunc 16 (roundDiv dl 4)) = x
    at hrx hiro hlpo hrest hraised hmem ht
  have hcomp : x.on clkB R.CLK_CTRL_COMP_EN = s.on clkB R.CLK_CTRL_COMP_EN := State.on_congr (hrest clkB R.CLK_CTRL_COMP_EN (by decide))
  rw [hcomp] at ht
  cases hon : s.on clkB R.CLK_CTRL_COMP_EN
  · rw [hon, if_neg Bool.false_ne_true] at ht
    have h1 := State.wr_rising x clkB R.CLK_COMP_IRO_TRIM it.toNat hrx
    have hcal (f : Fld) (hf : f.off = 0x0C) : t.rd calB f = x.rd calB f := by
      rw [ht, State.rd_wr_ne (x.wr clkB R.CLK_COMP_IRO_TRIM it.toNat) _ _ _ _ _ h1 (by rw [hf]; decide),
        State.rd_wr_ne x _ _ _ _ _ hrx (by rw [hf]; decide)]
    refine ⟨?_, ?_, ?_, ?_, by rw [ht]; exact hraised, by rw [ht]; exact hmem⟩
    · unfold State.rdI
      rw [hcal _ rfl, hiro]
      exact hsi
    · unfold State.rdI
      rw [hcal _ rfl, hlpo]
      exact hsl
    · rw [ht, State.rd_wr_apart h1 (by decide), State.rd_wr_same x _ _ _ hrx (by decide)]
      exact Nat.mod_eq_of_lt it.isLt
    · rw [ht, State.rd_wr_same (x.wr clkB R.CLK_COMP_IRO_TRIM it.toNat) _ _ _ h1 (by decide)]
      exact Nat.mod_eq_of_lt lt.isLt
  · rw [hon, if_pos rfl] at ht
    rw [ht]
    refine ⟨?_, ?_, hrest clkB R.CLK_COMP_IRO_TRIM (by decide), hrest clkB R.CLK_COMP_LPO_TRIM (by decide), hraised, hmem⟩
    · unfold State.rdI
      rw [hiro]
      exact hsi
    · unfold State.rdI
      rw [hlpo]
      exact hsl

/-! The offsets of the sensors. -/

/-- The field of TS_OFS that holds sensor i's offset. -/
def tsFld (i : Nat) : Fld := if i % 2 == 0 then R.CAL_TS_OFS_EVEN else R.CAL_TS_OFS_ODD

/-- The base of the register that holds it. -/
def tsBase (i : Nat) : Nat := calB + 4 * (i / 2)

theorem tsOfs_eq (i : Nat) (s : State) : tsOfs i s = sext 16 (s.rd (tsBase i) (tsFld i)) := by
  unfold tsOfs State.rdI tsFld tsBase
  split <;> rfl

theorem rd_ts_wr {s : State} {i j : Nat} {v : Nat} (hr : Rising 0 s.regs) (hv : v < 65536) :
    (s.wr (tsBase j) (tsFld j) v).rd (tsBase i) (tsFld i) = if i = j then v else s.rd (tsBase i) (tsFld i) := by
  have hoff (n : Nat) : (tsFld n).off = 0x10 := by unfold tsFld; split <;> rfl
  have hhi (n : Nat) : (tsFld n).hi < 32 := by unfold tsFld; split <;> decide
  have hmod (n : Nat) : (tsFld n).hi + 1 - (tsFld n).lo = 16 := by unfold tsFld; split <;> rfl
  split
  next h =>
    rw [h, State.rd_wr_same s _ _ _ hr (hhi j), hmod]
    exact Nat.mod_eq_of_lt hv
  next h =>
    by_cases hreg : i / 2 = j / 2
    · refine State.rd_wr_beside s _ _ _ _ _ hr (by rw [hoff, hoff, tsBase, tsBase, hreg]) ?_
      unfold tsFld
      by_cases hi : i % 2 = 0
      · rw [if_neg (by rw [beq_iff_eq]; omega), if_pos (beq_iff_eq.mpr hi)]
        decide
      · rw [if_pos (by rw [beq_iff_eq]; omega), if_neg (by rw [beq_iff_eq]; exact hi)]
        decide
    · exact State.rd_wr_ne s _ _ _ _ _ hr (by rw [hoff, hoff]; unfold tsBase; omega)

/-- The offsets of the listed sensors are stored. -/
def tsWritten (o : Nat → Int) (l : List Nat) (s : State) : State :=
  l.foldl (fun s i => s.wr (tsBase i) (tsFld i) (trunc 16 (o i))) s

theorem tsWritten_shown {o : Nat → Int} {l : List Nat} {s : State} (hr : Rising 0 s.regs) : Rising 0 (tsWritten o l s).regs ∧
    (tsWritten o l s).raised = s.raised ∧ (tsWritten o l s).mem = s.mem ∧
    ∀ i, (tsWritten o l s).rd (tsBase i) (tsFld i) = if i ∈ l then trunc 16 (o i) else s.rd (tsBase i) (tsFld i) := by
  induction l generalizing s with
  | nil => exact ⟨hr, rfl, rfl, fun i => by simp [tsWritten]⟩
  | cons j l ih =>
    obtain ⟨h1, h2, h3, h4⟩ := ih (State.wr_rising s (tsBase j) (tsFld j) (trunc 16 (o j)) hr)
    refine ⟨h1, h2, h3, fun i => (h4 i).trans ?_⟩
    rw [rd_ts_wr hr (trunc_lt 16 _)]
    by_cases hl : i ∈ l
    · simp [hl]
    · by_cases hij : i = j
      · simp [hij]
      · simp [hl, hij]

theorem calOutcome_temp {r : CalRun} (sums : List Int) (s : State) (hop : r.op = 3) :
    let ids := (List.range 31).filter (fun i => !tsFailed i s)
    let o (i : Nat) : Int := sext 16 r.arg - roundDiv (sums.getD i 0) 64
    calOutcome r (.temp sums) s = if ids.any (fun i => decide (80 < (o i).natAbs)) then some (4, s) else some (0, tsWritten o ids s) := by
  intro ids o
  unfold calOutcome
  rw [hop]
  rfl

theorem calOutcome_hkref {r : CalRun} (raws : List (BitVec 12)) (s : State) (hop : r.op = 1) :
    let sum := (List.range 4096).foldl (fun t i => t + hkCorrectAbs (i % 2 == 1) (raws.getD i 0).toNat 0 s) 0
    calOutcome r (.hkref raws) s = (if 2007 * 65536 ≤ sum ∧ sum ≤ 2089 * 65536 then
      some (0, s.wr calB R.CAL_ABS_ABS (trunc 11 (roundDiv (2 ^ 15 * ((2048 * 65536 : Int) - sum)) sum.toNat))) else some (2, s)) := by
  intro sum
  unfold calOutcome
  split
  next hx =>
    cases hx
    with_reducible rfl
  next h2 _ => exact absurd (hop.symm.trans h2) (by decide)
  next h3 _ => exact absurd (hop.symm.trans h3) (by decide)
  next h4 => exact absurd (hop.symm.trans h4) (by decide)
  next hno _ _ => exact absurd rfl (hno raws hop)

/-- CAL.INJECT. -/
theorem calInject_write {m : Master} {w : Word} {s : State} (h : Served m true 0x60058 w s) :
    writeCmd m 0x60058 w s.fresh = answered m 0x60058 true 0 .done (calInject w (storedAwake .cal 0x58 0x60058 w s)) :=
  served_gated h rfl rfl rfl rfl (.inr (by decide +kernel)) (by decide +kernel)

theorem calInject_done {m : Master} {w : Word} {s u : State} (hr : Rising 0 s.regs) (h : Served m true 0x60058 w s)
    (hu : u = writeCmd m 0x60058 w s.fresh) : u.raised = s.raised ∧ u.mem = s.mem ∧ (fget w 0 0 = 1 → u.hk.injCal = true) ∧
      (fget w 1 1 = 1 → u.hk.injRange = s.rd calB R.CAL_SET_SEL_SET + 1) := by
  obtain ⟨⟨m', c', hframe⟩, -, -, hkeep⟩ := storedAwake_stored (b := .cal) (off := 0x58) (a := 0x60058) (w := w) hr
  rw [calInject_write h] at hu
  generalize storedAwake .cal 0x58 0x60058 w s = t at hframe hkeep hu
  have hsel : t.rd calB R.CAL_SET_SEL_SET = s.rd calB R.CAL_SET_SEL_SET := by
    unfold State.rd
    rw [hkeep _ (by decide) (by unfold GateKey; decide)]
  refine ⟨by rw [hu, hframe]; rfl, by rw [hu, hframe]; rfl, fun h0 => ?_, fun h1 => ?_⟩
  · rw [hu]
    unfold answered calInject
    rw [h0]
    dsimp only
    split <;> rfl
  · rw [hu, ← hsel]
    unfold answered calInject
    rw [h1]
    rfl

/-- Settles O56: a start and an end of a run stage by stage, the outcome of each operation, the interpolation between two
points, and the injections. -/
theorem calibration : Obligations.Calibration := by
  unfold Obligations.Calibration
  refine ⟨fun m w s op hI => ?_, fun x s r hI hrun hbb hgate hup hheld => ?_, fun raws s r hop => ?_,
    fun iro lpo it lt s r hI hop => ?_, fun sums s r hI hop _ => ?_, fun t t0 t1 a b hlt => ?_, fun m w s hI => ⟨fun h => ?_, fun h => ?_⟩⟩
  · intro v no P
    have hdone (i : Instr) (hop : 0 < op.val ∧ op.val ≤ 4) (hrun : exec i s = run (writeCmd m 0x60000 (calWord w op.val)) s)
        (h : Served m true 0x60000 v s) : ∃ u, exec i s = .next (closed s.pending u) ∧ P u := by
      obtain ⟨hraised, hmem, hrefused, hstarts⟩ := calCmd_starts hI.regs_rising hop.1 hop.2 h rfl
      exact ⟨_, exec_closed hrun rfl, hraised, hmem, hrefused, hstarts⟩
    have hword (n : Nat) (hn : op.val = n) : fput R.CAL_CMD_START 1 (fput R.CAL_CMD_OP n w) = calWord w op.val := by rw [hn]; rfl
    refine ⟨fun hop h => hdone _ (by omega) ?_ h, fun hop h => hdone _ (by omega) ?_ h, fun hop h => hdone _ (by omega) ?_ h,
      fun hop h => hdone _ (by omega) ?_ h⟩
    · rw [← hword 1 hop]; rfl
    · rw [← hword 2 hop]; rfl
    · rw [← hword 3 hop]; rfl
    · rw [← hword 4 hop]; rfl
  · intro o q hsome
    obtain ⟨⟨q', t⟩, ho⟩ := Option.isSome_iff_exists.mp hsome
    have hq : q = q' := by
      show (o.map Prod.fst).getD 0 = q'
      rw [ho]
      rfl
    obtain ⟨h1, h2, h3, h4, h5, h6⟩ := calDone_done (s := s.fresh) hI.regs_rising hrun hbb hgate hup hheld ho rfl
    rw [hq]
    exact ⟨_, exec_closed (f := calDone x) rfl rfl, h1, h2, h3, h4, h5, h6⟩
  · exact calOutcome_hkref raws s hop
  · intro o t ok
    have ho : o = _ := calOutcome_osc iro lpo it lt s hop
    refine ⟨fun hno => ?_, fun hok => ?_⟩
    · rw [ho, if_pos]
      by_contra hc
      refine hno ?_
      simp only [Bool.or_eq_true, decide_eq_true_eq, not_or, Bool.not_eq_true, Bool.not_eq_eq_eq_not, Bool.not_true, Bool.not_eq_false] at hc
      obtain ⟨⟨⟨hclk, hon⟩, hi⟩, hl⟩ := hc
      exact ⟨hclk, hon, by omega, by omega, by omega, by omega⟩
    · obtain ⟨hclk, hon, hi1, hi2, hl1, hl2⟩ := hok
      rw [hclk, hon, decide_eq_false (by omega), decide_eq_false (by omega)] at ho
      have ht : t = oscWritten ((iro : Int) - 200000000) ((lpo : Int) - 1000000) it lt s := by
        show (o.getD (9, s)).2 = _
        rw [ho]
        rfl
      refine ⟨by rw [ht]; exact ho, ?_⟩
      exact oscWritten_shown hI.regs_rising (by omega) (by omega) ht
  · intro o t ofs ok
    have ho : o = _ := calOutcome_temp sums s hop
    have hany : ((List.range 31).filter (fun i => !tsFailed i s)).any
        (fun i => decide (80 < (sext 16 r.arg - roundDiv (sums.getD i 0) 64).natAbs)) = true ↔ ¬ ok := by
      simp only [List.any_eq_true, List.mem_filter, List.mem_range, decide_eq_true_eq, Bool.not_eq_eq_eq_not, Bool.not_true]
      constructor
      · rintro ⟨i, ⟨hi, hf⟩, h80⟩ hok
        have hle : (sext 16 r.arg - roundDiv (sums.getD i 0) 64).natAbs ≤ 80 := hok ⟨i, hi⟩ hf
        omega
      · intro hno
        simp only [ok, not_forall] at hno
        obtain ⟨i, hf, h80⟩ := hno
        exact ⟨i.val, ⟨i.isLt, hf⟩, Nat.lt_of_not_le h80⟩
    refine ⟨fun hno => ho.trans (if_pos (hany.mpr hno)), fun hok => ?_⟩
    have ho' := ho.trans (if_neg (fun hc => hany.mp hc hok))
    have ht : t = tsWritten (fun i => sext 16 r.arg - roundDiv (sums.getD i 0) 64) ((List.range 31).filter (fun i => !tsFailed i s)) s := by
      show (o.getD (9, s)).2 = _
      rw [ho']
      rfl
    obtain ⟨-, hraised, hmem, hrd⟩ := tsWritten_shown (o := fun i => sext 16 r.arg - roundDiv (sums.getD i 0) 64)
      (l := (List.range 31).filter (fun i => !tsFailed i s)) hI.regs_rising
    rw [← ht] at hraised hmem hrd
    refine ⟨by rw [ht]; exact ho', fun i => ?_, hraised, hmem⟩
    rw [tsOfs_eq, tsOfs_eq, hrd]
    cases hf : tsFailed i.val s
    · have h80 : (sext 16 r.arg - roundDiv (sums.getD i.val 0) 64).natAbs ≤ 80 := hok i hf
      rw [if_pos (by simp [hf]), if_neg Bool.false_ne_true]
      have hb : -32768 ≤ sext 16 r.arg - roundDiv (sums.getD i.val 0) 64 ∧ sext 16 r.arg - roundDiv (sums.getD i.val 0) 64 < 32768 := by
        clear_value ofs
        omega
      exact sext_trunc _ hb.1 hb.2
    · rw [if_neg (by simp [hf]), if_pos rfl]
  · simp only [calInterp, calBetween]
    by_cases h0 : t ≤ t0
    · rw [if_pos h0, if_pos h0]
    · rw [if_neg h0, if_neg h0]
      by_cases h1 : t < t1
      · rw [if_pos h1, if_neg (by omega)]
      · rw [if_neg h1, if_pos (by omega)]
  · obtain ⟨hraised, hmem, hcal, -⟩ := calInject_done hI.regs_rising h rfl
    exact ⟨_, exec_closed (f := writeCmd m 0x60058 (fset w 0 0 1)) rfl rfl, hcal (fget_fset_one w (by decide)), hraised, hmem⟩
  · obtain ⟨hraised, hmem, -, hrange⟩ := calInject_done hI.regs_rising h rfl
    exact ⟨_, exec_closed (f := writeCmd m 0x60058 (fset w 1 1 1)) rfl rfl, hrange (fget_fset_one w (by decide)), hraised, hmem⟩

end Sys2Proof.Machine
end

section

/-! Samples of the watch chains, their restarts and resets, and the reads of a sample (R280 to R294). -/

namespace Sys2Proof.Machine

/-! ### A sample -/

/-- A chain that took a housekeeping result, or none, keeps the number of the last. -/
theorem chain_seq (x : ChainSt) (seq : Option Nat) (tap : Nat) (fed : Bool) :
    (if (tap == 8 && fed) = true then { x with hkSeq := seq } else x) =
      { x with hkSeq := if tap = 8 ∧ fed = true then seq else x.hkSeq } := by
  by_cases h : tap = 8 ∧ fed = true
  · simp [h]
  · rw [if_neg h, if_neg (by simpa using h)]

theorem chain_newHk (old : ChainSt) (seq : Option Nat) (tap : Nat) (fed : Bool) :
    (tap == 8 && fed && (old.newHk || old.hkSeq != seq)) =
      decide ((tap = 8 ∧ fed = true) ∧ (old.newHk = true ∨ old.hkSeq ≠ seq)) := by
  rw [Bool.eq_iff_iff]
  simp

/-- Base intervals of a channel, case by case. -/
theorem chainSample_channel {n c : Nat} (hc : c < 4) (taps : List (Nat × TapIn)) {s : State}
    (htap : s.rd (chB n c) R.WATCH_CH_CFG_TAP ≠ 0) (hup : s.laneUp n = true) (hcount : s.counting = true) :
    chainSample n c taps s =
    (let p := chainPar n c s
    let tap := s.rd (chB n c) R.WATCH_CH_CFG_TAP
    let ins := tapList n c tap taps s
    let old := s.chain n c
    let r := chainRun p.1 p.2.1 p.2.2 old ins
    let fed := tap = 8 ∧ ins.any Option.isSome = true
    let seq := some (s.rd (hkB + 8 * s.rd (chB n c) R.WATCH_CH_CFG_HK_CH) R.HK_RES_SEQ)
    let h := decide (fed ∧ (old.newHk = true ∨ old.hkSeq ≠ seq))
    let x := { r.1 with hkSeq := if fed then seq else r.1.hkSeq }
    match r.2 with
    | none => s.setChain n c { x with newHk := h }
    | some (z, held, k) =>
      let t := (x.r + x.m * 4000) % 2 ^ 64
      let u := (s.advanceTlv t s.now).setChain n c { x with gap := false, newHk := false }
      watchEmit n c (min (roundQuot z 256).toNat (2 ^ 32 - 1)) t (decide (x.o1 < settle1 k)) x.gap held h
        (u.wr (chB n c) R.WATCH_CH_STATUS_FADING (b2n x.fade.isSome))) := by
  have hne : (c == 4) = false := by simp; omega
  have htap' : (s.rd (chB n c) R.WATCH_CH_CFG_TAP == 0) = false := by simpa using htap
  simp only [chainSample, chainTap, hne, Bool.false_eq_true, if_false, htap', hup, hcount, Bool.not_true, Bool.or_false,
    hkTap, chain_seq, chain_newHk] <;>
  · generalize chainRun _ _ _ _ _ = r
    obtain ⟨x, _ | ⟨z, held, k⟩⟩ := r <;> rfl

theorem State.advanceTlv_rd (s : State) (x due b : Nat) (f : Fld) : (s.advanceTlv x due).rd b f = s.rd b f := by
  unfold State.rd
  rw [State.advanceTlv_getReg]

/-- Base intervals of the LQF chain. -/
theorem chainSample_lqf {n : Nat} (taps : List (Nat × TapIn)) {s : State} (hup : s.laneUp n = true)
    (hcount : s.counting = true) :
    chainSample n 4 taps s =
    (let r := chainRun 8 4 4 (s.chain n 4) (tapList n 4 1 taps s)
    match r.2 with
    | none => s.setChain n 4 { r.1 with newHk := false }
    | some (z, _, k) =>
      let u := (s.advanceTlv ((r.1.r + r.1.m * 4000) % 2 ^ 64) s.now).setChain n 4 { r.1 with gap := false, newHk := false }
      let l := lqfOf (s.rd (laneB n) R.EQ_SLICER_AMP) (decide (4 ≤ s.rxMode n)) (min (roundQuot z 256).toNat (2 ^ 32 - 1))
      ((u.wr (laneB n) R.WATCH_LQF_LQF l).cntW (laneB n) R.WATCH_LQF_SEQ 1).wr (laneB n) R.WATCH_LQF_VALID
        (b2n (!decide (r.1.o1 < settle1 k) && !r.1.gap))) := by
  simp only [chainSample, chainTap, chainPar, hup, hcount, BEq.rfl, if_true, Bool.not_true, Bool.or_false,
    show ((1 : Nat) == 0) = false from rfl, show ((1 : Nat) == 8) = false from rfl, Bool.false_and, Bool.false_eq_true,
    if_false, lqfEmit]
  generalize chainRun _ _ _ _ _ = r
  obtain ⟨x, _ | ⟨z, held, k⟩⟩ := r
  · rfl
  · dsimp only
    have hmode : (s.advanceTlv ((x.r + x.m * 4000) % 2 ^ 64) s.now).rxMode n = s.rxMode n := State.advanceTlv_rd ..
    have hamp : (s.advanceTlv ((x.r + x.m * 4000) % 2 ^ 64) s.now).rd (laneB n) R.EQ_SLICER_AMP = _ :=
      State.advanceTlv_rd ..
    rw [← hmode, ← hamp]
    rfl

theorem chainPar_fresh (n c : Nat) (s : State) : chainPar n c s.fresh = chainPar n c s := rfl

theorem tapList_fresh (n c tap : Nat) (taps : List (Nat × TapIn)) (s : State) :
    tapList n c tap taps s.fresh = tapList n c tap taps s := rfl


/-! ### What a sample shows -/

/-- The fields of a sample that are written before its number. -/
def sampleHead (v tq st : Nat) (uns gap held newhk : Bool) : List (Fld × Nat) :=
  [(R.WATCH_CH_OUT_VAL_VALUE, v), (R.WATCH_CH_OUT_FLAGS_NEW, 1), (R.WATCH_CH_OUT_FLAGS_UNSETTLED, b2n uns),
    (R.WATCH_CH_OUT_FLAGS_GAP, b2n gap), (R.WATCH_CH_OUT_FLAGS_HELD, b2n held), (R.WATCH_CH_OUT_FLAGS_NEWHK, b2n newhk),
    (R.WATCH_CH_OUT_FLAGS_TQ, tq), (R.WATCH_CH_OUT_FLAGS_STEP_SEQ, st)]

/-- The fields that an unsettled sample, or one after a gap, writes from its number on. -/
def sampleTail (t q stq : Nat) (uns : Bool) : List (Fld × Nat) :=
  [(R.WATCH_CH_OUT_FLAGS_SEQ, q + 1), (R.WATCH_CH_OUT_T_LO_T, t), (R.WATCH_CH_OUT_T_HI_T, t / 2 ^ 32),
    (R.WATCH_CH_STATUS_SEQ, stq), (R.WATCH_CH_STATUS_UNSETTLED, b2n uns)]

/-- What a sample shows from its number on. -/
def sampleNumbered (b t : Nat) (uns : Bool) (s : State) : State :=
  let s := (s.cntW b R.WATCH_CH_OUT_FLAGS_SEQ 1).wr64 b R.WATCH_CH_OUT_T_LO_T R.WATCH_CH_OUT_T_HI_T t
  (s.wr b R.WATCH_CH_STATUS_SEQ (s.rd b R.WATCH_CH_OUT_FLAGS_SEQ)).wr b R.WATCH_CH_STATUS_UNSETTLED (b2n uns)

theorem sampleNumbered_eq (b t : Nat) (uns : Bool) (s : State) :
    ∃ stq, sampleNumbered b t uns s = s.wrs b (sampleTail t (s.rd b R.WATCH_CH_OUT_FLAGS_SEQ) stq uns) := ⟨_, rfl⟩

theorem watchEmit_eq (n c v t : Nat) (uns gap held newhk : Bool) (s : State) (hu : (uns || gap) = true) :
    ∃ tq st, watchEmit n c v t uns gap held newhk s =
      let u := sampleNumbered (chB n c) t uns (s.wrs (chB n c) (sampleHead v tq st uns gap held newhk))
      if u.on (chB n c) R.WATCH_CH_CFG_PUSH then watchPush n c u else u := by
  let early := s.wrs (chB n c) [(R.WATCH_CH_OUT_VAL_VALUE, v), (R.WATCH_CH_OUT_FLAGS_NEW, 1),
    (R.WATCH_CH_OUT_FLAGS_UNSETTLED, b2n uns), (R.WATCH_CH_OUT_FLAGS_GAP, b2n gap)]
  let late := early.wrs (chB n c) [(R.WATCH_CH_OUT_FLAGS_HELD, b2n held), (R.WATCH_CH_OUT_FLAGS_NEWHK, b2n newhk),
    (R.WATCH_CH_OUT_FLAGS_TQ, (early.tagAt t).1)]
  refine ⟨(early.tagAt t).1, (late.tagAt t).2, ?_⟩
  rw [watchEmit]
  simp only [hu, if_true]
  rfl

theorem State.rd_wrs_wrs {b : Nat} {g : Fld} {l k : List (Fld × Nat)} {s : State} (hr : Rising 0 s.regs) (hg : g.hi < 32)
    (hl : l.all (fun x => decide (x.1 = g) || apart x.1 g) = true)
    (hk : k.all (fun x => decide (x.1 = g) || apart x.1 g) = true) :
    ((s.wrs b l).wrs b k).rd b g = lastWritten g k (lastWritten g l (s.rd b g)) := by
  rw [State.rd_wrs (State.wrs_rising _ hr) hg hk, State.rd_wrs hr hg hl]

/-- A sample that is unsettled or follows a gap, of a channel that pushes none, only writes its fields. -/
theorem watchEmit_unsettled {n c v t : Nat} {uns gap held newhk : Bool} {s : State} (hr : Rising 0 s.regs)
    (hu : (uns || gap) = true) (hpush : s.on (chB n c) R.WATCH_CH_CFG_PUSH = false) :
    ∃ tq st stq, watchEmit n c v t uns gap held newhk s = (s.wrs (chB n c) (sampleHead v tq st uns gap held newhk)).wrs
      (chB n c) (sampleTail t (s.rd (chB n c) R.WATCH_CH_OUT_FLAGS_SEQ) stq uns) := by
  obtain ⟨tq, st, hemit⟩ := watchEmit_eq n c v t uns gap held newhk s hu
  have hq : (s.wrs (chB n c) (sampleHead v tq st uns gap held newhk)).rd (chB n c)
      R.WATCH_CH_OUT_FLAGS_SEQ = s.rd (chB n c) R.WATCH_CH_OUT_FLAGS_SEQ := State.rd_wrs hr (by decide) rfl
  obtain ⟨stq, hn⟩ := sampleNumbered_eq (chB n c) t uns (s.wrs (chB n c) (sampleHead v tq st uns gap held newhk))
  rw [hq] at hn
  refine ⟨tq, st, stq, hemit.trans ?_⟩
  rw [hn]
  have hkept (q : Nat) : ((s.wrs (chB n c) (sampleHead v tq st uns gap held newhk)).wrs (chB n c)
      (sampleTail t q stq uns)).rd (chB n c) R.WATCH_CH_CFG_PUSH = s.rd (chB n c) R.WATCH_CH_CFG_PUSH :=
    State.rd_wrs_wrs hr (by decide) rfl rfl
  exact if_neg (by rw [State.on, hkept, ← State.on, hpush]; decide)

theorem b2n_mod (b : Bool) : b2n b % 2 ^ 1 = b2n b := by cases b <;> rfl

/-- What a reader finds of a sample. -/
theorem sample_shown {b v t q tq st stq : Nat} {uns gap held newhk : Bool} {s : State} (hr : Rising 0 s.regs)
    (hv : v < 2 ^ 32) (ht : t < 2 ^ 64) :
    let u := (s.wrs b (sampleHead v tq st uns gap held newhk)).wrs b (sampleTail t q stq uns)
    u.rd b R.WATCH_CH_OUT_VAL_VALUE = v ∧ u.rd64 b R.WATCH_CH_OUT_T_LO_T R.WATCH_CH_OUT_T_HI_T = t ∧
      u.rd b R.WATCH_CH_OUT_FLAGS_NEW = 1 ∧ u.rd b R.WATCH_CH_OUT_FLAGS_UNSETTLED = b2n uns ∧
      u.rd b R.WATCH_CH_OUT_FLAGS_GAP = b2n gap ∧ u.rd b R.WATCH_CH_OUT_FLAGS_HELD = b2n held ∧
      u.rd b R.WATCH_CH_OUT_FLAGS_SEQ = (q + 1) % 256 ∧ u.mem = s.mem ∧ u.raised = s.raised := by
  intro u
  have hh : Rising 0 (s.wrs b (sampleHead v tq st uns gap held newhk)).regs := State.wrs_rising _ hr
  obtain ⟨regs, hu⟩ := State.wrs_frame b (sampleHead v tq st uns gap held newhk ++ sampleTail t q stq uns) s
  have hframe : u = { s with regs := regs } := by
    rw [← hu, State.wrs, List.foldl_append]
    rfl
  have hlo : u.rd b R.WATCH_CH_OUT_T_LO_T = t % 2 ^ 32 := State.rd_wrs hh (by decide) rfl
  have hhi : u.rd b R.WATCH_CH_OUT_T_HI_T = t / 2 ^ 32 % 2 ^ 32 := State.rd_wrs hh (by decide) rfl
  refine ⟨?_, ?_, ?_, ?_, ?_, ?_, ?_, ?_, ?_⟩
  · refine (State.rd_wrs_wrs hr (by decide) rfl rfl).trans ?_
    exact Nat.mod_eq_of_lt hv
  · rw [State.rd64, hlo, hhi]
    omega
  · exact State.rd_wrs_wrs hr (by decide) rfl rfl
  · exact (State.rd_wrs_wrs hr (by decide) rfl rfl).trans (b2n_mod uns)
  · exact (State.rd_wrs_wrs hr (by decide) rfl rfl).trans (b2n_mod gap)
  · exact (State.rd_wrs_wrs hr (by decide) rfl rfl).trans (b2n_mod held)
  · exact State.rd_wrs hh (by decide) rfl
  · rw [hframe]
  · rw [hframe]

/-! ### Restarts, resets and the injection -/

theorem chainDue_eq {n c t now : Nat} {s : State} (hnow : s.now = now) :
    chainDue n c t s = s.setChain n c { s.chain n c with due := (s.chain n c).due ++ [(t + 16384, now + 16384)] } := by
  rw [chainDue, hnow]

theorem State.setChain_tlv (s : State) (n c : Nat) (x : ChainSt) : (s.setChain n c x).tlv = s.tlv := rfl

theorem State.setChain_now (s : State) (n c : Nat) (x : ChainSt) : (s.setChain n c x).now = s.now := rfl

/-- CTRL.RESTART sets a reset of each chain that its mask names, from one instant. -/
theorem foldl_chainDue (n mask t now : Nat) (l : List Nat) {u : State} (htlv : u.tlv.toNat = t) (hnow : u.now = now) :
    l.foldl (fun s c => if mask / 2 ^ c % 2 == 1 then chainDue n c s.tlv.toNat s else s) u =
      l.foldl (fun u c => if mask / 2 ^ c % 2 = 1 then
        u.setChain n c { u.chain n c with due := (u.chain n c).due ++ [(t + 16384, now + 16384)] } else u) u := by
  induction l generalizing u with
  | nil => rw [List.foldl_nil, List.foldl_nil]
  | cons c l ih =>
    rw [List.foldl_cons, List.foldl_cons]
    by_cases hc : mask / 2 ^ c % 2 = 1
    · rw [if_pos hc, if_pos (by simpa using hc), htlv, chainDue_eq hnow]
      exact ih (by rw [State.setChain_tlv, htlv]) (by rw [State.setChain_now, hnow])
    · rw [if_neg hc, if_neg (by simpa using hc)]
      exact ih htlv hnow

theorem watchRestart_eq (n mask : Nat) (s : State) :
    watchRestart n mask s = (List.range 4).foldl (fun u c => if mask / 2 ^ c % 2 = 1 then
      u.setChain n c { u.chain n c with due := (u.chain n c).due ++ [(s.tlv.toNat + 16384, s.now + 16384)] } else u) s := by
  rw [watchRestart]
  exact foldl_chainDue n mask _ _ _ rfl rfl

theorem State.advanceReq_rd (s : State) (x due b : Nat) (f : Fld) : (s.advanceReq x due).rd b f = s.rd b f := by
  unfold State.advanceReq
  split
  · exact s.advanceTlv_rd ..
  · exact s.advanceNow_rd ..

/-- The one reset due of a chain of a domain that is ON. -/
theorem chainArrive_one {n c : Nat} {d : Nat × Nat} {s : State} (h : (s.chain n c).due = [d]) (hon : s.domOn n = true) :
    chainArrive n c s = chainReset n c ((s.advanceReq d.1 d.2).setChain n c { s.chain n c with due := [] }) := by
  have hon' (x : ChainSt) : ((s.advanceReq d.1 d.2).setChain n c x).domOn n = true := by
    rw [← hon]
    exact congrArg (· == 3) (State.advanceReq_rd ..)
  rw [chainArrive, h]
  simp [hon']

/-! ### Reading a sample -/

theorem find_eraseKey_ne {α : Type} {l : List (Nat × α)} {i j : Nat} (h : j ≠ i) :
    (eraseKey l i).find? (fun e => e.1 == j) = l.find? (fun e => e.1 == j) := by
  rw [eraseKey, dropKeys, List.find?_filter]
  congr 1
  funext e
  by_cases he : e.1 = j
  · simp [he, h]
  · simp [he]

theorem latchWord_same (a : Nat) (w : Word) (s : State) : (latchWord a w s).latch.find? (fun e => e.1 == a) = some (a, w) := by
  simp [latchWord]

theorem latchWord_ne {a j : Nat} (w : Word) (s : State) (h : j ≠ a) :
    (latchWord a w s).latch.find? (fun e => e.1 == j) = s.latch.find? (fun e => e.1 == j) := by
  rw [latchWord, List.find?_cons_of_neg (by simpa using h.symm)]
  exact find_eraseKey_ne h

/-- A channel's OUT_VAL, as closed registers decide. -/
theorem outVal_reg (c : Fin 4) :
    ((findReg (.lane 0) (0x511C + 0x40 * c.val)).map RegD.off) = some 0x511C ∧
      (keyFlds (laneB 0 + (0x511C + 0x40 * c.val))).filter (fun f => f.acc == .rc) = [] := by
  revert c
  decide +kernel

theorem laneKeyOf_outVal (n : Nat) (c : Fin 4) (s : State) :
    laneKeyOf n (0x511C + 0x40 * c.val) s = some (laneB n + (0x511C + 0x40 * c.val)) := by
  match c with
  | 0 | 1 | 2 | 3 => rfl

/-- What a read of OUT_VAL leaves: NEW cleared, and the other three words of the sample kept for the reads that follow. -/
def outTaken (a : Nat) (s : State) : State :=
  let s := s.setReg (a + 4) (fset (s.getReg (a + 4)) 31 31 0)
  [4, 8, 12].foldl (fun s d => latchWord (a + d) (s.getReg (a + d)) s) s

theorem regRead_outVal {m : Master} (n : Lane) (c : Fin 4) {s : State}
    (hfree : s.latch.find? (fun e => e.1 == laneB n.val + (0x511C + 0x40 * c.val)) = none) :
    regRead m (.lane n.val) (0x511C + 0x40 * c.val) s =
      (outTaken (laneB n.val + (0x511C + 0x40 * c.val)) { s with latch := eraseKey s.latch (laneB n.val + (0x511C + 0x40 * c.val)) },
        s.getReg (laneB n.val + (0x511C + 0x40 * c.val))) := by
  have hoff : 0x511C + 0x40 * c.val < 0x10000 := by omega
  obtain ⟨hfind, hrc⟩ := outVal_reg c
  rw [← findReg_lane (n := n.val) (by omega)] at hfind
  rw [← keyFlds_lane n.isLt (by omega) hoff] at hrc
  obtain ⟨d, hd, hbase⟩ := Option.map_eq_some_iff.mp hfind
  have hpair : pairStep (.lane n.val) (0x511C + 0x40 * c.val) = none := by
    simp [pairStep, hd, hbase]
  have hne (f : Fld) (hf : f.off < 0x511C ∨ 0x51DC < f.off) : (0x511C + 0x40 * c.val == f.off) = false := by
    simp only [beq_eq_false_iff_ne]
    omega
  have hstep (s : State) : readStep (.lane n.val) (0x511C + 0x40 * c.val) s = s := by
    simp only [readStep, hne R.EQ_COEF_DATA_LOW (by decide), hne R.TX_COEF_DATA_TAP (by decide),
      hne R.HAZE_COEF_DATA_TAP (by decide), hne R.FEC_UP_DATA_SYM (by decide), Bool.false_and, Bool.false_eq_true, if_false]
  have hclear (s : State) : clearRc (.lane n.val) (0x511C + 0x40 * c.val) (laneB n.val + (0x511C + 0x40 * c.val)) s = s := by
    simp [clearRc, clearRcOne, hrc, hne R.FEC_PC_BITS_LO_BITS (by decide)]
  have hlatch (s : State) : outLatch (.lane n.val) (0x511C + 0x40 * c.val) s = outTaken (laneB n.val + (0x511C + 0x40 * c.val)) s := by
    rw [outLatch, hfind]
    rfl
  have hlive (w : Word) (s : State) : liveWord (.lane n.val) (0x511C + 0x40 * c.val) w s = w := by
    simp only [liveWord, liveUnit, hne R.TX_PI_FREQ_FREQ (by decide), hne R.TX_STATUS_LOOP_HOLD (by decide),
      hne R.HAZE_LAT_LAT (by decide), hne R.FEC_STATUS_IN_GROUP (by decide), Bool.false_and, Bool.false_eq_true, if_false]
  have hfree' : s.latch.find? (fun e => e.1 == Blk.base (.lane n.val) + (0x511C + 0x40 * c.val)) = none := hfree
  rw [regRead, hd]
  simp only [effKey, laneKeyOf_outVal, hpair, hfree', hstep, hclear, hlatch, hlive, readDraws]
  rfl

theorem outTaken_latch {a : Nat} {s : State} (hr : Rising 0 s.regs) :
    (outTaken a s).latch.find? (fun e => e.1 == a + 4) = some (a + 4, fset (s.getReg (a + 4)) 31 31 0) ∧
      (outTaken a s).latch.find? (fun e => e.1 == a + 8) = some (a + 8, s.getReg (a + 8)) ∧
      (outTaken a s).latch.find? (fun e => e.1 == a + 12) = some (a + 12, s.getReg (a + 12)) := by
  have hkept (k : Nat) (hk : k ≠ a + 4) : (s.setReg (a + 4) (fset (s.getReg (a + 4)) 31 31 0)).getReg k = s.getReg k :=
    State.getReg_setReg_ne s _ hr hk
  refine ⟨?_, ?_, ?_⟩
  · refine (latchWord_ne _ _ (by omega)).trans ((latchWord_ne _ _ (by omega)).trans ((latchWord_same ..).trans ?_))
    rw [State.getReg_setReg_same s _ _ hr]
  · refine (latchWord_ne _ _ (by omega)).trans ((latchWord_same ..).trans ?_)
    exact congrArg (fun w => some (a + 8, w)) (hkept _ (by omega))
  · refine (latchWord_same ..).trans ?_
    exact congrArg (fun w => some (a + 12, w)) (hkept _ (by omega))

/-! ### The obligation -/

theorem watchRestart_write {m : Master} {n : Lane} {w : Word} {s : State} (h : Served m true (0x01005000 + 0x10000 * n.val) w s) :
    writeReg m (laneB n.val) R.WATCH_CTRL_RESTART w s.fresh = wrote m (0x01005000 + 0x10000 * n.val) w (fun t =>
      (List.range 4).foldl (fun u c => if fget w 11 8 / 2 ^ c % 2 = 1 then
        u.setChain n.val c { u.chain n.val c with due := (u.chain n.val c).due ++ [(t.tlv.toNat + 16384, t.now + 16384)] } else u) t) s := by
  refine lane_hook (off := 0x5000) (by decide +kernel) (by simp only [laneB]; omega) h rfl rfl fun old t => ?_
  rw [← watchRestart_eq]
  show (if fget w 11 8 == 0 then t else watchRestart n.val (fget w 11 8) t) = _
  by_cases h0 : fget w 11 8 = 0
  · rw [if_pos (by simpa using h0), h0]
    rfl
  · rw [if_neg (by simpa using h0)]

theorem watchInjCross_write {m : Master} {n : Lane} {w : Word} {s : State}
    (h : Served m true (0x0100500C + 0x10000 * n.val) (fset w 2 2 1) s) :
    writeFld m (laneB n.val) R.WATCH_INJECT_INJ_CROSS 1 w s.fresh =
      wrote m (0x0100500C + 0x10000 * n.val) (fset w 2 2 1) (fun t =>
        t.setChain n.val (fget (fset w 2 2 1) 1 0) { t.chain n.val (fget (fset w 2 2 1) 1 0) with inj := true }) s := by
  refine lane_hook (off := 0x500C) (by decide +kernel) (by simp only [laneB]; omega) h rfl rfl fun old t => ?_
  show watchInject n.val (fset w 2 2 1) t = _
  rw [watchInject, if_pos (by simp [fget_fset_same])]

/-- A read of OUT_VAL, in the state in which the fabric performs it. -/
theorem watchOutRead_read {m : Master} {n : Lane} {c : Fin 4} {a : Nat} {s : State}
    (ha : a = laneB n.val + (0x511C + 0x40 * c.val)) (h : Served m false a 0 s)
    (hfree : s.latch.find? (fun e => e.1 == a) = none) :
    readCmd m (chB n.val c.val + R.WATCH_CH_OUT_VAL_VALUE.off) s =
      answered m a false (s.getReg a) .done (outTaken a { s with latch := eraseKey s.latch a }) := by
  have haddr : chB n.val c.val + R.WATCH_CH_OUT_VAL_VALUE.off = a := by
    rw [ha]
    simp only [chB, R.WATCH_CH_OUT_VAL_VALUE]
    omega
  subst ha
  rw [haddr, served_read h (place_lane n.isLt (by omega)) (gateOf_lane n.isLt (by omega)), regRead_outVal n c hfree]

/-- Settles O34: each chain's commands by their effects, the samples by the fields that they write. -/
theorem watchChains : Obligations.WatchChains := by
  unfold Obligations.WatchChains
  refine ⟨?_, ?_, ?_, ?_, ?_, ?_, ?_⟩
  · intro n c taps s htap hup hcount
    exact exec_closed (f := chainSample n.val c.val taps) rfl
      (chainSample_channel (s := s.fresh) c.isLt taps htap hup hcount)
  · intro n c v t uns gap held newhk s hinv _ _ hv ht hu hpush
    obtain ⟨tq, st, stq, hemit⟩ := watchEmit_unsettled (v := v) (t := t) (held := held) (newhk := newhk)
      hinv.regs_rising hu hpush
    rw [hemit]
    exact sample_shown hinv.regs_rising hv ht
  · intro n taps s hup hcount
    exact exec_closed (f := chainSample n.val 4 taps) rfl (chainSample_lqf (s := s.fresh) taps hup hcount)
  · intro m n w s h
    exact exec_closed (f := writeReg m (laneB n.val) R.WATCH_CTRL_RESTART w) rfl (watchRestart_write h)
  · intro n c s d hdue hon
    exact exec_closed (f := chainArrive n.val c.val) rfl (chainArrive_one (s := s.fresh) hdue hon)
  · intro m n c s a fl h hinv hfree
    have ha : a = laneB n.val + (0x511C + 0x40 * c.val) := by
      simp only [a, laneB]
      omega
    have hread := watchOutRead_read (s := s.fresh) ha h hfree
    obtain ⟨h4, h8, h12⟩ := outTaken_latch (a := a) (s := { s.fresh with latch := eraseKey s.latch a }) hinv.regs_rising
    exact ⟨_, exec_closed (f := readCmd m (chB n.val c.val + R.WATCH_CH_OUT_VAL_VALUE.off)) rfl hread, rfl, rfl, rfl, h4, h8, h12⟩
  · intro m n w s h
    exact exec_closed (f := writeFld m (laneB n.val) R.WATCH_INJECT_INJ_CROSS 1 w) rfl (watchInjCross_write h)

end Sys2Proof.Machine
end

section

/-! What a change of a lane's receive or transmit state may touch: registers of lanes and of frame engines, the raises, and
the parts that lanes hold (R100, R101, R156). -/

namespace Sys2Proof.Machine

theorem State.fullTaken_raised (s : State) : s.fullTaken.raised = s.raised := rfl

theorem State.fullNoted_raised (s : State) : s.fullNoted.raised = s.raised := rfl

/-- Raises that wait are only added to. -/
theorem State.recordLost_grows (s : State) : ∃ l, s.recordLost.raised = s.raised ++ l := by
  rcases s.recordLost_cases with h | h
  · exact ⟨[], by rw [h, State.cnt_raised, List.append_nil]⟩
  · exact ⟨_, by rw [h, State.queueRaise_raised, State.pinReact_raised, State.noteRaise_raised, State.fullNoted_raised,
      State.cnt_raised]⟩

theorem State.raise_grows (s : State) (id : Nat) : ∃ l, (s.raise id).raised = s.raised ++ l := by
  have hend (t : State) (i : Nat) : ∃ l, (t.raiseEnd id i).raised = t.raised ++ l :=
    ⟨_, by rw [State.raiseEnd, State.queueRaise_raised, State.pinReact_raised]⟩
  unfold State.raise State.raiseA
  split
  · exact ⟨[], by simp⟩
  · rcases s.raiseOn_cases id EvAcc.none with h | ⟨i, -, h⟩ | h
    · rw [h, ← s.noteRaise_raised id]
      exact hend _ _
    · rw [h, ← s.noteRaise_raised id, ← (s.noteRaise id).putRec_raised i id ((s.noteRaise id).srcCfg id) EvAcc.none]
      exact hend _ _
    · obtain ⟨l, hl⟩ := (s.noteRaise id).fullTaken.recordLost_grows
      obtain ⟨k, hk⟩ := hend (s.noteRaise id).fullTaken.recordLost 0xFF
      refine ⟨l ++ k, ?_⟩
      rw [h, hk, hl, List.append_assoc, State.fullTaken_raised, s.noteRaise_raised]

/-- A register of a lane's window or of a frame engine's, or one that a raise writes. -/
def LaneKey (k : Nat) : Prop := (0x00200000 ≤ k ∧ k < 0x00300000) ∨ (0x01000000 ≤ k ∧ k < 0x01400000) ∨ RaiseKey k

theorem laneKey_lane {n off : Nat} (hn : n < 64) (ho : off < 0x10000) : LaneKey (laneB n + off) :=
  .inr (.inl (by unfold laneB; omega))

theorem laneKey_fe {e off : Nat} (he : e < 4) (ho : off < 0x40000) : LaneKey (feB e + off) := .inl (by unfold feB; omega)

/-- From `s` to `t` only what lanes hold, the registers of lanes and engines, and raises changed. -/
structure LaneStep (s t : State) : Prop where
  touches : Touches LaneKey s t
  sent : ∃ l, t.raised = s.raised ++ l
  frame : ∃ regs raised full inj rx eq tx acq am fec haze watch, t = { s with
    regs := regs, raised := raised, recFull := full, injFull := inj, rx := rx, eq := eq, tx := tx, acq := acq, am := am,
    fec := fec, haze := haze, watch := watch }

theorem LaneStep.refl (s : State) : LaneStep s s := ⟨Touches.refl _ _, ⟨[], by simp⟩, _, _, _, _, _, _, _, _, _, _, _, _, rfl⟩

theorem LaneStep.trans {s t u : State} (h : LaneStep s t) (h' : LaneStep t u) : LaneStep s u := by
  refine ⟨h.touches.trans h'.touches, ?_, ?_⟩
  · obtain ⟨l, hl⟩ := h.sent
    obtain ⟨k, hk⟩ := h'.sent
    exact ⟨l ++ k, by rw [hk, hl, List.append_assoc]⟩
  · obtain ⟨_, _, _, _, _, _, _, _, _, _, _, _, ht⟩ := h.frame
    obtain ⟨_, _, _, _, _, _, _, _, _, _, _, _, hu⟩ := h'.frame
    subst ht hu
    exact ⟨_, _, _, _, _, _, _, _, _, _, _, _, rfl⟩

theorem LaneStep.setReg {s t : State} (h : LaneStep s t) {k : Nat} (w : Word) (hk : LaneKey k) : LaneStep s (t.setReg k w) :=
  h.trans ⟨(Touches.refl _ _).setReg w hk, ⟨[], by simp⟩, _, _, _, _, _, _, _, _, _, _, _, _, rfl⟩

theorem LaneStep.wr {s t : State} (h : LaneStep s t) {b : Nat} {f : Fld} (v : Nat) (hk : LaneKey (b + f.off)) :
    LaneStep s (t.wr b f v) := h.setReg _ hk

theorem LaneStep.cnt {s t : State} (h : LaneStep s t) {b : Nat} {f : Fld} (v : Nat) (hk : LaneKey (b + f.off)) :
    LaneStep s (t.cnt b f v) := h.setReg _ hk

theorem LaneStep.raise {s t : State} (h : LaneStep s t) {id : Nat} (hid : id < 1152) : LaneStep s (t.raise id) := by
  refine h.trans ⟨(Touches.refl _ _).raise hid fun k hk => .inr (.inr hk), t.raise_grows id, ?_⟩
  obtain ⟨_, _, _, _, hr⟩ := RaiseFrame.raise t id
  exact ⟨_, _, _, _, _, _, _, _, _, _, _, _, hr⟩

theorem LaneStep.ite {s t u : State} {c : Prop} [Decidable c] (ht : LaneStep s t) (hu : LaneStep s u) :
    LaneStep s (if c then t else u) := by
  split
  · exact ht
  · exact hu

/-- A step that is taken under a condition. -/
theorem LaneStep.ifThen {s t u : State} {c : Prop} [Decidable c] (h : LaneStep s t) (hu : LaneStep t u) :
    LaneStep s (if c then u else t) := (h.trans hu).ite h

theorem LaneStep.foldl {α : Type} {f : State → α → State} (l : List α) (hf : ∀ t, ∀ x ∈ l, LaneStep t (f t x)) (s : State) :
    LaneStep s (l.foldl f s) := by
  induction l generalizing s with
  | nil => exact LaneStep.refl s
  | cons x l ih => exact (hf s x (by simp)).trans (ih (fun t y hy => hf t y (by simp [hy])) _)

/-- A change of what lanes hold. -/
theorem LaneStep.held {s t : State} (h : LaneStep s t) (rx : List (Nat × RxSt)) (eq : List (Nat × EqSt)) (tx : List (Nat × TxSt))
    (acq : List (Nat × AcqSt)) (am : List (Nat × AmSt)) (fec : List (Nat × FecSt)) (haze : List (Nat × HazeSt))
    (watch : List (Nat × ChainSt)) :
    LaneStep s { t with rx := rx, eq := eq, tx := tx, acq := acq, am := am, fec := fec, haze := haze, watch := watch } :=
  h.trans ⟨Touches.of_regs rfl, ⟨[], by simp⟩, _, _, _, _, _, _, _, _, _, _, _, _, rfl⟩

theorem LaneStep.setRx {s t : State} (h : LaneStep s t) (n : Nat) (x : RxSt) : LaneStep s (t.setRx n x) := h.held ..
theorem LaneStep.setEq {s t : State} (h : LaneStep s t) (n : Nat) (x : EqSt) : LaneStep s (t.setEq n x) := h.held ..
theorem LaneStep.setTx {s t : State} (h : LaneStep s t) (n : Nat) (x : TxSt) : LaneStep s (t.setTx n x) := h.held ..
theorem LaneStep.setAcq {s t : State} (h : LaneStep s t) (n : Nat) (x : AcqSt) : LaneStep s (t.setAcq n x) := h.held ..
theorem LaneStep.setAm {s t : State} (h : LaneStep s t) (n : Nat) (x : AmSt) : LaneStep s (t.setAm n x) := h.held ..
theorem LaneStep.setHaze {s t : State} (h : LaneStep s t) (n : Nat) (x : HazeSt) : LaneStep s (t.setHaze n x) := h.held ..
theorem LaneStep.setChain {s t : State} (h : LaneStep s t) (n c : Nat) (x : ChainSt) : LaneStep s (t.setChain n c x) := h.held ..

theorem evLane_lt {n k : Nat} (hn : n < 64) (hk : k < 12) : evLane n k < 1152 := by unfold evLane; omega
theorem evOct_lt {o k : Nat} (ho : o < 8) (hk : k < 6) : evOct o k < 1152 := by unfold evOct; omega
theorem evFe_lt {e k : Nat} (he : e < 4) (hk : k < 24) : evFe e k < 1152 := by unfold evFe; omega

/-! ### Scout and bursts -/

section
variable {n : Nat} (hn : n < 64)
include hn

theorem acqEvt_step (f : Fld) (hf : f.off < 0x10000) (s : State) : LaneStep s (acqEvt n f s) :=
  ((LaneStep.refl s).wr _ (laneKey_lane hn hf)).raise (evLane_lt hn (by decide))

theorem scoutBest_step (old : Nat × Nat) (s : State) : LaneStep s (scoutBest n old s) := by
  unfold scoutBest
  have hbest : LaneStep s ((s.wr (laneB n) R.ACQ_SCOUT_STATUS_BEST (bestCand n s)).wr (laneB n) R.ACQ_SCOUT_STATUS_BEST_VALID
      (b2n (decide (3 ≤ candStage n (bestCand n s) s)))) :=
    ((LaneStep.refl s).wr _ (laneKey_lane hn (by decide))).wr _ (laneKey_lane hn (by decide))
  have hmm (t : State) (mm was : Bool) (h : LaneStep s t) : LaneStep s
      (if mm && !was then acqEvt n R.ACQ_EVT_MISMATCH (t.wr (laneB n) R.ACQ_SCOUT_STATUS_MISMATCH (b2n mm))
        else t.wr (laneB n) R.ACQ_SCOUT_STATUS_MISMATCH (b2n mm)) :=
    (h.wr _ (laneKey_lane hn (by decide))).trans
      ((acqEvt_step hn _ (by decide) _).ite (LaneStep.refl _))
  exact hmm _ _ _ (hbest.ite (hbest.trans (acqEvt_step hn _ (by decide) _)))

theorem scoutClear_step (sig : Bool) (s : State) : LaneStep s (scoutClear sig n s) := by
  unfold scoutClear
  refine ((LaneStep.foldl _ (fun t j hj => ?_) s).setAcq _ _).trans (scoutBest_step hn _ _)
  rw [List.mem_range] at hj
  rw [Nat.add_assoc]
  exact (LaneStep.refl t).setReg _ (laneKey_lane hn (by omega))

theorem scoutFollow_step (old : Nat) (s : State) : LaneStep s (scoutFollow n old s) :=
  (scoutClear_step hn _ s).ite ((scoutClear_step hn _ s).ite (scoutBest_step hn _ s))

theorem ctxRelease_step (c cause : Nat) (s : State) : LaneStep s (ctxRelease n c cause s) := by
  have hctx : (fCtx c).off < 0x10000 := by unfold fCtx; split <;> decide
  have hcause : (fCause c).off < 0x10000 := by unfold fCause; split <;> decide
  have hset (x : AcqSt) : LaneStep s (((s.wr (laneB n) (fCtx c) 0).wr (laneB n) (fCause c) cause).setAcq n x) :=
    (((LaneStep.refl s).wr _ (laneKey_lane hn hctx)).wr _ (laneKey_lane hn hcause)).setAcq _ _
  unfold ctxRelease
  exact ((hset _).trans (((LaneStep.refl _).cnt _ (laneKey_lane hn (by decide))).trans (acqEvt_step hn _ (by decide) _))).ite
    (hset _)

theorem ctxReleaseIn_step (st cause : Nat) (s : State) : LaneStep s (ctxReleaseIn n st cause s) := by
  have hone (c : Nat) (t : State) : LaneStep t (if ctxState n c t == st then ctxRelease n c cause t else t) :=
    (ctxRelease_step hn c cause t).ite (LaneStep.refl t)
  exact (hone 0 s).trans (hone 1 _)

theorem burstEnter_step (s : State) : LaneStep s (burstEnter n s) :=
  ((LaneStep.refl s).wr _ (laneKey_lane hn (by decide))).wr _ (laneKey_lane hn (by decide))

theorem burstLeave_step (s : State) : LaneStep s (burstLeave n s) := by
  unfold burstLeave
  have hended := ((((ctxReleaseIn_step hn 1 7 s).trans (ctxReleaseIn_step hn 2 7 _)).setAcq n
    { (ctxReleaseIn n 2 7 (ctxReleaseIn n 1 7 s)).acqOf n with energy := false, lowN := 0, guardAt := none }).wr
      (b := laneB n) (f := R.ACQ_BURST_STAT_UNSUPP) 0 (laneKey_lane hn (by decide)))
  exact hended.ite (hended.wr _ (laneKey_lane hn (by decide)))

end

/-! ### Groups, the checker, Haze and the LQF chain -/

theorem grpGo_step {e g : Nat} (he : e < 4) (hg : g < 16) (st cause : Nat) (s : State) : LaneStep s (grpGo e g st cause s) := by
  have hkey (f : Fld) (hf : f.off < 0x1000) : LaneKey (grpB e g + f.off) := by
    rw [grpB, Nat.add_assoc]
    exact laneKey_fe he (by omega)
  have hcause : LaneStep s (if cause == 0 then s else s.wr (grpB e g) R.FE_GRP_STAT_CAUSE cause) :=
    (LaneStep.refl s).ite ((LaneStep.refl s).wr _ (hkey _ (by decide)))
  unfold grpGo
  exact hcause.ite ((hcause.wr _ (hkey _ (by decide))).raise (evFe_lt he (by decide)))

theorem amGo_step {n : Nat} (hn : n < 64) (st : Nat) (s : State) : LaneStep s (amGo n st s) := by
  have hkey : LaneKey (lstB n + R.FE_LSTAT_AM_STATE.off) := by
    rw [lstB, Nat.add_assoc]
    exact laneKey_fe (by omega) (by simp only [R.FE_LSTAT_AM_STATE]; omega)
  exact ((LaneStep.refl s).wr _ hkey).setAm _ _

theorem grpSpan_lt {e first width n : Nat} (he : e < 4) (h : n ∈ grpSpan e first width) : n < 64 := by
  simp only [grpSpan, List.mem_map, List.mem_filter, decide_eq_true_eq] at h
  omega

theorem grpSync_step {e g : Nat} (he : e < 4) (hg : g < 16) (s : State) : LaneStep s (grpSync e g s) := by
  have hlanes (st : Nat) (t : State) : LaneStep t ((grpLanes e g s).foldl (fun t n => amGo n st t) t) :=
    LaneStep.foldl _ (fun t n hn => amGo_step (grpSpan_lt he hn) st t) t
  unfold grpSync
  exact (((grpGo_step he hg 1 0 s).trans (hlanes 1 _)).ite (LaneStep.refl s)).ite
    ((LaneStep.refl s).ite ((grpGo_step he hg 0 1 s).trans (hlanes 0 _)))

theorem grpLane_step {n : Nat} (hn : n < 64) (s : State) : LaneStep s (grpLane n s) := by
  unfold grpLane
  split
  · next g hg => exact grpSync_step (by omega) (List.mem_range.mp (List.mem_of_find?_eq_some hg)) s
  · exact LaneStep.refl s

theorem fecEvt_step {n : Nat} (hn : n < 64) (f : Fld) (hf : f.off < 0x10000) (s : State) : LaneStep s (fecEvt n f s) :=
  ((LaneStep.refl s).wr _ (laneKey_lane hn hf)).raise (evLane_lt hn (by decide))

theorem pcGo_step {n : Nat} (hn : n < 64) (st : Nat) (s : State) : LaneStep s (pcGo n st s) := by
  have hst : LaneStep s (s.wr (laneB n) R.FEC_PC_STATUS_STATE st) := (LaneStep.refl s).wr _ (laneKey_lane hn (by decide))
  unfold pcGo
  exact ((hst.cnt _ (laneKey_lane hn (by decide))).trans (fecEvt_step hn _ (by decide) _)).ite
    ((hst.trans (fecEvt_step hn _ (by decide) _)).ite hst)

theorem hazeGo_step {n : Nat} (hn : n < 64) (st : Nat) (buf : List (BitVec 2)) (s : State) : LaneStep s (hazeGo n st buf s) := by
  have hbuf : LaneStep s (hazeBuf n buf s) := ((LaneStep.refl s).setHaze _ _).wr _ (laneKey_lane hn (by decide))
  unfold hazeGo
  exact hbuf.ite (((hbuf.wr _ (laneKey_lane hn (by decide))).wr _ (laneKey_lane hn (by decide))).raise (evLane_lt hn (by decide)))

theorem hazeEval_step {n : Nat} (hn : n < 64) (s : State) : LaneStep s (hazeEval n s) := by
  unfold hazeEval
  exact ((LaneStep.refl s).ite (hazeGo_step hn _ _ s)).ite
    (((LaneStep.refl s).ite (((LaneStep.refl s).wr _ (laneKey_lane hn (by decide))).trans (hazeGo_step hn _ _ _))).ite
      ((hazeGo_step hn _ _ s).ite (LaneStep.refl s)))

theorem hazeFollow_step {m : Nat} (hm : m < 64) (s : State) : LaneStep s (hazeFollow m s) := by
  unfold hazeFollow
  refine LaneStep.foldl _ (fun t j hj => ?_) s
  rw [List.mem_range] at hj
  exact (hazeEval_step (by omega) t).ite (LaneStep.refl t)

theorem chainReset_step {n c : Nat} (hn : n < 64) (hc : c < 5) (s : State) : LaneStep s (chainReset n c s) := by
  have hkey (f : Fld) (hf : f.off < 0xF000) : LaneKey (chB n c + f.off) := by
    rw [chB, Nat.add_assoc]
    exact laneKey_lane hn (by omega)
  unfold chainReset
  have hset := (LaneStep.refl s).setChain n c { ChainSt.idle with r := s.tlv.toNat, due := (s.chain n c).due, inj := (s.chain n c).inj }
  exact (hset.wr _ (laneKey_lane hn (by decide))).ite ((hset.wr _ (hkey _ (by decide))).cnt _ (hkey _ (by decide)))

/-! ### Receive and transmit states -/

theorem rxFollow_step {n : Nat} (hn : n < 64) (old : Nat) (s : State) : LaneStep s (rxFollow n old s) := by
  have hburst := (burstEnter_step hn s).ite (c := (s.rxState n == 7 && old != 7) = true)
    ((burstLeave_step hn s).ite (c := (old == 7 && s.rxState n != 7) = true) (LaneStep.refl s))
  unfold rxFollow
  refine LaneStep.ifThen (LaneStep.ifThen (LaneStep.ifThen (LaneStep.ifThen (hburst.trans (scoutFollow_step hn old _)) ?_) ?_) ?_) ?_
  · exact ((LaneStep.refl _).setAcq _ _).trans (chainReset_step hn (by decide) _)
  · exact pcGo_step hn 1 _
  · exact grpLane_step hn _
  · exact hazeFollow_step hn _

theorem holdLoops_step {r : Nat} (s : State) : LaneStep s (holdLoops r s) := by
  unfold holdLoops
  exact LaneStep.foldl _ (fun t j _ => ((LaneStep.refl t).setTx _ _).ite (LaneStep.refl t)) s

theorem eqMark_step (n r : Nat) (s : State) : LaneStep s (eqMark n r s) :=
  ((LaneStep.refl s).setEq _ _).ite (LaneStep.refl s)

theorem rxGo_step {n : Nat} (hn : n < 64) (st cause : Nat) (s : State) : LaneStep s (rxGo n st cause s) := by
  unfold rxGo
  have hloops := (LaneStep.refl s).ifThen (c := (s.rxState n == 6 && st != 6) = true) (holdLoops_step (r := n) s)
  have hstate := (hloops.wr (b := laneB n) (f := R.RX_STATUS_STATE) st (laneKey_lane hn (by decide))).wr
    (b := laneB n) (f := R.RX_STATUS_LOCKED) (b2n (st == 6)) (laneKey_lane hn (by decide))
  have hlos := hstate.ifThen (c := st ≤ 2) ((LaneStep.refl _).wr (b := laneB n) (f := R.RX_STATUS_LOS) 1 (laneKey_lane hn (by decide)))
  refine LaneStep.trans ?_ (rxFollow_step hn _ _)
  have hmarked (t u : State) (h : LaneStep s t) (hu : LaneStep t u) : LaneStep s
      (if s.rxState n == 6 && st != 6 then
        ((u.cnt (laneB n) R.RX_CNT_UNLOCK 1).wr (laneB n) R.RX_STATUS_UNLOCK_CAUSE cause).raise (evLane n 1)
      else if s.rxState n != 6 && st == 6 then u.raise (evLane n 1) else u) :=
    ((((h.trans hu).cnt _ (laneKey_lane hn (by decide))).wr _ (laneKey_lane hn (by decide))).raise (evLane_lt hn (by decide))).ite
      (((h.trans hu).raise (evLane_lt hn (by decide))).ite (h.trans hu))
  exact hmarked _ _ (hlos.setRx _ _) ((LaneStep.refl _).ite (eqMark_step n 1 _))

theorem rxTryClk_step {n : Nat} (hn : n < 64) (s : State) : LaneStep s (rxTryClk n s) :=
  (rxGo_step hn 2 0 s).ite (LaneStep.refl s)

theorem rxLoseClk_step {n : Nat} (hn : n < 64) (fam : Bool) (s : State) : LaneStep s (rxLoseClk fam n s) :=
  (rxGo_step hn 1 4 s).ite (LaneStep.refl s)

theorem txGo_step {n : Nat} (hn : n < 64) (st : Nat) (s : State) : LaneStep s (txGo n st s) :=
  (LaneStep.refl s).ite ((((LaneStep.refl s).wr _ (laneKey_lane hn (by decide))).raise (evLane_lt hn (by decide))).trans
    (hazeEval_step hn _))

theorem txEval_step {n : Nat} (hn : n < 64) (s : State) : LaneStep s (txEval n s) := txGo_step hn _ s

end Sys2Proof.Machine
end

section

/-! The synthesisers (R154, R155, R159, R163, R164). -/

namespace Sys2Proof.Machine

/-! ### What a step of a lane keeps -/

theorem LaneStep.rd {s t : State} (h : LaneStep s t) (hr : Rising 0 s.regs) {b : Nat} {f : Fld} (hk : ¬ LaneKey (b + f.off)) :
    t.rd b f = s.rd b f := by
  rw [State.rd, State.rd, (h.touches hr).2 _ hk]

theorem LaneStep.sends {s t : State} (h : LaneStep s t) {id : Nat} (hs : Sends id s) : Sends id t := by
  obtain ⟨l, hl⟩ := h.sent
  obtain ⟨r, hr, hid⟩ := hs
  exact ⟨r, by rw [hl]; exact List.mem_append_left _ hr, hid⟩

theorem not_laneKey_oct {o off : Nat} (ho : o < 8) (hoff : off < 0x1000) : ¬ LaneKey (octB o + off) := by
  unfold LaneKey octB RaiseKey FltKey EvtKey
  simp only [objKey]
  omega

/-! ### Entering a state -/

theorem octGain_step {o : Nat} (ho : o < 8) (s : State) : LaneStep s (octGain o s) := by
  unfold octGain octLanes
  refine LaneStep.foldl _ (fun t n hn => ?_) s
  obtain ⟨j, hj, rfl⟩ := List.mem_map.mp hn
  rw [List.mem_range] at hj
  exact (rxTryClk_step (by omega) t).trans (txEval_step (by omega) _)

theorem octLose_step {o : Nat} (ho : o < 8) (fam : Bool) (s : State) : LaneStep s (octLose fam o s) := by
  unfold octLose octLanes
  refine LaneStep.foldl _ (fun t n hn => ?_) s
  obtain ⟨j, hj, rfl⟩ := List.mem_map.mp hn
  rw [List.mem_range] at hj
  exact (rxLoseClk_step (by omega) fam t).trans (txEval_step (by omega) _)

/-- What the synthesiser notes as it locks. -/
def synNoted (o : Nat) (s : State) : State :=
  { s with synLock := put (0, 0) s.synLock o (s.tlv.toNat, s.now), sscStart := put 0 s.sscStart o s.now }

/-- A state across LOCKED, or on one side of it. -/
theorem synGo_cases (o st : Nat) (s : State) :
    (s.rd (octB o) R.OCT_SYN_STATUS_STATE ≠ 3 ∧ st = 3 ∧
      synGo o st s = octGain o ((synNoted o (s.wr (octB o) R.OCT_SYN_STATUS_STATE st)).raise (evOct o 0))) ∨
    (s.rd (octB o) R.OCT_SYN_STATUS_STATE = 3 ∧ st ≠ 3 ∧
      synGo o st s = octLose false o ((s.wr (octB o) R.OCT_SYN_STATUS_STATE st).raise (evOct o 0))) ∨
    ((s.rd (octB o) R.OCT_SYN_STATUS_STATE = 3 ↔ st = 3) ∧ synGo o st s = s.wr (octB o) R.OCT_SYN_STATUS_STATE st) := by
  unfold synGo
  by_cases hold : s.rd (octB o) R.OCT_SYN_STATUS_STATE = 3 <;> by_cases hst : st = 3
  · exact .inr (.inr ⟨by simp [hold, hst], by simp [hold, hst]⟩)
  · exact .inr (.inl ⟨hold, hst, by simp [hold, hst]⟩)
  · exact .inl ⟨hold, hst, by simp [hold, hst]; rfl⟩
  · exact .inr (.inr ⟨by simp [hold, hst], by simp [hold, hst]⟩)

/-- From `s` to `u` the octant's state was written, its lock noted or not, and then only lanes changed. -/
structure SynEntered (o st : Nat) (noted : Bool) (s u : State) : Prop where
  lanes : LaneStep (if noted then synNoted o (s.wr (octB o) R.OCT_SYN_STATUS_STATE st) else s.wr (octB o) R.OCT_SYN_STATUS_STATE st) u

theorem SynEntered.start {o st : Nat} {noted : Bool} (s : State) :
    (if noted then synNoted o (s.wr (octB o) R.OCT_SYN_STATUS_STATE st) else s.wr (octB o) R.OCT_SYN_STATUS_STATE st).regs =
        (s.wr (octB o) R.OCT_SYN_STATUS_STATE st).regs ∧
      (if noted then synNoted o (s.wr (octB o) R.OCT_SYN_STATUS_STATE st) else s.wr (octB o) R.OCT_SYN_STATUS_STATE st).raised = s.raised := by
  cases noted <;> exact ⟨rfl, rfl⟩

/-- Its own state, and the registers of the other octants. -/
theorem SynEntered.regs {o st : Nat} {noted : Bool} {s u : State} (h : SynEntered o st noted s u) (hr : Rising 0 s.regs)
    (ho : o < 8) (hst : st < 4) :
    u.rd (octB o) R.OCT_SYN_STATUS_STATE = st ∧
      ∀ (i : Oct) (off : Fin 0x1000), i.val ≠ o → u.getReg (octB i.val + off.val) = s.getReg (octB i.val + off.val) := by
  have hwr : Rising 0 (s.wr (octB o) R.OCT_SYN_STATUS_STATE st).regs := State.wr_rising s _ _ _ hr
  obtain ⟨hregs, -⟩ := SynEntered.start (o := o) (st := st) (noted := noted) s
  have hget (k : Nat) (hk : ¬ LaneKey k) : u.getReg k = (s.wr (octB o) R.OCT_SYN_STATUS_STATE st).getReg k := by
    rw [(h.lanes.touches (hregs ▸ hwr)).2 k hk, State.getReg, hregs]
    rfl
  constructor
  · rw [State.rd, hget _ (not_laneKey_oct ho (by decide)), ← State.rd, State.rd_wr_same s _ _ _ hr (by decide)]
    exact Nat.mod_eq_of_lt hst
  · intro i off hi
    rw [hget _ (not_laneKey_oct i.isLt off.isLt), State.getReg_wr_ne s _ hr]
    have := off.isLt
    simp only [octB, R.OCT_SYN_STATUS_STATE]
    omega

theorem synGo_entered {o st : Nat} (ho : o < 8) (s : State) :
    SynEntered o st (decide (s.rd (octB o) R.OCT_SYN_STATUS_STATE ≠ 3 ∧ st = 3)) s (synGo o st s) := by
  rcases synGo_cases o st s with ⟨hold, hst, h⟩ | ⟨hold, hst, h⟩ | ⟨hsame, h⟩
  · rw [h, decide_eq_true (And.intro hold hst)]
    exact ⟨((LaneStep.refl _).raise (evOct_lt ho (by decide))).trans (octGain_step ho _)⟩
  · rw [h, decide_eq_false (by tauto)]
    exact ⟨((LaneStep.refl _).raise (evOct_lt ho (by decide))).trans (octLose_step ho _ _)⟩
  · rw [h, decide_eq_false (by tauto)]
    exact ⟨LaneStep.refl _⟩

theorem domOn_wr_oct {o d v : Nat} {f : Fld} {s : State} (hr : Rising 0 s.regs) (ho : o < 8) (hf : f.off < 0x1000) :
    (s.wr (octB o) f v).domOn d = s.domOn d := by
  have hne : (Obj.dom d).base + R.PWR_DOM_STAT_STATE.off ≠ octB o + f.off := by
    simp only [Obj.base, objKey, octB]
    omega
  rw [State.domOn, State.rd, State.getReg_wr_ne s v hr hne]
  rfl

theorem synGo_sends {o st : Nat} {s : State} (hr : Rising 0 s.regs) (ho : o < 8)
    (hcross : (s.rd (octB o) R.OCT_SYN_STATUS_STATE = 3) ≠ (st = 3)) (hon : s.domOn (64 + o) = true) :
    Sends (0x300 + 6 * o) (synGo o st s) := by
  have hid : evOct o 0 = 0x300 + 6 * o := by unfold evOct; omega
  have hopen (u : State) (hu : u.regs = (s.wr (octB o) R.OCT_SYN_STATUS_STATE st).regs) : Sends (0x300 + 6 * o) (u.raise (evOct o 0)) := by
    rw [hid]
    refine State.raise_sends (State.evClamped_of_domOn (evDom_oct (k := 0) ho (by decide)) ?_)
    rw [← hon, ← domOn_wr_oct (v := st) (f := R.OCT_SYN_STATUS_STATE) hr ho (by decide), State.domOn, State.domOn, State.rd, State.rd,
      State.getReg, State.getReg, hu]
  rcases synGo_cases o st s with ⟨-, -, h⟩ | ⟨-, -, h⟩ | ⟨hsame, -⟩
  · rw [h]
    exact (octGain_step ho _).sends (hopen _ rfl)
  · rw [h]
    exact (octLose_step ho _ _).sends (hopen _ rfl)
  · exact absurd (propext hsame) hcross

theorem synGo_locked {o : Nat} {s : State} (hinv : Inv s) (ho : o < 8) (hold : s.rd (octB o) R.OCT_SYN_STATUS_STATE ≠ 3) :
    look (0, 0) (synGo o 3 s).synLock o = (s.tlv.toNat, s.now) ∧ look 0 (synGo o 3 s).sscStart o = s.now := by
  have hmaps := hinv.maps_rising
  have hkept {t u : State} (h : LaneStep t u) : u.synLock = t.synLock ∧ u.sscStart = t.sscStart := by
    obtain ⟨_, _, _, _, _, _, _, _, _, _, _, _, hu⟩ := h.frame
    rw [hu]
    exact ⟨rfl, rfl⟩
  have hstep := (synGo_entered (st := 3) ho s).lanes
  rw [decide_eq_true (And.intro hold rfl), if_pos rfl] at hstep
  obtain ⟨hlock, hssc⟩ := hkept hstep
  rw [hlock, hssc]
  exact ⟨look_put_same _ _ hmaps.synLock, look_put_same _ _ hmaps.sscStart⟩

/-! ### The obligation -/

theorem synEnable_hook (o : Nat) (w : Word) (t : State) (h31 : fget w 31 31 = 0) :
    hookOct o 0 w t =
      (let u := if t.on (octB o) R.OCT_SYN_CTRL_ENABLE then
        (if t.rd (octB o) R.OCT_SYN_STATUS_STATE = 0 ∧ t.domOn (64 + o) = true ∧ t.anaRdy (64 + o) = true then
          synGo o 1 (t.wr (octB o) R.OCT_SYN_STATUS_ATTEMPT 0) else t)
      else if t.rd (octB o) R.OCT_SYN_STATUS_STATE = 0 then t else synGo o 0 t
      if fget w 1 1 = 1 then synRecal o u else u) := by
  have hhot (i : Nat) : hot w i = decide (fget w i i = 1) := by
    rw [hot, fget_bit]
    cases w.getLsbD i <;> rfl
  have hsync : synEnableSync o t = if t.on (octB o) R.OCT_SYN_CTRL_ENABLE then
        (if t.rd (octB o) R.OCT_SYN_STATUS_STATE = 0 ∧ t.domOn (64 + o) = true ∧ t.anaRdy (64 + o) = true then
          synGo o 1 (t.wr (octB o) R.OCT_SYN_STATUS_ATTEMPT 0) else t)
      else if t.rd (octB o) R.OCT_SYN_STATUS_STATE = 0 then t else synGo o 0 t := by
    unfold synEnableSync synCal
    by_cases hen : t.on (octB o) R.OCT_SYN_CTRL_ENABLE = true
    · simp [hen, and_assoc]
    · simp [hen]
  show (if hot w 31 then octReset o t else if hot w 1 then synRecal o (synEnableSync o t) else synEnableSync o t) = _
  rw [hhot 31, hhot 1, h31, hsync]
  simp

theorem recal_hook {o : Nat} {w : Word} {t : State} (h31 : fget w 31 31 = 0) (h1 : fget w 1 1 = 1)
    (hen : t.on (octB o) R.OCT_SYN_CTRL_ENABLE = true) (hst : t.rd (octB o) R.OCT_SYN_STATUS_STATE ≠ 0) :
    hookOct o 0 w t = synGo o 1 (t.wr (octB o) R.OCT_SYN_STATUS_ATTEMPT 0) := by
  rw [synEnable_hook o w t h31]
  simp [hen, hst, h1, synRecal, synCal]

theorem effKey_oct (o off : Nat) (s : State) : effKey (.oct o) off s = some (octB o + off) := rfl

/-- ENABLE as a write of its register leaves it, whatever the map of registers. -/
theorem stored_synEnable {o : Nat} {a : Nat} (ho : o < 8) (ha : a = octB o) (w : Word) (s : State) (hw : fget w 0 0 = 1)
    (hst : s.rd (octB o) R.OCT_SYN_STATUS_STATE ≠ 0) :
    (stored a w s.fresh).on (octB o) R.OCT_SYN_CTRL_ENABLE = true ∧ (stored a w s.fresh).rd (octB o) R.OCT_SYN_STATUS_STATE ≠ 0 := by
  subst ha
  have hplace : place (octB o) = .reg (.oct o) 0 := place_oct (off := 0) ho (by decide)
  have hflds : keyFlds (octB o) = keyFlds (octB 0 + 0) := keyFlds_oct (off := 0) ho (by decide)
  have hopen : (keyFlds (octB o)).all (fun f => !lockable (.oct o) 0 f) = true := by
    rw [hflds]
    exact (by decide +kernel : (keyFlds (octB 0 + 0)).all (fun f => !lockable (.oct 0) 0 f) = true)
  have hstored : stored (octB o) w s.fresh =
      s.fresh.setReg (octB o) (writtenWord (.oct o) 0 (octB o) w (s.fresh.getReg (octB o))) := by
    have hawake : awake (octB o) s.fresh = s.fresh := awake_none (gateOf_oct (off := 0) ho (by decide)) _
    rw [stored_plain hplace (effKey_oct o 0 _) (.inr hopen) (by rw [hflds]; decide +kernel), hawake]
  have hbit : fget (writtenWord (.oct o) 0 (octB o) w (s.fresh.getReg (octB o))) 0 0 = 1 := by
    rw [← hw]
    exact fget_writtenWord w _ (fun _ _ => rfl) (by rw [hflds]; decide +kernel)
  generalize writtenWord (.oct o) 0 (octB o) w (s.fresh.getReg (octB o)) = v at hstored hbit
  have hreset : ∀ i : Oct, fget (resetWord (octB i.val)) 0 0 = 0 := by decide +kernel
  have hne : v ≠ resetWord (octB o) := by
    rintro rfl
    rw [hreset ⟨o, ho⟩] at hbit
    omega
  rw [hstored]
  constructor
  · have hget : (s.fresh.setReg (octB o) v).getReg (octB o) = v := look_put_same_of _ s.regs hne
    have hrd : (s.fresh.setReg (octB o) v).rd (octB o) R.OCT_SYN_CTRL_ENABLE = 1 :=
      (congrArg (fun x => fget x 0 0) hget).trans hbit
    rw [State.on, hrd]
    rfl
  · have hoff : octB o + R.OCT_SYN_STATUS_STATE.off ≠ octB o := by simp only [R.OCT_SYN_STATUS_STATE]; omega
    have hget : (s.fresh.setReg (octB o) v).getReg (octB o + R.OCT_SYN_STATUS_STATE.off) =
        s.getReg (octB o + R.OCT_SYN_STATUS_STATE.off) := look_put_ne_of _ s.regs hoff (.inl hne)
    rw [State.rd, hget]
    exact hst

theorem hot_set (w : Word) (i : Nat) (hi : i < 32) : hot (fset w i i 1) i = true := by simp [hot, fset_getLsbD, hi]

theorem octInject_hook (o : Nat) (v : Word) (t : State) :
    hookOct o 0x10 v t =
      if v.getLsbD 0 = true ∧ t.synLocked o = true then (synGo o 2 t).cnt (octB o) R.OCT_SYN_CNT_LOL 1
      else if v.getLsbD 1 = true ∧ (t.rd (octB o) R.OCT_SYN_STATUS_STATE = 1 ∨ t.rd (octB o) R.OCT_SYN_STATUS_STATE = 2) then
        synFail o (t.wr (octB o) R.OCT_SYN_STATUS_ATTEMPT 3) else t := by
  show (if hot v 0 && t.synLocked o then synLoss o t else if hot v 1 then synInjFail o t else t) = _
  unfold synLoss synInjFail hot State.synLocked
  generalize v.getLsbD 0 = lol
  generalize v.getLsbD 1 = fail
  by_cases h3 : t.rd (octB o) R.OCT_SYN_STATUS_STATE = 3
  · cases lol <;> simp [h3]
  · simp only [beq_iff_eq, Bool.and_eq_true, Bool.or_eq_true, h3, and_false, if_false]
    cases fail <;> simp

section
variable {o : Nat} {s : State} (hl : s.on (octB o) R.OCT_SYN_STATUS_LREF_LOST = false)
include hl

theorem synBand_eq (band : Nat) : synBand o band s = if s.rd (octB o) R.OCT_SYN_STATUS_STATE = 1 then
    synGo o 2 (s.wr (octB o) R.OCT_SYN_STATUS_BAND band) else s := by
  simp [synBand, State.lrefLost, hl]

theorem synLock_eq : synLock o s = if s.rd (octB o) R.OCT_SYN_STATUS_STATE = 2 then synGo o 3 s else s := by
  simp [synLock, State.lrefLost, hl]

theorem synTimeout_eq (st : Nat) : synTimeout o st s = if s.rd (octB o) R.OCT_SYN_STATUS_STATE = st then
    (if 3 ≤ s.rd (octB o) R.OCT_SYN_STATUS_ATTEMPT + 1 then
      synFail o (s.wr (octB o) R.OCT_SYN_STATUS_ATTEMPT (s.rd (octB o) R.OCT_SYN_STATUS_ATTEMPT + 1))
    else synGo o 1 (s.wr (octB o) R.OCT_SYN_STATUS_ATTEMPT (s.rd (octB o) R.OCT_SYN_STATUS_ATTEMPT + 1))) else s := by
  simp [synTimeout, synAttemptFailed, State.lrefLost, hl]

end

/-- Settles O23: the commands by their effects, and what entering a state leaves. -/
theorem synthesisers : Obligations.Synthesisers := by
  unfold Obligations.Synthesisers
  refine ⟨?_, ?_, ?_, ?_, ?_, ?_, ?_⟩
  · intro m o w s h31 h
    refine exec_closed (f := writeReg m (octB o.val) R.OCT_SYN_CTRL_ENABLE w) rfl ?_
    have ha : octB o.val + 0 = 0x00100000 + 0x10000 * o.val := by unfold octB; omega
    refine (oct_wrote (off := 0) o.isLt (by decide +kernel) rfl (ha ▸ h)).trans ?_
    rw [ha]
    exact wrote_congr (synEnable_hook o.val w _ h31)
  · intro m o w s h31 h0 hst h
    have ha : octB o.val + 0 = 0x00100000 + 0x10000 * o.val := by unfold octB; omega
    refine exec_closed (f := writeFld m (octB o.val) R.OCT_SYN_CTRL_RECAL 1 w) rfl ?_
    refine (oct_wrote (off := 0) o.isLt (by decide +kernel) rfl (ha ▸ h)).trans ?_
    rw [ha]
    obtain ⟨hen, hst'⟩ := stored_synEnable o.isLt (by unfold octB; omega : 0x00100000 + 0x10000 * o.val = octB o.val)
      (fset w 1 1 1) s ((fget_fset_beside w 1 1 1 0 0 (.inr (by decide))).trans h0) hst
    exact wrote_congr (recal_hook ((fget_fset_beside w 1 1 1 31 31 (.inl (by decide))).trans h31)
      (fget_fset_same w 1 1 (by decide)) hen hst')
  · intro m o w s h
    have ha : octB o.val + 0 = 0x00100000 + 0x10000 * o.val := by unfold octB; omega
    refine exec_closed (f := writeFld m (octB o.val) R.OCT_SYN_CTRL_OCT_RST 1 w) rfl ?_
    refine (oct_wrote (off := 0) o.isLt (by decide +kernel) rfl (ha ▸ h)).trans ?_
    rw [ha]
    exact wrote_congr (if_pos (hot_set w 31 (by decide)))
  · intro o band s hl b st bad bad'
    exact ⟨exec_closed (f := synBand o.val band.toNat) rfl (synBand_eq (s := s.fresh) hl _),
      exec_closed (f := synLock o.val) rfl (synLock_eq (s := s.fresh) hl),
      exec_closed (f := synTimeout o.val 1) rfl (synTimeout_eq (s := s.fresh) hl 1),
      exec_closed (f := synTimeout o.val 2) rfl (synTimeout_eq (s := s.fresh) hl 2)⟩
  · intro o s
    exact exec_closed (f := synLoss o.val) rfl rfl
  · intro m o w s f
    have ha : octB o.val + 0x10 = 0x00100010 + 0x10000 * o.val := by unfold octB; omega
    refine ⟨fun h => ?_, fun h => ?_⟩
    · refine exec_closed (f := writeFld m (octB o.val) R.OCT_SYN_INJECT_INJ_LOL 1 w) rfl ?_
      refine (oct_wrote (off := 0x10) o.isLt (by decide +kernel) rfl (ha ▸ h)).trans ?_
      rw [ha]
      exact wrote_congr (octInject_hook o.val _ _)
    · refine exec_closed (f := writeFld m (octB o.val) R.OCT_SYN_INJECT_INJ_FAIL 1 w) rfl ?_
      refine (oct_wrote (off := 0x10) o.isLt (by decide +kernel) rfl (ha ▸ h)).trans ?_
      rw [ha]
      exact wrote_congr (octInject_hook o.val _ _)
  · intro o st s hinv hst old u
    have hr := hinv.regs_rising
    have hentered : SynEntered o.val st _ s u := synGo_entered o.isLt s
    obtain ⟨hstate, hothers⟩ := hentered.regs hr o.isLt hst
    obtain ⟨hmem, hpending, hnow⟩ : u.mem = s.mem ∧ u.pending = s.pending ∧ u.now = s.now := by
      obtain ⟨_, _, _, _, _, _, _, _, _, _, _, _, hu⟩ := hentered.lanes.frame
      rw [hu]
      split <;> exact ⟨rfl, rfl, rfl⟩
    refine ⟨hstate, hmem, hpending, hnow, fun hold h3 => ?_, fun hcross hon => synGo_sends hr o.isLt hcross hon, fun hsame => ?_,
      fun i off hi => hothers i off (fun h => hi (Fin.ext h))⟩
    · subst h3
      exact synGo_locked hinv o.isLt hold
    · rcases synGo_cases o.val st s with ⟨hold, h3, -⟩ | ⟨hold, h3, -⟩ | ⟨-, h⟩
      · exact absurd (hsame.mpr h3) hold
      · exact absurd (hsame.mp hold) h3
      · exact (congrArg State.raised h).trans rfl

end Sys2Proof.Machine
end

section

/-! The transmit path (R138 to R163). -/

namespace Sys2Proof.Machine

theorem txAlarm_eq (n cause : Nat) (s : State) :
    txAlarm n cause s = ((s.wr (laneB n) R.TX_STATUS_ALARM 1).wr (laneB n) R.TX_STATUS_ALARM_CAUSE cause).raise (12 * n + 6) := by
  rw [txAlarm, evLane, Nat.mul_comm]

/-! ### Served writes -/

theorem txEval_eq (n : Nat) (t : State) :
    txEval n t = txGo n (if t.on (laneB n) R.TX_CTRL_ENABLE && t.domOn n then
        (if t.synLocked (n / 8) && t.anaRdy n && modeFamily (t.rd (laneB n) R.TX_CTRL_MODE) == some (t.octFamily (n / 8)) then 2 else 1)
      else 0) t := by
  unfold txEval txWant
  cases t.on (laneB n) R.TX_CTRL_ENABLE && t.domOn n <;> rfl

/-- A tap's write, by the bank that COEF_SEL names. -/
theorem txCoefWrite_cases (n : Nat) (w : Word) (s : State) :
    let b := laneB n
    let bank := s.rd b R.TX_COEF_SEL_BANK
    let i := s.rd b R.TX_COEF_SEL_INDEX
    let busy := bank = s.rd b R.TX_CTRL_ACT_BANK ∨ (s.on b R.TX_STATUS_XF_BUSY = true ∧ bank = (s.txOf n).outBank)
    (8 < i → txCoefWrite n w s = txAutoInc n s) ∧
    (i ≤ 8 → busy → txCoefWrite n w s =
      (((s.cnt b R.TX_CNT_CLIP_REFUSED 1).wr b R.TX_STATUS_ALARM 1).wr b R.TX_STATUS_ALARM_CAUSE 1).raise (12 * n + 6)) ∧
    (i ≤ 8 → ¬busy → txCoefWrite n w s = txAutoInc n
      ((coefNote ((Obj.txCoef n bank i).base + 0x2020) s).setReg ((Obj.txCoef n bank i).base + 0x2020) (w &&& 0x3FF))) := by
  intro b bank i busy
  have hbusy : (bank == s.rd b R.TX_CTRL_ACT_BANK || (s.on b R.TX_STATUS_XF_BUSY && bank == (s.txOf n).outBank)) = decide busy := by
    simp [busy, Bool.decide_or, Bool.decide_and, beq_eq_decide]
  refine ⟨fun hi => if_pos hi, fun hi hb => ?_, fun hi hb => ?_⟩
  · rw [txCoefWrite, if_neg (Nat.not_lt.mpr hi), hbusy, if_pos (decide_eq_true hb), txRefuse, txAlarm_eq]
  · rw [txCoefWrite, if_neg (Nat.not_lt.mpr hi), hbusy, if_neg (by simpa using hb)]
    rfl

/-! ### Underruns and symbols sent -/

theorem txUnderrun_eq (n : Nat) (s : State) :
    let b := laneB n
    let dry := s.rd b R.TX_SRC_SRC = 2 ∨ (s.rd b R.TX_SRC_SRC = 1 ∧ (s.domOn (78 + n / 16) = false ∨ laneGrp n s = none))
    let due := s.rd b R.TX_STATUS_STATE = 2 ∧ dry ∧ txGateShut n s = false
    let fill := if s.rd b R.TX_CTRL_MODE = 0 then [s.rdI b R.TX_SRC_FILL] else [s.rdI b R.TX_SRC_FILL, s.rdI b R.TX_SRC_FILL]
    txUnderrun n s = if due then
      ((((s.setTx n { s.txOf n with dac := fill }).cnt b R.TX_CNT_UNDER_UNDER 1).wr b R.TX_STATUS_ALARM 1).wr b R.TX_STATUS_ALARM_CAUSE 4).raise
        (12 * n + 6) else s := by
  intro b dry due fill
  have hdue : (s.rd b R.TX_STATUS_STATE == 2 && txCanStarve n s && !txGateShut n s) = decide due := by
    rw [Bool.eq_iff_iff]
    simp [due, dry, txCanStarve, b, and_assoc]
  have hfill : fillDac n s = fill := by
    simp only [fillDac, beq_iff_eq, fill, b]
  rw [txUnderrun, hdue, hfill, txAlarm_eq]
  simp only [decide_eq_true_eq]
  rfl

/-- The delay of jitter stays 0 with JIT_EN = 0. -/
theorem waveSymbol_dly {c : WaveCfg} (hc : c.jit = false) (ws : List Int) {r : WaveRun} (h : r.dly = 0) (ks : List Nat) :
    (waveSymbol c ws r ks).dly = 0 := by
  have hslew : jitSlew c.rate r.slew 0 = 0 := by
    rw [jitSlew, if_pos (le_refl _)]
    omega
  simp [waveSymbol, hc, h, hslew]

theorem waveRun_dly {n : Nat} {syms : List (List Int)} {s : State} (hoff : waveOn n s = false) (h : (s.hazeOf n).dly = 0) :
    (waveRun n syms s).2.1.dly = 0 := by
  have hjit : (waveCfg n s).jit = false := by
    simp only [waveOn, Bool.or_eq_false_iff] at hoff
    exact hoff.1.2
  have hfold (ws : List Int) (place : Nat → List Nat) (l : List Nat) (r : WaveRun) (hr : r.dly = 0) :
      (l.foldl (fun r j => waveSymbol (waveCfg n s) ws r (place j)) r).dly = 0 := by
    induction l generalizing r with
    | nil => exact hr
    | cons j l ih => exact ih _ (waveSymbol_dly hjit ws hr _)
  exact hfold _ _ _ _ h

/-- A count of unmapped bits leaves the fields of the waveform stage, which lie above it. -/
theorem waveOn_counted (n v : Nat) (s : State) : waveOn n (s.cnt (laneB n) R.TX_CNT_CLIP_NRZ_BAD v) = waveOn n s := by
  have hget (w : Word) : (s.setReg (laneB n + R.TX_CNT_CLIP_NRZ_BAD.off) w).getReg (laneB n + R.HAZE_CTRL_ISI_EN.off) =
      s.getReg (laneB n + R.HAZE_CTRL_ISI_EN.off) :=
    look_put_ne_of _ s.regs (by simp only [R.HAZE_CTRL_ISI_EN, R.TX_CNT_CLIP_NRZ_BAD]; omega)
      (.inr (by simp only [R.HAZE_CTRL_ISI_EN, R.TX_CNT_CLIP_NRZ_BAD]; omega))
  have hon (f : Fld) (hf : f.off = R.HAZE_CTRL_ISI_EN.off) :
      (s.cnt (laneB n) R.TX_CNT_CLIP_NRZ_BAD v).on (laneB n) f = s.on (laneB n) f := by
    rw [State.on, State.on, State.rd, State.rd, hf]
    exact congrArg (fun w => fget w f.hi f.lo != 0) (hget _)
  rw [waveOn, waveOn, hon R.HAZE_CTRL_ISI_EN rfl, hon R.HAZE_CTRL_JIT_EN rfl, hon R.HAZE_CTRL_NOISE_EN rfl]

/-- The lane sends what came over the link, with no part of the waveform stage on. -/
theorem txSend_link {n : Nat} {words : List (BitVec 2)} {s : State} (hst : s.rd (laneB n) R.TX_STATUS_STATE = 2)
    (hsrc : s.rd (laneB n) R.TX_SRC_SRC = 1) (hoff : waveOn n s = false) (hdly : (s.hazeOf n).dly = 0) :
    let b := laneB n
    let x := s.txOf n
    let r := txRun (txCfg n s) words ⟨x.line, x.lastT, x.fadeAt, x.lastV, x.lastX, [], [], 0, 0⟩
    let t := s.setTx n { x with line := r.line, lastT := r.lastT, fadeAt := r.fadeAt, lastV := r.lastV, lastX := r.lastX, dac := r.dac }
    let t := (waveRun n r.exact (t.cnt b R.TX_CNT_CLIP_NRZ_BAD r.bad)).1
    txSend n words s = if r.clips = 0 then t
      else (((t.cnt b R.TX_CNT_CLIP_CLIP r.clips).wr b R.TX_STATUS_ALARM 1).wr b R.TX_STATUS_ALARM_CAUSE 6).raise (12 * n + 6) := by
  intro b x r t0 t
  have hoff' : waveOn n (t0.cnt b R.TX_CNT_CLIP_NRZ_BAD r.bad) = false := (waveOn_counted n _ _).trans hoff
  have hdly' : (waveRun n r.exact (t0.cnt b R.TX_CNT_CLIP_NRZ_BAD r.bad)).2.1.dly = 0 := waveRun_dly hoff' hdly
  have hpath : (txPath n words s).1 = if r.clips == 0 then t else txAlarm n 6 (t.cnt b R.TX_CNT_CLIP_CLIP r.clips) := by
    unfold txPath txSource
    rw [hsrc]
    simp only []
    rw [if_neg]
    have hdirect : (waveOn n (t0.cnt b R.TX_CNT_CLIP_NRZ_BAD r.bad) ||
        (waveRun n r.exact (t0.cnt b R.TX_CNT_CLIP_NRZ_BAD r.bad)).2.1.dly != 0) = false := by
      rw [hoff', hdly']
      rfl
    exact ne_true_of_eq_false hdirect
  rw [txSend, txSendW]
  simp [hst, hsrc, hpath, txAlarm_eq, b]

/-- The lane sends nothing where it is not ACTIVE or has no source, and FILL with SRC 5. -/
theorem txSend_still (n : Nat) (words : List (BitVec 2)) (s : State) :
    (s.rd (laneB n) R.TX_STATUS_STATE ≠ 2 → txSend n words s = s) ∧
    (s.rd (laneB n) R.TX_STATUS_STATE = 2 → s.rd (laneB n) R.TX_SRC_SRC = 0 →
      txSend n words s = s.setTx n { s.txOf n with dac := [] }) ∧
    (s.rd (laneB n) R.TX_STATUS_STATE = 2 → s.rd (laneB n) R.TX_SRC_SRC = 5 → txSend n words s =
      s.setTx n { s.txOf n with dac := (List.range words.length).flatMap (fun (_ : Nat) => fillDac n s) }) := by
  refine ⟨fun hst => ?_, fun hst hsrc => ?_, fun hst hsrc => ?_⟩
  · simp [txSend, txSendW, hst]
  · simp [txSend, txSendW, hst, hsrc]
  · simp [txSend, txSendW, hst, hsrc, txFill]

/-! ### Held commits -/

theorem RaiseFrame.tx {s t : State} (h : RaiseFrame s t) : t.tx = s.tx := by
  obtain ⟨_, _, _, _, rfl⟩ := h
  rfl

theorem rejectRec_tx (cls inst cause : Nat) (entry : Option Nat) (s : State) : (rejectRec cls inst cause entry s).tx = s.tx := by
  unfold rejectRec
  refine (RaiseFrame.raise _ _).tx.trans ?_
  cases entry <;> rfl

theorem txAlarm_tx (n cause : Nat) (s : State) : (txAlarm n cause s).tx = s.tx := (RaiseFrame.raise _ _).tx

theorem hazeGo_tx (n st : Nat) (buf : List (BitVec 2)) (s : State) : (hazeGo n st buf s).tx = s.tx := by
  unfold hazeGo
  dsimp only
  split
  · rfl
  · exact (RaiseFrame.raise _ _).tx

theorem hazeEval_tx (n : Nat) (s : State) : (hazeEval n s).tx = s.tx := by
  unfold hazeEval
  dsimp only
  split_ifs
  · rfl
  · exact hazeGo_tx ..
  · rfl
  · exact hazeGo_tx ..
  · exact hazeGo_tx ..
  · rfl

theorem txEval_tx (n : Nat) (s : State) : (txEval n s).tx = s.tx := by
  unfold txEval txGo
  split
  · rfl
  · exact (hazeEval_tx ..).trans (RaiseFrame.raise _ _).tx

theorem foldl_tx {α : Type} {f : State → α → State} (hf : ∀ t x, (f t x).tx = t.tx) (l : List α) (s : State) :
    (l.foldl f s).tx = s.tx := by
  induction l generalizing s with
  | nil => rfl
  | cons x l ih => exact (ih _).trans (hf s x)

theorem coefUndo_tx {p : Nat → Bool} {refuse : State → State} (h : ∀ t, (refuse t).tx = t.tx) (s : State) :
    (coefUndo p refuse s).tx = s.tx := by
  unfold coefUndo
  exact foldl_tx (f := fun t (e : Nat × Word × Nat) => refuse (t.setReg e.1 e.2.1)) (fun t e => h _) _ s

theorem txRefuse_tx (n : Nat) (s : State) : (txRefuse n s).tx = s.tx := txAlarm_tx ..

/-- A commit of one lane leaves what higher lanes hold. -/
theorem setTx_above {n i : Nat} (h : n < i) (x : TxSt) (s : State) : (s.setTx n x).txOf i = s.txOf i :=
  look_put_ne_of _ s.tx (by omega) (.inr h)

theorem txOf_congr {s t : State} (h : t.tx = s.tx) (i : Nat) : t.txOf i = s.txOf i := by
  rw [State.txOf, State.txOf, h]

theorem txCommitted_above {n i : Nat} (h : n < i) (bank hz : Nat) (s : State) : (txCommitted n bank hz s).txOf i = s.txOf i := by
  have hlast (t : State) (c : Bool) (ht : t.txOf i = s.txOf i) : (if c then hazeGo n 2 [] t else t).txOf i = s.txOf i := by
    cases c
    · exact ht
    · exact (txOf_congr (hazeGo_tx ..) i).trans ht
  unfold txCommitted
  refine hlast _ _ ((txOf_congr ((hazeEval_tx ..).trans (txEval_tx ..)) i).trans ?_)
  split
  · rfl
  · refine (setTx_above h _ _).trans (txOf_congr ?_ i)
    exact (coefUndo_tx (txRefuse_tx n) _).trans rfl

theorem txCopy_above {n i : Nat} (h : n < i) (s : State) : (txCopy n s).txOf i = s.txOf i := by
  unfold txCopy
  refine (txCommitted_above h _ _ _).trans ?_
  have hcopy (t : State) : (copyGroup (laneSub n 0x2000) t).txOf i = t.txOf i := 
    txOf_congr (foldl_tx (f := fun u k => u.setReg k (mergeSt k (u.getReg k) (u.getShadow k))) (fun _ _ => rfl) _ t) i
  split
  · exact (setTx_above h _ _).trans ((hcopy _).trans (setTx_above h _ s))
  · exact (hcopy _).trans (setTx_above h _ s)

theorem State.advanceNow_tx (s : State) (t : Nat) : (s.advanceNow t).tx = s.tx := by
  rw [State.advanceNow, State.advance_eq]

theorem State.advanceReq_tx (s : State) (x due : Nat) : (s.advanceReq x due).tx = s.tx := by
  unfold State.advanceReq State.advanceTlv
  split_ifs
  · exact s.advanceNow_tx _
  · rfl
  · rfl
  · rw [State.advance_eq]
  · exact s.advanceNow_tx _

theorem octLanes_sorted (o : Nat) : (octLanes o).Pairwise (· < ·) := by
  rw [octLanes, List.pairwise_map]
  exact List.pairwise_lt_range.imp fun h => by omega

theorem mem_octLanes {n o : Nat} : n ∈ octLanes o ↔ n / 8 = o := by
  simp only [octLanes, List.mem_map, List.mem_range]
  constructor
  · rintro ⟨j, hj, rfl⟩
    omega
  · rintro rfl
    exact ⟨n % 8, by omega, by omega⟩

/-- Lanes that hold nothing are passed over. -/
theorem foldl_txRelease1 (l : List Nat) (x : State × List (Nat × Option Nat)) (h : ∀ m ∈ l, (x.1.txOf m).held = none) :
    l.foldl (fun x n => txRelease1 n x) x = x := by
  induction l with
  | nil => rfl
  | cons m l ih =>
    have hm : txRelease1 m x = x := by rw [txRelease1, h m (by simp)]
    rw [List.foldl_cons, hm]
    exact ih fun k hk => h k (by simp [hk])

/-- The release of one lane's commit, with none reported before it. -/
def txReleased (n : Nat) (h : TxHeld) (t : State) : State :=
  let b := laneB n
  let t := (t.setTx n { t.txOf n with held := none }).wr b R.TX_STATUS_PEND 0
  let t := t.wr b R.TX_PEND_SLIP_SLIP (min (t.tlv.toNat - h.x) 0xFFFFFFFF)
  let t := (((t.cnt b R.TX_CNT_SLIPPED 1).wr b R.TX_STATUS_ALARM 1).wr b R.TX_STATUS_ALARM_CAUSE 2).raise (12 * n + 6)
  if txRules n t = 0 then txCopy n t else rejectRec 2 n (txRules n t) h.entry t

theorem txRelease1_held {n : Nat} {h : TxHeld} {t : State} (hh : (t.txOf n).held = some h) :
    (txRelease1 n (t, [])).1 = txReleased n h t := by
  rw [txRelease1, hh]
  simp only [txAlarm_eq, txTell, List.contains_nil, Bool.false_eq_true, if_false, beq_iff_eq]
  unfold txReleased
  dsimp only
  generalize State.raise _ (12 * n + 6) = u
  by_cases hc : txRules n u = 0
  · rw [if_pos hc, if_pos hc]
  · rw [if_neg hc, if_neg hc]

theorem txReleased_above {n i : Nat} (hi : n < i) (h : TxHeld) (t : State) : (txReleased n h t).txOf i = t.txOf i := by
  have hset (x : TxSt) (u : State) (hu : u.tx = (t.setTx n x).tx) : u.txOf i = t.txOf i :=
    (txOf_congr hu i).trans (setTx_above hi x t)
  unfold txReleased
  dsimp only
  split
  · exact (txCopy_above hi _).trans (hset _ _ (RaiseFrame.raise _ _).tx)
  · exact (txOf_congr (rejectRec_tx ..) i).trans (hset _ _ (RaiseFrame.raise _ _).tx)

theorem txRelease_one {n o : Nat} {h : TxHeld} {s : State} (ho : o = n / 8) (hh : (s.txOf n).held = some h)
    (hlock : s.synLocked o = true) (hothers : ∀ i, i / 8 = o → i ≠ n → (s.txOf i).held = none) :
    txRelease o s = txReleased n h (s.advanceReq ((look (0, 0) s.synLock o).1 + 16384) ((look (0, 0) s.synLock o).2 + 16384)) := by
  have hmem : n ∈ octLanes o := mem_octLanes.mpr ho.symm
  have hany : (octLanes o).any (fun m => (s.txOf m).held.isSome) = true :=
    List.any_eq_true.mpr ⟨n, hmem, by rw [hh]; rfl⟩
  rw [txRelease, hlock, hany, Bool.and_true, if_pos rfl]
  dsimp only
  generalize ht : s.advanceReq _ _ = t
  have htx (i : Nat) : t.txOf i = s.txOf i := txOf_congr (ht ▸ s.advanceReq_tx _ _) i
  obtain ⟨below, above, hl⟩ := List.append_of_mem hmem
  have hsorted := octLanes_sorted o
  rw [hl, List.pairwise_append, List.pairwise_cons] at hsorted
  obtain ⟨-, ⟨habove, -⟩, hbelow⟩ := hsorted
  have hoct (m : Nat) (hm : m ∈ below ∨ m ∈ above) : m / 8 = o :=
    mem_octLanes.mp (by rw [hl]; rcases hm with hm | hm <;> simp [hm])
  rw [hl, List.foldl_append, foldl_txRelease1 below, List.foldl_cons, foldl_txRelease1 above, txRelease1_held (by rw [htx, hh])]
  · intro m hm
    rw [txRelease1_held (by rw [htx, hh]), txReleased_above (habove m hm), htx]
    exact hothers m (hoct m (.inr hm)) (by have := habove m hm; omega)
  · intro m hm
    rw [htx]
    exact hothers m (hoct m (.inl hm)) (by have := hbelow m hm n (by simp); omega)

theorem filter_range_one {k n : Nat} {p : Nat → Bool} (hn : n < k) (hp : ∀ m < k, p m = decide (m = n)) :
    (List.range k).filter p = [n] := by
  have hsame : (List.range k).filter p = (List.range k).filter (fun m => decide (m = n)) :=
    List.filter_congr fun m hm => hp m (List.mem_range.mp hm)
  rw [hsame, List.filter_eq, List.count_eq_one_of_mem List.nodup_range (List.mem_range.mpr hn)]
  rfl

theorem txHeldTimeout_one {n : Nat} {h : TxHeld} {s : State} (hn : n < 64) (hh : (s.txOf n).held = some h)
    (hothers : ∀ i : Lane, i.val ≠ n → (s.txOf i.val).held.any (fun g => g.since == h.since && g.entry == h.entry) = false) :
    txHeldTimeout n s =
      (let b := laneB n
      let t := s.advanceNow (h.since + 78125000)
      let t := (t.setTx n { t.txOf n with held := none }).wr b R.TX_STATUS_PEND 0
      let t := rejectRec 2 n 4 h.entry t
      (((t.cnt b R.TX_CNT_TIMEOUT 1).wr b R.TX_STATUS_ALARM 1).wr b R.TX_STATUS_ALARM_CAUSE 3).raise (12 * n + 6)) := by
  have hheld : ((s.advanceNow (h.since + 78125000)).txOf n).held = some h := by
    rw [txOf_congr (s.advanceNow_tx _), hh]
  rw [txHeldTimeout, hh]
  dsimp only
  rw [filter_range_one hn, txHeldReject, List.foldl_cons, List.foldl_nil, txHeldReject1]
  · simp only [hheld, txTell, List.contains_nil, Bool.false_eq_true, if_false, txAlarm_eq]
  · intro m hm
    by_cases hmn : m = n
    · subst hmn
      simp [hh]
    · have hm' := hothers ⟨m, hm⟩ hmn
      cases hg : (s.txOf m).held with
      | none => simp [hmn]
      | some g => simpa [hg, hmn] using hm'

/-! ### The obligation -/

/-- Settles O22: each command and event by its effect. -/
theorem transmitPath : Obligations.TransmitPath := by
  unfold Obligations.TransmitPath
  refine ⟨?_, ?_, ?_, ?_, ?_, ?_, ?_, ?_⟩
  · intro m n w s h
    exact exec_closed (f := writeReg m (laneB n.val) R.TX_CTRL_ENABLE w) rfl
      (lane_hook (off := 0x2000) (by decide +kernel) (by simp only [laneB]; omega) h rfl rfl fun _ t => txEval_eq n.val t)
  · intro m n w s b a bank i busy h
    have hwrite : writeReg m (laneB n.val) R.TX_COEF_DATA_TAP w s.fresh = answered m a true 0 .done (txCoefWrite n.val w s.fresh) :=
      (congrArg (fun k => writeCmd m k w s.fresh) (by simp only [a, laneB, R.TX_COEF_DATA_TAP]; omega)).trans
        (lane_own (off := 0x2020) n.isLt (by decide +kernel) (by simp only [a, laneB]; omega) h rfl)
    obtain ⟨hnone, hrefuse, hstore⟩ := txCoefWrite_cases n.val w s.fresh
    refine ⟨fun hi => ?_, fun hi hb => ?_, fun hi hb => ?_⟩
    · exact exec_closed (f := writeReg m (laneB n.val) R.TX_COEF_DATA_TAP w) rfl (hwrite.trans (congrArg _ (hnone hi)))
    · exact exec_closed (f := writeReg m (laneB n.val) R.TX_COEF_DATA_TAP w) rfl (hwrite.trans (congrArg _ (hrefuse hi hb)))
    · exact exec_closed (f := writeReg m (laneB n.val) R.TX_COEF_DATA_TAP w) rfl (hwrite.trans (congrArg _ (hstore hi hb)))
  · intro m n w s h
    refine exec_closed (f := writeFld m (laneB n.val) R.TX_INJECT_INJ_ALARM 1 w) rfl
      (lane_hook (off := 0x2040) (by decide +kernel) (by simp only [laneB]; omega) h rfl rfl fun _ t => ?_)
    exact (if_pos (hot_zero w)).trans (txAlarm_eq n.val 7 t)
  · intro n s b dry due fill
    exact exec_closed (f := txUnderrun n.val) rfl (txUnderrun_eq n.val s.fresh)
  · intro n words s b st src
    obtain ⟨hidle, hoff, hfill⟩ := txSend_still n.val words s.fresh
    exact ⟨fun h => exec_closed (f := txSend n.val words) rfl (hidle h),
      fun h h0 => exec_closed (f := txSend n.val words) rfl (hoff h h0),
      fun h h5 => exec_closed (f := txSend n.val words) rfl (hfill h h5)⟩
  · intro n words s hst hsrc hoff hdly b x r t t' _
    exact exec_closed (f := txSend n.val words) rfl (txSend_link (s := s.fresh) hst hsrc hoff hdly)
  · intro n s h hh hlock hothers b z t t1 t2 t3 o ho
    refine exec_closed (f := txRelease o.val) rfl (txRelease_one (s := s.fresh) ho hh (ho ▸ hlock) fun i hi hne => ?_) |>.trans ?_
    · exact hothers ⟨i, by omega⟩ (hi.trans ho) (fun he => hne (congrArg Fin.val he))
    · rw [ho]
      rfl
  · intro n s h hh hothers b t t1 t2
    exact exec_closed (f := txHeldTimeout n.val) rfl
      (txHeldTimeout_one (s := s.fresh) n.isLt hh fun i hi => hothers i fun he => hi (congrArg Fin.val he))


end Sys2Proof.Machine
end

section

/-! The stacks of the Meadow store: pages, reads, the error log, retirement and repair (R302, R303, R327 to R333, R337). -/

namespace Sys2Proof.Machine

/-! ### Keys taken out of a map -/

theorem dropKeys_rising {α : Type} (p : Nat → Bool) {lo : Nat} {m : List (Nat × α)} (h : Rising lo m) : Rising lo (dropKeys p m) := by
  induction m generalizing lo with
  | nil => exact h
  | cons x m ih =>
    obtain ⟨k, y⟩ := x
    obtain ⟨hk, hm⟩ := h
    simp only [dropKeys, List.filter_cons] at ih ⊢
    by_cases hp : p k = true
    · simpa [hp] using (ih hm).mono (by omega)
    · simp only [hp, Bool.not_false, if_true]
      exact ⟨hk, ih hm⟩

theorem look_dropKeys {α : Type} (d : α) (p : Nat → Bool) {lo : Nat} {m : List (Nat × α)} (h : Rising lo m) (j : Nat) :
    look d (dropKeys p m) j = if p j then d else look d m j := by
  induction m generalizing lo with
  | nil => simp [dropKeys, look]
  | cons x m ih =>
    obtain ⟨k, y⟩ := x
    obtain ⟨hk, hm⟩ := h
    have hrest := ih hm
    simp only [dropKeys, List.filter_cons] at hrest ⊢
    by_cases hp : p k = true
    · simp only [hp, Bool.not_true, Bool.false_eq_true, if_false, hrest]
      by_cases hpj : p j = true
      · simp [hpj]
      · have hjk : j ≠ k := fun he => hpj (he ▸ hp)
        rw [if_neg hpj, if_neg hpj, look, if_neg hjk]
        split
        · exact look_below d hm (by omega)
        · rfl
    · simp only [hp, Bool.not_false, if_true, look, hrest]
      by_cases hjk : j = k
      · simp [hjk, hp]
      · simp only [hjk, if_false]
        split <;> split <;> rfl

/-! ### Pages -/

theorem find_put_ne {α : Type} [DecidableEq α] (d v : α) {i j : Nat} (m : List (Nat × α)) (h : j ≠ i) :
    (put d m i v).find? (fun e => e.1 == j) = m.find? (fun e => e.1 == j) := by
  induction m with
  | nil =>
    rw [put]
    split
    · rfl
    · rw [List.find?_cons_of_neg (by simpa using h.symm)]
  | cons x m ih =>
    obtain ⟨k, y⟩ := x
    rw [put]
    split
    · split
      · rfl
      · rw [List.find?_cons_of_neg (by simpa using h.symm)]
    · split
      · next hik =>
        subst hik
        rw [List.find?_cons_of_neg (a := (i, y)) (by simpa using h.symm)]
        split
        · rfl
        · rw [List.find?_cons_of_neg (by simpa using h.symm)]
      · rw [List.find?_cons, List.find?_cons, ih]

theorem find_put_same {α : Type} [DecidableEq α] {d v : α} {i lo : Nat} {m : List (Nat × α)} (hm : Rising lo m) (h : v ≠ d) :
    (put d m i v).find? (fun e => e.1 == i) = some (i, v) := by
  induction m generalizing lo with
  | nil => simp [put, h]
  | cons x m ih =>
    obtain ⟨k, y⟩ := x
    obtain ⟨-, hm⟩ := hm
    simp only [put, if_neg h]
    split
    · simp
    · split
      · simp
      · next hik => rw [List.find?_cons_of_neg (by simpa using Ne.symm hik), ih hm]

theorem frameKey'_inj {m f n g : Nat} (hf : f < 2 ^ 24) (hg : g < 2 ^ 24) (h : (m, f) ≠ (n, g)) : frameKey' n g ≠ frameKey' m f := by
  intro he
  unfold frameKey' at he
  exact h (by rw [Prod.mk.injEq]; omega)

theorem RaiseFrame.pages {s t : State} (h : RaiseFrame s t) : t.pages = s.pages := by
  obtain ⟨_, _, _, _, rfl⟩ := h
  rfl

theorem spareTake_pages {m k : Nat} {s t : State} (h : spareTake m s = some (t, k)) : t.pages = s.pages ∧ t.mem = s.mem := by
  unfold spareTake at h
  dsimp only at h
  split at h
  · cases h
  · obtain ⟨rfl, -⟩ := Prod.mk.inj (Option.some.inj h)
    split
    · exact ⟨(RaiseFrame.raise _ _).pages, State.raise_mem _ _⟩
    · exact ⟨rfl, rfl⟩

/-- Retiring a frame leaves the pages that frames hold. -/
theorem frameRetire_pages (m f : Nat) (s : State) : (frameRetire m f s).pages = s.pages ∧ (frameRetire m f s).mem = s.mem := by
  unfold frameRetire
  split
  · next t k h =>
    obtain ⟨hp, hm⟩ := spareTake_pages h
    rw [← hp, ← hm]
    refine ⟨(RaiseFrame.raise _ _).pages.trans ?_, (State.raise_mem _ _).trans ?_⟩
    · split <;> rfl
    · split <;> rfl
  · refine ⟨(RaiseFrame.raise _ _).pages.trans ?_, (State.raise_mem _ _).trans ?_⟩
    · split <;> rfl
    · split <;> rfl

theorem pageWrite_pages (m f : Nat) (p : Page) (s : State) :
    (pageWrite m f p s).pages = put Page.unwritten s.pages (frameKey' m f) p ∧ (pageWrite m f p s).mem = s.mem := by
  have hretired (t : State) (ht : t.pages = s.pages ∧ t.mem = s.mem) :
      (match logFind m f t with
        | some i => (t.wr (logB m i) R.MC_LOG_W0_REWRITTEN 1).wr (logB m i) R.MC_LOG_W1_REPEAT 0
        | none => t).pages = s.pages ∧
      (match logFind m f t with
        | some i => (t.wr (logB m i) R.MC_LOG_W0_REWRITTEN 1).wr (logB m i) R.MC_LOG_W1_REPEAT 0
        | none => t).mem = s.mem := by
    cases logFind m f t <;> exact ht
  have hfirst : (if look 0 s.uncPend (frameKey' m f) == 1 then frameRetire m f { s with uncPend := eraseKey s.uncPend (frameKey' m f) }
      else s).pages = s.pages ∧ (if look 0 s.uncPend (frameKey' m f) == 1 then
        frameRetire m f { s with uncPend := eraseKey s.uncPend (frameKey' m f) } else s).mem = s.mem := by
    split
    · exact frameRetire_pages ..
    · exact ⟨rfl, rfl⟩
  obtain ⟨hp, hm⟩ := hretired _ hfirst
  constructor
  · exact congrArg (fun l => put Page.unwritten l (frameKey' m f) p) hp
  · exact hm

/-! ### The error log -/

theorem RaiseFrame.cnt {s t : State} (h : RaiseFrame s t) (b : Nat) (f : Fld) (v : Nat) : RaiseFrame s (t.cnt b f v) := h.wr ..

theorem RaiseFrame.raised {s t : State} (h : RaiseFrame s t) (id : Nat) : RaiseFrame s (t.raise id) := h.trans (RaiseFrame.raise t id)

/-- The registers of a channel, of the logs, and those that a raise writes. -/
def StackKey (k : Nat) : Prop := (0x00300000 ≤ k ∧ k < 0x00360000) ∨ (objKey 4 0 ≤ k ∧ k < objKey 5 0) ∨ RaiseKey k

theorem stackKey_mc {m off : Nat} (hm : m < 6) (ho : off < 0x10000) : StackKey (mcB m + off) := .inl (by unfold mcB; omega)

theorem stackKey_log {m i off : Nat} (hm : m < 6) (hi : i < 64) (ho : off < 0x1000) : StackKey (logB m i + off) :=
  .inr (.inl (by simp only [logB, Obj.base, objKey]; omega))

theorem not_raiseKey_mc {m off : Nat} (hm : m < 6) (ho : off < 0x10000) : ¬ RaiseKey (mcB m + off) := by
  unfold RaiseKey FltKey EvtKey mcB objKey
  omega

theorem not_raiseKey_log {m i off : Nat} (hm : m < 6) (hi : i < 64) (ho : off < 0x1000) : ¬ RaiseKey (logB m i + off) := by
  simp only [RaiseKey, FltKey, EvtKey, logB, Obj.base, objKey]
  omega

theorem logB_eq (m i : Nat) : logB m i = 70368744177664 + (m * 64 + i) * 1048576 := by
  simp only [logB, Obj.base, objKey]
  omega

/-- Emptying an entry leaves every key outside it. -/
theorem getReg_logClear {m i k : Nat} {s : State} (hr : Rising 0 s.regs) (h : k < logB m i ∨ logB m i + 0x1000 ≤ k) :
    (logClear m i s).getReg k = s.getReg k := by
  have hout : ¬ keyIn (logB m i) 0x1000 k = true := by
    rw [keyIn, Bool.and_eq_true, decide_eq_true_eq, decide_eq_true_eq]
    omega
  exact (look_dropKeys _ _ hr k).trans (if_neg hout)

theorem logClear_touches {m i : Nat} (hm : m < 6) (hi : i < 64) (s : State) : Touches StackKey s (logClear m i s) := by
  intro hr
  refine ⟨dropKeys_rising _ hr, fun k hk => ?_⟩
  refine getReg_logClear hr ?_
  by_contra h
  refine hk (.inr (.inl ?_))
  rw [logB_eq] at h
  simp only [objKey]
  omega

theorem logFind_lt {m f i : Nat} {s : State} (h : logFind m f s = some i) : i < 64 :=
  List.mem_range.mp (List.mem_of_find?_eq_some h)

theorem logOldest_mem {m i : Nat} {is : List Nat} {s : State} (h : logOldest m is s = some i) : i ∈ is := by
  have hfold (l : List Nat) (b : Option Nat) (hb : ∀ j, b = some j → j ∈ is) (hl : ∀ j ∈ l, j ∈ is) :
      ∀ j, l.foldl (fun b i => match b with
        | none => some i
        | some j => if logLast m i s < logLast m j s then some i else some j) b = some j → j ∈ is := by
    induction l generalizing b with
    | nil => exact hb
    | cons x l ih =>
      refine ih _ (fun j hj => ?_) (fun j hj => hl j (by simp [hj]))
      cases b with
      | none =>
        cases hj
        exact hl _ (by simp)
      | some c =>
        dsimp only at hj
        split at hj
        · cases hj
          exact hl _ (by simp)
        · exact hb _ hj
  exact hfold is none (fun j hj => by cases hj) (fun j hj => hj) i h

theorem logChoose_lt (m : Nat) (s : State) : (logChoose m s).1 < 64 := by
  unfold logChoose
  split
  · next i h => exact List.mem_range.mp (List.mem_of_find?_eq_some h)
  · next h =>
    dsimp only
    cases hor : (logOldest m _ s).or (logOldest m (List.range 64) s) with
    | none => exact (by decide : (0 : Nat) < 64)
    | some i =>
      rw [Option.getD_some]
      rcases Option.or_eq_some_iff.mp hor with h1 | ⟨-, h2⟩
      · exact List.mem_range.mp (List.mem_filter.mp (logOldest_mem h1)).1
      · exact List.mem_range.mp (logOldest_mem h2)

/-- The entry that a frame takes. -/
theorem logTake_cases (m f : Nat) (s : State) :
    (∃ i, logFind m f s = some i ∧ logTake m f s = (s, i)) ∨
    (logFind m f s = none ∧ logTake m f s =
      (let t := ((logClear m (logChoose m s).1 s).wr (logB m (logChoose m s).1) R.MC_LOG_W0_VALID 1).wr
        (logB m (logChoose m s).1) R.MC_LOG_W0_FRAME f
      (if (logChoose m s).2 then (t.cnt (mcB m) R.MC_CNT_REP_LOG_OVF 1).raise (evMc m 5) else t, (logChoose m s).1))) := by
  unfold logTake
  cases logFind m f s with
  | some i => exact .inl ⟨i, rfl, rfl⟩
  | none => exact .inr ⟨rfl, rfl⟩

theorem logTake_lt (m f : Nat) (s : State) : (logTake m f s).2 < 64 := by
  rcases logTake_cases m f s with ⟨i, hi, h⟩ | ⟨-, h⟩
  · rw [h]
    exact logFind_lt hi
  · rw [h]
    exact logChoose_lt m s

theorem logTake_frame (m f : Nat) (s : State) : RaiseFrame s (logTake m f s).1 := by
  rcases logTake_cases m f s with ⟨i, -, h⟩ | ⟨-, h⟩
  · rw [h]
    exact RaiseFrame.refl s
  · rw [h]
    have hset : RaiseFrame s (((logClear m (logChoose m s).1 s).wr (logB m (logChoose m s).1) R.MC_LOG_W0_VALID 1).wr
        (logB m (logChoose m s).1) R.MC_LOG_W0_FRAME f) := (RaiseFrame.wr (RaiseFrame.wr ⟨_, _, _, _, rfl⟩ ..) ..)
    dsimp only
    split
    · exact (hset.cnt ..).raised _
    · exact hset

theorem evMc_lt {m k : Nat} (hm : m < 6) (hk : k < 16) : evMc m k < 1152 := by unfold evMc; omega

theorem logTake_touches {m : Nat} (hm : m < 6) (f : Nat) (s : State) : Touches StackKey s (logTake m f s).1 := by
  rcases logTake_cases m f s with ⟨i, -, h⟩ | ⟨-, h⟩
  · rw [h]
    exact Touches.refl _ _
  · have hi := logChoose_lt m s
    have hset := ((logClear_touches hm hi s).wr (b := logB m (logChoose m s).1) (f := R.MC_LOG_W0_VALID) 1
      (stackKey_log hm hi (by decide))).wr (b := logB m (logChoose m s).1) (f := R.MC_LOG_W0_FRAME) f
      (stackKey_log hm hi (by decide))
    rw [h]
    dsimp only
    split
    · exact (hset.cnt _ (stackKey_mc hm (by decide))).raise (evMc_lt hm (by decide)) fun k hk => .inr (.inr hk)
    · exact hset

/-- The entry that a frame has or takes is valid and names it; beside the count of entries replaced, the channel's
registers stay. -/
structure LogTaken (m f : Nat) (s : State) : Prop where
  valid : (logTake m f s).1.rd (logB m (logTake m f s).2) R.MC_LOG_W0_VALID = 1
  frame : (logTake m f s).1.rd (logB m (logTake m f s).2) R.MC_LOG_W0_FRAME = f
  mc : ∀ g : Fld, g.off < 0x10000 → g.off ≠ R.MC_CNT_REP_LOG_OVF.off → (logTake m f s).1.rd (mcB m) g = s.rd (mcB m) g

theorem rd_logClear_mc {m i : Nat} {g : Fld} (hg : g.off < 0x10000) {s : State} (hr : Rising 0 s.regs) :
    (logClear m i s).rd (mcB m) g = s.rd (mcB m) g := by
  have hlow : mcB m + g.off < logB m i := by
    rw [logB_eq, mcB]
    omega
  rw [State.rd, State.rd, getReg_logClear hr (.inl hlow)]

theorem log_ne_mc {m n i o p : Nat} (hm : m < 6) (ho : o < 0x10000) : mcB m + o ≠ logB n i + p := by
  simp only [logB, Obj.base, objKey, mcB]
  omega

theorem logTaken {m f : Nat} {s : State} (hr : Rising 0 s.regs) (hm : m < 6) (hf : f < 2 ^ 24) : LogTaken m f s := by
  rcases logTake_cases m f s with ⟨i, hi, h⟩ | ⟨-, h⟩
  · have hfound := List.find?_some hi
    simp only [Bool.and_eq_true, beq_iff_eq, State.on, bne_iff_ne] at hfound
    obtain ⟨hvalid, hframe⟩ := hfound
    have hlt : s.rd (logB m i) R.MC_LOG_W0_VALID < 2 := State.rd_lt ..
    constructor
    · rw [h]
      exact (Nat.le_antisymm (Nat.lt_succ_iff.mp hlt) (Nat.pos_of_ne_zero hvalid))
    · rw [h]
      exact hframe
    · intro g _ _
      rw [h]
  · have hi := logChoose_lt m s
    generalize (logChoose m s).1 = i at hi h
    generalize ht : ((logClear m i s).wr (logB m i) R.MC_LOG_W0_VALID 1).wr (logB m i) R.MC_LOG_W0_FRAME f = t at h
    have hrc := ((logClear_touches hm hi s) hr).1
    have hrv := State.wr_rising (logClear m i s) (logB m i) R.MC_LOG_W0_VALID 1 hrc
    have hrt : Rising 0 t.regs := ht ▸ State.wr_rising _ _ _ _ hrv
    have hvalid : t.rd (logB m i) R.MC_LOG_W0_VALID = 1 := by
      rw [← ht, State.rd_wr_apart hrv (by decide), State.rd_wr_same _ _ _ _ hrc (by decide)]
      rfl
    have hframe : t.rd (logB m i) R.MC_LOG_W0_FRAME = f := by
      rw [← ht, State.rd_wr_same _ _ _ _ hrv (by decide)]
      exact Nat.mod_eq_of_lt hf
    have hmc (g : Fld) (hg : g.off < 0x10000) : t.rd (mcB m) g = s.rd (mcB m) g := by
      rw [← ht, State.rd_wr_ne _ _ _ _ _ _ hrv (log_ne_mc hm hg), State.rd_wr_ne _ _ _ _ _ _ hrc (log_ne_mc hm hg),
        rd_logClear_mc hg hr]
    cases hfull : (logChoose m s).2 with
    | false =>
      rw [hfull] at h
      have h' : logTake m f s = (t, i) := h
      exact ⟨by rw [h']; exact hvalid, by rw [h']; exact hframe, fun g hg _ => by rw [h']; exact hmc g hg⟩
    | true =>
      rw [hfull] at h
      have h' : logTake m f s = ((t.cnt (mcB m) R.MC_CNT_REP_LOG_OVF 1).raise (evMc m 5), i) := h
      have hcr : Rising 0 (t.cnt (mcB m) R.MC_CNT_REP_LOG_OVF 1).regs := State.wr_rising _ _ _ _ hrt
      have hkept (g : Fld) (hg : g.off < 0x1000) : ((t.cnt (mcB m) R.MC_CNT_REP_LOG_OVF 1).raise (evMc m 5)).rd (logB m i) g =
          t.rd (logB m i) g := by
        rw [State.raise_rd hcr (evMc_lt hm (by decide)) (not_raiseKey_log hm hi hg)]
        exact State.rd_wr_ne _ _ _ _ _ _ hrt (log_ne_mc hm (by decide)).symm
      refine ⟨by rw [h']; exact (hkept _ (by decide)).trans hvalid, by rw [h']; exact (hkept _ (by decide)).trans hframe, fun g hg hne => ?_⟩
      rw [h', State.raise_rd hcr (evMc_lt hm (by decide)) (not_raiseKey_mc hm hg), ← hmc g hg]
      exact State.rd_wr_ne _ _ _ _ _ _ hrt (by omega)

theorem RaiseFrame.uncPend {s t : State} (h : RaiseFrame s t) : t.uncPend = s.uncPend := by
  obtain ⟨_, _, _, _, rfl⟩ := h
  rfl

/-- A frame whose read was uncorrectable is marked. -/
def uncorrNoted (m f : Nat) (s : State) : State := { s with uncPend := put 0 s.uncPend (frameKey' m f) 1 }

theorem evDom_mc {m k : Nat} (hm : m < 6) (hk : k < 16) : evDom (evMc m k) = some (72 + m) := by
  unfold evDom evMc
  rw [if_neg (by omega), if_neg (by omega), if_neg (by omega), if_pos (by omega)]
  congr 1
  omega

/-- An uncorrectable read, as far as the registers and the frame's mark go. -/
theorem readUncorr_spec {m f : Nat} {s : State} (hinv : Inv s) (hm : m < 6) (hf : f < 2 ^ 24) (hon : s.domOn (72 + m) = true) :
    let u := readUncorr m f s
    let b := logB m (logTake m f (s.cnt (mcB m) R.MC_CNT_UNC_UNCORR 1)).2
    u.rd (mcB m) R.MC_CNT_UNC_UNCORR = min (s.rd (mcB m) R.MC_CNT_UNC_UNCORR + 1) 65535 ∧ u.rd b R.MC_LOG_W0_VALID = 1 ∧
    u.rd b R.MC_LOG_W0_FRAME = f ∧ u.rd b R.MC_LOG_W0_UNCORR = 1 ∧ Sends (914 + 16 * m) u ∧ look 0 u.uncPend (frameKey' m f) = 1 ∧
      u.pages = s.pages := by
  have hr := hinv.regs_rising
  have hrc : Rising 0 (s.cnt (mcB m) R.MC_CNT_UNC_UNCORR 1).regs := State.wr_rising _ _ _ _ hr
  generalize hs : s.cnt (mcB m) R.MC_CNT_UNC_UNCORR 1 = c at hrc
  obtain ⟨hvalid, hframe, hmc⟩ := logTaken (f := f) hrc hm hf
  have hi : (logTake m f c).2 < 64 := logTake_lt m f c
  obtain ⟨hrt, hout⟩ := (logTake_touches hm f c) hrc
  have hsame := logTake_frame m f c
  generalize hl : (logTake m f c).2 = i at hvalid hframe hi
  generalize ht : (logTake m f c).1 = t at hvalid hframe hmc hrt hout hsame
  have hrw : Rising 0 (t.wr (logB m i) R.MC_LOG_W0_UNCORR 1).regs := State.wr_rising _ _ _ _ hrt
  have hru : readUncorr m f s = uncorrNoted m f ((t.wr (logB m i) R.MC_LOG_W0_UNCORR 1).raise (evMc m 2)) := by
    rw [← hl, ← ht, ← hs]
    rfl
  have hlog (g : Fld) (hg : g.off < 0x1000) : (readUncorr m f s).rd (logB m i) g = (t.wr (logB m i) R.MC_LOG_W0_UNCORR 1).rd (logB m i) g := by
    rw [hru]
    exact State.raise_rd hrw (evMc_lt hm (by decide)) (not_raiseKey_log hm hi hg)
  have hpend : t.uncPend = s.uncPend ∧ t.pages = s.pages := by
    obtain ⟨_, _, _, _, he⟩ := hsame
    rw [he, ← hs]
    exact ⟨rfl, rfl⟩
  have hdom : (t.wr (logB m i) R.MC_LOG_W0_UNCORR 1).domOn (72 + m) = true := by
    have hkey : ¬ StackKey ((Obj.dom (72 + m)).base + R.PWR_DOM_STAT_STATE.off) := by
      simp only [StackKey, RaiseKey, FltKey, EvtKey, Obj.base, objKey, R.PWR_DOM_STAT_STATE]
      omega
    have hc : Touches StackKey s c := hs ▸ (Touches.refl _ _).cnt _ (stackKey_mc hm (by decide))
    have hw : Touches StackKey c (t.wr (logB m i) R.MC_LOG_W0_UNCORR 1) :=
      (ht ▸ logTake_touches hm f c).wr _ (stackKey_log hm hi (by decide))
    rw [← hon, State.domOn, State.domOn, State.rd, State.rd, ((hc.trans hw) hr).2 _ hkey]
  refine ⟨?_, (hlog _ (by decide)).trans ?_, (hlog _ (by decide)).trans ?_, (hlog _ (by decide)).trans ?_, ?_, ?_, ?_⟩
  · rw [hru]
    refine (State.raise_rd hrw (evMc_lt hm (by decide)) (not_raiseKey_mc hm (by decide))).trans ?_
    rw [State.rd_wr_ne _ _ _ _ _ _ hrt (log_ne_mc hm (by decide)), hmc _ (by decide) (by decide), ← hs]
    exact State.rd_cnt_same _ _ _ _ hr (by decide)
  · rw [State.rd_wr_apart hrt (by decide), hvalid]
  · rw [State.rd_wr_apart hrt (by decide), hframe]
  · exact State.rd_wr_same _ _ _ _ hrt (by decide)
  · rw [hru]
    have hid : evMc m 2 = 914 + 16 * m := by unfold evMc; omega
    have hsent := State.raise_sends (State.evClamped_of_domOn (id := evMc m 2) (evDom_mc hm (by decide)) hdom)
    rw [hid] at hsent
    rw [hid]
    exact hsent
  · rw [hru]
    refine look_put_same 0 1 (lo := 0) ?_
    rw [(RaiseFrame.raise _ _).uncPend]
    exact hpend.1 ▸ hinv.maps_rising.uncPend
  · rw [hru]
    exact (RaiseFrame.raise _ _).pages.trans hpend.2

/-- The channel's counts of a corrected read. -/
def correctedCounted (m w : Nat) (s : State) : State := (s.cnt (mcB m) R.MC_CNT_COR_PAGES 1).cnt (mcB m) R.MC_CNT_BITS_BITS w

/-- What a corrected read notes in an entry. -/
def correctedNoted (b w : Nat) (loc : Word) (s : State) : State :=
  let s := (s.cnt b R.MC_LOG_W1_HITS 1).cnt b R.MC_LOG_W1_REPEAT 1
  let s := s.wr b R.MC_LOG_W1_MAX_ERR (max (s.rd b R.MC_LOG_W1_MAX_ERR) w)
  let s := s.wr64 b R.MC_LOG_W3_LAST R.MC_LOG_W4_LAST s.tlv.toNat
  ((s.wr b R.MC_LOG_W2_PC (fget loc 31 27)).wr b R.MC_LOG_W2_BANK (fget loc 26 22)).wr b R.MC_LOG_W2_ROW (fget loc 21 6)

/-- The fields that a corrected read writes in an entry. -/
def correctedFields (w : Nat) (loc : Word) (h q e t : Nat) : List (Fld × Nat) :=
  [(R.MC_LOG_W1_HITS, h), (R.MC_LOG_W1_REPEAT, q), (R.MC_LOG_W1_MAX_ERR, max e w), (R.MC_LOG_W3_LAST, t),
    (R.MC_LOG_W4_LAST, t / 2 ^ 32), (R.MC_LOG_W2_PC, fget loc 31 27), (R.MC_LOG_W2_BANK, fget loc 26 22),
    (R.MC_LOG_W2_ROW, fget loc 21 6)]

/-- In an entry without hits. -/
theorem correctedNoted_fresh {b w : Nat} {loc : Word} {s : State} (hr : Rising 0 s.regs) (hh : s.rd b R.MC_LOG_W1_HITS = 0)
    (hq : s.rd b R.MC_LOG_W1_REPEAT = 0) (he : s.rd b R.MC_LOG_W1_MAX_ERR = 0) :
    ∃ t, correctedNoted b w loc s = s.wrs b (correctedFields w loc 1 1 0 t) := by
  have hhits : s.cnt b R.MC_LOG_W1_HITS 1 = s.wr b R.MC_LOG_W1_HITS 1 := by rw [State.cnt, hh]; rfl
  have hq' : (s.wr b R.MC_LOG_W1_HITS 1).rd b R.MC_LOG_W1_REPEAT = 0 := (State.rd_wr_apart hr (by decide)).trans hq
  have hrep : (s.wr b R.MC_LOG_W1_HITS 1).cnt b R.MC_LOG_W1_REPEAT 1 = (s.wr b R.MC_LOG_W1_HITS 1).wr b R.MC_LOG_W1_REPEAT 1 := by
    rw [State.cnt, hq']
    rfl
  have he' : ((s.wr b R.MC_LOG_W1_HITS 1).wr b R.MC_LOG_W1_REPEAT 1).rd b R.MC_LOG_W1_MAX_ERR = 0 := by
    rw [State.rd_wr_apart (State.wr_rising _ _ _ _ hr) (by decide), State.rd_wr_apart hr (by decide), he]
  unfold correctedNoted
  rw [hhits, hrep]
  dsimp only
  rw [he']
  exact ⟨_, rfl⟩

theorem readCorrected_eq (m f w top : Nat) (s : State) :
    readCorrected m f w top s =
      (let r := logTake m f (correctedCounted m w s)
      let u := correctedNoted (logB m r.2) w (Config.dramLoc m (physFrame m f s) top) r.1
      if u.on (logB m r.2) R.MC_LOG_W0_REWRITTEN then frameRetire m f u else u) := rfl

/-- The log's registers after the channel's counts. -/
theorem rd_correctedCounted {m w i : Nat} {g : Fld} {s : State} (hr : Rising 0 s.regs) (hm : m < 6) :
    (correctedCounted m w s).rd (logB m i) g = s.rd (logB m i) g := by
  have hne (o : Nat) (ho : o < 0x10000) : logB m i + g.off ≠ mcB m + o := (log_ne_mc hm ho).symm
  rw [correctedCounted, State.cnt, State.cnt, State.rd_wr_ne _ _ _ _ _ _ (State.wr_rising _ _ _ _ hr) (hne _ (by decide)),
    State.rd_wr_ne _ _ _ _ _ _ hr (hne _ (by decide))]

theorem logFind_congr {m f : Nat} {s t : State} (h : ∀ i (g : Fld), t.rd (logB m i) g = s.rd (logB m i) g) :
    logFind m f t = logFind m f s := by
  unfold logFind State.on
  exact List.find?_congr fun i _ => by rw [h, h]

/-- The entry chosen where one is free. -/
theorem logChoose_free {m : Nat} {s t : State} (h : ∀ i (g : Fld), t.rd (logB m i) g = s.rd (logB m i) g)
    (hfree : (logChoose m s).2 = false) : logChoose m t = logChoose m s := by
  have hfind : (List.range 64).find? (fun i => !t.on (logB m i) R.MC_LOG_W0_VALID) =
      (List.range 64).find? (fun i => !s.on (logB m i) R.MC_LOG_W0_VALID) := by
    unfold State.on
    exact List.find?_congr fun i _ => by rw [h]
  unfold logChoose at hfree ⊢
  rw [hfind]
  cases hf : (List.range 64).find? (fun i => !s.on (logB m i) R.MC_LOG_W0_VALID) with
  | some i => rfl
  | none =>
    rw [hf] at hfree
    cases hfree

theorem resetWord_log {m i off : Nat} (hm : m < 6) (hi : i < 64) (ho : off = 0x18 ∨ off = 0x1C) : resetWord (logB m i + off) = 0 := by
  have hkind : (logB m i + off) / 2 ^ 44 = 4 := by rw [logB_eq]; omega
  have hoff : (logB m i + off) % 2 ^ 20 = off := by rw [logB_eq]; omega
  have hhigh : ¬ logB m i + off < 2 ^ 32 := by rw [logB_eq]; omega
  rw [resetWord, if_neg hhigh, hkind, hoff]
  rcases ho with rfl | rfl <;> rfl

/-- An emptied entry reads 0 in its first two words. -/
theorem rd_logClear {m i : Nat} {g : Fld} {s : State} (hr : Rising 0 s.regs) (hm : m < 6) (hi : i < 64) (hg : g.off = 0x18 ∨ g.off = 0x1C) :
    (logClear m i s).rd (logB m i) g = 0 := by
  have hin : keyIn (logB m i) 0x1000 (logB m i + g.off) = true := by
    rw [keyIn, Bool.and_eq_true, decide_eq_true_eq, decide_eq_true_eq]
    omega
  have hget : (logClear m i s).getReg (logB m i + g.off) = resetWord (logB m i + g.off) :=
    (look_dropKeys _ _ hr _).trans (if_pos hin)
  rw [State.rd, hget, resetWord_log hm hi hg]
  simp [fget]

/-- A corrected read of a frame that takes a free entry. -/
theorem readCorrected_spec {m f w top : Nat} {s : State} (hr : Rising 0 s.regs) (hm : m < 6) (hf : f < 2 ^ 24)
    (hnone : logFind m f s = none) (hfree : (logChoose m s).2 = false) :
    let u := readCorrected m f w top s
    let b := logB m (logChoose m s).1
    u.rd (mcB m) R.MC_CNT_COR_PAGES = min (s.rd (mcB m) R.MC_CNT_COR_PAGES + 1) (2 ^ 32 - 1) ∧
    u.rd b R.MC_LOG_W0_VALID = 1 ∧ u.rd b R.MC_LOG_W0_FRAME = f ∧ u.rd b R.MC_LOG_W1_HITS = 1 ∧ u.rd b R.MC_LOG_W1_REPEAT = 1 ∧
    u.rd b R.MC_LOG_W1_MAX_ERR = w % 256 ∧ u.pages = s.pages ∧ u.raised = s.raised := by
  have hi := logChoose_lt m s
  have hrc : Rising 0 (correctedCounted m w s).regs := State.wr_rising _ _ _ _ (State.wr_rising _ _ _ _ hr)
  have htake : logTake m f (correctedCounted m w s) = (((logClear m (logChoose m s).1 (correctedCounted m w s)).wr
      (logB m (logChoose m s).1) R.MC_LOG_W0_VALID 1).wr (logB m (logChoose m s).1) R.MC_LOG_W0_FRAME f, (logChoose m s).1) := by
    have hview (i : Nat) (g : Fld) := rd_correctedCounted (w := w) (i := i) (g := g) hr hm
    rcases logTake_cases m f (correctedCounted m w s) with ⟨i, hsome, -⟩ | ⟨-, h⟩
    · rw [logFind_congr hview, hnone] at hsome
      cases hsome
    · rw [h, logChoose_free hview hfree, hfree]
      rfl
  rw [readCorrected_eq, htake]
  dsimp only
  generalize (logChoose m s).1 = i at hi
  generalize Config.dramLoc m (physFrame m f s) top = loc
  have hrl : Rising 0 (logClear m i (correctedCounted m w s)).regs := dropKeys_rising _ hrc
  have hempty (g : Fld) (hg : g.off = 0x18 ∨ g.off = 0x1C) : (logClear m i (correctedCounted m w s)).rd (logB m i) g = 0 :=
    rd_logClear hrc hm hi hg
  have hcount : (logClear m i (correctedCounted m w s)).rd (mcB m) R.MC_CNT_COR_PAGES =
      min (s.rd (mcB m) R.MC_CNT_COR_PAGES + 1) (2 ^ 32 - 1) := by
    rw [rd_logClear_mc (by decide) hrc, correctedCounted]
    exact (State.rd_wr_ne _ _ _ _ _ _ (State.wr_rising _ _ _ _ hr) (by simp [R.MC_CNT_COR_PAGES, R.MC_CNT_BITS_BITS])).trans
      (State.rd_cnt_same _ _ _ _ hr (by decide))
  have hpages : (logClear m i (correctedCounted m w s)).pages = s.pages ∧
      (logClear m i (correctedCounted m w s)).raised = s.raised := ⟨rfl, rfl⟩
  generalize logClear m i (correctedCounted m w s) = c at hrl hempty hcount hpages
  have hrt : Rising 0 (c.wrs (logB m i) [(R.MC_LOG_W0_VALID, 1), (R.MC_LOG_W0_FRAME, f)]).regs := State.wrs_rising _ hrl
  have hzero (g : Fld) (hg : g.off = 0x1C) : (c.wrs (logB m i) [(R.MC_LOG_W0_VALID, 1), (R.MC_LOG_W0_FRAME, f)]).rd (logB m i) g = 0 := by
    refine (State.rd_wr_apart (State.wr_rising _ _ _ _ hrl) ?_).trans ((State.rd_wr_apart hrl ?_).trans (hempty g (.inr hg)))
    · simp [apart, hg, R.MC_LOG_W0_FRAME]
    · simp [apart, hg, R.MC_LOG_W0_VALID]
  obtain ⟨tlv, hnoted⟩ := correctedNoted_fresh (w := w) (loc := loc) hrt (hzero _ rfl) (hzero _ rfl) (hzero _ rfl)
  have hread {g : Fld} (hg : g.hi < 32)
      (hl : [(R.MC_LOG_W0_VALID, 1), (R.MC_LOG_W0_FRAME, f)].all (fun x => decide (x.1 = g) || apart x.1 g) = true)
      (hk : (correctedFields w loc 1 1 0 tlv).all (fun x => decide (x.1 = g) || apart x.1 g) = true) :
      (correctedNoted (logB m i) w loc (c.wrs (logB m i) [(R.MC_LOG_W0_VALID, 1), (R.MC_LOG_W0_FRAME, f)])).rd (logB m i) g =
        lastWritten g (correctedFields w loc 1 1 0 tlv) (lastWritten g [(R.MC_LOG_W0_VALID, 1), (R.MC_LOG_W0_FRAME, f)]
          (c.rd (logB m i) g)) := by
    rw [hnoted]
    exact State.rd_wrs_wrs hrl hg hl hk
  have hrew : (correctedNoted (logB m i) w loc (c.wrs (logB m i) [(R.MC_LOG_W0_VALID, 1), (R.MC_LOG_W0_FRAME, f)])).rd (logB m i)
      R.MC_LOG_W0_REWRITTEN = 0 := (hread (by decide) rfl rfl).trans (hempty _ (.inl rfl))
  have hmc : (correctedNoted (logB m i) w loc (c.wrs (logB m i) [(R.MC_LOG_W0_VALID, 1), (R.MC_LOG_W0_FRAME, f)])).rd (mcB m)
      R.MC_CNT_COR_PAGES = c.rd (mcB m) R.MC_CNT_COR_PAGES := by
    rw [hnoted, State.rd, State.rd, State.getReg_wrs hrt fun x _ => log_ne_mc hm (by decide),
      State.getReg_wrs hrl fun x _ => log_ne_mc hm (by decide)]
  have hframe : ∃ r, correctedNoted (logB m i) w loc (c.wrs (logB m i) [(R.MC_LOG_W0_VALID, 1), (R.MC_LOG_W0_FRAME, f)]) =
      { c with regs := r } := by
    obtain ⟨r, hr1⟩ := State.wrs_frame (logB m i) [(R.MC_LOG_W0_VALID, 1), (R.MC_LOG_W0_FRAME, f)] c
    obtain ⟨q, hq⟩ := State.wrs_frame (logB m i) (correctedFields w loc 1 1 0 tlv)
      (c.wrs (logB m i) [(R.MC_LOG_W0_VALID, 1), (R.MC_LOG_W0_FRAME, f)])
    exact ⟨q, by rw [hnoted, hq, hr1]⟩
  show _ ∧ _
  rw [show ((c.wr (logB m i) R.MC_LOG_W0_VALID 1).wr (logB m i) R.MC_LOG_W0_FRAME f) =
    c.wrs (logB m i) [(R.MC_LOG_W0_VALID, 1), (R.MC_LOG_W0_FRAME, f)] from rfl]
  rw [if_neg (by rw [State.on, hrew]; decide)]
  refine ⟨hmc.trans hcount, hread (by decide) rfl rfl, (hread (by decide) rfl rfl).trans (Nat.mod_eq_of_lt hf),
    hread (by decide) rfl rfl, hread (by decide) rfl rfl, (hread (by decide) rfl rfl).trans ?_, ?_, ?_⟩
  · exact congrArg (· % 256) (Nat.zero_max w)
  · obtain ⟨r, he⟩ := hframe
    rw [he]
    exact hpages.1
  · obtain ⟨r, he⟩ := hframe
    rw [he]
    exact hpages.2

end Sys2Proof.Machine
end

section

/-! Spares, rewrites, scrubbing, the end of a repair and parity errors of the stacks (R328, R329, R332, R333, R337), and O36. -/

namespace Sys2Proof.Machine

/-! ### Retirement -/

theorem RaiseFrame.remap {s t : State} (h : RaiseFrame s t) : t.remap = s.remap ∧ t.spares = s.spares := by
  obtain ⟨_, _, _, _, rfl⟩ := h
  exact ⟨rfl, rfl⟩

/-- A raise still waits after another. -/
theorem Sends.raise {id : Nat} {s : State} (h : Sends id s) (other : Nat) : Sends id (s.raise other) := by
  obtain ⟨r, hr, hid⟩ := h
  obtain ⟨l, hl⟩ := State.raise_grows s other
  exact ⟨r, by rw [hl]; exact List.mem_append_left _ hr, hid⟩

/-- The spare of a channel whose next one is free. -/
def sparesNoted (m k : Nat) (s : State) : State := { s with spares := put 0 s.spares m (k + 1) }

/-- The spare k of channel m is taken, which leaves `free`. -/
def spareTaken (m k free : Nat) (s : State) : State := (sparesNoted m k s).wr (mcB m) R.MC_STATUS_SPARE_FREE free

theorem spareTake_some {m k : Nat} {s : State} (hr : Rising 0 s.regs) (hk : s.rd (mcB m) R.MC_STATUS_SPARE_FREE = k + 1) :
    spareTake m s = some (if k = s.rd (mcB m) R.MC_SPARE_LOW_TH then (spareTaken m (look 0 s.spares m) k s).raise (evMc m 3)
      else spareTaken m (look 0 s.spares m) k s, look 0 s.spares m) := by
  have hlow : (spareTaken m (look 0 s.spares m) k s).rd (mcB m) R.MC_SPARE_LOW_TH = s.rd (mcB m) R.MC_SPARE_LOW_TH :=
    State.rd_wr_apart (s := sparesNoted m (look 0 s.spares m) s) hr (by decide)
  have hpos : (k + 1 == 0) = false := by simp
  unfold spareTake
  rw [hk]
  dsimp only
  rw [hpos, Nat.add_sub_cancel, if_neg Bool.false_ne_true, ← hlow]
  simp only [beq_iff_eq]
  rfl

/-- The entry of a retired frame is marked. -/
def retireNoted (m f k : Nat) (s : State) : State :=
  let s := { s with remap := put 0 s.remap (frameKey' m f) (k + 1) }
  match logFind m f s with
  | some i => s.wr (logB m i) R.MC_LOG_W0_RETIRED 1
  | none => s

theorem retireNoted_regs {m f k : Nat} {s : State} (hr : Rising 0 s.regs) :
    Rising 0 (retireNoted m f k s).regs ∧
    ∀ j, (∀ i < 64, j ≠ logB m i + R.MC_LOG_W0_RETIRED.off) → (retireNoted m f k s).getReg j = s.getReg j := by
  unfold retireNoted
  dsimp only
  split
  · next i hi =>
    refine ⟨State.wr_rising _ _ _ _ hr, fun j hj => ?_⟩
    exact State.getReg_wr_ne { s with remap := put 0 s.remap (frameKey' m f) (k + 1) } _ hr (hj i (logFind_lt hi))
  · exact ⟨hr, fun _ _ => rfl⟩

theorem retireNoted_frame (m f k : Nat) (s : State) :
    (retireNoted m f k s).remap = put 0 s.remap (frameKey' m f) (k + 1) ∧ (retireNoted m f k s).spares = s.spares ∧
      (retireNoted m f k s).raised = s.raised := by
  unfold retireNoted
  dsimp only
  split <;> exact ⟨rfl, rfl, rfl⟩

theorem frameRetire_some {m f k : Nat} {s t : State} (h : spareTake m s = some (t, k)) :
    frameRetire m f s = ((retireNoted m f k t).cnt (mcB m) R.MC_CNT_REP_RETIRES 1).raise (evMc m 1) := by
  unfold frameRetire
  rw [h]
  rfl

/-- A frame retired while a spare is free. -/
theorem frameRetire_spec {m f k : Nat} {s : State} (hinv : Inv s) (hon : s.domOn (72 + m) = true) (hm : m < 6)
    (hk : s.rd (mcB m) R.MC_STATUS_SPARE_FREE = k + 1) :
    let u := frameRetire m f s
    u.rd (mcB m) R.MC_STATUS_SPARE_FREE = k ∧ look 0 u.remap (frameKey' m f) = look 0 s.spares m + 1 ∧
    look 0 u.spares m = look 0 s.spares m + 1 ∧ Sends (913 + 16 * m) u ∧
    (k = s.rd (mcB m) R.MC_SPARE_LOW_TH → Sends (915 + 16 * m) u) := by
  have hr := hinv.regs_rising
  have htake := spareTake_some hr hk
  have hlt : k < 2 ^ 11 := by
    have hw := State.rd_lt s (mcB m) R.MC_STATUS_SPARE_FREE
    rw [hk] at hw
    exact Nat.lt_of_succ_lt hw
  have hrn : Rising 0 (sparesNoted m (look 0 s.spares m) s).regs := hr
  have hrs : Rising 0 (spareTaken m (look 0 s.spares m) k s).regs := State.wr_rising _ _ _ _ hrn
  have hfree : (spareTaken m (look 0 s.spares m) k s).rd (mcB m) R.MC_STATUS_SPARE_FREE = k :=
    (State.rd_wr_same _ _ _ _ hrn (by decide)).trans (Nat.mod_eq_of_lt hlt)
  have hdomKey : (Obj.dom (72 + m)).base + R.PWR_DOM_STAT_STATE.off ≠ mcB m + R.MC_STATUS_SPARE_FREE.off ∧
      (Obj.dom (72 + m)).base + R.PWR_DOM_STAT_STATE.off ≠ mcB m + R.MC_CNT_REP_RETIRES.off ∧
      (∀ i < 64, (Obj.dom (72 + m)).base + R.PWR_DOM_STAT_STATE.off ≠ logB m i + R.MC_LOG_W0_RETIRED.off) ∧
      ¬ RaiseKey ((Obj.dom (72 + m)).base + R.PWR_DOM_STAT_STATE.off) := by
    simp only [RaiseKey, FltKey, EvtKey, logB, mcB, Obj.base, objKey, R.PWR_DOM_STAT_STATE, R.MC_STATUS_SPARE_FREE,
      R.MC_CNT_REP_RETIRES, R.MC_LOG_W0_RETIRED]
    exact ⟨by omega, by omega, fun i _ => by omega, by omega⟩
  obtain ⟨hdomFree, hdomRet, hdomLog, hdomRaise⟩ := hdomKey
  have hdomTaken : (spareTaken m (look 0 s.spares m) k s).domOn (72 + m) = true := by
    rw [State.domOn, State.rd, spareTaken, State.getReg_wr_ne _ _ hrn hdomFree]
    exact hon
  have hspares : (spareTaken m (look 0 s.spares m) k s).spares = put 0 s.spares m (look 0 s.spares m + 1) ∧
      (spareTaken m (look 0 s.spares m) k s).remap = s.remap := ⟨rfl, rfl⟩
  have hid (j : Nat) : evMc m j = 912 + j + 16 * m := by unfold evMc; omega
  generalize spareTaken m (look 0 s.spares m) k s = t at htake hrs hfree hdomTaken hspares
  obtain ⟨hspares, hremap⟩ := hspares
  have hraised : ∃ v, spareTake m s = some (v, look 0 s.spares m) ∧ Rising 0 v.regs ∧ v.rd (mcB m) R.MC_STATUS_SPARE_FREE = k ∧
      v.domOn (72 + m) = true ∧ v.spares = t.spares ∧ v.remap = t.remap ∧
      (k = s.rd (mcB m) R.MC_SPARE_LOW_TH → Sends (915 + 16 * m) v) := by
    refine ⟨_, htake, ?_⟩
    split
    · obtain ⟨hv, hvs⟩ := (RaiseFrame.raise t (evMc m 3)).remap
      refine ⟨State.raise_rising _ hrs (evMc_lt hm (by decide)), ?_, ?_, hvs, hv, fun _ => ?_⟩
      · rw [State.raise_rd hrs (evMc_lt hm (by decide)) (not_raiseKey_mc hm (by decide)), hfree]
      · rw [State.domOn, State.raise_rd hrs (evMc_lt hm (by decide)) hdomRaise]
        exact hdomTaken
      · rw [← hid 3]
        exact State.raise_sends (State.evClamped_of_domOn (evDom_mc hm (by decide)) hdomTaken)
    · next hlow => exact ⟨hrs, hfree, hdomTaken, rfl, rfl, fun h => absurd h hlow⟩
  obtain ⟨v, hv, hrv, hvfree, hvdom, hvspares, hvremap, hvlow⟩ := hraised
  obtain ⟨hrw, hkeep⟩ := retireNoted_regs (m := m) (f := f) (k := look 0 s.spares m) hrv
  obtain ⟨hwremap, hwspares, hwraised⟩ := retireNoted_frame m f (look 0 s.spares m) v
  rw [frameRetire_some hv]
  generalize retireNoted m f (look 0 s.spares m) v = w at hrw hkeep hwremap hwspares hwraised
  have hrc : Rising 0 (w.cnt (mcB m) R.MC_CNT_REP_RETIRES 1).regs := State.wr_rising _ _ _ _ hrw
  obtain ⟨huremap, huspares⟩ := (RaiseFrame.raise (w.cnt (mcB m) R.MC_CNT_REP_RETIRES 1) (evMc m 1)).remap
  have hlast : (w.cnt (mcB m) R.MC_CNT_REP_RETIRES 1).domOn (72 + m) = true := by
    have hsame : (w.cnt (mcB m) R.MC_CNT_REP_RETIRES 1).getReg ((Obj.dom (72 + m)).base + R.PWR_DOM_STAT_STATE.off) =
        v.getReg ((Obj.dom (72 + m)).base + R.PWR_DOM_STAT_STATE.off) :=
      (State.getReg_wr_ne _ _ hrw hdomRet).trans (hkeep _ hdomLog)
    rw [State.domOn, State.rd, hsame]
    exact hvdom
  refine ⟨?_, ?_, ?_, ?_, fun h => Sends.raise ?_ _⟩
  · rw [State.raise_rd hrc (evMc_lt hm (by decide)) (not_raiseKey_mc hm (by decide))]
    refine (State.rd_wr_apart hrw (by decide)).trans ?_
    rw [State.rd, hkeep _ fun i _ => log_ne_mc hm (by decide)]
    exact hvfree
  · rw [huremap, show (w.cnt (mcB m) R.MC_CNT_REP_RETIRES 1).remap = w.remap from rfl, hwremap]
    exact look_put_same 0 _ (lo := 0) (by rw [hvremap, hremap]; exact hinv.maps_rising.remap)
  · rw [huspares, show (w.cnt (mcB m) R.MC_CNT_REP_RETIRES 1).spares = w.spares from rfl, hwspares, hvspares, hspares]
    exact look_put_same 0 _ (lo := 0) hinv.maps_rising.spares
  · have hsent := State.raise_sends (State.evClamped_of_domOn (id := evMc m 1) (evDom_mc hm (by decide)) hlast)
    have h1 := hid 1
    rw [← h1]
    exact hsent
  · obtain ⟨r, hmem, hrid⟩ := hvlow h
    exact ⟨r, by rw [← hwraised] at hmem; exact hmem, hrid⟩

end Sys2Proof.Machine
end

section

/-! What page reads, rewrites, the scrubber, the end of a repair and parity errors do, and O36. -/

namespace Sys2Proof.Machine

theorem frameRead_eq {m f : Nat} {res : PageRes} {s : State} (hup : s.mcUp m = true) (hf : f < framesPerStack s) :
    frameRead m f res s = (pageRead m f res s).1 := by
  have hex : frameExists f s = true := decide_eq_true hf
  rw [frameRead, hup, hex]
  rfl

theorem pageRead_unwritten {m f : Nat} {res : PageRes} {s : State} (h : s.page m f = none) : (pageRead m f res s).1 = s := by
  unfold pageRead
  rw [h]

theorem pageRead_injected {m f : Nat} {res : PageRes} {p : Page} {s : State} (h : s.page m f = some p) (hinj : mcArmed m 1 s = true) :
    (pageRead m f res s).1 = readUncorr m f (mcDisarm m 1 s) := by
  unfold pageRead
  rw [h]
  dsimp only
  rw [if_pos hinj]

theorem pageRead_unc {m f : Nat} {p : Page} {s : State} (h : s.page m f = some p) (hinj : mcArmed m 1 s = false) :
    (pageRead m f .unc s).1 = readUncorr m f s := by
  unfold pageRead
  rw [h]
  dsimp only
  rw [if_neg (by rw [hinj]; decide)]

theorem pageRead_bits {m f : Nat} {l : List Nat} {p : Page} {s : State} (h : s.page m f = some p) (hinj : mcArmed m 1 s = false)
    (hextra : mcArmed m 0 s = false) :
    (pageRead m f (.bits l) s).1 = if p.t < l.length then readUncorr m f s else if l = [] then s
      else readCorrected m f l.length (l.foldl max 0) s := by
  have hzero : ((l.length == 0) = true) = (l = []) := by simp
  unfold pageRead
  rw [h]
  dsimp only
  rw [if_neg (by rw [hinj]; decide), hextra, show b2n false = 0 from rfl, Nat.add_zero, if_neg Bool.false_ne_true]
  simp only [hzero, apply_ite Prod.fst]

theorem pageRewrite_eq {m f i : Nat} {s : State} (hi : logFind m f s = some i) (hnew : s.rd (logB m i) R.MC_LOG_W0_REWRITTEN = 0)
    (hup : s.mcUp m = true) (hrep : max 1 (s.rd (mcB m) R.MC_CTRL_REPEAT_LIMIT) ≤ s.rd (logB m i) R.MC_LOG_W1_REPEAT) :
    pageRewrite m f s = (((s.wr (logB m i) R.MC_LOG_W0_REWRITTEN 1).wr (logB m i) R.MC_LOG_W1_REPEAT 0).cnt (mcB m)
      R.MC_CNT_REP_REWRITES 1).raise (912 + 16 * m) := by
  have hon : s.on (logB m i) R.MC_LOG_W0_REWRITTEN = false := by rw [State.on, hnew]; rfl
  have hlow : decide (s.rd (logB m i) R.MC_LOG_W1_REPEAT < max 1 (s.rd (mcB m) R.MC_CTRL_REPEAT_LIMIT)) = false :=
    decide_eq_false (Nat.not_lt.mpr hrep)
  have hid : evMc m 0 = 912 + 16 * m := by unfold evMc; omega
  unfold pageRewrite
  rw [hi]
  dsimp only
  rw [hon, hlow, hup, hid]
  rfl

theorem advanceNow_pages (s : State) (t : Nat) : (s.advanceNow t).pages = s.pages := by
  unfold State.advanceNow
  rw [State.advance_eq]

/-- The frames written and the scrubber's position do not depend on the time. -/
theorem scrubRead_eq {m f : Nat} {res : PageRes} {s : State} (hen : s.rd (mcB m) R.MC_CTRL_SCRUB_EN = 1) (hup : s.mcUp m = true)
    (hf : (writtenFrames m s).find? (fun g => decide (s.rd (mcB m) R.MC_SCRUB_STAT_POS ≤ g)) = some f) :
    scrubRead m res s =
      (let last := look 0 s.scrubAt m
      let t := if last = 0 then s else s.advanceNow (last - 1 + scrubTicks m s)
      let t := { t with scrubAt := put 0 t.scrubAt m (t.now + 1) }
      (pageRead m f res (t.wr (mcB m) R.MC_SCRUB_STAT_POS (f + 1))).1) := by
  have hon : s.on (mcB m) R.MC_CTRL_SCRUB_EN = true := by rw [State.on, hen]; rfl
  have htime : ∀ t : State, t = (if look 0 s.scrubAt m = 0 then s else s.advanceNow (look 0 s.scrubAt m - 1 + scrubTicks m s)) →
      t.pages = s.pages ∧ t.rd (mcB m) R.MC_SCRUB_STAT_POS = s.rd (mcB m) R.MC_SCRUB_STAT_POS := by
    rintro t rfl
    split
    · exact ⟨rfl, rfl⟩
    · exact ⟨advanceNow_pages .., State.advanceNow_rd ..⟩
  unfold scrubRead
  simp only [hon, hup, Bool.not_true, Bool.or_false, Bool.false_eq_true, if_false, beq_iff_eq]
  generalize ht : (if look 0 s.scrubAt m = 0 then s else s.advanceNow (look 0 s.scrubAt m - 1 + scrubTicks m s)) = t
  obtain ⟨hpages, hpos⟩ := htime t ht.symm
  have hnext : (writtenFrames m { t with scrubAt := put 0 t.scrubAt m (t.now + 1) }).find?
      (fun g => decide (State.rd { t with scrubAt := put 0 t.scrubAt m (t.now + 1) } (mcB m) R.MC_SCRUB_STAT_POS ≤ g)) = some f := by
    rw [show State.rd { t with scrubAt := put 0 t.scrubAt m (t.now + 1) } (mcB m) R.MC_SCRUB_STAT_POS = _ from hpos, ← hf]
    unfold writtenFrames
    rw [show State.pages { t with scrubAt := put 0 t.scrubAt m (t.now + 1) } = _ from hpages]
  rw [hnext]

theorem mcRepairDone_eq {m : Nat} (fail : Bool) {s : State} (hbusy : s.rd (mcB m) R.MC_REPAIR_STAT_BUSY = 1) (hinj : mcArmed m 2 s = false) :
    mcRepairDone m fail s =
      (let b := mcB m
      let t := s.wr b R.MC_STATUS_SPARE_FREE (s.rd b R.MC_STATUS_SPARE_FREE + look 0 s.repairTmp m)
      let t := { t with repairTmp := eraseKey t.repairTmp m }
      (((t.wr b R.MC_REPAIR_STAT_BUSY 0).wr b R.MC_STATUS_REPAIR_BUSY 0).wr b R.MC_REPAIR_STAT_RESULT (4 * b2n fail)).raise (916 + 16 * m)) := by
  have hon : s.on (mcB m) R.MC_REPAIR_STAT_BUSY = true := by rw [State.on, hbusy]; rfl
  have hid : evMc m 4 = 916 + 16 * m := by unfold evMc; omega
  have hres : (if fail = true then 4 else 0) = 4 * b2n fail := by cases fail <;> rfl
  unfold mcRepairDone
  simp only [hon, hinj, Bool.not_true, Bool.false_eq_true, if_false, hid, hres]

/-! ### Parity errors -/

/-- Register c is shown, and those from the plots' up to it read as in s. -/
def PlotsKept (c : Nat) (s t : State) : Prop := t.getReg c ≠ resetWord c ∧ ∀ j, objKey 1 0 ≤ j → j < c → t.getReg j = s.getReg j

theorem plotsKept_kept {c : Nat} (hc : objKey 1 0 ≤ c) (s : State) : KeptBy (fun k => k < objKey 1 0 ∨ c < k) (PlotsKept c s) where
  setReg t k w hk h := by
    obtain ⟨hshown, hsame⟩ := h
    have hkeep (j : Nat) (hlo : objKey 1 0 ≤ j) (hj : j ≤ c) : (t.setReg k w).getReg j = t.getReg j := by
      rcases hk with hk | hk
      · exact State.getReg_setReg_of (by omega) (.inr (by omega))
      · exact look_put_above t.regs hshown hk hj _
    exact ⟨by rw [hkeep c hc (Nat.le_refl c)]; exact hshown, fun j hlo hj => (hkeep j hlo hj.le).trans (hsame j hlo hj)⟩
  regs t u hu h := by
    have hkeep (j : Nat) : u.getReg j = t.getReg j := by unfold State.getReg; rw [hu]
    exact ⟨by rw [hkeep]; exact h.1, fun j hlo hj => (hkeep j).trans (h.2 j hlo hj)⟩

/-- The key of a parity error's source. -/
def parityKey (m : Nat) : Nat := objKey 7 (918 + 16 * m) + R.FLT_SRC_CFG_TROUBLE.off

theorem resetWord_parityKey {m : Nat} (hm : m < 6) : resetWord (parityKey m) = 0 := by
  interval_cases m <;> decide

/-- Once the source has counted, its word is shown, and it hides all that stands behind it from the plots' registers. -/
theorem noteRaise_plotsKept {m : Nat} (hm : m < 6) (s : State) : PlotsKept (parityKey m) s (s.noteRaise (918 + 16 * m)) := by
  have hlow : objKey 1 0 ≤ parityKey m := by unfold parityKey objKey; omega
  have hP := plotsKept_kept hlow s
  have hflt (k : Nat) (hk : k < 0x10000) : fltB + k < objKey 1 0 := by unfold fltB objKey; omega
  unfold State.noteRaise
  dsimp only
  have hline (w : Word) (j : Nat) (hj : objKey 1 0 ≤ j) : (s.setReg (evtB + 4 * ((918 + 16 * m) / 32)) w).getReg j = s.getReg j := by
    have hkey : evtB + 4 * ((918 + 16 * m) / 32) < j := by
      unfold evtB
      unfold objKey at hj
      omega
    exact State.getReg_setReg_of (by omega) (.inr hkey)
  generalize hw : s.getReg (evtB + 4 * ((918 + 16 * m) / 32)) ||| _ = w
  have hline := hline w
  generalize s.setReg (evtB + 4 * ((918 + 16 * m) / 32)) w = t at hline
  have hcounted : PlotsKept (parityKey m) s (t.cnt (Obj.src (918 + 16 * m)).base R.FLT_SRC_CFG_TROUBLE 1) := by
    refine ⟨?_, fun j hlo hj => ?_⟩
    · have hword := fset_satAdd_ne_zero (t.getReg (parityKey m)) (hi := 23) (lo := 16)
        (t.rd (Obj.src (918 + 16 * m)).base R.FLT_SRC_CFG_TROUBLE) (by decide) (by decide)
      rw [← resetWord_parityKey hm] at hword
      rw [show (t.cnt (Obj.src (918 + 16 * m)).base R.FLT_SRC_CFG_TROUBLE 1).getReg (parityKey m) = _ from
        look_put_same_of _ t.regs hword]
      exact hword
    · exact (State.getReg_cnt_of (b := (Obj.src (918 + 16 * m)).base) (f := R.FLT_SRC_CFG_TROUBLE) (Nat.ne_of_lt hj) (by decide)
        (resetWord_parityKey hm)).trans (hline _ hlo)
  generalize t.cnt (Obj.src (918 + 16 * m)).base R.FLT_SRC_CFG_TROUBLE 1 = u at hcounted
  generalize hc : State.rd _ _ R.FLT_SRC_CFG_CLASS = c
  have hlt : c < 4 := hc ▸ State.rd_lt _ _ _
  refine hP.wr _ (.inl (hflt _ (by decide))) (hP.cnt _ (.inl ?_) hcounted)
  rw [Nat.add_assoc]
  exact hflt _ (by simp only [R.FLT_CNT_CLASS_COUNT]; omega)

/-- A parity error's event leaves the plots' registers, whatever form the map has. -/
theorem raise_rd_plot {m p : Nat} {g : Fld} {s : State} (hm : m < 6) (hp : p < 256) (hg : g.off < 0x1000) :
    (s.raise (918 + 16 * m)).rd (plB p) g = s.rd (plB p) g := by
  have hlow : objKey 1 0 ≤ parityKey m := by unfold parityKey objKey; omega
  have hkept : ∀ j, objKey 1 0 ≤ j → j < parityKey m → (s.raise (918 + 16 * m)).getReg j = s.getReg j := by
    by_cases hclamp : s.evClamped (918 + 16 * m) = true
    · rw [State.raise, State.raiseA, if_pos hclamp]
      exact fun _ _ _ => rfl
    · refine ((plotsKept_kept hlow s).raise_of_note (fun i _ off _ => .inr ?_) (fun k hk => .inl ?_) (.inl ?_) (.inr ?_)
        (Bool.eq_false_iff.mpr hclamp) (noteRaise_plotsKept hm s)).2
      · simp only [parityKey, objKey, R.FLT_SRC_CFG_TROUBLE]; omega
      · simp only [fltB, objKey]; omega
      · decide
      · simp only [parityKey, objKey, R.FLT_SRC_CFG_TROUBLE]; omega
  rw [State.rd, State.rd, hkept _ (by simp only [plB, Obj.base, objKey]; omega)
    (by simp only [plB, Obj.base, objKey, parityKey]; omega)]

theorem frameParity_eq {m f : Nat} {write second : Bool} {s : State} (hup : s.mcUp m = true) (hf : f < framesPerStack s) :
    frameParity m f write second s = hbmParity m f write second s := by
  have hex : frameExists f s = true := decide_eq_true hf
  rw [frameParity, hup, hex]
  rfl

theorem inPlot_raise {m p key : Nat} {s : State} (hm : m < 6) (hp : p < 256) :
    inPlot p key (s.raise (918 + 16 * m)) = inPlot p key s := by
  have hsame (g : Fld) (hg : g.off < 0x1000) : (s.raise (918 + 16 * m)).rd (plB p) g = s.rd (plB p) g := raise_rd_plot hm hp hg
  unfold inPlot State.on
  rw [hsame _ (by decide), hsame _ (by decide), hsame _ (by decide), hsame _ (by decide)]

theorem hbmParity_once (m f : Nat) (write : Bool) (s : State) : hbmParity m f write false s = s.raise (918 + 16 * m) := by
  rw [hbmParity, show evMc m 6 = 918 + 16 * m by unfold evMc; omega]
  rfl

theorem hbmParity_read {m f : Nat} {s : State} (h : (s.page m f).isSome = true) :
    hbmParity m f false true s = readUncorr m f (s.raise (918 + 16 * m)) := by
  have hpage : ((s.raise (918 + 16 * m)).page m f).isSome = true := by
    rw [State.page, (RaiseFrame.raise s _).pages]
    exact h
  rw [hbmParity, show evMc m 6 = 918 + 16 * m by unfold evMc; omega]
  exact if_pos hpage

theorem hbmParity_write {m f : Nat} {s : State} (hm : m < 6) (h : ∀ p : Fin 256, inPlot p.val (frameKey' m f) s = false) :
    hbmParity m f true true s = pageDrop m f (s.raise (918 + 16 * m)) := by
  have hfind : (List.range 256).find? (fun p => inPlot p (frameKey' m f) (s.raise (918 + 16 * m))) = none := by
    refine List.find?_eq_none.mpr fun p hp => ?_
    have hlt := List.mem_range.mp hp
    rw [inPlot_raise hm hlt, h ⟨p, hlt⟩]
    decide
  rw [hbmParity, show evMc m 6 = 918 + 16 * m by unfold evMc; omega]
  dsimp only
  rw [Bool.not_true, if_neg Bool.false_ne_true, if_pos rfl, hfind]

/-- Settles O36. -/
theorem pagesAndFrames : Obligations.PagesAndFrames := by
  unfold Obligations.PagesAndFrames
  refine ⟨?_, ?_, ?_, ?_, ?_, ?_, ?_, ?_, ?_, ?_, ?_, ?_⟩
  · intro m f p s hinv hp
    obtain ⟨hpages, hmem⟩ := pageWrite_pages m f p s
    refine ⟨?_, hmem⟩
    rw [State.page, hpages, find_put_same hinv.maps_rising.pages hp]
    rfl
  · intro m f n g p s _ _ hf hg hne
    rw [State.page, State.page, (pageWrite_pages m f p s).1, find_put_ne _ _ _ (frameKey'_inj hf hg hne)]
  · intro m f res s hup hf hpage
    exact exec_closed (f := frameRead m.val f res) rfl ((frameRead_eq (s := s.fresh) hup hf).trans (pageRead_unwritten (s := s.fresh) hpage))
  · intro m f res p s hup hf hpage
    refine ⟨fun hinj => ?_, fun hinj hres => ?_⟩
    · exact exec_closed (f := frameRead m.val f res) rfl
        ((frameRead_eq (s := s.fresh) hup hf).trans (pageRead_injected (s := s.fresh) hpage hinj))
    · subst hres
      exact exec_closed (f := frameRead m.val f .unc) rfl
        ((frameRead_eq (s := s.fresh) hup hf).trans (pageRead_unc (s := s.fresh) hpage hinj))
  · intro m f l p s hup hf hpage hinj hextra
    exact exec_closed (f := frameRead m.val f (.bits l)) rfl
      ((frameRead_eq (s := s.fresh) hup hf).trans (pageRead_bits (s := s.fresh) hpage hinj hextra))
  · intro m f s hinv hm hf hon
    exact readUncorr_spec hinv hm hf hon
  · intro m f w top s hinv hm hf hnone hfree
    exact readCorrected_spec hinv.regs_rising hm hf hnone hfree
  · intro m f k s hinv hon hm _ hk
    exact frameRetire_spec hinv hon hm hk
  · intro m f i s hi b hnew hup hrep
    exact exec_closed (f := pageRewrite m.val f) rfl (pageRewrite_eq (s := s.fresh) hi hnew hup hrep)
  · intro m f res s hen hup hf
    exact exec_closed (f := scrubRead m.val res) rfl (scrubRead_eq (s := s.fresh) hen hup hf)
  · intro m fail s hbusy hinj
    exact exec_closed (f := mcRepairDone m.val fail) rfl (mcRepairDone_eq (s := s.fresh) fail hbusy hinj)
  · intro m f write s hup hf
    refine ⟨?_, fun hw hpage => ?_, fun hw hplot => ?_⟩
    · exact exec_closed (f := frameParity m.val f write false) rfl
        ((frameParity_eq (s := s.fresh) hup hf).trans (hbmParity_once (s := s.fresh) ..))
    · subst hw
      exact exec_closed (f := frameParity m.val f false true) rfl
        ((frameParity_eq (s := s.fresh) hup hf).trans (hbmParity_read (s := s.fresh) hpage))
    · subst hw
      exact exec_closed (f := frameParity m.val f true true) rfl
        ((frameParity_eq (s := s.fresh) hup hf).trans (hbmParity_write (s := s.fresh) m.isLt hplot))

end Sys2Proof.Machine
end

section

/-! What the bias island writes as it brings a lane up to date (R168 to R173, R177, R187 to R190, R512). -/

namespace Sys2Proof.Machine

/-- The keys that the clamps of lane n write: the lane's word of the safety lock, its counts, and what a raise writes. -/
def ClampKey (n k : Nat) : Prop := k = safeB + 4 * n + 0x200 ∨ k = safeB + 0x28 ∨ RaiseKey k

/-- The keys that the island writes for lane n: its outputs and their status, and the clamps. -/
def BiasKey (n k : Nat) : Prop := k = laneB n + 0x7014 ∨ k = laneB n + 0x7018 ∨ ClampKey n k

/-- From s to t the island wrote registers of K, raised, and noted sequences, and nothing else. -/
structure IslandStep (K : Nat → Prop) (s t : State) : Prop where
  touches : Touches K s t
  frame : ∃ regs raised full inj bias, t = { s with regs := regs, raised := raised, recFull := full, injFull := inj, bias := bias }

section
variable {K : Nat → Prop} {s t u : State}

theorem IslandStep.refl (K : Nat → Prop) (s : State) : IslandStep K s s := ⟨Touches.refl _ _, _, _, _, _, _, rfl⟩

theorem IslandStep.trans (h : IslandStep K s t) (h' : IslandStep K t u) : IslandStep K s u := by
  refine ⟨h.touches.trans h'.touches, ?_⟩
  obtain ⟨_, _, _, _, _, rfl⟩ := h.frame
  obtain ⟨_, _, _, _, _, rfl⟩ := h'.frame
  exact ⟨_, _, _, _, _, rfl⟩

theorem IslandStep.mono {L : Nat → Prop} (h : IslandStep K s t) (hKL : ∀ k, K k → L k) : IslandStep L s t :=
  ⟨h.touches.mono hKL, h.frame⟩

theorem IslandStep.wr (h : IslandStep K s t) {b : Nat} {f : Fld} (v : Nat) (hk : K (b + f.off)) : IslandStep K s (t.wr b f v) :=
  h.trans ⟨(Touches.refl _ _).wr v hk, _, _, _, _, _, rfl⟩

theorem IslandStep.cnt (h : IslandStep K s t) {b : Nat} {f : Fld} (v : Nat) (hk : K (b + f.off)) : IslandStep K s (t.cnt b f v) :=
  h.wr _ hk

theorem IslandStep.setBias (h : IslandStep K s t) (m : Nat) (x : BiasSt) : IslandStep K s (t.setBias m x) :=
  h.trans ⟨Touches.of_regs rfl, _, _, _, _, _, rfl⟩

theorem IslandStep.raise (h : IslandStep K s t) {id : Nat} (hid : id < 1152) (hK : ∀ k, RaiseKey k → K k) :
    IslandStep K s (t.raise id) := by
  refine h.trans ⟨(Touches.refl _ _).raise hid hK, ?_⟩
  obtain ⟨_, _, _, _, he⟩ := RaiseFrame.raise t id
  exact ⟨_, _, _, _, _, he⟩

theorem IslandStep.ite {c : Prop} [Decidable c] (h : IslandStep K s t) (h' : IslandStep K s u) :
    IslandStep K s (if c then t else u) := by
  split
  · exact h
  · exact h'

end

/-! ### The parts of an evaluation -/

/-- A channel's sequence is noted, with its busy bit. -/
def biasChSet (n : Nat) (vb : Bool) (c : BiasCh) (s : State) : State :=
  (s.setBias n ((s.biasOf n).setCh vb c)).wr (laneB n) (fRbusy vb) (b2n (c.seq != 0))

theorem biasSeq_cases (n : Nat) (vb : Bool) (s : State) :
    biasSeq n vb s = s ∨ (∃ c, biasSeq n vb s = biasChSet n vb c s) ∨
      ∃ c v, biasSeq n vb s = (biasChSet n vb c s).wr (laneB n) (fRngOut vb) v := by
  unfold biasSeq
  dsimp only
  split
  · exact .inl rfl
  · split
    · split
      · exact .inr (.inr ⟨_, _, rfl⟩)
      · exact .inr (.inl ⟨_, rfl⟩)
    · split
      · exact .inr (.inl ⟨_, rfl⟩)
      · split
        · exact .inr (.inl ⟨_, rfl⟩)
        · exact .inl rfl

theorem biasStepNow_cases (n : Nat) (vb step : Bool) (s : State) :
    biasStepNow n vb step s = s ∨ ∃ v, biasStepNow n vb step s = setOut n vb v s := by
  unfold biasStepNow
  dsimp only
  split
  · exact .inl rfl
  · split
    · exact .inr ⟨_, rfl⟩
    · split
      · exact .inr ⟨_, rfl⟩
      · exact .inl rfl

theorem fOut_off (vb : Bool) : (fOut vb).off = 0x7014 := by cases vb <;> rfl
theorem fRngOut_off (vb : Bool) : (fRngOut vb).off = 0x7014 := by cases vb <;> rfl
theorem fRbusy_off (vb : Bool) : (fRbusy vb).off = 0x7018 := by cases vb <;> rfl

theorem setOut_step (n : Nat) (vb : Bool) (v : Int) (s : State) : IslandStep (BiasKey n) s (setOut n vb v s) :=
  (IslandStep.refl _ s).wr _ (.inl (by rw [fOut_off]))

theorem biasChSet_step (n : Nat) (vb : Bool) (c : BiasCh) (s : State) : IslandStep (BiasKey n) s (biasChSet n vb c s) :=
  ((IslandStep.refl _ s).setBias n _).wr _ (.inr (.inl (by rw [fRbusy_off])))

theorem biasSeq_step (n : Nat) (vb : Bool) (s : State) : IslandStep (BiasKey n) s (biasSeq n vb s) := by
  rcases biasSeq_cases n vb s with h | ⟨c, h⟩ | ⟨c, v, h⟩
  · rw [h]
    exact IslandStep.refl _ s
  · exact h ▸ biasChSet_step n vb c s
  · exact h ▸ (biasChSet_step n vb c s).wr v (.inl (by rw [fRngOut_off]))

theorem biasStepNow_step (n : Nat) (vb step : Bool) (s : State) : IslandStep (BiasKey n) s (biasStepNow n vb step s) := by
  rcases biasStepNow_cases n vb step s with h | ⟨v, h⟩
  · rw [h]
    exact IslandStep.refl _ s
  · exact h ▸ setOut_step n vb v s

theorem biasFlags_step (n : Nat) (s : State) : IslandStep (BiasKey n) s (biasFlags n s) :=
  ((IslandStep.refl _ s).wr _ (.inr (.inl rfl))).wr _ (.inr (.inl rfl))

theorem clampBit_step {n : Nat} {f : Fld} (v : Bool) {start : State → State} (s : State) (hf : f.off = 0x200)
    (hstart : ∀ t, IslandStep (ClampKey n) t (start t)) : IslandStep (ClampKey n) s (clampBit n f v start s) := by
  have hset : IslandStep (ClampKey n) s (s.wr (safeL n) f (b2n v)) := (IslandStep.refl _ s).wr _ (.inl (by rw [hf]; rfl))
  exact IslandStep.ite (hset.trans (hstart _)) hset

theorem clampBit_frame {n : Nat} {f : Fld} (v : Bool) {start : State → State} (s : State) (hstart : ∀ t, RaiseFrame t (start t)) :
    RaiseFrame s (clampBit n f v start s) := by
  have hset : RaiseFrame s (s.wr (safeL n) f (b2n v)) := (RaiseFrame.refl s).wr ..
  unfold clampBit
  dsimp only
  split
  · exact hset.trans (hstart _)
  · exact hset

theorem biasClamps_step (n : Nat) (s : State) : IslandStep (ClampKey n) s (biasClamps n s) := by
  have hraise (k : Nat) (hk : RaiseKey k) : ClampKey n k := .inr (.inr hk)
  unfold biasClamps
  exact (clampBit_step _ s rfl fun t => ((IslandStep.refl _ t).cnt 1 (.inr (.inl rfl))).raise (by decide) hraise).trans
    (clampBit_step _ _ rfl fun t => (IslandStep.refl _ t).raise (by decide) hraise)

theorem biasClamps_frame (n : Nat) (s : State) : RaiseFrame s (biasClamps n s) := by
  unfold biasClamps
  exact (clampBit_frame _ s fun t => ((RaiseFrame.refl t).cnt ..).raised _).trans (clampBit_frame _ _ fun t => (RaiseFrame.refl t).raised _)

theorem ClampKey.biasKey {n k : Nat} (h : ClampKey n k) : BiasKey n k := .inr (.inr h)

/-- A lane brought up to date. -/
theorem biasEval_step (n : Nat) (step : Bool) (s : State) : IslandStep (BiasKey n) s (biasEval n step s) := by
  unfold biasEval
  split
  · exact ((setOut_step n false 0 s).trans (setOut_step n true 0 _)).trans (biasFlags_step n _)
  · split
    · exact (((((((biasClamps_step n s).mono fun _ => ClampKey.biasKey).trans (biasStepNow_step n false step _)).trans (biasSeq_step n false _)).trans
        (biasStepNow_step n true false _)).trans (biasSeq_step n true _)).trans (biasFlags_step n _))
    · exact IslandStep.refl _ s

theorem lane_not_biasKey {n i off : Nat} (hn : n < 64) (hi : i < 64) (hne : i ≠ n) (ho : off < 0x7040) : ¬ BiasKey n (laneB i + off) := by
  unfold BiasKey ClampKey RaiseKey FltKey EvtKey laneB safeB objKey
  omega

/-! ### Outputs while all clear -/

theorem IslandStep.allClearing {n : Nat} {s t : State} (h : IslandStep (BiasKey n) s t) (hr : Rising 0 s.regs) (hn : n < 64) :
    t.allClearing = s.allClearing := by
  have hkey (off : Nat) (ho : off = 4 ∨ off = 0x24) : ¬ BiasKey n (safeB + off) := by
    unfold BiasKey ClampKey RaiseKey FltKey EvtKey laneB safeB objKey
    omega
  have hflags : t.fatal = s.fatal ∧ t.off = s.off := by
    obtain ⟨_, _, _, _, _, rfl⟩ := h.frame
    exact ⟨rfl, rfl⟩
  have hsame (g : Fld) (hg : g.off = 4 ∨ g.off = 0x24) : t.on safeB g = s.on safeB g := by
    rw [State.on, State.on, State.rd, State.rd, (h.touches hr).2 _ (hkey _ hg)]
  rw [State.allClearing, State.allClearing, hsame R.SAFE_STATUS_PIN_CLR (.inl rfl), hsame R.SAFE_CLR_SW_CLR (.inr rfl), hflags.1, hflags.2]

/-- A sequence's steps leave the fields beside the range and the busy bit. -/
theorem biasSeq_rd {n : Nat} {vb : Bool} {g : Fld} {s : State} (hr : Rising 0 s.regs) (hrng : apart (fRngOut vb) g = true)
    (hbusy : apart (fRbusy vb) g = true) : (biasSeq n vb s).rd (laneB n) g = s.rd (laneB n) g := by
  have hset (c : BiasCh) : (biasChSet n vb c s).rd (laneB n) g = s.rd (laneB n) g :=
    State.rd_wr_apart (s := s.setBias n ((s.biasOf n).setCh vb c)) hr hbusy
  rcases biasSeq_cases n vb s with h | ⟨c, h⟩ | ⟨c, v, h⟩
  · rw [h]
  · rw [h, hset]
  · rw [h, State.rd_wr_apart (((biasChSet_step n vb c s).touches hr).1) hrng, hset]

theorem biasStepNow_rd {n : Nat} {vb step : Bool} {g : Fld} {s : State} (hr : Rising 0 s.regs) (hout : apart (fOut vb) g = true) :
    (biasStepNow n vb step s).rd (laneB n) g = s.rd (laneB n) g := by
  rcases biasStepNow_cases n vb step s with h | ⟨v, h⟩
  · rw [h]
  · rw [h, setOut, State.rd_wr_apart hr hout]

theorem biasFlags_rd {n : Nat} {g : Fld} {s : State} (hr : Rising 0 s.regs) (hg : g.off ≠ 0x7018) :
    (biasFlags n s).rd (laneB n) g = s.rd (laneB n) g := by
  have hne : laneB n + g.off ≠ laneB n + 0x7018 := by omega
  unfold biasFlags
  dsimp only
  exact (State.rd_wr_ne _ _ _ _ _ _ (State.wr_rising _ _ _ _ hr) hne).trans (State.rd_wr_ne _ _ _ _ _ _ hr hne)

/-- Without VDD_BIAS both outputs are 0. -/
theorem biasEval_biasUv {n : Nat} (step : Bool) {s : State} (hr : Rising 0 s.regs) (huv : s.biasUv = true) (vb : Bool) :
    (biasEval n step s).rd (laneB n) (fOut vb) = 0 := by
  have hf : Rising 0 (setOut n false 0 s).regs := State.wr_rising _ _ _ _ hr
  have ht : Rising 0 (setOut n true 0 (setOut n false 0 s)).regs := State.wr_rising _ _ _ _ hf
  rw [biasEval, if_pos huv, biasFlags_rd ht (by rw [fOut_off]; decide)]
  cases vb with
  | true => exact State.rd_wr_same _ _ _ _ hf (by decide)
  | false => exact (State.rd_wr_apart hf (by decide)).trans (State.rd_wr_same _ _ _ _ hr (by decide))

/-- The clamps leave the lane's own registers, the limits and the checks. -/
theorem biasClamps_rd {n : Nat} {b : Nat} {g : Fld} {s : State} (hr : Rising 0 s.regs) (hk : ¬ ClampKey n (b + g.off)) :
    (biasClamps n s).rd b g = s.rd b g := by
  rw [State.rd, State.rd, ((biasClamps_step n s).touches hr).2 _ hk]

theorem lane_not_clampKey {n off : Nat} (hn : n < 64) (ho : off < 0x10000) : ¬ ClampKey n (laneB n + off) := by
  unfold ClampKey RaiseKey FltKey EvtKey laneB safeB objKey
  omega

theorem trunc_of_range {v : Int} {c : Nat} (h0 : 0 ≤ v) (hc : v ≤ c) (hlt : c < 2 ^ 14) : trunc 14 v = v.toNat := by
  unfold trunc
  rw [Int.emod_eq_of_lt h0 (by omega)]

/-- The IB target while all outputs clear in the range of the clear code. -/
theorem biasT_clearing {n : Nat} {s : State} (hclear : s.allClearing = true)
    (hrng : s.rd (laneB n) R.BIAS_OUT_IB_RNG_OUT = s.rd (laneB n) R.BIAS_CLEAR_IB_CRNG) :
    biasT n false s = s.rd (laneB n) R.BIAS_CLEAR_IB_CLR := by
  have hon : biasClearing n false s = true := by rw [biasClearing, hclear]; rfl
  have hwant : biasWant n false s = ((s.rd (laneB n) R.BIAS_CLEAR_IB_CLR : Int), s.rd (laneB n) R.BIAS_CLEAR_IB_CRNG) := by
    unfold biasWant
    dsimp only
    rw [if_neg Bool.false_ne_true, if_pos hon]
  unfold biasT
  rw [hwant]
  dsimp only
  rw [show fRngOut false = R.BIAS_OUT_IB_RNG_OUT from rfl, hrng, if_pos (beq_self_eq_true _)]

/-- The target with the safety lock's lines never lies above what it is without them, nor above the limit. -/
theorem biasT2_bounds {n : Nat} {s : State} (h0 : 0 ≤ biasT n false s) :
    (s.on safeB R.SAFE_CTRL_CHECK_EN = false → biasT2 n false s = biasT n false s) ∧
    (s.on safeB R.SAFE_CTRL_CHECK_EN = true → biasT2 n false s ≤ limitCode n s) ∧
    0 ≤ biasT2 n false s ∧ biasT2 n false s ≤ biasT n false s := by
  unfold biasT2
  dsimp only
  cases s.on safeB R.SAFE_CTRL_CHECK_EN with
  | false => exact ⟨fun _ => rfl, fun h => absurd h Bool.false_ne_true, h0, le_refl _⟩
  | true =>
    refine ⟨fun h => absurd h Bool.true_eq_false_eq_False.elim, fun _ => ?_, ?_, ?_⟩ <;>
    · simp only [Bool.not_true, Bool.or_false, Bool.false_eq_true, if_false]
      split <;> omega

/-- Every clear source sets the clear code of IB, within the clamps. -/
theorem biasEval_clearing {n : Nat} (step : Bool) {s : State} (hr : Rising 0 s.regs) (hn : n < 64) (huv : s.biasUv = false)
    (hclear : s.allClearing = true) (hhold : (s.biasOf n).ib.hold = false) :
    (biasEval n step s).rd (laneB n) R.BIAS_OUT_IB_OUT = trunc 14 (biasT2 n false (biasClamps n s)) ∧
    (biasEval n step s).rd (laneB n) R.BIAS_STATUS_CLEARING = 1 := by
  have hstep := biasClamps_step n s
  have hr1 : Rising 0 (biasClamps n s).regs := (hstep.touches hr).1
  have hclear1 : (biasClamps n s).allClearing = true := ((hstep.mono fun _ => ClampKey.biasKey).allClearing hr hn).trans hclear
  have hhold1 : ((biasClamps n s).biasOf n).ib.hold = false := by
    obtain ⟨_, _, _, _, he⟩ := biasClamps_frame n s
    rw [he]
    exact hhold
  have heval : biasEval n step s = biasFlags n (biasSeq n true (biasStepNow n true false (biasSeq n false
      (biasStepNow n false step (biasClamps n s))))) := by
    rw [biasEval, huv, hclear, Bool.or_true]
    rfl
  rw [heval]
  generalize biasClamps n s = c at hr1 hclear1 hhold1
  have hnow : biasStepNow n false step c = setOut n false (biasT2 n false c) c := by
    unfold biasStepNow
    dsimp only
    rw [show ((c.biasOf n).ch false).hold = false from hhold1, if_neg Bool.false_ne_true, hclear1]
    rfl
  rw [hnow]
  have hr2 : Rising 0 (setOut n false (biasT2 n false c) c).regs := State.wr_rising _ _ _ _ hr1
  have hout : (setOut n false (biasT2 n false c) c).rd (laneB n) R.BIAS_OUT_IB_OUT = trunc 14 (biasT2 n false c) := by
    refine (State.rd_wr_same _ _ _ _ hr1 (by decide)).trans (Nat.mod_eq_of_lt ?_)
    unfold trunc
    have h14 : ((2 ^ 14 : Nat) : Int) = 16384 := rfl
    have hlt := Int.emod_lt_of_pos (biasT2 n false c) (by decide : (0 : Int) < ((2 ^ 14 : Nat) : Int))
    have hpos := Int.emod_nonneg (biasT2 n false c) (by decide : ((2 ^ 14 : Nat) : Int) ≠ 0)
    have h2 : 2 ^ (R.BIAS_OUT_IB_OUT.hi + 1 - R.BIAS_OUT_IB_OUT.lo) = 16384 := rfl
    rw [show fOut false = R.BIAS_OUT_IB_OUT from rfl, h2]
    omega
  have hsafe : IslandStep (BiasKey n) c (biasSeq n true (biasStepNow n true false (biasSeq n false (setOut n false (biasT2 n false c) c)))) :=
    (((setOut_step n false _ c).trans (biasSeq_step n false _)).trans (biasStepNow_step n true false _)).trans (biasSeq_step n true _)
  have hr3 := ((biasSeq_step n false (setOut n false (biasT2 n false c) c)).touches hr2).1
  have hr4 := ((biasStepNow_step n true false (biasSeq n false (setOut n false (biasT2 n false c) c))).touches hr3).1
  have hr5 := (hsafe.touches hr1).1
  constructor
  · rw [biasFlags_rd hr5 (by decide), biasSeq_rd hr4 (by decide) (by decide), biasStepNow_rd hr3 (by decide),
      biasSeq_rd hr2 (by decide) (by decide), hout]
  · have hall := (hsafe.allClearing hr1 hn).trans hclear1
    have hon : biasClearing n false (biasSeq n true (biasStepNow n true false (biasSeq n false (setOut n false (biasT2 n false c) c)))) = true := by
      rw [biasClearing, hall]
      rfl
    unfold biasFlags
    dsimp only
    rw [State.rd_wr_apart (State.wr_rising _ _ _ _ hr5) (by decide), State.rd_wr_same _ _ _ _ hr5 (by decide), hon]
    rfl

end Sys2Proof.Machine
end

section

/-! The events of the bias island: clear pins, slew steps, detectors, the watchdog, OTP reads and duty windows (R171 to R190),
and O26. -/

namespace Sys2Proof.Machine

theorem pinClear_eq (s : State) :
    pinClear s = if s.on safeB R.SAFE_STATUS_PIN_CLR then s
      else biasAll (((s.wr safeB R.SAFE_STATUS_PIN_CLR 1).cnt safeB R.SAFE_CNT_CLEARS 1).raise 0x416) := rfl

theorem biasSlew_eq {n : Nat} {vb : Bool} {s : State} (huv : s.biasUv = false) (hrun : s.islandRuns = true)
    (hhold : ((s.biasOf n).ch vb).hold = false) :
    biasSlew n vb s =
      (let o := biasOut n vb s
      let t := biasT2 n vb s
      let k : Int := s.rd (laneB n) (fStep vb)
      let v : Int := if k = 0 then t else if o < t then min t (o + k) else max t (o - k)
      biasFlags n (biasSeq n vb (s.wr (laneB n) (fOut vb) (trunc 14 v)))) := by
  unfold biasSlew
  rw [huv, hrun, hhold, if_neg (by decide)]
  simp only [beq_iff_eq]
  rfl

theorem biasHoldEnd_eq {n : Nat} {vb : Bool} {s : State} (hhold : ((s.biasOf n).ch vb).hold = true) :
    biasHoldEnd n vb s =
      biasEval n false (s.setBias n ((s.biasOf n).setCh vb { (s.biasOf n).ch vb with hold := false })) := by
  unfold biasHoldEnd
  exact if_pos hhold

theorem biasGate_eq {n : Nat} {isOpen : Bool} {s : State} (h : (s.biasOf n).gate ≠ isOpen) :
    biasGate n isOpen s = biasEval n true (s.setBias n { s.biasOf n with gate := isOpen }) := by
  unfold biasGate
  exact if_neg (by rwa [beq_iff_eq])

theorem gateEdge_now {n : Nat} {s : State} (h : gateWant n s ≠ (s.biasOf n).gate) :
    gateEdge n s = biasEval n true (s.setBias n { s.biasOf n with gate := gateWant n s }) := by
  unfold gateEdge
  rw [if_pos (by rwa [bne_iff_ne]), biasGate_eq h.symm]

theorem State.advanceTlv_biasOf (s : State) (x due n : Nat) : (s.advanceTlv x due).biasOf n = s.biasOf n := by
  have hadvance (d : Nat) : (s.advance d).biasOf n = s.biasOf n := by rw [State.advance_eq]; rfl
  unfold State.advanceTlv State.advanceNow
  split_ifs
  · exact hadvance _
  · rfl
  · rfl
  · exact hadvance _

/-- An opening ahead is reached first. -/
theorem gateEdge_ahead {n x : Nat} {s : State} (hwant : gateWant n s = false) (hgate : (s.biasOf n).gate = false)
    (hcount : s.counting = true) (hnext : gateNext n s = some x) (hopen : gateWant n (s.advanceTlv x s.now) = true) :
    gateEdge n s = biasEval n true ((s.advanceTlv x s.now).setBias n { s.biasOf n with gate := true }) := by
  have hbias : (s.advanceTlv x s.now).biasOf n = s.biasOf n := s.advanceTlv_biasOf ..
  have hshut : ((s.advanceTlv x s.now).biasOf n).gate ≠ true := by rw [hbias, hgate]; decide
  unfold gateEdge
  rw [hwant, hgate, hcount, hnext]
  dsimp only
  rw [hopen, biasGate_eq hshut, hbias]
  rfl

/-! ### Detectors -/

theorem evLane_bias (n : Nat) : evLane n 11 = 12 * n + 11 := by unfold evLane; omega

/-- A detection that is noted, before its counts. -/
def detNoted (n : Nat) (d : Detector) (s : State) : State :=
  s.setBias n { s.biasOf n with
    det := (s.biasOf n).det + 2 ^ detBit d
    clr := if s.on (laneB n) (detAct d) then setBit (s.biasOf n).clr (detBit d) else (s.biasOf n).clr }

/-- The island still runs after the counts of a detection, whatever form the map has. -/
theorem islandRuns_detCounted {n : Nat} (hn : n < 64) (d : Detector) (s : State) :
    (((detNoted n d s).wr (laneB n) (detFld d) 1).cnt (laneB n) (detCnt d) 1).islandRuns = s.islandRuns := by
  have hcnt : resetWord (laneB n + (detCnt d).off) = 0 := by
    have hall : ∀ i : Lane, resetWord (laneB i.val + 0x702C) = 0 := by decide +kernel
    cases d <;> exact hall ⟨n, hn⟩
  have hset (i : Nat) (hi : i = 1 ∨ i = 2 ∨ i = 3) (w : Word) : fset w i i 1 ≠ resetWord (laneB n + 0x7018) := by
    have hall : ∀ k : Lane, fget (resetWord (laneB k.val + 0x7018)) 1 1 = 0 ∧ fget (resetWord (laneB k.val + 0x7018)) 2 2 = 0 ∧
      fget (resetWord (laneB k.val + 0x7018)) 3 3 = 0 := by decide +kernel
    intro he
    have hone := fget_fset_one w (i := i) (by omega)
    rw [he] at hone
    obtain ⟨h1, h2, h3⟩ := hall ⟨n, hn⟩
    rcases hi with rfl | rfl | rfl
    · exact absurd (h1.symm.trans hone) (by decide)
    · exact absurd (h2.symm.trans hone) (by decide)
    · exact absurd (h3.symm.trans hone) (by decide)
  have hfld : (detFld d).off = 0x7018 ∧ (detFld d).hi = (detFld d).lo ∧ ((detFld d).lo = 1 ∨ (detFld d).lo = 2 ∨ (detFld d).lo = 3) := by
    cases d <;> decide
  obtain ⟨hoff, hhi, hlo⟩ := hfld
  have hkey (off : Nat) : pwrB + R.PWR_STATUS_STATE.off ≠ laneB n + off := by
    simp only [pwrB, laneB, R.PWR_STATUS_STATE]
    omega
  have hdet : (detCnt d).lo ≤ (detCnt d).hi ∧ (detCnt d).hi < 32 := by cases d <;> decide
  have hwr : ((detNoted n d s).wr (laneB n) (detFld d) 1).getReg (pwrB + R.PWR_STATUS_STATE.off) =
      (detNoted n d s).getReg (pwrB + R.PWR_STATUS_STATE.off) := by
    refine State.getReg_setReg_of (by rw [hoff]; exact hkey _) (.inl ?_)
    rw [hhi, hoff]
    exact hset _ hlo _
  rw [State.islandRuns, State.islandRuns, State.rd, State.rd, State.getReg_cnt_of (hkey _) hdet hcnt, hwr]
  rfl

theorem detMet_eq {n : Nat} {d : Detector} {s : State} (hn : n < 64) (hd : d ≠ .openLoad) (harm : detArmed n d s = true)
    (hnew : (s.biasOf n).det / 2 ^ detBit d % 2 = 0) (hrun : s.islandRuns = true) :
    detMet n d s = biasEval n false ((((detNoted n d s).wr (laneB n) (detFld d) 1).cnt (laneB n) (detCnt d) 1).raise (12 * n + 11)) := by
  have hdecl : detDeclare n d s = detDeclare1 n d s := by
    cases d with
    | openLoad => exact absurd rfl hd
    | compl => rfl
    | vbOvl => rfl
  have hbit : ¬ ((s.biasOf n).det / 2 ^ detBit d % 2 == 1) = true := by rw [hnew]; decide
  have hset : setBit (s.biasOf n).det (detBit d) = (s.biasOf n).det + 2 ^ detBit d := if_neg hbit
  unfold detMet
  rw [if_pos harm, hdecl]
  unfold detDeclare1
  dsimp only
  rw [if_neg hbit, hset]
  show biasEval n false (biasEvent n (((detNoted n d s).wr (laneB n) (detFld d) 1).cnt (laneB n) (detCnt d) 1)) = _
  rw [biasEvent, if_pos ((islandRuns_detCounted hn d s).trans hrun), evLane_bias]

theorem detMet_open_again {n : Nat} {s : State} (harm : detArmed n .openLoad s = true) (hdet : (s.biasOf n).det = 3) :
    detMet n .openLoad s = s := by
  have hagain (d : Detector) (hd : d ≠ .vbOvl) : detDeclare1 n d s = s := by
    unfold detDeclare1
    dsimp only
    rw [hdet]
    cases d with
    | compl => rfl
    | openLoad => rfl
    | vbOvl => exact absurd rfl hd
  rw [detMet, if_pos harm]
  show detDeclare1 n .compl (detDeclare1 n .openLoad s) = s
  rw [hagain _ (by decide), hagain _ (by decide)]

theorem apcExpire_eq {n : Nat} {s : State} (hrun : (s.biasOf n).apcRun = true) (hsrc : s.on (laneB n) R.BIAS_CTRL_IB_SRC = true)
    (hwdog : s.rd (laneB n) R.BIAS_APC_CFG_WDOG ≠ 0) (hisl : s.islandRuns = true) : apcExpire n s =
      biasEval n false (((s.setBias n { s.biasOf n with
        apcRun := false, clr := if s.on (laneB n) R.BIAS_APC_CFG_WDOG_ACT then setBit (s.biasOf n).clr 3 else (s.biasOf n).clr }).wr
          (laneB n) R.BIAS_STATUS_WDOG 1).raise (12 * n + 11)) := by
  have hne : (s.rd (laneB n) R.BIAS_APC_CFG_WDOG != 0) = true := bne_iff_ne.mpr hwdog
  rw [apcExpire, hrun, hsrc, hne, hisl, if_pos (by decide), apcWdogSet, evLane_bias]

theorem otpReread_eq {found : List OtpUpset} {s : State} (hpor : s.por = false) :
    otpReread found s = otpRead (found.foldl (fun t u => otpUpset u t) s) := by
  rw [otpReread, hpor]
  rfl

theorem dutySpent_eq {n : Nat} {s : State} (hemit : s.on (laneB n) R.BIAS_STATUS_EMITTING = true)
    (hduty : s.rd (safeL n) R.SAFE_LANE_DUTY ≠ 0xFF) (hisl : s.islandRuns = true) (hnew : s.on (safeL n) R.SAFE_LANE_CLAMP_DUTY = false) :
    dutySpent n s = biasEval n false (((s.wr (safeL n) R.SAFE_LANE_CLAMP_DUTY 1).cnt safeB R.SAFE_CNT_DUTY_HITS 1).raise 0x413) := by
  have hne : (s.rd (safeL n) R.SAFE_LANE_DUTY != 0xFF) = true := bne_iff_ne.mpr hduty
  rw [dutySpent, hemit, hne, hisl, if_pos (by decide), dutySpend, hnew, if_neg (by decide)]

theorem dutyWindow_eq (s : State) :
    dutyWindow s = if s.islandRuns = false then s
      else (List.range 64).foldl (fun t n =>
        if t.on (safeL n) R.SAFE_LANE_CLAMP_DUTY then biasEval n true (t.wr (safeL n) R.SAFE_LANE_CLAMP_DUTY 0) else t) s := by
  unfold dutyWindow
  cases s.islandRuns <;> rfl

/-! ### What the island keeps safe -/

theorem biasEval_within {n : Nat} (step : Bool) {s : State} (hr : Rising 0 s.regs) (hn : n < 64) (huv : s.biasUv = false)
    (hclear : s.allClearing = true) (hhold : (s.biasOf n).ib.hold = false)
    (hrng : s.rd (laneB n) R.BIAS_OUT_IB_RNG_OUT = s.rd (laneB n) R.BIAS_CLEAR_IB_CRNG) :
    let c := s.rd (laneB n) R.BIAS_CLEAR_IB_CLR
    (s.on safeB R.SAFE_CTRL_CHECK_EN = false → (biasEval n step s).rd (laneB n) R.BIAS_OUT_IB_OUT = c) ∧
    (biasEval n step s).rd (laneB n) R.BIAS_OUT_IB_OUT ≤ c ∧
    (s.on safeB R.SAFE_CTRL_CHECK_EN = true → (biasEval n step s).rd (laneB n) R.BIAS_OUT_IB_OUT ≤ limitCode n s) ∧
    (biasEval n step s).rd (laneB n) R.BIAS_STATUS_CLEARING = 1 := by
  obtain ⟨hout, hflag⟩ := biasEval_clearing step hr hn huv hclear hhold
  have hlane (g : Fld) (hg : g.off < 0x10000) : (biasClamps n s).rd (laneB n) g = s.rd (laneB n) g :=
    biasClamps_rd hr (lane_not_clampKey hn hg)
  have hcheck : (biasClamps n s).on safeB R.SAFE_CTRL_CHECK_EN = s.on safeB R.SAFE_CTRL_CHECK_EN := by
    rw [State.on, State.on, biasClamps_rd hr]
    simp only [ClampKey, RaiseKey, FltKey, EvtKey, safeB, objKey, R.SAFE_CTRL_CHECK_EN]
    omega
  have hlimit : limitCode n (biasClamps n s) = limitCode n s := by
    have hmax : (biasClamps n s).rd (safeL n) R.SAFE_LIM_IB_MAX = s.rd (safeL n) R.SAFE_LIM_IB_MAX := by
      refine biasClamps_rd hr ?_
      simp only [ClampKey, RaiseKey, FltKey, EvtKey, safeL, safeB, objKey, R.SAFE_LIM_IB_MAX]
      omega
    have hinj : ((biasClamps n s).biasOf n).injLim = (s.biasOf n).injLim := by
      obtain ⟨_, _, _, _, he⟩ := biasClamps_frame n s
      rw [he]
      rfl
    rw [limitCode, limitCode, hlane _ (by decide), hmax, hinj]
  have htarget : biasT n false (biasClamps n s) = s.rd (laneB n) R.BIAS_CLEAR_IB_CLR := by
    rw [biasT_clearing (((biasClamps_step n s).mono fun _ => ClampKey.biasKey).allClearing hr hn |>.trans hclear)
      (by rw [hlane _ (by decide), hlane _ (by decide), hrng]), hlane _ (by decide)]
  have hlt : s.rd (laneB n) R.BIAS_CLEAR_IB_CLR < 2 ^ 14 := State.rd_lt ..
  obtain ⟨hoff, hon, h0, hle⟩ := biasT2_bounds (n := n) (s := biasClamps n s) (by rw [htarget]; omega)
  rw [hcheck] at hoff hon
  rw [htarget] at hoff hle
  rw [hlimit] at hon
  have htrunc := trunc_of_range h0 hle hlt
  rw [hout, htrunc]
  refine ⟨fun h => ?_, ?_, fun h => ?_, hflag⟩
  · rw [hoff h]
    rfl
  · omega
  · have := hon h
    omega

theorem biasEval_beside {n i : Nat} (step : Bool) {s : State} (hr : Rising 0 s.regs) (hn : n < 64) (hi : i < 64) (hne : i ≠ n) :
    let u := biasEval n step s
    u.mem = s.mem ∧ u.otp = s.otp ∧ u.now = s.now ∧ u.pending = s.pending ∧
      ∀ off : Fin 0x7040, u.getReg (laneB i + off.val) = s.getReg (laneB i + off.val) := by
  have hstep := biasEval_step n step s
  have hregs (off : Fin 0x7040) := (hstep.touches hr).2 _ (lane_not_biasKey hn hi hne off.isLt)
  obtain ⟨_, _, _, _, _, he⟩ := hstep.frame
  refine ⟨?_, ?_, ?_, ?_, hregs⟩ <;> rw [he]

/-- Settles O26. -/
theorem biasEvents : Obligations.BiasEvents := by
  unfold Obligations.BiasEvents
  refine ⟨?_, ?_, ?_, ?_, ?_, ?_, ?_, ?_, ?_, ?_, ?_, ?_, ?_, ?_, ?_⟩
  · exact fun s => ⟨exec_closed (f := pinClear) rfl (pinClear_eq s.fresh), exec_closed (f := pinRelease) rfl rfl⟩
  · intro n vb s huv hrun hhold
    exact exec_closed (f := biasSlew n.val vb) rfl (biasSlew_eq (s := s.fresh) huv hrun hhold)
  · intro n vb s hhold
    exact exec_closed (f := biasHoldEnd n.val vb) rfl (biasHoldEnd_eq (s := s.fresh) hhold)
  · intro n s hne
    exact exec_closed (f := gateEdge n.val) rfl (gateEdge_now (s := s.fresh) hne)
  · intro n s x hwant hgate hcount hnext t hopen
    exact exec_closed (f := gateEdge n.val) rfl (gateEdge_ahead (s := s.fresh) hwant hgate hcount hnext hopen)
  · intro n d s hd harm hnew hrun
    exact exec_closed (f := detMet n.val d) rfl (detMet_eq (s := s.fresh) n.isLt hd harm hnew hrun)
  · intro n s harm hdet
    exact exec_closed (f := detMet n.val .openLoad) rfl (detMet_open_again (s := s.fresh) harm hdet)
  · exact fun n d s => exec_closed (f := detRelease n.val d) rfl rfl
  · intro n s hrun hsrc hwdog hisl
    exact exec_closed (f := apcExpire n.val) rfl (apcExpire_eq (s := s.fresh) hrun hsrc hwdog hisl)
  · intro found s hpor
    exact exec_closed (f := otpReread found) rfl (otpReread_eq (s := s.fresh) hpor)
  · intro n s hemit hduty hisl hnew
    exact exec_closed (f := dutySpent n.val) rfl (dutySpent_eq (s := s.fresh) hemit hduty hisl hnew)
  · exact fun s => exec_closed (f := dutyWindow) rfl (dutyWindow_eq s.fresh)
  · intro n step s hinv huv
    exact ⟨biasEval_biasUv step hinv.regs_rising huv false, biasEval_biasUv step hinv.regs_rising huv true⟩
  · intro n step s hinv huv hclear hhold hrng
    exact biasEval_within step hinv.regs_rising n.isLt huv hclear hhold hrng
  · intro n step s i hinv hne
    exact biasEval_beside step hinv.regs_rising n.isLt i.isLt fun h => hne (Fin.ext h)

end Sys2Proof.Machine
end

section

/-! Inner blocks, error counts, snapshots and forensic records (R230 to R237, R246). -/

namespace Sys2Proof.Machine

/-! ### Inner blocks -/

theorem innerBlock_idle {n : Nat} (words : List (BitVec 4)) {s : State}
    (h : s.rxState n ≠ 6 ∨ s.rxMode n ≠ 0 ∨ laneGrp n s = none ∨ s.feUp (n / 16) = false) : innerBlock n words s = s := by
  have hoff : (s.rxState n != 6 || s.rxMode n != 0 || (laneGrp n s).isNone || !s.feUp (n / 16)) = true := by
    rcases h with h | h | h | h <;> simp [h]
  unfold innerBlock
  exact if_pos hoff

/-- The stage takes blocks: a locked P4-212 lane of an enabled group. -/
structure InnerTakes (n : Nat) (s : State) : Prop where
  state : s.rxState n = 6
  mode : s.rxMode n = 0
  group : (laneGrp n s).isSome = true
  up : s.feUp (n / 16) = true

theorem InnerTakes.open {n : Nat} {s : State} (h : InnerTakes n s) :
    (s.rxState n != 6 || s.rxMode n != 0 || (laneGrp n s).isNone || !s.feUp (n / 16)) = false := by
  obtain ⟨hst, hmode, hgrp, hup⟩ := h
  rw [hst, hmode, hup, Option.isNone_eq_false_iff.mpr hgrp]
  rfl

theorem innerGo_lock {n : Nat} {s : State} (h : s.on (laneB n) R.FEC_STATUS_INNER_LOCK = false) :
    innerGo n true s = (((s.wr (laneB n) R.FEC_STATUS_INNER_LOCK 1).setFec n { s.fecOf n with
      innerGood := 0, innerLast := [], innerBlks := [], rsIn := [] }).wr (laneB n) R.FEC_EVT_INNER 1).raise (12 * n + 8) := by
  have hid : evLane n 8 = 12 * n + 8 := by unfold evLane; omega
  unfold innerGo
  rw [h, ← hid]
  rfl

/-- Blocks in the search for inner lock. -/
theorem innerBlock_search {n : Nat} (words : List (BitVec 4)) {s : State} (htake : InnerTakes n s)
    (hlock : s.on (laneB n) R.FEC_STATUS_INNER_LOCK = false) :
    innerBlock n words s =
      (let x := s.fecOf n
      let buf := x.innerBuf ++ words
      let fail := decide (8 < ((innerTake (buf.take 1156)).filter (fun c => innerFails c.bits)).length)
      if buf.length < 1156 then s.setFec n { x with innerBuf := buf }
      else let t := s.setFec n { x with innerBuf := buf.drop 1156 }
        if fail then t.setFec n { x with innerGood := 0, innerOfs := (x.innerOfs + 1) % 1156, innerBuf := buf.drop 1157 }
        else if x.innerGood + 1 < 64 then t.setFec n { x with innerGood := x.innerGood + 1, innerBuf := buf.drop 1156 }
        else (((t.wr (laneB n) R.FEC_STATUS_INNER_LOCK 1).setFec n { x with
                innerBuf := buf.drop 1156, innerGood := 0, innerLast := [], innerBlks := [], rsIn := [] }).wr
          (laneB n) R.FEC_EVT_INNER 1).raise (12 * n + 8)) := by
  unfold innerBlock
  rw [htake.open, if_neg Bool.false_ne_true]
  dsimp only
  generalize hbuf : (s.fecOf n).innerBuf ++ words = buf
  rw [List.countP_eq_length_filter]
  split
  · rfl
  · have hlock' : (s.setFec n { s.fecOf n with innerBuf := buf.drop 1156 }).on (laneB n) R.FEC_STATUS_INNER_LOCK = false := hlock
    rw [hlock', if_neg Bool.false_ne_true]
    split
    · rfl
    · split
      · rfl
      · next hgood =>
        have hne : { s.fecOf n with innerBuf := buf.drop 1156 } ≠ FecSt.idle := by
          intro he
          have hzero : (s.fecOf n).innerGood = 0 := congrArg FecSt.innerGood he
          omega
        have hget : (s.setFec n { s.fecOf n with innerBuf := buf.drop 1156 }).fecOf n = { s.fecOf n with innerBuf := buf.drop 1156 } :=
          look_put_same_of _ s.fec hne
        rw [innerGo_lock hlock', hget]

theorem fecOf_setFec {n : Nat} {x : FecSt} {s : State} (h : Rising 0 s.fec) : (s.setFec n x).fecOf n = x := look_put_same _ _ h

theorem setFec_rising {n : Nat} {x : FecSt} {s : State} (h : Rising 0 s.fec) : Rising 0 (s.setFec n x).fec := put_rising _ _ h (Nat.zero_le n)

/-- A block that is decoded counts, and moves what the decoder keeps. -/
theorem innerDone_cases (n : Nat) (o : InnerOut) (s : State) :
    ∃ y : FecSt, innerDone n o s = s.setFec n y ∧
      y.live = { (s.fecOf n).live with
        innerCor := satAdd 16 (s.fecOf n).live.innerCor o.cor, innerDet := satAdd 16 (s.fecOf n).live.innerDet (o.det.count true) } ∧
      y.innerLast = (s.fecOf n).innerLast ∧ y.innerBuf = (s.fecOf n).innerBuf := by
  unfold innerDone
  dsimp only
  split
  · exact ⟨_, rfl, rfl, rfl, rfl⟩
  · split
    · exact ⟨_, rfl, rfl, rfl, rfl⟩
    · exact ⟨_, rfl, rfl, rfl, rfl⟩

theorem innerGo_unlock {n : Nat} {s : State} (h : s.on (laneB n) R.FEC_STATUS_INNER_LOCK = true) :
    innerGo n false s = fecEvt n R.FEC_EVT_INNER ((s.wr (laneB n) R.FEC_STATUS_INNER_LOCK 0).setFec n { s.fecOf n with
      innerGood := 0, innerLast := [], innerBlks := [], rsIn := [] }) := by
  unfold innerGo
  rw [h]
  rfl

/-- An event of FEC sets its bit and is sent, and leaves what the decoder keeps. -/
theorem fecEvt_fec (n : Nat) (f : Fld) (s : State) : (fecEvt n f s).fec = s.fec ∧ (fecEvt n f s).mem = s.mem := by
  obtain ⟨_, _, _, _, he⟩ := RaiseFrame.raise (s.wr (laneB n) f 1) (evLane n 8)
  rw [fecEvt, he]
  exact ⟨rfl, rfl⟩

theorem fecEvt_sends {n : Nat} {f : Fld} {s : State} (hr : Rising 0 s.regs) (hn : n < 64) (hf : f.off < 0x10000)
    (hon : s.domOn n = true) : Sends (12 * n + 8) (fecEvt n f s) := by
  have hid : evLane n 8 = 12 * n + 8 := by unfold evLane; omega
  have hkeep : (s.wr (laneB n) f 1).domOn n = true := by
    rw [State.domOn, State.rd, State.getReg_wr_ne _ _ hr, ← State.rd, ← State.domOn, hon]
    simp only [Obj.base, objKey, laneB, R.PWR_DOM_STAT_STATE]
    omega
  have hdom : evDom (12 * n + 8) = some n := evDom_lane hn (by decide)
  rw [fecEvt, hid]
  exact State.raise_sends (State.evClamped_of_domOn hdom hkeep)

theorem fecEvt_rd {n m : Nat} {f g : Fld} {s : State} (hr : Rising 0 s.regs) (hn : n < 64) (hm : m < 64) (hg : g.off < 0x10000)
    (hfg : f.off ≠ g.off ∧ f.off < 0x10000) : (fecEvt n f s).rd (laneB m) g = s.rd (laneB m) g := by
  have hlane : ¬ RaiseKey (laneB m + g.off) := by
    unfold RaiseKey FltKey EvtKey laneB objKey
    omega
  rw [fecEvt, State.raise_rd (State.wr_rising _ _ _ _ hr) (evLane_lt hn (by decide)) hlane]
  exact State.rd_wr_ne _ _ _ _ _ _ hr (by unfold laneB; omega)

/-- Blocks under inner lock. -/
theorem innerBlock_locked {n : Nat} (words : List (BitVec 4)) {s : State} (hinv : Inv s) (hn : n < 64) (htake : InnerTakes n s)
    (hlock : s.on (laneB n) R.FEC_STATUS_INNER_LOCK = true) (hon : s.domOn n = true)
    (hfull : 1156 ≤ ((s.fecOf n).innerBuf ++ words).length) :
    let x := s.fecOf n
    let buf := x.innerBuf ++ words
    let cws := innerTake (buf.take 1156)
    let fail := decide (8 < (cws.filter (fun c => innerFails c.bits)).length)
    let o := innerOut (s.rd (laneB n) R.FEC_CTRL_INNER_L) cws
    let late := fail = true ∧ 15 ≤ x.innerLast.count true
    let u := innerBlock n words s
    u.on (laneB n) R.FEC_STATUS_INNER_LOCK = !decide late ∧ (late → Sends (12 * n + 8) u) ∧
    (u.fecOf n).innerLast = (if late then [] else (fail :: x.innerLast).take 63) ∧
    (u.fecOf n).live = { x.live with innerCor := satAdd 16 x.live.innerCor o.cor, innerDet := satAdd 16 x.live.innerDet (o.det.count true) } ∧
    (u.fecOf n).innerBuf = buf.drop 1156 ∧ u.mem = s.mem := by
  have hfec : Rising 0 s.fec := hinv.maps_rising.fec
  unfold innerBlock
  rw [htake.open, if_neg Bool.false_ne_true]
  dsimp only
  rw [List.countP_eq_length_filter, if_neg (Nat.not_lt.mpr hfull)]
  generalize (s.fecOf n).innerBuf ++ words = buf
  generalize decide (8 < ((innerTake (buf.take 1156)).filter (fun c => innerFails c.bits)).length) = fail
  have hlock1 : (s.setFec n { s.fecOf n with innerBuf := buf.drop 1156 }).on (laneB n) R.FEC_STATUS_INNER_LOCK = true := hlock
  have hlen : (s.setFec n { s.fecOf n with innerBuf := buf.drop 1156 }).rd (laneB n) R.FEC_CTRL_INNER_L =
    s.rd (laneB n) R.FEC_CTRL_INNER_L := rfl
  rw [hlock1, if_pos rfl, hlen]
  generalize innerOut (s.rd (laneB n) R.FEC_CTRL_INNER_L) (innerTake (buf.take 1156)) = o
  obtain ⟨y, hy, hlive, hlast, hbuf⟩ := innerDone_cases n o (s.setFec n { s.fecOf n with innerBuf := buf.drop 1156 })
  rw [fecOf_setFec hfec] at hlive hlast hbuf
  have hfec1 := setFec_rising (n := n) (x := { s.fecOf n with innerBuf := buf.drop 1156 }) hfec
  have hregs : ((s.setFec n { s.fecOf n with innerBuf := buf.drop 1156 }).setFec n y).regs = s.regs ∧
    ((s.setFec n { s.fecOf n with innerBuf := buf.drop 1156 }).setFec n y).mem = s.mem := ⟨rfl, rfl⟩
  have hfec2 : Rising 0 ((s.setFec n { s.fecOf n with innerBuf := buf.drop 1156 }).setFec n y).fec := setFec_rising hfec1
  have hget : ((s.setFec n { s.fecOf n with innerBuf := buf.drop 1156 }).setFec n y).fecOf n = y := fecOf_setFec hfec1
  rw [hy]
  generalize (s.setFec n { s.fecOf n with innerBuf := buf.drop 1156 }).setFec n y = t at hregs hfec2 hget
  obtain ⟨hregs, hmem⟩ := hregs
  have hrt : Rising 0 t.regs := hregs ▸ hinv.regs_rising
  have hrd (b : Nat) (f : Fld) : t.rd b f = s.rd b f := by rw [State.rd, State.rd, State.getReg, State.getReg, hregs]
  rw [hget, hlast]
  by_cases hlate : fail = true ∧ 15 ≤ (s.fecOf n).innerLast.count true
  · have hcond : (fail && decide (15 ≤ (s.fecOf n).innerLast.count true)) = true := by simpa using hlate
    have hlockt : t.on (laneB n) R.FEC_STATUS_INNER_LOCK = true := by rw [State.on, hrd]; exact hlock
    rw [if_pos hcond, innerGo_unlock hlockt, hget]
    have hrw : Rising 0 (t.wr (laneB n) R.FEC_STATUS_INNER_LOCK 0).regs := State.wr_rising _ _ _ _ hrt
    have hzero : (t.wr (laneB n) R.FEC_STATUS_INNER_LOCK 0).rd (laneB n) R.FEC_STATUS_INNER_LOCK = 0 :=
      State.rd_wr_same _ _ _ _ hrt (by decide)
    have hond : (t.wr (laneB n) R.FEC_STATUS_INNER_LOCK 0).domOn n = true := by
      have hne : (Obj.dom n).base + R.PWR_DOM_STAT_STATE.off ≠ laneB n + R.FEC_STATUS_INNER_LOCK.off := by
        simp only [Obj.base, objKey, laneB, R.PWR_DOM_STAT_STATE, R.FEC_STATUS_INNER_LOCK]
        omega
      rw [State.domOn, State.rd, State.getReg_wr_ne _ _ hrt hne, ← State.rd, hrd]
      exact hon
    have hfecw : Rising 0 (t.wr (laneB n) R.FEC_STATUS_INNER_LOCK 0).fec := hfec2
    have hmemw : (t.wr (laneB n) R.FEC_STATUS_INNER_LOCK 0).mem = s.mem := hmem
    generalize t.wr (laneB n) R.FEC_STATUS_INNER_LOCK 0 = w at hrw hzero hond hfecw hmemw
    obtain ⟨hkept, hkeptm⟩ := fecEvt_fec n R.FEC_EVT_INNER (w.setFec n { y with innerGood := 0, innerLast := [], innerBlks := [], rsIn := [] })
    have hfecOf : (fecEvt n R.FEC_EVT_INNER (w.setFec n { y with innerGood := 0, innerLast := [], innerBlks := [], rsIn := [] })).fecOf n =
        { y with innerGood := 0, innerLast := [], innerBlks := [], rsIn := [] } := by
      rw [State.fecOf, hkept]
      exact fecOf_setFec hfecw
    refine ⟨?_, fun _ => ?_, ?_, ?_, ?_, ?_⟩
    · have hoff := (fecEvt_rd (n := n) (f := R.FEC_EVT_INNER) (g := R.FEC_STATUS_INNER_LOCK)
        (s := w.setFec n { y with innerGood := 0, innerLast := [], innerBlks := [], rsIn := [] }) hrw hn hn (by decide) (by decide)).trans hzero
      rw [State.on, hoff, decide_eq_true hlate]
      rfl
    · exact fecEvt_sends (s := w.setFec n _) hrw hn (by decide) hond
    · rw [hfecOf, if_pos hlate]
    · rw [hfecOf]
      exact hlive
    · rw [hfecOf]
      exact hbuf
    · exact hkeptm.trans hmemw
  · have hcond : ¬ (fail && decide (15 ≤ (s.fecOf n).innerLast.count true)) = true := by simpa using hlate
    rw [if_neg hcond]
    have hfecOf : (t.setFec n { y with innerLast := (fail :: (s.fecOf n).innerLast).take 63 }).fecOf n =
        { y with innerLast := (fail :: (s.fecOf n).innerLast).take 63 } := fecOf_setFec hfec2
    refine ⟨?_, fun h => absurd h hlate, ?_, ?_, ?_, ?_⟩
    · rw [decide_eq_false hlate, State.on, show State.rd (t.setFec n _) _ _ = _ from hrd _ _]
      exact hlock
    · rw [hfecOf, if_neg hlate]
    · rw [hfecOf]
      exact hlive
    · rw [hfecOf]
      exact hbuf
    · exact hmem

end Sys2Proof.Machine
end

section

/-! Counts, snapshots and forensic records of FEC (R233, R234, R237, R246). -/

namespace Sys2Proof.Machine

/-! ### Counts -/

theorem not_raiseAt_fecEvt (n id : Nat) : ¬ RaiseAt id (laneB n + R.FEC_EVT_UNCORR.off) ∨ id ≠ evLane n 8 := by
  by_cases h : id = evLane n 8
  · refine .inl ?_
    subst h
    unfold RaiseAt evLane laneB
    simp only [objKey, R.FEC_EVT_UNCORR]
    rintro (h | h | h | h | h | ⟨i, hi, o, ho, h⟩) <;> omega
  · exact .inr h

/-- A lane's share of a decoded codeword. -/
theorem fecCount_spec (n : Nat) (unc : Bool) (w wl bits : Nat) {s : State} (hinv : Inv s) :
    let v := (s.fecOf n).live
    let u := fecCount n unc w wl bits s
    (unc = true → (u.fecOf n).live = { v with cw := satAdd 48 v.cw 1, uncorr := satAdd 32 v.uncorr 1, hist := histAdd v.hist 16 } ∧
      u.rd (laneB n) R.FEC_EVT_UNCORR = 1) ∧
    (unc = false → u = s.setFec n { s.fecOf n with live := { v with
      cw := satAdd 48 v.cw 1, sym := satAdd 32 v.sym wl, bit := satAdd 32 v.bit bits,
      hist := let k := if (s.fecOf n).histSrc then w else wl; if k ≤ 15 then histAdd v.hist k else v.hist } }) ∧
    (u.fecOf n).histSrc = (s.fecOf n).histSrc ∧ u.mem = s.mem := by
  have hfec : Rising 0 s.fec := hinv.maps_rising.fec
  unfold fecCount
  dsimp only
  cases unc with
  | false =>
    rw [if_neg Bool.false_ne_true]
    refine ⟨fun h => absurd h Bool.false_ne_true, fun _ => rfl, ?_, rfl⟩
    rw [fecOf_setFec hfec]
  | true =>
    rw [if_pos rfl]
    generalize hx : ({ s.fecOf n with live := { (s.fecOf n).live with
      cw := satAdd 48 (s.fecOf n).live.cw 1, uncorr := satAdd 32 (s.fecOf n).live.uncorr 1,
      hist := histAdd (s.fecOf n).live.hist 16 } } : FecSt) = x
    obtain ⟨hkept, hmem⟩ := fecEvt_fec n R.FEC_EVT_UNCORR (s.setFec n x)
    have hget : (fecEvt n R.FEC_EVT_UNCORR (s.setFec n x)).fecOf n = x := by
      rw [State.fecOf, hkept]
      exact fecOf_setFec hfec
    refine ⟨fun _ => ⟨?_, ?_⟩, fun h => absurd h (by decide), ?_, hmem⟩
    · rw [hget, ← hx]
    · have hrw : Rising 0 ((s.setFec n x).wr (laneB n) R.FEC_EVT_UNCORR 1).regs := State.wr_rising _ _ _ _ hinv.regs_rising
      have hout := (State.raise_at ((s.setFec n x).wr (laneB n) R.FEC_EVT_UNCORR 1) (evLane n 8) hrw).2 _
        ((not_raiseAt_fecEvt n (evLane n 8)).resolve_right (not_not_intro rfl))
      rw [fecEvt, State.rd, hout]
      exact State.rd_wr_same (s.setFec n x) _ _ _ hinv.regs_rising (by decide)
    · rw [hget, ← hx]

/-! ### Snapshots -/

theorem State.wr_shift (s : State) (b k : Nat) (f : Fld) (v : Nat) : s.wr (b + k) f v = s.wr b { f with off := k + f.off } v := by
  unfold State.wr
  rw [Nat.add_assoc]

theorem wrs_append (b : Nat) (l k : List (Fld × Nat)) (s : State) : s.wrs b (l ++ k) = (s.wrs b l).wrs b k := List.foldl_append

/-- Bin i of the histogram. -/
def histFld (i : Nat) : Fld := { R.FEC_HIST_COUNT with off := 4 * i + R.FEC_HIST_COUNT.off }

/-- The fields that a snapshot shows. -/
def snapFields (v : FecLive) : List (Fld × Nat) :=
  [(R.FEC_CW_LO_CW, v.cw), (R.FEC_CW_HI_CW, v.cw / 2 ^ 32), (R.FEC_SYM_SYM, v.sym), (R.FEC_BIT_BIT, v.bit), (R.FEC_UNCORR_UNCORR, v.uncorr),
    (R.FEC_INNER_INNER_DET, v.innerDet), (R.FEC_INNER_INNER_COR, v.innerCor)] ++
  (List.range 17).map fun i => (histFld i, v.hist.getD i 0)

/-- Fields written once, each apart from those written later, show what they were given. -/
theorem State.rd_wrs_mem {b : Nat} {l : List (Fld × Nat)} {x : Fld × Nat} {s : State} (hr : Rising 0 s.regs)
    (hl : (l.map Prod.fst).Pairwise (fun f g => apart g f = true)) (hx : x ∈ l) (hlt : x.1.hi < 32) :
    (s.wrs b l).rd b x.1 = x.2 % 2 ^ (x.1.hi + 1 - x.1.lo) := by
  induction l generalizing s with
  | nil => cases hx
  | cons y l ih =>
    obtain ⟨hy, hl⟩ := List.pairwise_cons.mp hl
    have hry : Rising 0 (s.wr b y.1 y.2).regs := State.wr_rising _ _ _ _ hr
    rcases List.mem_cons.mp hx with rfl | hmem
    · have hkept (k : List (Fld × Nat)) (hk : ∀ z ∈ k, apart z.1 x.1 = true) (t : State) (ht : Rising 0 t.regs) :
          (t.wrs b k).rd b x.1 = t.rd b x.1 := by
        induction k generalizing t with
        | nil => rfl
        | cons z k ihk =>
          refine (ihk (fun z' hz' => hk z' (by simp [hz'])) _ (State.wr_rising _ _ _ _ ht)).trans ?_
          exact State.rd_wr_apart ht (hk z (by simp))
      refine (hkept l (fun z hz => hy _ (List.mem_map_of_mem hz)) _ hry).trans ?_
      exact State.rd_wr_same _ _ _ _ hr hlt
    · exact ih hry hl hmem

theorem snapFields_apart (v : FecLive) : ((snapFields v).map Prod.fst).Pairwise (fun f g => apart g f = true) := by
  have hflds : (snapFields v).map Prod.fst = [R.FEC_CW_LO_CW, R.FEC_CW_HI_CW, R.FEC_SYM_SYM, R.FEC_BIT_BIT, R.FEC_UNCORR_UNCORR,
      R.FEC_INNER_INNER_DET, R.FEC_INNER_INNER_COR] ++ (List.range 17).map histFld := by
    rw [snapFields, List.map_append, List.map_map]
    rfl
  rw [hflds]
  decide +kernel

theorem snapFields_off {v : FecLive} {x : Fld × Nat} (hx : x ∈ snapFields v) : 0x4008 ≤ x.1.off := by
  rcases List.mem_append.mp hx with h | h
  · have hall : ∀ f ∈ [R.FEC_CW_LO_CW, R.FEC_CW_HI_CW, R.FEC_SYM_SYM, R.FEC_BIT_BIT, R.FEC_UNCORR_UNCORR, R.FEC_INNER_INNER_DET,
      R.FEC_INNER_INNER_COR], 0x4008 ≤ f.off := by decide
    exact hall _ (List.mem_map_of_mem (f := Prod.fst) h)
  · obtain ⟨i, -, rfl⟩ := List.mem_map.mp h
    show 0x4008 ≤ 4 * i + 0x4020
    omega

/-- The counts start anew once they are shown. -/
def snapTaken (n : Nat) (x : FecSt) (t : State) : State :=
  ((t.setFec n { x with live := .zero, histSrc := t.on (laneB n) R.FEC_CTRL_HIST_SRC }).wr (laneB n) R.FEC_STATUS_SNAP_BUSY 0).cntW
    (laneB n) R.FEC_STATUS_SNAP_SEQ 1

theorem fecSnapTake_eq {n : Nat} {s : State} (h : s.on (laneB n) R.FEC_STATUS_SNAP_BUSY = true) :
    fecSnapTake n s = snapTaken n (s.fecOf n) (s.wrs (laneB n) (snapFields (s.fecOf n).live)) := by
  have hfold (t : State) : (List.range 17).foldl (fun t i => t.wr (laneB n + 4 * i) R.FEC_HIST_COUNT ((s.fecOf n).live.hist.getD i 0)) t =
      t.wrs (laneB n) ((List.range 17).map fun i => (histFld i, (s.fecOf n).live.hist.getD i 0)) := by
    rw [State.wrs, List.foldl_map]
    simp only [State.wr_shift, histFld]
  unfold fecSnapTake
  dsimp only
  rw [h, hfold, Bool.not_true, if_neg Bool.false_ne_true, snapFields, wrs_append]
  generalize (List.range 17).map _ = l
  rfl

theorem State.rd_shift (s : State) (b k : Nat) (f : Fld) : s.rd (b + k) f = s.rd b { f with off := k + f.off } := by
  unfold State.rd
  rw [Nat.add_assoc]

/-- The registers that show a snapshot are written, and nothing else. -/
structure SnapShown (n : Nat) (l : List (Fld × Nat)) (s t : State) : Prop where
  rising : Rising 0 t.regs
  src : t.rd (laneB n) R.FEC_CTRL_HIST_SRC = s.rd (laneB n) R.FEC_CTRL_HIST_SRC
  seq : t.rd (laneB n) R.FEC_STATUS_SNAP_SEQ = s.rd (laneB n) R.FEC_STATUS_SNAP_SEQ
  shown : ∀ g v, (g, v) ∈ l → g.hi < 32 → ∀ w, g.hi + 1 - g.lo = w → t.rd (laneB n) g = v % 2 ^ w
  fec : t.fec = s.fec
  mem : t.mem = s.mem

theorem snapShown {n : Nat} {l : List (Fld × Nat)} {s : State} (hr : Rising 0 s.regs)
    (hl : (l.map Prod.fst).Pairwise (fun f g => apart g f = true)) (hoff : ∀ x ∈ l, 0x4008 ≤ x.1.off) :
    SnapShown n l s (s.wrs (laneB n) l) := by
  obtain ⟨m, hframe⟩ := State.wrs_frame (laneB n) l s
  have hbeside (g : Fld) (hg : g.off < 0x4008) : (s.wrs (laneB n) l).rd (laneB n) g = s.rd (laneB n) g := by
    rw [State.rd, State.rd, State.getReg_wrs hr]
    intro x hx
    have := hoff x hx
    omega
  refine ⟨State.wrs_rising _ hr, hbeside _ (by decide), hbeside _ (by decide), ?_, ?_, ?_⟩
  · rintro g v hx hlt w rfl
    exact State.rd_wrs_mem hr hl hx hlt
  · rw [hframe]
  · rw [hframe]

theorem snapTaken_spec {n : Nat} {x : FecSt} {v : FecLive} {s t : State} (hshow : SnapShown n (snapFields v) s t)
    (hfec : Rising 0 s.fec) :
    let b := laneB n
    let u := snapTaken n x t
    u.rd b R.FEC_CW_LO_CW = v.cw % 2 ^ 32 ∧ u.rd b R.FEC_CW_HI_CW = v.cw / 2 ^ 32 % 2 ^ 16 ∧ u.rd b R.FEC_SYM_SYM = v.sym % 2 ^ 32 ∧
    u.rd b R.FEC_BIT_BIT = v.bit % 2 ^ 32 ∧ u.rd b R.FEC_UNCORR_UNCORR = v.uncorr % 2 ^ 32 ∧
    (∀ i : Fin 17, u.rd (b + 4 * i.val) R.FEC_HIST_COUNT = v.hist.getD i.val 0 % 2 ^ 32) ∧
    u.fecOf n = { x with live := .zero, histSrc := s.on b R.FEC_CTRL_HIST_SRC } ∧
    u.rd b R.FEC_STATUS_SNAP_BUSY = 0 ∧ u.rd b R.FEC_STATUS_SNAP_SEQ = (s.rd b R.FEC_STATUS_SNAP_SEQ + 1) % 256 ∧ u.mem = s.mem := by
  obtain ⟨hrt, hsrc, hseq, hshown, hkept, hmem⟩ := hshow
  have hon : t.on (laneB n) R.FEC_CTRL_HIST_SRC = s.on (laneB n) R.FEC_CTRL_HIST_SRC := by rw [State.on, hsrc, ← State.on]
  unfold snapTaken
  rw [hon]
  generalize hy : ({ x with live := .zero, histSrc := s.on (laneB n) R.FEC_CTRL_HIST_SRC } : FecSt) = y
  have hrx : Rising 0 (t.setFec n y).regs := hrt
  have hget : (t.setFec n y).fecOf n = y := look_put_same _ _ (hkept ▸ hfec)
  have hsame : (t.setFec n y).mem = s.mem ∧ ∀ g, (t.setFec n y).rd (laneB n) g = t.rd (laneB n) g := ⟨hmem, fun _ => rfl⟩
  generalize t.setFec n y = z at hrx hget hsame
  obtain ⟨hzmem, hzrd⟩ := hsame
  have hrb : Rising 0 (z.wr (laneB n) R.FEC_STATUS_SNAP_BUSY 0).regs := State.wr_rising _ _ _ _ hrx
  have hsame {g : Fld} (hg : apart R.FEC_STATUS_SNAP_BUSY g = true) (hg' : apart R.FEC_STATUS_SNAP_SEQ g = true) :
      ((z.wr (laneB n) R.FEC_STATUS_SNAP_BUSY 0).cntW (laneB n) R.FEC_STATUS_SNAP_SEQ 1).rd (laneB n) g = t.rd (laneB n) g :=
    (State.rd_wr_apart hrb hg').trans ((State.rd_wr_apart hrx hg).trans (hzrd g))
  refine ⟨?_, ?_, ?_, ?_, ?_, fun i => ?_, ?_, ?_, ?_, ?_⟩
  · exact (hsame rfl rfl).trans (hshown R.FEC_CW_LO_CW _ (by simp [snapFields]) (by decide) _ rfl)
  · exact (hsame rfl rfl).trans (hshown R.FEC_CW_HI_CW _ (by simp [snapFields]) (by decide) _ rfl)
  · exact (hsame rfl rfl).trans (hshown R.FEC_SYM_SYM _ (by simp [snapFields]) (by decide) _ rfl)
  · exact (hsame rfl rfl).trans (hshown R.FEC_BIT_BIT _ (by simp [snapFields]) (by decide) _ rfl)
  · exact (hsame rfl rfl).trans (hshown R.FEC_UNCORR_UNCORR _ (by simp [snapFields]) (by decide) _ rfl)
  · have hbin : (histFld i.val, v.hist.getD i.val 0) ∈ snapFields v :=
      List.mem_append_right _ (List.mem_map_of_mem (List.mem_range.mpr i.isLt))
    have hoff : (histFld i.val).off ≠ 0x4004 := by
      show 4 * i.val + 0x4020 ≠ 0x4004
      omega
    have hbeside : apart R.FEC_STATUS_SNAP_BUSY (histFld i.val) = true ∧ apart R.FEC_STATUS_SNAP_SEQ (histFld i.val) = true := by
      simp only [apart, Bool.or_eq_true, bne_iff_ne]
      exact ⟨.inl (.inl hoff.symm), .inl (.inl hoff.symm)⟩
    rw [State.rd_shift]
    exact (hsame hbeside.1 hbeside.2).trans (hshown _ _ hbin (show (31 : Nat) < 32 by decide) _ rfl)
  · rw [State.fecOf, State.cntW, State.wr_fec, State.wr_fec]
    exact hget.trans hy.symm
  · exact (State.rd_wr_apart hrb rfl).trans (State.rd_wr_same _ _ _ _ hrx (by decide))
  · refine (State.rd_wr_same _ _ _ _ hrb (by decide)).trans ?_
    rw [State.rd_wr_apart hrx (by decide), hzrd, hseq,
      show 2 ^ (R.FEC_STATUS_SNAP_SEQ.hi + 1 - R.FEC_STATUS_SNAP_SEQ.lo) = 256 from rfl]
  · rw [State.cntW, State.wr_mem, State.wr_mem]
    exact hzmem

/-- A snapshot that is taken. -/
theorem fecSnapTake_spec {n : Nat} {s : State} (hinv : Inv s) (h : s.on (laneB n) R.FEC_STATUS_SNAP_BUSY = true) :
    let b := laneB n
    let v := (s.fecOf n).live
    let u := fecSnapTake n s
    u.rd b R.FEC_CW_LO_CW = v.cw % 2 ^ 32 ∧ u.rd b R.FEC_CW_HI_CW = v.cw / 2 ^ 32 % 2 ^ 16 ∧ u.rd b R.FEC_SYM_SYM = v.sym % 2 ^ 32 ∧
    u.rd b R.FEC_BIT_BIT = v.bit % 2 ^ 32 ∧ u.rd b R.FEC_UNCORR_UNCORR = v.uncorr % 2 ^ 32 ∧
    (∀ i : Fin 17, u.rd (b + 4 * i.val) R.FEC_HIST_COUNT = v.hist.getD i.val 0 % 2 ^ 32) ∧
    u.fecOf n = { s.fecOf n with live := .zero, histSrc := s.on b R.FEC_CTRL_HIST_SRC } ∧
    u.rd b R.FEC_STATUS_SNAP_BUSY = 0 ∧ u.rd b R.FEC_STATUS_SNAP_SEQ = (s.rd b R.FEC_STATUS_SNAP_SEQ + 1) % 256 ∧ u.mem = s.mem := by
  rw [fecSnapTake_eq h]
  exact snapTaken_spec (snapShown hinv.regs_rising (snapFields_apart _) fun _ => snapFields_off) hinv.maps_rising.fec

/-! ### Forensic records -/

theorem forDone_eq {e : Nat} {s : State} {r : ForRec} (h : s.forRecs.find? (fun x => x.eng == e) = some r) :
    forDone e s =
      (let t := { s with forRecs := s.forRecs.erase r }
      if r.left = 0 then (t.cnt (feB e) R.FE_FOR_STAT_RECORDS 1).raise (0x332 + 24 * e)
      else if plotState r.plot s = 2 then s else t) := by
  have hid : evFe e 2 = 0x332 + 24 * e := by unfold evFe; omega
  unfold forDone
  rw [h]
  simp only [beq_iff_eq, hid]

/-- INJECT.INJ_DROP is armed. -/
def forDropArmed (e : Nat) (s : State) : State := { s with injForDrop := put 0 s.injForDrop e 1 }

theorem forInjDrop_write {m : Master} {e : Eng} {w : Word} {s : State}
    (h : Served m true (0x0020090C + 0x40000 * e.val) (fset w 0 0 1) s) :
    exec (.forInjDrop m e w) s =
      .next (closed s.pending (wrote m (0x0020090C + 0x40000 * e.val) (fset w 0 0 1) (forDropArmed e.val) s)) := by
  have hhook (old v : Word) (t : State) : regHook m (.fe e.val) 0x90C old v t = if hot v 0 then forDropArmed e.val t else t := rfl
  refine exec_closed (f := writeCmd m (feB e.val + 0x90C) (fset w 0 0 1)) rfl ?_
  exact fe_hook (by decide +kernel) (by unfold feB; omega) h fun old t => by rw [hhook, if_pos (hot_zero w)]

theorem fecSnap_write {m : Master} {n : Lane} {w : Word} {s : State}
    (h : Served m true (0x01004000 + 0x10000 * n.val) (fset w 31 31 1) s) :
    exec (.fecSnap m n w) s =
      .next (closed s.pending (wrote m (0x01004000 + 0x10000 * n.val) (fset w 31 31 1) (fecSnap n.val) s)) := by
  have hhook (old v : Word) (t : State) : regHook m (.lane n.val) 0x4000 old v t = if hot v 31 then fecSnap n.val t else t := rfl
  have hhot : hot (fset w 31 31 1) 31 = true := by simp [hot, fset_getLsbD]
  refine exec_closed (f := writeCmd m (laneB n.val + 0x4000) (fset w 31 31 1)) rfl ?_
  exact lane_hook (by decide +kernel) (by unfold laneB; omega) h rfl rfl fun old t => by rw [hhook, if_pos hhot]

end Sys2Proof.Machine
end

section

/-! Decoded codewords of a one-lane group (R232 to R235), and O30. -/

namespace Sys2Proof.Machine

/-! ### What capture and forensics leave -/

/-- What the decoder and the streams hold stays, and what was raised still waits. -/
structure CaptureKept (s t : State) : Prop where
  fec : t.fec = s.fec
  streams : t.streams = s.streams
  mem : t.mem = s.mem
  sent : ∀ id, Sends id s → Sends id t

section
variable {s t u : State}

theorem CaptureKept.refl (s : State) : CaptureKept s s := ⟨rfl, rfl, rfl, fun _ => id⟩

theorem CaptureKept.trans (h : CaptureKept s t) (h' : CaptureKept t u) : CaptureKept s u :=
  ⟨h'.fec.trans h.fec, h'.streams.trans h.streams, h'.mem.trans h.mem, fun id hs => h'.sent id (h.sent id hs)⟩

theorem CaptureKept.of_wr (s : State) (b : Nat) (f : Fld) (v : Nat) : CaptureKept s (s.wr b f v) := ⟨rfl, rfl, rfl, fun _ => id⟩

theorem CaptureKept.of_setPlot (s : State) (p : Nat) (x : PlotSt) : CaptureKept s (s.setPlot p x) := ⟨rfl, rfl, rfl, fun _ => id⟩

theorem CaptureKept.of_raise (s : State) (id : Nat) : CaptureKept s (s.raise id) := by
  refine ⟨?_, ?_, State.raise_mem s id, fun _ h => h.raise id⟩
  · obtain ⟨_, _, _, _, he⟩ := RaiseFrame.raise s id
    rw [he]
  · obtain ⟨_, _, _, _, he⟩ := RaiseFrame.raise s id
    rw [he]

end

theorem plotLose_kept (p src k : Nat) (s : State) : CaptureKept s (plotLose p src k s) := by
  unfold plotLose
  split
  · exact CaptureKept.refl s
  · exact ((CaptureKept.of_setPlot s p _).trans (CaptureKept.of_wr _ _ _ _)).trans (CaptureKept.of_raise _ _)

theorem recordAdd_kept (p : Nat) (bytes : List Byte) (t tq seq : Nat) (s : State) : CaptureKept s (recordAdd p bytes t tq seq s) := by
  unfold recordAdd
  dsimp only
  split
  · exact (CaptureKept.of_setPlot s p _).trans (plotLose_kept ..)
  · split
    · exact plotLose_kept ..
    · exact CaptureKept.of_setPlot s p _

theorem forDrop_kept (e cause : Nat) (s : State) : CaptureKept s (forDrop e cause s) :=
  ((CaptureKept.of_wr s _ _ _).trans (CaptureKept.of_wr _ _ _ _)).trans (CaptureKept.of_raise _ _)

theorem forTrigger_kept (e lane g cause link : Nat) (cw : RsCw) (s : State) : CaptureKept s (forTrigger e lane g cause link cw s) := by
  have hdrop (k : Nat) : CaptureKept s (forDrop e k s) := forDrop_kept ..
  have htaken : CaptureKept s { s with injForDrop := eraseKey s.injForDrop e } := ⟨rfl, rfl, rfl, fun _ => id⟩
  unfold forTrigger
  dsimp only
  split
  · exact htaken.trans (forDrop_kept ..)
  · split
    · exact hdrop _
    · split
      · exact hdrop _
      · split
        · exact hdrop _
        · split
          · exact recordAdd_kept ..
          · exact (recordAdd_kept ..).trans ⟨rfl, rfl, rfl, fun _ => id⟩

/-- A stream's codeword is taken into it. -/
def streamTaken (lane : Nat) (cw : RsCw) (st : StreamSt) (s : State) : State :=
  { s with streams := put StreamSt.idle s.streams lane ⟨(st.count + 1) % 2 ^ 32, (st.last ++ [cw]).drop ((st.last.length + 1) - 7)⟩ }

theorem cwCapture_grouped {lane g : Nat} {inj : Bool} {cw : RsCw} {s : State} (hg : laneGrp lane s = some g) :
    ∃ t, CaptureKept s t ∧ cwCapture lane inj cw s = streamTaken lane cw (look StreamSt.idle s.streams lane) t := by
  unfold cwCapture
  rw [hg]
  dsimp only
  have hfold (f : State → Nat → State) (hf : ∀ t p, CaptureKept t (f t p)) (l : List Nat) (t : State) : CaptureKept t (l.foldl f t) := by
    induction l generalizing t with
    | nil => exact CaptureKept.refl t
    | cons p l ih => exact (hf t p).trans (ih _)
  generalize hcap : (List.range 256).foldl _ s = c
  have hc : CaptureKept s c := by
    rw [← hcap]
    refine hfold _ (fun t p => ?_) _ s
    split
    · split
      · exact recordAdd_kept ..
      · split
        · exact plotLose_kept ..
        · exact CaptureKept.refl t
    · exact CaptureKept.refl t
  refine ⟨_, ?_, rfl⟩
  split
  · exact hc.trans (forTrigger_kept ..)
  · exact hc

/-! ### One lane's codeword -/

theorem symLane_one {link : Nat} (c k : Nat) : symLane false link 1 c k = 0 := by
  unfold symLane linkShape
  rw [if_neg Bool.false_ne_true]
  dsimp only
  rw [if_neg Bool.false_ne_true]
  split <;>
  · simp only [Nat.reduceDiv]
    omega

/-- The injection that a decoded codeword takes. -/
def uncorrTaken (n : Nat) (s : State) : State :=
  if (s.fecOf n).injUncorr then s.setFec n { s.fecOf n with injUncorr := false } else s

theorem rsDecoded_single {n g : Nat} {cw : RsWord} {s : State} (hg : laneGrp n s = some g) (hls : grpLanes (n / 16) g s = [n])
    (hlink : blockLink n g s = false) (hst : s.rd (grpB (n / 16) g) R.FE_GRP_STAT_STATE = 2) (hup : s.feUp (n / 16) = true)
    (hmode : s.rxMode n ≠ 0) :
    let r := rsDecode (s.on (laneB n) R.FEC_CTRL_RS_ERASE) [] (cw.syms.map BitVec.toNat)
    let unc := r.isNone || (s.fecOf n).injUncorr
    let fix := r.getD []
    ∃ syms rec_, rsDecoded n cw s = cwCapture n (s.fecOf n).injUncorr rec_ (pcsTake n g unc syms
      (fecCount n unc fix.length fix.length ((fix.map (fun p => ones 10 p.2)).sum) (uncorrTaken n s))) := by
  have hmode' : (s.rxMode n == 0) = false := beq_eq_false_iff_ne.mpr hmode
  have htop : streamLane n g (s.rxMode n) s = n := by
    rw [streamLane, hmode', hls]
    rfl
  have hlanes : streamLanes n g (s.rxMode n) s = [n] := by
    rw [streamLanes, hmode', hls]
    rfl
  have hopen : (blockLink n g s || s.rd (grpB (n / 16) g) R.FE_GRP_STAT_STATE != 2 || !s.feUp (n / 16)) = false := by
    rw [hlink, hst, hup]
    rfl
  have hmine (link : Nat) (fix : List (Nat × Nat)) :
      fix.filter (fun p => symLane false link [n].length cw.c p.1 == 0) = fix := by
    rw [List.filter_eq_self]
    intro p _
    rw [List.length_singleton, symLane_one]
    rfl
  have hany (link : Nat) : (List.range 544).any (fun k => symLane false link [n].length cw.c k == 0) = true := by
    rw [List.any_eq_true]
    exact ⟨0, by simp, by rw [List.length_singleton, symLane_one]; rfl⟩
  unfold rsDecoded
  rw [hg]
  dsimp only
  rw [hmode']
  simp only [Bool.false_eq_true, if_false, hopen, htop, hlanes, List.zipIdx_cons, List.zipIdx_nil, List.foldl_cons, List.foldl_nil,
    hmine, hany, if_true, List.any_cons, List.any_nil, Bool.or_false]
  exact ⟨_, _, rfl⟩

theorem uncorrTaken_spec {n : Nat} {s : State} (hfec : Rising 0 s.fec) :
    (uncorrTaken n s).fecOf n = { s.fecOf n with injUncorr := false } ∧ Rising 0 (uncorrTaken n s).fec ∧
    (uncorrTaken n s).regs = s.regs ∧ (uncorrTaken n s).streams = s.streams ∧ (uncorrTaken n s).mem = s.mem := by
  unfold uncorrTaken
  split
  · exact ⟨fecOf_setFec hfec, setFec_rising hfec, rfl, rfl, rfl⟩
  · next h =>
    refine ⟨?_, hfec, rfl, rfl, rfl⟩
    rw [← Bool.eq_false_iff.mpr h]

/-- A count, seen from outside the registers: what the decoder keeps, and where it raised. -/
structure FecCounted (n : Nat) (unc : Bool) (x : FecSt) (s t : State) : Prop where
  held : t.fecOf n = x
  fec : Rising 0 t.fec
  engines : ∀ k, 0x00200000 ≤ k → k < 0x00300000 → t.getReg k = s.getReg k
  streams : t.streams = s.streams
  mem : t.mem = s.mem
  sent : unc = true → s.domOn n = true → Sends (12 * n + 8) t

/-- What a lane's share leaves of its counts. -/
def fecShare (unc : Bool) (w wl bits : Nat) (x : FecSt) : FecSt :=
  { x with live :=
    if unc then { x.live with cw := satAdd 48 x.live.cw 1, uncorr := satAdd 32 x.live.uncorr 1, hist := histAdd x.live.hist 16 }
    else { x.live with
      cw := satAdd 48 x.live.cw 1, sym := satAdd 32 x.live.sym wl, bit := satAdd 32 x.live.bit bits,
      hist := let k := if x.histSrc then w else wl; if k ≤ 15 then histAdd x.live.hist k else x.live.hist } }

theorem fecCount_cases (n : Nat) (unc : Bool) (w wl bits : Nat) (s : State) :
    fecCount n unc w wl bits s = if unc then fecEvt n R.FEC_EVT_UNCORR (s.setFec n (fecShare unc w wl bits (s.fecOf n)))
      else s.setFec n (fecShare unc w wl bits (s.fecOf n)) := by
  cases unc <;> rfl

theorem fecCount_counted {n : Nat} (unc : Bool) (w wl bits : Nat) {s : State} (hn : n < 64) (hr : Rising 0 s.regs) (hfec : Rising 0 s.fec) :
    FecCounted n unc (fecShare unc w wl bits (s.fecOf n)) s (fecCount n unc w wl bits s) := by
  rw [fecCount_cases]
  generalize fecShare unc w wl bits (s.fecOf n) = x
  have hget := fecOf_setFec (n := n) (x := x) hfec
  have hrise := setFec_rising (n := n) (x := x) hfec
  cases unc with
  | false => exact ⟨hget, hrise, fun _ _ _ => rfl, rfl, rfl, fun h => absurd h Bool.false_ne_true⟩
  | true =>
    rw [if_pos rfl]
    obtain ⟨hkept, hmem⟩ := fecEvt_fec n R.FEC_EVT_UNCORR (s.setFec n x)
    have hstep : Touches (fun k => 0x01000000 ≤ k ∨ RaiseKey k) (s.setFec n x) (fecEvt n R.FEC_EVT_UNCORR (s.setFec n x)) :=
      ((Touches.refl _ _).wr 1 (.inl (by unfold laneB; omega))).raise (evLane_lt hn (by decide)) fun _ => .inr
    refine ⟨by rw [State.fecOf, hkept]; exact hget, by rw [hkept]; exact hrise, fun k hlo hhi => ?_, ?_, hmem, fun _ hon => ?_⟩
    · refine (hstep hr).2 k ?_
      unfold RaiseKey FltKey EvtKey objKey
      omega
    · obtain ⟨_, _, _, _, he⟩ := RaiseFrame.raise ((s.setFec n x).wr (laneB n) R.FEC_EVT_UNCORR 1) (evLane n 8)
      rw [fecEvt, he]
      rfl
    · exact fecEvt_sends (s := s.setFec n x) hr hn (by decide) hon

theorem laneGrp_congr {n : Nat} {s t : State} (hn : n < 64) (h : ∀ k, 0x00200000 ≤ k → k < 0x00300000 → t.getReg k = s.getReg k) :
    laneGrp n t = laneGrp n s := by
  have hrd (g : Nat) (hg : g < 16) (f : Fld) (hf : f.off < 0x1000) : t.rd (grpB (n / 16) g) f = s.rd (grpB (n / 16) g) f := by
    rw [State.rd, State.rd, h _ (by unfold grpB feB; omega) (by unfold grpB feB; omega)]
  unfold laneGrp
  refine List.find?_congr fun g hg => ?_
  have hlt := List.mem_range.mp hg
  rw [State.on, State.on, grpLanes, grpLanes, hrd g hlt _ (by decide), hrd g hlt _ (by decide), hrd g hlt _ (by decide)]

/-- A message handed on counts its codeword, and leaves the counts and the rest of the state. -/
theorem pcsTake_kept (n g : Nat) (unc : Bool) (syms : List Nat) {s : State} (hfec : Rising 0 s.fec) :
    (pcsTake n g unc syms s).fecOf n = { s.fecOf n with rxCwN := (s.fecOf n).rxCwN + 1 } ∧
    (pcsTake n g unc syms s).regs = s.regs ∧ (pcsTake n g unc syms s).streams = s.streams ∧ (pcsTake n g unc syms s).mem = s.mem ∧
    ∀ id, Sends id s → Sends id (pcsTake n g unc syms s) :=
  ⟨fecOf_setFec hfec, rfl, rfl, rfl, fun _ => id⟩

/-- A codeword of a one-lane group. -/
theorem rsDecoded_spec {n g : Nat} {cw : RsWord} {s : State} (hn : n < 64) (hg : laneGrp n s = some g) (hls : grpLanes (n / 16) g s = [n])
    (hlink : blockLink n g s = false) (hst : s.rd (grpB (n / 16) g) R.FE_GRP_STAT_STATE = 2) (hup : s.feUp (n / 16) = true)
    (hmode : s.rxMode n ≠ 0) (hinv : Inv s) (hon : s.domOn n = true) :
    let r := rsDecode (s.on (laneB n) R.FEC_CTRL_RS_ERASE) [] (cw.syms.map BitVec.toNat)
    let unc := r.isNone || (s.fecOf n).injUncorr
    let fix := r.getD []
    let u := rsDecoded n cw s
    (u.fecOf n).live = (fecShare unc fix.length fix.length ((fix.map (fun p => ones 10 p.2)).sum) (s.fecOf n)).live ∧
    (u.fecOf n).injUncorr = false ∧ (unc = true → Sends (12 * n + 8) u) ∧
    (look StreamSt.idle u.streams n).count = ((look StreamSt.idle s.streams n).count + 1) % 2 ^ 32 ∧ u.mem = s.mem := by
  obtain ⟨syms, rec_, hu⟩ := rsDecoded_single (cw := cw) hg hls hlink hst hup hmode
  dsimp only at hu ⊢
  rw [hu]
  generalize rsDecode (s.on (laneB n) R.FEC_CTRL_RS_ERASE) [] (cw.syms.map BitVec.toNat) = r
  generalize hunc : (r.isNone || (s.fecOf n).injUncorr) = unc
  generalize (r.getD []).length = w
  generalize ((r.getD []).map (fun p => ones 10 p.2)).sum = bits
  have hr := hinv.regs_rising
  have hfec : Rising 0 s.fec := hinv.maps_rising.fec
  obtain ⟨hheld, hrise, hregs, hstreams, hmem⟩ := uncorrTaken_spec (n := n) hfec
  generalize uncorrTaken n s = t at hheld hrise hregs hstreams hmem
  have hcount := fecCount_counted unc w w bits (s := t) hn (hregs ▸ hr) hrise
  generalize fecCount n unc w w bits t = c at hcount
  obtain ⟨hcheld, hcfec, hceng, hcstr, hcmem, hcsent⟩ := hcount
  obtain ⟨hpfec, hpregs, hpstr, hpmem, hpsent⟩ := pcsTake_kept n g unc syms hcfec
  generalize pcsTake n g unc syms c = p at hpfec hpregs hpstr hpmem hpsent
  have htregs (k : Nat) : t.getReg k = s.getReg k := by rw [State.getReg, State.getReg, hregs]
  have hgp : laneGrp n p = some g := by
    rw [← hg]
    refine laneGrp_congr hn fun k hlo hhi => ?_
    rw [State.getReg, hpregs, ← State.getReg, hceng k hlo hhi, htregs]
  obtain ⟨v, hkept, hcap⟩ := cwCapture_grouped (inj := (s.fecOf n).injUncorr) (cw := rec_) hgp
  rw [hcap]
  have hfinal : (streamTaken n rec_ (look StreamSt.idle p.streams n) v).fecOf n =
      { fecShare unc w w bits (t.fecOf n) with rxCwN := (fecShare unc w w bits (t.fecOf n)).rxCwN + 1 } := by
    rw [← hcheld, ← hpfec, State.fecOf, State.fecOf, ← hkept.fec]
    rfl
  refine ⟨?_, ?_, fun h => ?_, ?_, ?_⟩
  · rw [hfinal, hheld]
    rfl
  · rw [hfinal, hheld]
    rfl
  · have hont : t.domOn n = true := by
      rw [State.domOn, State.rd, htregs, ← State.rd, ← State.domOn]
      exact hon
    exact hkept.sent _ (hpsent _ (hcsent h hont))
  · have hv : Rising 0 v.streams := by
      rw [hkept.streams, hpstr, hcstr, hstreams]
      exact hinv.maps_rising.streams
    have hget : look StreamSt.idle (streamTaken n rec_ (look StreamSt.idle p.streams n) v).streams n = _ := look_put_same _ _ hv
    rw [hget, hpstr, hcstr, hstreams]
  · exact hkept.mem.trans (hpmem.trans (hcmem.trans hmem))

/-- Settles O30. -/
theorem fecDecoding : Obligations.FecDecoding := by
  unfold Obligations.FecDecoding
  refine ⟨?_, ?_, ?_, ?_, ?_, ?_, ?_, ?_, ?_, ?_⟩
  · intro n words s h
    exact exec_closed (f := innerBlock n.val words) rfl (innerBlock_idle (s := s.fresh) words h)
  · intro n words s hst hmode hgrp hup hlock
    exact exec_closed (f := innerBlock n.val words) rfl (innerBlock_search (s := s.fresh) words ⟨hst, hmode, hgrp, hup⟩ hlock)
  · intro n words s hst hmode hgrp hup hlock hinv hon hfull
    exact ⟨_, exec_closed (f := innerBlock n.val words) rfl rfl,
      innerBlock_locked (s := s.fresh) words hinv n.isLt ⟨hst, hmode, hgrp, hup⟩ hlock hon hfull⟩
  · intro n cw s g hg hls hlink hst hup hmode hinv hon
    refine ⟨_, exec_closed (f := rsDecoded n.val cw) rfl rfl, ?_⟩
    rw [(fecCount_counted _ _ _ _ n.isLt hinv.regs_rising hinv.maps_rising.fec).held]
    exact rsDecoded_spec (cw := cw) (s := s.fresh) n.isLt hg hls hlink hst hup hmode hinv hon
  · intro n cw s hg
    have hnone : rsDecoded n.val cw s.fresh = s.fresh := by
      unfold rsDecoded
      rw [show laneGrp n.val s.fresh = none from hg]
    exact exec_closed (f := rsDecoded n.val cw) rfl hnone
  · intro n unc w wl bits s hinv
    exact fecCount_spec n unc w wl bits hinv
  · intro m n w s h
    exact fecSnap_write h
  · intro n s hinv h
    exact ⟨_, exec_closed (f := fecSnapTake n.val) rfl rfl, fecSnapTake_spec (s := s.fresh) hinv h⟩
  · intro e s r h
    exact exec_closed (f := forDone e.val) rfl (forDone_eq (s := s.fresh) h)
  · intro m e w s h
    exact forInjDrop_write h

end Sys2Proof.Machine
end

section

/-! The steps of a shade rotation (R484 to R488, R503), and O57. -/

namespace Sys2Proof.Machine

/-! ### What a unit holds -/

@[simp] theorem State.wr_rotOf (s : State) (b : Nat) (f : Fld) (v u : Nat) : (s.wr b f v).rotOf u = s.rotOf u := rfl
@[simp] theorem State.setRot_rd (s : State) (u : Nat) (x : RotSt) (b : Nat) (f : Fld) : (s.setRot u x).rd b f = s.rd b f := rfl

theorem rotOf_setRot_same {s : State} (u : Nat) (x : RotSt) (h : Rising 0 s.rot) : (s.setRot u x).rotOf u = x := look_put_same _ _ h

theorem rotOf_setRot_ne {s : State} {u v : Nat} (x : RotSt) (h : Rising 0 s.rot) (hne : v ≠ u) : (s.setRot u x).rotOf v = s.rotOf v :=
  look_put_other s.rot h hne

theorem setRot_rising {s : State} (u : Nat) (x : RotSt) (h : Rising 0 s.rot) : Rising 0 (s.setRot u x).rot :=
  put_rising _ _ h (Nat.zero_le u)

theorem domOf_setDom_same {s : State} (d : Nat) (x : DomSt) (h : Rising 0 s.doms) : (s.setDom d x).domOf d = x := look_put_same _ _ h

/-- From s to t unit u takes the step st and holds x; beside STEP its registers, and the other units, stay. -/
structure RotMoved (u st : Nat) (x : RotSt) (s t : State) : Prop where
  rising : Rising 0 t.regs
  step : rotStep u t = st
  beside : ∀ g : Fld, apart R.BIST_ROT_STAT_STEP g = true → t.rd (rotB u) g = s.rd (rotB u) g
  regs : ∀ k, k ≠ rotB u + 0x10 → t.getReg k = s.getReg k
  held : t.rotOf u = x
  others : ∀ v, v ≠ u → t.rotOf v = s.rotOf v
  rot : Rising 0 t.rot
  frame : t.now = s.now ∧ t.tl = s.tl ∧ t.mem = s.mem ∧ t.raised = s.raised

theorem RotMoved.of_wr {u st : Nat} {x : RotSt} {s : State} (hst : st < 8) (hr : Rising 0 s.regs) (hrot : Rising 0 s.rot) :
    RotMoved u st x s ((s.wr (rotB u) R.BIST_ROT_STAT_STEP st).setRot u x) where
  rising := State.wr_rising _ _ _ _ hr
  step := (State.rd_wr_same _ _ _ _ hr (by decide)).trans (Nat.mod_eq_of_lt hst)
  beside _ hg := State.rd_wr_apart hr hg
  regs _ hk := State.getReg_wr_ne _ _ hr hk
  held := rotOf_setRot_same u x hrot
  others _ hv := rotOf_setRot_ne x hrot hv
  rot := setRot_rising u x hrot
  frame := ⟨rfl, rfl, rfl, rfl⟩

/-- A step taken by a unit whose sequence was set. -/
theorem rotGo_moved {u st : Nat} {y : RotSt} {s : State} (hst : st < 8) (hr : Rising 0 s.regs) (hrot : Rising 0 s.rot) :
    RotMoved u st { y with at_ := s.now } s (rotGo u st (s.setRot u y)) := by
  have hget : (s.setRot u y).rotOf u = y := rotOf_setRot_same u y hrot
  have hrot1 := setRot_rising u y hrot
  have hmoved := RotMoved.of_wr (u := u) (x := { y with at_ := s.now }) (s := s.setRot u y) hst hr hrot1
  have heq : rotGo u st (s.setRot u y) = ((s.setRot u y).wr (rotB u) R.BIST_ROT_STAT_STEP st).setRot u { y with at_ := s.now } := by
    rw [rotGo, hget]
    rfl
  rw [heq]
  exact { hmoved with others := fun v hv => (hmoved.others v hv).trans (rotOf_setRot_ne y hrot hv) }

theorem rotStep_other {u v st : Nat} {x : RotSt} {s t : State} (h : RotMoved u st x s t) (hv : v ≠ u) : rotStep v t = rotStep v s := by
  rw [rotStep, rotStep, State.rd, State.rd, h.regs]
  unfold rotB
  simp only [R.BIST_ROT_STAT_STEP]
  omega

/-- Time passes, and leaves all that the rotation reads. -/
structure TimePassed (s t : State) : Prop where
  rot : t.rot = s.rot
  doms : t.doms = s.doms
  mem : t.mem = s.mem
  raised : t.raised = s.raised
  regs : t.regs = s.regs
  sigs : t.sigs = s.sigs

theorem TimePassed.refl (s : State) : TimePassed s s := ⟨rfl, rfl, rfl, rfl, rfl, rfl⟩

theorem TimePassed.of_advance (s : State) (d : Nat) : TimePassed s (s.advance d) := by
  rw [State.advance_eq]
  exact ⟨rfl, rfl, rfl, rfl, rfl, rfl⟩

theorem TimePassed.of_advanceNow (s : State) (t : Nat) : TimePassed s (s.advanceNow t) := TimePassed.of_advance ..

theorem TimePassed.of_advanceReq (s : State) (x due : Nat) : TimePassed s (s.advanceReq x due) := by
  unfold State.advanceReq State.advanceTlv
  split_ifs
  · exact TimePassed.of_advanceNow ..
  · exact TimePassed.refl s
  · exact ⟨rfl, rfl, rfl, rfl, rfl, rfl⟩
  · exact TimePassed.of_advance ..
  · exact TimePassed.of_advanceNow ..

section
variable {s t : State} (h : TimePassed s t)
include h

theorem TimePassed.rd (b : Nat) (f : Fld) : t.rd b f = s.rd b f := by rw [State.rd, State.rd, State.getReg, State.getReg, h.regs]
theorem TimePassed.getReg (k : Nat) : t.getReg k = s.getReg k := by rw [State.getReg, State.getReg, h.regs]
theorem TimePassed.rotOf (u : Nat) : t.rotOf u = s.rotOf u := by rw [State.rotOf, State.rotOf, h.rot]
theorem TimePassed.domOn (d : Nat) : t.domOn d = s.domOn d := by rw [State.domOn, State.domOn, h.rd]

end

/-! ### The start of a step -/

theorem rotStart_idle {u : Nat} {s : State} (h : rotMay u s = false ∨ rotStep u s ≠ 0) : rotStart u s = s := by
  have hoff : ¬ (rotMay u s && rotStep u s == 0) = true := by
    rcases h with h | h <;> simp [h]
  unfold rotStart
  exact if_neg hoff

/-- The true time at which the next step of a unit starts. -/
def rotStartAt (u : Nat) (s : State) : Nat :=
  if (s.rotOf u).startAt = 0 then s.now
  else max s.now ((s.rotOf u).startAt - 1 + (16000 * max 1 (s.rd bistB R.BIST_ROT_CFG_ROT_PER) * 78125 + 1) / 2)

theorem rotStart_spec {u : Nat} {s : State} (hinv : Inv s) (hu : u < 8) (hmay : rotMay u s = true) (hstep : rotStep u s = 0) :
    let t := rotStart u s
    rotStep u t = 1 ∧ (t.domOf (84 + u)).queuedAt = t.now + 1 ∧ domQueued (84 + u) t = true ∧ t.now = rotStartAt u s ∧
    (t.rotOf u).startAt = t.now + 1 ∧ t.rd (rotB u) R.BIST_ROT_CNT_TARGET = s.rd (rotB u) R.BIST_ROT_CNT_TARGET ∧
    (∀ v : Fin 8, v.val ≠ u → t.rotOf v.val = s.rotOf v.val ∧ rotStep v.val t = rotStep v.val s) ∧ t.raised = s.raised ∧ t.mem = s.mem := by
  have hmaps := hinv.maps_rising
  have hgo : (rotMay u s && rotStep u s == 0) = true := by rw [hmay, hstep]; rfl
  unfold rotStart
  rw [if_pos hgo]
  simp only [beq_iff_eq]
  generalize hc : (if (s.rotOf u).startAt = 0 then s else
    s.advanceNow ((s.rotOf u).startAt - 1 + usT (16000 * max 1 (s.rd bistB R.BIST_ROT_CFG_ROT_PER)))) = c
  have htime : TimePassed s c ∧ c.now = rotStartAt u s := by
    rw [← hc, rotStartAt]
    split
    · exact ⟨TimePassed.refl s, rfl⟩
    · exact ⟨TimePassed.of_advanceNow .., State.advanceNow_now ..⟩
  obtain ⟨hpassed, hnow⟩ := htime
  have hmoved := rotGo_moved (u := u) (st := 1) (y := { c.rotOf u with startAt := c.now + 1, redo := false, relieved := none, swap := none })
    (s := c) (by decide) (hpassed.regs ▸ hinv.regs_rising) (hpassed.rot ▸ hmaps.rot)
  have hdoms : Rising 0 (rotGo u 1 (c.setRot u { c.rotOf u with startAt := c.now + 1, redo := false, relieved := none, swap := none })).doms :=
    hpassed.doms ▸ hmaps.doms
  generalize rotGo u 1 _ = g at hmoved hdoms
  have hdom := domOf_setDom_same (84 + u) { DomSt.idle with queuedAt := g.now + 1 } hdoms
  obtain ⟨-, hgstep, hbeside, -, hheld, hothers, -, hgnow, -, hgmem, hgraised⟩ := id hmoved
  refine ⟨hgstep, ?_, ?_, hgnow.trans hnow, ?_, ?_, fun v hv => ⟨?_, ?_⟩, hgraised.trans hpassed.raised, hgmem.trans hpassed.mem⟩
  · rw [hdom]
    rfl
  · rw [domQueued, if_neg (by omega), hdom]
    rfl
  · show (g.rotOf u).startAt = g.now + 1
    rw [hheld, hgnow]
  · exact (hbeside _ (by decide)).trans (hpassed.rd ..)
  · exact (hothers _ hv).trans (hpassed.rotOf _)
  · exact (rotStep_other hmoved hv).trans (hpassed.rd ..)

/-! ### Tests and compares -/

/-- The instant of the next swap: the first multiple of the grid 16,384 ticks ahead or more. -/
def swapAt (s : State) : Nat :=
  let g := 2 ^ (s.rd bistB R.BIST_ROT_CFG_GRID + 16)
  (s.tlv.toNat + 16384 + g - 1) / g * g

theorem rotSchedule_moved {u : Nat} {s : State} (hr : Rising 0 s.regs) (hrot : Rising 0 s.rot) :
    RotMoved u 5 { s.rotOf u with swap := some (swapAt s, s.now + (swapAt s - s.tlv.toNat)), at_ := s.now } s (rotSchedule u s) :=
  rotGo_moved (y := { s.rotOf u with swap := some (swapAt s, s.now + (swapAt s - s.tlv.toNat)) }) (by decide) hr hrot

theorem rotCompare_moved {u : Nat} {s : State} (hr : Rising 0 s.regs) (hrot : Rising 0 s.rot) :
    ∃ y, y.injShade = (s.rotOf u).injShade ∧
      RotMoved u (if u < 4 ∧ s.domOn (16 * u + s.rd (rotB u) R.BIST_ROT_CNT_TARGET) = false then 5 else 4) y s (rotCompare u s) := by
  unfold rotCompare
  by_cases h : u < 4 ∧ s.domOn (16 * u + s.rd (rotB u) R.BIST_ROT_CNT_TARGET) = false
  · have hoff : (decide (u < 4) && !s.domOn (16 * u + s.rd (rotB u) R.BIST_ROT_CNT_TARGET)) = true := by simpa using h
    rw [if_pos h, if_pos hoff]
    refine ⟨_, ?_, rotSchedule_moved hr hrot⟩
    rfl
  · have hon : ¬ (decide (u < 4) && !s.domOn (16 * u + s.rd (rotB u) R.BIST_ROT_CNT_TARGET)) = true := by simpa using h
    rw [if_neg h, if_neg hon]
    refine ⟨_, ?_, rotGo_moved (u := u) (st := 4) (y := { s.rotOf u with swap := none }) (by decide) hr hrot⟩
    rfl

theorem not_raiseKey_bist {off : Nat} (ho : off < 0x10000) : ¬ RaiseKey (bistB + off) := by
  unfold RaiseKey FltKey EvtKey bistB objKey
  omega

theorem not_raiseKey_rot {u off : Nat} (hu : u < 8) (ho : off < 0x1000) : ¬ RaiseKey (rotB u + off) := by
  rw [rotB, Nat.add_assoc]
  exact not_raiseKey_bist (by omega)

theorem setBit_testBit (m i : Nat) : setBit m i / 2 ^ i % 2 = 1 := by
  unfold setBit
  split
  · next h => exact beq_iff_eq.mp h
  · next h =>
    have hbit : m / 2 ^ i % 2 ≠ 1 := fun he => h (beq_iff_eq.mpr he)
    rw [Nat.add_div_right _ (Nat.two_pow_pos i)]
    omega

theorem mod_two_pow_bit {m i w : Nat} (h : i < w) : m % 2 ^ w / 2 ^ i % 2 = m / 2 ^ i % 2 := by
  have hbit := Nat.testBit_mod_two_pow m w i
  rw [Nat.testBit_eq_decide_div_mod_eq, Nat.testBit_eq_decide_div_mod_eq, decide_eq_true h, Bool.true_and] at hbit
  have h1 := Nat.mod_two_eq_zero_or_one (m % 2 ^ w / 2 ^ i)
  have h2 := Nat.mod_two_eq_zero_or_one (m / 2 ^ i)
  have hiff := decide_eq_decide.mp hbit
  omega

/-- From s to t element p of unit u is marked. -/
structure ElemFailed (u p : Nat) (s t : State) : Prop where
  rising : Rising 0 t.regs
  failed : t.rd (rotB u) R.BIST_ROT_STAT_FAILED / 2 ^ p % 2 = 1
  nospare : t.rd (rotB u) R.BIST_ROT_STAT_NOSPARE = 1
  target : t.rd (rotB u) R.BIST_ROT_CNT_TARGET = s.rd (rotB u) R.BIST_ROT_CNT_TARGET
  sent : Sends 0x418 t
  frame : t.rot = s.rot ∧ t.doms = s.doms ∧ t.now = s.now ∧ t.mem = s.mem

theorem elemFail_failed {u p : Nat} {s : State} (hr : Rising 0 s.regs) (hu : u < 8) (hp : p < 17) : ElemFailed u p s (elemFail u p s) := by
  unfold elemFail
  dsimp only
  have hrf : Rising 0 (s.wr (rotB u) R.BIST_ROT_STAT_FAILED (setBit (s.rd (rotB u) R.BIST_ROT_STAT_FAILED) p)).regs :=
    State.wr_rising _ _ _ _ hr
  have hfailed : (s.wr (rotB u) R.BIST_ROT_STAT_FAILED (setBit (s.rd (rotB u) R.BIST_ROT_STAT_FAILED) p)).rd (rotB u)
      R.BIST_ROT_STAT_FAILED = setBit (s.rd (rotB u) R.BIST_ROT_STAT_FAILED) p % 2 ^ 17 := State.rd_wr_same _ _ _ _ hr (by decide)
  have htarget : (s.wr (rotB u) R.BIST_ROT_STAT_FAILED (setBit (s.rd (rotB u) R.BIST_ROT_STAT_FAILED) p)).rd (rotB u)
      R.BIST_ROT_CNT_TARGET = s.rd (rotB u) R.BIST_ROT_CNT_TARGET := State.rd_wr_apart hr (by decide)
  have hframe : ∀ t, t = s.wr (rotB u) R.BIST_ROT_STAT_FAILED (setBit (s.rd (rotB u) R.BIST_ROT_STAT_FAILED) p) →
      t.rot = s.rot ∧ t.doms = s.doms ∧ t.now = s.now ∧ t.mem = s.mem := by
    rintro t rfl
    exact ⟨rfl, rfl, rfl, rfl⟩
  generalize s.wr (rotB u) R.BIST_ROT_STAT_FAILED _ = f at hrf hfailed htarget hframe
  have hrn : Rising 0 (f.wr (rotB u) R.BIST_ROT_STAT_NOSPARE 1).regs := State.wr_rising _ _ _ _ hrf
  have hkeep (g : Fld) (hg : g.off < 0x1000) : ((f.wr (rotB u) R.BIST_ROT_STAT_NOSPARE 1).raise 0x418).rd (rotB u) g =
      (f.wr (rotB u) R.BIST_ROT_STAT_NOSPARE 1).rd (rotB u) g := State.raise_rd hrn (by decide) (not_raiseKey_rot hu hg)
  refine ⟨State.raise_rising _ hrn (by decide), ?_, ?_, ?_, State.raise_sends rfl, ?_⟩
  · rw [hkeep _ (by decide), State.rd_wr_apart hrf (by decide), hfailed, mod_two_pow_bit hp]
    exact setBit_testBit _ _
  · rw [hkeep _ (by decide)]
    exact State.rd_wr_same _ _ _ _ hrf (by decide)
  · rw [hkeep _ (by decide), State.rd_wr_apart hrf (by decide), htarget]
  · obtain ⟨_, _, _, _, he⟩ := RaiseFrame.raise (f.wr (rotB u) R.BIST_ROT_STAT_NOSPARE 1) 0x418
    rw [he]
    exact hframe f rfl

theorem setDom_kept (s : State) (d : Nat) (x : DomSt) :
    (s.setDom d x).regs = s.regs ∧ (s.setDom d x).rot = s.rot ∧ (s.setDom d x).now = s.now ∧ (s.setDom d x).mem = s.mem ∧
      (s.setDom d x).raised = s.raised := ⟨rfl, rfl, rfl, rfl, rfl⟩

/-- A step that ends, with TARGET moved on. -/
structure RotEnded (u : Nat) (s t : State) : Prop where
  step : rotStep u t = 0
  target : t.rd (rotB u) R.BIST_ROT_CNT_TARGET = (s.rd (rotB u) R.BIST_ROT_CNT_TARGET + 1) % 16
  stat : ∀ g : Fld, g.off = 0x10 → apart R.BIST_ROT_STAT_STEP g = true → t.rd (rotB u) g = s.rd (rotB u) g
  held : t.rotOf u = { s.rotOf u with redo := false, relieved := none, swap := none }
  dom : t.domOf (84 + u) = DomSt.idle
  frame : t.now = s.now ∧ t.mem = s.mem ∧ t.raised = s.raised

theorem rotNext_end {u : Nat} {s : State} (hr : Rising 0 s.regs) (hrot : Rising 0 s.rot) (hdoms : Rising 0 s.doms) :
    RotEnded u s (rotNext u (rotEnd u s)) := by
  have hmoved := RotMoved.of_wr (u := u) (st := 0) (x := { s.rotOf u with redo := false, relieved := none, swap := none }) (s := s)
    (by decide) hr hrot
  have heq : rotEnd u s = ((s.wr (rotB u) R.BIST_ROT_STAT_STEP 0).setRot u
    { s.rotOf u with redo := false, relieved := none, swap := none }).setDom (84 + u) DomSt.idle := rfl
  have hdomsm : Rising 0 ((s.wr (rotB u) R.BIST_ROT_STAT_STEP 0).setRot u
    { s.rotOf u with redo := false, relieved := none, swap := none }).doms := hdoms
  rw [heq]
  generalize (s.wr (rotB u) R.BIST_ROT_STAT_STEP 0).setRot u _ = w at hmoved hdomsm
  obtain ⟨hrw, hstep, hbeside, -, hheld, -, -, hnow, -, hmem, hraised⟩ := hmoved
  have hdom := domOf_setDom_same (84 + u) DomSt.idle hdomsm
  have hsame := setDom_kept w (84 + u) DomSt.idle
  generalize w.setDom (84 + u) DomSt.idle = z at hdom hsame
  obtain ⟨hzregs, hzrot, hznow, hzmem, hzraised⟩ := hsame
  have hzrd (g : Fld) : z.rd (rotB u) g = w.rd (rotB u) g := by rw [State.rd, State.rd, State.getReg, State.getReg, hzregs]
  have hrz : Rising 0 z.regs := hzregs ▸ hrw
  unfold rotNext State.cntW
  refine ⟨?_, ?_, fun g hoff hg => ?_, ?_, ?_, ?_, ?_, ?_⟩
  · rw [rotStep, State.rd_wr_apart hrz (by decide), hzrd]
    exact hstep
  · rw [State.rd_wr_same _ _ _ _ hrz (by decide), hzrd, hbeside _ (by decide),
      show 2 ^ (R.BIST_ROT_CNT_TARGET.hi + 1 - R.BIST_ROT_CNT_TARGET.lo) = 16 from rfl]
  · rw [State.rd_wr_apart hrz (by simp [apart, hoff, R.BIST_ROT_CNT_TARGET]), hzrd]
    exact hbeside g hg
  · rw [State.wr_rotOf, State.rotOf, hzrot]
    exact hheld
  · rw [State.domOf, State.wr_doms]
    exact hdom
  · rw [State.wr_now, hznow, hnow]
  · rw [State.wr_mem, hzmem, hmem]
  · rw [State.wr_raised, hzraised, hraised]

/-- The instant at which an LBIST ends, its injection taken. -/
def lbistEnd (u : Nat) (s : State) : State :=
  let c := s.advanceNow ((s.rotOf u).at_ + usT 1250)
  if (s.rotOf u).injShade then c.setRot u { c.rotOf u with injShade := false } else c

/-- From s to t the LBIST's time has passed and its injection is taken. -/
structure LbistEnded (u : Nat) (s t : State) : Prop where
  regs : t.regs = s.regs
  rot : Rising 0 t.rot
  held : t.rotOf u = { s.rotOf u with injShade := false }
  now : t.now = max s.now ((s.rotOf u).at_ + 48828125)
  frame : t.doms = s.doms ∧ t.mem = s.mem ∧ t.raised = s.raised

theorem lbistEnd_ended {u : Nat} {s : State} (hrot : Rising 0 s.rot) : LbistEnded u s (lbistEnd u s) := by
  have hpassed := TimePassed.of_advanceNow s ((s.rotOf u).at_ + usT 1250)
  have hnow : (s.advanceNow ((s.rotOf u).at_ + usT 1250)).now = max s.now ((s.rotOf u).at_ + 48828125) := State.advanceNow_now ..
  unfold lbistEnd
  dsimp only
  generalize s.advanceNow ((s.rotOf u).at_ + usT 1250) = c at hpassed hnow
  have hc : Rising 0 c.rot := hpassed.rot ▸ hrot
  split
  · refine ⟨hpassed.regs, setRot_rising u _ hc, ?_, hnow, hpassed.doms, hpassed.mem, hpassed.raised⟩
    rw [rotOf_setRot_same u _ hc, hpassed.rotOf]
  · next h =>
    refine ⟨hpassed.regs, hc, ?_, hnow, hpassed.doms, hpassed.mem, hpassed.raised⟩
    rw [hpassed.rotOf, ← Bool.eq_false_iff.mpr h]

/-- The signature passes. -/
def lbistPass (u p : Nat) (sig : Word) (s : State) : Bool :=
  !(s.rotOf u).injShade && (match sigOf (elemId u p) s with
    | some w => w == sig
    | none => true)

theorem rotLbist_eq {u : Nat} (sig : Word) {s : State} (hruns : rotRuns u s = true) (hstep : rotStep u s = 2)
    (hredo : (s.rotOf u).redo = false) (hrel : (s.rotOf u).relieved = none) :
    rotLbist u sig s =
      (let t := lbistEnd u s
      let p := s.rd (rotB u) R.BIST_ROT_STAT_SHADE
      if lbistPass u p sig s then rotCompare u t else rotNext u (rotEnd u (elemFail u p t))) := by
  have hpassed := TimePassed.of_advanceNow s ((s.rotOf u).at_ + usT 1250)
  have hgo : (!rotRuns u s || !(rotStep u s == 2 || (rotStep u s == 6 && (s.rotOf u).relieved.isSome))) = false := by
    rw [hruns, hstep]
    rfl
  have hstepc : rotStep u (s.advanceNow ((s.rotOf u).at_ + usT 1250)) = 2 := (hpassed.rd ..).trans hstep
  have hshade : (s.advanceNow ((s.rotOf u).at_ + usT 1250)).rd (rotB u) R.BIST_ROT_STAT_SHADE = s.rd (rotB u) R.BIST_ROT_STAT_SHADE :=
    hpassed.rd ..
  have hsig (id : Nat) : sigOf id (s.advanceNow ((s.rotOf u).at_ + usT 1250)) = sigOf id s := by rw [sigOf, sigOf, hpassed.sigs]
  have hend : rotStep u (lbistEnd u s) = 2 := by
    unfold lbistEnd
    dsimp only
    split
    · exact hstepc
    · exact hstepc
  unfold rotLbist
  dsimp only
  rw [hgo, if_neg Bool.false_ne_true, hstepc, hrel, Option.getD_none, hshade, hsig, hredo]
  have hinj : ((s.rotOf u).injShade && (2 : Nat) == 2) = (s.rotOf u).injShade := Bool.and_true _
  rw [hinj]
  show (if (rotStep u (lbistEnd u s) == 6) = true then _ else if (!lbistPass u _ sig s) = true then _ else _) = _
  rw [hend, if_neg (by decide), if_neg Bool.false_ne_true]
  cases lbistPass u (s.rd (rotB u) R.BIST_ROT_STAT_SHADE) sig s <;> rfl

end Sys2Proof.Machine
end

section

/-! Tests, compares and swaps of a shade rotation as O57 states them (R485, R487, R488, R503). -/

namespace Sys2Proof.Machine

theorem lbistPass_iff {u p : Nat} {sig : Word} {s : State} :
    lbistPass u p sig s = true ↔ (s.rotOf u).injShade = false ∧ (sigOf (elemId u p) s = some sig ∨ sigOf (elemId u p) s = none) := by
  unfold lbistPass
  cases sigOf (elemId u p) s <;> simp

theorem LbistEnded.rd {u : Nat} {s t : State} (h : LbistEnded u s t) (b : Nat) (f : Fld) : t.rd b f = s.rd b f := by
  rw [State.rd, State.rd, State.getReg, State.getReg, h.regs]

theorem rotLbist_passed {u : Nat} {s t : State} (hr : Rising 0 s.regs) (hend : LbistEnded u s t) :
    let v := rotCompare u t
    let k := s.rd (rotB u) R.BIST_ROT_CNT_TARGET
    v.now = max s.now ((s.rotOf u).at_ + 48828125) ∧ v.mem = s.mem ∧ (v.rotOf u).injShade = false ∧
    rotStep u v = (if u < 4 ∧ s.domOn (16 * u + k) = false then 5 else 4) ∧ v.raised = s.raised ∧
    v.rd (rotB u) R.BIST_ROT_CNT_TARGET = k := by
  obtain ⟨y, hy, hmoved⟩ := rotCompare_moved (u := u) (s := t) (hend.regs ▸ hr) hend.rot
  rw [hend.rd, State.domOn, hend.rd, ← State.domOn, hend.held] at *
  obtain ⟨-, hmem, hraised⟩ := hend.frame
  obtain ⟨hnow, -, hmem', hraised'⟩ := hmoved.frame
  refine ⟨hnow.trans hend.now, hmem'.trans hmem, ?_, hmoved.step, hraised'.trans hraised, ?_⟩
  · rw [hmoved.held, hy]
  · exact (hmoved.beside _ (by decide)).trans (hend.rd ..)

theorem rotLbist_failed {u p : Nat} {s t : State} (hr : Rising 0 s.regs) (hdoms : Rising 0 s.doms) (hu : u < 8) (hp : p < 17)
    (hend : LbistEnded u s t) :
    let v := rotNext u (rotEnd u (elemFail u p t))
    let k := s.rd (rotB u) R.BIST_ROT_CNT_TARGET
    v.now = max s.now ((s.rotOf u).at_ + 48828125) ∧ v.mem = s.mem ∧ (v.rotOf u).injShade = false ∧
    rotStep u v = 0 ∧ v.rd (rotB u) R.BIST_ROT_STAT_FAILED / 2 ^ p % 2 = 1 ∧ v.on (rotB u) R.BIST_ROT_STAT_NOSPARE = true ∧
    Sends 0x418 v ∧ v.rd (rotB u) R.BIST_ROT_CNT_TARGET = (k + 1) % 16 ∧ v.domOf (84 + u) = DomSt.idle := by
  obtain ⟨hre, hfailed, hspare, htarget, hsent, hrot, hdom, hnow, hmem⟩ := elemFail_failed (u := u) (p := p) (s := t) (hend.regs ▸ hr) hu hp
  obtain ⟨htdoms, htmem, -⟩ := hend.frame
  have hheld : (elemFail u p t).rotOf u = { s.rotOf u with injShade := false } := by
    rw [State.rotOf, hrot]
    exact hend.held
  generalize elemFail u p t = e at hre hfailed hspare htarget hsent hrot hdom hnow hmem hheld
  obtain ⟨hstep, hnext, hstat, hvheld, hvdom, hvnow, hvmem, hvraised⟩ := rotNext_end (u := u) (s := e) hre (hrot ▸ hend.rot)
    (by rw [hdom, htdoms]; exact hdoms)
  refine ⟨hvnow.trans (hnow.trans hend.now), hvmem.trans (hmem.trans htmem), ?_, hstep, ?_, ?_, ?_, ?_, hvdom⟩
  · rw [hvheld, hheld]
  · rw [hstat _ rfl (by decide)]
    exact hfailed
  · rw [State.on, hstat _ rfl (by decide), hspare]
    rfl
  · obtain ⟨r, hmem, hid⟩ := hsent
    exact ⟨r, by rw [hvraised]; exact hmem, hid⟩
  · rw [hnext, htarget, hend.rd]

/-- The first test of a step ends. -/
theorem rotLbist_spec {u : Nat} (sig : Word) {s : State} (hinv : Inv s) (hu : u < 8) (hruns : rotRuns u s = true)
    (hstep : rotStep u s = 2) (hredo : (s.rotOf u).redo = false) (hrel : (s.rotOf u).relieved = none)
    (hp : s.rd (rotB u) R.BIST_ROT_STAT_SHADE < 17) :
    let p := s.rd (rotB u) R.BIST_ROT_STAT_SHADE
    let k := s.rd (rotB u) R.BIST_ROT_CNT_TARGET
    let t := rotLbist u sig s
    t.now = max s.now ((s.rotOf u).at_ + 48828125) ∧ t.mem = s.mem ∧ (t.rotOf u).injShade = false ∧
    ((s.rotOf u).injShade = false → sigOf (elemId u p) s = some sig ∨ sigOf (elemId u p) s = none →
      rotStep u t = (if u < 4 ∧ s.domOn (16 * u + k) = false then 5 else 4) ∧ t.raised = s.raised ∧ t.rd (rotB u) R.BIST_ROT_CNT_TARGET = k) ∧
    ((s.rotOf u).injShade = true ∨ (sigOf (elemId u p) s ≠ none ∧ sigOf (elemId u p) s ≠ some sig) →
      rotStep u t = 0 ∧ t.rd (rotB u) R.BIST_ROT_STAT_FAILED / 2 ^ p % 2 = 1 ∧ t.on (rotB u) R.BIST_ROT_STAT_NOSPARE = true ∧
      Sends 0x418 t ∧ t.rd (rotB u) R.BIST_ROT_CNT_TARGET = (k + 1) % 16 ∧ t.domOf (84 + u) = DomSt.idle) := by
  have hend : LbistEnded u s (lbistEnd u s) := lbistEnd_ended hinv.maps_rising.rot
  have hpass := lbistPass_iff (u := u) (p := s.rd (rotB u) R.BIST_ROT_STAT_SHADE) (sig := sig) (s := s)
  rw [rotLbist_eq sig hruns hstep hredo hrel]
  dsimp only
  cases h : lbistPass u (s.rd (rotB u) R.BIST_ROT_STAT_SHADE) sig s with
  | true =>
    rw [if_pos rfl]
    obtain ⟨hnow, hmem, hinj, hst, hraised, htarget⟩ := rotLbist_passed hinv.regs_rising hend
    refine ⟨hnow, hmem, hinj, fun _ _ => ⟨hst, hraised, htarget⟩, fun hbad => ?_⟩
    obtain ⟨hoff, hsig⟩ := hpass.mp h
    rcases hbad with hon | ⟨hne, hne'⟩
    · rw [hoff] at hon
      exact absurd hon Bool.false_ne_true
    · exact (hsig.elim hne' hne).elim
  | false =>
    rw [if_neg Bool.false_ne_true]
    obtain ⟨hnow, hmem, hinj, hfail⟩ := rotLbist_failed hinv.regs_rising hinv.maps_rising.doms hu hp hend
    refine ⟨hnow, hmem, hinj, fun hoff hsig => ?_, fun _ => hfail⟩
    have hyes := hpass.mpr ⟨hoff, hsig⟩
    rw [h] at hyes
    exact absurd hyes Bool.false_ne_true

/-! ### Compares -/

theorem swapAt_bounds (s : State) :
    let g := 2 ^ (s.rd bistB R.BIST_ROT_CFG_GRID + 16)
    s.tlv.toNat + 16384 ≤ swapAt s ∧ swapAt s < s.tlv.toNat + 16384 + g ∧ swapAt s % g = 0 := by
  unfold swapAt
  dsimp only
  have hg : 0 < 2 ^ (s.rd bistB R.BIST_ROT_CFG_GRID + 16) := Nat.two_pow_pos _
  generalize 2 ^ (s.rd bistB R.BIST_ROT_CFG_GRID + 16) = g at hg
  generalize s.tlv.toNat + 16384 = x
  have hdiv := Nat.div_add_mod (x + g - 1) g
  have hlt := Nat.mod_lt (x + g - 1) hg
  rw [Nat.mul_comm] at hdiv
  exact ⟨by omega, by omega, Nat.mul_mod_left _ _⟩

/-- The compare's end, where it is equal. -/
theorem rotCompared_equal {u : Nat} {s : State} (hruns : rotRuns u s = true) (hstep : rotStep u s = 4) (hinj : (s.rotOf u).injCmp = false) :
    rotCompared u false s = rotSchedule u (s.advanceNow ((s.rotOf u).at_ + compareTime u s)) := by
  unfold rotCompared
  simp only [hruns, hstep, hinj, BEq.rfl, Bool.true_or, Bool.not_true, Bool.or_false, Bool.false_eq_true, if_false, if_true]

/-- The compare's end, where it differs. -/
theorem rotCompared_differs {u : Nat} {differs : Bool} {s : State} (hruns : rotRuns u s = true) (hstep : rotStep u s = 4)
    (hdiff : differs = true ∨ (s.rotOf u).injCmp = true) :
    rotCompared u differs s =
      (let c := s.advanceNow ((s.rotOf u).at_ + compareTime u s)
      let c := c.setRot u { c.rotOf u with injCmp := false, redo := true, swap := none }
      rotGo u 2 (((c.cnt (rotB u) R.BIST_ROT_CNT_MISMATCH 1).wr (rotB u) R.BIST_ROT_STAT_SUSPECT 1).raise 0x419)) := by
  have hd : (differs || (s.rotOf u).injCmp) = true := by simpa using hdiff
  unfold rotCompared
  simp only [hruns, hstep, hd, BEq.rfl, Bool.true_or, Bool.not_true, Bool.or_false, Bool.false_eq_true, if_false, if_true]

/-- A compare that finds no difference: the swap's instant is set. -/
theorem rotCompared_equal_spec {u : Nat} {s : State} (hinv : Inv s) (hruns : rotRuns u s = true) (hstep : rotStep u s = 4)
    (hinj : (s.rotOf u).injCmp = false) :
    let t := rotCompared u false s
    let g := 2 ^ (s.rd bistB R.BIST_ROT_CFG_GRID + 16)
    (t.mem = s.mem ∧ t.now = max s.now ((s.rotOf u).at_ + compareTime u s)) ∧ rotStep u t = 5 ∧ t.raised = s.raised ∧
    ∃ e ∈ (t.rotOf u).swap, t.tlv.toNat + 16384 ≤ e.1 ∧ e.1 < t.tlv.toNat + 16384 + g ∧ e.1 % g = 0 ∧ e.2 = t.now + (e.1 - t.tlv.toNat) := by
  rw [rotCompared_equal hruns hstep hinj]
  have hpassed := TimePassed.of_advanceNow s ((s.rotOf u).at_ + compareTime u s)
  have hnow := State.advanceNow_now s ((s.rotOf u).at_ + compareTime u s)
  generalize s.advanceNow ((s.rotOf u).at_ + compareTime u s) = c at hpassed hnow
  have hmoved := rotSchedule_moved (u := u) (s := c) (hpassed.regs ▸ hinv.regs_rising) (hpassed.rot ▸ hinv.maps_rising.rot)
  obtain ⟨htnow, httl, htmem, htraised⟩ := hmoved.frame
  obtain ⟨hlo, hhi, hgrid⟩ := swapAt_bounds c
  rw [hpassed.rd] at hhi hgrid
  have htlv : (rotSchedule u c).tlv = c.tlv := congrArg TlSt.tlv httl
  refine ⟨⟨htmem.trans hpassed.mem, htnow.trans hnow⟩, hmoved.step, htraised.trans hpassed.raised,
    (swapAt c, c.now + (swapAt c - c.tlv.toNat)), ?_, ?_, ?_, hgrid, ?_⟩
  · rw [hmoved.held]
    rfl
  · rw [htlv]
    exact hlo
  · rw [htlv]
    exact hhi
  · rw [htlv, htnow]

/-- What a mismatch notes before the unit steps back. -/
def mismatchNoted (u : Nat) (c : State) : State :=
  (((c.setRot u { c.rotOf u with injCmp := false, redo := true, swap := none }).cnt (rotB u) R.BIST_ROT_CNT_MISMATCH 1).wr (rotB u)
    R.BIST_ROT_STAT_SUSPECT 1).raise 0x419

/-- From s to t a mismatch of unit u is noted. -/
structure MismatchNoted (u : Nat) (s t : State) : Prop where
  rising : Rising 0 t.regs
  rot : Rising 0 t.rot
  held : t.rotOf u = { s.rotOf u with injCmp := false, redo := true, swap := none }
  suspect : t.rd (rotB u) R.BIST_ROT_STAT_SUSPECT = 1
  count : t.rd (rotB u) R.BIST_ROT_CNT_MISMATCH = min 255 (s.rd (rotB u) R.BIST_ROT_CNT_MISMATCH + 1)
  sent : Sends 0x419 t
  frame : t.now = s.now ∧ t.mem = s.mem

theorem mismatchNoted_noted {u : Nat} {s : State} (hu : u < 8) (hr : Rising 0 s.regs) (hrot : Rising 0 s.rot) :
    MismatchNoted u s (mismatchNoted u s) := by
  unfold mismatchNoted
  have hheld := rotOf_setRot_same u { s.rotOf u with injCmp := false, redo := true, swap := none } hrot
  have hrise := setRot_rising u { s.rotOf u with injCmp := false, redo := true, swap := none } hrot
  have hframe : (s.setRot u { s.rotOf u with injCmp := false, redo := true, swap := none }).regs = s.regs ∧
    (s.setRot u { s.rotOf u with injCmp := false, redo := true, swap := none }).now = s.now ∧
    (s.setRot u { s.rotOf u with injCmp := false, redo := true, swap := none }).mem = s.mem := ⟨rfl, rfl, rfl⟩
  generalize s.setRot u { s.rotOf u with injCmp := false, redo := true, swap := none } = a at hheld hrise hframe
  obtain ⟨haregs, hanow, hamem⟩ := hframe
  have hra : Rising 0 a.regs := haregs ▸ hr
  have hcnt : (a.cnt (rotB u) R.BIST_ROT_CNT_MISMATCH 1).rd (rotB u) R.BIST_ROT_CNT_MISMATCH =
      min 255 (s.rd (rotB u) R.BIST_ROT_CNT_MISMATCH + 1) := by
    rw [State.rd_cnt_same _ _ _ _ hra (by decide), State.rd, State.rd, State.getReg, State.getReg, haregs, Nat.min_comm]
    rfl
  have hrc : Rising 0 (a.cnt (rotB u) R.BIST_ROT_CNT_MISMATCH 1).regs := State.wr_rising _ _ _ _ hra
  have hcframe : ∀ c, c = a.cnt (rotB u) R.BIST_ROT_CNT_MISMATCH 1 → c.rot = a.rot ∧ c.now = a.now ∧ c.mem = a.mem := by
    rintro c rfl
    exact ⟨rfl, rfl, rfl⟩
  generalize a.cnt (rotB u) R.BIST_ROT_CNT_MISMATCH 1 = c at hcnt hrc hcframe
  obtain ⟨hcrot, hcnow, hcmem⟩ := hcframe c rfl
  have hrw : Rising 0 (c.wr (rotB u) R.BIST_ROT_STAT_SUSPECT 1).regs := State.wr_rising _ _ _ _ hrc
  have hkeep (g : Fld) (hg : g.off < 0x1000) : ((c.wr (rotB u) R.BIST_ROT_STAT_SUSPECT 1).raise 0x419).rd (rotB u) g =
      (c.wr (rotB u) R.BIST_ROT_STAT_SUSPECT 1).rd (rotB u) g := State.raise_rd hrw (by decide) (not_raiseKey_rot hu hg)
  have hraise := RaiseFrame.raise (c.wr (rotB u) R.BIST_ROT_STAT_SUSPECT 1) 0x419
  have hrotu : ((c.wr (rotB u) R.BIST_ROT_STAT_SUSPECT 1).raise 0x419).rot = a.rot := by
    obtain ⟨_, _, _, _, he⟩ := hraise
    rw [he]
    exact hcrot
  refine ⟨State.raise_rising _ hrw (by decide), hrotu ▸ hrise, ?_, ?_, ?_, State.raise_sends rfl, ?_, ?_⟩
  · rw [State.rotOf, hrotu]
    exact hheld
  · rw [hkeep _ (by decide)]
    exact State.rd_wr_same _ _ _ _ hrc (by decide)
  · rw [hkeep _ (by decide), State.rd_wr_apart hrc (by decide), hcnt]
  · rw [State.raise_now, State.wr_now, hcnow, hanow]
  · rw [State.raise_mem, State.wr_mem, hcmem, hamem]

/-- A compare that finds a difference: the unit tests its shade again. -/
theorem rotCompared_differs_spec {u : Nat} {differs : Bool} {s : State} (hinv : Inv s) (hu : u < 8) (hruns : rotRuns u s = true)
    (hstep : rotStep u s = 4) (hdiff : differs = true ∨ (s.rotOf u).injCmp = true) :
    let t := rotCompared u differs s
    (t.mem = s.mem ∧ t.now = max s.now ((s.rotOf u).at_ + compareTime u s)) ∧ rotStep u t = 2 ∧ (t.rotOf u).redo = true ∧
    (t.rotOf u).injCmp = false ∧ (t.rotOf u).swap = none ∧ t.on (rotB u) R.BIST_ROT_STAT_SUSPECT = true ∧
    t.rd (rotB u) R.BIST_ROT_CNT_MISMATCH = min 255 (s.rd (rotB u) R.BIST_ROT_CNT_MISMATCH + 1) ∧ Sends 0x419 t := by
  rw [rotCompared_differs hruns hstep hdiff]
  dsimp only
  have hpassed := TimePassed.of_advanceNow s ((s.rotOf u).at_ + compareTime u s)
  have hnow := State.advanceNow_now s ((s.rotOf u).at_ + compareTime u s)
  generalize s.advanceNow ((s.rotOf u).at_ + compareTime u s) = c at hpassed hnow
  have hnoted := mismatchNoted_noted (u := u) (s := c) hu (hpassed.regs ▸ hinv.regs_rising) (hpassed.rot ▸ hinv.maps_rising.rot)
  unfold mismatchNoted at hnoted
  generalize (((c.setRot u { c.rotOf u with injCmp := false, redo := true, swap := none }).cnt (rotB u) R.BIST_ROT_CNT_MISMATCH 1).wr
    (rotB u) R.BIST_ROT_STAT_SUSPECT 1).raise 0x419 = d at hnoted
  obtain ⟨hrd, hrot, hheld, hsus, hcount, hsent, hdnow, hdmem⟩ := hnoted
  have hmoved : RotMoved u 2 { d.rotOf u with at_ := d.now } d (rotGo u 2 d) := RotMoved.of_wr (by decide) hrd hrot
  obtain ⟨htnow, -, htmem, htraised⟩ := hmoved.frame
  refine ⟨⟨htmem.trans (hdmem.trans hpassed.mem), htnow.trans (hdnow.trans hnow)⟩, hmoved.step, ?_, ?_, ?_, ?_, ?_, ?_⟩
  · rw [hmoved.held, hheld]
  · rw [hmoved.held, hheld]
  · rw [hmoved.held, hheld]
  · rw [State.on, hmoved.beside _ (by decide), hsus]
    rfl
  · rw [hmoved.beside _ (by decide), hcount, hpassed.rd]
  · obtain ⟨r, hmem, hid⟩ := hsent
    exact ⟨r, by rw [htraised]; exact hmem, hid⟩

/-! ### Swaps -/

theorem mapGet_congr {v i : Nat} {s t : State} (h : t.getReg (mapB v (i / 6) + 0x50) = s.getReg (mapB v (i / 6) + 0x50)) :
    mapGet v i t = mapGet v i s := by
  rw [mapGet, mapGet, h]

theorem mapGet_lt (v i : Nat) (s : State) : mapGet v i s < 32 := by
  have h := fget_lt (s.getReg (mapB v (i / 6) + 0x50)) (5 * (i % 6) + 4) (5 * (i % 6))
  rwa [show 5 * (i % 6) + 4 + 1 - 5 * (i % 6) = 5 by omega] at h

theorem mapGet_mapSet_same {u i p : Nat} {s : State} (hr : Rising 0 s.regs) (hp : p < 32) : mapGet u i (mapSet u i p s) = p := by
  have hw : 5 * (i % 6) + 4 + 1 - 5 * (i % 6) = 5 := by omega
  unfold mapSet
  rw [mapGet, State.getReg_setReg_same _ _ _ hr, fget_fset_same _ _ _ (by omega), hw]
  exact Nat.mod_eq_of_lt hp

theorem mapGet_mapSet_ne {u v i j p : Nat} {s : State} (hr : Rising 0 s.regs) (hi : i < 16) (hj : j < 16) (hne : v ≠ u ∨ j ≠ i) :
    mapGet v j (mapSet u i p s) = mapGet v j s := by
  unfold mapSet
  by_cases hkey : mapB v (j / 6) + 0x50 = mapB u (i / 6) + 0x50
  · have hlane : v = u ∧ j / 6 = i / 6 := by
      unfold mapB at hkey
      omega
    obtain ⟨rfl, hword⟩ := hlane
    rw [mapGet, mapGet, hkey, State.getReg_setReg_same _ _ _ hr, fget_fset_beside]
    omega
  · exact mapGet_congr (State.getReg_setReg_ne _ _ hr hkey)

/-- The crossbar switches: TARGET's lane and the shade exchange their elements. -/
def mapSwapped (u : Nat) (c : State) : State :=
  rotNext u (((mapSet u (c.rd (rotB u) R.BIST_ROT_CNT_TARGET) (c.rd (rotB u) R.BIST_ROT_STAT_SHADE) c).wr (rotB u)
    R.BIST_ROT_STAT_SHADE (mapGet u (c.rd (rotB u) R.BIST_ROT_CNT_TARGET) c)).cnt (rotB u) R.BIST_ROT_CNT_SWAPS 1)

structure MapSwapped (u : Nat) (s t : State) : Prop where
  rising : Rising 0 t.regs
  taken : mapGet u (s.rd (rotB u) R.BIST_ROT_CNT_TARGET) t = s.rd (rotB u) R.BIST_ROT_STAT_SHADE
  shade : t.rd (rotB u) R.BIST_ROT_STAT_SHADE = mapGet u (s.rd (rotB u) R.BIST_ROT_CNT_TARGET) s
  others : ∀ v < 8, ∀ i < 16, v ≠ u ∨ i ≠ s.rd (rotB u) R.BIST_ROT_CNT_TARGET → mapGet v i t = mapGet v i s
  target : t.rd (rotB u) R.BIST_ROT_CNT_TARGET = (s.rd (rotB u) R.BIST_ROT_CNT_TARGET + 1) % 16
  swaps : t.rd (rotB u) R.BIST_ROT_CNT_SWAPS = min 65535 (s.rd (rotB u) R.BIST_ROT_CNT_SWAPS + 1)
  frame : t.rot = s.rot ∧ t.doms = s.doms ∧ t.raised = s.raised ∧ t.mem = s.mem

theorem map_ne_rot {u v w off : Nat} (hu : u < 8) (ho : off = 0x10 ∨ off = 0x30) : mapB v w + 0x50 ≠ rotB u + off := by
  unfold mapB rotB
  omega

theorem mapSwapped_swapped {u : Nat} {s : State} (hu : u < 8) (hr : Rising 0 s.regs) : MapSwapped u s (mapSwapped u s) := by
  unfold mapSwapped
  have hk : s.rd (rotB u) R.BIST_ROT_CNT_TARGET < 16 := State.rd_lt ..
  have hp : s.rd (rotB u) R.BIST_ROT_STAT_SHADE < 32 := State.rd_lt ..
  have hold := mapGet_lt u (s.rd (rotB u) R.BIST_ROT_CNT_TARGET) s
  have hrd (g : Fld) (hg : g.off = 0x10 ∨ g.off = 0x30) :
      (mapSet u (s.rd (rotB u) R.BIST_ROT_CNT_TARGET) (s.rd (rotB u) R.BIST_ROT_STAT_SHADE) s).rd (rotB u) g = s.rd (rotB u) g := by
    rw [State.rd, State.rd, mapSet, State.getReg_setReg_ne _ _ hr (map_ne_rot hu hg).symm]
    rfl
  have htaken := mapGet_mapSet_same (u := u) (i := s.rd (rotB u) R.BIST_ROT_CNT_TARGET) (s := s) hr hp
  have hothers (v i : Nat) (hi : i < 16) (hne : v ≠ u ∨ i ≠ s.rd (rotB u) R.BIST_ROT_CNT_TARGET) :=
    mapGet_mapSet_ne (p := s.rd (rotB u) R.BIST_ROT_STAT_SHADE) hr hk hi hne
  have hrm : Rising 0 (mapSet u (s.rd (rotB u) R.BIST_ROT_CNT_TARGET) (s.rd (rotB u) R.BIST_ROT_STAT_SHADE) s).regs :=
    State.setReg_rising _ _ _ hr
  have hframe : ∀ t, t = mapSet u (s.rd (rotB u) R.BIST_ROT_CNT_TARGET) (s.rd (rotB u) R.BIST_ROT_STAT_SHADE) s →
      t.rot = s.rot ∧ t.doms = s.doms ∧ t.raised = s.raised ∧ t.mem = s.mem := by
    rintro t rfl
    exact ⟨rfl, rfl, rfl, rfl⟩
  generalize hkk : s.rd (rotB u) R.BIST_ROT_CNT_TARGET = k at *
  generalize hpp : s.rd (rotB u) R.BIST_ROT_STAT_SHADE = p at *
  generalize hoo : mapGet u k s = o at *
  generalize mapSet u k p s = m at *
  obtain ⟨hfrot, hfdoms, hfraised, hfmem⟩ := hframe m rfl
  have hrw : Rising 0 (m.wr (rotB u) R.BIST_ROT_STAT_SHADE o).regs := State.wr_rising _ _ _ _ hrm
  have hrc : Rising 0 ((m.wr (rotB u) R.BIST_ROT_STAT_SHADE o).cnt (rotB u) R.BIST_ROT_CNT_SWAPS 1).regs := State.wr_rising _ _ _ _ hrw
  have hmap (v i : Nat) : mapGet v i (rotNext u ((m.wr (rotB u) R.BIST_ROT_STAT_SHADE o).cnt (rotB u) R.BIST_ROT_CNT_SWAPS 1)) =
      mapGet v i m := by
    refine mapGet_congr ?_
    rw [rotNext, State.cntW, State.getReg_wr_ne _ _ hrc (map_ne_rot hu (.inr rfl)), State.cnt,
      State.getReg_wr_ne _ _ hrw (map_ne_rot hu (.inr rfl)), State.getReg_wr_ne _ _ hrm (map_ne_rot hu (.inl rfl))]
  refine ⟨State.wr_rising _ _ _ _ hrc, ?_, ?_, fun v _ i hi hne => ?_, ?_, ?_, ?_, ?_, ?_, ?_⟩
  · rw [hkk, hmap, htaken, hpp]
  · rw [rotNext, State.cntW, State.rd_wr_apart hrc (by decide), State.cnt, State.rd_wr_apart hrw (by decide),
      State.rd_wr_same _ _ _ _ hrm (by decide)]
    rw [hkk, hoo]
    exact Nat.mod_eq_of_lt hold
  · rw [hmap, hothers v i hi (hkk ▸ hne)]
  · rw [rotNext, State.cntW, State.rd_wr_same _ _ _ _ hrc (by decide), State.cnt, State.rd_wr_apart hrw (by decide),
      State.rd_wr_apart hrm (by decide), hrd _ (.inr rfl), hkk,
      show 2 ^ (R.BIST_ROT_CNT_TARGET.hi + 1 - R.BIST_ROT_CNT_TARGET.lo) = 16 from rfl]
  · rw [rotNext, State.cntW, State.rd_wr_apart hrc (by decide), State.rd_cnt_same _ _ _ _ hrw (by decide),
      State.rd_wr_apart hrm (by decide), hrd _ (.inr rfl), Nat.min_comm]
    rfl
  · rw [rotNext, State.cntW, State.wr_rot, State.cnt, State.wr_rot, State.wr_rot, hfrot]
  · rw [rotNext, State.cntW, State.wr_doms, State.cnt, State.wr_doms, State.wr_doms, hfdoms]
  · rw [rotNext, State.cntW, State.wr_raised, State.cnt, State.wr_raised, State.wr_raised, hfraised]
  · rw [rotNext, State.cntW, State.wr_mem, State.cnt, State.wr_mem, State.wr_mem, hfmem]

end Sys2Proof.Machine
end

section

/-! The swap of a rotation step, the injections of BIST (R485, R503), and O57. -/

namespace Sys2Proof.Machine

/-- The end of a swap: a step repeated for a suspect shade tests the relieved element, any other ends. -/
def swapEnd (u old : Nat) (s : State) : State :=
  if (s.rotOf u).redo then rotGo u 6 (s.setRot u { s.rotOf u with swap := none, redo := false, relieved := some old })
  else rotEnd u s

theorem rotSwap_eq {u : Nat} {s : State} {e : Nat × Nat} (hruns : rotRuns u s = true) (hstep : rotStep u s = 5)
    (hswap : (s.rotOf u).swap = some e) :
    rotSwap u s = (let c := s.advanceReq e.1 e.2
      swapEnd u (mapGet u (c.rd (rotB u) R.BIST_ROT_CNT_TARGET) c) (mapSwapped u c)) := by
  unfold rotSwap
  rw [hswap]
  dsimp only
  rw [hruns, hstep, if_neg (by decide)]
  rfl

/-- From s to t unit u ends a swap by which it relieved the element old. -/
structure SwapEnded (u old : Nat) (s t : State) : Prop where
  step : rotStep u t = if (s.rotOf u).redo = true then 6 else 0
  regs : ∀ k, k ≠ rotB u + 0x10 → t.getReg k = s.getReg k
  beside : ∀ g : Fld, apart R.BIST_ROT_STAT_STEP g = true → t.rd (rotB u) g = s.rd (rotB u) g
  relieved : (s.rotOf u).redo = true → (t.rotOf u).relieved = some old
  dom : (s.rotOf u).redo = false → t.domOf (84 + u) = DomSt.idle
  frame : t.mem = s.mem ∧ t.raised = s.raised

theorem rotEnd_eq (u : Nat) (s : State) : rotEnd u s = ((s.wr (rotB u) R.BIST_ROT_STAT_STEP 0).setRot u
    { s.rotOf u with redo := false, relieved := none, swap := none }).setDom (84 + u) DomSt.idle := rfl

theorem swapEnd_ended {u old : Nat} {s : State} (hr : Rising 0 s.regs) (hrot : Rising 0 s.rot) (hdoms : Rising 0 s.doms) :
    SwapEnded u old s (swapEnd u old s) := by
  unfold swapEnd
  by_cases hredo : (s.rotOf u).redo = true
  · have hmoved := rotGo_moved (u := u) (st := 6) (y := { s.rotOf u with swap := none, redo := false, relieved := some old }) (s := s)
      (by decide) hr hrot
    rw [if_pos hredo]
    generalize rotGo u 6 _ = t at hmoved
    obtain ⟨-, hstep, hbeside, hregs, hheld, -, -, -, -, hmem, hraised⟩ := hmoved
    exact ⟨by rw [if_pos hredo, hstep], hregs, hbeside, fun _ => by rw [hheld], fun h => absurd hredo (by rw [h]; decide), hmem, hraised⟩
  · have hmoved := RotMoved.of_wr (u := u) (st := 0) (x := { s.rotOf u with redo := false, relieved := none, swap := none }) (s := s)
      (by decide) hr hrot
    have hdomsw : Rising 0 ((s.wr (rotB u) R.BIST_ROT_STAT_STEP 0).setRot u
      { s.rotOf u with redo := false, relieved := none, swap := none }).doms := hdoms
    rw [if_neg hredo, rotEnd_eq]
    generalize (s.wr (rotB u) R.BIST_ROT_STAT_STEP 0).setRot u _ = w at hmoved hdomsw
    obtain ⟨-, hstep, hbeside, hregs, -, -, -, -, -, hmem, hraised⟩ := hmoved
    have hdom := domOf_setDom_same (84 + u) DomSt.idle hdomsw
    obtain ⟨hzregs, -, -, hzmem, hzraised⟩ := setDom_kept w (84 + u) DomSt.idle
    generalize w.setDom (84 + u) DomSt.idle = z at hdom hzregs hzmem hzraised
    have hzget (k : Nat) : z.getReg k = w.getReg k := by rw [State.getReg, State.getReg, hzregs]
    have hzrd (g : Fld) : z.rd (rotB u) g = w.rd (rotB u) g := by rw [State.rd, State.rd, hzget]
    exact ⟨by rw [if_neg hredo, rotStep, hzrd]; exact hstep, fun k hk => (hzget k).trans (hregs k hk),
      fun g hg => (hzrd g).trans (hbeside g hg), fun h => absurd h hredo, fun _ => hdom, hzmem.trans hmem, hzraised.trans hraised⟩

theorem map_ne_stat {u v i : Nat} (hu : u < 8) : mapB v (i / 6) + 0x50 ≠ rotB u + 0x10 := map_ne_rot hu (.inl rfl)

/-- A swap: TARGET's lane and the shade exchange their elements, and no other lane moves. -/
theorem rotSwap_spec {u : Nat} {s : State} {e : Nat × Nat} (hinv : Inv s) (hu : u < 8) (hruns : rotRuns u s = true)
    (hstep : rotStep u s = 5) (hswap : (s.rotOf u).swap = some e) :
    let k := s.rd (rotB u) R.BIST_ROT_CNT_TARGET
    let t := rotSwap u s
    mapGet u k t = s.rd (rotB u) R.BIST_ROT_STAT_SHADE ∧ t.rd (rotB u) R.BIST_ROT_STAT_SHADE = mapGet u k s ∧
    (∀ v < 8, ∀ i < 16, v ≠ u ∨ i ≠ k → mapGet v i t = mapGet v i s) ∧ t.rd (rotB u) R.BIST_ROT_CNT_TARGET = (k + 1) % 16 ∧
    t.rd (rotB u) R.BIST_ROT_CNT_SWAPS = min 65535 (s.rd (rotB u) R.BIST_ROT_CNT_SWAPS + 1) ∧
    rotStep u t = (if (s.rotOf u).redo = true then 6 else 0) ∧ ((s.rotOf u).redo = true → (t.rotOf u).relieved = some (mapGet u k s)) ∧
    ((s.rotOf u).redo = false → t.domOf (84 + u) = DomSt.idle) ∧ t.raised = s.raised ∧ t.mem = s.mem := by
  have hmaps := hinv.maps_rising
  rw [rotSwap_eq hruns hstep hswap]
  dsimp only
  have hpassed := TimePassed.of_advanceReq s e.1 e.2
  generalize s.advanceReq e.1 e.2 = c at hpassed
  have hmap (v i : Nat) : mapGet v i c = mapGet v i s := mapGet_congr (hpassed.getReg _)
  have hswapped := mapSwapped_swapped (u := u) (s := c) hu (hpassed.regs ▸ hinv.regs_rising)
  rw [hpassed.rd, hmap]
  generalize mapSwapped u c = m at hswapped
  obtain ⟨hrm, htaken, hshade, hothers, htarget, hswaps, hmrot, hmdoms, hmraised, hmmem⟩ := hswapped
  rw [hpassed.rd] at htaken hshade htarget hothers
  have hheld : m.rotOf u = s.rotOf u := by rw [State.rotOf, hmrot, ← hpassed.rotOf]; rfl
  have hend := swapEnd_ended (u := u) (old := mapGet u (s.rd (rotB u) R.BIST_ROT_CNT_TARGET) s) (s := m) hrm
    (hmrot ▸ hpassed.rot ▸ hmaps.rot) (hmdoms ▸ hpassed.doms ▸ hmaps.doms)
  generalize swapEnd u _ m = t at hend
  obtain ⟨htstep, hregs, hbeside, hrelieved, hdom, htmem, htraised⟩ := hend
  rw [hheld] at htstep hrelieved hdom
  have hkept (v i : Nat) : mapGet v i t = mapGet v i m := mapGet_congr (hregs _ (map_ne_stat hu))
  refine ⟨?_, ?_, fun v hv i hi hne => ?_, ?_, ?_, htstep, hrelieved, hdom, ?_, ?_⟩
  · rw [hkept, htaken, hpassed.rd]
  · rw [hbeside _ (by decide), hshade, hmap]
  · rw [hkept, hothers v hv i hi hne, hmap]
  · rw [hbeside _ (by decide), htarget]
  · rw [hbeside _ (by decide), hswaps, hpassed.rd]
  · rw [htraised, hmraised, hpassed.raised]
  · rw [htmem, hmmem, hpassed.mem]

/-! ### Injections -/

theorem bistInject_write {m : Master} {v : Word} {s : State} (h : Served m true 0x80150 v s) :
    writeCmd m 0x80150 v s.fresh = answered m 0x80150 true 0 .done (bistInject v (storedAwake .bist 0x150 0x80150 v s)) :=
  served_gated h rfl rfl rfl rfl (.inr (by decide +kernel)) (by decide +kernel)

theorem bistInject_kept (v : Word) (s : State) : (bistInject v s).raised = s.raised ∧ (bistInject v s).mem = s.mem := ⟨rfl, rfl⟩

/-- BIST.INJECT arms what the word v names, in the unit of its bits 10:8. -/
structure BistArmed (v : Word) (s t : State) : Prop where
  shade : fget v 0 0 = 1 → (t.rotOf (fget v 10 8)).injShade = true
  cmp : fget v 1 1 = 1 → (t.rotOf (fget v 10 8)).injCmp = true
  loop : fget v 2 2 = 1 → t.injLoop = true
  mbist : fget v 3 3 = 1 → t.injMbist = true
  frame : t.raised = s.raised ∧ t.mem = s.mem

theorem bistInject_armed {v : Word} {s : State} (hrot : Rising 0 s.rot) (hunit : s.rd bistB R.BIST_INJECT_INJ_UNIT = fget v 10 8) :
    BistArmed v s (bistInject v s) := by
  have hheld := rotOf_setRot_same (s := s) (fget v 10 8) { s.rotOf (fget v 10 8) with
    injShade := (s.rotOf (fget v 10 8)).injShade || fget v 0 0 == 1
    injCmp := (s.rotOf (fget v 10 8)).injCmp || fget v 1 1 == 1 } hrot
  unfold bistInject
  rw [hunit]
  refine ⟨fun h => ?_, fun h => ?_, fun h => ?_, fun h => ?_, rfl, rfl⟩
  · refine (congrArg RotSt.injShade hheld).trans ?_
    simp [h]
  · refine (congrArg RotSt.injCmp hheld).trans ?_
    simp [h]
  · simp [h]
  · simp [h]

/-- A served write of BIST.INJECT with the word v. -/
theorem bistInject_served {m : Master} {v : Word} {s : State} (hinv : Inv s) (h : Served m true 0x80150 v s) :
    BistArmed v s (writeCmd m 0x80150 v s.fresh) := by
  obtain ⟨⟨m', c', hframe⟩, -, hword, -⟩ :=
    storedAwake_stored (b := .bist) (off := 0x150) (a := 0x80150) (w := v) hinv.regs_rising
  have hunit : (storedAwake .bist 0x150 0x80150 v s).rd bistB R.BIST_INJECT_INJ_UNIT = fget v 10 8 :=
    (congrArg (fun x => fget x 10 8) hword).trans (fget_writtenWord v _ (fun _ _ => rfl) (by decide +kernel))
  rw [bistInject_write h]
  have hrot : Rising 0 (storedAwake .bist 0x150 0x80150 v s).rot := by
    rw [hframe]
    exact hinv.maps_rising.rot
  obtain ⟨h0, h1, h2, h3, hraised, hmem⟩ := bistInject_armed hrot hunit
  refine ⟨h0, h1, h2, h3, hraised.trans ?_, hmem.trans ?_⟩
  · rw [hframe]
    rfl
  · rw [hframe]
    rfl

theorem fget_bit_set (w : Word) {i : Nat} (h : i < 32) : fget (fset w i i 1) i i = 1 := by
  rw [fget_fset_same _ _ _ (by omega), Nat.add_sub_cancel_left]
  rfl

/-- Settles O57: the start of a step, its test, its compare and its swap, and the injections of BIST. -/
theorem shadeRotation : Obligations.ShadeRotation := by
  unfold Obligations.ShadeRotation
  refine ⟨fun j s hinv hmay hstep => ?_, fun j s hidle => ?_, fun j sig s hinv hruns hstep hredo => ?_,
    fun j differs s hinv hruns hstep => ?_, fun j s e hinv hruns hstep hswap => ?_, fun m w s hinv => ?_⟩
  · have hspec := rotStart_spec (s := s.fresh) hinv j.isLt hmay hstep
    obtain ⟨h1, h2, h3, h4, h5, h6, h7, h8⟩ := hspec
    exact ⟨_, exec_closed (f := rotStart j.val) rfl rfl, h1, h2, h3, h4, h5, h6, fun v hv => h7 v (fun he => hv (Fin.ext he)), h8⟩
  · exact exec_closed (f := rotStart j.val) rfl (rotStart_idle (s := s.fresh) hidle)
  · intro p k hp hrel
    exact ⟨_, exec_closed (f := rotLbist j.val sig) rfl rfl, rotLbist_spec sig (s := s.fresh) hinv j.isLt hruns hstep hredo hrel hp⟩
  · intro g
    have hexec := exec_closed (i := .rotationCompareDone j differs) (s := s) (f := rotCompared j.val differs) rfl rfl
    by_cases hdiff : differs = true ∨ (s.rotOf j.val).injCmp = true
    · obtain ⟨hframe, hspec⟩ := rotCompared_differs_spec (s := s.fresh) hinv j.isLt hruns hstep hdiff
      have hno (hd : differs = false) (hi : (s.rotOf j.val).injCmp = false) : False := by
        rcases hdiff with h | h
        · exact absurd (hd.symm.trans h) (by decide)
        · exact absurd (hi.symm.trans h) (by decide)
      exact ⟨_, hexec, hframe.1, hframe.2, fun hd hi => (hno hd hi).elim, fun _ => hspec⟩
    · obtain ⟨hd, hi⟩ := not_or.mp hdiff
      obtain rfl := Bool.eq_false_iff.mpr hd
      obtain ⟨hframe, hspec⟩ := rotCompared_equal_spec (s := s.fresh) hinv hruns hstep (Bool.eq_false_iff.mpr hi)
      exact ⟨_, hexec, hframe.1, hframe.2, fun _ _ => hspec, fun h => absurd h hdiff⟩
  · intro k
    obtain ⟨h1, h2, h3, h4⟩ := rotSwap_spec (s := s.fresh) hinv j.isLt hruns hstep hswap
    exact ⟨_, exec_closed (f := rotSwap j.val) rfl rfl, h1, h2,
      fun v i hne => h3 v.val v.isLt i.val i.isLt (hne.imp_left fun hv he => hv (Fin.ext he)), h4⟩
  · intro i
    have hunit {b : Nat} (hb : b < 4) : fget (fset w b b 1) 10 8 = i := fget_fset_beside _ _ _ _ _ _ (.inl (by omega))
    refine ⟨fun h => ?_, fun h => ?_, fun h => ?_, fun h => ?_⟩
    · have ha := bistInject_served hinv h
      exact ⟨_, exec_closed (f := writeCmd m 0x80150 (fset w 0 0 1)) rfl rfl, hunit (b := 0) (by decide) ▸ ha.shade (fget_bit_set w (by decide)), ha.frame⟩
    · have ha := bistInject_served hinv h
      exact ⟨_, exec_closed (f := writeCmd m 0x80150 (fset w 1 1 1)) rfl rfl, hunit (b := 1) (by decide) ▸ ha.cmp (fget_bit_set w (by decide)), ha.frame⟩
    · have ha := bistInject_served hinv h
      exact ⟨_, exec_closed (f := writeCmd m 0x80150 (fset w 2 2 1)) rfl rfl, ha.loop (fget_bit_set w (by decide)), ha.frame⟩
    · have ha := bistInject_served hinv h
      exact ⟨_, exec_closed (f := writeCmd m 0x80150 (fset w 3 3 1)) rfl rfl, ha.mbist (fget_bit_set w (by decide)), ha.frame⟩

end Sys2Proof.Machine
end

section

/-! What the part's edges see: time, memory, the resets and the supplies, and the steps that leave them (R46, R511 to R516). -/

namespace Sys2Proof.Machine

/-- What the pins and supplies bear on. -/
structure EdgeView where
  now : Nat
  mem : List Host.Cell
  waiting : List Access
  inReset : Bool
  bootFrom : Nat
  chipRstAt : Option Nat
  off : Bool
  fatal : Bool
  resetLow : Bool
  resetAt : Nat
  por : Bool
  biasUv : Bool
  offWait : Bool
  wakeBad : Bool

def State.edge (s : State) : EdgeView where
  now := s.now
  mem := s.mem
  waiting := s.waiting
  inReset := s.inReset
  bootFrom := s.bootFrom
  chipRstAt := s.chipRstAt
  off := s.off
  fatal := s.fatal
  resetLow := s.resetLow
  resetAt := s.resetAt
  por := s.por
  biasUv := s.biasUv
  offWait := s.hk.offWait
  wakeBad := s.pwr.wakeBad

/-- From s to t registers of K may have changed, and the edges see nothing. -/
structure EdgeStep (K : Nat → Prop) (s t : State) : Prop where
  touches : Touches K s t
  edge : t.edge = s.edge

section
variable {K L : Nat → Prop} {s t u : State}

theorem EdgeStep.refl (K : Nat → Prop) (s : State) : EdgeStep K s s := ⟨Touches.refl _ _, rfl⟩

theorem EdgeStep.trans (h : EdgeStep K s t) (h' : EdgeStep K t u) : EdgeStep K s u := ⟨h.touches.trans h'.touches, h'.edge.trans h.edge⟩

theorem EdgeStep.mono (h : EdgeStep K s t) (hKL : ∀ k, K k → L k) : EdgeStep L s t := ⟨h.touches.mono hKL, h.edge⟩

theorem EdgeStep.wr (h : EdgeStep K s t) {b : Nat} {f : Fld} (v : Nat) (hk : K (b + f.off)) : EdgeStep K s (t.wr b f v) :=
  ⟨h.touches.wr v hk, h.edge⟩

theorem EdgeStep.cnt (h : EdgeStep K s t) {b : Nat} {f : Fld} (v : Nat) (hk : K (b + f.off)) : EdgeStep K s (t.cnt b f v) := h.wr _ hk

theorem EdgeStep.of_island (h : IslandStep K s t) : EdgeStep K s t := by
  refine ⟨h.touches, ?_⟩
  obtain ⟨_, _, _, _, _, rfl⟩ := h.frame
  rfl

theorem EdgeStep.of_frame (h : Touches K s t) (hf : RaiseFrame s t) : EdgeStep K s t := by
  refine ⟨h, ?_⟩
  obtain ⟨_, _, _, _, rfl⟩ := hf
  rfl

theorem EdgeStep.raise (h : EdgeStep K s t) {id : Nat} (hid : id < 1152) (hK : ∀ k, RaiseKey k → K k) : EdgeStep K s (t.raise id) :=
  h.trans (.of_frame ((Touches.refl _ _).raise hid hK) (.raise _ _))

theorem EdgeStep.foldl {ι : Type} {f : State → ι → State} {l : List ι} (hf : ∀ i ∈ l, ∀ t, EdgeStep K t (f t i)) (s : State) :
    EdgeStep K s (l.foldl f s) := by
  induction l generalizing s with
  | nil => exact EdgeStep.refl K s
  | cons i l ih =>
    exact (hf i List.mem_cons_self s).trans (ih (fun j hj => hf j (List.mem_cons_of_mem i hj)) (f s i))

theorem EdgeStep.rising (h : EdgeStep K s t) (hr : Rising 0 s.regs) : Rising 0 t.regs := (h.touches hr).1

theorem EdgeStep.rd (h : EdgeStep K s t) (hr : Rising 0 s.regs) {b : Nat} {f : Fld} (hk : ¬ K (b + f.off)) : t.rd b f = s.rd b f := by
  rw [State.rd, State.rd, (h.touches hr).2 _ hk]

end

/-- What one item's step makes true, and every item's step keeps, holds at the end of a fold over the items. -/
theorem foldl_holds {ι : Type} {f : State → ι → State} {R P : State → Prop} {l : List ι} {i : ι} (hR : ∀ j ∈ l, ∀ t, R t → R (f t j))
    (hmake : ∀ t, R t → P (f t i)) (hkeep : ∀ j ∈ l, ∀ t, R t → P t → P (f t j)) (hi : i ∈ l) {s : State} (hs : R s) : P (l.foldl f s) := by
  have hstays (l' : List ι) (hsub : ∀ j ∈ l', j ∈ l) (t : State) (ht : R t) (hp : P t) : P (l'.foldl f t) := by
    induction l' generalizing t with
    | nil => exact hp
    | cons j l' ih =>
      have hj := hsub j List.mem_cons_self
      exact ih (fun k hk => hsub k (List.mem_cons_of_mem j hk)) _ (hR j hj t ht) (hkeep j hj t ht hp)
  obtain ⟨l1, l2, rfl⟩ := List.append_of_mem hi
  rw [List.foldl_append, List.foldl_cons]
  have hbefore (l' : List ι) (hsub : ∀ j ∈ l', j ∈ l1 ++ i :: l2) (t : State) (ht : R t) : R (l'.foldl f t) := by
    induction l' generalizing t with
    | nil => exact ht
    | cons j l' ih => exact ih (fun k hk => hsub k (List.mem_cons_of_mem j hk)) _ (hR j (hsub j List.mem_cons_self) t ht)
  have h1 := hbefore l1 (fun j hj => List.mem_append_left _ hj) s hs
  exact hstays l2 (fun j hj => List.mem_append_right _ (List.mem_cons_of_mem i hj)) _ (hR i hi _ h1) (hmake _ h1)

/-! ### The bias island and the safety OTP -/

theorem mem_lanes {n : Nat} : n ∈ lanes ↔ n < 64 := List.mem_range

/-- The keys that the island writes for any lane. -/
def IslandKey (k : Nat) : Prop := ∃ n < 64, BiasKey n k

theorem biasAll_step (s : State) : EdgeStep IslandKey s (biasAll s) :=
  EdgeStep.foldl (fun n hn t => (EdgeStep.of_island (biasEval_step n false t)).mono fun _ hk => ⟨n, mem_lanes.mp hn, hk⟩) s

theorem islandKey_cases {k : Nat} (h : IslandKey k) :
    RaiseKey k ∨ (0x90028 ≤ k ∧ k < 0x90300) ∨ (0x1000000 ≤ k ∧ k < 0x1400000 ∧ 0x7014 ≤ k % 0x10000 ∧ k % 0x10000 ≤ 0x7018) := by
  obtain ⟨n, hn, h | h | h | h | h⟩ := h
  · exact .inr (.inr (by unfold laneB at h; omega))
  · exact .inr (.inr (by unfold laneB at h; omega))
  · exact .inr (.inl (by unfold safeB at h; omega))
  · exact .inr (.inl (by unfold safeB at h; omega))
  · exact .inl h

theorem glb_not_raiseKey {k : Nat} (hk : k < 0x10000) : ¬ RaiseKey k := by
  unfold RaiseKey FltKey EvtKey objKey
  omega

theorem glb_not_islandKey {k : Nat} (hk : k < 0x10000) : ¬ IslandKey k := by
  intro h
  have hraise := glb_not_raiseKey hk
  rcases islandKey_cases h with h | h | h
  · exact hraise h
  · omega
  · omega

/-- With VDD_BIAS low every output falls to 0. -/
theorem biasAll_biasUv {n : Nat} {s : State} (hr : Rising 0 s.regs) (huv : s.biasUv = true) (hn : n < 64) (vb : Bool) :
    (biasAll s).rd (laneB n) (fOut vb) = 0 := by
  have hstep (j : Nat) (t : State) := EdgeStep.of_island (biasEval_step j false t)
  refine foldl_holds (R := fun t => Rising 0 t.regs ∧ t.biasUv = true) (P := fun t => t.rd (laneB n) (fOut vb) = 0) (i := n)
    (fun j _ t ht => ⟨(hstep j t).rising ht.1, ?_⟩) (fun t ht => biasEval_biasUv false ht.1 ht.2 vb) (fun j hj t ht hp => ?_) (mem_lanes.mpr hn)
    ⟨hr, huv⟩
  · exact (congrArg EdgeView.biasUv (hstep j t).edge).trans ht.2
  · by_cases hjn : n = j
    · exact hjn ▸ biasEval_biasUv false ht.1 ht.2 vb
    · rw [(hstep j t).rd ht.1 (lane_not_biasKey (mem_lanes.mp hj) hn hjn (by rw [fOut_off]; decide)), hp]

/-- The keys that a read of the safety OTP writes. -/
def OtpKey (k : Nat) : Prop := RaiseKey k ∨ (0x90000 ≤ k ∧ k < 0xA0000) ∨ 0x1000000 ≤ k

theorem IslandKey.otpKey {k : Nat} (h : IslandKey k) : OtpKey k := by
  rcases islandKey_cases h with h | h | h
  · exact .inl h
  · exact .inr (.inl (by omega))
  · exact .inr (.inr h.1)

theorem glb_not_otpKey {k : Nat} (hk : k < 0x10000) : ¬ OtpKey k := by
  rintro (h | h | h)
  · exact glb_not_raiseKey hk h
  · omega
  · omega

/-- A key of the lanes' words of the safety lock. -/
def SafeLaneKey (k : Nat) : Prop := 0x90040 ≤ k ∧ k < 0x90800

theorem safeCopy_step {n : Nat} (hn : n < 64) (s : State) : EdgeStep SafeLaneKey s (safeCopy n s) := by
  have hkey {f : Fld} (hf : 0x40 ≤ f.off ∧ f.off ≤ 0x700) : SafeLaneKey (safeL n + f.off) := by
    unfold SafeLaneKey safeL safeB
    omega
  exact ((((EdgeStep.refl _ s).wr _ (hkey (by decide))).wr _ (hkey (by decide))).wr _ (hkey (by decide))).wr _ (hkey (by decide))

theorem safeCopies_step (s : State) : EdgeStep SafeLaneKey s (lanes.foldl (fun t n => safeCopy n t) s) :=
  EdgeStep.foldl (fun _ hn t => safeCopy_step (mem_lanes.mp hn) t) s

end Sys2Proof.Machine
end

section

/-! The release of power-on reset, the bias supply, RESET_N and the stuck pins (R511 to R516). -/

namespace Sys2Proof.Machine

theorem State.on_wr_b2n {s : State} (hr : Rising 0 s.regs) (b : Nat) {f : Fld} (v : Bool) (hf : f.hi < 32) (hw : f.hi = f.lo) :
    (s.wr b f (b2n v)).on b f = v := by
  rw [State.on, State.rd_wr_same _ _ _ _ hr hf, hw, Nat.add_sub_cancel_left, b2n_mod]
  cases v <;> rfl

theorem State.on_wr_one {s : State} (hr : Rising 0 s.regs) (b : Nat) {f : Fld} (hf : f.hi < 32) (hw : f.hi = f.lo) :
    (s.wr b f 1).on b f = true := State.on_wr_b2n hr b true hf hw

theorem EdgeStep.on {K : Nat → Prop} {s t : State} (h : EdgeStep K s t) (hr : Rising 0 s.regs) {b : Nat} {f : Fld} (hk : ¬ K (b + f.off)) :
    t.on b f = s.on b f := State.on_congr (h.rd hr hk)

/-! ### Power-on reset is released -/

/-- The OTP's lock shows, and checks are on. -/
def safeLocked (s : State) : State :=
  if s.otpLockA || s.otpLockB then (s.wr safeB R.SAFE_STATUS_LOCKED 1).wr safeB R.SAFE_CTRL_CHECK_EN 1 else s

theorem safeApply_eq (s : State) : safeApply s = biasAll (safeLocked (lanes.foldl (fun t n => safeCopy n t) s)) := rfl

theorem safeLocked_step (s : State) : EdgeStep OtpKey s (safeLocked s) := by
  have hset : EdgeStep OtpKey s ((s.wr safeB R.SAFE_STATUS_LOCKED 1).wr safeB R.SAFE_CTRL_CHECK_EN 1) :=
    ((EdgeStep.refl _ s).wr _ (.inr (.inl (by decide)))).wr _ (.inr (.inl (by decide)))
  unfold safeLocked
  split
  · exact hset
  · exact EdgeStep.refl _ s

theorem safeLocked_ready {s : State} (hr : Rising 0 s.regs) :
    (safeLocked s).rd safeB R.SAFE_STATUS_OTP_READY = s.rd safeB R.SAFE_STATUS_OTP_READY := by
  unfold safeLocked
  split
  · rw [State.rd_wr_apart (State.wr_rising _ _ _ _ hr) (by decide), State.rd_wr_apart hr (by decide)]
  · rfl

theorem safeApply_step (s : State) : EdgeStep OtpKey s (safeApply s) := by
  rw [safeApply_eq]
  exact (((safeCopies_step s).mono fun k hk => .inr (.inl (by unfold SafeLaneKey at hk; omega))).trans (safeLocked_step _)).trans
    ((biasAll_step _).mono fun _ => IslandKey.otpKey)

theorem safeApply_ready {s : State} (hr : Rising 0 s.regs) :
    (safeApply s).rd safeB R.SAFE_STATUS_OTP_READY = s.rd safeB R.SAFE_STATUS_OTP_READY := by
  have hcopy := safeCopies_step s
  have hisland : ¬ IslandKey (safeB + R.SAFE_STATUS_OTP_READY.off) := by
    intro h
    have hraise : ¬ RaiseKey (safeB + R.SAFE_STATUS_OTP_READY.off) := by unfold RaiseKey FltKey EvtKey; decide
    rcases islandKey_cases h with h | h | h
    · exact hraise h
    · exact absurd h (by decide)
    · exact absurd h (by decide)
  rw [safeApply_eq]
  generalize lanes.foldl (fun t n => safeCopy n t) s = c at hcopy
  have hrc := hcopy.rising hr
  have hcopied : c.rd safeB R.SAFE_STATUS_OTP_READY = s.rd safeB R.SAFE_STATUS_OTP_READY := hcopy.rd hr (by unfold SafeLaneKey; decide)
  have hrl := (safeLocked_step c).rising hrc
  have hlocked := safeLocked_ready hrc
  generalize safeLocked c = l at hrl hlocked
  exact ((biasAll_step l).rd hrl hisland).trans (hlocked.trans hcopied)

/-- The failed checks of a read of the OTP are reported. -/
def otpReported (s : State) : State :=
  if s.otp.any (fun e => e.2.slots.any Slot.bad || e.2.denyA != e.2.denyB) then otpErr s else s

theorem otpReported_step (s : State) : EdgeStep OtpKey s (otpReported s) := by
  have herr : EdgeStep OtpKey s (otpErr s) :=
    ((EdgeStep.refl _ s).wr _ (.inr (.inl (by decide)))).raise (by decide) fun _ => .inl
  unfold otpReported
  split
  · exact herr
  · exact EdgeStep.refl _ s

/-- The state in which the read takes effect. -/
def otpTaken (s : State) : State :=
  ({ otpReported s with bias := mapVals BiasSt.idle (fun _ x => { x with injLim := false }) (otpReported s).bias }).wr safeB
    R.SAFE_STATUS_OTP_READY 1

theorem otpRead_eq (s : State) : otpRead s = safeApply (otpTaken s) := rfl

theorem otpTaken_step (s : State) : EdgeStep OtpKey s (otpTaken s) := by
  have hbias : EdgeStep OtpKey (otpReported s)
      { otpReported s with bias := mapVals BiasSt.idle (fun _ x => { x with injLim := false }) (otpReported s).bias } :=
    ⟨Touches.of_regs rfl, rfl⟩
  exact ((otpReported_step s).trans hbias).wr _ (.inr (.inl (by decide)))

theorem otpRead_step (s : State) : EdgeStep OtpKey s (otpRead s) := by
  rw [otpRead_eq]
  exact (otpTaken_step s).trans (safeApply_step _)

theorem otpRead_ready {s : State} (hr : Rising 0 s.regs) : (otpRead s).on safeB R.SAFE_STATUS_OTP_READY = true := by
  have hrep : Rising 0 (otpReported s).regs := (otpReported_step s).rising hr
  rw [otpRead_eq, State.on_congr (safeApply_ready ((otpTaken_step s).rising hr))]
  exact State.on_wr_one (s := { otpReported s with bias := _ }) hrep safeB (by decide) (by decide)

theorem boot_not_otpKey : ¬ OtpKey (bootB + R.BOOT_STATUS_STATE.off) := by
  unfold OtpKey RaiseKey FltKey EvtKey objKey bootB
  simp only [R.BOOT_STATUS_STATE]
  omega

/-- The pins sampled at the release. -/
def pinsSampled (testMode : Bool) (s : State) : State :=
  (s.wr glbB R.GLB_PIN_STAT_TEST_HI (b2n testMode)).wr glbB R.GLB_PIN_STAT_BIAS_UV (b2n s.biasUv)

theorem porRelease_eq {testMode : Bool} {s : State} (hpor : s.por = true) :
    porRelease testMode s = (let t := otpRead (pinsSampled testMode s)
      { t with por := false, inReset := t.resetLow, bootFrom := t.now
               tl := { t.tl with rateFrom := if t.resetLow then none else some t.now } }) := by
  unfold porRelease pinsSampled
  rw [if_pos hpor]

theorem porRelease_spec {testMode : Bool} {s : State} (hr : Rising 0 s.regs) (hpor : s.por = true) :
    let u := porRelease testMode s
    u.por = false ∧ u.inReset = s.resetLow ∧ u.on glbB R.GLB_PIN_STAT_TEST_HI = testMode ∧ u.on glbB R.GLB_PIN_STAT_BIAS_UV = s.biasUv ∧
    u.bootFrom = s.now ∧ u.on safeB R.SAFE_STATUS_OTP_READY = true ∧ u.bootState = s.bootState ∧
    u.on glbB R.GLB_RESET_CAUSE_PIN = s.on glbB R.GLB_RESET_CAUSE_PIN ∧ u.mem = s.mem := by
  rw [porRelease_eq hpor]
  have hr1 : Rising 0 (s.wr glbB R.GLB_PIN_STAT_TEST_HI (b2n testMode)).regs := State.wr_rising _ _ _ _ hr
  have hr2 : Rising 0 (pinsSampled testMode s).regs := State.wr_rising _ _ _ _ hr1
  have htest : (pinsSampled testMode s).on glbB R.GLB_PIN_STAT_TEST_HI = testMode := by
    rw [pinsSampled, State.on_congr (State.rd_wr_apart hr1 (by decide)), State.on_wr_b2n hr _ _ (by decide) (by decide)]
  have huv : (pinsSampled testMode s).on glbB R.GLB_PIN_STAT_BIAS_UV = s.biasUv :=
    State.on_wr_b2n hr1 _ _ (by decide) (by decide)
  have hother {b : Nat} {f : Fld} (hne : b + f.off ≠ glbB + 0x30) : (pinsSampled testMode s).rd b f = s.rd b f :=
    (State.rd_wr_ne _ _ _ _ _ _ hr1 hne).trans (State.rd_wr_ne _ _ _ _ _ _ hr hne)
  have hcause := State.on_congr (hother (b := glbB) (f := R.GLB_RESET_CAUSE_PIN) (by decide))
  have hboot := hother (b := bootB) (f := R.BOOT_STATUS_STATE) (by decide)
  have hframe : (pinsSampled testMode s).edge = s.edge := rfl
  generalize pinsSampled testMode s = a at hr2 htest huv hcause hboot hframe
  have hstep := otpRead_step a
  have hready := otpRead_ready hr2
  have hglb {f : Fld} (hf : f.off < 0x10000) := hstep.on hr2 (b := glbB) (f := f) (glb_not_otpKey (by unfold glbB; omega))
  have hedge := hstep.edge.trans hframe
  have hbooted := (hstep.rd hr2 boot_not_otpKey).trans hboot
  generalize otpRead a = t at hready hglb hedge hbooted
  exact ⟨rfl, congrArg EdgeView.resetLow hedge, (hglb (by decide)).trans htest, (hglb (by decide)).trans huv, congrArg EdgeView.now hedge,
    hready, hbooted, (hglb (by decide)).trans hcause, congrArg EdgeView.mem hedge⟩

/-! ### The bias supply -/

/-- A flag of PIN_STAT is set, and its detections are counted. -/
def pinCounted (f g : Fld) (s : State) : State := (pinFlag f s).cnt glbB g 1

theorem pinCounted_counted {f g : Fld} {s : State} (hr : Rising 0 s.regs) (hf : f.off = 0x30 ∧ f.hi = f.lo ∧ f.hi < 32)
    (hg : g.off = 0x34 ∧ g.hi = g.lo + 7 ∧ g.hi < 32) :
    Rising 0 (pinCounted f g s).regs ∧ (pinCounted f g s).on glbB f = true ∧ (pinCounted f g s).rd glbB g = min 255 (s.rd glbB g + 1) := by
  obtain ⟨hfoff, hfw, hflt⟩ := hf
  obtain ⟨hgoff, hgw, hglt⟩ := hg
  have hr1 : Rising 0 (pinFlag f s).regs := State.wr_rising _ _ _ _ hr
  refine ⟨State.wr_rising _ _ _ _ hr1, ?_, ?_⟩
  · exact (State.on_congr (State.rd_wr_ne _ _ _ _ _ _ hr1 (by omega))).trans (State.on_wr_one hr _ hflt hfw)
  · rw [pinCounted, State.rd_cnt_same _ _ _ _ hr1 hglt, pinFlag, State.rd_wr_ne _ _ _ _ _ _ hr (by omega), hgw,
      show g.lo + 7 + 1 - g.lo = 8 by omega, show 2 ^ 8 - 1 = 255 from rfl, Nat.min_comm]

/-- The fall of the supply is noted and counted. -/
def uvNoted (s : State) : State := { pinCounted R.GLB_PIN_STAT_BIAS_UV R.GLB_PIN_CNT_BIAS_UV s with biasUv := true }

theorem biasUvFall_eq {s : State} (hpor : s.por = false) (huv : s.biasUv = false) : biasUvFall s = biasAll (uvNoted s) := by
  unfold biasUvFall
  rw [huv, hpor]
  rfl

theorem biasUvFall_spec {s : State} (hr : Rising 0 s.regs) (hpor : s.por = false) (huv : s.biasUv = false) :
    let u := biasUvFall s
    u.biasUv = true ∧ u.on glbB R.GLB_PIN_STAT_BIAS_UV = true ∧
    u.rd glbB R.GLB_PIN_CNT_BIAS_UV = min 255 (s.rd glbB R.GLB_PIN_CNT_BIAS_UV + 1) ∧ u.mem = s.mem ∧
    ∀ n : Lane, u.rd (laneB n.val) (fOut false) = 0 ∧ u.rd (laneB n.val) (fOut true) = 0 := by
  rw [biasUvFall_eq hpor huv]
  obtain ⟨hr2, hflag, hcount⟩ : Rising 0 (uvNoted s).regs ∧ (uvNoted s).on glbB R.GLB_PIN_STAT_BIAS_UV = true ∧
      (uvNoted s).rd glbB R.GLB_PIN_CNT_BIAS_UV = min 255 (s.rd glbB R.GLB_PIN_CNT_BIAS_UV + 1) :=
    pinCounted_counted hr (by decide) (by decide)
  have hframe : (uvNoted s).mem = s.mem ∧ (uvNoted s).biasUv = true := ⟨rfl, rfl⟩
  generalize uvNoted s = a at hr2 hflag hcount hframe
  obtain ⟨hmem, hlow⟩ := hframe
  have hstep := biasAll_step a
  have hglb {f : Fld} (hf : f.off < 0x10000) := hstep.rd hr2 (b := glbB) (f := f) (glb_not_islandKey (by unfold glbB; omega))
  have hzero (n : Lane) : (biasAll a).rd (laneB n.val) (fOut false) = 0 ∧ (biasAll a).rd (laneB n.val) (fOut true) = 0 :=
    ⟨biasAll_biasUv hr2 hlow n.isLt false, biasAll_biasUv hr2 hlow n.isLt true⟩
  have hedge := hstep.edge
  generalize biasAll a = t at hglb hzero hedge
  exact ⟨(congrArg EdgeView.biasUv hedge).trans hlow, (State.on_congr (hglb (by decide))).trans hflag, (hglb (by decide)).trans hcount,
    (congrArg EdgeView.mem hedge).trans hmem, hzero⟩

theorem biasUvRise_spec {s : State} (hr : Rising 0 s.regs) (hpor : s.por = false) (huv : s.biasUv = true) :
    let u := biasUvRise s
    u.biasUv = false ∧ u.rd glbB R.GLB_PIN_CNT_BIAS_UV = s.rd glbB R.GLB_PIN_CNT_BIAS_UV ∧ u.mem = s.mem := by
  have heq : biasUvRise s = biasAll { s with biasUv := false } := by
    unfold biasUvRise biasUvSet
    rw [huv, hpor, Bool.not_true, if_neg Bool.false_ne_true, if_neg Bool.false_ne_true]
  have hstep := biasAll_step { s with biasUv := false }
  have hkept := hstep.rd (b := glbB) (f := R.GLB_PIN_CNT_BIAS_UV) hr (glb_not_islandKey (by decide))
  rw [heq]
  have hedge := hstep.edge
  generalize biasAll { s with biasUv := false } = t at hkept hedge
  exact ⟨congrArg EdgeView.biasUv hedge, hkept, congrArg EdgeView.mem hedge⟩

/-! ### RESET_N rises -/

/-- A key above the global block. -/
abbrev AboveGlb (k : Nat) : Prop := 0x10000 ≤ k

theorem aboveGlb_of_raise {k : Nat} (h : RaiseKey k) : AboveGlb k := by
  by_contra hk
  exact glb_not_raiseKey (by unfold AboveGlb at hk; omega) h

theorem dimApply_step (s : State) : EdgeStep AboveGlb s (dimApply s) := by
  have hlane (act : Nat) (t : State) : EdgeStep AboveGlb t (lanes.foldl (fun t n => t.wr (laneB n) R.EQ_STATUS_THROTTLED act) t) :=
    EdgeStep.foldl (fun n _ t => (EdgeStep.refl _ t).wr _ (by unfold AboveGlb laneB; omega)) t
  have hsync (t : State) : EdgeStep AboveGlb t (cyclesSync t) := ⟨Touches.of_regs rfl, rfl⟩
  exact ((((EdgeStep.refl _ s).wr _ (by decide)).wr _ (by decide)).trans (hlane _ _)).trans ((hsync _).wr _ (by decide))

theorem pwrThermal_step (s : State) : EdgeStep AboveGlb s (pwrThermal s) := by
  unfold pwrThermal
  split
  · exact (((EdgeStep.refl _ s).wr _ (by decide)).trans (dimApply_step _)).raise (by decide) fun _ => aboveGlb_of_raise
  · exact dimApply_step s

/-- A long reset is flagged at its second. -/
def rstLongNoted (long : Bool) (s : State) : State :=
  if long then pinFlag R.GLB_PIN_STAT_RST_LONG (s.advanceNow (s.resetAt + usT 1000000)) else s

theorem rstLongNoted_noted {long : Bool} {s : State} (hr : Rising 0 s.regs) :
    let t := rstLongNoted long s
    Rising 0 t.regs ∧ t.mem = s.mem ∧ t.inReset = s.inReset ∧ t.chipRstAt = s.chipRstAt ∧
    (long = true → t.on glbB R.GLB_PIN_STAT_RST_LONG = true ∧ t.now = max s.now (s.resetAt + 39062500000)) ∧
    (long = false → t.on glbB R.GLB_PIN_STAT_RST_LONG = s.on glbB R.GLB_PIN_STAT_RST_LONG ∧ t.now = s.now) := by
  cases long with
  | false => exact ⟨hr, rfl, rfl, rfl, fun h => absurd h (by decide), fun _ => ⟨rfl, rfl⟩⟩
  | true =>
    have hnow : (s.advanceNow (s.resetAt + usT 1000000)).now = max s.now (s.resetAt + 39062500000) := State.advanceNow_now ..
    have hframe : (s.advanceNow (s.resetAt + usT 1000000)).regs = s.regs ∧ (s.advanceNow (s.resetAt + usT 1000000)).mem = s.mem ∧
        (s.advanceNow (s.resetAt + usT 1000000)).inReset = s.inReset ∧ (s.advanceNow (s.resetAt + usT 1000000)).chipRstAt = s.chipRstAt := by
      rw [State.advanceNow, State.advance_eq]
      exact ⟨rfl, rfl, rfl, rfl⟩
    unfold rstLongNoted
    rw [if_pos rfl]
    generalize s.advanceNow (s.resetAt + usT 1000000) = c at hnow hframe
    obtain ⟨hregs, hmem, hin, hat⟩ := hframe
    have hrc : Rising 0 c.regs := hregs ▸ hr
    exact ⟨State.wr_rising _ _ _ _ hrc, hmem, hin, hat, fun _ => ⟨State.on_wr_one hrc _ (by decide) (by decide), hnow⟩,
      fun h => absurd h (by decide)⟩

/-- The part leaves reset unless a hold runs. -/
def resetEnd (s : State) : State := if s.inReset && s.chipRstAt.isNone then chipRelease s else s

theorem resetRise_eq {long : Bool} {s : State} (hlow : s.resetLow = true) (hpor : s.por = false) :
    resetRise long s = resetEnd { rstLongNoted long s with resetLow := false } := by
  unfold resetRise
  rw [hlow, hpor, Bool.not_false, Bool.and_true]
  rfl

theorem chipRelease_step (s : State) :
    EdgeStep AboveGlb { s with inReset := false, bootFrom := s.now, hk := { s.hk with hotKnown := false },
                               tl := { s.tl with rateFrom := some s.now } } (chipRelease s) := pwrThermal_step _

theorem resetEnd_spec {s : State} (hr : Rising 0 s.regs) :
    let t := resetEnd s
    t.resetLow = s.resetLow ∧ t.mem = s.mem ∧ t.now = s.now ∧ t.on glbB R.GLB_PIN_STAT_RST_LONG = s.on glbB R.GLB_PIN_STAT_RST_LONG ∧
    (s.inReset = true → s.chipRstAt = none → t.inReset = false ∧ t.bootFrom = t.now) ∧ (s.chipRstAt ≠ none → t.inReset = s.inReset) := by
  unfold resetEnd
  by_cases h : (s.inReset && s.chipRstAt.isNone) = true
  · rw [if_pos h]
    have hnone : s.chipRstAt = none := Option.isNone_iff_eq_none.mp (Bool.and_eq_true_iff.mp h).2
    have hstep := chipRelease_step s
    have hflag := hstep.on hr (b := glbB) (f := R.GLB_PIN_STAT_RST_LONG) (by decide)
    generalize chipRelease s = t at hstep hflag
    have hedge := hstep.edge
    have hnow : t.now = s.now := congrArg EdgeView.now hedge
    exact ⟨congrArg EdgeView.resetLow hedge, congrArg EdgeView.mem hedge, hnow, hflag,
      fun _ _ => ⟨congrArg EdgeView.inReset hedge, (congrArg EdgeView.bootFrom hedge).trans hnow.symm⟩, fun hat => absurd hnone hat⟩
  · rw [if_neg h]
    exact ⟨rfl, rfl, rfl, rfl, fun hin hat => absurd (by rw [hin, hat]; rfl) h, fun _ => rfl⟩

theorem resetRise_spec {long : Bool} {s : State} (hr : Rising 0 s.regs) (hlow : s.resetLow = true) (hpor : s.por = false) :
    let u := resetRise long s
    u.resetLow = false ∧ u.mem = s.mem ∧ (s.inReset = true → s.chipRstAt = none → u.inReset = false ∧ u.bootFrom = u.now) ∧
    (s.chipRstAt ≠ none → u.inReset = s.inReset) ∧
    (long = true → u.on glbB R.GLB_PIN_STAT_RST_LONG = true ∧ u.now = max s.now (s.resetAt + 39062500000)) ∧
    (long = false → u.on glbB R.GLB_PIN_STAT_RST_LONG = s.on glbB R.GLB_PIN_STAT_RST_LONG ∧ u.now = s.now) := by
  rw [resetRise_eq hlow hpor]
  obtain ⟨hrt, hmem, hin, hat, hlong, hshort⟩ := rstLongNoted_noted (long := long) hr
  generalize rstLongNoted long s = t at hrt hmem hin hat hlong hshort
  obtain ⟨h1, h2, h3, h4, h5, h6⟩ := resetEnd_spec (s := { t with resetLow := false }) hrt
  generalize resetEnd { t with resetLow := false } = u at h1 h2 h3 h4 h5 h6
  exact ⟨h1, h2.trans hmem, fun hi ha => h5 (hin.trans hi) (hat.trans ha), fun ha => (h6 (hat ▸ ha)).trans hin,
    fun hl => ⟨h4.trans (hlong hl).1, h3.trans (hlong hl).2⟩, fun hl => ⟨h4.trans (hshort hl).1, h3.trans (hshort hl).2⟩⟩

/-! ### Stuck pins -/

theorem wakeStuckSet_spec {s : State} (hr : Rising 0 s.regs) (hpor : s.por = false) (hrest : s.pwrState ≠ 3) (hgood : s.pwr.wakeBad = false) :
    let u := wakeStuckSet s
    u.on glbB R.GLB_PIN_STAT_WAKE_STUCK = true ∧
    u.rd glbB R.GLB_PIN_CNT_WAKE_STUCK = min 255 (s.rd glbB R.GLB_PIN_CNT_WAKE_STUCK + 1) ∧ u.pwr.wakeBad = true ∧ u.raised = s.raised ∧
    u.mem = s.mem := by
  have hgo : (s.por || s.pwrState == 3 || s.pwr.wakeBad) = false := by rw [hpor, hgood, beq_eq_false_iff_ne.mpr hrest]; rfl
  obtain ⟨hrc, hflag, hcount⟩ := pinCounted_counted (f := R.GLB_PIN_STAT_WAKE_STUCK) (g := R.GLB_PIN_CNT_WAKE_STUCK) hr (by decide)
    (by decide)
  unfold wakeStuckSet
  rw [hgo, if_neg Bool.false_ne_true]
  refine ⟨(State.on_congr (State.rd_wr_apart hrc (by decide))).trans hflag, (State.rd_wr_ne _ _ _ _ _ _ hrc (by decide)).trans hcount,
    rfl, rfl, rfl⟩

theorem syncStuckSet_spec {s : State} (hr : Rising 0 s.regs) (hpor : s.por = false) (hgood : s.syncBad = none) :
    let u := syncStuckSet s
    u.on glbB R.GLB_PIN_STAT_SYNC_STUCK = true ∧
    u.rd glbB R.GLB_PIN_CNT_SYNC_STUCK = min 255 (s.rd glbB R.GLB_PIN_CNT_SYNC_STUCK + 1) ∧ u.syncBad = some s.now ∧ u.raised = s.raised ∧
    u.mem = s.mem := by
  obtain ⟨-, hflag, hcount⟩ := pinCounted_counted (f := R.GLB_PIN_STAT_SYNC_STUCK) (g := R.GLB_PIN_CNT_SYNC_STUCK) hr (by decide)
    (by decide)
  unfold syncStuckSet
  rw [hpor, hgood, Option.any_none, Bool.or_false, if_neg Bool.false_ne_true]
  exact ⟨hflag, hcount, rfl, rfl, rfl⟩

end Sys2Proof.Machine
end

section

/-! Power-on reset, the chip reset by RESET_N (R46, R456, R511 to R516), and O59. -/

namespace Sys2Proof.Machine

theorem filterKeys_eq {α : Type} (q : Nat → Bool) (m : List (Nat × α)) : m.filter (fun x => q x.1) = dropKeys (fun k => !q k) m := by
  simp [dropKeys]

theorem filterKeys_rising {α : Type} (q : Nat → Bool) {m : List (Nat × α)} (h : Rising 0 m) : Rising 0 (m.filter (fun x => q x.1)) := by
  rw [filterKeys_eq]
  exact dropKeys_rising _ h

theorem look_filterKeys {α : Type} (d : α) (q : Nat → Bool) {m : List (Nat × α)} (h : Rising 0 m) (j : Nat) :
    look d (m.filter (fun x => q x.1)) j = if q j then look d m j else d := by
  rw [filterKeys_eq, look_dropKeys d _ h]
  cases q j <;> rfl

/-! ### Power-on reset -/

/-- A rail is down: what OTP, fuses, flash and the pins hold stays. -/
def poweredOff (s : State) : State :=
  let t : State := { State.reset with
    pending := s.pending, free := s.free, regs := s.regs.filter (fun x => keyIn (objKey 9 0) (16 * 2 ^ 20) x.1),
    otp := s.otp, otpLockA := s.otpLockA, otpLockB := s.otpLockB, biasUv := s.biasUv, flash := s.flash,
    keyOtp := s.keyOtp, fuses := s.fuses, por := true, resetLow := s.resetLow,
    tl := { TlSt.reset with rateFrom := none } }
  { t with hk := { t.hk with offWait := s.off || s.hk.offWait } }

/-- An operation of the safety OTP that the reset cuts short. -/
theorem porAssert_eq (s : State) : ∃ o, porAssert s = shutCount (poweredOff { s with otp := o }) ∧ (s.safeOp = none → o = s.otp) := by
  unfold porAssert
  dsimp only
  cases hop : s.safeOp with
  | none => exact ⟨s.otp, rfl, fun _ => rfl⟩
  | some p =>
    dsimp only
    split
    · refine ⟨_, rfl, fun h => absurd h (by simp)⟩
    · exact ⟨s.otp, rfl, fun _ => rfl⟩

theorem poweredOff_getReg {s : State} (hr : Rising 0 s.regs) {k : Nat} (hk : k < 2 ^ 32) : (poweredOff s).getReg k = resetWord k := by
  have hout : keyIn (objKey 9 0) (16 * 2 ^ 20) k = false := by
    unfold keyIn objKey
    rw [Bool.and_eq_false_iff]
    exact .inl (decide_eq_false (by omega))
  refine (look_filterKeys (resetWord k) (fun k => keyIn (objKey 9 0) (16 * 2 ^ 20) k) hr k).trans ?_
  rw [hout]
  rfl

theorem resetWord_rxState (n : Lane) : fget (resetWord (laneB n.val + R.RX_STATUS_STATE.off)) R.RX_STATUS_STATE.hi R.RX_STATUS_STATE.lo = 0 := by
  revert n
  decide +kernel

theorem poweredOff_spec {s : State} (hr : Rising 0 s.regs) :
    let u := shutCount (poweredOff s)
    u.por = true ∧ u.now = 0 ∧ u.mem = [] ∧ u.waiting = [] ∧ u.booted = false ∧ u.flash = s.flash ∧ u.fuses = s.fuses ∧
    u.keyOtp = s.keyOtp ∧ u.biasUv = s.biasUv ∧ u.resetLow = s.resetLow ∧ u.raised = [] ∧ u.otp = s.otp ∧
    u.tl = { TlSt.reset with rateFrom := none } ∧ u.getReg 0x00040000 = 0 ∧ (u.hk.offWait = (s.off || s.hk.offWait)) ∧
    ∀ n : Lane, u.rxState n.val = 0 := by
  have hrise : Rising 0 (poweredOff s).regs := filterKeys_rising _ hr
  have hget {k : Nat} (hk : k < 2 ^ 32) (hne : k ≠ 0x50460) : (shutCount (poweredOff s)).getReg k = resetWord k :=
    (State.getReg_wr_ne _ _ hrise hne).trans (poweredOff_getReg hr hk)
  have hboot : (shutCount (poweredOff s)).booted = false := by
    rw [State.booted, State.bootState, State.rd, hget (by decide) (by decide)]
    decide +kernel
  have hlane (n : Lane) : (shutCount (poweredOff s)).rxState n.val = 0 := by
    rw [State.rxState, State.rd, hget (by unfold laneB; simp only [R.RX_STATUS_STATE]; omega)
      (by unfold laneB; simp only [R.RX_STATUS_STATE]; omega)]
    exact resetWord_rxState n
  have hpage : (shutCount (poweredOff s)).getReg 0x00040000 = 0 := (hget (by decide) (by decide)).trans (by decide +kernel)
  exact ⟨rfl, rfl, rfl, rfl, hboot, rfl, rfl, rfl, rfl, rfl, rfl, rfl, rfl, hpage, rfl, hlane⟩

theorem porAssert_spec {s : State} (hr : Rising 0 s.regs) :
    let u := porAssert s
    u.por = true ∧ u.now = 0 ∧ u.mem = [] ∧ u.waiting = [] ∧ u.booted = false ∧ u.flash = s.flash ∧ u.fuses = s.fuses ∧
    u.keyOtp = s.keyOtp ∧ u.biasUv = s.biasUv ∧ u.resetLow = s.resetLow ∧ u.raised = [] ∧ (s.safeOp = none → u.otp = s.otp) ∧
    u.tl = { TlSt.reset with rateFrom := none } ∧ u.getReg 0x00040000 = 0 ∧ (u.hk.offWait = (s.off || s.hk.offWait)) ∧
    ∀ n : Lane, u.rxState n.val = 0 := by
  obtain ⟨o, heq, hotp⟩ := porAssert_eq s
  rw [heq]
  obtain ⟨h1, h2, h3, h4, h5, h6, h7, h8, h9, h10, h11, h12, h13⟩ := poweredOff_spec (s := { s with otp := o }) hr
  exact ⟨h1, h2, h3, h4, h5, h6, h7, h8, h9, h10, h11, fun h => h12.trans (hotp h), h13⟩

/-! ### A chip reset -/

/-- Changes within the sources' words of the fault collector. -/
def SrcKey (k : Nat) : Prop := k / 2 ^ 44 = 7

theorem keepTrouble_step (old s : State) : EdgeStep SrcKey s (keepTrouble old s) := by
  unfold keepTrouble
  refine EdgeStep.foldl (fun x hx t => (EdgeStep.refl _ t).wr _ ?_) s
  have hkind : x.1 / 2 ^ 44 = 7 := beq_iff_eq.mp (List.mem_filter.mp hx).2
  have hle : R.FLT_SRC_CFG_TROUBLE.off ≤ x.1 := le_trans (by decide : R.FLT_SRC_CFG_TROUBLE.off ≤ 7 * 2 ^ 44) (by omega)
  unfold SrcKey
  rwa [Nat.sub_add_cancel hle]

/-- The part with the registers that `keeps` names. -/
def chipKept (keeps : Nat → Bool) (s : State) : State :=
  keepPins s (keepBoot s (keepSafety s { State.reset with
    pending := s.pending, now := s.now, free := s.free, mem := s.mem
    regs := s.regs.filter (fun x => keeps x.1), shadow := s.shadow.filter (fun x => keeps x.1) }))

theorem chipClear_eq (keeps : Nat → Bool) (s : State) : chipClear keeps s = keepTrouble s (chipKept keeps s) := rfl

/-- From s to t the registers that `keeps` names stay, and those it does not are reset, but for the sources'. -/
structure ChipCleared (keeps : Nat → Bool) (s t : State) : Prop where
  rising : Rising 0 t.regs
  regs : ∀ k, ¬ SrcKey k → t.getReg k = if keeps k then s.getReg k else resetWord k
  edge : t.now = s.now ∧ t.mem = s.mem ∧ t.waiting = []

theorem chipClear_cleared (keeps : Nat → Bool) {s : State} (hr : Rising 0 s.regs) : ChipCleared keeps s (chipClear keeps s) := by
  have hrise : Rising 0 (chipKept keeps s).regs := filterKeys_rising _ hr
  have hget (k : Nat) : (chipKept keeps s).getReg k = if keeps k then s.getReg k else resetWord k := look_filterKeys _ _ hr k
  have hframe : (chipKept keeps s).now = s.now ∧ (chipKept keeps s).mem = s.mem ∧ (chipKept keeps s).waiting = [] := ⟨rfl, rfl, rfl⟩
  rw [chipClear_eq]
  generalize chipKept keeps s = a at hrise hget hframe
  obtain ⟨hnow, hmem, hwait⟩ := hframe
  have hstep := keepTrouble_step s a
  have hedge := hstep.edge
  obtain ⟨hrt, hkeep⟩ := hstep.touches hrise
  generalize keepTrouble s a = t at hedge hrt hkeep
  exact ⟨hrt, fun k hk => (hkeep k hk).trans (hget k), (congrArg EdgeView.now hedge).trans hnow, (congrArg EdgeView.mem hedge).trans hmem,
    (congrArg EdgeView.waiting hedge).trans hwait⟩

/-- The keys that a domain's move to QUEUED writes. -/
def DomMoveKey (d k : Nat) : Prop := k = domB d + 0x34 ∨ (pwrB ≤ k ∧ k < pwrB + 0x1000)

theorem domOnSet_step {d : Nat} (hd : d < 84) (v : Bool) (s : State) : EdgeStep (DomMoveKey d) s (domOnSet d v s) := by
  unfold domOnSet
  exact (EdgeStep.refl _ s).wr _ (.inr (by unfold reqB; simp only [R.PWR_DOM_ON_ON]; omega))

theorem domGo_step {d : Nat} (hd : d < 84) (st : Nat) (s : State) : EdgeStep (DomMoveKey d) s (domGo d st s) := by
  have hset : EdgeStep (DomMoveKey d) s ((s.wr (domB d) R.PWR_DOM_STAT_STATE st).wr (domB d) R.PWR_DOM_STAT_DIG_RDY (b2n (st == 3))) :=
    ((EdgeStep.refl _ s).wr _ (.inl rfl)).wr _ (.inl rfl)
  unfold domGo
  dsimp only
  split
  · exact hset.trans (domOnSet_step hd _ _)
  · exact (hset.wr _ (.inl rfl)).trans (domOnSet_step hd _ _)

theorem domStat_ne_domOn (d : Nat) : domB d + R.PWR_DOM_STAT_STATE.off ≠ reqB d + R.PWR_DOM_ON_ON.off := by
  unfold domB reqB Obj.base objKey pwrB
  simp only [R.PWR_DOM_STAT_STATE, R.PWR_DOM_ON_ON]
  omega

theorem domGo_state {d st : Nat} {s : State} (hst : st < 8) (hr : Rising 0 s.regs) : (domGo d st s).domState d = st := by
  have hr1 : Rising 0 (s.wr (domB d) R.PWR_DOM_STAT_STATE st).regs := State.wr_rising _ _ _ _ hr
  have hr2 : Rising 0 ((s.wr (domB d) R.PWR_DOM_STAT_STATE st).wr (domB d) R.PWR_DOM_STAT_DIG_RDY (b2n (st == 3))).regs :=
    State.wr_rising _ _ _ _ hr1
  have hset : ((s.wr (domB d) R.PWR_DOM_STAT_STATE st).wr (domB d) R.PWR_DOM_STAT_DIG_RDY (b2n (st == 3))).rd (domB d)
      R.PWR_DOM_STAT_STATE = st := by
    rw [State.rd_wr_apart hr1 (by decide), State.rd_wr_same _ _ _ _ hr (by decide)]
    exact Nat.mod_eq_of_lt hst
  unfold domGo domOnSet
  dsimp only
  rw [State.domState]
  split
  · rw [State.rd_wr_ne _ _ _ _ _ _ hr2 (domStat_ne_domOn d), hset]
  · rw [State.rd_wr_ne _ _ _ _ _ _ (State.wr_rising _ _ _ _ hr2)
      (domStat_ne_domOn d), State.rd_wr_apart hr2 (by decide), hset]

end Sys2Proof.Machine
end

section

/-! The chip reset by RESET_N (R46, R456, R497), and O59. -/

namespace Sys2Proof.Machine

/-- The part held in reset, with what AON keeps. -/
def resetHeld (s t : State) : State :=
  { t with
    inReset := true,
    pwr := { t.pwr with out := s.pwr.out, wakeBad := s.pwr.wakeBad },
    hk := { t.hk with ts := s.hk.ts, warn := s.hk.warn, thr := s.hk.thr, shut := s.hk.shut, thAt := s.hk.thAt,
                      offWait := s.hk.offWait, clearing := s.hk.clearing } }

/-- A domain's answer is cleared. -/
def domUnanswered (t : State) (d : Nat) : State :=
  ((t.wr (domB d) R.PWR_DOM_STAT_QWAIT 0).wr (domB d) R.PWR_DOM_STAT_ANSWER 0).wr (domB d) R.PWR_DOM_STAT_CAUSE 0

/-- The domains' answers are cleared. -/
def domsUnanswered (t : State) : State := (List.range 84).foldl domUnanswered t

/-- The domains of `off` are queued. -/
def domsQueued (off : List Nat) (t : State) : State := off.foldl (fun t d => domQueue d false t) t

/-- The rate window of the timeline ends. -/
def rateStopped (t : State) : State := { t with tl := { t.tl with rateFrom := none } }

theorem rateStopped_kept (t : State) : (rateStopped t).edge = t.edge ∧ (rateStopped t).regs = t.regs := by
  unfold rateStopped State.edge
  exact ⟨rfl, rfl⟩

theorem chipReset_eq (cause : Fld) (s : State) :
    chipReset cause s = (lanes.foldl (fun t n => biasChipReset n t)
      (domsQueued ((List.range 84).filter (fun d => !s.domOn d)) (rateStopped (domsUnanswered (resetHeld s (chipClear (chipKeeps s) s)))))).wr glbB cause 1 := rfl

/-! ### The domains -/

theorem domB_eq (d : Nat) : domB d = 5 * 2 ^ 44 + d * 2 ^ 20 := rfl

theorem domB_inj {d e : Nat} (h : d ≠ e) : domB d + 0x34 ≠ domB e + 0x34 := by
  rw [domB_eq, domB_eq]
  omega

theorem domStat_wr {d e v : Nat} {f : Fld} {t : State} (hr : Rising 0 t.regs) (hoff : f.off = 0x34)
    (hf : apart f R.PWR_DOM_STAT_STATE = true) : (t.wr (domB e) f v).domState d = t.domState d := by
  unfold State.domState
  by_cases he : d = e
  · rw [he, State.rd_wr_apart hr hf]
  · refine State.rd_wr_ne _ _ _ _ _ _ hr ?_
    rw [hoff]
    exact domB_inj he

theorem domUnanswered_state {d e : Nat} {t : State} (hr : Rising 0 t.regs) :
    Rising 0 (domUnanswered t e).regs ∧ (domUnanswered t e).domState d = t.domState d := by
  have hr1 : Rising 0 (t.wr (domB e) R.PWR_DOM_STAT_QWAIT 0).regs := State.wr_rising _ _ _ _ hr
  have hr2 : Rising 0 ((t.wr (domB e) R.PWR_DOM_STAT_QWAIT 0).wr (domB e) R.PWR_DOM_STAT_ANSWER 0).regs := State.wr_rising _ _ _ _ hr1
  refine ⟨State.wr_rising _ _ _ _ hr2, ?_⟩
  rw [domUnanswered, domStat_wr hr2 rfl (by decide), domStat_wr hr1 rfl (by decide), domStat_wr hr rfl (by decide)]

theorem domsUnanswered_state (d : Nat) {t : State} (hr : Rising 0 t.regs) : (domsUnanswered t).domState d = t.domState d := by
  unfold domsUnanswered
  generalize List.range 84 = l
  induction l generalizing t with
  | nil => rfl
  | cons e l ih =>
    obtain ⟨hre, he⟩ := domUnanswered_state (d := d) (e := e) hr
    rw [List.foldl_cons, ih hre, he]

/-- The keys of the domains' words. -/
def DomsKey (k : Nat) : Prop := (∃ d, k = domB d + 0x34) ∨ (pwrB ≤ k ∧ k < pwrB + 0x1000)

theorem domUnanswered_step (d : Nat) (t : State) : EdgeStep DomsKey t (domUnanswered t d) :=
  (((EdgeStep.refl _ t).wr _ (.inl ⟨d, rfl⟩)).wr _ (.inl ⟨d, rfl⟩)).wr _ (.inl ⟨d, rfl⟩)

theorem domsUnanswered_step (t : State) : EdgeStep DomsKey t (domsUnanswered t) := EdgeStep.foldl (fun d _ t => domUnanswered_step d t) t

theorem domQueue_step {d : Nat} (hd : d < 84) (t : State) : EdgeStep (DomMoveKey d) t (domQueue d false t) := by
  have hset : EdgeStep (DomMoveKey d) t (t.setDom d { t.domOf d with queuedAt := t.now, down := false, up := false }) :=
    ⟨Touches.of_regs rfl, rfl⟩
  exact hset.trans (domGo_step hd 1 _)

theorem domQueue_state {d : Nat} {t : State} (hr : Rising 0 t.regs) : (domQueue d false t).domState d = 1 :=
  domGo_state (s := t.setDom d { t.domOf d with queuedAt := t.now, down := false, up := false }) (by decide) hr

theorem DomMoveKey.doms {d k : Nat} (h : DomMoveKey d k) : DomsKey k := h.imp_left fun hk => ⟨d, hk⟩

theorem domsQueued_step {off : List Nat} (hoff : ∀ d ∈ off, d < 84) (t : State) : EdgeStep DomsKey t (domsQueued off t) :=
  EdgeStep.foldl (fun d hd t => (domQueue_step (hoff d hd) t).mono fun _ => DomMoveKey.doms) t

theorem domStat_not_move {d e : Nat} (h : d ≠ e) : ¬ DomMoveKey e (domB d + R.PWR_DOM_STAT_STATE.off) := by
  rintro (hk | hk)
  · exact domB_inj h hk
  · unfold domB Obj.base objKey pwrB at hk
    simp only [R.PWR_DOM_STAT_STATE] at hk
    omega

theorem domsQueued_state {off : List Nat} {d : Nat} (hoff : ∀ e ∈ off, e < 84) {t : State} (hr : Rising 0 t.regs) :
    (d ∈ off → (domsQueued off t).domState d = 1) ∧ (d ∉ off → (domsQueued off t).domState d = t.domState d) := by
  constructor
  · intro hd
    refine foldl_holds (R := fun t => Rising 0 t.regs) (P := fun t => t.domState d = 1) (i := d)
      (fun e he t ht => (domQueue_step (hoff e he) t).rising ht) (fun t ht => domQueue_state ht) (fun e he t ht hp => ?_) hd hr
    by_cases hde : d = e
    · exact hde ▸ domQueue_state ht
    · rw [State.domState, (domQueue_step (hoff e he) t).rd ht (domStat_not_move hde)]
      exact hp
  · intro hd
    have hstep : EdgeStep (fun k => ∃ e ∈ off, DomMoveKey e k) t (domsQueued off t) :=
      EdgeStep.foldl (fun e he t => (domQueue_step (hoff e he) t).mono fun _ hk => ⟨e, he, hk⟩) t
    refine hstep.rd hr ?_
    rintro ⟨e, he, hk⟩
    have hne : d ≠ e := by
      rintro rfl
      exact hd he
    exact domStat_not_move hne hk

/-! ### The bias groups -/

/-- The keys that a chip reset of the lanes' bias groups writes. -/
def BiasResetKey (k : Nat) : Prop := IslandKey k ∨ (0x1000000 ≤ k ∧ k < 0x1400000)

/-- A field of a lane takes another's word, in both banks. -/
def fieldLoaded (b : Nat) (f g : Fld) (s : State) : State := (s.wr b f (s.rd b g)).wrSh b f (s.rd b g)

theorem fieldLoaded_step {n : Nat} (hn : n < 64) {f : Fld} (hf : f.off < 0x10000) (g : Fld) (s : State) :
    EdgeStep BiasResetKey s (fieldLoaded (laneB n) f g s) := by
  have hset : EdgeStep BiasResetKey s (s.wr (laneB n) f (s.rd (laneB n) g)) :=
    (EdgeStep.refl _ s).wr _ (.inr (by unfold laneB; omega))
  exact hset.trans ⟨Touches.of_regs rfl, rfl⟩

theorem biasClearWritten_step {n : Nat} (hn : n < 64) (s : State) : EdgeStep BiasResetKey s (biasClearWritten n s) := by
  have heval (t : State) : EdgeStep BiasResetKey t (biasEval n false t) :=
    (EdgeStep.of_island (biasEval_step n false t)).mono fun _ hk => .inl ⟨n, hn, hk⟩
  unfold biasClearWritten
  dsimp only
  split
  · exact ((((fieldLoaded_step hn (by decide) R.BIAS_CLEAR_IB_CRNG s).trans (fieldLoaded_step hn (by decide) R.BIAS_CLEAR_VB_CRNG _)).trans
      (fieldLoaded_step hn (by decide) R.BIAS_CLEAR_IB_CLR _)).trans (fieldLoaded_step hn (by decide) R.BIAS_CLEAR_VB_CLR _)).trans (heval _)
  · exact heval s

theorem biasChipReset_step {n : Nat} (hn : n < 64) (s : State) : EdgeStep BiasResetKey s (biasChipReset n s) := by
  have hset (x : BiasSt) : EdgeStep BiasResetKey s (s.setBias n x) := ⟨Touches.of_regs rfl, rfl⟩
  exact ((hset _).wr _ (.inr (by unfold laneB; simp only [R.BIAS_STATUS_FOLLOW_CLR]; omega))).trans (biasClearWritten_step hn _)

theorem biasReset_step (s : State) : EdgeStep BiasResetKey s (lanes.foldl (fun t n => biasChipReset n t) s) :=
  EdgeStep.foldl (fun _ hn t => biasChipReset_step (mem_lanes.mp hn) t) s

/-! ### RESET_N falls -/

/-- A part in chip reset. -/
structure ChipHeld (s t : State) : Prop where
  inReset : t.inReset = true
  frame : t.now = s.now ∧ t.mem = s.mem ∧ t.waiting = []
  cause : t.on glbB R.GLB_RESET_CAUSE_PIN = true
  boot : t.bootState = 0
  doms : ∀ d : Dom, t.domState d.val = if s.domOn d.val = true then 3 else 1

theorem keeps_dom {d : Nat} {s : State} (hd : d < 84) (hon : s.domOn d = true) : chipKeeps s (domB d + R.PWR_DOM_STAT_STATE.off) = true := by
  have hkind : (domB d + R.PWR_DOM_STAT_STATE.off) / 2 ^ 44 = 5 := by
    unfold domB Obj.base objKey
    simp only [R.PWR_DOM_STAT_STATE]
    omega
  have hidx : (domB d + R.PWR_DOM_STAT_STATE.off) / 2 ^ 20 % 2 ^ 24 = d := by
    unfold domB Obj.base objKey
    simp only [R.PWR_DOM_STAT_STATE]
    omega
  unfold chipKeeps
  rw [hkind, hidx, hon]
  simp

theorem chipKeeps_boot (s : State) : chipKeeps s (bootB + R.BOOT_STATUS_STATE.off) = false := by
  have hsrc : (keySrc (bootB + R.BOOT_STATUS_STATE.off) == some .por) = false := by decide +kernel
  have hkind : ((bootB + R.BOOT_STATUS_STATE.off) / 2 ^ 44 == 5) = false := by decide
  have hpwr : keyIn (pwrB + 0x20) 12 (bootB + R.BOOT_STATUS_STATE.off) = false := by decide
  unfold chipKeeps
  rw [hsrc, hkind, hpwr]
  rfl

theorem dom_not_biasReset (d : Nat) (hd : d < 84) : ¬ BiasResetKey (domB d + R.PWR_DOM_STAT_STATE.off) := by
  have hkey : domB d + R.PWR_DOM_STAT_STATE.off = 5 * 2 ^ 44 + d * 2 ^ 20 + 0x34 := rfl
  rw [hkey]
  rintro (h | h)
  · rcases islandKey_cases h with h | h | h
    · unfold RaiseKey FltKey EvtKey objKey at h
      omega
    · omega
    · omega
  · omega

theorem boot_not_biasReset : ¬ BiasResetKey (bootB + R.BOOT_STATUS_STATE.off) := by
  have hkey : bootB + R.BOOT_STATUS_STATE.off = 0x10000 := rfl
  rw [hkey]
  rintro (h | h)
  · rcases islandKey_cases h with h | h | h
    · unfold RaiseKey FltKey EvtKey objKey at h
      omega
    · omega
    · omega
  · omega

theorem boot_not_doms : ¬ DomsKey (bootB + R.BOOT_STATUS_STATE.off) := by
  have hkey : bootB + R.BOOT_STATUS_STATE.off = 0x10000 := rfl
  rw [hkey]
  rintro (⟨d, h⟩ | h)
  · rw [domB_eq] at h
    omega
  · unfold pwrB at h
    omega

theorem chipReset_held {s : State} (hr : Rising 0 s.regs) : ChipHeld s (chipReset R.GLB_RESET_CAUSE_PIN s) := by
  have hoff (d : Nat) (hd : d ∈ (List.range 84).filter (fun d => !s.domOn d)) : d < 84 := List.mem_range.mp (List.mem_filter.mp hd).1
  have hcleared := chipClear_cleared (chipKeeps s) hr
  rw [chipReset_eq]
  generalize chipClear (chipKeeps s) s = a at hcleared
  obtain ⟨hra, hregs, hnow, hmem, hwait⟩ := hcleared
  have hbootA : a.bootState = 0 := by
    rw [State.bootState, State.rd, hregs _ (by unfold SrcKey; decide), chipKeeps_boot, if_neg Bool.false_ne_true]
    decide +kernel
  have hdomA (d : Nat) (hd : d < 84) (hon : s.domOn d = true) : a.domState d = 3 := by
    have hsrc : ¬ SrcKey (domB d + R.PWR_DOM_STAT_STATE.off) := by
      unfold SrcKey domB Obj.base objKey
      simp only [R.PWR_DOM_STAT_STATE]
      omega
    rw [State.domState, State.rd, hregs _ hsrc, keeps_dom hd hon, if_pos rfl]
    exact beq_iff_eq.mp hon
  have hheld : (resetHeld s a).inReset = true ∧ (resetHeld s a).now = a.now ∧ (resetHeld s a).mem = a.mem ∧
      (resetHeld s a).waiting = a.waiting ∧ (resetHeld s a).regs = a.regs := ⟨rfl, rfl, rfl, rfl, rfl⟩
  generalize resetHeld s a = b at hheld
  obtain ⟨hin, hbnow, hbmem, hbwait, hbregs⟩ := hheld
  have hrb : Rising 0 b.regs := hbregs ▸ hra
  have hbrd (c : Nat) (f : Fld) : b.rd c f = a.rd c f := by rw [State.rd, State.rd, State.getReg, State.getReg, hbregs]
  have hstepU := domsUnanswered_step b
  have hstateU (d : Nat) := domsUnanswered_state d hrb
  generalize domsUnanswered b = v at hstepU hstateU
  have hrv := hstepU.rising hrb
  have hbootV := (hstepU.rd (b := bootB) (f := R.BOOT_STATUS_STATE) hrb boot_not_doms).trans (hbrd _ _)
  have hstopped := rateStopped_kept v
  generalize rateStopped v = z at hstopped
  obtain ⟨hzedge, hzregs⟩ := hstopped
  have hrz : Rising 0 z.regs := hzregs ▸ hrv
  have hzrd (b : Nat) (f : Fld) : z.rd b f = v.rd b f := by rw [State.rd, State.rd, State.getReg, State.getReg, hzregs]
  have hstepD := domsQueued_step hoff z
  have hrd := hstepD.rising hrz
  have hedgeD := hstepD.edge.trans (hzedge.trans hstepU.edge)
  have hstate (d : Nat) := domsQueued_state (d := d) hoff hrz
  have hbootD := (hstepD.rd (b := bootB) (f := R.BOOT_STATUS_STATE) hrz boot_not_doms).trans ((hzrd _ _).trans hbootV)
  generalize domsQueued _ z = c at hrd hedgeD hstate hbootD
  have hstepL := biasReset_step c
  generalize lanes.foldl (fun t n => biasChipReset n t) c = e at hstepL
  have hre := hstepL.rising hrd
  have hedge := hstepL.edge.trans hedgeD
  refine ⟨(congrArg EdgeView.inReset hedge).trans hin, ⟨(congrArg EdgeView.now hedge).trans (hbnow.trans hnow),
    (congrArg EdgeView.mem hedge).trans (hbmem.trans hmem), (congrArg EdgeView.waiting hedge).trans (hbwait.trans hwait)⟩,
    State.on_wr_one hre _ (by decide) (by decide), ?_, fun d => ?_⟩
  · rw [State.bootState, State.rd_wr_ne _ _ _ _ _ _ hre (by decide), hstepL.rd (b := bootB) (f := R.BOOT_STATUS_STATE) hrd boot_not_biasReset, hbootD]
    exact hbootA
  · have hne : domB d.val + R.PWR_DOM_STAT_STATE.off ≠ glbB + R.GLB_RESET_CAUSE_PIN.off := by
      unfold domB Obj.base objKey glbB
      simp only [R.PWR_DOM_STAT_STATE, R.GLB_RESET_CAUSE_PIN]
      omega
    rw [State.domState, State.rd_wr_ne _ _ _ _ _ _ hre hne, hstepL.rd hrd (dom_not_biasReset _ d.isLt), ← State.domState]
    by_cases hon : s.domOn d.val = true
    · have hout : d.val ∉ (List.range 84).filter (fun d => !s.domOn d) := fun hm => by simp [hon] at hm
      rw [if_pos hon, (hstate _).2 hout, State.domState, hzrd, ← State.domState, hstateU, State.domState, hbrd]
      exact hdomA _ d.isLt hon
    · rw [if_neg hon, (hstate _).1 (List.mem_filter.mpr ⟨List.mem_range.mpr d.isLt, by simpa using hon⟩)]

theorem resetFall_spec {s : State} (hr : Rising 0 s.regs) (hlow : s.resetLow = false) (hpor : s.por = false) (hfatal : s.fatal = false) :
    let u := resetFall s
    u.inReset = true ∧ u.resetLow = true ∧ u.resetAt = s.now ∧ u.chipRstAt = none ∧ u.off = false ∧
    u.on glbB R.GLB_RESET_CAUSE_PIN = true ∧ u.mem = s.mem ∧ u.waiting = [] ∧ u.bootState = 0 ∧
    u.hk.offWait = (s.off || s.hk.offWait) ∧ (∀ d : Dom, u.domState d.val = if s.domOn d.val = true then 3 else 1) := by
  have hgo : (s.fatal || s.resetLow) = false := by rw [hfatal, hlow]; rfl
  unfold resetFall
  rw [hgo, hpor, if_neg Bool.false_ne_true, if_neg Bool.false_ne_true]
  dsimp only
  have hheld := chipReset_held hr
  generalize chipReset R.GLB_RESET_CAUSE_PIN s = t at hheld
  obtain ⟨hin, ⟨-, hmem, hwait⟩, hcause, hboot, hdoms⟩ := hheld
  exact ⟨hin, rfl, rfl, rfl, rfl, hcause, hmem, hwait, hboot, rfl, hdoms⟩

/-- Settles O59: power-on reset and its release, the bias supply, RESET_N and the stuck pins, each from what its step changes. -/
theorem pinsAndSupplies : Obligations.PinsAndSupplies := by
  unfold Obligations.PinsAndSupplies
  refine ⟨fun s hinv => ?_, fun t s hinv hpor => ?_, fun s hinv hpor => ⟨fun huv => ?_, fun huv => ⟨?_, ?_⟩, fun huv => ?_⟩,
    fun s hinv hlow hpor => ⟨fun hfatal => ?_, fun hfatal => ?_⟩, fun long s hinv hlow hpor => ?_,
    fun s hinv hpor => ⟨fun hrest hgood => ?_, fun hidle => ?_, fun hclr => ?_, fun hclr => ?_, fun hgood => ?_, fun t ht hearly => ?_⟩⟩
  · exact ⟨_, exec_closed (f := porAssert) rfl rfl, porAssert_spec (s := s.fresh) hinv.regs_rising⟩
  · exact ⟨_, exec_closed (f := porRelease t) rfl rfl, porRelease_spec (s := s.fresh) hinv.regs_rising hpor⟩
  · exact ⟨_, exec_closed (f := biasUvFall) rfl rfl, biasUvFall_spec (s := s.fresh) hinv.regs_rising hpor huv⟩
  · exact ⟨_, exec_closed (f := biasUvRise) rfl rfl, biasUvRise_spec (s := s.fresh) hinv.regs_rising hpor huv⟩
  · exact exec_closed (f := biasUvFall) rfl (if_pos huv)
  · exact exec_closed (f := biasUvRise) rfl (if_pos (by rw [State.fresh, huv]; rfl))
  · exact exec_closed (f := resetFall) rfl (if_pos (by rw [State.fresh, hfatal]; rfl))
  · exact ⟨_, exec_closed (f := resetFall) rfl rfl, resetFall_spec (s := s.fresh) hinv.regs_rising hlow hpor hfatal⟩
  · exact ⟨_, exec_closed (f := resetRise long) rfl rfl, resetRise_spec (s := s.fresh) hinv.regs_rising hlow hpor⟩
  · exact ⟨_, exec_closed (f := wakeStuckSet) rfl rfl, wakeStuckSet_spec (s := s.fresh) hinv.regs_rising hpor hrest hgood⟩
  · refine exec_closed (f := wakeStuckSet) rfl (if_pos ?_)
    have hidle' : s.fresh.pwrState = 3 ∨ s.fresh.pwr.wakeBad = true := hidle
    rcases hidle' with h | h
    · rw [h, beq_self_eq_true, Bool.or_true, Bool.true_or]
    · rw [h, Bool.or_true]
  · have hon : s.fresh.por = false ∧ s.fresh.on safeB R.SAFE_STATUS_PIN_CLR = true := ⟨hpor, hclr⟩
    exact exec_closed (f := clrLongSet) rfl (if_pos (by rw [hon.1, hon.2]; rfl))
  · have hoff : s.fresh.on safeB R.SAFE_STATUS_PIN_CLR = false := hclr
    exact exec_closed (f := clrLongSet) rfl (if_neg (by rw [hoff, Bool.and_false]; exact Bool.false_ne_true))
  · exact ⟨_, exec_closed (f := syncStuckSet) rfl rfl, syncStuckSet_spec (s := s.fresh) hinv.regs_rising hpor hgood⟩
  · refine exec_closed (f := syncStuckSet) rfl (if_pos ?_)
    have hsome : s.fresh.syncBad = some t := ht
    rw [hsome, Bool.or_eq_true_iff]
    exact .inr (decide_eq_true hearly)

end Sys2Proof.Machine
end

section

/-! What a domain's power-down changes: its machines' registers, and nothing of the other domains (R444, R445). -/

namespace Sys2Proof.Machine

/-- From s to t registers of K and the sequences of domains in D may have changed; the edges, the housekeeping and the power
controller's own lists stay. -/
structure DomStep (K D : Nat → Prop) (s t : State) : Prop where
  touches : Touches K s t
  edge : t.edge = s.edge
  hk : t.hk = s.hk
  pwr : t.pwr = s.pwr
  doms : Rising 0 s.doms → Rising 0 t.doms ∧ ∀ e, ¬ D e → t.domOf e = s.domOf e

section
variable {K L D E : Nat → Prop} {s t u : State}

theorem domOf_of_doms (h : t.doms = s.doms) (e : Nat) : t.domOf e = s.domOf e := by rw [State.domOf, State.domOf, h]

theorem DomStep.of_doms (htouches : Touches K s t) (hedge : t.edge = s.edge) (hhk : t.hk = s.hk) (hpwr : t.pwr = s.pwr)
    (hdoms : t.doms = s.doms) : DomStep K D s t :=
  ⟨htouches, hedge, hhk, hpwr, fun h => ⟨hdoms ▸ h, fun e _ => domOf_of_doms hdoms e⟩⟩

theorem DomStep.refl (K D : Nat → Prop) (s : State) : DomStep K D s s := DomStep.of_doms (Touches.refl _ _) rfl rfl rfl rfl

theorem DomStep.trans (h : DomStep K D s t) (h' : DomStep K D t u) : DomStep K D s u := by
  refine ⟨h.touches.trans h'.touches, h'.edge.trans h.edge, h'.hk.trans h.hk, h'.pwr.trans h.pwr, fun hs => ?_⟩
  obtain ⟨ht, hst⟩ := h.doms hs
  obtain ⟨hu, htu⟩ := h'.doms ht
  exact ⟨hu, fun e he => (htu e he).trans (hst e he)⟩

theorem DomStep.mono (h : DomStep K D s t) (hKL : ∀ k, K k → L k) (hDE : ∀ e, D e → E e) : DomStep L E s t :=
  ⟨h.touches.mono hKL, h.edge, h.hk, h.pwr, fun hs => ⟨(h.doms hs).1, fun e he => (h.doms hs).2 e fun hd => he (hDE e hd)⟩⟩

theorem DomStep.wr (h : DomStep K D s t) {b : Nat} {f : Fld} (v : Nat) (hk : K (b + f.off)) : DomStep K D s (t.wr b f v) :=
  h.trans (.of_doms ((Touches.refl _ _).wr v hk) rfl rfl rfl rfl)

theorem DomStep.cnt (h : DomStep K D s t) {b : Nat} {f : Fld} (v : Nat) (hk : K (b + f.off)) : DomStep K D s (t.cnt b f v) := h.wr _ hk

theorem DomStep.setDom (h : DomStep K D s t) {d : Nat} (x : DomSt) (hd : D d) : DomStep K D s (t.setDom d x) := by
  refine h.trans ⟨Touches.of_regs rfl, rfl, rfl, rfl, fun ht => ⟨put_rising _ _ ht (Nat.zero_le d), fun e he => ?_⟩⟩
  exact look_put_other t.doms ht fun hed => he (hed ▸ hd)

theorem DomStep.of_lane (h : LaneStep s t) (hK : ∀ k, LaneKey k → K k) : DomStep K D s t := by
  have htouches := h.touches.mono hK
  obtain ⟨_, _, _, _, _, _, _, _, _, _, _, _, rfl⟩ := h.frame
  exact .of_doms htouches rfl rfl rfl rfl

theorem DomStep.raise (h : DomStep K D s t) {id : Nat} (hid : id < 1152) (hK : ∀ k, RaiseKey k → K k) : DomStep K D s (t.raise id) := by
  have htouches : Touches K t (t.raise id) := (Touches.refl _ _).raise hid hK
  refine h.trans ?_
  obtain ⟨_, _, _, _, he⟩ := RaiseFrame.raise t id
  rw [he] at htouches ⊢
  exact .of_doms htouches rfl rfl rfl rfl

theorem DomStep.ite {c : Prop} [Decidable c] (h : DomStep K D s t) (h' : DomStep K D s u) : DomStep K D s (if c then t else u) := by
  split
  · exact h
  · exact h'

theorem DomStep.foldl {ι : Type} {f : State → ι → State} {l : List ι} (hf : ∀ i ∈ l, ∀ t, DomStep K D t (f t i)) (s : State) :
    DomStep K D s (l.foldl f s) := by
  induction l generalizing s with
  | nil => exact DomStep.refl K D s
  | cons i l ih => exact (hf i List.mem_cons_self s).trans (ih (fun j hj => hf j (List.mem_cons_of_mem i hj)) (f s i))

theorem DomStep.edgeStep (h : DomStep K D s t) : EdgeStep K s t := ⟨h.touches, h.edge⟩

theorem DomStep.rising (h : DomStep K D s t) (hr : Rising 0 s.regs) : Rising 0 t.regs := (h.touches hr).1

theorem DomStep.rd (h : DomStep K D s t) (hr : Rising 0 s.regs) {b : Nat} {f : Fld} (hk : ¬ K (b + f.off)) : t.rd b f = s.rd b f :=
  h.edgeStep.rd hr hk

end

/-! ### The clamps of a power-down -/

/-- The keys that a domain's machines write as it powers down. -/
def ClampedKey (k : Nat) : Prop := RaiseKey k ∨ (0x80000 ≤ k ∧ k < 2 ^ 32)

theorem LaneKey.clamped {k : Nat} (h : LaneKey k) : ClampedKey k := by
  rcases h with h | h | h
  · exact .inr (by omega)
  · exact .inr (by omega)
  · exact .inl h

/-- The shades of the rotation units. -/
def ShadeDom (e : Nat) : Prop := 84 ≤ e

theorem synNoted_step (o : Nat) (s : State) : DomStep ClampedKey ShadeDom s (synNoted o s) := by
  unfold synNoted
  exact .of_doms (Touches.of_regs rfl) rfl rfl rfl rfl

theorem synGo_step {o : Nat} (ho : o < 8) (st : Nat) (s : State) : DomStep ClampedKey ShadeDom s (synGo o st s) := by
  have hset : DomStep ClampedKey ShadeDom s (s.wr (octB o) R.OCT_SYN_STATUS_STATE st) :=
    (DomStep.refl _ _ s).wr _ (.inr (by unfold octB; simp only [R.OCT_SYN_STATUS_STATE]; omega))
  rcases synGo_cases o st s with ⟨-, -, h⟩ | ⟨-, -, h⟩ | ⟨-, h⟩
  · rw [h]
    exact ((hset.trans (synNoted_step o _)).raise (evOct_lt ho (by decide)) fun _ => .inl).trans
      (.of_lane (octGain_step ho _) fun _ => LaneKey.clamped)
  · rw [h]
    exact (hset.raise (evOct_lt ho (by decide)) fun _ => .inl).trans (.of_lane (octLose_step ho _ _) fun _ => LaneKey.clamped)
  · rw [h]
    exact hset

theorem rotAbandon_step {u : Nat} (hu : u < 8) (s : State) : DomStep ClampedKey ShadeDom s (rotAbandon u s) := by
  have hstep : DomStep ClampedKey ShadeDom s (s.wr (bistB + 4 * u) R.BIST_ROT_STAT_STEP 0) :=
    (DomStep.refl _ _ s).wr _ (.inr (by unfold bistB; simp only [R.BIST_ROT_STAT_STEP]; omega))
  have hrot (t : State) (x : RotSt) : DomStep ClampedKey ShadeDom t (t.setRot u x) := .of_doms (Touches.of_regs rfl) rfl rfl rfl rfl
  exact (hstep.trans (hrot _ _)).setDom _ (by unfold ShadeDom; omega)

theorem sessAnnounced_step (k reason : Nat) (s : State) : DomStep ClampedKey ShadeDom s (sessAnnounced k reason s) := by
  obtain ⟨p, hp⟩ := sessAnnounced_frame k reason s
  rw [hp]
  exact .of_doms (Touches.of_regs rfl) rfl rfl rfl rfl

theorem sessUnbatched_step (k reason gen : Nat) (s : State) : DomStep ClampedKey ShadeDom s (sessUnbatched k reason gen s) := by
  obtain ⟨l, hl⟩ := sessUnbatched_frame k reason gen s
  rw [hl]
  exact .of_doms (Touches.of_regs rfl) rfl rfl rfl rfl

theorem sessKey_clamped {k : Nat} (hk : k < 4) {f : Fld} (hf : f.off < 0x10000) : ClampedKey (sessB k + f.off) :=
  .inr (by unfold sessB ncpB; omega)

theorem sessEnded_step {k : Nat} (hk : k < 4) (reason : Nat) (s : State) : DomStep ClampedKey ShadeDom s (sessEnded k reason s) := by
  unfold sessEnded
  exact ((((DomStep.refl _ _ s).wr _ (sessKey_clamped hk (f := R.NCP_SESS_STAT_STATE) (by decide))).wr _
    (sessKey_clamped hk (f := R.NCP_SESS_STAT_REASON) (by decide))).wr _
    (sessKey_clamped hk (f := R.NCP_SESS_STAT_MODE) (by decide))).wr _ (sessKey_clamped hk (f := R.NCP_SESS_STAT_EVT_SUB) (by decide))

theorem sessClose_step {k : Nat} (hk : k < 4) (reason : Nat) (s : State) : DomStep ClampedKey ShadeDom s (sessClose k reason s) := by
  have hset (t : State) (x : SessSt) : DomStep ClampedKey ShadeDom t (t.setSess k x) := .of_doms (Touches.of_regs rfl) rfl rfl rfl rfl
  by_cases hopen : s.sessOpen k = true
  · rw [sessClose_eq reason hopen]
    exact ((((sessAnnounced_step k reason s).trans (sessUnbatched_step k reason _ _)).trans (sessEnded_step hk reason _)).trans (hset _ _)).raise
      (by decide) fun _ => .inl
  · have heq : sessClose k reason s = s := by
      unfold sessClose
      rw [Bool.eq_false_iff.mpr hopen]
      rfl
    rw [heq]
    exact DomStep.refl _ _ s

theorem ncpOff_step (s : State) : DomStep ClampedKey ShadeDom s (ncpOff s) := by
  have hclosed : DomStep ClampedKey ShadeDom s (sessCloseAll 6 s) :=
    DomStep.foldl (fun k hk t => sessClose_step (List.mem_range.mp hk) 6 t) s
  have hdown := hclosed.wr (b := ncpB) (f := R.NCP_PORT_STATUS_STATE) 0 (.inr (by decide))
  unfold ncpOff portDown
  exact ((hdown.cnt 1 (.inr (by decide))).raise (by decide) fun _ => .inl).ite hdown

theorem domClamp_step {d : Nat} (hd : d < 84) (s : State) : DomStep ClampedKey ShadeDom s (domClamp d s) := by
  unfold domClamp
  split
  · next hlane =>
    have hrx : LaneStep s (rxPowerDown d s) := (LaneStep.refl s).ite (rxGo_step hlane 0 5 s)
    have hwatch : LaneStep s (watchOff d (txEval d (rxPowerDown d s))) :=
      (hrx.trans (txEval_step hlane _)).trans (LaneStep.foldl _ (fun t c _ => (LaneStep.refl t).setChain d c ChainSt.idle) _)
    exact .of_lane hwatch fun _ => LaneKey.clamped
  · split
    · exact (DomStep.refl _ _ s).ite (synGo_step (by omega) 0 s)
    · split
      · exact rotAbandon_step (by omega) s
      · exact (ncpOff_step s).ite (DomStep.refl _ _ s)

/-! ### A domain's power-down -/

/-- The keys that a domain's power-down writes. -/
def DownKey (d k : Nat) : Prop := DomMoveKey d k ∨ ClampedKey k

/-- The sequences that a domain's power-down writes. -/
def DownDom (d e : Nat) : Prop := e = d ∨ ShadeDom e

theorem domGo_domStep {d : Nat} (hd : d < 84) (st : Nat) (s : State) : DomStep (DomMoveKey d) (fun e => e = d) s (domGo d st s) := by
  have hset : DomStep (DomMoveKey d) (fun e => e = d) s
      ((s.wr (domB d) R.PWR_DOM_STAT_STATE st).wr (domB d) R.PWR_DOM_STAT_DIG_RDY (b2n (st == 3))) :=
    ((DomStep.refl _ _ s).wr _ (.inl rfl)).wr _ (.inl rfl)
  have hon (v : Bool) (t : State) : DomStep (DomMoveKey d) (fun e => e = d) t (domOnSet d v t) :=
    (DomStep.refl _ _ t).wr _ (.inr (by unfold reqB; simp only [R.PWR_DOM_ON_ON]; omega))
  unfold domGo
  dsimp only
  split
  · exact hset.trans (hon _ _)
  · exact (hset.wr _ (.inl rfl)).trans (hon _ _)

theorem domQuiesce_step {d : Nat} (hd : d < 84) (s : State) : DomStep (DownKey d) (DownDom d) s (domQuiesce d s) := by
  have hset : DomStep (DownKey d) (DownDom d) s (s.setDom d { s.domOf d with delayAt := 0, down := false, up := false, ack := false }) :=
    (DomStep.refl _ _ s).setDom _ (.inl rfl)
  exact ((hset.wr 1 (.inl (.inl rfl))).trans ((domGo_domStep hd 4 _).mono (fun _ => .inl) fun _ => .inl)).trans
    ((domClamp_step hd _).mono (fun _ => .inr) fun _ => .inr)

/-- A domain that goes to OFF, with its sequence cleared. -/
theorem domToOff_step {d : Nat} (hd : d < 84) (s : State) : DomStep (DownKey d) (DownDom d) s (domToOff d s) := by
  have hset (t : State) (x : DomSt) : DomStep (DownKey d) (DownDom d) t (t.setDom d x) := (DomStep.refl _ _ t).setDom _ (.inl rfl)
  unfold domToOff
  exact (((domQuiesce_step hd s).ite (DomStep.refl _ _ s)).trans (hset _ _)).trans
    ((domGo_domStep hd 0 _).mono (fun _ => .inl) fun _ => .inl)

theorem domToOff_state {d : Nat} (hd : d < 84) {s : State} (hr : Rising 0 s.regs) : (domToOff d s).domState d = 0 := by
  have hstep := (domQuiesce_step hd s).ite (c := s.domOn d = true) (DomStep.refl _ _ s)
  unfold domToOff
  dsimp only
  generalize (if s.domOn d = true then domQuiesce d s else s) = t at hstep
  exact domGo_state (s := t.setDom d _) (by decide) (hstep.rising hr)

theorem domState_not_clamped {d : Nat} (hd : d < 84) : ¬ ClampedKey (domB d + R.PWR_DOM_STAT_STATE.off) := by
  rw [domB_eq]
  simp only [R.PWR_DOM_STAT_STATE]
  rintro (h | h)
  · unfold RaiseKey FltKey EvtKey objKey at h
    omega
  · omega

theorem domState_not_down {d e : Nat} (hd : d < 84) (h : d ≠ e) : ¬ DownKey e (domB d + R.PWR_DOM_STAT_STATE.off) := by
  rintro (hk | hk)
  · exact domStat_not_move h hk
  · exact domState_not_clamped hd hk

end Sys2Proof.Machine
end

section

/-! The thermal sensors' readings, HOT and the levels (R469, R470). -/

namespace Sys2Proof.Machine

/-! ### Bits of a mask -/

theorem bit_add_two_pow {m i j : Nat} (hclear : m / 2 ^ i % 2 = 0) (hij : j ≠ i) : (m + 2 ^ i) / 2 ^ j % 2 = m / 2 ^ j % 2 := by
  rcases Nat.lt_or_gt_of_ne hij with hlt | hgt
  · obtain ⟨k, rfl⟩ : ∃ k, i = j + (k + 1) := ⟨i - j - 1, by omega⟩
    have hpow : 2 ^ (j + (k + 1)) = 2 ^ j * (2 * 2 ^ k) := by rw [pow_add, pow_succ']
    rw [hpow, Nat.add_mul_div_left _ _ (Nat.two_pow_pos j)]
    omega
  · obtain ⟨k, rfl⟩ : ∃ k, j = i + (k + 1) := ⟨j - i - 1, by omega⟩
    have hpow : 2 ^ (i + (k + 1)) = 2 ^ i * (2 * 2 ^ k) := by rw [pow_add, pow_succ']
    rw [hpow, ← Nat.div_div_eq_div_mul, ← Nat.div_div_eq_div_mul, Nat.add_div_right _ (Nat.two_pow_pos i),
      ← Nat.div_div_eq_div_mul, ← Nat.div_div_eq_div_mul]
    congr 2
    omega

theorem setBit_bit_ne {m i j : Nat} (hij : j ≠ i) : setBit m i / 2 ^ j % 2 = m / 2 ^ j % 2 := by
  unfold setBit
  split
  · rfl
  · next h =>
    have hne : m / 2 ^ i % 2 ≠ 1 := fun he => h (beq_iff_eq.mpr he)
    exact bit_add_two_pow (by omega) hij

theorem clrBit_bit (m i : Nat) : clrBit m i / 2 ^ i % 2 = 0 ∧ ∀ j ≠ i, clrBit m i / 2 ^ j % 2 = m / 2 ^ j % 2 := by
  unfold clrBit
  split
  · next h =>
    have hbit : m / 2 ^ i % 2 = 1 := beq_iff_eq.mp h
    have hle : 2 ^ i ≤ m := by
      by_contra hlt
      rw [Nat.div_eq_of_lt (by omega)] at hbit
      exact absurd hbit (by decide)
    obtain ⟨n, rfl⟩ : ∃ n, m = n + 2 ^ i := ⟨m - 2 ^ i, by omega⟩
    rw [Nat.add_div_right _ (Nat.two_pow_pos i)] at hbit
    rw [Nat.add_sub_cancel]
    have hzero : n / 2 ^ i % 2 = 0 := by omega
    exact ⟨hzero, fun j hj => (bit_add_two_pow hzero hj).symm⟩
  · next h =>
    have hne : m / 2 ^ i % 2 ≠ 1 := fun he => h (beq_iff_eq.mpr he)
    exact ⟨by omega, fun _ _ => rfl⟩

/-! ### One sensor -/

/-- The keys that a sensor's reading writes. -/
def SensorKey (k : Nat) : Prop := (0x50408 ≤ k ∧ k < 0x50450) ∨ RaiseKey k

/-- A sensor's sequence is noted. -/
def tsSet (i : Nat) (x : TsSt) (s : State) : State := { s with hk := { s.hk with ts := put TsSt.idle s.hk.ts i x } }

/-- What the thermal logic holds beside the sensors. -/
structure ThermView where
  warn : LvlSt
  thr : LvlSt
  shut : LvlSt
  thAt : Nat

def State.therm (s : State) : ThermView := ⟨s.hk.warn, s.hk.thr, s.hk.shut, s.hk.thAt⟩

/-- From s to t sensor i gave a reading: x is what it holds after. -/
structure SensorRead (i : Nat) (x : TsSt) (failed : Bool) (s t : State) : Prop where
  step : EdgeStep SensorKey s t
  therm : t.therm = s.therm
  ts : Rising 0 t.hk.ts
  own : t.tsOf i = x
  others : ∀ j, j ≠ i → t.tsOf j = s.tsOf j
  failed : tsFailed i t = failed
  othersFailed : ∀ j < 31, j ≠ i → tsFailed j t = tsFailed j s

theorem tsSet_own {i : Nat} {x : TsSt} {s : State} (hts : Rising 0 s.hk.ts) :
    (tsSet i x s).tsOf i = x ∧ (∀ j, j ≠ i → (tsSet i x s).tsOf j = s.tsOf j) ∧ Rising 0 (tsSet i x s).hk.ts :=
  ⟨look_put_same _ _ hts, fun _ hj => look_put_other s.hk.ts hts hj, put_rising _ _ hts (Nat.zero_le i)⟩

theorem tsSet_step (i : Nat) (x : TsSt) (s : State) : EdgeStep SensorKey s (tsSet i x s) := ⟨Touches.of_regs rfl, rfl⟩

theorem tsFailed_congr {i : Nat} {s t : State} (h : t.rd hkB R.HK_TH_FAIL_FAILED = s.rd hkB R.HK_TH_FAIL_FAILED) :
    tsFailed i t = tsFailed i s := by
  rw [tsFailed, tsFailed, h]

theorem tsShow_step {i : Nat} (hi : i < 31) (v : Nat) (s : State) : EdgeStep SensorKey s (tsShow i v s) := by
  refine (EdgeStep.refl _ s).wr _ (.inl ?_)
  have hoff : (if (i % 2 == 0) = true then R.HK_TS_EVEN else R.HK_TS_ODD).off = 0x410 := by split <;> rfl
  unfold hkB
  omega

theorem raiseHeld_step {id : Nat} (hid : id < 1152) (s : State) : EdgeStep RaiseKey s (raiseHeld id s) := by
  unfold raiseHeld
  split
  · exact (EdgeStep.refl _ s).raise hid fun _ h => h
  · exact ⟨Touches.of_regs rfl, rfl⟩

theorem raiseHeld_hk (id : Nat) (s : State) : (raiseHeld id s).hk = s.hk := by
  unfold raiseHeld
  split
  · obtain ⟨_, _, _, _, he⟩ := RaiseFrame.raise s id
    rw [he]
  · rfl

theorem tsShow_failed {i v : Nat} {s : State} (hr : Rising 0 s.regs) :
    (tsShow i v s).rd hkB R.HK_TH_FAIL_FAILED = s.rd hkB R.HK_TH_FAIL_FAILED := by
  refine State.rd_wr_ne _ _ _ _ _ _ hr ?_
  have hoff : (if (i % 2 == 0) = true then R.HK_TS_EVEN else R.HK_TS_ODD).off = 0x410 := by split <;> rfl
  simp only [R.HK_TH_FAIL_FAILED]
  omega

/-- The mask of failed sensors, with sensor i's bit written. -/
theorem failed_written {i m : Nat} {s : State} (hr : Rising 0 s.regs) (hi : i < 31)
    (hm : ∀ j ≠ i, m / 2 ^ j % 2 = s.rd hkB R.HK_TH_FAIL_FAILED / 2 ^ j % 2) :
    tsFailed i (s.wr hkB R.HK_TH_FAIL_FAILED m) = (m / 2 ^ i % 2 == 1) ∧
    ∀ j < 31, j ≠ i → tsFailed j (s.wr hkB R.HK_TH_FAIL_FAILED m) = tsFailed j s := by
  have hw : (s.wr hkB R.HK_TH_FAIL_FAILED m).rd hkB R.HK_TH_FAIL_FAILED = m % 2 ^ 31 := State.rd_wr_same _ _ _ _ hr (by decide)
  constructor
  · rw [tsFailed, hw, mod_two_pow_bit hi]
  · intro j hj hne
    rw [tsFailed, hw, mod_two_pow_bit hj, hm j hne, tsFailed]

/-- A valid reading's mark is taken off, and its value shown. -/
def tsGood (i : Nat) (v : Int) (x : TsSt) (s : State) : State :=
  tsShow i (trunc 16 v) ((tsSet i x s).wr hkB R.HK_TH_FAIL_FAILED (clrBit (s.rd hkB R.HK_TH_FAIL_FAILED) i))

/-- A sensor is marked. -/
def tsBad (i : Nat) (x : TsSt) (s : State) : State :=
  raiseHeld 0x407 ((tsShow i 0x8000 ((tsSet i x s).wr hkB R.HK_TH_FAIL_FAILED (setBit (s.rd hkB R.HK_TH_FAIL_FAILED) i))).cnt hkB
    R.HK_TH_CNT_FAILS 1)

theorem tsGood_read {i : Nat} {v : Int} {x : TsSt} {s : State} (hr : Rising 0 s.regs) (hts : Rising 0 s.hk.ts) (hi : i < 31) :
    SensorRead i x false s (tsGood i v x s) ∧ (tsGood i v x s).raised = s.raised := by
  obtain ⟨hown, hothers, hrise⟩ := tsSet_own (i := i) (x := x) hts
  have hbit := clrBit_bit (s.rd hkB R.HK_TH_FAIL_FAILED) i
  obtain ⟨hf, hfo⟩ := failed_written (s := tsSet i x s) (m := clrBit (s.rd hkB R.HK_TH_FAIL_FAILED) i) hr hi hbit.2
  have hw : Rising 0 ((tsSet i x s).wr hkB R.HK_TH_FAIL_FAILED (clrBit (s.rd hkB R.HK_TH_FAIL_FAILED) i)).regs := State.wr_rising _ _ _ _ hr
  have hsame (j : Nat) : tsFailed j (tsGood i v x s) =
      tsFailed j ((tsSet i x s).wr hkB R.HK_TH_FAIL_FAILED (clrBit (s.rd hkB R.HK_TH_FAIL_FAILED) i)) := tsFailed_congr (tsShow_failed hw)
  refine ⟨⟨?_, rfl, hrise, hown, hothers, ?_, fun j hj hne => ?_⟩, rfl⟩
  · exact ((tsSet_step i x s).wr _ (.inl (by decide))).trans (tsShow_step hi _ _)
  · rw [hsame, hf, hbit.1]
    rfl
  · exact (hsame j).trans (hfo j hj hne)

theorem tsSet_read {i : Nat} {x : TsSt} {s : State} (hts : Rising 0 s.hk.ts) : SensorRead i x (tsFailed i s) s (tsSet i x s) := by
  obtain ⟨hown, hothers, hrise⟩ := tsSet_own (i := i) (x := x) hts
  exact ⟨tsSet_step i x s, rfl, hrise, hown, hothers, rfl, fun _ _ _ => rfl⟩

theorem SensorRead.of_hk {i : Nat} {x : TsSt} {f : Bool} {s t u : State} (h : SensorRead i x f s t)
    (hstep : EdgeStep SensorKey t u) (hhk : u.hk = t.hk) (hfail : u.rd hkB R.HK_TH_FAIL_FAILED = t.rd hkB R.HK_TH_FAIL_FAILED) :
    SensorRead i x f s u := by
  have htherm : u.therm = t.therm := by rw [State.therm, State.therm, hhk]
  have hts (j : Nat) : u.tsOf j = t.tsOf j := by rw [State.tsOf, State.tsOf, hhk]
  exact ⟨h.step.trans hstep, htherm.trans h.therm, hhk ▸ h.ts, (hts i).trans h.own, fun j hj => (hts j).trans (h.others j hj),
    (tsFailed_congr hfail).trans h.failed, fun j hj hne => (tsFailed_congr hfail).trans (h.othersFailed j hj hne)⟩

theorem tsBad_read {i : Nat} {x : TsSt} {s : State} (hr : Rising 0 s.regs) (hts : Rising 0 s.hk.ts) (hi : i < 31) :
    SensorRead i x true s (tsBad i x s) ∧ (s.pwrState ≠ 3 → Sends 0x407 (tsBad i x s)) := by
  obtain ⟨hown, hothers, hrise⟩ := tsSet_own (i := i) (x := x) hts
  obtain ⟨hf, hfo⟩ := failed_written (s := tsSet i x s) (m := setBit (s.rd hkB R.HK_TH_FAIL_FAILED) i) hr hi fun j hj => setBit_bit_ne hj
  have hw : Rising 0 ((tsSet i x s).wr hkB R.HK_TH_FAIL_FAILED (setBit (s.rd hkB R.HK_TH_FAIL_FAILED) i)).regs := State.wr_rising _ _ _ _ hr
  have hmarked : SensorRead i x true s ((tsSet i x s).wr hkB R.HK_TH_FAIL_FAILED (setBit (s.rd hkB R.HK_TH_FAIL_FAILED) i)) := by
    refine ⟨(tsSet_step i x s).wr _ (.inl (by decide)), rfl, hrise, hown, hothers, ?_, hfo⟩
    rw [hf, setBit_testBit]
    rfl
  have hpwr : ((tsSet i x s).wr hkB R.HK_TH_FAIL_FAILED (setBit (s.rd hkB R.HK_TH_FAIL_FAILED) i)).pwrState = s.pwrState :=
    State.rd_wr_ne _ _ _ _ _ _ hr (by decide)
  unfold tsBad
  generalize (tsSet i x s).wr hkB R.HK_TH_FAIL_FAILED (setBit (s.rd hkB R.HK_TH_FAIL_FAILED) i) = m at hw hmarked hpwr
  have hshow := tsShow_step hi 0x8000 m
  have hshown : SensorRead i x true s (tsShow i 0x8000 m) := hmarked.of_hk hshow rfl (tsShow_failed hw)
  have hpwrShow : (tsShow i 0x8000 m).pwrState = s.pwrState :=
    (hshow.rd hw (b := pwrB) (f := R.PWR_STATUS_STATE) (by unfold SensorKey RaiseKey FltKey EvtKey objKey pwrB; simp only [R.PWR_STATUS_STATE]; omega)).trans hpwr
  have hrs := hshow.rising hw
  generalize tsShow i 0x8000 m = n at hshown hpwrShow hrs
  have hrc : Rising 0 (n.cnt hkB R.HK_TH_CNT_FAILS 1).regs := State.wr_rising _ _ _ _ hrs
  have hcounted : SensorRead i x true s (n.cnt hkB R.HK_TH_CNT_FAILS 1) :=
    hshown.of_hk ((EdgeStep.refl _ n).cnt _ (.inl (by decide))) rfl (State.rd_wr_ne _ _ _ _ _ _ hrs (by decide))
  have hpwrCnt : (n.cnt hkB R.HK_TH_CNT_FAILS 1).pwrState = s.pwrState := (State.rd_wr_ne _ _ _ _ _ _ hrs (by decide)).trans hpwrShow
  generalize n.cnt hkB R.HK_TH_CNT_FAILS 1 = c at hrc hcounted hpwrCnt
  have hraise := raiseHeld_step (id := 0x407) (by decide) c
  refine ⟨hcounted.of_hk (hraise.mono fun _ => .inr) (raiseHeld_hk _ c)
    (hraise.rd hrc (by unfold RaiseKey FltKey EvtKey objKey hkB; simp only [R.HK_TH_FAIL_FAILED]; omega)), fun hrest => ?_⟩
  have hruns : c.islandRuns = true := by
    rw [State.islandRuns, bne_iff_ne]
    exact fun h => hrest (hpwrCnt.symm.trans h)
  unfold raiseHeld
  rw [if_pos hruns]
  exact State.raise_sends rfl

/-- An injected reading is taken. -/
def tsTaken (x : TsSt) : TsSt := { x with injFail := x.injFail - 1, injTemp := if x.injFail != 0 then x.injTemp else x.injTemp - 1 }

theorem tsTaken_idle {x : TsSt} (htemp : x.injTemp = 0) (hfail : x.injFail = 0) : tsTaken x = x := by
  obtain ⟨bad, good, last, injTemp, injDeg, injFail, has⟩ := x
  obtain rfl : injTemp = 0 := htemp
  obtain rfl : injFail = 0 := hfail
  rfl

/-- A reading v of sensor i, valid or not, where it held x. -/
def tsApply (i : Nat) (v : Int) (bad : Bool) (x : TsSt) (s : State) : State :=
  if bad then
    if tsFailed i s || decide (x.bad + 1 < 3) then tsSet i { x with bad := min (x.bad + 1) 3, good := 0 } s
    else tsBad i { x with bad := x.bad + 1, good := 0 } s
  else
    let y := { x with bad := 0, last := v, has := true, good := min 16 (x.good + 1) }
    if tsFailed i s && decide (y.good < 16) then tsSet i y s else tsGood i v y s

theorem tsReading_apply (i : Nat) (raw : BitVec 16) (s : State) :
    tsReading i raw s =
      (let v := if ((s.tsOf i).injTemp != 0) = true then (8 * (s.tsOf i).injDeg : Int) else raw.toInt + tsOfs i s
      tsApply i v ((s.tsOf i).injFail != 0 || decide (v < -440) || decide (1200 < v)) (tsTaken (s.tsOf i)) s) := rfl

/-- What a sensor that is not injected makes of a reading. -/
theorem tsReading_eq {i : Nat} {raw : BitVec 16} {s : State} (htemp : (s.tsOf i).injTemp = 0) (hfail : (s.tsOf i).injFail = 0) :
    tsReading i raw s =
      (let v := raw.toInt + tsOfs i s
      let x := s.tsOf i
      if v < -440 ∨ 1200 < v then
        (if tsFailed i s = true ∨ x.bad < 2 then tsSet i { x with bad := min (x.bad + 1) 3, good := 0 } s
        else tsBad i { x with bad := x.bad + 1, good := 0 } s)
      else
        (let y := { x with bad := 0, last := v, has := true, good := min 16 (x.good + 1) }
        if tsFailed i s = true ∧ x.good < 15 then tsSet i y s else tsGood i v y s)) := by
  have hx : tsTaken (s.tsOf i) = s.tsOf i := tsTaken_idle htemp hfail
  rw [tsReading_apply, hx, htemp, hfail]
  dsimp only
  rw [if_neg (by decide)]
  generalize raw.toInt + tsOfs i s = v
  generalize s.tsOf i = x
  unfold tsApply
  by_cases hbad : v < -440 ∨ 1200 < v
  · have hb : ((0 : Nat) != 0 || decide (v < -440) || decide (1200 < v)) = true := by simpa using hbad
    rw [if_pos hb, if_pos hbad]
    by_cases hm : tsFailed i s = true ∨ x.bad < 2
    · have hm' : (tsFailed i s || decide (x.bad + 1 < 3)) = true := by
        rw [Bool.or_eq_true, decide_eq_true_eq]
        exact hm.imp_right fun h => by omega
      rw [if_pos hm, if_pos hm']
    · have hm' : ¬ (tsFailed i s || decide (x.bad + 1 < 3)) = true := by
        rw [Bool.or_eq_true, decide_eq_true_eq]
        exact fun h => hm (h.imp_right fun h => by omega)
      rw [if_neg hm, if_neg hm']
  · have hb : ¬ ((0 : Nat) != 0 || decide (v < -440) || decide (1200 < v)) = true := by simpa using hbad
    rw [if_neg hb, if_neg hbad]
    by_cases hm : tsFailed i s = true ∧ x.good < 15
    · have hm' : (tsFailed i s && decide (min 16 (x.good + 1) < 16)) = true := by
        rw [Bool.and_eq_true, decide_eq_true_eq]
        exact hm.imp_right fun h => by omega
      rw [if_pos hm, if_pos hm']
    · have hm' : ¬ (tsFailed i s && decide (min 16 (x.good + 1) < 16)) = true := by
        rw [Bool.and_eq_true, decide_eq_true_eq]
        exact fun h => hm (h.imp_right fun h => by omega)
      rw [if_neg hm, if_neg hm']

end Sys2Proof.Machine
end

section

/-! All sensors' readings, HOT, and the levels that follow it (R469 to R471). -/

namespace Sys2Proof.Machine

/-! ### One reading -/

theorem tsReading_invalid {i : Nat} {raw : BitVec 16} {s : State} (hr : Rising 0 s.regs) (hts : Rising 0 s.hk.ts) (hi : i < 31)
    (htemp : (s.tsOf i).injTemp = 0) (hfail : (s.tsOf i).injFail = 0) (hbad : raw.toInt + tsOfs i s < -440 ∨ 1200 < raw.toInt + tsOfs i s) :
    ∃ x f, SensorRead i x f s (tsReading i raw s) ∧ x.last = (s.tsOf i).last ∧ x.good = 0 ∧
      f = (tsFailed i s || decide (2 ≤ (s.tsOf i).bad)) ∧
      (tsFailed i s = false → 2 ≤ (s.tsOf i).bad → s.pwrState ≠ 3 → Sends 0x407 (tsReading i raw s)) := by
  rw [tsReading_eq htemp hfail]
  dsimp only
  rw [if_pos hbad]
  by_cases hm : tsFailed i s = true ∨ (s.tsOf i).bad < 2
  · rw [if_pos hm]
    refine ⟨_, _, tsSet_read hts, rfl, rfl, ?_, fun hf h2 _ => ?_⟩
    · rcases hm with h | h
      · rw [h]
        rfl
      · rw [decide_eq_false (by omega), Bool.or_false]
    · rcases hm with h | h
      · exact absurd (hf.symm.trans h) (by decide)
      · omega
  · rw [if_neg hm]
    obtain ⟨hread, hsend⟩ := tsBad_read (x := { s.tsOf i with bad := (s.tsOf i).bad + 1, good := 0 }) hr hts hi
    have h2 : 2 ≤ (s.tsOf i).bad := by
      have := not_or.mp hm
      omega
    exact ⟨_, _, hread, rfl, rfl, by rw [decide_eq_true h2, Bool.or_true], fun _ _ h => hsend h⟩

theorem tsReading_valid {i : Nat} {raw : BitVec 16} {s : State} (hr : Rising 0 s.regs) (hts : Rising 0 s.hk.ts) (hi : i < 31)
    (htemp : (s.tsOf i).injTemp = 0) (hfail : (s.tsOf i).injFail = 0) (hlow : -440 ≤ raw.toInt + tsOfs i s)
    (hhigh : raw.toInt + tsOfs i s ≤ 1200) :
    ∃ x f, SensorRead i x f s (tsReading i raw s) ∧
      x = { s.tsOf i with bad := 0, last := raw.toInt + tsOfs i s, has := true, good := min 16 ((s.tsOf i).good + 1) } ∧
      f = (tsFailed i s && decide ((s.tsOf i).good < 15)) ∧ (tsReading i raw s).raised = s.raised := by
  rw [tsReading_eq htemp hfail]
  dsimp only
  rw [if_neg (by omega)]
  by_cases hm : tsFailed i s = true ∧ (s.tsOf i).good < 15
  · rw [if_pos hm]
    exact ⟨_, _, tsSet_read hts, rfl, by rw [hm.1, decide_eq_true hm.2]; rfl, rfl⟩
  · rw [if_neg hm]
    obtain ⟨hread, hraised⟩ := tsGood_read (v := raw.toInt + tsOfs i s)
      (x := { s.tsOf i with bad := 0, last := raw.toInt + tsOfs i s, has := true, good := min 16 ((s.tsOf i).good + 1) }) hr hts hi
    refine ⟨_, _, hread, rfl, ?_, hraised⟩
    cases hmark : tsFailed i s with
    | false => rfl
    | true =>
      have hgood : ¬ (s.tsOf i).good < 15 := fun h => hm ⟨hmark, h⟩
      rw [decide_eq_false hgood]
      rfl

/-! ### All sensors -/

/-- No sensor is marked or injected. -/
def Calm (s : State) : Prop := ∀ i < 31, (s.tsOf i).injTemp = 0 ∧ (s.tsOf i).injFail = 0 ∧ tsFailed i s = false

/-- Sensor i stands at the reading v. -/
def Stands (i : Nat) (v : Int) (s : State) : Prop := (s.tsOf i).last = v ∧ (s.tsOf i).bad = 0 ∧ (s.tsOf i).has = true

/-- From s to t the sensors gave readings, and none is marked. -/
structure Readings (s t : State) : Prop where
  step : EdgeStep SensorKey s t
  therm : t.therm = s.therm
  ts : Rising 0 t.hk.ts
  calm : Calm t
  raised : t.raised = s.raised

theorem Readings.trans {s t u : State} (h : Readings s t) (h' : Readings t u) : Readings s u :=
  ⟨h.step.trans h'.step, h'.therm.trans h.therm, h'.ts, h'.calm, h'.raised.trans h.raised⟩

theorem tsOfs_kept {i : Nat} (hi : i < 31) {s t : State} (hr : Rising 0 s.regs) (h : EdgeStep SensorKey s t) : tsOfs i t = tsOfs i s := by
  have hne (f : Fld) (hf : f.off < 0x1000) : ¬ SensorKey (calB + 4 * (i / 2) + f.off) := by
    unfold SensorKey RaiseKey FltKey EvtKey calB objKey
    omega
  rw [tsOfs, tsOfs, State.rdI, State.rdI, h.rd hr (hne _ (by split <;> decide))]

theorem tsReading_readings {i : Nat} {raw : BitVec 16} {s : State} (hr : Rising 0 s.regs) (hts : Rising 0 s.hk.ts) (hi : i < 31)
    (hcalm : Calm s) (hlow : -440 ≤ raw.toInt + tsOfs i s) (hhigh : raw.toInt + tsOfs i s ≤ 1200) :
    Readings s (tsReading i raw s) ∧ Stands i (raw.toInt + tsOfs i s) (tsReading i raw s) ∧
      ∀ j v, j ≠ i → Stands j v s → Stands j v (tsReading i raw s) := by
  obtain ⟨htemp, hfail, hmark⟩ := hcalm i hi
  obtain ⟨x, f, hread, hx, hf, hraised⟩ := tsReading_valid hr hts hi htemp hfail hlow hhigh
  refine ⟨⟨hread.step, hread.therm, hread.ts, fun j hj => ?_, hraised⟩, ?_, fun j v hne hstands => ?_⟩
  · by_cases hji : j = i
    · rw [hji, hread.own, hread.failed, hx, hf, hmark]
      exact ⟨htemp, hfail, rfl⟩
    · rw [hread.others j hji, hread.othersFailed j hj hji]
      exact hcalm j hj
  · rw [Stands, hread.own, hx]
    exact ⟨rfl, rfl, rfl⟩
  · rw [Stands, hread.others j hne]
    exact hstands

theorem readings_all {raws : List (BitVec 16)} {s : State} (hr : Rising 0 s.regs) (hts : Rising 0 s.hk.ts) (hcalm : Calm s)
    (hrange : ∀ i < 31, -440 ≤ (raws.getD i 0).toInt + tsOfs i s ∧ (raws.getD i 0).toInt + tsOfs i s ≤ 1200)
    (l : List Nat) (hl : ∀ i ∈ l, i < 31) :
    let t := l.foldl (fun s i => tsReading i (raws.getD i 0) s) s
    Readings s t ∧ ∀ i < 31, (i ∈ l ∨ Stands i ((raws.getD i 0).toInt + tsOfs i s) s) → Stands i ((raws.getD i 0).toInt + tsOfs i s) t := by
  induction l generalizing s with
  | nil =>
    exact ⟨⟨EdgeStep.refl _ s, rfl, hts, hcalm, rfl⟩, fun i _ h => h.elim (fun hm => absurd hm List.not_mem_nil) id⟩
  | cons i l ih =>
    have hi := hl i List.mem_cons_self
    obtain ⟨hone, hstands, hkeep⟩ := tsReading_readings hr hts hi hcalm (hrange i hi).1 (hrange i hi).2
    rw [List.foldl_cons]
    generalize tsReading i (raws.getD i 0) s = a at hone hstands hkeep
    have hofs (j : Nat) (hj : j < 31) : tsOfs j a = tsOfs j s := tsOfs_kept hj hr hone.step
    obtain ⟨hrest, hall⟩ := ih (hone.step.rising hr) hone.ts hone.calm (fun j hj => by rw [hofs j hj]; exact hrange j hj)
      (fun j hj => hl j (List.mem_cons_of_mem i hj))
    refine ⟨hone.trans hrest, fun j hj h => ?_⟩
    rw [← hofs j hj]
    refine hall j hj ?_
    by_cases hji : j = i
    · subst hji
      exact .inr (by rw [hofs j hj]; exact hstands)
    · rcases h with h | h
      · exact .inl ((List.mem_cons.mp h).resolve_left hji)
      · exact .inr (by rw [hofs j hj]; exact hkeep j _ hji h)

/-! ### HOT -/

/-- The first of the greatest of n values. -/
def FirstMax (r : Nat → Int) (n i : Nat) : Prop := i < n ∧ (∀ j < n, r j ≤ r i) ∧ ∀ j < i, r j < r i

/-- HOT so far, and sensor i. -/
def hotStep (s : State) (h : Option (Int × Nat)) (i : Nat) : Option (Int × Nat) :=
  if tsFailed i s || !(s.tsOf i).has then h
  else match h with
    | some (v, _) => if v < (s.tsOf i).last then some ((s.tsOf i).last, i) else h
    | none => some ((s.tsOf i).last, i)

/-- HOT over the first n sensors. -/
def hotUpTo (n : Nat) (s : State) : Option (Int × Nat) := (List.range n).foldl (hotStep s) none

theorem hotOf_eq (s : State) : hotOf s = hotUpTo 31 s := rfl

theorem hotUpTo_succ (n : Nat) (s : State) : hotUpTo (n + 1) s = hotStep s (hotUpTo n s) n := by
  rw [hotUpTo, List.range_succ, List.foldl_append]
  rfl

theorem hotStep_none {s : State} {i : Nat} (hmark : tsFailed i s = false) (hhas : (s.tsOf i).has = true) :
    hotStep s none i = some ((s.tsOf i).last, i) := by
  unfold hotStep
  rw [hmark, hhas]
  rfl

theorem hotStep_some {s : State} {i k : Nat} {v : Int} (hmark : tsFailed i s = false) (hhas : (s.tsOf i).has = true) :
    hotStep s (some (v, k)) i = if v < (s.tsOf i).last then some ((s.tsOf i).last, i) else some (v, k) := by
  unfold hotStep
  rw [hmark, hhas]
  rfl

theorem hotUpTo_max {n : Nat} {s : State} (hn : n < 31) (hcalm : ∀ i < 31, tsFailed i s = false ∧ (s.tsOf i).has = true) :
    ∃ i, FirstMax (fun j => (s.tsOf j).last) (n + 1) i ∧ hotUpTo (n + 1) s = some ((s.tsOf i).last, i) := by
  induction n with
  | zero =>
    refine ⟨0, ⟨by omega, fun j hj => ?_, fun j hj => absurd hj (by omega)⟩, (hotUpTo_succ 0 s).trans (hotStep_none (hcalm 0 hn).1 (hcalm 0 hn).2)⟩
    obtain rfl : j = 0 := by omega
    exact le_refl _
  | succ n ih =>
    obtain ⟨i, ⟨hi, hmax, hfirst⟩, hhot⟩ := ih (by omega)
    rw [hotUpTo_succ, hhot, hotStep_some (hcalm _ hn).1 (hcalm _ hn).2]
    by_cases hlt : (s.tsOf i).last < (s.tsOf (n + 1)).last
    · rw [if_pos hlt]
      refine ⟨n + 1, ⟨by omega, fun j hj => ?_, fun j hj => ?_⟩, rfl⟩
      · rcases Nat.lt_or_ge j (n + 1) with h | h
        · exact le_of_lt (lt_of_le_of_lt (hmax j h) hlt)
        · obtain rfl : j = n + 1 := by omega
          exact le_refl _
      · exact lt_of_le_of_lt (hmax j hj) hlt
    · rw [if_neg hlt]
      refine ⟨i, ⟨by omega, fun j hj => ?_, hfirst⟩, rfl⟩
      rcases Nat.lt_or_ge j (n + 1) with h | h
      · exact hmax j h
      · obtain rfl : j = n + 1 := by omega
        exact not_lt.mp hlt

theorem hotOf_max {s : State} (hcalm : ∀ i < 31, tsFailed i s = false ∧ (s.tsOf i).has = true) :
    ∃ i, FirstMax (fun j => (s.tsOf j).last) 31 i ∧ hotOf s = some ((s.tsOf i).last, i) :=
  hotUpTo_max (n := 30) (by decide) hcalm

theorem dieBlind_calm {s : State} (hcalm : ∀ i < 31, tsFailed i s = false) : dieBlind s = false := by
  unfold dieBlind
  rw [List.any_eq_false]
  intro d hd
  have hd5 := List.mem_range.mp hd
  have hmem : ∃ i ∈ dieSensors d, i < 31 := by
    unfold dieSensors
    split
    · exact ⟨0 + 6 * d, List.mem_map.mpr ⟨0, by decide, rfl⟩, by omega⟩
    · exact ⟨0 + 24, List.mem_map.mpr ⟨0, by decide, rfl⟩, by decide⟩
  obtain ⟨i, hi, hlt⟩ := hmem
  rw [List.all_eq_true]
  intro hall
  have := hall i hi
  rw [hcalm i hlt] at this
  exact absurd this (by decide)

/-! ### Levels -/

theorem feed_off {x : LvlSt} {hot lvl h : Int} (hoff : x.on = false) :
    x.feed hot lvl h = if lvl ≤ hot then (if x.n < 2 then { x with n := x.n + 1 } else ⟨true, 0⟩) else { x with n := 0 } := by
  unfold LvlSt.feed
  rw [hoff]
  by_cases hl : lvl ≤ hot <;> simp [hl]

theorem feed_on {x : LvlSt} {hot lvl h : Int} (hon : x.on = true) :
    x.feed hot lvl h = if hot < lvl - h then (if x.n < 2 then { x with n := x.n + 1 } else ⟨false, 0⟩) else { x with n := 0 } := by
  unfold LvlSt.feed
  rw [hon]
  by_cases hl : hot < lvl - h <;> simp [hl]

theorem feed_spec (x : LvlSt) (hot lvl h : Int) :
    (x.on = false → (x.feed hot lvl h).on = decide (lvl ≤ hot ∧ 2 ≤ x.n) ∧ (hot < lvl → (x.feed hot lvl h).n = 0) ∧
      (lvl ≤ hot → x.n < 2 → (x.feed hot lvl h).n = x.n + 1)) ∧
    (x.on = true → (x.feed hot lvl h).on = decide (¬ (hot < lvl - h ∧ 2 ≤ x.n)) ∧ (lvl - h ≤ hot → (x.feed hot lvl h).n = 0)) := by
  refine ⟨fun hoff => ?_, fun hon => ?_⟩
  · rw [feed_off hoff]
    by_cases hl : lvl ≤ hot
    · rw [if_pos hl]
      by_cases hn : x.n < 2
      · rw [if_pos hn, decide_eq_false (by omega)]
        exact ⟨hoff, fun h => by omega, fun _ _ => rfl⟩
      · rw [if_neg hn, decide_eq_true ⟨hl, by omega⟩]
        exact ⟨rfl, fun h => by omega, fun _ h => absurd h hn⟩
    · rw [if_neg hl, decide_eq_false (fun h => hl h.1)]
      exact ⟨hoff, fun _ => rfl, fun h => absurd h hl⟩
  · rw [feed_on hon]
    by_cases hl : hot < lvl - h
    · rw [if_pos hl]
      by_cases hn : x.n < 2
      · rw [if_pos hn, decide_eq_true (by omega)]
        exact ⟨hon, fun h => by omega⟩
      · rw [if_neg hn, decide_eq_false (by omega)]
        exact ⟨rfl, fun h => by omega⟩
    · rw [if_neg hl]
      have hno : ¬ (hot < lvl - h ∧ 2 ≤ x.n) := fun h => hl h.1
      exact ⟨hon.trans (decide_eq_true hno).symm, fun _ => rfl⟩

end Sys2Proof.Machine
end

section

/-! What follows HOT: the levels' events, DIM and the self-calibration (R466, R470, R471). -/

namespace Sys2Proof.Machine

/-- The keys that the levels write. -/
def LevelKey (k : Nat) : Prop := k = 0x50404 ∨ k = 0x5040C ∨ RaiseKey k

/-- A level that changed is shown, counted and raised. -/
def levelShown (id : Nat) (c f : Fld) (change v : Bool) (s : State) : State :=
  if change then raiseHeld id ((if v then s.cnt hkB c 1 else s).wr hkB f (b2n v)) else s

/-- The levels fed with HOT. -/
def levelsFed (hot : Int) (s : State) : State :=
  { s with hk := { s.hk with warn := s.hk.warn.feed hot 800 (hyst R.HK_TH_CFG_H_WARN s)
                             thr := s.hk.thr.feed hot 880 (hyst R.HK_TH_CFG_H_THR s) } }

theorem levelStep_eq (hot : Int) (s : State) :
    levelStep hot s = levelShown 0x405 R.HK_TH_CNT_THROTTLES R.HK_TH_STATUS_THROTTLE
      ((s.hk.thr.feed hot 880 (hyst R.HK_TH_CFG_H_THR s)).on != s.hk.thr.on) (s.hk.thr.feed hot 880 (hyst R.HK_TH_CFG_H_THR s)).on
      (levelShown 0x404 R.HK_TH_CNT_WARNS R.HK_TH_STATUS_WARN
        ((s.hk.warn.feed hot 800 (hyst R.HK_TH_CFG_H_WARN s)).on != s.hk.warn.on) (s.hk.warn.feed hot 800 (hyst R.HK_TH_CFG_H_WARN s)).on
        (levelsFed hot s)) := rfl

/-- From s to t a level was shown in the field f of TH_STATUS. -/
structure LevelShown (id : Nat) (f : Fld) (change v : Bool) (s t : State) : Prop where
  step : EdgeStep LevelKey s t
  hk : t.hk = s.hk
  beside : ∀ g : Fld, g.off = 0x404 → apart f g = true → t.rd hkB g = s.rd hkB g
  sends : ∀ id, Sends id s → Sends id t
  shown : change = true → s.islandRuns = true → Sends id t ∧ t.on hkB f = v
  runs : t.islandRuns = s.islandRuns

theorem raiseHeld_sends {id other : Nat} {s : State} (h : Sends id s) : Sends id (raiseHeld other s) := by
  unfold raiseHeld
  split
  · exact h.raise other
  · exact h

theorem not_raiseKey_hk {off : Nat} (ho : off < 0x10000) : ¬ RaiseKey (hkB + off) := by
  unfold RaiseKey FltKey EvtKey objKey hkB
  omega

theorem islandRuns_kept {K : Nat → Prop} {s t : State} (hr : Rising 0 s.regs) (h : EdgeStep K s t) (hk : ¬ K 0x30000) :
    t.islandRuns = s.islandRuns := by
  unfold State.islandRuns
  rw [h.rd hr hk]

theorem not_levelKey_pwr : ¬ LevelKey 0x30000 := by
  unfold LevelKey RaiseKey FltKey EvtKey objKey
  omega

theorem evClamped_of_none {id : Nat} (h : evDom id = none) (s : State) : s.evClamped id = false := by
  unfold State.evClamped
  rw [h]

/-- A level's change written and counted. -/
def levelWritten (c f : Fld) (v : Bool) (s : State) : State := (if v then s.cnt hkB c 1 else s).wr hkB f (b2n v)

theorem levelWritten_written {id : Nat} {c f : Fld} {v : Bool} {s : State} (hr : Rising 0 s.regs) (hc : c.off = 0x40C)
    (hf : f.off = 0x404 ∧ f.hi = f.lo ∧ f.hi < 32) :
    EdgeStep LevelKey s (levelWritten c f v s) ∧ (levelWritten c f v s).hk = s.hk ∧
    (∀ g : Fld, g.off = 0x404 → apart f g = true → (levelWritten c f v s).rd hkB g = s.rd hkB g) ∧
    (Sends id s → Sends id (levelWritten c f v s)) ∧ (levelWritten c f v s).on hkB f = v := by
  obtain ⟨hoff, hw, hlt⟩ := hf
  unfold levelWritten
  have hcount : EdgeStep LevelKey s (if v then s.cnt hkB c 1 else s) ∧ (if v then s.cnt hkB c 1 else s).hk = s.hk ∧
      (∀ g : Fld, g.off = 0x404 → (if v then s.cnt hkB c 1 else s).rd hkB g = s.rd hkB g) ∧
      (Sends id s → Sends id (if v then s.cnt hkB c 1 else s)) := by
    split
    · refine ⟨(EdgeStep.refl _ s).cnt _ (.inr (.inl (by unfold hkB; omega))), rfl, fun g hg => ?_, fun h => h⟩
      exact State.rd_wr_ne _ _ _ _ _ _ hr (by omega)
    · exact ⟨EdgeStep.refl _ s, rfl, fun _ _ => rfl, fun h => h⟩
  generalize (if v then s.cnt hkB c 1 else s) = a at hcount
  obtain ⟨hstep, hhk, hbeside, hsends⟩ := hcount
  have hra := hstep.rising hr
  exact ⟨hstep.wr _ (.inl (by unfold hkB; omega)), hhk, fun g hg hap => (State.rd_wr_apart hra hap).trans (hbeside g hg), hsends,
    State.on_wr_b2n hra _ _ hlt hw⟩

theorem levelShown_shown {id : Nat} {c f : Fld} {change v : Bool} {s : State} (hr : Rising 0 s.regs) (hid : id < 1152)
    (hopen : evDom id = none) (hc : c.off = 0x40C) (hf : f.off = 0x404 ∧ f.hi = f.lo ∧ f.hi < 32) :
    LevelShown id f change v s (levelShown id c f change v s) := by
  cases change with
  | false => exact ⟨EdgeStep.refl _ s, rfl, fun _ _ _ => rfl, fun _ h => h, fun h => absurd h (by decide), rfl⟩
  | true =>
    have hwritten (id : Nat) := levelWritten_written (id := id) (c := c) (v := v) hr hc hf
    show LevelShown id f true v s (raiseHeld id (levelWritten c f v s))
    generalize levelWritten c f v s = a at hwritten
    obtain ⟨hstep, hhk, hbeside, -, hon⟩ := hwritten id
    have hra := hstep.rising hr
    have hraise := raiseHeld_step hid a
    have hkeep (g : Fld) (hg : g.off = 0x404) : (raiseHeld id a).rd hkB g = a.rd hkB g :=
      hraise.rd hra (not_raiseKey_hk (by omega))
    have hruns : a.islandRuns = s.islandRuns := islandRuns_kept hr hstep not_levelKey_pwr
    refine ⟨hstep.trans (hraise.mono fun _ h => .inr (.inr h)), (raiseHeld_hk id a).trans hhk,
      fun g hg hap => (hkeep g hg).trans (hbeside g hg hap), fun other h => raiseHeld_sends ((hwritten other).2.2.2.1 h), fun _ hrun => ⟨?_, ?_⟩, ?_⟩
    · unfold raiseHeld
      rw [if_pos (hruns.trans hrun)]
      exact State.raise_sends (evClamped_of_none hopen a)
    · exact (State.on_congr (hkeep f hf.1)).trans hon
    · exact (islandRuns_kept hra hraise fun h => not_levelKey_pwr (.inr (.inr h))).trans hruns

/-! ### DIM -/

/-- The lanes' throttles are set. -/
def lanesThrottled (act : Nat) (s : State) : State := lanes.foldl (fun s n => s.wr (laneB n) R.EQ_STATUS_THROTTLED (act % 2)) s

theorem State.wr_kept (s : State) (b : Nat) (f : Fld) (v : Nat) : ∃ m, s.wr b f v = { s with regs := m } := ⟨_, rfl⟩

theorem lanesThrottled_frame (act : Nat) (s : State) : ∃ m, lanesThrottled act s = { s with regs := m } := by
  unfold lanesThrottled
  generalize lanes = l
  induction l generalizing s with
  | nil => exact ⟨_, rfl⟩
  | cons n l ih =>
    obtain ⟨m, hm⟩ := ih (s.wr (laneB n) R.EQ_STATUS_THROTTLED (act % 2))
    exact ⟨m, hm⟩

/-- A lane's keys, and the clock block's. -/
def DimKey (k : Nat) : Prop := (0x20000 ≤ k ∧ k < 0x30000) ∨ (0x1000000 ≤ k ∧ k < 0x1400000)

theorem lanesThrottled_touches (act : Nat) (s : State) : EdgeStep DimKey s (lanesThrottled act s) :=
  EdgeStep.foldl (fun n hn t => (EdgeStep.refl _ t).wr _ (.inr (by
    have := mem_lanes.mp hn
    unfold laneB
    simp only [R.EQ_STATUS_THROTTLED]
    omega))) s

/-- What the throttle actions leave. -/
structure DimKept (s t : State) : Prop where
  step : EdgeStep AboveGlb s t
  hk : t.hk = s.hk
  raised : t.raised = s.raised
  beside : ∀ g : Fld, g.off < 0x1000 → apart R.HK_TH_STATUS_DIM_STAT g = true → apart R.HK_TH_STATUS_SCRUB_DIM g = true →
    t.rd hkB g = s.rd hkB g

theorem sclkSync_kept (s : State) : EdgeStep DimKey s (sclkSync s) ∧ (sclkSync s).hk = s.hk ∧ (sclkSync s).raised = s.raised := by
  have hsync : EdgeStep DimKey s (cyclesSync s) := ⟨Touches.of_regs rfl, rfl⟩
  exact ⟨hsync.wr _ (.inl (by decide)), rfl, rfl⟩

theorem hk_not_dimKey {off : Nat} (ho : off < 0x10000) : ¬ DimKey (hkB + off) := by
  unfold DimKey hkB
  omega

/-- The throttle actions shown in TH_STATUS. -/
def dimShown (act : Nat) (s : State) : State :=
  (s.wr hkB R.HK_TH_STATUS_DIM_STAT (act % 2 + act / 2 % 2 * 2 + act / 8 * 4)).wr hkB R.HK_TH_STATUS_SCRUB_DIM (act / 4 % 2)

theorem dimApply_eq (s : State) : ∃ act, dimApply s = sclkSync (lanesThrottled act (dimShown act s)) := ⟨_, rfl⟩

theorem dimApply_kept {s : State} (hr : Rising 0 s.regs) : DimKept s (dimApply s) := by
  have hedge := dimApply_step s
  obtain ⟨act, heq⟩ := dimApply_eq s
  rw [heq] at hedge ⊢
  have hr1 : Rising 0 (s.wr hkB R.HK_TH_STATUS_DIM_STAT (act % 2 + act / 2 % 2 * 2 + act / 8 * 4)).regs := State.wr_rising _ _ _ _ hr
  have hr2 : Rising 0 (dimShown act s).regs := State.wr_rising _ _ _ _ hr1
  have hshown (g : Fld) (h1 : apart R.HK_TH_STATUS_DIM_STAT g = true) (h2 : apart R.HK_TH_STATUS_SCRUB_DIM g = true) :
      (dimShown act s).rd hkB g = s.rd hkB g := (State.rd_wr_apart hr1 h2).trans (State.rd_wr_apart hr h1)
  have hframe : (dimShown act s).hk = s.hk ∧ (dimShown act s).raised = s.raised := ⟨rfl, rfl⟩
  generalize dimShown act s = a at hr2 hshown hframe hedge
  have hlanes := lanesThrottled_touches act a
  obtain ⟨m, hm⟩ := lanesThrottled_frame act a
  have hlanesHk : (lanesThrottled act a).hk = a.hk ∧ (lanesThrottled act a).raised = a.raised := by
    rw [hm]
    exact ⟨rfl, rfl⟩
  generalize lanesThrottled act a = b at hlanes hlanesHk hedge
  obtain ⟨hsync, hshk, hsraised⟩ := sclkSync_kept b
  have hrb := hlanes.rising hr2
  refine ⟨hedge, hshk.trans (hlanesHk.1.trans hframe.1), hsraised.trans (hlanesHk.2.trans hframe.2), fun g hg h1 h2 => ?_⟩
  rw [hsync.rd hrb (hk_not_dimKey (by omega)), hlanes.rd hr2 (hk_not_dimKey (by omega)), hshown g h1 h2]

/-- What the policy's step leaves. -/
structure ThermalKept (s t : State) : Prop where
  step : EdgeStep AboveGlb s t
  hk : t.hk = s.hk
  sends : ∀ id, Sends id s → Sends id t
  beside : ∀ g : Fld, g.off < 0x1000 → apart R.HK_TH_STATUS_DIM_STAT g = true → apart R.HK_TH_STATUS_SCRUB_DIM g = true →
    t.rd hkB g = s.rd hkB g

theorem Sends.of_raised {id : Nat} {s t : State} (h : Sends id s) (hraised : t.raised = s.raised) : Sends id t := by
  obtain ⟨r, hr, hid⟩ := h
  exact ⟨r, by rw [hraised]; exact hr, hid⟩

theorem pwrThermal_kept {s : State} (hr : Rising 0 s.regs) : ThermalKept s (pwrThermal s) := by
  have hstep := pwrThermal_step s
  unfold pwrThermal at hstep ⊢
  split at hstep
  · next hgo =>
    rw [if_pos hgo]
    have hr1 : Rising 0 (s.wr pwrB R.PWR_STATUS_STATE (thermalState s)).regs := State.wr_rising _ _ _ _ hr
    have hkept := dimApply_kept hr1
    have hset (g : Fld) (hg : g.off < 0x1000) : (s.wr pwrB R.PWR_STATUS_STATE (thermalState s)).rd hkB g = s.rd hkB g :=
      State.rd_wr_ne _ _ _ _ _ _ hr (by unfold hkB pwrB; simp only [R.PWR_STATUS_STATE]; omega)
    have hframe : (s.wr pwrB R.PWR_STATUS_STATE (thermalState s)).hk = s.hk ∧
        (s.wr pwrB R.PWR_STATUS_STATE (thermalState s)).raised = s.raised := ⟨rfl, rfl⟩
    unfold pwrGo at hstep ⊢
    generalize s.wr pwrB R.PWR_STATUS_STATE (thermalState s) = a at hr1 hkept hset hframe hstep
    generalize dimApply a = b at hkept hstep
    have hrb := hkept.step.rising hr1
    refine ⟨hstep, ?_, fun id h => ?_, fun g hg h1 h2 => ?_⟩
    · obtain ⟨_, _, _, _, he⟩ := RaiseFrame.raise b 0x3FB
      rw [he]
      exact hkept.hk.trans hframe.1
    · exact (h.of_raised (hkept.raised.trans hframe.2)).raise _
    · rw [State.raise_rd hrb (by decide) (not_raiseKey_hk (by omega)), hkept.beside g hg h1 h2, hset g hg]
  · next hstay =>
    rw [if_neg hstay]
    have hkept := dimApply_kept hr
    exact ⟨hstep, hkept.hk, fun id h => h.of_raised hkept.raised, hkept.beside⟩

theorem dimSync_kept {s : State} (hr : Rising 0 s.regs) :
    EdgeStep AboveGlb s (dimSync s) ∧ (dimSync s).hk = s.hk ∧ (∀ id, Sends id s → Sends id (dimSync s)) ∧
    (dimSync s).on hkB R.HK_TH_STATUS_DIM = dimWant s ∧
    ∀ g : Fld, g.off < 0x1000 → apart R.HK_TH_STATUS_DIM_STAT g = true → apart R.HK_TH_STATUS_SCRUB_DIM g = true →
      apart R.HK_TH_STATUS_DIM g = true → (dimSync s).rd hkB g = s.rd hkB g := by
  have hr1 : Rising 0 (s.wr hkB R.HK_TH_STATUS_DIM (b2n (dimWant s))).regs := State.wr_rising _ _ _ _ hr
  have hset : EdgeStep AboveGlb s (s.wr hkB R.HK_TH_STATUS_DIM (b2n (dimWant s))) := (EdgeStep.refl _ s).wr _ (by decide)
  have hon : (s.wr hkB R.HK_TH_STATUS_DIM (b2n (dimWant s))).on hkB R.HK_TH_STATUS_DIM = dimWant s :=
    State.on_wr_b2n hr _ _ (by decide) (by decide)
  have hbeside (g : Fld) (h : apart R.HK_TH_STATUS_DIM g = true) :
      (s.wr hkB R.HK_TH_STATUS_DIM (b2n (dimWant s))).rd hkB g = s.rd hkB g := State.rd_wr_apart hr h
  have hframe : (s.wr hkB R.HK_TH_STATUS_DIM (b2n (dimWant s))).hk = s.hk ∧
      (s.wr hkB R.HK_TH_STATUS_DIM (b2n (dimWant s))).raised = s.raised := ⟨rfl, rfl⟩
  unfold dimSync
  generalize s.wr hkB R.HK_TH_STATUS_DIM (b2n (dimWant s)) = a at hr1 hset hon hbeside hframe
  have hkept := pwrThermal_kept hr1
  generalize pwrThermal a = t at hkept
  exact ⟨hset.trans hkept.step, hkept.hk.trans hframe.1, fun id h => hkept.sends id (h.of_raised hframe.2),
    (State.on_congr (hkept.beside _ (by decide) (by decide) (by decide))).trans hon,
    fun g hg h1 h2 h3 => (hkept.beside g hg h1 h2).trans (hbeside g h3)⟩

/-- A self-calibration that falls due leaves the thermal logic. -/
theorem selfcalDue_kept {s : State} (hr : Rising 0 s.regs) :
    (selfcalDue s).edge = s.edge ∧ (selfcalDue s).therm = s.therm ∧ (selfcalDue s).hk.ts = s.hk.ts ∧ (selfcalDue s).raised = s.raised ∧
    ∀ g : Fld, g.off = 0x404 ∨ g.off = 0x408 → (selfcalDue s).rd hkB g = s.rd hkB g := by
  unfold selfcalDue selfcalStart
  dsimp only
  split
  · split
    · exact ⟨rfl, rfl, rfl, rfl, fun _ _ => rfl⟩
    · split
      · exact ⟨rfl, rfl, rfl, rfl, fun _ _ => rfl⟩
      · refine ⟨rfl, rfl, rfl, rfl, fun g hg => ?_⟩
        exact State.rd_wr_ne _ _ _ _ _ _ hr (by unfold hkB; simp only [R.HK_STATUS_SC_BUSY]; omega)
  · exact ⟨rfl, rfl, rfl, rfl, fun _ _ => rfl⟩

end Sys2Proof.Machine
end

section

/-! A reading of every sensor, up to the levels (R469, R470, R472). -/

namespace Sys2Proof.Machine

/-- The time of the next reading. -/
def thermTimed (s : State) : State := s.advanceNow (s.hk.thAt + (if s.pwrState == 3 || s.off then usT 1000 else usT 20))

/-- Every sensor gives its reading. -/
def allRead (raws : List (BitVec 16)) (s : State) : State := (List.range 31).foldl (fun s i => tsReading i (raws.getD i 0) s) s

/-- The readings are known. -/
def hotNoted (s : State) : State := { s with hk := { s.hk with hotKnown := true, thAt := s.now } }

/-- The blind dies are shown. -/
def blindShown (s : State) : State := s.wr hkB R.HK_TH_STATUS_DIE_BLIND (b2n (dieBlind s))

/-- HOT is shown with its sensor. -/
def hotShown (hot : Int) (i : Nat) (s : State) : State :=
  (s.wr hkB R.HK_TH_STATUS_HOT (trunc 16 hot)).wr hkB R.HK_TH_STATUS_HOT_TS i

/-- The shutdown level is fed with HOT. -/
def shutFed (hot : Int) (s : State) : State := { s with hk := { s.hk with shut := s.hk.shut.feed hot 960 (hyst R.HK_TH_CFG_H_SHUT s) } }

/-- The levels react to HOT. -/
def hotReact (hot : Int) (i : Nat) (s : State) : State :=
  let t := levelStep hot (shutFed hot s)
  if ((s.hk.shut.feed hot 960 (hyst R.HK_TH_CFG_H_SHUT s)).on && !s.hk.shut.on) && !t.off then thermalShutdown i hot t
  else selfcalDue (dimSync t)

theorem thermalReading_hot {raws : List (BitVec 16)} {s : State} {hot : Int} {i : Nat} (hpor : s.por = false)
    (hhot : hotOf (blindShown (hotNoted (allRead raws (thermTimed s)))) = some (hot, i)) :
    thermalReading raws s = hotReact hot i (hotShown hot i (blindShown (hotNoted (allRead raws (thermTimed s))))) := by
  unfold thermalReading
  rw [hpor, if_neg Bool.false_ne_true]
  unfold thermTimed allRead at hhot ⊢
  dsimp only
  generalize (List.range 31).foldl (fun s i => tsReading i (raws.getD i 0) s) _ = c at hhot ⊢
  unfold blindShown hotNoted at hhot ⊢
  rw [hhot]
  rfl

/-! ### Up to HOT -/

/-- A reading of sensor i with its offset. -/
def reading (raws : List (BitVec 16)) (s : State) (i : Nat) : Int := (raws.getD i 0).toInt + tsOfs i s

/-- The keys written as HOT is taken. -/
def HotKey (k : Nat) : Prop := SensorKey k ∨ LevelKey k

/-- From s to t the sensors were read, with HOT at sensor i. -/
structure HotTaken (raws : List (BitVec 16)) (i : Nat) (s t : State) : Prop where
  touches : Touches HotKey s t
  edge : t.edge = { s.edge with now := max s.now (s.hk.thAt + (if s.pwrState == 3 || s.off then usT 1000 else usT 20)) }
  stands : ∀ j < 31, Stands j (reading raws s j) t ∧ tsFailed j t = false
  first : FirstMax (reading raws s) 31 i
  therm : t.therm = { s.therm with thAt := t.now }
  hotTs : t.rd hkB R.HK_TH_STATUS_HOT_TS = i
  hot : t.rd hkB R.HK_TH_STATUS_HOT = trunc 16 (reading raws s i)
  blind : t.on hkB R.HK_TH_STATUS_DIE_BLIND = false
  stat : ∀ g : Fld, g.off = 0x404 → g.hi ≤ 4 → t.rd hkB g = s.rd hkB g

theorem thermTimed_frame (s : State) : ∃ tl, thermTimed s = { s with
    now := max s.now (s.hk.thAt + (if s.pwrState == 3 || s.off then usT 1000 else usT 20)), tl := tl } := by
  have hnow : (thermTimed s).now = max s.now (s.hk.thAt + (if s.pwrState == 3 || s.off then usT 1000 else usT 20)) := State.advanceNow_now ..
  rw [← hnow]
  unfold thermTimed State.advanceNow
  rw [State.advance_eq]
  exact ⟨_, rfl⟩

theorem apart_of_below {f g : Fld} (h : g.hi < f.lo) : apart f g = true := by
  unfold apart
  rw [decide_eq_true h, Bool.or_true]

/-- TH_STATUS after HOT has been shown. -/
theorem hotShown_shown {hot : Int} {i : Nat} {s : State} (hr : Rising 0 s.regs) (hi : i < 32) :
    EdgeStep HotKey s (hotShown hot i s) ∧ (hotShown hot i s).hk = s.hk ∧ (hotShown hot i s).rd hkB R.HK_TH_STATUS_HOT_TS = i ∧
    (hotShown hot i s).rd hkB R.HK_TH_STATUS_HOT = trunc 16 hot ∧
    (∀ g : Fld, g.off = 0x404 → g.hi ≤ 6 → (hotShown hot i s).rd hkB g = s.rd hkB g) ∧
    (hotShown hot i s).rd hkB R.HK_TH_FAIL_FAILED = s.rd hkB R.HK_TH_FAIL_FAILED := by
  have hr1 : Rising 0 (s.wr hkB R.HK_TH_STATUS_HOT (trunc 16 hot)).regs := State.wr_rising _ _ _ _ hr
  refine ⟨((EdgeStep.refl _ s).wr _ (.inr (.inl rfl))).wr _ (.inr (.inl rfl)), rfl, ?_, ?_, fun g hg hlow => ?_, ?_⟩
  · exact (State.rd_wr_same _ _ _ _ hr1 (by decide)).trans (Nat.mod_eq_of_lt hi)
  · exact (State.rd_wr_apart hr1 (by decide)).trans ((State.rd_wr_same _ _ _ _ hr (by decide)).trans (Nat.mod_eq_of_lt (trunc_lt 16 hot)))
  · have h1 : apart R.HK_TH_STATUS_HOT_TS g = true := apart_of_below (lt_of_le_of_lt hlow (by decide))
    have h2 : apart R.HK_TH_STATUS_HOT g = true := apart_of_below (lt_of_le_of_lt hlow (by decide))
    exact (State.rd_wr_apart hr1 h1).trans (State.rd_wr_apart hr h2)
  · exact (State.rd_wr_ne _ _ _ _ _ _ hr1 (by decide)).trans (State.rd_wr_ne _ _ _ _ _ _ hr (by decide))

theorem blindShown_shown {s : State} (hr : Rising 0 s.regs) :
    EdgeStep HotKey s (blindShown s) ∧ (blindShown s).hk = s.hk ∧ (blindShown s).on hkB R.HK_TH_STATUS_DIE_BLIND = dieBlind s ∧
    (∀ g : Fld, g.off = 0x404 → g.hi ≤ 4 → (blindShown s).rd hkB g = s.rd hkB g) ∧
    (blindShown s).rd hkB R.HK_TH_FAIL_FAILED = s.rd hkB R.HK_TH_FAIL_FAILED := by
  refine ⟨(EdgeStep.refl _ s).wr _ (.inr (.inl rfl)), rfl, State.on_wr_b2n hr _ _ (by decide) (by decide), fun g hg hlow => ?_,
    State.rd_wr_ne _ _ _ _ _ _ hr (by decide)⟩
  exact State.rd_wr_apart hr (apart_of_below (lt_of_le_of_lt hlow (by decide)))

theorem stands_of_hk {s t : State} (hhk : t.hk = s.hk) (i : Nat) (v : Int) : Stands i v t ↔ Stands i v s := by
  rw [Stands, Stands, State.tsOf, State.tsOf, hhk]

theorem not_sensorKey_stat : ¬ SensorKey 0x50404 := by
  unfold SensorKey RaiseKey FltKey EvtKey objKey
  omega

/-- The state up to the levels, where every sensor is valid. -/
def hotStage (raws : List (BitVec 16)) (i : Nat) (s : State) : State :=
  hotShown (reading raws s i) i (blindShown (hotNoted (allRead raws (thermTimed s))))

theorem hotStage_taken {raws : List (BitVec 16)} {s : State} (hr : Rising 0 s.regs) (hts : Rising 0 s.hk.ts) (hcalm : Calm s)
    (hrange : ∀ i < 31, -440 ≤ reading raws s i ∧ reading raws s i ≤ 1200) :
    ∃ i, HotTaken raws i s (hotStage raws i s) ∧
      hotOf (blindShown (hotNoted (allRead raws (thermTimed s)))) = some (reading raws s i, i) := by
  obtain ⟨tl, htimed⟩ := thermTimed_frame s
  have hregs : (thermTimed s).regs = s.regs := by rw [htimed]
  have hhk : (thermTimed s).hk = s.hk := by rw [htimed]
  have hedge : (thermTimed s).edge = { s.edge with now := max s.now (s.hk.thAt + (if s.pwrState == 3 || s.off then usT 1000 else usT 20)) } := by
    rw [htimed]
    rfl
  unfold hotStage
  generalize thermTimed s = a at hregs hhk hedge
  have hra : Rising 0 a.regs := hregs ▸ hr
  have hrd (b : Nat) (f : Fld) : a.rd b f = s.rd b f := by rw [State.rd, State.rd, State.getReg, State.getReg, hregs]
  have hofs (i : Nat) : tsOfs i a = tsOfs i s := by rw [tsOfs, tsOfs, State.rdI, State.rdI, hrd]
  have hcalmA : Calm a := fun i hi => by
    rw [tsFailed_congr (hrd _ _), State.tsOf, hhk]
    exact hcalm i hi
  have hread := readings_all (raws := raws) hra (hhk ▸ hts) hcalmA (fun i hi => by rw [hofs]; exact hrange i hi) (List.range 31)
    fun i hi => List.mem_range.mp hi
  have hallRead : allRead raws a = (List.range 31).foldl (fun s i => tsReading i (raws.getD i 0) s) a := rfl
  rw [← hallRead] at hread
  generalize allRead raws a = c at hread
  obtain ⟨hreads, hstands⟩ := hread
  have hrc := hreads.step.rising hra
  have hstandsC (j : Nat) (hj : j < 31) : Stands j (reading raws s j) c := by
    have h := hstands j hj (.inl (List.mem_range.mpr hj))
    rw [hofs] at h
    exact h
  have hnoted : (hotNoted c).therm = { c.therm with thAt := c.now } ∧ (hotNoted c).edge = c.edge ∧ (hotNoted c).regs = c.regs ∧
      (hotNoted c).hk.ts = c.hk.ts := ⟨rfl, rfl, rfl, rfl⟩
  generalize hotNoted c = d at hnoted
  obtain ⟨hdtherm, hdedge, hdregs, hdts⟩ := hnoted
  have hrdD (b : Nat) (f : Fld) : d.rd b f = c.rd b f := by rw [State.rd, State.rd, State.getReg, State.getReg, hdregs]
  have hrD : Rising 0 d.regs := hdregs ▸ hrc
  have hfailD (j : Nat) (hj : j < 31) : tsFailed j d = false := (tsFailed_congr (hrdD _ _)).trans (hreads.calm j hj).2.2
  have hstandsD (j : Nat) (hj : j < 31) : Stands j (reading raws s j) d := by
    rw [Stands, State.tsOf, hdts]
    exact hstandsC j hj
  obtain ⟨hbstep, hbhk, hbon, hbstat, hbfail⟩ := blindShown_shown hrD
  generalize blindShown d = b at hbstep hbhk hbon hbstat hbfail
  have hrB := hbstep.rising hrD
  have hstandsB (j : Nat) (hj : j < 31) : Stands j (reading raws s j) b := (stands_of_hk hbhk _ _).mpr (hstandsD j hj)
  have hfailB (j : Nat) (hj : j < 31) : tsFailed j b = false := (tsFailed_congr hbfail).trans (hfailD j hj)
  obtain ⟨i, ⟨hi, hmax, hfirst⟩, hhot⟩ := hotOf_max fun j hj => ⟨hfailB j hj, (hstandsB j hj).2.2⟩
  have hlast (j : Nat) (hj : j < 31) : (b.tsOf j).last = reading raws s j := (hstandsB j hj).1
  rw [hlast i hi] at hhot
  refine ⟨i, ?_, hhot⟩
  obtain ⟨hestep, hehk, hets, hehot, hestat, hefail⟩ := hotShown_shown (hot := reading raws s i) hrB (by omega : i < 32)
  generalize hotShown (reading raws s i) i b = e at hestep hehk hets hehot hestat hefail
  have hedgeE : e.edge = a.edge := hestep.edge.trans (hbstep.edge.trans (hdedge.trans hreads.step.edge))
  have hnowE : e.now = c.now := congrArg EdgeView.now (hestep.edge.trans (hbstep.edge.trans hdedge))
  have hstatD (g : Fld) (hg : g.off = 0x404) : d.rd hkB g = s.rd hkB g := by
    rw [hrdD, hreads.step.rd hra (by rw [hg]; exact not_sensorKey_stat), hrd]
  refine ⟨?_, hedgeE.trans hedge, fun j hj => ⟨(stands_of_hk hehk _ _).mpr (hstandsB j hj), (tsFailed_congr hefail).trans (hfailB j hj)⟩,
    ⟨hi, fun j hj => ?_, fun j hj => ?_⟩, ?_, hets, hehot, ?_, fun g hg hlow => ?_⟩
  · refine fun h0 => ⟨hestep.rising hrB, fun k hk => ?_⟩
    rw [(hestep.touches hrB).2 k hk, (hbstep.touches hrD).2 k hk, State.getReg, hdregs, ← State.getReg,
      (hreads.step.touches hra).2 k (fun h => hk (.inl h)), State.getReg, hregs]
    rfl
  · have h := hmax j hj
    simp only [hlast j hj, hlast i hi] at h
    exact h
  · have h := hfirst j hj
    simp only [hlast j (by omega), hlast i hi] at h
    exact h
  · have htherm : e.therm = d.therm := by rw [State.therm, State.therm, hehk, hbhk]
    rw [htherm, hdtherm, hreads.therm, hnowE, State.therm, hhk]
    rfl
  · rw [State.on_congr (hestat _ rfl (by decide)), hbon]
    exact dieBlind_calm hfailD
  · rw [hestat g hg (by omega), hbstat g hg hlow, hstatD g hg]

end Sys2Proof.Machine
end

section

/-! The levels' and the shutdown's reactions to HOT (R470 to R473). -/

namespace Sys2Proof.Machine

/-! ### Levels -/

/-- From s to t the levels became w and x. -/
structure LevelsStepped (w x : LvlSt) (s t : State) : Prop where
  step : EdgeStep LevelKey s t
  therm : t.therm = { s.therm with warn := w, thr := x }
  ts : t.hk.ts = s.hk.ts
  beside : ∀ g : Fld, g.off = 0x404 → apart R.HK_TH_STATUS_WARN g = true → apart R.HK_TH_STATUS_THROTTLE g = true →
    t.rd hkB g = s.rd hkB g
  warned : s.islandRuns = true → w.on ≠ s.hk.warn.on → Sends 0x404 t ∧ t.on hkB R.HK_TH_STATUS_WARN = w.on
  throttled : s.islandRuns = true → x.on ≠ s.hk.thr.on → Sends 0x405 t ∧ t.on hkB R.HK_TH_STATUS_THROTTLE = x.on

theorem levelStep_stepped {hot : Int} {s : State} (hr : Rising 0 s.regs) :
    LevelsStepped (s.hk.warn.feed hot 800 (hyst R.HK_TH_CFG_H_WARN s)) (s.hk.thr.feed hot 880 (hyst R.HK_TH_CFG_H_THR s)) s
      (levelStep hot s) := by
  have hfed : (levelsFed hot s).edge = s.edge ∧ (levelsFed hot s).regs = s.regs ∧ (levelsFed hot s).hk.ts = s.hk.ts ∧
      (levelsFed hot s).therm = { s.therm with warn := s.hk.warn.feed hot 800 (hyst R.HK_TH_CFG_H_WARN s)
                                               thr := s.hk.thr.feed hot 880 (hyst R.HK_TH_CFG_H_THR s) } := ⟨rfl, rfl, rfl, rfl⟩
  rw [levelStep_eq]
  generalize s.hk.warn.feed hot 800 (hyst R.HK_TH_CFG_H_WARN s) = w at hfed
  generalize s.hk.thr.feed hot 880 (hyst R.HK_TH_CFG_H_THR s) = x at hfed
  have hruns : (levelsFed hot s).islandRuns = s.islandRuns := rfl
  generalize levelsFed hot s = a at hfed hruns
  obtain ⟨haedge, haregs, hats, hatherm⟩ := hfed
  have hra : Rising 0 a.regs := haregs ▸ hr
  have hstepA : EdgeStep LevelKey s a := ⟨Touches.of_regs haregs, haedge⟩
  have hrdA (b : Nat) (f : Fld) : a.rd b f = s.rd b f := by rw [State.rd, State.rd, State.getReg, State.getReg, haregs]
  have hw := levelShown_shown (id := 0x404) (c := R.HK_TH_CNT_WARNS) (f := R.HK_TH_STATUS_WARN) (change := w.on != s.hk.warn.on)
    (v := w.on) hra (by decide) rfl rfl (by decide)
  generalize levelShown 0x404 R.HK_TH_CNT_WARNS R.HK_TH_STATUS_WARN (w.on != s.hk.warn.on) w.on a = b at hw
  have hx := levelShown_shown (id := 0x405) (c := R.HK_TH_CNT_THROTTLES) (f := R.HK_TH_STATUS_THROTTLE) (change := x.on != s.hk.thr.on)
    (v := x.on) (hw.step.rising hra) (by decide) rfl rfl (by decide)
  generalize levelShown 0x405 R.HK_TH_CNT_THROTTLES R.HK_TH_STATUS_THROTTLE (x.on != s.hk.thr.on) x.on b = c at hx
  have hhk : c.hk = a.hk := hx.hk.trans hw.hk
  refine ⟨(hstepA.trans hw.step).trans hx.step, ?_, ?_, fun g hg h1 h2 => ?_, fun hrun hne => ⟨?_, ?_⟩, fun hrun hne => ?_⟩
  · have hview : c.therm = a.therm := by rw [State.therm, State.therm, hhk]
    exact hview.trans hatherm
  · rw [hhk, hats]
  · rw [hx.beside g hg h2, hw.beside g hg h1, hrdA]
  · exact hx.sends _ (hw.shown (bne_iff_ne.mpr hne) (hruns.trans hrun)).1
  · rw [State.on_congr (hx.beside _ rfl (by decide))]
    exact (hw.shown (bne_iff_ne.mpr hne) (hruns.trans hrun)).2
  · exact hx.shown (bne_iff_ne.mpr hne) (hw.runs.trans (hruns.trans hrun))

/-! ### Shutdown -/

/-- The words of a shutdown record. -/
def ShutKey (i k : Nat) : Prop := (Obj.shut i).base + 0x454 ≤ k ∧ k < (Obj.shut i).base + 0x460

theorem shutBase_eq (i : Nat) : (Obj.shut i).base = 9 * 2 ^ 44 + i * 2 ^ 20 := rfl

theorem shutKey_ne {i j off : Nat} (h : i ≠ j) (ho : off < 0x1000) : ¬ ShutKey i ((Obj.shut j).base + off) := by
  unfold ShutKey
  rw [shutBase_eq, shutBase_eq]
  omega

/-- A slot holds a record of a reading. -/
def ShutHolds (b sensor : Nat) (v : Int) (t : State) : Prop :=
  t.on b R.HK_SHUT_REC2_VALID = true ∧ t.on b R.HK_SHUT_REC2_CLEARED = false ∧ t.rd b R.HK_SHUT_REC2_SENSOR = sensor ∧
  t.rdI b R.HK_SHUT_REC2_READING = v

theorem ShutHolds.of_getReg {b sensor : Nat} {v : Int} {s t : State} (h : ShutHolds b sensor v s)
    (hget : t.getReg (b + 0x45C) = s.getReg (b + 0x45C)) : ShutHolds b sensor v t := by
  have hrd (f : Fld) (hf : f.off = 0x45C) : t.rd b f = s.rd b f := by rw [State.rd, State.rd, hf, hget]
  unfold ShutHolds at *
  rw [State.on_congr (hrd _ rfl), State.on_congr (hrd R.HK_SHUT_REC2_CLEARED rfl), hrd _ rfl, State.rdI, hrd _ rfl]
  exact h

/-- The last word of a record is written. -/
def shutWritten (b sensor : Nat) (v : Int) (s : State) : State :=
  let s := (s.wr b R.HK_SHUT_REC2_VALID 1).wr b R.HK_SHUT_REC2_CLEARED 0
  ((s.wr b R.HK_SHUT_REC2_TQ s.tq).wr b R.HK_SHUT_REC2_SENSOR sensor).wr b R.HK_SHUT_REC2_READING (trunc 16 v)

theorem shutWritten_written {b sensor : Nat} {v : Int} {s : State} (hr : Rising 0 s.regs) (hsensor : sensor < 32) (hlo : -32768 ≤ v)
    (hhi : v < 32768) :
    Touches (fun k => k = b + 0x45C) s (shutWritten b sensor v s) ∧ (∃ m, shutWritten b sensor v s = { s with regs := m }) ∧
    ShutHolds b sensor v (shutWritten b sensor v s) := by
  have heq : ∃ tq, shutWritten b sensor v s = s.wrs b [(R.HK_SHUT_REC2_VALID, 1), (R.HK_SHUT_REC2_CLEARED, 0), (R.HK_SHUT_REC2_TQ, tq),
      (R.HK_SHUT_REC2_SENSOR, sensor), (R.HK_SHUT_REC2_READING, trunc 16 v)] := ⟨_, rfl⟩
  obtain ⟨tq, heq⟩ := heq
  rw [heq]
  have hpair : ([(R.HK_SHUT_REC2_VALID, 1), (R.HK_SHUT_REC2_CLEARED, 0), (R.HK_SHUT_REC2_TQ, tq), (R.HK_SHUT_REC2_SENSOR, sensor),
      (R.HK_SHUT_REC2_READING, trunc 16 v)].map Prod.fst).Pairwise (fun f g => apart g f = true) := by
    simp only [List.map_cons, List.map_nil]
    decide
  have hoff (k : Nat) (hk : k ≠ b + 0x45C) (x : Fld × Nat) (hx : x ∈ [(R.HK_SHUT_REC2_VALID, 1), (R.HK_SHUT_REC2_CLEARED, 0),
      (R.HK_SHUT_REC2_TQ, tq), (R.HK_SHUT_REC2_SENSOR, sensor), (R.HK_SHUT_REC2_READING, trunc 16 v)]) : k ≠ b + x.1.off := by
    simp only [List.mem_cons, List.not_mem_nil, or_false] at hx
    rcases hx with rfl | rfl | rfl | rfl | rfl <;> exact hk
  refine ⟨fun _ => ⟨State.wrs_rising _ hr, fun k hk => State.getReg_wrs hr (hoff k hk)⟩, State.wrs_frame _ _ _, ?_, ?_, ?_, ?_⟩
  · rw [State.on, State.rd_wrs_mem (x := (R.HK_SHUT_REC2_VALID, 1)) hr hpair (by simp) (by decide)]
    rfl
  · rw [State.on, State.rd_wrs_mem (x := (R.HK_SHUT_REC2_CLEARED, 0)) hr hpair (by simp) (by decide)]
    rfl
  · rw [State.rd_wrs_mem (x := (R.HK_SHUT_REC2_SENSOR, sensor)) hr hpair (by simp) (show 20 < 32 by decide)]
    exact Nat.mod_eq_of_lt hsensor
  · rw [State.rdI, State.rd_wrs_mem (x := (R.HK_SHUT_REC2_READING, trunc 16 v)) hr hpair (by simp) (show 15 < 32 by decide)]
    dsimp only
    rw [show R.HK_SHUT_REC2_READING.hi + 1 - R.HK_SHUT_REC2_READING.lo = 16 from rfl, Nat.mod_eq_of_lt (trunc_lt 16 v), sext_trunc v hlo hhi]

theorem shutPut_put {i sensor : Nat} {v : Int} {s : State} (hr : Rising 0 s.regs) (hsensor : sensor < 32) (hlo : -32768 ≤ v) (hhi : v < 32768) :
    EdgeStep (ShutKey i) s (shutPut i sensor v s) ∧ (shutPut i sensor v s).hk = s.hk ∧
    ShutHolds (Obj.shut i).base sensor v (shutPut i sensor v s) := by
  generalize hb : (Obj.shut i).base = b
  have hkey (f : Fld) (hf : 0x454 ≤ f.off ∧ f.off < 0x460) : ShutKey i (b + f.off) := by
    unfold ShutKey
    omega
  have hr1 : Rising 0 (s.wr b R.HK_SHUT_REC0_T s.tlv.toNat).regs := State.wr_rising _ _ _ _ hr
  have hr2 := State.wr_rising _ b R.HK_SHUT_REC1_T (s.tlv.toNat / 2 ^ 32) hr1
  have htime : EdgeStep (ShutKey i) s (s.wr64 b R.HK_SHUT_REC0_T R.HK_SHUT_REC1_T s.tlv.toNat) :=
    ((EdgeStep.refl _ s).wr _ (hkey _ (by decide))).wr _ (hkey _ (by decide))
  have htimed : (s.wr64 b R.HK_SHUT_REC0_T R.HK_SHUT_REC1_T s.tlv.toNat).hk = s.hk := rfl
  unfold shutPut
  dsimp only
  rw [hb]
  have hra : Rising 0 (s.wr64 b R.HK_SHUT_REC0_T R.HK_SHUT_REC1_T s.tlv.toNat).regs := hr2
  generalize s.wr64 b R.HK_SHUT_REC0_T R.HK_SHUT_REC1_T s.tlv.toNat = a at htime htimed hra
  obtain ⟨htouches, ⟨m, hm⟩, hholds⟩ := shutWritten_written (b := b) hra hsensor hlo hhi
  have hedge : (shutWritten b sensor v a).edge = a.edge := by
    rw [hm]
    rfl
  have hhk : (shutWritten b sensor v a).hk = a.hk := by rw [hm]
  unfold shutWritten at htouches hedge hhk hholds
  exact ⟨htime.trans ⟨htouches.mono fun k hk => hk ▸ hkey R.HK_SHUT_REC2_VALID (by decide), hedge⟩, hhk.trans htimed, hholds⟩

/-! ### The part goes OFF -/

theorem IslandStep.foldl {ι : Type} {K : Nat → Prop} {f : State → ι → State} {l : List ι} (hf : ∀ i ∈ l, ∀ t, IslandStep K t (f t i))
    (s : State) : IslandStep K s (l.foldl f s) := by
  induction l generalizing s with
  | nil => exact IslandStep.refl K s
  | cons i l ih => exact (hf i List.mem_cons_self s).trans (ih (fun j hj => hf j (List.mem_cons_of_mem i hj)) (f s i))

theorem biasAll_island (s : State) : IslandStep IslandKey s (biasAll s) :=
  IslandStep.foldl (fun n hn t => (biasEval_step n false t).mono fun _ hk => ⟨n, mem_lanes.mp hn, hk⟩) s

/-- The keys that the domains' power-downs write. -/
def AllDownKey (k : Nat) : Prop := ∃ d < 84, DownKey d k

theorem restOrder_mem (d : Dom) : d.val ∈ restOrder := by
  revert d
  decide

theorem restOrder_lt {d : Nat} (h : d ∈ restOrder) : d < 84 := by
  revert d
  decide

/-- Every domain goes to OFF. -/
def domsOff (s : State) : State := restOrder.foldl (fun s d => domToOff d s) s

theorem domsOff_off {s : State} (hr : Rising 0 s.regs) :
    DomStep AllDownKey (fun _ => True) s (domsOff s) ∧ ∀ d : Dom, (domsOff s).domState d.val = 0 := by
  have hone (d : Nat) (hd : d ∈ restOrder) (t : State) := domToOff_step (restOrder_lt hd) t
  unfold domsOff
  refine ⟨DomStep.foldl (fun d hd t => (hone d hd t).mono (fun _ hk => ⟨d, restOrder_lt hd, hk⟩) fun _ _ => trivial) s, fun d => ?_⟩
  refine foldl_holds (R := fun t => Rising 0 t.regs) (P := fun t => t.domState d.val = 0) (i := d.val)
    (fun e he t ht => (hone e he t).rising ht) (fun t ht => domToOff_state d.isLt ht) (fun e he t ht hp => ?_) (restOrder_mem d) hr
  by_cases hde : d.val = e
  · exact hde ▸ domToOff_state d.isLt ht
  · rw [State.domState, (hone e he t).rd ht (domState_not_down d.isLt hde)]
    exact hp

/-- Power is off outside AON. -/
def unpowered (s : State) : State :=
  { s with regs := dropKeys unpoweredKey s.regs, shadow := dropKeys unpoweredKey s.shadow, latch := [], mem := []
           off := true, pages := [], uncPend := [], remap := [], mi2cAddr := 0x5A
           hk := { s.hk with offWait := true }, pwr := { s.pwr with wakeSrc := none } }

/-- The records of a shutdown. -/
def shutRecorded (sensor : Nat) (v : Int) (s : State) : State :=
  let s := shutPut 16 sensor v s
  if s.biasUv then s
  else match shutFree s with
    | some i => shutPut i sensor v s
    | none => s.wr hkB R.HK_TH_STATUS_SHUT_FULL 1

theorem thermalShutdown_eq (sensor : Nat) (v : Int) (s : State) :
    thermalShutdown sensor v s = biasAll (unpowered (domsOff (shutCount (shutRecorded sensor v s)))) := rfl

theorem not_allDown_shut {i off : Nat} (ho : off < 0x1000) : ¬ AllDownKey ((Obj.shut i).base + off) := by
  rw [shutBase_eq]
  rintro ⟨d, hd, (h | h) | h | h⟩
  · rw [domB_eq] at h
    omega
  · unfold pwrB at h
    omega
  · unfold RaiseKey FltKey EvtKey objKey at h
    omega
  · omega

theorem not_islandKey_high {k : Nat} (h : 9 * 2 ^ 44 ≤ k ∨ (5 * 2 ^ 44 ≤ k ∧ k < 6 * 2 ^ 44)) : ¬ IslandKey k := by
  intro hk
  rcases islandKey_cases hk with hk | hk | hk
  · unfold RaiseKey FltKey EvtKey objKey at hk
    omega
  · omega
  · omega

theorem powered_kind {k : Nat} (h : k / 2 ^ 44 = 9 ∨ k / 2 ^ 44 = 5) : unpoweredKey k = false := by
  have hlarge : ¬ k < 2 ^ 32 := by omega
  unfold unpoweredKey
  rw [if_neg hlarge]
  rcases h with h | h
  · simp only [h]
  · simp only [h]

/-- A part that its shutdown has switched off. -/
structure ShutDown (sensor k : Nat) (v : Int) (s t : State) : Prop where
  off : t.off = true
  wait : t.hk.offWait = true
  shut : t.hk.shut = s.hk.shut
  doms : ∀ d : Dom, t.domState d.val = 0
  pages : t.pages = []
  copy : ShutHolds (Obj.shut 16).base sensor v t
  slot : ShutHolds (Obj.shut k).base sensor v t

theorem shutFree_congr {s t : State} (h : ∀ i < 16, t.on (Obj.shut i).base R.HK_SHUT_REC2_VALID = s.on (Obj.shut i).base R.HK_SHUT_REC2_VALID) :
    shutFree t = shutFree s := by
  unfold shutFree
  refine List.find?_congr fun i hi => ?_
  rw [h i (List.mem_range.mp hi)]

theorem shutFree_lt {s : State} {k : Nat} (h : shutFree s = some k) : k < 16 := List.mem_range.mp (List.mem_of_find?_eq_some h)

theorem shutRecorded_holds {sensor k : Nat} {v : Int} {s : State} (hr : Rising 0 s.regs) (huv : s.biasUv = false) (hfree : shutFree s = some k)
    (hsensor : sensor < 32) (hlo : -32768 ≤ v) (hhi : v < 32768) :
    EdgeStep (fun x => ShutKey 16 x ∨ ShutKey k x) s (shutRecorded sensor v s) ∧ (shutRecorded sensor v s).hk = s.hk ∧
    ShutHolds (Obj.shut 16).base sensor v (shutRecorded sensor v s) ∧ ShutHolds (Obj.shut k).base sensor v (shutRecorded sensor v s) := by
  have hk := shutFree_lt hfree
  obtain ⟨hstep, hhk, hholds⟩ := shutPut_put (i := 16) hr hsensor hlo hhi
  unfold shutRecorded
  dsimp only
  generalize shutPut 16 sensor v s = a at hstep hhk hholds
  have huvA : a.biasUv = false := (congrArg EdgeView.biasUv hstep.edge).trans huv
  have hfreeA : shutFree a = some k := by
    rw [shutFree_congr fun i hi => State.on_congr (hstep.rd hr (shutKey_ne (by omega) (by decide))), hfree]
  have hra := hstep.rising hr
  obtain ⟨hstepK, hhkK, hholdsK⟩ := shutPut_put (i := k) hra hsensor hlo hhi
  rw [huvA, if_neg Bool.false_ne_true, hfreeA]
  dsimp only
  generalize shutPut k sensor v a = b at hstepK hhkK hholdsK
  refine ⟨(hstep.mono fun _ => .inl).trans (hstepK.mono fun _ => .inr), hhkK.trans hhk, ?_, hholdsK⟩
  exact hholds.of_getReg ((hstepK.touches hra).2 _ (shutKey_ne (by omega) (by decide)))

theorem thermalShutdown_down {sensor k : Nat} {v : Int} {s : State} (hr : Rising 0 s.regs) (huv : s.biasUv = false)
    (hfree : shutFree s = some k) (hsensor : sensor < 32) (hlo : -32768 ≤ v) (hhi : v < 32768) :
    ShutDown sensor k v s (thermalShutdown sensor v s) := by
  obtain ⟨hstep, hhk, hcopy, hslot⟩ := shutRecorded_holds hr huv hfree hsensor hlo hhi
  rw [thermalShutdown_eq]
  generalize shutRecorded sensor v s = a at hstep hhk hcopy hslot
  have hra := hstep.rising hr
  have hrc : Rising 0 (shutCount a).regs := State.wr_rising _ _ _ _ hra
  have hcount {k : Nat} (hk : k ≠ 0x50460) : (shutCount a).getReg k = a.getReg k := State.getReg_wr_ne _ _ hra hk
  have hhkC : (shutCount a).hk = a.hk := rfl
  generalize shutCount a = c at hrc hcount hhkC
  obtain ⟨hdown, hoff⟩ := domsOff_off hrc
  generalize domsOff c = d at hdown hoff
  have hrd := hdown.rising hrc
  have hun : (unpowered d).regs = dropKeys unpoweredKey d.regs ∧ (unpowered d).off = true ∧ (unpowered d).pages = [] ∧
      (unpowered d).hk = { d.hk with offWait := true } := ⟨rfl, rfl, rfl, rfl⟩
  generalize unpowered d = e at hun
  obtain ⟨heregs, heoff, hepages, hehk⟩ := hun
  have hre : Rising 0 e.regs := heregs ▸ dropKeys_rising _ hrd
  have hget {x : Nat} (hx : x / 2 ^ 44 = 9 ∨ x / 2 ^ 44 = 5) : e.getReg x = d.getReg x := by
    rw [State.getReg, heregs, look_dropKeys _ _ hrd, powered_kind hx]
    rfl
  have hisland := biasAll_island e
  generalize biasAll e = t at hisland
  have hkept {x : Nat} (hx : ¬ IslandKey x) : t.getReg x = e.getReg x := (hisland.touches hre).2 x hx
  have hframe : t.off = e.off ∧ t.hk = e.hk ∧ t.pages = e.pages := by
    obtain ⟨_, _, _, _, _, rfl⟩ := hisland.frame
    exact ⟨rfl, rfl, rfl⟩
  have hrec (i : Nat) (hi : i ≤ 16) : t.getReg ((Obj.shut i).base + 0x45C) = a.getReg ((Obj.shut i).base + 0x45C) := by
    have hkind : ((Obj.shut i).base + 0x45C) / 2 ^ 44 = 9 := by
      rw [shutBase_eq]
      omega
    rw [hkept (not_islandKey_high (by rw [shutBase_eq]; omega)), hget (.inl hkind), (hdown.touches hrc).2 _ (not_allDown_shut (by decide)),
      hcount (by rw [shutBase_eq]; omega)]
  have hk := shutFree_lt hfree
  refine ⟨hframe.1.trans heoff, ?_, ?_, fun d' => ?_, hframe.2.2.trans hepages, hcopy.of_getReg (hrec 16 (by decide)),
    hslot.of_getReg (hrec k (by omega))⟩
  · rw [hframe.2.1, hehk]
  · rw [hframe.2.1, hehk, ← hhk, ← hhkC, ← hdown.hk]
  · have hd84 := d'.isLt
    have hkind : (domB d'.val + R.PWR_DOM_STAT_STATE.off) / 2 ^ 44 = 5 := by
      rw [domB_eq]
      simp only [R.PWR_DOM_STAT_STATE]
      omega
    rw [← hoff d', State.domState, State.domState, State.rd, State.rd, hkept (not_islandKey_high (by omega)), hget (.inr hkind)]

end Sys2Proof.Machine
end

section

/-! The clearing of the shutdown records (R474), and O55. -/

namespace Sys2Proof.Machine

/-! ### The start of a clearing -/

/-- The mask of the numbers below n that p names. -/
def maskUpTo (p : Nat → Bool) (n : Nat) : Nat := (List.range n).foldl (fun m i => if p i then setBit m i else m) 0

theorem maskUpTo_bit (p : Nat → Bool) (n i : Nat) : (maskUpTo p n / 2 ^ i % 2 == 1) = (decide (i < n) && p i) := by
  induction n with
  | zero =>
    rw [maskUpTo, List.range_zero, List.foldl_nil, Nat.zero_div]
    rfl
  | succ n ih =>
    have hsucc : maskUpTo p (n + 1) = if p n then setBit (maskUpTo p n) n else maskUpTo p n := by
      rw [maskUpTo, List.range_succ, List.foldl_append]
      rfl
    rw [hsucc]
    by_cases hin : i = n
    · subst hin
      rw [decide_eq_true (Nat.lt_succ_self i), Bool.true_and]
      split
      · next hp => rw [setBit_testBit, hp]; rfl
      · next hp => rw [ih, decide_eq_false (Nat.lt_irrefl i), Bool.eq_false_iff.mpr hp]; rfl
    · have hlt : decide (i < n + 1) = decide (i < n) := decide_eq_decide.mpr (by omega)
      rw [hlt, ← ih]
      split
      · rw [setBit_bit_ne hin]
      · rfl

theorem writtenWord_readOnly {b : Blk} {off key : Nat} (w cur : Word) (h : ∀ f ∈ keyFlds key, f.acc = .ro ∨ f.acc = .wo) :
    writtenWord b off key w cur = cur := by
  unfold writtenWord
  have hall : ∀ f ∈ (keyFlds key).filter (fun f => !ignores b off w f), f.acc = .ro ∨ f.acc = .wo := fun f hf => h f (List.mem_filter.mp hf).1
  generalize (keyFlds key).filter (fun f => !ignores b off w f) = l at hall
  induction l with
  | nil => rfl
  | cons f l ih =>
    have hf : fldWrite false w cur f = cur := by
      unfold fldWrite
      rcases hall f List.mem_cons_self with hacc | hacc
      · rw [hacc]
      · rw [hacc]
    rw [List.foldl_cons, hf]
    exact ih fun g hg => hall g (List.mem_cons_of_mem f hg)

theorem shutClr_write {m : Master} {v : Word} {s : State} (h : Served m true 0x50460 v s) (hkey : fget v 31 16 = 0x7C1E) :
    writeCmd m 0x50460 v s.fresh = answered m 0x50460 true 0 .done (shutClr (storedAwake .hk 0x460 0x50460 v s)) := by
  rw [served_gated (b := .hk) (off := 0x460) h rfl rfl rfl rfl (.inr (by decide +kernel)) (by decide +kernel)]
  show answered m 0x50460 true 0 .done (if (fget v 31 16 == 0x7C1E) = true then shutClr _ else _) = _
  rw [hkey, if_pos (by decide)]

/-- The records to clear. -/
structure ShutClrTaken (s t : State) : Prop where
  frame : t.raised = s.raised ∧ t.mem = s.mem
  running : s.on hkB R.HK_SHUT_CLR_BUSY = true → t.hk.clearing = s.hk.clearing ∧ t.rd hkB R.HK_SHUT_CLR_RESULT = s.rd hkB R.HK_SHUT_CLR_RESULT
  refused : s.on hkB R.HK_SHUT_CLR_BUSY = false → s.safeOp.isSome = true ∨ s.biasUv = true →
    t.rd hkB R.HK_SHUT_CLR_RESULT = 1 ∧ t.on hkB R.HK_SHUT_CLR_BUSY = false
  starts : s.on hkB R.HK_SHUT_CLR_BUSY = false → s.safeOp = none → s.biasUv = false →
    t.on hkB R.HK_SHUT_CLR_BUSY = true ∧ ∀ i : Fin 17, (t.hk.clearing / 2 ^ i.val % 2 == 1) = shutOpen i.val s

theorem shutClr_taken {s : State} (hr : Rising 0 s.regs) : ShutClrTaken s (shutClr s) := by
  unfold shutClr
  by_cases hbusy : s.on hkB R.HK_SHUT_CLR_BUSY = true
  · rw [if_pos hbusy]
    exact ⟨⟨rfl, rfl⟩, fun _ => ⟨rfl, rfl⟩, fun h => absurd (hbusy.symm.trans h) (by decide), fun h => absurd (hbusy.symm.trans h) (by decide)⟩
  · rw [if_neg hbusy]
    by_cases hwait : (s.safeOp.isSome || s.biasUv) = true
    · rw [if_pos hwait]
      refine ⟨⟨rfl, rfl⟩, fun h => absurd h hbusy, fun h _ => ⟨State.rd_wr_same _ _ _ _ hr (by decide), ?_⟩, fun _ hop huv => ?_⟩
      · exact (State.on_congr (State.rd_wr_apart hr (by decide))).trans h
      · rw [hop, huv] at hwait
        exact absurd hwait (by decide)
    · rw [if_neg hwait]
      refine ⟨⟨rfl, rfl⟩, fun h => absurd h hbusy, fun _ h => absurd (by simpa using h) hwait, fun _ _ _ => ⟨?_, fun i => ?_⟩⟩
      · exact State.on_wr_one hr hkB (by decide) (by decide)
      · have hbit := maskUpTo_bit (fun i => shutOpen i s) 17 i.val
        rw [decide_eq_true i.isLt, Bool.true_and] at hbit
        exact hbit

theorem shutOpen_congr {i : Nat} {s t : State} (h : t.getReg ((Obj.shut i).base + 0x45C) = s.getReg ((Obj.shut i).base + 0x45C)) :
    shutOpen i t = shutOpen i s := by
  have hrd (f : Fld) (hf : f.off = 0x45C) : t.rd (Obj.shut i).base f = s.rd (Obj.shut i).base f := by rw [State.rd, State.rd, hf, h]
  rw [shutOpen, shutOpen, State.on_congr (hrd _ rfl), State.on_congr (hrd R.HK_SHUT_REC2_CLEARED rfl)]

theorem shutClr_served {m : Master} {v : Word} {s : State} (hinv : Inv s) (h : Served m true 0x50460 v s) (hkey : fget v 31 16 = 0x7C1E) :
    ShutClrTaken s (writeCmd m 0x50460 v s.fresh) := by
  obtain ⟨⟨m', c', hframe⟩, hrise, hword, hregs⟩ :=
    storedAwake_stored (b := .hk) (off := 0x460) (a := 0x50460) (w := v) hinv.regs_rising
  rw [shutClr_write h hkey]
  rw [writtenWord_readOnly _ _ (by decide +kernel)] at hword
  have hword' : (storedAwake .hk 0x460 0x50460 v s).getReg 0x50460 = s.getReg 0x50460 :=
    hword.trans ((awake_touches 0x50460 s.fresh hinv.regs_rising).2 _ (by unfold GateKey; decide))
  have hrd (f : Fld) (hf : f.off = 0x460) : (storedAwake .hk 0x460 0x50460 v s).rd hkB f = s.rd hkB f := by
    rw [State.rd, State.rd, hf]
    exact congrArg (fun w => fget w f.hi f.lo) hword'
  have hopen (i : Nat) : shutOpen i (storedAwake .hk 0x460 0x50460 v s) = shutOpen i s :=
    shutOpen_congr (hregs _ (by rw [shutBase_eq]; omega) (by unfold GateKey clkB; rw [shutBase_eq]; omega))
  have hother : ∀ t, t = storedAwake .hk 0x460 0x50460 v s →
      t.raised = s.raised ∧ t.mem = s.mem ∧ t.hk = s.hk ∧ t.safeOp = s.safeOp ∧ t.biasUv = s.biasUv := by
    rintro t rfl
    rw [hframe]
    exact ⟨rfl, rfl, rfl, rfl, rfl⟩
  generalize storedAwake .hk 0x460 0x50460 v s = t at hrise hrd hopen hother
  obtain ⟨hraised, hmem, hhk, hop, huv⟩ := hother t rfl
  obtain ⟨⟨htr, htm⟩, hrun, hrefused, hstarts⟩ := shutClr_taken hrise
  have hbusy : t.on hkB R.HK_SHUT_CLR_BUSY = s.on hkB R.HK_SHUT_CLR_BUSY := State.on_congr (hrd _ rfl)
  rw [hbusy] at hrun hrefused hstarts
  refine ⟨⟨htr.trans hraised, htm.trans hmem⟩, fun hb => ?_, fun hb hw => ?_, fun hb hn hu => ?_⟩
  · obtain ⟨h1, h2⟩ := hrun hb
    exact ⟨h1.trans (by rw [hhk]), h2.trans (hrd _ rfl)⟩
  · exact hrefused hb (by rw [hop, huv]; exact hw)
  · obtain ⟨h1, h2⟩ := hstarts hb (hop.trans hn) (huv.trans hu)
    exact ⟨h1, fun i => (h2 i).trans (hopen i.val)⟩

/-! ### Its end -/

/-- The records that the mask names are cleared. -/
def recordsCleared (m : Nat) (s : State) : State :=
  (List.range 16).foldl (fun s i => if m / 2 ^ i % 2 == 1 then s.wr (Obj.shut i).base R.HK_SHUT_REC2_CLEARED 1 else s) s

theorem recordsCleared_step (m : Nat) (s : State) :
    EdgeStep (fun k => ∃ i < 16, m / 2 ^ i % 2 = 1 ∧ k = (Obj.shut i).base + 0x45C) s (recordsCleared m s) := by
  refine EdgeStep.foldl (fun i hi t => ?_) s
  split
  · next h => exact (EdgeStep.refl _ t).wr _ ⟨i, List.mem_range.mp hi, beq_iff_eq.mp h, rfl⟩
  · exact EdgeStep.refl _ t

theorem recordsCleared_frame (m : Nat) (s : State) : ∃ r, recordsCleared m s = { s with regs := r } := by
  unfold recordsCleared
  generalize List.range 16 = l
  induction l generalizing s with
  | nil => exact ⟨_, rfl⟩
  | cons i l ih =>
    rw [List.foldl_cons]
    split
    · obtain ⟨r, hr⟩ := ih (s.wr (Obj.shut i).base R.HK_SHUT_REC2_CLEARED 1)
      exact ⟨r, hr⟩
    · exact ih s

theorem shutBase_inj {i j : Nat} (h : i ≠ j) : (Obj.shut i).base + 0x45C ≠ (Obj.shut j).base + 0x45C := by
  rw [shutBase_eq, shutBase_eq]
  omega

theorem recordsCleared_open {m i : Nat} {s : State} (hr : Rising 0 s.regs) (hi : i < 16) :
    shutOpen i (recordsCleared m s) = (shutOpen i s && m / 2 ^ i % 2 == 0) := by
  by_cases hbit : m / 2 ^ i % 2 = 1
  · have hcleared : (recordsCleared m s).on (Obj.shut i).base R.HK_SHUT_REC2_CLEARED = true := by
      have hone (j : Nat) (t : State) (ht : Rising 0 t.regs) :
          Rising 0 (if (m / 2 ^ j % 2 == 1) = true then t.wr (Obj.shut j).base R.HK_SHUT_REC2_CLEARED 1 else t).regs := by
        split
        · exact State.wr_rising _ _ _ _ ht
        · exact ht
      have hmake (t : State) (ht : Rising 0 t.regs) :
          (if (m / 2 ^ i % 2 == 1) = true then t.wr (Obj.shut i).base R.HK_SHUT_REC2_CLEARED 1 else t).on (Obj.shut i).base
            R.HK_SHUT_REC2_CLEARED = true := by
        rw [hbit, if_pos (by decide)]
        exact State.on_wr_one ht _ (by decide) (by decide)
      refine foldl_holds (R := fun t => Rising 0 t.regs) (P := fun t => t.on (Obj.shut i).base R.HK_SHUT_REC2_CLEARED = true) (i := i)
        (fun j _ t ht => hone j t ht) hmake (fun j _ t ht hp => ?_) (List.mem_range.mpr hi) hr
      by_cases hij : i = j
      · exact hij ▸ hmake t ht
      · split
        · rw [State.on_congr (State.rd_wr_ne _ _ _ _ _ _ ht (shutBase_inj hij))]
          exact hp
        · exact hp
    rw [shutOpen, hcleared, hbit]
    simp
  · have hzero : m / 2 ^ i % 2 = 0 := by omega
    rw [hzero, shutOpen_congr (((recordsCleared_step m s).touches hr).2 _ ?_), beq_self_eq_true, Bool.and_true]
    rintro ⟨j, -, hj, he⟩
    have hij : i ≠ j := by
      rintro rfl
      exact hbit hj
    exact shutBase_inj hij he

/-- The AON copy is emptied. -/
def copyEmptied (s : State) : State :=
  ((s.setReg ((Obj.shut 16).base + 0x454) 0).setReg ((Obj.shut 16).base + 0x458) 0).setReg ((Obj.shut 16).base + 0x45C) 0

theorem copyEmptied_emptied {s : State} (hr : Rising 0 s.regs) :
    Rising 0 (copyEmptied s).regs ∧ shutOpen 16 (copyEmptied s) = false ∧ ∀ i < 16, shutOpen i (copyEmptied s) = shutOpen i s := by
  have hr1 := State.setReg_rising s ((Obj.shut 16).base + 0x454) 0 hr
  have hr2 := State.setReg_rising _ ((Obj.shut 16).base + 0x458) 0 hr1
  refine ⟨State.setReg_rising _ _ _ hr2, ?_, fun i hi => shutOpen_congr ?_⟩
  · have hword : (copyEmptied s).getReg ((Obj.shut 16).base + 0x45C) = 0 := State.getReg_setReg_same _ _ _ hr2
    have hvalid : (copyEmptied s).on (Obj.shut 16).base R.HK_SHUT_REC2_VALID = false := by
      rw [State.on, State.rd, show R.HK_SHUT_REC2_VALID.off = 0x45C from rfl, hword]
      decide
    rw [shutOpen, hvalid]
    rfl
  · have hne (off : Nat) (ho : off < 0x1000) : (Obj.shut i).base + 0x45C ≠ (Obj.shut 16).base + off := by
      rw [shutBase_eq, shutBase_eq]
      omega
    rw [copyEmptied, State.getReg_setReg_ne _ _ hr2 (hne _ (by decide)), State.getReg_setReg_ne _ _ hr1 (hne _ (by decide)),
      State.getReg_setReg_ne _ _ hr (hne _ (by decide))]

/-- The command's answer is shown. -/
def clrAnswered (s : State) : State :=
  let s := (s.wr hkB R.HK_SHUT_CLR_BUSY 0).wr hkB R.HK_SHUT_CLR_RESULT 0
  { s with hk := { s.hk with clearing := 0 } }

theorem shutClrDone_eq {s : State} (hbusy : s.on hkB R.HK_SHUT_CLR_BUSY = true) :
    ∃ d, shutClrDone s = shutCount (clrAnswered (copyEmptied (recordsCleared s.hk.clearing (s.advance d)))) := by
  unfold shutClrDone
  rw [if_pos hbusy]
  exact ⟨_, rfl⟩

theorem clrAnswered_answered {s : State} (hr : Rising 0 s.regs) :
    Rising 0 (clrAnswered s).regs ∧ (clrAnswered s).on hkB R.HK_SHUT_CLR_BUSY = false ∧ (clrAnswered s).rd hkB R.HK_SHUT_CLR_RESULT = 0 ∧
    (∀ i, shutOpen i (clrAnswered s) = shutOpen i s) ∧ (clrAnswered s).raised = s.raised ∧ (clrAnswered s).mem = s.mem := by
  have hr1 : Rising 0 (s.wr hkB R.HK_SHUT_CLR_BUSY 0).regs := State.wr_rising _ _ _ _ hr
  have hr2 : Rising 0 ((s.wr hkB R.HK_SHUT_CLR_BUSY 0).wr hkB R.HK_SHUT_CLR_RESULT 0).regs := State.wr_rising _ _ _ _ hr1
  have hbusy : ((s.wr hkB R.HK_SHUT_CLR_BUSY 0).wr hkB R.HK_SHUT_CLR_RESULT 0).on hkB R.HK_SHUT_CLR_BUSY = false :=
    (State.on_congr (State.rd_wr_apart hr1 (by decide))).trans (State.on_wr_b2n hr hkB false (by decide) (by decide))
  have hresult : ((s.wr hkB R.HK_SHUT_CLR_BUSY 0).wr hkB R.HK_SHUT_CLR_RESULT 0).rd hkB R.HK_SHUT_CLR_RESULT = 0 :=
    State.rd_wr_same _ _ _ _ hr1 (by decide)
  refine ⟨hr2, hbusy, hresult, fun i => shutOpen_congr ?_, rfl, rfl⟩
  have hne (f : Fld) (hf : f.off < 0x1000) : (Obj.shut i).base + 0x45C ≠ hkB + f.off := by
    rw [shutBase_eq]
    unfold hkB
    omega
  exact (State.getReg_wr_ne _ _ hr1 (hne _ (by decide))).trans (State.getReg_wr_ne _ _ hr (hne _ (by decide)))

theorem pending_counted {p q : Nat → Bool} (hp : p 16 = false) (hq : ∀ i < 16, p i = q i) :
    ((List.range 17).filter p).length % 2 ^ 5 = ((List.range 16).filter q).length := by
  have hcongr : (List.range 16).filter p = (List.range 16).filter q := List.filter_congr fun i hi => hq i (List.mem_range.mp hi)
  have hle : ((List.range 16).filter q).length ≤ 16 := by
    have h := List.length_filter_le q (List.range 16)
    rwa [List.length_range] at h
  rw [show (17 : Nat) = 16 + 1 from rfl, List.range_succ, List.filter_append, List.filter_cons, hp, hcongr]
  rw [if_neg Bool.false_ne_true, List.filter_nil, List.append_nil]
  exact Nat.mod_eq_of_lt (by omega)

theorem shutClrDone_spec {s : State} (hr : Rising 0 s.regs) (hbusy : s.on hkB R.HK_SHUT_CLR_BUSY = true) :
    let u := shutClrDone s
    u.on hkB R.HK_SHUT_CLR_BUSY = false ∧ u.rd hkB R.HK_SHUT_CLR_RESULT = 0 ∧
    (∀ i < 16, shutOpen i u = (shutOpen i s && s.hk.clearing / 2 ^ i % 2 == 0)) ∧ shutOpen 16 u = false ∧
    u.rd hkB R.HK_SHUT_CLR_PENDING =
      ((List.range 16).filter (fun i => shutOpen i s && s.hk.clearing / 2 ^ i % 2 == 0)).length ∧
    u.raised = s.raised ∧ u.mem = s.mem := by
  obtain ⟨d, heq⟩ := shutClrDone_eq hbusy
  rw [heq]
  generalize s.hk.clearing = m
  have htime := TimePassed.of_advance s d
  generalize s.advance d = a at htime
  have hra : Rising 0 a.regs := htime.regs ▸ hr
  have hopenA (i : Nat) : shutOpen i a = shutOpen i s := shutOpen_congr (htime.getReg _)
  have hopenB (i : Nat) (hi : i < 16) := recordsCleared_open (m := m) hra hi
  have hrb := (recordsCleared_step m a).rising hra
  obtain ⟨rb, hframeB⟩ := recordsCleared_frame m a
  have hkeptB : (recordsCleared m a).raised = a.raised ∧ (recordsCleared m a).mem = a.mem := by
    rw [hframeB]
    exact ⟨rfl, rfl⟩
  generalize recordsCleared m a = b at hopenB hrb hkeptB
  obtain ⟨hrc, hcopy, hopenC⟩ := copyEmptied_emptied hrb
  have hkeptC : (copyEmptied b).raised = b.raised ∧ (copyEmptied b).mem = b.mem := ⟨rfl, rfl⟩
  generalize copyEmptied b = c at hrc hcopy hopenC hkeptC
  obtain ⟨hre, hnot, hresult, hopenE, heraised, hemem⟩ := clrAnswered_answered hrc
  generalize clrAnswered c = e at hre hnot hresult hopenE heraised hemem
  have hall (i : Nat) (hi : i < 16) : shutOpen i e = (shutOpen i s && m / 2 ^ i % 2 == 0) := by
    rw [hopenE, hopenC i hi, hopenB i hi, hopenA]
  have hlast : shutOpen 16 e = false := (hopenE 16).trans hcopy
  have hopenU (i : Nat) : shutOpen i (shutCount e) = shutOpen i e :=
    shutOpen_congr (State.getReg_wr_ne _ _ hre (by rw [shutBase_eq]; unfold hkB; simp only [R.HK_SHUT_CLR_PENDING]; omega))
  refine ⟨?_, ?_, fun i hi => (hopenU i).trans (hall i hi), (hopenU 16).trans hlast, ?_, ?_, ?_⟩
  · exact (State.on_congr (State.rd_wr_apart hre (by decide))).trans hnot
  · exact (State.rd_wr_apart hre (by decide)).trans hresult
  · exact (State.rd_wr_same _ _ _ _ hre (by decide)).trans (pending_counted hlast hall)
  · exact heraised.trans (hkeptC.1.trans (hkeptB.1.trans htime.raised))
  · exact hemem.trans (hkeptC.2.trans (hkeptB.2.trans htime.mem))

end Sys2Proof.Machine
end

section

/-! The reactions to a reading of all sensors (R469 to R473), and O55. -/

namespace Sys2Proof.Machine

/-- The levels after HOT, where the shutdown level was fed too. -/
theorem shutFed_fed (hot : Int) (s : State) :
    (shutFed hot s).therm = { s.therm with shut := s.hk.shut.feed hot 960 (hyst R.HK_TH_CFG_H_SHUT s) } ∧ (shutFed hot s).edge = s.edge ∧
    (shutFed hot s).regs = s.regs ∧ (shutFed hot s).hk.ts = s.hk.ts := ⟨rfl, rfl, rfl, rfl⟩

theorem not_hotKey_cfg : ¬ HotKey 0x50400 := by
  unfold HotKey SensorKey LevelKey RaiseKey FltKey EvtKey objKey
  omega

theorem not_hotKey_pwr : ¬ HotKey 0x30000 := by
  unfold HotKey SensorKey LevelKey RaiseKey FltKey EvtKey objKey
  omega

theorem hyst_congr {f : Fld} {s t : State} (h : t.rd hkB f = s.rd hkB f) : hyst f t = hyst f s := by rw [hyst, hyst, h]

/-- From s to t the levels were fed with the reading of sensor i. -/
structure LevelsTaken (raws : List (BitVec 16)) (i : Nat) (s t : State) : Prop where
  rising : Rising 0 t.regs
  regs : ∀ k, ¬ HotKey k → t.getReg k = s.getReg k
  edge : t.edge = { s.edge with now := max s.now (s.hk.thAt + (if s.pwrState == 3 || s.off then usT 1000 else usT 20)) }
  stands : ∀ j < 31, Stands j (reading raws s j) t ∧ tsFailed j t = false
  therm : t.therm = ⟨s.hk.warn.feed (reading raws s i) 800 (hyst R.HK_TH_CFG_H_WARN s), s.hk.thr.feed (reading raws s i) 880 (hyst R.HK_TH_CFG_H_THR s),
    s.hk.shut.feed (reading raws s i) 960 (hyst R.HK_TH_CFG_H_SHUT s), t.now⟩
  hotTs : t.rd hkB R.HK_TH_STATUS_HOT_TS = i
  hot : t.rd hkB R.HK_TH_STATUS_HOT = trunc 16 (reading raws s i)
  blind : t.on hkB R.HK_TH_STATUS_DIE_BLIND = false
  warned : s.islandRuns = true → (s.hk.warn.feed (reading raws s i) 800 (hyst R.HK_TH_CFG_H_WARN s)).on ≠ s.hk.warn.on →
    Sends 0x404 t ∧ t.on hkB R.HK_TH_STATUS_WARN = (s.hk.warn.feed (reading raws s i) 800 (hyst R.HK_TH_CFG_H_WARN s)).on
  throttled : s.islandRuns = true → (s.hk.thr.feed (reading raws s i) 880 (hyst R.HK_TH_CFG_H_THR s)).on ≠ s.hk.thr.on →
    Sends 0x405 t ∧ t.on hkB R.HK_TH_STATUS_THROTTLE = (s.hk.thr.feed (reading raws s i) 880 (hyst R.HK_TH_CFG_H_THR s)).on

/-- The state after the levels. -/
def levelStage (raws : List (BitVec 16)) (i : Nat) (s : State) : State := levelStep (reading raws s i) (shutFed (reading raws s i) (hotStage raws i s))

theorem levelStage_taken {raws : List (BitVec 16)} {i : Nat} {s : State} (hr : Rising 0 s.regs) (h : HotTaken raws i s (hotStage raws i s)) :
    LevelsTaken raws i s (levelStage raws i s) ∧
      (hotStage raws i s).hk.shut = s.hk.shut ∧ hyst R.HK_TH_CFG_H_SHUT (hotStage raws i s) = hyst R.HK_TH_CFG_H_SHUT s := by
  unfold levelStage
  generalize hotStage raws i s = e at h
  obtain ⟨hre, hregs⟩ := h.touches hr
  have hrdE {b : Nat} {f : Fld} (hk : ¬ HotKey (b + f.off)) : e.rd b f = s.rd b f := by rw [State.rd, State.rd, hregs _ hk]
  have hcfg {f : Fld} (hf : f.off = 0x400) : hyst f e = hyst f s := hyst_congr (hrdE (by rw [hf]; exact not_hotKey_cfg))
  have hshutE : e.hk.shut = s.hk.shut := congrArg ThermView.shut h.therm
  obtain ⟨hatherm, haedge, haregs, hats⟩ := shutFed_fed (reading raws s i) e
  rw [hshutE, hcfg rfl] at hatherm
  generalize shutFed (reading raws s i) e = a at hatherm haedge haregs hats
  have hra : Rising 0 a.regs := haregs ▸ hre
  have hrdA (b : Nat) (f : Fld) : a.rd b f = e.rd b f := by rw [State.rd, State.rd, State.getReg, State.getReg, haregs]
  have hwarn : a.hk.warn = s.hk.warn := (congrArg ThermView.warn hatherm).trans (congrArg ThermView.warn h.therm)
  have hthr : a.hk.thr = s.hk.thr := (congrArg ThermView.thr hatherm).trans (congrArg ThermView.thr h.therm)
  have hlevels := levelStep_stepped (hot := reading raws s i) hra
  rw [hwarn, hthr, hyst_congr (hrdA _ _), hcfg rfl, hyst_congr (hrdA hkB R.HK_TH_CFG_H_THR), hcfg rfl] at hlevels
  have hruns : a.islandRuns = s.islandRuns := by rw [State.islandRuns, State.islandRuns, hrdA, hrdE not_hotKey_pwr]
  generalize levelStep (reading raws s i) a = t at hlevels
  have hstat (g : Fld) (hg : g.off = 0x404) (h1 : apart R.HK_TH_STATUS_WARN g = true) (h2 : apart R.HK_TH_STATUS_THROTTLE g = true) :
      t.rd hkB g = e.rd hkB g := (hlevels.beside g hg h1 h2).trans (hrdA _ _)
  have hts : t.hk.ts = e.hk.ts := hlevels.ts.trans hats
  have hnow : t.now = e.now := (congrArg EdgeView.now hlevels.step.edge).trans (congrArg EdgeView.now haedge)
  refine ⟨⟨hlevels.step.rising hra, fun k hk => ?_, hlevels.step.edge.trans (haedge.trans h.edge), fun j hj => ⟨?_, ?_⟩, ?_, ?_, ?_, ?_,
    fun hrun hne => ?_, fun hrun hne => ?_⟩, hshutE, hcfg rfl⟩
  · rw [(hlevels.step.touches hra).2 k (fun h => hk (.inr h)), State.getReg, haregs]
    exact hregs k hk
  · rw [Stands, State.tsOf, hts]
    exact (h.stands j hj).1
  · have hfail : t.rd hkB R.HK_TH_FAIL_FAILED = e.rd hkB R.HK_TH_FAIL_FAILED :=
      (hlevels.step.rd hra (by unfold LevelKey RaiseKey FltKey EvtKey objKey hkB; simp only [R.HK_TH_FAIL_FAILED]; omega)).trans (hrdA _ _)
    exact (tsFailed_congr hfail).trans (h.stands j hj).2
  · rw [hlevels.therm, hatherm, h.therm, hnow]
  · rw [hstat _ rfl (by decide) (by decide), h.hotTs]
  · rw [hstat _ rfl (by decide) (by decide), h.hot]
  · rw [State.on_congr (hstat _ rfl (by decide) (by decide)), h.blind]
  · exact hlevels.warned (hruns.trans hrun) (by rw [hwarn]; exact hne)
  · exact hlevels.throttled (hruns.trans hrun) (by rw [hthr]; exact hne)

/-! ### A quiet reading -/

/-- What a reading leaves where the part stays on. -/
structure QuietReading (raws : List (BitVec 16)) (i : Nat) (s u : State) : Prop where
  stands : ∀ j < 31, Stands j (reading raws s j) u ∧ tsFailed j u = false
  edge : u.edge = { s.edge with now := max s.now (s.hk.thAt + (if s.pwrState == 3 || s.off then usT 1000 else usT 20)) }
  therm : u.therm = ⟨s.hk.warn.feed (reading raws s i) 800 (hyst R.HK_TH_CFG_H_WARN s), s.hk.thr.feed (reading raws s i) 880 (hyst R.HK_TH_CFG_H_THR s),
    s.hk.shut.feed (reading raws s i) 960 (hyst R.HK_TH_CFG_H_SHUT s), u.now⟩
  first : FirstMax (reading raws s) 31 i
  blind : u.on hkB R.HK_TH_STATUS_DIE_BLIND = false
  hotTs : u.rd hkB R.HK_TH_STATUS_HOT_TS = i
  hot : u.rd hkB R.HK_TH_STATUS_HOT = trunc 16 (reading raws s i)
  warned : s.islandRuns = true → (s.hk.warn.feed (reading raws s i) 800 (hyst R.HK_TH_CFG_H_WARN s)).on ≠ s.hk.warn.on →
    Sends 0x404 u ∧ u.on hkB R.HK_TH_STATUS_WARN = (s.hk.warn.feed (reading raws s i) 800 (hyst R.HK_TH_CFG_H_WARN s)).on
  throttled : s.islandRuns = true → (s.hk.thr.feed (reading raws s i) 880 (hyst R.HK_TH_CFG_H_THR s)).on ≠ s.hk.thr.on →
    Sends 0x405 u ∧ u.on hkB R.HK_TH_STATUS_THROTTLE = (s.hk.thr.feed (reading raws s i) 880 (hyst R.HK_TH_CFG_H_THR s)).on
  dim : u.on hkB R.HK_TH_STATUS_DIM = (u.on hkB R.HK_TH_STATUS_THROTTLE || s.on hkB R.HK_TH_CFG_FORCE)

theorem quiet_reading {raws : List (BitVec 16)} {s : State} (hr : Rising 0 s.regs) (hts : Rising 0 s.hk.ts) (hpor : s.por = false)
    (hcalm : Calm s) (hshut : s.hk.shut.on = false) (hrange : ∀ i < 31, -440 ≤ reading raws s i ∧ reading raws s i < 960) :
    ∃ i, QuietReading raws i s (thermalReading raws s) := by
  obtain ⟨i, htaken, hhot⟩ := hotStage_taken hr hts hcalm fun i hi => ⟨(hrange i hi).1, by have := (hrange i hi).2; omega⟩
  have hfirst := htaken.first
  obtain ⟨hlevels, hshutE, -⟩ := levelStage_taken hr htaken
  have hquiet : hotReact (reading raws s i) i (hotStage raws i s) = selfcalDue (dimSync (levelStage raws i s)) := by
    have hoff : ((hotStage raws i s).hk.shut.feed (reading raws s i) 960 (hyst R.HK_TH_CFG_H_SHUT (hotStage raws i s))).on = false := by
      rw [hshutE, feed_off hshut, if_neg (by have := (hrange i hfirst.1).2; omega)]
      exact hshut
    unfold hotReact levelStage
    dsimp only
    rw [hoff]
    rfl
  refine ⟨i, ?_⟩
  have heq : thermalReading raws s = selfcalDue (dimSync (levelStage raws i s)) := (thermalReading_hot hpor hhot).trans hquiet
  rw [heq]
  generalize levelStage raws i s = t at hlevels
  obtain ⟨hdedge, hdhk, hdsends, hdim, hdbeside⟩ := dimSync_kept hlevels.rising
  have hrd := hdedge.rising hlevels.rising
  generalize dimSync t = d at hdedge hdhk hdsends hdim hdbeside hrd
  obtain ⟨hcedge, hctherm, hcts, hcraised, hcbeside⟩ := selfcalDue_kept hrd
  generalize selfcalDue d = u at hcedge hctherm hcts hcraised hcbeside
  have hsends (id : Nat) (h : Sends id t) : Sends id u := (hdsends id h).of_raised hcraised
  have hstat (g : Fld) (hg : g.off = 0x404) (h1 : apart R.HK_TH_STATUS_DIM_STAT g = true) (h2 : apart R.HK_TH_STATUS_SCRUB_DIM g = true)
      (h3 : apart R.HK_TH_STATUS_DIM g = true) : u.rd hkB g = t.rd hkB g :=
    (hcbeside g (.inl hg)).trans (hdbeside g (by omega) h1 h2 h3)
  have hfail : u.rd hkB R.HK_TH_FAIL_FAILED = t.rd hkB R.HK_TH_FAIL_FAILED :=
    (hcbeside _ (.inr rfl)).trans (hdbeside _ (by decide) (by decide) (by decide) (by decide))
  have hedge : u.edge = t.edge := hcedge.trans hdedge.edge
  have hnow : u.now = t.now := congrArg EdgeView.now hedge
  have hview : d.therm = t.therm := by rw [State.therm, State.therm, hdhk]
  have hforce : t.on hkB R.HK_TH_CFG_FORCE = s.on hkB R.HK_TH_CFG_FORCE := by
    have hcfg := hlevels.regs (hkB + R.HK_TH_CFG_FORCE.off) not_hotKey_cfg
    rw [State.on, State.on, State.rd, State.rd, hcfg]
  have hthr : u.on hkB R.HK_TH_STATUS_THROTTLE = t.on hkB R.HK_TH_STATUS_THROTTLE :=
    State.on_congr (hstat _ rfl (by decide) (by decide) (by decide))
  refine ⟨fun j hj => ⟨?_, (tsFailed_congr hfail).trans (hlevels.stands j hj).2⟩, hedge.trans hlevels.edge, ?_, hfirst, ?_, ?_, ?_,
    fun hrun hne => ?_, fun hrun hne => ?_, ?_⟩
  · rw [Stands, State.tsOf, hcts, hdhk]
    exact (hlevels.stands j hj).1
  · rw [hctherm, hview, hlevels.therm, hnow]
  · rw [State.on_congr (hstat _ rfl (by decide) (by decide) (by decide)), hlevels.blind]
  · rw [hstat _ rfl (by decide) (by decide) (by decide), hlevels.hotTs]
  · rw [hstat _ rfl (by decide) (by decide) (by decide), hlevels.hot]
  · obtain ⟨h1, h2⟩ := hlevels.warned hrun hne
    exact ⟨hsends _ h1, (State.on_congr (hstat _ rfl (by decide) (by decide) (by decide))).trans h2⟩
  · obtain ⟨h1, h2⟩ := hlevels.throttled hrun hne
    exact ⟨hsends _ h1, hthr.trans h2⟩
  · rw [State.on_congr (hcbeside R.HK_TH_STATUS_DIM (.inl rfl)), hdim, dimWant, hlevels.blind, hforce, hthr, Bool.or_false]

/-! ### A shutdown -/

theorem shutdown_reading {raws : List (BitVec 16)} {s : State} {k : Nat} (hr : Rising 0 s.regs) (hts : Rising 0 s.hk.ts) (hpor : s.por = false)
    (hoff : s.off = false) (hcalm : Calm s) (hshut : s.hk.shut = ⟨false, 2⟩) (huv : s.biasUv = false) (hfree : shutFree s = some k)
    (hrange : ∀ i < 31, -440 ≤ reading raws s i ∧ reading raws s i ≤ 1200) (hhot : ∃ i < 31, 960 ≤ reading raws s i) :
    ∃ i, FirstMax (reading raws s) 31 i ∧ (thermalReading raws s).off = true ∧ (thermalReading raws s).hk.offWait = true ∧
      (thermalReading raws s).hk.shut = ⟨true, 0⟩ ∧ (∀ d : Dom, (thermalReading raws s).domState d.val = 0) ∧ (thermalReading raws s).pages = [] ∧
      ShutHolds (Obj.shut 16).base i (reading raws s i) (thermalReading raws s) ∧
      ShutHolds (Obj.shut k).base i (reading raws s i) (thermalReading raws s) := by
  obtain ⟨i, htaken, hhotOf⟩ := hotStage_taken hr hts hcalm hrange
  obtain ⟨hi, hmax, hfirst⟩ := id htaken.first
  obtain ⟨hlevels, hshutE, -⟩ := levelStage_taken hr htaken
  have hge : 960 ≤ reading raws s i := by
    obtain ⟨j, hj, hv⟩ := hhot
    have := hmax j hj
    omega
  have hfeed (h : Int) : s.hk.shut.feed (reading raws s i) 960 h = ⟨true, 0⟩ := by
    rw [feed_off (by rw [hshut]), if_pos hge, hshut]
    rfl
  have htoff : (levelStage raws i s).off = false := by
    have hedge := hlevels.edge
    generalize levelStage raws i s = t at hedge
    exact (congrArg EdgeView.off hedge).trans hoff
  have hset : hotReact (reading raws s i) i (hotStage raws i s) = thermalShutdown i (reading raws s i) (levelStage raws i s) := by
    have hon : ((hotStage raws i s).hk.shut.feed (reading raws s i) 960 (hyst R.HK_TH_CFG_H_SHUT (hotStage raws i s))).on = true := by
      rw [hshutE, hfeed]
    have hwas : (hotStage raws i s).hk.shut.on = false := by rw [hshutE, hshut]
    unfold hotReact
    dsimp only
    unfold levelStage at htoff ⊢
    rw [hon, hwas, htoff]
    rfl
  have heq : thermalReading raws s = thermalShutdown i (reading raws s i) (levelStage raws i s) := (thermalReading_hot hpor hhotOf).trans hset
  rw [heq]
  generalize levelStage raws i s = t at hlevels
  have hfreeT : shutFree t = some k := by
    rw [shutFree_congr fun j hj => ?_, hfree]
    refine State.on_congr ?_
    rw [State.rd, State.rd, hlevels.regs]
    rw [shutBase_eq]
    simp only [R.HK_SHUT_REC2_VALID]
    unfold HotKey SensorKey LevelKey RaiseKey FltKey EvtKey objKey
    omega
  have hlow := (hrange i hi).1
  have hhigh := (hrange i hi).2
  have hdown := thermalShutdown_down (sensor := i) (v := reading raws s i) hlevels.rising ((congrArg EdgeView.biasUv hlevels.edge).trans huv)
    hfreeT (by omega) (by omega) (by omega)
  have hshutT : t.hk.shut = ⟨true, 0⟩ := (congrArg ThermView.shut hlevels.therm).trans (hfeed _)
  exact ⟨i, ⟨hi, hmax, hfirst⟩, hdown.off, hdown.wait, hdown.shut.trans hshutT, hdown.doms, hdown.pages, hdown.copy, hdown.slot⟩

theorem Inv.ts_rising {s : State} (h : Inv s) : Rising 0 s.hk.ts := by
  obtain ⟨-, -, -, -, -, htidy, -⟩ := h
  simp only [State.tidied, Bool.and_eq_true, risesFrom_iff] at htidy
  exact htidy.1.2

end Sys2Proof.Machine
end

section

/-! O55: the thermal sensors, the shutdown and its records. -/

namespace Sys2Proof.Machine

/-- Every sensor's reading is within the bounds, and none is marked or injected. -/
theorem calm_of_all {s : State} {P : Fin 31 → Prop}
    (h : ∀ i : Fin 31, (s.tsOf i.val).injTemp = 0 ∧ (s.tsOf i.val).injFail = 0 ∧ tsFailed i.val s = false ∧ P i) : Calm s := by
  intro i hi
  obtain ⟨htemp, hfail, hmark, -⟩ := h ⟨i, hi⟩
  exact ⟨htemp, hfail, hmark⟩

theorem FirstMax.fin {r : Nat → Int} {i : Nat} (h : FirstMax r 31 i) :
    ∃ hi : i < 31, (∀ j : Fin 31, r j.val ≤ r i) ∧ ∀ j : Fin 31, j < ⟨i, hi⟩ → r j.val < r i :=
  ⟨h.1, fun j => h.2.1 j.val j.isLt, fun j hj => h.2.2 j.val hj⟩

theorem shut_feed_low {x : LvlSt} {hot h : Int} (hon : x.on = false) (hlow : hot < 960) : x.feed hot 960 h = ⟨false, 0⟩ := by
  rw [feed_off hon, if_neg (by omega), ← hon]

/-- Settles O55: HOT is the first greatest of the readings, each level follows its count, and a shutdown leaves its record. -/
theorem thermal : Obligations.Thermal := by
  unfold Obligations.Thermal
  refine ⟨fun raws s hinv hpor hoff hpwr hshut hall => ?_, fun x hot lvl h _ => feed_spec x hot lvl h,
    fun raws s k hinv hpor hoff hshut huv hfree hall hhot => ?_, fun i raw s hinv htemp hfail => ⟨fun hbad => ?_, fun hlow hhigh => ?_, fun j hj => ?_⟩,
    fun m w s hinv hserved => ?_, fun s hinv hbusy => ?_⟩
  · refine ⟨_, exec_closed (f := thermalReading raws) rfl rfl, ?_⟩
    obtain ⟨i, hquiet⟩ := quiet_reading (s := s.fresh) (raws := raws) hinv.regs_rising hinv.ts_rising hpor (calm_of_all hall) hshut
      fun i hi => (hall ⟨i, hi⟩).2.2.2
    obtain ⟨hi, hmax, hfirst⟩ := hquiet.first.fin
    have hlow := (hall ⟨i, hi⟩).2.2.2
    have hruns : s.fresh.islandRuns = true := by
      have hlt : s.rd pwrB R.PWR_STATUS_STATE ≤ 1 := hpwr
      exact bne_iff_ne.mpr (by rw [State.fresh_rd]; omega)
    have hedge := hquiet.edge
    have hstate : (s.fresh.pwrState == 3 || s.fresh.off) = false := by
      have hp : s.fresh.pwrState ≤ 1 := hpwr
      have ho : s.fresh.off = false := hoff
      rw [ho, Bool.or_false, beq_eq_false_iff_ne]
      omega
    rw [hstate, if_neg Bool.false_ne_true] at hedge
    have htherm := hquiet.therm
    generalize thermalReading raws s.fresh = u at hquiet hedge htherm
    refine ⟨fun j => ?_, congrArg EdgeView.now hedge, congrArg ThermView.thAt htherm, hquiet.blind, (congrArg EdgeView.off hedge).trans hoff,
      congrArg EdgeView.mem hedge, ?_, ⟨i, hi⟩, hquiet.hotTs, ?_, hmax, hfirst, congrArg ThermView.warn htherm, congrArg ThermView.thr htherm, ?_, ?_,
      hquiet.dim⟩
    · obtain ⟨⟨hlast, hbad, -⟩, hmark⟩ := hquiet.stands j.val j.isLt
      exact ⟨hlast, hbad, hmark⟩
    · exact (congrArg ThermView.shut htherm).trans (shut_feed_low hshut hlow.2)
    · rw [State.rdI, hquiet.hot]
      exact sext_trunc _ (le_trans (by decide) hlow.1) (lt_trans hlow.2 (by decide))
    · have hw : u.hk.warn = _ := congrArg ThermView.warn htherm
      rw [hw]
      exact hquiet.warned hruns
    · have hx : u.hk.thr = _ := congrArg ThermView.thr htherm
      rw [hx]
      exact hquiet.throttled hruns
  · refine ⟨_, exec_closed (f := thermalReading raws) rfl rfl, ?_⟩
    obtain ⟨j, hj⟩ := hhot
    obtain ⟨i, hfirst, hdown⟩ := shutdown_reading (s := s.fresh) (raws := raws) (k := k) hinv.regs_rising hinv.ts_rising hpor hoff
      (calm_of_all hall) hshut huv hfree (fun i hi => (hall ⟨i, hi⟩).2.2.2) ⟨j.val, j.isLt, hj⟩
    obtain ⟨hi, hmax, hlt⟩ := hfirst.fin
    obtain ⟨hoffU, hwait, hshutU, hdoms, hpages, hcopy, hslot⟩ := hdown
    refine ⟨hoffU, hwait, hshutU, hdoms, hpages, ⟨i, hi⟩, hmax, hlt, fun b hb => ?_⟩
    rcases List.mem_pair.mp hb with rfl | rfl
    · exact hcopy
    · exact hslot
  · obtain ⟨x, f, hread, hlast, hgood, hf, hsends⟩ := tsReading_invalid (raw := raw) hinv.regs_rising hinv.ts_rising i.isLt htemp hfail hbad
    exact ⟨(congrArg TsSt.last hread.own).trans hlast, (congrArg TsSt.good hread.own).trans hgood, hread.failed.trans hf, hsends⟩
  · obtain ⟨x, f, hread, hx, hf, hraised⟩ := tsReading_valid (raw := raw) hinv.regs_rising hinv.ts_rising i.isLt htemp hfail hlow hhigh
    rw [hx] at hread
    exact ⟨congrArg TsSt.last hread.own, congrArg TsSt.bad hread.own, hread.failed.trans hf, hraised⟩
  · have hne : j.val ≠ i.val := fun h => hj (Fin.ext h)
    have hread : ∃ x f, SensorRead i.val x f s (tsReading i.val raw s) := by
      by_cases hbad : raw.toInt + tsOfs i.val s < -440 ∨ 1200 < raw.toInt + tsOfs i.val s
      · obtain ⟨x, f, h, -⟩ := tsReading_invalid (raw := raw) hinv.regs_rising hinv.ts_rising i.isLt htemp hfail hbad
        exact ⟨x, f, h⟩
      · obtain ⟨x, f, h, -⟩ := tsReading_valid (raw := raw) hinv.regs_rising hinv.ts_rising i.isLt htemp hfail (by omega) (by omega)
        exact ⟨x, f, h⟩
    obtain ⟨x, f, h⟩ := hread
    exact ⟨h.others j.val hne, h.othersFailed j.val j.isLt hne⟩
  · have htaken := shutClr_served hinv hserved (fget_fset_same w 16 0x7C1E (by decide))
    obtain ⟨hframe, hrunning, hrefused, hstarts⟩ := htaken
    exact ⟨_, exec_closed (f := writeCmd m 0x00050460 (fset w 31 16 0x7C1E)) rfl rfl, hframe.1, hframe.2, hrunning, hrefused, hstarts⟩
  · refine ⟨_, exec_closed (f := shutClrDone) rfl rfl, ?_⟩
    obtain ⟨h1, h2, hopen, h16, hpending, hraised, hmem⟩ := shutClrDone_spec (s := s.fresh) hinv.regs_rising hbusy
    generalize shutClrDone s.fresh = u at h1 h2 hopen h16 hpending hraised hmem
    refine ⟨h1, h2, fun i hbit => ?_, fun i hbit => ?_, h16, hpending, hraised, hmem⟩
    · rw [hopen i.val i.isLt]
      have hbit' : s.fresh.hk.clearing / 2 ^ i.val % 2 = 1 := hbit
      rw [hbit']
      exact Bool.and_false _
    · rw [hopen i.val i.isLt]
      have hbit' : s.fresh.hk.clearing / 2 ^ i.val % 2 = 0 := hbit
      rw [hbit']
      exact Bool.and_true _

end Sys2Proof.Machine
end

section

/-! A domain that enters a state, with its own registers (R447), and the domains that wait (R454, R457). -/

namespace Sys2Proof.Machine

/-- The keys that a domain's change of state writes. -/
def GoKey (d k : Nat) : Prop := k = domB d + 0x34 ∨ k = reqB d + 0x20

theorem reqB_eq (d : Nat) : reqB d = 0x30000 + 4 * (d / 32) := rfl

theorem domState_not_go {d e : Nat} (hd : d < 84) (h : e ≠ d) : ¬ GoKey d (domB e + R.PWR_DOM_STAT_STATE.off) := by
  unfold GoKey
  rw [domB_eq, domB_eq, reqB_eq]
  simp only [R.PWR_DOM_STAT_STATE]
  omega

theorem domReq_not_go {d e : Nat} (he : e < 84) : ¬ GoKey d (reqB e + R.PWR_DOM_REQ_REQ.off) := by
  unfold GoKey
  rw [domB_eq, reqB_eq, reqB_eq]
  simp only [R.PWR_DOM_REQ_REQ]
  omega

theorem pwr_not_go {d k : Nat} (h : k < 0x30020 ∨ (0x3002C ≤ k ∧ k < 2 ^ 32)) (hd : d < 84) : ¬ GoKey d k := by
  unfold GoKey
  rw [domB_eq, reqB_eq]
  omega

theorem State.domReq_congr {s t : State} {d : Nat} (h : t.rd (reqB d) R.PWR_DOM_REQ_REQ = s.rd (reqB d) R.PWR_DOM_REQ_REQ) :
    t.domReq d = s.domReq d := by rw [State.domReq, State.domReq, h]

theorem Touches.rd {K : Nat → Prop} {s t : State} (h : Touches K s t) (hr : Rising 0 s.regs) {b : Nat} {f : Fld} (hk : ¬ K (b + f.off)) :
    t.rd b f = s.rd b f := by rw [State.rd, State.rd, (h hr).2 _ hk]

/-- From s to t the domain d entered the state st. -/
structure DomMoved (d st : Nat) (s t : State) : Prop where
  touches : Touches (GoKey d) s t
  frame : ∃ m, t = { s with regs := m }
  state : t.domState d = st
  dig : t.on (domB d) R.PWR_DOM_STAT_DIG_RDY = (st == 3)
  ana : st ≠ 3 → t.rd (domB d) R.PWR_DOM_STAT_ANA_RDY = 0
  on : t.rd (reqB d) R.PWR_DOM_ON_ON / 2 ^ (d % 32) % 2 = b2n (st == 3)
  beside : ∀ g : Fld, g.off = 0x34 → apart R.PWR_DOM_STAT_STATE g = true → apart R.PWR_DOM_STAT_DIG_RDY g = true →
    apart R.PWR_DOM_STAT_ANA_RDY g = true → t.rd (domB d) g = s.rd (domB d) g

/-- The state and DIG_RDY are shown. -/
def domShown (d st : Nat) (s : State) : State :=
  (s.wr (domB d) R.PWR_DOM_STAT_STATE st).wr (domB d) R.PWR_DOM_STAT_DIG_RDY (b2n (st == 3))

/-- ANA_RDY reads 0 but in ON. -/
def domUnready (d st : Nat) (s : State) : State := if st == 3 then s else s.wr (domB d) R.PWR_DOM_STAT_ANA_RDY 0

theorem domGo_eq (d st : Nat) (s : State) : domGo d st s = domOnSet d (st == 3) (domUnready d st (domShown d st s)) := rfl

theorem domShown_shown {d st : Nat} {s : State} (hst : st < 8) (hr : Rising 0 s.regs) :
    Rising 0 (domShown d st s).regs ∧ (domShown d st s).domState d = st ∧ (domShown d st s).on (domB d) R.PWR_DOM_STAT_DIG_RDY = (st == 3) ∧
    ∀ g : Fld, apart R.PWR_DOM_STAT_STATE g = true → apart R.PWR_DOM_STAT_DIG_RDY g = true →
      (domShown d st s).rd (domB d) g = s.rd (domB d) g := by
  have hr1 : Rising 0 (s.wr (domB d) R.PWR_DOM_STAT_STATE st).regs := State.wr_rising _ _ _ _ hr
  refine ⟨State.wr_rising _ _ _ _ hr1, ?_, State.on_wr_b2n hr1 _ _ (by decide) rfl, fun g h1 h2 => ?_⟩
  · exact (State.rd_wr_apart hr1 (by decide)).trans ((State.rd_wr_same _ _ _ _ hr (by decide)).trans (Nat.mod_eq_of_lt hst))
  · exact (State.rd_wr_apart hr1 h2).trans (State.rd_wr_apart hr h1)

theorem domUnready_shown {d st : Nat} {s : State} (hr : Rising 0 s.regs) :
    Rising 0 (domUnready d st s).regs ∧ (st ≠ 3 → (domUnready d st s).rd (domB d) R.PWR_DOM_STAT_ANA_RDY = 0) ∧
    ∀ g : Fld, apart R.PWR_DOM_STAT_ANA_RDY g = true → (domUnready d st s).rd (domB d) g = s.rd (domB d) g := by
  unfold domUnready
  split
  · next h => exact ⟨hr, fun hne => absurd (beq_iff_eq.mp h) hne, fun _ _ => rfl⟩
  · exact ⟨State.wr_rising _ _ _ _ hr, fun _ => State.rd_wr_same _ _ _ _ hr (by decide), fun g hg => State.rd_wr_apart hr hg⟩

theorem domOnSet_set (d : Nat) (v : Bool) {s : State} (hr : Rising 0 s.regs) :
    (domOnSet d v s).rd (reqB d) R.PWR_DOM_ON_ON / 2 ^ (d % 32) % 2 = b2n v ∧
    ∀ g : Fld, g.off = 0x34 → (domOnSet d v s).rd (domB d) g = s.rd (domB d) g := by
  unfold domOnSet
  refine ⟨?_, fun g hg => State.rd_wr_ne _ _ _ _ _ _ hr ?_⟩
  · rw [State.rd_wr_same _ _ _ _ hr (by decide)]
    refine (mod_two_pow_bit (w := 32) (Nat.mod_lt _ (by decide))).trans ?_
    cases v
    · exact (clrBit_bit _ _).1
    · exact setBit_testBit _ _
  · rw [hg, domB_eq, reqB_eq]
    simp only [R.PWR_DOM_ON_ON]
    omega

theorem domGo_touches (d st : Nat) (s : State) : Touches (GoKey d) s (domGo d st s) := by
  have hset : Touches (GoKey d) s (domShown d st s) := ((Touches.refl _ s).wr _ (.inl rfl)).wr _ (.inl rfl)
  have hclear (t : State) : Touches (GoKey d) t (domUnready d st t) := by
    unfold domUnready
    split
    · exact .refl _ _
    · exact (Touches.refl _ t).wr _ (.inl rfl)
  have hon (t : State) : Touches (GoKey d) t (domOnSet d (st == 3) t) := by
    unfold domOnSet
    exact (Touches.refl _ t).wr _ (.inr rfl)
  rw [domGo_eq]
  exact (hset.trans (hclear _)).trans (hon _)

theorem domGo_frame (d st : Nat) (s : State) : ∃ m, domGo d st s = { s with regs := m } := by
  rw [domGo_eq, domUnready]
  split
  · exact ⟨_, rfl⟩
  · exact ⟨_, rfl⟩

theorem domGo_moved {d st : Nat} {s : State} (hst : st < 8) (hr : Rising 0 s.regs) : DomMoved d st s (domGo d st s) := by
  have htouches := domGo_touches d st s
  have hframe := domGo_frame d st s
  rw [domGo_eq] at htouches hframe ⊢
  obtain ⟨hra, hstate, hdig, hside⟩ := domShown_shown (d := d) hst hr
  generalize domShown d st s = a at htouches hframe hra hstate hdig hside ⊢
  obtain ⟨hrb, hana, hsideB⟩ := domUnready_shown (d := d) (st := st) hra
  generalize domUnready d st a = b at htouches hframe hrb hana hsideB ⊢
  obtain ⟨hon, hkeep⟩ := domOnSet_set d (st == 3) hrb
  refine ⟨htouches, hframe, ?_, ?_, fun hne => ?_, hon, fun g hg h1 h2 h3 => ?_⟩
  · exact (hkeep _ rfl).trans ((hsideB _ (by decide)).trans hstate)
  · exact (State.on_congr ((hkeep _ rfl).trans (hsideB _ (by decide)))).trans hdig
  · exact (hkeep _ rfl).trans (hana hne)
  · exact (hkeep g hg).trans ((hsideB g h3).trans (hside g h1 h2))

theorem DomMoved.rising {d st : Nat} {s t : State} (h : DomMoved d st s t) (hr : Rising 0 s.regs) : Rising 0 t.regs := (h.touches hr).1

theorem DomMoved.others {d st e : Nat} {s t : State} (h : DomMoved d st s t) (hr : Rising 0 s.regs) (hd : d < 84) (he : e ≠ d) :
    t.domState e = s.domState e := h.touches.rd hr (domState_not_go hd he)

theorem DomMoved.req {d st e : Nat} {s t : State} (h : DomMoved d st s t) (hr : Rising 0 s.regs) (he : e < 84) :
    t.domReq e = s.domReq e := State.domReq_congr (h.touches.rd hr (domReq_not_go he))

/-! ### The queue -/

theorem setDom_domOf {s : State} (hd : Rising 0 s.doms) (d : Nat) (x : DomSt) : (s.setDom d x).domOf d = x := look_put_same _ _ hd

theorem setDom_domOf_ne {s : State} (hd : Rising 0 s.doms) {d e : Nat} (he : e ≠ d) (x : DomSt) : (s.setDom d x).domOf e = s.domOf e :=
  look_put_other s.doms hd he

theorem setDom_rising {s : State} (hd : Rising 0 s.doms) (d : Nat) (x : DomSt) : Rising 0 (s.setDom d x).doms :=
  put_rising _ _ hd (Nat.zero_le d)

theorem Inv.doms_rising {s : State} (h : Inv s) : Rising 0 s.doms := by
  obtain ⟨-, -, -, -, -, htidy, -⟩ := h
  simp only [State.tidied, Bool.and_eq_true, risesFrom_iff] at htidy
  obtain ⟨⟨⟨⟨⟨⟨⟨⟨⟨⟨⟨⟨-, hdoms⟩, -⟩, -⟩, -⟩, -⟩, -⟩, -⟩, -⟩, -⟩, -⟩, -⟩, -⟩ := htidy
  exact hdoms

/-- From s to t the domain d joined the queue. -/
structure DomQueued (d : Nat) (cls1 : Bool) (s t : State) : Prop where
  touches : Touches (GoKey d) s t
  state : t.domState d = 1
  since : (t.domOf d).queuedAt = s.now
  first : t.pwr.first = if cls1 then s.pwr.first.filter (· != d) ++ [d] else s.pwr.first
  raised : t.raised = s.raised
  mem : t.mem = s.mem

theorem domQueue_queued {d : Nat} {cls1 : Bool} {s : State} (hr : Rising 0 s.regs) (hd : Rising 0 s.doms) :
    DomQueued d cls1 s (domQueue d cls1 s) := by
  have hset : ∀ x, Touches (GoKey d) s (s.setDom d x) := fun x => Touches.of_regs rfl
  have hown := setDom_domOf hd d { s.domOf d with queuedAt := s.now, down := false, up := false }
  have hkept := setDom_kept s d { s.domOf d with queuedAt := s.now, down := false, up := false }
  have hpwr : (s.setDom d { s.domOf d with queuedAt := s.now, down := false, up := false }).pwr = s.pwr := rfl
  unfold domQueue
  dsimp only
  have hset := hset { s.domOf d with queuedAt := s.now, down := false, up := false }
  generalize s.setDom d { s.domOf d with queuedAt := s.now, down := false, up := false } = a at hset hown hkept hpwr
  obtain ⟨haregs, -, -, hamem, haraised⟩ := hkept
  have hmoved := domGo_moved (d := d) (st := 1) (by decide) (haregs ▸ hr : Rising 0 a.regs)
  generalize domGo d 1 a = b at hmoved
  obtain ⟨m, hb⟩ := hmoved.frame
  have hlist : b.pwr = s.pwr := by
    rw [hb]
    exact hpwr
  have hof : b.domOf d = { s.domOf d with queuedAt := s.now, down := false, up := false } := by
    rw [hb]
    exact hown
  have hraised : b.raised = s.raised := by
    rw [hb]
    exact haraised
  have hmem : b.mem = s.mem := by
    rw [hb]
    exact hamem
  cases cls1
  · exact ⟨hset.trans hmoved.touches, hmoved.state, congrArg DomSt.queuedAt hof, congrArg _ hlist, hraised, hmem⟩
  · refine ⟨(hset.trans hmoved.touches).trans (.of_regs rfl), hmoved.state, congrArg DomSt.queuedAt hof, ?_, hraised, hmem⟩
    rw [← hlist]
    rfl

end Sys2Proof.Machine
end

section

/-! A served write of DOM_REQ that changes one bit (R448, R457). -/

namespace Sys2Proof.Machine

/-! ### The bits of a word -/

theorem getLsbD_bit (w : Word) (k : Nat) : w.toNat / 2 ^ k % 2 = b2n (w.getLsbD k) := by
  have h := Nat.testBit_eq_decide_div_mod_eq (x := w.toNat) (i := k)
  rw [← BitVec.getLsbD] at h
  rw [h]
  have h2 := Nat.mod_two_eq_zero_or_one (w.toNat / 2 ^ k)
  rcases h2 with h2 | h2 <;> rw [h2] <;> rfl

theorem fget_whole (w : Word) : fget w 31 0 = w.toNat := by
  have h : w.toNat < 2 ^ 32 := w.isLt
  unfold fget
  rw [Nat.pow_zero, Nat.div_one]
  exact Nat.mod_eq_of_lt h

/-! ### One bit of DOM_REQ -/

section
variable {ncp : Bool} {i old new b : Nat} {s : State}

theorem domReqBit_beyond (h : 84 ≤ 32 * i + b) : domReqBit ncp i old new b s = s := if_pos h

theorem domReqBit_same (h : old / 2 ^ b % 2 = new / 2 ^ b % 2) : domReqBit ncp i old new b s = s := by
  unfold domReqBit
  dsimp only
  rw [h]
  rcases Nat.mod_two_eq_zero_or_one (new / 2 ^ b) with h2 | h2 <;> rw [h2] <;> exact ite_self s

theorem domReqBit_up (hd : 32 * i + b < 84) (ho : old / 2 ^ b % 2 = 0) (hn : new / 2 ^ b % 2 = 1) :
    domReqBit ncp i old new b s = domUpReq (32 * i + b) s := by
  unfold domReqBit
  dsimp only
  rw [if_neg (Nat.not_le.mpr hd), ho, hn]
  rfl

theorem domReqBit_down (hd : 32 * i + b < 84) (ho : old / 2 ^ b % 2 = 1) (hn : new / 2 ^ b % 2 = 0) :
    domReqBit ncp i old new b s = domDownReq (32 * i + b) ncp s := by
  unfold domReqBit
  dsimp only
  rw [if_neg (Nat.not_le.mpr hd), ho, hn]
  rfl

end

/-- A fold of which one step alone acts. -/
theorem foldl_only {f : State → Nat → State} {b : Nat} {l : List Nat} (hl : l.Nodup) (hb : b ∈ l) (hf : ∀ k ∈ l, k ≠ b → ∀ s, f s k = s)
    (s : State) : l.foldl f s = f s b := by
  have hskip (l : List Nat) (h : ∀ k ∈ l, ∀ s, f s k = s) (s : State) : l.foldl f s = s := by
    induction l generalizing s with
    | nil => rfl
    | cons k l ih => rw [List.foldl_cons, h k List.mem_cons_self, ih fun j hj => h j (List.mem_cons_of_mem k hj)]
  induction l generalizing s with
  | nil => exact absurd hb List.not_mem_nil
  | cons k l ih =>
    obtain ⟨hk, hl⟩ := List.nodup_cons.mp hl
    rw [List.foldl_cons]
    by_cases hkb : k = b
    · subst hkb
      refine hskip l (fun j hj => hf j (List.mem_cons_of_mem k hj) ?_) _
      rintro rfl
      exact hk hj
    · rw [hf k List.mem_cons_self hkb]
      refine ih hl ?_ (fun j hj => hf j (List.mem_cons_of_mem k hj)) s
      exact (List.mem_cons.mp hb).resolve_left fun h => hkb h.symm

/-! ### The register -/

/-- DOM_REQ[i] holds the new word; bit 82 reads 1 (R446). -/
def reqNoted (i : Nat) (s : State) : State :=
  if i = 2 then s.wr (reqB 64) R.PWR_DOM_REQ_REQ (setBit (s.rd (reqB 64) R.PWR_DOM_REQ_REQ % 2 ^ 20) 18) else s

/-- DOM_REQ[i] as it reads. -/
def reqWord (i : Nat) (s : State) : Nat := s.rd (pwrB + 4 * i) R.PWR_DOM_REQ_REQ

theorem domReqWritten_eq (ncp : Bool) (i old : Nat) (s : State) : domReqWritten ncp i old s =
    (List.range 32).foldl (fun t k => domReqBit ncp i old (reqWord i (reqNoted i s)) k t) (reqNoted i s) := by
  by_cases hi : i = 2
  · subst hi
    rfl
  · unfold domReqWritten reqNoted
    have hne : (i == 2) = false := beq_eq_false_iff_ne.mpr hi
    dsimp only
    rw [hne, if_neg hi]
    rfl

/-- Where one bit below 84 of DOM_REQ changes, one domain is asked. -/
theorem domReqWritten_one {ncp : Bool} {i old b : Nat} {s : State} (hb : b < 32)
    (hsame : ∀ k < 32, k ≠ b → 32 * i + k < 84 → old / 2 ^ k % 2 = reqWord i (reqNoted i s) / 2 ^ k % 2) :
    domReqWritten ncp i old s = domReqBit ncp i old (reqWord i (reqNoted i s)) b (reqNoted i s) := by
  rw [domReqWritten_eq]
  refine foldl_only List.nodup_range (List.mem_range.mpr hb) (fun k hk hkb t => ?_) _
  by_cases hd : 84 ≤ 32 * i + k
  · exact domReqBit_beyond hd
  · exact domReqBit_same (hsame k (List.mem_range.mp hk) hkb (Nat.not_le.mp hd))

/-! ### A served write -/

theorem domReq_place : ∀ i : Fin 3, place (0x30010 + 4 * i.val) = .reg .pwr (0x10 + 4 * i.val) ∧ gateOf (0x30010 + 4 * i.val) = none ∧
    (findReg .pwr (0x10 + 4 * i.val)).isSome = true ∧ keyFlds (0x30010 + 4 * i.val) = [R.PWR_DOM_REQ_REQ] := by decide +kernel

/-- The state in which a written word of DOM_REQ[i] is stored. -/
def reqStored (i : Nat) (w : Word) (s : State) : State := storedPlain .pwr (0x10 + 4 * i) (0x30010 + 4 * i) w s

theorem effKey_req (i : Fin 3) (s : State) : effKey .pwr (0x10 + 4 * i.val) s = some (0x30010 + 4 * i.val) := by
  have hne : (0x10 + 4 * i.val == R.PWR_DOM_STAT_STATE.off) = false := beq_eq_false_iff_ne.mpr (by
    simp only [R.PWR_DOM_STAT_STATE]
    omega)
  unfold effKey
  dsimp only
  rw [hne, if_neg Bool.false_ne_true, pwrB, ← Nat.add_assoc]

theorem ownWrite_req (m : Master) (i : Fin 3) (w : Word) (s : State) : ownWrite m .pwr (0x10 + 4 * i.val) w s = none := rfl

theorem reqUnlocked (i : Fin 3) (s : State) : Unlocked .pwr (0x10 + 4 * i.val) (0x30010 + 4 * i.val) s := by
  refine .inr ?_
  rw [(domReq_place i).2.2.2]
  rfl

theorem reqUnstaged (i : Fin 3) : (keyFlds (0x30010 + 4 * i.val)).any (fun f => f.acc == .st) = false := by
  rw [(domReq_place i).2.2.2]
  rfl

theorem domReq_write {m : Master} {i : Fin 3} {w : Word} {s : State} (h : Served m true (0x30010 + 4 * i.val) w s) :
    writeCmd m (0x30010 + 4 * i.val) w s.fresh = answered m (0x30010 + 4 * i.val) true 0 .done
      (domReqWritten (m == .ncp) i.val (s.getReg (0x30010 + 4 * i.val)).toNat (reqStored i.val w s)) := by
  obtain ⟨hplace, hgate, hfind, -⟩ := domReq_place i
  rw [served_plain h hplace hgate hfind (ownWrite_req _ _ _ _) (effKey_req i _) (reqUnlocked i _) (reqUnstaged i)]
  have hidx : (0x10 + 4 * i.val - 0x10) / 4 = i.val := by omega
  have hrest : (0x10 + 4 * i.val == R.PWR_CTRL_REST_REQ.off) = false := beq_eq_false_iff_ne.mpr (by
    simp only [R.PWR_CTRL_REST_REQ]
    omega)
  show answered _ _ _ _ _ (hookPwr m (0x10 + 4 * i.val) _ w _) = _
  unfold hookPwr
  rw [hrest, if_neg Bool.false_ne_true, if_pos ⟨by omega, by omega⟩, hidx]
  rfl

theorem stored_req (i : Fin 3) (w : Word) (s : State) : stored (0x30010 + 4 * i.val) w s.fresh = reqStored i.val w s := by
  obtain ⟨hplace, hgate, -, -⟩ := domReq_place i
  rw [stored_plain hplace (effKey_req i _) (reqUnlocked i _) (reqUnstaged i), awake_none hgate]
  rfl

/-- What storing a word of DOM_REQ[i] leaves. -/
structure ReqStored (i : Nat) (w : Word) (s t : State) : Prop where
  frame : ∃ m, t = { s.fresh with regs := m }
  touches : Touches (fun k => k = 0x30010 + 4 * i) s t
  word : reqWord i t = w.toNat

theorem reqStored_stored (i : Fin 3) (w : Word) {s : State} (hr : Rising 0 s.regs) : ReqStored i.val w s (reqStored i.val w s) := by
  have hfresh : Touches (fun k => k = 0x30010 + 4 * i.val) s s.fresh := .of_regs rfl
  unfold reqStored storedPlain
  refine ⟨⟨_, rfl⟩, hfresh.setReg _ rfl, ?_⟩
  have hkey : pwrB + 4 * i.val + R.PWR_DOM_REQ_REQ.off = 0x30010 + 4 * i.val := by
    simp only [pwrB, R.PWR_DOM_REQ_REQ]
    omega
  have hword := State.getReg_setReg_same s.fresh (0x30010 + 4 * i.val)
    (writtenWord .pwr (0x10 + 4 * i.val) (0x30010 + 4 * i.val) w (s.getReg (0x30010 + 4 * i.val))) hr
  rw [reqWord, State.rd, hkey, hword]
  refine Eq.trans ?_ (fget_whole w)
  have hflds := (domReq_place i).2.2.2
  refine fget_writtenWord _ _ (fun f hf => ?_) ?_
  · rw [hflds] at hf
    rw [List.mem_singleton.mp hf]
    rfl
  · rw [hflds]
    decide

/-- What DOM_REQ[i] reads once bit 82 reads 1. -/
structure ReqNoted (i : Nat) (w : Word) (s t : State) : Prop where
  frame : ∃ m, t = { s.fresh with regs := m }
  touches : Touches (fun k => k = 0x30010 + 4 * i) s t
  bits : ∀ k < 32, 32 * i + k < 84 → reqWord i t / 2 ^ k % 2 = b2n (w.getLsbD k)

theorem reqNoted_noted {i : Fin 3} {w : Word} {s : State} (hr : Rising 0 s.regs) (h18 : i.val = 2 → w.getLsbD 18 = true) :
    ReqNoted i.val w s (reqNoted i.val (reqStored i.val w s)) := by
  obtain ⟨⟨m, hframe⟩, htouches, hword⟩ := reqStored_stored i w hr
  generalize reqStored i.val w s = t at hframe htouches hword
  have hrt := (htouches hr).1
  unfold reqNoted
  by_cases hi : i.val = 2
  · rw [hi] at htouches hword h18 ⊢
    rw [if_pos rfl]
    refine ⟨⟨_, by rw [hframe]; rfl⟩, htouches.wr _ rfl, fun k hk hd => ?_⟩
    have hwr := State.rd_wr_same t (reqB 64) R.PWR_DOM_REQ_REQ (setBit (t.rd (reqB 64) R.PWR_DOM_REQ_REQ % 2 ^ 20) 18) hrt (by decide)
    have hold : t.rd (reqB 64) R.PWR_DOM_REQ_REQ = w.toNat := hword
    rw [hold] at hwr ⊢
    have hnow : reqWord 2 (t.wr (reqB 64) R.PWR_DOM_REQ_REQ (setBit (w.toNat % 2 ^ 20) 18)) = _ := hwr
    rw [hnow]
    refine (mod_two_pow_bit (w := 32) hk).trans ?_
    by_cases h : k = 18
    · rw [h, h18 rfl]
      exact setBit_testBit _ _
    · rw [setBit_bit_ne h, mod_two_pow_bit (by omega), getLsbD_bit]
  · rw [if_neg hi]
    exact ⟨⟨m, hframe⟩, htouches, fun k _ _ => by rw [hword, getLsbD_bit]⟩

theorem domReq_bit {s : State} {i b : Nat} (hb : b < 32) : s.domReq (32 * i + b) = (s.getReg (0x30010 + 4 * i)).getLsbD b := by
  have hdiv : (32 * i + b) / 32 = i := by omega
  have hmod : (32 * i + b) % 32 = b := by omega
  have hkey : pwrB + 4 * i + R.PWR_DOM_REQ_REQ.off = 0x30010 + 4 * i := by
    simp only [pwrB, R.PWR_DOM_REQ_REQ]
    omega
  rw [State.domReq, reqB, hdiv, hmod, State.rd, hkey]
  show (fget _ 31 0 / 2 ^ b % 2 == 1) = _
  rw [fget_whole, getLsbD_bit]
  cases (s.getReg (0x30010 + 4 * i)).getLsbD b <;> rfl

/-- A served write of DOM_REQ[i] that changes the bit of the domain 32 i + b to v. -/
theorem domReq_served {m : Master} {i : Fin 3} {b : Fin 32} {w : Word} {s : State} {v : Bool} (hr : Rising 0 s.regs)
    (hserved : Served m true (0x30010 + 4 * i.val) w s) (hd : 32 * i.val + b.val < 84) (h82 : s.domReq 82 = true)
    (hold : s.domReq (32 * i.val + b.val) = !v) (hnew : w.getLsbD b.val = v)
    (hothers : ∀ j : Fin 32, j ≠ b → w.getLsbD j.val = (s.getReg (0x30010 + 4 * i.val)).getLsbD j.val) (hb82 : 32 * i.val + b.val = 82 → v = true) :
    ReqNoted i.val w s (reqNoted i.val (reqStored i.val w s)) ∧
    writeCmd m (0x30010 + 4 * i.val) w s.fresh = answered m (0x30010 + 4 * i.val) true 0 .done
      (if v then domUpReq (32 * i.val + b.val) (reqNoted i.val (reqStored i.val w s))
       else domDownReq (32 * i.val + b.val) (m == .ncp) (reqNoted i.val (reqStored i.val w s))) := by
  have h18 : i.val = 2 → w.getLsbD 18 = true := by
    intro hi
    by_cases hb : b.val = 18
    · rw [hb] at hnew hb82
      exact hnew.trans (hb82 (by omega))
    · have h := hothers ⟨18, by decide⟩ fun h => hb (congrArg Fin.val h).symm
      rw [h, ← domReq_bit (by decide), hi]
      exact h82
  have hnoted := reqNoted_noted hr h18
  refine ⟨hnoted, ?_⟩
  have hbit (k : Nat) := getLsbD_bit (s.getReg (0x30010 + 4 * i.val)) k
  have hstep := domReqWritten_one (ncp := m == .ncp) (i := i.val) (old := (s.getReg (0x30010 + 4 * i.val)).toNat) (s := reqStored i.val w s) b.isLt
    fun k hk hkb hkd => by rw [hnoted.bits k hk hkd, hbit, hothers ⟨k, hk⟩ fun h => hkb (congrArg Fin.val h)]
  have hnewBit := hnoted.bits b.val b.isLt hd
  rw [hnew] at hnewBit
  have holdBit := hbit b.val
  rw [← domReq_bit b.isLt, hold] at holdBit
  rw [domReq_write hserved, hstep]
  cases v
  · rw [domReqBit_down hd holdBit hnewBit]
    rfl
  · rw [domReqBit_up hd holdBit hnewBit]
    rfl

end Sys2Proof.Machine
end

section

/-! The answers to a request of a domain (R448 to R450, R457). -/

namespace Sys2Proof.Machine

/-! ### A refusal -/

/-- The keys that an answer of domain d writes. -/
def AnsKey (d k : Nat) : Prop := k = domB d + 0x34 ∨ k = reqB d + 0x10 ∨ k = 0x30058 ∨ RaiseKey k

theorem domState_not_ans {d e : Nat} (hd : d < 84) (he : e < 84) (h : e ≠ d) : ¬ AnsKey d (domB e + R.PWR_DOM_STAT_STATE.off) := by
  unfold AnsKey RaiseKey FltKey EvtKey objKey
  rw [domB_eq, domB_eq, reqB_eq]
  simp only [R.PWR_DOM_STAT_STATE]
  omega

theorem dom_not_raise {d off : Nat} (hd : d < 84) (hoff : off < 0x1000) : ¬ RaiseKey (domB d + off) := by
  unfold RaiseKey FltKey EvtKey objKey
  rw [domB_eq]
  omega

theorem req_not_raise {d off : Nat} (hd : d < 84) (hoff : off < 0x1000) : ¬ RaiseKey (reqB d + off) := by
  unfold RaiseKey FltKey EvtKey objKey
  rw [reqB_eq]
  omega

/-- A refusal shown in DOM_REQ and DOM_STAT. -/
def refusalShown (d cause : Nat) (s : State) : State :=
  ((domReqSet d s).wr (domB d) R.PWR_DOM_STAT_ANSWER 3).wr (domB d) R.PWR_DOM_STAT_CAUSE cause

/-- A refusal counted and logged. -/
def refusalNoted (d cause m : Nat) (s : State) : State :=
  pwrLog d cause 0 m ((s.setDom d { s.domOf d with delayAt := 0, byAccess := false }).cnt pwrB R.PWR_CNT_REFUSALS 1)

theorem domRefuse_eq (d cause : Nat) (s : State) :
    domRefuse d cause s = (refusalNoted d cause (s.domOf d).master (refusalShown d cause s)).raise 0x3F8 := rfl

theorem refusalShown_shown {d cause : Nat} {s : State} (hr : Rising 0 s.regs) (hd : d < 84) (hcause : cause < 16) :
    Touches (AnsKey d) s (refusalShown d cause s) ∧ (∃ m, refusalShown d cause s = { s with regs := m }) ∧
    (refusalShown d cause s).domState d = s.domState d ∧ (refusalShown d cause s).domReq d = true ∧
    (refusalShown d cause s).rd (domB d) R.PWR_DOM_STAT_ANSWER = 3 ∧ (refusalShown d cause s).rd (domB d) R.PWR_DOM_STAT_CAUSE = cause ∧
    (refusalShown d cause s).rd pwrB R.PWR_CNT_REFUSALS = s.rd pwrB R.PWR_CNT_REFUSALS := by
  have htouchesA : Touches (AnsKey d) s (domReqSet d s) := (Touches.refl _ s).wr _ (.inr (.inl rfl))
  have hra : Rising 0 (domReqSet d s).regs := (htouchesA hr).1
  have hkeyB : reqB d + R.PWR_DOM_REQ_REQ.off ≠ domB d + 0x34 := by
    rw [domB_eq, reqB_eq]
    simp only [R.PWR_DOM_REQ_REQ]
    omega
  have hreq : (domReqSet d s).rd (reqB d) R.PWR_DOM_REQ_REQ / 2 ^ (d % 32) % 2 = 1 := by
    unfold domReqSet
    rw [State.rd_wr_same _ _ _ _ hr (by decide)]
    exact (mod_two_pow_bit (w := 32) (Nat.mod_lt _ (by decide))).trans (setBit_testBit _ _)
  have hstate : (domReqSet d s).domState d = s.domState d := State.rd_wr_ne _ _ _ _ _ _ hr (by
    rw [domB_eq, reqB_eq]
    simp only [R.PWR_DOM_STAT_STATE, R.PWR_DOM_REQ_REQ]
    omega)
  have hcnt : (domReqSet d s).rd pwrB R.PWR_CNT_REFUSALS = s.rd pwrB R.PWR_CNT_REFUSALS := State.rd_wr_ne _ _ _ _ _ _ hr (by
    rw [reqB_eq]
    simp only [R.PWR_CNT_REFUSALS, R.PWR_DOM_REQ_REQ, pwrB]
    omega)
  have hframe : ∃ m, domReqSet d s = { s with regs := m } := ⟨_, rfl⟩
  unfold refusalShown
  generalize domReqSet d s = a at htouchesA hra hreq hstate hcnt hframe
  obtain ⟨m, hm⟩ := hframe
  have hr1 : Rising 0 (a.wr (domB d) R.PWR_DOM_STAT_ANSWER 3).regs := State.wr_rising _ _ _ _ hra
  have hcntKey : pwrB + R.PWR_CNT_REFUSALS.off ≠ domB d + 0x34 := by
    rw [domB_eq]
    simp only [R.PWR_CNT_REFUSALS, pwrB]
    omega
  refine ⟨(htouchesA.wr _ (.inl rfl)).wr _ (.inl rfl), ⟨_, by rw [hm]; rfl⟩, ?_, ?_, ?_, ?_, ?_⟩
  · exact (State.rd_wr_apart hr1 (by decide)).trans ((State.rd_wr_apart hra (by decide)).trans hstate)
  · rw [State.domReq, State.rd_wr_ne _ _ _ _ _ _ hr1 hkeyB, State.rd_wr_ne _ _ _ _ _ _ hra hkeyB, hreq]
    rfl
  · rw [State.rd_wr_apart hr1 (by decide), State.rd_wr_same _ _ _ _ hra (by decide)]
    rfl
  · rw [State.rd_wr_same _ _ _ _ hr1 (by decide)]
    exact Nat.mod_eq_of_lt hcause
  · exact (State.rd_wr_ne _ _ _ _ _ _ hr1 hcntKey).trans ((State.rd_wr_ne _ _ _ _ _ _ hra hcntKey).trans hcnt)

/-- From s to t the domain d refused a request. -/
structure DomRefused (d cause : Nat) (s t : State) : Prop where
  touches : Touches (AnsKey d) s t
  edge : t.edge = s.edge
  state : t.domState d = s.domState d
  req : t.domReq d = true
  answer : t.rd (domB d) R.PWR_DOM_STAT_ANSWER = 3
  cause : t.rd (domB d) R.PWR_DOM_STAT_CAUSE = cause
  sends : Sends 0x3F8 t
  refusals : t.rd pwrB R.PWR_CNT_REFUSALS = min 255 (s.rd pwrB R.PWR_CNT_REFUSALS + 1)
  log : t.pwr.log.length = min 16 (s.pwr.log.length + 1)
  own : t.domOf d = { s.domOf d with delayAt := 0, byAccess := false }

theorem pwrLog_frame (d cause kind m : Nat) (s : State) :
    ∃ l, pwrLog d cause kind m s = { s with pwr := { s.pwr with log := l } } ∧ l.length = min 16 (s.pwr.log.length + 1) := by
  unfold pwrLog
  exact ⟨_, rfl, by rw [List.length_take, List.length_cons]⟩

theorem refusalNoted_noted {d cause m : Nat} {s : State} (hr : Rising 0 s.regs) (hd : Rising 0 s.doms) :
    Touches (fun k => k = 0x30058) s (refusalNoted d cause m s) ∧ (refusalNoted d cause m s).edge = s.edge ∧
    (refusalNoted d cause m s).rd pwrB R.PWR_CNT_REFUSALS = min 255 (s.rd pwrB R.PWR_CNT_REFUSALS + 1) ∧
    (refusalNoted d cause m s).pwr.log.length = min 16 (s.pwr.log.length + 1) ∧
    (refusalNoted d cause m s).domOf d = { s.domOf d with delayAt := 0, byAccess := false } ∧ Rising 0 (refusalNoted d cause m s).doms := by
  have hrising := setDom_rising hd d { s.domOf d with delayAt := 0, byAccess := false }
  have hown := setDom_domOf hd d { s.domOf d with delayAt := 0, byAccess := false }
  have hkept : (s.setDom d { s.domOf d with delayAt := 0, byAccess := false }).regs = s.regs ∧
      (s.setDom d { s.domOf d with delayAt := 0, byAccess := false }).edge = s.edge ∧
      (s.setDom d { s.domOf d with delayAt := 0, byAccess := false }).pwr = s.pwr := ⟨rfl, rfl, rfl⟩
  unfold refusalNoted
  generalize s.setDom d { s.domOf d with delayAt := 0, byAccess := false } = a at hown hkept hrising
  obtain ⟨hregs, hedge, hpwr⟩ := hkept
  have hra : Rising 0 a.regs := hregs ▸ hr
  have hcnt := State.rd_cnt_same a pwrB R.PWR_CNT_REFUSALS 1 hra (by decide)
  have htouches : Touches (fun k => k = 0x30058) s (a.cnt pwrB R.PWR_CNT_REFUSALS 1) := (Touches.of_regs hregs).cnt 1 rfl
  have hbedge : (a.cnt pwrB R.PWR_CNT_REFUSALS 1).edge = a.edge ∧ (a.cnt pwrB R.PWR_CNT_REFUSALS 1).pwr = a.pwr ∧
      (a.cnt pwrB R.PWR_CNT_REFUSALS 1).doms = a.doms := ⟨rfl, rfl, rfl⟩
  generalize a.cnt pwrB R.PWR_CNT_REFUSALS 1 = b at hcnt htouches hbedge
  obtain ⟨hedgeB, hpwrB, hdomsB⟩ := hbedge
  obtain ⟨l, hlog, hlen⟩ := pwrLog_frame d cause 0 m b
  have hlogged : (pwrLog d cause 0 m b).regs = b.regs ∧ (pwrLog d cause 0 m b).edge = b.edge ∧ (pwrLog d cause 0 m b).doms = b.doms ∧
      (pwrLog d cause 0 m b).pwr.log = l := by
    rw [hlog]
    exact ⟨rfl, rfl, rfl, rfl⟩
  generalize pwrLog d cause 0 m b = c at hlogged
  obtain ⟨hregsC, hedgeC, hdomsC, hlogC⟩ := hlogged
  have hrdC : c.rd pwrB R.PWR_CNT_REFUSALS = b.rd pwrB R.PWR_CNT_REFUSALS := by rw [State.rd, State.rd, State.getReg, State.getReg, hregsC]
  have hrdA : a.rd pwrB R.PWR_CNT_REFUSALS = s.rd pwrB R.PWR_CNT_REFUSALS := by rw [State.rd, State.rd, State.getReg, State.getReg, hregs]
  refine ⟨htouches.trans (.of_regs hregsC), hedgeC.trans (hedgeB.trans hedge), ?_, ?_,
    (domOf_of_doms hdomsC d).trans ((domOf_of_doms hdomsB d).trans hown), hdomsC ▸ hdomsB ▸ hrising⟩
  · have hmax : 2 ^ (R.PWR_CNT_REFUSALS.hi + 1 - R.PWR_CNT_REFUSALS.lo) - 1 = 255 := by decide
    rw [hrdC, hcnt, hrdA, hmax, Nat.min_comm]
  · rw [hlogC, hlen, hpwrB, hpwr]

theorem domRefuse_refused {d cause : Nat} {s : State} (hr : Rising 0 s.regs) (hd : Rising 0 s.doms) (hd84 : d < 84) (hcause : cause < 16) :
    DomRefused d cause s (domRefuse d cause s) := by
  obtain ⟨htouches, ⟨m, hframe⟩, hstate, hreq, hanswer, hcauseA, hcnt⟩ := refusalShown_shown hr hd84 hcause
  rw [domRefuse_eq]
  generalize (s.domOf d).master = master
  generalize refusalShown d cause s = a at htouches hframe hstate hreq hanswer hcauseA hcnt
  have hra := (htouches hr).1
  have hda : Rising 0 a.doms := by
    rw [hframe]
    exact hd
  have hkept : a.edge = s.edge ∧ a.pwr = s.pwr ∧ a.domOf d = s.domOf d := by
    rw [hframe]
    exact ⟨rfl, rfl, rfl⟩
  obtain ⟨htouchesB, hedgeB, hcntB, hlogB, hownB, hdb⟩ := refusalNoted_noted (d := d) (cause := cause) (m := master) hra hda
  generalize refusalNoted d cause master a = b at htouchesB hedgeB hcntB hlogB hownB hdb
  have hrb := (htouchesB hra).1
  have hrd (f : Fld) (hf : f.off < 0x1000) : (b.raise 0x3F8).rd (domB d) f = a.rd (domB d) f := by
    rw [State.raise_rd hrb (by decide) (dom_not_raise hd84 hf)]
    refine htouchesB.rd hra ?_
    rw [domB_eq]
    omega
  have hraise : DomStep (AnsKey d) ShadeDom b (b.raise 0x3F8) := (DomStep.refl _ _ b).raise (by decide) fun _ h => .inr (.inr (.inr h))
  refine ⟨(htouches.trans (htouchesB.mono fun k hk => .inr (.inr (.inl hk)))).trans hraise.touches, hraise.edge.trans (hedgeB.trans hkept.1),
    (hrd _ (by decide)).trans hstate, ?_, (hrd _ (by decide)).trans hanswer, (hrd _ (by decide)).trans hcauseA,
    State.raise_sends (evClamped_of_none (by decide) _), ?_, ?_, ?_⟩
  · refine (State.domReq_congr ?_).trans hreq
    rw [State.raise_rd hrb (by decide) (req_not_raise hd84 (by decide))]
    refine htouchesB.rd hra ?_
    rw [reqB_eq]
    simp only [R.PWR_DOM_REQ_REQ]
    omega
  · rw [State.raise_rd hrb (by decide) (by unfold RaiseKey FltKey EvtKey objKey pwrB; simp only [R.PWR_CNT_REFUSALS]; omega), hcntB, hcnt]
  · rw [hraise.pwr, hlogB, hkept.2.1]
  · rw [(hraise.doms hdb).2 d (by unfold ShadeDom; omega), hownB, hkept.2.2]

/-! ### An acknowledgement -/

/-- From s to t the domain d entered QUIESCE. -/
structure DomQuiesced (d : Nat) (s t : State) : Prop where
  touches : Touches (fun k => GoKey d k ∨ ClampedKey k) s t
  edge : t.edge = s.edge
  state : t.domState d = 4
  answer : t.rd (domB d) R.PWR_DOM_STAT_ANSWER = 1
  ana : t.rd (domB d) R.PWR_DOM_STAT_ANA_RDY = 0
  own : (t.domOf d).delayAt = 0

theorem dom_not_clamped {d off : Nat} (hd : d < 84) (hoff : off < 0x1000) : ¬ ClampedKey (domB d + off) := by
  rintro (h | h)
  · exact dom_not_raise hd hoff h
  · rw [domB_eq] at h
    omega

theorem pwr_not_clamped {k : Nat} (hk : k < 0x70000) : ¬ ClampedKey k := by
  rintro (h | h)
  · unfold RaiseKey FltKey EvtKey objKey at h
    omega
  · omega

theorem domQuiesce_quiesced {d : Nat} {s : State} (hr : Rising 0 s.regs) (hd : Rising 0 s.doms) (hd84 : d < 84) :
    DomQuiesced d s (domQuiesce d s) := by
  have hown := setDom_domOf hd d { s.domOf d with delayAt := 0, down := false, up := false, ack := false }
  have hkept : (s.setDom d { s.domOf d with delayAt := 0, down := false, up := false, ack := false }).regs = s.regs ∧
      (s.setDom d { s.domOf d with delayAt := 0, down := false, up := false, ack := false }).edge = s.edge := ⟨rfl, rfl⟩
  have hda := setDom_rising hd d { s.domOf d with delayAt := 0, down := false, up := false, ack := false }
  unfold domQuiesce
  dsimp only
  generalize s.setDom d { s.domOf d with delayAt := 0, down := false, up := false, ack := false } = a at hown hkept hda
  obtain ⟨hregs, hedge⟩ := hkept
  have hra : Rising 0 a.regs := hregs ▸ hr
  have htouchesB : Touches (GoKey d) s (a.wr (domB d) R.PWR_DOM_STAT_ANSWER 1) := (Touches.of_regs hregs).wr _ (.inl rfl)
  have hanswer := State.rd_wr_same a (domB d) R.PWR_DOM_STAT_ANSWER 1 hra (by decide)
  have hkeptB : (a.wr (domB d) R.PWR_DOM_STAT_ANSWER 1).edge = a.edge ∧ (a.wr (domB d) R.PWR_DOM_STAT_ANSWER 1).doms = a.doms := ⟨rfl, rfl⟩
  generalize a.wr (domB d) R.PWR_DOM_STAT_ANSWER 1 = b at htouchesB hanswer hkeptB
  have hrb := (htouchesB hr).1
  have hmoved := domGo_moved (d := d) (st := 4) (by decide) hrb
  generalize domGo d 4 b = c at hmoved
  have hrc := hmoved.rising hrb
  have hdomsC : c.doms = a.doms ∧ c.edge = b.edge := by
    obtain ⟨m, hm⟩ := hmoved.frame
    rw [hm]
    exact ⟨hkeptB.2, rfl⟩
  have hclamp := domClamp_step hd84 c
  generalize domClamp d c = u at hclamp
  have hrd (f : Fld) (hf : f.off < 0x1000) : u.rd (domB d) f = c.rd (domB d) f := hclamp.rd hrc (dom_not_clamped hd84 hf)
  refine ⟨((htouchesB.trans hmoved.touches).mono fun _ => .inl).trans (hclamp.touches.mono fun _ => .inr), ?_, ?_, ?_, ?_, ?_⟩
  · exact hclamp.edge.trans (hdomsC.2.trans (hkeptB.1.trans hedge))
  · exact (hrd _ (by decide)).trans hmoved.state
  · exact (hrd _ (by decide)).trans ((hmoved.beside _ rfl (by decide) (by decide) (by decide)).trans hanswer)
  · exact (hrd _ (by decide)).trans (hmoved.ana (by decide))
  · rw [(hclamp.doms (hdomsC.1 ▸ hda)).2 d (by unfold ShadeDom; omega), domOf_of_doms hdomsC.1, hown]

end Sys2Proof.Machine
end

section

/-! What a served write of DOM_REQ asks of one domain (R448 to R450, R457). -/

namespace Sys2Proof.Machine

/-! ### What storing the word keeps -/

section
variable {i : Nat} {w : Word} {s t : State}

theorem ReqNoted.rising (h : ReqNoted i w s t) (hr : Rising 0 s.regs) : Rising 0 t.regs := (h.touches hr).1

theorem ReqNoted.kept (h : ReqNoted i w s t) :
    t.doms = s.doms ∧ t.pwr = s.pwr ∧ t.raised = s.raised ∧ t.mem = s.mem ∧ t.now = s.now := by
  obtain ⟨m, hm⟩ := h.frame
  rw [hm]
  exact ⟨rfl, rfl, rfl, rfl, rfl⟩

theorem ReqNoted.state (h : ReqNoted i w s t) (hr : Rising 0 s.regs) (hi : i < 3) (e : Nat) : t.domState e = s.domState e := by
  refine h.touches.rd hr ?_
  rw [domB_eq]
  simp only [R.PWR_DOM_STAT_STATE]
  omega

theorem ReqNoted.rd (h : ReqNoted i w s t) (hr : Rising 0 s.regs) (hi : i < 3) {f : Fld} (hf : f.off < 0x10 ∨ 0x1C ≤ f.off) :
    t.rd pwrB f = s.rd pwrB f := by
  refine h.touches.rd hr ?_
  unfold pwrB
  omega

theorem ReqNoted.req (h : ReqNoted i w s t) {b : Nat} (hb : b < 32) (hd : 32 * i + b < 84) : t.domReq (32 * i + b) = w.getLsbD b := by
  have hdiv : (32 * i + b) / 32 = i := by omega
  have hmod : (32 * i + b) % 32 = b := by omega
  have hbit := h.bits b hb hd
  rw [reqWord] at hbit
  rw [State.domReq, reqB, hdiv, hmod, hbit]
  cases w.getLsbD b <;> rfl

end

/-! ### A request of an OFF domain, and one of a domain in the queue or in RAMP -/

theorem domUpReq_off {d : Nat} {s : State} (hr : Rising 0 s.regs) (hd : Rising 0 s.doms) (hoff : s.domState d = 0) :
    DomQueued d false s (domUpReq d s) := by
  have hset : Touches (GoKey d) s (s.setDom d { s.domOf d with byAccess := false, down := false, delayAt := 0 }) := .of_regs rfl
  have hda := setDom_rising hd d { s.domOf d with byAccess := false, down := false, delayAt := 0 }
  have hstate : (s.setDom d { s.domOf d with byAccess := false, down := false, delayAt := 0 }).domState d = 0 := hoff
  have hkept := setDom_kept s d { s.domOf d with byAccess := false, down := false, delayAt := 0 }
  have hpwr : (s.setDom d { s.domOf d with byAccess := false, down := false, delayAt := 0 }).pwr = s.pwr := rfl
  unfold domUpReq
  dsimp only
  generalize s.setDom d { s.domOf d with byAccess := false, down := false, delayAt := 0 } = a at hset hda hstate hkept hpwr
  obtain ⟨hregs, -, hnow, hmem, hraised⟩ := hkept
  rw [hstate]
  have hqueued := domQueue_queued (d := d) (cls1 := false) (hregs ▸ hr : Rising 0 a.regs) hda
  exact ⟨hset.trans hqueued.touches, hqueued.state, hqueued.since.trans hnow, hqueued.first.trans (congrArg PwrSt.first hpwr), hqueued.raised.trans hraised,
    hqueued.mem.trans hmem⟩

theorem domDownReq_waiting {d : Nat} {ncp : Bool} {s : State} (h : s.domState d = 1 ∨ s.domState d = 2) :
    domDownReq d ncp s = s.setDom d { s.domOf d with down := true } := by
  unfold domDownReq
  rcases h with h | h <;> rw [h] <;> rfl

theorem domDownReq_on {d : Nat} {ncp : Bool} {s : State} (h : s.domState d = 3) : domDownReq d ncp s = domAnswer d ncp s := by
  unfold domDownReq
  rw [h]
  rfl

/-! ### The answer of a domain that is ON -/

/-- A use of a domain that refuses a request, where PWR.CTRL does not force it. -/
def Uses (d : Nat) (t : State) : Prop := t.on pwrB R.PWR_CTRL_FORCE = false ∧ standingUse d t = true

/-- From t to u the domain d answered a power-down request. -/
structure DomAnswered (d : Nat) (ncp : Bool) (t u : State) : Prop where
  others : ∀ e < 84, e ≠ d → u.domState e = t.domState e
  refused : (t.domOf d).injRefuse = true ∨ Uses d t → u.domState d = t.domState d ∧ u.domReq d = true ∧
    u.rd (domB d) R.PWR_DOM_STAT_ANSWER = 3 ∧ u.rd (domB d) R.PWR_DOM_STAT_CAUSE = (if (t.domOf d).injRefuse = true then 4 else 2) ∧
    Sends 0x3F8 u ∧ u.rd pwrB R.PWR_CNT_REFUSALS = min 255 (t.rd pwrB R.PWR_CNT_REFUSALS + 1) ∧
    u.pwr.log.length = min 16 (t.pwr.log.length + 1) ∧ (u.domOf d).injRefuse = false
  delayed : (t.domOf d).injRefuse = false → ¬ Uses d t → inFlight d ncp t = true → u.domState d = t.domState d ∧ u.domReq d = t.domReq d ∧
    u.rd (domB d) R.PWR_DOM_STAT_ANSWER = 2 ∧ (u.domOf d).delayAt = t.now + 1 ∧ u.raised = t.raised
  acked : (t.domOf d).injRefuse = false → ¬ Uses d t → inFlight d ncp t = false → u.domState d = 4 ∧ u.domReq d = t.domReq d ∧
    u.rd (domB d) R.PWR_DOM_STAT_ANSWER = 1 ∧ u.rd (domB d) R.PWR_DOM_STAT_ANA_RDY = 0

/-- The master of the transfer in flight is noted. -/
def masterNoted (d : Nat) (ncp : Bool) (s : State) : State := s.setDom d { s.domOf d with master := flightMaster d ncp s }

/-- The injected refusal is spent. -/
def refuseSpent (d : Nat) (s : State) : State := s.setDom d { s.domOf d with injRefuse := false }

/-- A transfer in flight delays the answer. -/
def delayNoted (d : Nat) (s : State) : State := (s.wr (domB d) R.PWR_DOM_STAT_ANSWER 2).setDom d { s.domOf d with delayAt := s.now + 1 }

theorem domAnswer_eq (d : Nat) (ncp : Bool) (s : State) : domAnswer d ncp s =
    if (s.domOf d).injRefuse = true then domRefuse d 4 (refuseSpent d (masterNoted d ncp s))
    else if (!(masterNoted d ncp s).on pwrB R.PWR_CTRL_FORCE && standingUse d (masterNoted d ncp s)) = true then domRefuse d 2 (masterNoted d ncp s)
    else if inFlight d ncp (masterNoted d ncp s) = true then delayNoted d (masterNoted d ncp s)
    else domQuiesce d (masterNoted d ncp s) := rfl

/-- From s to t only what domain d holds changed. -/
structure DomHeld (d : Nat) (x : DomSt) (s t : State) : Prop where
  regs : t.regs = s.regs
  edge : t.edge = s.edge
  raised : t.raised = s.raised
  pwr : t.pwr = s.pwr
  doms : Rising 0 t.doms
  own : t.domOf d = x

theorem setDom_held {s : State} (hd : Rising 0 s.doms) (d : Nat) (x : DomSt) : DomHeld d x s (s.setDom d x) :=
  ⟨rfl, rfl, rfl, rfl, setDom_rising hd d x, setDom_domOf hd d x⟩

theorem DomHeld.rd {d : Nat} {x : DomSt} {s t : State} (h : DomHeld d x s t) (b : Nat) (f : Fld) : t.rd b f = s.rd b f := by
  rw [State.rd, State.rd, State.getReg, State.getReg, h.regs]

theorem DomHeld.rising {d : Nat} {x : DomSt} {s t : State} (h : DomHeld d x s t) (hr : Rising 0 s.regs) : Rising 0 t.regs := h.regs ▸ hr

theorem masterNoted_uses (d : Nat) (ncp : Bool) (s : State) :
    (!(masterNoted d ncp s).on pwrB R.PWR_CTRL_FORCE && standingUse d (masterNoted d ncp s)) = (!s.on pwrB R.PWR_CTRL_FORCE && standingUse d s) ∧
    inFlight d ncp (masterNoted d ncp s) = inFlight d ncp s := ⟨rfl, rfl⟩

theorem uses_iff {d : Nat} {s : State} : (!s.on pwrB R.PWR_CTRL_FORCE && standingUse d s) = true ↔ Uses d s := by
  rw [Bool.and_eq_true, Bool.not_eq_true', Uses]

section
variable {d : Nat} {ncp : Bool} {s t a : State} {x : DomSt}

/-- A refusal answers a request. -/
theorem DomRefused.answered {cause : Nat} {u : State} (h : DomRefused d cause a u) (hheld : DomHeld d x t a) (hx : x.injRefuse = false)
    (hr : Rising 0 t.regs) (hd : d < 84) :
    (∀ e < 84, e ≠ d → u.domState e = t.domState e) ∧ u.domState d = t.domState d ∧ u.domReq d = true ∧
    u.rd (domB d) R.PWR_DOM_STAT_ANSWER = 3 ∧ u.rd (domB d) R.PWR_DOM_STAT_CAUSE = cause ∧ Sends 0x3F8 u ∧
    u.rd pwrB R.PWR_CNT_REFUSALS = min 255 (t.rd pwrB R.PWR_CNT_REFUSALS + 1) ∧ u.pwr.log.length = min 16 (t.pwr.log.length + 1) ∧
    (u.domOf d).injRefuse = false := by
  refine ⟨fun e he hne => ?_, h.state.trans (hheld.rd _ _), h.req, h.answer, h.cause, h.sends, ?_, ?_, ?_⟩
  · exact (h.touches.rd (hheld.rising hr) (domState_not_ans hd he hne)).trans (hheld.rd _ _)
  · rw [h.refusals, hheld.rd]
  · rw [h.log, hheld.pwr]
  · rw [h.own, hheld.own]
    exact hx

theorem domAnswer_answered (hr : Rising 0 t.regs) (hdoms : Rising 0 t.doms) (hd : d < 84) : DomAnswered d ncp t (domAnswer d ncp t) := by
  have hheld : DomHeld d { t.domOf d with master := flightMaster d ncp t } t (masterNoted d ncp t) := setDom_held hdoms d _
  obtain ⟨huses, hflight⟩ := masterNoted_uses d ncp t
  rw [domAnswer_eq, huses, hflight]
  generalize masterNoted d ncp t = a at hheld huses hflight
  have hra := hheld.rising hr
  by_cases hinj : (t.domOf d).injRefuse = true
  · have hspent : DomHeld d { a.domOf d with injRefuse := false } a (refuseSpent d a) := setDom_held hheld.doms d _
    rw [if_pos hinj]
    generalize refuseSpent d a = b at hspent
    have hboth : DomHeld d { a.domOf d with injRefuse := false } t b :=
      ⟨hspent.regs.trans hheld.regs, hspent.edge.trans hheld.edge, hspent.raised.trans hheld.raised, hspent.pwr.trans hheld.pwr, hspent.doms, hspent.own⟩
    have hrefused := domRefuse_refused (d := d) (cause := 4) (hspent.rising hra) hspent.doms hd (by decide)
    obtain ⟨hothers, hstate, hreq, hanswer, hcause, hrest⟩ := hrefused.answered hboth rfl hr hd
    exact ⟨hothers, fun _ => ⟨hstate, hreq, hanswer, by rw [hcause, if_pos hinj], hrest⟩, fun h => absurd (hinj.symm.trans h) (by decide),
      fun h => absurd (hinj.symm.trans h) (by decide)⟩
  · rw [if_neg hinj]
    have hinj' : (t.domOf d).injRefuse = false := Bool.eq_false_iff.mpr hinj
    by_cases huse : Uses d t
    · rw [if_pos (uses_iff.mpr huse)]
      have hrefused := domRefuse_refused (d := d) (cause := 2) hra hheld.doms hd (by decide)
      obtain ⟨hothers, hstate, hreq, hanswer, hcause, hrest⟩ := hrefused.answered hheld hinj' hr hd
      exact ⟨hothers, fun _ => ⟨hstate, hreq, hanswer, by rw [hcause, if_neg hinj], hrest⟩, fun _ h => absurd huse h, fun _ h => absurd huse h⟩
    · rw [if_neg (mt uses_iff.mp huse)]
      have hnot : ¬ ((t.domOf d).injRefuse = true ∨ Uses d t) := not_or.mpr ⟨hinj, huse⟩
      by_cases hfly : inFlight d ncp t = true
      · rw [if_pos hfly]
        unfold delayNoted
        have hkey : reqB d + R.PWR_DOM_REQ_REQ.off ≠ domB d + R.PWR_DOM_STAT_ANSWER.off := by
          rw [domB_eq, reqB_eq]
          simp only [R.PWR_DOM_REQ_REQ, R.PWR_DOM_STAT_ANSWER]
          omega
        have hwr : (a.wr (domB d) R.PWR_DOM_STAT_ANSWER 2).rd (domB d) R.PWR_DOM_STAT_ANSWER = 2 := State.rd_wr_same _ _ _ _ hra (by decide)
        have hreq : (a.wr (domB d) R.PWR_DOM_STAT_ANSWER 2).domReq d = a.domReq d := State.domReq_congr (State.rd_wr_ne _ _ _ _ _ _ hra hkey)
        have hstate (e : Nat) : (a.wr (domB d) R.PWR_DOM_STAT_ANSWER 2).domState e = a.domState e := domStat_wr hra rfl (by decide)
        have hkept : (a.wr (domB d) R.PWR_DOM_STAT_ANSWER 2).raised = a.raised ∧ (a.wr (domB d) R.PWR_DOM_STAT_ANSWER 2).doms = a.doms := ⟨rfl, rfl⟩
        generalize a.wr (domB d) R.PWR_DOM_STAT_ANSWER 2 = b at hwr hreq hstate hkept
        have hlast : DomHeld d { a.domOf d with delayAt := a.now + 1 } b (b.setDom d { a.domOf d with delayAt := a.now + 1 }) :=
          setDom_held (hkept.2 ▸ hheld.doms) d _
        generalize b.setDom d { a.domOf d with delayAt := a.now + 1 } = u at hlast
        refine ⟨fun e _ _ => ?_, fun h => absurd h hnot, fun _ _ _ => ⟨?_, ?_, ?_, ?_, ?_⟩, fun _ _ h => absurd (hfly.symm.trans h) (by decide)⟩
        · exact (hlast.rd _ _).trans ((hstate e).trans (hheld.rd _ _))
        · exact (hlast.rd _ _).trans ((hstate d).trans (hheld.rd _ _))
        · exact (State.domReq_congr (hlast.rd _ _)).trans (hreq.trans (State.domReq_congr (hheld.rd _ _)))
        · exact (hlast.rd _ _).trans hwr
        · rw [hlast.own]
          exact congrArg (· + 1) (congrArg EdgeView.now hheld.edge)
        · exact hlast.raised.trans (hkept.1.trans hheld.raised)
      · rw [if_neg hfly]
        have hquiesced := domQuiesce_quiesced hra hheld.doms hd
        generalize domQuiesce d a = u at hquiesced
        refine ⟨fun e he hne => ?_, fun h => absurd h hnot, fun _ _ h => absurd h hfly, fun _ _ _ => ⟨hquiesced.state, ?_, hquiesced.answer, hquiesced.ana⟩⟩
        · refine (hquiesced.touches.rd hra ?_).trans (hheld.rd _ _)
          rintro (h | h)
          · exact domState_not_go hd hne h
          · exact domState_not_clamped he h
        · refine State.domReq_congr ((hquiesced.touches.rd hra ?_).trans (hheld.rd _ _))
          rintro (h | h)
          · exact domReq_not_go hd h
          · refine pwr_not_clamped ?_ h
            rw [reqB_eq]
            simp only [R.PWR_DOM_REQ_REQ]
            omega

end

/-! ### The writes -/

/-- What a power-up request of an OFF domain leaves. -/
structure UpAsked (d : Nat) (s u : State) : Prop where
  state : u.domState d = 1
  since : (u.domOf d).queuedAt = s.now
  req : u.domReq d = true
  first : u.pwr.first = s.pwr.first
  others : ∀ e : Dom, e.val ≠ d → u.domState e.val = s.domState e.val
  raised : u.raised = s.raised
  mem : u.mem = s.mem

section
variable {m : Master} {i : Fin 3} {b : Fin 32} {w : Word} {s : State}

theorem domReq_up (hinv : Inv s) (hserved : Served m true (0x30010 + 4 * i.val) w s) (hd : 32 * i.val + b.val < 84) (h82 : s.domReq 82 = true)
    (hoff : s.domState (32 * i.val + b.val) = 0) (hold : s.domReq (32 * i.val + b.val) = false) (hnew : w.getLsbD b.val = true)
    (hothers : ∀ j : Fin 32, j ≠ b → w.getLsbD j.val = (s.getReg (0x30010 + 4 * i.val)).getLsbD j.val) :
    UpAsked (32 * i.val + b.val) s (writeCmd m (0x30010 + 4 * i.val) w s.fresh) := by
  have hr := hinv.regs_rising
  obtain ⟨hnoted, hwrite⟩ := domReq_served hr hserved hd h82 (v := true) hold hnew hothers fun _ => rfl
  rw [if_pos rfl] at hwrite
  rw [hwrite]
  generalize reqNoted i.val (reqStored i.val w s) = t at hnoted
  obtain ⟨hdoms, hpwr, hraised, hmem, hnow⟩ := hnoted.kept
  have hrt := hnoted.rising hr
  have hstate (e : Nat) := hnoted.state hr i.isLt e
  have hqueued := domUpReq_off hrt (hdoms ▸ hinv.doms_rising) ((hstate _).trans hoff)
  have hreq : t.domReq (32 * i.val + b.val) = true := (hnoted.req b.isLt hd).trans hnew
  generalize domUpReq (32 * i.val + b.val) t = u at hqueued
  have hreqU : u.domReq (32 * i.val + b.val) = true := (State.domReq_congr (hqueued.touches.rd hrt (domReq_not_go hd))).trans hreq
  have hothersU (e : Dom) (he : e.val ≠ 32 * i.val + b.val) : u.domState e.val = s.domState e.val :=
    (hqueued.touches.rd hrt (domState_not_go hd he)).trans (hstate _)
  have hfirst : u.pwr.first = s.pwr.first := by
    rw [← hpwr]
    exact hqueued.first
  exact ⟨hqueued.state, hqueued.since.trans hnow, hreqU, hfirst, hothersU, hqueued.raised.trans hraised, hqueued.mem.trans hmem⟩

/-- What a power-down request of a domain that waits or ramps leaves. -/
structure DownKept (d : Nat) (s u : State) : Prop where
  own : (u.domOf d).down = true
  state : ∀ e : Dom, u.domState e.val = s.domState e.val
  req : u.domReq d = false
  raised : u.raised = s.raised

theorem domReq_down_waiting (hinv : Inv s) (hserved : Served m true (0x30010 + 4 * i.val) w s) (hd : 32 * i.val + b.val < 82)
    (h82 : s.domReq 82 = true) (hwait : s.domState (32 * i.val + b.val) = 1 ∨ s.domState (32 * i.val + b.val) = 2)
    (hold : s.domReq (32 * i.val + b.val) = true) (hnew : w.getLsbD b.val = false)
    (hothers : ∀ j : Fin 32, j ≠ b → w.getLsbD j.val = (s.getReg (0x30010 + 4 * i.val)).getLsbD j.val) :
    DownKept (32 * i.val + b.val) s (writeCmd m (0x30010 + 4 * i.val) w s.fresh) := by
  have hr := hinv.regs_rising
  have hd84 : 32 * i.val + b.val < 84 := by omega
  obtain ⟨hnoted, hwrite⟩ := domReq_served hr hserved hd84 h82 (v := false) hold hnew hothers (by omega)
  rw [if_neg Bool.false_ne_true] at hwrite
  rw [hwrite]
  generalize reqNoted i.val (reqStored i.val w s) = t at hnoted
  obtain ⟨hdoms, -, hraised, -, -⟩ := hnoted.kept
  have hstate (e : Nat) := hnoted.state hr i.isLt e
  rw [domDownReq_waiting (by rw [hstate]; exact hwait)]
  have hheld : DomHeld (32 * i.val + b.val) { t.domOf (32 * i.val + b.val) with down := true } t
      (t.setDom (32 * i.val + b.val) { t.domOf (32 * i.val + b.val) with down := true }) := setDom_held (hdoms ▸ hinv.doms_rising) _ _
  have hreq : t.domReq (32 * i.val + b.val) = false := (hnoted.req b.isLt hd84).trans hnew
  generalize t.setDom (32 * i.val + b.val) { t.domOf (32 * i.val + b.val) with down := true } = u at hheld
  have hreqU := (State.domReq_congr (hheld.rd _ _)).trans hreq
  exact ⟨congrArg DomSt.down hheld.own, fun e => (hheld.rd _ _).trans (hstate _), hreqU, hheld.raised.trans hraised⟩

theorem domReq_down_on (hinv : Inv s) (hserved : Served m true (0x30010 + 4 * i.val) w s) (hd : 32 * i.val + b.val < 82)
    (h82 : s.domReq 82 = true) (hon : s.domState (32 * i.val + b.val) = 3)
    (hold : s.domReq (32 * i.val + b.val) = true) (hnew : w.getLsbD b.val = false)
    (hothers : ∀ j : Fin 32, j ≠ b → w.getLsbD j.val = (s.getReg (0x30010 + 4 * i.val)).getLsbD j.val) :
    ReqNoted i.val w s (reqNoted i.val (reqStored i.val w s)) ∧ (reqNoted i.val (reqStored i.val w s)).domReq (32 * i.val + b.val) = false ∧
    ∃ u, writeCmd m (0x30010 + 4 * i.val) w s.fresh = answered m (0x30010 + 4 * i.val) true 0 .done u ∧
      DomAnswered (32 * i.val + b.val) (m == .ncp) (reqNoted i.val (reqStored i.val w s)) u := by
  have hr := hinv.regs_rising
  have hd84 : 32 * i.val + b.val < 84 := by omega
  obtain ⟨hnoted, hwrite⟩ := domReq_served hr hserved hd84 h82 (v := false) hold hnew hothers (by omega)
  rw [if_neg Bool.false_ne_true] at hwrite
  rw [hwrite]
  generalize reqNoted i.val (reqStored i.val w s) = t at hnoted
  obtain ⟨hdoms, -, -, -, -⟩ := hnoted.kept
  rw [domDownReq_on ((hnoted.state hr i.isLt _).trans hon)]
  exact ⟨hnoted, (hnoted.req b.isLt hd84).trans hnew, _, rfl, domAnswer_answered (hnoted.rising hr) (hdoms ▸ hinv.doms_rising) hd84⟩

end

end Sys2Proof.Machine
end

section

/-! A transfer that drains, or does not in time, and an aborted entry to REST (R449, R452, R453). -/

namespace Sys2Proof.Machine

/-! ### The part's state -/

theorem dimApply_touches (s : State) : Touches (fun k => k = 0x50404 ∨ DimKey k) s (dimApply s) := by
  obtain ⟨act, heq⟩ := dimApply_eq s
  have hshown : Touches (fun k => k = 0x50404 ∨ DimKey k) s (dimShown act s) := ((Touches.refl _ s).wr _ (.inl rfl)).wr _ (.inl rfl)
  rw [heq]
  exact (hshown.trans ((lanesThrottled_touches act _).touches.mono fun _ => .inr)).trans ((sclkSync_kept _).1.touches.mono fun _ => .inr)

/-- The keys that a change of the part's state writes. -/
def PartKey (k : Nat) : Prop := k = 0x30000 ∨ k = 0x50404 ∨ DimKey k

theorem pwrGo_gone {st : Nat} {s : State} (hst : st < 8) (hr : Rising 0 s.regs) :
    Touches PartKey s (pwrGo st s) ∧ (pwrGo st s).pwrState = st := by
  have hset : Touches PartKey s (s.wr pwrB R.PWR_STATUS_STATE st) := (Touches.refl _ s).wr _ (.inl rfl)
  have hstate : (s.wr pwrB R.PWR_STATUS_STATE st).pwrState = st :=
    (State.rd_wr_same _ _ _ _ hr (by decide)).trans (Nat.mod_eq_of_lt hst)
  unfold pwrGo
  generalize s.wr pwrB R.PWR_STATUS_STATE st = a at hset hstate
  have happly := dimApply_touches a
  refine ⟨hset.trans (happly.mono fun _ => .inr), (happly.rd (hset hr).1 ?_).trans hstate⟩
  rintro (h | h)
  · exact absurd h (by decide)
  · revert h
    unfold DimKey pwrB
    simp only [R.PWR_STATUS_STATE]
    omega

/-! ### An aborted entry to REST -/

/-- One domain after an abort: out of QUIESCE, with its answer dropped. -/
def abortOne (s : State) (d : Nat) : State :=
  let s := if s.domState d == 4 then domGo d 3 s else s
  let x := s.domOf d
  s.setDom d { x with ack := false, delayAt := 0, byAccess := x.byAccess || (s.domOn d && !s.domReq d) }

/-- All domains after an abort. -/
def abortsUndone (s : State) : State := (List.range 84).foldl abortOne s

/-- The supervisor is no longer asked. -/
def unasked (s : State) : State := s.setCore 16 ((s.coreOf 16).setCsrF csrINTPEND 13 13 0)

theorem restAbort_one (d cause : Nat) (s : State) : restAbort [(d, cause)] s =
    (let t := unasked (abortsUndone (pwrLog d cause 1 (s.domOf d).master s))
     ((pwrGo (thermalState t) t).cnt pwrB R.PWR_CNT_ABORTS 1).raise 0x3F7) := rfl

/-- The keys that an abort writes for the domains other than d. -/
def AbortKey (d k : Nat) : Prop := ∃ e < 84, e ≠ d ∧ GoKey e k

theorem abortOne_touches {d e : Nat} (he : e < 84) {s : State} (h4 : s.domState d ≠ 4) : Touches (AbortKey d) s (abortOne s e) := by
  have hset (t : State) (x : DomSt) : Touches (AbortKey d) t (t.setDom e x) := .of_regs rfl
  unfold abortOne
  dsimp only
  split
  · next hq =>
    have hne : e ≠ d := by
      rintro rfl
      exact h4 (beq_iff_eq.mp hq)
    exact ((domGo_touches e 3 s).mono fun _ hk => ⟨e, he, hne, hk⟩).trans (hset _ _)
  · exact hset _ _

theorem domStat_not_abort {d off : Nat} (hoff : off < 0x1000) : ¬ AbortKey d (domB d + off) := by
  rintro ⟨e, he, hne, h⟩
  unfold GoKey at h
  rw [domB_eq, domB_eq, reqB_eq] at h
  omega

theorem low_not_abort {d k : Nat} (hk : k < 0x30020 ∨ (0x3002C ≤ k ∧ k < 2 ^ 32)) : ¬ AbortKey d k := by
  rintro ⟨e, he, -, h⟩
  exact pwr_not_go hk he h

theorem abortsUndone_touches {d : Nat} {s : State} (h4 : s.domState d ≠ 4) : Touches (AbortKey d) s (abortsUndone s) := by
  have hall (l : List Nat) (hl : ∀ e ∈ l, e < 84) (s : State) (h4 : s.domState d ≠ 4) : Touches (AbortKey d) s (l.foldl abortOne s) := by
    induction l generalizing s with
    | nil => exact .refl _ _
    | cons e l ih =>
      intro hr
      have hone := abortOne_touches (d := d) (hl e List.mem_cons_self) h4
      have hkeep : (abortOne s e).domState d = s.domState d := hone.rd hr (domStat_not_abort (by decide))
      exact (hone.trans (ih (fun j hj => hl j (List.mem_cons_of_mem e hj)) _ (by rw [hkeep]; exact h4))) hr
  exact hall _ (fun e he => List.mem_range.mp he) s h4

/-- From s to t an entry to REST was aborted. -/
structure RestAborted (d : Nat) (s t : State) : Prop where
  part : t.pwrState = thermalState s
  stat : ∀ f : Fld, f.off = 0x34 → t.rd (domB d) f = s.rd (domB d) f
  sends : Sends 0x3F7 t

theorem restAbort_aborted {d cause : Nat} {s : State} (hr : Rising 0 s.regs) (hd : d < 84) (h4 : s.domState d ≠ 4) :
    RestAborted d s (restAbort [(d, cause)] s) := by
  rw [restAbort_one]
  dsimp only
  obtain ⟨l, hlog, -⟩ := pwrLog_frame d cause 1 (s.domOf d).master s
  have hregsA : (pwrLog d cause 1 (s.domOf d).master s).regs = s.regs := by rw [hlog]
  generalize pwrLog d cause 1 (s.domOf d).master s = a at hregsA
  have hra : Rising 0 a.regs := hregsA ▸ hr
  have hrdA (b : Nat) (f : Fld) : a.rd b f = s.rd b f := by rw [State.rd, State.rd, State.getReg, State.getReg, hregsA]
  have hundone := abortsUndone_touches (s := a) (by rw [State.domState, hrdA]; exact h4)
  generalize abortsUndone a = b at hundone
  have hregsC : (unasked b).regs = b.regs := rfl
  generalize unasked b = c at hregsC
  have hrc : Rising 0 c.regs := hregsC ▸ (hundone hra).1
  have hrdC (b' : Nat) (f : Fld) (hk : ¬ AbortKey d (b' + f.off)) : c.rd b' f = s.rd b' f := by
    have hcb : c.rd b' f = b.rd b' f := by rw [State.rd, State.rd, State.getReg, State.getReg, hregsC]
    rw [hcb, hundone.rd hra hk, hrdA]
  have htherm : thermalState c = thermalState s := hrdC _ _ (low_not_abort (.inr (by decide)))
  rw [htherm]
  have hlt : thermalState s < 2 := s.rd_lt hkB R.HK_TH_STATUS_DIM
  obtain ⟨hgone, hstate⟩ := pwrGo_gone (st := thermalState s) (by omega) hrc
  generalize pwrGo (thermalState s) c = e at hgone hstate
  have hre := (hgone hrc).1
  have hcnt : Touches (fun k => k = 0x30058) e (e.cnt pwrB R.PWR_CNT_ABORTS 1) := (Touches.refl _ e).cnt 1 rfl
  generalize e.cnt pwrB R.PWR_CNT_ABORTS 1 = f at hcnt
  have hrf := (hcnt hre).1
  refine ⟨?_, fun g hg => ?_, State.raise_sends (evClamped_of_none (by decide) _)⟩
  · rw [State.pwrState, State.raise_rd hrf (by decide) (by unfold RaiseKey FltKey EvtKey objKey pwrB; simp only [R.PWR_STATUS_STATE]; omega),
      hcnt.rd hre (by decide)]
    exact hstate
  · rw [State.raise_rd hrf (by decide) (dom_not_raise hd (by omega)), hcnt.rd hre (by rw [domB_eq]; omega), hgone.rd hrc ?_,
      hrdC _ _ (domStat_not_abort (by omega))]
    unfold PartKey DimKey
    rw [domB_eq]
    omega

/-! ### The end of a delay -/

section
variable {d : Nat} {s : State}

theorem domDrained_eq (hon : s.domOn d = true) (hdelay : (s.domOf d).delayAt ≠ 0) :
    domDrained d s = if inFlight d false s = true then s
      else if s.pwrState = 2 then (s.wr (domB d) R.PWR_DOM_STAT_ANSWER 1).setDom d { s.domOf d with ack := true, delayAt := 0 }
      else domQuiesce d s := by
  have hne : ((s.domOf d).delayAt != 0) = true := bne_iff_ne.mpr hdelay
  unfold domDrained
  rw [hon, hne]
  cases inFlight d false s
  · rw [if_neg Bool.false_ne_true]
    by_cases h2 : s.pwrState = 2
    · rw [h2]
      rfl
    · rw [if_neg h2, beq_eq_false_iff_ne.mpr h2]
      rfl
  · rfl

/-- What the end of a delay leaves where REST is entered. -/
theorem drained_rest (hr : Rising 0 s.regs) (hd : Rising 0 s.doms) (hon : s.domOn d = true) :
    let u := (s.wr (domB d) R.PWR_DOM_STAT_ANSWER 1).setDom d { s.domOf d with ack := true, delayAt := 0 }
    u.domState d = 3 ∧ u.rd (domB d) R.PWR_DOM_STAT_ANSWER = 1 ∧ (u.domOf d).ack = true ∧ (u.domOf d).delayAt = 0 ∧ u.mem = s.mem := by
  have hwr : (s.wr (domB d) R.PWR_DOM_STAT_ANSWER 1).rd (domB d) R.PWR_DOM_STAT_ANSWER = 1 := State.rd_wr_same _ _ _ _ hr (by decide)
  have hstate : (s.wr (domB d) R.PWR_DOM_STAT_ANSWER 1).domState d = 3 :=
    (domStat_wr hr rfl (by decide)).trans (beq_iff_eq.mp hon)
  have hkept : (s.wr (domB d) R.PWR_DOM_STAT_ANSWER 1).mem = s.mem ∧ (s.wr (domB d) R.PWR_DOM_STAT_ANSWER 1).doms = s.doms := ⟨rfl, rfl⟩
  generalize s.wr (domB d) R.PWR_DOM_STAT_ANSWER 1 = a at hwr hstate hkept
  have hheld := setDom_held (hkept.2 ▸ hd : Rising 0 a.doms) d { s.domOf d with ack := true, delayAt := 0 }
  have hmem : (a.setDom d { s.domOf d with ack := true, delayAt := 0 }).mem = a.mem := rfl
  intro u
  have hu : u = a.setDom d { s.domOf d with ack := true, delayAt := 0 } := rfl
  clear_value u
  rw [← hu] at hheld hmem
  exact ⟨(hheld.rd _ _).trans hstate, (hheld.rd _ _).trans hwr, congrArg DomSt.ack hheld.own, congrArg DomSt.delayAt hheld.own, hmem.trans hkept.1⟩

/-- True time at the end of a delay of 2 ms. -/
def drainTimed (d : Nat) (s : State) : State := s.advanceNow ((s.domOf d).delayAt - 1 + 78125000)

theorem domDrainTimeout_eq (hon : s.domOn d = true) (hdelay : (s.domOf d).delayAt ≠ 0) :
    domDrainTimeout d s = if (drainTimed d s).pwrState = 2 then
        restAbort [(d, 1)] (((drainTimed d s).wr (domB d) R.PWR_DOM_STAT_ANSWER 3).wr (domB d) R.PWR_DOM_STAT_CAUSE 1)
      else domRefuse d 1 (drainTimed d s) := by
  have hne : ((s.domOf d).delayAt != 0) = true := bne_iff_ne.mpr hdelay
  unfold domDrainTimeout
  dsimp only
  rw [hon, hne]
  show (if ((drainTimed d s).pwrState == 2) = true then _ else _) = _
  by_cases h2 : (drainTimed d s).pwrState = 2
  · rw [if_pos h2, if_pos (beq_iff_eq.mpr h2)]
    rfl
  · rw [if_neg h2, if_neg (by rw [beq_iff_eq]; exact h2)]
    rfl

/-- What a delay that runs out leaves where the part is not entering REST. -/
structure DelayRefused (d : Nat) (s u : State) : Prop where
  state : u.domState d = 3
  req : u.domReq d = true
  answer : u.rd (domB d) R.PWR_DOM_STAT_ANSWER = 3
  cause : u.rd (domB d) R.PWR_DOM_STAT_CAUSE = 1
  sends : Sends 0x3F8 u
  own : (u.domOf d).delayAt = 0
  now : u.now = max s.now ((s.domOf d).delayAt - 1 + 78125000)
  mem : u.mem = s.mem

theorem drainTimeout_refused (hr : Rising 0 s.regs) (hdoms : Rising 0 s.doms) (hd : d < 84) (hon : s.domOn d = true)
    (hdelay : (s.domOf d).delayAt ≠ 0) (h2 : s.pwrState ≠ 2) : DelayRefused d s (domDrainTimeout d s) := by
  have htime : TimePassed s (drainTimed d s) := TimePassed.of_advanceNow s _
  have hnow : (drainTimed d s).now = max s.now ((s.domOf d).delayAt - 1 + 78125000) := State.advanceNow_now ..
  rw [domDrainTimeout_eq hon hdelay]
  generalize drainTimed d s = a at htime hnow
  have h2A : a.pwrState ≠ 2 := by
    rw [State.pwrState, htime.rd]
    exact h2
  rw [if_neg h2A]
  have hrefused := domRefuse_refused (d := d) (cause := 1) (htime.regs ▸ hr : Rising 0 a.regs) (htime.doms ▸ hdoms : Rising 0 a.doms) hd (by decide)
  generalize domRefuse d 1 a = u at hrefused
  have hstate : a.domState d = 3 := (htime.rd _ _).trans (beq_iff_eq.mp hon)
  exact ⟨hrefused.state.trans hstate, hrefused.req, hrefused.answer, hrefused.cause, hrefused.sends, congrArg DomSt.delayAt hrefused.own,
    (congrArg EdgeView.now hrefused.edge).trans hnow, (congrArg EdgeView.mem hrefused.edge).trans htime.mem⟩

theorem drainTimeout_aborted (hr : Rising 0 s.regs) (hd : d < 84) (hon : s.domOn d = true) (hdelay : (s.domOf d).delayAt ≠ 0)
    (h2 : s.pwrState = 2) : (domDrainTimeout d s).pwrState = thermalState s ∧
    (domDrainTimeout d s).rd (domB d) R.PWR_DOM_STAT_ANSWER = 3 ∧ (domDrainTimeout d s).rd (domB d) R.PWR_DOM_STAT_CAUSE = 1 ∧
    Sends 0x3F7 (domDrainTimeout d s) := by
  have htime : TimePassed s (drainTimed d s) := TimePassed.of_advanceNow s _
  rw [domDrainTimeout_eq hon hdelay]
  generalize drainTimed d s = a at htime
  have hra : Rising 0 a.regs := htime.regs ▸ hr
  have h2A : a.pwrState = 2 := (htime.rd _ _).trans h2
  rw [if_pos h2A]
  have hr1 : Rising 0 (a.wr (domB d) R.PWR_DOM_STAT_ANSWER 3).regs := State.wr_rising _ _ _ _ hra
  have hanswer : ((a.wr (domB d) R.PWR_DOM_STAT_ANSWER 3).wr (domB d) R.PWR_DOM_STAT_CAUSE 1).rd (domB d) R.PWR_DOM_STAT_ANSWER = 3 :=
    (State.rd_wr_apart hr1 (by decide)).trans (State.rd_wr_same _ _ _ _ hra (by decide))
  have hcause : ((a.wr (domB d) R.PWR_DOM_STAT_ANSWER 3).wr (domB d) R.PWR_DOM_STAT_CAUSE 1).rd (domB d) R.PWR_DOM_STAT_CAUSE = 1 :=
    State.rd_wr_same _ _ _ _ hr1 (by decide)
  have hstate : ((a.wr (domB d) R.PWR_DOM_STAT_ANSWER 3).wr (domB d) R.PWR_DOM_STAT_CAUSE 1).domState d = 3 :=
    (domStat_wr hr1 rfl (by decide)).trans ((domStat_wr hra rfl (by decide)).trans ((htime.rd _ _).trans (beq_iff_eq.mp hon)))
  have htouches : Touches (fun k => k = domB d + 0x34) a ((a.wr (domB d) R.PWR_DOM_STAT_ANSWER 3).wr (domB d) R.PWR_DOM_STAT_CAUSE 1) :=
    ((Touches.refl (fun k => k = domB d + 0x34) a).wr _ (f := R.PWR_DOM_STAT_ANSWER) (b := domB d) rfl).wr _ (f := R.PWR_DOM_STAT_CAUSE) (b := domB d) rfl
  generalize (a.wr (domB d) R.PWR_DOM_STAT_ANSWER 3).wr (domB d) R.PWR_DOM_STAT_CAUSE 1 = b at hanswer hcause hstate htouches
  have haborted := restAbort_aborted (d := d) (cause := 1) (htouches hra).1 hd (by rw [hstate]; decide)
  generalize restAbort [(d, 1)] b = u at haborted
  have htherm : thermalState b = thermalState s := by
    refine (htouches.rd hra ?_).trans (htime.rd _ _)
    rw [domB_eq]
    simp only [hkB, R.HK_TH_STATUS_DIM]
    omega
  exact ⟨haborted.part.trans htherm, (haborted.stat _ rfl).trans hanswer, (haborted.stat _ rfl).trans hcause, haborted.sends⟩

end

end Sys2Proof.Machine
end

section

/-! The head of the queue is admitted, and tokens return (R454). -/

namespace Sys2Proof.Machine

section
variable {d : Nat} {s : State}

/-- The tokens that a domain takes, until their HOLD ends. -/
def tokTaken (d : Nat) (s : State) : List (Nat × Nat × Nat) := (domRails d).map (fun r => (r, (domNeed d).getD r 0, s.now + tokHold r s))

/-- A domain takes its tokens and leaves the first class. -/
def tokensTaken (d : Nat) (s : State) : State :=
  { s with pwr := { s.pwr with out := s.pwr.out ++ tokTaken d s, first := s.pwr.first.filter (· != d) } }

/-- The time of a domain in the queue in units of 1 µs. -/
def queuedFor (d : Nat) (s : State) : Nat := (s.now - (s.domOf d).queuedAt) * 2 / 78125

/-- A domain's ramp begins. -/
def rampNoted (d : Nat) (x : DomSt) (s : State) : State := s.setDom d { x with admitAt := s.now + 1, failing := x.injFail, injFail := false }

theorem domAdmitNow_eq (hd : d < 84) :
    domAdmitNow d s = domGo d 2 (rampNoted d (s.domOf d) (domWaited d (queuedFor d s) (tokensTaken d s))) := by
  unfold domAdmitNow
  dsimp only
  rw [if_pos hd, if_pos hd]
  rfl

theorem domAdmit_ready (hhead : queueHead s = some d) (hruns : s.pwrRuns = true) (hready : tokReady d s = true)
    (hinj : (s.domOf d).injToken = false) : domAdmit s = domAdmitNow d s := by
  unfold domAdmit
  rw [hhead]
  dsimp only
  rw [hruns, hready, hinj]
  rfl

theorem domAdmit_waits (hhead : queueHead s = some d) (hready : tokReady d s = false) : domAdmit s = s := by
  unfold domAdmit
  rw [hhead]
  dsimp only
  rw [hready, Bool.not_false, Bool.or_true, if_pos rfl]

/-- The keys that a record of a wait writes. -/
def WaitKey (d k : Nat) : Prop := k = domB d + 0x34 ∨ k = 0x30050 ∨ RaiseKey k

/-- A wait shown in QWAIT and QWAIT_MAX. -/
def waitShown (d us : Nat) (s : State) : State :=
  (s.wr (domB d) R.PWR_DOM_STAT_QWAIT (min us 0xFFFF)).wr pwrB R.PWR_QWAIT_MAX
    (max ((s.wr (domB d) R.PWR_DOM_STAT_QWAIT (min us 0xFFFF)).rd pwrB R.PWR_QWAIT_MAX) (min us 0xFFFF))

theorem domWaited_eq (us : Nat) (hd : d < 84) :
    domWaited d us s = if (waitShown d us s).rd pwrB R.PWR_QWAIT_TH < min us 0xFFFF then (waitShown d us s).raise 0x3F9 else waitShown d us s := by
  unfold domWaited
  rw [if_neg (by omega)]
  rfl

theorem domWaited_step (us : Nat) (hd : d < 84) (hr : Rising 0 s.regs) :
    DomStep (WaitKey d) ShadeDom s (domWaited d us s) ∧ (domWaited d us s).rd (domB d) R.PWR_DOM_STAT_QWAIT = min us 65535 := by
  have hr1 : Rising 0 (s.wr (domB d) R.PWR_DOM_STAT_QWAIT (min us 0xFFFF)).regs := State.wr_rising _ _ _ _ hr
  have hshown : DomStep (WaitKey d) ShadeDom s (waitShown d us s) := ((DomStep.refl _ _ s).wr _ (.inl rfl)).wr _ (.inr (.inl rfl))
  have hwait : (waitShown d us s).rd (domB d) R.PWR_DOM_STAT_QWAIT = min us 65535 := by
    unfold waitShown
    rw [State.rd_wr_ne _ _ _ _ _ _ hr1 (by
      rw [domB_eq]
      simp only [R.PWR_DOM_STAT_QWAIT, R.PWR_QWAIT_MAX, pwrB]
      omega), State.rd_wr_same _ _ _ _ hr (by decide)]
    exact Nat.mod_eq_of_lt (lt_of_le_of_lt (Nat.min_le_right us 65535) (by decide))
  rw [domWaited_eq us hd]
  generalize waitShown d us s = a at hshown hwait
  split
  · exact ⟨hshown.raise (by decide) fun _ h => .inr (.inr h),
      (State.raise_rd (hshown.rising hr) (by decide) (dom_not_raise hd (by decide))).trans hwait⟩
  · exact ⟨hshown, hwait⟩

/-- From s to t the domain d was admitted. -/
structure DomAdmitted (d : Nat) (s t : State) : Prop where
  state : t.domState d = 2
  others : ∀ e < 84, e ≠ d → t.domState e = s.domState e
  out : t.pwr.out = s.pwr.out ++ tokTaken d s
  first : t.pwr.first = s.pwr.first.filter (· != d)
  own : t.domOf d = { s.domOf d with admitAt := s.now + 1, failing := (s.domOf d).injFail, injFail := false }
  edge : t.edge = s.edge
  wait : t.rd (domB d) R.PWR_DOM_STAT_QWAIT = min (queuedFor d s) 65535

theorem domAdmitNow_admitted (hd : d < 84) (hr : Rising 0 s.regs) (hdoms : Rising 0 s.doms) : DomAdmitted d s (domAdmitNow d s) := by
  rw [domAdmitNow_eq hd]
  generalize hx : s.domOf d = x
  generalize hus : queuedFor d s = us
  have htaken : (tokensTaken d s).regs = s.regs ∧ (tokensTaken d s).doms = s.doms ∧ (tokensTaken d s).edge = s.edge ∧
      (tokensTaken d s).pwr.out = s.pwr.out ++ tokTaken d s ∧ (tokensTaken d s).pwr.first = s.pwr.first.filter (· != d) := ⟨rfl, rfl, rfl, rfl, rfl⟩
  generalize tokensTaken d s = a at htaken
  obtain ⟨hregs, hdomsA, hedgeA, hout, hfirst⟩ := htaken
  have hra : Rising 0 a.regs := hregs ▸ hr
  obtain ⟨hstep, hwait⟩ := domWaited_step us hd hra
  generalize domWaited d us a = b at hstep hwait
  have hrb := hstep.rising hra
  have hnowB : b.now = s.now := congrArg EdgeView.now (hstep.edge.trans hedgeA)
  have hheld : DomHeld d { x with admitAt := b.now + 1, failing := x.injFail, injFail := false } b (rampNoted d x b) :=
    setDom_held (hstep.doms (hdomsA ▸ hdoms)).1 d _
  generalize rampNoted d x b = c at hheld
  have hrc := hheld.rising hrb
  have hmoved := domGo_moved (d := d) (st := 2) (by decide) hrc
  generalize domGo d 2 c = u at hmoved
  have hkept : u.pwr = c.pwr ∧ u.edge = c.edge ∧ u.domOf d = c.domOf d := by
    obtain ⟨m, hm⟩ := hmoved.frame
    rw [hm]
    exact ⟨rfl, rfl, rfl⟩
  have hpwr : u.pwr = a.pwr := hkept.1.trans (hheld.pwr.trans hstep.pwr)
  refine ⟨hmoved.state, fun e he hne => ?_, ?_, ?_, ?_, hkept.2.1.trans (hheld.edge.trans (hstep.edge.trans hedgeA)), ?_⟩
  · have hkey : ¬ WaitKey d (domB e + R.PWR_DOM_STAT_STATE.off) := by
      rintro (h | h | h)
      · exact domB_inj hne h
      · rw [domB_eq] at h
        omega
      · exact dom_not_raise he (by decide) h
    refine (hmoved.others hrc hd hne).trans ((hheld.rd _ _).trans ((hstep.rd hra hkey).trans ?_))
    rw [State.rd, State.getReg, hregs]
    rfl
  · rw [hpwr, hout]
  · rw [hpwr, hfirst]
  · rw [hkept.2.2, hheld.own, hnowB, hx]
  · rw [hus]
    exact (hmoved.beside _ rfl (by decide) (by decide) (by decide)).trans ((hheld.rd _ _).trans hwait)

end

/-! ### Tokens return -/

/-- The least instant of a list from t on. -/
def leastOf (l : List (Nat × Nat × Nat)) (t : Nat) : Nat := l.foldl (fun t e => min t e.2.2) t

theorem leastOf_least (l : List (Nat × Nat × Nat)) (t : Nat) :
    leastOf l t ≤ t ∧ (∀ e ∈ l, leastOf l t ≤ e.2.2) ∧ (leastOf l t = t ∨ ∃ e ∈ l, leastOf l t = e.2.2) := by
  induction l generalizing t with
  | nil => exact ⟨le_refl t, fun e he => absurd he List.not_mem_nil, .inl rfl⟩
  | cons a l ih =>
    obtain ⟨hle, hall, hone⟩ := ih (min t a.2.2)
    have hcons : leastOf (a :: l) t = leastOf l (min t a.2.2) := rfl
    rw [hcons]
    refine ⟨hle.trans (Nat.min_le_left _ _), fun e he => ?_, ?_⟩
    · rcases List.mem_cons.mp he with rfl | he
      · exact hle.trans (Nat.min_le_right _ _)
      · exact hall e he
    · rcases hone with h | ⟨e, he, h⟩
      · rcases Nat.le_total t a.2.2 with hta | hta
        · exact .inl (h.trans (Nat.min_eq_left hta))
        · exact .inr ⟨a, List.mem_cons_self, h.trans (Nat.min_eq_right hta)⟩
      · exact .inr ⟨e, List.mem_cons_of_mem a he, h⟩

/-- What the return of tokens leaves. -/
structure TokReturned (s u : State) : Prop where
  now : ∃ e ∈ s.pwr.out, u.now = e.2.2
  least : ∀ e ∈ s.pwr.out, s.now < e.2.2 → u.now ≤ e.2.2
  out : u.pwr.out = s.pwr.out.filter (fun e => decide (u.now < e.2.2))
  regs : u.regs = s.regs
  mem : u.mem = s.mem

/-- The tokens whose HOLD has ended are back. -/
def tokensBack (s : State) : State := { s with pwr := { s.pwr with out := s.pwr.out.filter (fun e => decide (s.now < e.2.2)) } }

theorem tokReturn_eq {s : State} {e : Nat × Nat × Nat} {l : List (Nat × Nat × Nat)}
    (h : s.pwr.out.filter (fun e => decide (s.now < e.2.2)) = e :: l) : tokReturn s = tokensBack (s.advanceNow (leastOf l e.2.2)) := by
  unfold tokReturn
  rw [h]
  rfl

theorem tokReturn_returned {s : State} (h : ∃ e ∈ s.pwr.out, s.now < e.2.2) : TokReturned s (tokReturn s) := by
  obtain ⟨e0, he0, hlt0⟩ := h
  have hmem (x : Nat × Nat × Nat) : x ∈ s.pwr.out.filter (fun e => decide (s.now < e.2.2)) ↔ x ∈ s.pwr.out ∧ s.now < x.2.2 := by
    rw [List.mem_filter, decide_eq_true_iff]
  match hfilter : s.pwr.out.filter (fun e => decide (s.now < e.2.2)) with
  | [] =>
    have hin := (hmem e0).mpr ⟨he0, hlt0⟩
    rw [hfilter] at hin
    exact absurd hin List.not_mem_nil
  | e :: l =>
    rw [tokReturn_eq hfilter]
    rw [hfilter] at hmem
    obtain ⟨hle, hall, hone⟩ := leastOf_least l e.2.2
    generalize leastOf l e.2.2 = t at hle hall hone
    have hin : ∃ x ∈ s.pwr.out, t = x.2.2 ∧ s.now < t := by
      rcases hone with h | ⟨x, hx, h⟩
      · obtain ⟨h1, h2⟩ := (hmem e).mp List.mem_cons_self
        exact ⟨e, h1, h, h ▸ h2⟩
      · obtain ⟨h1, h2⟩ := (hmem x).mp (List.mem_cons_of_mem e hx)
        exact ⟨x, h1, h, h ▸ h2⟩
    obtain ⟨x, hx, ht, hlt⟩ := hin
    have hnow : (s.advanceNow t).now = t := (State.advanceNow_now ..).trans (Nat.max_eq_right (Nat.le_of_lt hlt))
    have htime : TimePassed s (s.advanceNow t) := TimePassed.of_advanceNow s t
    have hpwr : (s.advanceNow t).pwr = s.pwr := by
      unfold State.advanceNow
      rw [State.advance_eq]
    generalize s.advanceNow t = a at hnow htime hpwr
    refine ⟨⟨x, hx, hnow.trans ht⟩, fun y hy hylt => ?_, ?_, htime.regs, htime.mem⟩
    · have hny : (tokensBack a).now = t := hnow
      rw [hny]
      rcases List.mem_cons.mp ((hmem y).mpr ⟨hy, hylt⟩) with rfl | h
      · exact hle
      · exact hall y h
    · rw [← hpwr]
      rfl

end Sys2Proof.Machine
end

section

/-! The end of a domain's ramp, its analogue side, and its switch (R444, R447, R457). -/

namespace Sys2Proof.Machine

/-! ### What starts with a domain -/

/-- The keys that a domain's machines write as they start: none of the power controller. -/
def StartKey (k : Nat) : Prop := ClampedKey k ∨ (0x40000 ≤ k ∧ k < 0x50000)

theorem dom_not_start {d off : Nat} (hd : d < 84) (hoff : off < 0x1000) : ¬ StartKey (domB d + off) := by
  rintro (h | h)
  · exact dom_not_clamped hd hoff h
  · rw [domB_eq] at h
    omega

theorem pwr_not_start {k : Nat} (hk : k < 0x40000) : ¬ StartKey k := by
  rintro (h | h)
  · exact pwr_not_clamped (by omega) h
  · omega

section
variable {n : Nat} {s : State}

theorem DomStep.start_of_lane {t : State} (h : LaneStep s t) : DomStep StartKey ShadeDom s t := .of_lane h fun _ hk => .inl hk.clamped

theorem rxEnableSync_step (hn : n < 64) (s : State) : LaneStep s (rxEnableSync n s) := by
  unfold rxEnableSync
  exact (((rxGo_step hn 1 0 s).trans (rxTryClk_step hn _)).ite (LaneStep.refl s)).ite ((LaneStep.refl s).ite (rxGo_step hn 0 5 s))

theorem dlyPowerUp_step (hn : n < 64) (s : State) : DomStep StartKey ShadeDom s (dlyPowerUp n s) := by
  have hdrawn : DomStep StartKey ShadeDom s s.drawn := .of_doms (.of_regs rfl) rfl rfl rfl rfl
  have hoff : ∀ f : Fld, f.off < 0x1000 → StartKey (tlB + 4 * (n / 2) + f.off) := fun f hf => .inr (by
    unfold tlB
    omega)
  unfold dlyPowerUp laneDly
  refine hdrawn.wr _ (hoff _ ?_)
  split <;> decide

theorem chainResetAll_step (hn : n < 64) (s : State) : LaneStep s (chainResetAll n s) :=
  LaneStep.foldl _ (fun t _ hc => chainReset_step hn (List.mem_range.mp hc) t) s

theorem grpAll_step {e : Nat} (he : e < 4) (s : State) : LaneStep s (grpAll e s) :=
  LaneStep.foldl _ (fun t _ hg => grpSync_step he (List.mem_range.mp hg) t) s

theorem domStart_step {d : Nat} (hd : d < 84) (s : State) : DomStep StartKey ShadeDom s (domStart d s) := by
  unfold domStart
  split
  · next hlane =>
    exact (dlyPowerUp_step hlane s).trans
      (.start_of_lane (((rxEnableSync_step hlane _).trans (txEval_step hlane _)).trans (chainResetAll_step hlane _)))
  · split
    · exact .refl _ _ s
    · split
      · exact .start_of_lane (grpAll_step (by omega) s)
      · split
        · unfold portStart
          exact ((DomStep.refl _ _ s).wr _ (.inl (.inr (by decide)))).ite (.refl _ _ s)
        · exact .refl _ _ s

theorem synEnableSync_step {o : Nat} (ho : o < 8) (s : State) : DomStep StartKey ShadeDom s (synEnableSync o s) := by
  have hgo (st : Nat) (t : State) : DomStep StartKey ShadeDom t (synGo o st t) := (synGo_step ho st t).mono (fun _ => .inl) fun _ => id
  have hcal : DomStep StartKey ShadeDom s (synCal o s) :=
    ((DomStep.refl _ _ s).wr _ (.inl (.inr (by unfold octB; simp only [R.OCT_SYN_STATUS_ATTEMPT]; omega)))).trans (hgo 1 _)
  unfold synEnableSync
  exact ((DomStep.refl _ _ s).ite (hgo 0 s)).ite (hcal.ite (.refl _ _ s))

/-! ### Its analogue side -/

/-- A domain's machines follow its analogue side. -/
def anaFollow (d : Nat) (s : State) : State :=
  if d < 64 then txEval d (rxTryClk d s) else if d < 72 then synEnableSync (d - 64) s else s

theorem anaFollow_step {d : Nat} (s : State) : DomStep StartKey ShadeDom s (anaFollow d s) := by
  unfold anaFollow
  split
  · next hlane => exact .start_of_lane ((rxTryClk_step hlane s).trans (txEval_step hlane _))
  · split
    · exact synEnableSync_step (by omega) s
    · exact .refl _ _ s

/-- From s to t the analogue side of a domain that is ON became ready. -/
structure AnaReady (d : Nat) (s t : State) : Prop where
  step : DomStep (fun k => k = domB d + 0x34 ∨ StartKey k) ShadeDom s t
  ready : t.anaRdy d = true
  stat : ∀ g : Fld, g.off = 0x34 → apart R.PWR_DOM_STAT_ANA_RDY g = true → ∀ e < 84, t.rd (domB e) g = s.rd (domB e) g

theorem domAna_eq {d : Nat} (hon : s.domOn d = true) (hana : s.anaRdy d = false) :
    domAna d s = anaFollow d (s.wr (domB d) R.PWR_DOM_STAT_ANA_RDY 1) := by
  unfold domAna
  rw [hon, hana]
  rfl

theorem domAna_ready {d : Nat} (hd : d < 84) (hr : Rising 0 s.regs) (hon : s.domOn d = true) (hana : s.anaRdy d = false) :
    AnaReady d s (domAna d s) := by
  have hset : DomStep (fun k => k = domB d + 0x34 ∨ StartKey k) ShadeDom s (s.wr (domB d) R.PWR_DOM_STAT_ANA_RDY 1) :=
    (DomStep.refl _ _ s).wr _ (.inl rfl)
  have hready : (s.wr (domB d) R.PWR_DOM_STAT_ANA_RDY 1).on (domB d) R.PWR_DOM_STAT_ANA_RDY = true := State.on_wr_one hr _ (by decide) rfl
  have hstat (g : Fld) (hg : g.off = 0x34) (hap : apart R.PWR_DOM_STAT_ANA_RDY g = true) (e : Nat) :
      (s.wr (domB d) R.PWR_DOM_STAT_ANA_RDY 1).rd (domB e) g = s.rd (domB e) g := by
    by_cases he : e = d
    · rw [he]
      exact State.rd_wr_apart hr hap
    · refine State.rd_wr_ne _ _ _ _ _ _ hr ?_
      rw [hg]
      exact domB_inj he
  rw [domAna_eq hon hana]
  generalize s.wr (domB d) R.PWR_DOM_STAT_ANA_RDY 1 = a at hset hready hstat
  have hfollow := anaFollow_step (d := d) a
  have hra := hset.rising hr
  generalize anaFollow d a = u at hfollow
  refine ⟨hset.trans (hfollow.mono (fun _ => .inr) fun _ => id), ?_, fun g hg hap e he => ?_⟩
  · exact (State.on_congr (hfollow.rd hra (dom_not_start hd (by decide)))).trans hready
  · exact (hfollow.rd hra (dom_not_start he (by omega))).trans (hstat g hg hap e)

/-! ### DIG_RDY -/

/-- From s to t the domain d came ON. -/
structure DomUp (d : Nat) (s t : State) : Prop where
  state : t.domState d = 3
  dig : t.on (domB d) R.PWR_DOM_STAT_DIG_RDY = true
  on : t.rd (reqB d) R.PWR_DOM_ON_ON / 2 ^ (d % 32) % 2 = 1
  ana : 78 ≤ d ∧ d < 83 → t.anaRdy d = true
  others : ∀ e < 84, e ≠ d → t.domState e = s.domState e

/-- The engines and the memory domain are ready at once. -/
def anaAtOnce (d : Nat) (s : State) : State := if 78 ≤ d ∧ d < 83 then domAna d s else s

/-- The ramp of a domain is over. -/
def rampEnded (d : Nat) (s : State) : State := s.setDom d { s.domOf d with admitAt := 0, down := false }

/-- The answers that wait for DIG_RDY. -/
def digAnswer (d : Nat) (down : Bool) (s : State) : State :=
  if s.pwrState == 2 then
    let r := restAsk d false s
    if r.2 then restAbort [(d, 4)] r.1 else r.1
  else if down && !s.domReq d then domAnswer d false s
  else s

theorem domDig_eq {d : Nat} (hramp : s.domState d = 2) (hfail : (s.domOf d).failing = false) : domDig d s =
    digAnswer d ((anaAtOnce d (domStart d (domGo d 3 s))).domOf d).down (rampEnded d (anaAtOnce d (domStart d (domGo d 3 s)))) := by
  unfold domDig
  rw [hramp, hfail]
  rfl

theorem digAnswer_none {d : Nat} (h2 : s.pwrState ≠ 2) : digAnswer d false s = s := by
  unfold digAnswer
  rw [beq_eq_false_iff_ne.mpr h2]
  rfl

theorem anaAtOnce_up {d : Nat} (hd : d < 84) (hr : Rising 0 s.regs) (hon : s.domState d = 3) :
    DomStep (fun k => k = domB d + 0x34 ∨ StartKey k) ShadeDom s (anaAtOnce d s) ∧ (78 ≤ d ∧ d < 83 → (anaAtOnce d s).anaRdy d = true) ∧
    ∀ g : Fld, g.off = 0x34 → apart R.PWR_DOM_STAT_ANA_RDY g = true → ∀ e < 84, (anaAtOnce d s).rd (domB e) g = s.rd (domB e) g := by
  unfold anaAtOnce
  by_cases hfe : 78 ≤ d ∧ d < 83
  · rw [if_pos hfe]
    by_cases hana : s.anaRdy d = true
    · have hsame : domAna d s = s := by
        unfold domAna
        rw [hana, Bool.not_true, Bool.and_false]
        rfl
      rw [hsame]
      exact ⟨.refl _ _ s, fun _ => hana, fun _ _ _ _ _ => rfl⟩
    · obtain ⟨hstep, hready, hstat⟩ := domAna_ready hd hr (beq_iff_eq.mpr hon : s.domOn d = true) (Bool.eq_false_iff.mpr hana)
      exact ⟨hstep, fun _ => hready, hstat⟩
  · rw [if_neg hfe]
    exact ⟨.refl _ _ s, fun h => absurd h hfe, fun _ _ _ _ _ => rfl⟩

theorem domDig_up {d : Nat} (hd : d < 84) (hr : Rising 0 s.regs) (hdoms : Rising 0 s.doms) (hramp : s.domState d = 2)
    (hfail : (s.domOf d).failing = false) (hdown : (s.domOf d).down = false) (h2 : s.pwrState ≠ 2) : DomUp d s (domDig d s) := by
  rw [domDig_eq hramp hfail]
  have hmoved := domGo_moved (d := d) (st := 3) (by decide) hr
  generalize domGo d 3 s = a at hmoved
  have hra := hmoved.rising hr
  have hdomsA : a.doms = s.doms := by
    obtain ⟨m, hm⟩ := hmoved.frame
    rw [hm]
  have hstart := domStart_step hd a
  generalize domStart d a = b at hstart
  have hrb := hstart.rising hra
  have hrdB (e : Nat) (he : e < 84) (f : Fld) (hf : f.off < 0x1000) : b.rd (domB e) f = a.rd (domB e) f := hstart.rd hra (dom_not_start he hf)
  obtain ⟨hana, hready, hstat⟩ := anaAtOnce_up hd hrb ((hrdB d hd _ (by decide)).trans hmoved.state)
  generalize anaAtOnce d b = c at hana hready hstat
  have hrc := hana.rising hrb
  have hpwrC (b' : Nat) (f : Fld) (hk : b' + f.off < 0x40000) : c.rd b' f = a.rd b' f := by
    refine (hana.rd hrb ?_).trans (hstart.rd hra (pwr_not_start hk))
    rintro (h | h)
    · rw [domB_eq] at h
      omega
    · exact pwr_not_start hk h
  have hdC := hana.doms (hstart.doms (hdomsA ▸ hdoms)).1
  have hof : c.domOf d = s.domOf d :=
    (hdC.2 d (by unfold ShadeDom; omega)).trans (((hstart.doms (hdomsA ▸ hdoms)).2 d (by unfold ShadeDom; omega)).trans (domOf_of_doms hdomsA d))
  have hheld : DomHeld d { c.domOf d with admitAt := 0, down := false } c (rampEnded d c) := setDom_held hdC.1 d _
  rw [hof, hdown]
  generalize rampEnded d c = u at hheld
  have h2U : u.pwrState ≠ 2 := by
    have hsame : u.pwrState = s.pwrState := (hheld.rd _ _).trans ((hpwrC _ _ (by decide)).trans
      (hmoved.touches.rd hr (pwr_not_go (.inl (by decide)) hd)))
    rw [hsame]
    exact h2
  rw [digAnswer_none h2U]
  have hreq : reqB d + R.PWR_DOM_ON_ON.off < 0x40000 := by
    rw [reqB_eq]
    simp only [R.PWR_DOM_ON_ON]
    omega
  have hrdU (f : Fld) (hf : f.off = 0x34) (hap : apart R.PWR_DOM_STAT_ANA_RDY f = true) (e : Nat) (he : e < 84) :
      u.rd (domB e) f = a.rd (domB e) f := (hheld.rd _ _).trans ((hstat f hf hap e he).trans (hrdB e he f (by omega)))
  refine ⟨(hrdU _ rfl (by decide) d hd).trans hmoved.state, (State.on_congr (hrdU _ rfl (by decide) d hd)).trans hmoved.dig, ?_,
    fun hfe => (State.on_congr (hheld.rd _ _)).trans (hready hfe), fun e he hne => (hrdU _ rfl (by decide) e he).trans (hmoved.others hr hd hne)⟩
  rw [hheld.rd, hpwrC _ _ hreq]
  exact hmoved.on

theorem domDig_fails {d : Nat} (hfail : (s.domOf d).failing = true) : domDig d s = s := by
  unfold domDig
  rw [hfail, Bool.not_true, Bool.and_false]
  rfl

/-! ### No DIG_RDY -/

/-- What a ramp without DIG_RDY leaves. -/
structure RampFailed (d : Nat) (s u : State) : Prop where
  state : u.domState d = 0
  sends : Sends 0x3FA u
  now : u.now = max s.now ((s.domOf d).admitAt - 1 + 1562500)
  own : (u.domOf d).failing = false
  mem : u.mem = s.mem
  others : ∀ e < 84, e ≠ d → u.domState e = s.domState e

/-- True time 40 µs after a domain's admission. -/
def rampTimed (d : Nat) (s : State) : State := s.advanceNow ((s.domOf d).admitAt - 1 + usT 40)

/-- The ramp of a domain is given up. -/
def rampDropped (d : Nat) (x : DomSt) (s : State) : State := s.setDom d { x with admitAt := 0, failing := false, down := false }

theorem domFail_eq {d : Nat} (hramp : s.domState d = 2) :
    domFail d s = (domGo d 0 (rampDropped d (s.domOf d) (rampTimed d s))).raise 0x3FA := by
  unfold domFail
  rw [hramp]
  rfl

theorem domFail_failed {d : Nat} (hd : d < 84) (hr : Rising 0 s.regs) (hdoms : Rising 0 s.doms) (hramp : s.domState d = 2) :
    RampFailed d s (domFail d s) := by
  rw [domFail_eq hramp]
  have htime : TimePassed s (rampTimed d s) := TimePassed.of_advanceNow s _
  have hnow : (rampTimed d s).now = max s.now ((s.domOf d).admitAt - 1 + 1562500) := State.advanceNow_now ..
  generalize rampTimed d s = a at htime hnow
  have hra : Rising 0 a.regs := htime.regs ▸ hr
  have hheld : DomHeld d { s.domOf d with admitAt := 0, failing := false, down := false } a (rampDropped d (s.domOf d) a) :=
    setDom_held (htime.doms ▸ hdoms) d _
  generalize rampDropped d (s.domOf d) a = b at hheld
  have hrb := hheld.rising hra
  have hmoved := domGo_moved (d := d) (st := 0) (by decide) hrb
  generalize domGo d 0 b = c at hmoved
  have hrc := hmoved.rising hrb
  have hkept : c.edge = b.edge ∧ c.doms = b.doms := by
    obtain ⟨m, hm⟩ := hmoved.frame
    rw [hm]
    exact ⟨rfl, rfl⟩
  have hraise : DomStep RaiseKey ShadeDom c (c.raise 0x3FA) := (DomStep.refl _ _ c).raise (by decide) fun _ => id
  have hsends : Sends 0x3FA (c.raise 0x3FA) := State.raise_sends (evClamped_of_none (by decide) _)
  generalize c.raise 0x3FA = u at hraise hsends
  have hedge : u.edge = a.edge := hraise.edge.trans (hkept.1.trans hheld.edge)
  have hdu := hraise.doms (hkept.2 ▸ hheld.doms : Rising 0 c.doms)
  have hstate (e : Nat) (he : e < 84) : u.domState e = c.domState e := hraise.rd hrc (dom_not_raise he (by decide))
  refine ⟨(hstate d hd).trans hmoved.state, hsends, (congrArg EdgeView.now hedge).trans hnow, ?_, (congrArg EdgeView.mem hedge).trans htime.mem,
    fun e he hne => ?_⟩
  · rw [hdu.2 d (by unfold ShadeDom; omega), domOf_of_doms hkept.2, hheld.own]
  · exact (hstate e he).trans ((hmoved.others hrb hd hne).trans ((hheld.rd _ _).trans (htime.rd _ _)))

/-! ### The switch -/

/-- What the open switch of a domain leaves. -/
structure DomOpened (d : Nat) (need up : Bool) (s u : State) : Prop where
  state : u.domState d = if need = true ∨ up = true then 1 else 0
  needed : need = true → u.pwr.first = s.pwr.first.filter (· != d) ++ [d]
  idle : need = false → u.pwr.first = s.pwr.first
  raised : u.raised = s.raised
  mem : u.mem = s.mem
  others : ∀ e < 84, e ≠ d → u.domState e = s.domState e

/-- A power-up that waited is taken. -/
def upTaken (d : Nat) (s : State) : State := s.setDom d { s.domOf d with up := false }

/-- A domain that is wanted again is queued. -/
def requeued (d : Nat) (need up : Bool) (s : State) : State := if need then domQueue d true s else if up then domQueue d false s else s

theorem domOff_eq {d : Nat} (hq : s.domState d = 4) :
    domOff d s = requeued d (domNeeded d s) (s.domOf d).up (domGo d 0 (upTaken d s)) := by
  unfold domOff
  rw [hq]
  rfl

theorem domOff_opened {d : Nat} (hd : d < 84) (hr : Rising 0 s.regs) (hdoms : Rising 0 s.doms) (hq : s.domState d = 4) :
    DomOpened d (domNeeded d s) (s.domOf d).up s (domOff d s) := by
  rw [domOff_eq hq]
  generalize domNeeded d s = need
  generalize (s.domOf d).up = up
  have hheld : DomHeld d { s.domOf d with up := false } s (upTaken d s) := setDom_held hdoms d _
  have hmemA : (upTaken d s).mem = s.mem := rfl
  generalize upTaken d s = a at hheld hmemA
  have hra := hheld.rising hr
  have hmoved := domGo_moved (d := d) (st := 0) (by decide) hra
  generalize domGo d 0 a = b at hmoved
  have hrb := hmoved.rising hra
  have hkept : b.pwr = a.pwr ∧ b.raised = a.raised ∧ b.mem = a.mem ∧ b.doms = a.doms := by
    obtain ⟨m, hm⟩ := hmoved.frame
    rw [hm]
    exact ⟨rfl, rfl, rfl, rfl⟩
  have hpwr : b.pwr = s.pwr := hkept.1.trans hheld.pwr
  have hraised : b.raised = s.raised := hkept.2.1.trans hheld.raised
  have hmem : b.mem = s.mem := hkept.2.2.1.trans hmemA
  have hothers (e : Nat) (hne : e ≠ d) : b.domState e = s.domState e := (hmoved.others hra hd hne).trans (hheld.rd _ _)
  have hqueue (cls1 : Bool) := domQueue_queued (d := d) (cls1 := cls1) hrb (hkept.2.2.2 ▸ hheld.doms : Rising 0 b.doms)
  have hqueued (cls1 : Bool) (e : Nat) (hne : e ≠ d) : (domQueue d cls1 b).domState e = s.domState e :=
    ((hqueue cls1).touches.rd hrb (domState_not_go hd hne)).trans (hothers e hne)
  unfold requeued
  cases need
  · cases up
    · exact ⟨hmoved.state, fun h => absurd h (by decide), fun _ => congrArg PwrSt.first hpwr, hraised, hmem, fun e _ => hothers e⟩
    · exact ⟨(hqueue false).state, fun h => absurd h (by decide), fun _ => (hqueue false).first.trans (congrArg PwrSt.first hpwr),
        (hqueue false).raised.trans hraised, (hqueue false).mem.trans hmem, fun e _ => hqueued false e⟩
  · refine ⟨(hqueue true).state, fun _ => ?_, fun h => absurd h (by decide), (hqueue true).raised.trans hraised, (hqueue true).mem.trans hmem,
      fun e _ => hqueued true e⟩
    rw [← hpwr]
    exact (hqueue true).first

end

end Sys2Proof.Machine
end

section

/-! O52: requests, answers, tokens and states of a power domain. -/

namespace Sys2Proof.Machine

/-! ### PWR.INJECT -/

theorem fget_bit_eq (w : Word) (k : Nat) : (fget w k k == 1) = w.getLsbD k := by
  rw [fget_bit]
  cases w.getLsbD k <;> rfl

/-- PWR.INJECT arms a domain. -/
def domArmed (d : Nat) (v : Word) (t : State) : State :=
  t.setDom d { t.domOf d with injRefuse := (t.domOf d).injRefuse || v.getLsbD 0, injFail := (t.domOf d).injFail || v.getLsbD 1,
                              injToken := (t.domOf d).injToken || v.getLsbD 2 }

theorem pwrInject_armed {v : Word} (hd : fget v 22 16 < 84) (t : State) : pwrInject v t = domArmed (fget v 22 16) v t := by
  unfold pwrInject
  dsimp only
  rw [if_neg (Nat.not_le.mpr hd), fget_bit_eq, fget_bit_eq, fget_bit_eq]
  rfl

theorem pwrInject_served {m : Master} {v : Word} {s : State} (h : Served m true 0x30070 v s) (hd : fget v 22 16 < 84) :
    writeCmd m 0x30070 v s.fresh = wrote m 0x30070 v (domArmed (fget v 22 16) v) s := by
  rw [served_wrote (b := .pwr) (off := 0x70) h rfl (by decide +kernel) rfl rfl (.inr (by decide +kernel))]
  exact wrote_congr (pwrInject_armed hd _)

/-! ### The obligation -/

theorem reqStored_word (i : Fin 3) (w : Word) (s : State) :
    (if i.val = 2 then (stored (0x30010 + 4 * i.val) w s.fresh).wr (reqB 64) R.PWR_DOM_REQ_REQ
        (setBit ((stored (0x30010 + 4 * i.val) w s.fresh).rd (reqB 64) R.PWR_DOM_REQ_REQ % 2 ^ 20) 18)
      else stored (0x30010 + 4 * i.val) w s.fresh) = reqNoted i.val (reqStored i.val w s) := by
  rw [stored_req]
  rfl

/-- Settles O52: a write of DOM_REQ asks one domain, which answers, waits, ramps and opens by its own state. -/
theorem domainPower : Obligations.DomainPower := by
  unfold Obligations.DomainPower
  refine ⟨fun m i b w s hinv hd h82 => ?_, fun m i b w s hinv hd h82 => ?_, fun m i b w s hinv hd h82 => ?_, fun d s hinv hon hdelay => ?_,
    fun d s hinv hhead hruns => ?_, fun s htok => ?_, fun d s hinv hramp => ?_, fun d s hinv => ?_, fun m w s v hd => ?_⟩
  · intro d a hoff hold hnew hothers P
    have hup (hserved : Served m true a w s) : P (writeCmd m a w s.fresh) := by
      obtain ⟨hstate, hsince, hreq, hfirst, hrest, hraised, hmem⟩ := domReq_up hinv hserved hd h82 hoff hold hnew hothers
      exact ⟨hstate, hsince, hreq, hfirst, hrest, hraised, hmem⟩
    exact ⟨fun hserved => ⟨_, exec_closed (f := writeCmd m (pwrB + R.PWR_DOM_REQ_REQ.off + 4 * i.val) w) rfl rfl, hup hserved⟩,
      fun hserved => ⟨_, exec_closed (f := writeCmd m (pwrB + R.PWR_DOM_REQ_REQ.off + 4 * i.val) w) rfl rfl, hup hserved⟩⟩
  · intro d a x hon hold hnew hothers v t use others hserved
    have ht : t = reqNoted i.val (reqStored i.val w s) := reqStored_word i w s
    obtain ⟨hnoted, hreqT, u, hwrite, hans⟩ := domReq_down_on hinv hserved hd h82 hon hold hnew hothers
    rw [← ht] at hnoted hreqT hans
    clear_value t
    have hr := hinv.regs_rising
    obtain ⟨hdoms, hpwr, hraised, -, hnow⟩ := hnoted.kept
    have hof : t.domOf d = x := domOf_of_doms hdoms d
    have hstate (e : Nat) : t.domState e = s.domState e := hnoted.state hr i.isLt e
    have huse : Uses d t ↔ use := by
      have hforce : t.on pwrB R.PWR_CTRL_FORCE = s.on pwrB R.PWR_CTRL_FORCE := State.on_congr (hnoted.rd hr i.isLt (.inl (by decide)))
      rw [Uses, hforce]
    have hcnt : t.rd pwrB R.PWR_CNT_REFUSALS = s.rd pwrB R.PWR_CNT_REFUSALS := hnoted.rd hr i.isLt (.inr (by decide))
    obtain ⟨hothersU, hrefused, hdelayed, hacked⟩ := hans
    rw [hof, huse] at hrefused hdelayed hacked
    rw [hcnt, hpwr] at hrefused
    rw [hnow, hraised] at hdelayed
    refine ⟨_, exec_closed (f := writeCmd m (pwrB + R.PWR_DOM_REQ_REQ.off + 4 * i.val) w) rfl hwrite,
      fun e he => (hothersU e.val e.isLt he).trans (hstate e.val), fun h => ?_, fun h1 h2 h3 => ?_, fun h1 h2 h3 => ?_⟩
    · obtain ⟨g1, g2, g3, g4, g5, g6, g7, g8⟩ := hrefused h
      exact ⟨g1.trans ((hstate d).trans hon), g2, g3, g4, g5, g6, g7, g8⟩
    · obtain ⟨g1, g2, g3, g4, g5⟩ := hdelayed h1 h2 h3
      exact ⟨g1.trans ((hstate d).trans hon), g2.trans hreqT, g3, g4, g5⟩
    · obtain ⟨g1, g2, g3, g4⟩ := hacked h1 h2 h3
      exact ⟨g1, g2.trans hreqT, g3, g4⟩
  · intro d a hwait hold hnew hothers hserved
    obtain ⟨hown, hstate, hreq, hraised⟩ := domReq_down_waiting hinv hserved hd h82 hwait hold hnew hothers
    exact ⟨_, exec_closed (f := writeCmd m (pwrB + R.PWR_DOM_REQ_REQ.off + 4 * i.val) w) rfl rfl, hown, hstate, hreq, hraised⟩
  · have hr := hinv.regs_rising
    have hdoms := hinv.doms_rising
    have heq := domDrained_eq (s := s.fresh) (d := d.val) hon hdelay
    refine ⟨fun hfly h2 => ⟨_, exec_closed (f := domDrained d.val) rfl heq, ?_⟩, fun hfly h2 => ⟨_, exec_closed (f := domDrained d.val) rfl heq, ?_⟩,
      fun hfly => exec_closed (f := domDrained d.val) rfl (heq.trans (if_pos hfly)), fun h2 => ⟨_, exec_closed (f := domDrainTimeout d.val) rfl rfl, ?_⟩,
      fun h2 => ⟨_, exec_closed (f := domDrainTimeout d.val) rfl rfl, drainTimeout_aborted (s := s.fresh) hr d.isLt hon hdelay h2⟩⟩
    · have hfly' : inFlight d.val false s.fresh = false := hfly
      have h2' : s.fresh.pwrState ≠ 2 := h2
      rw [if_neg (by rw [hfly']; exact Bool.false_ne_true), if_neg h2']
      have h := domQuiesce_quiesced (s := s.fresh) hr hdoms d.isLt
      exact ⟨h.state, h.answer, h.own⟩
    · have hfly' : inFlight d.val false s.fresh = false := hfly
      have h2' : s.fresh.pwrState = 2 := h2
      rw [if_neg (by rw [hfly']; exact Bool.false_ne_true), if_pos h2']
      exact drained_rest (s := s.fresh) hr hdoms hon
    · obtain ⟨h1, h2, h3, h4, h5, h6, h7, h8⟩ := drainTimeout_refused (s := s.fresh) hr hdoms d.isLt hon hdelay h2
      exact ⟨h1, h2, h3, h4, h5, h6, h7, h8⟩
  · refine ⟨fun hready hinj => ⟨_, exec_closed (f := domAdmit) rfl (domAdmit_ready (s := s.fresh) hhead hruns hready hinj), ?_⟩,
      fun hready => exec_closed (f := domAdmit) rfl (domAdmit_waits (s := s.fresh) hhead hready)⟩
    have h := domAdmitNow_admitted (s := s.fresh) d.isLt hinv.regs_rising hinv.doms_rising
    generalize domAdmitNow d.val s.fresh = u at h
    refine ⟨h.state, fun e he => h.others e.val e.isLt fun hv => he (Fin.ext hv), h.out, congrArg DomSt.admitAt h.own, congrArg DomSt.failing h.own,
      congrArg DomSt.injFail h.own, ?_, congrArg EdgeView.now h.edge, congrArg EdgeView.mem h.edge, h.wait⟩
    rw [h.first, List.mem_filter]
    exact fun hm => absurd hm.2 (by rw [bne_self_eq_false]; exact Bool.false_ne_true)
  · obtain ⟨h1, h2, h3, h4, h5⟩ := tokReturn_returned (s := s.fresh) htok
    exact ⟨_, exec_closed (f := tokReturn) rfl rfl, h1, h2, h3, h4, h5⟩
  · have hr := hinv.regs_rising
    have hdoms := hinv.doms_rising
    refine ⟨fun hfail hdown h2 => ⟨_, exec_closed (f := domDig d.val) rfl rfl, ?_⟩,
      fun hfail => exec_closed (f := domDig d.val) rfl (domDig_fails (s := s.fresh) hfail), ⟨_, exec_closed (f := domFail d.val) rfl rfl, ?_⟩⟩
    · obtain ⟨h1, h2, h3, h4, h5⟩ := domDig_up (s := s.fresh) d.isLt hr hdoms hramp hfail hdown h2
      exact ⟨h1, h2, h3, h4, fun e he => h5 e.val e.isLt fun hv => he (Fin.ext hv)⟩
    · obtain ⟨h1, h2, h3, h4, h5, h6⟩ := domFail_failed (s := s.fresh) d.isLt hr hdoms hramp
      exact ⟨h1, h2, h3, h4, h5, fun e he => h6 e.val e.isLt fun hv => he (Fin.ext hv)⟩
  · have hr := hinv.regs_rising
    refine ⟨fun hon hana => ⟨_, exec_closed (f := domAna d.val) rfl rfl, ?_⟩, fun hq => ⟨_, exec_closed (f := domOff d.val) rfl rfl, ?_⟩⟩
    · obtain ⟨hstep, hready, hstat⟩ := domAna_ready (s := s.fresh) d.isLt hr hon hana
      exact ⟨hready, congrArg EdgeView.mem hstep.edge, fun e => hstat _ rfl (by decide) e.val e.isLt⟩
    · obtain ⟨h1, h2, h3, h4, h5, h6⟩ := domOff_opened (s := s.fresh) d.isLt hr hinv.doms_rising hq
      exact ⟨h1, h2, h3, h4, h5, fun e he => h6 e.val e.isLt fun hv => he (Fin.ext hv)⟩
  · intro a d f
    refine ⟨fun hv hserved => ?_, fun hv hserved => ?_, fun hv hserved => ?_⟩
    · exact exec_closed (f := writeCmd m 0x30070 (fset w 0 0 1)) rfl (hv ▸ pwrInject_served hserved hd)
    · exact exec_closed (f := writeCmd m 0x30070 (fset w 1 1 1)) rfl (hv ▸ pwrInject_served hserved hd)
    · exact exec_closed (f := writeCmd m 0x30070 (fset w 2 2 1)) rfl (hv ▸ pwrInject_served hserved hd)

end Sys2Proof.Machine
end

section

/-! Fields that read other than their reset values, in a register map of any form (R413, R417). -/

namespace Sys2Proof.Machine

/-- An entry that reads stays where another key is put. -/
theorem look_put_beside {α : Type} [DecidableEq α] {d e v : α} {i k : Nat} (m : List (Nat × α)) (hk : look e m k ≠ e) (hi : i ≠ k) :
    look e (put d m i v) k = look e m k := by
  induction m with
  | nil => exact absurd rfl hk
  | cons x m ih =>
    obtain ⟨j, y⟩ := x
    by_cases hjk : k = j
    · subst hjk
      have hown (l : List (Nat × α)) : look e ((k, y) :: l) k = y := by rw [look, if_pos rfl]
      rw [put, if_neg hi]
      by_cases hlt : i < k
      · rw [if_pos hlt]
        by_cases hv : v = d
        · rw [if_pos hv]
        · rw [if_neg hv, look, if_neg (Ne.symm hi), if_neg (by omega)]
      · rw [if_neg hlt, hown, hown]
    · have hlt : ¬ k < j := by
        intro h
        exact hk (by rw [look, if_neg hjk, if_pos h])
      have hnext (l : List (Nat × α)) : look e ((j, y) :: l) k = look e l k := by rw [look, if_neg hjk, if_neg hlt]
      rw [hnext] at hk
      rw [put]
      by_cases h1 : i < j
      · rw [if_pos h1]
        by_cases hv : v = d
        · rw [if_pos hv]
        · rw [if_neg hv, look, if_neg (Ne.symm hi), if_neg (by omega)]
      · rw [if_neg h1]
        by_cases h2 : i = j
        · rw [if_pos h2]
          by_cases hv : v = d
          · rw [if_pos hv, hnext]
          · rw [if_neg hv, look, if_neg (Ne.symm hi), if_neg (by omega), hnext]
        · rw [if_neg h2, hnext, hnext]
          exact ih hk

/-- What is put and is not the default is read. -/
theorem look_put_own {α : Type} [DecidableEq α] {d v : α} {k : Nat} (m : List (Nat × α)) (hv : v ≠ d) : look d (put d m k v) k = v := by
  induction m with
  | nil => rw [put, if_neg hv, look, if_pos rfl]
  | cons x m ih =>
    obtain ⟨j, y⟩ := x
    have hfirst (l : List (Nat × α)) : look d ((k, v) :: l) k = v := by rw [look, if_pos rfl]
    rw [put, if_neg hv, if_neg hv]
    by_cases hlt : k < j
    · rw [if_pos hlt, hfirst]
    · rw [if_neg hlt]
      by_cases heq : k = j
      · rw [if_pos heq, hfirst]
      · rw [if_neg heq, look, if_neg heq, if_neg hlt, ih]

/-! ### Fields -/

/-- A field reads v, which is not its reset value. -/
def FldReads (x : Nat × Fld) (v : Nat) (t : State) : Prop := t.rd x.1 x.2 = v ∧ v ≠ fget (resetWord (x.1 + x.2.off)) x.2.hi x.2.lo

/-- A write of a field does not reach another. -/
def FldApart (y x : Nat × Fld) : Prop := y.1 + y.2.off ≠ x.1 + x.2.off ∨ y.2.hi < x.2.lo ∨ x.2.hi < y.2.lo

section
variable {x y : Nat × Fld} {v : Nat} {t : State}

theorem FldReads.ne_reset (h : FldReads x v t) : t.getReg (x.1 + x.2.off) ≠ resetWord (x.1 + x.2.off) := by
  obtain ⟨hrd, hne⟩ := h
  intro heq
  exact hne (by rw [← hrd, State.rd, heq])

theorem fldReads_kept (x : Nat × Fld) (v : Nat) : KeptBy (· ≠ x.1 + x.2.off) (FldReads x v) where
  setReg t k w hk h := by
    have hkeep : (t.setReg k w).getReg (x.1 + x.2.off) = t.getReg (x.1 + x.2.off) := look_put_beside t.regs h.ne_reset hk
    exact ⟨by rw [State.rd, hkeep]; exact h.1, h.2⟩
  regs t u hu h := by
    have hkeep : u.getReg (x.1 + x.2.off) = t.getReg (x.1 + x.2.off) := by rw [State.getReg, State.getReg, hu]
    exact ⟨by rw [State.rd, hkeep]; exact h.1, h.2⟩

theorem fldReads_of_word {w : Word} (hv : fget w x.2.hi x.2.lo = v) (hne : v ≠ fget (resetWord (x.1 + x.2.off)) x.2.hi x.2.lo) :
    FldReads x v (t.setReg (x.1 + x.2.off) w) := by
  have hw : w ≠ resetWord (x.1 + x.2.off) := by
    intro heq
    exact hne (by rw [← hv, heq])
  have hget : (t.setReg (x.1 + x.2.off) w).getReg (x.1 + x.2.off) = w := look_put_own t.regs hw
  exact ⟨by rw [State.rd, hget]; exact hv, hne⟩

/-- A written field reads what was written. -/
theorem fldReads_wr (t : State) (hhi : x.2.hi < 32) (hlt : v < 2 ^ (x.2.hi + 1 - x.2.lo))
    (hne : v ≠ fget (resetWord (x.1 + x.2.off)) x.2.hi x.2.lo) : FldReads x v (t.wr x.1 x.2 v) :=
  fldReads_of_word ((fget_fset_same _ _ _ hhi).trans (Nat.mod_eq_of_lt hlt)) hne

theorem FldReads.wr (h : FldReads x v t) (hap : FldApart y x) (z : Nat) : FldReads x v (t.wr y.1 y.2 z) := by
  by_cases hk : y.1 + y.2.off = x.1 + x.2.off
  · have hbits : y.2.hi < x.2.lo ∨ x.2.hi < y.2.lo := hap.resolve_left fun hne => hne hk
    rw [State.wr, hk]
    exact fldReads_of_word ((fget_fset_beside _ _ _ _ _ _ (by omega)).trans h.1) h.2
  · exact (fldReads_kept x v).wr z hk h

theorem FldReads.of_regs {u : State} (h : FldReads x v t) (hu : u.regs = t.regs) : FldReads x v u := (fldReads_kept x v).regs t u hu h

end

end Sys2Proof.Machine
end

section

/-! What the steps of the boot leave of the fields that it has shown, and of the flash (R413 to R417). -/

namespace Sys2Proof.Machine

/-- A key of the boot block or of a domain's word. -/
def BootKey (k : Nat) : Prop := (0x10000 ≤ k ∧ k < 0x20000) ∨ (5 * 2 ^ 44 ≤ k ∧ k < 6 * 2 ^ 44)

/-- Every field of a list is of the boot block or of a domain's word. -/
def BootFlds (l : List (Nat × Fld)) : Prop := ∀ x ∈ l, BootKey (x.1 + x.2.off)

/-- From s to t the fields of l that read other than their reset values stay, and every raise still waits. -/
structure BootStep (l : List (Nat × Fld)) (s t : State) : Prop where
  kept : ∀ x ∈ l, ∀ v, FldReads x v s → FldReads x v t
  sent : ∀ id, Sends id s → Sends id t

section
variable {l : List (Nat × Fld)} {s t u : State}

theorem BootStep.refl (l : List (Nat × Fld)) (s : State) : BootStep l s s := ⟨fun _ _ _ => id, fun _ => id⟩

theorem BootStep.trans (h : BootStep l s t) (h' : BootStep l t u) : BootStep l s u :=
  ⟨fun x hx v hv => h'.kept x hx v (h.kept x hx v hv), fun id hid => h'.sent id (h.sent id hid)⟩

theorem BootStep.of_regs (hregs : t.regs = s.regs) (hraised : t.raised = s.raised) : BootStep l s t :=
  ⟨fun _ _ _ h => h.of_regs hregs, fun _ h => h.of_raised hraised⟩

theorem BootStep.wr (h : BootStep l s t) {b : Nat} {f : Fld} (z : Nat) (hap : ∀ x ∈ l, FldApart (b, f) x) : BootStep l s (t.wr b f z) :=
  h.trans ⟨fun x hx _ hv => hv.wr (hap x hx) z, fun _ hs => hs.of_raised rfl⟩

theorem BootStep.far (h : BootStep l s t) (hl : BootFlds l) {b : Nat} {f : Fld} (z : Nat) (hk : ¬ BootKey (b + f.off)) :
    BootStep l s (t.wr b f z) :=
  h.wr z fun x hx => .inl fun heq => hk (heq ▸ hl x hx)

theorem bootKey_not_raise {id k : Nat} (hid : id < 1152) (hk : BootKey k) : ¬ RaiseAt id k := by
  unfold BootKey at hk
  unfold RaiseAt objKey
  rintro (h | h | h | h | h | ⟨i, -, off, ho, h⟩) <;> omega

theorem BootStep.raise (h : BootStep l s t) (hl : BootFlds l) {id : Nat} (hid : id < 1152) : BootStep l s (t.raise id) := by
  refine h.trans ⟨fun x hx v hv => ?_, fun _ hs => hs.raise id⟩
  exact (fldReads_kept x v).raise (fun k hk heq => bootKey_not_raise hid (hl x hx) (heq ▸ hk)) hv

theorem BootStep.ite {c : Prop} [Decidable c] (h : BootStep l s t) (h' : BootStep l s u) : BootStep l s (if c then t else u) := by
  split
  · exact h
  · exact h'

theorem BootStep.foldl {ι : Type} {f : State → ι → State} {is : List ι} (hf : ∀ i ∈ is, ∀ t, BootStep l t (f t i)) (s : State) :
    BootStep l s (is.foldl f s) := by
  induction is generalizing s with
  | nil => exact .refl l s
  | cons i is ih => exact (hf i List.mem_cons_self s).trans (ih (fun j hj => hf j (List.mem_cons_of_mem i hj)) (f s i))

theorem bootAt_step (v : Nat) (s : State) : BootStep l s (bootAt v s) :=
  have h : TimePassed s (bootAt v s) := TimePassed.of_advanceNow s _
  .of_regs h.regs h.raised

/-! ### The steps -/

theorem sessB_not_boot {k : Nat} (hk : k < 4) {f : Fld} (hf : f.off < 0x10000) : ¬ BootKey (sessB k + f.off) := by
  unfold BootKey sessB ncpB
  omega

theorem sessClose_boot (hl : BootFlds l) {k : Nat} (hk : k < 4) (reason : Nat) (s : State) : BootStep l s (sessClose k reason s) := by
  by_cases hopen : s.sessOpen k = true
  · have hann : BootStep l s (sessAnnounced k reason s) := by
      obtain ⟨p, hp⟩ := sessAnnounced_frame k reason s
      rw [hp]
      exact .of_regs rfl rfl
    have hunb (gen : Nat) (t : State) : BootStep l t (sessUnbatched k reason gen t) := by
      obtain ⟨b, hb⟩ := sessUnbatched_frame k reason gen t
      rw [hb]
      exact .of_regs rfl rfl
    have hend (t : State) : BootStep l t (sessEnded k reason t) :=
      ((((BootStep.refl l t).far hl 0 (sessB_not_boot hk (f := R.NCP_SESS_STAT_STATE) (by decide))).far hl reason
        (sessB_not_boot hk (f := R.NCP_SESS_STAT_REASON) (by decide))).far hl 0
        (sessB_not_boot hk (f := R.NCP_SESS_STAT_MODE) (by decide))).far hl 0 (sessB_not_boot hk (f := R.NCP_SESS_STAT_EVT_SUB) (by decide))
    have hset (t : State) (x : SessSt) : BootStep l t (t.setSess k x) := .of_regs rfl rfl
    rw [sessClose_eq reason hopen]
    exact (((hann.trans (hunb _ _)).trans (hend _)).trans (hset _ _)).raise hl (by decide)
  · have heq : sessClose k reason s = s := by
      unfold sessClose
      rw [Bool.eq_false_iff.mpr hopen]
      rfl
    rw [heq]
    exact .refl l s

theorem ncpOff_boot (hl : BootFlds l) (s : State) : BootStep l s (ncpOff s) := by
  have hclosed : BootStep l s (sessCloseAll 6 s) := BootStep.foldl (fun k hk t => sessClose_boot hl (List.mem_range.mp hk) 6 t) s
  have hkey (f : Fld) (hf : f.off < 0x10000) : ¬ BootKey (ncpB + f.off) := by
    unfold BootKey ncpB
    omega
  have hdown := hclosed.far hl (b := ncpB) (f := R.NCP_PORT_STATUS_STATE) 0 (hkey _ (by decide))
  unfold ncpOff portDown
  exact ((hdown.far hl _ (hkey R.NCP_PORT_STATUS_LINK_DOWNS (by decide))).raise hl (by decide)).ite hdown

theorem bootMbist_boot (hl : BootFlds l) (x : BootIn) (s : State) : BootStep l s (bootMbist x s) := by
  have hkey (f : Fld) (hf : f.off < 0x10000) : ¬ BootKey (bistB + f.off) := by
    unfold BootKey bistB
    omega
  have hset : BootStep l s { s with injMbist := false } := .of_regs rfl rfl
  have hshown := (hset.far hl x.rows.toNat (hkey R.BIST_MBIST_REPAIRED (by decide))).far hl
    (min 255 ((if s.injMbist then [0] else []) ++ x.badRams.map (fun (b : Byte) => b.toNat)).length) (hkey R.BIST_MBIST_FAILED (by decide))
  exact hshown.trans (BootStep.foldl (fun m _ t => ((BootStep.refl l t).far hl m (hkey R.BIST_MBIST_LAST (by decide))).raise hl (by decide)) _)

end

/-! ### The end -/

/-- The fields that the end of the boot leaves. -/
def endFlds : List (Nat × Fld) := [(bootB, R.BOOT_STATUS_FAIL_CAUSE), (bootB, R.BOOT_STATUS_FALLBACK), (bootB, R.BOOT_ERR_ERR_A),
  (bootB, R.BOOT_ERR_ERR_B), (bootB + 0, R.BOOT_STEP_T_US), (bootB + 4, R.BOOT_STEP_T_US), (domB 83, R.PWR_DOM_STAT_STATE)]

/-- The fields that FAIL leaves. -/
def failFlds : List (Nat × Fld) := [(bootB, R.BOOT_STATUS_FALLBACK), (bootB, R.BOOT_ERR_ERR_A), (bootB, R.BOOT_ERR_ERR_B),
  (bootB + 0, R.BOOT_STEP_T_US), (bootB + 4, R.BOOT_STEP_T_US)]

/-- The fields that an end shows. -/
def shownFlds : List (Nat × Fld) := [(bootB, R.BOOT_STATUS_STATE), (bootB, R.BOOT_TIME_US)]

theorem bootFlds_end : BootFlds endFlds := by
  unfold BootFlds BootKey
  decide

theorem bootFlds_fail : BootFlds failFlds := by
  unfold BootFlds BootKey
  decide

theorem bootFlds_shown : BootFlds shownFlds := by
  unfold BootFlds BootKey
  decide

/-- A field apart from those of a list, as a check of a closed field. -/
theorem fldApart_all {y : Nat × Fld} {l : List (Nat × Fld)}
    (h : l.all (fun x => y.1 + y.2.off != x.1 + x.2.off || decide (y.2.hi < x.2.lo) || decide (x.2.hi < y.2.lo)) = true) :
    ∀ x ∈ l, FldApart y x := by
  intro x hx
  have hx' := List.all_eq_true.mp h x hx
  simp only [Bool.or_eq_true, bne_iff_ne, decide_eq_true_eq, or_assoc] at hx'
  exact hx'

/-- What an end of the boot in state st at time v leaves. -/
structure BootEnded (v st : Nat) (s t : State) : Prop where
  step : BootStep endFlds s t
  state : FldReads (bootB, R.BOOT_STATUS_STATE) st t
  time : 0 < v / 100 → v / 100 < 2 ^ 32 → FldReads (bootB, R.BOOT_TIME_US) (v / 100) t
  locks : t.locksSet = true

/-- TIME is shown, and the locks are set. -/
def bootTimed (v : Nat) (s : State) : State := { s.wr bootB R.BOOT_TIME_US (v / 100) with locksSet := true }

theorem bootEnd_eq (v st : Nat) (s : State) : bootEnd v st s =
    if ((bootTimed v (bootGo st (bootAt v s))).rd hkB R.HK_SHUT_CLR_PENDING == 0) = true then bootTimed v (bootGo st (bootAt v s))
    else (bootTimed v (bootGo st (bootAt v s))).raise 0x406 := rfl

theorem bootFld_reset : (fget (resetWord (bootB + R.BOOT_STATUS_STATE.off)) R.BOOT_STATUS_STATE.hi R.BOOT_STATUS_STATE.lo = 0 ∧
    fget (resetWord (bootB + R.BOOT_TIME_US.off)) R.BOOT_TIME_US.hi R.BOOT_TIME_US.lo = 0) ∧
    fget (resetWord (bootB + R.BOOT_STATUS_FAIL_CAUSE.off)) R.BOOT_STATUS_FAIL_CAUSE.hi R.BOOT_STATUS_FAIL_CAUSE.lo = 0 ∧
    fget (resetWord (bootB + R.BOOT_STATUS_FALLBACK.off)) R.BOOT_STATUS_FALLBACK.hi R.BOOT_STATUS_FALLBACK.lo = 0 ∧
    fget (resetWord (bootB + R.BOOT_ERR_ERR_A.off)) R.BOOT_ERR_ERR_A.hi R.BOOT_ERR_ERR_A.lo = 0 ∧
    fget (resetWord (bootB + R.BOOT_ERR_ERR_B.off)) R.BOOT_ERR_ERR_B.hi R.BOOT_ERR_ERR_B.lo = 0 ∧
    fget (resetWord (bootB + 0 + R.BOOT_STEP_T_US.off)) R.BOOT_STEP_T_US.hi R.BOOT_STEP_T_US.lo = 0 ∧
    fget (resetWord (bootB + 4 + R.BOOT_STEP_T_US.off)) R.BOOT_STEP_T_US.hi R.BOOT_STEP_T_US.lo = 0 ∧
    fget (resetWord (domB 83 + R.PWR_DOM_STAT_STATE.off)) R.PWR_DOM_STAT_STATE.hi R.PWR_DOM_STAT_STATE.lo = 3 := by decide +kernel

theorem State.raise_locks (s : State) (id : Nat) : (s.raise id).locksSet = s.locksSet := by
  obtain ⟨_, _, _, _, h⟩ := RaiseFrame.raise s id
  rw [h]

theorem bootEnd_ended {st : Nat} (v : Nat) (s : State) (hst : 0 < st ∧ st < 8) : BootEnded v st s (bootEnd v st s) := by
  have hstep : BootStep endFlds s (bootTimed v (bootGo st (bootAt v s))) :=
    (((bootAt_step v s).wr (b := bootB) (f := R.BOOT_STATUS_STATE) st (fldApart_all (by decide))).wr (b := bootB) (f := R.BOOT_TIME_US) (v / 100)
      (fldApart_all (by decide))).trans (.of_regs rfl rfl)
  have hstate : FldReads (bootB, R.BOOT_STATUS_STATE) st (bootGo st (bootAt v s)) :=
    fldReads_wr _ (by decide) hst.2 (by rw [bootFld_reset.1.1]; omega)
  rw [bootEnd_eq]
  generalize bootGo st (bootAt v s) = a at hstep hstate
  have hstateB : FldReads (bootB, R.BOOT_STATUS_STATE) st (bootTimed v a) :=
    (hstate.wr (y := (bootB, R.BOOT_TIME_US)) (.inl (by decide)) (v / 100)).of_regs rfl
  have htime : 0 < v / 100 → v / 100 < 2 ^ 32 → FldReads (bootB, R.BOOT_TIME_US) (v / 100) (bootTimed v a) := fun h0 hlt =>
    (fldReads_wr (x := (bootB, R.BOOT_TIME_US)) a (by decide) hlt (by rw [bootFld_reset.1.2]; omega)).of_regs rfl
  have hlocks : (bootTimed v a).locksSet = true := rfl
  generalize bootTimed v a = b at hstep hstateB htime hlocks
  have hshown : BootStep shownFlds b (if (b.rd hkB R.HK_SHUT_CLR_PENDING == 0) = true then b else b.raise 0x406) :=
    (BootStep.refl _ b).ite ((BootStep.refl _ b).raise bootFlds_shown (by decide))
  have hlast : BootStep endFlds b (if (b.rd hkB R.HK_SHUT_CLR_PENDING == 0) = true then b else b.raise 0x406) :=
    (BootStep.refl _ b).ite ((BootStep.refl _ b).raise bootFlds_end (by decide))
  have hlocksU : (if (b.rd hkB R.HK_SHUT_CLR_PENDING == 0) = true then b else b.raise 0x406).locksSet = true := by
    split
    · exact hlocks
    · exact (State.raise_locks b 0x406).trans hlocks
  exact ⟨hstep.trans hlast, hshown.kept _ List.mem_cons_self _ hstateB,
    fun h0 hlt => hshown.kept _ (List.mem_cons_of_mem _ List.mem_cons_self) _ (htime h0 hlt), hlocksU⟩

end Sys2Proof.Machine
end

section

/-! The ends of the boot, DONE and FAIL, and the images that fail (R413, R416, R417). -/

namespace Sys2Proof.Machine

/-! ### FAIL -/

/-- What FAIL at time v with a cause leaves. -/
structure BootFailed (cause v : Nat) (s t : State) : Prop where
  step : BootStep failFlds s t
  state : t.bootState = 7
  cause : t.rd bootB R.BOOT_STATUS_FAIL_CAUSE = cause
  locks : t.locksSet = true
  me : t.domState 83 = 0
  sends : Sends 0x442 t
  time : 0 < v / 100 → v / 100 < 2 ^ 32 → t.rd bootB R.BOOT_TIME_US = v / 100

/-- ME goes to OFF. -/
theorem meOff_boot (s : State) : FldReads (domB 83, R.PWR_DOM_STAT_STATE) 0 (domGo 83 0 s) ∧ BootStep failFlds s (domGo 83 0 s) := by
  have heq : domGo 83 0 s = domOnSet 83 false (((s.wr (domB 83) R.PWR_DOM_STAT_STATE 0).wr (domB 83) R.PWR_DOM_STAT_DIG_RDY (b2n false)).wr
      (domB 83) R.PWR_DOM_STAT_ANA_RDY 0) := rfl
  have hstate : FldReads (domB 83, R.PWR_DOM_STAT_STATE) 0 (s.wr (domB 83) R.PWR_DOM_STAT_STATE 0) :=
    fldReads_wr (x := (domB 83, R.PWR_DOM_STAT_STATE)) s (by decide) (by decide) (by rw [bootFld_reset.2.2.2.2.2.2.2]; decide)
  have hstep := (((BootStep.refl failFlds s).wr (b := domB 83) (f := R.PWR_DOM_STAT_STATE) 0 (fldApart_all (by decide))).wr (b := domB 83)
    (f := R.PWR_DOM_STAT_DIG_RDY) (b2n false) (fldApart_all (by decide))).wr (b := domB 83) (f := R.PWR_DOM_STAT_ANA_RDY) 0 (fldApart_all (by decide))
  have hready : FldReads (domB 83, R.PWR_DOM_STAT_STATE) 0
      (((s.wr (domB 83) R.PWR_DOM_STAT_STATE 0).wr (domB 83) R.PWR_DOM_STAT_DIG_RDY (b2n false)).wr (domB 83) R.PWR_DOM_STAT_ANA_RDY 0) :=
    (hstate.wr (y := (domB 83, R.PWR_DOM_STAT_DIG_RDY)) (.inr (by decide)) (b2n false)).wr (y := (domB 83, R.PWR_DOM_STAT_ANA_RDY))
      (.inr (by decide)) 0
  rw [heq]
  generalize ((s.wr (domB 83) R.PWR_DOM_STAT_STATE 0).wr (domB 83) R.PWR_DOM_STAT_DIG_RDY (b2n false)).wr (domB 83) R.PWR_DOM_STAT_ANA_RDY 0 = a
    at hstep hready
  unfold domOnSet
  exact ⟨hready.wr (y := (reqB 83, R.PWR_DOM_ON_ON)) (.inl (by decide)) _,
    hstep.wr (b := reqB 83) (f := R.PWR_DOM_ON_ON) _ (fldApart_all (by decide))⟩

theorem bootFail_eq (cause v : Nat) (s : State) :
    bootFail cause v s = (bootEnd v 7 ((domGo 83 0 (ncpOff s)).wr bootB R.BOOT_STATUS_FAIL_CAUSE cause)).raise 0x442 := rfl

theorem failFlds_sub : ∀ x ∈ failFlds, x ∈ endFlds := by decide

theorem BootStep.mono {l m : List (Nat × Fld)} {s t : State} (h : BootStep l s t) (hml : ∀ x ∈ m, x ∈ l) : BootStep m s t :=
  ⟨fun x hx => h.kept x (hml x hx), h.sent⟩

theorem bootFail_failed {cause : Nat} (v : Nat) (s : State) (hcause : 0 < cause ∧ cause < 16) : BootFailed cause v s (bootFail cause v s) := by
  rw [bootFail_eq]
  have hncp := ncpOff_boot bootFlds_fail s
  generalize ncpOff s = a at hncp
  obtain ⟨hme, hgo⟩ := meOff_boot a
  generalize domGo 83 0 a = b at hme hgo
  have hwr : BootStep failFlds b (b.wr bootB R.BOOT_STATUS_FAIL_CAUSE cause) :=
    (BootStep.refl _ b).wr (b := bootB) (f := R.BOOT_STATUS_FAIL_CAUSE) cause (fldApart_all (by decide))
  have hmeC := hme.wr (y := (bootB, R.BOOT_STATUS_FAIL_CAUSE)) (.inl (by decide)) cause
  have hcauseC : FldReads (bootB, R.BOOT_STATUS_FAIL_CAUSE) cause (b.wr bootB R.BOOT_STATUS_FAIL_CAUSE cause) :=
    fldReads_wr (x := (bootB, R.BOOT_STATUS_FAIL_CAUSE)) b (by decide) hcause.2 (by rw [bootFld_reset.2.1]; omega)
  generalize b.wr bootB R.BOOT_STATUS_FAIL_CAUSE cause = c at hwr hmeC hcauseC
  have hended := bootEnd_ended (st := 7) v c (by decide)
  generalize bootEnd v 7 c = d at hended
  have hraise : BootStep endFlds d (d.raise 0x442) := (BootStep.refl _ d).raise bootFlds_end (by decide)
  have hshown : BootStep shownFlds d (d.raise 0x442) := (BootStep.refl _ d).raise bootFlds_shown (by decide)
  have hlast := hended.step.trans hraise
  refine ⟨((hncp.trans hgo).trans hwr).trans (hlast.mono failFlds_sub), (hshown.kept _ (by decide) _ hended.state).1,
    (hlast.kept _ (by decide) _ hcauseC).1, (State.raise_locks d 0x442).trans hended.locks, (hlast.kept _ (by decide) _ hmeC).1,
    State.raise_sends (evClamped_of_none (by decide) _), fun h0 hlt => (hshown.kept _ (by decide) _ (hended.time h0 hlt)).1⟩

/-! ### DONE -/

theorem bootDone_eq (x : BootIn) (t : BootTry) (s : State) : ∃ v a, bootDone x t s = kickStart ((bootEnd v 6 a).raise 0x440) := ⟨_, _, rfl⟩

theorem kickStart_kept (s : State) : (kickStart s).regs = s.regs ∧ (kickStart s).raised = s.raised ∧ (kickStart s).locksSet = s.locksSet := by
  unfold kickStart
  split
  · exact ⟨rfl, rfl, rfl⟩
  · exact ⟨rfl, rfl, rfl⟩

theorem bootDone_done (x : BootIn) (t : BootTry) (s : State) :
    (bootDone x t s).locksSet = true ∧ (bootDone x t s).bootState = 6 ∧ Sends 0x440 (bootDone x t s) := by
  obtain ⟨v, a, heq⟩ := bootDone_eq x t s
  rw [heq]
  have hended := bootEnd_ended (st := 6) v a (by decide)
  generalize bootEnd v 6 a = b at hended
  have hshown : BootStep shownFlds b (b.raise 0x440) := (BootStep.refl _ b).raise bootFlds_shown (by decide)
  have hstate := hshown.kept _ (by decide) _ hended.state
  have hsends : Sends 0x440 (b.raise 0x440) := State.raise_sends (evClamped_of_none (by decide) _)
  have hlocks := (State.raise_locks b 0x440).trans hended.locks
  generalize b.raise 0x440 = c at hstate hsends hlocks
  obtain ⟨hregs, hraised, hset⟩ := kickStart_kept c
  exact ⟨hset.trans hlocks, (hstate.of_regs hregs).1, hsends.of_raised hraised⟩

/-! ### Images -/

/-- The field of the code with which the image of a device failed. -/
def errFld (dev : Nat) : Fld := if dev == 0 then R.BOOT_ERR_ERR_A else R.BOOT_ERR_ERR_B

/-- An image that ends without sections. -/
theorem imageFail_bare (dev v : Nat) (s : State) : imageFail dev ⟨v, 1, 0, []⟩ s =
    ((((bootAt v s).wr bootB (errFld dev) 1).wr bootB R.BOOT_ERR_INDEX 0).wr bootB R.BOOT_STATUS_FALLBACK 1).raise 0x441 := rfl

/-- From s to t the flash and the armed injections stay. -/
def FlashKept (s t : State) : Prop := t.flash = s.flash ∧ t.bootInj = s.bootInj

section
variable {s t u : State}

theorem FlashKept.refl (s : State) : FlashKept s s := ⟨rfl, rfl⟩

theorem FlashKept.trans (h : FlashKept s t) (h' : FlashKept t u) : FlashKept s u := ⟨h'.1.trans h.1, h'.2.trans h.2⟩

theorem FlashKept.wr (h : FlashKept s t) (b : Nat) (f : Fld) (v : Nat) : FlashKept s (t.wr b f v) := h

theorem FlashKept.raise (h : FlashKept s t) (id : Nat) : FlashKept s (t.raise id) := by
  obtain ⟨_, _, _, _, heq⟩ := RaiseFrame.raise t id
  rw [heq]
  exact h

theorem FlashKept.ite {c : Prop} [Decidable c] (h : FlashKept s t) (h' : FlashKept s u) : FlashKept s (if c then t else u) := by
  split
  · exact h
  · exact h'

theorem FlashKept.foldl {ι : Type} {f : State → ι → State} {is : List ι} (hf : ∀ i ∈ is, ∀ t, FlashKept t (f t i)) (s : State) :
    FlashKept s (is.foldl f s) := by
  induction is generalizing s with
  | nil => exact .refl s
  | cons i is ih => exact (hf i List.mem_cons_self s).trans (ih (fun j hj => hf j (List.mem_cons_of_mem i hj)) (f s i))

theorem bootAt_flash (v : Nat) (s : State) : FlashKept s (bootAt v s) := by
  unfold bootAt State.advanceNow
  rw [State.advance_eq]
  exact ⟨rfl, rfl⟩

end

/-- What a failed image of a device leaves. -/
structure ImageFailed (dev : Nat) (s t : State) : Prop where
  flash : FlashKept s t
  err : FldReads (bootB, errFld dev) 1 t
  fallback : FldReads (bootB, R.BOOT_STATUS_FALLBACK) 1 t
  sends : Sends 0x441 t
  other : BootStep [(bootB, errFld (1 - dev))] s t

theorem errFld_cases {dev : Nat} (hdev : dev < 2) :
    (errFld dev = R.BOOT_ERR_ERR_A ∧ errFld (1 - dev) = R.BOOT_ERR_ERR_B) ∨ (errFld dev = R.BOOT_ERR_ERR_B ∧ errFld (1 - dev) = R.BOOT_ERR_ERR_A) := by
  unfold errFld
  rcases (by omega : dev = 0 ∨ dev = 1) with rfl | rfl
  · exact .inl ⟨rfl, rfl⟩
  · exact .inr ⟨rfl, rfl⟩

theorem imageFail_failed {dev : Nat} (v : Nat) (s : State) (hdev : dev < 2) : ImageFailed dev s (imageFail dev ⟨v, 1, 0, []⟩ s) := by
  rw [imageFail_bare]
  have hat : BootStep [(bootB, errFld (1 - dev))] s (bootAt v s) := bootAt_step v s
  have hflash := bootAt_flash v s
  generalize bootAt v s = a at hat hflash
  have hreset : fget (resetWord (bootB + (errFld dev).off)) (errFld dev).hi (errFld dev).lo = 0 ∧ (errFld dev).hi < 32 ∧
      1 < 2 ^ ((errFld dev).hi + 1 - (errFld dev).lo) ∧ FldApart (bootB, R.BOOT_ERR_INDEX) (bootB, errFld dev) ∧
      FldApart (bootB, R.BOOT_STATUS_FALLBACK) (bootB, errFld dev) := by
    rcases errFld_cases hdev with ⟨h, -⟩ | ⟨h, -⟩ <;> rw [h]
    · exact ⟨bootFld_reset.2.2.2.1, by decide, by decide, .inr (by decide), .inl (by decide)⟩
    · exact ⟨bootFld_reset.2.2.2.2.1, by decide, by decide, .inr (by decide), .inl (by decide)⟩
  have hother : FldApart (bootB, errFld dev) (bootB, errFld (1 - dev)) ∧ FldApart (bootB, R.BOOT_ERR_INDEX) (bootB, errFld (1 - dev)) ∧
      FldApart (bootB, R.BOOT_STATUS_FALLBACK) (bootB, errFld (1 - dev)) ∧ BootFlds [(bootB, errFld (1 - dev))] ∧ BootFlds [(bootB, errFld dev)] := by
    unfold BootFlds BootKey
    rcases errFld_cases hdev with ⟨h, h'⟩ | ⟨h, h'⟩ <;> rw [h, h']
    · exact ⟨.inr (by decide), .inr (by decide), .inl (by decide), by decide, by decide⟩
    · exact ⟨.inr (by decide), .inr (by decide), .inl (by decide), by decide, by decide⟩
  obtain ⟨hzero, hhi, hwide, hindex, hback⟩ := hreset
  obtain ⟨hap, hapIndex, hapBack, hlowOther, hlow⟩ := hother
  generalize hf : errFld dev = f at hzero hhi hwide hindex hback hap hlow
  generalize hg : errFld (1 - dev) = g at hat hap hapIndex hapBack hlowOther
  have herr : FldReads (bootB, f) 1 (a.wr bootB f 1) := fldReads_wr (x := (bootB, f)) a hhi hwide (by rw [hzero]; decide)
  have hstep : BootStep [(bootB, g)] s (((a.wr bootB f 1).wr bootB R.BOOT_ERR_INDEX 0).wr bootB R.BOOT_STATUS_FALLBACK 1) :=
    ((hat.wr (b := bootB) (f := f) 1 fun x hx => List.mem_singleton.mp hx ▸ hap).wr (b := bootB) (f := R.BOOT_ERR_INDEX) 0
      fun x hx => List.mem_singleton.mp hx ▸ hapIndex).wr (b := bootB) (f := R.BOOT_STATUS_FALLBACK) 1
      fun x hx => List.mem_singleton.mp hx ▸ hapBack
  have herr' : FldReads (bootB, f) 1 (((a.wr bootB f 1).wr bootB R.BOOT_ERR_INDEX 0).wr bootB R.BOOT_STATUS_FALLBACK 1) :=
    (herr.wr hindex 0).wr hback 1
  have hfall : FldReads (bootB, R.BOOT_STATUS_FALLBACK) 1 (((a.wr bootB f 1).wr bootB R.BOOT_ERR_INDEX 0).wr bootB R.BOOT_STATUS_FALLBACK 1) :=
    fldReads_wr (x := (bootB, R.BOOT_STATUS_FALLBACK)) _ (by decide) (by decide) (by rw [bootFld_reset.2.2.1]; decide)
  have hflash' : FlashKept s (((a.wr bootB f 1).wr bootB R.BOOT_ERR_INDEX 0).wr bootB R.BOOT_STATUS_FALLBACK 1) := hflash
  generalize ((a.wr bootB f 1).wr bootB R.BOOT_ERR_INDEX 0).wr bootB R.BOOT_STATUS_FALLBACK 1 = b at hstep herr' hfall hflash'
  have hraise (l : List (Nat × Fld)) (hl : BootFlds l) : BootStep l b (b.raise 0x441) := (BootStep.refl l b).raise hl (by decide)
  refine ⟨hflash'.raise _, hf ▸ (hraise [(bootB, f)] hlow).kept _ List.mem_cons_self _ herr',
    (hraise [(bootB, R.BOOT_STATUS_FALLBACK)] fun x hx => bootFlds_fail x (List.mem_singleton.mp hx ▸ by decide)).kept _ List.mem_cons_self _ hfall,
    State.raise_sends (evClamped_of_none (by decide) _), hg ▸ hstep.trans (hraise _ hlowOther)⟩

/-- The header's magic. -/
def magic : List Byte := [0x45, 0x5A, 0x4C, 0x49]

theorem flashRead_take (s : State) (dev : Nat) : (s.flashRead dev 0 256).take 4 = s.flashRead dev 0 4 := rfl

theorem flashRead_congr {s t : State} (h : t.flash = s.flash) (dev a n : Nat) : t.flashRead dev a n = s.flashRead dev a n := by
  unfold State.flashRead State.flashByte
  rw [h]

theorem headerCode_magic {h : List Byte} {s : State} (hbad : h.take 4 ≠ magic) : headerCode h s = 1 := by
  unfold headerCode
  exact if_pos (bne_iff_ne.mpr hbad)

/-- The image of a device is tried. -/
def imageAt (dev : Nat) (s : State) : State := bootGo 1 (s.wr bootB R.BOOT_STATUS_IMAGE dev)

/-- The time at which the header of an image has been read, or its device has stayed busy. -/
def headerTime (x : BootIn) (dev v : Nat) : Nat := if (if dev == 0 then x.busyA else x.busyB) then v + 200000000 else v + 8400

/-- An image without its magic fails with code 1. -/
theorem imageTry_bad {x : BootIn} {dev v : Nat} {s : State} (hinj : s.bootInj.testBit 0 = false) (hbad : s.flashRead dev 0 4 ≠ magic) :
    imageTry x dev v s = (imageAt dev s, ⟨headerTime x dev v, 1, 0, []⟩) := by
  have hcode : headerCode ((imageAt dev s).flashRead dev 0 256) (imageAt dev s) = 1 := headerCode_magic hbad
  have hinj' : (imageAt dev s).bootInj.testBit 0 = false := hinj
  unfold imageTry
  dsimp only
  unfold imageAt at hcode hinj'
  rw [hcode, hinj', Bool.and_false]
  unfold headerTime imageAt
  generalize (if (dev == 0) = true then x.busyA else x.busyB) = busy
  cases busy <;> rfl

end Sys2Proof.Machine
end

section

/-! O48: the boot sequence. -/

namespace Sys2Proof.Machine

/-! ### What the boot leaves of the flash before its images -/

section
variable {s t u : State}

theorem biasAll_flash (s : State) : FlashKept s (biasAll s) := by
  obtain ⟨_, _, _, _, _, h⟩ := (biasAll_island s).frame
  rw [h]
  exact ⟨rfl, rfl⟩

theorem safeCopy_flash (n : Nat) (s : State) : FlashKept s (safeCopy n s) := by
  unfold safeCopy
  exact ((((FlashKept.refl s).wr _ _ _).wr _ _ _).wr _ _ _).wr _ _ _

theorem safeApply_flash (s : State) : FlashKept s (safeApply s) := by
  have hcopy : FlashKept s (lanes.foldl (fun t n => safeCopy n t) s) := FlashKept.foldl (fun n _ t => safeCopy_flash n t) s
  unfold safeApply
  dsimp only
  generalize lanes.foldl (fun t n => safeCopy n t) s = a at hcopy
  exact (((hcopy.wr _ _ _).wr _ _ _).ite hcopy).trans (biasAll_flash _)

theorem otpErr_flash (s : State) : FlashKept s (otpErr s) := ((FlashKept.refl s).wr _ _ _).raise _

theorem otpRead_flash (s : State) : FlashKept s (otpRead s) := by
  have hreported : FlashKept s (otpReported s) := by
    unfold otpReported
    exact (otpErr_flash s).ite (.refl s)
  have htaken : FlashKept (otpReported s) (otpTaken s) := by
    unfold otpTaken
    exact ⟨rfl, rfl⟩
  rw [otpRead_eq]
  exact (hreported.trans htaken).trans (safeApply_flash _)

/-- The lanes that no element serves are noted. -/
def lanesLost (v : Nat) (lost : List Nat) (s : State) : State :=
  { s with unserved := lost.foldl (fun m i => setBit m (if v < 4 then 16 * v + i else 64 + 16 * (v - 4) + i)) s.unserved }

theorem mapRepair_eq (v : Nat) (s : State) : ∃ (good : Nat → Nat) (lost : List Nat), mapRepair v s =
    lanesLost v lost ((List.range 16).foldl (fun s i => mapSet v i (good i) s) s) := ⟨_, _, rfl⟩

theorem mapSet_flash (v i p : Nat) (s : State) : FlashKept s (mapSet v i p s) := by
  unfold mapSet
  exact ⟨rfl, rfl⟩

theorem lanesLost_flash (v : Nat) (lost : List Nat) (s : State) : FlashKept s (lanesLost v lost s) := by
  unfold lanesLost
  exact ⟨rfl, rfl⟩

theorem mapRepair_flash (v : Nat) (s : State) : FlashKept s (mapRepair v s) := by
  obtain ⟨good, lost, heq⟩ := mapRepair_eq v s
  have hsets : FlashKept s ((List.range 16).foldl (fun s i => mapSet v i (good i) s) s) :=
    FlashKept.foldl (fun i _ t => mapSet_flash v i (good i) t) s
  rw [heq]
  exact hsets.trans (lanesLost_flash _ _ _)

theorem elemFailBoot_flash (id : Nat) (s : State) : FlashKept s (elemFailBoot id s) := by
  have hfail (v p : Nat) : FlashKept s (elemFail v p s) := (((FlashKept.refl s).wr _ _ _).wr _ _ _).raise _
  unfold elemFailBoot
  exact (FlashKept.refl s).ite ((hfail _ _).trans (mapRepair_flash _ _))

theorem spareTake_flash {m j : Nat} (h : spareTake m s = some (t, j)) : FlashKept s t := by
  unfold spareTake at h
  dsimp only at h
  split at h
  · exact absurd h (by simp)
  · obtain ⟨rfl, -⟩ := Prod.mk.inj (Option.some.inj h)
    split
    · exact FlashKept.raise ⟨rfl, rfl⟩ _
    · exact ⟨rfl, rfl⟩

theorem frameRetire_flash (m f : Nat) (s : State) : FlashKept s (frameRetire m f s) := by
  unfold frameRetire
  split
  · next t j htake =>
    refine FlashKept.raise ?_ _
    have ht := spareTake_flash htake
    split
    · exact ht
    · exact ht
  · refine FlashKept.raise ?_ _
    split
    · exact ⟨rfl, rfl⟩
    · exact .refl s

theorem repairApply_flash (e : Word × Word) (s : State) : FlashKept s (repairApply e s) := by
  unfold repairApply
  dsimp only
  split
  · exact elemFailBoot_flash _ s
  · exact (FlashKept.refl s).ite (frameRetire_flash _ _ s)
  · exact .refl s

theorem fusesApply_flash (s : State) : FlashKept s (fusesApply s) := by
  unfold fusesApply
  generalize s.fuses = l
  exact FlashKept.foldl (fun e _ t => repairApply_flash e t) s

theorem bootMbist_flash (x : BootIn) (s : State) : FlashKept s (bootMbist x s) := by
  have hset : FlashKept s { s with injMbist := false } := ⟨rfl, rfl⟩
  have hone (m : Nat) (t : State) : FlashKept t ((t.wr bistB R.BIST_MBIST_LAST m).raise 0x41B) := ((FlashKept.refl t).wr _ _ _).raise _
  exact ((hset.wr _ _ _).wr _ _ _).trans (FlashKept.foldl (fun m _ t => hone m t) _)

theorem bootDelays_flash (s : State) : FlashKept s (bootDelays s) := by
  have hone (n : Nat) (t : State) : FlashKept t (dlyPowerUp n t) := by
    have hdrawn : FlashKept t t.drawn := ⟨rfl, rfl⟩
    unfold dlyPowerUp laneDly
    exact hdrawn.wr _ _ _
  exact FlashKept.foldl (fun n _ t => (hone n t).ite (.refl t)) s

/-- The dies and stacks that have trained. -/
def trainedNoted (ld ms : Nat) (s : State) : State := { s with bootInj := s.bootInj &&& 13, dieBad := 15 - ld, stackBad := 63 - ms }

/-- The dies and stacks that have trained are shown. -/
def trainedShown (ld ms : Nat) (s : State) : State :=
  ((trainedNoted ld ms s).wr glbB R.GLB_CONFIG_LD_OK ld).wr glbB R.GLB_CONFIG_MS_OK ms

theorem bootTraining_eq (x : BootIn) (s : State) : ∃ ld ms, bootTraining x s =
    if (ld == 15 && ms == 63) = true then trainedShown ld ms s else ((trainedShown ld ms s).wr bootB R.BOOT_STATUS_TRAIN_ERR 1).raise 0x443 :=
  ⟨_, _, rfl⟩

theorem bootTraining_flash (x : BootIn) (s : State) : (bootTraining x s).flash = s.flash ∧ (bootTraining x s).bootInj = s.bootInj &&& 13 := by
  obtain ⟨ld, ms, heq⟩ := bootTraining_eq x s
  have hshown : (trainedShown ld ms s).flash = s.flash ∧ (trainedShown ld ms s).bootInj = s.bootInj &&& 13 := ⟨rfl, rfl⟩
  rw [heq]
  generalize trainedShown ld ms s = a at hshown
  obtain ⟨hflash, hinj⟩ := ((FlashKept.refl a).ite (c := (ld == 15 && ms == 63) = true)
    (((FlashKept.refl a).wr bootB R.BOOT_STATUS_TRAIN_ERR 1).raise 0x443))
  exact ⟨hflash.trans hshown.1, hinj.trans hshown.2⟩

end

/-! ### The sequence -/

/-- OTP and fuses at step 1. -/
def bootFused (s : State) : State :=
  let o := { s with hk := { s.hk with offWait := false } }
  fusesApply (if o.on safeB R.SAFE_STATUS_OTP_READY = true then o else otpRead o)

/-- Steps 0 and 1 have ended. -/
def bootStarted (s : State) : State := stepT 1 15000 (stepT 0 5000 (bootFused s))

/-- Memories are tested, and the memory PLL is on. -/
def bootTested (x : BootIn) (s : State) : State := (bootMbist x (bootGo 1 (bootStarted s))).wr clkB R.CLK_STATUS_MEM_LOCK (b2n x.memPll)

/-- Clocks run, and dies and stacks have trained. -/
def bootTrained (x : BootIn) (s : State) : State := bootDelays (bootTraining x ((bootTested x s).wr clkB R.CLK_STATUS_CORE_LOCK 1))

theorem bootSequence_eq {x : BootIn} {s : State} (hmay : bootMay s = true) : bootSequence x s =
    if x.sysXi = false then bootFail 1 15000 (bootStarted s) else if x.corePll = false then bootFail 2 1015000 (bootTested x s)
      else bootImages x (bootTrained x s) := by
  unfold bootSequence bootTrained bootTested bootStarted bootFused
  rw [hmay, Bool.not_true, if_neg Bool.false_ne_true]
  dsimp only
  by_cases hxi : x.sysXi = false
  · rw [if_pos hxi, if_pos (by rw [hxi]; rfl)]
  · rw [if_neg hxi, if_neg (by rw [Bool.not_eq_true']; exact hxi)]
    by_cases hpll : x.corePll = false
    · rw [if_pos hpll, if_pos (by rw [hpll]; rfl)]
    · rw [if_neg hpll, if_neg (by rw [Bool.not_eq_true']; exact hpll)]

theorem stepT_eq (i v : Nat) (s : State) : stepT i v s = s.wr (bootB + 4 * i) R.BOOT_STEP_T_US (v / 100) := rfl

theorem bootStarted_steps (s : State) : FldReads (bootB + 0, R.BOOT_STEP_T_US) 50 (bootStarted s) ∧
    FldReads (bootB + 4, R.BOOT_STEP_T_US) 150 (bootStarted s) := by
  unfold bootStarted
  generalize bootFused s = a
  rw [stepT_eq, stepT_eq, Nat.mul_zero, Nat.mul_one, show 5000 / 100 = 50 by decide, show 15000 / 100 = 150 by decide]
  have hfirst : FldReads (bootB + 0, R.BOOT_STEP_T_US) 50 (a.wr (bootB + 0) R.BOOT_STEP_T_US 50) :=
    fldReads_wr (x := (bootB + 0, R.BOOT_STEP_T_US)) a (by decide) (by decide) (by rw [bootFld_reset.2.2.2.2.2.1]; decide)
  generalize a.wr (bootB + 0) R.BOOT_STEP_T_US 50 = b at hfirst
  have hsecond : FldReads (bootB + 4, R.BOOT_STEP_T_US) 150 (b.wr (bootB + 4) R.BOOT_STEP_T_US 150) :=
    fldReads_wr (x := (bootB + 4, R.BOOT_STEP_T_US)) b (by decide) (by decide) (by rw [bootFld_reset.2.2.2.2.2.2.1]; decide)
  exact ⟨hfirst.wr (y := (bootB + 4, R.BOOT_STEP_T_US)) (.inl (by decide)) 150, hsecond⟩

theorem bootTested_step (x : BootIn) (s : State) : BootStep failFlds (bootStarted s) (bootTested x s) := by
  unfold bootTested
  generalize bootStarted s = a
  have hgo : BootStep failFlds a (bootGo 1 a) :=
    (BootStep.refl _ a).wr (b := bootB) (f := R.BOOT_STATUS_STATE) 1 (fldApart_all (by decide))
  exact (hgo.trans (bootMbist_boot bootFlds_fail x _)).wr (b := clkB) (f := R.CLK_STATUS_MEM_LOCK) _ (fldApart_all (by decide))

/-- What FAIL at step 1 or for want of the core PLL leaves. -/
theorem bootFail_early {cause v : Nat} {s t : State} (hcause : 0 < cause ∧ cause < 16) (hv : 0 < v / 100 ∧ v / 100 < 2 ^ 32)
    (hstep : BootStep failFlds (bootStarted s) t) :
    let u := bootFail cause v t
    u.bootState = 7 ∧ u.rd bootB R.BOOT_STATUS_FAIL_CAUSE = cause ∧ u.locksSet = true ∧ u.domState 83 = 0 ∧ Sends 0x442 u ∧
    u.rd (bootB + 0) R.BOOT_STEP_T_US = 50 ∧ u.rd (bootB + 4) R.BOOT_STEP_T_US = 150 ∧ u.rd bootB R.BOOT_TIME_US = v / 100 := by
  have hfailed := bootFail_failed v t hcause
  obtain ⟨h0, h1⟩ := bootStarted_steps s
  have hall := hstep.trans hfailed.step
  exact ⟨hfailed.state, hfailed.cause, hfailed.locks, hfailed.me, hfailed.sends, (hall.kept _ (by decide) _ h0).1, (hall.kept _ (by decide) _ h1).1,
    hfailed.time hv.1 hv.2⟩

theorem bootImages_ended (x : BootIn) (v : State) :
    let first := v.rd bootB R.BOOT_CTRL_B_FIRST
    let a := imageTry x first 15000 v
    let b := imageTry x (1 - first) (a.2.u + 50000) (imageFail first a.2 a.1)
    (bootImages x v).locksSet = true ∧ (if a.2.code = 0 ∨ b.2.code = 0 then (bootImages x v).bootState = 6 ∧ Sends 0x440 (bootImages x v)
      else (bootImages x v).bootState = 7 ∧ Sends 0x442 (bootImages x v) ∧ (bootImages x v).rd bootB R.BOOT_STATUS_FAIL_CAUSE = 3 ∧
        (bootImages x v).domState 83 = 0) := by
  intro first a b
  have heq : bootImages x v = if (a.2.code == 0) = true then bootDone x a.2 a.1
    else if (b.2.code == 0) = true then bootDone x b.2 b.1 else bootFail 3 b.2.u (imageFail (1 - first) b.2 b.1) := rfl
  rw [heq]
  clear_value b
  clear_value a
  by_cases ha : a.2.code = 0
  · obtain ⟨hlocks, hstate, hsends⟩ := bootDone_done x a.2 a.1
    rw [if_pos (beq_iff_eq.mpr ha), if_pos (.inl ha)]
    exact ⟨hlocks, hstate, hsends⟩
  · rw [if_neg (mt beq_iff_eq.mp ha)]
    by_cases hb : b.2.code = 0
    · obtain ⟨hlocks, hstate, hsends⟩ := bootDone_done x b.2 b.1
      rw [if_pos (beq_iff_eq.mpr hb), if_pos (.inr hb)]
      exact ⟨hlocks, hstate, hsends⟩
    · have hfailed := bootFail_failed (cause := 3) b.2.u (imageFail (1 - first) b.2 b.1) (by decide)
      rw [if_neg (mt beq_iff_eq.mp hb), if_neg (not_or.mpr ⟨ha, hb⟩)]
      exact ⟨hfailed.locks, hfailed.state, hfailed.sends, hfailed.cause, hfailed.me⟩

/-! ### Erased flash -/

theorem imageAt_kept (dev : Nat) (s : State) : FlashKept s (imageAt dev s) ∧ ∀ e, BootStep [(bootB, errFld e)] s (imageAt dev s) := by
  have hap (e : Nat) (f : Fld) (hf : f.off = 0) : FldApart (bootB, f) (bootB, errFld e) := .inl (by
    dsimp only
    unfold errFld
    rw [hf]
    split <;> decide)
  refine ⟨⟨rfl, rfl⟩, fun e => ?_⟩
  exact ((BootStep.refl _ s).wr (b := bootB) (f := R.BOOT_STATUS_IMAGE) dev fun x hx => List.mem_singleton.mp hx ▸ hap e _ rfl).wr (b := bootB)
    (f := R.BOOT_STATUS_STATE) 1 fun x hx => List.mem_singleton.mp hx ▸ hap e _ rfl

theorem headerTime_twice {x : BootIn} {first : Nat} (hbusy : x.busyA = x.busyB) :
    headerTime x (1 - first) (headerTime x first 15000 + 50000) = if x.busyA = true then 400065000 else 81800 := by
  have hone (dev v : Nat) : headerTime x dev v = if x.busyA = true then v + 200000000 else v + 8400 := by
    unfold headerTime
    rw [← hbusy, ite_self]
  rw [hone, hone]
  cases x.busyA <;> rfl

/-- What the boot leaves where no image has its magic. -/
structure BootErased (x : BootIn) (u : State) : Prop where
  state : u.bootState = 7
  cause : u.rd bootB R.BOOT_STATUS_FAIL_CAUSE = 3
  errA : u.rd bootB R.BOOT_ERR_ERR_A = 1
  errB : u.rd bootB R.BOOT_ERR_ERR_B = 1
  fallback : u.on bootB R.BOOT_STATUS_FALLBACK = true
  image : Sends 0x441 u
  sends : Sends 0x442 u
  time : u.rd bootB R.BOOT_TIME_US = if x.busyA = true then 4000650 else 818

theorem bootImages_erased {x : BootIn} {v : State} (hinj : v.bootInj.testBit 0 = false) (hbusy : x.busyA = x.busyB)
    (hA : v.flashRead 0 0 4 ≠ magic) (hB : v.flashRead 1 0 4 ≠ magic) : BootErased x (bootImages x v) := by
  generalize hfirst : v.rd bootB R.BOOT_CTRL_B_FIRST = first
  have hlt : first < 2 := hfirst ▸ v.rd_lt bootB R.BOOT_CTRL_B_FIRST
  have hbad (dev : Nat) (hdev : dev < 2) : v.flashRead dev 0 4 ≠ magic := by
    rcases (by omega : dev = 0 ∨ dev = 1) with rfl | rfl
    · exact hA
    · exact hB
  have ha := imageTry_bad (x := x) (v := 15000) hinj (hbad first hlt)
  have htime := headerTime_twice (first := first) hbusy
  obtain ⟨hkeptA, -⟩ := imageAt_kept first v
  unfold bootImages
  dsimp only
  rw [hfirst, ha]
  dsimp only
  rw [if_neg (by decide)]
  have hfailA := imageFail_failed (headerTime x first 15000) (imageAt first v) hlt
  generalize imageFail first ⟨headerTime x first 15000, 1, 0, []⟩ (imageAt first v) = c at hfailA
  have hkeptC := hkeptA.trans hfailA.flash
  have hb := imageTry_bad (x := x) (dev := 1 - first) (v := headerTime x first 15000 + 50000) (s := c) (by rw [hkeptC.2]; exact hinj)
    (by rw [flashRead_congr hkeptC.1]; exact hbad _ (by omega))
  rw [hb]
  dsimp only
  rw [if_neg (by decide)]
  obtain ⟨-, hstepC⟩ := imageAt_kept (1 - first) c
  generalize imageAt (1 - first) c = d at hstepC
  have hfailB := imageFail_failed (headerTime x (1 - first) (headerTime x first 15000 + 50000)) d (by omega : 1 - first < 2)
  rw [htime] at hfailB ⊢
  generalize hw : (if x.busyA = true then 400065000 else 81800) = w at hfailB ⊢
  generalize imageFail (1 - first) ⟨w, 1, 0, []⟩ d = e at hfailB
  have hback : 1 - (1 - first) = first := by omega
  have herrFirst : FldReads (bootB, errFld first) 1 e := by
    have hotherB := hfailB.other
    rw [hback] at hotherB
    exact hotherB.kept _ List.mem_cons_self _ ((hstepC first).kept _ List.mem_cons_self _ hfailA.err)
  have herrs : FldReads (bootB, R.BOOT_ERR_ERR_A) 1 e ∧ FldReads (bootB, R.BOOT_ERR_ERR_B) 1 e := by
    have herrSecond := hfailB.err
    rcases errFld_cases hlt with ⟨h, h'⟩ | ⟨h, h'⟩ <;> rw [h] at herrFirst <;> rw [h'] at herrSecond
    · exact ⟨herrFirst, herrSecond⟩
    · exact ⟨herrSecond, herrFirst⟩
  have hfailed := bootFail_failed (cause := 3) w e (by decide)
  generalize bootFail 3 w e = u at hfailed
  have hkept (y : Nat × Fld) (hy : y ∈ failFlds) (h : FldReads y 1 e) : u.rd y.1 y.2 = 1 := (hfailed.step.kept y hy 1 h).1
  have hbounds : 0 < w / 100 ∧ w / 100 < 2 ^ 32 ∧ w / 100 = if x.busyA = true then 4000650 else 818 := by
    rw [← hw]
    cases x.busyA <;> decide
  refine ⟨hfailed.state, hfailed.cause, hkept _ (by decide) herrs.1, hkept _ (by decide) herrs.2, ?_, hfailed.step.sent _ hfailB.sends, hfailed.sends,
    (hfailed.time hbounds.1 hbounds.2.1).trans hbounds.2.2⟩
  rw [State.on, hkept (bootB, R.BOOT_STATUS_FALLBACK) (by decide) hfailB.fallback]
  rfl

theorem bootTrained_flash (x : BootIn) (s : State) : (bootTrained x s).flash = s.flash ∧ (bootTrained x s).bootInj = s.bootInj &&& 13 := by
  have hfused : FlashKept s (bootFused s) := by
    have hset : FlashKept s { s with hk := { s.hk with offWait := false } } := ⟨rfl, rfl⟩
    unfold bootFused
    dsimp only
    generalize ({ s with hk := { s.hk with offWait := false } } : State) = o at hset
    exact (hset.trans ((FlashKept.refl o).ite (otpRead_flash o))).trans (fusesApply_flash _)
  have hstarted : FlashKept s (bootStarted s) := (hfused.wr _ _ _).wr _ _ _
  have htested : FlashKept s (bootTested x s) := ((hstarted.wr _ _ _).trans (bootMbist_flash x _)).wr _ _ _
  unfold bootTrained
  generalize bootTested x s = a at htested
  obtain ⟨hflash, hinj⟩ := bootTraining_flash x (a.wr clkB R.CLK_STATUS_CORE_LOCK 1)
  have hlock : FlashKept a (a.wr clkB R.CLK_STATUS_CORE_LOCK 1) := ⟨rfl, rfl⟩
  generalize bootTraining x (a.wr clkB R.CLK_STATUS_CORE_LOCK 1) = b at hflash hinj
  obtain ⟨hflashD, hinjD⟩ := bootDelays_flash b
  exact ⟨hflashD.trans (hflash.trans (hlock.1.trans htested.1)), hinjD.trans (hinj.trans (by rw [hlock.2, htested.2]))⟩

theorem bootSequence_erased {x : BootIn} {s : State} (hmay : bootMay s = true) (hxi : x.sysXi = true) (hpll : x.corePll = true)
    (hinj : s.bootInj.testBit 0 = false) (hbusy : x.busyA = x.busyB) (hA : s.flashRead 0 0 4 ≠ magic) (hB : s.flashRead 1 0 4 ≠ magic) :
    BootErased x (bootSequence x s) := by
  obtain ⟨hflash, hinjT⟩ := bootTrained_flash x s
  rw [bootSequence_eq hmay, if_neg (by rw [hxi]; decide), if_neg (by rw [hpll]; decide)]
  generalize bootTrained x s = v at hflash hinjT
  refine bootImages_erased ?_ hbusy (by rw [flashRead_congr hflash]; exact hA) (by rw [flashRead_congr hflash]; exact hB)
  rw [hinjT, Nat.testBit_and, hinj, Bool.false_and]

/-- Settles O48: the boot ends in FAIL for want of a clock, in DONE with an image that passes, else in FAIL. -/
theorem boot : Obligations.Boot := by
  unfold Obligations.Boot
  refine ⟨fun x s hmay => ?_, fun x s hinv hmay => ?_, fun x s hinv hmay hxi hpll => ?_, fun x s hinv hmay hxi hpll hinj hbusy hA hB => ?_⟩
  · exact exec_closed (f := bootSequence x) rfl (bootSequence_eq (s := s.fresh) hmay)
  · intro cause hlost
    by_cases hxi : x.sysXi = false
    · have heq : bootSequence x s.fresh = bootFail 1 15000 (bootStarted s.fresh) := (bootSequence_eq (s := s.fresh) hmay).trans (if_pos hxi)
      have hcause : cause = 1 := if_pos hxi
      have hearly := bootFail_early (cause := 1) (v := 15000) (s := s.fresh) (by decide) (by decide) (.refl _ _)
      refine ⟨_, exec_closed (f := bootSequence x) rfl heq, ?_⟩
      rw [hcause]
      exact hearly
    · have hpll : x.corePll = false := hlost.resolve_left hxi
      have heq : bootSequence x s.fresh = bootFail 2 1015000 (bootTested x s.fresh) :=
        (bootSequence_eq (s := s.fresh) hmay).trans ((if_neg hxi).trans (if_pos hpll))
      have hcause : cause = 2 := if_neg hxi
      have hearly := bootFail_early (cause := 2) (v := 1015000) (s := s.fresh) (by decide) (by decide) (bootTested_step x s.fresh)
      refine ⟨_, exec_closed (f := bootSequence x) rfl heq, ?_⟩
      rw [hcause]
      exact hearly
  · have heq : bootSequence x s.fresh = bootImages x (bootTrained x s.fresh) :=
      (bootSequence_eq (s := s.fresh) hmay).trans ((if_neg (by rw [hxi]; decide)).trans (if_neg (by rw [hpll]; decide)))
    exact ⟨_, exec_closed (f := bootSequence x) rfl heq, bootImages_ended x (bootTrained x s.fresh)⟩
  · obtain ⟨h1, h2, h3, h4, h5, h6, h7, h8⟩ := bootSequence_erased (s := s.fresh) hmay hxi hpll hinj hbusy hA hB
    exact ⟨_, exec_closed (f := bootSequence x) rfl rfl, h1, h2, h3, h4, h5, h6, h7, h8⟩

end Sys2Proof.Machine
end
